-- ==== Sys2Proof/Word.lean ====
section
/-! DEFINITION. Words, byte strings and sparse tables: the plainest arithmetic of the TRN8128 model. -/
namespace Sys2Proof

/-- One byte, as memories and payloads hold it. -/
abbrev Byte := BitVec 8

/-- A little-endian byte string (R6 gives the order of multi-byte fields). -/
abbrev Bytes := List Byte

/-- A sparse table: keys strictly rising, and no entry equal to what an unlisted key reads as. -/
abbrev Tab (α : Type) := List (Nat × α)

namespace Tab

/-- Entry `k` of a table, `d` where it is not listed. -/
def get {α : Type} (d : α) : Tab α → Nat → α
  | [], _ => d
  | (k, v) :: t, i => if k = i then v else get d t i

/-- A table without entry `i`. -/
def erase {α : Type} : Tab α → Nat → Tab α
  | [], _ => []
  | (k, v) :: t, i => if k = i then erase t i else (k, v) :: erase t i

/-- Put `(i, v)` before the first greater key. -/
def insert {α : Type} (i : Nat) (v : α) : Tab α → Tab α
  | [] => [(i, v)]
  | (k, w) :: t => if i < k then (i, v) :: (k, w) :: t else (k, w) :: insert i v t

/-- Entry `i` becomes `v`; an entry equal to the default is not listed. -/
def set {α : Type} [DecidableEq α] (d : α) (t : Tab α) (i : Nat) (v : α) : Tab α :=
  if v = d then erase t i else insert i v (erase t i)

/-- Entry `i` goes through `f`. -/
def upd {α : Type} [DecidableEq α] (d : α) (t : Tab α) (i : Nat) (f : α → α) : Tab α :=
  set d t i (f (get d t i))

/-- Every listed entry goes through `f`; an entry that becomes the default is not listed. -/
def mapVals {α : Type} [DecidableEq α] (d : α) (f : Nat → α → α) (t : Tab α) : Tab α :=
  t.foldr (fun e r => set d r e.1 (f e.1 e.2)) []

/-- The keys rise strictly from above `lo`, and no entry is the default. -/
def wfFrom {α : Type} [DecidableEq α] (d : α) : Option Nat → Tab α → Bool
  | _, [] => true
  | lo, (k, v) :: t =>
    (match lo with
      | none => true
      | some l => decide (l < k)) && decide (v ≠ d) && wfFrom d (some k) t

/-- The canonical form of a table. -/
def wf {α : Type} [DecidableEq α] (d : α) (t : Tab α) : Bool := wfFrom d none t

end Tab

/-- `v` narrowed to `w` bits, wrapping. -/
def wrap (w v : Nat) : Nat := v % 2 ^ w

/-- `v` narrowed to `w` unsigned bits, saturating. -/
def satU (w v : Nat) : Nat := min v (2 ^ w - 1)

/-- An integer narrowed to `w` unsigned bits, saturating at both ends. -/
def satUI (w : Nat) (v : Int) : Nat := satU w v.toNat

/-- An integer clamped to the closed range from `lo` to `hi`. -/
def clampI (lo hi v : Int) : Int := if v < lo then lo else if hi < v then hi else v

/-- An integer narrowed to `w` signed bits, saturating. -/
def satS (w : Nat) (v : Int) : Int := clampI (-(2 ^ (w - 1))) (2 ^ (w - 1) - 1) v

/-- An integer narrowed to `w` bits of two's complement, wrapping. -/
def wrapS (w : Nat) (v : Int) : Int :=
  let m := v % (2 ^ w : Int)
  if m < 2 ^ (w - 1) then m else m - 2 ^ w

/-- The two's-complement pattern of an integer in `w` bits. -/
def toU (w : Nat) (v : Int) : Nat := (v % (2 ^ w : Int)).toNat

/-- The integer a `w`-bit two's-complement pattern stands for. -/
def ofU (w v : Nat) : Int := wrapS w v

/-- Bit `i` of a word. -/
def bit (v i : Nat) : Bool := v.testBit i

/-- Bit `i` of a word made `b`. -/
def setBit (v i : Nat) (b : Bool) : Nat :=
  if v.testBit i = b then v else if b then v + 2 ^ i else v - 2 ^ i

/-- Bits `hi` down to `lo` of a word. -/
def bits (v hi lo : Nat) : Nat := v / 2 ^ lo % 2 ^ (hi + 1 - lo)

/-- Bits `hi` down to `lo` of a word replaced by `x`. -/
def setBits (v hi lo x : Nat) : Nat :=
  v - bits v hi lo * 2 ^ lo + x % 2 ^ (hi + 1 - lo) * 2 ^ lo

/-- A Boolean as one bit. -/
def b2n (b : Bool) : Nat := if b then 1 else 0

/-- One byte from a number. -/
def byte (v : Nat) : Byte := BitVec.ofNat 8 v

/-- The `n` low bytes of `v`, least significant first (R6). -/
def leBytes : Nat → Nat → Bytes
  | 0, _ => []
  | n + 1, v => byte v :: leBytes n (v / 256)

/-- The unsigned value of a little-endian byte string (R6). -/
def leVal : Bytes → Nat
  | [] => 0
  | b :: t => b.toNat + 256 * leVal t

/-- The `n` low bytes of `v`, most significant first. -/
def beBytes (n v : Nat) : Bytes := (leBytes n v).reverse

/-- The unsigned value of a byte string, most significant byte first. -/
def beVal (l : Bytes) : Nat := leVal l.reverse

/-- `n` zero bytes. -/
def zeros (n : Nat) : Bytes := List.replicate n 0

/-- `n` bytes from offset `o`, zero beyond the end. -/
def slice (l : Bytes) (o n : Nat) : Bytes :=
  let r := (l.drop o).take n
  r ++ zeros (n - r.length)

/-- The unsigned field of `n` bytes at offset `o`. -/
def fld (l : Bytes) (o n : Nat) : Nat := leVal (slice l o n)

/-- Are the `n` bytes at offset `o` all zero? -/
def allZero (l : Bytes) (o n : Nat) : Bool := (slice l o n).all (· = 0)

/-- `l` padded with zero bytes to `n`. -/
def padTo (n : Nat) (l : Bytes) : Bytes := l ++ zeros (n - l.length)

/-- Later-or-equal among wrapping 32-bit numbers (R10): the difference modulo 2^32 is below 2^31. -/
def geq32 (a b : Nat) : Bool := decide ((a + 2 ^ 32 - b % 2 ^ 32) % 2 ^ 32 < 2 ^ 31)

/-- Strictly later among wrapping 32-bit numbers (R10). -/
def later32 (a b : Nat) : Bool := geq32 a b && decide (a % 2 ^ 32 ≠ b % 2 ^ 32)

/-- Numbers `lo`, `lo + 1`, … , `n` of them. -/
def countFrom : Nat → Nat → List Nat
  | 0, _ => []
  | n + 1, lo => lo :: countFrom n (lo + 1)

/-- Numbers below `n`, rising. -/
def upto (n : Nat) : List Nat := countFrom n 0

/-- Sum of a list of naturals. -/
def sumN : List Nat → Nat
  | [] => 0
  | x :: t => x + sumN t

/-- Sum of a list of integers. -/
def sumI : List Int → Int
  | [] => 0
  | x :: t => x + sumI t

/-- The largest of a list of naturals, 0 where it is empty. -/
def maxN : List Nat → Nat
  | [] => 0
  | x :: t => max x (maxN t)

/-- Ceiling division. -/
def cdiv (a b : Nat) : Nat := (a + b - 1) / b

/-- Rounding division of an integer, halves upward. -/
def rdiv (a : Int) (b : Nat) : Int := (2 * a + b) / (2 * b : Int)

/-- Arithmetic shift right. -/
def sar (v : Int) (n : Nat) : Int := v / (2 ^ n : Int)

/-- The list element `i` replaced. -/
def setAt {α : Type} : List α → Nat → α → List α
  | [], _, _ => []
  | _ :: t, 0, v => v :: t
  | x :: t, n + 1, v => x :: setAt t n v

/-- The first element that satisfies `p`. -/
def firstN (p : Nat → Bool) : List Nat → Option Nat
  | [] => none
  | x :: t => if p x then some x else firstN p t

/-- Insert into a list kept in ascending order of `key`. -/
def insertBy {α : Type} (key : α → Nat) (x : α) : List α → List α
  | [] => [x]
  | y :: t => if key x < key y then x :: y :: t else y :: insertBy key x t

/-- Insertion sort by `key`, ascending, equal keys in their given order. -/
def sortBy {α : Type} (key : α → Nat) (l : List α) : List α :=
  l.foldl (fun acc x => insertBy key x acc) []

end Sys2Proof
end

