-- ==== Sys2Proof/Machine/Float64.lean ====
section
/-! DEFINITION. IEEE 754 binary64 arithmetic by exact integers with rounding to nearest, ties to even, for the gauge
filter of R361 and the probe of R382. The sign of zero is not kept: no result the rules name depends on it. -/
namespace Sys2Proof.Machine

/-- A binary64 value: `sig × 2^(ex − 1074)` when `kind` is 0; 1 is +∞, 2 is −∞, 3 is not-a-number. -/
structure F64 where
  kind : Nat := 0
  sig : Int := 0
  ex : Nat := 0
  deriving DecidableEq, Repr, Inhabited

/-- Round an exact quotient to a significand and exponent: magnitude `a / d` to the grid of exponent `x`. -/
def f64Grid (a d x : Nat) : Nat :=
  let num := if x ≤ 1074 then a * 2 ^ (1074 - x) else a
  let den := if x ≤ 1074 then d else d * 2 ^ (x - 1074)
  let q := num / den
  let r := num % den
  if 2 * r < den then q else if den < 2 * r then q + 1 else if q % 2 = 0 then q else q + 1

/-- The exponent field at which `a / d` has a 53-bit significand. -/
def f64Exp (a d : Nat) : Nat :=
  let x := (Nat.log2 a + 1021) - Nat.log2 d
  let num := if x ≤ 1074 then a * 2 ^ (1074 - x) else a
  let den := if x ≤ 1074 then d else d * 2 ^ (x - 1074)
  if 2 ^ 53 * den ≤ num then x + 1 else x

/-- The binary64 value nearest to `n / d` (d above 0), ties to even. (PRESUMED, log 11) -/
def f64Round (n : Int) (d : Nat) : F64 :=
  let a := n.natAbs
  if a = 0 then {}
  else
    let x := f64Exp a d
    let m := f64Grid a d x
    let x' := if m = 2 ^ 53 then x + 1 else x
    let m' := if m = 2 ^ 53 then 2 ^ 52 else m
    if 2045 < x' then { kind := if n < 0 then 2 else 1 }
    else { sig := if n < 0 then -(m' : Int) else m', ex := x' }

/-- Decimal constant `n / d`. -/
def f64 (n : Int) (d : Nat := 1) : F64 := f64Round n d

/-- Not-a-number. -/
def f64NaN : F64 := { kind := 3 }

/-- Infinity with the sign of `neg`. -/
def f64Inf (neg : Bool) : F64 := { kind := if neg then 2 else 1 }

/-- Is the value below zero? -/
def F64.neg (a : F64) : Bool := a.kind = 2 || (a.kind = 0 && decide (a.sig < 0))

/-- Is the value zero? -/
def F64.isZero (a : F64) : Bool := a.kind = 0 && decide (a.sig = 0)

/-- Opposite. -/
def F64.opp (a : F64) : F64 :=
  match a.kind with
  | 0 => { a with sig := -a.sig }
  | 1 => { a with kind := 2 }
  | 2 => { a with kind := 1 }
  | _ => a

/-- Sum. (PRESUMED, log 11) -/
def F64.add (a b : F64) : F64 :=
  if a.kind = 3 ∨ b.kind = 3 then f64NaN
  else if a.kind ≠ 0 then (if b.kind = 0 ∨ b.kind = a.kind then a else f64NaN)
  else if b.kind ≠ 0 then b
  else
    let x := min a.ex b.ex
    f64Round ((a.sig * 2 ^ (a.ex - x) + b.sig * 2 ^ (b.ex - x)) * 2 ^ x) (2 ^ 1074)

/-- Difference. -/
def F64.sub (a b : F64) : F64 := a.add b.opp

/-- Product. (PRESUMED, log 11) -/
def F64.mul (a b : F64) : F64 :=
  if a.kind = 3 ∨ b.kind = 3 then f64NaN
  else if a.kind ≠ 0 ∨ b.kind ≠ 0 then
    (if a.isZero ∨ b.isZero then f64NaN else f64Inf (a.neg != b.neg))
  else f64Round (a.sig * b.sig * 2 ^ (a.ex + b.ex)) (2 ^ 2148)

/-- Quotient. (PRESUMED, log 11) -/
def F64.div (a b : F64) : F64 :=
  if a.kind = 3 ∨ b.kind = 3 then f64NaN
  else if a.kind ≠ 0 then (if b.kind ≠ 0 then f64NaN else f64Inf (a.neg != b.neg))
  else if b.kind ≠ 0 then {}
  else if b.isZero then (if a.isZero then f64NaN else f64Inf a.neg)
  else
    let n := a.sig * 2 ^ a.ex
    let d := b.sig.natAbs * 2 ^ b.ex
    f64Round (if b.sig < 0 then -n else n) d

/-- Magnitude. -/
def F64.abs (a : F64) : F64 := if a.neg then a.opp else a

/-- Exact order; false where either is not a number. -/
def F64.lt (a b : F64) : Bool :=
  if a.kind = 3 ∨ b.kind = 3 then false
  else if a.kind = 2 then b.kind ≠ 2
  else if b.kind = 1 then a.kind ≠ 1
  else if a.kind = 1 ∨ b.kind = 2 then false
  else decide (a.sig * 2 ^ a.ex < b.sig * 2 ^ b.ex)

/-- At or below. -/
def F64.le (a b : F64) : Bool := if a.kind = 3 ∨ b.kind = 3 then false else !b.lt a

/-- `clamp` of the rules. -/
def F64.clamp (lo hi a : F64) : F64 := if a.lt lo then lo else if hi.lt a then hi else a

/-- Integer square root by halvings of the bit range. -/
def natSqrtBits (x : Nat) : Nat → Nat → Nat
  | 0, r => r
  | n + 1, r =>
    let c := r + 2 ^ n
    natSqrtBits x n (if c * c ≤ x then c else r)

/-- Square root, correctly rounded. (PRESUMED, log 11) -/
def F64.sqrt (a : F64) : F64 :=
  if a.kind = 3 ∨ a.neg then f64NaN
  else if a.kind = 1 then a
  else
    let s := a.sig.toNat * 2 ^ (a.ex % 2) * 2 ^ 120
    let r := natSqrtBits s 90 0
    -- r² ≤ s: one extra bit marks an inexact root, so that rounding is right
    let t := 2 * r + (if r * r = s then 0 else 1)
    f64Round (t * 2 ^ (a.ex / 2)) (2 ^ (1 + 60 + 537))

/-- round(x) of R617, halves upward, 0 where the value is no number. -/
def F64.round (a : F64) : Int :=
  if a.kind ≠ 0 then 0 else (2 * a.sig * 2 ^ a.ex + 2 ^ 1074) / (2 ^ 1075 : Int)

/-- round(a × k). -/
def F64.roundMul (a : F64) (k : Nat) : Int :=
  if a.kind ≠ 0 then 0 else (2 * a.sig * k * 2 ^ a.ex + 2 ^ 1074) / (2 ^ 1075 : Int)

/-- A complex number in binary64, for the transforms of R225, R228 and R383, to which the manual gives no arithmetic.
(DESIGN CHOICE, log 69) -/
structure C64 where
  re : F64 := {}
  im : F64 := {}
  deriving DecidableEq, Repr, Inhabited

/-- Sum. -/
def C64.add (a b : C64) : C64 := { re := a.re.add b.re, im := a.im.add b.im }

/-- Product. -/
def C64.mul (a b : C64) : C64 :=
  { re := (a.re.mul b.re).sub (a.im.mul b.im), im := (a.re.mul b.im).add (a.im.mul b.re) }

/-- A real number times a complex one. -/
def C64.scale (r : F64) (a : C64) : C64 := { re := r.mul a.re, im := r.mul a.im }

/-- Quotient. -/
def C64.div (a b : C64) : C64 :=
  let n := (b.re.mul b.re).add (b.im.mul b.im)
  let m := a.mul { re := b.re, im := b.im.opp }
  { re := m.re.div n, im := m.im.div n }

/-- Difference. -/
def C64.sub (a b : C64) : C64 := { re := a.re.sub b.re, im := a.im.sub b.im }

/-- Magnitude. -/
def C64.abs (a : C64) : F64 := ((a.re.mul a.re).add (a.im.mul a.im)).sqrt

end Sys2Proof.Machine
end

