-- ==== Sys2Proof/Syntax.lean ====
section
/-! DEFINITION. The commands of the TRN8128 block: one constructor per row of the opcode table, with its operands, and
the records some operands are. A time, a sample or a pin level that comes from outside is an operand. -/
namespace Sys2Proof

/-- An Announce message as received: what the best-master choice compares (R558). -/
structure AnnounceMsg where
  port : Nat
  priority1 : Nat
  quality : Nat
  priority2 : Nat
  identity : Nat
  steps : Nat
  timescale : Bool
  deriving DecidableEq, Repr

/-- What a patrol read met in one instance (R491): nothing, one bad bit at a column, or an uncorrectable word. -/
inductive ScrubOutcome where
  | clean
  | corrected (column : Nat)
  | uncorrectable
  deriving DecidableEq, Repr

/-- A patrol read of an instance. -/
structure ScrubResult where
  inst : Nat
  outcome : ScrubOutcome
  deriving DecidableEq, Repr

/-- A decoded slot frame (R326): its bytes, and the lowest per-carrier SNR of its sub-band in 0.1 dB (R322). -/
structure SlotReport where
  frame : Bytes
  snr : Int
  deriving DecidableEq, Repr

open Sys2Proof.Machine in
/-- An item of the supervisory state of R413 (Table 15-14). The layout of its sections is not given: a SUPER chunk carries
the items it holds. -/
inductive SuperItem where
  /-- header: epoch, generation, DESC_SEQUENCE, mode -/
  | header (epoch generation desc mode : Nat)
  /-- capping limit of an output's phases, mA -/
  | cap (out : Nat) (ma : Option Nat)
  /-- clamp releases of a cluster at the boundary, by polder -/
  | releases (cl map : Nat)
  /-- ceiling share of a polder on a cluster, mW -/
  | share (cl q mw : Nat)
  /-- shelf limit and its source -/
  | limit (mw : Option Nat) (source : Nat)
  /-- shed causes of a polder, whether its shed is in effect, its load before, tides of enough freeboard (R293) -/
  | polder (q causes : Nat) (taken : Bool) (before : Int) (okTides : Nat)
  /-- deficit tides, the shed they wait for, tides since the last clearances, whether runtime causes are being cleared -/
  | deficits (tides : Nat) (await : Option (Nat × Nat)) (sinceClear sinceRuntimeClear : Nat) (clearing : Bool)
  /-- Ride-through: time in tides, last prediction, its epoch, tides since the entry at which the next is due -/
  | ride (active : Bool) (tides prediction epoch next : Nat)
  /-- SHED levels -/
  | pins (map : Nat)
  /-- WANTED, restart tries, tides since the stop, tides in STATE 3, a held start -/
  | sequence (out : Nat) (wanted : Bool) (tries sinceStop goodTides : Nat) (held : Bool)
  /-- ADJ, the staging timers and the rotation in progress (R310, R318) -/
  | plan (adj : Int) (parkTides sincePark rotationTides stagingTides swapWait : Nat) (rotation : Bool) (swapIn : Option Nat)
  | rect (k rank : Nat) (withdrawn parked : Bool) (trimL : Int) (onlineS : Nat) (eff samples : List Nat)
  /-- a node of the Tideline table with its key, whether it is a sleeper, and its counters -/
  | node (k state cls slot share map moduleId ks : Nat) (sleeper : Bool) (txErr missRun : Nat)
  | groupKey (kg : Nat)
  /-- STATE and filter state of a string: s, v_A, v_B and P by rows -/
  | string (k state : Nat) (words : List F64) (qRem : Int) (full rserEst jumps : Nat) (lastJump : Int) (jumpEpoch : Nat)
  /-- a field whose value in force differs from the stored description -/
  | field (key : Nat) (value : Int)
  /-- last applied proposal of an output -/
  | applied (out how epoch : Nat)
  | proposal (out quality g mGm : Nat) (gtp gtn : List Nat)
  /-- probe result of a string: state, reason, points (N, re, im, quality, amplitude) -/
  | probe (k state reason : Nat) (points : List (Nat × Int × Int × Nat × Nat))
  deriving DecidableEq, Repr

/-- One command of the block; the rows of the opcode table. Orders carry the mailbox `mb` whose request they run. (DESIGN CHOICE, log 1) -/
inductive Instr where
  /-- WRITE (R109). Host-port WRITE command writes data from a 24-bit address upward. -/
  | write (addr : Nat) (data : Bytes)
  /-- READ (R109). Host-port READ command returns data from an address upward, clearing any RC field whose whole word it covers. -/
  | read (addr : Nat) (len : Nat)
  /-- QUIET_READ (R12). Host-port QUIET READ returns the same bytes as READ with no side effect. -/
  | quietRead (addr : Nat) (len : Nat)
  /-- STATUS (R109). Host-port STATUS command returns the live port status byte. -/
  | status
  /-- UNKNOWN_COMMAND (R109). A host-port command byte not in Table 5-1 makes the port ignore the transaction and set UNKNOWN_COMMAND. -/
  | unknownCommand (code : Nat)
  /-- MB_DOORBELL (R119). A write of 1 to bit n of MB_DOORBELL rings mailbox n, which is accepted or refused. -/
  | mbDoorbell (n : Nat)
  /-- MB_DONE (R119). A write of 1 to bit n of MB_DONE frees mailbox n after its response has been read. -/
  | mbDone (n : Nat)
  /-- IRQ_STATUS_CLEAR (R116). A write-one-to-clear of IRQ_STATUS bits clears the named interrupt sources. -/
  | irqStatusClear (mask : Nat)
  /-- RESET_CAUSE_CLEAR (R78). A write of the CAUSE field clears it, and 0xF clears CAUSE and COUNT. -/
  | resetCauseClear (value : Nat)
  /-- CURSOR_LO (R465). A write of the logbook window CURSOR_LO starts a load of 64 records with their statuses. -/
  | cursorLo (value : Nat)
  /-- CURSOR_HI (R464). A write of CURSOR_HI is held and applied with the next write of CURSOR_LO. -/
  | cursorHi (value : Nat)
  /-- LOAD_COMPLETE (R465). The logbook window load completes, fixing the copy, statuses, HEAD and TAIL and clearing LOADING. -/
  | loadComplete
  /-- NEXT (R439). A read of the ledger window NEXT register returns CURSOR and advances CURSOR by 1. -/
  | next
  /-- READ_CURSOR_WRITE (R486). A write of the fault summary READ cursor sets it when within 256 of RING_HEAD and is ignored otherwise. -/
  | readCursorWrite (value : Nat)
  /-- REGISTER_WRITE (R111). A write to a register with no row of its own updates its writable fields, or is ignored when partial or unmapped. -/
  | registerWrite (addr : Nat) (data : Bytes)
  /-- SESSION_OPEN (R125). SESSION.OPEN opens a session under a named key, open at once for key 0 and awaiting proof otherwise. -/
  | sessionOpen (mb : Nat)
  /-- SESSION_PROVE (R126). SESSION.PROVE verifies the host tag, derives the session key and returns the device tag, or ends the session. -/
  | sessionProve (mb : Nat)
  /-- SESSION_CLOSE (R124). SESSION.CLOSE ends the session. -/
  | sessionClose (mb : Nat)
  /-- SESSION_KEYINSTALL (R127). SESSION.KEYINSTALL installs the host-service or datagram key into the key record. -/
  | sessionKeyinstall (mb : Nat)
  /-- FEAT_OFFER (R133). FEAT.OFFER sets the session's accepted feature set and returns release, stepping, lifecycle and role. -/
  | featOffer (mb : Nat)
  /-- MODE_GET (R508). MODE.GET returns the mode, role, flags and related state. -/
  | modeGet (mb : Nat)
  /-- MODE_SET (R509). MODE.SET requests a mode transition and is answered by the first row of Table 19-7 that applies. -/
  | modeSet (mb : Nat)
  /-- OBJ_GET (R510). OBJ.GET reads fields from the committed, staged or stored description. -/
  | objGet (mb : Nat)
  /-- OBJ_SET (R511). OBJ.SET writes fields into the open edit or live, all entries or none. -/
  | objSet (mb : Nat)
  /-- OBJ_BEGIN (R141). OBJ.BEGIN opens an edit bound to the session. -/
  | objBegin (mb : Nat)
  /-- OBJ_VALIDATE (R146). OBJ.VALIDATE checks the description with any staged changes applied and returns its findings. -/
  | objValidate (mb : Nat)
  /-- OBJ_COMMIT (R147). OBJ.COMMIT validates, stores, sends to the partner and applies the edit at a tide boundary. -/
  | objCommit (mb : Nat)
  /-- OBJ_ABORT (R512). OBJ.ABORT discards the edit. -/
  | objAbort (mb : Nat)
  /-- OBJ_LOAD (R513). OBJ.LOAD receives one chunk of a description image and stages the whole image once the chunks cover it exactly. -/
  | objLoad (mb : Nat)
  /-- OBJ_EXPORT (R514). OBJ.EXPORT reads a chunk of the stored description image. -/
  | objExport (mb : Nat)
  /-- CHAN_UNLOCK (R194). CHAN.UNLOCK clears a lockout and its FAULT_CAUSE bits. -/
  | chanUnlock (mb : Nat)
  /-- CHAN_IDENT (R234). CHAN.IDENT starts a plant identification run on an output. -/
  | chanIdent (mb : Nat)
  /-- CHAN_IDRESULT (R234). CHAN.IDRESULT returns one page of an identification result. -/
  | chanIdresult (mb : Nat)
  /-- CHAN_APPLY (R230). CHAN.APPLY applies a proposal as a live gain-table change. -/
  | chanApply (mb : Nat)
  /-- CHAN_IDABORT (R226). CHAN.IDABORT aborts an identification run with reason 0x01. -/
  | chanIdabort (mb : Nat)
  /-- CHAN_START (R274). CHAN.START sets WANTED on the named outputs at the next tide boundary and reports the held ones. -/
  | chanStart (mb : Nat)
  /-- CHAN_STOP (R274). CHAN.STOP clears WANTED and stops the named outputs and their dependants, ordered or at once. -/
  | chanStop (mb : Nat)
  /-- CHAN_CLEAR (R266). CHAN.CLEAR clears failed outputs and restores their tries. -/
  | chanClear (mb : Nat)
  /-- CHAN_SEQSTATUS (R274). CHAN.SEQSTATUS returns the sequencer states of the last sealed epoch. -/
  | chanSeqstatus (mb : Nat)
  /-- CHAN_SCANREAD (R274). CHAN.SCANREAD returns a page of scanner slot codes. -/
  | chanScanread (mb : Nat)
  /-- TRACE_SETUP (R237). TRACE.SETUP sets a cluster's capture mode, channels, trigger and hold, or restores the default capture. -/
  | traceSetup (mb : Nat)
  /-- TRACE_ARM (R237). TRACE.ARM empties the ring, increments CAPTURE_ID and starts writing. -/
  | traceArm (mb : Nat)
  /-- TRACE_TRIGGER (R238). TRACE.TRIGGER raises trigger condition 0 on the named clusters. -/
  | traceTrigger (mb : Nat)
  /-- TRACE_STATUS (R245). TRACE.STATUS returns the capture state of every cluster. -/
  | traceStatus (mb : Nat)
  /-- TRACE_READ (R239). TRACE.READ returns trace entries of a frozen or idle capture. -/
  | traceRead (mb : Nat)
  /-- TRACE_CAPSULE (R244). TRACE.CAPSULE sets capsule ENABLE, POST and EVENTS for a cluster or for all. -/
  | traceCapsule (mb : Nat)
  /-- BUDGET_STATUS (R304). BUDGET.STATUS returns shelf and polder loads, limits, freeboards and causes. -/
  | budgetStatus (mb : Nat)
  /-- BUDGET_SHED (R303). BUDGET.SHED sets the host shed cause on the named polders. -/
  | budgetShed (mb : Nat)
  /-- BUDGET_RESTORE (R303). BUDGET.RESTORE clears the host shed cause on the named polders. -/
  | budgetRestore (mb : Nat)
  /-- RECT_STATUS (R319). RECT.STATUS returns the staging plan and rectifier states. -/
  | rectStatus (mb : Nat)
  /-- RECT_WITHDRAW (R319). RECT.WITHDRAW withdraws rectifiers from the plan or returns them to it. -/
  | rectWithdraw (mb : Nat)
  /-- RECT_ROTATE (R310). RECT.ROTATE starts a rotation of the stageable rectifiers. -/
  | rectRotate (mb : Nat)
  /-- RECT_FORGET (R319). RECT.FORGET clears learned curves, ONLINE_S and sample counts. -/
  | rectForget (mb : Nat)
  /-- TIDE_STATUS (R351). TIDE.STATUS returns Tideline counters and flags. -/
  | tideStatus (mb : Nat)
  /-- TIDE_NODES (R351). TIDE.NODES returns a page of the node table. -/
  | tideNodes (mb : Nat)
  /-- TIDE_ROOTINSTALL (R334). TIDE.ROOTINSTALL installs K_root after checking it against the OTP digest. -/
  | tideRootinstall (mb : Nat)
  /-- TIDE_EVICT (R351). TIDE.EVICT sends LEAVE to a joined node and frees its slot. -/
  | tideEvict (mb : Nat)
  /-- GAUGE_STATUS (R389). GAUGE.STATUS returns a page of string estimates and limits. -/
  | gaugeStatus (mb : Nat)
  /-- GAUGE_PROBE (R381). GAUGE.PROBE starts an impedance probe of the named strings. -/
  | gaugeProbe (mb : Nat)
  /-- GAUGE_PROBERESULT (R389). GAUGE.PROBERESULT returns a string's probe results. -/
  | gaugeProberesult (mb : Nat)
  /-- GAUGE_ABORT (R384). GAUGE.ABORT ends a running probe with reason 0x01. -/
  | gaugeAbort (mb : Nat)
  /-- GAUGE_WAKE (R372). GAUGE.WAKE ends hibernation of the string converters. -/
  | gaugeWake (mb : Nat)
  /-- GAUGE_RESEED (R389). GAUGE.RESEED reseeds strings from OCV, marks them full, or forgets learned values. -/
  | gaugeReseed (mb : Nat)
  /-- SLUICE_STATUS (R419). SLUICE.STATUS returns the role, fitness, generations and counters of the pair. -/
  | sluiceStatus (mb : Nat)
  /-- SLUICE_YIELD (R418). SLUICE.YIELD makes the active yield the gate token to a fit partner with cause 0x01. -/
  | sluiceYield (mb : Nat)
  /-- SLUICE_WITHDRAW (R407). SLUICE.WITHDRAW withdraws the standby, or restores it after retesting all clusters. -/
  | sluiceWithdraw (mb : Nat)
  /-- SLUICE_RESUME (R405). SLUICE.RESUME resumes duty comparison for referred clusters. -/
  | sluiceResume (mb : Nat)
  /-- SLUICE_COMPARE (R418). SLUICE.COMPARE returns summary words and run counters for a page of channels. -/
  | sluiceCompare (mb : Nat)
  /-- LEDGER_STATUS (R449). LEDGER.STATUS returns held epochs, offsets and seal counters. -/
  | ledgerStatus (mb : Nat)
  /-- LEDGER_READ (R449). LEDGER.READ returns bytes of a sealed local or fabric snapshot area. -/
  | ledgerRead (mb : Nat)
  /-- FABRIC_STATUS (R449). FABRIC.STATUS returns position, lanes, parent, θ and allowance. -/
  | fabricStatus (mb : Nat)
  /-- LEDGER_SUBSCRIBE (R441). LEDGER.SUBSCRIBE creates a pushed ledger subscription over Ethernet. -/
  | ledgerSubscribe (mb : Nat)
  /-- LEDGER_UNSUBSCRIBE (R449). LEDGER.UNSUBSCRIBE ends a ledger subscription. -/
  | ledgerUnsubscribe (mb : Nat)
  /-- LOG_STATUS (R470). LOG.STATUS returns the logbook HEAD, TAIL and store state. -/
  | logStatus (mb : Nat)
  /-- LOG_READ (R470). LOG.READ returns up to 7 records with their statuses. -/
  | logRead (mb : Nat)
  /-- LOG_VERIFY (R471). LOG.VERIFY checks the CRC, SEQ and chain of a range of records. -/
  | logVerify (mb : Nat)
  /-- LOG_NOTE (R471). LOG.NOTE stages a host note record. -/
  | logNote (mb : Nat)
  /-- LOG_CLEAR (R466). LOG.CLEAR moves TAIL_SEQ to UPTO and writes the header. -/
  | logClear (mb : Nat)
  /-- LOG_FORMAT (R462). LOG.FORMAT formats the store with a new first SEQ. -/
  | logFormat (mb : Nat)
  /-- LOG_SUBSCRIBE (R471). LOG.SUBSCRIBE creates a pushed logbook subscription over Ethernet. -/
  | logSubscribe (mb : Nat)
  /-- LOG_UNSUBSCRIBE (R470). LOG.UNSUBSCRIBE ends a logbook subscription. -/
  | logUnsubscribe (mb : Nat)
  /-- LOG_CAPSULES (R470). LOG.CAPSULES returns a page of the capsule heads staged since Boot. -/
  | logCapsules (mb : Nat)
  /-- FAULT_STATUS (R500). FAULT.STATUS returns the fault summary registers. -/
  | faultStatus (mb : Nat)
  /-- FAULT_READ (R500). FAULT.READ returns per-source records. -/
  | faultRead (mb : Nat)
  /-- FAULT_ACK (R487). FAULT.ACK clears PENDING for named sources whose condition has gone and returns those still pending. -/
  | faultAck (mb : Nat)
  /-- FAULT_ECC (R500). FAULT.ECC returns the ECC counters of one memory instance. -/
  | faultEcc (mb : Nat)
  /-- FAULT_CLEARCOUNT (R500). FAULT.CLEARCOUNT zeroes COUNT and the ECC counters of the named sources. -/
  | faultClearcount (mb : Nat)
  /-- TW_STATUS (R516). TW.STATUS returns the state and counters of each two-wire port. -/
  | twStatus (mb : Nat)
  /-- TW_TRANSFER (R517). TW.TRANSFER makes one SMBus transaction as controller on TW1 to TW7. -/
  | twTransfer (mb : Nat)
  /-- OTP_READ (R518). OTP.READ returns up to 64 OTP words with their statuses. -/
  | otpRead (mb : Nat)
  /-- OTP_PROGRAM (R519). OTP.PROGRAM programs one logical OTP word. -/
  | otpProgram (mb : Nat)
  /-- OTP_LIFECYCLE (R520). OTP.LIFECYCLE advances the lifecycle to Deployed or Retired. -/
  | otpLifecycle (mb : Nat)
  /-- FW_STATUS (R521). FW.STATUS returns the slot table and rejection codes. -/
  | fwStatus (mb : Nat)
  /-- FW_WRITE (R522). FW.WRITE writes up to 256 bytes into the slot that is not running. -/
  | fwWrite (mb : Nat)
  /-- FW_COMMIT (R523). FW.COMMIT checks the written image and marks it WRITTEN with the next sequence. -/
  | fwCommit (mb : Nat)
  /-- TIME_GET (R524). TIME.GET returns the RTC, epochs, RTC state and alarm. -/
  | timeGet (mb : Nat)
  /-- TIME_SET (R525). TIME.SET sets the RTC at the next tide boundary. -/
  | timeSet (mb : Nat)
  /-- SVC_RESET (R526). SVC.RESET schedules an orderly chip reset. -/
  | svcReset (mb : Nat)
  /-- SVC_BLOCKRESET (R527). SVC.BLOCKRESET starts a block reset of the named block. -/
  | svcBlockreset (mb : Nat)
  /-- SVC_RESET_START (R526). The orderly reset ordered by SVC.RESET begins when MB_DONE is cleared or 10 ms after the response. -/
  | svcResetStart (done : Bool)
  /-- MAILBOX_DATAGRAM (R129). A mailbox request datagram arrives on Ethernet and is checked, replayed or run in a pool mailbox. -/
  | mailboxDatagram (port : Nat) (frame : Bytes)
  /-- NEIGHBOR_SOLICITATION (R553). An ICMPv6 Neighbor Solicitation addressed to the port is answered. -/
  | neighborSolicitation (port : Nat) (target : Nat)
  /-- ECHO_REQUEST (R553). An ICMPv6 Echo Request addressed to the port is answered. -/
  | echoRequest (port : Nat) (body : Bytes)
  /-- ETH_LINK_UP (R552). An Ethernet port comes up and runs duplicate address detection. -/
  | ethLinkUp (port : Nat)
  /-- ETH_LINK_DOWN (R551). Loss of block lock for 1 ms takes an Ethernet port down and raises its source. -/
  | ethLinkDown (port : Nat)
  /-- PTP_ANNOUNCE (R558). A PTP Announce is received and fed to the best-master choice. -/
  | ptpAnnounce (a : AnnounceMsg)
  /-- PTP_SYNC (R558). A PTP Sync from the grandmaster is timestamped and used to discipline the RTC. -/
  | ptpSync (port : Nat) (twoStep : Bool) (t1 : Int) (t2 : Int)
  /-- PTP_DELAY_RESP (R558). A PTP Delay_Resp completes a delay measurement. -/
  | ptpDelayResp (port : Nat) (t4 : Int)
  /-- DELAY_REQ_TIMER (R558). Once per second the client sends Delay_Req on the port of the chosen Announce. -/
  | delayReqTimer (t3 : Int)
  /-- PTP_HOLDOVER (R559). No Sync for 10 s moves the RTC from disciplined to holdover and raises source 278. -/
  | ptpHoldover
  /-- HOLDOVER_EXPIRY (R559). 24 h of holdover returns the RTC to free-running. -/
  | holdoverExpiry
  /-- VAON_RISE (R590). VAON rises above its power-on threshold and the always-on domain leaves power-on reset into Keep. -/
  | vaonRise
  /-- VAON_RESET (R53). VAON falls below its reset level and a power-on reset of the always-on domain follows. -/
  | vaonReset
  /-- WAKE_N_LOW (R45). WAKE_N held low for 10 µs is a wake event that starts a wake series. -/
  | wakeNLow
  /-- PB_N_PRESS (R269). A counted fall of PB_N begins a press, and a press of 50 ms in Keep or Stranded is a wake event. -/
  | pbNPress (highMs : Nat) (heldMs : Nat := 0)
  /-- PB_N_RELEASE (R269). A counted rise of PB_N classifies the press as ignored, short or held. -/
  | pbNRelease (heldMs : Nat)
  /-- LONG_PRESS (R271). PB_N held to the 8 s threshold clears WANTED and starts the ordered stop of every output. -/
  | longPress
  /-- LONG_PRESS_FORCE_OFF (R271). 2 s after a long press every output not yet off is forced off. -/
  | longPressForceOff
  /-- LONG_PRESS_POWER_DOWN (R271). After the checkpoint is flushed or 100 ms passes, the domains are powered down and the mode becomes Keep. -/
  | longPressPowerDown (afterUs : Nat)
  /-- RTC_ALARM (R45). The RTC reaches the enabled alarm time in Keep or Gauge-watch, a wake event that clears the alarm. -/
  | rtcAlarm
  /-- INUV_RECOVER (R58). INUV rises above threshold plus hysteresis, a wake event or a release of a held reset or restart series. -/
  | inuvRecover
  /-- GAUGE_COMPARATOR_WAKE (R372). A string wake comparator exceeds its threshold for its filter time and ends hibernation. -/
  | gaugeComparatorWake (str : Nat) (rtcNs : Nat)
  /-- PG_GOOD (R46). A PG input becomes good after 8 samples and the wake attempt asserts the next enable. -/
  | pgGood (n : Nat) (banks33 : Nat)
  /-- PG_TIMEOUT (R46). A PG input not good 20 ms after its enable fails the wake attempt. -/
  | pgTimeout (n : Nat) (rtcNs : Nat := 0)
  /-- CRYSTAL_READY (R46). The crystal reaches full swing and 8,192 clean cycles and the reference clock is released. -/
  | crystalReady
  /-- CRYSTAL_TIMEOUT (R46). The crystal is not ready 10 ms after its enable and the wake attempt fails. -/
  | crystalTimeout (rtcNs : Nat := 0)
  /-- DOMAIN_SWITCH_ON (R46). With all PG good and the crystal ready, domains 2, 3, 18, 20 and 13 are switched on 20 µs apart. -/
  | domainSwitchOn
  /-- INTERNAL_RESET_RELEASE (R46). 100 µs after the domains are on, the internal resets are released and the mode becomes Boot. -/
  | internalResetRelease (rtcNs : Nat := 0)
  /-- WAKE_RETRY (R47). 100 ms after a failure the next wake attempt of the series begins. -/
  | wakeRetry
  /-- PG_LOST (R53). A PG input low for 2 samples in a firmware mode causes an immediate chip reset. -/
  | pgLost (n : Nat)
  /-- RESET_N_LOW (R76). RESET_N low for 1 µs causes an immediate chip reset, ends a wake attempt, or holds off a series. -/
  | resetNLow
  /-- RESET_N_RELEASE (R76). Release of RESET_N lets a pending reset or restart series start. -/
  | resetNRelease
  /-- ORDERLY_RESET_PROCEED (R75). Once staging is flushed or 150 µs pass, the orderly reset deasserts the enables and enters Keep. -/
  | orderlyResetProceed (afterUs : Nat)
  /-- CHIP_RESET_WAKE (R75). 10 ms after a chip reset the always-on controller starts a fresh wake series on its own. -/
  | chipResetWake
  /-- WATCHDOG_EXPIRY (R104). The warden watchdog expires and triggers an orderly chip reset. -/
  | watchdogExpiry
  /-- INUV_TRIP (R56). INUV below its threshold for the filter time enters Last-gasp, stages the record, and hands over or starts the ramps. -/
  | inuvTrip (mv : Nat) (rtcNs : Nat := 0)
  /-- LAST_GASP_RAMP_END (R56). The 500 µs last-gasp ramps complete and both gates and PEN go low on every channel. -/
  | lastGaspRampEnd
  /-- LAST_GASP_COMPLETE (R59). After the flush and checkpoint the enables are deasserted, Keep is entered and a Last-gasp restart may start. -/
  | lastGaspComplete (done : Bool)
  /-- SUPPLY_WARNING (R51). A rail falls below its warning level and a brace begins. -/
  | supplyWarning (mon : Nat) (mv : Nat)
  /-- BRACE_END (R52). Every causing monitor stays above warning plus hysteresis for 100 µs, ending the brace and resuming writes. -/
  | braceEnd (us : Nat)
  /-- SUPPLY_RESET (R53). An internal rail falls below its reset level and causes an immediate chip reset. -/
  | supplyReset (mon : Nat)
  /-- MONITOR_ARM (R50). A supply monitor is armed 100 µs after its domain is switched on or its bank is measured. -/
  | monitorArm (mon : Nat)
  /-- REFERENCE_CRYSTAL_LOSS (R72). No reference crystal edge for 1 µs puts the PLLs into holdover, yields and enters Safe-hold. -/
  | referenceCrystalLoss
  /-- HOLDOVER_TIMEOUT (R72). The reference crystal not restored within 10 ms causes a chip reset. -/
  | holdoverTimeout
  /-- RTC_CRYSTAL_LOSS (R72). No RTC crystal edge for 100 ms puts the gauge clock into holdover and sets the charge-over-holdover flag. -/
  | rtcCrystalLoss
  /-- PLL_LOSS_OF_LOCK (R72). A PLL loses lock and its fixed reaction of chip or block reset follows. -/
  | pllLossOfLock (pll : Nat)
  /-- RC_OUT_OF_RANGE (R72). The always-on RC oscillator is outside ±8 % against the reference. -/
  | rcOutOfRange (outside : Bool := true)
  /-- OTP_SENSE_COMPLETE (R87). A brace-free OTP sensing pass completes and its fields are latched into the receiving blocks. -/
  | otpSenseComplete
  /-- MEMORY_INIT_COMPLETE (R107). The memory initialiser finishes and both lockstep pairs are released into the boot ROM. -/
  | memoryInitComplete
  /-- FLASH_RESET_DONE (R106). After RST_N and the 1 ms wait, the boot ROM reads SFDP and enters quad mode. -/
  | flashResetDone (taps : Nat := 0) (sfdpKhz : Nat := 0) (rtcNs : Nat := 0)
  /-- IMAGE_CHECKED (R103). An image slot check completes and the boot ROM starts it or rejects it and tries the next. -/
  | imageChecked (slot : Nat) (readFails : Bool) (rtcNs : Nat := 0)
  /-- IMAGE_START (R104). The boot ROM enters the image and arms the watchdog. -/
  | imageStart
  /-- BOOT_ROM_UNCORRECTABLE (R494). An uncorrectable boot-ROM read restarts Boot once, and a second ends in Stranded. -/
  | bootRomUncorrectable (rtcNs : Nat := 0)
  /-- MOUNT (R461). The firmware mounts the logbook store, finds HEAD and stages the mount record. -/
  | mount (storeBytes : Nat) (taps : Nat := 0) (sfdpKhz : Nat := 0)
  /-- CONFIGURE_ENTRY (R152). The firmware enters Configure, loads the stored description, confirms its slot and may issue AUTO_RUN. -/
  | configureEntry (rtcNs : Nat := 0)
  /-- TIDE_BOUNDARY (R70). At each tide boundary the epoch advances, contributions latch, and the warden runs capping, policy and windows. -/
  | tideBoundary (raws : List Int) (ovr : Nat) (clk : Nat) (gapNs : Nat) (hot : Nat := 0) (mdio : List (Option Nat) := [])
  /-- WARDEN_HEARTBEAT_MISSED (R489). No warden heartbeat for 3 tides raises source 299 and stops ALIVE. -/
  | wardenHeartbeatMissed
  /-- CONTRIBUTION (R29). A block's tide contribution arrives at the ledger unit, sealing the snapshot when it is the last expected. -/
  | contribution (index : Nat) (epoch : Nat) (us : Nat)
  /-- SEAL_DEADLINE (R29). 200 µs after the boundary the local snapshot is sealed with missing contributions carried forward as stale. -/
  | sealDeadline
  /-- BEACON_CYCLE_START (R323). At each beacon strobe the share engine computes set-points and the beacon is sent in symbol 0. -/
  | beaconCycleStart (raws : List Int) (ovr : Nat) (clk : Nat) (stray : Nat) (stray6 : Nat) (hits : Nat)
  /-- MIRROR_STROBE (R397). At each mirror strobe loop state is latched and the active sends MIRROR and SUMMARY. -/
  | mirrorStrobe (counts : List Nat)
  /-- LOOP_EVALUATION (R204). At a channel's sample instant the engine runs the compensator, profile step and duty computation; the
  voltages at its sense pins VSP, VSN, ISP and ISN in nV. -/
  | loopEvaluation (ch : Nat) (vsp vsn isp isn : Int) (gaspNs : Nat)
  /-- PERIOD_START (R175). At a period start the timebase loads the shadow duty and places the edges. -/
  | periodStart (ch : Nat) (above : Bool) (late : Bool := false)
  /-- CURRENT_CUT (R181). The current comparator crosses its threshold after blanking and ends the pulse. -/
  | currentCut (ch : Nat) (atLsb : Nat := 0)
  /-- SINK_LIMIT (R182). A current sample below −SINK_LIMIT while PWML is high drives PWML low until the next period start. -/
  | sinkLimit (ch : Nat) (current : Int) (atLsb : Nat := 0)
  /-- OVERSHOOT (R184). VSP − VSN rises through the overshoot level, braking a Rail channel or truncating a Feeder channel. -/
  | overshoot (ch : Nat) (atLsb : Nat := 0)
  /-- BRAKE_RELEASE (R184). Braking is released when the voltage falls below the release level or the current reaches zero. -/
  | brakeRelease (ch : Nat) (below : Bool) (current : Int := 0)
  /-- BRAKE_TIMEOUT (R184). BRAKE_MAX passes during braking and releases it. -/
  | brakeTimeout (ch : Nat) (atLsb : Nat := 0)
  /-- OV_TRIP (R186). VSP − VSN rises above the trip level and forces the channel off. -/
  | ovTrip (ch : Nat)
  /-- FLT_N (R187). FLT_N low for 20 ns forces the channel off. -/
  | fltN (ch : Nat) (low : Bool)
  /-- OCP_PERSIST (R181). OCP_PERSIST consecutive cut periods set the flag and raise the channel fault. -/
  | ocpPersist (ch : Nat)
  /-- FREEBOARD_ACCUMULATION (R24). Every 10 µs each cluster sums polder power, updates share terms and clamps polders over their share. -/
  | freeboardAccumulation (cl : Nat)
  /-- START_DELAY_EXPIRY (R250). The start conditions hold for START_DELAY and the shorted high-side test begins. -/
  | startDelayExpiry (out : Nat) (volts : List Int)
  /-- HS_TEST_TRIP (R191). A phase stays above the probe level for 1 µs during the test and the output is locked out. -/
  | hsTestTrip (ch : Nat)
  /-- HS_TEST_END (R191). 1 ms after PEN assertion the test passes or fails and the output is handed to the profile generator. -/
  | hsTestEnd (out : Nat) (samples : List (List Int))
  /-- RISE_DEADLINE_EXPIRY (R251). The output is not good at RISE_DEADLINE and is forced off into STATE 4. -/
  | riseDeadlineExpiry (out : Nat)
  /-- SCANNER_SLOT (R255). The scanner converts one slot every 200 ns and judges it against the window or level. -/
  | scannerSlot (v : Int)
  /-- SCANNER_SHUTDOWN (R261). The filter count reaches FILTER_COUNT and the scanner shuts the output and its dependants down. -/
  | scannerShutdown (out : Nat)
  /-- TEMPERATURE_LEVEL (R262). A TMP filter count completes at a warning, trip or sensor-fault level. -/
  | temperatureLevel (out : Nat) (level : Nat)
  /-- SCANNER_SELF_CHECK (R263). The ground and reference slots fail or pass in 2 consecutive scans and verdicts are withheld or resumed. -/
  | scannerSelfCheck (ok : Bool)
  /-- RESTART_CLEARANCE (R265). At the first tide boundary at least RESTART_DELAY after a stop, the warden clears a failed output using one try. -/
  | restartClearance (out : Nat) (sinceUs : Nat := 0)
  /-- TRIES_RESTORE (R265). 60 s in STATE 3 restores the output's restart tries. -/
  | triesRestore (out : Nat)
  /-- IDENT_SCHEDULE (R231). The warden starts an automatic identification 10 s after STATE 3, hourly, or 60 s after an abort. -/
  | identSchedule (out : Nat)
  /-- IDENT_RUN_END (R225). After 8,687 lead evaluations the injection stops and the warden computes the proposal. -/
  | identRunEnd (out : Nat)
  /-- CAPTURE_FROZEN (R237). 8,191 − PRE entries after the trigger entry the capture becomes frozen. -/
  | captureFrozen (cl : Nat)
  /-- CROSS_TRIGGER (R238). A cross trigger from another cluster arrives as a trigger condition. -/
  | crossTrigger (cl : Nat) (src : Nat)
  /-- HOLD_S_EXPIRY (R237). HOLD_S elapses in the frozen state and the default capture is restored. -/
  | holdSExpiry (cl : Nat)
  /-- CAPSULE_PENDING (R241). POST entries or 50 µs after the event the cluster enters capsule pending. -/
  | capsulePending (cl : Nat)
  /-- CAPSULE_STAGE (R242). The capsule mover stages the next head or fragment record when pacing and room allow. -/
  | capsuleStage (cl : Nat)
  /-- RECORD_STAGE (R455). A record offered by a producer is admitted to staging with its SEQ, CHAIN and CRC once room exists. -/
  | recordStage
  /-- BURST_COMPLETE (R456). A flush burst's read-back completes, flushing its records or rewriting once or failing. -/
  | burstComplete (ok : Bool)
  /-- UNFLUSHED_TIMEOUT (R469). 64 records unflushed for 10 ms outside a brace raise source 7 and reset the logbook block. -/
  | unflushedTimeout
  /-- FAULT_EVENT (R478). A fault source raises an event that is counted, classified, queued and acted on by its reactions. -/
  | faultEvent (source : Nat) (event : Nat) (data : Bytes)
  /-- BLOCK_RESET_RELEASE (R77). A block reset's duration ends and the block resumes as Table 3-5 states. -/
  | blockResetRelease (block : Nat) (heldUs : Nat := 0)
  /-- SCRUB_TICK (R491). Every 16 µs the patrol scrubber reads one word of each instance and corrects it. -/
  | scrubTick (results : List ScrubResult)
  /-- MERGE_COMMIT (R492). A merge-buffer entry idle for 32 cycles commits by read-modify-write. -/
  | mergeCommit (inst : Nat) (word : Nat)
  /-- SEMAPHORE_TIMEOUT (R565). A semaphore held over 10 ms is released, its region restored and source 300 raised. -/
  | semaphoreTimeout (n : Nat) (pair : Nat)
  /-- SESSION_IDLE_EXPIRY (R124). A session's idle time passes with no request and it ends. -/
  | sessionIdleExpiry (session : Nat)
  /-- PROOF_TIMEOUT (R126). A session awaiting proof receives no SESSION.PROVE within 5 s and ends. -/
  | proofTimeout (session : Nat)
  /-- KEY_LOCKOUT_END (R126). 60 s after three failed proofs, SESSION.OPEN under that key is accepted again. -/
  | keyLockoutEnd (key : Nat)
  /-- GAUGE_CYCLE (R361). At a boundary whose extended epoch is a multiple of 1,000 the warden advances every string estimate. -/
  | gaugeCycle
  /-- HIBERNATION_ENTRY (R371). Every wake comparator below threshold for 60 s stops the string converters. -/
  | hibernationEntry (rtcNs : Nat)
  /-- STRING_INSERTION (R374). STRV above 5 V for 2 s inserts a string with an OCV estimate. -/
  | stringInsertion (str : Nat)
  /-- STRING_REMOVAL (R375). STRV below 5 V for 1 s makes a string absent. -/
  | stringRemoval (str : Nat)
  /-- PROBE_SCHEDULE (R385). PROBE_PERIOD after the last completed probe, or 3,600 s after an abort, an automatic probe starts. -/
  | probeSchedule
  /-- PROBE_FREQUENCY_END (R383). The measured periods of a probe frequency end and its impedance and quality are formed. -/
  | probeFrequencyEnd
  /-- RUNTIME_PREDICTION (R298). In Ride-through the warden predicts runtime and sets runtime causes on lower polders. -/
  | runtimePrediction
  /-- DEFICIT_SHED (R292). 3 consecutive deficit tides set the deficit cause on the lowest-priority polder. -/
  | deficitShed
  /-- DEFICIT_CLEAR (R293). Freeboard held for 10,000 tides clears the deficit cause on the highest-priority polder. -/
  | deficitClear
  /-- RUNTIME_CAUSE_CLEAR (R300). After Ride-through ends, the runtime cause is cleared on one polder every 2,000 tides. -/
  | runtimeCauseClear
  /-- PARK (R308). n* below the online count for PARK_HOLD parks one stageable rectifier. -/
  | park
  /-- ROTATION (R310). Every ROTATE_PERIOD the warden ranks and exchanges parked and online rectifiers. -/
  | rotation
  /-- UNPARK_TIMEOUT (R313). An unparked rectifier not reporting output on within 100 ms enters STATE 5. -/
  | unparkTimeout (rect : Nat)
  /-- STAGING_RECORD (R309). Every 3,600 s the learned curves, ONLINE_S and RANK are written to the logbook. -/
  | stagingRecord
  /-- TW_WINDOW (R541). Each 100 ms window a controller port serves alerts, legacy rectifiers, due sensors and TW.TRANSFER. -/
  | twWindow (port : Nat) (alert : Bool)
  /-- TW_TRANSACTION_END (R542). A controller two-wire transaction ends and its reading or failure is recorded. -/
  | twTransactionEnd (port : Nat) (result : Nat) (data : Bytes) (pec : Nat := 0)
  /-- SMBUS_TIMEOUT (R530). SCL held low beyond the SMBus timeout resets the port interface or ends the transaction. -/
  | smbusTimeout (port : Nat)
  /-- ARBITRATION_LOST (R546). A controller port loses arbitration, becomes a target or releases the bus and retries. -/
  | arbitrationLost (port : Nat) (winner : Nat) (inAddress : Bool)
  /-- ALERT_RESPONSE (R538). A receive byte at the Alert Response Address is answered with the port's own address. -/
  | alertResponse (port : Nat)
  /-- TARGET_STATUS (R536). The STATUS target command returns mode, stranded, HRDY and wake flags. -/
  | targetStatus (port : Nat) (len : Nat)
  /-- IDENT (R536). The IDENT target command returns device, stepping, port version and DIE_ID. -/
  | ident (port : Nat) (len : Nat)
  /-- RESET_CAUSE (R536). The RESET_CAUSE target command returns the reset-cause register. -/
  | resetCause (len : Nat)
  /-- RETENTION (R536). The RETENTION target command returns retention words 0 to 7. -/
  | retention (len : Nat)
  /-- WAKE_ENABLE (R536). The WAKE_ENABLE target command returns the wake-source enables. -/
  | wakeEnable (len : Nat)
  /-- WAKE (R548). The WAKE target command with data 0x57 is a wake event when enabled. -/
  | wake (data : Nat) (pec : Option Nat)
  /-- LIVE (R536). The LIVE target command returns EPOCH_LIVE and GENERATION_LIVE. -/
  | live (port : Nat) (len : Nat)
  /-- MB_OFFSET (R539). MB_OFFSET sets the TW0 transport buffer offset. -/
  | mbOffset (value : Nat) (pec : Option Nat)
  /-- MB_WRITE (R539). MB_WRITE writes request bytes at the offset and advances it. -/
  | mbWrite (data : Bytes) (pec : Option Nat)
  /-- MB_GO (R539). MB_GO copies the request into a pool mailbox and rings it, or synthesises a response. -/
  | mbGo (data : Nat) (pec : Option Nat)
  /-- MB_STATE (R539). MB_STATE returns the TW0 transport state. -/
  | mbState (len : Nat)
  /-- MB_READ (R539). MB_READ returns response bytes from the offset and advances it. -/
  | mbRead (len : Nat)
  /-- MB_RELEASE (R539). MB_RELEASE frees the response and returns the transport to state 0. -/
  | mbRelease (data : Nat) (pec : Option Nat)
  /-- RESPONDER_WAKE (R547). A matching address in Keep, Gauge-watch or Stranded is NACKed and wakes the always-on responder. -/
  | responderWake
  /-- RESPONDER_SLEEP (R547). 50 ms after its last acknowledged transaction the responder sleeps. -/
  | responderSleep
  /-- SLOT_FRAME (R326). A scheduled slot frame is decoded at the end of its second half and its report applied or missed. -/
  | slotFrame (slot : Nat) (frame : Option SlotReport) (energy : Bool)
  /-- JOIN_REQ (R335). A JOIN_REQ is verified and answered with JOIN_ACK or JOIN_NAK. -/
  | joinReq (frame : Bytes)
  /-- JOIN_VOID (R335). A join not completed within 3 tides is void and its slot freed. -/
  | joinVoid (node : Nat)
  /-- TIDELINE_EVENT (R332). A module EVENT frame in symbol 6 is received and acknowledged. -/
  | tidelineEvent (frame : Bytes)
  /-- COMMON_ALARM (R342). A common alarm in symbol 7 is verified, acknowledged in ALARM_ACK and delivered to the warden. -/
  | commonAlarm (frame : Bytes)
  /-- NODE_ALARM (R342). A node alarm in symbol 7 is verified and acknowledged in the next beacon. -/
  | nodeAlarm (frame : Bytes)
  /-- STRANGER_CLEAR (R346). 1,000 tides without stranger energy clear the stranger-present flag. -/
  | strangerClear
  /-- LOST_SLEEPER (R343). 3 tides without a sleeper's report mark it lost and start a wide beacon. -/
  | lostSleeper (node : Nat)
  /-- WIDE_BEACON_END (R343). The 50 ms wide beacon ends. -/
  | wideBeaconEnd
  /-- SLEEPER_FREE (R344). 10 s after the wide beacon without a report the sleeper's slot is freed. -/
  | sleeperFree (node : Nat)
  /-- CONTROLLER_QUIET_END (R340). After 100 ms quiet the controller resets its counters and resumes beacons. -/
  | controllerQuietEnd
  /-- PARTNER_HELLO (R396). A partner-link HELLO is received, bringing a lane up and updating fitness, generation and timing. -/
  | partnerHello (lane : Nat) (frame : Bytes) (delay : Int) (lag : Int)
  /-- HELLO_TIMER (R396). Each controller sends a partner-link HELLO at least every 10 µs. -/
  | helloTimer
  /-- MIRROR (R399). The standby applies a MIRROR frame by correcting its loop state at each channel's next evaluation. -/
  | mirror (frame : Bytes)
  /-- PARTNER_SUMMARY (R401). The standby compares a SUMMARY frame with its own duties and counts disagreement. -/
  | partnerSummary (frame : Bytes)
  /-- SUPER (R413). A SUPER chunk of the supervisory state is received. -/
  | super (frame : Bytes) (content : List SuperItem)
  /-- HANDOVER (R408). A HANDOVER frame is received and applied at takeover. -/
  | handover (frame : Bytes)
  /-- CHALLENGE (R404). The active receives CHALLENGE and tests the named clusters. -/
  | challenge (frame : Bytes)
  /-- RESULT (R404). A RESULT frame is received, leading to a standby test, withdrawal or referral. -/
  | result (frame : Bytes)
  /-- CHALLENGE_TIMEOUT (R404). No RESULT within 200 µs refers the case to the host. -/
  | challengeTimeout
  /-- KNOWN_ANSWER_TEST (R403). A known-answer test of a cluster completes with pass or fail. -/
  | knownAnswerTest (cl : Nat) (pass : Bool)
  /-- SELF_TEST_TIMER (R403). Once per second each controller tests each of its clusters. -/
  | selfTestTimer
  /-- PARTNER_EVENT (R415). A partner-link EVENT is received, logged and counted. -/
  | partnerEvent (frame : Bytes)
  /-- DESC (R155). A DESC frame of the active's description image is received and acknowledged when complete. -/
  | desc (frame : Bytes)
  /-- ACK (R148). The active receives the standby's acknowledgement of a description image. -/
  | ack (frame : Bytes)
  /-- COMMIT_ACK_TIMEOUT (R148). 500 ms without the partner's acknowledgement lets the commit proceed. -/
  | commitAckTimeout
  /-- IDSTART (R227). An IDSTART frame makes the standby inject the same sequence. -/
  | idstart (frame : Bytes)
  /-- SNAPSHOT_FRAME (R436). A chunk of the active's sealed snapshot is received by the standby. -/
  | snapshotFrame (frame : Bytes)
  /-- ALLOWANCE_RELAY (R445). The active receives its standby's plane allowance. -/
  | allowanceRelay (frame : Bytes)
  /-- PARTNER_LANE_UP (R395). A partner lane holds block lock for 100 µs and passes a HELLO. -/
  | partnerLaneUp (lane : Nat)
  /-- PARTNER_LANE_DOWN (R395). A partner lane loses block lock for 1 µs or fails 3 frames. -/
  | partnerLaneDown (lane : Nat)
  /-- PEER_PRESENCE (R618). PEER_PRES_N changes level and the role and partner-link power follow. -/
  | peerPresence (absent : Bool)
  /-- CLAIM_RAISE (R393). SLUICE_PEER low for 1 µs lets a claiming controller raise SLUICE_OWN. -/
  | claimRaise (sinceDropUs : Nat)
  /-- CLAIM_SAMPLE (R393). 200 ns after raising SLUICE_OWN the claim succeeds or collides. -/
  | claimSample (peerHigh : Bool)
  /-- CLAIM_BACKOFF_END (R393). The collision backoff ends and the claim retries. -/
  | claimBackoffEnd (waitedUs : Nat := 0)
  /-- CLAIM_TIMEOUT (R393). SLUICE_PEER high for 1 ms during a claim puts the controller in Shadow. -/
  | claimTimeout
  /-- SLUICE_PEER_FALL (R410). SLUICE_PEER falls and a fit standby takes over. -/
  | sluicePeerFall (sinceDropUs : Nat)
  /-- TOKEN_CONFLICT (R416). Both SLUICE_OWN high outside a claim makes the controller not in Run drop. -/
  | tokenConflict
  /-- OVERLAP_CUTOFF (R412). At H + 3 ms the old active's Tideline transmitter is disabled and pending orders answer STALE_GENERATION. -/
  | overlapCutoff
  /-- FABRIC_HELLO (R421). A fabric HELLO is received, bringing a lane up or holding it down. -/
  | fabricHello (lane : Nat) (frame : Bytes) (settled : Bool)
  /-- FABRIC_HELLO_TIMER (R421). A HELLO is sent every 20 µs on every fabric lane with block lock. -/
  | fabricHelloTimer (locked : Nat)
  /-- FABRIC_LANE_DOWN (R421). A fabric lane loses block lock for 1 µs or misses HELLO for 100 µs. -/
  | fabricLaneDown (lane : Nat)
  /-- SYNC_SEND (R427). T1 after each tide boundary a member sends SYNC on every up port. -/
  | syncSend (t1 : Int)
  /-- SYNC (R427). A SYNC is received, updating parent, fabric-epoch offset and θ. -/
  | sync (lane : Nat) (frame : Bytes) (t2 : Int) (t3 : Int)
  /-- DELAY_REQ (R427). A parent receives a DELAY_REQ and answers with DELAY_RESP. -/
  | delayReq (lane : Nat) (frame : Bytes) (t4 : Int)
  /-- DELAY_RESP (R428). A child receives a DELAY_RESP, computes θ and steers its tide length. -/
  | delayResp (lane : Nat) (frame : Bytes)
  /-- ROOT_ELECTION (R426). 10 tides without a SYNC naming a lower root make the member a root. -/
  | rootElection
  /-- RECORD_ORIGINATE (R437). 200 µs after the fabric boundary a member originates SUMMARY and FULL records. -/
  | recordOriginate
  /-- FABRIC_SUMMARY (R425). A SUMMARY broadcast copy is received, delivered and forwarded or turned. -/
  | fabricSummary (lane : Nat) (frame : Bytes)
  /-- FULL (R425). A FULL row-broadcast copy is received and delivered. -/
  | full (lane : Nat) (frame : Bytes)
  /-- ROW_SUM_STAGE (R443). At 260 µs a row root sums its row and sends ROWSUM. -/
  | rowSumStage
  /-- ROWSUM (R445). The root receives a ROWSUM. -/
  | rowsum (lane : Nat) (frame : Bytes)
  /-- ROOT_ALLOCATE (R444). At 320 µs the root allocates among rows and sends ROWALLOC. -/
  | rootAllocate
  /-- ROWALLOC (R445). A row root receives its ROWALLOC. -/
  | rowalloc (lane : Nat) (frame : Bytes)
  /-- ROW_ALLOCATE (R444). At 370 µs a row root allocates among members and sends MEMALLOC. -/
  | rowAllocate
  /-- MEMALLOC (R445). A member receives its MEMALLOC allowance. -/
  | memalloc (lane : Nat) (frame : Bytes)
  /-- ALLOWANCE_HOLD (R445). 10 tides without MEMALLOC raise source 10 while the allowance is kept. -/
  | allowanceHold
  /-- FABRIC_SEAL (R438). The fabric snapshot is sealed when all summaries arrive or at 400 µs. -/
  | fabricSeal (us : Nat)
  /-- TAP_RESET (R561). TRST_N low or five TCK cycles with TMS high resets the TAP. -/
  | tapReset
  /-- BYPASS (R561). The BYPASS instruction is loaded. -/
  | bypass (code : Nat)
  /-- IDCODE (R561). The IDCODE instruction returns 0x2812_855B. -/
  | idcode
  /-- SAMPLE_PRELOAD (R561). The SAMPLE/PRELOAD instruction captures or preloads the boundary cells. -/
  | samplePreload (cells : Bytes)
  /-- EXTEST (R562). EXTEST at Update-IR takes the chip-reset gate action and holds the domains in reset. -/
  | extest
  /-- INTEST (R562). INTEST at Update-IR takes the chip-reset gate action and holds the domains in reset. -/
  | intest
  /-- CLAMP (R562). CLAMP at Update-IR takes the chip-reset gate action and holds the domains in reset. -/
  | clamp
  /-- HIGHZ (R562). HIGHZ at Update-IR takes the chip-reset gate action and holds the domains in reset. -/
  | highz
  /-- EXTEST_PULSE (R562). EXTEST_PULSE on the lanes at Update-IR takes the chip-reset gate action. -/
  | extestPulse
  /-- EXTEST_TRAIN (R562). EXTEST_TRAIN on the lanes at Update-IR takes the chip-reset gate action. -/
  | extestTrain
  /-- DAPACC (R563). The DAPACC instruction selects the debug access data register. -/
  | dapacc (dbgen : Bool)
  /-- DAP_READ (R563). A debug access read of a word with side effects. -/
  | dapRead (space : Nat) (addr : Nat)
  /-- DAP_QUIET_READ (R563). A debug access quiet read of a word without side effects. -/
  | dapQuietRead (space : Nat) (addr : Nat)
  /-- DAP_WRITE (R563). A debug access write of a word. -/
  | dapWrite (space : Nat) (addr : Nat) (value : Nat)
  /-- HALT_REQUEST (R564). A halt request halts both cores of a pair when permitted, or is refused. -/
  | haltRequest (pair : Nat)
  /-- HALT_RELEASE (R566). A halted pair is released and its watchdog resumes with a full period. -/
  | haltRelease (pair : Nat)
  /-- DBGEN_FALL (R567). DBGEN falls and every halted pair is released and breakpoints cleared. -/
  | dbgenFall
  /-- REFERENCE_CRYSTAL_RESTORED (R72). Reference crystal edges return within 10 ms of their loss, the PLLs leave holdover and the pending chip reset is cancelled. -/
  | referenceCrystalRestored
  /-- RTC_CRYSTAL_RESTORED (R559). RTC crystal edges return, RTC_STATE moves from 3 to 0 and the gauge clock leaves PLL-G holdover. -/
  | rtcCrystalRestored
  /-- PTP_FOLLOW_UP (R558). A PTP Follow_Up from the grandmaster delivers the precise origin time of the preceding Sync, completing the two-step offset measurement. -/
  | ptpFollowUp (port : Nat) (t1 : Int)
  /-- EXTERNAL_WRITE_COMPLETE (R120). A CS0, CS1 or OTP write with its read-back completes, letting the waiting order or procedure go on: commit store, APPLIED word, slot table, key record, OTP word, log header. -/
  | externalWriteComplete (mb : Nat) (ok : Bool) (stage : Nat := 0) (left : Nat := 0)
  /-- EXTERNAL_WRITE_TIMEOUT (R147). An external write or two-wire transaction does not complete within its limit (4 s commit store, 3 s FW.WRITE, 100 ms key install, log header or TW.TRANSFER) and the order is answered TIMEOUT. -/
  | externalWriteTimeout (mb : Nat)
  /-- RESPONDER_READY (R547). Within 1 ms of its waking address, the always-on TW0 responder becomes ready and begins to acknowledge its address. -/
  | responderReady
  /-- DUPLICATE_ADDRESS_DETECTION_END (R552). Duplicate address detection on an Ethernet port ends without a duplicate, and the link-local address becomes usable so the port serves. -/
  | duplicateAddressDetectionEnd (port : Nat) (duplicate : Bool)
  deriving DecidableEq, Repr

end Sys2Proof
end

