-- ==== Sys2Proof/Decode.lean ====
section
/-! DEFINITION. The decoder over the opcode table's bits. No row of this block's table gives bits: commands come from
outside, through ports and pins, and no word spells one. -/
namespace Sys2Proof

/-- The command that a word of `nbits` bits spells: none, as the table gives no row any bits. (DESIGN CHOICE, log 7) -/
def decodeTableWord (nbits w : Nat) : Option Instr :=
  match nbits, w with
  | _, _ => none

end Sys2Proof
end

