-- ==== Sys2Proof/Config.lean ====
section
/-! DEFINITION. What the spec leaves to each implementation, the functions that no rule fixes to the last bit, and the
free values: constants with no body, so that nothing rests on what they are. -/
namespace Sys2Proof.Config

open Sys2Proof.Machine

/-- K_L of the logbook chain from the device secret (R451: the derivation is not published). (DEDUCED, log 9) -/
opaque logKey : Nat → Nat

/-- The provisioning key from the device secret and DIE_ID (R93: the derivation is not published). (DEDUCED, log 9) -/
opaque provisioningKey : Nat → Nat → Nat

/-- Natural exponential in binary64 (R361: binary64 fixes no rounding of it). (DESIGN CHOICE, log 10) -/
opaque exp64 : F64 → F64

/-- Mean current of an interval in which no modulator clock was counted, from the counts ΔN and the shunt: the division of R355 has
no result there. (DESIGN CHOICE, log 64) -/
opaque emptyInterval : Int → Nat → Int

/-- Sine of 2πc/N in binary64 (R382: binary64 fixes no rounding of it). (DESIGN CHOICE, log 10) -/
opaque sin64 : Nat → Nat → F64

/-- Crossover in Hz of a loop gain given at bins 1 to 255, for an evaluation interval in timebase LSB (R228: how it lies between the
bins is not stated). (DESIGN CHOICE, log 69) -/
opaque crossover : List (F64 × F64) → Nat → Nat

/-- Phase margin of a loop gain in 0.1° (R228, the same). (DESIGN CHOICE, log 69) -/
opaque phaseMargin : List (F64 × F64) → Int

/-- Gain margin of a loop gain in 0.01 dB (R228, the same). (DESIGN CHOICE, log 69) -/
opaque gainMargin : List (F64 × F64) → Int

/-- How many coarse counts a run's START_TSTAMP lies ahead (R227: not stated). (DESIGN CHOICE, log 69) -/
opaque identLead : Nat

/-- Where a free value is used. -/
inductive Site where
  /-- random numbers of the security block: nonces, keys, session numbers (R126, R335, R337, R376) -/
  | random
  /-- coherences of an identification run (R225) and bins that no run has given -/
  | ident
  /-- outcome of a probe's phasors (R383) -/
  | probe
  /-- a value the spec does not state -/
  | unstated
  deriving DecidableEq, Repr

/-- A free value: the `n`-th use at a site, part `k`. Nothing constrains it. (DESIGN CHOICE, log 4) -/
opaque free : Site → Nat → Nat → Nat

/-- Byte at an offset of the 65,536-byte supervisory state that holds given items (R413: the layout within its sections is
not given). (DEDUCED, log 25) -/
opaque superByte : List SuperItem → Nat → Nat

/-- Does a positive phase φ shorten the next tide (R428 names the direction only as the one that reduces |φ|)? (DEDUCED, log 50) -/
opaque phaseShortens : Bool

/-- The value Sahoa programs into an OTP word of the part before shipment (R81), a function of the word. (DEDUCED, log 89) -/
opaque factory : Nat → Nat

/-- The value an identity word gives that is not GOOD (R85: no value). (DESIGN CHOICE, log 83) -/
opaque noIdentity : Nat → Nat

/-- Word of the ledger RAM that holds a word of a snapshot: its area, its epoch, the word within the area (R435: the layout of the
RAM is not given). (DESIGN CHOICE, log 84) -/
opaque ledgerPlace : Nat → Nat → Nat → Nat

/-- The Sahoa manufacturing-key digest held in the boot ROM (R101). (DEDUCED, log 9) -/
opaque sahoaDigest : Nat

end Sys2Proof.Config
end

