-- ==== Sys2Proof/Machine/State.lean ====
section
/-! DEFINITION. The state of the TRN8128 block as plain data: every register, buffer, counter, mode and pin the
spec gives it, the queue of waiting commands, the outcomes' reasons, and the state after a power-on reset. -/
namespace Sys2Proof.Machine

/-- Faults of the model. Every command of the TRN8128 has an effect in the spec, so no meaning raises one. -/
inductive Fault where
  /-- Kept so that the type is inhabited; no meaning raises it. Safe. -/
  | none
  deriving DecidableEq, Repr

/-- Refusals of the model. -/
inductive Refusal where
  /-- Raised by an arm of `exec` whose command has no meaning yet. Safe: the run stops. -/
  | notModelled (mnemonic : String)
  deriving DecidableEq, Repr

/-- The twelve operating modes (R32, Table 2-1). -/
inductive Mode where
  | off | keep | gaugeWatch | boot | stranded | configure | shadow | run | rideThrough | safeHold | lastGasp | service
  deriving DecidableEq, Repr

/-- The mode code of Table 2-1. -/
def Mode.code : Mode → Nat
  | .off => 0x0 | .keep => 0x1 | .gaugeWatch => 0x2 | .boot => 0x3 | .stranded => 0x4 | .configure => 0x5
  | .shadow => 0x6 | .run => 0x7 | .rideThrough => 0x8 | .safeHold => 0x9 | .lastGasp => 0xA | .service => 0xB

/-- A frame, datagram or bus transaction the chip has handed to one of its ports. -/
inductive Tx where
  /-- data phase of a host-port command (R109) -/
  | host (data : Bytes)
  /-- Ethernet datagram body on lane L4 or L5 (R128, R554, R471) -/
  | eth (port : Nat) (data : Bytes)
  /-- partner-link frame of the given TYPE (R397) -/
  | partner (ftype : Nat) (data : Bytes)
  /-- fabric frame of the given TYPE on lane L0 to L3 (R422) -/
  | fabric (port ftype : Nat) (data : Bytes)
  /-- Tideline symbol content, kind 0 beacon, others per Table 13-x (R323) -/
  | tideline (kind : Nat) (data : Bytes)
  /-- bytes a two-wire target returns, or a controller transaction it starts (R536, R541) -/
  | twoWire (port : Nat) (data : Bytes)
  /-- value shifted out of the JTAG TAP or the debug access port (R561, R563) -/
  | jtag (data : Bytes)
  deriving DecidableEq, Repr

/-- Retention words 0 to 7 by field (R49, Tables 2-7 and 2-8). -/
structure Retention where
  code : Nat := 0            -- word 0 [31:24]
  attempts : Nat := 0        -- word 0 [23:20]
  fromMode : Nat := 0        -- word 0 [19:16]
  source : Nat := 0          -- word 0 [15:8]
  prior : Bool := false      -- word 0 [1]
  stranded : Bool := false   -- word 0 [0]
  firstFailS : Nat := 0      -- word 1
  lastFailNs : Nat := 0      -- words 2 and 3
  attemptCodes : Nat := 0    -- word 4
  pwrenState : Nat := 0      -- word 5 [15:12]
  pgState : Nat := 0         -- word 5 [11:8]
  strandedCount : Nat := 0   -- word 6 [31:16]
  crc : Nat := 0             -- word 7
  deriving DecidableEq, Repr

/-- The reset-cause register by field (R78, Table 3-6). -/
structure ResetCause where
  faultSrc : Nat := 0        -- [31:23]
  fromMode : Nat := 0        -- [19:16]
  count : Nat := 0           -- [15:8]
  orderly : Bool := false    -- [4]
  cause : Nat := 0           -- [3:0]
  deriving DecidableEq, Repr

/-- What started a wake series (R45, R59, R75). -/
inductive SeriesKind where
  | wake | chipReset | lastGaspRestart
  deriving DecidableEq, Repr

/-- Where the present wake attempt stands (R46, Table 2-5; R47). -/
inductive WakePhase where
  /-- no attempt, no spacing -/
  | idle
  /-- PWREN number `n` asserted, its PG awaited (steps 1 to 5) -/
  | waitPg (n : Nat)
  /-- all PG good, crystal awaited (step 6) -/
  | waitCrystal
  /-- steps 5 and 6 done, domains being switched (step 7) -/
  | switching
  /-- domains on, internal resets still held (step 8) -/
  | releasing
  /-- the 100 ms after a failure -/
  | spacing
  deriving DecidableEq, Repr

/-- The wake controller (R45 to R49, R58, R59, R75, R76). -/
structure Wake where
  phase : WakePhase := .idle
  kind : SeriesKind := .wake
  /-- a chip-reset or Last-gasp-restart series waiting to start -/
  pending : Option SeriesKind := none
  /-- mode code that the pending series records as FROM_MODE -/
  pendingFrom : Nat := 0
  /-- the 10 ms after a chip reset has passed (R75) -/
  pendingReady : Bool := false
  crystalOn : Bool := false
  crystalReady : Bool := false
  /-- a wake command was ignored because its source is disabled (STATUS bit 7, R548) -/
  wakeIgnored : Bool := false
  deriving DecidableEq, Repr

/-- A brace in force (R51, R52). -/
structure Brace where
  /-- monitors that caused it, bit n for source 240 + n -/
  causes : Nat
  /-- lowest voltage seen per monitor, mV -/
  minMv : Tab Nat
  deriving DecidableEq, Repr

/-- The Last-gasp sequence (R56, Table 2-12). -/
inductive GaspPhase where
  | none | ramping | rampsDone
  deriving DecidableEq, Repr

/-- An orderly shutdown under R37. -/
structure Shutdown where
  target : Mode
  /-- mailbox whose MODE.SET waits, none when the long press ordered it -/
  mailbox : Option Nat
  /-- steps 1 and 2 done -/
  recorded : Bool
  deriving DecidableEq, Repr

/-- A chip reset between its first action and its entry into Keep (R75). -/
structure ChipReset where
  orderly : Bool
  fromMode : Nat
  deriving DecidableEq, Repr

/-- Operating mode, power domains, wake-up, supplies and reset (chapters 2 and 3). -/
structure Power where
  mode : Mode := .keep
  /-- the mode before the last change; in Service, the mode it was entered from (R508) -/
  fromMode : Mode := .off
  /-- mode held before the last entry into Keep or Gauge-watch (R43) -/
  retainedMode : Mode := .off
  modeEpoch : Nat := 0
  /-- RTC at the last entry into Configure, ns, for UPTIME_S -/
  configureNs : Int := 0
  pwren : Nat := 0           -- bit 0 CORE, 1 ANA, 2 SD, 3 IO (R42)
  pg : Nat := 0              -- same order (R42)
  /-- bit n set: power domain n is on (Table 2-3) -/
  domains : Nat := 2
  wake : Wake := {}
  ret : Retention := {}
  cause : ResetCause := {}
  chipReset : Option ChipReset := none
  /-- armed supply monitors, bit n for source 240 + n, n below 23 (R50) -/
  armed : Nat := 0
  /-- monitors now below their warning level -/
  below : Nat := 0
  brace : Option Brace := none
  /-- monitors under a brace at some time of the present tide (R51) -/
  dipTide : Nat := 0
  inuvTripped : Bool := false
  gasp : GaspPhase := .none
  /-- INUV has recovered during the Last-gasp sequence (R59) -/
  gaspRecovered : Bool := false
  shutdown : Option Shutdown := none
  serviceSession : Nat := 0     -- session under which Service was entered (R38)
  /-- an orderly reset scheduled by SVC.RESET or OTP.LIFECYCLE: its mailbox, 16 for one already freed (R520, R526) -/
  svcReset : Option Nat := none
  longPress : Bool := false  -- a long press has been performed (R36, R271)
  /-- long press steps begun, force-off pending (R271) -/
  longPressActive : Bool := false
  /-- the counted fall of the present press occurred in a firmware mode or Gauge-watch (R272) -/
  pbMayBeLong : Bool := false
  /-- a long press has been made and PB_N has not been high for 50 ms since (R272) -/
  pbAfterLong : Bool := false
  /-- VDDIO_A and VDDIO_B measured as 3.3 V (R581), bits 0 and 1 -/
  bank33 : Nat := 0
  bankMeasured : Bool := false
  -- pins
  wakeN : Bool := true
  pbN : Bool := true
  resetN : Bool := true
  dbgen : Bool := false
  /-- ALIVE output running (R488, R489) -/
  alive : Bool := false
  deriving DecidableEq, Repr

/-- State the always-on domain retains (R43). -/
structure Retained where
  rtcNs : Nat := 0
  alarmNs : Nat := 0
  wakeEnable : Nat := 7
  autoRestart : Bool := false
  gaugeWakeBoot : Bool := false
  /-- SEQ of the last flushed record; none after a power-on reset -/
  seq : Option Nat := none
  /-- DIE_ID copy for the TW0 responder (Table 20-5) -/
  dieId : Nat := 0
  /-- trims in the always-on latches, kept while VAON stays present; empty: untrimmed (R86) -/
  trims : List (Option Nat) := []
  /-- TARGET_ADDR copy of TW0 (Table 20-2, effect A) -/
  tw0Addr : Nat := 0x4A
  /-- next CAPSULE_NO, counted since the last power-on reset (Table 9-9) -/
  capsuleNo : Nat := 0
  deriving DecidableEq, Repr

/-- Clocks, tide generator and clock monitors (R62 to R73). -/
structure Clocks where
  tideReleased : Bool := false
  epoch : Nat := 0
  epochHi : Nat := 0
  /-- the first tide boundary since the release has passed (R70) -/
  running : Bool := false
  /-- RTC at the boundary that began the present tide (R524) -/
  tideNs : Nat := 0
  /-- reference cycles of the present tide (R70, R428) -/
  tideCycles : Nat := 50000
  /-- PLLs out of lock: bits 0 W, 1 P, 2-5 L0-3, 6-9 T0-3, 10 N, 11 G (sources 2 to 13) -/
  pllLost : Nat := 0
  refLost : Bool := false     -- all PLLs in holdover, 10 ms running
  rtcLost : Bool := false     -- PLL-G holdover
  chargeHoldover : Bool := false
  holdoverTide : Bool := false -- contributions of this tide flagged holdover (R73)
  clkout : Bool := false
  rcOut : Bool := false       -- always-on RC out of range
  deriving DecidableEq, Repr

/-- Block resets in force, one flag per block code of R480. -/
structure BlockHold where
  held : Nat := 0
  deriving DecidableEq, Repr

/-- One OTP logical word (R80): primary, copy, and the twelve cells of the state field, cells 3i to 3i + 2 for state bit i. -/
structure OtpWord where
  primary : Nat := 0
  copy : Nat := 0
  cells : Nat := 0
  deriving DecidableEq, Repr

/-- Cells of state bits 0 to `n` - 1 programmed (R83). -/
def stateCells (n : Nat) : Nat := 2 ^ (3 * n) - 1

/-- A word programmed and sealed (R83). -/
def sealedWord (v : Nat) : OtpWord := { primary := v, copy := v, cells := stateCells 4 }

/-- An OTP programming operation in progress (R91 to R96): the word being programmed and the order it belongs to. `filling`
marks the fill of words 40 to 47 after the Retired marker (R92). `cut` is the free value that says how far an interruption
would find the word (R95). -/
structure OtpJob where
  word : Nat
  value : Nat
  mailbox : Nat
  filling : Bool := false
  cut : Nat := 0
  deriving DecidableEq, Repr

/-- The OTP array, its Boot latches and its controller (chapter 4). -/
structure Otp where
  words : Tab OtpWord := []
  lifecycle : Nat := 0        -- latch: 0 Blank, 1 Provisioned, 2 Deployed, 3 Retired (R88)
  debugLevel : Nat := 2       -- latch: 0 open, 1 service-only, 2 closed (R89)
  /-- boot-signer digests 0 and 1 as delivered to the boot ROM, none unless GOOD (R86) -/
  digest0 : Option Nat := none
  digest1 : Option Nat := none
  /-- device secret at the key port of the security block, none unless GOOD (R86) -/
  secretKey : Option Nat := none
  /-- trims of words 48 to 79 as delivered, none for the mid-scale default (R85, R86) -/
  trims : List (Option Nat) := []
  sensed : Bool := false
  /-- spares switched in, one entry per (bank, kind, spare) used (R495) -/
  sparesUsed : List (Nat × Nat × Nat) := []
  job : Option OtpJob := none
  deriving DecidableEq, Repr

/-- One copy of the slot table in the firmware NOR (R98, Table 4-10); erased flash reads as ones. -/
structure SlotTable where
  magic : Nat := 0xFFFFFFFF
  version : Nat := 0xFFFFFFFF
  offsetA : Nat := 0xFFFFFFFF
  offsetB : Nat := 0xFFFFFFFF
  sequenceA : Nat := 0xFFFFFFFF
  sequenceB : Nat := 0xFFFFFFFF
  crc : Nat := 0xFFFFFFFF
  stateA : Nat := 0xFF
  stateB : Nat := 0xFF
  deriving DecidableEq, Repr

/-- A slot-table write that is not yet complete (R99): the mark of a slot's state byte in one copy, or the rewrite of one
copy as a whole. -/
inductive TableWrite where
  | mark (copy slot value : Nat)
  | rewrite (copy : Nat) (table : SlotTable)
  deriving DecidableEq, Repr

/-- The store port's sampling tap and clock toward one device (R601). -/
structure StorePort where
  tap : Option Nat := none
  khz : Nat := 0
  deriving DecidableEq, Repr

/-- Boot ROM, firmware NOR slots and the watchdog (R98 to R106). -/
structure Boot where
  /-- Table 4-14 step reached: 0 none, 1 sensed, 2 initialised, 4 flash ready, 6 image started, 7 mounted -/
  step : Nat := 0
  /-- the two copies of the slot table, and the one in use (R98, R99) -/
  table0 : SlotTable := {}
  table1 : SlotTable := {}
  tableCopy : Nat := 0
  /-- header and body bytes of the slots in the NOR, by offset; an unlisted byte is erased (R100) -/
  dataA : Tab Nat := []
  dataB : Tab Nat := []
  /-- rejection codes of the present Boot (R102) -/
  codeA : Nat := 0
  codeB : Nat := 0
  /-- slot-table writes under way, the first of them running; `cut` is the free value that says what an interruption leaves -/
  writes : List TableWrite := []
  cut : Nat := 0
  /-- sampling tap and clock of CS0 (R601) -/
  cs0 : StorePort := {}
  running : Nat := 0
  /-- slots still to try, in R103 order -/
  order : List Nat := []
  romErrors : Nat := 0        -- uncorrectable boot-ROM reads in this series (R494)
  watchdogArmed : Bool := false
  watchdogPaused : Bool := false
  written : Nat := 0          -- FW.WRITE bytes since the image start (R521)
  /-- slot being written, its erased 64 KiB blocks as a bitmap -/
  writeSlot : Nat := 0
  erased : Nat := 0
  selfTestFail : Nat := 0     -- bit 0 AES, 1 CMAC, 2 SHA-256, 3 ECDSA (source 284)
  rngFail : Bool := false     -- source 285
  deriving DecidableEq, Repr

/-- Who holds a mailbox (MB_OWNER, Table 5-4). -/
inductive Owner where
  | free | host | ethernet | tw0
  deriving DecidableEq, Repr

/-- A mailbox's live bits (R116, R119). -/
structure Mailbox where
  busy : Bool := false
  done : Bool := false
  owner : Owner := .free
  /-- QUIET_DONE of the completed request (R117) -/
  quiet : Bool := false
  /-- accepted feature set in force at the doorbell (R132) -/
  feats : Nat := 1
  /-- for an Ethernet request: lane of arrival, COUNTER and the key of its session (R128, R505) -/
  port : Nat := 4
  counter : Nat := 0
  key : Nat := 0
  deriving DecidableEq, Repr

/-- State of a session (R124 to R126). -/
inductive SessState where
  | closed | openS | proving
  deriving DecidableEq, Repr

/-- One session (R124 to R134). -/
structure Session where
  state : SessState := .closed
  privilege : Nat := 0        -- 0 observe, 1 operate, 2 service
  keyId : Nat := 0
  transport : Nat := 0        -- 0 host port, 1 Ethernet, 2 TW0
  idleS : Nat := 600
  features : Nat := 0         -- accepted set, bit i
  offered : Bool := false     -- a FEAT.OFFER has completed with OK
  nonce : Nat := 0            -- ND, 128 bits
  key : Nat := 0              -- KS, 128 bits
  counter : Nat := 0          -- last COUNTER accepted (R129)
  request : Bytes := []       -- that request's bytes
  response : Bytes := []      -- its stored response
  notes : Nat := 0            -- LOG.NOTE in the present second (R471)
  deriving DecidableEq, Repr

/-- Host-port registers (R116), sessions and keys (chapter 5). -/
structure HostPort where
  txnStatus : Nat := 0        -- TXN_STATUS[7:0]
  irqTxn : Bool := false
  irqButton : Bool := false
  irqGeneration : Bool := false
  irqModeChange : Bool := false
  irqSealed : Bool := false
  irqEnable : Nat := 1
  hostMask : Nat := 0x0FFF    -- MB_HOST_MASK as written
  ownMask : Nat := 0x0FFF     -- the mask in force per mailbox (R118)
  mb : Tab Mailbox := []
  sealedEpoch : Nat := 0
  errorCount : Nat := 0
  hrdy : Bool := false
  /-- mailbox RAM bytes, offset from 0x01_0000 -/
  ram : List Host.Cell := []
  /-- user RAM bytes, offset from 0x10_0000 -/
  user : List Host.Cell := []
  /-- user RAM written map: a word number with its four byte bits (R497) -/
  userWritten : Tab Nat := []
  /-- accepted orders not yet started, oldest first (R120) -/
  orders : List Nat := []
  sessions : Tab Session := []
  nextSession : Nat := 1
  /-- device nonces given since Boot, none of which comes again (R126) -/
  nonces : List Nat := []
  hostKey : Option Nat := none      -- host-service key record (R127)
  datagramKey : Option Nat := none
  hostKeyInstalled : Bool := false  -- as judged at Configure or at the install (R127)
  failedProofs : List (Nat × Nat) := []  -- KEY_ID and tide of each failed proof not older than 60 s
  keyLocked : Nat := 0              -- bit KEY_ID: locked out for 60 s
  negotiated : Nat := 1             -- features accepted in some session since Configure
  busyRun : Nat := 0                -- consecutive requests answered BUSY (source 306)
  deriving DecidableEq, Repr

/-- What an order that has started still waits for. -/
inductive WaitKind where
  /-- live OBJ.SET (R143) -/
  | objSet (entries : List (Nat × Int))
  | commitStore | commitPartner | commitBoundary | commitApplied
  | keyInstall (kind key : Nat)
  | otpProgram | lifecycle (target : Nat) | otpRead
  | fwWrite (slot offset len : Nat) | fwCommit (slot : Nat)
  | logNote
  | logClear (upto : Nat) | logFormat (first : Nat)
  | modeSet (target : Mode)
  | twTransfer
  | timeSet (ns : Nat)
  | chanStart (outs : Nat) | chanStop (outs how : Nat)
  | chanClear (outs : Nat)
  | budgetShed (polders : Nat) | budgetRestore (polders : Nat)
  | gaugeProbe (strings ampl cycles : Nat) (ns : List Nat) | gaugeAbort | gaugeWake | gaugeReseed (strings action : Nat)
  | rectWithdraw (rects action : Nat) | rectRotate | rectForget (rects : Nat)
  | chanApply (out : Nat)
  | rootInstall (key : Nat)
  | evict (node : Nat)
  | sluiceYield
  | withdraw
  | reseed (mask op : Nat)
  | header (clear : Bool)
  | blockReset (block : Nat)
  deriving DecidableEq, Repr

/-- A started order that is not yet answered. -/
structure Waiting where
  mailbox : Nat
  session : Nat
  what : WaitKind
  /-- a tide boundary less than 50 µs after the order's check has passed (R143, R147, R275) -/
  passed : Bool := false
  deriving DecidableEq, Repr

/-- Committed, staged and stored descriptions (chapter 6). Keys are object ID × 65,536 + field code. -/
structure Desc where
  committed : Tab (Option Int) := []
  /-- the edit's session, none when no edit is open (R141) -/
  edit : Option Nat := none
  staged : Tab (Option Int) := []
  /-- the staged image replaces every field (R153) -/
  stagedWhole : Bool := false
  /-- a commit's captured staged set and new sequence (R141, R147) -/
  captured : Tab (Option Int) := []
  capturedWhole : Bool := false
  capturedSeq : Nat := 0
  committing : Bool := false
  /-- image bytes received by OBJ.LOAD -/
  load : Tab Nat := []
  /-- the content of the image a commit writes (R147, step 2) and the copy it goes to -/
  image : Tab (Option Int) := []
  copy : Nat := 0
  /-- the epoch the boundary of step 5 began -/
  commitEpoch : Nat := 0
  sequence : Nat := 0         -- DESC_SEQUENCE
  digest : Nat := 0           -- DESC_DIGEST
  loadStatus : Nat := 1
  liveDiverged : Bool := false
  /-- stored copies 0 and 1: sequence, entries, APPLIED word, major version right -/
  store0Seq : Nat := 0xFFFFFFFF
  store0 : Tab (Option Int) := []
  store0Applied : Nat := 0xFFFFFFFF
  store0Valid : Bool := false
  store0Major : Bool := true
  store1Seq : Nat := 0xFFFFFFFF
  store1 : Tab (Option Int) := []
  store1Applied : Nat := 0xFFFFFFFF
  store1Valid : Bool := false
  store1Major : Bool := true
  /-- the stored copy whose APPLIED word the last boundary of step 5 left to be programmed, and the copies whose write failed: it is
  repeated (R149) -/
  appliedCopy : Nat := 0
  appliedPending : List Nat := []
  /-- an adoption's store write: its copy, its sequence, its content (R155) -/
  adoptCopy : Nat := 0
  adoptSeq : Nat := 0
  adoptImage : Tab (Option Int) := []
  /-- DESC frames collected from the active, and the adoption they lead to (R155) -/
  rxImage : Tab Nat := []
  adopt : Option Nat := none
  adoptPassed : Bool := false
  adoptSet : Tab (Option Int) := []
  /-- the partner acknowledged the image of this sequence (R147, R148) -/
  partnerAck : Nat := 0
  /-- tide count at which the image was last sent again (R148) -/
  resentAt : Option Nat := none
  deriving DecidableEq, Repr

/-- A logbook record (R450, Table 17-1). -/
structure LogRec where
  seq : Nat := 0
  cls : Nat := 0
  source : Nat := 0
  flags : Nat := 0
  payload : Bytes := []
  chain : Nat := 0
  crc : Nat := 0
  deriving DecidableEq, Repr

/-- What waits for an offered record to be staged or flushed. -/
inductive OfferUse where
  | plain
  /-- the generation record of a claim (R411) -/
  | generation
  /-- LOG.NOTE of a mailbox, answered once staged (R471) -/
  | note (mailbox session : Nat)
  /-- the wake-history record (R49) -/
  | wakeHistory
  /-- the reset-cause record at Boot (R79) -/
  | resetCause
  /-- a capsule head of a cluster (R242) -/
  | capsuleHead (cluster number event : Nat)
  deriving DecidableEq, Repr

/-- A record a producer has offered and that waits for room (R455). `event` is the EVENT of a prefixed record. -/
structure LogOffer where
  cls : Nat
  source : Nat
  event : Option Nat
  items : Bytes
  flags : Nat
  use : OfferUse
  deriving DecidableEq, Repr

/-- One status and one record of the logbook window copy (R465). -/
structure LogSlot where
  status : Nat := 2
  entry : LogRec := {}
  deriving DecidableEq, Repr

/-- A store header copy (Table 17-4). `kind`: 0 blank, 1 well formed, 2 anything else. -/
structure StoreHeader where
  kind : Nat := 0
  dieId : Nat := 0
  capacity : Nat := 0
  gen : Nat := 0
  clears : Nat := 0
  tail : Nat := 0
  hint : Nat := 0
  format : Nat := 0
  epochMark : Nat := 0
  deriving DecidableEq, Repr

/-- A logbook or ledger subscription over Ethernet (R441, R471). -/
structure Subscription where
  id : Nat
  session : Nat
  /-- true for the logbook, false for the ledger -/
  log : Bool
  kind : Nat
  row : Nat
  decim : Nat
  /-- next SEQ to push (logbook), or the push SEQ (ledger) -/
  next : Nat
  classes : Nat
  gone : Nat
  deriving DecidableEq, Repr

/-- A flush burst in flight (R456): its SEQs, whether it is a rewrite, and the free value that says how far a power failure
would find its write (R61). -/
structure Burst where
  first : Nat
  last : Nat
  rewrite : Bool
  cut : Nat := 0
  deriving DecidableEq, Repr

/-- The logbook: staging, store, window and producers (chapter 17). -/
structure Logbook where
  mounted : Bool := false
  unbacked : Bool := false
  storeState : Nat := 0         -- STATE of LOG.STATUS
  next : Nat := 1               -- next SEQ
  lastChain : Nat := 0
  chainKey : Nat := 0           -- K_L latch (R451)
  head : Nat := 0               -- highest flushed SEQ
  mountHead : Nat := 0          -- HEAD as the last mount of a store with a header of this device found it (R462)
  tail : Nat := 1               -- TAIL_SEQ
  formatSeq : Nat := 1
  hintSeq : Nat := 1
  epochMark : Nat := 0          -- extended epoch of the latest time mark known to the mount (R429)
  flushedMark : Nat := 0        -- extended epoch of the latest time mark flushed
  capacity : Nat := 0
  gen : Nat := 0
  clears : Nat := 0
  damaged : Nat := 0
  mountEvent : Nat := 0
  /-- staging ring by SEQ (R455) -/
  staging : Tab LogRec := []
  offers : List LogOffer := []
  watch : List (OfferUse × Nat) := []
  burst : Option Burst := none
  failedBursts : Nat := 0
  unflushedMax : Nat := 0
  -- the CS1 device
  storeBytes : Nat := 0         -- 0 while absent
  /-- sampling tap and clock of CS1 (R601) -/
  cs1 : StorePort := {}
  header0 : StoreHeader := {}
  header1 : StoreHeader := {}
  /-- the record area by slot -/
  store : Tab LogRec := []
  -- window (Table 17-5)
  cursorLo : Nat := 0
  cursorHi : Nat := 0           -- applied
  cursorHiHeld : Nat := 0       -- as written
  loading : Bool := false
  loadEpoch : Nat := 0
  loadHead : Nat := 0
  loadTail : Nat := 0
  loadUnbacked : Bool := false
  window : Tab LogSlot := []
  /-- capsule heads staged since Boot, most recent first: SEQ, number, cluster, event, complete -/
  capsules : List (Nat × Nat × Nat × Nat × Nat) := []
  subs : List Subscription := []
  /-- CURRENT of each string in the cycle of the last checkpoint, which R377 uses again -/
  ckptCurrent : Tab Int := []
  deriving DecidableEq, Repr

/-- Per-source record of the collector (R478, Table 18-13). -/
structure FaultSrc where
  count : Nat := 0
  pending : Bool := false
  present : Bool := false     -- the condition is present
  lastEpoch : Nat := 0
  lastEvent : Nat := 0
  lastClass : Nat := 0
  window : Nat := 0           -- escalation window (extended epoch / 1,000) of the counter below
  windowCount : Nat := 0
  escalated : Bool := false
  holdsAlive : Bool := false  -- an event of it acted with ALIVE_STOP (R489)
  deriving DecidableEq, Repr

/-- A queued fault entry (R482, R485). -/
structure FaultEntry where
  epoch : Nat
  source : Nat
  cls : Nat
  event : Nat
  repeats : Nat
  reaction : Nat
  data : Bytes
  count : Nat
  deriving DecidableEq, Repr

/-- An entry of the host ring (R482). -/
structure RingEntry where
  qseq : Nat := 0
  epoch : Nat := 0
  source : Nat := 0
  cls : Nat := 0
  event : Nat := 0
  repeats : Nat := 0
  reaction : Nat := 0
  data : Bytes := []
  deriving DecidableEq, Repr

/-- What the fault summary window shows: the collector at the last seal (R486). -/
structure FaultWindow where
  epoch : Nat := 0
  ringHead : Nat := 0
  alive : Nat := 0
  depth : Nat := 0
  overflow0 : Nat := 0
  overflow1 : Nat := 0
  overflow2 : Nat := 0
  overflow3 : Nat := 0
  src : Tab FaultSrc := []
  aliveHold : Tab Bool := []
  minCls : Tab Nat := []         -- MIN_CLASS and REACTIONS in force at the latch
  react : Tab Nat := []
  ring : Tab RingEntry := []
  deriving DecidableEq, Repr

/-- ECC counters of one memory instance (R500). -/
structure EccCounters where
  corrected : Nat := 0
  uncorrectable : Nat := 0
  poisoned : Nat := 0
  persistent : Nat := 0
  uninitialised : Nat := 0
  passes : Nat := 0
  rowsUsed : Nat := 0
  colsUsed : Nat := 0
  lastBank : Nat := 0
  lastRow : Nat := 0
  /-- word the patrol scrubber reads next (R491) -/
  scrub : Nat := 0
  /-- words corrected in the pass before and in the present pass, with their column -/
  lastPass : Tab Nat := []
  thisPass : Tab Nat := []
  /-- poisoned or uncorrectable words -/
  bad : Tab Bool := []
  deriving DecidableEq, Repr

/-- One merge-buffer entry (R492): instance, word, byte mask. -/
structure MergeEntry where
  inst : Nat
  word : Nat
  mask : Nat
  value : Nat
  deriving DecidableEq, Repr

/-- The fault collector and the memories' integrity logic (chapter 18). -/
structure Faults where
  src : Tab FaultSrc := []
  queue : List FaultEntry := []
  /-- held source 319: its REPEAT and the overflows it stands for (R484) -/
  held319 : Option (Nat × Nat) := none
  overflow0 : Nat := 0
  overflow1 : Nat := 0
  overflow2 : Nat := 0
  overflow3 : Nat := 0
  ring : Tab RingEntry := []
  nextQseq : Nat := 0
  read : Nat := 0
  win : FaultWindow := {}
  latchWin : FaultWindow := {}  -- contribution 16 of the last boundary
  /-- tides since the warden last wrote its heartbeat register (R489) -/
  heartbeatMissed : Nat := 0
  ecc : Tab EccCounters := []
  merge : List MergeEntry := []
  /-- a TRAP has been delivered to the warden and not yet taken (R480) -/
  trap : Bool := false
  /-- events raised in the present tide, by class (Table 16-5) -/
  raised : Tab Nat := []
  safeHoldDue : Option Nat := none  -- a Safe-hold recorded at the next tide boundary, by source
  deriving DecidableEq, Repr

/-- State of a channel (CH_STATE of Table 7-11; braking is kept apart, in `Chan.braking`). -/
inductive ChState where
  | off | test | switching | forcedOff | lockedOut | notOwned
  deriving DecidableEq, Repr

/-- The comparator threshold codes of a channel (R180, R183). -/
structure Thresholds where
  current : Nat := 0
  overshoot : Nat := 0
  release : Nat := 0
  trip : Nat := 0
  deriving DecidableEq, Repr

/-- The gate waveform of the present period, edges in timebase LSB after its period start (Table 7-4): both gates low, PWML high
throughout, or PWMH from `rise` to `fall` and PWML from `low` on. -/
inductive Drive where
  | off
  | lowOn
  | pulse (rise fall low : Nat)
  deriving DecidableEq, Repr

/-- PWMH at an instant of the period. -/
def Drive.high : Drive → Nat → Bool
  | .pulse r f _, t => decide (r ≤ t) && decide (t < f)
  | _, _ => false

/-- PWML at an instant of the period. -/
def Drive.low : Drive → Nat → Bool
  | .off, _ => false
  | .lowOn, _ => true
  | .pulse _ _ l, t => decide (l ≤ t)

/-- One bank of a channel's coefficients (R220): the fields of Table 8-7 that the loop reads, and the profile limits of the output
that the channel leads. The values are the fields' reset values. -/
structure Coeffs where
  kp : Nat := 65536
  ki : Nat := 256
  kd : Nat := 0
  dFilt : Nat := 2
  dMin : Nat := 0
  dMax : Nat := 943718
  intPreset : Int := 0
  rejectCount : Nat := 2
  shareGain : Nat := 512
  shareLimit : Nat := 10486
  gtSplit : Nat := 0
  gtp : List Nat := List.replicate 16 0x4000400040004000
  gtn : List Nat := List.replicate 16 0x4000400040004000
  velLimit : Nat := 1000000
  accLimit : Nat := 1000000
  jerkLimit : Nat := 2000000
  deriving DecidableEq, Repr

/-- What a channel's duty words did in the present mirror cycle (Table 15-7). -/
structure DutyCycle where
  sum : Nat := 0
  count : Nat := 0
  clamp : Bool := false
  inject : Bool := false
  rejected : Bool := false
  off : Bool := true
  cut : Bool := false
  deriving DecidableEq, Repr

/-- What a channel adds up over a tide for the snapshot (Table 16-5). -/
structure TideSums where
  iSum : Int := 0               -- current samples, mA
  iCount : Nat := 0
  dSum : Nat := 0               -- duty words written
  dCount : Nat := 0
  cuts : Nat := 0               -- pulses the current comparator cut
  clamp : Bool := false
  braking : Bool := false
  cut : Bool := false
  windowExit : Bool := false
  deriving DecidableEq, Repr

/-- One channel: timebase, comparators and engine slot (chapters 7 and 8). -/
structure Chan where
  state : ChState := .off
  -- pins
  pen : Bool := false
  flt : Bool := false           -- FLT_N is low, or has been high for less than 10 µs (R187)
  -- registers of Table 7-11
  cause : Nat := 0              -- FAULT_CAUSE
  isOffset : Int := 0
  ocpCount : Nat := 0
  osCount : Nat := 0
  brakeTimeouts : Nat := 0
  shiftCount : Nat := 0
  shiftMax : Nat := 0
  refCode : Nat := 0
  -- timebase
  shadow : Nat := 0             -- D in the shadow register (R175)
  shadowOld : Nat := 0          -- the word before the last one written to it
  working : Nat := 0
  tOn : Nat := 0                -- on-time of the present period
  periods : Nat := 0            -- period starts since the quadrant epoch: the present n is one less (R170)
  tStart : Nat := 0             -- the present period start, LSB after the quadrant epoch
  sampleAt : Option Nat := none -- sample instant of the present period where it is due, LSB after the quadrant epoch (R176)
  drive : Drive := .off         -- waveform of the present period
  now : Nat := 0                -- instant of the channel's last timed command, LSB after the period start
  -- coefficient RAM (R220)
  bank0 : Coeffs := {}
  bank1 : Coeffs := {}
  bank : Bool := false          -- the active bank is bank1
  swapDue : Bool := false       -- the inactive bank holds a change
  bankBad : Bool := false       -- a word of it read uncorrectable: both banks are rewritten at the next tide (R493)
  thr : Thresholds := {}
  -- present period
  braking : Bool := false       -- R184; on a controller without the token it counts and drives nothing (R190)
  brakeAt : Nat := 0            -- when braking began, LSB after the quadrant epoch
  brakeArmed : Bool := true     -- below the release level since the last braking (R184)
  belowRelease : Bool := true   -- has been below the release level since the last truncation (R185)
  cutNow : Bool := false        -- cut, braked, truncated or skipped in the present period (R205)
  cutPrev : Bool := false       -- the same in the previous period
  ocpNow : Bool := false        -- pulse cut by the current comparator in the present period (R181)
  ocpRun : Nat := 0             -- consecutive such periods
  ocpRaised : Bool := false     -- OCP_PERSIST raised in this run of cut periods
  tempWarn : Bool := false      -- temperature warning of the phase (R262)
  tempFault : Bool := false     -- its sensor has failed (R262)
  -- shorted high-side test (R191, R192)
  v0 : Option Nat := none       -- output-referred µV, none where not measurable
  probe : Nat := 0              -- output-referred µV
  suspect : Bool := false
  tripped : Bool := false
  testSum : Int := 0            -- S of the last 256 samples
  -- engine slot (Table 8-7)
  duty : Nat := 0
  share : Int := 0              -- s_j
  gtIndex : Nat := 0
  evalCount : Nat := 0
  satCount : Nat := 0
  rejectTotal : Nat := 0
  windowExits : Nat := 0
  curSum : Int := 0             -- current samples since the last accumulation, mA
  curCount : Nat := 0
  curMean : Int := 0            -- Ī_j
  cutInterval : Bool := false   -- cut (R205) was true since the last accumulation
  clamp : Option Nat := none    -- cluster clamp in force on the channel, mA (R280)
  -- standby comparison (chapter 15)
  mirState : Nat := 0           -- CH_STATE copied from the active (R399)
  runCounter : Nat := 0
  /-- its duty words of the present mirror cycle -/
  cyc : DutyCycle := {}
  wordA : Nat := 0x10000000     -- WORD_A; OFF is 1 at reset (Table 15-7)
  wordS : Nat := 0x10000000
  tide : TideSums := {}         -- sums of the present tide (R434)
  deriving DecidableEq, Repr

/-- The coefficients in force: those of the active bank (R220). -/
def Chan.coef (c : Chan) : Coeffs := if c.bank then c.bank1 else c.bank0

/-- The level at PWMH as the channel's last timed command left it. -/
def Chan.pwmh (c : Chan) : Bool := decide (c.state = .switching) && c.drive.high c.now

/-- The level at PWML as the channel's last timed command left it. -/
def Chan.pwml (c : Chan) : Bool := decide (c.state = .switching) && c.drive.low c.now

/-- PROFILE_STATE codes (Table 8-7). -/
inductive ProfState where
  | idle | moving | braking | arrived | lastGasp
  deriving DecidableEq, Repr

/-- PROFILE_STATE as reported. -/
def ProfState.code : ProfState → Nat
  | .idle => 0 | .moving => 1 | .braking => 2 | .arrived => 3 | .lastGasp => 4

/-- The profile state a reported code stands for. -/
def ProfState.ofCode (n : Nat) : ProfState :=
  if n = 1 then .moving else if n = 2 then .braking else if n = 3 then .arrived else if n = 4 then .lastGasp else .idle

/-- The profile generator of an output (R213). -/
structure Profile where
  x : Int := 0
  v : Int := 0
  a : Int := 0
  brake : Bool := false
  target : Nat := 0             -- last target taken
  state : ProfState := .idle
  x0 : Nat := 0                 -- V_SP at entry into Last-gasp (R218)
  deriving DecidableEq, Repr

/-- The compensator state of an output, on its lead (R204). -/
structure Comp where
  ist : Int := 0
  dst : Int := 0
  u : Int := 0
  ePrev : Int := 0
  rejRun : Nat := 0
  p : Int := 0                  -- P term of the last evaluation (Table 9-6)
  first : Bool := true          -- the next evaluation is the first of the run (R208)
  deriving DecidableEq, Repr

/-- Why an output was stopped: LAST_STOP codes (Table 6-10). -/
abbrev StopCause := Nat

/-- The sub-steps of a start (Table 10-2) while OUTPUT STATE is 1, 2 or 7. -/
inductive SeqPhase where
  | none
  | waiting        -- start conditions not all met
  | delay          -- START_DELAY running
  | testing        -- shorted high-side test
  | rising         -- soft start, RISE_DEADLINE running
  | holding        -- arrived, GOOD_HOLD running
  | stopPending    -- ordered stop waits for dependants
  | stopping       -- ramping to 0
  deriving DecidableEq, Repr

/-- Identification run of an output (chapter 9). -/
structure Ident where
  state : Nat := 0              -- 0 none, 1 running, 2 complete, 3 aborted
  reason : Nat := 0
  quality : Nat := 0
  epoch : Nat := 0
  ampl : Nat := 0
  pm : Nat := 0
  gm : Nat := 0
  gmLarge : Nat := 0
  evals : Nat := 0              -- lead evaluations since the start
  lfsr : Nat := 0
  /-- injection in progress; the present chip value; on the standby, the evaluation it starts at (R224, R227) -/
  inj : Bool := false
  chip : Int := 0
  startAt : Option Nat := none
  fcRef : Nat := 0
  pmRef : Int := 0
  gmRef : Int := 0
  fcNew : Nat := 0
  pmNew : Int := 0
  gmNew : Int := 0
  g : Nat := 0
  mGm : Nat := 0
  applied : Nat := 0
  appliedEpoch : Nat := 0
  gtp : List Nat := []
  gtn : List Nat := []
  proposal : Bool := false
  auto : Bool := false
  /-- tides in STATE 3 at which the next scheduled run, and a retry of an aborted one, are due (R231) -/
  nextRun : Nat := 10000
  retryAt : Option Nat := none
  retries : Nat := 0
  /-- RE and IM of the bins of the last completed run, none where it gave no number (R225) -/
  bins : List (Option (Int × Int)) := []
  /-- a proposal to apply at the next boundary: 1 by CHAN.APPLY, 2 automatically (R230, R232) -/
  applyDue : Nat := 0
  announced : Bool := false     -- its fields are in the supervisory state for the next boundary (R232)
  sumE : Tab Int := []
  sumD : Tab Int := []
  deriving DecidableEq, Repr

/-- One output: sequencer, profile, compensator, capping (chapters 6 to 11). -/
structure Out where
  state : Nat := 0              -- OUTPUT STATE
  lastStop : StopCause := 0
  wanted : Bool := false
  triesLeft : Nat := 3
  phase : SeqPhase := .none
  goodTides : Nat := 0          -- tide boundaries passed in STATE 3
  holdUs : Nat := 0             -- time of the GOOD_HOLD that has passed in window, 0.1 µs
  inHold : Bool := false        -- an in-window scan has begun the hold (R252)
  leaving : Bool := false       -- disabled by a commit while driven: its ordered stop goes on (R147)
  held : Bool := false          -- a start is held (R19, R267)
  stopTide : Nat := 0           -- tide count at the stop, for RESTART_DELAY
  shutAt : Nat := 0             -- scanner slots converted when the scanner shut it down
  supvCount : Nat := 0          -- scanner filter count
  tmpCount : Nat := 0
  tmpWarnCount : Nat := 0
  tmpCoolCount : Nat := 0
  tmpBadCount : Nat := 0
  lowCode : Nat := 0            -- LOW_CODE
  highCode : Nat := 4095        -- HIGH_CODE
  winOk : Bool := false         -- the last scan judged it in its window
  prof : Profile := {}
  comp : Comp := {}
  ident : Ident := {}
  -- capping (R276 to R286)
  eLast : Int := 0              -- last 10 µs power estimate, mW
  eSum : Int := 0               -- sum over the tide
  eCount : Nat := 0
  limited : Bool := false       -- a phase was limited in the tide
  limitedPrev : Bool := false
  power : Int := 0              -- p_k of the tide that ended
  cap : Option Nat := none      -- I_CAP per phase, mA (R286)
  deriving DecidableEq, Repr

/-- One trace entry (Table 9-6). -/
structure TraceEntry where
  tstamp : Nat := 0
  error : Nat := 0
  channel : Nat := 0
  gtIndex : Nat := 0
  p : Int := 0
  ist : Int := 0
  dst : Int := 0
  duty : Nat := 0               -- [19:0] duty, [31:20] current code
  setpoint : Nat := 0
  eval : Nat := 0
  deriving DecidableEq, Repr

/-- A capsule that a cluster is collecting or staging (R241, R242). -/
structure Capsule where
  number : Nat := 0
  event : Nat := 0
  output : Nat := 0
  mode : Nat := 0
  decim : Nat := 0
  preCount : Nat := 0
  postLeft : Nat := 0
  epoch : Nat := 0
  tstamp : Nat := 0
  missed : Nat := 0
  /-- its entries, oldest first: the ring's at the event, then those written since, until it is frozen for staging -/
  entries : List TraceEntry := []
  frozen : Bool := false
  headStaged : Bool := false
  nextFragment : Nat := 0
  deriving DecidableEq, Repr

/-- A loop sample that waits for its engine: nominal instant, channel, VSP − VSN and ISP − ISN in nV, and the time since the entry
into Last-gasp. -/
structure Sample where
  at_ : Nat
  ch : Nat
  v : Int
  i : Int
  gaspNs : Nat
  deriving DecidableEq, Repr

/-- One loop engine (R177, R199). -/
structure Engine where
  /-- the last sample taken: channel, nominal and actual instant, LSB after the quadrant epoch -/
  last : Option (Nat × Nat × Nat) := none
  slot : Nat := 3               -- the slot served last; the first service starts from slot 0
  ready : List Sample := []     -- samples of one instant that wait for an earlier slot's
  deriving DecidableEq, Repr

/-- A loop cluster: trace buffer, capture, identification units, freeboard accumulator (chapters 8, 9, 11). -/
structure Cluster where
  state : Nat := 1              -- capture state of Table 9-7
  mode : Nat := 1
  decim : Nat := 2
  channels : Nat := 0
  pre : Nat := 0
  trigNode : Nat := 0
  trigEdge : Nat := 0
  trigMask : Nat := 0x200
  trigChannel : Nat := 0
  xout : Nat := 0
  trigLevel : Int := 0
  holdS : Nat := 10
  host : Bool := false          -- the capture was set by TRACE.SETUP
  captureId : Nat := 0
  ring : List TraceEntry := []  -- oldest first
  written : Nat := 0            -- entries written since the arming
  trigAt : Nat := 0             -- number of the trigger entry among them
  trigEpoch : Nat := 0
  trigSource : Nat := 0
  triggered : Bool := false
  /-- conditions met that wait for the next entry: of their channel, or of any captured one -/
  trigPending : List (Nat × Option Nat) := []
  lastNode : Option Int := none -- TRIG_NODE of TRIG_CHANNEL at its last entry
  evalCount : Tab Nat := []     -- evaluations per channel since decimation started
  capsules : Nat := 0
  missed : Nat := 0
  /-- its capsules being collected or staged, oldest event first -/
  capsuleQueue : List Capsule := []
  capEnable : Bool := true
  capPost : Nat := 256
  capEvents : Nat := 0xF
  -- freeboard accumulator
  share : Tab Nat := []         -- ceiling share per polder in force (R23)
  lastSum : Tab Int := []       -- last accumulation sum per polder
  maxSum : Tab (Option Int) := []  -- largest of the present tide per polder, none before the first accumulation
  tideSum : Tab Int := []       -- largest of the last tide with an accumulation, as its contribution has it (R277)
  clamped : Nat := 0            -- bit q: clamp of polder q in force
  clampBegan : Nat := 0         -- clamps begun in the tide
  clampReleased : Nat := 0      -- clamps released for the tide
  initialised : Bool := false   -- initialised flags of its memories (R498)
  engines : Tab Engine := []    -- its eight loop engines
  calibrating : Bool := false   -- its quadrant's converters calibrate (R168)
  deriving DecidableEq, Repr

/-- The supervision scanner (R255 to R264). -/
structure Scanner where
  slot : Nat := 0               -- next slot
  total : Nat := 0              -- slots converted since the scanner started
  codes : Tab Nat := []         -- last code per slot
  flags : Tab Nat := []         -- bit 0 outside window or level, bit 1 count complete
  gndBad : Bool := false        -- this scan's slot 356 failed
  badRun : Nat := 0             -- consecutive failing scans
  goodRun : Nat := 0
  withheld : Bool := false
  mapBad : Bool := false        -- a map word reads uncorrectable (R493)
  refreshed : Nat := 0          -- tides since the windows were refreshed (source 311)
  deriving DecidableEq, Repr

/-- One polder (R278, R289). -/
structure Polder where
  causes : Nat := 0
  shedTaken : Bool := false     -- the shed of R290 is in effect
  loadBefore : Int := 0         -- load in the tide before its shed
  load : Int := 0
  freeboard : Int := 0x7FFFFFFF
  hist : List Int := []         -- loads of the last 100 tides, newest first
  capped : Bool := false
  want : Nat := 0               -- a[q] before the priority loop (R286, R442)
  alloc : Nat := 0              -- a[q] after it (R286, R434)
  okTides : Nat := 0            -- tides the shelf freeboard has stayed high enough for it (R293)
  hwFree : Tab Int := []        -- hardware freeboard per quadrant (Table 11-1)
  deriving DecidableEq, Repr

/-- Where B_s came from (LIMIT_SOURCE of Table 11-6). -/
abbrev LimitSource := Nat

/-- Shelf budget, spillway and ride-through (chapter 11). -/
structure Budget where
  load : Int := 0               -- L_s
  limit : Option Nat := none    -- B_s, none unlimited
  limitSource : LimitSource := 0
  freeboard : Int := 0x7FFFFFFF
  deficitNow : Bool := false
  deficitTides : Nat := 0
  /-- polder whose shed must complete before deficit tides count again, and the tides waited -/
  awaitShed : Option (Nat × Nat) := none
  deficitLogged : Bool := false
  sinceClear : Nat := 2000      -- tides since the last deficit clearance
  sinceRuntimeClear : Nat := 2000
  clearing : Bool := false      -- runtime causes are being cleared (R300)
  acLoss : Bool := false        -- the AC-loss condition holds
  acGoodTides : Nat := 0        -- consecutive boundaries without the AC-loss condition and with the bus high enough (R296)
  acDown : Bool := false        -- the AC-loss condition has held and the AC-restored condition has not since
  rtActive : Bool := false      -- the Ride-through policy runs (mode Ride-through, or Service under R38)
  rtTides : Nat := 0            -- tides since its entry
  lastPrediction : Nat := 0xFFFFFFFF
  predictionEpoch : Nat := 0
  predictAt : Nat := 100        -- tides since the entry at which the next prediction is due (R297)
  runtimeShort : Bool := false
  shortLogged : Option Nat := none -- tide count of the last runtime-short record
  nextRuntime : Nat := 0        -- polders that receive the runtime cause at the next boundary
  frozen : Bool := false        -- capping frozen (R39)
  batteryHist : List Int := []  -- last 100 tides of battery power, newest first
  outHist : List Int := []      -- last 100 tides of the outputs' power, newest first
  shedPins : Nat := 0           -- SHED[15:0]
  kept : Nat := 0               -- polders with a kept output (R291)
  tides : Nat := 0              -- tide boundaries since Boot, the warden's time base
  deriving DecidableEq, Repr

/-- One rectifier (R305 to R317). -/
structure Rect where
  state : Nat := 0              -- 0 absent … 6 withdrawn
  cmdI : Nat := 0               -- CMD_CURRENT, mA
  cmdV : Nat := 0               -- CMD_VOLTAGE, µV
  cmdIWord : Nat := 0           -- CMD_I as sent
  cmdVWord : Int := 0           -- CMD_V as sent
  iOut : Int := 0
  vOut : Nat := 0
  pIn : Int := 0
  reportEpoch : Nat := 0
  reportTide : Nat := 0         -- tide count of the last report
  acTides : Nat := 0            -- consecutive tides in which it reported its AC input present (R296)
  reported : Bool := false      -- at least one report since the join
  eff : List Nat := []          -- e_b of bins 0 to 7
  samples : List Nat := []
  onlineS : Nat := 0
  onlineTides : Nat := 0        -- tides of STATE 1 not yet a whole second
  rank : Nat := 255
  missed : Nat := 0
  missRun : Nat := 0
  joined : Bool := false        -- on Tideline, or answering on its port
  withdrawn : Bool := false
  acLost : Bool := false
  unparkTide : Nat := 0         -- tide count at which it was unparked
  -- legacy
  trimL : Int := 0
  voutMode : Option Int := none -- exponent N
  badVout : Bool := false       -- VOUT_MODE is not LINEAR16 (R316)
  failRun : Nat := 0
  vcmd : Int := 0               -- last VOUT_COMMAND
  opDue : Option Nat := none    -- OPERATION to write at the next service (R316)
  deriving DecidableEq, Repr

/-- The staging plan and the share engine (R306 to R312). -/
structure Plan where
  short : Bool := false         -- PLAN_FLAGS [0]
  staging : Bool := false       -- PLAN_FLAGS [1]
  chgLim : Option Nat := none   -- CHG_LIM in the plan
  adj : Int := 0
  demand : List Nat := []       -- I_sh × V_bus / 10^6 of the last 1,000 tides, newest first
  pout : List Int := []         -- rectifier output power of the last 1,000 tides
  dHist : List Int := []        -- I_sh − I_bt + charge term of the last 1,000 beacon cycles
  nStar : Nat := 0              -- n* of the last boundary
  stagingTides : Nat := 0       -- tides since the last staging records
  stranger : Bool := false      -- stranger present, as the last boundary took it
  parkTides : Nat := 0          -- tides n* has stayed below the online count
  sincePark : Nat := 10000      -- tides since the last park
  up : List Nat := []           -- rectifiers in STATE 1 as the plan of this tide was made (R318)
  rotation : Bool := false      -- a rotation is in progress
  rotationTides : Nat := 0      -- tides of Run since the last rotation
  swapWait : Nat := 0           -- tides until the next pair
  swapIn : Option Nat := none   -- rectifier being unparked for a swap
  ageTides : Nat := 0           -- tides since the warden renewed the plan (Tideline source 12)
  deriving DecidableEq, Repr

/-- One Tideline node (R325 to R344). -/
structure Node where
  state : Nat := 0              -- 0 absent, 1 joining, 2 joined, 3 quiet, 4 lost
  cls : Nat := 0
  slot : Nat := 0
  share : Nat := 255
  map : Nat := 0
  txErr : Nat := 0
  moduleId : Nat := 0
  ks : Nat := 0
  sleeper : Bool := false
  droop : Nat := 0
  standalone : Nat := 0
  joinTide : Nat := 0           -- tide count of the JOIN_ACK
  missRun : Nat := 0            -- consecutive tides without a verified report
  snr : List Int := []          -- lowest per-carrier SNR of the last 100 reports, 0.1 dB, newest first
  freeAt : Option Nat := none   -- tide count at which a lost sleeper leaves (R344)
  lastEvent : Nat := 0          -- CODE of the last EVENT, acknowledged in the next downlink
  body : Bytes := []            -- last KIND 0x12 body
  stale : Bool := false
  deriving DecidableEq, Repr

/-- A downlink frame that waits for a DOWN6 cycle (R333); with `ks` its TAG is made as it is sent. -/
structure DownFrame where
  bytes : Bytes
  ks : Option Nat
  deriving DecidableEq, Repr

/-- The Tideline MAC (chapter 13). -/
structure Tideline where
  nodes : Tab Node := []
  cycle : Nat := 0              -- beacon cycles started in the present tide
  txErr : Nat := 0
  rxErr : Nat := 0
  quiet : Bool := false
  flags : Nat := 0              -- FLAGS of the last beacon
  ackLeft : Tab Nat := []       -- beacons left per common alarm code (R342)
  nodeAck : Option Nat := none  -- node alarm to acknowledge in the next beacon
  slotAck : Nat := 0            -- SLOT_ACK of the last completed pair
  slotNow : Nat := 0            -- verified slots of the present pair
  pairSched : Nat := 0          -- modules scheduled in the present pair
  down : List DownFrame := []   -- downlink frames waiting for a DOWN6 cycle
  downHist : List Bool := []    -- DOWN6 of the last 9 cycles, newest first
  wide : Bool := false          -- a wide beacon runs (R343)
  wideLeft : Nat := 0           -- its beacon cycles left
  quietTide : Nat := 0          -- tide count at which the controller went quiet
  stranger : Bool := false
  strangerTides : Nat := 0      -- tides without stranger energy
  strangerMap : Nat := 0        -- cycles of the tide with energy outside symbol 6, bit i
  strangerRun : Nat := 0        -- consecutive tides with at least 3 of them
  strangerSymbols : Nat := 0    -- of the present tide
  strangerLast : Nat := 0       -- of the last tide
  impulse : Nat := 0
  impulseLast : Nat := 0
  impulseRun : Nat := 0
  kg : Nat := 0
  kRoot : Option Nat := none    -- the key record's K_root
  rootInstalled : Bool := false
  packetInit : Bool := false    -- packet RAM initialised (R498)
  probe : Int := 0              -- probe modulation of the voltage commands, µV (R381)
  deriving DecidableEq, Repr

/-- The covariance of a string's filter, upper triangle and its mirror kept apart (R361). -/
structure Cov where
  ss : F64 := {}
  sa : F64 := {}
  sb : F64 := {}
  as : F64 := {}
  aa : F64 := {}
  ab : F64 := {}
  bs : F64 := {}
  ba : F64 := {}
  bb : F64 := {}
  deriving DecidableEq, Repr

/-- A gauge converter and its latches (R352 to R356). -/
structure Conv where
  raw : Int := 0                -- 48-bit RAW
  running : Bool := false       -- assigned to an enabled STRING or SHUNT object (R356)
  wakeStep : Nat := 0           -- wake comparator threshold, 10 µV steps (R371)
  ovr : Bool := false          -- over-range flag
  hib : Bool := false           -- stopped by hibernation
  tideRaw : Int := 0            -- latch at the last tide boundary
  tideClk : Nat := 0
  beaconRaw : Int := 0          -- latch at the last beacon strobe
  beaconClk : Nat := 0
  cycleRaw : Int := 0           -- latch at the last gauge cycle
  cycleClk : Nat := 0
  resid : Int := 0              -- resid of R355
  beaconMa : Int := 0           -- mean of the last beacon cycle
  tideMa : Int := 0             -- mean of the last tide
  deriving DecidableEq, Repr

/-- A completed point of a probe (R383). -/
structure ProbePoint where
  n : Nat
  re : Int
  im : Int
  quality : Nat
  iAmpl : Nat
  deriving DecidableEq, Repr

/-- One battery string (R359 to R385). -/
structure BString where
  state : Nat := 0
  soc : Nat := 0
  conf : Nat := 0
  sigma : Nat := 0
  remaining : Nat := 0
  full : Nat := 0
  eAvail : Nat := 0
  current : Int := 0
  voltage : Nat := 0
  temp : Int := 0
  rserEst : Nat := 0
  rserLearned : Bool := false
  jumpCount : Nat := 0
  lastJump : Int := 0
  jumpEpoch : Nat := 0
  chargeIn : Nat := 0
  chargeOut : Nat := 0
  uncounted : Nat := 0
  chgLim : Nat := 0
  chgLimited : Bool := false    -- the string states a charge limit (R368)
  disLim : Nat := 0
  fault : Nat := 0
  flags : Nat := 0
  -- filter (R361)
  s : F64 := {}
  vA : F64 := {}
  vB : F64 := {}
  p : Cov := {}
  gated : Nat := 0
  restCycles : Nat := 0
  restS : Option F64 := none    -- s kept at the last confident rest (R364)
  restQ : Int := 0              -- cumulative charge then
  cumQ : Int := 0               -- cumulative counted charge, µAh
  -- table string (R365, R366)
  qRem : Int := 0
  sigmaT : F64 := {}
  discharge60 : List Int := []  -- currents of the last 60 cycles, newest first
  fullCycles : Nat := 0
  sinceFull : Option Int := none -- cumulative charge at the last full anchor
  wasAboveMin : Bool := true
  -- taps and module
  vSum : Nat := 0               -- STRV scans of the cycle
  vCount : Nat := 0
  tSum : Int := 0
  tCount : Nat := 0
  lastV : Nat := 0              -- last STRV reading, µV
  insertPending : Bool := false -- above 5 V for 2 s, awaits the next gauge cycle
  hibTemp : Int := 0
  hibNs : Nat := 0              -- hibernated interval not yet accounted, ns
  modI : Int := 0
  modChg : Option Nat := none   -- module CHG_LIMIT, mA
  modDis : Option Nat := none   -- module DIS_LIMIT, mW
  modTMax : Int := 0
  modStatus : Nat := 1
  modSeen : Bool := false
  modMiss : Nat := 0            -- consecutive missed reports
  diffCycles : Nat := 0         -- cycles of the current difference of R369
  ocvCheck : Bool := false      -- the OCV check of R380 is due
  limOn : Bool := false         -- contributes limits (R368)
  firstCycle : Bool := false    -- restored or awaited at Boot: the next gauge cycle is its first (R375)
  -- last probe (GAUGE.PROBERESULT)
  probeState : Nat := 0
  probeReason : Nat := 0
  probeStart : Nat := 0
  probeEnd : Nat := 0
  probeTemp : Int := 0
  probeSoc : Nat := 0
  probePoints : List ProbePoint := []
  deriving DecidableEq, Repr

/-- Sums of a string over measured cycles of a probe (R383): currents in mA and STRV voltages in µV, each turned back by its phase. -/
structure Phasor where
  i : C64 := {}
  v : C64 := {}
  k : Nat := 0                  -- STRV scans
  deriving DecidableEq, Repr, Inhabited

/-- A running probe (R381 to R384). -/
structure Probe where
  strings : Nat
  ampl : Nat
  cycles : Nat
  ns : List Nat                 -- frequencies still to measure, the first one running
  c : Nat                       -- beacon cycles since the start of the present frequency
  auto : Bool
  lastMean : Tab Int            -- mean current of the previous period per string
  sum : Tab Int                 -- sum of the beacon-cycle currents of the present period
  from_ : Nat                   -- scanner slots counted when the window of the present frequency began
  now : Tab Phasor              -- sums of the measured period that runs, per string
  periods : Tab (List Phasor)   -- sums of the measured periods that ended, oldest first
  temps : Tab Int               -- TEMP summed per beacon cycle of the probe, and how many
  ticks : Nat
  dropped : Nat                 -- strings inserted, removed or over-range during it (R384)
  deriving DecidableEq, Repr

/-- The gauge (chapter 14). -/
structure Gauge where
  clk : Nat := 0
  conv : Tab Conv := []
  strings : Tab BString := []
  shuntIn : Tab Nat := []       -- CHARGE_IN of SHUNT objects
  shuntV : Tab Nat := []        -- VOLTAGE of SHUNT objects
  shuntFault : Tab Nat := []
  shuntSum : Tab Nat := []      -- codes of a shunt's slot in the present tide, and how many
  shuntCnt : Tab Nat := []
  hib : Bool := false
  hibFrom : Nat := 0            -- RTC ns at entry
  idleFrom : Nat := 0           -- RTC ns at the last comparator wake or the end of the last probe (R371, R387)
  probe : Option Probe := none
  sinceProbe : Nat := 0         -- seconds since the last completed probe
  probeRetry : Nat := 0         -- seconds to the retry, 0 none
  ckptNo : Nat := 0
  session : Nat := 0            -- gauge session of Table 14-6
  busV : Option Nat := none     -- bus voltage of the tide, µV
  cycleAt : Option Nat := none  -- extended epoch of the last gauge cycle
  dip : Bool := false           -- a brace overlapped the present gauge cycle (R387)
  deriving DecidableEq, Repr

/-- Where a claim of the gate token stands (R393). -/
inductive ClaimPhase where
  | none
  /-- step 1: SLUICE_PEER must stay low for 1 µs -/
  | waitLow
  /-- steps 2 and 3: SLUICE_OWN raised, SLUICE_PEER sampled 200 ns later -/
  | raised
  /-- step 5: collision, backoff running -/
  | backoff
  deriving DecidableEq, Repr

/-- One partner-link lane, L6 or L7 (R395). -/
structure PeerLane where
  block : Bool := false
  up : Bool := false
  deriving DecidableEq, Repr

/-- Loop words of a channel latched at a mirror strobe (Table 15-5). -/
structure ChanLatch where
  ist : Int := 0
  dst : Int := 0
  u : Int := 0
  share : Int := 0
  ibar : Int := 0
  ePrev : Int := 0
  rejRun : Nat := 0
  chState : Nat := 0
  deriving DecidableEq, Repr

/-- Profile words of an output latched at a mirror strobe (Table 15-6). -/
structure OutLatch where
  x : Int := 0
  v : Int := 0
  a : Int := 0
  profile : Nat := 0            -- [2:0] PROFILE_STATE, [3] brake
  state : Nat := 0
  deriving DecidableEq, Repr

/-- The correction a MIRROR or HANDOVER frame leaves for a channel's next evaluation (R399). -/
structure ChanFix where
  ist : Int := 0
  dst : Int := 0
  u : Int := 0
  share : Int := 0
  ibar : Int := 0
  chState : Nat := 0
  deriving DecidableEq, Repr

/-- A response to an operate order that waits for the flush of the claim's generation record (R411). -/
structure HeldReply where
  mailbox : Nat
  status : Nat
  payload : Bytes
  epoch : Nat
  deriving DecidableEq, Repr

/-- Sluice redundancy (chapter 15). -/
structure Sluice where
  own : Bool := false           -- SLUICE_OWN
  peer : Bool := false          -- SLUICE_PEER
  presN : Bool := true          -- PEER_PRES_N
  linkPowered : Bool := false   -- partner-link lanes powered (R618)
  generation : Nat := 0
  partnerGen : Nat := 0
  genSeen : Nat := 0            -- latest generation received (R411)
  genHeld : Bool := false       -- the claim's generation record is not yet flushed (R411)
  qCounts : List Nat := []      -- coarse counts of the quadrants at the last mirror strobe (R398)
  qDelta : List Int := []       -- the active's counts less the own ones at the same strobe (R398)
  heldReplies : List HeldReply := []
  selfTest : Nat := 0           -- clusters whose once-per-second test runs (R403)
  dropped : Bool := false       -- a held token has been dropped (R392)
  claim : ClaimPhase := .none
  claimAuto : Bool := false     -- the claim is that of AUTO_RUN (R154)
  collisions : Nat := 0
  nibble : Nat := 0
  lane6 : PeerLane := {}
  lane7 : PeerLane := {}
  laneDelay : Int := 0          -- ns
  lagNs : Int := 0              -- standby's lag behind its active, ns
  rxSeq : Tab (Option Nat) := []
  txSeq : Tab Nat := []
  -- last HELLO
  hello : Bool := false
  pDie : Nat := 0
  pMode : Nat := 0
  pRole : Nat := 0
  pFit : Nat := 0
  pDesc : Nat := 0
  pTstamp : Nat := 0
  -- mirror
  latch : Tab ChanLatch := []
  latchOut : Tab OutLatch := []
  fix : Tab (Option ChanFix) := []
  fixOut : Tab (Option OutLatch) := []
  mirrorAge : Nat := 0xFFFF     -- 100 ns units
  strobe : Nat := 0             -- mirror strobe within the tide, 0 to 49 (Table 15-4)
  mirrorGot : Bool := true      -- a MIRROR arrived since the last strobe
  summaryGot : Bool := true
  mirrorsApplied : Nat := 0
  mirrorsLost : Nat := 0
  -- comparison and challenge
  cmpState : Nat := 0
  doubted : Nat := 0
  referred : Nat := 0
  tested : Nat := 0
  passed : Nat := 0
  testing : Nat := 0            -- clusters whose challenge test is awaited
  doubts : Nat := 0
  takeovers : Nat := 0
  lastCause : Nat := 0
  handoverEpoch : Nat := 0
  partnerEvents : Nat := 0
  withdrawn : Bool := false
  partnerLongPress : Bool := false
  restoreTests : Option (Nat × Nat) := none -- SLUICE.WITHDRAW ACTION 1: clusters left, clusters passed
  -- handover received and not yet used
  handover : Option (Nat × Nat) := none     -- CAUSE, NO_APPLY
  -- overlap of the old active (R412)
  overlap : Bool := false
  oldOrders : List Nat := []
  macStopped : Bool := false
  -- supervisory state (R413)
  superEpoch : Nat := 0
  superGot : Tab Bool := []
  superData : List SuperItem := []
  superLast : Nat := 10         -- tides since the last set was applied, saturating at 10
  tookOver : Bool := false      -- takeover within the present epoch
  deriving DecidableEq, Repr

/-- One fabric lane, L0 to L3 (R421, R426). -/
structure FabLane where
  block : Bool := false
  up : Bool := false
  nRoot : Option Nat := none    -- ROOT of the neighbour's latest SYNC
  nDepth : Nat := 0
  deriving DecidableEq, Repr

/-- Sums of one row (R445). -/
structure RowSum where
  count : Nat := 0
  subst : Nat := 0
  limitKw : Nat := 0
  d : Nat := 0
  f : Nat := 0
  w : Nat := 0
  deriving DecidableEq, Repr

/-- A sealed local snapshot: its extended epoch, generation and 16,384 bytes (R434, R435). -/
structure Snap where
  epoch : Nat
  generation : Nat
  fab : Option Nat              -- fabric epoch of the tide
  bytes : Bytes
  deriving DecidableEq, Repr

/-- A sealed fabric snapshot (R438). -/
structure FabSnap where
  epoch : Nat                   -- fabric epoch, 64 bits
  present : Tab Bool
  rowPresent : Tab Bool
  summaries : Tab Bytes
  fulls : Tab Bytes
  sealUs : Nat
  deriving DecidableEq, Repr

/-- The ledger: contributions, snapshots and the ledger window (R28, R29, R433 to R441). -/
structure Ledger where
  /-- expected contributions of the tide being gathered, by index -/
  expected : Nat := 0
  arrived : Nat := 0
  /-- the tide at the last boundary is not yet sealed -/
  open_ : Bool := false
  dip : Nat := 0
  holdover : Nat := 0
  late : Nat := 0
  deadlineSeals : Nat := 0
  tideCycles : Nat := 50000     -- of the tide being gathered
  epoch : Nat := 0              -- extended epoch of the tide being gathered
  /-- the body as latched at the boundary, in pieces by owning contribution, and each piece's last present value -/
  latchBody : List (Nat × Bytes) := []
  latchMode : Nat := 0          -- mode code and FLAGS [1] and [5] latched with it (Table 16-3)
  latchFlags : Nat := 0
  lastBody : List Bytes := []
  snaps : List Snap := []       -- oldest first
  fabs : List FabSnap := []     -- oldest first
  cursor : Nat := 0
  fabPage : Nat := 0
  rxEpoch : Nat := 0
  rx : Tab Bytes := []
  deriving DecidableEq, Repr

/-- The Levee fabric and the capping reduction (R420 to R449). -/
structure Fabric where
  lane0 : FabLane := {}
  lane1 : FabLane := {}
  lane2 : FabLane := {}
  lane3 : FabLane := {}
  root : Nat := 0
  depth : Nat := 0
  parent : Option Nat := none   -- parent port
  isRoot : Bool := false
  noLower : Nat := 0            -- tides without a SYNC naming a lower root
  noSync : Nat := 0             -- tides without a SYNC from the parent
  synced : Bool := false        -- one has arrived in this tide
  lowerHeard : Bool := false
  theta : Int := 0              -- ps
  thetaRun : Nat := 0           -- tides with |θ| above 1 µs
  steered : Bool := false       -- θ taken this tide
  t1 : Int := 0
  t2 : Int := 0
  t3 : Int := 0
  syncOffset : Int := 0
  /-- fabric-epoch offset: local extended epoch minus fabric epoch (R431) -/
  offset : Int := 0
  nextCycles : Nat := 50000
  slew : Bool := false          -- the next tide is slewed (R428)
  slewNow : Bool := false       -- the present one is
  /-- broadcasts delivered: SRC, TYPE, fabric epoch -/
  seen : List (Nat × Nat × Nat) := []
  /-- latest delivered SUMMARY per address and FULL per column, and the epoch it describes -/
  latest : Tab Bytes := []
  latestEpoch : Tab Nat := []
  fulls : Tab Bytes := []
  fullEpoch : Tab Nat := []
  sealedF : Option Nat := none  -- fabric epoch sealed last
  -- reduction
  memberD : Tab RowSum := []    -- values a row root summed, by column
  rowSums : Tab RowSum := []    -- latest ROWSUM by row, at the root
  rowSumEpoch : Tab Nat := []
  rowAllow : Option Nat := none -- this row's allowance, none unlimited
  rowAllowEpoch : Option Nat := none
  allow : Nat := 0xFFFFFFFF     -- ALLOWANCE in force
  allowEpoch : Nat := 0
  pendAllow : Option (Nat × Nat) := none -- allowance received and its fabric epoch
  pendRelay : Option (Nat × Nat) := none
  relayed : Nat := 0xFFFFFFFF
  held : Nat := 0
  holdDue : Bool := false       -- no allowance came by the boundary of step 5 (R445)
  allowStale : Bool := false
  disagree : Nat := 0
  lastSummary : Bytes := []     -- own latest records
  lastFull : Bytes := []
  deriving DecidableEq, Repr

/-- What a controller transaction is for (R541). -/
inductive TwUse where
  /-- receive byte at the Alert Response Address (R543) -/
  | alert
  /-- STATUS_WORD after an alert -/
  | alertStatus (dev : Nat)
  /-- legacy service of a rectifier: transaction number within R316's service -/
  | legacy (rect part : Nat)
  /-- VOUT_MODE of a sensor -/
  | sensorMode (sensor : Nat)
  | sensorPage (sensor : Nat)
  | sensor (sensor : Nat)
  | transfer (mailbox : Nat)
  deriving DecidableEq, Repr

/-- One two-wire port (chapter 20). -/
structure TwPort where
  alertLow : Bool := false      -- ALERT_N low (TW1 to TW7)
  targetBusy : Bool := false    -- a transaction as target is in progress
  running : Bool := false       -- the transaction at the front of `queue` is on the bus
  arbLost : Nat := 0
  errors : Nat := 0
  retries : Nat := 0            -- of the present transaction after lost arbitration
  /-- transactions of the present window, in the order they are served -/
  queue : List TwUse := []
  transfers : List Nat := []    -- mailboxes of waiting TW.TRANSFER orders
  deriving DecidableEq, Repr

/-- A TWDEV's reported fields (Table 20-2). -/
structure TwDev where
  state : Nat := 0
  nacks : Nat := 0
  pecErrors : Nat := 0
  lastStatus : Nat := 0
  deriving DecidableEq, Repr

/-- A SENSOR's reported fields (Table 20-3). -/
structure Sensor where
  value : Int := 0
  valueEpoch : Nat := 0
  state : Nat := 0
  failures : Nat := 0
  failRun : Nat := 0
  mode : Option Int := none     -- exponent of VOUT_MODE
  badMode : Bool := false       -- VOUT_MODE is not LINEAR16
  sinceMs : Nat := 0            -- ms since the last read
  read : Bool := false          -- read at least once
  deriving DecidableEq, Repr

/-- The always-on responder of TW0 (R547). -/
inductive Responder where
  | asleep | waking | awake
  deriving DecidableEq, Repr

/-- The two-wire ports (chapter 20). -/
structure TwoWire where
  ports : Tab TwPort := []
  devs : Tab TwDev := []
  sensors : Tab Sensor := []
  -- TW0 mailbox transport
  tState : Nat := 0
  tOffset : Nat := 0
  tBuf : List Host.Cell := []
  tMailbox : Option Nat := none
  responder : Responder := .asleep
  alertAnswered : Bool := false -- ALERT_N released after an alert response
  deriving DecidableEq, Repr

/-- One management Ethernet port (R551, R552). -/
structure EthPort where
  up : Bool := false
  dadDone : Bool := false       -- the link-local address is usable
  duplicate : Bool := false
  /-- register 1.1 of the device at the lane's port address as read last, none where no device answers (R556) -/
  phy : Option Nat := none
  deriving DecidableEq, Repr

/-- A PTP Announce as the best-master choice compares it (R558). -/
structure Announce where
  port : Nat
  priority1 : Nat
  quality : Nat                 -- clock class, accuracy and variance as one ordered number
  priority2 : Nat
  identity : Nat
  steps : Nat
  timescale : Bool
  deriving DecidableEq, Repr

/-- Management Ethernet and PTP (R551 to R560). -/
structure Ethernet where
  l4 : EthPort := {}
  l5 : EthPort := {}
  /-- L4 or L5 of each session's last request; its push address is the session's (R554, R555) -/
  peerPort : Tab Nat := []
  pushCounter : Tab Nat := []
  master : Option Announce := none
  rtcState : Nat := 0
  good : Nat := 0               -- consecutive offset measurements within ±1 µs
  syncT1 : Int := 0
  syncT2 : Int := 0
  syncPending : Bool := false   -- two-step Sync awaiting its Follow_Up
  delayT3 : Int := 0
  delayPending : Bool := false
  delay : Int := 0
  offset : Int := 0             -- PTP_OFFSET, ns
  rate : Int := 0               -- ppb
  stepDue : Option Int := none  -- RTC step at the next boundary (R560)
  deriving DecidableEq, Repr

/-- A hardware semaphore (R565): holder pair and the copy of its region. -/
structure Semaphore where
  holder : Option Nat := none
  copy : Bytes := []
  region : Bytes := []
  busError : Bool := false      -- the former holder meets a bus error
  deriving DecidableEq, Repr

/-- JTAG and debug access (R561 to R567). -/
structure Debug where
  instr : Nat := 0x02           -- TAP instruction in force; IDCODE after a TAP reset
  boundary : Bytes := []        -- boundary register as preloaded, in the order of the BSDL file
  scanHold : Bool := false      -- every domain but always-on, OTP and TAP held in reset (R562)
  result : Nat := 0             -- lower word's error bit and data of the last access
  halted : Nat := 0             -- bit per pair
  breakpoints : Nat := 0
  semaphores : Tab Semaphore := []
  /-- words of the warden debug space, by address -/
  wardenSpace : Tab Nat := []
  deriving DecidableEq, Repr

/-- What OBJ.GET and the status orders show of the last sealed epoch (R197): copies taken at a tide boundary. -/
structure View where
  epoch : Nat := 0
  chan : Tab Chan := []
  out : Tab Out := []
  polder : Tab Polder := []
  budget : Budget := {}
  rect : Tab Rect := []
  plan : Plan := {}
  strings : Tab BString := []
  conv : Tab Conv := []
  shuntIn : Tab Nat := []
  shuntV : Tab Nat := []
  shuntFault : Tab Nat := []
  devs : Tab TwDev := []
  sensors : Tab Sensor := []
  nodes : Tab Node := []
  scanCodes : Tab Nat := []
  scanFlags : Tab Nat := []
  scanStatus : Nat := 0
  clamped : Tab Nat := []
  /-- MEMBERS of each polder (R158) -/
  members : Tab Nat := []
  /-- EVAL_INTERVAL of each channel (R221) -/
  intervals : Tab Nat := []
  gaugeHib : Bool := false
  probing : Bool := false
  descSequence : Nat := 0
  descDigest : Nat := 0
  loadStatus : Nat := 1
  liveDiverged : Bool := false
  present : Bool := false
  role : Nat := 0
  partnerDie : Nat := 0
  lanesUp : Nat := 0
  partnerSequence : Nat := 0
  deriving DecidableEq, Repr

/-- The whole block. Every field holds a piece of state the spec names, but for the model's own `sent` (what the ports
have sent), `freeCount` (free values used) and `pending` (commands that wait). -/
structure State where
  power : Power := {}
  retained : Retained := {}
  clocks : Clocks := {}
  hold : BlockHold := {}
  otp : Otp := {}
  boot : Boot := {}
  host : HostPort := {}
  desc : Desc := {}
  log : Logbook := {}
  faults : Faults := {}
  chan : Tab Chan := []
  out : Tab Out := []
  cluster : Tab Cluster := []
  scan : Scanner := {}
  polder : Tab Polder := []
  budget : Budget := {}
  rect : Tab Rect := []
  plan : Plan := {}
  tide : Tideline := {}
  gauge : Gauge := {}
  sluice : Sluice := {}
  ledger : Ledger := {}
  fabric : Fabric := {}
  tw : TwoWire := {}
  eth : Ethernet := {}
  dbg : Debug := {}
  latchView : View := {}
  sealedView : View := {}
  waiting : List Waiting := []
  sent : List Tx := []
  freeCount : Nat := 0
  pending : List Instr := []
  deriving DecidableEq, Repr

/-- The OTP words as the part is sold (R81): the Provisioned marker, the device secret, the trims, the spare map and the
identity are programmed, with the values of the single part; the stepping code is B1. (DEDUCED, log 89) -/
def factoryWords : Tab OtpWord :=
  [(0, sealedWord 0x5A5AA5A5)]
    ++ (countFrom 88 40).map (fun i => (i, sealedWord (Config.factory i % 2 ^ 32)))
    ++ (countFrom 7 192).map (fun i => (i, sealedWord (Config.factory i % 2 ^ 32)))
    ++ [(199, sealedWord (Config.factory 199 % 2 ^ 24 * 256 + 0x21))]

/-- The machine right after a power-on reset of the always-on domain (R53, R590): mode Keep, every rail off, the OTP as the
part is sold. (DESIGN CHOICE, log 3; DESIGN CHOICE, log 90) -/
def State.reset : State := { otp := { words := factoryWords } }

end Sys2Proof.Machine
end

