-- ==== Sys2Proof/Machine/Control.lean ====
section
/-! DEFINITION. The fixed arithmetic of sensing, pulse generation and the control law (chapters 7 and 8): the
formulas of the rules as functions of numbers, with no state of the chip. -/
namespace Sys2Proof.Machine

/-- `sat32` of R201. -/
def sat32 (v : Int) : Int := satS 32 v

/-- Reference DAC code before the hold at full scale (R165, halves upward by R617). -/
def refCodeRaw (vspUv vsRatio : Nat) : Nat :=
  (2 * (vspUv * 2 ^ 40) + vsRatio * 1200000) / (2 * (vsRatio * 1200000))

/-- Reference DAC code (R165). -/
def refCode (vspUv vsRatio : Nat) : Nat := min 65535 (refCodeRaw vspUv vsRatio)

/-- Error code before the hold at the window's limits, VSP − VSN given in nV (R166, halves upward by R617): the reference is
CODE × 1,200,000,000 / 65,536 nV, an LSB 500,000 nV. -/
def errorRaw (code : Nat) (v : Int) : Int := rdiv (code * 1200000000 - v * 65536) (65536 * 500000)

/-- Is an error code within the window (R166)? -/
def inWindow (e : Int) : Bool := decide (-512 ≤ e) && decide (e ≤ 511)

/-- Current code of ISP − ISN in nV, an LSB 73,242.1875 nV (R167). -/
def currentAdc (i : Int) : Int := clampI (-2048) 2047 (rdiv (i * 128) 9375000)

/-- Reference DAC codes nearest 0.256 V, 0.768 V and 1.2 V, the last one held at full scale (Table 7-9, step 1). -/
def testSteps : List Nat := [13981, 41943, 65535]

/-- The output-referred voltage in µV that an error code measures against a reference code, 0 where it is negative. -/
def outReferred (code : Nat) (e : Int) (vsRatio : Nat) : Nat :=
  (rdiv ((code * 1200000000 - e * (65536 * 500000)) * vsRatio) (65536 * 2 ^ 24 * 1000)).toNat

/-- Current in mA of a current-ADC code (R167). -/
def currentMa (code isOffset : Int) (isTransr : Nat) : Int :=
  let k := (4800000000 + isTransr / 2) / isTransr
  sar ((code - isOffset) * k) 16

/-- Start of period `n` after the quadrant epoch, in timebase LSB (R170). -/
def periodStart (phase period n : Nat) : Nat := phase * period / 2 ^ 20 + n * period

/-- The first period whose start lies after an instant (R170, R171). -/
def firstAfter (phase period t : Nat) : Nat :=
  if t < periodStart phase period 0 then 0 else (t - periodStart phase period 0) / period + 1

/-- High-side on-time of a duty word (R172). -/
def onTime (d period : Nat) : Nat := (d * period + 2 ^ 19) / 2 ^ 20

/-- The on-time after the dead times' limit (R174). -/
def onTimeLimited (d period dtRise dtFall : Nat) : Nat :=
  let t := onTime d period
  if period < dtRise + t + dtFall then period - dtRise - dtFall else t

/-- The waveform of a period in which no comparator acts (R173, R174). -/
def periodDrive (tOn dtRise dtFall : Nat) : Drive :=
  if tOn = 0 then .lowOn else .pulse dtRise (dtRise + tOn) (dtRise + tOn + dtFall)

/-- The sample instant under the deferral of R177: `n0` and `t0` are the nominal and the actual instant of the engine's last sample,
where another channel took it. -/
def deferred (t : Nat) : Option (Nat × Nat) → Nat
  | some (n0, t0) => if n0 ≤ t ∧ t < t0 + 6400 then t0 + 6400 else t
  | none => t

/-- Sample instant after the period start (R176). -/
def sampleInstant (mode pos period dtRise tOn : Nat) : Nat :=
  if mode = 0 then pos * period / 2 ^ 20 else dtRise + tOn / 2

/-- Current comparator code of a limit in mA (R180): round(I × R / 1,000 / 146.484375), at most 1,023. -/
def currentCode (limMa isTransr : Nat) : Nat :=
  min 1023 ((2 * (limMa * isTransr * 64) + 9375000) / (2 * 9375000))

/-- Voltage comparator code of an output-referred level given in units of 10^-4 µV (R183):
round(V × 2^24 / VS_RATIO / 366.2109375), at most 4,095. -/
def voltageCode (v vsRatio : Nat) : Nat :=
  min 4095 ((2 * (v * 2 ^ 24 * 128) + vsRatio * 468750000) / (2 * (vsRatio * 468750000)))

/-- A level `p` hundredths of a percent above a voltage in µV, in units of 10^-4 µV (Table 7-7). -/
def levelAbove (uv p : Nat) : Nat := uv * (10000 + p)

/-- Effective target of an output in µV (R157). -/
def effectiveTarget (setpoint : Nat) (margin : Int) : Nat :=
  (setpoint * (10000 + margin) / 10000).toNat

/-- Evaluation interval in timebase LSB (R198). -/
def evalInterval (period : Nat) (donor : Bool) : Nat :=
  if 25600 ≤ period then period else if donor then period else 2 * period

/-- Is period `n` on the evaluation grid? (R198) -/
def onGrid (period : Nat) (donor : Bool) (n : Nat) : Bool :=
  decide (25600 ≤ period) || donor || decide (n % 2 = 0)

/-- Engine load term of one channel (R200). -/
def loadTerm (interval : Nat) : Nat := cdiv (2 ^ 32 * 6400) interval

/-- Position of the highest set bit, from bit `n` down. -/
def msbFrom : Nat → Nat → Nat
  | 0, _ => 0
  | n + 1, x => if x.testBit (n + 1) then n + 1 else msbFrom n x

/-- Magnitude of an error code (R202). -/
def errMag (e : Int) : Nat := e.natAbs

/-- Gain-table index of an error code (R202). -/
def gtIndexOf (e : Int) : Nat :=
  let mag := errMag e
  if mag < 32 then mag
  else if 512 ≤ mag then 63
  else
    let k := msbFrom 9 mag
    32 + 8 * (k - 5) + mag / 2 ^ (k - 3) % 8

/-- Entry `i` of a gain table of 16 words of four entries (R203). -/
def gtEntry (words : List Nat) (i : Nat) : Nat := bits (words.getD (i / 4) 0) (16 * (i % 4) + 15) (16 * (i % 4))

/-- Gain-table multiplier of an error code (R202, R203). -/
def Coeffs.gain (f : Coeffs) (e : Int) : Nat := gtEntry (if e < 0 ∧ f.gtSplit = 1 then f.gtn else f.gtp) (gtIndexOf e)

/-- The compensator's state words (R204). -/
structure CompWords where
  ist : Int
  dst : Int
  u : Int
  ePrev : Int
  deriving DecidableEq, Repr

/-- The arithmetic of one accepted evaluation with multiplier `m` (R204, R205): new words, and whether it saturated. -/
def compEval (f : Coeffs) (m : Nat) (e : Int) (cut : Bool) (w : CompWords) : CompWords × Bool :=
  let p := sat32 (sar (e * f.kp * m) 14)
  let dr := sat32 (sar ((e - w.ePrev) * f.kd * m) 14)
  let dst := sat32 (w.dst + sar (dr - w.dst) f.dFilt)
  let ki := sat32 (sar (e * f.ki * m) 14)
  let dp := sar (sat32 (p + w.ist + dst) + 1024) 11
  let sat := decide (dp < f.dMin) || decide (dp > f.dMax)
  let ist := if !sat && !cut then sat32 (w.ist + ki) else w.ist
  ({ ist := ist, dst := dst, u := sat32 (p + ist + dst), ePrev := e }, sat)

/-- Duty word of a phase (R210). -/
def phaseDuty (u share : Int) (dMin dMax : Nat) : Nat :=
  (clampI dMin dMax (sar (u + share + 1024) 11)).toNat

/-- Division truncating toward zero (R212). -/
def tdiv (a : Int) (n : Nat) : Int := if n = 0 then 0 else Int.tdiv a n

/-- Share terms of a ganged output after one 10 µs update (R212), from the phase means and the present terms. -/
def shareUpdate (means terms : List Int) (gain limit : Nat) : List Int :=
  let n := means.length
  let mean := tdiv (sumI means) n
  let raw := List.zipWith (fun i s => s + sar ((mean - i) * gain) 10) means terms
  let off := tdiv (sumI raw) n
  raw.map fun s => clampI (-(limit * 2 ^ 11 : Nat)) (limit * 2 ^ 11 : Nat) (s - off)

/-- Evaluation interval in ms as unsigned Q0.32 (R213). -/
def stepQ32 (interval : Nat) : Nat := (interval * 2 ^ 32 + 25600000) / 51200000

/-- Integer square root by `n` halvings of the bit range, largest bit first. -/
def isqrtBits (x : Nat) : Nat → Nat → Nat
  | 0, r => r
  | n + 1, r =>
    let c := r + 2 ^ n
    isqrtBits x n (if c * c ≤ x then c else r)

/-- `isqrt` of R214: floor of the square root of an unsigned 128-bit value. -/
def isqrt (x : Nat) : Nat := isqrtBits x 64 0

/-- `sgn` of R214. -/
def sgn (v : Int) : Int := if v < 0 then -1 else if v = 0 then 0 else 1

/-- State words of the profile generator (R213). -/
structure ProfWords where
  x : Int
  v : Int
  a : Int
  brake : Bool
  deriving DecidableEq, Repr

/-- Does the stopping distance reach the remaining one? (R214, the stopping-distance block.) -/
def profMustBrake (al jl : Nat) (d w b : Int) : Bool :=
  let ab : Int := b.natAbs
  let w1 := w + sar (Int.tdiv (b * ab) (2 * jl)) 16
  let d1 := sar (Int.tdiv (w * ab) jl) 16
    + sgn b * sar (Int.tdiv (Int.tdiv (b * b) jl * ab) (3 * jl)) 32
  let sd : Int :=
    if 0 < w1 then
      if w1 * jl ≤ (al * al * 2 ^ 16 : Nat) then
        sar (w1 * (isqrt (w1.toNat * 2 ^ 16 / jl) : Nat)) 16
      else
        sar (Int.tdiv (w1 * w1) (2 * al)) 16 + Int.tdiv (w1 * al) (2 * jl)
    else 0
  decide (d ≤ d1 + sd)

/-- One step of the profile generator toward `tgt` µV (R214). C's division truncates toward zero. -/
def profStep (vl al jl h tgt : Nat) (s0 : ProfWords) : ProfWords :=
  let t : Int := (tgt * 2 ^ 16 : Nat)
  let dx := t - s0.x
  let s : Int := if dx ≠ 0 then sgn dx else if s0.v ≠ 0 then sgn s0.v else sgn s0.a
  if s = 0 then s0
  else
    let d := s * dx
    let w := s * s0.v
    let b := s * s0.a
    let brake := s0.brake || profMustBrake al jl d w b
    let vt : Int := if brake then 0 else (vl * 2 ^ 16 : Nat)
    let dv := vt - w
    let ac0 := isqrt (2 * jl * dv.natAbs * 2 ^ 16)
    let ac1 := min ac0 (al * 2 ^ 16)
    let ac := sgn dv * ac1
    let da : Int := (jl * h / 2 ^ 16 : Nat)
    let bn := if ac > b + da then b + da else if ac < b - da then b - da else ac
    let wn0 := w + sar (bn * h) 32
    let vm : Int := (vl * 2 ^ 16 : Nat)
    let wn1 := if wn0 > vm ∧ w ≤ vm then vm else wn0
    let wn := if wn1 < -vm ∧ w ≥ -vm then -vm else wn1
    let dn := d - sar (wn * h) 32
    if brake && (decide (wn ≤ 0) || decide (dn ≤ 0)) then
      if dn.natAbs ≤ 2 * vl * h / 2 ^ 16 then { x := t, v := 0, a := 0, brake := false }
      else { x := t - s * dn, v := s * wn, a := s * bn, brake := false }
    else { x := t - s * dn, v := s * wn, a := s * bn, brake := brake }

/-- Present set-point in µV (R217). -/
def setPointOf (x : Int) : Nat := if x < 0 then 0 else (sar (x + 2 ^ 15) 16).toNat

/-- `q` of R218, unsigned Q0.32. -/
def gaspQ (y : Nat) : Nat :=
  let c := y * y / 2 ^ 32 * y / 2 ^ 32
  if y ≤ 2 ^ 30 then 16 * c / 3
  else
    let w := 2 ^ 31 - y
    let cw := w * w / 2 ^ 32 * w / 2 ^ 32
    2 ^ 31 - 2 * w + 16 * cw / 3

/-- Set-point of the Last-gasp ramp `t` ns after entry (R218). -/
def gaspSetPoint (x0 t : Nat) : Nat :=
  let tau := min t 500000 * 2 ^ 32 / 500000
  let f := if tau ≤ 2 ^ 31 then gaspQ tau else 2 ^ 32 - gaspQ (2 ^ 32 - tau)
  x0 - x0 * f / 2 ^ 32

/-- PHASE of phase `i` of an `n`-phase output (R211). -/
def phaseOf (lead i n : Nat) : Nat := (lead + i * 2 ^ 20 / n) % 2 ^ 20

/-- Probe level of the shorted high-side test, output-referred (R191, Table 7-10), in units of 10^-4 µV. -/
def probeLevel (v0 target probe : Nat) : Nat :=
  let p := target * probe
  if v0 * 10000 < p then p else v0 * 10000 + p

/-- Rounded mean of 256 current codes (R192). -/
def testMean (sum : Int) : Int := sar (sum + 128) 8

end Sys2Proof.Machine
end

