-- ==== Sys2Proof/Machine/Crypto.lean ====
section
/-! DEFINITION. The published algorithms of Table 0-3 that the block computes with: SHA-256 (FIPS 180-4), AES-128 and CMAC
(FIPS 197, NIST SP 800-38B), AES key wrap (NIST SP 800-38F), ECDSA P-256 verification (FIPS 186-5). PRESUMED (log entry 8): the
spec names the standards; their arithmetic is taken from them. -/
namespace Sys2Proof.Machine

/-! ### SHA-256 -/

/-- Has `n` no divisor among the numbers listed? -/
def indivisible (n : Nat) (l : List Nat) : Bool := l.all fun d => decide (n % d ≠ 0)

/-- The first 64 primes: 2 to 311. -/
def shaPrimes : List Nat := ((upto 312).drop 2).filter fun n => indivisible n ((upto 18).drop 2 |>.filter (· < n))

/-- The integer `k`-th root of `v`, its `n` low bits still to find above `r`. -/
def rootBelow (k v : Nat) : Nat → Nat → Nat
  | 0, r => r
  | n + 1, r => rootBelow k v n (if (r + 2 ^ n) ^ k ≤ v then r + 2 ^ n else r)

/-- The first 32 bits of the fraction of the `k`-th root of a number below 2^9. -/
def rootFraction (k p : Nat) : Nat := rootBelow k (p * 2 ^ (32 * k)) 41 0 % 2 ^ 32

/-- A 32-bit word rotated right. -/
def rotr (v n : Nat) : Nat := v / 2 ^ n + v * 2 ^ (32 - n) % 2 ^ 32

/-- The XOR of a word under three rotations. -/
def turned (v : Nat) (by3 : Nat × Nat × Nat) : Nat := rotr v by3.1 ^^^ rotr v by3.2.1 ^^^ rotr v by3.2.2

/-- A schedule word's sigma function: two rotations and a shift. -/
def smeared (v : Nat) (by3 : Nat × Nat × Nat) : Nat := rotr v by3.1 ^^^ rotr v by3.2.1 ^^^ v / 2 ^ by3.2.2

/-- The working words of SHA-256: the four of the upper half, the four of the lower half. -/
structure ShaHalf where
  w0 : Nat
  w1 : Nat
  w2 : Nat
  w3 : Nat
  deriving DecidableEq, Repr

/-- Bits of `f` where `e` is 1, of `g` where it is 0. -/
def bitChoice (e f g : Nat) : Nat := g ^^^ (e &&& (f ^^^ g))

/-- Bits that two of the three words at least have. -/
def bitMajority (a b c : Nat) : Nat := (a &&& (b ||| c)) ||| (b &&& c)

/-- One round on both halves with the sum of its constant and its schedule word. -/
def shaRound (kw : Nat) (up low : ShaHalf) : ShaHalf × ShaHalf :=
  let feed := low.w3 + turned low.w0 (6, 11, 25) + bitChoice low.w0 low.w1 low.w2 + kw
  let mix := turned up.w0 (2, 13, 22) + bitMajority up.w0 up.w1 up.w2
  (⟨(feed + mix) % 2 ^ 32, up.w0, up.w1, up.w2⟩, ⟨(up.w3 + feed) % 2 ^ 32, low.w0, low.w1, low.w2⟩)

/-- The rounds of one block over its constants, from the window of the next 16 schedule words. -/
def shaRounds : List Nat → List Nat → ShaHalf × ShaHalf → ShaHalf × ShaHalf
  | [], _, h => h
  | k :: ks, w, h =>
    let fresh := smeared (w.getD 14 0) (17, 19, 10) + w.getD 9 0 + smeared (w.getD 1 0) (7, 18, 3) + w.getD 0 0
    shaRounds ks (w.drop 1 ++ [fresh % 2 ^ 32]) (shaRound (k + w.getD 0 0) h.1 h.2)

/-- Two halves added word by word. -/
def ShaHalf.plus (a b : ShaHalf) : ShaHalf :=
  ⟨(a.w0 + b.w0) % 2 ^ 32, (a.w1 + b.w1) % 2 ^ 32, (a.w2 + b.w2) % 2 ^ 32, (a.w3 + b.w3) % 2 ^ 32⟩

/-- A half's 128 bits. -/
def ShaHalf.value (a : ShaHalf) : Nat := ((a.w0 * 2 ^ 32 + a.w1) * 2 ^ 32 + a.w2) * 2 ^ 32 + a.w3

/-- The half whose words are the square roots' fractions of primes `i` to `i + 3`. -/
def shaStart (i : Nat) : ShaHalf :=
  let f (j : Nat) : Nat := rootFraction 2 (shaPrimes.getD (i + j) 0)
  ⟨f 0, f 1, f 2, f 3⟩

/-- The 16 words of a block. -/
def shaWords (m : Bytes) : List Nat := (upto 16).map fun i => beVal ((m.drop (4 * i)).take 4)

/-- The blocks of a padded message, in order. -/
def shaBlocks (ks : List Nat) : Nat → Bytes → ShaHalf × ShaHalf → ShaHalf × ShaHalf
  | 0, _, h => h
  | n + 1, m, h =>
    let r := shaRounds ks (shaWords m) h
    shaBlocks ks n (m.drop 64) (h.1.plus r.1, h.2.plus r.2)

/-- A message padded to whole blocks of 64 bytes: a 1 bit, zeros, and its length in bits in the last 8 bytes. -/
def shaPadded (m : Bytes) : Bytes := m ++ [0x80] ++ zeros ((119 - m.length % 64) % 64) ++ beBytes 8 (8 * m.length)

/-- SHA-256 of a message, 256 bits. (PRESUMED, log 8) -/
@[irreducible] def sha256 (m : Bytes) : Nat :=
  let p := shaPadded m
  let h := shaBlocks (shaPrimes.map (rootFraction 3)) (p.length / 64) p (shaStart 0, shaStart 4)
  h.1.value * 2 ^ 128 + h.2.value

/-! ### AES-128 -/

/-- Rows 0 to 3 of the S-box. -/
def aesBox0 : List Nat :=
  [0x63, 0x7c, 0x77, 0x7b, 0xf2, 0x6b, 0x6f, 0xc5, 0x30, 0x01, 0x67, 0x2b, 0xfe, 0xd7, 0xab, 0x76, 0xca, 0x82,
   0xc9, 0x7d, 0xfa, 0x59, 0x47, 0xf0, 0xad, 0xd4, 0xa2, 0xaf, 0x9c, 0xa4, 0x72, 0xc0, 0xb7, 0xfd, 0x93, 0x26,
   0x36, 0x3f, 0xf7, 0xcc, 0x34, 0xa5, 0xe5, 0xf1, 0x71, 0xd8, 0x31, 0x15, 0x04, 0xc7, 0x23, 0xc3, 0x18, 0x96,
   0x05, 0x9a, 0x07, 0x12, 0x80, 0xe2, 0xeb, 0x27, 0xb2, 0x75]

/-- Rows 4 to 7 of the S-box. -/
def aesBox1 : List Nat :=
  [0x09, 0x83, 0x2c, 0x1a, 0x1b, 0x6e, 0x5a, 0xa0, 0x52, 0x3b, 0xd6, 0xb3, 0x29, 0xe3, 0x2f, 0x84, 0x53, 0xd1,
   0x00, 0xed, 0x20, 0xfc, 0xb1, 0x5b, 0x6a, 0xcb, 0xbe, 0x39, 0x4a, 0x4c, 0x58, 0xcf, 0xd0, 0xef, 0xaa, 0xfb,
   0x43, 0x4d, 0x33, 0x85, 0x45, 0xf9, 0x02, 0x7f, 0x50, 0x3c, 0x9f, 0xa8, 0x51, 0xa3, 0x40, 0x8f, 0x92, 0x9d,
   0x38, 0xf5, 0xbc, 0xb6, 0xda, 0x21, 0x10, 0xff, 0xf3, 0xd2]

/-- Rows 8 to B of the S-box. -/
def aesBox2 : List Nat :=
  [0xcd, 0x0c, 0x13, 0xec, 0x5f, 0x97, 0x44, 0x17, 0xc4, 0xa7, 0x7e, 0x3d, 0x64, 0x5d, 0x19, 0x73, 0x60, 0x81,
   0x4f, 0xdc, 0x22, 0x2a, 0x90, 0x88, 0x46, 0xee, 0xb8, 0x14, 0xde, 0x5e, 0x0b, 0xdb, 0xe0, 0x32, 0x3a, 0x0a,
   0x49, 0x06, 0x24, 0x5c, 0xc2, 0xd3, 0xac, 0x62, 0x91, 0x95, 0xe4, 0x79, 0xe7, 0xc8, 0x37, 0x6d, 0x8d, 0xd5,
   0x4e, 0xa9, 0x6c, 0x56, 0xf4, 0xea, 0x65, 0x7a, 0xae, 0x08]

/-- Rows C to F of the S-box. -/
def aesBox3 : List Nat :=
  [0xba, 0x78, 0x25, 0x2e, 0x1c, 0xa6, 0xb4, 0xc6, 0xe8, 0xdd, 0x74, 0x1f, 0x4b, 0xbd, 0x8b, 0x8a, 0x70, 0x3e,
   0xb5, 0x66, 0x48, 0x03, 0xf6, 0x0e, 0x61, 0x35, 0x57, 0xb9, 0x86, 0xc1, 0x1d, 0x9e, 0xe1, 0xf8, 0x98, 0x11,
   0x69, 0xd9, 0x8e, 0x94, 0x9b, 0x1e, 0x87, 0xe9, 0xce, 0x55, 0x28, 0xdf, 0x8c, 0xa1, 0x89, 0x0d, 0xbf, 0xe6,
   0x42, 0x68, 0x41, 0x99, 0x2d, 0x0f, 0xb0, 0x54, 0xbb, 0x16]

/-- SubBytes of one byte. -/
def aesSub (b : Nat) : Nat := ([aesBox0, aesBox1, aesBox2, aesBox3].getD (b / 64) []).getD (b % 64) 0

/-- A byte times x in the field of AES. -/
def aesX (b : Nat) : Nat := (b * 2 % 256) ^^^ (if b < 128 then 0 else 0x1B)

/-- MixColumns of one column. -/
def aesMix (a b c d : Nat) : List Nat :=
  let f (p q r s : Nat) : Nat := aesX p ^^^ (aesX q ^^^ q) ^^^ r ^^^ s
  [f a b c d, f b c d a, f c d a b, f d a b c]

/-- SubBytes and ShiftRows of a state of 16 bytes, column by column. -/
def aesShift (s : List Nat) : List Nat :=
  (upto 16).map fun i => aesSub (s.getD (4 * ((i / 4 + i % 4) % 4) + i % 4) 0)

/-- MixColumns of a state. -/
def aesMixAll (s : List Nat) : List Nat :=
  ((upto 4).map fun c =>
    aesMix (s.getD (4 * c) 0) (s.getD (4 * c + 1) 0) (s.getD (4 * c + 2) 0) (s.getD (4 * c + 3) 0)).flatten

/-- The next round key. -/
def aesNextKey (k : List Nat) (rcon : Nat) : List Nat :=
  let x := List.zipWith (· ^^^ ·)
  let t := [aesSub (k.getD 13 0) ^^^ rcon, aesSub (k.getD 14 0), aesSub (k.getD 15 0), aesSub (k.getD 12 0)]
  let w0 := x (k.take 4) t
  let w1 := x ((k.drop 4).take 4) w0
  let w2 := x ((k.drop 8).take 4) w1
  w0 ++ w1 ++ w2 ++ x (k.drop 12) w2

/-- The rounds left, with the round key before the first of them; the last one mixes no columns. -/
def aesRounds : List Nat → List Nat → List Nat → List Nat
  | [], _, s => s
  | c :: cs, k, s =>
    let k := aesNextKey k c
    aesRounds cs k (List.zipWith (· ^^^ ·) (if cs = [] then aesShift s else aesMixAll (aesShift s)) k)

/-- The bytes of a 128-bit block. -/
def blockBytes (v : Nat) : List Nat := (beBytes 16 v).map BitVec.toNat

/-- AES-128 of a block under a key. (PRESUMED, log 8) -/
def aes128 (key v : Nat) : Nat :=
  let k := blockBytes key
  (aesRounds [1, 2, 4, 8, 0x10, 0x20, 0x40, 0x80, 0x1B, 0x36] k (List.zipWith (· ^^^ ·) (blockBytes v) k)).foldl
    (fun a b => a * 256 + b) 0

/-! ### CMAC and key wrap -/

/-- Doubling in the field of 128-bit blocks. -/
def cmacDouble (v : Nat) : Nat := (v * 2 % 2 ^ 128) ^^^ (if v < 2 ^ 127 then 0 else 0x87)

/-- The chain of CMAC over `n` more blocks after the first ones; the last block is masked with a subkey. -/
def cmacChain (key : Nat) : Nat → Bytes → Nat → Nat
  | 0, m, x =>
    let k1 := cmacDouble (aes128 key 0)
    if m.length = 16 then aes128 key (x ^^^ beVal m ^^^ k1)
    else aes128 key (x ^^^ beVal (m ++ [0x80] ++ zeros (15 - m.length)) ^^^ cmacDouble k1)
  | n + 1, m, x => cmacChain key n (m.drop 16) (aes128 key (x ^^^ beVal (m.take 16)))

/-- CMAC with AES-128 of a message, 128 bits. (PRESUMED, log 8) -/
@[irreducible] def cmac (key : Nat) (m : Bytes) : Nat := cmacChain key (cdiv m.length 16 - 1) m 0

/-- The steps of key wrap on A, R1 and R2. -/
def wrapSteps (key : Nat) : List Nat → Nat → Nat → Nat → Nat
  | [], a, r1, r2 => a * 2 ^ 128 + r1 * 2 ^ 64 + r2
  | j :: js, a, r1, r2 =>
    let b := aes128 key (a * 2 ^ 64 + r1)
    let a := b / 2 ^ 64 ^^^ (2 * j + 1)
    let c := aes128 key (a * 2 ^ 64 + r2)
    wrapSteps key js (c / 2 ^ 64 ^^^ (2 * j + 2)) (b % 2 ^ 64) (c % 2 ^ 64)

/-- AES key wrap of a 128-bit key under a 128-bit key, 192 bits. (PRESUMED, log 8) -/
@[irreducible] def keyWrap (key v : Nat) : Nat := wrapSteps key (upto 6) 0xA6A6A6A6A6A6A6A6 (v / 2 ^ 64 % 2 ^ 64) (v % 2 ^ 64)

/-! ### ECDSA P-256 -/

/-- The field prime. -/
def p256 : Nat := 2 ^ 256 - 2 ^ 224 + 2 ^ 192 + 2 ^ 96 - 1
/-- The order of the base point. -/
def n256 : Nat := 0xFFFFFFFF00000000FFFFFFFFFFFFFFFFBCE6FAADA7179E84F3B9CAC2FC632551
/-- The coefficient b of the curve. -/
def b256 : Nat := 0x5AC635D8AA3A93E7B3EBBD55769886BC651D06B0CC53B0F63BCE3C3E27D2604B
/-- The base point's x. -/
def gx256 : Nat := 0x6B17D1F2E12C4247F8BCE6E563A440F277037D812DEB33A0F4A13945D898C296
/-- The base point's y. -/
def gy256 : Nat := 0x4FE342E2FE1A7F9B8EE7EB4A7C0F9E162BCE33576B315ECECBB6406837BF51F5

/-- A point in Jacobian coordinates; z = 0 is the point at infinity. -/
structure EcPoint where
  x : Nat
  y : Nat
  z : Nat
  deriving DecidableEq, Repr

/-- Power modulo `m` with an exponent of at most `n` bits. -/
def powMod (m b : Nat) : Nat → Nat → Nat
  | 0, _ => 1 % m
  | n + 1, e =>
    let r := powMod m b n (e / 2)
    if e % 2 = 1 then r * r % m * b % m else r * r % m

/-- Difference modulo the field prime. -/
def fSub (a b : Nat) : Nat := (a + p256 - b % p256) % p256

/-- A point doubled. -/
def EcPoint.double (q : EcPoint) : EcPoint :=
  if q.z = 0 ∨ q.y = 0 then { x := 1, y := 1, z := 0 }
  else
    let y2 := q.y * q.y % p256
    let s := 4 * q.x * y2 % p256
    let z2 := q.z * q.z % p256
    let m := 3 * fSub q.x z2 * (q.x + z2) % p256
    let x := fSub (m * m) (2 * s)
    { x := x, y := fSub (m * fSub s x) (8 * y2 * y2), z := 2 * q.y * q.z % p256 }

/-- The sum of two points. -/
def EcPoint.add (a b : EcPoint) : EcPoint :=
  if a.z = 0 then b
  else if b.z = 0 then a
  else
    let za := a.z * a.z % p256
    let zb := b.z * b.z % p256
    let u1 := a.x * zb % p256
    let u2 := b.x * za % p256
    let s1 := a.y * zb * b.z % p256
    let s2 := b.y * za * a.z % p256
    if u1 = u2 then (if s1 = s2 then a.double else { x := 1, y := 1, z := 0 })
    else
      let h := fSub u2 u1
      let r := fSub s2 s1
      let h2 := h * h % p256
      let h3 := h2 * h % p256
      let v := u1 * h2 % p256
      let x := fSub (r * r) (h3 + 2 * v)
      { x := x, y := fSub (r * fSub v x) (s1 * h3), z := h * a.z * b.z % p256 }

/-- A point times a number of at most `n` bits. -/
def EcPoint.times (q : EcPoint) : Nat → Nat → EcPoint
  | 0, _ => { x := 1, y := 1, z := 0 }
  | n + 1, k =>
    let r := (q.times n (k / 2)).double
    if k % 2 = 1 then r.add q else r

/-- ECDSA P-256: does the signature (r, then s) of a digest verify under a public key (X, then Y)? (PRESUMED, log 8) -/
@[irreducible] def ecdsaVerify (key sig digest : Nat) : Bool :=
  let x := key / 2 ^ 256
  let y := key % 2 ^ 256
  let r := sig / 2 ^ 256
  let s := sig % 2 ^ 256
  if x < p256 ∧ y < p256 ∧ y * y % p256 = (x * x * x + b256 + 3 * (p256 - x)) % p256
      ∧ 0 < r ∧ r < n256 ∧ 0 < s ∧ s < n256 then
    let w := powMod n256 s 256 (n256 - 2)
    let g : EcPoint := { x := gx256, y := gy256, z := 1 }
    let q := (g.times 256 (digest * w % n256)).add (({ x := x, y := y, z := 1 } : EcPoint).times 256 (r * w % n256))
    decide (q.z ≠ 0) && decide (q.x * powMod p256 (q.z * q.z % p256) 256 (p256 - 2) % p256 % n256 = r)
  else false

end Sys2Proof.Machine
end

