-- ==== Sys2Proof/Machine/Fields.lean ====
section
/-! DEFINITION. The object model: every field of the classes of Table 6-1 with its type, fixed range, reset value,
effect code and feature bit, and one accessor per writable field of the committed description. -/
namespace Sys2Proof.Machine

/-- Fixed bounds of a field's range column (R615). -/
inductive FieldRange where
  | any
  | span (lo hi : Int)
  /-- a single extra value, or a span -/
  | orVal (v lo hi : Int)
  /-- four indices, each at most 127 or 0xFF -/
  | list4
  /-- ASCII 0x20 to 0x7E padded with 0x00 -/
  | text
  /-- multiples of 100 in a span -/
  | hundreds (lo hi : Int)
  /-- Tideline node 1 to 126 on indices 0 to 31, 0 above -/
  | rectNode
  /-- TWDEV 0 to 63 on indices 32 to 39, 255 below -/
  | rectDev
  /-- four signed parts, the first of each pair below the second -/
  | tWindow
  /-- four parts of 1 to 12,000 -/
  | caps
  /-- bits 7 to 1 -/
  | twEnable
  /-- 0x08 to 0x77 except 0x0C and 0x61 -/
  | address
  /-- no two-bit group holds 3 -/
  | speed
  /-- byte 0 is an address -/
  | targets
  deriving DecidableEq, Repr

/-- Effect codes (R139, Table 6-3). -/
inductive Effect where
  | l | c | s | g | a | ro
  deriving DecidableEq, Repr

/-- The feature bit a field or one of its values needs (R145). -/
inductive FieldFeature where
  | none
  | field (bit : Nat)
  | value (v : Int) (bit : Nat)
  deriving DecidableEq, Repr

/-- One row of a field table. -/
structure FieldDef where
  code : Nat
  len : Nat
  signed : Bool
  range : FieldRange
  reset : Int
  effect : Effect
  feature : FieldFeature
  /-- defined on index 0 only -/
  shelfWide : Bool
  deriving DecidableEq, Repr

/-- A row of a field table, in the order of its columns. -/
def fieldRow (code len : Nat) (signed : Bool) (range : FieldRange) (reset : Int) (effect : Effect)
    (feature : FieldFeature) (shelfWide : Bool) : FieldDef :=
  { code := code, len := len, signed := signed, range := range, reset := reset, effect := effect, feature := feature
    shelfWide := shelfWide }

/-- CHANNEL fields, part 1 (Tables 7-11 and 8-7). -/
def fieldsChannelA : List FieldDef := [
  fieldRow 0x01 4 false (.span 0x01000000 0x64000000) 16777216 .s (.none) false,
  fieldRow 0x02 4 false (.span 100 1000000) 10000 .s (.none) false,
  fieldRow 0x03 4 false (.span 12800 1024000) 204800 .s (.none) false,
  fieldRow 0x04 4 false (.span 0 1048575) 0 .s (.none) false,
  fieldRow 0x05 2 false (.span 0 10240) 1024 .s (.none) false,
  fieldRow 0x06 2 false (.span 0 10240) 1024 .s (.none) false,
  fieldRow 0x07 1 false (.span 0 1) 1 .s (.none) false,
  fieldRow 0x08 4 false (.span 0 1048575) 524288 .s (.none) false,
  fieldRow 0x09 2 false (.span 0 10240) 3072 .c (.none) false,
  fieldRow 0x0A 4 false (.span 1 2000000) 0 .l (.none) false,
  fieldRow 0x0B 4 false (.span 0 2000000) 2000000 .l (.none) false,
  fieldRow 0x0C 2 false (.span 0 65535) 1000 .c (.none) false,
  fieldRow 0x0D 2 false (.span 50 2000) 300 .l (.none) false,
  fieldRow 0x0E 2 false (.span 0 1999) 100 .l (.none) false,
  fieldRow 0x0F 2 false (.span 100 3000) 1000 .l (.none) false,
  fieldRow 0x10 4 false (.span 1 1000) 20 .l (.none) false,
  fieldRow 0x11 2 false (.span 100 2000) 500 .c (.none) false,
  fieldRow 0x80 1 false (.any) 0 .ro (.none) false,
  fieldRow 0x81 2 false (.any) 0 .ro (.none) false,
  fieldRow 0x82 2 true (.any) 0 .ro (.none) false,
  fieldRow 0x83 4 false (.any) 0 .ro (.none) false,
  fieldRow 0x84 4 false (.any) 0 .ro (.none) false,
  fieldRow 0x85 4 false (.any) 0 .ro (.none) false,
  fieldRow 0x86 4 false (.any) 0 .ro (.none) false,
  fieldRow 0x87 2 false (.any) 0 .ro (.none) false,
  fieldRow 0x88 2 false (.any) 0 .ro (.none) false,
  fieldRow 0x20 4 false (.span 0 0x00FFFFFF) 65536 .l (.none) false,
  fieldRow 0x21 4 false (.span 0 0x00FFFFFF) 256 .l (.none) false]

/-- CHANNEL fields, part 2 (Tables 7-11 and 8-7). -/
def fieldsChannelB : List FieldDef := [
  fieldRow 0x22 4 false (.span 0 0x00FFFFFF) 0 .l (.none) false,
  fieldRow 0x23 1 false (.span 0 7) 2 .l (.none) false,
  fieldRow 0x24 4 false (.span 0 1048574) 0 .l (.none) false,
  fieldRow 0x25 4 false (.span 1 1048575) 943718 .l (.none) false,
  fieldRow 0x26 4 true (.any) 0 .c (.none) false,
  fieldRow 0x27 1 false (.span 0 15) 2 .l (.none) false,
  fieldRow 0x28 1 false (.orVal 255 0 127) 255 .s (.none) false,
  fieldRow 0x29 2 false (.span 0 4096) 512 .l (.none) false,
  fieldRow 0x2A 4 false (.span 0 104858) 10486 .l (.none) false,
  fieldRow 0x2B 1 false (.span 0 1) 0 .l (.none) false,
  fieldRow 0x40 8 false (.any) 4611756388245323776 .l (.none) false,
  fieldRow 0x41 8 false (.any) 4611756388245323776 .l (.none) false,
  fieldRow 0x42 8 false (.any) 4611756388245323776 .l (.none) false,
  fieldRow 0x43 8 false (.any) 4611756388245323776 .l (.none) false,
  fieldRow 0x44 8 false (.any) 4611756388245323776 .l (.none) false,
  fieldRow 0x45 8 false (.any) 4611756388245323776 .l (.none) false,
  fieldRow 0x46 8 false (.any) 4611756388245323776 .l (.none) false,
  fieldRow 0x47 8 false (.any) 4611756388245323776 .l (.none) false,
  fieldRow 0x48 8 false (.any) 4611756388245323776 .l (.none) false,
  fieldRow 0x49 8 false (.any) 4611756388245323776 .l (.none) false,
  fieldRow 0x4A 8 false (.any) 4611756388245323776 .l (.none) false,
  fieldRow 0x4B 8 false (.any) 4611756388245323776 .l (.none) false,
  fieldRow 0x4C 8 false (.any) 4611756388245323776 .l (.none) false,
  fieldRow 0x4D 8 false (.any) 4611756388245323776 .l (.none) false,
  fieldRow 0x4E 8 false (.any) 4611756388245323776 .l (.none) false,
  fieldRow 0x4F 8 false (.any) 4611756388245323776 .l (.none) false,
  fieldRow 0x50 8 false (.any) 4611756388245323776 .l (.none) false,
  fieldRow 0x51 8 false (.any) 4611756388245323776 .l (.none) false]

/-- CHANNEL fields, part 3 (Tables 7-11 and 8-7). -/
def fieldsChannelC : List FieldDef := [
  fieldRow 0x52 8 false (.any) 4611756388245323776 .l (.none) false,
  fieldRow 0x53 8 false (.any) 4611756388245323776 .l (.none) false,
  fieldRow 0x54 8 false (.any) 4611756388245323776 .l (.none) false,
  fieldRow 0x55 8 false (.any) 4611756388245323776 .l (.none) false,
  fieldRow 0x56 8 false (.any) 4611756388245323776 .l (.none) false,
  fieldRow 0x57 8 false (.any) 4611756388245323776 .l (.none) false,
  fieldRow 0x58 8 false (.any) 4611756388245323776 .l (.none) false,
  fieldRow 0x59 8 false (.any) 4611756388245323776 .l (.none) false,
  fieldRow 0x5A 8 false (.any) 4611756388245323776 .l (.none) false,
  fieldRow 0x5B 8 false (.any) 4611756388245323776 .l (.none) false,
  fieldRow 0x5C 8 false (.any) 4611756388245323776 .l (.none) false,
  fieldRow 0x5D 8 false (.any) 4611756388245323776 .l (.none) false,
  fieldRow 0x5E 8 false (.any) 4611756388245323776 .l (.none) false,
  fieldRow 0x5F 8 false (.any) 4611756388245323776 .l (.none) false,
  fieldRow 0xA0 4 false (.any) 0 .ro (.none) false,
  fieldRow 0xA1 4 true (.any) 0 .ro (.none) false,
  fieldRow 0xA2 4 true (.any) 0 .ro (.none) false,
  fieldRow 0xA3 1 false (.any) 0 .ro (.none) false,
  fieldRow 0xA4 4 false (.any) 0 .ro (.none) false,
  fieldRow 0xA5 4 false (.any) 0 .ro (.none) false,
  fieldRow 0xA6 4 false (.any) 0 .ro (.none) false,
  fieldRow 0xA7 4 false (.any) 0 .ro (.none) false,
  fieldRow 0xA8 4 false (.any) 0 .ro (.none) false,
  fieldRow 0xA9 4 false (.any) 0 .ro (.none) false,
  fieldRow 0xAA 1 false (.any) 0 .ro (.none) false]

/-- CHANNEL fields (Tables 7-11 and 8-7). -/
def fieldsChannel : List FieldDef := fieldsChannelA ++ fieldsChannelB ++ fieldsChannelC

/-- OUTPUT fields (Table 6-10). -/
def fieldsOutput : List FieldDef := [
  fieldRow 0x01 1 false (.span 0 1) 0 .c (.none) false,
  fieldRow 0x02 1 false (.span 0 1) 0 .s (.none) false,
  fieldRow 0x03 1 false (.span 0 127) 0 .s (.none) false,
  fieldRow 0x04 1 false (.span 1 16) 1 .s (.none) false,
  fieldRow 0x05 1 false (.orVal 255 0 31) 255 .s (.none) false,
  fieldRow 0x06 4 false (.list4) 0xFFFFFFFF .s (.none) false,
  fieldRow 0x07 4 false (.any) 0 .l (.none) false,
  fieldRow 0x08 2 true (.span (-1000) 1000) 0 .l (.none) false,
  fieldRow 0x09 4 false (.span 0 16000000) 0 .l (.none) false,
  fieldRow 0x0A 4 false (.span 1000 100000000) 1000000 .l (.none) false,
  fieldRow 0x0B 4 false (.span 1000 1000000000) 1000000 .l (.none) false,
  fieldRow 0x0C 4 false (.span 1000 4000000000) 2000000 .l (.none) false,
  fieldRow 0x0D 4 false (.span 0 60000000) 0 .c (.none) false,
  fieldRow 0x0E 4 false (.span 100 60000000) 100000 .c (.none) false,
  fieldRow 0x0F 4 false (.span 0 1000000) 1000 .c (.none) false,
  fieldRow 0x10 2 false (.span 50 2000) 500 .l (.none) false,
  fieldRow 0x11 2 false (.span 50 2000) 500 .l (.none) false,
  fieldRow 0x12 1 false (.span 1 15) 2 .l (.none) false,
  fieldRow 0x13 1 false (.span 0 2) 1 .c (.none) false,
  fieldRow 0x14 1 false (.span 0 1) 0 .c (.none) false,
  fieldRow 0x15 4 false (.span 100000 600000000) 1000000 .c (.none) false,
  fieldRow 0x16 1 false (.span 1 15) 3 .c (.none) false,
  fieldRow 0x17 1 false (.span 0 2) 0 .c (.value 2 25) false,
  fieldRow 0x18 16 false (.text) 0 .c (.none) false,
  fieldRow 0x80 1 false (.any) 0 .ro (.none) false,
  fieldRow 0x81 1 false (.any) 0 .ro (.none) false]

/-- POLDER fields (Table 6-11). -/
def fieldsPolder : List FieldDef := [
  fieldRow 0x01 1 false (.span 0 1) 0 .c (.none) false,
  fieldRow 0x02 1 false (.span 0 15) 0 .l (.none) false,
  fieldRow 0x03 4 false (.span 0 250000000) 0 .l (.none) false,
  fieldRow 0x04 4 false (.span 0 250000000) 0 .l (.none) false,
  fieldRow 0x05 4 false (.span 0 250000000) 0 .l (.none) false,
  fieldRow 0x06 4 false (.span 0 250000000) 0 .l (.none) false,
  fieldRow 0x07 4 false (.span 0 250000000) 0 .l (.none) false,
  fieldRow 0x08 4 false (.span 0 250000000) 0 .l (.none) false,
  fieldRow 0x09 4 false (.span 0 86400) 0 .l (.none) false,
  fieldRow 0x0A 1 false (.span 0 2) 0 .c (.none) false,
  fieldRow 0x0B 2 false (.any) 0 .c (.none) false,
  fieldRow 0x0C 1 false (.span 0 1) 0 .l (.none) false,
  fieldRow 0x0D 4 false (.span 0 250000000) 0 .l (.field 15) false,
  fieldRow 0x0E 16 false (.text) 0 .c (.none) false,
  fieldRow 0x80 16 false (.any) 0 .ro (.none) false]

/-- RECTIFIER fields, part 1 (Table 12-1). -/
def fieldsRectifierA : List FieldDef := [
  fieldRow 0x01 1 false (.span 0 1) 0 .c (.none) false,
  fieldRow 0x02 1 false (.rectNode) 0 .c (.none) false,
  fieldRow 0x03 1 false (.rectDev) 255 .c (.none) false,
  fieldRow 0x04 4 false (.span 1 30000000) 0 .c (.none) false,
  fieldRow 0x05 4 false (.span 1 655330) 0 .c (.none) false,
  fieldRow 0x06 1 false (.span 0 1) 0 .l (.value 1 8) false,
  fieldRow 0x07 2 false (.span 0 65535) 0 .l (.none) false,
  fieldRow 0x08 4 true (.span (-2000000) 2000000) 0 .l (.none) false,
  fieldRow 0x09 8 false (.any) 17340249056485896356 .l (.none) false,
  fieldRow 0x0A 8 false (.any) 17340249056485896356 .l (.none) false,
  fieldRow 0x0B 16 false (.text) 0 .c (.none) false,
  fieldRow 0x40 4 false (.span 0 2000000) 0 .l (.none) true,
  fieldRow 0x41 2 false (.span 0 4096) 64 .l (.none) true,
  fieldRow 0x42 4 false (.span 0 4000000) 2000000 .l (.none) true,
  fieldRow 0x43 2 false (.span 0 10000) 2000 .l (.none) true,
  fieldRow 0x44 4 false (.span 10 86400) 60 .l (.none) true,
  fieldRow 0x45 4 false (.orVal 0 3600 31536000) 604800 .l (.none) true,
  fieldRow 0x46 4 false (.span 0 1000000) 20000 .l (.none) true,
  fieldRow 0x47 4 false (.span 0 2000000) 500000 .l (.none) true,
  fieldRow 0x80 1 false (.any) 0 .ro (.none) false,
  fieldRow 0x81 4 false (.any) 0 .ro (.none) false,
  fieldRow 0x82 4 false (.any) 0 .ro (.none) false,
  fieldRow 0x83 4 true (.any) 0 .ro (.none) false,
  fieldRow 0x84 4 false (.any) 0 .ro (.none) false,
  fieldRow 0x85 4 true (.any) 0 .ro (.none) false,
  fieldRow 0x86 4 false (.any) 0 .ro (.none) false,
  fieldRow 0x87 8 false (.any) 0 .ro (.none) false,
  fieldRow 0x88 8 false (.any) 0 .ro (.none) false]

/-- RECTIFIER fields, part 2 (Table 12-1). -/
def fieldsRectifierB : List FieldDef := [
  fieldRow 0x89 4 false (.any) 0 .ro (.none) false,
  fieldRow 0x8A 1 false (.any) 0 .ro (.none) false,
  fieldRow 0x8B 4 false (.any) 0 .ro (.none) false]

/-- RECTIFIER fields (Table 12-1). -/
def fieldsRectifier : List FieldDef := fieldsRectifierA ++ fieldsRectifierB

/-- STRING fields, part 1 (Table 14-3). -/
def fieldsStringA : List FieldDef := [
  fieldRow 0x01 1 false (.span 0 1) 0 .c (.none) false,
  fieldRow 0x02 1 false (.span 0 126) 0 .c (.none) false,
  fieldRow 0x03 4 false (.span 1000 100000000) 0 .c (.none) false,
  fieldRow 0x04 4 false (.span 0x01000000 0x64000000) 16777216 .c (.none) false,
  fieldRow 0x05 1 false (.span 0 1) 0 .c (.none) false,
  fieldRow 0x06 4 false (.span 1000 4000000) 0 .c (.none) false,
  fieldRow 0x07 1 false (.span 1 32) 16 .c (.none) false,
  fieldRow 0x08 8 false (.any) 0x7EC27DC87C386D60 .l (.none) false,
  fieldRow 0x09 8 false (.any) 0x806680207FBC7F58 .l (.none) false,
  fieldRow 0x0A 8 false (.any) 0x819C811A80CA8098 .l (.none) false,
  fieldRow 0x0B 8 false (.any) 0x86C482AA82328200 .l (.none) false,
  fieldRow 0x0C 2 true (.span (-2000) 2000) 0 .l (.none) false,
  fieldRow 0x0D 4 false (.span 1 10000000) 10000 .l (.none) false,
  fieldRow 0x0E 4 false (.span 0 10000000) 5000 .l (.none) false,
  fieldRow 0x0F 4 false (.span 100 100000) 1000 .l (.none) false,
  fieldRow 0x10 4 false (.span 0 10000000) 5000 .l (.none) false,
  fieldRow 0x11 4 false (.span 1000 10000000) 300000 .l (.none) false,
  fieldRow 0x12 2 false (.span 0 50000) 15000 .l (.none) false,
  fieldRow 0x13 1 false (.span 0 1) 1 .l (.none) false,
  fieldRow 0x14 1 false (.span 0 1) 0 .c (.none) false,
  fieldRow 0x15 8 false (.any) 562954248388672536 .l (.none) false,
  fieldRow 0x16 8 false (.any) 1407392063619074500 .l (.none) false,
  fieldRow 0x17 8 false (.any) 28147712420741130 .l (.none) false,
  fieldRow 0x18 8 false (.any) 112591279187558550 .l (.none) false,
  fieldRow 0x19 8 false (.any) 1125908496842752500 .l (.none) false,
  fieldRow 0x1A 4 false (.span 1 100000) 1000 .l (.none) false,
  fieldRow 0x1B 4 false (.orVal 0 1000000 200000000) 0 .l (.none) false,
  fieldRow 0x1C 4 false (.orVal 0 1000000 200000000) 0 .l (.none) false]

/-- STRING fields, part 2 (Table 14-3). -/
def fieldsStringB : List FieldDef := [
  fieldRow 0x1D 4 false (.span 0 2000000) 0 .l (.none) false,
  fieldRow 0x1E 4 false (.span 1 30000000) 0 .l (.none) false,
  fieldRow 0x1F 8 false (.tWindow) 1689122745600966656 .l (.none) false,
  fieldRow 0x20 8 false (.caps) 2814792717434890000 .l (.none) false,
  fieldRow 0x21 8 false (.caps) 2814792717434890000 .l (.none) false,
  fieldRow 0x22 8 false (.caps) 2814792717434890000 .l (.none) false,
  fieldRow 0x23 8 false (.caps) 2814792717434890000 .l (.none) false,
  fieldRow 0x24 8 false (.caps) 2814792717434890000 .l (.none) false,
  fieldRow 0x25 8 false (.caps) 2814792717434890000 .l (.none) false,
  fieldRow 0x26 8 false (.caps) 2814792717434890000 .l (.none) false,
  fieldRow 0x27 8 false (.caps) 2814792717434890000 .l (.none) false,
  fieldRow 0x28 8 false (.caps) 2814792717434890000 .l (.none) false,
  fieldRow 0x29 8 false (.caps) 2814792717434890000 .l (.none) false,
  fieldRow 0x2A 8 false (.caps) 2814792717434890000 .l (.none) false,
  fieldRow 0x2B 8 false (.caps) 2814792717434890000 .l (.none) false,
  fieldRow 0x2C 8 false (.caps) 2814792717434890000 .l (.none) false,
  fieldRow 0x2D 8 false (.caps) 2814792717434890000 .l (.none) false,
  fieldRow 0x2E 8 false (.caps) 2814792717434890000 .l (.none) false,
  fieldRow 0x2F 8 false (.caps) 2814792717434890000 .l (.none) false,
  fieldRow 0x30 2 false (.span 1 10000) 50 .l (.none) false,
  fieldRow 0x31 16 false (.text) 0 .c (.none) false,
  fieldRow 0x40 1 false (.span 0 1) 0 .l (.none) true,
  fieldRow 0x41 4 false (.orVal 0 86400 31536000) 604800 .l (.field 12) true,
  fieldRow 0x42 2 false (.span 10 50) 25 .l (.none) true,
  fieldRow 0x80 1 false (.any) 0 .ro (.none) false,
  fieldRow 0x81 2 false (.any) 0 .ro (.none) false,
  fieldRow 0x82 1 false (.any) 0 .ro (.none) false,
  fieldRow 0x83 2 false (.any) 0 .ro (.none) false]

/-- STRING fields, part 3 (Table 14-3). -/
def fieldsStringC : List FieldDef := [
  fieldRow 0x84 8 false (.any) 0 .ro (.none) false,
  fieldRow 0x85 8 false (.any) 0 .ro (.none) false,
  fieldRow 0x86 4 false (.any) 0 .ro (.none) false,
  fieldRow 0x87 4 true (.any) 0 .ro (.none) false,
  fieldRow 0x88 4 false (.any) 0 .ro (.none) false,
  fieldRow 0x89 2 true (.any) 0 .ro (.none) false,
  fieldRow 0x8A 2 false (.any) 0 .ro (.none) false,
  fieldRow 0x8B 4 false (.any) 0 .ro (.none) false,
  fieldRow 0x8C 4 false (.any) 0 .ro (.none) false,
  fieldRow 0x8D 2 true (.any) 0 .ro (.none) false,
  fieldRow 0x8E 4 false (.any) 0 .ro (.none) false,
  fieldRow 0x8F 8 false (.any) 0 .ro (.none) false,
  fieldRow 0x90 8 false (.any) 0 .ro (.none) false,
  fieldRow 0x91 8 false (.any) 0 .ro (.none) false,
  fieldRow 0x92 4 false (.any) 0 .ro (.none) false,
  fieldRow 0x93 4 false (.any) 0 .ro (.none) false,
  fieldRow 0x94 2 false (.any) 0 .ro (.none) false,
  fieldRow 0x95 2 false (.any) 0 .ro (.none) false]

/-- STRING fields (Table 14-3). -/
def fieldsString : List FieldDef := fieldsStringA ++ fieldsStringB ++ fieldsStringC

/-- SHUNT fields (Table 14-2). -/
def fieldsShunt : List FieldDef := [
  fieldRow 0x01 1 false (.span 0 1) 0 .c (.none) false,
  fieldRow 0x02 4 false (.span 1000 100000000) 0 .c (.none) false,
  fieldRow 0x03 4 false (.span 0x01000000 0x64000000) 16777216 .c (.none) false,
  fieldRow 0x04 16 false (.text) 0 .c (.none) false,
  fieldRow 0x80 4 true (.any) 0 .ro (.none) false,
  fieldRow 0x81 4 false (.any) 0 .ro (.none) false,
  fieldRow 0x82 8 false (.any) 0 .ro (.none) false,
  fieldRow 0x83 2 false (.any) 0 .ro (.none) false]

/-- SENSOR fields (Table 20-3). -/
def fieldsSensor : List FieldDef := [
  fieldRow 0x01 1 false (.span 0 1) 0 .c (.none) false,
  fieldRow 0x02 1 false (.span 0 63) 0 .c (.none) false,
  fieldRow 0x03 1 false (.span 0 3) 0 .c (.none) false,
  fieldRow 0x04 1 false (.orVal 255 0 31) 255 .c (.none) false,
  fieldRow 0x05 1 false (.span 0x88 0x9F) 141 .c (.none) false,
  fieldRow 0x06 4 false (.hundreds 100 60000) 1000 .l (.none) false,
  fieldRow 0x07 4 true (.any) 2147483647 .l (.none) false,
  fieldRow 0x08 4 true (.any) (-2147483648) .l (.none) false,
  fieldRow 0x09 16 false (.text) 0 .c (.none) false,
  fieldRow 0x80 4 true (.any) 0 .ro (.none) false,
  fieldRow 0x81 4 false (.any) 0 .ro (.none) false,
  fieldRow 0x82 1 false (.any) 0 .ro (.none) false,
  fieldRow 0x83 4 false (.any) 0 .ro (.none) false]

/-- SHELF fields (Table 6-12). -/
def fieldsShelf : List FieldDef := [
  fieldRow 0x01 16 false (.text) 0 .c (.none) false,
  fieldRow 0x02 1 false (.span 0 1) 0 .c (.none) false,
  fieldRow 0x03 1 false (.span 0 1) 0 .a (.none) false,
  fieldRow 0x04 2 false (.span 0 0x3F) 7 .a (.none) false,
  fieldRow 0x05 1 false (.span 0 1) 0 .a (.none) false,
  fieldRow 0x06 8 false (.any) 0 .a (.none) false,
  fieldRow 0x07 1 false (.span 0 1) 0 .g (.none) false,
  fieldRow 0x08 1 false (.span 0 1) 0 .g (.none) false,
  fieldRow 0x09 1 false (.twEnable) 0 .g (.none) false,
  fieldRow 0x0A 1 false (.span 0 1) 0 .c (.none) false,
  fieldRow 0x0B 1 false (.orVal 255 0 31) 255 .g (.none) false,
  fieldRow 0x0C 1 false (.orVal 255 0 31) 255 .g (.none) false,
  fieldRow 0x0D 1 false (.span 1 32) 1 .g (.none) false,
  fieldRow 0x0E 1 false (.span 1 32) 1 .g (.none) false,
  fieldRow 0x0F 4 false (.span 48000000 58000000) 54000000 .c (.none) false,
  fieldRow 0x10 4 false (.span 0 300000000) 0 .l (.none) false,
  fieldRow 0x11 2 false (.span 1 1000) 100 .l (.field 15) false,
  fieldRow 0x12 4 false (.span 0 4000000) 0 .l (.field 15) false,
  fieldRow 0x80 4 false (.any) 0 .ro (.none) false,
  fieldRow 0x81 8 false (.any) 0 .ro (.none) false,
  fieldRow 0x82 1 false (.any) 0 .ro (.none) false,
  fieldRow 0x83 1 false (.any) 0 .ro (.none) false]

/-- PEER fields (Table 6-13). -/
def fieldsPeer : List FieldDef := [
  fieldRow 0x01 1 false (.span 0 1) 0 .g (.none) false,
  fieldRow 0x02 1 false (.span 1 3) 3 .g (.none) false,
  fieldRow 0x03 2 false (.span 10 2000) 200 .c (.none) false,
  fieldRow 0x04 1 false (.span 2 64) 8 .c (.none) false,
  fieldRow 0x80 1 false (.any) 0 .ro (.none) false,
  fieldRow 0x81 1 false (.any) 0 .ro (.none) false,
  fieldRow 0x82 4 false (.any) 0 .ro (.none) false,
  fieldRow 0x83 1 false (.any) 0 .ro (.none) false,
  fieldRow 0x84 4 false (.any) 0 .ro (.none) false]

/-- TWDEV fields (Table 20-2). -/
def fieldsTwdev : List FieldDef := [
  fieldRow 0x01 1 false (.span 0 1) 0 .c (.none) false,
  fieldRow 0x02 1 false (.span 1 7) 1 .c (.none) false,
  fieldRow 0x03 1 false (.address) 0x08 .c (.none) false,
  fieldRow 0x04 1 false (.span 0 1) 0 .c (.none) false,
  fieldRow 0x05 1 false (.span 0 2) 2 .c (.none) false,
  fieldRow 0x06 16 false (.text) 0 .c (.none) false,
  fieldRow 0x40 2 false (.speed) 0 .c (.none) true,
  fieldRow 0x41 8 false (.targets) 74 .a (.none) true,
  fieldRow 0x42 1 false (.any) 0 .c (.none) true,
  fieldRow 0x80 1 false (.any) 0 .ro (.none) false,
  fieldRow 0x81 4 false (.any) 0 .ro (.none) false,
  fieldRow 0x82 4 false (.any) 0 .ro (.none) false,
  fieldRow 0x83 2 false (.any) 0 .ro (.none) false]

/-- FAULTMAP fields (Table 18-8). -/
def fieldsFaultmap : List FieldDef := [
  fieldRow 0x01 2 false (.span 0 0xFF) 0 .c (.none) false,
  fieldRow 0x02 1 false (.span 0 3) 0 .c (.none) false,
  fieldRow 0x03 2 false (.any) 0 .l (.none) false,
  fieldRow 0x80 1 false (.any) 0 .ro (.none) false,
  fieldRow 0x81 2 false (.any) 0 .ro (.none) false,
  fieldRow 0x82 1 false (.any) 0 .ro (.none) false,
  fieldRow 0x83 4 false (.any) 0 .ro (.none) false,
  fieldRow 0x84 1 false (.any) 0 .ro (.none) false,
  fieldRow 0x85 4 false (.any) 0 .ro (.none) false]

/-- The field table of a class (Table 6-1); empty for a class that is not used. -/
def fieldsOf (cls : Nat) : List FieldDef :=
  match cls with
  | 1 => fieldsChannel
  | 2 => fieldsOutput
  | 3 => fieldsPolder
  | 4 => fieldsRectifier
  | 5 => fieldsString
  | 6 => fieldsShunt
  | 7 => fieldsSensor
  | 8 => fieldsShelf
  | 9 => fieldsPeer
  | 10 => fieldsTwdev
  | 11 => fieldsFaultmap
  | _ => []

/-- How many indices a class has (Table 6-1). -/
def classSize (cls : Nat) : Nat :=
  match cls with
  | 1 => 128
  | 2 => 128
  | 3 => 32
  | 4 => 40
  | 5 => 32
  | 6 => 32
  | 7 => 128
  | 8 => 1
  | 9 => 1
  | 10 => 64
  | 11 => 320
  | _ => 0

/-- Key of a field in the tables of `Desc`. -/
def fieldKey (cls idx code : Nat) : Nat := (cls * 4096 + idx) * 65536 + code

/-- Committed value of a field whose reset value is `d` (R140). -/
def State.field (s : State) (cls idx code : Nat) (d : Int) : Int :=
  (Tab.get none s.desc.committed (fieldKey cls idx code)).getD d

/-- CHANNEL VS_RATIO. -/
def State.chVsRatio (s : State) (k : Nat) : Nat := (s.field 1 k 0x01 16777216).toNat

/-- CHANNEL IS_TRANSR. -/
def State.chIsTransr (s : State) (k : Nat) : Nat := (s.field 1 k 0x02 10000).toNat

/-- CHANNEL PERIOD. -/
def State.chPeriod (s : State) (k : Nat) : Nat := (s.field 1 k 0x03 204800).toNat

/-- CHANNEL PHASE. -/
def State.chPhase (s : State) (k : Nat) : Nat := (s.field 1 k 0x04 0).toNat

/-- CHANNEL DT_RISE. -/
def State.chDtRise (s : State) (k : Nat) : Nat := (s.field 1 k 0x05 1024).toNat

/-- CHANNEL DT_FALL. -/
def State.chDtFall (s : State) (k : Nat) : Nat := (s.field 1 k 0x06 1024).toNat

/-- CHANNEL SAMPLE_MODE. -/
def State.chSampleMode (s : State) (k : Nat) : Nat := (s.field 1 k 0x07 1).toNat

/-- CHANNEL SAMPLE_POS. -/
def State.chSamplePos (s : State) (k : Nat) : Nat := (s.field 1 k 0x08 524288).toNat

/-- CHANNEL LEB. -/
def State.chLeb (s : State) (k : Nat) : Nat := (s.field 1 k 0x09 3072).toNat

/-- CHANNEL OCP_LIMIT. -/
def State.chOcpLimit (s : State) (k : Nat) : Nat := (s.field 1 k 0x0A 0).toNat

/-- CHANNEL SINK_LIMIT. -/
def State.chSinkLimit (s : State) (k : Nat) : Nat := (s.field 1 k 0x0B 2000000).toNat

/-- CHANNEL OCP_PERSIST. -/
def State.chOcpPersist (s : State) (k : Nat) : Nat := (s.field 1 k 0x0C 1000).toNat

/-- CHANNEL OS_LEVEL. -/
def State.chOsLevel (s : State) (k : Nat) : Nat := (s.field 1 k 0x0D 300).toNat

/-- CHANNEL OS_RELEASE. -/
def State.chOsRelease (s : State) (k : Nat) : Nat := (s.field 1 k 0x0E 100).toNat

/-- CHANNEL OV_TRIP. -/
def State.chOvTrip (s : State) (k : Nat) : Nat := (s.field 1 k 0x0F 1000).toNat

/-- CHANNEL BRAKE_MAX. -/
def State.chBrakeMax (s : State) (k : Nat) : Nat := (s.field 1 k 0x10 20).toNat

/-- CHANNEL PROBE_LEVEL. -/
def State.chProbeLevel (s : State) (k : Nat) : Nat := (s.field 1 k 0x11 500).toNat

/-- CHANNEL KP. -/
def State.chKp (s : State) (k : Nat) : Nat := (s.field 1 k 0x20 65536).toNat

/-- CHANNEL KI. -/
def State.chKi (s : State) (k : Nat) : Nat := (s.field 1 k 0x21 256).toNat

/-- CHANNEL KD. -/
def State.chKd (s : State) (k : Nat) : Nat := (s.field 1 k 0x22 0).toNat

/-- CHANNEL D_FILT. -/
def State.chDFilt (s : State) (k : Nat) : Nat := (s.field 1 k 0x23 2).toNat

/-- CHANNEL D_MIN. -/
def State.chDMin (s : State) (k : Nat) : Nat := (s.field 1 k 0x24 0).toNat

/-- CHANNEL D_MAX. -/
def State.chDMax (s : State) (k : Nat) : Nat := (s.field 1 k 0x25 943718).toNat

/-- CHANNEL INT_PRESET. -/
def State.chIntPreset (s : State) (k : Nat) : Int := s.field 1 k 0x26 0

/-- CHANNEL REJECT_COUNT. -/
def State.chRejectCount (s : State) (k : Nat) : Nat := (s.field 1 k 0x27 2).toNat

/-- CHANNEL SLOT_DONOR. -/
def State.chSlotDonor (s : State) (k : Nat) : Nat := (s.field 1 k 0x28 255).toNat

/-- CHANNEL SHARE_GAIN. -/
def State.chShareGain (s : State) (k : Nat) : Nat := (s.field 1 k 0x29 512).toNat

/-- CHANNEL SHARE_LIMIT. -/
def State.chShareLimit (s : State) (k : Nat) : Nat := (s.field 1 k 0x2A 10486).toNat

/-- CHANNEL GT_SPLIT. -/
def State.chGtSplit (s : State) (k : Nat) : Nat := (s.field 1 k 0x2B 0).toNat

/-- OUTPUT ENABLE. -/
def State.outEnable (s : State) (k : Nat) : Nat := (s.field 2 k 0x01 0).toNat

/-- OUTPUT CLASS. -/
def State.outClass (s : State) (k : Nat) : Nat := (s.field 2 k 0x02 0).toNat

/-- OUTPUT FIRST_CHANNEL. -/
def State.outFirstChannel (s : State) (k : Nat) : Nat := (s.field 2 k 0x03 k).toNat

/-- OUTPUT PHASES. -/
def State.outPhases (s : State) (k : Nat) : Nat := (s.field 2 k 0x04 1).toNat

/-- OUTPUT POLDER. -/
def State.outPolder (s : State) (k : Nat) : Nat := (s.field 2 k 0x05 255).toNat

/-- OUTPUT PREREQ. -/
def State.outPrereq (s : State) (k : Nat) : Nat := (s.field 2 k 0x06 0xFFFFFFFF).toNat

/-- OUTPUT SETPOINT. -/
def State.outSetpoint (s : State) (k : Nat) : Nat := (s.field 2 k 0x07 0).toNat

/-- OUTPUT MARGIN. -/
def State.outMargin (s : State) (k : Nat) : Int := s.field 2 k 0x08 0

/-- OUTPUT MAX_POWER. -/
def State.outMaxPower (s : State) (k : Nat) : Nat := (s.field 2 k 0x09 0).toNat

/-- OUTPUT VEL_LIMIT. -/
def State.outVelLimit (s : State) (k : Nat) : Nat := (s.field 2 k 0x0A 1000000).toNat

/-- OUTPUT ACC_LIMIT. -/
def State.outAccLimit (s : State) (k : Nat) : Nat := (s.field 2 k 0x0B 1000000).toNat

/-- OUTPUT JERK_LIMIT. -/
def State.outJerkLimit (s : State) (k : Nat) : Nat := (s.field 2 k 0x0C 2000000).toNat

/-- OUTPUT START_DELAY. -/
def State.outStartDelay (s : State) (k : Nat) : Nat := (s.field 2 k 0x0D 0).toNat

/-- OUTPUT RISE_DEADLINE. -/
def State.outRiseDeadline (s : State) (k : Nat) : Nat := (s.field 2 k 0x0E 100000).toNat

/-- OUTPUT GOOD_HOLD. -/
def State.outGoodHold (s : State) (k : Nat) : Nat := (s.field 2 k 0x0F 1000).toNat

/-- OUTPUT WIN_LOW. -/
def State.outWinLow (s : State) (k : Nat) : Nat := (s.field 2 k 0x10 500).toNat

/-- OUTPUT WIN_HIGH. -/
def State.outWinHigh (s : State) (k : Nat) : Nat := (s.field 2 k 0x11 500).toNat

/-- OUTPUT FILTER_COUNT. -/
def State.outFilterCount (s : State) (k : Nat) : Nat := (s.field 2 k 0x12 2).toNat

/-- OUTPUT SAFE_HOLD. -/
def State.outSafeHold (s : State) (k : Nat) : Nat := (s.field 2 k 0x13 1).toNat

/-- OUTPUT RESTART. -/
def State.outRestart (s : State) (k : Nat) : Nat := (s.field 2 k 0x14 0).toNat

/-- OUTPUT RESTART_DELAY. -/
def State.outRestartDelay (s : State) (k : Nat) : Nat := (s.field 2 k 0x15 1000000).toNat

/-- OUTPUT RESTART_TRIES. -/
def State.outRestartTries (s : State) (k : Nat) : Nat := (s.field 2 k 0x16 3).toNat

/-- OUTPUT TUNING. -/
def State.outTuning (s : State) (k : Nat) : Nat := (s.field 2 k 0x17 0).toNat

/-- POLDER ENABLE. -/
def State.polEnable (s : State) (k : Nat) : Nat := (s.field 3 k 0x01 0).toNat

/-- POLDER PRIORITY. -/
def State.polPriority (s : State) (k : Nat) : Nat := (s.field 3 k 0x02 0).toNat

/-- POLDER BUDGET. -/
def State.polBudget (s : State) (k : Nat) : Nat := (s.field 3 k 0x03 0).toNat

/-- POLDER CEILING. -/
def State.polCeiling (s : State) (k : Nat) : Nat := (s.field 3 k 0x04 0).toNat

/-- POLDER MIN_RUNTIME. -/
def State.polMinRuntime (s : State) (k : Nat) : Nat := (s.field 3 k 0x09 0).toNat

/-- POLDER SHED_METHOD. -/
def State.polShedMethod (s : State) (k : Nat) : Nat := (s.field 3 k 0x0A 0).toNat

/-- POLDER SHED_PINS. -/
def State.polShedPins (s : State) (k : Nat) : Nat := (s.field 3 k 0x0B 0).toNat

/-- POLDER SHED_EXEMPT. -/
def State.polShedExempt (s : State) (k : Nat) : Nat := (s.field 3 k 0x0C 0).toNat

/-- POLDER FABRIC_FLOOR. -/
def State.polFabricFloor (s : State) (k : Nat) : Nat := (s.field 3 k 0x0D 0).toNat

/-- RECTIFIER ENABLE. -/
def State.rectEnable (s : State) (k : Nat) : Nat := (s.field 4 k 0x01 0).toNat

/-- RECTIFIER NODE. -/
def State.rectNode (s : State) (k : Nat) : Nat := (s.field 4 k 0x02 0).toNat

/-- RECTIFIER TWDEV. -/
def State.rectTwdev (s : State) (k : Nat) : Nat := (s.field 4 k 0x03 255).toNat

/-- RECTIFIER RATED_POWER. -/
def State.rectRatedPower (s : State) (k : Nat) : Nat := (s.field 4 k 0x04 0).toNat

/-- RECTIFIER RATED_CURRENT. -/
def State.rectRatedCurrent (s : State) (k : Nat) : Nat := (s.field 4 k 0x05 0).toNat

/-- RECTIFIER STAGING. -/
def State.rectStaging (s : State) (k : Nat) : Nat := (s.field 4 k 0x06 0).toNat

/-- RECTIFIER WEIGHT. -/
def State.rectWeight (s : State) (k : Nat) : Nat := (s.field 4 k 0x07 0).toNat

/-- RECTIFIER TRIM. -/
def State.rectTrim (s : State) (k : Nat) : Int := s.field 4 k 0x08 0

/-- RECTIFIER EFF_PRIOR_LO. -/
def State.rectEffPriorLo (s : State) (k : Nat) : Nat := (s.field 4 k 0x09 17340249056485896356).toNat

/-- RECTIFIER EFF_PRIOR_HI. -/
def State.rectEffPriorHi (s : State) (k : Nat) : Nat := (s.field 4 k 0x0A 17340249056485896356).toNat

/-- RECTIFIER CHG_LIMIT. -/
def State.rectChgLimit (s : State) : Nat := (s.field 4 0 0x40 0).toNat

/-- RECTIFIER CHG_TRIM_GAIN. -/
def State.rectChgTrimGain (s : State) : Nat := (s.field 4 0 0x41 64).toNat

/-- RECTIFIER TRIM_ADJ_MAX. -/
def State.rectTrimAdjMax (s : State) : Nat := (s.field 4 0 0x42 2000000).toNat

/-- RECTIFIER HEADROOM. -/
def State.rectHeadroom (s : State) : Nat := (s.field 4 0 0x43 2000).toNat

/-- RECTIFIER PARK_HOLD. -/
def State.rectParkHold (s : State) : Nat := (s.field 4 0 0x44 60).toNat

/-- RECTIFIER ROTATE_PERIOD. -/
def State.rectRotatePeriod (s : State) : Nat := (s.field 4 0 0x45 604800).toNat

/-- RECTIFIER LEGACY_GAIN. -/
def State.rectLegacyGain (s : State) : Nat := (s.field 4 0 0x46 20000).toNat

/-- RECTIFIER LEGACY_TRIM_MAX. -/
def State.rectLegacyTrimMax (s : State) : Nat := (s.field 4 0 0x47 500000).toNat

/-- STRING ENABLE. -/
def State.strEnable (s : State) (k : Nat) : Nat := (s.field 5 k 0x01 0).toNat

/-- STRING NODE. -/
def State.strNode (s : State) (k : Nat) : Nat := (s.field 5 k 0x02 0).toNat

/-- STRING SHUNT_R. -/
def State.strShuntR (s : State) (k : Nat) : Nat := (s.field 5 k 0x03 0).toNat

/-- STRING STRV_RATIO. -/
def State.strStrvRatio (s : State) (k : Nat) : Nat := (s.field 5 k 0x04 16777216).toNat

/-- STRING TEMP_SOURCE. -/
def State.strTempSource (s : State) (k : Nat) : Nat := (s.field 5 k 0x05 0).toNat

/-- STRING CAPACITY. -/
def State.strCapacity (s : State) (k : Nat) : Nat := (s.field 5 k 0x06 0).toNat

/-- STRING CELLS. -/
def State.strCells (s : State) (k : Nat) : Nat := (s.field 5 k 0x07 16).toNat

/-- STRING OCV_TC. -/
def State.strOcvTc (s : State) (k : Nat) : Int := s.field 5 k 0x0C 0

/-- STRING RSER. -/
def State.strRser (s : State) (k : Nat) : Nat := (s.field 5 k 0x0D 10000).toNat

/-- STRING RPA. -/
def State.strRpa (s : State) (k : Nat) : Nat := (s.field 5 k 0x0E 5000).toNat

/-- STRING TAU_A. -/
def State.strTauA (s : State) (k : Nat) : Nat := (s.field 5 k 0x0F 1000).toNat

/-- STRING RPB. -/
def State.strRpb (s : State) (k : Nat) : Nat := (s.field 5 k 0x10 5000).toNat

/-- STRING TAU_B. -/
def State.strTauB (s : State) (k : Nat) : Nat := (s.field 5 k 0x11 300000).toNat

/-- STRING RES_TC. -/
def State.strResTc (s : State) (k : Nat) : Nat := (s.field 5 k 0x12 15000).toNat

/-- STRING ADAPT. -/
def State.strAdapt (s : State) (k : Nat) : Nat := (s.field 5 k 0x13 1).toNat

/-- STRING TABLE. -/
def State.strTable (s : State) (k : Nat) : Nat := (s.field 5 k 0x14 0).toNat

/-- STRING TEMP_BP_LO. -/
def State.strTempBpLo (s : State) (k : Nat) : Nat := (s.field 5 k 0x15 562954248388672536).toNat

/-- STRING TEMP_BP_HI. -/
def State.strTempBpHi (s : State) (k : Nat) : Nat := (s.field 5 k 0x16 1407392063619074500).toNat

/-- STRING RATE_BP_LO. -/
def State.strRateBpLo (s : State) (k : Nat) : Nat := (s.field 5 k 0x17 28147712420741130).toNat

/-- STRING RATE_BP_HI. -/
def State.strRateBpHi (s : State) (k : Nat) : Nat := (s.field 5 k 0x18 112591279187558550).toNat

/-- STRING SD_RATE. -/
def State.strSdRate (s : State) (k : Nat) : Nat := (s.field 5 k 0x19 1125908496842752500).toNat

/-- STRING WAKE_I. -/
def State.strWakeI (s : State) (k : Nat) : Nat := (s.field 5 k 0x1A 1000).toNat

/-- STRING V_MIN. -/
def State.strVMin (s : State) (k : Nat) : Nat := (s.field 5 k 0x1B 0).toNat

/-- STRING V_FULL. -/
def State.strVFull (s : State) (k : Nat) : Nat := (s.field 5 k 0x1C 0).toNat

/-- STRING CHG_I_MAX. -/
def State.strChgIMax (s : State) (k : Nat) : Nat := (s.field 5 k 0x1D 0).toNat

/-- STRING DIS_P_MAX. -/
def State.strDisPMax (s : State) (k : Nat) : Nat := (s.field 5 k 0x1E 0).toNat

/-- STRING T_WINDOW. -/
def State.strTWindow (s : State) (k : Nat) : Nat := (s.field 5 k 0x1F 1689122745600966656).toNat

/-- STRING JUMP_MIN. -/
def State.strJumpMin (s : State) (k : Nat) : Nat := (s.field 5 k 0x30 50).toNat

/-- STRING HIB_ACTIVE. -/
def State.strHibActive (s : State) : Nat := (s.field 5 0 0x40 0).toNat

/-- STRING PROBE_PERIOD. -/
def State.strProbePeriod (s : State) : Nat := (s.field 5 0 0x41 604800).toNat

/-- STRING PROBE_AMPL. -/
def State.strProbeAmpl (s : State) : Nat := (s.field 5 0 0x42 25).toNat

/-- SHUNT ENABLE. -/
def State.shuntEnable (s : State) (k : Nat) : Nat := (s.field 6 k 0x01 0).toNat

/-- SHUNT SHUNT_R. -/
def State.shuntShuntR (s : State) (k : Nat) : Nat := (s.field 6 k 0x02 0).toNat

/-- SHUNT V_RATIO. -/
def State.shuntVRatio (s : State) (k : Nat) : Nat := (s.field 6 k 0x03 16777216).toNat

/-- SENSOR ENABLE. -/
def State.sensorEnable (s : State) (k : Nat) : Nat := (s.field 7 k 0x01 0).toNat

/-- SENSOR TWDEV. -/
def State.sensorTwdev (s : State) (k : Nat) : Nat := (s.field 7 k 0x02 0).toNat

/-- SENSOR KIND. -/
def State.sensorKind (s : State) (k : Nat) : Nat := (s.field 7 k 0x03 0).toNat

/-- SENSOR PAGE. -/
def State.sensorPage (s : State) (k : Nat) : Nat := (s.field 7 k 0x04 255).toNat

/-- SENSOR COMMAND. -/
def State.sensorCommand (s : State) (k : Nat) : Nat := (s.field 7 k 0x05 141).toNat

/-- SENSOR PERIOD. -/
def State.sensorPeriod (s : State) (k : Nat) : Nat := (s.field 7 k 0x06 1000).toNat

/-- SENSOR WARN_HIGH. -/
def State.sensorWarnHigh (s : State) (k : Nat) : Int := s.field 7 k 0x07 2147483647

/-- SENSOR WARN_LOW. -/
def State.sensorWarnLow (s : State) (k : Nat) : Int := s.field 7 k 0x08 (-2147483648)

/-- SHELF AUTO_RUN. -/
def State.shelfAutoRun (s : State) : Nat := (s.field 8 0 0x02 0).toNat

/-- SHELF AUTO_RESTART. -/
def State.shelfAutoRestart (s : State) : Nat := (s.field 8 0 0x03 0).toNat

/-- SHELF WAKE_ENABLE. -/
def State.shelfWakeEnable (s : State) : Nat := (s.field 8 0 0x04 7).toNat

/-- SHELF GAUGE_WAKE_BOOT. -/
def State.shelfGaugeWakeBoot (s : State) : Nat := (s.field 8 0 0x05 0).toNat

/-- SHELF RTC_ALARM. -/
def State.shelfRtcAlarm (s : State) : Nat := (s.field 8 0 0x06 0).toNat

/-- SHELF TIDELINE_ENABLE. -/
def State.shelfTidelineEnable (s : State) : Nat := (s.field 8 0 0x07 0).toNat

/-- SHELF ETH_ENABLE. -/
def State.shelfEthEnable (s : State) : Nat := (s.field 8 0 0x08 0).toNat

/-- SHELF TW_ENABLE. -/
def State.shelfTwEnable (s : State) : Nat := (s.field 8 0 0x09 0).toNat

/-- SHELF CLKOUT_ENABLE. -/
def State.shelfClkoutEnable (s : State) : Nat := (s.field 8 0 0x0A 0).toNat

/-- SHELF FAB_ROW. -/
def State.shelfFabRow (s : State) : Nat := (s.field 8 0 0x0B 255).toNat

/-- SHELF FAB_COL. -/
def State.shelfFabCol (s : State) : Nat := (s.field 8 0 0x0C 255).toNat

/-- SHELF FAB_ROWS. -/
def State.shelfFabRows (s : State) : Nat := (s.field 8 0 0x0D 1).toNat

/-- SHELF FAB_COLS. -/
def State.shelfFabCols (s : State) : Nat := (s.field 8 0 0x0E 1).toNat

/-- SHELF BUS_NOMINAL. -/
def State.shelfBusNominal (s : State) : Nat := (s.field 8 0 0x0F 54000000).toNat

/-- SHELF SHELF_BUDGET. -/
def State.shelfShelfBudget (s : State) : Nat := (s.field 8 0 0x10 0).toNat

/-- SHELF FABRIC_WEIGHT. -/
def State.shelfFabricWeight (s : State) : Nat := (s.field 8 0 0x11 100).toNat

/-- SHELF FABRIC_LIMIT. -/
def State.shelfFabricLimit (s : State) : Nat := (s.field 8 0 0x12 0).toNat

/-- PEER EXPECT. -/
def State.peerExpect (s : State) : Nat := (s.field 9 0 0x01 0).toNat

/-- PEER LANES. -/
def State.peerLanes (s : State) : Nat := (s.field 9 0 0x02 3).toNat

/-- PEER DUTY_TOL. -/
def State.peerDutyTol (s : State) : Nat := (s.field 9 0 0x03 200).toNat

/-- PEER DOUBT_CYCLES. -/
def State.peerDoubtCycles (s : State) : Nat := (s.field 9 0 0x04 8).toNat

/-- TWDEV ENABLE. -/
def State.devEnable (s : State) (k : Nat) : Nat := (s.field 10 k 0x01 0).toNat

/-- TWDEV PORT. -/
def State.devPort (s : State) (k : Nat) : Nat := (s.field 10 k 0x02 1).toNat

/-- TWDEV ADDRESS. -/
def State.devAddress (s : State) (k : Nat) : Nat := (s.field 10 k 0x03 0x08).toNat

/-- TWDEV PEC. -/
def State.devPec (s : State) (k : Nat) : Nat := (s.field 10 k 0x04 0).toNat

/-- TWDEV KIND. -/
def State.devKind (s : State) (k : Nat) : Nat := (s.field 10 k 0x05 2).toNat

/-- TWDEV SPEED. -/
def State.devSpeed (s : State) : Nat := (s.field 10 0 0x40 0).toNat

/-- TWDEV TARGET_ADDR. -/
def State.devTargetAddr (s : State) : Nat := (s.field 10 0 0x41 74).toNat

/-- TWDEV PEC_REQUIRED. -/
def State.devPecRequired (s : State) : Nat := (s.field 10 0 0x42 0).toNat

/-- The 16 words of a table from field code 0x40. -/
def State.chGtp (s : State) (k : Nat) : List Nat :=
  (upto 16).map fun i => (s.field 1 k (0x40 + i) 0x4000400040004000).toNat

/-- The 16 words of a table from field code 0x50. -/
def State.chGtn (s : State) (k : Nat) : List Nat :=
  (upto 16).map fun i => (s.field 1 k (0x50 + i) 0x4000400040004000).toNat

/-- The 16 words of a table from field code 0x20. -/
def State.strCaps (s : State) (k : Nat) : List Nat :=
  (upto 16).map fun i => (s.field 5 k (0x20 + i) 0x2710271027102710).toNat

/-- OCV_0 to OCV_3 of a string. -/
def State.strOcv (s : State) (k : Nat) : List Nat :=
  [(s.field 5 k 0x08 0x7EC27DC87C386D60).toNat, (s.field 5 k 0x09 0x806680207FBC7F58).toNat,
   (s.field 5 k 0x0A 0x819C811A80CA8098).toNat, (s.field 5 k 0x0B 0x86C482AA82328200).toNat]

/-- SHARE_Qn of a polder. -/
def State.polShare (s : State) (k q : Nat) : Nat := (s.field 3 k (5 + q) 0).toNat

end Sys2Proof.Machine
end

