-- ==== Sys2Proof/Machine/Policy.lean ====
section
/-! DEFINITION. The fixed arithmetic of supervision and power policy (chapters 9 to 11): window codes, clamps, capping,
runtime prediction and gain proposals, as functions of numbers. -/
namespace Sys2Proof.Machine

/-- Scanner window codes (R259): LOW_CODE and HIGH_CODE from target, set-point, window and divider. -/
def windowCodes (target vsp winLow winHigh ratio : Nat) : Nat × Nat :=
  let lo := min target vsp * (10000 - winLow) / 10000
  let hi := max target vsp * (10000 + winHigh) / 10000
  let loS := lo * 2 ^ 24 / ratio
  let hiS := hi * 2 ^ 24 / ratio
  ((loS * 4096 + 1499999) / 1500000, min 4095 (hiS * 4096 / 1500000))

/-- Clamp of one phase when an accumulation `sum` exceeds the share (R280). -/
def clampOf (ocpLimit : Nat) (mean : Int) (share sum : Nat) : Nat :=
  let c := if mean ≤ 0 then 0 else mean.toNat * share / sum
  max c (ocpLimit / 2 ^ 4)

/-- Power estimate of one phase (R276). -/
def powerEst (mean : Int) (vsp : Nat) : Int := tdiv (mean * vsp) 1000000

/-- What capping reads of one enabled output (R286). -/
structure CapOut where
  index : Nat
  polder : Option Nat
  p : Int
  running : Bool
  maxPower : Nat
  warn : Bool
  target : Nat
  phases : Nat
  deriving DecidableEq, Repr

/-- Demand of an output (R286, R287). -/
def CapOut.demand (o : CapOut) : Nat :=
  let pk := o.p.toNat
  let r := if o.running then min o.maxPower (pk + pk / 2 ^ 3 + o.maxPower / 2 ^ 5) else 0
  if o.warn then min r (o.maxPower * 3 / 4) else r

/-- Floor of an output (R286). -/
def CapOut.floor (o : CapOut) : Nat := min o.demand (o.maxPower / 2 ^ 4)

/-- What capping computes of one polder (R286). -/
structure CapPolder where
  index : Nat
  priority : Nat
  shed : Bool
  r : Nat
  f : Nat
  a : Nat
  deriving DecidableEq, Repr

/-- A polder's sums and first allocation from its outputs and BUDGET (R286). -/
def capPolder (index priority budget : Nat) (shed : Bool) (outs : List CapOut) : CapPolder :=
  let mine := outs.filter (·.polder = some index)
  let r := sumN (mine.map (·.demand))
  let f := sumN (mine.map (·.floor))
  { index := index, priority := priority, shed := shed, r := r, f := f
    a := if budget ≠ 0 ∧ budget < r then max budget f else r }

/-- One priority level of the reduction (R286): new polders and the rest of X. -/
def capLevel (lvl : Nat) (ps : List CapPolder) (x : Int) : List CapPolder × Int :=
  let red := sumN ((ps.filter (fun q => !q.shed && decide (q.priority = lvl))).map (fun q => q.a - q.f))
  if x ≤ 0 ∨ red = 0 then (ps, x)
  else
    let take := min x red
    (ps.map (fun q =>
      if !q.shed && decide (q.priority = lvl) then { q with a := q.a - (q.a - q.f) * take.toNat / red } else q),
     x - take)

/-- The reduction over priority levels from `lvl` upward, `n` of them (R286). -/
def capReduce : Nat → Nat → List CapPolder → Int → List CapPolder × Int
  | 0, _, ps, x => (ps, x)
  | n + 1, lvl, ps, x =>
    let r := capLevel lvl ps x
    capReduce n (lvl + 1) r.1 r.2

/-- X of R286 before the reduction. -/
def capExcess (limit : Option Nat) (ps : List CapPolder) (outs : List CapOut) : Int :=
  match limit with
  | none => 0
  | some b =>
    let outside := sumI ((outs.filter (fun o => o.polder = none)).map (·.p))
    (sumN (ps.map (·.a)) : Int) + outside - b

/-- Allocation g of an output in its polder (R286). -/
def CapOut.alloc (o : CapOut) (q : CapPolder) : Nat :=
  if q.r ≤ q.a then o.demand
  else o.floor + (o.demand - o.floor) * (q.a - q.f) / max (q.r - q.f) 1

/-- Is an output capped? (R286) -/
def CapOut.capped (o : CapOut) (q : CapPolder) : Bool := decide (q.a < q.r) || o.warn

/-- I_CAP of every phase in mA, none where the output is not capped (R286). -/
def CapOut.iCap (o : CapOut) (q : CapPolder) : Option Nat :=
  if o.capped q then
    (if o.target * o.phases = 0 then some 0 else some (o.alloc q * 1000000 / (o.target * o.phases)))
  else none

/-- Ceiling share of a polder in a quadrant (R23): explicit, or the ceiling split by the summed maximum power. -/
def ceilingShare (ceiling explicit : Nat) (anyExplicit : Bool) (quad total : Nat) : Nat :=
  if anyExplicit then explicit else if total = 0 then 0 else ceiling * quad / total

/-- Predicted runtime in seconds when `pshed` mW of `po` are shed (R297). -/
def runtimeOf (energy : Nat) (pb po pshed : Int) : Nat :=
  let p := Int.tdiv (pb * (po - pshed)) po
  if p ≤ 0 then 0xFFFFFFFF else min (energy * 3600 / p.toNat) 0xFFFFFFFE

/-- A polder as the spillway's choices see it (R292, R298). -/
structure SpillPolder where
  index : Nat
  priority : Nat
  exempt : Bool
  shed : Bool
  remaining : Nat
  load : Int
  deriving DecidableEq, Repr

/-- The lowest PRIORITY first, the higher index first among equals (R292, R298). -/
def lowestFirst : List SpillPolder → Option SpillPolder
  | [] => none
  | q :: t =>
    match lowestFirst t with
    | none => some q
    | some b => if q.priority < b.priority ∨ (q.priority = b.priority ∧ b.index < q.index) then some q else some b

/-- The highest PRIORITY first, the lower index first among equals (R293, R298, R300). -/
def highestFirst : List SpillPolder → Option SpillPolder
  | [] => none
  | q :: t =>
    match highestFirst t with
    | none => some q
    | some b => if b.priority < q.priority ∨ (q.priority = b.priority ∧ q.index < b.index) then some q else some b

/-- The choices of one prediction (R298): chosen polders, short flag, requiring polder and T at the end. (DEDUCED, log 62) -/
def spillChoose (t : Int → Nat) : Nat → List SpillPolder → Int → List Nat → List Nat × Bool × Option (Nat × Nat)
  | 0, _, _, chosen => (chosen, false, none)
  | n + 1, ps, pshed, chosen =>
    let req := ps.filter fun q => !q.shed && decide (0 < q.remaining)
      && decide (t pshed < q.remaining)
    match highestFirst req with
    | none => (chosen, false, none)
    | some qr =>
      let cand := ps.filter fun q => !q.exempt && !q.shed && !chosen.contains q.index && decide (q.priority < qr.priority)
      match lowestFirst cand with
      | none => (chosen, true, some (qr.index, t pshed))
      | some c => spillChoose t n ps (pshed + c.load) (chosen ++ [c.index])

/-- A proposed gain-table entry (R229). -/
def proposeEntry (g mGm old i : Nat) : Nat :=
  let n := min 0xFFFF ((old * g + 8192) / 2 ^ 14)
  if 32 ≤ i ∧ mGm < n then mGm else n

/-- The 9-bit register of the injection sequence, polynomial x^9 + x^5 + 1 (R224). (DEDUCED, log 66) -/
def lfsrNext (r : Nat) : Nat :=
  let b := (bit r 8) != (bit r 4)
  r * 2 % 2 ^ 9 + b2n b

/-- Injected chip value (R224). (DEDUCED, log 66) -/
def chipValue (r ampl : Nat) : Int := if bit r 8 then ampl else -(ampl : Int)

/-- Do captured channels of these evaluation intervals write at most 8,000,000 entries per second at a DECIM (R236)? The
sum of 51,200,000,000 / (interval × DECIM) is compared as a fraction. -/
def traceRateOk (intervals : List Nat) (decim : Nat) : Bool :=
  let f := intervals.foldl (fun (a : Nat × Nat) i => (a.1 * i + 6400 * a.2, a.2 * i)) (0, 1)
  decide (f.1 ≤ decim * f.2)

/-- Smallest DECIM from `d` upward, `n` doublings at most, that meets the limit (R236, R240). -/
def smallestDecim (intervals : List Nat) : Nat → Nat → Nat
  | 0, d => d
  | n + 1, d => if traceRateOk intervals d then d else smallestDecim intervals n (d * 2)

end Sys2Proof.Machine
end

