-- ==== Sys2Proof/Machine/Share.lean ====
section
/-! DEFINITION. The fixed arithmetic of staging and sharing (chapter 12): demand, commands, encodings, learning and the
predicted loss, as functions of numbers. -/
namespace Sys2Proof.Machine

/-- The charge term of the demand (R311). -/
def chargeTerm (chgLim : Option Nat) (iBt : Int) : Int :=
  match chgLim with
  | none => max iBt 0
  | some c => clampI 0 c iBt

/-- dem of R311. `repOn` sums I_rep over STATE 1 and 3, `repLegacy` over legacy rectifiers in STATE 1. -/
def shareDemand (iSh iBt : Int) (chgLim : Option Nat) (stranger : Bool) (repOn repLegacy : Int) : Int :=
  let d0 := iSh - iBt + chargeTerm chgLim iBt
  let d1 := if stranger then d0 - max 0 (iSh - repOn) else d0
  max 0 (d1 - repLegacy)

/-- adj of R311. -/
def adjNext (adj iBt : Int) (chgLim : Option Nat) (gain adjMax : Nat) : Int :=
  match chgLim with
  | none => adj
  | some c => clampI (-(adjMax : Int)) 0 (adj + sar ((c - iBt) * gain) 10)

/-- I_cmd of R311. -/
def shareCurrent (rated : Nat) (dem : Int) (w total : Nat) : Nat := min rated (dem.toNat * w / total)

/-- CMD_I of a current command (R312). -/
def cmdIWordOf (i : Nat) : Nat := min 65533 ((i + 5) / 10)

/-- Millivolts of a microvolt difference, rounded half away from zero (R312). -/
def roundAway (uv : Int) : Int :=
  if uv < 0 then -((-uv + 500) / 1000) else (uv + 500) / 1000

/-- CMD_V of a voltage command (R312). -/
def cmdVWordOf (v nominal : Int) : Int := clampI (-32767) 32767 (roundAway (v - nominal))

/-- Default efficiency 0.94 in Q0.16. -/
def etaSample (pOut pIn : Nat) : Nat := min 65535 (pOut * 65536 / pIn)

/-- Learning bin of an output power (R309). -/
def effBin (pOut rated : Nat) : Nat := if rated = 0 then 0 else min 7 (pOut * 8 / rated)

/-- One learning update of an estimate (R309). -/
def effUpdate (e samples eta : Nat) : Nat :=
  if samples = 0 then eta else ((e : Int) + sar ((eta : Int) - e) 8).toNat

/-- Interpolated efficiency in Q0.16 at power `p` of `rated` (R308): `bins` holds the eight bin-centre values. -/
def effAt (bins : List Nat) (p rated : Nat) : Nat :=
  if rated = 0 then bins.getD 0 0
  else
    -- load fraction in sixteenths, with the remainder kept for the interpolation
    let n := p * 16
    if n < rated then bins.getD 0 0
    else if 15 * rated < n then bins.getD 7 0
    else
      let b := (n / rated - 1) / 2
      let lo : Int := bins.getD b 0
      let hi : Int := bins.getD (min 7 (b + 1)) 0
      let frac : Int := (n - (2 * b + 1) * rated : Nat)
      (lo + (hi - lo) * frac / (2 * rated : Nat)).toNat

/-- Loss of one rectifier at power `p` with efficiency `eta` in Q0.16 (R308), mW. -/
def lossOf (p eta : Nat) : Nat := if eta = 0 then 0 else p * 65536 / eta - p

/-- A rectifier as the loss prediction sees it. -/
structure LossRect where
  weight : Nat
  rated : Nat
  bins : List Nat
  deriving DecidableEq, Repr

/-- Predicted total loss when `po` is divided in proportion to the weights (R308). -/
def totalLoss (po : Nat) (rs : List LossRect) : Nat :=
  let w := sumN (rs.map (·.weight))
  if w = 0 then 0
  else sumN (rs.map fun r => let p := po * r.weight / w; lossOf p (effAt r.bins p r.rated))

/-- The count of least loss among `n`, …, `n + k`, the smaller when equal (R308). -/
def bestCount (loss : Nat → Nat) : Nat → Nat → Nat
  | n, 0 => n
  | n, k + 1 =>
    let b := bestCount loss n k
    if loss (n + k + 1) < loss b then n + k + 1 else b

/-- Legacy trim after one service (R317). -/
def legacyTrim (trim target iout : Int) (gain trimMax : Nat) : Int :=
  clampI (-(trimMax : Int)) trimMax (trim + Int.tdiv ((target - iout) * gain) 1000)

/-- VOUT_COMMAND with exponent `n` of VOUT_MODE (R317): round(uv × 2^−n / 10^6). -/
def voutCommand (uv : Int) (n : Int) : Int :=
  if n ≤ 0 then rdiv (uv * 2 ^ n.natAbs) 1000000 else rdiv uv (1000000 * 2 ^ n.natAbs)

/-- Bits of one scheduled slot in whole bytes by map (R321). -/
def slotBytes (map : Nat) : Nat :=
  [28, 43, 57, 86, 115, 143, 172, 191].getD map 28

/-- SNR required by a map, 0.1 dB (R321). -/
def snrRequired (map : Nat) : Int := [40, 70, 100, 140, 180, 210, 250, 280].getD map 280

/-- Highest map whose required SNR plus 6 dB lies below `snr`, from map `n` down (R322). -/
def mapFor (snr : Int) : Nat → Nat
  | 0 => 0
  | n + 1 => if snrRequired (n + 1) + 60 < snr then n + 1 else mapFor snr n

/-- CYCLE of cycle `i` of a tide (R323). -/
def cycleNumber (epoch i : Nat) : Nat := (10 * epoch + i) % 65536

/-- Cycle pair, symbol and sub-band of slot `n` (R325). -/
def slotPlace (n : Nat) : Nat × Nat × Nat := (n / 20, 1 + n % 20 / 4, n % 4)

/-- Bit of a slot in SLOT_ACK (R329). -/
def slotAckBit (n : Nat) : Nat := let p := slotPlace n; 4 * (p.2.1 - 1) + p.2.2

end Sys2Proof.Machine
end

