-- ==== Sys2Proof/Machine/GaugeMath.lean ====
section
/-! DEFINITION. The fixed arithmetic of the battery gauge (chapter 14): interval conversion, scaling, the filter of R361
in binary64, the table lookup and the reported figures, as functions of numbers. -/
namespace Sys2Proof.Machine

/-- Mean current of an interval in mA, truncated toward zero and kept as 32 bits (R355); a converter without a shunt serves no object
and reads 0. (DESIGN CHOICE, log 64) -/
def intervalMa (dN : Int) (dC rSh : Nat) : Int :=
  if rSh = 0 then 0
  else wrapS 32 (if dC = 0 then Config.emptyInterval dN rSh else Int.tdiv (dN * 100000000000) (dC * rSh : Nat))

/-- Counted charge of an interval in µAh and the new residue (R355). -/
def intervalCharge (dN resid : Int) (rSh : Nat) : Int × Int :=
  if rSh = 0 then (0, resid)
  else
    let num := dN * 100000000000000 + resid
    let q := Int.tdiv num (14745600000 * rSh : Nat)
    (q, num - q * (14745600000 * rSh : Nat))

/-- Signed 48-bit difference of two RAW values (R354). -/
def rawDiff (a b : Int) : Int := wrapS 48 (a - b)

/-- Unsigned 32-bit difference of two CLK values (R354). -/
def clkDiff (a b : Nat) : Nat := (a + 2 ^ 32 - b % 2 ^ 32) % 2 ^ 32

/-- A scanner code through a Q8.24 ratio, in µV (R358). -/
def tapVoltage (code ratio : Nat) : Nat := code * 46875 * ratio / (128 * 2 ^ 24)

/-- STRT code to temperature in 0.01 °C (R358). -/
def tapTemp (code : Nat) : Int := ((code * 46875 / 128 : Nat) - 500000 : Int) / 50

/-- 16-bit part `n` of packed words. -/
def part16 (words : List Nat) (n : Nat) : Nat := bits (words.getD (n / 4) 0) (16 * (n % 4) + 15) (16 * (n % 4))

/-- The same, signed. -/
def part16s (words : List Nat) (n : Nat) : Int := ofU 16 (part16 words n)

/-- Fields of a string the filter reads (R361). -/
structure StringFields where
  ocv : List Nat                -- OCV_0 to OCV_3
  ocvTc : Int
  rser : Nat
  rpa : Nat
  tauA : Nat
  rpb : Nat
  tauB : Nat
  resTc : Nat
  cells : Nat
  rSh : Nat                     -- nΩ
  deriving DecidableEq, Repr

/-- OCV point `i` in V (0.1 mV per LSB). -/
def ocvPoint (f : StringFields) (i : Nat) : F64 := f64 (part16 f.ocv i) 10000

/-- Segment of the curve that holds `s`, end segments extended (R361). -/
def ocvSeg (s : F64) : Nat :=
  ((upto 14).filter fun (i : Nat) => (f64 (i + 1 : Nat) 15).le s).length

/-- Slope of segment `i` per unit of state of charge, in V. -/
def ocvSlope (f : StringFields) (i : Nat) : F64 := ((ocvPoint f (i + 1)).sub (ocvPoint f i)).mul (f64 15)

/-- ocv(s) of R361, V per cell at temperature `tc` °C. -/
def ocvAt (f : StringFields) (s tc : F64) : F64 :=
  let i := ocvSeg s
  let base := (ocvPoint f i).add ((ocvSlope f i).mul (s.sub (f64 i 15)))
  base.add (((f64 f.ocvTc).mul (tc.sub (f64 25))).mul (f64 1 1000000))

/-- docv(s) of R361. -/
def docvAt (f : StringFields) (s : F64) : F64 := ocvSlope f (ocvSeg s)

/-- exp(−2πi × p / q) (R383). (DESIGN CHOICE, log 10) -/
def turnBack (p q : Nat) : C64 :=
  { re := Config.sin64 ((4 * p + q) % (4 * q)) (4 * q), im := (Config.sin64 (p % q) q).opp }

/-- k of R361. -/
def tempFactor (resTc : Nat) (tc : F64) : F64 :=
  F64.clamp (f64 1 2) (f64 8) ((f64 1).add (((f64 resTc).mul (f64 1 1000000)).mul ((f64 25).sub tc)))

/-- The filter's words: x = (s, vA, vB), P and the gate count (R361). -/
structure FilterWords where
  s : F64
  vA : F64
  vB : F64
  pss : F64
  psa : F64
  psb : F64
  pas : F64
  paa : F64
  pab : F64
  pbs : F64
  pba : F64
  pbb : F64
  gated : Nat
  deriving DecidableEq, Repr

/-- Inputs of one gauge cycle (R361). -/
structure FilterIn where
  dt : F64
  dq : F64
  i : F64
  tc : F64
  vm : F64
  full : F64                    -- A·s
  sd : F64
  rs : F64                      -- Ω
  rest : Bool                   -- the rest deviation applies
  gate : Bool                   -- gating applies (R380)
  /-- added process deviation squared (R387, RTC crystal loss) -/
  extra : F64
  deriving DecidableEq, Repr

/-- Prediction and update of one gauge cycle (R361). (PRESUMED, log 11) -/
def filterStep (f : StringFields) (inp : FilterIn) (w : FilterWords) : FilterWords :=
  let one := f64 1
  let k := tempFactor f.resTc inp.tc
  let aA := Config.exp64 ((inp.dt.div ((f64 f.tauA).mul (f64 1 1000))).opp)
  let aB := Config.exp64 ((inp.dt.div ((f64 f.tauB).mul (f64 1 1000))).opp)
  let rOhm := f64 f.rSh 1000000000
  let q0 := (((f64 25 10000).mul inp.dq.abs).add (((f64 2 1000000).div rOhm).mul inp.dt)).div inp.full
  let qs := (q0.mul q0).add inp.extra
  let ra := f64 f.rpa 1000000
  let rb := f64 f.rpb 1000000
  let s1 := (w.s.add (inp.dq.div inp.full)).sub inp.sd
  let vA1 := (aA.mul w.vA).add (((k.mul ra).mul (one.sub aA)).mul inp.i)
  let vB1 := (aB.mul w.vB).add (((k.mul rb).mul (one.sub aB)).mul inp.i)
  let tiny := f64 1 1000000
  -- P = A P A + diag(qs, 1e-6, 1e-6)
  let pss := w.pss.add qs
  let psa := w.psa.mul aA
  let psb := w.psb.mul aB
  let pas := aA.mul w.pas
  let paa := ((aA.mul w.paa).mul aA).add tiny
  let pab := (aA.mul w.pab).mul aB
  let pbs := aB.mul w.pbs
  let pba := (aB.mul w.pba).mul aA
  let pbb := ((aB.mul w.pbb).mul aB).add tiny
  let cells := f64 f.cells
  let sm := cells.mul (if inp.rest then f64 5 1000 else f64 20 1000)
  let h := (((cells.mul (ocvAt f s1 inp.tc)).add vA1).add vB1).add ((k.mul inp.rs).mul inp.i)
  let h0 := cells.mul (docvAt f s1)
  -- P H'
  let phs := ((pss.mul h0).add psa).add psb
  let pha := ((pas.mul h0).add paa).add pab
  let phb := ((pbs.mul h0).add pba).add pbb
  let sv := (((h0.mul phs).add pha).add phb).add (sm.mul sm)
  let y := inp.vm.sub h
  if inp.gate && ((f64 5).mul sv.sqrt).lt y.abs then
    { s := F64.clamp (f64 (-5) 100) (f64 105 100) s1, vA := vA1, vB := vB1
      pss := pss, psa := psa, psb := psb, pas := pas, paa := paa, pab := pab, pbs := pbs, pba := pba, pbb := pbb
      gated := w.gated + 1 }
  else
    let ks := phs.div sv
    let ka := pha.div sv
    let kb := phb.div sv
    let row (g : F64) (p0 p1 p2 : F64 × F64) : F64 :=
      -- one entry of (I − K H) P: (I − g·H)ᵢ · column
      ((p0.1.sub ((g.mul h0).mul p0.2)).sub (g.mul p1.2)).sub (g.mul p2.2)
    { s := F64.clamp (f64 (-5) 100) (f64 105 100) (s1.add (ks.mul y))
      vA := vA1.add (ka.mul y)
      vB := vB1.add (kb.mul y)
      pss := row ks (pss, pss) (pss, pas) (pss, pbs)
      psa := row ks (psa, psa) (psa, paa) (psa, pba)
      psb := row ks (psb, psb) (psb, pab) (psb, pbb)
      pas := row ka (pas, pss) (pas, pas) (pas, pbs)
      paa := row ka (paa, psa) (paa, paa) (paa, pba)
      pab := row ka (pab, psb) (pab, pab) (pab, pbb)
      pbs := row kb (pbs, pss) (pbs, pas) (pbs, pbs)
      pba := row kb (pba, psa) (pba, paa) (pba, pba)
      pbb := row kb (pbb, psb) (pbb, pab) (pbb, pbb)
      gated := 0 }

/-- SOC of a filter string (R363). -/
def socOf (s : F64) : Nat := ((F64.clamp (f64 0) (f64 1) s).roundMul 10000).toNat

/-- CONF from the variance of s (R362). -/
def confOf (pss : F64) : Nat :=
  let d := pss.sqrt
  if d.le (f64 2 100) then 2 else if d.le (f64 5 100) then 1 else 0

/-- SIGMA in 0.01 %, saturating (Table 14-3). -/
def sigmaOf (pss : F64) : Nat := satUI 16 (pss.sqrt.roundMul 10000)

/-- `seg` of R365: segment and weight. -/
def segOf (bp : List Int) (v : Int) : Nat × Nat :=
  if v ≤ bp.getD 0 0 then (0, 0)
  else if bp.getD 7 0 ≤ v then (6, 65536)
  else
    let i := ((upto 7).filter fun j => bp.getD (j + 1) 0 ≤ v).length
    let d := bp.getD (i + 1) 0 - bp.getD i 0
    (i, if d ≤ 0 then 0 else ((v - bp.getD i 0) * 65536 / d).toNat)

/-- Usable-capacity fraction c in 0.01 % (R365). -/
def usableFraction (caps : List Nat) (tbp rbp : List Int) (temp rate : Int) : Int :=
  let st := segOf tbp temp
  let sr := segOf rbp rate
  let e (n : Nat) : Int := part16 caps n
  let row (i : Nat) : Int := e (8 * i + sr.1) + sar ((e (8 * i + sr.1 + 1) - e (8 * i + sr.1)) * sr.2) 16
  let c0 := row st.1
  let c1 := row (st.1 + 1)
  c0 + sar ((c1 - c0) * st.2) 16

/-- REMAINING and SOC of a table string (R366). -/
def tableFigures (full : Nat) (c qRem : Int) : Nat × Nat :=
  let cUse : Int := full * c / 10000
  let rem := (max 0 (qRem - (full - cUse))).toNat
  (rem, if cUse ≤ 0 then 0 else min 10000 (rem * 10000 / cUse.toNat))

/-- round(10,000 × i / 15): the state of charge of OCV point `i` (R359). -/
def ocvSoc (i : Nat) : Nat := (20000 * i + 15) / 30

/-- Per-cell curve in µV at SOC and TEMP (R367). -/
def ocvUv (ocv : List Nat) (ocvTc : Int) (soc : Nat) (temp : Int) : Int :=
  let i := min 14 (((upto 15).filter fun j => ocvSoc (j + 1) ≤ soc).length)
  let lo : Int := part16 ocv i
  let hi : Int := part16 ocv (i + 1)
  let v := lo + (hi - lo) * (soc - ocvSoc i : Int) / (ocvSoc (i + 1) - ocvSoc i : Int)
  v * 100 + Int.tdiv (ocvTc * (temp - 2500)) 100

/-- E_AVAIL in mWh (R367). -/
def energyOf (remaining : Nat) (cells : Nat) (ocv : Int) (vMin : Nat) : Nat :=
  (remaining * (cells * ocv + vMin) / 2000000000).toNat

/-- Self-discharge rate in 0.0001 % per day at TEMP, interpolated and held at the ends (R373). -/
def sdRate (sd : Nat) (temp : Int) : Int :=
  let r (n : Nat) : Int := part16 [sd] n
  if temp ≤ 0 then r 0
  else if temp < 2500 then r 0 + (r 1 - r 0) * temp / 2500
  else if temp < 4500 then r 1 + (r 2 - r 1) * (temp - 2500) / 2000
  else if temp < 6000 then r 2 + (r 3 - r 2) * (temp - 4500) / 1500
  else r 3

/-- Self-discharge in µAh over `ns` nanoseconds (R373): FULL × rate × 10^−6 × days. -/
def selfDischarge (full : Nat) (rate : Int) (ns : Nat) : Nat :=
  (full * rate * ns / (1000000 * 86400000000000 : Nat)).toNat

/-- Middle of the states of charge whose curve value equals `u` V per cell (R374). -/
def ocvInverse (f : StringFields) (u : F64) : F64 :=
  if u.lt (ocvPoint f 0) then {}
  else if (ocvPoint f 15).lt u then f64 1
  else
    -- lowest and highest matching states over the segments
    let lo := (firstN (fun i => (ocvPoint f i).le u && u.le (ocvPoint f (i + 1))) (upto 15)).getD 0
    let hi := (firstN (fun j => (ocvPoint f (14 - j)).le u && u.le (ocvPoint f (15 - j))) (upto 15)).getD 0
    let at1 (i : Nat) (low : Bool) : F64 :=
      let d := (ocvPoint f (i + 1)).sub (ocvPoint f i)
      if d.isZero then f64 (if low then i else i + 1) 15
      else (f64 i 15).add (((u.sub (ocvPoint f i)).div d).div (f64 15))
    ((at1 lo true).add (at1 (14 - hi) false)).div (f64 2)

/-- One updated FULL from an estimate, limited to ±FULL/20 (R364). -/
def fullUpdate (full : Nat) (est : Int) : Nat :=
  let lim : Int := (full / 20 : Nat)
  (full + clampI (-lim) lim (Int.tdiv (est - full) 8)).toNat

/-- Hibernation threshold in steps of 10 µV (R371). -/
def wakeThreshold (wakeI rSh : Nat) : Nat := (2 * wakeI * rSh + 10000000) / 20000000

end Sys2Proof.Machine
end

