-- ==== Sys2Proof/Machine/Ops.lean ====
section
/-! DEFINITION. The named operations over the state: reading and updating one numbered item, free values, the epoch,
modes and roles, offering logbook records, handing bytes to a port, and CRC-32C. -/
namespace Sys2Proof.Machine

/-! ### Numbered items -/

/-- Channel `k`. -/
def State.chanAt (s : State) (k : Nat) : Chan := Tab.get {} s.chan k
/-- Channel `k` goes through `f`. -/
def State.setChan (s : State) (k : Nat) (f : Chan → Chan) : State := { s with chan := Tab.upd {} s.chan k f }
/-- Output `k`. -/
def State.outAt (s : State) (k : Nat) : Out := Tab.get {} s.out k
/-- Output `k` goes through `f`. -/
def State.setOut (s : State) (k : Nat) (f : Out → Out) : State := { s with out := Tab.upd {} s.out k f }
/-- Cluster `k`. -/
def State.clusterAt (s : State) (k : Nat) : Cluster := Tab.get {} s.cluster k
/-- Cluster `k` goes through `f`. -/
def State.setCluster (s : State) (k : Nat) (f : Cluster → Cluster) : State :=
  { s with cluster := Tab.upd {} s.cluster k f }
/-- Polder `k`. -/
def State.polderAt (s : State) (k : Nat) : Polder := Tab.get {} s.polder k
/-- Polder `k` goes through `f`. -/
def State.setPolder (s : State) (k : Nat) (f : Polder → Polder) : State :=
  { s with polder := Tab.upd {} s.polder k f }
/-- Rectifier `k`. -/
def State.rectAt (s : State) (k : Nat) : Rect := Tab.get {} s.rect k
/-- Rectifier `k` goes through `f`. -/
def State.setRect (s : State) (k : Nat) (f : Rect → Rect) : State := { s with rect := Tab.upd {} s.rect k f }
/-- Tideline node `k`. -/
def State.nodeAt (s : State) (k : Nat) : Node := Tab.get {} s.tide.nodes k
/-- Tideline node `k` goes through `f`. -/
def State.setNode (s : State) (k : Nat) (f : Node → Node) : State :=
  { s with tide := { s.tide with nodes := Tab.upd {} s.tide.nodes k f } }
/-- Gauge converter `k`. -/
def State.convAt (s : State) (k : Nat) : Conv := Tab.get {} s.gauge.conv k
/-- Gauge converter `k` goes through `f`. -/
def State.setConv (s : State) (k : Nat) (f : Conv → Conv) : State :=
  { s with gauge := { s.gauge with conv := Tab.upd {} s.gauge.conv k f } }
/-- String `k`. -/
def State.stringAt (s : State) (k : Nat) : BString := Tab.get {} s.gauge.strings k
/-- String `k` goes through `f`. -/
def State.setString (s : State) (k : Nat) (f : BString → BString) : State :=
  { s with gauge := { s.gauge with strings := Tab.upd {} s.gauge.strings k f } }
/-- Mailbox `k`. -/
def State.mbAt (s : State) (k : Nat) : Mailbox := Tab.get {} s.host.mb k
/-- Mailbox `k` goes through `f`. -/
def State.setMb (s : State) (k : Nat) (f : Mailbox → Mailbox) : State :=
  { s with host := { s.host with mb := Tab.upd {} s.host.mb k f } }
/-- Session number `k`. -/
def State.sesAt (s : State) (k : Nat) : Session := Tab.get {} s.host.sessions k
/-- Session number `k` goes through `f`. -/
def State.setSes (s : State) (k : Nat) (f : Session → Session) : State :=
  { s with host := { s.host with sessions := Tab.upd {} s.host.sessions k f } }
/-- Two-wire port `k`. -/
def State.twAt (s : State) (k : Nat) : TwPort := Tab.get {} s.tw.ports k
/-- Two-wire port `k` goes through `f`. -/
def State.setTw (s : State) (k : Nat) (f : TwPort → TwPort) : State :=
  { s with tw := { s.tw with ports := Tab.upd {} s.tw.ports k f } }
/-- TWDEV `k`. -/
def State.twDevAt (s : State) (k : Nat) : TwDev := Tab.get {} s.tw.devs k
/-- TWDEV `k` goes through `f`. -/
def State.setTwDev (s : State) (k : Nat) (f : TwDev → TwDev) : State :=
  { s with tw := { s.tw with devs := Tab.upd {} s.tw.devs k f } }
/-- SENSOR `k`. -/
def State.sensorAt (s : State) (k : Nat) : Sensor := Tab.get {} s.tw.sensors k
/-- SENSOR `k` goes through `f`. -/
def State.setSensor (s : State) (k : Nat) (f : Sensor → Sensor) : State :=
  { s with tw := { s.tw with sensors := Tab.upd {} s.tw.sensors k f } }
/-- Fault source `k`. -/
def State.srcAt (s : State) (k : Nat) : FaultSrc := Tab.get {} s.faults.src k
/-- Fault source `k` goes through `f`. -/
def State.setSrc (s : State) (k : Nat) (f : FaultSrc → FaultSrc) : State :=
  { s with faults := { s.faults with src := Tab.upd {} s.faults.src k f } }
/-- ECC counters of instance `k`. -/
def State.eccAt (s : State) (k : Nat) : EccCounters := Tab.get {} s.faults.ecc k
/-- ECC counters of instance `k` go through `f`. -/
def State.setEcc (s : State) (k : Nat) (f : EccCounters → EccCounters) : State :=
  { s with faults := { s.faults with ecc := Tab.upd {} s.faults.ecc k f } }
/-- OTP word `k`. -/
def State.otpAt (s : State) (k : Nat) : OtpWord := Tab.get {} s.otp.words k

/-- Fold an update over a list of numbers. -/
def State.each (s : State) (l : List Nat) (f : State → Nat → State) : State := l.foldl f s

/-! ### Free values -/

/-- Part `k` of the next free value at a site. (DESIGN CHOICE, log 4) -/
def State.fresh (s : State) (site : Config.Site) (k : Nat) : Nat := Config.free site s.freeCount k

/-- The state after a free value has been used. (DESIGN CHOICE, log 4) -/
def State.used (s : State) : State := { s with freeCount := s.freeCount + 1 }

/-! ### Modes, roles, time -/

/-- The present mode. -/
def State.mode (s : State) : Mode := s.power.mode

/-- Active modes (R32). -/
def Mode.active : Mode → Bool
  | .configure | .shadow | .run | .rideThrough | .safeHold | .service => true
  | _ => false

/-- Firmware modes (R32). -/
def Mode.firmware : Mode → Bool
  | .boot | .lastGasp => true
  | m => m.active

/-- Modes in which the always-on responder serves TW0 (R536). -/
def Mode.aon : Mode → Bool
  | .keep | .gaugeWatch | .stranded | .boot => true
  | _ => false

/-- The mode code. -/
def State.modeCode (s : State) : Nat := s.power.mode.code

/-- Is a partner present? (PEER_PRES_N low) -/
def State.partner (s : State) : Bool := !s.sluice.presN

/-- Does this controller hold the gate token? -/
def State.token (s : State) : Bool := s.sluice.own

/-- ROLE (R618). -/
def State.role (s : State) : Nat := if s.sluice.presN then 0 else if s.sluice.own then 1 else 2

/-- Is power domain `n` on? -/
def State.domain (s : State) (n : Nat) : Bool := bit s.power.domains n

/-- Is block `b` of R480 held in reset? -/
def State.held (s : State) (b : Nat) : Bool := bit s.hold.held b

/-- Is loop cluster or channel analog `q` held in reset: both gates of the quadrant stay off meanwhile (R27, Table 3-5)? -/
def State.quadrantHeld (s : State) (q : Nat) : Bool := s.held q || s.held (q + 4)

/-- The extended epoch (R429). -/
def State.ext (s : State) : Nat := s.clocks.epochHi * 2 ^ 32 + s.clocks.epoch

/-- A state bit of an OTP word: the majority of its three cells (R80). -/
def OtpWord.stateBit (w : OtpWord) (i : Nat) : Bool :=
  decide (2 ≤ b2n (bit w.cells (3 * i)) + b2n (bit w.cells (3 * i + 1)) + b2n (bit w.cells (3 * i + 2)))

/-- Is an OTP word BLANK (R84)? -/
def OtpWord.blank (w : OtpWord) : Bool :=
  (upto 4).all (fun i => !w.stateBit i) && decide (w.primary = 0) && decide (w.copy = 0)

/-- Is an OTP word GOOD (R84)? -/
def OtpWord.good (w : OtpWord) : Bool := (upto 4).all w.stateBit && decide (w.primary = w.copy)

/-- DIE_ID, OTP word 192: no value is given where the word is UNRELIABLE (R85): a free value of the part. -/
def State.dieId (s : State) : Nat :=
  let w := s.otpAt 192
  if w.good then w.primary else if w.blank then 0 else Config.noIdentity 192 % 2 ^ 32

/-- Is a lockstep pair halted? -/
def State.anyHalted (s : State) : Bool := decide (s.dbg.halted ≠ 0)

/-- The mode whose rules hold in Service: the mode it was entered from (R38). -/
def State.effectiveMode (s : State) : Mode := if s.power.mode = .service then s.power.fromMode else s.power.mode

/-- The mode is one in which outputs run under their loops: Run, Ride-through, or Service entered from them. -/
def State.running (s : State) : Bool :=
  s.effectiveMode = .run || s.effectiveMode = .rideThrough

/-! ### Outputs and channels -/

/-- Channels of output `k`, the lead first (R156). -/
def State.phases (s : State) (k : Nat) : List Nat :=
  (countFrom (s.outPhases k) (s.outFirstChannel k)).filter (· < 128)

/-- Lead channel of output `k`. -/
def State.lead (s : State) (k : Nat) : Nat := s.outFirstChannel k

/-- Outputs that the committed description enables. -/
def State.describedOuts (s : State) : List Nat := (upto 128).filter fun k => s.outEnable k = 1

/-- Enabled outputs, rising; one that a commit disabled while it was driven counts until its ordered stop ends (R147). -/
def State.enabledOuts (s : State) : List Nat := (upto 128).filter fun k => s.outEnable k = 1 || (s.outAt k).leaving

/-- The enabled output a channel belongs to. -/
def State.outputOf (s : State) (ch : Nat) : Option Nat :=
  firstN (fun k => decide (s.outFirstChannel k ≤ ch) && decide (ch < s.outFirstChannel k + s.outPhases k)) s.enabledOuts

/-- Quadrant, and cluster, of a channel (R15). -/
def quadrant (ch : Nat) : Nat := ch / 32

/-- Effective target of output `k`, µV (R157). -/
def State.target (s : State) (k : Nat) : Nat := effectiveTarget (s.outSetpoint k) (s.outMargin k)

/-- Present set-point V_SP of output `k`, µV (R217). -/
def State.vsp (s : State) (k : Nat) : Nat := setPointOf (s.outAt k).prof.x

/-- Prerequisites of output `k`: the used entries of PREREQ (R156). -/
def State.prereqs (s : State) (k : Nat) : List Nat :=
  ((upto 4).map fun i => bits (s.outPrereq k) (8 * i + 7) (8 * i)).filter (· ≠ 255)

/-- Enabled outputs that name output `k` as a prerequisite. -/
def State.directDependants (s : State) (k : Nat) : List Nat :=
  s.enabledOuts.filter fun j => (s.prereqs j).contains k

/-- Rounds of adding direct dependants. -/
def State.depsRounds (s : State) : Nat → List Nat → List Nat
  | 0, l => l
  | n + 1, l =>
    s.depsRounds n (s.enabledOuts.filter fun j => l.contains j || (s.prereqs j).any l.contains)

/-- Every output that depends, directly or not, on one of `l`, without those of `l` itself. -/
def State.dependants (s : State) (l : List Nat) : List Nat :=
  (s.depsRounds 128 l).filter fun j => !l.contains j

/-- Enabled polders, rising. -/
def State.enabledPolders (s : State) : List Nat := (upto 32).filter fun q => s.polEnable q = 1

/-- The enabled outputs of polder `q` (MEMBERS). -/
def State.members (s : State) (q : Nat) : List Nat := s.enabledOuts.filter fun k => s.outPolder k = q

/-! ### Ports -/

/-- Hand something to a port. (DESIGN CHOICE, log 5; DESIGN CHOICE, log 76) -/
def State.send (s : State) (t : Tx) : State := { s with sent := s.sent ++ [t] }

/-! ### Byte memories -/

/-- A byte of a RAM; an unlisted address reads 0x00 (R107, R497). (DEDUCED, log 16) -/
def memRead (m : List Host.Cell) (a : Nat) : Byte := Tab.get 0 m a

/-- `n` bytes of a RAM from address `a`. -/
def memReadN (m : List Host.Cell) (a n : Nat) : Bytes := (countFrom n a).map (memRead m)

/-- One byte of a RAM written. -/
def memWrite (m : List Host.Cell) (a : Nat) (b : Byte) : List Host.Cell := Tab.set 0 m a b

/-- Bytes written to a RAM from address `a` upward. -/
def memWriteN (m : List Host.Cell) : Nat → Bytes → List Host.Cell
  | _, [] => m
  | a, b :: t => memWriteN (memWrite m a b) (a + 1) t

/-- The canonical form of a RAM. -/
def Memory.wf (m : List Host.Cell) : Bool := Tab.wf 0 m

/-! ### CRC-32C -/

/-- Eight steps of the reflected CRC-32C register. -/
def crcSteps : Nat → Nat → Nat
  | 0, r => r
  | n + 1, r => crcSteps n (if r % 2 = 1 then (r / 2) ^^^ 0x82F63B78 else r / 2)

/-- CRC-32C register after a byte string. -/
def crcFrom (r : Nat) (l : Bytes) : Nat := l.foldl (fun r b => crcSteps 8 (r ^^^ b.toNat)) r

/-- CRC-32C of a byte string. -/
def crc32c (l : Bytes) : Nat := crcFrom 0xFFFFFFFF l ^^^ 0xFFFFFFFF

/-! ### Logbook records offered -/

/-- Offer a record to the logbook (R455). -/
def State.offerAs (s : State) (o : LogOffer) : State := { s with log := { s.log with offers := s.log.offers ++ [o] } }

/-- The warden offers a prefixed record: class, EVENT and items of Table 17-11. -/
def State.record (s : State) (cls event : Nat) (items : Bytes) : State :=
  s.offerAs { cls := cls, source := 0, event := some event, items := items, flags := 0, use := .plain }

/-- The same with something that waits for it. -/
def State.recordFor (s : State) (use : OfferUse) (cls event : Nat) (items : Bytes) : State :=
  s.offerAs { cls := cls, source := 0, event := some event, items := items, flags := 0, use := use }

/-- Staged records that are not flushed. -/
def Logbook.unflushed (l : Logbook) : Nat := if l.unbacked then 0 else l.next - 1 - l.head

/-- Every record offered has been staged and every staged one flushed. -/
def Logbook.drained (l : Logbook) : Bool := l.offers.isEmpty && decide (l.unflushed = 0)

/-! ### Store-port calibration -/

/-- Length of the run of passing taps that begins at tap `i`, over at most `n` taps. -/
def tapRun (taps : Nat) : Nat → Nat → Nat
  | 0, _ => 0
  | n + 1, i => if bit taps i then tapRun taps n (i + 1) + 1 else 0

/-- First tap and length of the longest run of passing taps among the eight, the lower one of two as long (R601). -/
def longestRun (taps : Nat) : Nat × Nat :=
  (upto 8).foldl (fun (a : Nat × Nat) i => if a.2 < tapRun taps (8 - i) i then (i, tapRun taps (8 - i) i) else a) (0, 0)

/-- Sampling tap and clock toward a store device (R601): the centre tap of the longest run, the lower one of two; 133.3 MHz, or
where the device does not meet it the rate its SFDP declares, at most 66.7 MHz. A rate of 0 stands for an absent SFDP.
(DESIGN CHOICE, log 82) -/
def storePort (taps sfdpKhz : Nat) : StorePort :=
  let r := longestRun taps
  { tap := if r.2 = 0 then none else some (r.1 + (r.2 - 1) / 2)
    khz := if r.2 = 0 ∨ sfdpKhz < 133300 then min sfdpKhz 66700 else 133300 }

/-! ### Field values of the description -/

/-- The definition of a field, where its class, index and code are defined (R137). -/
def fieldDef (cls idx code : Nat) : Option FieldDef :=
  if idx < classSize cls then
    (fieldsOf cls).find? fun d => decide (d.code = code) && (!d.shelfWide || decide (idx = 0))
  else none

/-- Sources that are reserved (Table 18-5). -/
def reservedSource (n : Nat) : Bool := decide (n = 307) || (decide (312 ≤ n) && decide (n ≤ 315))

end Sys2Proof.Machine
end

