-- ==== Sys2Proof/Machine/Gates.lean ====
section
/-! DEFINITION. Gates and the sequencer's shared actions (chapters 7 and 10): driving channels low, forced and ordered
stops of outputs with their dependants, start conditions, and what the sequencer does by itself. -/
namespace Sys2Proof.Machine

/-- CH_STATE as reported (Table 7-11). -/
def Chan.code (c : Chan) : Nat :=
  match c.state with
  | .off => 0
  | .test => 1
  | .switching => if c.braking then 3 else 2
  | .forcedOff => 4
  | .lockedOut => 5
  | .notOwned => 6

/-- Both gates and PEN low, in the given state; what the present pulse was doing ends. -/
def Chan.low (st : ChState) (c : Chan) : Chan :=
  { c with
    state := st, cyc := { c.cyc with off := true }, drive := .off, pen := false, braking := false, tOn := 0, sampleAt := none
    cutNow := false, cutPrev := false, ocpNow := false, ocpRun := 0, ocpRaised := false
    brakeArmed := true, belowRelease := true }

/-- The state of a channel whose gates are low for no fault of its own (R190). -/
def State.idleState (s : State) : ChState := if s.token then .off else .notOwned

/-- A locked-out channel stays so; any other goes low in state `st` (R193). -/
def Chan.lowUnlessLocked (st : ChState) (c : Chan) : Chan :=
  if c.state = .lockedOut then c.low .lockedOut else c.low st

/-- Trip level of a channel for its output's effective target (Table 7-7). -/
def State.tripCode (s : State) (k ch : Nat) : Nat :=
  voltageCode (levelAbove (s.target k) (s.chOvTrip ch)) (s.chVsRatio ch)

/-- The trip level of channel `ch` of output `k` is that of the effective target (Table 7-7). -/
def State.setTrip (s : State) (k ch : Nat) : State :=
  let t := s.tripCode k ch
  s.setChan ch fun c => { c with thr := { c.thr with trip := t } }

/-- A phase of output `k` low in state `st`; a test that it was in has ended, and the trip level is restored (R191). -/
def State.lowPhase (s : State) (k : Nat) (st : ChState) (ch : Nat) : State :=
  (s.setChan ch (Chan.lowUnlessLocked (if s.token then st else .notOwned))).setTrip k ch

/-- Every phase of output `k` low in state `st`. -/
def State.lowOutput (s : State) (k : Nat) (st : ChState) : State :=
  s.each (s.phases k) fun s c => s.lowPhase k st c

/-- Every channel low (R33, R75). -/
def State.lowAll (s : State) (st : ChState) : State :=
  s.each (upto 128) fun s c => s.setChan c (Chan.lowUnlessLocked st)

/-- Is an output in a STATE in which it is driven: 2, 3 or 7? -/
def Out.live (o : Out) : Bool := o.state = 2 || o.state = 3 || o.state = 7

/-- Is an output driven at all: in those states, or still ramping off for a shed (R290)? -/
def Out.driven (o : Out) : Bool := o.live || (o.state = 5 && (o.phase = .stopPending || o.phase = .stopping))

/-- Is an output off as far as a stop in reverse dependency order asks (R253)? -/
def Out.quiet (o : Out) : Bool :=
  o.state = 0 || o.state = 1 || o.state = 4 || o.state = 5 || o.state = 6

/-- The record of a stop (class 0x09 EVENT 3, R616). -/
def State.stopRecord (s : State) (k cause : Nat) : State := s.record 0x09 3 [byte k, byte cause]

/-- An identification run that is under way ends with a reason (R226). -/
def Out.abortIdent (reason : Nat) (retry : Bool) (o : Out) : Out :=
  if o.ident.state = 1 then
    let again := retry && o.ident.auto && decide (o.ident.retries < 3)
    { o with ident := { o.ident with
        state := 3, reason := reason, inj := false, chip := 0, startAt := none
        retryAt := if again then some (o.goodTides + 60000) else none
        retries := if again then o.ident.retries + 1 else o.ident.retries } }
  else { o with ident := { o.ident with inj := false, chip := 0, startAt := none } }

/-- An output leaves the driven states at once: STATE, LAST_STOP; the profile is idle, its words and the compensator's
keep their last values (R208, R219). -/
def Out.halt (state cause : Nat) (tide : Nat) (o : Out) : Out :=
  { o with
    state := state, lastStop := cause, phase := .none, prof := { o.prof with state := .idle }, supvCount := 0, tmpCount := 0
    tmpWarnCount := 0, tmpCoolCount := 0, tmpBadCount := 0, stopTide := tide, goodTides := 0, holdUs := 0, inHold := false, leaving := false }

/-! ### Coefficient banks (R220) -/

/-- The coefficients of channel `ch` of output `k` as the committed description has them. -/
def State.coeffsOf (s : State) (k ch : Nat) : Coeffs :=
  { kp := s.chKp ch, ki := s.chKi ch, kd := s.chKd ch, dFilt := s.chDFilt ch, dMin := s.chDMin ch, dMax := s.chDMax ch
    intPreset := s.chIntPreset ch, rejectCount := s.chRejectCount ch, shareGain := s.chShareGain ch
    shareLimit := s.chShareLimit ch, gtSplit := s.chGtSplit ch, gtp := s.chGtp ch, gtn := s.chGtn ch
    velLimit := s.outVelLimit k, accLimit := s.outAccLimit k, jerkLimit := s.outJerkLimit k }

/-- The bank that is not in force takes a channel's coefficients, and a swap is due. (DESIGN CHOICE, log 88) -/
def State.stageBank (s : State) (k ch : Nat) : State :=
  let f := s.coeffsOf k ch
  s.setChan ch fun c => if c.bank then { c with bank0 := f, swapDue := true } else { c with bank1 := f, swapDue := true }

/-- Both banks of a channel take its coefficients, as at a load of the description and after a word that read uncorrectable (R493). -/
def State.loadBanks (s : State) (k ch : Nat) : State :=
  let f := s.coeffsOf k ch
  s.setChan ch fun c => { c with bank0 := f, bank1 := f, swapDue := false }

/-- A due swap of a channel's banks. -/
def Chan.swap (c : Chan) : Chan := if c.swapDue then { c with bank := !c.bank, swapDue := false } else c

/-- The phases of output `k` swap together, between two evaluations (R220). -/
def State.swapBanks (s : State) (k : Nat) : State := s.each (s.phases k) fun s c => s.setChan c Chan.swap

/-- Force output `k` off: every phase low, STATE, LAST_STOP, a stop record, and any identification ended (R226, R254). -/
def State.forceOut (s : State) (k state cause : Nat) (record : Bool) : State :=
  let s := s.lowOutput k .forcedOff
  let s := s.setOut k (fun o => (o.abortIdent 0x02 true).halt state cause s.budget.tides)
  if record then s.stopRecord k cause else s

/-- The ramp of a shed output ends at once: its gates low, STATE kept. -/
def State.endRamp (s : State) (k : Nat) : State :=
  (s.lowOutput k .forcedOff).setOut k fun o => { o with phase := .none, prof := { o.prof with state := .idle } }

/-- Force off one dependant of an output that stopped (R254): STATE 1 while WANTED is 1, else 0; LAST_STOP 4. A
scanner shutdown less than one scan period old counts as a stop of the dependant (Table 10-7). (DEDUCED, log 68) -/
def State.forceDependant (s : State) (j : Nat) : State :=
  let o := s.outAt j
  let next := if o.wanted then 1 else 0
  if o.live then s.forceOut j next 4 true
  else if o.state = 1 then s.setOut j fun o => { o with state := next, lastStop := 4, phase := if next = 1 then .waiting else .none }
  else if o.state = 5 ∧ o.driven = true then s.endRamp j
  else if o.state = 4 ∧ o.lastStop = 2 ∧ s.scan.total < o.shutAt + 512 then
    s.setOut j fun o => { o with state := next, lastStop := 4, phase := .none }
  else s

/-- Force off every dependant of output `k` (R254). -/
def State.forceDependants (s : State) (k : Nat) : State := s.each (s.dependants [k]) State.forceDependant

/-- An output fails: STATE 4 with LAST_STOP, its dependants forced off (R248, R254). -/
def State.failOut (s : State) (k cause : Nat) (record : Bool) : State :=
  (s.forceOut k 4 cause record).forceDependants k

/-- Every dependant of `k`, at any depth, lets its ordered stop ramp (R253). -/
def State.depsQuiet (s : State) (k : Nat) : Bool := (s.dependants [k]).all fun j => (s.outAt j).quiet

/-- Order output `k` to stop (R253): the ramp begins once its dependants are quiet. From STATE 1 and from the shorted
high-side test the stop is immediate, with no lockout (Table 10-7). -/
def State.orderStop (s : State) (k cause : Nat) : State :=
  let o := s.outAt k
  if o.state = 1 then s.setOut k fun o => { o with state := 0, phase := .none }
  else if o.state = 2 ∧ o.phase = .testing then
    (s.lowOutput k (s.idleState)).setOut k fun o => o.halt 0 cause s.budget.tides
  else if o.state = 2 ∨ o.state = 3 then
    (s.setOut k fun o =>
      { (o.abortIdent 0x02 true) with
        state := 7, lastStop := cause, phase := .stopPending }).stopRecord k cause
  else s

/-- Start conditions of an output in STATE 1 (R249). -/
def State.startOk (s : State) (k : Nat) : Bool :=
  (s.prereqs k).all (fun j => (s.outAt j).state = 3)
    && !(s.outAt k).held
    && s.token
    && s.running && s.power.shutdown.isNone && !s.power.longPress
    && (s.phases k).all (fun c => !(s.clusterAt (quadrant c)).calibrating && (s.clusterAt (quadrant c)).initialised
        && !s.quadrantHeld (quadrant c) && !(s.chanAt c).flt)

/-- What the sequencer does by itself to output `k`: 0 to 1 with WANTED, the delay begins or lapses with the start
conditions, a pending ramp begins once the dependants are quiet (R248 to R250, R253). -/
def State.settleOut (s : State) (k : Nat) : State :=
  let s := if (s.outAt k).state = 0 ∧ (s.outAt k).wanted then s.setOut k fun o => { o with state := 1, phase := .waiting }
    else s
  let o := s.outAt k
  if o.state = 1 then
    s.setOut k fun o => { o with phase := if s.startOk k then .delay else .waiting }
  else if (o.state = 7 ∨ o.state = 5) ∧ o.phase = .stopPending ∧ s.depsQuiet k then
    s.setOut k fun o => { o with phase := .stopping }
  else s

/-- The sequencer's own transitions on every enabled output (R248), on the controller that holds the gate token. -/
def State.settle (s : State) : State := if s.token then s.each s.enabledOuts State.settleOut else s

/-- A phase of output `k` has been forced off (R186 to R188): every phase low and forced off; a running output is in STATE 4 with
LAST_STOP 7, a shed one that still ramps keeps STATE 5, and one that does not run keeps its STATE. (DEDUCED, log 67) -/
def State.phaseForced (s : State) (k : Nat) : State :=
  if (s.outAt k).live then s.failOut k 7 true
  else if (s.outAt k).driven then s.endRamp k
  else s.lowOutput k .forcedOff

/-- A failed or cleared output goes to STATE 0 (R266); the sequencer takes it on to 1 while it is WANTED. Its channels stay forced
off until it starts (R186). -/
def State.clearOut (s : State) (k by_ : Nat) : State :=
  let s := s.setOut k fun o => { o with state := 0, phase := .none, held := false }
  s.record 0x09 4 [byte k, byte by_, byte (s.outAt k).triesLeft]

/-- WANTED set on an output (Table 10-1): one that still switches under an ordered stop rises again from its present
set-point (Table 10-7). A long press prevails, and so does Last-gasp's ramp. -/
def State.want (s : State) (k : Nat) : State :=
  if s.power.longPress then s
  else
    let s := s.setOut k fun o => { o with wanted := true }
    if (s.outAt k).state = 7 ∧ s.mode ≠ .lastGasp then
      s.setOut k fun o => { o with state := 2, phase := .rising, inHold := false, holdUs := 0, goodTides := 0 }
    else s

/-- Clear WANTED on every output (Table 10-1). -/
def State.clearWanted (s : State) : State := s.each (upto 128) fun s k => s.setOut k fun o => { o with wanted := false }

/-- Every output off at once: both gates and PEN low, STATE 0 but for a lockout (R33, R75). (DEDUCED, log 68) -/
def State.outputsOff (s : State) (cause : Nat) : State :=
  s.each (upto 128) fun s k =>
    let o := s.outAt k
    if o.live then (s.lowOutput k s.idleState).setOut k fun o => (o.abortIdent 0x08 false).halt 0 cause s.budget.tides
    else if o.state = 1 then s.setOut k fun o => { o with state := 0, phase := .none }
    else if o.driven then s.endRamp k
    else s

/-- Safe-hold policy of one output (R39): 0 keeps it, 1 ramps it off, 2 drives it off at once; a test in progress ends
with STATE 1 and no start follows (Table 10-7). (DEDUCED, log 68) -/
def State.safeHoldOut (s : State) (k : Nat) : State :=
  let o := s.outAt k
  if o.state = 2 ∧ o.phase = .testing then
    (s.lowOutput k s.idleState).setOut k fun o => { o with state := 1, phase := .waiting }
  else if o.state = 1 then s.setOut k fun o => { o with phase := .waiting }
  else if !o.live then s
  else if s.outSafeHold k = 1 then s.orderStop k 7
  else if s.outSafeHold k = 2 then s.failOut k 7 true
  else s

/-- Every enabled output is held by its Safe-hold policy (R39). -/
def State.safeHoldOutputs (s : State) : State := (s.each s.enabledOuts State.safeHoldOut).settle

end Sys2Proof.Machine
end

