-- ==== Sys2Proof/Machine/HostOps.lean ====
section
/-! DEFINITION. Mailboxes, sessions and orders (chapters 5 and 19): the request, the response, the order index with the
checks that come before every order, and waiting orders. -/
namespace Sys2Proof.Machine

/-- Status codes of Table 19-4. -/
inductive Status where
  | ok | busy | badOrder | notNegotiated | privilege | badArg | wrongMode | staleGeneration | notInitialised
  | uncorrectable | gone | timeout | locked | notYet
  deriving DecidableEq, Repr

/-- The code of a status (Table 19-4). -/
def Status.code : Status → Nat
  | .ok => 0x00 | .busy => 0x01 | .badOrder => 0x02 | .notNegotiated => 0x03 | .privilege => 0x04 | .badArg => 0x05
  | .wrongMode => 0x06 | .staleGeneration => 0x07 | .notInitialised => 0x08 | .uncorrectable => 0x09 | .gone => 0x0A
  | .timeout => 0x0B | .locked => 0x0C | .notYet => 0x0D

/-- A request as it stands in a mailbox (Table 5-5). -/
structure Req where
  mb : Nat
  order : Nat
  flags : Nat
  tag : Nat
  len : Nat
  session : Nat
  minGen : Nat
  /-- feature set in force at the doorbell (R132) -/
  feats : Nat
  /-- transport of the mailbox: 0 host port, 1 Ethernet, 2 TW0 -/
  transport : Nat
  payload : Bytes
  deriving DecidableEq, Repr

/-- Unsigned payload field of `n` bytes at offset `o`. -/
def Req.u (q : Req) (o n : Nat) : Nat := fld q.payload o n

/-- The layout check of R501: LENGTH equals `n`, and every reserved (offset, size) holds zero. -/
def Req.lay (q : Req) (n : Nat) (rsv : List (Nat × Nat)) : Bool :=
  decide (q.len = n) && rsv.all fun r => allZero q.payload r.1 r.2

/-- Transport number of an owner. -/
def Owner.transport : Owner → Nat
  | .free | .host => 0
  | .ethernet => 1
  | .tw0 => 2

/-- Code of an owner in MB_OWNER (Table 5-4). -/
def Owner.code : Owner → Nat
  | .free => 0 | .host => 1 | .ethernet => 2 | .tw0 => 3

/-- Offset of mailbox `n` in the mailbox RAM. -/
def mbBase (n : Nat) : Nat := n * 0x400

/-- A request by its bytes (Table 5-5). -/
def reqOf (b : Bytes) (mb feats transport : Nat) : Req :=
  { mb := mb, order := fld b 0 2, flags := fld b 2 2, tag := fld b 4 2, len := fld b 6 2, session := fld b 8 4
    minGen := fld b 12 4, feats := feats, transport := transport, payload := b.drop 16 }

/-- The request in mailbox `n`. -/
def State.request (s : State) (n : Nat) : Req :=
  let m := s.mbAt n
  reqOf (memReadN s.host.ram (mbBase n) 512) n m.feats m.owner.transport

/-- Is MB_HOST_MASK in force for mailbox `n`? -/
def State.hostOwns (s : State) (n : Nat) : Bool := bit s.host.ownMask n

/-- Mailbox `n` becomes free, and the mask as written takes effect for it (R118). -/
def State.freeMb (s : State) (n : Nat) : State :=
  let s := s.setMb n fun _ => {}
  { s with host := { s.host with ownMask := setBit s.host.ownMask n (bit s.host.hostMask n) } }

/-- The highest-numbered free pool mailbox (R118). -/
def State.freePool (s : State) : Option Nat :=
  firstN (fun n => !s.hostOwns n && !(s.mbAt n).busy && !(s.mbAt n).done) (upto 16).reverse

/-- MB_DONE as a map. -/
def State.mbDoneMap (s : State) : Nat := sumN ((upto 16).map fun n => b2n (s.mbAt n).done * 2 ^ n)

/-- MB_BUSY as a map. -/
def State.mbBusyMap (s : State) : Nat := sumN ((upto 16).map fun n => b2n (s.mbAt n).busy * 2 ^ n)

/-- The sessions that are open or await proof, by number. -/
def State.openSessions (s : State) : List Nat :=
  (s.host.sessions.filter fun e => e.2.state ≠ .closed).map (·.1)

/-! ### Order index -/

/-- A row of Table 19-3. `priv` none: the session column names no privilege. -/
structure OrderRow where
  code : Nat
  priv : Option Nat
  modes : List Mode
  feats : List Nat
  deriving DecidableEq, Repr

/-- Every active mode. -/
def modesAll : List Mode := [.configure, .shadow, .run, .rideThrough, .safeHold, .service]
/-- Configure, Run, Ride-through, Service. -/
def modesEdit : List Mode := [.configure, .run, .rideThrough, .service]
/-- Run, Ride-through, Service. -/
def modesLive : List Mode := [.run, .rideThrough, .service]
/-- Configure, Service. -/
def modesSetup : List Mode := [.configure, .service]
/-- Configure, Shadow, Run, Ride-through, Service. -/
def modesTrace : List Mode := [.configure, .shadow, .run, .rideThrough, .service]
/-- Configure, Safe-hold, Service. -/
def modesStore : List Mode := [.configure, .safeHold, .service]
/-- Configure, Shadow, Run, Service. -/
def modesFw : List Mode := [.configure, .shadow, .run, .service]

/-- A row of Table 19-3 in the order of its columns. -/
def orderOf (code : Nat) (priv : Option Nat) (modes : List Mode) (feats : List Nat) : OrderRow :=
  { code := code, priv := priv, modes := modes, feats := feats }

/-- Groups 0x01 to 0x04 of Table 19-3. -/
def ordersA : List OrderRow := [
  orderOf 0x0101 none modesAll [0], orderOf 0x0102 none modesAll [0], orderOf 0x0103 (some 0) modesAll [0],
  orderOf 0x0104 (some 1) modesSetup [0], orderOf 0x0105 (some 0) modesAll [0],
  orderOf 0x0201 (some 0) modesAll [0], orderOf 0x0202 (some 1) modesAll [1],
  orderOf 0x0301 (some 0) modesAll [2], orderOf 0x0302 (some 1) modesEdit [2], orderOf 0x0303 (some 1) modesEdit [2],
  orderOf 0x0304 (some 1) modesEdit [2], orderOf 0x0305 (some 1) modesEdit [2], orderOf 0x0306 (some 1) modesEdit [2],
  orderOf 0x0307 (some 1) modesEdit [2], orderOf 0x0308 (some 0) modesAll [2],
  orderOf 0x0401 (some 1) modesEdit [3], orderOf 0x0402 (some 1) [.run, .service] [24],
  orderOf 0x0403 (some 0) modesAll [24], orderOf 0x0404 (some 1) modesLive [24], orderOf 0x0405 (some 1) modesEdit [24],
  orderOf 0x0406 (some 1) modesLive [3], orderOf 0x0407 (some 1) [.run, .rideThrough, .safeHold, .service] [3],
  orderOf 0x0408 (some 1) [.configure, .run, .rideThrough, .safeHold, .service] [3],
  orderOf 0x0409 (some 0) modesAll [3], orderOf 0x040A (some 0) modesAll [3]]

/-- Groups 0x05 to 0x0A of Table 19-3. -/
def ordersB : List OrderRow := [
  orderOf 0x0501 (some 1) modesTrace [4], orderOf 0x0502 (some 1) modesTrace [4], orderOf 0x0503 (some 1) modesTrace [4],
  orderOf 0x0504 (some 0) modesAll [4], orderOf 0x0505 (some 0) modesAll [4], orderOf 0x0506 (some 1) modesTrace [4, 5],
  orderOf 0x0601 (some 0) modesAll [6], orderOf 0x0602 (some 1) modesLive [6],
  orderOf 0x0603 (some 1) [.run, .rideThrough, .safeHold, .service] [6],
  orderOf 0x0701 (some 0) modesAll [7], orderOf 0x0702 (some 1) modesLive [7],
  orderOf 0x0703 (some 1) [.run, .service] [7, 8], orderOf 0x0704 (some 1) modesEdit [7],
  orderOf 0x0801 (some 0) modesAll [10], orderOf 0x0802 (some 0) modesAll [10], orderOf 0x0803 (some 2) modesSetup [10],
  orderOf 0x0804 (some 1) modesEdit [10],
  orderOf 0x0901 (some 0) modesAll [11], orderOf 0x0902 (some 1) [.run, .service] [11, 12],
  orderOf 0x0903 (some 0) modesAll [11, 12], orderOf 0x0904 (some 1) modesAll [11], orderOf 0x0905 (some 1) modesAll [11],
  orderOf 0x0906 (some 1) modesEdit [11],
  orderOf 0x0A01 (some 0) modesAll [13], orderOf 0x0A02 (some 1) modesLive [13], orderOf 0x0A03 (some 1) [.shadow] [13],
  orderOf 0x0A04 (some 1) [.shadow, .run, .rideThrough, .service] [13], orderOf 0x0A05 (some 0) [.shadow] [13]]

/-- Groups 0x0B to 0x0E of Table 19-3. -/
def ordersC : List OrderRow := [
  orderOf 0x0B01 (some 0) modesAll [14], orderOf 0x0B02 (some 0) modesAll [14], orderOf 0x0B03 (some 0) modesAll [14],
  orderOf 0x0B04 (some 1) modesAll [14, 26], orderOf 0x0B05 (some 1) modesAll [14, 26],
  orderOf 0x0C01 (some 0) modesAll [16], orderOf 0x0C02 (some 0) modesAll [16], orderOf 0x0C03 (some 0) modesAll [16],
  orderOf 0x0C04 (some 1) modesAll [16], orderOf 0x0C05 (some 2) modesStore [16, 17], orderOf 0x0C06 (some 2) modesStore [16],
  orderOf 0x0C07 (some 1) modesAll [16, 26], orderOf 0x0C08 (some 1) modesAll [16, 26],
  orderOf 0x0C09 (some 0) modesAll [16, 5],
  orderOf 0x0D01 (some 0) modesAll [18], orderOf 0x0D02 (some 0) modesAll [18], orderOf 0x0D03 (some 1) modesAll [18],
  orderOf 0x0D04 (some 0) modesAll [18], orderOf 0x0D05 (some 2) modesAll [18],
  orderOf 0x0E01 (some 0) modesAll [19],
  orderOf 0x0E02 (some 1) [.configure, .run, .rideThrough, .safeHold, .service] [19]]

/-- Groups 0x0F to 0x12 of Table 19-3. -/
def ordersD : List OrderRow := [
  orderOf 0x0F01 (some 0) modesAll [0], orderOf 0x0F02 (some 2) modesSetup [20], orderOf 0x0F03 (some 2) modesSetup [20],
  orderOf 0x1001 (some 0) modesAll [0], orderOf 0x1002 (some 2) modesFw [21], orderOf 0x1003 (some 2) modesFw [21],
  orderOf 0x1101 (some 0) modesAll [22], orderOf 0x1102 (some 1) modesAll [22],
  orderOf 0x1201 (some 2) modesAll [23], orderOf 0x1202 (some 2) modesAll [23]]

/-- The orders of order-set version 4.2 (R507, Table 19-3). -/
def orderTable : List OrderRow := ordersA ++ ordersB ++ ordersC ++ ordersD

/-- The row of an order code. -/
def orderRow (code : Nat) : Option OrderRow := orderTable.find? fun r => decide (r.code = code)

/-- Is a row's order permitted in the present mode? GAUGE.PROBE in Service asks for an entry from Run. -/
def OrderRow.served (r : OrderRow) (s : State) : Bool :=
  r.modes.contains s.mode && !(r.code = 0x0902 && s.mode = .service && s.power.fromMode ≠ .run)

/-- Is a session named by a request open on its transport, with the privilege of the row (R122, step 3)? -/
def State.sessionOk (s : State) (q : Req) (r : OrderRow) : Bool :=
  let e := s.sesAt q.session
  match r.priv with
  | none =>
    if q.order = 0x0101 then q.session = 0
    else e.state = .proving && e.transport = q.transport
  | some p => e.state = .openS && e.transport = q.transport && p ≤ e.privilege

/-- The first of the statuses 1 to 6 of R122 that applies. (DEDUCED, log 14) -/
def State.judge (s : State) (q : Req) : Option Status :=
  match orderRow q.order with
  | none => some .badOrder
  | some r =>
    if q.len > 496 ∨ q.flags ≥ 4 then some .badArg
    else if !s.sessionOk q r then some .privilege
    else if !(r.feats.all fun f => bit q.feats f) then some .notNegotiated
    else if bit q.flags 0 && !geq32 s.sluice.generation q.minGen then some .staleGeneration
    else if !r.served s then some .wrongMode
    else none

/-- The same for an order that asks for more at step 3, `mayP`, or at step 4, `mayF`, by what its payload names. -/
def State.judgeWith (s : State) (q : Req) (mayP mayF : Bool) : Option Status :=
  match s.judge q with
  | some .badOrder => some .badOrder
  | some .badArg => some .badArg
  | some .privilege => some .privilege
  | r => if !mayP then some .privilege else if !mayF then some .notNegotiated else r

/-! ### Responses -/

/-- Bytes of a response (Table 5-6): header and payload. -/
def State.responseBytes (s : State) (q : Req) (st : Status) (payload : Bytes) (epoch : Nat) : Bytes :=
  [byte st.code, 0] ++ leBytes 2 q.tag ++ leBytes 2 payload.length ++ leBytes 2 q.order
    ++ leBytes 4 s.sluice.generation ++ leBytes 4 epoch ++ payload

/-- The leftmost 64 bits of a CMAC, as a byte string. (DEDUCED, log 74) -/
def mac64 (key : Nat) (m : Bytes) : Bytes := beBytes 8 (cmac key m / 2 ^ 64)

/-- A mailbox datagram (Table 5-9): KIND 2 responses, KIND 3 pool rejects, KIND 4 pushes. `key` none: the MAC is zero. -/
def datagram (kind session counter : Nat) (body : Bytes) (key : Option Nat) : Bytes :=
  let h := leBytes 2 0x4854 ++ [0x01, byte kind] ++ leBytes 4 session ++ leBytes 8 counter ++ body
  h ++ (match key with | none => zeros 8 | some k => mac64 k h)

/-- A management Ethernet port: L4 or L5. -/
def Ethernet.portAt (e : Ethernet) (p : Nat) : EthPort := if p = 4 then e.l4 else e.l5

/-- Does a port serve: up, and its address free of a duplicate (R552)? (DEDUCED, log 42) -/
def State.ethServes (s : State) (p : Nat) : Bool := (p = 4 || p = 5) && (s.eth.portAt p).up && (s.eth.portAt p).dadDone

/-- The Ethernet port to send on: the wanted one, or the other one where that is down (R553, R555). -/
def State.ethPortFor (s : State) (p : Nat) : Option Nat :=
  let up := s.ethServes
  if up p then some p else if up (9 - p) then some (9 - p) else none

/-- Send a datagram on a port or, where it is down, on the other. -/
def State.sendEth (s : State) (p : Nat) (d : Bytes) : State :=
  match s.ethPortFor p with
  | none => s
  | some p => s.send (.eth p d)

/-- Write the whole response half of mailbox `n`. (DESIGN CHOICE, log 13) -/
def State.writeResponse (s : State) (n : Nat) (r : Bytes) : State :=
  { s with host := { s.host with ram := memWriteN s.host.ram (mbBase n + 0x200) (padTo 512 r) } }

/-- The status of a code. -/
def Status.ofCode (n : Nat) : Status :=
  [Status.ok, .busy, .badOrder, .notNegotiated, .privilege, .badArg, .wrongMode, .staleGeneration, .notInitialised,
    .uncorrectable, .gone, .timeout, .locked, .notYet].getD n .ok

/-- Complete the order of mailbox `n`: the whole response half is written, then MB_BUSY cleared and MB_DONE set
(R119, step 4); an Ethernet response is sent and its mailbox freed (R128, R129). The count of consecutive BUSY answers
is kept for source 306. -/
def State.deliver (s : State) (n : Nat) (st : Status) (payload : Bytes) (epoch : Nat) : State :=
  let q := s.request n
  let m := s.mbAt n
  let r := s.responseBytes q st payload epoch
  let s := s.writeResponse n r
  let s := { s with host := { s.host with busyRun := if st = Status.busy then s.host.busyRun + 1 else 0 } }
  match m.owner with
  | .ethernet =>
    let keyless := q.order = 0x0101 || q.order = 0x0102
    let d := datagram 2 q.session m.counter r (if keyless then none else some m.key)
    let s := s.setSes q.session fun e =>
      if e.state ≠ SessState.closed ∧ e.counter = m.counter then { e with response := d } else e
    (s.sendEth m.port d).freeMb n
  | .tw0 =>
    let s := s.setMb n fun m => { m with busy := false, done := true, quiet := bit q.flags 1 }
    { s with tw := { s.tw with tState := 2, tOffset := 0 } }
  | _ => s.setMb n fun m => { m with busy := false, done := true, quiet := bit q.flags 1 }

/-- Is the order of mailbox `n` an operate order (Table 19-3)? (DEDUCED, log 56) -/
def State.operateOrder (s : State) (n : Nat) : Bool :=
  match orderRow (s.request n).order with
  | some r => r.priv = some 1
  | none => false

/-- Must the response of mailbox `n` wait: the warden is halted (R21), or a claim's generation record is not yet flushed and the
order is an operate order (R411)? -/
def State.holdsReply (s : State) (n : Nat) : Bool := s.anyHalted || (s.sluice.genHeld && s.operateOrder n)

/-- Complete the order of mailbox `n`, at once or once nothing holds its response (R21, R411). -/
def State.respond (s : State) (n : Nat) (st : Status) (payload : Bytes) (epoch : Nat) : State :=
  if s.holdsReply n then
    let h : HeldReply := { mailbox := n, status := st.code, payload := payload, epoch := epoch }
    { s with sluice := { s.sluice with heldReplies := s.sluice.heldReplies ++ [h] } }
  else s.deliver n st payload epoch

/-- The held responses that nothing holds any more are written, oldest first (R21, R411). (DEDUCED, log 56) -/
def State.flushReplies (s : State) : State :=
  let go := s.sluice.heldReplies.filter fun h => !s.holdsReply h.mailbox
  let s := { s with sluice := { s.sluice with heldReplies := s.sluice.heldReplies.filter fun h => s.holdsReply h.mailbox } }
  go.foldl (fun s h => s.deliver h.mailbox (Status.ofCode h.status) h.payload h.epoch) s

/-- The generation record of a claim has been flushed (R411). (DEDUCED, log 56) -/
def State.deliverHeld (s : State) : State := ({ s with sluice := { s.sluice with genHeld := false } }).flushReplies

/-! ### Waiting orders -/

/-- The order just started goes on waiting. -/
def State.wait (s : State) (q : Req) (what : WaitKind) : State :=
  { s with waiting := s.waiting ++ [{ mailbox := q.mb, session := q.session, what := what }] }

/-- The waiting order of mailbox `n`. -/
def State.waitingOn (s : State) (n : Nat) : Option Waiting := s.waiting.find? fun w => decide (w.mailbox = n)

/-- No order of mailbox `n` waits any more. -/
def State.unwait (s : State) (n : Nat) : State :=
  { s with waiting := s.waiting.filter fun w => decide (w.mailbox ≠ n) }

/-- A waiting order is answered now. -/
def State.finish (s : State) (n : Nat) (st : Status) (payload : Bytes) : State :=
  (s.unwait n).respond n st payload s.clocks.epoch

/-- Every waiting order that meets a condition is answered. -/
def State.finishAll (s : State) (p : Waiting → Bool) (st : Status) : State :=
  (s.waiting.filter p).foldl (fun s w => s.finish w.mailbox st []) s

/-- Accept a doorbell of mailbox `n` for a transport: MB_BUSY, MB_OWNER and the feature set in force (R119, R132). -/
def State.ring (s : State) (n : Nat) (o : Owner) (port counter key : Nat) : State :=
  let q := s.request n
  let e := s.sesAt q.session
  let feats := if e.state = .openS && e.offered then e.features else 1
  let s := s.setMb n fun _ =>
    { busy := true, done := false, owner := o, quiet := false, feats := feats, port := port, counter := counter, key := key }
  { s with host := { s.host with orders := s.host.orders ++ [n] } }

/-- Can the warden start an order: it runs, not halted (R21)? -/
def State.wardenRuns (s : State) : Bool := s.mode.firmware && !s.anyHalted

/-! ### Interrupts of the host port -/

/-- Set MODE_CHANGE. -/
def State.irqMode (s : State) : State := { s with host := { s.host with irqModeChange := true } }
/-- Set GENERATION. -/
def State.irqGen (s : State) : State := { s with host := { s.host with irqGeneration := true } }

end Sys2Proof.Machine
end

