-- ==== Sys2Proof/Machine/Mirror.lean ====
section
/-! DEFINITION. The partner link's sending side (chapter 15): frame envelopes, the mirror body, events, fitness, and the
passing of the gate token by a yield. -/
namespace Sys2Proof.Machine

/-- Is a partner-link lane up that PEER.LANES names (R394, R395)? -/
def State.linkUp (s : State) : Bool :=
  (bit s.peerLanes 0 && s.sluice.lane6.up) || (bit s.peerLanes 1 && s.sluice.lane7.up)

/-- LANES_UP as the PEER field gives it: bit 0 L6, bit 1 L7. -/
def State.peerLanesUp (s : State) : Nat :=
  b2n (bit s.peerLanes 0 && s.sluice.lane6.up) + 2 * b2n (bit s.peerLanes 1 && s.sluice.lane7.up)

/-- A frame of the partner link (Table 15-2). -/
def State.peerFrame (s : State) (ftype : Nat) (body : Bytes) : Bytes :=
  let h := [byte ftype, byte (Tab.get 0 s.sluice.txSeq ftype)] ++ leBytes 2 body.length
    ++ leBytes 4 s.sluice.generation ++ body
  h ++ leBytes 4 (crc32c h)

/-- Send a frame on every named lane that is up (R394); SEQ counts per TYPE. -/
def State.sendPeer (s : State) (ftype : Nat) (body : Bytes) : State :=
  if s.linkUp then
    let s := s.send (.partner ftype (s.peerFrame ftype body))
    { s with sluice := { s.sluice with txSeq := Tab.upd 0 s.sluice.txSeq ftype fun n => (n + 1) % 256 } }
  else s

/-- Send an EVENT (Table 15-11). -/
def State.peerEvent (s : State) (code : Nat) (data : Bytes) : State :=
  if s.partner then s.sendPeer 0x08 (leBytes 2 code ++ padTo 14 data) else s

/-! ### The latch -/

/-- Lead channel of the output a channel belongs to, itself where it belongs to none. -/
def State.leadOf (s : State) (ch : Nat) : Nat :=
  match s.outputOf ch with
  | some k => s.lead k
  | none => ch

/-- The compensator words of the output whose phase `ch` is (Table 15-5: the lead's values on every phase). -/
def State.compOf (s : State) (ch : Nat) : Comp :=
  match s.outputOf ch with
  | some k => (s.outAt k).comp
  | none => {}

/-- Loop words of channel `ch` as they stand. -/
def State.latchChan (s : State) (ch : Nat) : ChanLatch :=
  let c := s.chanAt ch
  let w := s.compOf ch
  { ist := w.ist, dst := w.dst, u := w.u, share := c.share, ibar := c.curMean, ePrev := w.ePrev, rejRun := w.rejRun
    chState := c.code }

/-- Profile words of output `k` as they stand. -/
def State.latchOut (s : State) (k : Nat) : OutLatch :=
  let o := s.outAt k
  { x := o.prof.x, v := o.prof.v, a := o.prof.a, profile := o.prof.state.code + 8 * b2n o.prof.brake, state := o.state }

/-- Latch the loop state of every channel and output (R399). -/
def State.latchAll (s : State) : State :=
  { s with sluice := { s.sluice with
      latch := (upto 128).foldl (fun t k => Tab.set {} t k (s.latchChan k)) []
      latchOut := (upto 128).foldl (fun t k => Tab.set {} t k (s.latchOut k)) [] } }

/-- A channel record (Table 15-5), 24 bytes. -/
def ChanLatch.bytes (c : ChanLatch) : Bytes :=
  leBytes 4 (toU 32 c.ist) ++ leBytes 4 (toU 32 c.dst) ++ leBytes 4 (toU 32 c.u) ++ leBytes 4 (toU 32 c.share)
    ++ leBytes 4 (toU 32 c.ibar) ++ leBytes 2 (toU 16 c.ePrev) ++ [byte c.rejRun, byte c.chState]

/-- An output record (Table 15-6), 26 bytes. -/
def OutLatch.bytes (o : OutLatch) : Bytes :=
  leBytes 8 (toU 64 o.x) ++ leBytes 8 (toU 64 o.v) ++ leBytes 8 (toU 64 o.a) ++ [byte o.profile, byte o.state]

/-- A channel record read back (Table 15-5). -/
def ChanLatch.ofBytes (b : Bytes) : ChanLatch :=
  { ist := ofU 32 (fld b 0 4), dst := ofU 32 (fld b 4 4), u := ofU 32 (fld b 8 4), share := ofU 32 (fld b 12 4)
    ibar := ofU 32 (fld b 16 4), ePrev := ofU 16 (fld b 20 2), rejRun := fld b 22 1, chState := fld b 23 1 }

/-- An output record read back (Table 15-6). -/
def OutLatch.ofBytes (b : Bytes) : OutLatch :=
  { x := ofU 64 (fld b 0 8), v := ofU 64 (fld b 8 8), a := ofU 64 (fld b 16 8), profile := fld b 24 1, state := fld b 25 1 }

/-- Is an identification injection in progress on any output? -/
def State.injecting (s : State) : Bool := (s.out.any fun e => e.2.ident.state = 1)

/-- The MIRROR body (Tables 15-4 to 15-6) from the latch, with the quadrant counts `qref` of the strobe. -/
def State.mirrorBody (s : State) (qref : Nat → Nat) : Bytes :=
  leBytes 4 s.clocks.epoch ++ [byte s.sluice.strobe, byte (b2n s.injecting + 2 * b2n (s.mode = .lastGasp)), 0]
    ++ ((upto 4).map fun q => leBytes 8 (qref q)).flatten
    ++ ((upto 128).map fun k => (Tab.get ({} : ChanLatch) s.sluice.latch k).bytes).flatten
    ++ ((upto 128).map fun k => (Tab.get ({} : OutLatch) s.sluice.latchOut k).bytes).flatten

/-- Start HANDOVER (Table 15-3): the loop state is latched and sent at once. The quadrant counts at that instant are not
held by the model: they are free values. (DEDUCED, log 54) -/
def State.sendHandover (s : State) (cause noApply : Nat) : State :=
  let s := s.latchAll
  let body := [byte cause, byte noApply, 0, 0] ++ s.mirrorBody (s.fresh .unstated)
  (s.used).sendPeer 0x05 body

/-! ### Fitness -/

/-- Is the partner fit, as its last HELLO reported it? -/
def State.partnerFit (s : State) : Bool := s.partner && s.sluice.hello && bit s.sluice.pFit 0

/-- Is this controller active with a fit partner: may it yield (R407)? -/
def State.canYield (s : State) : Bool := s.token && s.partnerFit

/-- Is the mirror fresh (R400)? -/
def State.mirrorFresh (s : State) : Bool := decide (s.sluice.mirrorAge ≤ 200)

/-- In Shadow, or in Service entered from Shadow. -/
def State.shadowing (s : State) : Bool := s.effectiveMode = .shadow

/-- Is this standby fit (R406)? -/
def State.fit (s : State) : Bool :=
  s.shadowing && !s.sluice.withdrawn && s.sluice.pDesc = s.desc.sequence && s.sluice.superLast < 10
    && 50 ≤ s.sluice.mirrorsApplied && !s.power.longPress

/-- FIT of Table 15-12. -/
def State.fitBits (s : State) : Nat :=
  b2n s.fit + 2 * b2n s.sluice.withdrawn + 4 * b2n s.mirrorFresh + 8 * b2n (decide (s.sluice.superLast < 10))
    + 16 * b2n (decide (s.sluice.pDesc = s.desc.sequence)) + 32 * b2n (s.mode = .lastGasp) + 64 * b2n s.power.longPress

/-- GENERATION of the latest generation record the logbook holds (R411), none where it holds none. -/
def Logbook.lastGeneration (l : Logbook) : Option Nat :=
  let best := (l.store ++ l.staging).foldl (fun (a : Option (Nat × Nat)) e =>
    if e.2.cls = 0x11 ∧ fld e.2.payload 4 2 = 1 ∧ (match a with | none => true | some x => decide (x.1 < e.2.seq)) = true
    then some (e.2.seq, fld e.2.payload 8 4) else a) none
  best.map (·.2)

/-- G_seen of R411: the latest under R10 of the own generation, those received and the logbook's. (DEDUCED, log 29) -/
def State.gSeen (s : State) : Nat :=
  let g := if later32 s.sluice.genSeen s.sluice.generation then s.sluice.genSeen else s.sluice.generation
  match s.log.lastGeneration with
  | some r => if later32 r g then r else g
  | none => g

/-- The HELLO body (Table 15-3); `tstamp` is the reference count at its Start block. -/
def State.helloBody (s : State) (tstamp : Nat) : Bytes :=
  leBytes 4 s.dieId ++ [byte s.modeCode, byte s.role, byte s.fitBits, 0] ++ leBytes 4 s.desc.sequence
    ++ leBytes 4 s.gSeen ++ leBytes 4 tstamp

/-- Drop SLUICE_OWN: every gate and PEN low, and the token not raised again for 10 ms (R392). A shorted high-side test in
progress has ended (R192). -/
def State.dropToken (s : State) : State :=
  if s.sluice.own then
    let s := { s with sluice := { s.sluice with own := false, dropped := true } }
    let s := s.each (s.enabledOuts.filter fun k => decide ((s.outAt k).phase = .testing)) fun s k =>
      (s.lowOutput k .notOwned).setOut k fun o => { o with state := 1, phase := .waiting }
    s.lowAll .notOwned
  else s

/-- Steps 1 and 2 of Table 15-10 on the old active: HANDOVER, SLUICE_OWN low, the yield record with the generation the
new active takes (R411), withdrawal by cause (R407), the overlap of R412, any challenge ended (R416). -/
def State.passToken (s : State) (cause noApply : Nat) : State :=
  let s := s.sendHandover cause noApply
  let s := s.dropToken
  let s := s.record 0x11 4 ([byte cause, byte noApply, 0, 0] ++ leBytes 4 (s.gSeen + 1))
  let s := s.irqGen
  { s with sluice := { s.sluice with
      lastCause := cause, handoverEpoch := s.clocks.epoch, overlap := true, macStopped := false, cmpState := 0, testing := 0
      oldOrders := s.host.orders ++ s.waiting.map (·.mailbox)
      withdrawn := s.sluice.withdrawn || [2, 3, 4, 5, 8, 9].contains cause } }

end Sys2Proof.Machine
end

