-- ==== Sys2Proof/Machine/Checkpoint.lean ====
section
/-! DEFINITION. The gauge checkpoint (R376 to R378) and the early end of a probe (R384), which mode changes cause. -/
namespace Sys2Proof.Machine

/-- The strings a checkpoint holds: enabled and not absent (R376). -/
def State.ckptStrings (s : State) : List Nat :=
  (upto 32).filter fun k => s.strEnable k = 1 && (s.stringAt k).state ≠ 0

/-- SOH: FULL as a fraction of CAPACITY, in 0.01 %. -/
def State.soh (s : State) (k : Nat) : Nat :=
  if s.strCapacity k = 0 then 0 else min 12000 ((s.stringAt k).full * 10 / s.strCapacity k)

/-- SOC_Q of Table 14-7: s, or SOC / 10,000 for a table string, in Q2.30. -/
def State.socQ (s : State) (k : Nat) : Int :=
  let b := s.stringAt k
  if s.strTable k = 1 then rdiv (b.soc * 2 ^ 30 : Nat) 10000 else satS 32 (b.s.roundMul (2 ^ 30))

/-- A checkpoint string payload (Table 14-7). (DESIGN CHOICE, log 64) -/
def State.ckptString (s : State) (no k : Nat) : Bytes :=
  let b := s.stringAt k
  leBytes 2 no ++ [byte k, byte b.state, byte b.conf, byte b.flags] ++ leBytes 6 (toU 48 (s.convAt k).cycleRaw)
    ++ leBytes 4 (toU 32 (s.socQ k)) ++ leBytes 2 b.sigma ++ leBytes 2 (toU 16 b.temp)
    ++ leBytes 4 (toU 32 (satS 32 (b.vA.roundMul 1000000))) ++ leBytes 4 (toU 32 (satS 32 (b.vB.roundMul 1000000)))
    ++ leBytes 4 (b.full / 1000) ++ leBytes 4 b.rserEst ++ leBytes 4 b.jumpCount ++ leBytes 2 (s.soh k) ++ [0, 0]

/-- A checkpoint head payload (Table 14-6). -/
def State.ckptHead (s : State) (no reason count : Nat) : Bytes :=
  leBytes 4 no ++ leBytes 4 s.clocks.epoch ++ leBytes 8 s.retained.rtcNs ++ leBytes 4 s.gauge.session
    ++ [byte reason, byte count, byte (b2n s.gauge.hib)] ++ zeros 21

/-- Stage a gauge checkpoint (R376): by the active only (R386); one still unstaged is replaced (R378). -/
def State.checkpoint (s : State) (reason : Nat) : State :=
  if s.role = 2 then s
  else
    let no := (s.gauge.ckptNo + 1) % 2 ^ 32
    let ks := s.ckptStrings
    let offer (cls : Nat) (p : Bytes) : LogOffer :=
      { cls := cls, source := 0, event := none, items := padTo 44 p, flags := 0, use := .plain }
    let kept := s.log.offers.filter fun o => o.cls ≠ 0x0A && o.cls ≠ 0x0B
    { s with
      log := { s.log with
        offers := kept ++ offer 0x0A (s.ckptHead no reason ks.length) :: ks.map (fun k => offer 0x0B (s.ckptString no k))
        ckptCurrent := ks.foldl (fun t k => Tab.set 0 t k (s.stringAt k).current) [] }
      gauge := { s.gauge with ckptNo := no } }

/-- Hibernation ends (R372): the converters run again, and each hibernated string keeps the interval for R373; at a
comparator wake `late` microseconds more were not counted. -/
def State.wakeGauge (s : State) (rtc late : Nat) : State :=
  if s.gauge.hib then
    let g := s.gauge
    { s with gauge := { g with
        hib := false, conv := Tab.mapVals {} (fun _ c => { c with hib := false }) g.conv
        strings := Tab.mapVals {} (fun _ b =>
          if b.state = 4 then
            { b with state := 2, hibNs := b.hibNs + (rtc - g.hibFrom), uncounted := b.uncounted + late, restCycles := 0 }
          else b) g.strings } }
  else s

/-- The strings of a probe's map. -/
def Probe.members (p : Probe) : List Nat := (upto 32).filter (bit p.strings)

/-- A running probe ends early with a reason (R384); a string that left it before keeps reason 0x07. The 60 s of R371 begin anew
(R387). -/
def State.endProbe (s : State) (reason : Nat) : State :=
  match s.gauge.probe with
  | none => s
  | some p =>
    let s := s.each p.members fun s k => s.setString k fun b =>
      { b with probeState := 3, probeReason := if bit p.dropped k then 7 else reason, probeEnd := s.clocks.epoch }
    { s with
      gauge := { s.gauge with probe := none, idleFrom := s.retained.rtcNs, probeRetry := if p.auto then 3600 else s.gauge.probeRetry }
      tide := { s.tide with probe := 0 } }

end Sys2Proof.Machine
end

