-- ==== Sys2Proof/Machine/LogRecord.lean ====
section
/-! DEFINITION. The bytes of a logbook record (R450, R451), and what a power failure leaves of a burst in flight (R61). -/
namespace Sys2Proof.Machine

/-- Bytes 0x00 to 0x37 of a record (Table 17-1). -/
def LogRec.body (r : LogRec) : Bytes :=
  leBytes 8 r.seq ++ [byte r.cls, byte r.source] ++ leBytes 2 r.flags ++ (padTo 44 r.payload).take 44

/-- Bytes 0x00 to 0x3B: with CHAIN, the leftmost bytes of a CMAC in their order (R451). -/
def LogRec.chained (r : LogRec) : Bytes := r.body ++ beBytes 4 r.chain

/-- The 64 bytes of a record. (DEDUCED, log 74) -/
def LogRec.bytes (r : LogRec) : Bytes := r.chained ++ leBytes 4 r.crc

/-- Does the CRC of a record check? -/
def LogRec.crcOk (r : LogRec) : Bool := decide (crc32c r.chained = r.crc)

/-- CHAIN of a record after a record of chain `prev` (R451). (DEDUCED, log 74) -/
def chainOf (key prev : Nat) (body : Bytes) : Nat := cmac key (beBytes 4 prev ++ body) / 2 ^ 96 % 2 ^ 32

/-- A record from the 64 bytes a store slot holds (Table 17-1). -/
def LogRec.ofBytes (b : Bytes) : LogRec :=
  { seq := fld b 0 8, cls := fld b 8 1, source := fld b 9 1, flags := fld b 10 2, payload := slice b 12 44
    chain := beVal (slice b 56 4), crc := fld b 60 4 }

/-- The store slot of a SEQ. -/
def Logbook.slotOf (l : Logbook) (seq : Nat) : Nat := if l.capacity = 0 then 0 else seq % l.capacity

/-- A store slot whose write was cut off after `n` bytes: the new record's bytes up to there, the old content beyond (R61). -/
def LogRec.cutAfter (new old : LogRec) (n : Nat) : LogRec := LogRec.ofBytes (new.bytes.take n ++ old.bytes.drop n)

/-- What a power failure leaves of the burst in flight (R61): the first records whole, the next one cut within its 64 bytes, the
rest unwritten; how far the write came is the burst's free value. (DESIGN CHOICE, log 78) -/
def Logbook.cutBurst (l : Logbook) : Tab LogRec :=
  match l.burst with
  | none => l.store
  | some b =>
    let whole := b.cut / 64 % (b.last + 2 - b.first)
    let put (t : Tab LogRec) (q : Nat) : Tab LogRec := Tab.set {} t (l.slotOf q) (Tab.get {} l.staging q)
    let t := (countFrom whole b.first).foldl put l.store
    let next := b.first + whole
    if next ≤ b.last then
      Tab.set {} t (l.slotOf next) (LogRec.cutAfter (Tab.get {} l.staging next) (Tab.get {} t (l.slotOf next)) (b.cut % 64))
    else t

end Sys2Proof.Machine
end

