-- ==== Sys2Proof/Machine/Operands.lean ====
section
/-! DEFINITION. Operand forms: the maps, pages and packed numbers of requests and frames, and a burst cut into words. -/
namespace Sys2Proof.Machine

/-- Numbers below `n` whose bit is set in a map. -/
def mapList (n m : Nat) : List Nat := (upto n).filter (bit m)

/-- The map of a list of numbers. -/
def listMap (l : List Nat) : Nat := sumN (l.map fun n => 2 ^ n)

/-- A map of numbers below `n` in which a condition holds. -/
def mapWhere (n : Nat) (p : Nat → Bool) : Nat := listMap ((upto n).filter p)

/-- Page `p` of a list in pages of `n`. -/
def pageOf {α : Type} (n p : Nat) (l : List α) : List α := (l.drop (n * p)).take n

/-- A signed field of `n` bytes. -/
def leS (n : Nat) (v : Int) : Bytes := leBytes n (toU (8 * n) v)

/-- An unsigned field of `n` bytes, saturating. -/
def leSat (n v : Nat) : Bytes := leBytes n (satU (8 * n) v)

/-- A burst of bytes from an address cut at word boundaries: word address, offset within the word, bytes. The 24-bit
address wraps. -/
def wordCuts : Nat → Nat → Bytes → List (Nat × Nat × Bytes)
  | 0, _, _ => []
  | _ + 1, _, [] => []
  | n + 1, a, d =>
    let o := a % 4
    (a % 2 ^ 24 - o, o, d.take (4 - o)) :: wordCuts n (a % 2 ^ 24 + (4 - o)) (d.drop (4 - o))

/-- Object ID of class `c`, index `i`. -/
def objectId (c i : Nat) : Nat := c * 4096 + i

end Sys2Proof.Machine
end

