-- ==== Sys2Proof/Machine/Modes.lean ====
section
/-! DEFINITION. Mode changes (chapter 2), what ends with them, the powering of domains, entry into the modes without
firmware, yields, and chip and block resets (chapters 3, 15). -/
namespace Sys2Proof.Machine

/-! ### What a mode or token change ends -/

/-- Every identification run ends with a reason (R226). -/
def State.abortIdents (s : State) (reason : Nat) : State :=
  s.each ((s.out.filter fun e => e.2.ident.state = 1 || e.2.ident.inj || e.2.ident.startAt.isSome).map (·.1)) fun s k => s.setOut k (Out.abortIdent reason true)

/-- Is this what a started OBJ.COMMIT waits for? -/
def WaitKind.isCommit : WaitKind → Bool
  | .commitStore | .commitPartner | .commitBoundary => true
  | _ => false

/-- A commit before its boundary is abandoned with a status and the edit closed (R147). -/
def State.abandonCommit (s : State) (st : Status) : State :=
  if s.waiting.any fun w => w.what.isCommit then
    let s := s.finishAll (fun w => w.what.isCommit) st
    { s with desc := { s.desc with
        committing := false, captured := [], edit := none, staged := [], stagedWhole := false, load := [] } }
  else s

/-- The edit ends without a commit: the staged description is discarded (R141). A commit in progress keeps it. -/
def State.closeEdit (s : State) : State :=
  if s.desc.committing then s
  else { s with desc := { s.desc with edit := none, staged := [], stagedWhole := false, load := [] } }

/-- Is a change one between Run and Ride-through? -/
def minorChange (a b : Mode) : Bool := (a = .run && b = .rideThrough) || (a = .rideThrough && b = .run)

/-- Every halted pair is released and every breakpoint cleared; the watchdog runs again (R566, R567), and the responses that the
halt held are written (R21). -/
def State.releaseHalts (s : State) : State :=
  let s := s.setSrc 305 fun x => { x with present := false }
  State.flushReplies { s with
    dbg := { s.dbg with halted := 0, breakpoints := 0 }
    boot := { s.boot with watchdogPaused := false } }

/-- The mode changes: identification runs, a probe, the edit and a commit end as R226, R384, R141 and R147 say, and
MODE_CHANGE is set. -/
def State.enterMode (s : State) (m : Mode) : State :=
  let old := s.mode
  let s := ((s.abortIdents 0x08).endProbe 0x03).wakeGauge s.retained.rtcNs 0
  let s := if minorChange old m then s
    else (s.abandonCommit (if modesEdit.contains m then .busy else .wrongMode)).closeEdit
  let s := if old = .service ∨ m = .lastGasp then s.releaseHalts else s
  let s := { s with power := { s.power with mode := m, fromMode := old, modeEpoch := s.clocks.epoch } }
  s.irqMode

/-- Every MODE.SET that waits is overtaken (R40); a claim ends, SLUICE_OWN dropped where it was raised for it. A shutdown whose
MODE.SET has been answered goes on with steps 3 and 4 of R37. -/
def State.overtakeModeSet (s : State) : State :=
  let is (w : Waiting) : Bool := match w.what with | .modeSet _ => true | _ => false
  let s := s.finishAll is .wrongMode
  let x := s.sluice
  { s with sluice := { x with claim := .none, claimAuto := false, own := x.own && x.claim ≠ .raised }, power := { s.power with shutdown := s.power.shutdown.filter (·.recorded) } }

/-- WANTED on entry into Run from Configure or Safe-hold (Table 10-1). -/
def State.wantEnabled (s : State) : State :=
  s.each s.enabledOuts fun s k =>
    let n := (s.outAt k).state
    if n = 4 ∨ n = 5 ∨ n = 6 then s else s.want k

/-- What the mode entered does at once: WANTED and starts in Run, the Safe-hold policies, gates off in Configure, the
shadow bookkeeping (R33, R39, R247, R406). -/
def State.onEntry (s : State) (old m : Mode) : State :=
  let s := { s with budget := { s.budget with frozen := m = .safeHold || (m = .service && s.budget.frozen) } }
  match m with
  | .run => if old = .configure || old = .safeHold then (s.wantEnabled).settle else s.settle
  | .configure => (s.clearWanted).outputsOff 1
  | .shadow =>
    if old = .service then s
    else { s.lowAll .notOwned with
      sluice := { s.sluice with mirrorsApplied := 0, mirrorAge := 0xFFFF, superLast := 10, superGot := [], superData := [] } }
  | .safeHold => s.safeHoldOutputs
  | _ => s

/-- A transition made by the warden, with its record (class 0x06 EVENT 1, R616); trigger 0 is MODE.SET, and any other
one overtakes a waiting MODE.SET. -/
def State.setMode (s : State) (m : Mode) (trigger source : Nat) : State :=
  let old := s.mode
  let s := if trigger = 0 then s else s.overtakeModeSet
  let s := s.enterMode m
  let s := s.record 0x06 1 ([byte old.code, byte m.code, byte trigger, 0] ++ leBytes 2 source)
  s.onEntry old m

/-! ### Power domains -/

/-- Bit map of domains from their numbers. -/
def domainMap (l : List Nat) : Nat := sumN (l.map fun n => 2 ^ n)

/-- Domains of an active mode (Table 2-3, R34). -/
def State.activeDomains (s : State) : Nat :=
  domainMap ([1, 2, 3, 4, 5, 6, 7, 8, 9, 10, 11, 12, 13, 18, 20]
    ++ (if s.shelfTidelineEnable = 1 then [14] else []) ++ (if s.shelfFabRow ≠ 255 then [15] else [])
    ++ (if s.shelfEthEnable = 1 then [16] else [])
    ++ (if !s.sluice.presN || s.peerExpect = 1 then [17] else [])
    ++ (if s.shelfTwEnable ≠ 0 then [19] else []))

/-- Domains of Last-gasp (Table 2-1, R34). -/
def State.gaspDomains (s : State) : Nat :=
  domainMap ([1, 2, 3, 4, 5, 6, 7, 8, 9, 10, 11, 12, 13, 18] ++ (if !s.sluice.presN || s.peerExpect = 1 then [17] else []))

/-- Is monitor `n` on a powered domain (R50)? The I/O banks wait for their measurement. -/
def State.monitorPowered (s : State) (n : Nat) : Bool :=
  match n with
  | 0 | 8 => s.domain 2
  | 1 => s.domain 3
  | 2 | 3 | 4 | 5 => s.domain (n + 2)
  | 6 | 22 => s.domain 14
  | 7 | 17 => s.domain 15 || s.domain 16 || s.domain 17
  | 9 => s.domain 4
  | 10 | 11 | 12 | 13 => s.domain (n - 2)
  | 14 => s.domain 12 || s.domain 13
  | 15 => s.domain 15
  | 16 => s.domain 16 || s.domain 17
  | 18 | 19 => s.power.bankMeasured
  | 20 => s.mode ≠ .off
  | 21 => s.domain 20
  | _ => false

/-- A monitor whose domain is off is no longer armed (R50): it waits its 100 µs anew. -/
def State.disarm (s : State) : State :=
  { s with power := { s.power with
      armed := mapWhere 23 fun n => bit s.power.armed n && s.monitorPowered n
      below := mapWhere 23 fun n => bit s.power.below n && s.monitorPowered n } }

/-- Ports TW1 to TW7 go through `f`. -/
def TwoWire.mapPorts (f : TwPort → TwPort) (w : TwoWire) : TwoWire :=
  { w with ports := Tab.mapVals {} (fun n p => if n = 0 then p else f p) w.ports }

/-- The Tideline block as it starts when its domain is powered (R43): the key record is the NOR's. -/
def Tideline.fresh (t : Tideline) : Tideline := { kRoot := t.kRoot, rootInstalled := t.rootInstalled }

/-- The partner link without power: lanes down, no HELLO. -/
def Sluice.linkOff (x : Sluice) : Sluice :=
  { x with
    linkPowered := false, lane6 := {}, lane7 := {}, hello := false, pFit := 0, pMode := 0, pRole := 0 }

/-- The bits of `v` below bit `n`. -/
def lowBits (v n : Nat) : Nat := v % 2 ^ n

/-- A word whose programming stopped at step `k`: 0 in the primary, 1 in the copy, 2 at the seal; `done` holds the bits that had
been programmed there. The state bits are those set by then (R83); a word that stops is never sealed. -/
def OtpWord.stopped (w : OtpWord) (value k done : Nat) : OtpWord :=
  match k with
  | 0 => { primary := w.primary ||| (value &&& done), copy := w.copy, cells := w.cells ||| stateCells 1 }
  | 1 => { primary := w.primary ||| value, copy := w.copy ||| (value &&& done), cells := w.cells ||| stateCells 2 }
  | _ => { primary := w.primary ||| value, copy := w.copy ||| value, cells := w.cells ||| stateCells 3 }

/-- Programming cut off leaves its word UNRELIABLE (R95): where the cut falls is the job's free value. The fill of words 40 to 47
programs no state bit and leaves the word as it is but for the cells it has reached. (DESIGN CHOICE, log 79) -/
def Otp.interrupted (o : Otp) : Otp :=
  match o.job with
  | some j =>
    let cut (w : OtpWord) : OtpWord :=
      if j.filling then
        { w with primary := w.primary ||| lowBits j.value (j.cut % 33), copy := w.copy ||| lowBits j.value (j.cut / 64 % 33) }
      else w.stopped j.value (j.cut % 3) (j.cut / 3 % 2 ^ 32)
    { o with job := none, words := Tab.upd {} o.words j.word cut }
  | none => o

/-- The powered domains become `d`; a domain that is switched off loses its state (R43), the packet RAM is initialised as domain
14 comes on (R107), and a quadrant's converters calibrate as its analog domain comes on (R168). -/
def State.powerDomains (s : State) (d : Nat) : State :=
  let off (n : Nat) : Bool := s.domain n && !bit d n
  let s := { s with
    tide := if off 14 then s.tide.fresh else if bit d 14 && !s.domain 14 then { s.tide with packetInit := true } else s.tide
    fabric := if off 15 then
        { s.fabric with lane0 := {}, lane1 := {}, lane2 := {}, lane3 := {}, root := 0, depth := 0, parent := none, isRoot := false }
      else s.fabric
    eth := if off 16 then { s.eth with l4 := {}, l5 := {}, master := none } else s.eth
    sluice := if off 17 then s.sluice.linkOff else if bit d 17 then { s.sluice with linkPowered := true } else s.sluice
    tw := if off 19 then s.tw.mapPorts (fun p => { alertLow := p.alertLow }) else s.tw
    gauge := if off 13 then {} else s.gauge
    otp := if off 20 then s.otp.interrupted else s.otp }
  let on (q : Nat) : Bool := bit d (8 + q) && !s.domain (8 + q)
  let s := s.each ((upto 4).filter on) fun s q => s.setCluster q fun c => { c with calibrating := true }
  ({ s with power := { s.power with domains := d } }).disarm

/-- The logbook without power: the store keeps its content, a burst in flight cut off (R61). -/
def Logbook.unpowered (l : Logbook) : Logbook :=
  { storeBytes := l.storeBytes, header0 := l.header0, header1 := l.header1, store := l.cutBurst, ckptCurrent := l.ckptCurrent }

/-- The description without power: the stored copies keep their content (R150). -/
def Desc.unpowered (d : Desc) : Desc :=
  { store0Seq := d.store0Seq, store0 := d.store0, store0Applied := d.store0Applied, store0Valid := d.store0Valid
    store0Major := d.store0Major, store1Seq := d.store1Seq, store1 := d.store1, store1Applied := d.store1Applied
    store1Valid := d.store1Valid, store1Major := d.store1Major }

/-- The host port without power: the key record is the NOR's (R127). -/
def HostPort.unpowered (h : HostPort) : HostPort := { hostKey := h.hostKey, datagramKey := h.datagramKey }

/-- One copy of the slot table goes through `f`. -/
def Boot.setTable (b : Boot) (copy : Nat) (f : SlotTable → SlotTable) : Boot :=
  if copy = 0 then { b with table0 := f b.table0 } else { b with table1 := f b.table1 }

/-- Slot `i` of a table copy marked: programming only clears bits (R99). -/
def SlotTable.mark (t : SlotTable) (i v : Nat) : SlotTable :=
  if i = 0 then { t with stateA := t.stateA &&& v } else { t with stateB := t.stateB &&& v }

/-- What a slot-table write leaves once it is done. -/
def Boot.written1 (b : Boot) : TableWrite → Boot
  | .mark copy slot v => b.setTable copy fun t => t.mark slot v
  | .rewrite copy t => b.setTable copy fun _ => t

/-- What a slot-table write that was cut off leaves (R99): a mark has cleared some of its bits, a rewrite has left the old copy,
an erased one, or the new one; which is the write's free value. (DESIGN CHOICE, log 80) -/
def Boot.cutWrite (b : Boot) (w : TableWrite) : Boot :=
  match w with
  | .mark copy slot v => b.setTable copy fun t => t.mark slot (v ||| b.cut % 256)
  | .rewrite copy t => if b.cut % 3 = 0 then b else if b.cut % 3 = 1 then b.setTable copy fun _ => {} else b.setTable copy fun _ => t

/-- Boot state without power: the NOR keeps its content, a slot-table write under way cut off. -/
def Boot.unpowered (b : Boot) : Boot :=
  let b := match b.writes with | w :: _ => b.cutWrite w | [] => b
  { table0 := b.table0, table1 := b.table1, dataA := b.dataA, dataB := b.dataB }

/-- OTP without its latches: the array keeps its content. -/
def Otp.unpowered (o : Otp) : Otp := { words := o.interrupted.words }

/-- Every channel without power: the FLT_N pin keeps its level. -/
def chanUnpowered (t : Tab Chan) : Tab Chan :=
  Tab.mapVals {} (fun _ c => { flt := c.flt }) t

/-- Two-wire ports without their domains: the ALERT_N pins keep their levels. -/
def TwoWire.unpowered (w : TwoWire) : TwoWire :=
  { ports := Tab.mapVals {} (fun _ p => { alertLow := p.alertLow }) w.ports }

/-- The sluice without power: pins, and the drop that R392 counts from. -/
def Sluice.unpowered (x : Sluice) : Sluice := { peer := x.peer, presN := x.presN, dropped := x.dropped || x.own }

/-- Everything outside the always-on domain loses its power, the gauge too unless `gauge` is set; what R43 names, the
external memories and the pins stay. -/
def State.unpower (s : State) (gauge : Bool) : State :=
  State.disarm {
    power := { s.power with
      domains := domainMap (if gauge then [1, 13] else [1]), bankMeasured := false, gasp := .none
      brace := (s.power.brace.filter fun b => bit b.causes 20).map fun b => { b with causes := 2 ^ 20 }
      gaspRecovered := false, shutdown := none, longPress := false, longPressActive := false, alive := false
      chipReset := none, configureNs := 0, serviceSession := 0, svcReset := none }
    retained := s.retained
    clocks := { rtcLost := s.clocks.rtcLost, chargeHoldover := s.clocks.chargeHoldover }
    otp := s.otp.unpowered
    boot := s.boot.unpowered
    host := s.host.unpowered
    desc := s.desc.unpowered
    log := s.log.unpowered
    chan := chanUnpowered s.chan
    tide := s.tide.fresh
    gauge := if gauge then s.gauge else {}
    sluice := s.sluice.unpowered
    tw := s.tw.unpowered
    eth := { rtcState := s.eth.rtcState, rate := s.eth.rate }
    dbg := { s.dbg with halted := 0, breakpoints := 0, semaphores := [], wardenSpace := [] }
    sent := s.sent, freeCount := s.freeCount, pending := s.pending }

/-- Enter a mode without firmware: Keep, Gauge-watch or Stranded (Table 2-1): regulator enables deasserted, crystal off;
the mode before is retained (R43). -/
def State.sleep (s : State) (m : Mode) : State :=
  let old := s.mode
  let s := (s.wakeGauge s.retained.rtcNs 0).unpower (m = .gaugeWatch)
  { s with
    power := { s.power with
      mode := m, fromMode := old
      retainedMode := if m = .stranded then s.power.retainedMode else old
      pwren := 0, pg := 0, bankMeasured := false
      wake := { s.power.wake with phase := .idle, crystalOn := false, crystalReady := false } } }

/-- The RTC has run on to `ns`; it never goes back by itself. (DESIGN CHOICE, log 22) -/
def State.rtcRuns (s : State) (ns : Nat) : State :=
  { s with retained := { s.retained with rtcNs := max s.retained.rtcNs (ns % 2 ^ 64) } }

/-- A trigger that has no row from the present mode is recorded while firmware runs (R35): `level` is that of R40. -/
def State.triggerIgnored (s : State) (level : Nat) : State :=
  if s.mode.firmware then s.record 0x06 6 [byte level, byte s.modeCode] else s

/-! ### Yield and chip reset -/

/-- An active with a fit partner yields with a cause; from Run, Ride-through or Service entered from them it goes to
Shadow (Table 2-2), and a commit is abandoned (R147). (DEDUCED, log 29) -/
def State.yield (s : State) (cause noApply : Nat) : State :=
  let live := s.running
  let s := s.abandonCommit .busy
  let s := s.passToken cause noApply
  if live then s.setMode .shadow 2 0xFFFF else (((s.abortIdents 0x08).endProbe 0x03).triggerIgnored 6)

/-- The reset-cause register after a chip reset begins (Table 3-6). -/
def State.noteReset (s : State) (cause src : Nat) (orderly : Bool) (fromMode : Nat) : State :=
  { s with power := { s.power with cause :=
      { faultSrc := if cause = 0x5 then src else 0, fromMode := fromMode
        count := min 255 (s.power.cause.count + 1), orderly := orderly, cause := cause } } }

/-- The end of either kind of chip reset: the enables fall, the chip is in Keep, the RTC leaves
holdover (R559), and the wake series of R75 is pending. -/
def State.resetToKeep (s : State) (fromMode : Nat) : State :=
  let s := s.sleep .keep
  let s := { s with eth := { s.eth with rtcState := if s.eth.rtcState = 2 then 0 else s.eth.rtcState } }
  { s with power := { s.power with
      wake := { s.power.wake with pending := some .chipReset, pendingFrom := fromMode, pendingReady := false } } }

/-- May a chip reset be triggered: in a firmware mode other than Last-gasp (R74, R76)? -/
def State.resettable (s : State) : Bool := s.mode.firmware && s.mode ≠ .lastGasp

/-- An immediate chip reset (R75). -/
def State.chipResetNow (s : State) (cause : Nat) : State :=
  if s.resettable then
    let m := match s.power.chipReset with | some r => r.fromMode | none => s.modeCode
    ((s.lowAll .off).noteReset cause 0 false m).resetToKeep m
  else s.triggerIgnored 3

/-- A shutdown, and a MODE.SET that waits, give way to a chip reset, a long press or Last-gasp (R40). -/
def State.dropShutdown (s : State) : State :=
  let s := s.overtakeModeSet
  { s with power := { s.power with shutdown := none } }

/-- An orderly chip reset begins (R75): gates low, the token passed with HANDOVER (R407), the reset record offered. -/
def State.chipResetOrderly (s : State) (cause src : Nat) : State :=
  if s.resettable && s.power.chipReset.isNone then
    let m := s.modeCode
    let s := (s.dropShutdown.abandonCommit .busy).lowAll s.idleState
    let s := if s.token && s.partner then (s.passToken 0x0A 0) else s.dropToken
    let s := s.noteReset cause src true m
    let s := s.record 0x04 1 ([byte cause, byte m] ++ leBytes 2 (if cause = 0x5 then src else 0xFFFF))
    { s with power := { s.power with chipReset := some { orderly := true, fromMode := m }, alive := false } }
  else if s.power.chipReset.isNone then s.triggerIgnored 3
  else s

/-! ### Block resets -/

/-- Outputs, enabled and driven, with a phase in quadrant `q`. -/
def State.outsInQuadrant (s : State) (q : Nat) : List Nat :=
  s.enabledOuts.filter fun k => (s.outAt k).live && quadrant (s.lead k) = q

/-- Gates of quadrant `q` off (R27), its outputs and their dependants stopped (Table 3-5). On a controller without the
token nothing is driven and the outputs are the active's. -/
def State.quadrantOff (s : State) (q : Nat) : State :=
  if s.token then
    let s := s.each (s.outsInQuadrant q) fun s k => if (s.outAt k).live then s.failOut k 7 true else s
    s.each (countFrom 32 (32 * q)) fun s c => s.setChan c (Chan.lowUnlessLocked .forcedOff)
  else s

/-- A loop cluster in reset: coefficient RAM, gain tables and ceiling shares stay (Table 3-5); a clamp stays until the warden
releases it (R22), and a calibration of the quadrant's converters goes on. (DESIGN CHOICE, log 90) -/
def Cluster.blockReset (c : Cluster) : Cluster :=
  { share := c.share, initialised := c.initialised, capEnable := c.capEnable, capPost := c.capPost, capEvents := c.capEvents
    clamped := c.clamped, clampBegan := c.clampBegan, clampReleased := c.clampReleased, calibrating := c.calibrating }

/-- A lane without its SerDes group. -/
def State.serdesDown (s : State) (b : Nat) : State :=
  if b = 11 then { s with fabric := { s.fabric with lane0 := {}, lane1 := {}, lane2 := {}, lane3 := {} } }
  else if b = 12 then { s with eth := { s.eth with l4 := {}, l5 := {} } }
  else { s with sluice := { s.sluice with lane6 := {}, lane7 := {} } }

/-- Identification runs of the outputs of quadrant `q` end: their STATE leaves 3 (R226). -/
def State.identsOfQuadrant (s : State) (q : Nat) : State :=
  s.each (s.enabledOuts.filter fun k => quadrant (s.lead k) = q) fun s k => s.setOut k (Out.abortIdent 0x02 true)

/-- A port in block reset releases its bus: the transaction in progress counts as failed and comes again in the next window,
and a TW.TRANSFER is answered TIMEOUT (R550). -/
def State.dropTransaction (s : State) (port : Nat) : State :=
  let fail (x : Sensor) : Sensor := { x with failures := (x.failures + 1) % 2 ^ 32, failRun := x.failRun + 1 }
  let s := match if (s.twAt port).running then (s.twAt port).queue.head? else none with
    | some (.transfer mb) => s.finish mb .timeout []
    | some (.sensor k) | some (.sensorPage k) | some (.sensorMode k) => s.setSensor k fail
    | some (.legacy k _) => s.setRect k fun r => { r with failRun := r.failRun + 1 }
    | _ => s
  let wait := if (s.twAt port).running then (s.twAt port).queue.drop 1 else (s.twAt port).queue
  let later := wait.filterMap fun u => match u with | .transfer mb => some mb | _ => none
  s.setTw port fun p => { p with queue := [], retries := 0, targetBusy := false, running := false, transfers := later ++ p.transfers }

/-- A block reset begins (R77, Table 3-5; R480 for the codes); a cluster or quadrant of an active with a fit partner
yields first with cause 0x08 (R27, R407). (DEDUCED, log 68) -/
def State.blockReset (s : State) (b : Nat) : State :=
  let s := if b < 8 && s.canYield then s.yield 0x08 0 else s
  let s := { s with hold := { s.hold with held := setBit s.hold.held b true } }
  if b < 4 then ((s.quadrantOff b).identsOfQuadrant b).setCluster b Cluster.blockReset
  else if b < 8 then
    ((s.quadrantOff (b - 4)).identsOfQuadrant (b - 4)).setCluster (b - 4) fun c => { c with calibrating := true }
  else if b = 8 then
    let s := s.each (upto 128) fun s k => s.setOut k fun o =>
      { o with supvCount := 0, tmpCount := 0, tmpWarnCount := 0, tmpCoolCount := 0, tmpBadCount := 0 }
    { s with scan := { s.scan with slot := 0, badRun := 0, goodRun := 0, gndBad := false } }
  else if b = 9 then s.endProbe 0x04
  else if b = 10 then
    let s := s.endProbe 0x04
    { s with tide := { s.tide with down := [], downHist := [], slotNow := 0, slotAck := 0, pairSched := 0 } }
  else if b < 14 then s.serdesDown b
  else if b = 14 then { s with log := { s.log with burst := none } }
  else s.each (countFrom 7 1) State.dropTransaction

/-- Is the domain of block `b` powered (R527)? -/
def State.blockPowered (s : State) (b : Nat) : Bool :=
  if b < 4 then s.domain (4 + b) else if b < 8 then s.domain (4 + b) else
  match b with
  | 8 => s.domain 12 | 9 => s.domain 13 | 10 => s.domain 14 | 11 => s.domain 15 | 12 => s.domain 16 | 13 => s.domain 17
  | 14 => s.domain 18 | _ => s.domain 19

end Sys2Proof.Machine
end

