-- ==== Sys2Proof/Machine/Collector.lean ====
section
/-! DEFINITION. The fault collector (chapter 18): classes, fixed and default reactions and blocks of the sources, the
queue with coalescing and overflow, the reaction sequence, escalation, and answering orders (source 306). -/
namespace Sys2Proof.Machine

/-! ### Sources -/

/-- Class of an event of a source (R473 to R476, R388, R490 and the source tables of chapters 3, 13, 15, 16, 17). ECC
events are coded 1 correctable, 2 persistent, 3 unwritten, 4 uncorrectable. -/
def eventClass (src event : Nat) : Nat :=
  if src < 128 then
    if event ≤ 3 ∧ 1 ≤ event then 3 else if event = 5 ∨ event = 6 ∨ event = 7 ∨ event = 11 then 2 else 1
  else if src < 160 then (if event = 8 then 2 else 1)
  else if src < 176 then (if [162, 168, 169, 172].contains src then 2 else 1)
  else if src < 192 then (if [183, 184, 189, 190].contains src then 0 else 1)
  else if src < 200 then (if src = 194 then 0 else if src = 198 then 3 else 1)
  else if src < 224 then (if event = 1 then 0 else if event = 4 then 2 else 1)
  else if src < 240 then
    if src = 225 ∨ src = 239 then 1 else if src = 236 ∨ src = 237 then 2 else if src = 238 then 0 else 3
  else if src < 263 then (if event = 2 then 3 else 1)
  else if src = 272 ∨ src = 279 then 0
  else if [280, 283, 284, 285, 290, 291, 292, 293, 295, 299, 300, 302, 303, 308, 309].contains src then 2
  else if [296, 297, 298, 301, 318].contains src then 3
  else 1

/-- CLASS field: 0xFF when classed by event (R473, R481). -/
def sourceClass (src : Nat) : Nat :=
  if reservedSource src then 0
  else if src < 160 ∨ (200 ≤ src ∧ src < 224) ∨ (240 ≤ src ∧ src < 263) then 0xFF
  else eventClass src 1

/-- FIXED bits (R477, R478; Table 3-3, Table 18-5, Table 18-9). -/
def sourceFixed (src : Nat) : Nat :=
  if src = 224 ∨ src = 301 then 0x18
  else if src = 226 ∨ src = 227 ∨ src = 298 then 0x40
  else if 228 ≤ src ∧ src ≤ 235 then 0x20
  else if src = 296 ∨ src = 297 then 0x48
  else if src = 299 ∨ src = 305 then 0x80
  else if src = 200 ∨ src = 302 then 0x04
  else 0

/-- Default reactions of a source's table (R477), without its FIXED bits. -/
def sourceDefault (src : Nat) : Nat :=
  if reservedSource src then 0
  else if [164, 166, 171, 183, 184, 185, 187, 188, 189, 190, 194, 272, 273, 274, 279, 286, 291, 294, 304, 306].contains src
  then 0x0000
  else if src = 263 ∨ src = 316 then 0x0001
  else if [168, 169, 236, 237, 295].contains src then 0x0021
  else if src = 303 then 0x0007
  else if src = 318 then 0x0013
  else if [224, 226, 227, 296, 297, 298, 301, 302, 305].contains src ∨ (228 ≤ src ∧ src ≤ 235) then 0
  else 0x0003

/-- REACTIONS at reset: the default of the source's table with its FIXED bits (R481). -/
def reactionsReset (src : Nat) : Nat := sourceDefault src ||| sourceFixed src

/-- MIN_CLASS at reset (R481). -/
def minClassReset (src : Nat) : Nat := if 200 ≤ src ∧ src < 224 then 2 else if src < 128 then 1 else 0

/-- ESCALATE at reset (R481). -/
def escalateReset (src : Nat) : Nat := if 200 ≤ src ∧ src < 224 then 64 else 0

/-- BLOCK of a source (R480), 0xFF for none. An ECC source's is the block that owns the memory. (DEDUCED, log 28) -/
def sourceBlock (src : Nat) : Nat :=
  if src < 128 then src / 32
  else if src < 160 then 9
  else if src < 176 then 10
  else if src < 192 then 11
  else if src < 200 then 13
  else if src < 224 then
    [0xFF, 0xFF, 0xFF, 0xFF, 14, 0, 1, 2, 3, 0, 1, 2, 3, 10, 13, 11, 12, 0xFF, 8, 10, 0xFF, 0xFF, 0xFF, 14].getD (src - 200) 0xFF
  else if 228 ≤ src ∧ src ≤ 235 then src - 228
  else if src = 236 then 10
  else if src = 237 then 9
  else if 265 ≤ src ∧ src ≤ 271 then 15
  else if src = 276 ∨ src = 277 then 12
  else if 288 ≤ src ∧ src ≤ 295 then 14
  else if src = 308 ∨ src = 309 then 8
  else 0xFF

/-- Has a source a safety-class event (Table 18-8, code 0x42)? -/
def sourceSafety (src : Nat) : Bool :=
  src < 128 || (240 ≤ src && src < 263) || (eventClass src 1 = 3 && !reservedSource src)

/-- REACTIONS in force, FIXED included. -/
def State.reactionsOf (s : State) (src : Nat) : Nat :=
  (s.field 11 src 0x01 (reactionsReset src)).toNat ||| sourceFixed src

/-- MIN_CLASS in force. -/
def State.minClass (s : State) (src : Nat) : Nat := (s.field 11 src 0x02 (minClassReset src)).toNat

/-- ESCALATE in force. -/
def State.escalate (s : State) (src : Nat) : Nat := (s.field 11 src 0x03 (escalateReset src)).toNat

/-! ### The queue -/

/-- The 16 DATA bytes of an entry. -/
def data16 (d : Bytes) : Bytes := (padTo 16 d).take 16

/-- Place of an entry of the same source and event in the queue (R483). (DEDUCED, log 28) -/
def sameEntry (src event : Nat) (e : FaultEntry) : Bool := e.source = src && e.event = event

/-- Coalesce into a queued entry; an entry of source 319 counts its overflows in DATA (R483, R484). -/
def FaultEntry.again (e : FaultEntry) : FaultEntry :=
  { e with
    repeats := min 65535 (e.repeats + 1)
    data := if e.source = 319 ∧ e.event = 1 then data16 (leBytes 4 (fld e.data 0 4 + 1)) else e.data }

/-- The most recent entry of the lowest class, where one lies below class `c`: the queue without it and its class. -/
def dropLowest (q : List FaultEntry) (c : Nat) : Option (List FaultEntry × Nat) :=
  let low := q.foldl (fun m e => min m e.cls) 4
  if low < c then
    let r := q.reverse
    let keep := r.takeWhile (fun e => decide (e.cls ≠ low))
    let rest := (r.dropWhile fun e => decide (e.cls ≠ low)).drop 1
    some ((keep ++ rest).reverse, low)
  else none

/-- One overflow of a class counted (R484). -/
def Faults.overflowed (f : Faults) (c : Nat) : Faults :=
  match c with
  | 0 => { f with overflow0 := (f.overflow0 + 1) % 2 ^ 32 }
  | 1 => { f with overflow1 := (f.overflow1 + 1) % 2 ^ 32 }
  | 2 => { f with overflow2 := (f.overflow2 + 1) % 2 ^ 32 }
  | _ => { f with overflow3 := (f.overflow3 + 1) % 2 ^ 32 }

/-- Queue an entry (R482 to R484): the queue after it, and whether an entry was discarded. (DEDUCED, log 28) -/
def Faults.queueEntry (f : Faults) (e : FaultEntry) : Faults × Bool :=
  if f.queue.any (sameEntry e.source e.event) then
    ({ f with queue := f.queue.map fun x => if sameEntry e.source e.event x then x.again else x }, false)
  else if f.queue.length < 64 then ({ f with queue := f.queue ++ [e] }, false)
  else match dropLowest f.queue e.cls with
    | some (q, low) => (({ f with queue := q ++ [e] }).overflowed low, true)
    | none => (f.overflowed e.cls, true)

/-- Reaction bits with what they imply: LOG by any of bits 1 to 7, ALIVE_STOP by CHIP_RESET, SAFE_HOLD on safety-class
events only (R477). -/
def impliedBits (cls r : Nat) : Nat :=
  let r := if cls = 3 then r else setBit r 4 false
  let r := if bit r 6 then setBit r 7 true else r
  if r / 2 % 128 ≠ 0 then setBit r 0 true else r

/-- Reactions that act on an event of class `cls` (R478). (DEDUCED, log 27) -/
def State.actingBits (s : State) (src cls : Nat) : Nat :=
  impliedBits cls (if s.minClass src ≤ cls then s.reactionsOf src else sourceFixed src)

/-- COUNT, PENDING, epoch, event and class of an event (R478). -/
def State.noteEvent (s : State) (src event cls : Nat) (alive : Bool) : State :=
  let s := { s with faults := { s.faults with raised := Tab.upd 0 s.faults.raised cls (· + 1) } }
  s.setSrc src fun x =>
    { x with
      count := (x.count + 1) % 2 ^ 32, pending := true, lastEpoch := s.clocks.epoch, lastEvent := event, lastClass := cls
      holdsAlive := x.holdsAlive || alive }

/-- The held entry of source 319 is queued once a place is free (R484). (DEDUCED, log 28) -/
def State.queueHeld (s : State) : State :=
  match s.faults.held319 with
  | some (r, n) =>
    if s.faults.queue.length < 64 then
      let e : FaultEntry :=
        { epoch := s.clocks.epoch, source := 319, cls := 1, event := 1, repeats := r, reaction := s.actingBits 319 1
          data := data16 (leBytes 4 n), count := (s.srcAt 319).count }
      { s with faults := { s.faults with held319 := none, queue := s.faults.queue ++ [e] } }
    else s
  | none => s

/-! ### Reactions -/

/-- Yield cause of a source whose reactions include YIELD (Table 15-9). -/
def yieldCause (src : Nat) : Nat :=
  if src = 296 ∨ src = 297 then 0x02 else if src = 301 then 0x03 else if src = 224 then 0x09 else 0x06

/-- Modes from which a fault reaction leads to Safe-hold (Table 2-2). -/
def holdable (m : Mode) : Bool := [Mode.configure, .shadow, .run, .rideThrough, .service].contains m

/-- Steps 2 to 6 of Table 18-7 for an event whose reactions `bits` act. (DEDUCED, log 27) -/
def State.actOn (s : State) (src bits : Nat) : State :=
  let s := if bit bits 7 then { s with power := { s.power with alive := false } } else s
  let s := if bit bits 2 then { s with faults := { s.faults with trap := true } } else s
  let s := if bit bits 3 && s.canYield then s.yield (yieldCause src) 0 else s
  let s := if bit bits 5 && sourceBlock src ≠ 0xFF then s.blockReset (sourceBlock src) else s
  if bit bits 4 && holdable s.mode then
    let s := s.safeHoldOutputs
    { s with faults := { s.faults with safeHoldDue := some src } }
  else if bit bits 4 then s.triggerIgnored 5
  else s

/-- Step 7 of Table 18-7. -/
def State.actReset (s : State) (src bits : Nat) : State :=
  if bit bits 6 then s.chipResetOrderly (if src = 298 then 0x4 else 0x5) src else s

/-- An event below MIN_CLASS is counted in its window: the state after it, and whether the count reaches ESCALATE for the first time
in the window (R479). -/
def State.windowEvent (s : State) (src cls : Nat) : State × Bool :=
  if cls < s.minClass src ∧ s.escalate src ≠ 0 then
    let w := s.ext / 1000
    let s := s.setSrc src fun x =>
      if x.window = w then { x with windowCount := x.windowCount + 1 }
      else { x with window := w, windowCount := 1, escalated := false }
    let x := s.srcAt src
    if s.escalate src ≤ x.windowCount ∧ x.escalated = false then
      (s.setSrc src fun x => { x with escalated := true }, true)
    else (s, false)
  else (s, false)

/-- The entry of an event as it is queued. -/
def State.entryOf319 (s : State) (event cls bits : Nat) (data : Bytes) : FaultEntry :=
  { epoch := s.clocks.epoch, source := 319, cls := cls, event := event, repeats := 0, reaction := bits
    data := data16 data, count := (s.srcAt 319).count }

/-- The entry of the event of source 319 waits while the queue is full (R484). -/
def State.holdOverflow (s : State) : State :=
  if s.faults.queue.any (sameEntry 319 1) then
    { s with faults := { s.faults with queue := s.faults.queue.map fun x => if sameEntry 319 1 x then x.again else x } }
  else
    { s with faults := { s.faults with held319 :=
        match s.faults.held319 with
        | none => some (0, 1)
        | some (r, n) => some (min 65535 (r + 1), n + 1) } }

/-- The event of source 319 that an overflow raises, with its reactions: its entry is held while the queue is full (R484). An
escalated event of source 319 that overflows in its turn is only counted. (DEDUCED, log 28) -/
def State.overflowEvent (s : State) : State :=
  let bits := s.actingBits 319 1
  let s := (s.noteEvent 319 1 1 (bit bits 7)).actOn 319 bits
  let s := (if bit bits 0 then s.holdOverflow else s).actReset 319 bits
  let w := s.windowEvent 319 1
  if w.2 then
    let s := w.1
    let cls := s.minClass 319
    let bits := s.actingBits 319 cls
    let data := leBytes 4 (s.srcAt 319).windowCount
    let s := (s.noteEvent 319 0xFF cls (bit bits 7)).actOn 319 bits
    (if bit bits 0 then { s with faults := (s.faults.queueEntry (s.entryOf319 0xFF cls bits data)).1 } else s).actReset 319 bits
  else w.1

/-- LOG: the event's entry is queued (R480, step 8). -/
def State.logEvent (s : State) (src event cls bits : Nat) (data : Bytes) : State :=
  let e : FaultEntry :=
    { epoch := s.clocks.epoch, source := src, cls := cls, event := event, repeats := 0, reaction := bits
      data := data16 data, count := (s.srcAt src).count }
  let r := s.faults.queueEntry e
  let s := { s with faults := r.1 }
  if r.2 then s.overflowEvent else s

/-- Steps 2 to 8 of Table 18-7 for an event whose reactions `bits` act. (DEDUCED, log 27) -/
def State.react (s : State) (src event cls bits : Nat) (data : Bytes) : State :=
  let s := s.actOn src bits
  (if bit bits 0 then s.logEvent src event cls bits data else s).actReset src bits

/-- One event reaches the collector (R478, R480). -/
def State.takeEvent (s : State) (src event cls : Nat) (data : Bytes) : State :=
  let bits := s.actingBits src cls
  let s := s.noteEvent src event cls (bit bits 7)
  s.react src event cls bits data

/-- An event below MIN_CLASS may escalate (R479). -/
def State.escalateEvent (s : State) (src cls : Nat) : State :=
  let w := s.windowEvent src cls
  if w.2 then w.1.takeEvent src 0xFF (w.1.minClass src) (leBytes 4 (w.1.srcAt src).windowCount) else w.1

/-- Raise an event of a given class on a source. The collector runs in the firmware modes; a reserved source never
raises (Table 18-5). -/
def State.raiseC (s : State) (src event cls : Nat) (data : Bytes) : State :=
  if s.mode.firmware && src < 320 && !reservedSource src then (s.takeEvent src event cls data).escalateEvent src cls else s

/-- Raise an event, classed by its source and code. -/
def State.raise (s : State) (src event : Nat) (data : Bytes) : State := s.raiseC src event (eventClass src event) data

/-- An event that is only reported: counted and queued, no reaction beside LOG (R46, R73). -/
def State.reportEvent (s : State) (src event : Nat) (data : Bytes) : State :=
  (s.noteEvent src event (eventClass src event) false).logEvent src event (eventClass src event) 1 data

/-- The lasting condition of a source is present or gone (R487). -/
def State.condition (s : State) (src : Nat) (b : Bool) : State := s.setSrc src fun x => { x with present := b }

/-- Raise the event of a lasting condition as it begins. -/
def State.begin_ (s : State) (src event : Nat) (data : Bytes) : State :=
  if (s.srcAt src).present then s else (s.condition src true).raise src event data

/-- DATA of a channel event (R474). -/
def State.channelData (s : State) (ch code : Nat) : Bytes :=
  let c := s.chanAt ch
  let o := match s.outputOf ch with | some k => k | none => 0xFF
  leBytes 2 c.cause ++ [byte c.code, byte o] ++ leBytes 2 code

/-- A channel event with its DATA (R474). -/
def State.raiseChan (s : State) (ch event code : Nat) : State := s.raise ch event (s.channelData ch code)

/-- Is a pending source of class 3 an uncleared safety fault (R487)? -/
def State.safetyPending (s : State) : Bool := s.faults.src.any fun e => e.2.pending && e.2.lastClass = 3

/-- Does any condition of R489 hold ALIVE stopped, the mode apart? (DEDUCED, log 27) -/
def State.aliveHeld (s : State) : Bool :=
  (s.faults.src.any fun e => e.2.pending && e.2.holdsAlive)
    || (s.anyHalted && s.mode ≠ .service)
    || decide (3 ≤ s.faults.heartbeatMissed)

/-- ALIVE of Table 18-12: 0 stopped, 1 1 kHz, 2 8 Hz. (DEDUCED, log 27) -/
def State.aliveCode (s : State) : Nat := if !s.power.alive then 0 else if s.mode = .service then 2 else 1

/-! ### Starting and answering orders -/

/-- Answer the order of mailbox `q.mb` at an epoch; 100 BUSY answers in a row raise source 306 (Table 18-5). -/
def State.replyAt (s : State) (q : Req) (st : Status) (payload : Bytes) (epoch : Nat) : State :=
  let s := s.respond q.mb st payload epoch
  if 100 ≤ s.host.busyRun then
    ({ s with host := { s.host with busyRun := 0 } }).raise 306 1 []
  else s

/-- Answer at the present epoch. -/
def State.reply (s : State) (q : Req) (st : Status) (payload : Bytes) : State := s.replyAt q st payload s.clocks.epoch

/-- Answer with a status and no payload (R502). -/
def State.refuse (s : State) (q : Req) (st : Status) : State := s.reply q st []

/-- Answer OK with data of the last sealed epoch (R123, R197). -/
def State.replySealed (s : State) (q : Req) (payload : Bytes) : State := s.replyAt q .ok payload s.sealedView.epoch

/-- The request an order row starts: the oldest accepted one, of that code (R120), while the warden runs (R21). (DESIGN CHOICE, log 12) -/
def State.frontOrder (s : State) (code mb : Nat) : Option Req :=
  if s.host.orders.head? = some mb && s.wardenRuns && (s.request mb).order = code then some (s.request mb) else none

/-- Does a word of instance `inst` read uncorrectable (R112, R493)? -/
def State.wordBad (s : State) (inst word : Nat) : Bool := Tab.get false (s.eccAt inst).bad word

/-- Has the request of mailbox `n` an uncorrectable word: then it is answered UNCORRECTABLE (Table 18-9)? -/
def State.requestBad (s : State) (n : Nat) : Bool :=
  (countFrom (4 + cdiv (s.request n).len 4) (mbBase n / 4)).any (s.wordBad 201)

/-- The lowest uncorrectable word of the request of mailbox `n`. -/
def State.badWordOf (s : State) (n : Nat) : Nat :=
  (firstN (s.wordBad 201) (countFrom (4 + cdiv (s.request n).len 4) (mbBase n / 4))).getD 0

/-- DATA of an ECC event (R485); a bank holds 128 KiB, and a row 512 data bits (R490). (PRESUMED, log 73) -/
def eccData (inst word syndrome column : Nat) : Bytes :=
  let perBank := if inst = 200 then 16384 else 32768
  let perRow := if inst = 200 then 8 else 16
  leBytes 2 (32 * (inst - 200) + word / perBank) ++ leBytes 2 syndrome ++ leBytes 4 word
    ++ leBytes 2 (word % perBank / perRow) ++ leBytes 2 column

/-- Bank and row of the last ECC event of an instance (R500). (PRESUMED, log 73) -/
def EccCounters.at_ (e : EccCounters) (inst word : Nat) : EccCounters :=
  { e with lastBank := fld (eccData inst word 0 0) 0 2, lastRow := fld (eccData inst word 0 0) 8 2 }

/-- The counters of an instance after an event: 1 corrected, 2 persistent, 3 unwritten, 4 uncorrectable (R500). -/
def EccCounters.count (e : EccCounters) (event : Nat) : EccCounters :=
  match event with
  | 1 => { e with corrected := (e.corrected + 1) % 2 ^ 32 }
  | 2 => { e with persistent := (e.persistent + 1) % 2 ^ 32 }
  | 3 => { e with uninitialised := (e.uninitialised + 1) % 2 ^ 32 }
  | 4 => { e with uncorrectable := (e.uncorrectable + 1) % 2 ^ 32 }
  | _ => e

/-- An ECC event at a known word: counted and raised with its DATA (R485, R490). The syndrome of a read is not stated:
a free value. -/
def State.eccEvent (s : State) (inst event word column : Nat) : State :=
  let d := eccData inst word (if event = 3 then 0 else s.fresh .unstated 0 % 65536) column
  let s := if event = 3 then s else s.used
  (s.setEcc inst fun e => (e.count event).at_ inst word).raise inst event d

/-- Requests of unknown order code, or with an uncorrectable word, are answered when they come to the front (R120, R122). (DESIGN CHOICE, log 12) -/
def State.drainUnknown : Nat → State → State
  | 0, s => s
  | n + 1, s =>
    match s.host.orders with
    | [] => s
    | mb :: rest =>
      if !s.wardenRuns then s
      else if s.requestBad mb then
        State.drainUnknown n
          ((({ s with host := { s.host with orders := rest } }).eccEvent 201 4 (s.badWordOf mb) 0).refuse (s.request mb) .uncorrectable)
      else if (orderRow (s.request mb).order).isNone then
        State.drainUnknown n (({ s with host := { s.host with orders := rest } }).refuse (s.request mb) .badOrder)
      else s

/-- Start an order: it leaves the list of accepted ones, is judged by R122 with what `mayP` asks at step 3 and `mayF` at step 4, and
otherwise carried out by `body`. A request that is not the oldest accepted one of that code changes nothing. (DESIGN CHOICE, log 12) -/
def State.runOrderWith (s : State) (code mb : Nat) (mayP mayF : Req → State → Bool) (body : Req → State → State) : State :=
  match s.frontOrder code mb with
  | none => s
  | some q =>
    let s := { s with host := { s.host with orders := s.host.orders.drop 1 } }
    State.drainUnknown 16
      (match s.judgeWith q (mayP q s) (mayF q s) with
       | some st => s.refuse q st
       | none => body q s)

/-- Start an order whose payload asks for no privilege or feature beyond its row. -/
def State.runOrder (s : State) (code mb : Nat) (body : Req → State → State) : State :=
  s.runOrderWith code mb (fun _ _ => true) (fun _ _ => true) body

/-- The order is one of management Ethernet alone. -/
def onEthernet (q : Req) (_ : State) : Bool := q.transport = 1

/-- Nothing more is asked. -/
def anyRequest (_ : Req) (_ : State) : Bool := true

end Sys2Proof.Machine
end

