-- ==== Sys2Proof/Machine/Flags.lean ====
section
/-! DEFINITION. The flags of the host port: TXN_STATUS, IRQ_STATUS, HIRQ_N, the port status byte (R109 to R116). -/
namespace Sys2Proof.Machine

/-- TXN_STATUS flag UNMAPPED. -/
def flagUnmapped : Nat := 0x02
/-- TXN_STATUS flag UNALIGNED. -/
def flagUnaligned : Nat := 0x04
/-- TXN_STATUS flag UNINITIALISED. -/
def flagUninitialised : Nat := 0x08
/-- TXN_STATUS flag UNCORRECTABLE. -/
def flagUncorrectable : Nat := 0x10
/-- TXN_STATUS flag UNKNOWN_COMMAND. -/
def flagUnknownCommand : Nat := 0x20
/-- TXN_STATUS flag DOORBELL_REFUSED. -/
def flagDoorbell : Nat := 0x40
/-- TXN_STATUS flag BUSY_WRITE. -/
def flagBusyWrite : Nat := 0x80

/-- Is any MB_DONE bit within the mask set (DONE_ANY of Table 5-2)? -/
def State.doneAny (s : State) : Bool := (upto 16).any fun n => (s.mbAt n).done && s.hostOwns n

/-- The same for completions that are not QUIET_DONE (R117): the MAILBOX bit and its interrupt. (DESIGN CHOICE, log 85) -/
def State.irqMailbox (s : State) : Bool :=
  (upto 16).any fun n => (s.mbAt n).done && !(s.mbAt n).quiet && s.hostOwns n

/-- Unread entries of the fault summary: those from READ up to RING_HEAD (R486). -/
def State.unreadFaults (s : State) : Bool := decide (s.faults.win.ringHead ≠ s.faults.read)

/-- IRQ_STATUS (Table 5-4). (DEDUCED, log 20) -/
def State.irqStatus (s : State) : Nat :=
  b2n s.irqMailbox + 2 * b2n s.unreadFaults + 4 * b2n s.host.irqSealed + 8 * b2n s.host.irqModeChange
    + 16 * b2n s.host.irqGeneration + 32 * b2n s.host.irqButton + 64 * b2n s.host.irqTxn

/-- HIRQ_N is asserted while IRQ_STATUS AND IRQ_ENABLE is non-zero (R114). (DEDUCED, log 20) -/
def State.hirq (s : State) : Bool := (upto 7).any fun i => bit s.irqStatus i && bit s.host.irqEnable i

/-- Once the condition of HIRQ_N is gone, TW0's ALERT_N may fall again at the next one (R538). (DEDUCED, log 20) -/
def State.alertSettle (s : State) : State :=
  if s.hirq then s else { s with tw := { s.tw with alertAnswered := false } }

/-- TW0 drives ALERT_N low in active modes while the condition of HIRQ_N holds and no alert response released it (R538). -/
def State.tw0Alert (s : State) : Bool := s.mode.active && s.hirq && !s.tw.alertAnswered

/-- Bits of IRQ_STATUS written with 1 are cleared, where they are W1C. -/
def State.irqClear (s : State) (v : Nat) : State :=
  { s with host := { s.host with
      irqTxn := s.host.irqTxn && !bit v 6, irqButton := s.host.irqButton && !bit v 5
      irqGeneration := s.host.irqGeneration && !bit v 4, irqModeChange := s.host.irqModeChange && !bit v 3
      irqSealed := s.host.irqSealed && !bit v 2 } }

/-- The port status byte (Table 5-2). -/
def State.portStatus (s : State) : Nat :=
  s.modeCode * 16 + 8 * b2n s.doneAny + 4 * b2n (decide (s.host.txnStatus ≠ 0)) + 2 * b2n s.hirq + b2n s.host.hrdy

/-- Does the port answer: in the firmware modes, from Boot step 3 onward (R113)? -/
def State.portAlive (s : State) : Bool := s.mode.firmware && decide (2 ≤ s.boot.step)

/-- A transaction that set flags ends: TXN_STATUS, the TXN_ERROR interrupt, ERROR_COUNT and source 272 (R116). (DEDUCED, log 18; DEDUCED, log 19) -/
def State.endTxn (s : State) (flags : Nat) : State :=
  if flags = 0 then s
  else
    ({ s with host := { s.host with
        txnStatus := s.host.txnStatus ||| flags, irqTxn := true, errorCount := min 0xFFFF (s.host.errorCount + 1) } }).raise
      272 1 []

end Sys2Proof.Machine
end

