-- ==== Sys2Proof/Machine/LogStore.lean ====
section
/-! DEFINITION. The logbook's record layout, staging, store and statuses (R450 to R457, R463 to R465). -/
namespace Sys2Proof.Machine

/-- Records the logbook can hold: CAPACITY, or the staging ring while unbacked (R460, R463). -/
def Logbook.cap (l : Logbook) : Nat := if l.unbacked then 4096 else l.capacity

/-- The record held for a SEQ at or below HEAD: from the store, from staging while unbacked. -/
def Logbook.held (l : Logbook) (seq : Nat) : LogRec :=
  if l.unbacked then Tab.get {} l.staging seq else Tab.get {} l.store (l.slotOf seq)

/-- The oldest SEQ held: TAIL_SEQ, or above what has been overwritten. -/
def Logbook.oldest (l : Logbook) : Nat := max l.tail (l.head + 1 - l.cap)

/-- Status of a SEQ (R465): 0 VALID, 1 GONE, 2 NOT_YET, 3 DAMAGED. -/
def Logbook.status (l : Logbook) (seq : Nat) : Nat :=
  if seq < l.oldest then 1
  else if l.head < seq then 2
  else if (l.held seq).crcOk && decide ((l.held seq).seq = seq) then 0 else 3

/-- Status and record as a reader is shown them (R465). -/
def Logbook.view (l : Logbook) (seq : Nat) : LogSlot :=
  let st := l.status seq
  { status := st, entry := if st = 0 ∨ st = 3 then l.held seq else {} }

/-- Bytes a reader is shown of a slot: zero for GONE and NOT_YET. -/
def LogSlot.bytes (x : LogSlot) : Bytes := if x.status = 0 ∨ x.status = 3 then x.entry.bytes else zeros 64

/-- Payload of an offer as staged: the prefix of R453 with the epoch at staging. -/
def LogOffer.payload (o : LogOffer) (epoch : Nat) : Bytes :=
  match o.event with
  | none => (padTo 44 o.items).take 44
  | some e => (padTo 44 (leBytes 4 epoch ++ leBytes 2 e ++ [0, 1] ++ o.items)).take 44

/-- May a record be admitted to staging (R455, R461, R463)? -/
def Logbook.admits (l : Logbook) : Bool := l.mounted && (l.unbacked || decide (l.unflushed < 64))

/-- A record staged with its SEQ, CHAIN and CRC (R451, R454); the ring keeps 4,096, whole words replace what they held,
and while unbacked HEAD follows. -/
def State.stage (s : State) (o : LogOffer) : State :=
  let l := s.log
  let r : LogRec :=
    { seq := l.next, cls := o.cls, source := o.source
      flags := o.flags ||| b2n s.power.brace.isSome ||| (4 * b2n l.unbacked), payload := o.payload s.clocks.epoch }
  let r := { r with chain := chainOf l.chainKey l.lastChain r.body }
  let r := { r with crc := crc32c r.chained }
  let staging := Tab.set {} (Tab.erase l.staging (l.next - 4096)) l.next r
  let l := { l with
    staging := staging, next := l.next + 1, lastChain := r.chain
    head := if l.unbacked then l.next else l.head
    unflushedMax := max l.unflushedMax (if l.unbacked then 0 else l.unflushed + 1) }
  let s := { s with log := l }
  s.setEcc 204 fun e => { e with bad := (countFrom 16 (16 * (r.seq % 4096))).foldl (fun b w => Tab.erase b w) e.bad }

/-- Does a word of a staged record read uncorrectable (R457)? -/
def State.stagedBad (s : State) (seq : Nat) : Bool :=
  (countFrom 16 (16 * (seq % 4096))).any fun w => Tab.get false (s.eccAt 204).bad w

/-- The next burst over the unflushed records, up to 64 (R456); none while a brace suspends CS1 writes outside
Last-gasp (R51), while unbacked, or while the logbook block is held. -/
def State.startBurst (s : State) : State :=
  let l := s.log
  if l.burst.isNone && !l.unbacked && decide (0 < l.unflushed) && !s.held 14
      && (s.power.brace.isNone || s.mode = .lastGasp) then
    let b : Burst :=
      { first := l.head + 1, last := min (l.next - 1) (l.head + 64), rewrite := false, cut := s.fresh .unstated 0 }
    ({ s with log := { l with burst := some b } }).used
  else s

/-- A damaged record found: counted, source 203 + … of R469: logbook source 3. -/
def State.logDamaged (s : State) (n : Nat) : State :=
  if n = 0 then s
  else ({ s with log := { s.log with damaged := (s.log.damaged + n) % 2 ^ 32 } }).raise 291 1 []

end Sys2Proof.Machine
end

