-- ==== Sys2Proof/Machine/HostPort.lean ====
section
/-! DEFINITION. The quad-SPI host port (R108 to R119): the merge buffers of the mailboxes and the user RAM, the
registers, the logbook, fault and ledger windows, and bursts of bytes read and written. -/
namespace Sys2Proof.Machine

/-! ### Merge buffers and ECC words (R492, R493, R497) -/

/-- ECC source of the mailboxes. -/
def instMailbox : Nat := 201
/-- Instance of the ledger RAM (Table 18-9). -/
def instLedger : Nat := 203
/-- ECC source of the user RAM. -/
def instUser : Nat := 202

/-- Bytes of instance `inst` from a byte offset, as the array holds them. (DEDUCED, log 16) -/
def State.arrayRead (s : State) (inst o n : Nat) : Bytes :=
  if inst = instUser then memReadN s.host.user o n else if inst = instMailbox then memReadN s.host.ram o n else zeros n

/-- One byte of instance `inst` written to the array; a user-RAM byte is marked written (R497). -/
def State.arrayByte (s : State) (inst o : Nat) (b : Byte) : State :=
  if inst = instUser then
    { s with host := { s.host with
        user := memWrite s.host.user o b
        userWritten := Tab.upd 0 s.host.userWritten (o / 4) fun m => setBit m (o % 4) true % 16 } }
  else if inst = instMailbox then { s with host := { s.host with ram := memWrite s.host.ram o b } }
  else s

/-- The bytes of a word that a mask names, written. -/
def State.arrayMasked (s : State) (inst word mask value : Nat) : State :=
  ((upto 4).filter (bit mask)).foldl (fun s i => s.arrayByte inst (4 * word + i) (byte (value / 256 ^ i))) s

/-- A word reads correctly again, or reads uncorrectable. -/
def State.setBad (s : State) (inst word : Nat) (b : Bool) : State :=
  s.setEcc inst fun e => { e with bad := Tab.set false e.bad word b }

/-- Commit one entry: a full mask writes the word whole, a narrow one by read-modify-write, which poisons a word that
reads uncorrectable (R493). (DEDUCED, log 17) -/
def State.mergeCommit (s : State) (e : MergeEntry) : State :=
  let s := { s with faults := { s.faults with merge := s.faults.merge.filter fun x => decide (¬(x.inst = e.inst ∧ x.word = e.word)) } }
  let s := s.arrayMasked e.inst e.word e.mask e.value
  if e.mask = 15 then s.setBad e.inst e.word false
  else if s.wordBad e.inst e.word then
    (s.setEcc e.inst fun c =>
      ({ c with poisoned := (c.poisoned + 1) % 2 ^ 32 }.count 4).at_ e.inst e.word).raise e.inst 4 (eccData e.inst e.word 0xFFFF 0)
  else s

/-- Commit every entry of an instance that meets a condition, the oldest first. (DEDUCED, log 17) -/
def State.mergeFlush (s : State) (p : MergeEntry → Bool) : State :=
  (s.faults.merge.filter p).foldl State.mergeCommit s

/-- An entry after `d` is written into it at byte `o`. -/
def MergeEntry.put (e : MergeEntry) (o : Nat) (d : Bytes) : MergeEntry :=
  { e with
    mask := (countFrom d.length o).foldl (fun m i => setBit m i true) e.mask % 16
    value := leVal ((upto 4).map fun i =>
      if o ≤ i ∧ i < o + d.length then d.getD (i - o) 0 else byte (e.value / 256 ^ i)) }

/-- Write part of a word through the merge buffer, or a whole word past it (R492). (DEDUCED, log 17) -/
def State.mergeWrite (s : State) (inst word o : Nat) (d : Bytes) : State :=
  let mine (e : MergeEntry) : Bool := decide (e.inst = inst ∧ e.word = word)
  match s.faults.merge.find? mine with
  | some e =>
    let e := e.put o d
    if e.mask = 15 then s.mergeCommit e
    else { s with faults := { s.faults with merge := s.faults.merge.map fun x => if mine x then e else x } }
  | none =>
    let e : MergeEntry := ({ inst := inst, word := word, mask := 0, value := 0 } : MergeEntry).put o d
    if e.mask = 15 then s.mergeCommit e
    else
      let ofInst := s.faults.merge.filter fun x => decide (x.inst = inst)
      let s := match ofInst with
        | old :: _ => if 4 ≤ ofInst.length then s.mergeCommit old else s
        | [] => s
      { s with faults := { s.faults with merge := s.faults.merge ++ [e] } }

/-! ### Registers (Table 5-4) -/

/-- The reset-cause register (Table 3-6). -/
def ResetCause.word (c : ResetCause) : Nat :=
  c.faultSrc * 2 ^ 23 + c.fromMode * 2 ^ 16 + c.count * 2 ^ 8 + b2n c.orderly * 16 + c.cause

/-- A write of the reset-cause register: CAUSE is write-one-to-clear, and 0xF clears CAUSE and COUNT (Table 3-6). (DEDUCED, log 18; DEDUCED, log 72) -/
def ResetCause.written (c : ResetCause) (v : Nat) : ResetCause :=
  let m := v % 16
  if m = 15 then { c with cause := 0, count := 0 }
  else { c with cause := sumN ((upto 4).map fun i => b2n (bit c.cause i && !bit m i) * 2 ^ i) }

/-- A host-port register word by offset; RSV words read zero. -/
def State.regWord (s : State) (o : Nat) : Nat :=
  match o with
  | 0x00 => 0x8128 * 2 ^ 16 + 0x21 * 2 ^ 8 + 0x01
  | 0x04 => (s.host.sessions.filter fun e => e.2.state = .openS).length * 256 + 16 * b2n s.host.hrdy + s.modeCode
  | 0x08 => s.host.txnStatus
  | 0x0C => s.irqStatus
  | 0x10 => s.host.irqEnable
  | 0x18 => s.mbBusyMap
  | 0x1C => s.mbDoneMap
  | 0x20 => s.host.hostMask
  | 0x24 => sumN ((upto 16).map fun n => (s.mbAt n).owner.code * 4 ^ n)
  | 0x28 => s.clocks.epoch
  | 0x2C => s.sluice.generation
  | 0x30 => s.host.sealedEpoch
  | 0x34 => s.host.errorCount
  | 0x40 => s.power.cause.word
  | _ => 0

/-- Accept or refuse one doorbell bit (R119): the state, and whether it was refused. -/
def State.doorbell (s : State) (n : Nat) : State × Bool :=
  if s.host.hrdy && s.hostOwns n && !(s.mbAt n).busy && !(s.mbAt n).done then
    (s.ring n .host 0 0 0, false)
  else (s, true)

/-- Doorbell bits in ascending mailbox number (R120). -/
def State.doorbells (s : State) (v : Nat) : State × Bool :=
  let s := s.mergeFlush fun e => decide (e.inst = instMailbox)
  let r := (mapList 16 v).foldl (fun (a : State × Bool) n =>
    let r := a.1.doorbell n
    (r.1, a.2 || r.2)) (s, false)
  (State.drainUnknown 16 r.1, r.2)

/-- Completed mailboxes named by a write of MB_DONE become free (R119, step 5), a pool mailbox that TW0 holds
too. (DESIGN CHOICE, log 85) -/
def State.doneClear (s : State) (v : Nat) : State :=
  s.each (mapList 16 v) fun s n => if (s.mbAt n).done then s.freeMb n else s

/-- A write of MB_HOST_MASK takes effect at once for the mailboxes that are free (R118). -/
def State.maskWrite (s : State) (v : Nat) : State :=
  let own := mapWhere 16 fun n => if (s.mbAt n).busy || (s.mbAt n).done then bit s.host.ownMask n else bit v n
  { s with host := { s.host with hostMask := v % 2 ^ 16, ownMask := own } }

/-- A whole host-port register word is written (R111): the state, and the flags it sets. -/
def State.regWrite (s : State) (o v : Nat) : State × Nat :=
  match o with
  | 0x0C => (s.irqClear v, 0)
  | 0x10 => ({ s with host := { s.host with irqEnable := v % 128 } }, 0)
  | 0x14 =>
    let r := s.doorbells (v % 2 ^ 16)
    (r.1, if r.2 then flagDoorbell else 0)
  | 0x1C => (s.doneClear v, 0)
  | 0x20 => (s.maskWrite v, 0)
  | 0x40 => ({ s with power := { s.power with cause := s.power.cause.written v } }, 0)
  | _ => (s, 0)

/-! ### Logbook window (Table 17-5) -/

/-- A word of the logbook window's registers. -/
def State.logWord (s : State) (o : Nat) : Nat :=
  let l := s.log
  if o = 0x00 then l.cursorLo
  else if o = 0x04 then l.cursorHi
  else if o = 0x08 then b2n l.loading + 2 * b2n (l.loadUnbacked && !l.loading)
  else if l.loading then 0
  else if o = 0x0C then l.loadEpoch
  else if o = 0x10 then l.loadHead % 2 ^ 32
  else if o = 0x14 then l.loadHead / 2 ^ 32
  else if o = 0x18 then l.loadTail % 2 ^ 32
  else if o = 0x1C then l.loadTail / 2 ^ 32
  else sumN ((upto 16).map fun i => (Tab.get ({} : LogSlot) l.window (16 * ((o - 0x20) / 4) + i)).status * 4 ^ i)

/-- A byte of the logbook window, none where it is unmapped. -/
def State.logByte (s : State) (o : Nat) : Option Byte :=
  if o < 0x30 then some (byte (s.logWord (o - o % 4) / 256 ^ (o % 4)))
  else if 0x1000 ≤ o ∧ o < 0x2000 then
    some (if s.log.loading then 0
      else (Tab.get ({} : LogSlot) s.log.window ((o - 0x1000) / 64)).bytes.getD (o % 64) 0)
  else none

/-- A load begins: the copy of the 64 records from CURSOR on, with HEAD and TAIL, as they stand at the load (R465); the window
shows it once the load completes. (DEDUCED, log 30) -/
def Logbook.load (l : Logbook) (epoch lo : Nat) : Logbook :=
  let c := l.cursorHiHeld * 2 ^ 32 + lo
  { l with
    cursorLo := lo, cursorHi := l.cursorHiHeld, loading := true, loadEpoch := epoch, loadHead := l.head, loadTail := l.oldest
    loadUnbacked := l.unbacked, window := (upto 64).foldl (fun t i => Tab.set {} t i (l.view (c + i))) [] }

/-- A whole register word of the logbook window is written (R465). -/
def State.logWrite (s : State) (o v : Nat) : State :=
  if o = 0 then { s with log := s.log.load s.clocks.epoch (v % 2 ^ 32) }
  else if o = 4 then { s with log := { s.log with cursorHiHeld := v % 2 ^ 32 } }
  else s

/-! ### Fault summary window (Tables 18-11 to 18-13) -/

/-- Pending sources of a class, as the window shows them. -/
def FaultWindow.pendingOf (w : FaultWindow) (c : Nat) : Nat :=
  (w.src.filter fun e => e.2.pending && decide (e.2.lastClass = c)).length

/-- A word of the fault summary registers. -/
def State.faultWord (s : State) (o : Nat) : Nat :=
  let w := s.faults.win
  match o with
  | 0x00 => w.epoch
  | 0x04 => w.ringHead
  | 0x08 => s.faults.read
  | 0x0C => w.alive * 256 + w.depth
  | 0x10 => w.overflow0
  | 0x14 => w.overflow1
  | 0x18 => w.overflow2
  | 0x1C => w.overflow3
  | 0x20 => w.pendingOf 1 * 2 ^ 16 + w.pendingOf 0
  | 0x24 => w.pendingOf 3 * 2 ^ 16 + w.pendingOf 2
  | _ => 0

/-- A per-source record (Table 18-13). -/
def sourceRecord (x : FaultSrc) (hold : Bool) (minCls reactions : Nat) : Bytes :=
  leBytes 4 x.count ++ leBytes 4 x.lastEpoch
    ++ [byte x.lastEvent, byte x.lastClass,
        byte (b2n x.pending + 2 * b2n x.present + 4 * b2n hold + 8 * b2n x.escalated), byte minCls]
    ++ leBytes 2 reactions ++ [0, 0]

/-- Bytes 0x00 to 0x1F of a ring entry (Table 18-10). -/
def RingEntry.bytes (e : RingEntry) : Bytes :=
  leBytes 4 e.qseq ++ leBytes 4 e.epoch ++ leBytes 2 e.source ++ [byte e.cls, byte e.event] ++ leBytes 2 e.repeats
    ++ leBytes 2 e.reaction ++ data16 e.data

/-- A byte of the fault summary window, none where it is unmapped. -/
def State.faultByte (s : State) (o : Nat) : Option Byte :=
  let w := s.faults.win
  let mapByte (p : Nat → Bool) (b : Nat) : Byte := byte (sumN ((upto 8).map fun i => b2n (p (8 * b + i)) * 2 ^ i))
  if o < 0x40 then some (byte (s.faultWord (o - o % 4) / 256 ^ (o % 4)))
  else if o < 0x68 then some (mapByte (fun n => (Tab.get ({} : FaultSrc) w.src n).pending) (o - 0x40))
  else if 0x80 ≤ o ∧ o < 0xA8 then some (mapByte (fun n => Tab.get false w.aliveHold n) (o - 0x80))
  else if 0x1000 ≤ o ∧ o < 0x2400 then
    let n := (o - 0x1000) / 16
    some ((sourceRecord (Tab.get {} w.src n) (Tab.get false w.aliveHold n) (Tab.get (minClassReset n) w.minCls n)
      (Tab.get (reactionsReset n) w.react n)).getD (o % 16) 0)
  else if 0x4000 ≤ o ∧ o < 0x6000 then
    some ((Tab.get ({} : RingEntry) w.ring ((o - 0x4000) / 32)).bytes.getD (o % 32) 0)
  else none

/-- A whole register word of the fault summary is written: READ, within 256 of RING_HEAD (Table 18-12). -/
def State.faultWrite (s : State) (o v : Nat) : State :=
  if o = 8 ∧ (s.faults.win.ringHead + 2 ^ 32 - v % 2 ^ 32) % 2 ^ 32 ≤ 256 then
    { s with faults := { s.faults with read := v % 2 ^ 32 } }
  else s

/-! ### Ledger window (Tables 16-8, 16-9) -/

/-- Is a fabric position committed? -/
def State.member (s : State) : Bool := decide (s.shelfFabRow ≠ 255) && decide (s.shelfFabCol ≠ 255)

/-- The local snapshot of an epoch. -/
def Ledger.snapOf (l : Ledger) (e : Nat) : Option Snap := l.snaps.find? fun x => decide (x.epoch % 2 ^ 32 = e)

/-- Oldest local epoch held. -/
def Ledger.oldest (l : Ledger) : Nat := match l.snaps.head? with | some x => x.epoch % 2 ^ 32 | none => 0

/-- Newest local epoch sealed. -/
def Ledger.newest (l : Ledger) : Nat := match l.snaps.getLast? with | some x => x.epoch % 2 ^ 32 | none => 0

/-- Status of a local epoch (R440): 0 VALID, 1 GONE, 2 NOT_YET. -/
def Ledger.localStatus (l : Ledger) (e : Nat) : Nat :=
  if (l.snapOf e).isSome then 0 else if !l.snaps.isEmpty && later32 l.oldest e then 1 else 2

/-- The fabric snapshot of a fabric epoch, by its low 32 bits. -/
def Ledger.fabOf (l : Ledger) (f : Nat) : Option FabSnap := l.fabs.find? fun x => decide (x.epoch % 2 ^ 32 = f % 2 ^ 32)

/-- Status of a fabric epoch: 0 VALID, 1 GONE, 2 NOT_YET. -/
def Ledger.fabEpochStatus (l : Ledger) (f : Nat) : Nat :=
  if (l.fabOf f).isSome then 0
  else match l.fabs.head? with
    | some x => if later32 (x.epoch % 2 ^ 32) (f % 2 ^ 32) then 1 else 2
    | none => 2

/-- FABRIC for the snapshot the cursor selects (Table 16-9): 3 not a member; where no local snapshot is selected, the
status of the local one. (DEDUCED, log 75) -/
def State.fabStatus (s : State) : Nat :=
  match s.ledger.snapOf s.ledger.cursor with
  | some x => match x.fab with | none => 3 | some f => s.ledger.fabEpochStatus f
  | none => if s.member then s.ledger.localStatus s.ledger.cursor else 3

/-- The fabric snapshot the cursor selects. -/
def State.fabSelected (s : State) : Option FabSnap :=
  match s.ledger.snapOf s.ledger.cursor with
  | some x => match x.fab with | none => none | some f => s.ledger.fabOf f
  | none => none

/-- A word of the ledger window's registers; NEXT reads CURSOR. -/
def State.ledgerWord (s : State) (o : Nat) : Nat :=
  let l := s.ledger
  match o with
  | 0x00 => l.cursor
  | 0x04 => s.fabStatus * 4 + l.localStatus l.cursor
  | 0x08 => l.oldest
  | 0x0C => l.newest
  | 0x10 => l.cursor
  | 0x14 => l.fabPage
  | 0x18 => match s.fabSelected with
    | some f => (f.present.filter (·.2)).length % 2 ^ 11 * 2 ^ 16 + f.sealUs % 2 ^ 16
    | none => 0
  | 0x1C => toU 32 s.fabric.offset
  | _ => 0

/-- A byte of the ledger window, none where it is unmapped; an area whose status is not VALID reads zero. -/
def State.ledgerByte (s : State) (o : Nat) : Option Byte :=
  let fab (g : FabSnap → Byte) : Option Byte := some (match s.fabSelected with | some f => g f | none => 0)
  let mapByte (t : Tab Bool) (b : Nat) : Byte := byte (sumN ((upto 8).map fun i => b2n (Tab.get false t (8 * b + i)) * 2 ^ i))
  if o < 0x20 then some (byte (s.ledgerWord (o - o % 4) / 256 ^ (o % 4)))
  else if 0x400 ≤ o ∧ o < 0x480 then fab fun f => mapByte f.present (o - 0x400)
  else if 0x480 ≤ o ∧ o < 0x484 then fab fun f => mapByte f.rowPresent (o - 0x480)
  else if 0x1000 ≤ o ∧ o < 0x5000 then
    some (match s.ledger.snapOf s.ledger.cursor with | some x => x.bytes.getD (o - 0x1000) 0 | none => 0)
  else if 0x6000 ≤ o ∧ o < 0x8000 then fab fun f => (Tab.get [] f.fulls ((o - 0x6000) / 256)).getD (o % 256) 0
  else if 0x8000 ≤ o ∧ o < 0x10000 then
    fab fun f => (Tab.get [] f.summaries (512 * s.ledger.fabPage + (o - 0x8000) / 64)).getD (o % 64) 0
  else none

/-- The area of LEDGER.READ, the epoch and the offset in it that a content byte of the ledger window shows, where its status is
VALID; area 4 stands for ROW_PRESENT. (DESIGN CHOICE, log 84) -/
def State.ledgerSpot (s : State) (o : Nat) : Option (Nat × Nat × Nat) :=
  if 0x1000 ≤ o ∧ o < 0x5000 then (s.ledger.snapOf s.ledger.cursor).map fun x => (0, x.epoch, o - 0x1000)
  else s.fabSelected.map fun f =>
    if o < 0x480 then (3, f.epoch, o - 0x400)
    else if o < 0x1000 then (4, f.epoch, o - 0x480)
    else if o < 0x8000 then (1, f.epoch, o - 0x6000)
    else (2, f.epoch, 0x8000 * s.ledger.fabPage + (o - 0x8000))

/-- The word of the ledger RAM, a memory of 576 KiB (R435), under a byte of a snapshot's area. (DESIGN CHOICE, log 84) -/
def ledgerPlace (area epoch o : Nat) : Nat := Config.ledgerPlace area epoch (o / 4) % 147456

/-- Bytes `d` of a snapshot's area read from the ledger RAM, from offset `o`: those of a word that reads uncorrectable are zero
(R112, Table 18-9). -/
def State.ledgerRead (s : State) (area epoch o : Nat) (d : Bytes) : Bytes :=
  (List.range d.length).map fun i => if s.wordBad instLedger (ledgerPlace area epoch (o + i)) then 0 else d.getD i 0

/-- The uncorrectable words of the ledger RAM under `n` bytes of a snapshot's area from offset `o`. -/
def State.ledgerBad (s : State) (area epoch o n : Nat) : List Nat :=
  ((countFrom (cdiv (o % 4 + n) 4) (o / 4)).map fun w => ledgerPlace area epoch (4 * w)).filter (s.wordBad instLedger)

/-- A snapshot's areas are written whole into the ledger RAM: their words read correctly again (R493). -/
def State.ledgerStored (s : State) (areas : List (Nat × Nat)) (epoch : Nat) : State :=
  s.setEcc instLedger fun e => { e with bad := e.bad.filter fun b =>
    !(areas.any fun a => (upto (cdiv a.2 4)).any fun w => decide (ledgerPlace a.1 epoch (4 * w) = b.1)) }

/-- A whole register word of the ledger window is written: CURSOR and FAB_PAGE. -/
def State.ledgerWrite (s : State) (o v : Nat) : State :=
  if o = 0 then { s with ledger := { s.ledger with cursor := v % 2 ^ 32 } }
  else if o = 0x14 then { s with ledger := { s.ledger with fabPage := v % 2 } }
  else s

/-! ### Bursts -/

/-- Parts of the address map (Table 5-3), by the offset within the part. -/
inductive Region where
  | regs | mailbox | logw | faultw | ledgerw | user | unmapped
  deriving DecidableEq, Repr

/-- Part and offset of an address. -/
def regionOf (a : Nat) : Region × Nat :=
  if a < 0x100 then (.regs, a)
  else if 0x010000 ≤ a ∧ a < 0x014000 then (.mailbox, a - 0x010000)
  else if 0x020000 ≤ a ∧ a < 0x030000 then (.logw, a - 0x020000)
  else if 0x030000 ≤ a ∧ a < 0x040000 then (.faultw, a - 0x030000)
  else if 0x040000 ≤ a ∧ a < 0x050000 then (.ledgerw, a - 0x040000)
  else if 0x100000 ≤ a ∧ a < 0x140000 then (.user, a - 0x100000)
  else (.unmapped, a)

/-- Is an offset in the register words of its part (R111)? -/
def registerWord (r : Region) (o : Nat) : Bool :=
  match r with
  | .regs => true
  | .logw => decide (o < 0x30)
  | .faultw => decide (o < 0x40)
  | .ledgerw => decide (o < 0x20)
  | _ => false

/-- A whole register word is written. -/
def State.wordWrite (s : State) (r : Region) (o v : Nat) : State × Nat :=
  match r with
  | .regs => s.regWrite o v
  | .logw => (s.logWrite o v, 0)
  | .faultw => (s.faultWrite o v, 0)
  | .ledgerw => (s.ledgerWrite o v, 0)
  | _ => (s, 0)

/-- Is a window offset that holds no register mapped? -/
def State.windowMapped (s : State) (r : Region) (o : Nat) : Bool :=
  match r with
  | .logw => (s.logByte o).isSome
  | .faultw => (s.faultByte o).isSome
  | .ledgerw => (s.ledgerByte o).isSome
  | _ => false

/-- The part of one word that a burst writes (R110 to R112, R118, R119): the state and the flags. The response half keeps its
content: only the TRN8128 writes it. (DEDUCED, log 19) -/
def State.writeCut (s : State) (c : Nat × Nat × Bytes) : State × Nat :=
  let p := regionOf c.1
  if registerWord p.1 p.2 then
    if c.2.2.length = 4 then s.wordWrite p.1 p.2 (leVal c.2.2) else (s, flagUnaligned)
  else match p.1 with
    | .mailbox =>
      let n := p.2 / 0x400
      if 0x200 ≤ p.2 % 0x400 then (s, 0)
      else if (s.mbAt n).busy ∨ s.hostOwns n = false then (s, flagBusyWrite)
      else (s.mergeWrite instMailbox (p.2 / 4) c.2.1 c.2.2, 0)
    | .user => (s.mergeWrite instUser (p.2 / 4) c.2.1 c.2.2, 0)
    | r => (s, if s.windowMapped r p.2 then 0 else flagUnmapped)

/-- A WRITE burst: each word in turn, then the flags of the transaction. (DEDUCED, log 19) -/
def State.writeBurst (s : State) (addr : Nat) (data : Bytes) : State :=
  if s.portAlive then
    let r := (wordCuts (data.length + 1) addr data).foldl (fun (a : State × Nat) c =>
      let r := a.1.writeCut c
      (r.1, a.2 ||| r.2)) (s, 0)
    (r.1.endTxn r.2).alertSettle
  else s

/-- What a READ of a whole register word does beside returning it: RC fields clear, NEXT advances the cursor. (DEDUCED, log 18) -/
def State.readEffect (s : State) (r : Region) (o : Nat) : State :=
  if r = .regs ∧ o = 0x08 then { s with host := { s.host with txnStatus := 0 } }
  else if r = .regs ∧ o = 0x34 then { s with host := { s.host with errorCount := 0 } }
  else if r = .ledgerw ∧ o = 0x10 then
    { s with ledger := { s.ledger with cursor := (s.ledger.cursor + 1) % 2 ^ 32 } }
  else s

/-- Part of a word of an ECC array read after its entries have committed (R112, R492): state, flags, bytes. -/
def State.arrayCut (s : State) (inst word o n : Nat) : State × Nat × Bytes :=
  let s := s.mergeFlush fun e => decide (e.inst = inst ∧ e.word = word)
  if inst = instUser ∧ Tab.get 0 s.host.userWritten word ≠ 15 then
    (s.eccEvent inst 3 word 0,
      flagUninitialised, zeros n)
  else if s.wordBad inst word then
    (s.eccEvent inst 4 word 0,
      flagUncorrectable, zeros n)
  else (s, 0, s.arrayRead inst (4 * word + o) n)

/-- A byte of a register word or a window, none where it is unmapped. -/
def State.plainByte (s : State) (r : Region) (o : Nat) : Option Byte :=
  match r with
  | .regs => some (byte (s.regWord (o - o % 4) / 256 ^ (o % 4)))
  | .logw => s.logByte o
  | .faultw => s.faultByte o
  | .ledgerw => s.ledgerByte o
  | _ => none

/-- Part of a word of the ledger window's content (R112, R440): state, flags, bytes. -/
def State.ledgerCut (s : State) (o : Nat) (d : Bytes) : State × Nat × Bytes :=
  match s.ledgerSpot o with
  | none => (s, 0, d)
  | some (area, epoch, p) =>
    match s.ledgerBad area epoch p d.length with
    | [] => (s, 0, d)
    | w :: _ => (s.eccEvent instLedger 4 w 0, flagUncorrectable, zeros d.length)

/-- The part of one word that a burst reads: word address, offset, count; state, flags, bytes. -/
def State.readCut (s : State) (a o n : Nat) : State × Nat × Bytes :=
  let p := regionOf a
  match p.1 with
  | .mailbox => s.arrayCut instMailbox (p.2 / 4) o n
  | .user => s.arrayCut instUser (p.2 / 4) o n
  | r =>
    let l := (countFrom n (p.2 + o)).map (s.plainByte r)
    let d := l.map fun b => b.getD 0
    let f := if l.any (·.isNone) then flagUnmapped else 0
    if registerWord r p.2 then
      if n = 4 then (s.readEffect r p.2, f, d) else (s, f ||| flagUnaligned, d)
    else if r = .ledgerw ∧ f = 0 then s.ledgerCut (p.2 + o) d
    else (s, f, d)

/-- A READ burst: state, flags, bytes. -/
def State.readAll (s : State) (addr len : Nat) : State × Nat × Bytes :=
  (wordCuts (len + 1) addr (zeros len)).foldl (fun (a : State × Nat × Bytes) c =>
    let r := a.1.readCut c.1 c.2.1 c.2.2.length
    (r.1, a.2.1 ||| r.2.1, a.2.2 ++ r.2.2)) (s, 0, [])

/-- A READ transaction: the bytes go out, then the flags are set; a READ that cleared TXN_STATUS sets its own after. (DEDUCED, log 19) -/
def State.readBurst (s : State) (addr len : Nat) : State :=
  if s.portAlive then
    let r := s.readAll addr len
    (r.1.send (.host r.2.2)).endTxn r.2.1
  else s

/-- A QUIET READ transaction: the bytes of a READ, and nothing else changes (R12). (DEDUCED, log 75) -/
def State.quietBurst (s : State) (addr len : Nat) : State :=
  if s.portAlive then s.send (.host (s.readAll addr len).2.2) else s

end Sys2Proof.Machine
end

