-- ==== Sys2Proof/Machine/Trace.lean ====
section
/-! DEFINITION. Capture and trace capsules (R235 to R245): the ring, triggers, capsules and their mover, and the orders of
group 0x05. -/
namespace Sys2Proof.Machine

/-! ### Captures -/

/-- Channels of cluster `c` that belong to an output the description enables, as a map over its 32 channels. -/
def State.clusterMap (s : State) (c : Nat) : Nat :=
  mapWhere 32 fun j => s.describedOuts.any fun k => (s.phases k).contains (32 * c + j)

/-- Evaluation interval of a channel (R198). -/
def State.interval (s : State) (ch : Nat) : Nat := evalInterval (s.chPeriod ch) (decide (s.chSlotDonor ch ≠ 255))

/-- Evaluation intervals of the channels of a cluster's map. -/
def State.mapIntervals (s : State) (c m : Nat) : List Nat := (mapList 32 m).map fun j => s.interval (32 * c + j)

/-- The default capture of cluster `c` starts (R240): the ring is emptied and writing begins. -/
def State.defaultCapture (s : State) (c : Nat) : State :=
  let m := s.clusterMap c
  s.setCluster c fun x =>
    { x with
      state := 1, mode := 1, decim := smallestDecim (s.mapIntervals c m) 11 2, channels := m, pre := 0, trigNode := 0
      trigEdge := 0, trigMask := 0x200, trigChannel := 0, xout := 0, trigLevel := 0, holdS := 10, host := false
      captureId := (x.captureId + 1) % 2 ^ 32, ring := [], written := 0, triggered := false, trigPending := []
      lastNode := none, evalCount := [] }

/-- A trigger condition on a cluster (R238): it waits for the next entry of its channel, or of any captured one; several may
wait. -/
def State.signalTrigger (s : State) (c cond : Nat) (ch : Option Nat) : State :=
  s.setCluster c fun x =>
    let captured := match ch with | none => true | some k => bit x.channels (k % 32)
    if x.state = 1 ∧ bit x.trigMask cond = true ∧ captured = true ∧ x.trigPending.contains (cond, ch) = false then
      { x with trigPending := x.trigPending ++ [(cond, ch)] }
    else x

/-- The node TRIG_NODE of an entry (R238). -/
def TraceEntry.node (e : TraceEntry) (n : Nat) : Int :=
  match n with
  | 0 => ofU 10 (e.error % 1024)
  | 1 => ofU 12 (e.duty / 2 ^ 20)
  | 2 => e.duty % 2 ^ 20
  | 3 => e.gtIndex
  | 4 => e.p
  | 5 => e.ist
  | 6 => e.dst
  | _ => e.setpoint

/-- The 32 bytes of an entry (Table 9-6). -/
def TraceEntry.bytes (e : TraceEntry) : Bytes :=
  leBytes 4 e.tstamp ++ leBytes 2 e.error ++ [byte e.channel, byte e.gtIndex] ++ leS 4 e.p ++ leS 4 e.ist ++ leS 4 e.dst
    ++ leBytes 4 e.duty ++ leBytes 4 e.setpoint ++ leBytes 4 e.eval

/-- Does TRIG_NODE cross TRIG_LEVEL in the direction TRIG_EDGE? -/
def Cluster.crosses (x : Cluster) (old new : Int) : Bool :=
  if x.trigEdge = 0 then decide (old < x.trigLevel) && decide (x.trigLevel ≤ new)
  else decide (x.trigLevel < old) && decide (new ≤ x.trigLevel)

/-- The lowest trigger condition met at an entry (R238). -/
def Cluster.conditionAt (x : Cluster) (e : TraceEntry) : Option Nat :=
  let ch := e.channel % 128
  let waiting := (x.trigPending.filter fun p => match p.2 with | some k => decide (k = ch) | none => true).map (·.1)
  let node := bit x.trigMask 1 && decide (ch % 32 = x.trigChannel) && (match x.lastNode with
    | some v => x.crosses v (e.node x.trigNode) | none => false)
  let now := (if node then [1] else []) ++ (if bit x.trigMask 5 && bit e.error 12 then [5] else []) ++ waiting
  firstN (fun c => now.contains c) (upto 10)

/-- An entry appended to the ring of 8,192. -/
def Cluster.push (x : Cluster) (e : TraceEntry) : Cluster :=
  { x with ring := (if 8192 ≤ x.ring.length then x.ring.drop 1 else x.ring) ++ [e], written := x.written + 1 }

/-- One entry of a captured channel reaches the ring, and may trigger (R237, R238, CAPTURE_TRIGGER). -/
def Cluster.write (x : Cluster) (e : TraceEntry) (epoch : Nat) : Cluster :=
  let note (x : Cluster) : Cluster :=
    if e.channel % 32 = x.trigChannel then { x with lastNode := some (e.node x.trigNode) } else x
  if x.state = 1 then
    let hit := if x.triggered then none else x.conditionAt e
    let y := x.push e
    let y := match hit with
      | some c =>
        { y with state := 2, triggered := true, trigAt := x.written, trigEpoch := epoch, trigSource := c, trigPending := [] }
      | none => y
    note y
  else if x.state = 2 ∧ x.written < x.trigAt + 8192 - x.pre then note (x.push e)
  else x

/-- Is an evaluation of channel `ch` recorded by its cluster's decimation (R236)? The cluster counts it. -/
def Cluster.selects (x : Cluster) (ch : Nat) : Cluster × Bool :=
  if !bit x.channels (ch % 32) then (x, false)
  else if x.mode = 0 then (x, true)
  else
    let n := Tab.get 0 x.evalCount (ch % 32) + 1
    if x.decim ≤ n then ({ x with evalCount := Tab.set 0 x.evalCount (ch % 32) 0 }, true)
    else ({ x with evalCount := Tab.set 0 x.evalCount (ch % 32) n }, false)

/-- Does an entry lie on a channel of output `k`? (DEDUCED, log 75) -/
def State.entryOf (s : State) (k : Nat) (e : TraceEntry) : Bool := (s.phases k).contains (e.channel % 128)

/-- An entry of a capsule's output, written after its event (R241); at most 1,024 are kept. -/
def Capsule.push (p : Capsule) (e : TraceEntry) : Capsule :=
  let full := decide (1024 ≤ p.entries.length)
  { p with
    entries := (if full then p.entries.drop 1 else p.entries) ++ [e], preCount := if full then p.preCount - 1 else p.preCount
    postLeft := p.postLeft - 1, frozen := decide (p.postLeft ≤ 1) }

/-- A cluster's capsules go through `f`; one that is frozen puts the cluster in state 4 (R241). -/
def Cluster.mapCapsules (x : Cluster) (f : Capsule → Capsule) : Cluster :=
  let l := x.capsuleQueue.map f
  let fresh := l.any (·.frozen) && !x.capsuleQueue.any (·.frozen)
  { x with capsuleQueue := l, state := if fresh then 4 else x.state }

/-- A written entry's words read correctly again: it is written whole (R493). -/
def State.entryStored (s : State) (c slot : Nat) : State :=
  s.setEcc (209 + c) fun e => { e with bad := e.bad.filter fun b => decide (b.1 / 8 ≠ slot) }

/-- An evaluation of channel `ch` offers its entry to the trace of its cluster (R235), and to the capsules being collected. -/
def State.traceWrite (s : State) (ch : Nat) (e : TraceEntry) : State :=
  let c := quadrant ch
  let r := (s.clusterAt c).selects ch
  let s := s.setCluster c fun _ => r.1
  if r.2 then
    let before := (s.clusterAt c).written
    let s := s.setCluster c fun x => x.write e s.clocks.epoch
    if before < (s.clusterAt c).written then
      (s.entryStored c (before % 8192)).setCluster c fun x =>
        x.mapCapsules fun p => if !p.frozen && s.entryOf p.output e then p.push e else p
    else s
  else s

/-! ### Capsules -/

/-- A capsule event on a channel (R241): a capsule begins with the ring's entries of its output, or is missed in states 2 and 4. The
quadrant count at the event is not held by the model: a free value. (DEDUCED, log 75) -/
def State.capsuleEvent (s : State) (ch ev : Nat) : State :=
  let c := quadrant ch
  let x := s.clusterAt c
  match s.outputOf ch with
  | none => s
  | some k =>
    if !x.capEnable || !bit x.capEvents ev then s
    else if x.state = 2 ∨ x.state = 4 then s.setCluster c fun x => { x with missed := x.missed + 1 }
    else
      let mine := x.ring.filter (s.entryOf k)
      let kept := mine.drop (mine.length - 1024)
      let p : Capsule :=
        { number := s.retained.capsuleNo, event := ev, output := k, mode := x.mode, decim := x.decim, postLeft := x.capPost
          epoch := s.clocks.epoch, tstamp := s.fresh .unstated 0 % 2 ^ 32, missed := x.missed, entries := kept
          preCount := kept.length }
      let s := s.used
      let s := (s.setCluster c fun x => { x with capsuleQueue := x.capsuleQueue ++ [p], capsules := x.capsules + 1 }).signalTrigger
        c 9 (some ch)
      let s := { s with retained := { s.retained with capsuleNo := (s.retained.capsuleNo + 1) % 2 ^ 32 } }
      if x.capPost = 0 then s.setCluster c fun x => x.mapCapsules fun o => { o with frozen := o.frozen || decide (o.number = p.number) }
      else s

/-- A channel fault: the collector's event with its DATA, and the capsule it may start (R241, R474). -/
def State.chanFault (s : State) (ch event code : Nat) (cap : Option Nat) : State :=
  let s := s.raiseChan ch event code
  match cap with
  | some b => s.capsuleEvent ch b
  | none => s

/-- Bytes of a capsule's entries. -/
def Capsule.data (p : Capsule) : Bytes := (p.entries.map TraceEntry.bytes).flatten

/-- Fragments of a capsule (R242). -/
def Capsule.fragments (p : Capsule) : Nat := cdiv (32 * p.entries.length) 40

/-- A capsule head payload (Table 9-9). -/
def Capsule.head (p : Capsule) (c : Nat) : Bytes :=
  leBytes 4 p.number ++ [byte c, byte p.event, byte p.output, byte p.mode] ++ leBytes 2 p.decim
    ++ leBytes 2 p.entries.length ++ leBytes 2 p.preCount ++ leBytes 2 p.fragments ++ leBytes 4 p.epoch
    ++ leBytes 4 p.tstamp ++ leBytes 4 (crc32c p.data) ++ leBytes 2 p.missed ++ zeros 14

/-- A capsule fragment payload (R242). -/
def Capsule.fragment (p : Capsule) (i : Nat) : Bytes :=
  leBytes 2 p.number ++ leBytes 2 i ++ slice p.data (40 * i) 40

/-- The capsule of a cluster that the mover would stage next: its first frozen one. -/
def Cluster.nextCapsule (x : Cluster) : Option Capsule := x.capsuleQueue.find? (·.frozen)

/-- Is cluster `c` the one the mover serves: a frozen capsule, begun before every other waiting one, or under way (R242)? -/
def State.moverServes (s : State) (c : Nat) : Bool :=
  match (s.clusterAt c).nextCapsule with
  | none => false
  | some p =>
    (upto 4).all fun d =>
      d = c || (match (s.clusterAt d).nextCapsule with
        | none => true
        | some o => p.headStaged || (!o.headStaged && decide (p.number < o.number)))

/-- The last fragment of a capsule is staged: the cluster leaves state 4 where no other frozen one waits (R237). -/
def Cluster.capsuleDone (x : Cluster) (number : Nat) : Cluster :=
  let l := x.capsuleQueue.filter fun o => decide (o.number ≠ number)
  { x with capsuleQueue := l, state := if x.state = 4 ∧ l.any (·.frozen) = false then 3 else x.state }

/-- A capsule of a cluster goes through `f`. -/
def Cluster.setCapsule (x : Cluster) (number : Nat) (f : Capsule → Capsule) : Cluster :=
  { x with capsuleQueue := x.capsuleQueue.map fun o => if o.number = number then f o else o }

/-- CAPSULE_STAGE (R242, R243): the next head or fragment record. -/
def State.stageCapsule (s : State) (c : Nat) : State :=
  if s.moverServes c && s.log.admits && decide (s.log.unflushed < 32) && s.mode.firmware && s.mode ≠ .lastGasp then
    match (s.clusterAt c).nextCapsule with
    | none => s
    | some p =>
      let frame (cls : Nat) (d : Bytes) : LogOffer :=
        { cls := cls, source := 2, event := none, items := d, flags := 0, use := .plain }
      if !p.headStaged then
        let seq := s.log.next
        let s := s.stage (frame 0x0D (p.head c))
        let s := s.setCluster c fun x => x.setCapsule p.number fun o => { o with headStaged := true }
        let s := { s with log := { s.log with capsules := (seq, p.number, c, p.event, 0) :: s.log.capsules } }
        (if p.fragments = 0 then s.setCluster c fun x => x.capsuleDone p.number else s).startBurst
      else
        let s := s.stage (frame 0x0E (p.fragment p.nextFragment))
        if p.nextFragment + 1 < p.fragments then
          (s.setCluster c fun x => x.setCapsule p.number fun o => { o with nextFragment := o.nextFragment + 1 }).startBurst
        else
          let s := s.setCluster c fun x => x.capsuleDone p.number
          ({ s with log := { s.log with capsules := s.log.capsules.map fun (e : Nat × Nat × Nat × Nat × Nat) =>
              if e.2.1 = p.number then (e.1, e.2.1, e.2.2.1, e.2.2.2.1, 1) else e } }).startBurst
  else s

/-! ### Commands -/

/-- CAPTURE_FROZEN (R237). -/
def execCaptureFrozen (cl : Nat) (s : State) : Host.Outcome State Fault Refusal :=
  .next (s.setCluster cl fun x => if x.state = 2 ∧ x.trigAt + 8192 - x.pre ≤ x.written then { x with state := 3 } else x)

/-- CROSS_TRIGGER (R238): the trigger of cluster `src` reaches `cl`. -/
def execCrossTrigger (cl src : Nat) (s : State) : Host.Outcome State Fault Refusal :=
  .next (if (s.clusterAt src).triggered && bit (s.clusterAt src).xout cl then s.signalTrigger cl 8 none else s)

/-- HOLD_S_EXPIRY (R237, R240). -/
def execHoldSExpiry (cl : Nat) (s : State) : Host.Outcome State Fault Refusal :=
  .next (if (s.clusterAt cl).state = 3 then s.defaultCapture cl else s)

/-- CAPSULE_PENDING (R241): POST entries have been written since an event, or 50 µs have passed: the oldest capsule that is still
collected is frozen. -/
def execCapsulePending (cl : Nat) (s : State) : Host.Outcome State Fault Refusal :=
  .next (match (s.clusterAt cl).capsuleQueue.find? fun p => !p.frozen with
    | some p => s.setCluster cl fun x => x.mapCapsules fun o => { o with frozen := o.frozen || decide (o.number = p.number) }
    | none => s)

/-- CAPSULE_STAGE (R242). -/
def execCapsuleStage (cl : Nat) (s : State) : Host.Outcome State Fault Refusal := .next (s.stageCapsule cl)

/-- Are the limits of R236 and Table 9-11 met by a TRACE.SETUP of MODE 0 or 1? -/
def State.setupOk (s : State) (q : Req) : Bool :=
  let mode := q.u 1 1
  let m := q.u 4 4
  let n := (mapList 32 m).length
  let d := q.u 2 2
  (if mode = 0 then decide (1 ≤ n) && decide (n ≤ 4)
    else decide (1 ≤ n) && [2, 4, 8, 16, 32, 64, 128, 256, 512, 1024, 2048, 4096].contains d
      && traceRateOk (s.mapIntervals (q.u 0 1) m) d)
    && decide (q.u 8 2 ≤ 8191) && decide (q.u 10 1 ≤ 7) && decide (q.u 11 1 ≤ 1) && decide (q.u 12 2 < 1024)
    && decide (q.u 14 1 ≤ 31) && decide (q.u 15 1 ≤ 15) && decide (q.u 20 2 ≤ 3600)

/-- TRACE.SETUP (R236, R237, R240, Table 9-11). (DEDUCED, log 14) -/
def execTraceSetup (mb : Nat) (s : State) : Host.Outcome State Fault Refusal :=
  .next (s.runOrder 0x0501 mb fun q s =>
    let c := q.u 0 1
    if (s.clusterAt c).state = 4 ∧ c < 4 then s.refuse q .busy
    else if !q.lay 24 [(22, 2)] || 3 < c || 2 < q.u 1 1 then s.refuse q .badArg
    else if q.u 1 1 = 2 then (s.defaultCapture c).reply q .ok []
    else if !s.setupOk q then s.refuse q .badArg
    else
      (s.setCluster c fun x =>
        { x with
          state := 0, mode := q.u 1 1, decim := q.u 2 2, channels := q.u 4 4, pre := q.u 8 2, trigNode := q.u 10 1
          trigEdge := q.u 11 1, trigMask := q.u 12 2, trigChannel := q.u 14 1, xout := q.u 15 1
          trigLevel := ofU 32 (q.u 16 4), holdS := if q.u 20 2 = 0 then 10 else q.u 20 2, host := true
          trigPending := [] }).reply q .ok [])

/-- TRACE.ARM (R237, Table 9-11). -/
def execTraceArm (mb : Nat) (s : State) : Host.Outcome State Fault Refusal :=
  .next (s.runOrder 0x0502 mb fun q s =>
    let c := q.u 0 1
    if (s.clusterAt c).state = 4 ∧ c < 4 then s.refuse q .busy
    else if !q.lay 4 [(1, 3)] || 3 < c then s.refuse q .badArg
    else
      let s := s.setCluster c fun x =>
        { x with
          state := 1, ring := [], written := 0, triggered := false, trigPending := [], lastNode := none, evalCount := []
          captureId := (x.captureId + 1) % 2 ^ 32 }
      s.reply q .ok (leBytes 4 (s.clusterAt c).captureId))

/-- TRACE.TRIGGER (R238, Table 9-11). -/
def execTraceTrigger (mb : Nat) (s : State) : Host.Outcome State Fault Refusal :=
  .next (s.runOrder 0x0503 mb fun q s =>
    let l := mapList 4 (q.u 0 1)
    if l.any fun c => (s.clusterAt c).state = 4 then s.refuse q .busy
    else if !q.lay 4 [(1, 3)] || 15 < q.u 0 1 then s.refuse q .badArg
    else (s.each l fun s c => s.signalTrigger c 0 none).reply q .ok [])

/-- TRACE.STATUS (Table 9-11). -/
def execTraceStatus (mb : Nat) (s : State) : Host.Outcome State Fault Refusal :=
  .next (s.runOrder 0x0504 mb fun q s =>
    if !q.lay 0 [] then s.refuse q .badArg
    else s.reply q .ok ((upto 4).map fun c =>
      let x := s.clusterAt c
      [byte x.state, byte x.mode] ++ leBytes 2 x.decim ++ leBytes 4 x.channels ++ leBytes 4 x.captureId
        ++ leBytes 2 x.capsules ++ leBytes 2 x.missed).flatten)

/-- Does entry `i` of a cluster's ring hold an uncorrectable word (R239)? -/
def State.entryBad (s : State) (c i : Nat) : Bool :=
  let x := s.clusterAt c
  let slot := (x.written - x.ring.length + i) % 8192
  (countFrom 8 (8 * slot)).any (s.wordBad (209 + c))

/-- The first uncorrectable word of `n` entries from entry `i` of a cluster's ring. -/
def State.badEntryWord (s : State) (c i n : Nat) : Nat :=
  let x := s.clusterAt c
  let word (k : Nat) : Nat := 8 * ((x.written - x.ring.length + i + k / 8) % 8192) + k % 8
  word ((firstN (fun k => s.wordBad (209 + c) (word k)) (upto (8 * n))).getD 0)

/-- TRACE.READ (R239, Table 9-11). -/
def execTraceRead (mb : Nat) (s : State) : Host.Outcome State Fault Refusal :=
  .next (s.runOrder 0x0505 mb fun q s =>
    let c := q.u 0 1
    let x := s.clusterAt c
    let start := q.u 2 2
    let n := q.u 4 1
    if !q.lay 8 [(1, 1), (5, 3)] || 3 < c || n = 0 || 15 < n then s.refuse q .badArg
    else if !x.initialised then s.refuse q .notInitialised
    else if x.state = 1 ∨ x.state = 2 then s.refuse q .notYet
    else if x.ring.length < start + n then s.refuse q .badArg
    else
      let first := x.written - x.ring.length
      let index := if x.triggered ∧ first ≤ x.trigAt ∧ x.trigAt < x.written then x.trigAt - first else 0xFFFF
      let rows := (countFrom n start).map fun i => if s.entryBad c i then zeros 32 else (x.ring.getD i {}).bytes
      let bad := (countFrom n start).any (s.entryBad c)
      let head := leBytes 2 index ++ leBytes 2 x.ring.length ++ leBytes 4 x.captureId
        ++ leBytes 4 (if x.triggered then x.trigEpoch else 0) ++ leBytes 2 (if x.triggered then x.trigSource else 0) ++ [0, 0]
      let s := if bad then s.eccEvent (209 + c) 4 (s.badEntryWord c start n) 0 else s
      s.reply q (if bad then .uncorrectable else .ok) (head ++ rows.flatten))

/-- TRACE.CAPSULE (R244, Table 9-11). -/
def execTraceCapsule (mb : Nat) (s : State) : Host.Outcome State Fault Refusal :=
  .next (s.runOrder 0x0506 mb fun q s =>
    let c := q.u 0 1
    if !q.lay 8 [(6, 2)] || (3 < c && c ≠ 255) || 1 < q.u 1 1 || 1023 < q.u 2 2 || 127 < q.u 4 2 then s.refuse q .badArg
    else
      let l := if c = 255 then upto 4 else [c]
      (s.each l fun s c => s.setCluster c fun x =>
        { x with capEnable := q.u 1 1 = 1, capPost := q.u 2 2, capEvents := q.u 4 2 }).reply q .ok [])

end Sys2Proof.Machine
end

