-- ==== Sys2Proof/Machine/FaultRows.lean ====
section
/-! DEFINITION. Meanings of the fault and memory commands (chapters 3 and 18): events, releases of block resets, the
scrubber, the merge buffers, the heartbeat, and the orders of group 0x0D. -/
namespace Sys2Proof.Machine

/-! ### Events -/

/-- Capsule event of a channel event, where it has one (Table 9-10, Table 18-3). -/
def capsuleBit (event : Nat) : Option Nat :=
  match event with
  | 1 => some 1
  | 2 => some 0
  | 5 => some 2
  | 6 => some 3
  | _ => none

/-- An uncorrectable coefficient word forces off the output whose channel it serves, with LAST_STOP 7 (R493). -/
def State.coefficientBad (s : State) (ch : Nat) : State :=
  match s.outputOf ch with
  | some k =>
    let s := s.each (s.phases k) fun s c => s.setChan c fun x => { x with bankBad := true }
    if s.token then s.phaseForced k else s
  | none => s

/-- What the block that raises an event does beside raising it: fixed behaviours of Tables 18-3, 18-5 and 18-9. (PRESUMED, log 73) -/
def State.eventEffect (s : State) (src event : Nat) (data : Bytes) : State :=
  if src < 128 then
    let s := match capsuleBit event with | some b => s.capsuleEvent src b | none => s
    if event = 11 then s.coefficientBad src else s
  else if 200 ≤ src ∧ src < 224 then
    let s := s.setEcc src fun e => e.count event
    if src = 218 ∧ event = 4 then ({ s with scan := { s.scan with mapBad := true } }).begin_ 309 1 [] else s
  else if src = 284 then
    { s with boot := { s.boot with selfTestFail := s.boot.selfTestFail ||| fld data 0 1 % 16 } }
  else if src = 285 then { s with boot := { s.boot with rngFail := true } }
  else s

/-- The source that raises: an uncorrectable coefficient word is an event of the lead's channel (R493). -/
def State.raisingSource (s : State) (src event : Nat) : Nat :=
  if src < 128 ∧ event = 11 then (match s.outputOf src with | some k => s.lead k | none => src) else src

/-- FAULT_EVENT (R478 to R480): a block raises an event of a source. (DEDUCED, log 26) -/
def execFaultEvent (source event : Nat) (data : Bytes) (s : State) : Host.Outcome State Fault Refusal :=
  .next (if s.mode.firmware && source < 320 && !reservedSource source then
    (s.eventEffect source event data).raise (s.raisingSource source event) event data else s)

/-! ### Block resets, heartbeat -/

/-- The PLL of a block: L0 to L3, T0 to T3, N and G are bits 2 to 11 of the PLL map. -/
def pllOf (b : Nat) : Option Nat := if b < 8 then some (2 + b) else if b = 9 then some 11 else if b = 10 then some 10 else none

/-- A block resumes after a reset that held it for `us` microseconds (Table 3-5): its PLL is in lock again, and the gauge adds
the gap to each string's uncounted time. -/
def State.blockResume (s : State) (b us : Nat) : State :=
  let s := { s with
    hold := { s.hold with held := setBit s.hold.held b false }
    clocks := { s.clocks with pllLost := match pllOf b with
      | some p => setBit s.clocks.pllLost p false
      | none => s.clocks.pllLost } }
  if b < 4 then (if (s.clusterAt b).initialised then s.defaultCapture b else s)
  else if b < 8 then s.setCluster (b - 4) fun c => { c with calibrating := false }
  else if b = 9 then
    s.each ((upto 32).filter fun k => s.strEnable k = 1) fun s k => s.setString k fun x => { x with uncounted := x.uncounted + us }
  else if b = 14 then s.startBurst
  else s

/-- BLOCK_RESET_RELEASE (R77): the hold of a block reset ends after `heldUs` microseconds. For a quadrant analog it is also the
end of the calibration after its power-up (R168). -/
def execBlockResetRelease (block : Nat) (s : State) (heldUs : Nat := 0) : Host.Outcome State Fault Refusal :=
  .next (if s.held block || (4 ≤ block && block < 8 && (s.clusterAt (block - 4)).calibrating) then
    (s.blockResume block heldUs).settle else s)

/-- WARDEN_HEARTBEAT_MISSED (R489); not raised for a halt in Service (R566). -/
def execWardenHeartbeatMissed (s : State) : Host.Outcome State Fault Refusal :=
  .next (if s.mode.firmware && !(s.anyHalted && s.mode = .service) then
    ({ s with faults := { s.faults with heartbeatMissed := 3 }, power := { s.power with alive := false } }).raise 299 1 []
    else s)

/-! ### Scrubber and merge buffers -/

/-- Words of an ECC instance (Table 18-9). (PRESUMED, log 73) -/
def eccWords (inst : Nat) : Nat :=
  if inst = 200 then 524288
  else
    256 * [0, 16, 256, 576, 256, 64, 64, 64, 64, 256, 256, 256, 256, 512, 128, 128, 64, 16, 16, 64, 8, 64, 16, 8].getD
      (inst - 200) 1

/-- The domain that powers an instance, where the spec names it (R435, R490; Table 2-3). (PRESUMED, log 73) -/
def eccDomain (inst : Nat) : Option Nat :=
  match inst with
  | 203 => some 3 | 205 => some 4 | 206 => some 5 | 207 => some 6 | 208 => some 7 | 209 => some 4 | 210 => some 5
  | 211 => some 6 | 212 => some 7 | 213 => some 14 | 214 => some 17 | 215 => some 15 | 216 => some 16 | 218 => some 12
  | 219 => some 14 | 220 => some 20 | 223 => some 18
  | _ => none

/-- May the scrubber read an instance: its domain is on, and its initialised flag set where the firmware image initialises it
(R498)? -/
def State.eccReady (s : State) (inst : Nat) : Bool :=
  if (eccDomain inst).any fun d => !s.domain d then false
  else if 205 ≤ inst ∧ inst ≤ 212 then (s.clusterAt ((inst - 205) % 4)).initialised
  else if inst = 213 then s.tide.packetInit
  else true

/-- The scrubber's place moves on by one word; a whole pass is counted and its corrected words kept (R491). -/
def EccCounters.advance (e : EccCounters) (words : Nat) : EccCounters :=
  if e.scrub + 1 < words then { e with scrub := e.scrub + 1 }
  else { e with scrub := 0, passes := (e.passes + 1) % 2 ^ 32, lastPass := e.thisPass, thisPass := [] }

/-- The patrol read of one word of an instance (R491). Column 0 is held as 1 in the pass tables. (PRESUMED, log 73) -/
def State.scrubWord (s : State) (inst : Nat) (o : ScrubOutcome) : State :=
  let w := (s.eccAt inst).scrub
  let s := s.mergeFlush fun e => decide (e.inst = inst ∧ e.word = w)
  match o with
  | .clean => s
  | .corrected col =>
    let again := decide (Tab.get 0 (s.eccAt inst).lastPass w = col + 1)
    let s := s.setEcc inst fun e => { e with thisPass := Tab.set 0 e.thisPass w (col + 1) }
    let s := s.eccEvent inst 1 w col
    if again then s.eccEvent inst 2 w col else s
  | .uncorrectable => (s.setBad inst w true).eccEvent inst 4 w 0

/-- One patrol step of an instance: unwritten user-RAM words and uninitialised instances are skipped (R491). -/
def State.scrubInst (s : State) (results : List ScrubResult) (inst : Nat) : State :=
  if !s.eccReady inst then s
  else
    let o := match results.find? (fun r => decide (r.inst = inst)) with | some r => r.outcome | none => .clean
    let skip := inst = instUser && Tab.get 0 s.host.userWritten (s.eccAt inst).scrub ≠ 15
    let s := if skip then s else s.scrubWord inst o
    s.setEcc inst fun e => e.advance (eccWords inst)

/-- SCRUB_TICK (R491). -/
def execScrubTick (results : List ScrubResult) (s : State) : Host.Outcome State Fault Refusal :=
  .next (if s.mode.firmware then s.each (countFrom 24 200) fun s i => s.scrubInst results i else s)

/-- MERGE_COMMIT (R492). (DEDUCED, log 17) -/
def execMergeCommit (inst word : Nat) (s : State) : Host.Outcome State Fault Refusal :=
  .next (s.mergeFlush fun e => decide (e.inst = inst ∧ e.word = word))

/-! ### Orders of group 0x0D -/

/-- FAULT.STATUS (R500). -/
def execFaultStatus (mb : Nat) (s : State) : Host.Outcome State Fault Refusal :=
  .next (s.runOrder 0x0D01 mb fun q s =>
    if !q.lay 0 [] then s.refuse q .badArg
    else s.replyAt q .ok ((upto 10).map fun i => leBytes 4 (s.faultWord (4 * i))).flatten s.faults.win.epoch)

/-- FAULT.READ (R500). -/
def execFaultRead (mb : Nat) (s : State) : Host.Outcome State Fault Refusal :=
  .next (s.runOrder 0x0D02 mb fun q s =>
    let first := q.u 0 2
    let n := q.u 2 1
    let w := s.faults.win
    if !q.lay 4 [(3, 1)] || 319 < first || n = 0 || 30 < n || 320 < first + n then s.refuse q .badArg
    else s.replyAt q .ok (leBytes 4 w.epoch ++ ((countFrom n first).map fun i =>
      sourceRecord (Tab.get {} w.src i) (Tab.get false w.aliveHold i) (Tab.get (minClassReset i) w.minCls i)
        (Tab.get (reactionsReset i) w.react i)).flatten) w.epoch)

/-- Is the condition of a source present (R487): its lasting condition, or FLT_N low on a channel? -/
def State.conditionPresent (s : State) (src : Nat) : Bool :=
  (s.srcAt src).present || (decide (src < 128) && (s.chanAt src).flt)

/-- FAULT.ACK (R487). -/
def execFaultAck (mb : Nat) (s : State) : Host.Outcome State Fault Refusal :=
  .next (s.runOrder 0x0D03 mb fun q s =>
    if !q.lay 40 [] then s.refuse q .badArg
    else
      let named := mapList 320 (q.u 0 40)
      let s := s.each named fun s n =>
        if s.conditionPresent n then s else s.setSrc n fun x => { x with pending := false, holdsAlive := false }
      s.reply q .ok (leBytes 40 (listMap (named.filter fun n => (s.srcAt n).pending))))

/-- FAULT.ECC (R500). -/
def execFaultEcc (mb : Nat) (s : State) : Host.Outcome State Fault Refusal :=
  .next (s.runOrder 0x0D04 mb fun q s =>
    if !q.lay 4 [(1, 3)] || 23 < q.u 0 1 then s.refuse q .badArg
    else
      let e := s.eccAt (200 + q.u 0 1)
      s.reply q .ok (leBytes 4 e.corrected ++ leBytes 4 e.uncorrectable ++ leBytes 4 e.poisoned ++ leBytes 4 e.persistent
        ++ leBytes 4 e.uninitialised ++ leBytes 4 e.passes ++ [byte e.rowsUsed, byte e.colsUsed] ++ leBytes 2 e.lastBank
        ++ leBytes 2 e.lastRow ++ [0, 0]))

/-- The counters of an instance zeroed; repair use, place and words stay (R500). -/
def EccCounters.clear (e : EccCounters) : EccCounters :=
  { e with corrected := 0, uncorrectable := 0, poisoned := 0, persistent := 0, uninitialised := 0, passes := 0 }

/-- FAULT.CLEARCOUNT (R500). -/
def execFaultClearcount (mb : Nat) (s : State) : Host.Outcome State Fault Refusal :=
  .next (s.runOrder 0x0D05 mb fun q s =>
    if !q.lay 40 [] then s.refuse q .badArg
    else
      (s.each (mapList 320 (q.u 0 40)) fun s n =>
        let s := s.setSrc n fun x => { x with count := 0 }
        if 200 ≤ n ∧ n < 224 then s.setEcc n EccCounters.clear else s).reply q .ok [])

end Sys2Proof.Machine
end

