-- ==== Sys2Proof/Machine/Shutdown.lean ====
section
/-! DEFINITION. Retention words (R49), the orderly shutdown of R37 as it goes on, and push datagrams (R554, R555). -/
namespace Sys2Proof.Machine

/-! ### Retention words (Tables 2-7, 2-8) -/

/-- Retention words 0 to 6. -/
def Retention.words (r : Retention) : List Nat :=
  [r.code * 2 ^ 24 + r.attempts * 2 ^ 20 + r.fromMode * 2 ^ 16 + r.source * 2 ^ 8 + 2 * b2n r.prior + b2n r.stranded,
   r.firstFailS, r.lastFailNs % 2 ^ 32, r.lastFailNs / 2 ^ 32 % 2 ^ 32, r.attemptCodes,
   r.pwrenState * 2 ^ 12 + r.pgState * 2 ^ 8, r.strandedCount * 2 ^ 16]

/-- Word 7 recomputed after a change of words 0 to 6 (R49). -/
def Retention.sealed (r : Retention) : Retention := { r with crc := crc32c (r.words.map (leBytes 4)).flatten }

/-- The 32 bytes of the retention words. -/
def Retention.bytes (r : Retention) : Bytes := (r.words.map (leBytes 4)).flatten ++ leBytes 4 r.crc

/-! ### Orderly shutdown -/

/-- Response payload of MODE.SET (R509). -/
def modePayload (m : Mode) : Bytes := [byte m.code, 0, 0, 0]

/-- The shutdown goes on (R37): once every output it drives is off the checkpoint and the record of entry are written and the order
is answered; once the logbook is flushed the domains are powered down. A halted warden does none of it (R21). -/
def State.advanceShutdown (s : State) : State :=
  match s.power.shutdown with
  | none => s
  | some d =>
    if s.anyHalted then s
    else if !d.recorded then
      if s.token && s.enabledOuts.any fun k => (s.outAt k).driven then s
      else
        let s := (s.checkpoint 2).record 0x06 5 [byte d.target.code, 0]
        let s := { s with power := { s.power with shutdown := some { d with recorded := true } } }
        match d.mailbox with
        | some mb => s.finish mb .ok (modePayload d.target)
        | none => s
    else if s.log.drained then s.sleep d.target
    else s

/-! ### Pushes -/

/-- One push datagram of a session (Table 21-1, R555): its counter goes up, sent or not. (DEDUCED, log 30) -/
def State.push (s : State) (session : Nat) (body : Bytes) : State :=
  let n := Tab.get 0 s.eth.pushCounter session + 1
  let s := { s with eth := { s.eth with pushCounter := Tab.set 0 s.eth.pushCounter session n } }
  s.sendEth (Tab.get 0 s.eth.peerPort session) (datagram 4 session n body (some (s.sesAt session).key))

/-- Records a logbook subscription of `classes` pushes, from SEQ `first` to HEAD: SEQ and record. -/
def Logbook.pushable (l : Logbook) (first classes : Nat) : List LogRec :=
  ((countFrom (l.head + 1 - first) first).map l.view).filterMap fun (x : LogSlot) =>
    if x.status = 0 ∧ bit classes x.entry.cls = true then some x.entry else none

/-- Lists of up to seven. -/
def sevens {α : Type} : Nat → List α → List (List α)
  | 0, _ => []
  | _ + 1, [] => []
  | n + 1, l => l.take 7 :: sevens n (l.drop 7)

/-- The pushes of one logbook subscription (R471): records that became GONE are counted, the others pushed. -/
def State.pushLog (s : State) (x : Subscription) : State :=
  let lost := s.log.oldest - x.next
  let from_ := max x.next s.log.oldest
  let gone := (x.gone + lost) % 2 ^ 32
  let recs := s.log.pushable from_ x.classes
  let s := (sevens (recs.length + 1) recs).foldl (fun s l =>
    s.push x.session ([byte x.id, byte l.length, 0, 0] ++ leBytes 4 gone ++ (l.map LogRec.bytes).flatten)) s
  { s with log := { s.log with subs := s.log.subs.map fun y =>
      if y.id = x.id then { y with next := max from_ (s.log.head + 1), gone := gone } else y } }

/-- The pushes of every logbook subscription. -/
def State.pushLogs (s : State) : State := (s.log.subs.filter (·.log)).foldl State.pushLog s

/-- Give a session a subscription: none at the limits of R441, else the state and its number. -/
def State.subscribe (s : State) (x : Subscription) : Option (State × Nat) :=
  if 8 ≤ s.log.subs.length ∨ 4 ≤ (s.log.subs.filter fun y => decide (y.session = x.session)).length then none
  else
    let id := (firstN (fun i => s.log.subs.all fun y => decide (y.id ≠ i)) (countFrom 16 1)).getD 0
    some ({ s with log := { s.log with subs := s.log.subs ++ [{ x with id := id }] } }, id)

/-- End a subscription of a session; none where the session has none of that number and kind. -/
def State.unsubscribe (s : State) (session id : Nat) (log : Bool) : Option State :=
  let mine (y : Subscription) : Bool := y.id = id && y.session = session && y.log = log
  if s.log.subs.any mine then some { s with log := { s.log with subs := s.log.subs.filter fun y => !mine y } } else none

end Sys2Proof.Machine
end

