-- ==== Sys2Proof/Machine/Power.lean ====
section
/-! DEFINITION. The always-on controller (chapters 2 and 3): wake events and attempts, the retention words, Stranded, and
the supply monitors' domains. -/
namespace Sys2Proof.Machine

/-! ### Wake series -/

/-- Modes a wake series starts from. -/
def Mode.asleep : Mode → Bool
  | .keep | .gaugeWatch | .stranded => true
  | _ => false

/-- The retention words change, and word 7 with them (R49). -/
def State.setRet (s : State) (f : Retention → Retention) : State :=
  { s with power := { s.power with ret := (f s.power.ret).sealed } }

/-- The wake controller goes through `f`. -/
def State.setWake (s : State) (f : Wake → Wake) : State := { s with power := { s.power with wake := f s.power.wake } }

/-- Step 1 of an attempt: PWREN_CORE and the crystal (R46). -/
def State.beginAttempt (s : State) : State :=
  let s := s.setWake fun w => { w with phase := .waitPg 0, crystalOn := true, crystalReady := false }
  { s with power := { s.power with pwren := 1, pg := 0 } }

/-- A wake series starts with its first attempt (R49). -/
def State.beginSeries (s : State) (kind : SeriesKind) (source fromMode : Nat) : State :=
  let s := s.setRet fun r =>
    { r with attempts := 1, fromMode := fromMode, source := source, attemptCodes := 0, prior := decide (r.code ≠ 0) }
  let s := s.setWake fun w => { w with kind := kind, pending := none, pendingReady := false, wakeIgnored := false }
  s.beginAttempt

/-- Is an attempt, or the spacing after one, in progress? -/
def Wake.active (w : Wake) : Bool := match w.phase with | .idle => false | _ => true

/-- A wake event of source `bit` (R45, R47, R76): WAKE_ENABLE governs it but for WAKE_N, PB_N and TW0 in Stranded; it is
ignored in an attempt, in a spacing, while a reset's series is pending and while RESET_N is low. (DEDUCED, log 72) -/
def State.wakeEvent (s : State) (b : Nat) : State :=
  let strandedOk := decide (b < 3) || (decide (b = 4) && bit s.retained.wakeEnable 4)
  let ok := if s.mode = .stranded then strandedOk else bit s.retained.wakeEnable b
  if s.mode.asleep && ok && !s.power.wake.active && s.power.wake.pending.isNone && s.power.resetN then
    s.beginSeries .wake (2 ^ b) s.modeCode
  else s

/-- SOURCE bits of a series that waits (R49, R59, R75): an ordinary one keeps those it had. -/
def State.pendingSource (s : State) (k : SeriesKind) : Nat :=
  match k with
  | .wake => s.power.ret.source
  | .chipReset => 2 ^ 6
  | .lastGaspRestart => 2 ^ 4

/-- A pending series starts once nothing holds it: RESET_N, INUV for a reset's or a restart's (R58, R75, R76). -/
def State.startPending (s : State) : State :=
  let w := s.power.wake
  match w.pending with
  | none => s
  | some k =>
    if s.mode.asleep && !s.dbg.scanHold && w.pendingReady && s.power.resetN && (decide (k = .wake) || !s.power.inuvTripped) then
      s.beginSeries k (s.pendingSource k) w.pendingFrom
    else s

/-- The enables fall, what they fed goes off, and the crystal stops (R43; R47, steps 1 and 2). -/
def State.dropEnables (s : State) : State :=
  let s := s.setWake fun w => { w with crystalOn := false, crystalReady := false }
  ({ s with power := { s.power with pwren := 0, pg := 0, bankMeasured := false } }).powerDomains
    (domainMap (if s.power.mode = Mode.gaugeWatch then [1, 13] else [1]))

/-- A failure recorded in the retention words (R49): the first of a series overwrites the details of an earlier one. -/
def State.noteFailure (s : State) (code : Nat) (attempt : Bool) : State :=
  let rtc := s.retained.rtcNs
  s.setRet fun r =>
    let first := decide (r.attemptCodes = 0)
    { r with
      code := code, lastFailNs := rtc, pwrenState := s.power.pwren, pgState := s.power.pg
      firstFailS := if first then rtc / 1000000000 % 2 ^ 32 else r.firstFailS
      prior := if first then false else r.prior
      attemptCodes := if attempt then setBits r.attemptCodes (8 * r.attempts - 1) (8 * r.attempts - 8) code else r.attemptCodes }

/-- The chip enters Stranded (R47, R48); one that begins a series there and fails it again enters it once more for STRANDED_COUNT
(DESIGN CHOICE, log 91) -/
def State.strand (s : State) : State :=
  let s := s.setRet fun r => { r with stranded := true, strandedCount := min 0xFFFF (r.strandedCount + 1) }
  let s := s.sleep .stranded
  s.setWake fun w => { w with phase := .idle, pending := none, pendingReady := false }

/-- A wake attempt fails with a CODE (R47): spacing, or Stranded after the fourth. -/
def State.failAttempt (s : State) (code : Nat) : State :=
  let s := (s.noteFailure code true).dropEnables
  if 4 ≤ s.power.ret.attempts then s.strand else s.setWake fun w => { w with phase := .spacing }

/-- A series ends without counting its attempt as a failure (R58, R76); it may be pending anew. -/
def State.endAttempt (s : State) (again : Bool) : State :=
  let k := s.power.wake.kind
  let s := s.dropEnables
  s.setWake fun w =>
    { w with phase := .idle, pending := if again then some k else none, pendingFrom := s.power.ret.fromMode, pendingReady := again }

/-- Every PG is good and the crystal ready: the domains are switched next (R46, step 7). -/
def State.afterPg (s : State) : State :=
  s.setWake fun w => { w with phase := if w.crystalReady then .switching else .waitCrystal }

/-- Boot ends in Stranded with a CODE (R103, R494). (DEDUCED, log 72) -/
def State.strandBoot (s : State) (code : Nat) : State := (s.noteFailure code false).strand

/-! ### Supply monitors -/

/-- A brace begins, or one more rail joins it: event 1 with the voltage in mV (R51, R475). (DEDUCED, log 81) -/
def State.braceBegins (s : State) (mon mv : Nat) : State :=
  let b : Brace := s.power.brace.getD { causes := 0, minMv := [] }
  let b := { causes := setBit b.causes mon true, minMv := Tab.set 0 b.minMv mon mv }
  let s := { s with power := { s.power with
      brace := some b, below := setBit s.power.below mon true, dipTide := setBit s.power.dipTide mon true } }
  s.raise (240 + mon) 1 (leBytes 2 mv ++ leBytes 4 0)

/-- The records of a brace that ends, one per monitor that caused it (R51, R616). -/
def State.braceRecords (s : State) (b : Brace) (us : Nat) : State :=
  s.each (mapList 23 b.causes) fun s m =>
    s.record 0x08 1 (leBytes 2 (240 + m) ++ leBytes 2 (Tab.get 0 b.minMv m) ++ leSat 4 us)

/-! ### Last-gasp -/

/-- May the controller in Last-gasp yield (R57)? -/
def State.gaspYield (s : State) : Bool :=
  s.token && s.partnerFit && s.sluice.pMode = Mode.shadow.code && bit s.sluice.pFit 2 && !bit s.sluice.pFit 5

/-- The last-gasp ramp of an output begins (R56, R218; STATE 7 with LAST_STOP 9, Table 10-7). -/
def State.gaspRamp (s : State) (k : Nat) : State :=
  let v := s.vsp k
  s.setOut k fun o =>
    { o with
      state := 7, lastStop := 9, phase := .stopping
      prof := { o.prof with state := .lastGasp, x0 := v } }

/-- Outputs that ramp: those driven beyond the shorted high-side test. (DEDUCED, log 68) -/
def State.gaspOuts (s : State) : List Nat :=
  s.enabledOuts.filter fun k => (s.outAt k).driven && (s.outAt k).phase ≠ .testing

/-- Steps 2 to 6 of Table 2-12 after an INUV trip in a firmware mode. -/
def State.enterGasp (s : State) : State :=
  let left := s.mode
  let s := s.dropShutdown
  let s := s.finishAll (fun _ => true) .wrongMode
  let s := (s.enterMode .lastGasp).clearWanted
  let s := s.peerEvent 4 []
  let s := s.powerDomains s.gaspDomains
  let s := { s with
    power := { s.power with alive := false, chipReset := none, gasp := .ramping, gaspRecovered := false }
    host := { s.host with hrdy := false } }
  let yields := s.gaspYield
  let action := if !s.token then 0 else if yields then 1 else 2
  let s := s.record 0x08 2 ([byte left.code, byte action, byte s.log.unflushed, 0] ++ leBytes 8 s.retained.rtcNs
    ++ leBytes 4 s.sluice.generation)
  let s := if yields then s.passToken 0x07 0
    else if s.token then
      let s := s.each (s.enabledOuts.filter fun k => (s.outAt k).phase = .testing) fun s k =>
        (s.lowOutput k .off).setOut k fun o => o.halt 0 o.lastStop s.budget.tides
      s.each s.gaspOuts State.gaspRamp
    else s
  (s.checkpoint 1).startBurst

end Sys2Proof.Machine
end

