-- ==== Sys2Proof/Machine/PowerRows.lean ====
section
/-! DEFINITION. Meanings of the commands of modes, power, clocks and reset (chapters 2 and 3). -/
namespace Sys2Proof.Machine

/-! ### Wake-up -/

/-- VAON_RISE (R590): power-on reset ends in Keep. -/
def execVaonRise (s : State) : Host.Outcome State Fault Refusal :=
  .next (if s.mode = .off then
    { s with power := { s.power with mode := .keep, fromMode := .off, domains := domainMap [1] } } else s)

/-- VAON_RESET (R53, R74): the always-on state is lost too; memories outside the die, the OTP array and the pins stay. -/
def execVaonReset (s : State) : Host.Outcome State Fault Refusal :=
  let u := s.unpower false
  .next { u with
    power := { mode := .off, fromMode := s.mode, domains := 0, wakeN := s.power.wakeN, pbN := s.power.pbN
               resetN := s.power.resetN, dbgen := s.power.dbgen, inuvTripped := s.power.inuvTripped }
    retained := {}, clocks := {}, tw := { u.tw with responder := .asleep }, eth := {}
    dbg := {} }

/-- WAKE_N_LOW (R45). -/
def execWakeNLow (s : State) : Host.Outcome State Fault Refusal :=
  .next (({ s with power := { s.power with wakeN := false } }).wakeEvent 0)

/-- RTC_ALARM (R45): the always-on copy of the alarm is cleared. -/
def execRtcAlarm (s : State) : Host.Outcome State Fault Refusal :=
  .next (if (s.mode = .keep ∨ s.mode = .gaugeWatch) ∧ s.retained.alarmNs ≠ 0 ∧ bit s.retained.wakeEnable 3 = true then
    ({ s.rtcRuns s.retained.alarmNs with retained := { (s.rtcRuns s.retained.alarmNs).retained with alarmNs := 0 } }).wakeEvent 3
    else s)

/-- INUV_RECOVER (R58, R59). -/
def execInuvRecover (s : State) : Host.Outcome State Fault Refusal :=
  .next (if s.power.inuvTripped then
    let s := { s with power := { s.power with inuvTripped := false } }
    if s.mode = .lastGasp then { s with power := { s.power with gaspRecovered := true } }
    else if s.power.wake.pending.isSome then s.startPending
    else s.wakeEvent 4
    else s)

/-- Both banks' levels measured when PG_IO becomes good (R581). -/
def State.measureBanks (s : State) (b : Nat) : State :=
  { s with power := { s.power with bank33 := b % 4, bankMeasured := true } }

/-- PG input `n` is taken as good (R42): PG_IO has the banks measured (R581); an attempt that awaits it goes on (R46). -/
def State.pgGood (s : State) (n banks33 : Nat) : State :=
  let s := { s with power := { s.power with pg := setBit s.power.pg n true } }
  let s := if n = 3 then s.measureBanks banks33 else s
  if s.power.wake.phase ≠ .waitPg n then s
  else if n = 3 then s.afterPg
  else
    let s := { s with power := { s.power with pwren := setBit s.power.pwren (n + 1) true } }
    s.setWake fun w => { w with phase := .waitPg (n + 1) }

/-- PG_GOOD (R42, R46): `banks33` names the banks found at 3.3 V when PG_IO becomes good. -/
def execPgGood (n banks33 : Nat) (s : State) : Host.Outcome State Fault Refusal :=
  .next (if n < 4 then s.pgGood n banks33 else s)

/-- PG_TIMEOUT (R46, R47) at an RTC time. -/
def execPgTimeout (n : Nat) (s : State) (rtcNs : Nat := 0) : Host.Outcome State Fault Refusal :=
  .next (if s.power.wake.phase = .waitPg n ∧ n < 4 then (s.rtcRuns rtcNs).failAttempt (n + 1) else s)

/-- CRYSTAL_READY (R46). -/
def execCrystalReady (s : State) : Host.Outcome State Fault Refusal :=
  .next (if s.power.wake.crystalOn then
    let s := s.setWake fun w => { w with crystalReady := true }
    if s.power.wake.phase = .waitCrystal then s.afterPg else s
    else s)

/-- CRYSTAL_TIMEOUT (R46, R47) at an RTC time. -/
def execCrystalTimeout (s : State) (rtcNs : Nat := 0) : Host.Outcome State Fault Refusal :=
  .next (if s.power.wake.crystalOn && !s.power.wake.crystalReady then (s.rtcRuns rtcNs).failAttempt 5 else s)

/-- DOMAIN_SWITCH_ON (R46, step 7): domain 13, where it was off, starts with a new gauge session (R376). -/
def execDomainSwitchOn (s : State) : Host.Outcome State Fault Refusal :=
  .next (if s.power.wake.phase = .switching then
    let on := s.domain 13
    let n := s.fresh .random 0 % 2 ^ 32
    let s := if on then s else { (s.used) with gauge := { session := n } }
    let s := s.powerDomains (domainMap [1, 2, 3, 13, 18, 20])
    s.setWake fun w => { w with phase := .releasing }
    else s)

/-- INTERNAL_RESET_RELEASE (R46, step 8) at an RTC time: mode Boot, where an RTC loss that began without firmware is reported
on its source (R72). -/
def execInternalResetRelease (s : State) (rtcNs : Nat := 0) : Host.Outcome State Fault Refusal :=
  .next (if s.power.wake.phase = .releasing then
    let s := s.rtcRuns rtcNs
    let old := s.mode
    let s := ((s.wakeGauge s.retained.rtcNs 0).setRet fun r => { r with stranded := false }).setWake fun w => { w with phase := .idle }
    let s := { s with power := { s.power with mode := .boot, fromMode := old, modeEpoch := s.clocks.epoch } }
    if s.clocks.rtcLost then s.begin_ 225 1 [] else s
    else s)

/-- WAKE_RETRY (R47): the next attempt of the series. -/
def execWakeRetry (s : State) : Host.Outcome State Fault Refusal :=
  .next (if s.power.wake.phase = .spacing then
    (s.setRet fun r => { r with attempts := r.attempts + 1 }).beginAttempt else s)

/-! ### Resets -/

/-- PG_LOST (R42, R53): within Last-gasp it is ignored. -/
def execPgLost (n : Nat) (s : State) : Host.Outcome State Fault Refusal :=
  let s := { s with power := { s.power with pg := setBit s.power.pg n false } }
  .next (s.chipResetNow 0x3)

/-- RESET_N_LOW (R75, R76). (DEDUCED, log 72) -/
def execResetNLow (s : State) : Host.Outcome State Fault Refusal :=
  let s := { s with power := { s.power with resetN := false } }
  .next (if s.power.wake.active then s.endAttempt true else s.chipResetNow 0x1)

/-- RESET_N_RELEASE (R76). -/
def execResetNRelease (s : State) : Host.Outcome State Fault Refusal :=
  .next ({ s with power := { s.power with resetN := true } }).startPending

/-- ORDERLY_RESET_PROCEED (R75), `afterUs` microseconds after the reset record was staged. -/
def execOrderlyResetProceed (afterUs : Nat) (s : State) : Host.Outcome State Fault Refusal :=
  .next (match s.power.chipReset with
    | some r => if s.log.drained ∨ 150 ≤ afterUs then s.resetToKeep r.fromMode else s
    | none => s)

/-- CHIP_RESET_WAKE (R75): 10 ms after a chip reset. -/
def execChipResetWake (s : State) : Host.Outcome State Fault Refusal :=
  .next (if s.power.wake.pending = some .chipReset ∧ s.dbg.scanHold = false then (s.setWake fun w => { w with pendingReady := true }).startPending else s)

/-- WATCHDOG_EXPIRY (R104, R476 source 298). -/
def execWatchdogExpiry (s : State) : Host.Outcome State Fault Refusal :=
  .next (if s.boot.watchdogArmed && !s.boot.watchdogPaused then s.raise 298 1 [] else s)

/-- The reset ordered by SVC.RESET or by a retirement begins (R520, R526): at the clear of MB_DONE, or after 10 ms. -/
def execSvcResetStart (done : Bool) (s : State) : Host.Outcome State Fault Refusal :=
  .next (match s.power.svcReset with
    | none => s
    | some n =>
      if done && n < 16 && (s.mbAt n).done then s
      else ({ s with power := { s.power with svcReset := none } }).chipResetOrderly 0x6 0)

/-! ### Last-gasp -/

/-- INUV_TRIP (R54 to R58) with the voltage in mV, at an RTC time; a second trip within Last-gasp has no row and is recorded
(R35, R59). -/
def execInuvTrip (mv : Nat) (s : State) (rtcNs : Nat := 0) : Host.Outcome State Fault Refusal :=
  let s := (({ s with power := { s.power with inuvTripped := true } }) : State).rtcRuns rtcNs
  .next (if s.mode = .lastGasp then
      ({ s with power := { s.power with gaspRecovered := false } } : State).triggerIgnored 2
    else if s.mode.firmware then (s.raise 263 1 (leBytes 2 mv)).enterGasp
    else if s.power.wake.active then s.endAttempt (decide (s.power.wake.kind ≠ .wake))
    else s)

/-- LAST_GASP_RAMP_END (R56, step 7). -/
def execLastGaspRampEnd (s : State) : Host.Outcome State Fault Refusal :=
  .next (if s.power.gasp = .ramping then
    let s := s.lowAll s.idleState
    let s := s.each (s.enabledOuts.filter fun k => (s.outAt k).live) fun s k =>
      s.setOut k fun o => o.halt 0 o.lastStop s.budget.tides
    { s with power := { s.power with gasp := .rampsDone } }
    else s)

/-- LAST_GASP_COMPLETE (R56 steps 8 and 9, R59): everything is flushed, or (`done` false) the time of step 8 has come. -/
def execLastGaspComplete (done : Bool) (s : State) : Host.Outcome State Fault Refusal :=
  .next (if s.mode = .lastGasp ∧ s.power.gasp = .rampsDone ∧ (done = false ∨ s.log.drained = true) then
    let again := s.power.gaspRecovered && s.retained.autoRestart
    let s := s.sleep .keep
    if again then
      (s.setWake fun w => { w with pending := some .lastGaspRestart, pendingFrom := 0xA, pendingReady := true }).startPending
    else s
    else s)

/-! ### Supplies -/

/-- SUPPLY_WARNING (R51, R475), in any mode. -/
def execSupplyWarning (mon mv : Nat) (s : State) : Host.Outcome State Fault Refusal :=
  .next (if bit s.power.armed mon && s.monitorPowered mon then
    (if bit s.power.below mon then
      match s.power.brace with
      | some b => { s with power := { s.power with brace := some { b with
          minMv := Tab.upd 0 b.minMv mon fun v => min v mv } } }
      | none => s
    else s.braceBegins mon mv)
    else s)

/-- BRACE_END (R52) after `us` microseconds: the records, while firmware runs, and suspended writes resume. (DEDUCED, log 81) -/
def execBraceEnd (us : Nat) (s : State) : Host.Outcome State Fault Refusal :=
  .next (match s.power.brace with
    | none => s
    | some b =>
      let s := { s with power := { s.power with brace := none, below := 0 } }
      if s.mode.firmware then (s.braceRecords b us).startBurst else s)

/-- SUPPLY_RESET (R53): VAON's reset level is VAON_RESET. -/
def execSupplyReset (mon : Nat) (s : State) : Host.Outcome State Fault Refusal :=
  .next (if bit s.power.armed mon && s.monitorPowered mon && decide (mon ≠ 20) then s.chipResetNow 0x2 else s)

/-- MONITOR_ARM (R50). -/
def execMonitorArm (mon : Nat) (s : State) : Host.Outcome State Fault Refusal :=
  .next (if s.monitorPowered mon then { s with power := { s.power with armed := setBit s.power.armed mon true } } else s)

/-! ### Clock monitors -/

/-- REFERENCE_CRYSTAL_LOSS (R72, R73): holdover; the fixed reactions yield and enter Safe-hold. -/
def execReferenceCrystalLoss (s : State) : Host.Outcome State Fault Refusal :=
  .next (if s.mode.firmware && !s.clocks.refLost then
    ({ s with clocks := { s.clocks with refLost := true, holdoverTide := true } }).begin_ 224 1 []
    else s)

/-- REFERENCE_CRYSTAL_RESTORED (R72): the pending chip reset is cancelled. -/
def execReferenceCrystalRestored (s : State) : Host.Outcome State Fault Refusal :=
  .next (if s.clocks.refLost then ({ s with clocks := { s.clocks with refLost := false } }).condition 224 false else s)

/-- HOLDOVER_TIMEOUT (R72): a chip reset as a fault reaction of source 0. (DEDUCED, log 27) -/
def execHoldoverTimeout (s : State) : Host.Outcome State Fault Refusal :=
  .next (if s.clocks.refLost then s.chipResetOrderly 0x5 224 else s)

/-- RTC_CRYSTAL_LOSS (R72, R559): the RTC itself stops only in a mode without the reference clock, where the collector does not
run either: source 225 then begins in Boot. -/
def execRtcCrystalLoss (s : State) : Host.Outcome State Fault Refusal :=
  .next (if s.clocks.rtcLost then s
    else
      let s := { s with
        clocks := { s.clocks with rtcLost := true, chargeHoldover := true }
        eth := { s.eth with rtcState := if s.mode.firmware then s.eth.rtcState else 3 } }
      if s.mode.firmware then s.begin_ 225 1 [] else s)

/-- RTC_CRYSTAL_RESTORED (R559). -/
def execRtcCrystalRestored (s : State) : Host.Outcome State Fault Refusal :=
  .next (if s.clocks.rtcLost then
    ({ s with
      clocks := { s.clocks with rtcLost := false, chargeHoldover := false }
      eth := { s.eth with rtcState := if s.eth.rtcState = 3 then 0 else s.eth.rtcState } }).condition 225 false
    else s)

/-- PLL_LOSS_OF_LOCK (R72): the source's reactions act; in Boot the failure is only reported on its source (R46, R73). -/
def execPllLossOfLock (pll : Nat) (s : State) : Host.Outcome State Fault Refusal :=
  .next (if s.mode.firmware && pll < 12 then
    let s := { s with clocks := { s.clocks with pllLost := setBit s.clocks.pllLost pll true } }
    if s.mode = .boot then s.reportEvent (226 + pll) 1 [] else s.raise (226 + pll) 1 []
    else s)

/-- RC_OUT_OF_RANGE (R72): the always-on RC leaves its ±8 %, or is back within it. -/
def execRcOutOfRange (s : State) (outside : Bool := true) : Host.Outcome State Fault Refusal :=
  let s := { s with clocks := { s.clocks with rcOut := outside } }
  .next (if !outside then s.condition 239 false else if s.mode.firmware then s.begin_ 239 1 [] else s)

/-! ### Boot start -/

/-- BOOT_ROM_UNCORRECTABLE (R494) at an RTC time: Boot restarts once, then ends in Stranded. -/
def execBootRomUncorrectable (s : State) (rtcNs : Nat := 0) : Host.Outcome State Fault Refusal :=
  .next (if s.mode = .boot ∧ s.boot.step < 6 then
    let s := ((s.rtcRuns rtcNs).setEcc 221 fun e => e.count 4).raise 221 4 []
    if s.boot.romErrors = 0 then
      { s with boot := { s.boot.unpowered with romErrors := 1 }, otp := s.otp.unpowered }
    else s.strandBoot 0x07
    else s)

end Sys2Proof.Machine
end

