-- ==== Sys2Proof/Machine/OtpBase.lean ====
section
/-! DEFINITION. The OTP array's word statuses, fields and what is derived from them (R80 to R93). -/
namespace Sys2Proof.Machine

/-- Status of a word to the device: 0 BLANK, 1 GOOD, 3 UNRELIABLE (R84). -/
def OtpWord.status (w : OtpWord) : Nat := if w.blank then 0 else if w.good then 1 else 3

/-- Status of a word to an order: 2 LOCKED for the device secret (R84). -/
def State.otpStatus (s : State) (w : Nat) : Nat := if 40 ≤ w ∧ w ≤ 47 then 2 else (s.otpAt w).status

/-- Value of a word to an order: 0 where no value is returned (R84, R518). -/
def State.otpValue (s : State) (w : Nat) : Nat := if s.otpStatus w = 1 then (s.otpAt w).primary else 0

/-- Every word of a field is GOOD. -/
def State.fieldGood (s : State) (lo n : Nat) : Bool := (countFrom n lo).all fun w => (s.otpAt w).good

/-- Every word of a field is BLANK. -/
def State.fieldBlank (s : State) (lo n : Nat) : Bool := (countFrom n lo).all fun w => (s.otpAt w).blank

/-- Some word of a field is UNRELIABLE. -/
def State.fieldUnreliable (s : State) (lo n : Nat) : Bool := (countFrom n lo).any fun w => decide ((s.otpAt w).status = 3)

/-- Bytes of an eight-word digest: word `lo` holds bytes 0 to 3. -/
def State.digestBytes (s : State) (lo : Nat) : Bytes := ((countFrom 8 lo).map fun w => leBytes 4 (s.otpAt w).primary).flatten

/-- A digest as the array holds it, none unless GOOD (R85). -/
def State.digestAt (s : State) (lo : Nat) : Option Nat := if s.fieldGood lo 8 then some (leVal (s.digestBytes lo)) else none

/-- The device secret as the array holds it, 256 bits; none unless GOOD (R85). (DEDUCED, log 9) -/
def State.secretWords (s : State) : Option Nat :=
  s.digestAt 40

/-- The device secret at the key port (R86); in Blank it is unused (R88). -/
def State.secret (s : State) : Option Nat := if s.otp.lifecycle = 0 then none else s.otp.secretKey

/-- Did the Boot self-test of a function fail, so that what uses it is refused with LOCKED (source 284)? 0 AES, 1 CMAC,
2 SHA-256, 3 ECDSA. -/
def State.testFailed (s : State) (i : Nat) : Bool := bit s.boot.selfTestFail i

/-- Is a function that rests on the device secret refused with LOCKED: no secret is in use, or a self-test of what it needs has failed
(R85, R88; source 284)? -/
def State.secretLocked (s : State) (needs : List Nat) : Bool := s.secret.isNone || needs.any s.testFailed

/-- Does a key match a digest under SHA-256 (R127)? -/
def State.keyMatches (s : State) (lo : Nat) (key : Bytes) : Bool := decide (beBytes 32 (sha256 key) = s.digestBytes lo)

/-- Lifecycle marked in the array: 0 Blank to 3 Retired (R88): the latest marker that is not BLANK. -/
def State.lifecycleMarked (s : State) : Nat :=
  if !(s.otpAt 2).blank then 3 else if !(s.otpAt 1).blank then 2 else if !(s.otpAt 0).blank then 1 else 0

/-- Debug level at a lifecycle by the debug-lock word (Table 4-7): 0 open, 1 service-only, 2 closed. -/
def State.debugLevelOf (s : State) (life : Nat) : Nat :=
  let w := s.otpAt 4
  let lock := if w.blank then 0 else if w.good && decide (w.primary = 0xA5) then 1 else 2
  if life = 0 ∨ life = 3 then 0
  else if life = 1 then lock
  else if lock = 0 then 1 else lock

/-- Is the provisioning key usable: Provisioned, with the host-service digest BLANK (R93)? -/
def State.provisioningOpen (s : State) : Bool := decide (s.otp.lifecycle = 1) && s.fieldBlank 32 8 && s.secret.isSome

/-- The stepping code of word 199 (R81): 0 where it is BLANK, none where it is UNRELIABLE (R85). -/
def State.stepping (s : State) : Option Nat :=
  if (s.otpAt 199).status = 3 then none else some (s.otpValue 199 % 256)

end Sys2Proof.Machine
end

