-- ==== Sys2Proof/Machine/Session.lean ====
section
/-! DEFINITION. Sessions, keys and feature negotiation (R124 to R135): the orders of group 0x01 and the ends of sessions. -/
namespace Sys2Proof.Machine

/-! ### Keys -/

/-- KEY_LOCKOUT_END (R126). -/
def execKeyLockoutEnd (key : Nat) (s : State) : Host.Outcome State Fault Refusal :=
  .next { s with host := { s.host with
    keyLocked := setBit s.host.keyLocked key false
    failedProofs := if bit s.host.keyLocked key then s.host.failedProofs.filter fun e => decide (e.1 ≠ key)
      else s.host.failedProofs } }

/-- The key a KEY_ID names, none where it is not installed or not usable (R125, R127); each of them rests on the device secret
(R85). -/
def State.sessionKey (s : State) (id : Nat) : Option Nat :=
  if s.secret.isNone then none
  else if id = 1 then (if s.otp.lifecycle = 3 then none else s.host.datagramKey)
  else if id = 2 then (if s.host.hostKeyInstalled && s.otp.lifecycle ≠ 3 then s.host.hostKey else none)
  else if id = 3 then
    (if s.provisioningOpen then some (Config.provisioningKey (s.secret.getD 0) s.dieId) else none)
  else none

/-- May a key be named on a transport (Table 5-7)? -/
def keyTransport (id transport : Nat) : Bool :=
  if id = 0 then transport ≠ 1 else if id = 1 then transport ≠ 2 else true

/-- Highest privilege of a key (Table 5-7). -/
def keyPrivilege (id : Nat) : Nat := if id < 2 then 1 else 2

/-- The nonce of the next session (R126): the random source's value, a free one, or the next number up that no session of this
Boot has had. (DESIGN CHOICE, log 4) -/
def State.nextNonce (s : State) : Nat :=
  let r := s.fresh .random 0
  let used (k : Nat) : Bool := s.host.nonces.contains ((r + k) % 2 ^ 128)
  (r + (firstN (fun k => !used k) (upto (s.host.nonces.length + 1))).getD 0) % 2 ^ 128

/-- The open of a session once it is admitted: number, nonce and state (R124 to R126). -/
def State.openSession (s : State) (q : Req) (priv id idle : Nat) : State :=
  let n := s.host.nextSession
  let nd := if id = 0 then 0 else s.nextNonce
  let s := if id = 0 then s else s.used
  let s := { s with host := { s.host with
      nextSession := n + 1, nonces := if id = 0 then s.host.nonces else nd :: s.host.nonces } }
  let s := s.setSes n fun _ =>
    { state := if id = 0 then .openS else .proving, privilege := priv, keyId := id, transport := q.transport
      idleS := if idle = 0 then 600 else idle, nonce := nd }
  let s := { s with eth := { s.eth with peerPort := Tab.set 0 s.eth.peerPort n (s.mbAt q.mb).port } }
  s.reply q .ok (leBytes 4 n ++ beBytes 16 nd ++ [byte (if id = 0 then 0 else 1)])

/-- Do the key and the transport a SESSION.OPEN names admit the privilege it asks for (R125, R122 step 3)? -/
def mayOpen (q : Req) (_ : State) : Bool :=
  decide (2 < q.u 0 1) || decide (3 < q.u 1 1) || (decide (q.u 0 1 ≤ keyPrivilege (q.u 1 1)) && keyTransport (q.u 1 1) q.transport)

/-- SESSION.OPEN (R124, R125, Table 5-8; sources 284 and 285); a session that awaits its proof counts toward the limit of 16.
(DESIGN CHOICE, log 85) -/
def execSessionOpen (mb : Nat) (s : State) : Host.Outcome State Fault Refusal :=
  .next (s.runOrderWith 0x0101 mb mayOpen anyRequest fun q s =>
    let priv := q.u 0 1
    let id := q.u 1 1
    if 16 ≤ s.openSessions.length then s.refuse q .busy
    else if !q.lay 8 [(4, 4)] || 2 < priv || 3 < id || 3600 < q.u 2 2 then s.refuse q .badArg
    else if bit s.host.keyLocked id || (id ≠ 0 && ((s.sessionKey id).isNone || s.boot.rngFail || s.testFailed 1)) then
      s.refuse q .locked
    else s.openSession q priv id (q.u 2 2))

/-- The tags and the session key of R126, as byte strings of 16. -/
def proofTag (key kind session nd : Nat) (nh : Bytes) : Bytes :=
  beBytes 16 (cmac key ([byte kind] ++ leBytes 4 session ++ beBytes 16 nd ++ nh))

/-- A key is installed over the host port, the datagram key in a service session (R127, R122 step 3). -/
def mayInstall (q : Req) (s : State) : Bool :=
  q.transport = 0 && (q.u 0 1 ≠ 1 || decide (2 ≤ (s.sesAt q.session).privilege))

/-- SESSION.KEYINSTALL (R127, Table 5-8): the write of the key record is an external write. Where the digest is neither GOOD nor
BLANK the key is stored without a check. (DESIGN CHOICE, log 85) -/
def execSessionKeyinstall (mb : Nat) (s : State) : Host.Outcome State Fault Refusal :=
  .next (s.runOrderWith 0x0104 mb mayInstall anyRequest fun q s =>
    let kind := q.u 0 1
    let key := slice q.payload 4 16
    if !q.lay 20 [(1, 3)] || 1 < kind then s.refuse q .badArg
    else if s.secretLocked [0, 2] then s.refuse q .locked
    else if kind = 0 && s.fieldGood 32 8 && !s.keyMatches 32 key then s.refuse q .badArg
    else s.wait q (.keyInstall kind (beVal key)))

/-- The key record holds the key: what SESSION.KEYINSTALL does once its write is read back (R127). -/
def State.keyInstalled (s : State) (w : Waiting) (kind key : Nat) : State :=
  let s := if kind = 0 then
      { s with host := { s.host with
          hostKey := some key, hostKeyInstalled := s.fieldGood 32 8 && s.keyMatches 32 (beBytes 16 key) } }
    else { s with host := { s.host with datagramKey := some key } }
  (s.record 0x10 2 ([byte kind, 0, 0, 0] ++ leBytes 4 w.session)).finish w.mailbox .ok []

/-! ### Features -/

/-- Features the release supports on the present stepping (R134): bits 0 to 26. (DEDUCED, log 15) -/
def featuresSupported : Nat := 2 ^ 27 - 1

/-- FEAT.OFFER (R132 to R135, Table 5-10). (DEDUCED, log 15) -/
def execFeatOffer (mb : Nat) (s : State) : Host.Outcome State Fault Refusal :=
  .next (s.runOrder 0x0105 mb fun q s =>
    if !q.lay 16 [] || !bit (q.u 0 16) 0 then s.refuse q .badArg
    else
      let acc := sumN ((upto 27).map fun i => b2n (bit (q.u 0 16) i && bit featuresSupported i) * 2 ^ i)
      let s := s.setSes q.session fun e => { e with features := acc, offered := true }
      let s := { s with host := { s.host with negotiated := s.host.negotiated ||| acc } }
      s.reply q .ok (leBytes 16 acc ++ leBytes 4 0x00040200 ++ leBytes 2 0x0402
        ++ [byte 0x21, byte s.otp.lifecycle] ++ leBytes 4 s.dieId ++ leBytes 2 496 ++ [byte s.role, 0]))

end Sys2Proof.Machine
end

