-- ==== Sys2Proof/Machine/BootRows.lean ====
section
/-! DEFINITION. Meanings of Boot, OTP, firmware, time and service commands (chapters 4 and 19). -/
namespace Sys2Proof.Machine

/-! ### OTP sensing -/

/-- Words of bank `i` of an ECC instance, and of a row (R490, R495). -/
def bankRows (inst i : Nat) : Nat :=
  let perBank := if inst = 200 then 16384 else 32768
  let perRow := if inst = 200 then 8 else 16
  min perBank (eccWords inst - i * perBank) / perRow

/-- Does a spare-map entry name a bank and a row or column of it (R82, R495)? -/
def spareOk (w : Nat) : Bool :=
  let bank := bits w 29 20
  let inst := 200 + bank / 32
  let rows := bankRows inst (bank % 32)
  let a := bits w 17 0
  decide (inst < 224) && decide (0 < rows)
    && (if bits w 31 30 = 1 then decide (a < rows) else decide (a < (if inst = 200 then 576 else 624)))

/-- Is an entry used: KIND 1, or KIND 2 with SPARE at most 1 (R82)? -/
def spareUsed (w : Nat) : Bool := bits w 31 30 = 1 || (bits w 31 30 = 2 && bits w 19 18 ≤ 1)

/-- The spares switched in by the map's good entries in word order, and how many entries were rejected (R495). -/
def State.spares (s : State) : List (Nat × Nat × Nat) × Nat :=
  ((countFrom 48 80).filter fun w => (s.otpAt w).good && spareUsed (s.otpAt w).primary).foldl
    (fun (a : List (Nat × Nat × Nat) × Nat) w =>
      let v := (s.otpAt w).primary
      let key := (bits v 29 20, bits v 31 30, bits v 19 18)
      if spareOk v && !a.1.contains key then (a.1 ++ [key], a.2) else (a.1, a.2 + 1)) ([], 0)

/-- Spare rows and columns in use of an instance (R500). -/
def State.noteSpares (s : State) (l : List (Nat × Nat × Nat)) : State :=
  s.each (countFrom 24 200) fun s i =>
    let mine (k : Nat) := (l.filter fun (e : Nat × Nat × Nat) => decide (200 + e.1 / 32 = i) && decide (e.2.1 = k)).length
    s.setEcc i fun e => { e with rowsUsed := mine 1, colsUsed := mine 2 }

/-- Raise an event `n` times. -/
def State.raiseTimes (s : State) (n src : Nat) : State := (upto n).foldl (fun s _ => s.raise src 1 []) s

/-- Trims as they are delivered: the value of each word of 48 to 79 that is GOOD, else none for the mid-scale default (R85). -/
def State.trimsSensed (s : State) : List (Option Nat) :=
  (countFrom 32 48).map fun w => if (s.otpAt w).good then some (s.otpAt w).primary else none

/-- What the sensing drives into the latches of Table 4-5 (R86): lifecycle, debug level, trims (a copy stays in the always-on
domain), spare map, digests and device secret. Where the secret gives no key, the chain key of the logbook is a free value of
the part. (DESIGN CHOICE, log 83) -/
def State.senseOtp (s : State) (spares : List (Nat × Nat × Nat)) : State :=
  let life := s.lifecycleMarked
  let s := { s with
    otp := { s.otp with
      sensed := true, lifecycle := life, debugLevel := s.debugLevelOf life, sparesUsed := spares
      digest0 := s.digestAt 8, digest1 := s.digestAt 16, secretKey := s.secretWords, trims := s.trimsSensed }
    retained := { s.retained with dieId := s.dieId, trims := s.trimsSensed }
    boot := { s.boot with step := 1 } }
  let key := match s.secret with | some k => Config.logKey k | none => Config.noIdentity 40 % 2 ^ 128
  { s with log := { s.log with chainKey := key } }

/-- OTP_SENSE_COMPLETE (R84 to R89, R451, R495): none while a brace is in force (R87). -/
def execOtpSenseComplete (s : State) : Host.Outcome State Fault Refusal :=
  .next (if s.mode = .boot ∧ s.boot.step = 0 ∧ s.power.brace.isNone then
    let sp := s.spares
    let s := (s.senseOtp sp.1).noteSpares sp.1
    let bad := ((upto 200).filter fun w => decide ((s.otpAt w).status = 3)).length
    let trims := (s.trimsSensed.filter Option.isNone).length
    ((s.raiseTimes bad 280).raiseTimes trims 281).raiseTimes sp.2 282
    else s)

/-- MEMORY_INIT_COMPLETE (R106, R107): zero data in the memories it initialises; both pairs run the boot ROM. -/
def execMemoryInitComplete (s : State) : Host.Outcome State Fault Refusal :=
  .next (if s.mode = .boot ∧ s.boot.step = 1 then
    { s with boot := { s.boot with step := 2 }, host := { s.host with ram := [] } } else s)

/-! ### Image slots -/

/-- Bytes 0x00 to 0x17 of a table copy (Table 4-10). -/
def SlotTable.body (t : SlotTable) : Bytes :=
  leBytes 4 t.magic ++ leBytes 4 t.version ++ leBytes 4 t.offsetA ++ leBytes 4 t.offsetB ++ leBytes 4 t.sequenceA
    ++ leBytes 4 t.sequenceB

/-- Is a table copy valid (R99)? -/
def SlotTable.valid (t : SlotTable) : Bool :=
  decide (t.magic = 0x4C534645) && decide (t.version = 1) && decide (t.crc = crc32c t.body)

/-- State byte of slot `i` in a table copy; a copy that is not valid contributes 0xFF (R99). -/
def SlotTable.stateByte (t : SlotTable) (i : Nat) : Nat := if !t.valid then 0xFF else if i = 0 then t.stateA else t.stateB

/-- The table copy in use: copy 0 while it is valid (R99). -/
def Boot.table (b : Boot) : SlotTable := if b.tableCopy = 0 then b.table0 else b.table1

/-- SEQUENCE of slot `i` in the copy in use. -/
def Boot.sequence (b : Boot) (i : Nat) : Nat := if i = 0 then b.table.sequenceA else b.table.sequenceB

/-- State of slot `i`: the AND of both copies, other values taken as REJECTED (R99, Table 4-11). -/
def Boot.stateCode (b : Boot) (i : Nat) : Nat :=
  let v := b.table0.stateByte i &&& b.table1.stateByte i
  if [0xFF, 0x7F, 0x3F, 0x1F].contains v then v else 0x0F

/-- A slot is to be marked: copy 1 first and then copy 0 (R99). -/
def Boot.mark (b : Boot) (slot v : Nat) : Boot := { b with writes := b.writes ++ [.mark 1 slot v, .mark 0 slot v] }

/-- A rejection code is kept for slot `i` (R102). -/
def Boot.setCode (b : Boot) (i code : Nat) : Boot := if i = 0 then { b with codeA := code } else { b with codeB := code }

/-- Bytes of slot `i` in the NOR, from an offset within the slot (R100). -/
def Boot.slotBytes (b : Boot) (i o n : Nat) : Bytes :=
  (countFrom n o).map fun a => byte (Tab.get 0xFF (if i = 0 then b.dataA else b.dataB) a)

/-- A field of the header of slot `i` (Table 4-12). -/
def Boot.header (b : Boot) (i o n : Nat) : Nat := fld (b.slotBytes i 0 256) o n

/-- The bytes of slot `i` go through `f`. -/
def Boot.setData (b : Boot) (i : Nat) (f : Tab Nat → Tab Nat) : Boot :=
  if i = 0 then { b with dataA := f b.dataA } else { b with dataB := f b.dataB }

/-- The check of R101 on slot `i`, 0 or a code of Table 4-13, against the signer digests `digest` (none unless GOOD). -/
def State.checkSlot (s : State) (i : Nat) (digest : Nat → Option Nat) : Nat :=
  let b := s.boot
  let h := b.slotBytes i 0 256
  let signer := fld h 6 2
  let n := fld h 8 4
  let load := fld h 12 4
  let entry := fld h 16 4
  let key := slice h 0x40 64
  let signerOk := (decide (signer < 2) && (digest signer).isSome && decide (s.otp.lifecycle ≠ 0))
    || (decide (signer = 2) && s.fieldBlank 8 16 && decide (s.otp.lifecycle < 2))
  let digestOk := leVal (beBytes 32 (sha256 key))
    = (if signer = 2 then leVal (beBytes 32 Config.sahoaDigest) else (digest signer).getD 0)
  let steppingOk := match s.stepping with | some v => decide (fld h 0x1C 4 ≤ v) | none => false
  if fld h 0 4 ≠ 0x4E484645 || fld h 4 2 ≠ 1 then 1
  else if n % 64 ≠ 0 || 0x300000 < n || 0x400000 < load + n || entry < load || load + n ≤ entry then 2
  else if !steppingOk then 3
  else if !signerOk then 4
  else if !digestOk then 5
  else if beBytes 32 (sha256 (b.slotBytes i 256 n)) ≠ slice h 0x20 32 then 6
  else if !ecdsaVerify (beVal key) (beVal (slice h 0x80 64)) (sha256 (slice h 0 128)) then 7
  else 0

/-- Slots to try: WRITTEN or CONFIRMED, by SEQUENCE descending, A before B (R103). -/
def Boot.tryOrder (b : Boot) : List Nat :=
  let ok (i : Nat) : Bool := b.stateCode i = 0x7F || b.stateCode i = 0x1F
  (if b.sequence 0 < b.sequence 1 then [1, 0] else [0, 1]).filter ok

/-- A TRIAL slot never confirmed is rejected with code 0x08 (R103). -/
def Boot.dropTrial (b : Boot) (i : Nat) : Boot := if b.stateCode i = 0x3F then (b.mark i 0x0F).setCode i 8 else b

/-- No slot is left to try: Stranded with CODE 0x06 (R103), once the marks under way are in the NOR. -/
def State.noImage (s : State) : State :=
  if !s.boot.order.isEmpty then s
  else
    let s := s.noteFailure 0x06 false
    if s.boot.writes.isEmpty then s.strand else s

/-- The free value of the slot-table writes that begin now. -/
def State.tableCut (s : State) : State := ({ s with boot := { s.boot with cut := s.fresh .unstated 0 } }).used

/-- FLASH_RESET_DONE (R99, R103, R106, R601) at an RTC time: the store port's tap and clock, the table copy in use, the TRIAL
marks and the slots to try. -/
def execFlashResetDone (s : State) (taps : Nat := 0) (sfdpKhz : Nat := 0) (rtcNs : Nat := 0) : Host.Outcome State Fault Refusal :=
  .next (if s.mode = .boot ∧ s.boot.step = 2 then
    let s := (s.rtcRuns rtcNs).tableCut
    let b := { s.boot with step := 4, cs0 := storePort taps sfdpKhz, tableCopy := if s.boot.table0.valid then 0 else 1 }
    let order := b.tryOrder
    let b := (b.dropTrial 0).dropTrial 1
    ({ s with boot := { b with order := order } }).noImage
    else s)

/-- The digest of a signer in the compare registers of the boot ROM (R86). -/
def Otp.bootDigest (o : Otp) (signer : Nat) : Option Nat := if signer = 0 then o.digest0 else o.digest1

/-- IMAGE_CHECKED (R101 to R103) at an RTC time, `readFails` where CS0 could not be read: the check of the slot at the head of the
order; no step is taken while a mark is under way. -/
def execImageChecked (slot : Nat) (readFails : Bool) (s : State) (rtcNs : Nat := 0) : Host.Outcome State Fault Refusal :=
  .next (if s.mode = .boot ∧ s.boot.step = 4 ∧ s.boot.order.head? = some slot ∧ s.boot.writes.isEmpty = true then
    let s := (s.rtcRuns rtcNs).tableCut
    let b := s.boot
    let code := if readFails ∨ b.cs0.khz = 0 then 9 else s.checkSlot slot s.otp.bootDigest
    if code = 0 then
      let b := if b.stateCode slot = 0x7F then b.mark slot 0x3F else b
      { s with boot := { b with step := 5, running := slot, order := [] } }
    else
      let b := (if code = 9 then b else b.mark slot 0x0F).setCode slot code
      ({ s with boot := { b with order := b.order.drop 1 } }).noImage
    else s)

/-- IMAGE_START (R103, R104, R106): not before the TRIAL mark is in the NOR. -/
def execImageStart (s : State) : Host.Outcome State Fault Refusal :=
  .next (if s.mode = .boot ∧ s.boot.step = 5 ∧ s.boot.writes.isEmpty = true then
    { s with boot := { s.boot with step := 6, watchdogArmed := true, watchdogPaused := false, written := 0 } } else s)

/-- The first slot-table write under way has been read back (R99): a CONFIRMED mark in copy 0 is recorded (R104), and a Boot with
no image left ends. -/
def State.tableWritten (s : State) : State :=
  match s.boot.writes with
  | [] => s
  | w :: rest =>
    let s := { s with boot := { s.boot.written1 w with writes := rest } }
    let s : State := match w with
      | .mark 0 slot 0x1F => s.record 0x03 2 ([byte slot, 0, 0, 0] ++ leBytes 4 (s.boot.sequence slot))
      | _ => s
    if s.mode = .boot ∧ s.boot.step = 4 ∧ rest.isEmpty = true ∧ s.boot.order.isEmpty = true then s.strand else s

/-- A slot-table write of an order fails: what it left stays, and the writes after it are not made. -/
def State.tableFailed (s : State) : State :=
  match s.boot.writes with
  | [] => s
  | w :: _ => { s with boot := { s.boot.cutWrite w with writes := [] } }

/-! ### OTP orders -/

/-- The answer of OTP.READ (R518). (DEDUCED, log 72) -/
def State.otpReadDone (s : State) (q : Req) : State :=
  let n := q.u 1 1
  let ws := countFrom n (q.u 0 1)
  let bad := (ws.filter fun w => decide (s.otpStatus w = 3)).length
  (s.raiseTimes bad 280).reply q .ok ([byte n, 0, 0, 0] ++ padTo 64 (ws.map fun w => byte (s.otpStatus w))
    ++ (ws.map fun w => leBytes 4 (s.otpValue w)).flatten)

/-- OTP.READ (R518): amid the programming of a word it waits for the end of that word (R96). -/
def execOtpRead (mb : Nat) (s : State) : Host.Outcome State Fault Refusal :=
  .next (s.runOrder 0x0F01 mb fun q s =>
    let first := q.u 0 1
    let n := q.u 1 1
    if !q.lay 4 [(2, 2)] || 199 < first || n = 0 || 64 < n || 200 < first + n then s.refuse q .badArg
    else if s.otp.job.isSome then s.wait q .otpRead
    else s.otpReadDone q)

/-- The OTP.READ orders that waited for the end of a word are served (R96). -/
def State.serveOtpReads (s : State) : State :=
  (s.waiting.filter fun w => decide (w.what = .otpRead)).foldl
    (fun s w => (s.unwait w.mailbox).otpReadDone (s.request w.mailbox)) s

/-- Words OTP.PROGRAM may name (R91). -/
def programmable (w : Nat) : Bool := w = 4 || (8 ≤ w && w ≤ 39) || (128 ≤ w && w ≤ 191)

/-- The programming of a word begins: BEGUN is set first (R83); the fill of words 40 to 47 sets no state bit. -/
def State.otpBegin (s : State) (word value mb : Nat) (filling : Bool) : State :=
  let j : OtpJob := { word := word, value := value, mailbox := mb, filling := filling, cut := s.fresh .unstated 0 }
  let words := if filling then s.otp.words
    else Tab.upd {} s.otp.words word fun x => { x with cells := x.cells ||| stateCells 1 }
  ({ s with otp := { s.otp with job := some j, words := words } }).used

/-- OTP.PROGRAM (R91, R96, R519): the programming is an external write. -/
def execOtpProgram (mb : Nat) (s : State) : Host.Outcome State Fault Refusal :=
  .next (s.runOrder 0x0F02 mb fun q s =>
    let w := q.u 0 1
    if s.otp.job.isSome then s.refuse q .busy
    else if !q.lay 8 [(1, 3)] then s.refuse q .badArg
    else if s.otp.lifecycle ≠ 1 || !programmable w || !(s.otpAt w).blank then s.refuse q .locked
    else (s.otpBegin w (q.u 4 4) mb false).wait q .otpProgram)

/-- OTP.LIFECYCLE (R92, R520). -/
def execOtpLifecycle (mb : Nat) (s : State) : Host.Outcome State Fault Refusal :=
  .next (s.runOrder 0x0F03 mb fun q s =>
    let t := q.u 0 1
    let c := q.u 4 4
    let deploy := decide (s.lifecycleMarked = 1) && (s.fieldGood 8 8 || s.fieldGood 16 8) && s.fieldGood 32 8
      && decide (s.boot.header s.boot.running 6 2 < 2)
    if s.otp.job.isSome then s.refuse q .busy
    else if !q.lay 8 [(1, 3)] || (t ≠ 2 && t ≠ 3) || c ≠ (if t = 3 then 0x52455449 else 0) then s.refuse q .badArg
    else if (t = 2 && !deploy) || (t = 3 && s.lifecycleMarked ≠ 2) then s.refuse q .locked
    else (s.otpBegin (t - 1) 0x5A5AA5A5 mb false).wait q (.lifecycle t))

/-- The word under programming as its programming leaves it: sealed, or stopped at `stage` with the bits of `left` unset (R83, R94);
a fill leaves every bit that took set. -/
def OtpJob.result (j : OtpJob) (w : OtpWord) (ok : Bool) (stage left : Nat) : OtpWord :=
  let done := 0xFFFFFFFF ^^^ (left % 2 ^ 32)
  if j.filling then
    if ok then { w with primary := 0xFFFFFFFF, copy := 0xFFFFFFFF }
    else if stage = 0 then { w with primary := w.primary ||| done }
    else { w with primary := 0xFFFFFFFF, copy := w.copy ||| done }
  else if ok then { primary := j.value, copy := j.value, cells := w.cells ||| stateCells 4 }
  else w.stopped j.value stage done

/-- The word under programming is done: the array holds its result, the controller is free. -/
def State.otpEnd (s : State) (j : OtpJob) (ok : Bool) (stage left : Nat) : State :=
  let w := j.result (s.otpAt j.word) ok stage left
  let s := { s with otp := { s.otp with job := none, words := Tab.set {} s.otp.words j.word w } }
  if ok then s else s.raise 283 1 []

/-- The programming of OTP.PROGRAM ends (R94, R519). (DEDUCED, log 33) -/
def State.otpProgrammed (s : State) (mb : Nat) (ok : Bool) (stage left : Nat) : State :=
  match s.otp.job with
  | none => s
  | some j =>
    let s := s.otpEnd j ok stage left
    let st := (s.otpAt j.word).status
    let s := s.record 0x10 3 ([byte j.word, byte st, 0, 0] ++ leBytes 4 j.value)
    (s.finish mb (if ok then .ok else .uncorrectable) [byte st, 0, 0, 0]).serveOtpReads

/-- An orderly reset is scheduled once the response of mailbox `n` has been delivered (R520, R526). -/
def State.scheduleReset (s : State) (n transport : Nat) : State :=
  { s with power := { s.power with svcReset := some (if transport = 1 then 16 else n) } }

/-- OTP.LIFECYCLE is answered; a marked retirement resets the chip (R520). -/
def State.lifecycleAnswer (s : State) (mb target : Nat) (ok : Bool) : State :=
  let t := (s.request mb).transport
  let s := if ok then s.record 0x10 4 [byte (target - 1), byte target] else s
  let s := s.finish mb (if ok then .ok else .uncorrectable) (if ok then [byte s.lifecycleMarked, 0, 0, 0] else [])
  if target = 3 ∧ s.lifecycleMarked = 3 then s.scheduleReset mb t else s

/-- A word that OTP.LIFECYCLE programs is done (R92): the Retired marker is followed by the fill of words 40 to 47, each between two
services of OTP.READ (R96). (DEDUCED, log 33) -/
def State.lifecycleDone (s : State) (mb target : Nat) (ok : Bool) (stage left : Nat) : State :=
  match s.otp.job with
  | none => s
  | some j =>
    let s := (s.otpEnd j ok stage left).serveOtpReads
    let next := if j.filling then j.word + 1 else 40
    if ok ∧ target = 3 ∧ next < 48 then s.otpBegin next 0xFFFFFFFF mb true else s.lifecycleAnswer mb target ok

/-! ### Firmware orders -/

/-- The 16 bytes FW.STATUS gives of slot `i` (R521): signer, release and length are those of the header in the NOR. -/
def Boot.statusBytes (b : Boot) (i : Nat) : Bytes :=
  [byte (b.stateCode i), byte (if i = 0 then b.codeA else b.codeB), byte (b.header i 6 2), 0] ++ leBytes 4 (b.sequence i)
    ++ leBytes 4 (b.header i 0x14 4) ++ leBytes 4 (b.header i 8 4)

/-- FW.STATUS (R521). -/
def execFwStatus (mb : Nat) (s : State) : Host.Outcome State Fault Refusal :=
  .next (s.runOrder 0x1001 mb fun q s =>
    let b := s.boot
    if !q.lay 0 [] then s.refuse q .badArg
    else s.reply q .ok ([byte b.running, byte b.tableCopy, 0, 0] ++ b.statusBytes 0 ++ b.statusBytes 1 ++ leBytes 4 b.written))

/-- Is a CS0 order in progress: FW.WRITE, FW.COMMIT, or a commit's store write (R523)? -/
def State.cs0Busy (s : State) : Bool :=
  s.waiting.any fun w => match w.what with
    | .fwWrite _ _ _ | .fwCommit _ | .commitStore => true
    | _ => false

/-- A write of an image starts (R522): the slot is marked REJECTED in both copies, then WRITTEN is 0. -/
def State.startImage (s : State) (slot : Nat) : State :=
  let s := s.tableCut
  ({ s with boot := { s.boot.mark slot 0x0F with written := 0, writeSlot := slot, erased := 0 } }).record 0x03 4 [byte slot]

/-- FW.WRITE (R522): the marks of a first write, and the write with its read-back, are external writes. -/
def execFwWrite (mb : Nat) (s : State) : Host.Outcome State Fault Refusal :=
  .next (s.runOrder 0x1002 mb fun q s =>
    let slot := q.u 0 1
    let n := q.u 2 2
    let o := q.u 4 4
    if s.cs0Busy then s.refuse q .busy
    else if 1 < slot || n = 0 || 256 < n || !q.lay (8 + n) [(1, 1)] then s.refuse q .badArg
    else if slot = s.boot.running then s.refuse q .locked
    else if (o ≠ s.boot.written && o ≠ 0) || 0x300100 < o + n then s.refuse q .badArg
    else
      let s := if o = 0 then s.startImage slot else s
      s.wait q (.fwWrite slot o n))

/-- A 64 KiB block of a slot is erased, unless it has been since the start of the image (R522). -/
def Boot.eraseBlock (b : Boot) (slot blk : Nat) : Boot :=
  if bit b.erased blk then b
  else
    let b := b.setData slot fun t => t.filter fun e => decide (e.1 / 65536 ≠ blk)
    { b with erased := setBit b.erased blk true }

/-- The write of FW.WRITE is read back: the blocks it enters erased, its bytes, and WRITTEN (R522). -/
def State.fwWritten (s : State) (mb slot o n : Nat) : State :=
  let d := slice (s.request mb).payload 8 n
  let b := (s.boot.eraseBlock slot (o / 65536)).eraseBlock slot ((o + n - 1) / 65536)
  let b := b.setData slot fun t => (upto n).foldl (fun t i => Tab.set 0xFF t (o + i) (d.getD i 0).toNat) t
  ({ s with boot := { b with written := o + n } }).finish mb .ok (leBytes 4 (o + n))

/-- A step of FW.WRITE ends: a mark of the slot table, or the write itself. -/
def State.fwWriteStep (s : State) (mb slot o n : Nat) (ok : Bool) : State :=
  if !ok then s.tableFailed.finish mb .timeout []
  else if s.boot.writes.isEmpty then s.fwWritten mb slot o n
  else s.tableWritten

/-- CODE of FW.COMMIT (R105, R523): the written image against the signers accepted at that moment; `len` is the request's LENGTH. -/
def State.commitCode (s : State) (slot len : Nat) : Nat :=
  let b := s.boot
  if slot ≠ b.writeSlot ∨ slot = b.running ∨ len ≠ b.written ∨ len ≠ 256 + b.header slot 8 4 then 2
  else s.checkSlot slot fun signer => s.digestAt (8 + 8 * signer)

/-- The record of FW.COMMIT (class 0x03 EVENT 3). -/
def State.commitRecord (s : State) (slot code seq : Nat) : State :=
  s.record 0x03 3 ([byte slot, byte code, 0, 0] ++ leBytes 4 seq ++ leBytes 4 (s.boot.header slot 0x14 4))

/-- The table with a slot raised to WRITTEN under a sequence (R105); the other slot keeps its state. -/
def Boot.committedTable (b : Boot) (slot seq : Nat) : SlotTable :=
  let t := b.table
  let t := if slot = 0 then { t with sequenceA := seq, stateA := 0x7F, stateB := b.stateCode 1 }
    else { t with sequenceB := seq, stateB := 0x7F, stateA := b.stateCode 0 }
  { t with crc := crc32c t.body }

/-- FW.COMMIT (R105, R523): the rewrites of the table, copy 1 and then copy 0, are external writes. (DEDUCED, log 72) -/
def execFwCommit (mb : Nat) (s : State) : Host.Outcome State Fault Refusal :=
  .next (s.runOrder 0x1003 mb fun q s =>
    let slot := q.u 0 1
    if s.cs0Busy then s.refuse q .busy
    else if !q.lay 8 [(1, 3)] || 1 < slot then s.refuse q .badArg
    else if s.testFailed 2 || s.testFailed 3 then s.refuse q .locked
    else
      let code := s.commitCode slot (q.u 4 4)
      if code = 0 then
        let s := s.tableCut
        let t := s.boot.committedTable slot ((s.boot.sequence s.boot.running + 1) % 2 ^ 32)
        ({ s with boot := { s.boot with writes := s.boot.writes ++ [TableWrite.rewrite 1 t, TableWrite.rewrite 0 t] } }).wait q (.fwCommit slot)
      else (s.commitRecord slot code (s.boot.sequence slot)).reply q .badArg [byte code, 0, 0, 0])

/-- A rewrite of FW.COMMIT ends; with copy 0 the order is answered (R105, R523). -/
def State.fwCommitStep (s : State) (mb slot : Nat) (ok : Bool) : State :=
  if !ok then s.tableFailed.finish mb .timeout []
  else
    let s := s.tableWritten
    if s.boot.writes.isEmpty then
      let seq := s.boot.sequence slot
      (s.commitRecord slot 0 seq).finish mb .ok (leBytes 4 seq ++ leBytes 4 (s.boot.header slot 0x14 4))
    else s

/-! ### Time and service orders -/

/-- TIME.GET (R524). -/
def execTimeGet (mb : Nat) (s : State) : Host.Outcome State Fault Refusal :=
  .next (s.runOrder 0x1101 mb fun q s =>
    if !q.lay 0 [] then s.refuse q .badArg
    else s.reply q .ok (leBytes 8 (if s.clocks.running then s.clocks.tideNs else s.retained.rtcNs) ++ leBytes 4 s.clocks.epoch ++ leBytes 4 s.clocks.epochHi
      ++ [byte s.eth.rtcState, 0, 0, 0] ++ leBytes 4 (toU 32 s.eth.offset) ++ leBytes 8 s.shelfRtcAlarm))

/-- May the session of a TIME.SET name its time: an earlier one asks for a service session (R525)? -/
def mayStepBack (q : Req) (s : State) : Bool := decide (s.retained.rtcNs ≤ q.u 0 8) || decide (2 ≤ (s.sesAt q.session).privilege)

/-- TIME.SET (R525): the RTC takes the value at the next tide boundary. -/
def execTimeSet (mb : Nat) (s : State) : Host.Outcome State Fault Refusal :=
  .next (s.runOrderWith 0x1102 mb mayStepBack anyRequest fun q s =>
    if !q.lay 8 [] then s.refuse q .badArg
    else if s.eth.rtcState = 1 then s.refuse q .locked
    else s.wait q (.timeSet (q.u 0 8)))

/-- SVC.RESET (R526). -/
def execSvcReset (mb : Nat) (s : State) : Host.Outcome State Fault Refusal :=
  .next (s.runOrder 0x1201 mb fun q s =>
    if !q.lay 8 [(4, 4)] || q.u 0 4 ≠ 0x54455352 then s.refuse q .badArg
    else (s.reply q .ok []).scheduleReset mb q.transport)

/-- SVC.BLOCKRESET (R527). -/
def execSvcBlockreset (mb : Nat) (s : State) : Host.Outcome State Fault Refusal :=
  .next (s.runOrder 0x1202 mb fun q s =>
    let b := q.u 0 1
    if b < 16 && !s.blockPowered b then s.refuse q .wrongMode
    else if !q.lay 4 [(1, 3)] || 15 < b then s.refuse q .badArg
    else (s.blockReset b).reply q .ok [])

end Sys2Proof.Machine
end

