-- ==== Sys2Proof/Machine/Sequencer.lean ====
section
/-! DEFINITION. Starts, the shorted high-side test, rises, clearances and the channel orders (R191 to R194, R246 to R254,
R265 to R268, R274, R275). -/
namespace Sys2Proof.Machine

/-! ### Shorted high-side test -/

/-- FAULT_CAUSE bits that only CHAN.UNLOCK and a chip reset clear (R197). -/
def causeKept : Nat := 0x52

/-- Step 1 of Table 7-9 on a phase whose VSP − VSN is `v` nV: the reference DAC code at which the sample lies within the window, the
last one where none does, and V0 in output-referred µV. (DEDUCED, log 67) -/
def State.measureV0 (s : State) (ch : Nat) (v : Int) : Nat × Option Nat :=
  match testSteps.find? fun r => inWindow (errorRaw r v) with
  | some r => (r, some (outReferred r (errorRaw r v) (s.chVsRatio ch)))
  | none => (65535, none)

/-- Step 1 and 2 of Table 7-9 on one phase, whose VSP − VSN is `v` nV: V0 measured, the probe level as trip level, PEN high, gates
low. -/
def State.testPhase (s : State) (k ch : Nat) (v : Int) : State :=
  let m := s.measureV0 ch v
  let p := probeLevel (m.2.getD 0) (s.target k) (s.chProbeLevel ch)
  let r := s.chVsRatio ch
  s.setChan ch fun c =>
    { (c.low .test) with
      pen := true, refCode := m.1, v0 := m.2, probe := p / 10000, suspect := false, tripped := false
      cause := c.cause &&& causeKept
      thr := { c.thr with trip := voltageCode p r } }

/-- SUSPECT map of an output, phase i in bit i. -/
def State.suspectMap (s : State) (k : Nat) : Nat :=
  listMap ((upto 16).filter fun i => decide (i < s.outPhases k) && (s.chanAt (s.lead k + i)).suspect)

/-- Did a phase fail the test: its comparator tripped, SUSPECT, or V0 not measurable (R192)? -/
def Chan.shorted (c : Chan) : Bool := c.tripped || c.suspect || c.v0.isNone

/-- A failed phase (R193): its FAULT_CAUSE bits, and the events of its source. `offset` names a mean beyond ±64 codes. -/
def State.failPhase (s : State) (ch : Nat) (offset : Bool) : State :=
  let c := s.chanAt ch
  let s := s.setChan ch fun c =>
    { c with cause := c.cause ||| (2 * b2n c.shorted) ||| (64 * b2n c.suspect) ||| (4 * b2n c.v0.isNone) ||| (16 * b2n offset) }
  let s := if c.shorted then s.raiseChan ch 3 c.thr.trip else s
  if offset then s.raiseChan ch 4 0 else s

/-- The test of output `k` fails (R193): every phase low and locked out, STATE 6, LAST_STOP 6, record and events. -/
def State.lockout (s : State) (k : Nat) (offset : Nat → Bool) : State :=
  let lead := s.chanAt (s.lead k)
  let items := [byte k, 0] ++ leBytes 2 (s.suspectMap k) ++ leSat 4 (lead.v0.getD 0xFFFFFFFF) ++ leSat 4 lead.probe
  let s := s.setOut k fun o => o.halt 6 6 s.budget.tides
  let s := s.each (s.phases k) fun s c => s.failPhase c (offset c)
  let s := s.each (s.phases k) fun s c => (s.setChan c (Chan.low .lockedOut)).setTrip k c
  (s.record 0x09 1 items).settle

/-- START_DELAY_EXPIRY (R250): `volts` gives VSP − VSN of each phase in nV while step 1 of Table 7-9 measures it. -/
def execStartDelayExpiry (out : Nat) (volts : List Int) (s : State) : Host.Outcome State Fault Refusal :=
  .next (if s.outEnable out = 1 ∧ (s.outAt out).state = 1 ∧ (s.outAt out).phase = .delay ∧ s.startOk out = true then
    let s := s.setOut out fun o => { o with state := 2, phase := .testing }
    let s := s.each (upto (s.phases out).length) fun s i => s.testPhase out (s.lead out + i) (volts.getD i 0)
    if (s.phases out).any fun c => (s.chanAt c).v0.isNone then s.lockout out fun _ => false else s
    else s)

/-- HS_TEST_TRIP (R191, step 3). -/
def execHsTestTrip (ch : Nat) (s : State) : Host.Outcome State Fault Refusal :=
  .next (match s.outputOf ch with
    | some k =>
      if (s.chanAt ch).state = .test ∧ (s.outAt k).phase = .testing then
        (s.setChan ch fun c => { c with tripped := true }).lockout k fun _ => false
      else s
    | none => s)

/-- Step 4 of Table 7-9: the sum of the last 256 current codes of a phase, from its samples of ISP − ISN in nV, and its SUSPECT
mark. (DEDUCED, log 67) -/
def State.testMeasure (s : State) (ch : Nat) (samples : List Int) : State :=
  let sum := sumI (samples.map currentAdc)
  let i := currentMa (testMean sum) 0 (s.chIsTransr ch)
  let sus := decide (s.chOcpLimit ch * 5 < i.natAbs * 100)
  s.setChan ch fun c => { c with testSum := sum, suspect := sus }

/-- Is the offset of a phase beyond ±64 codes (R192)? -/
def State.offsetBad (s : State) (ch : Nat) : Bool := decide (64 < (testMean (s.chanAt ch).testSum).natAbs)

/-- Profile and compensator of an output at step 5 (R208, R217). -/
def Out.begin_ (o : Out) (v0 : Nat) (preset : Int) : Out :=
  { o with
    phase := .rising, inHold := false, holdUs := 0
    prof := { o.prof with x := v0 * 2 ^ 16, v := 0, a := 0, brake := false, state := .moving, target := 0 }
    comp := { ist := preset, dst := 0, u := preset, ePrev := o.comp.ePrev, rejRun := 0, first := true } }

/-- A phase is handed over at step 5: trip level restored, IS_OFFSET stored, share and Ī zero, duty from u (R208). -/
def State.startPhase (s : State) (k ch : Nat) (u : Int) : State :=
  let co := (s.chanAt ch).coef
  let d := phaseDuty u 0 co.dMin co.dMax
  let t := s.tripCode k ch
  s.setChan ch fun c =>
    { c with
      state := .switching, thr := { c.thr with trip := t }, isOffset := testMean c.testSum, share := 0, curMean := 0
      curSum := 0, curCount := 0, cutInterval := false, duty := d, shadow := d, shadowOld := d }

/-- The phases of output `k` as step 5 hands them over. -/
def State.startPhases (s : State) (k : Nat) (u : Int) : State := s.each (s.phases k) fun s c => s.startPhase k c u

/-- INT_PRESET of an output's lead, a number of duty LSB with 11 fraction bits (Table 8-7). -/
def State.presetOf (s : State) (k : Nat) : Int := (s.chanAt (s.lead k)).coef.intPreset

/-- Reference code and overshoot levels of a phase from the present set-point (R165, R183). -/
def State.refreshPhase (s : State) (k ch : Nat) : State :=
  let v := s.vsp k
  let r := s.chVsRatio ch
  let clipped := decide (65535 < refCodeRaw v r)
  let fresh := clipped && !bit (s.chanAt ch).cause 5
  let os := voltageCode (levelAbove v (s.chOsLevel ch)) r
  let rel := voltageCode (levelAbove v (s.chOsRelease ch)) r
  let s := s.setChan ch fun c =>
    { c with
      refCode := refCode v r, thr := { c.thr with overshoot := os, release := rel }
      cause := if clipped then setBit c.cause 5 true else c.cause }
  if fresh then s.raiseChan ch 10 (refCode v r) else s

/-- HS_TEST_END (R191, steps 4 and 5): `samples` gives the last 256 samples of ISP − ISN of each phase, in nV. At the hand-over the
reference and the levels take V0 (R217). (DEDUCED, log 67) -/
def execHsTestEnd (out : Nat) (samples : List (List Int)) (s : State) : Host.Outcome State Fault Refusal :=
  .next (if s.token = true ∧ (s.outAt out).state = 2 ∧ (s.outAt out).phase = .testing then
    let s := s.each (upto (s.phases out).length) fun s i => s.testMeasure (s.lead out + i) (samples.getD i [])
    let bad (c : Nat) : Bool := s.offsetBad c
    if (s.phases out).any fun c => (s.chanAt c).suspect || bad c then s.lockout out bad
    else
      let s := s.swapBanks out
      let u := s.presetOf out
      let v0 := ((s.chanAt (s.lead out)).v0).getD 0
      let s := (s.startPhases out u).setOut out fun o => o.begin_ v0 u
      s.each (s.phases out) fun s c => s.refreshPhase out c
    else s)

/-- RISE_DEADLINE_EXPIRY (R251). -/
def execRiseDeadlineExpiry (out : Nat) (s : State) : Host.Outcome State Fault Refusal :=
  .next (if (s.outAt out).state = 2 ∧ (s.outAt out).phase = .rising then (s.failOut out 3 true).settle else s)

/-! ### Clearance -/

/-- RESTART_CLEARANCE (R265): by the warden, at a tide boundary that falls `sinceUs` after the stop; the tides counted since then
bound that time. -/
def execRestartClearance (out : Nat) (s : State) (sinceUs : Nat := 0) : Host.Outcome State Fault Refusal :=
  let o := s.outAt out
  let most := (s.budget.tides - o.stopTide) * 1000
  .next (if s.outEnable out = 1 ∧ o.state = 4 ∧ s.outRestart out = 1 ∧ (o.lastStop = 2 ∨ o.lastStop = 3 ∨ o.lastStop = 7)
      ∧ 0 < o.triesLeft ∧ s.outRestartDelay out ≤ sinceUs ∧ sinceUs ≤ most ∧ most ≤ sinceUs + 1000
      ∧ s.mode ≠ .safeHold ∧ s.wardenRuns = true then
    ((s.setOut out fun o => { o with triesLeft := o.triesLeft - 1 }).clearOut out 0).settle
    else s)

/-- TRIES_RESTORE (R265): 60 s in STATE 3. -/
def execTriesRestore (out : Nat) (s : State) : Host.Outcome State Fault Refusal :=
  .next (if (s.outAt out).state = 3 ∧ 60000 ≤ (s.outAt out).goodTides ∧ s.wardenRuns = true then
    let t := s.outRestartTries out
    s.setOut out fun o => { o with triesLeft := t } else s)

/-! ### Orders -/

/-- Does a map of outputs name only enabled ones, and at least one? -/
def State.mapEnabled (s : State) (m : Nat) : Bool := decide (m ≠ 0) && (mapList 128 m).all fun k => s.outEnable k = 1

/-- CHAN.UNLOCK (R194). -/
def execChanUnlock (mb : Nat) (s : State) : Host.Outcome State Fault Refusal :=
  .next (s.runOrder 0x0401 mb fun q s =>
    let k := q.u 0 1
    if !q.lay 4 [(1, 3)] || 127 < k || (s.outAt k).state ≠ 6 then s.refuse q .badArg
    else
      let st := s.idleState
      let s := s.each (s.phases k) fun s c => s.setChan c fun x =>
        { (x.low st) with cause := x.cause &&& 0x2D, suspect := false, tripped := false }
      let s := (s.setOut k fun o => { o with state := 0, phase := .none }).record 0x09 5 [byte k]
      (s.settle).reply q .ok [])

/-- CHAN.START (R267, R274): effect at a tide boundary (R275). -/
def execChanStart (mb : Nat) (s : State) : Host.Outcome State Fault Refusal :=
  .next (s.runOrder 0x0406 mb fun q s =>
    let m := q.u 0 16
    if !q.lay 16 [] || !s.mapEnabled m then s.refuse q .badArg
    else if (mapList 128 m).any fun k => (s.outAt k).state = 6 then s.refuse q .locked
    else s.wait q (.chanStart m))

/-- CHAN.STOP (R253, R274): effect at a tide boundary (R275). (DEDUCED, log 68) -/
def execChanStop (mb : Nat) (s : State) : Host.Outcome State Fault Refusal :=
  .next (s.runOrder 0x0407 mb fun q s =>
    let m := q.u 0 16
    if !q.lay 20 [(17, 3)] || 1 < q.u 16 1 then s.refuse q .badArg
    else s.wait q (.chanStop m (q.u 16 1)))

/-- CHAN.CLEAR (R266, R274): effect at a tide boundary (R275). -/
def execChanClear (mb : Nat) (s : State) : Host.Outcome State Fault Refusal :=
  .next (s.runOrder 0x0408 mb fun q s =>
    let m := q.u 0 16
    if !q.lay 16 [] || !s.mapEnabled m || (mapList 128 m).any fun k => (s.outAt k).state ≠ 4 then s.refuse q .badArg
    else s.wait q (.chanClear m))

/-- CHAN.START takes effect: WANTED on each named output, HELD names those in STATE 4 (R267). -/
def State.chanStarted (s : State) (mb m : Nat) : State :=
  let named := mapList 128 m
  if named.any fun k => (s.outAt k).state = 6 then s.finish mb .locked []
  else
    let held := named.filter fun k => decide ((s.outAt k).state = 4)
    ((s.each named State.want).settle).finish mb .ok (leBytes 16 (listMap held))

/-- A named output stops: in order, or off at once (R274), with LAST_STOP 1; a shed one that still ramps ends its ramp. -/
def State.stopNamed (s : State) (how k : Nat) : State :=
  if how = 0 then s.orderStop k 1
  else if (s.outAt k).live then s.forceOut k 0 1 true
  else if (s.outAt k).state = 1 then s.setOut k fun o => { o with state := 0, phase := .none }
  else if (s.outAt k).driven then s.endRamp k
  else s

/-- A dependant of a named output stops, with LAST_STOP 4: in order, or off at once as one whose prerequisite was forced off
(R254, R274). (DEDUCED, log 68) -/
def State.stopDependant (s : State) (how k : Nat) : State := if how = 0 then s.orderStop k 4 else s.forceDependant k

/-- CHAN.STOP takes effect. -/
def State.chanStopped (s : State) (mb m how : Nat) : State :=
  let named := (mapList 128 m).filter fun k => decide (s.outEnable k = 1)
  let deps := s.dependants named
  let s := s.each (named ++ deps) fun s k => s.setOut k fun o => { o with wanted := false }
  let s := s.each named (fun s k => s.stopNamed how k)
  let s := s.each deps (fun s k => s.stopDependant how k)
  (s.settle).finish mb .ok (leBytes 16 (listMap (named ++ deps)))

/-- CHAN.CLEAR takes effect: cleared at once, tries restored (R266). -/
def State.chanCleared (s : State) (mb m : Nat) : State :=
  let s := s.each ((mapList 128 m).filter fun k => decide ((s.outAt k).state = 4)) fun s k =>
    let t := s.outRestartTries k
    (s.setOut k fun o => { o with triesLeft := t }).clearOut k 1
  (s.settle).finish mb .ok []

/-- SCAN_STATUS of CHAN.SEQSTATUS. -/
def State.scanStatus (s : State) : Nat := b2n s.scan.withheld + 2 * b2n (s.held 8)

/-- CHAN.SEQSTATUS (R274), of the last sealed epoch. -/
def execChanSeqstatus (mb : Nat) (s : State) : Host.Outcome State Fault Refusal :=
  .next (s.runOrder 0x0409 mb fun q s =>
    if !q.lay 0 [] then s.refuse q .badArg
    else
      let o (k : Nat) : Out := Tab.get {} s.sealedView.out k
      s.replySealed q (((upto 128).map fun k => byte (o k).state) ++ ((upto 128).map fun k => byte (o k).lastStop)
        ++ leBytes 16 (mapWhere 128 fun k => (o k).wanted)
        ++ ((upto 64).map fun i => byte ((o (2 * i)).triesLeft % 16 + (o (2 * i + 1)).triesLeft % 16 * 16))
        ++ [byte s.sealedView.scanStatus, 0, 0, 0]))

/-- CHAN.SCANREAD (R274), of the last sealed epoch. -/
def execChanScanread (mb : Nat) (s : State) : Host.Outcome State Fault Refusal :=
  .next (s.runOrder 0x040A mb fun q s =>
    let p := q.u 0 1
    if !q.lay 4 [(1, 3)] || 3 < p then s.refuse q .badArg
    else
      let v := s.sealedView
      s.replySealed q ((countFrom 128 (128 * p)).map fun i =>
        leBytes 2 (Tab.get 0 v.scanCodes i + Tab.get 0 v.scanFlags i * 4096)).flatten)

end Sys2Proof.Machine
end

