-- ==== Sys2Proof/Machine/Channel.lean ====
section
/-! DEFINITION. The timebase and the comparators of a channel (R172 to R190). PERIOD_START
lays out the waveform of its period (Table 7-4); a command that acts within the period says when, in timebase LSB after its start. A
channel's pins stand as of its last timed command. -/
namespace Sys2Proof.Machine

/-- Does a channel run, or on the controller without the token its partner's channel, not forced off here (R190)? The comparators
of a channel of no enabled output act on nothing (R161), and a quadrant held in reset runs none (R27). -/
def State.chanRuns (s : State) (ch : Nat) : Bool :=
  let c := s.chanAt ch
  (s.outputOf ch).isSome && !s.quadrantHeld (quadrant ch)
    && (c.state = .switching || (!s.token && c.state ≠ .forcedOff && (c.mirState = 2 || c.mirState = 3)))

/-- Is a channel of Feeder class (R161)? -/
def State.feeder (s : State) (ch : Nat) : Bool :=
  match s.outputOf ch with
  | some k => s.outClass k = 1
  | none => false

/-- The waveform of the present period from an instant on. Without the token it drives no gate (R190). -/
def State.gates (s : State) (ch : Nat) (d : Drive) (at_ : Nat) : State :=
  s.setChan ch fun c => { c with drive := d, now := at_ }

/-- The pulse of the present period ends at an instant: PWML follows DT_FALL later (R181, R185). -/
def State.endPulse (s : State) (ch at_ : Nat) : State :=
  let fall := s.chDtFall ch
  s.setChan ch fun c =>
    match c.drive with
    | .pulse r _ _ => { c with drive := .pulse r at_ (at_ + fall), now := at_ }
    | _ => c

/-- Does the blanking of the current comparator last at an instant (R181)? -/
def State.blanked (s : State) (ch at_ : Nat) : Bool :=
  match (s.chanAt ch).drive with
  | .pulse r _ _ => decide (at_ < r + s.chLeb ch)
  | _ => true

/-- A trigger condition of a channel reaches its cluster's capture (R238). -/
def State.chanTrigger (s : State) (ch cond : Nat) : State := s.signalTrigger (quadrant ch) cond (some ch)

/-- A phase of the output had its pulse cut in this tide (R277). -/
def State.noteLimited (s : State) (ch : Nat) : State :=
  match s.outputOf ch with
  | some k => s.setOut k fun o => { o with limited := true }
  | none => s

/-! ### Engines (R177, R199) -/

/-- The engine of a channel: engine n of its cluster serves channels 32q + 4n to 32q + 4n + 3 (R14). -/
def State.engineAt (s : State) (ch : Nat) : Engine := Tab.get {} (s.clusterAt (quadrant ch)).engines (ch % 32 / 4)

/-- The engine of a channel goes through `f`. -/
def State.setEngine (s : State) (ch : Nat) (f : Engine → Engine) : State :=
  s.setCluster (quadrant ch) fun x => { x with engines := Tab.upd {} x.engines (ch % 32 / 4) f }

/-- A sample of a past period is not served any more. -/
def State.dropReady (s : State) (ch : Nat) : State :=
  s.setEngine ch fun e => { e with ready := e.ready.filter fun x => decide (x.ch ≠ ch) }

/-! ### Periods and comparators -/

/-- What a period start carries over (R175, R181, R182, R205): the working duty word, `late` where the last word came too late for it,
the cut of the period that ends, the run of cut periods. -/
def Chan.nextPeriod (late : Bool) (start : Nat) (c : Chan) : Chan :=
  { c with
    periods := c.periods + 1, tStart := start, now := 0, working := if late then c.shadowOld else c.shadow
    shadowOld := c.shadow, sampleAt := none
    cutPrev := c.cutNow, cutNow := false, ocpNow := false
    ocpRun := if c.ocpNow then c.ocpRun else 0, ocpRaised := c.ocpRaised && c.ocpNow
    cutInterval := c.cutInterval || c.cutNow || c.cutPrev
    tide := { c.tide with cut := c.tide.cut || c.cutNow, braking := c.tide.braking || c.braking } }

/-- The sample instant of the present period, where the period is on the evaluation grid (R176, R198). -/
def State.placeSample (s : State) (ch : Nat) : State :=
  let grid := onGrid (s.chPeriod ch) (decide (s.chSlotDonor ch ≠ 255))
  let at_ := sampleInstant (s.chSampleMode ch) (s.chSamplePos ch) (s.chPeriod ch) (s.chDtRise ch)
  s.setChan ch fun c => { c with sampleAt := if grid (c.periods - 1) then some (c.tStart + at_ c.tOn) else none }

/-- The waveform of a period that begins (R172 to R174, R184, R185): none while braking, none but PWML where a Feeder skips. -/
def State.beginPeriod (s : State) (ch : Nat) (above : Bool) : State :=
  let c := s.chanAt ch
  if c.braking then (s.setChan ch fun c => { c with cutNow := true, tOn := 0 }).gates ch .off 0
  else if s.feeder ch && (above || !c.belowRelease) then
    ((s.setChan ch fun c =>
      { c with cutNow := true, tOn := 0, osCount := (c.osCount + 1) % 2 ^ 32 }).gates ch .lowOn 0).chanTrigger ch 3
  else
    let t := onTimeLimited c.working (s.chPeriod ch) (s.chDtRise ch) (s.chDtFall ch)
    (s.setChan ch fun c => { c with tOn := t }).gates ch (periodDrive t (s.chDtRise ch) (s.chDtFall ch)) 0

/-- PERIOD_START (R170 to R176, R184, R185), of every channel, whether it switches or not: `above` says that VSP − VSN lies above the
overshoot level, `late` that the last duty word reached the timebase less than 2.5 ns before. (DESIGN CHOICE, log 70) -/
def execPeriodStart (ch : Nat) (above : Bool) (s : State) (late : Bool := false) : Host.Outcome State Fault Refusal :=
  .next (if s.mode.firmware && decide (ch < 128) then
    let start := periodStart (s.chPhase ch) (s.chPeriod ch) (s.chanAt ch).periods
    let runs := s.chanRuns ch
    let s := (s.setChan ch (Chan.nextPeriod late start)).dropReady ch
    if runs then (s.beginPeriod ch above).placeSample ch else s
    else s)

/-- CURRENT_CUT (R181, R189), `at_` timebase LSB after the period start: after blanking, while PWMH is high.
(DESIGN CHOICE, log 70) -/
def execCurrentCut (ch : Nat) (s : State) (at_ : Nat := 0) : Host.Outcome State Fault Refusal :=
  .next (if s.chanRuns ch && (s.chanAt ch).drive.high at_ && !s.blanked ch at_ then
    ((((s.setChan ch fun c =>
      { c with ocpCount := (c.ocpCount + 1) % 2 ^ 32, ocpNow := true, cutNow := true, ocpRun := c.ocpRun + 1,
                tide := { c.tide with cuts := c.tide.cuts + 1, cut := true } }).endPulse ch at_).chanTrigger ch 2).noteLimited ch)
    else s)

/-- Does a current code lie beyond the sink limit (R182)? -/
def State.beyondSink (s : State) (ch : Nat) (code : Int) : Bool :=
  let i := currentMa code (s.chanAt ch).isOffset (s.chIsTransr ch)
  let most := currentMa (-2048) (s.chanAt ch).isOffset (s.chIsTransr ch)
  let lim : Int := s.chSinkLimit ch
  decide (i < -lim) || (decide (code ≤ -2048) && decide (-lim ≤ most))

/-- SINK_LIMIT (R182): a sample of ISP − ISN, in nV, while PWML is high. (DESIGN CHOICE, log 70) -/
def execSinkLimit (ch : Nat) (current : Int) (s : State) (at_ : Nat := 0) : Host.Outcome State Fault Refusal :=
  .next (if s.chanRuns ch && (s.chanAt ch).drive.low at_ && s.beyondSink ch (currentAdc current) then s.gates ch .off at_ else s)

/-- OVERSHOOT (R184, R185): a Rail channel brakes where braking is armed, a Feeder channel truncates its pulse.
(DESIGN CHOICE, log 70) -/
def execOvershoot (ch : Nat) (s : State) (at_ : Nat := 0) : Host.Outcome State Fault Refusal :=
  let c := s.chanAt ch
  .next (if !s.chanRuns ch then s
    else if s.feeder ch then
      if c.drive.high at_ then
        ((s.setChan ch fun c =>
          { c with osCount := (c.osCount + 1) % 2 ^ 32, cutNow := true, belowRelease := false }).endPulse ch at_).chanTrigger ch 3
      else s
    else if c.brakeArmed && !c.braking then
      ((s.setChan ch fun c =>
        { c with
          osCount := (c.osCount + 1) % 2 ^ 32, braking := true, brakeArmed := false, cutNow := true, brakeAt := c.tStart + at_
          belowRelease := false, tide := { c.tide with braking := true, cut := true } }).gates ch .off at_).chanTrigger ch 3
    else s)

/-- Braking is released (R184): PWML high until the next period start. -/
def State.releaseBrake (s : State) (ch : Nat) : State :=
  (s.setChan ch fun c => { c with braking := false }).gates ch .lowOn (s.chanAt ch).now

/-- Is a current sample, in nV, at or below 0 mA (R184)? -/
def State.zeroCurrent (s : State) (ch : Nat) (current : Int) : Bool :=
  decide (currentMa (currentAdc current) (s.chanAt ch).isOffset (s.chIsTransr ch) ≤ 0)

/-- BRAKE_RELEASE (R184): `below` names the fall below the release level, otherwise a sample of ISP − ISN in nV. The fall arms
braking again and ends the skipping of R185. (DESIGN CHOICE, log 70) -/
def execBrakeRelease (ch : Nat) (below : Bool) (s : State) (current : Int := 0) : Host.Outcome State Fault Refusal :=
  .next (if s.chanRuns ch then
    let s := if (s.chanAt ch).braking && (below || s.zeroCurrent ch current) then s.releaseBrake ch else s
    if below then s.setChan ch fun c => { c with belowRelease := true, brakeArmed := true } else s
    else s)

/-- BRAKE_TIMEOUT (R184), `at_` timebase LSB after the present period start: BRAKE_MAX has passed since braking began. The event of
class 4 makes a capsule (R244). -/
def execBrakeTimeout (ch : Nat) (s : State) (at_ : Nat := 0) : Host.Outcome State Fault Refusal :=
  let c := s.chanAt ch
  .next (if s.chanRuns ch && c.braking && decide (c.brakeAt + s.chBrakeMax ch * 51200 ≤ c.tStart + at_) then
    ((s.releaseBrake ch).setChan ch fun c => { c with brakeTimeouts := (c.brakeTimeouts + 1) % 2 ^ 32, now := at_ }).capsuleEvent ch 4
    else s)

/-- A channel is forced off (R186 to R188, R190): its cause, its event, its output stopped with its dependants; without
the token its phases count as forced off here and the active is told. (DEDUCED, log 67) -/
def State.forceChannel (s : State) (ch causeBit event code : Nat) (cap : Option Nat) : State :=
  let s := s.setChan ch fun c => { c with cause := setBit c.cause causeBit true }
  let s := s.chanFault ch event code cap
  match s.outputOf ch with
  | some k =>
    if s.token then (s.each (s.phases k) fun s c => s.chanTrigger c 6).phaseForced k |>.settle
    else (s.each (s.phases k) fun s c => s.setChan c (Chan.lowUnlessLocked .forcedOff)).peerEvent 1
      ([byte ch] ++ leBytes 2 (s.chanAt ch).cause)
  | none => s

/-- Does the trip comparator act on a channel: one of an enabled output, outside the shorted high-side test and not forced off or
locked out already (R161, R186, R189)? -/
def State.tripActs (s : State) (ch : Nat) : Bool :=
  let c := s.chanAt ch
  s.mode.firmware && (s.outputOf ch).isSome && !s.quadrantHeld (quadrant ch)
    && c.state ≠ .test && c.state ≠ .forcedOff && c.state ≠ .lockedOut

/-- OV_TRIP (R186). (DEDUCED, log 67) -/
def execOvTrip (ch : Nat) (s : State) : Host.Outcome State Fault Refusal :=
  .next (if s.tripActs ch then s.forceChannel ch 2 2 (s.chanAt ch).thr.trip (some 0) else s)

/-- FLT_N (R187): low for 20 ns, or, with `low` false, high for 10 µs. (DEDUCED, log 67; DESIGN CHOICE, log 70) -/
def execFltN (ch : Nat) (low : Bool) (s : State) : Host.Outcome State Fault Refusal :=
  let s := s.setChan ch fun c => { c with flt := low }
  .next (if !s.mode.firmware || (s.outputOf ch).isNone then s
    else if low then (s.condition ch true).forceChannel ch 0 1 0 (some 1)
    else
      let c := s.chanAt ch
      (s.condition ch (c.tempWarn || c.tempFault)).settle)

/-- OCP_PERSIST (R181). -/
def execOcpPersist (ch : Nat) (s : State) : Host.Outcome State Fault Refusal :=
  let c := s.chanAt ch
  let n := s.chOcpPersist ch
  .next (if s.chanRuns ch && decide (n ≠ 0) && decide (n ≤ c.ocpRun) && !c.ocpRaised then
    (s.setChan ch fun c => { c with cause := setBit c.cause 3 true, ocpRaised := true }).chanFault ch 5 c.thr.current (some 2)
    else s)

end Sys2Proof.Machine
end

