-- ==== Sys2Proof/Machine/Loop.lean ====
section
/-! DEFINITION. Loop evaluations (R198 to R222) and the 10 µs accumulations of a cluster (R212, R276, R280). -/
namespace Sys2Proof.Machine

/-! ### What an evaluation reads -/

/-- The coefficients in force for a channel (R220); those of the lead for its output (R210). -/
def State.coef (s : State) (ch : Nat) : Coeffs := (s.chanAt ch).coef

/-- The flag cut of R205. -/
def State.cutOf (s : State) (k : Nat) : Bool := (s.phases k).any fun c => (s.chanAt c).cutNow || (s.chanAt c).cutPrev

/-- CH_STATE by which a channel is evaluated and counted: its own, or on the standby the active's (R209, R264). -/
def State.runCode (s : State) (ch : Nat) : Nat := if s.token then (s.chanAt ch).code else (s.chanAt ch).mirState

/-- Does a channel switch, or shadow one that does? -/
def State.switches (s : State) (ch : Nat) : Bool := s.runCode ch = 2 || s.runCode ch = 3

/-- Is a channel evaluated now: it runs, its engine and converters too, and a sample of its present period is due (R198, R209)? -/
def State.evaluates (s : State) (ch : Nat) : Bool :=
  s.mode.firmware && !s.quadrantHeld (quadrant ch) && (s.outputOf ch).isSome && s.switches ch && (s.token || s.shadowing)
    && (s.chanAt ch).sampleAt.isSome

/-- Target of an output's generator (R213, R217, R253): the effective target while it runs, 0 once its stop ramps, and the
last target while the stop waits. The standby takes a stop that moves for one that ramps. -/
def State.profTarget (s : State) (k : Nat) : Nat :=
  let o := s.outAt k
  if s.token then
    if o.phase = .stopping then 0 else if o.phase = .stopPending then o.prof.target else s.target k
  else if o.state = 7 ∨ o.state = 5 then (if o.prof.state = .arrived then o.prof.target else 0)
  else s.target k

/-- The effective current limit of a channel, mA (R17). -/
def State.currentLimit (s : State) (ch : Nat) : Nat :=
  let cap := match s.outputOf ch with | some k => (s.outAt k).cap | none => none
  let l := s.chOcpLimit ch
  let l := match cap with | some c => min l c | none => l
  match (s.chanAt ch).clamp with | some c => min l c | none => l

/-! ### The correction of a standby -/

/-- A MIRROR frame's correction of a channel's words (R399). -/
def State.applyChanFix (s : State) (k ch : Nat) : State :=
  match Tab.get none s.sluice.fix ch with
  | none => s
  | some f =>
    let s := if ch = s.lead k then s.setOut k fun o =>
        { o with comp := { o.comp with
            ist := sat32 (o.comp.ist + f.ist), dst := sat32 (o.comp.dst + f.dst), u := sat32 (o.comp.u + f.u) } }
      else s
    let s := s.setChan ch fun c => { c with share := sat32 (c.share + f.share), curMean := f.ibar }
    { s with sluice := { s.sluice with fix := Tab.erase s.sluice.fix ch } }

/-- A MIRROR frame's correction of an output's profile (R399). -/
def State.applyOutFix (s : State) (k : Nat) : State :=
  match Tab.get none s.sluice.fixOut k with
  | none => s
  | some f =>
    let s := s.setOut k fun o =>
      { o with prof := { o.prof with
          x := satS 64 (o.prof.x + f.x), v := satS 64 (o.prof.v + f.v), a := satS 64 (o.prof.a + f.a)
          brake := bit f.profile 3, state := ProfState.ofCode (f.profile % 8) } }
    { s with sluice := { s.sluice with fixOut := Tab.erase s.sluice.fixOut k } }

/-- A MIRROR frame's correction of a channel before its evaluation, with its output's on the lead (R399). -/
def State.applyFix (s : State) (k ch : Nat) : State :=
  let s := s.applyChanFix k ch
  if ch = s.lead k then s.applyOutFix k else s

/-! ### The profile generator -/

/-- PROFILE_STATE after a step. -/
def profStateOf (tgt : Nat) (w : ProfWords) : ProfState :=
  if w.x = tgt * 2 ^ 16 ∧ w.v = 0 ∧ w.a = 0 then .arrived else if w.brake then .braking else .moving

/-- PROFILE_STEP (R213 to R215, R218): one step of an output's generator; `gaspNs` is the time since the entry into
Last-gasp. A new target clears the brake flag. -/
def State.profileStep (s : State) (k gaspNs : Nat) : State :=
  let p := (s.outAt k).prof
  if p.state = .lastGasp then
    let v := gaspSetPoint p.x0 gaspNs
    s.setOut k fun o => { o with prof := { o.prof with x := v * 2 ^ 16, v := 0, a := 0, brake := false } }
  else
    let tgt := s.profTarget k
    let brake := p.brake && decide (p.target = tgt)
    let f := s.coef (s.lead k)
    let w := profStep f.velLimit f.accLimit f.jerkLimit (stepQ32 (s.interval (s.lead k))) tgt
      { x := p.x, v := p.v, a := p.a, brake := brake }
    s.setOut k fun o =>
      { o with prof := { o.prof with
          x := w.x, v := w.v, a := w.a, brake := w.brake, target := tgt, state := profStateOf tgt w } }

/-- PROFILE_ARRIVAL (R217, R253): a stopping output that has arrived at 0 µV is off; a shed one keeps STATE 5. -/
def State.profileArrival (s : State) (k : Nat) : State :=
  let o := s.outAt k
  if s.token && o.phase = .stopping && o.prof.state = .arrived then
    let s := s.lowOutput k s.idleState
    let s := if o.state = 5 then s.setOut k fun o => { o with phase := .none, prof := { o.prof with state := .idle } }
      else s.setOut k fun o => o.halt 0 o.lastStop s.budget.tides
    s.settle.advanceShutdown
  else s

/-! ### Evaluation -/

/-- What an evaluation tells the trace (Table 9-6). -/
structure EvalNote where
  rejected : Bool
  sat : Bool
  inj : Bool
  p : Int
  deriving DecidableEq, Repr

/-- The rejection of a flagged sample on the lead (R204, R206): rejected, or used with a window exit at the end of the run. -/
def State.rejection (s : State) (k ch : Nat) (flag : Bool) : State × Bool :=
  let lead := s.lead k
  let n := if flag then min 255 ((s.outAt k).comp.rejRun + 1) else 0
  let s := s.setOut k fun o => { o with comp := { o.comp with rejRun := n } }
  let lim := (s.coef lead).rejectCount
  if flag ∧ n ≤ lim then
    (s.setChan ch fun c => { c with rejectTotal := (c.rejectTotal + 1) % 2 ^ 32, cyc := { c.cyc with rejected := true } }, true)
  else if flag ∧ n = lim + 1 then
    (((s.setChan ch fun c => { c with
      windowExits := (c.windowExits + 1) % 2 ^ 32, tide := { c.tide with windowExit := true } }).chanTrigger ch 4).capsuleEvent ch 5,
      false)
  else (s, false)

/-- The reason an identification run ends at an evaluation of the lead, if any (R226). -/
def State.identStop (s : State) (k : Nat) (e : Int) (flag sat cut : Bool) : Option Nat :=
  let p := (s.outAt k).prof
  if (s.phases k).any fun c => (s.chanAt c).clamp.isSome then some 7
  else if cut then some 3 else if sat then some 4 else if flag then some 5
  else if p.target ≠ s.profTarget k then some 6
  else if 64 < e.natAbs then some 9
  else none

/-- The run of output `k` ends with a reason, if it is under way on this controller. -/
def State.identCheck (s : State) (k : Nat) (reason : Option Nat) : State :=
  match reason with
  | some r => if (s.outAt k).ident.state = 1 then s.setOut k fun o => o.abortIdent r true else s
  | none => s

/-- The chip of this evaluation (R224): the injection starts, on both controllers, at the first sample from START_TSTAMP on
(R227). -/
def State.identChip (s : State) (k tstamp : Nat) : State :=
  s.setOut k fun o =>
    let i := o.ident
    let begins := match i.startAt with | some t => geq32 tstamp t | none => false
    let inj := i.inj || begins
    { o with ident := { i with
        inj := inj, startAt := if begins then none else i.startAt, chip := if inj then chipValue i.lfsr i.ampl else 0 } }

/-- An injected evaluation counted, its error and duty summed after the first period; the injection ends with the last
evaluation of the run (R225). The standby sums nothing. -/
def Ident.count (i : Ident) (e : Int) (d : Nat) : Ident :=
  if !i.inj then i
  else
    let pos := i.evals % 511
    let sums := decide (i.state = 1) && decide (511 ≤ i.evals)
    let n := i.evals + 1
    let inj := decide (n < 8687)
    { i with
      sumE := if sums then Tab.upd 0 i.sumE pos (· + e) else i.sumE
      sumD := if sums then Tab.upd 0 i.sumD pos (· + (d : Int)) else i.sumD
      evals := n, lfsr := lfsrNext i.lfsr, inj := inj, chip := if inj then i.chip else 0 }

/-- A phase computes and writes its duty word from the latest u, its share term and the chip (R207, R210, R224). -/
def State.writeDuty (s : State) (k ch : Nat) : State :=
  let o := s.outAt k
  let c := s.chanAt ch
  let f := c.coef
  let d := (clampI f.dMin f.dMax (sar (o.comp.u + c.share + 1024) 11 + o.ident.chip)).toNat
  let clamp := c.clamp.isSome
  s.setChan ch fun c =>
    { c with
      duty := d, shadow := d, shadowOld := c.shadow
      tide := { c.tide with dSum := c.tide.dSum + d, dCount := c.tide.dCount + 1 }
      cyc := { c.cyc with sum := c.cyc.sum + d, count := c.cyc.count + 1, clamp := c.cyc.clamp || clamp
                          inject := c.cyc.inject || o.ident.inj } }

/-- An accepted evaluation of the lead (R204): compensator, identification, profile, levels, duty. -/
def State.leadAccepted (s : State) (k ch : Nat) (e : Int) (flag : Bool) (tstamp gaspNs : Nat) : State × EvalNote :=
  let cut := s.cutOf k
  let f := s.coef ch
  let m := f.gain e
  let w := (s.outAt k).comp
  let r := compEval f m e cut { ist := w.ist, dst := w.dst, u := w.u, ePrev := if w.first then e else w.ePrev }
  let p := sat32 (sar (e * f.kp * m) 14)
  let s := s.setOut k fun o => { o with comp := { o.comp with
    ist := r.1.ist, dst := r.1.dst, u := r.1.u, ePrev := r.1.ePrev, p := p, first := false } }
  let s := if r.2 then s.setChan ch fun c => { c with satCount := (c.satCount + 1) % 2 ^ 32 } else s
  let s := (s.identCheck k (s.identStop k e flag r.2 cut)).identChip k tstamp
  let s := s.profileStep k gaspNs
  let s := s.each (s.phases k) fun s c => s.refreshPhase k c
  let s := s.writeDuty k ch
  let d := (s.chanAt ch).duty
  let inj := (s.outAt k).ident.inj
  let s := s.setOut k fun o => { o with ident := o.ident.count e d }
  (s, { rejected := false, sat := r.2, inj := inj, p := p })

/-- An evaluation of the lead (R204, R206): a rejected sample changes no state and no duty word, and ends a run. -/
def State.leadEval (s : State) (k ch : Nat) (e : Int) (flag : Bool) (tstamp gaspNs : Nat) : State × EvalNote :=
  let r := s.rejection k ch flag
  if r.2 then (r.1.identCheck k (some 5), { rejected := true, sat := false, inj := (s.outAt k).ident.inj, p := (s.outAt k).comp.p })
  else r.1.leadAccepted k ch e flag tstamp gaspNs

/-- Word ERROR of a trace entry (Table 9-6). -/
def errorWord (e : Int) (flag rejected sat cut inj lead : Bool) : Nat :=
  toU 10 e + 1024 * b2n flag + 2048 * b2n rejected + 4096 * b2n sat + 8192 * b2n cut + 16384 * b2n inj + 32768 * b2n (!lead)

/-- The trace entry of an evaluation of channel `ch` (R235). -/
def State.evalEntry (s : State) (k ch : Nat) (e current : Int) (flag cut : Bool) (n : EvalNote) (tstamp : Nat) : TraceEntry :=
  let o := s.outAt k
  let c := s.chanAt ch
  { tstamp := tstamp % 2 ^ 32
    error := errorWord e flag n.rejected n.sat cut n.inj (decide (ch = s.lead k))
    channel := ch + 128 * b2n (!s.token), gtIndex := c.gtIndex, p := n.p, ist := o.comp.ist, dst := o.comp.dst
    duty := c.duty + toU 12 current * 2 ^ 20, setpoint := s.vsp k, eval := c.evalCount }

/-- What every evaluation counts: EVAL_COUNT, GT_INDEX, a deferral of the sample (R177), the current sample (R212) and the
current limit in force (R180). GT_INDEX follows every sample. (DESIGN CHOICE, log 87) -/
def State.countEval (s : State) (ch : Nat) (e current : Int) (shift : Nat) : State :=
  let i := currentMa current (s.chanAt ch).isOffset (s.chIsTransr ch)
  let lim := currentCode (s.currentLimit ch) (s.chIsTransr ch)
  s.setChan ch fun c =>
    { c with
      evalCount := (c.evalCount + 1) % 2 ^ 32, gtIndex := gtIndexOf e
      shiftCount := if shift = 0 then c.shiftCount else (c.shiftCount + 1) % 2 ^ 32
      shiftMax := max c.shiftMax (min 65535 shift), curSum := c.curSum + i, curCount := c.curCount + 1
      tide := { c.tide with iSum := c.tide.iSum + i, iCount := c.tide.iCount + 1 }
      thr := { c.thr with current := lim } }

/-- One evaluation of channel `ch` of output `k`: `code` is the error code before the hold at the window's limits, `current` the
current code, `tstamp` the quadrant coarse count at the sample instant, `shift` its deferral. The banks of an output's phases are
swapped before its lead's evaluation (R220). -/
def State.evaluate (s : State) (k ch : Nat) (code current : Int) (tstamp shift gaspNs : Nat) : State :=
  let e := clampI (-512) 511 code
  let flag := decide (code ≠ e)
  let s := if ch = s.lead k then s.swapBanks k else s
  let s := s.applyFix k ch
  let cut := s.cutOf k
  let s := s.setChan ch fun c => { c with cyc := { c.cyc with cut := c.cyc.cut || cut } }
  let r := if ch = s.lead k then s.leadEval k ch e flag tstamp gaspNs
    else (s.writeDuty k ch, { rejected := false, sat := false, inj := (s.outAt k).ident.inj, p := (s.outAt k).comp.p })
  let s := if ch = s.lead k ∧ r.2.sat = true then r.1.chanTrigger ch 5 else r.1
  let s := s.countEval ch e current shift
  let s := s.traceWrite ch (s.evalEntry k ch e current flag cut r.2 tstamp)
  if ch = s.lead k ∧ r.2.rejected = false then s.profileArrival k else s

/-! ### Service by the engine (R177, R199) -/

/-- The slot a channel's present evaluation occupies: a borrowing channel's extra ones take the donor's (R199). -/
def State.slotOf (s : State) (ch : Nat) : Nat :=
  let d := s.chSlotDonor ch
  if d ≠ 255 ∧ s.chPeriod ch < 25600 ∧ (s.chanAt ch).periods % 2 = 0 then d % 4 else ch % 4

/-- Place of a channel in the slot order, which starts from the slot after the one served last (R199). -/
def State.rankOf (s : State) (ch : Nat) : Nat := (s.slotOf ch + 3 - (s.engineAt ch).slot) % 4

/-- Does no other channel of the engine whose sample is due at the same instant come first? -/
def State.servedNext (s : State) (x : Sample) : Bool :=
  (countFrom 4 (x.ch / 4 * 4)).all fun c =>
    decide (c = x.ch) || !s.evaluates c || (s.chanAt c).sampleAt ≠ some x.at_ || decide (s.rankOf x.ch < s.rankOf c)

/-- A sample is taken at its instant, deferred where R177 says, and evaluated. -/
def State.serveSample (s : State) (k : Nat) (x : Sample) : State :=
  let last := match (s.engineAt x.ch).last with
    | some (c, n0, t0) => if c = x.ch then none else some (n0, t0)
    | none => none
  let t := deferred x.at_ last
  let slot := s.slotOf x.ch
  let s := s.setEngine x.ch fun e =>
    { e with last := some (x.ch, x.at_, t), slot := slot, ready := e.ready.filter fun y => decide (y.ch ≠ x.ch) }
  let s := s.setChan x.ch fun c => { c with sampleAt := none }
  s.evaluate k x.ch (errorRaw (s.chanAt x.ch).refCode x.v) (currentAdc x.i) ((t + 16) / 32) (t - x.at_) x.gaspNs

/-- The waiting samples of the engine of `ch` that may be served, in slot order. -/
def State.serveReady (ch : Nat) : Nat → State → State
  | 0, s => s
  | n + 1, s =>
    match (s.engineAt ch).ready.find? s.servedNext with
    | some x =>
      match s.outputOf x.ch with
      | some k => State.serveReady ch n (s.serveSample k x)
      | none => s
    | none => s

/-- LOOP_EVALUATION (R164 to R167, R198 to R219): the voltages at VSP, VSN, ISP and ISN of a channel in nV at the sample instant of
its present period, of which it measures VSP − VSN and ISP − ISN, and the time since the entry into Last-gasp. A sample due at the same instant as another of its engine waits for those
before it in slot order (R199). -/
def execLoopEvaluation (ch : Nat) (vsp vsn isp isn : Int) (gaspNs : Nat) (s : State) : Host.Outcome State Fault Refusal :=
  .next (match (s.chanAt ch).sampleAt with
    | some t =>
      if s.evaluates ch then
        State.serveReady ch 4 ((s.dropReady ch).setEngine ch fun e =>
          { e with ready := e.ready ++ [{ at_ := t, ch := ch, v := vsp - vsn, i := isp - isn, gaspNs := gaspNs }] })
      else s
    | none => s)

/-! ### The 10 µs accumulation -/

/-- Step 1 of R212: Ī of a phase from its samples of the interval. -/
def Chan.takeMean (c : Chan) : Chan :=
  { c with curMean := if c.curCount = 0 then c.curMean else tdiv c.curSum c.curCount, curSum := 0, curCount := 0 }

/-- Was cut (R205) true for output `k` at some time of the interval? -/
def State.cutInInterval (s : State) (k : Nat) : Bool :=
  s.cutOf k || (s.phases k).any fun c => (s.chanAt c).cutInterval

/-- The share terms of a running ganged output (R212). -/
def State.shareTerms (s : State) (k : Nat) : State :=
  let ph := s.phases k
  if 1 < ph.length ∧ s.switches (s.lead k) = true ∧ s.cutInInterval k = false then
    let lead := s.lead k
    let terms := shareUpdate (ph.map fun c => (s.chanAt c).curMean) (ph.map fun c => (s.chanAt c).share)
      (s.coef lead).shareGain (s.coef lead).shareLimit
    s.each (upto ph.length) fun s i => s.setChan (ph.getD i 0) fun c => { c with share := terms.getD i 0 }
  else s

/-- The power estimate of an output (R276), kept for the tide, with its limited flag (R277). -/
def State.estimate (s : State) (k : Nat) : State :=
  let e := sumI ((s.phases k).map fun c => if s.switches c then powerEst (s.chanAt c).curMean (s.vsp k) else 0)
  let lim := (s.outAt k).cap.isSome || (s.phases k).any fun c => (s.chanAt c).clamp.isSome
  s.setOut k fun o =>
    { o with eLast := e, eSum := o.eSum + e, eCount := o.eCount + 1, limited := o.limited || lim }

/-- The update of one output on the accumulation boundary. -/
def State.accumulateOut (s : State) (k : Nat) : State :=
  let s := s.each (s.phases k) fun s c => s.setChan c Chan.takeMean
  let s := (s.shareTerms k).estimate k
  s.each (s.phases k) fun s c => s.setChan c fun x => { x with cutInterval := false }

/-- Enabled outputs of cluster `cl`. -/
def State.outsOfCluster (s : State) (cl : Nat) : List Nat := s.enabledOuts.filter fun k => decide (quadrant (s.lead k) = cl)

/-- CLUSTER_CLAMP (R280): the clamp of polder `q` in cluster `cl`, whose sum `sum` exceeds its share; identification runs
of its outputs end (R226), and a clamp that begins is reported as source 316 (R25). -/
def State.clampPolder (s : State) (cl q share : Nat) (sum : Int) : State :=
  let outs := (s.outsOfCluster cl).filter fun k => decide (s.outPolder k = q)
  let s := if bit (s.clusterAt cl).clamped q then s else s.raise 316 1 []
  let s := s.each outs fun s k =>
    let s := (s.identCheck k (some 7)).setOut k fun o => { o with limited := true }
    s.each (s.phases k) fun s c =>
      let n := clampOf (s.chOcpLimit c) (s.chanAt c).curMean share sum.toNat
      s.setChan c fun x => { x with tide := { x.tide with clamp := true }, clamp := some (match x.clamp with | some o => min o n | none => n) }
  s.setCluster cl fun x =>
    { x with
      clampBegan := if bit x.clamped q then x.clampBegan else setBit x.clampBegan q true
      clamped := setBit x.clamped q true }

/-- The sum of polder `q` in cluster `cl`: kept, and clamped where it exceeds the share (R24, R277). -/
def State.accumulatePolder (s : State) (cl q : Nat) : State :=
  let sum := sumI (((s.outsOfCluster cl).filter fun k => decide (s.outPolder k = q)).map fun k => (s.outAt k).eLast)
  let s := s.setCluster cl fun x =>
    { x with lastSum := Tab.set 0 x.lastSum q sum
             maxSum := Tab.upd none x.maxSum q fun m => some (match m with | some n => max n sum | none => sum) }
  let share := Tab.get 0 (s.clusterAt cl).share q
  if s.polCeiling q ≠ 0 ∧ (share : Int) < sum then s.clampPolder cl q share sum else s

/-- The current comparator of a phase with a clamp is written by the next accumulation at the latest (R281). -/
def State.writeClamp (s : State) (ch : Nat) : State :=
  if (s.chanAt ch).clamp.isSome then
    let lim := currentCode (s.currentLimit ch) (s.chIsTransr ch)
    s.setChan ch fun c => { c with thr := { c.thr with current := lim } }
  else s

/-- FREEBOARD_ACCUMULATION (R24, R212, R276, R280). -/
def execFreeboardAccumulation (cl : Nat) (s : State) : Host.Outcome State Fault Refusal :=
  .next (if s.mode.firmware && decide (cl < 4) && !s.held cl && (s.token || s.shadowing) then
    let outs := s.outsOfCluster cl
    let s := s.each outs fun s k => s.each (s.phases k) State.writeClamp
    let s := s.each outs State.accumulateOut
    s.each s.enabledPolders fun s q => s.accumulatePolder cl q
    else s)

end Sys2Proof.Machine
end

