-- ==== Sys2Proof/Machine/Budget.lean ====
section
/-! DEFINITION. Freeboard, capping, spillway and ride-through (R23, R276 to R304): the warden's work at a tide boundary, the
spillway's events and the budget orders. -/
namespace Sys2Proof.Machine

/-! ### Supply and the shelf limit -/

/-- Enabled rectifiers, rising. -/
def State.enabledRects (s : State) : List Nat := (upto 40).filter fun k => s.rectEnable k = 1

/-- Enabled strings, rising. -/
def State.enabledStrings (s : State) : List Nat := (upto 32).filter fun k => s.strEnable k = 1

/-- Enabled bus shunts, rising. -/
def State.enabledShunts (s : State) : List Nat := (upto 32).filter fun k => s.shuntEnable k = 1

/-- Is a rectifier available (R306)? -/
def State.rectAvailable (s : State) (k : Nat) : Bool :=
  let r := s.rectAt k
  s.rectEnable k = 1 && r.joined && !r.withdrawn && decide (r.state ≠ 5) && decide (r.state ≠ 0)

/-- The rectifiers in the staging plan, online or parked (R306). -/
def State.planRects (s : State) : List Nat := (upto 40).filter s.rectAvailable

/-- Sum of the strings' discharge power limits, mW. -/
def State.stringsPower (s : State) : Nat := sumN (s.enabledStrings.map fun k => (s.stringAt k).disLim)

/-- Supply limit (R285): 15/16 of the supply, in Run, Ride-through and Service. (DEDUCED, log 60) -/
def State.supplyLimit (s : State) : Option Nat :=
  if s.budget.rtActive then some (s.stringsPower * 15 / 16)
  else if modesLive.contains s.mode then
    let ac := s.planRects.filter fun k => !(s.rectAt k).acLost
    some ((sumN (ac.map s.rectRatedPower) + s.stringsPower) * 15 / 16)
  else none

/-- The fabric allowance as a limit (R284): on a member with feature bit 15 and a fabric position. -/
def State.fabricTerm (s : State) : Option Nat :=
  if bit s.host.negotiated 15 && decide (s.shelfFabRow ≠ 255) && decide (s.fabric.allow ≠ 0xFFFFFFFF) then some s.fabric.allow
  else none

/-- The least of limits with their LIMIT_SOURCE, the lower code among equals. -/
def leastLimit (l : List (Nat × Nat)) : Option (Nat × Nat) :=
  l.foldl (fun m x => match m with | none => some x | some y => if x.1 < y.1 then some x else some y) none

/-- B_s with its LIMIT_SOURCE (R284). -/
def State.shelfLimit (s : State) : Option (Nat × Nat) :=
  leastLimit ((if s.shelfShelfBudget = 0 then [] else [(s.shelfShelfBudget, 1)])
    ++ (s.fabricTerm.toList.map fun v => (v, 2)) ++ (s.supplyLimit.toList.map fun v => (v, 3)))

/-! ### Capping -/

/-- Is a polder shed (R289)? -/
def State.polShed (s : State) (q : Nat) : Bool := decide ((s.polderAt q).causes ≠ 0)

/-- What capping reads of an output (R286, R287). -/
def State.capOut (s : State) (k : Nat) : CapOut :=
  let o := s.outAt k
  { index := k, polder := if s.polEnable (s.outPolder k) = 1 then some (s.outPolder k) else none, p := o.power
    running := o.live, maxPower := s.outMaxPower k, warn := (s.phases k).any fun c => (s.chanAt c).tempWarn, target := s.target k, phases := s.outPhases k }

/-- Every enabled output as capping reads it. -/
def State.capOuts (s : State) : List CapOut := s.enabledOuts.map s.capOut

/-- The enabled polders before the reduction (R286). -/
def State.capPolders (s : State) (outs : List CapOut) : List CapPolder :=
  s.enabledPolders.map fun q => capPolder q (s.polPriority q) (s.polBudget q) (s.polShed q) outs

/-- Polders after the reduction, and what is left of X (R286). -/
def State.capResult (s : State) (limit : Option Nat) (outs : List CapOut) : List CapPolder × Int :=
  let ps := s.capPolders outs
  capReduce 16 0 ps (capExcess limit ps outs)

/-- The capping polder an output belongs to. -/
def CapOut.polderIn (o : CapOut) (ps : List CapPolder) : Option CapPolder :=
  match o.polder with | none => none | some q => ps.find? fun p => decide (p.index = q)

/-- New capping limits (R286, R288): in force from this boundary. -/
def State.applyCaps (s : State) (ps : List CapPolder) (outs : List CapOut) : State :=
  let s := outs.foldl (fun s o =>
    let cap := match o.polderIn ps with | none => none | some q => o.iCap q
    s.setOut o.index fun x => { x with cap := cap }) s
  ps.foldl (fun s p =>
    let capped := outs.any fun o => o.polder = some p.index && o.capped p
    s.setPolder p.index fun x => { x with capped := capped, alloc := p.a }) s

/-- Sum of the allocations of polder `q`'s outputs in quadrant `cl`. (DEDUCED, log 60) -/
def State.quadAlloc (s : State) (cl q : Nat) (ps : List CapPolder) (outs : List CapOut) : Nat :=
  sumN (outs.map fun o =>
    if o.polder = some q ∧ quadrant (s.lead o.index) = cl then
      (match o.polderIn ps with | none => 0 | some p => o.alloc p)
    else 0)

/-- A clamp ends (R282): the channels' clamp limits go. (DEDUCED, log 62) -/
def State.releaseClamp (s : State) (cl q : Nat) : State :=
  let s := s.each ((s.outsOfCluster cl).filter fun k => decide (s.outPolder k = q)) fun s k =>
    s.each (s.phases k) fun s c => s.setChan c fun x => { x with clamp := none }
  s.setCluster cl fun x =>
    { x with clamped := setBit x.clamped q false, clampReleased := setBit x.clampReleased q true }

/-- Does R282 release the clamp of polder `q` in cluster `cl`? A polder that has no ceiling any more has no share to
exceed. -/
def State.clampEnds (s : State) (cl q : Nat) (ps : List CapPolder) (outs : List CapOut) : Bool :=
  let share := Tab.get 0 (s.clusterAt cl).share q
  s.polEnable q ≠ 1 || s.polCeiling q = 0
    || (s.quadAlloc cl q ps outs ≤ share && Tab.get 0 (s.clusterAt cl).lastSum q ≤ (share : Int))

/-- CLAMP_RELEASE (R282) at a boundary. -/
def State.releaseClamps (s : State) (ps : List CapPolder) (outs : List CapOut) : State :=
  s.each (upto 4) fun s cl => s.each (upto 32) fun s q =>
    if bit (s.clusterAt cl).clamped q && s.clampEnds cl q ps outs then s.releaseClamp cl q else s

/-- Summed maximum power of a polder's outputs in a quadrant. -/
def State.quadMax (s : State) (q n : Nat) : Nat :=
  sumN ((s.members q).map fun k => if quadrant (s.lead k) = n then s.outMaxPower k else 0)

/-- Ceiling shares of a polder per quadrant (R23). What the truncated shares leave goes to the highest quadrant that holds
an output of it. (DEDUCED, log 60) -/
def State.polShares (s : State) (q : Nat) : List Nat :=
  let ceil := s.polCeiling q
  let ex := (upto 4).map (s.polShare q)
  let mp := (upto 4).map (s.quadMax q)
  let any := ex.any (0 < ·)
  let l := (upto 4).map fun n => ceilingShare ceil (ex.getD n 0) any (mp.getD n 0) (sumN mp)
  if any ∨ sumN mp = 0 then l
  else
    let top := (firstN (fun n => decide (0 < mp.getD n 0)) [3, 2, 1, 0]).getD 0
    setAt l top (l.getD top 0 + (ceil - sumN l))

/-- Every cluster's ceiling shares (R23), in force from this boundary. -/
def State.giveShares (s : State) : State :=
  s.each s.enabledPolders fun s q =>
    let l := s.polShares q
    s.each (upto 4) fun s n => s.setCluster n fun x => { x with share := Tab.set 0 x.share q (l.getD n 0) }

/-- The hardware freeboard of a polder in quadrant `n` (Table 11-1). -/
def State.hardwareFree (s : State) (q n : Nat) : Int :=
  if s.polCeiling q = 0 then 0x7FFFFFFF
  else satS 32 (((Tab.get 0 (s.clusterAt n).share q : Nat) : Int) - Tab.get 0 (s.clusterAt n).tideSum q)

/-- The hardware freeboards (R278). -/
def State.takeHardware (s : State) : State :=
  s.each s.enabledPolders fun s q => s.each (upto 4) fun s n =>
    let f := s.hardwareFree q n
    s.setPolder q fun x => { x with hwFree := Tab.set 0 x.hwFree n f }

/-! ### Loads -/

/-- The outputs whose contribution of the tide is stale (R288): no accumulation reached them. (DEDUCED, log 62) -/
def State.staleOuts (s : State) : List Nat := s.enabledOuts.filter fun k => decide ((s.outAt k).eCount = 0)

/-- p_k of the tide that ended, its limited flag, and the sums of the new tide (R277); a stale output keeps its last. -/
def Out.endTide (o : Out) : Out :=
  { o with
    power := if o.eCount = 0 then o.power else tdiv o.eSum o.eCount
    limitedPrev := o.limited, limited := false, eSum := 0, eCount := 0 }

/-- The largest sums of the tide that ended (R277); a polder without an accumulation in it keeps its last. -/
def Cluster.endTide (c : Cluster) : Cluster :=
  { c with tideSum := c.maxSum.foldl (fun t e => match e.2 with | some m => Tab.set 0 t e.1 m | none => t) c.tideSum, maxSum := [] }

/-- The limits in force as a tide begins count for its limited flags (R277). -/
def State.seedLimited (s : State) : State :=
  s.each s.enabledOuts fun s k =>
    if (s.outAt k).cap.isSome || (s.phases k).any fun c => (s.chanAt c).clamp.isSome then
      s.setOut k fun o => { o with limited := true }
    else s

/-- Load of a polder: Σ p_k over its enabled outputs (R278). -/
def State.polLoad (s : State) (q : Nat) : Int := sumI ((s.members q).map fun k => (s.outAt k).power)

/-- A list that keeps its newest `n` values. -/
def keepNewest {α : Type} (n : Nat) (x : α) (l : List α) : List α := (x :: l).take n

/-- Loads and freeboards of the enabled polders and the shelf's load (R278), with the budgets in force. -/
def State.reckon (s : State) : State :=
  let s := s.each s.enabledPolders fun s q =>
    let l := s.polLoad q
    let b := s.polBudget q
    s.setPolder q fun x => { x with load := satS 32 l, freeboard := if b = 0 then 0x7FFFFFFF else satS 32 (b - l) }
  let ls := sumI (s.enabledOuts.map fun k => (s.outAt k).power)
  { s with budget := { s.budget with load := satS 32 ls } }

/-- Loads of the tide that ended (R278), and the 100 tides the predictions use (R297). -/
def State.takeLoads (s : State) : State :=
  let s := s.reckon
  let s := s.each s.enabledPolders fun s q =>
    let l := s.polLoad q
    s.setPolder q fun x => { x with hist := keepNewest 100 l x.hist }
  let run := sumI ((s.enabledOuts.filter fun k => (s.outAt k).live).map fun k => (s.outAt k).power)
  let bat := sumI (s.enabledStrings.map fun k => tdiv (-((s.convAt k).tideMa) * ((s.stringAt k).lastV : Int)) 1000000)
  { s with budget := { s.budget with
      outHist := keepNewest 100 run s.budget.outHist, batteryHist := keepNewest 100 bat s.budget.batteryHist } }

/-- The shelf limit and freeboard (R278, R284). -/
def State.takeLimit (s : State) : State :=
  let l := s.shelfLimit
  let ls := sumI (s.enabledOuts.map fun k => (s.outAt k).power)
  { s with budget := { s.budget with
      limit := l.map (·.1), limitSource := (l.map (·.2)).getD 0
      freeboard := match l with | none => 0x7FFFFFFF | some b => satS 32 ((b.1 : Int) - ls) } }

/-! ### Deficit -/

/-- Has the last deficit shed completed, `n` tides after it (R292)? -/
def State.shedComplete (s : State) (q n : Nat) : Bool :=
  if s.polShedMethod q = 1 then decide (100 ≤ n)
  else (s.members q).all fun k => !(s.outAt k).driven || (s.outAt k).state ≠ 5

/-- Count of deficit tides at a boundary (R292): afresh from the first tide that begins after the last shed is complete. (DEDUCED, log 61) -/
def State.countDeficit (s : State) (deficit : Bool) : State :=
  let b := s.budget
  match b.awaitShed with
  | some (q, n) =>
    let next := if s.shedComplete q n then none else some (q, n + 1)
    { s with budget := { b with deficitNow := deficit, deficitTides := 0, awaitShed := next } }
  | none =>
    { s with budget := { b with
        deficitNow := deficit, deficitTides := if deficit then b.deficitTides + 1 else 0
        deficitLogged := b.deficitLogged && deficit } }

/-- Tides the shelf freeboard has stayed above 5/4 of a shed polder's load before its shed (R293). -/
def State.countClear (s : State) : State :=
  s.each s.enabledPolders fun s q => s.setPolder q fun x =>
    if bit x.causes 0 ∧ x.loadBefore * 5 < s.budget.freeboard * 4 then { x with okTides := x.okTides + 1 }
    else { x with okTides := 0 }

/-- CAPPING (R23, R282, R286, R288): shares, limits, releases and the deficit of a boundary; `stale` names the outputs
whose loads are not of this tide. -/
def State.capping (s : State) (stale : List Nat) : State :=
  let s := ((s.takeLimit).giveShares).takeHardware
  let outs := s.capOuts
  let r := s.capResult s.budget.limit outs
  let s := (s.capPolders outs).foldl (fun s p => s.setPolder p.index fun x => { x with want := p.a }) s
  let s := (s.applyCaps r.1 outs).releaseClamps r.1 outs
  let fresh := outs.filter fun o => !stale.contains o.index
  let deficit := decide (0 < r.2) && (stale.isEmpty || decide (0 < (s.capResult s.budget.limit fresh).2))
  (s.countDeficit deficit).countClear

/-! ### Shedding -/

/-- Outputs of a shed polder that stay on (R291): prerequisites, at any depth, of a running output of an unshed polder. -/
def State.keptOut (s : State) (k : Nat) : Bool :=
  (s.dependants [k]).any fun j => (s.outAt j).live && !s.polShed (s.outPolder j)

/-- The SHED pins as the shed polders of method 1 or 2 drive them (R290). (DEDUCED, log 61) -/
def State.driveShedPins (s : State) : State :=
  if s.sluice.genHeld then s else
  let pins := s.enabledPolders.foldl (fun m q =>
    if (s.polderAt q).shedTaken ∧ s.polShedMethod q ≠ 0 then m ||| s.polShedPins q else m) 0
  { s with budget := { s.budget with shedPins := pins } }

/-- A running output is shed (R290): STATE 5, LAST_STOP 5, and its ramp to 0 µV; a test ends at once. -/
def State.shedOut (s : State) (k : Nat) : State :=
  let o := s.outAt k
  let shed (p : SeqPhase) (o : Out) : Out :=
    { (o.abortIdent 0x02 true) with state := 5, lastStop := 5, phase := p, goodTides := 0 }
  if o.state = 2 ∧ o.phase = .testing then (s.lowOutput k s.idleState).setOut k (shed .none)
  else if o.state = 2 ∨ o.state = 3 then (s.setOut k (shed .stopPending)).stopRecord k 5
  else s

/-- SHED (R290): a polder's shed takes effect, with its record. (DEDUCED, log 61) -/
def State.shedPolder (s : State) (q : Nat) : State :=
  if (s.polderAt q).shedTaken || !s.polShed q then s
  else
    let m := s.polShedMethod q
    let s := (s.setPolder q fun x => { x with shedTaken := true }).driveShedPins
    let outs := (s.members q).filter fun k => !s.keptOut k
    let s := if m = 1 then s else s.each outs State.shedOut
    (s.record 0x12 1 [byte q, byte (s.polderAt q).causes, byte m]).settle

/-- Outputs of STATE 5 whose polder is not shed any more go to STATE 0 once they are off (R290, R302). -/
def State.unshedOuts (s : State) : State :=
  (s.each (s.enabledOuts.filter fun k =>
      decide ((s.outAt k).state = 5) && !(s.outAt k).driven && !(s.polderAt (s.outPolder k)).shedTaken) fun s k =>
    s.setOut k fun o => { o with state := 0, phase := .none }).settle

/-- A polder is restored (R290): its pins fall, and its outputs leave STATE 5. (DEDUCED, log 60; DEDUCED, log 61) -/
def State.restorePolder (s : State) (q : Nat) : State :=
  ((s.setPolder q fun x => { x with shedTaken := false }).driveShedPins).unshedOuts

/-- Set a shed cause on a polder and shed it (Table 11-3). -/
def State.addCause (s : State) (q b : Nat) : State :=
  let load := (s.polderAt q).load
  (s.setPolder q fun x =>
    { x with causes := setBit x.causes b true, loadBefore := if x.causes = 0 then load else x.loadBefore }).shedPolder q

/-- Clear a shed cause of a polder, with the record; a polder left without a cause is restored. (DEDUCED, log 61) -/
def State.clearCause (s : State) (q b : Nat) : State :=
  let s := s.setPolder q fun x => { x with causes := setBit x.causes b false, okTides := 0 }
  let left := (s.polderAt q).causes
  let s := s.record 0x12 2 [byte q, byte (2 ^ b), byte left]
  if left = 0 then s.restorePolder q else s

/-- Does this controller run the spillway: the gate token, and the warden at work outside Shadow and Last-gasp? -/
def State.spillway (s : State) : Bool := s.token && s.wardenRuns && s.mode.active && !s.shadowing

/-- A polder as the spillway's choices see it. -/
def State.spillOf (s : State) (q : Nat) : SpillPolder :=
  let h := (s.polderAt q).hist
  { index := q, priority := s.polPriority q, exempt := s.polShedExempt q = 1, shed := s.polShed q
    remaining := s.polMinRuntime q - s.budget.rtTides / 1000, load := tdiv (sumI h) h.length }

/-- DEFICIT_SHED (R292): after 3 deficit tides, by the warden. -/
def execDeficitShed (s : State) : Host.Outcome State Fault Refusal :=
  .next (if s.spillway ∧ s.budget.frozen = false ∧ 3 ≤ s.budget.deficitTides ∧ s.budget.awaitShed = none then
    match lowestFirst ((s.enabledPolders.map s.spillOf).filter fun p => !p.exempt && !p.shed) with
    | some p =>
      let s := { s with budget := { s.budget with deficitTides := 0, awaitShed := some (p.index, 0) } }
      (s.setPolder p.index fun x => { x with okTides := 0 }).addCause p.index 0
    | none =>
      if s.budget.deficitLogged then s
      else
        let s := { s with budget := { s.budget with deficitLogged := true } }
        s.record 0x12 6 (leS 4 s.budget.freeboard)
    else s)

/-- DEFICIT_CLEAR (R293). -/
def execDeficitClear (s : State) : Host.Outcome State Fault Refusal :=
  .next (if s.spillway ∧ s.budget.rtActive = false ∧ s.budget.frozen = false ∧ 2000 ≤ s.budget.sinceClear then
    match highestFirst ((s.enabledPolders.map s.spillOf).filter fun p => bit (s.polderAt p.index).causes 0) with
    | some p =>
      if 10000 ≤ (s.polderAt p.index).okTides then
        ({ s with budget := { s.budget with sinceClear := 0 } }).clearCause p.index 0
      else s
    | none => s
    else s)

/-- RUNTIME_CAUSE_CLEAR (R300). -/
def execRuntimeCauseClear (s : State) : Host.Outcome State Fault Refusal :=
  .next (if s.spillway ∧ s.budget.clearing = true ∧ 2000 ≤ s.budget.sinceRuntimeClear then
    match highestFirst ((s.enabledPolders.map s.spillOf).filter fun p => bit (s.polderAt p.index).causes 1) with
    | some p => ({ s with budget := { s.budget with sinceRuntimeClear := 0 } }).clearCause p.index 1
    | none => { s with budget := { s.budget with clearing := false } }
    else s)

/-! ### Runtime prediction -/

/-- Energy of a prediction, mWh: half of a string's where its confidence is low (R297). -/
def State.predictEnergy (s : State) : Nat :=
  sumN (s.enabledStrings.map fun k => if (s.stringAt k).conf = 0 then (s.stringAt k).eAvail / 2 else (s.stringAt k).eAvail)

/-- Mean of a history, truncated toward zero. (DEDUCED, log 62) -/
def meanOf (l : List Int) : Int := tdiv (sumI l) l.length

/-- RUNTIME_PREDICTION (R297, R298): T(0), the polders chosen for the next boundary, and the runtime-short record. -/
def execRuntimePrediction (s : State) : Host.Outcome State Fault Refusal :=
  .next (if s.spillway ∧ s.budget.rtActive = true ∧ s.budget.predictAt ≤ s.budget.rtTides then
    let pb := meanOf s.budget.batteryHist
    let po := meanOf s.budget.outHist
    let t := runtimeOf s.predictEnergy pb po
    let t0 := if po = 0 then s.fresh .unstated 0 % 2 ^ 32 else t 0
    let s : State := { s.used with budget := { s.budget with
      predictAt := s.budget.predictAt + 1000, predictionEpoch := s.clocks.epoch, lastPrediction := t0, runtimeShort := false } }
    if pb ≤ 0 ∨ po ≤ 0 then s
    else
      let r := spillChoose t 33 (s.enabledPolders.map s.spillOf) 0 []
      let s := { s with budget := { s.budget with nextRuntime := listMap r.1, runtimeShort := r.2.1 } }
      let due := match s.budget.shortLogged with | none => true | some n => decide (n + 60000 ≤ s.budget.tides)
      match r.2.2 with
      | some (q, ts) =>
        if due then
          ({ s with budget := { s.budget with shortLogged := some s.budget.tides } }).record 0x12 3
            ([byte q, 0, 0, 0] ++ leBytes 4 ts)
        else s
      | none => s
    else s)

/-! ### AC loss and Ride-through -/

/-- The AC-loss condition (R295) of the tide that ended. (DEDUCED, log 61) -/
def State.acLossHolds (s : State) : Bool :=
  let plan := s.planRects
  let lost := plan.filter fun k => (s.rectAt k).acLost && decide (s.budget.tides ≤ (s.rectAt k).reportTide + 1)
  let total := sumN (plan.map s.rectRatedPower)
  let current := sumI (s.enabledStrings.map fun k => (s.convAt k).tideMa)
  (decide (0 < total) && decide (total ≤ 2 * sumN (lost.map s.rectRatedPower)))
    || (match s.gauge.busV with
        | some v => decide (v * 100 < s.shelfBusNominal * 96) && decide (current < 0)
        | none => false)

/-- Has a rectifier reported its AC input present in the tide that ended? -/
def State.acPresent (s : State) (k : Nat) : Bool :=
  !(s.rectAt k).acLost && (s.rectAt k).reported && decide (s.budget.tides = (s.rectAt k).reportTide)

/-- Each rectifier's run of tides with its AC input reported present (R296). -/
def State.countAc (s : State) : State :=
  s.each s.enabledRects fun s k =>
    let n := if s.acPresent k then (s.rectAt k).acTides + 1 else 0
    s.setRect k fun r => { r with acTides := n }

/-- Has the bus kept to R296 in the tide that ended? -/
def State.busGood (s : State) : Bool :=
  match s.gauge.busV with | some v => decide (s.shelfBusNominal * 98 ≤ v * 100) | none => true

/-- The Ride-through policy begins (R297). -/
def State.beginRide (s : State) : State :=
  { s with budget := { s.budget with
      rtActive := true, rtTides := 0, predictAt := 100, lastPrediction := 0xFFFFFFFF, clearing := false, nextRuntime := 0
      runtimeShort := false, shortLogged := none } }

/-- The Ride-through policy ends: the runtime causes are cleared from the entry boundary on (R300). -/
def State.endRide (s : State) : State :=
  { s with budget := { s.budget with
      rtActive := false, rtTides := 0, clearing := true, sinceRuntimeClear := 2000, nextRuntime := 0, runtimeShort := false
      lastPrediction := 0xFFFFFFFF } }

/-- The AC-restored condition (R296): one rectifier of the plan has reported its AC input present in each of the 2,000 tides. -/
def State.acRestored (s : State) : Bool :=
  decide (2000 ≤ s.budget.acGoodTides) && s.planRects.any fun k => decide (2000 ≤ (s.rectAt k).acTides)

/-- Does an AC loss act in this mode: by a transition of Table 2-2, or in Service by the policy (R38)? -/
def Mode.takesAcLoss (m : Mode) : Bool := m = .run || m = .rideThrough || m = .service

/-- Does an AC restoral act in this mode: by a transition of Table 2-2, or in Service by the end of the policy? -/
def Mode.takesAcRestoral (m : Mode) : Bool := m = .rideThrough || m = .service

/-- The two AC conditions at a boundary (R295, R296). A loss or a restoral that arrives in a mode without a row of Table 2-2 is
only recorded (R35). (DEDUCED, log 61) -/
def State.judgeAc (s : State) : State :=
  let loss := s.acLossHolds
  let good := s.busGood && !loss
  let down := s.budget.acDown
  let s := s.countAc
  let s := { s with budget := { s.budget with
    acLoss := loss, acGoodTides := if good then s.budget.acGoodTides + 1 else 0 } }
  let back := s.acRestored
  let s := { s with budget := { s.budget with acDown := loss || (down && !back) } }
  let ignored := (loss && !down && !s.mode.takesAcLoss) || (back && down && !s.mode.takesAcRestoral)
  if ignored then s.triggerIgnored 7 else s

/-- The transition between Run and Ride-through, and the policy in Service (R38); a Safe-hold keeps the policy that runs at its
entry (R39). (DEDUCED, log 61) -/
def State.rideStep (s : State) : State :=
  let loss := s.budget.acLoss
  let s := if loss && !s.budget.rtActive && (s.mode = .run || s.mode = .service) then s.beginRide
    else if s.budget.rtActive && (s.acRestored || s.mode = .configure) then s.endRide
    else s
  if s.budget.rtActive && s.mode = .run then
    (if loss then s.setMode .rideThrough 3 0xFFFF else s.endRide)
  else if !s.budget.rtActive && s.mode = .rideThrough then s.setMode .run 4 0xFFFF
  else s

/-- The runtime causes a prediction chose take effect at the next boundary (R298). -/
def State.applyRuntime (s : State) : State :=
  let qs := mapList 32 s.budget.nextRuntime
  let s := { s with budget := { s.budget with nextRuntime := 0 } }
  s.each qs fun s q => if s.polShedExempt q = 1 ∨ s.polEnable q ≠ 1 then s else s.addCause q 1

/-- KEPT_POLDERS (R291, Table 11-6). -/
def State.takeKept (s : State) : State :=
  let kept := mapWhere 32 fun q => (s.polderAt q).shedTaken && s.polShedMethod q ≠ 1
    && (s.members q).any fun k => (s.outAt k).live && s.keptOut k
  { s with budget := { s.budget with kept := kept } }

/-! ### Orders -/

/-- Polders shed, as a map. -/
def State.shedMap (s : State) : Nat := mapWhere 32 s.polShed

/-- Does a map of polders name only enabled ones, and at least one (R303)? -/
def State.poldersOk (s : State) (m : Nat) : Bool := decide (m ≠ 0) && (mapList 32 m).all fun q => s.polEnable q = 1

/-- One polder in BUDGET.STATUS (Table 11-6). -/
def View.polderBytes (v : View) (q : Nat) : Bytes :=
  let p := Tab.get ({} : Polder) v.polder q
  let clamps := (upto 4).map fun c => b2n (bit (Tab.get 0 v.clamped c) q) * 2 ^ c
  leS 4 p.load ++ leS 4 p.freeboard ++ [byte p.causes, byte (sumN clamps + 16 * b2n p.capped), 0, 0]

/-- The 416 bytes of BUDGET.STATUS (R304). -/
def View.budgetStatus (v : View) : Bytes :=
  let b := v.budget
  leS 4 b.load ++ leBytes 4 (min 0x7FFFFFFF (b.limit.getD 0x7FFFFFFF)) ++ leS 4 b.freeboard
    ++ leBytes 4 (if b.rtActive then b.lastPrediction else 0xFFFFFFFF)
    ++ leBytes 4 (if b.rtActive then b.rtTides / 1000 else 0)
    ++ [byte b.limitSource, byte (min 255 b.deficitTides), byte (b2n b.deficitNow + 2 * b2n b.runtimeShort + 4 * b2n b.frozen), 0]
    ++ leBytes 4 (mapWhere 32 fun q => decide ((Tab.get ({} : Polder) v.polder q).causes ≠ 0)) ++ leBytes 4 b.kept
    ++ ((upto 32).map v.polderBytes).flatten

/-- BUDGET.STATUS (R304), of the last sealed epoch. -/
def execBudgetStatus (mb : Nat) (s : State) : Host.Outcome State Fault Refusal :=
  .next (s.runOrder 0x0601 mb fun q s =>
    if !q.lay 0 [] then s.refuse q .badArg else s.replySealed q s.sealedView.budgetStatus)

/-- BUDGET.SHED (R303): effect at a tide boundary. -/
def execBudgetShed (mb : Nat) (s : State) : Host.Outcome State Fault Refusal :=
  .next (s.runOrder 0x0602 mb fun q s =>
    if !q.lay 4 [] || !s.poldersOk (q.u 0 4) then s.refuse q .badArg else s.wait q (.budgetShed (q.u 0 4)))

/-- BUDGET.RESTORE (R303): a polder without the host cause makes it LOCKED; effect at a tide boundary. -/
def execBudgetRestore (mb : Nat) (s : State) : Host.Outcome State Fault Refusal :=
  .next (s.runOrder 0x0603 mb fun q s =>
    if !q.lay 4 [] || !s.poldersOk (q.u 0 4) then s.refuse q .badArg
    else if (mapList 32 (q.u 0 4)).any fun p => !bit (s.polderAt p).causes 2 then s.refuse q .locked
    else s.wait q (.budgetRestore (q.u 0 4)))

/-- BUDGET.SHED takes effect: the host cause, and the shed where there was none (R302). -/
def State.budgetShedDone (s : State) (mb m : Nat) : State :=
  let s := s.each (mapList 32 m) fun s q => s.addCause q 2
  s.finish mb .ok (leBytes 4 s.shedMap)

/-- BUDGET.RESTORE takes effect. -/
def State.budgetRestoreDone (s : State) (mb m : Nat) : State :=
  let s := s.each ((mapList 32 m).filter fun q => bit (s.polderAt q).causes 2) fun s q => s.clearCause q 2
  s.finish mb .ok (leBytes 4 s.shedMap)

end Sys2Proof.Machine
end

