-- ==== Sys2Proof/Machine/Button.lean ====
section
/-! DEFINITION. The push-button (R269 to R273). -/
namespace Sys2Proof.Machine

/-- PB_N_PRESS (R269, R272): a counted fall, after PB_N has been high for `highMs` ms. Once PB_N has been low for 50 ms
(`heldMs`) the press is a wake event in Keep, Gauge-watch or Stranded (R45). -/
def execPbNPress (highMs : Nat) (s : State) (heldMs : Nat := 0) : Host.Outcome State Fault Refusal :=
  let s := if s.power.pbN then
      { s with power := { s.power with
          pbN := false, pbMayBeLong := s.mode.firmware || s.mode = .gaugeWatch
          pbAfterLong := s.power.pbAfterLong && decide (highMs < 50) } }
    else s
  .next (if !s.power.pbAfterLong && decide (50 ≤ heldMs) then s.wakeEvent 1 else s)

/-- PB_N_RELEASE (R269, R270): a counted rise after `heldMs` ms. -/
def execPbNRelease (heldMs : Nat) (s : State) : Host.Outcome State Fault Refusal :=
  .next (if s.power.pbN then s
    else
      let s := { s with power := { s.power with pbN := true, pbMayBeLong := false } }
      if heldMs < 50 || 8000 ≤ heldMs then s
      else if heldMs ≤ 2000 then
        if s.mode.active then
          ({ s with host := { s.host with irqButton := true } }).record 0x06 2 (leSat 4 heldMs)
        else s
      else if s.mode.firmware then s.record 0x06 3 (leSat 4 heldMs)
      else s)

/-- Steps 1 and 2 of a long press (R271), reported to the partner (R273). -/
def State.longPressBegins (s : State) : State :=
  let s := { s with power := { s.power with longPress := true, longPressActive := true } }
  let s := s.dropShutdown.clearWanted
  let s := (s.record 0x06 4 []).peerEvent 3 []
  (s.each s.enabledOuts fun s k => s.orderStop k 8).settle

/-- LONG_PRESS (R271, R272): 8 s with PB_N low; in Gauge-watch only the power-down follows. -/
def execLongPress (s : State) : Host.Outcome State Fault Refusal :=
  .next (if !s.power.pbN && s.power.pbMayBeLong && !s.power.longPressActive then
    let s := { s with power := { s.power with pbMayBeLong := false } }
    if s.mode = .gaugeWatch then
      let s := s.sleep .keep
      { s with power := { s.power with pbAfterLong := true } }
    else if s.mode.firmware && s.mode ≠ .lastGasp then
      let s := s.longPressBegins
      { s with power := { s.power with pbAfterLong := true } }
    else s.triggerIgnored 4
    else s)

/-- LONG_PRESS_FORCE_OFF (R271, steps 3 and 4): 2 s later every output not yet in STATE 0 is forced off; checkpoint and
mode-change record. -/
def execLongPressForceOff (s : State) : Host.Outcome State Fault Refusal :=
  .next (if s.power.longPressActive then
    let s := s.each s.enabledOuts fun s k => if (s.outAt k).driven then s.forceOut k 0 8 true else s
    let s := (s.checkpoint 3).record 0x06 5 [byte Mode.keep.code, 1]
    { s with power := { s.power with longPressActive := false } }
    else s)

/-- LONG_PRESS_POWER_DOWN (R271, step 5), `afterUs` microseconds after step 3. -/
def execLongPressPowerDown (afterUs : Nat) (s : State) : Host.Outcome State Fault Refusal :=
  .next (if s.power.longPress && !s.power.longPressActive && s.mode.firmware && s.mode ≠ .lastGasp
      && (s.log.drained || decide (100000 ≤ afterUs)) then s.sleep .keep else s)

end Sys2Proof.Machine
end

