-- ==== Sys2Proof/Machine/Describe.lean ====
section
/-! DEFINITION. The shelf description as data (chapter 6): values and their bytes, entries and images, the checks of one
entry (R615), and the validation of a whole description (R146 with the rules of the class chapters). -/
namespace Sys2Proof.Machine

/-! ### Fields and values -/

/-- Class, index and code of a field key. -/
def keyCls (key : Nat) : Nat := key / 65536 / 4096
/-- Index of a field key. -/
def keyIdx (key : Nat) : Nat := key / 65536 % 4096
/-- Field code of a field key. -/
def keyCode (key : Nat) : Nat := key % 65536

/-- Reset value of a field (R140): FIRST_CHANNEL is its output's index, and FAULTMAP fields are per source. -/
def fieldReset (cls idx : Nat) (d : FieldDef) : Int :=
  if cls = 2 ∧ d.code = 0x03 then idx
  else if cls = 11 ∧ reservedSource idx then 0
  else if cls = 11 ∧ d.code = 0x01 then reactionsReset idx
  else if cls = 11 ∧ d.code = 0x02 then minClassReset idx
  else if cls = 11 ∧ d.code = 0x03 then escalateReset idx
  else d.reset

/-- Reset value of a field key, 0 where no field is defined. -/
def resetOf (key : Nat) : Int :=
  match fieldDef (keyCls key) (keyIdx key) (keyCode key) with
  | some d => fieldReset (keyCls key) (keyIdx key) d
  | none => 0

/-- Value of a field key in a table of values. -/
def valueIn (t : Tab (Option Int)) (key : Nat) : Int := (Tab.get none t key).getD (resetOf key)

/-- A table of values with one field set; a reset value is not listed (R140). -/
def putValue (t : Tab (Option Int)) (key : Nat) (v : Int) : Tab (Option Int) :=
  Tab.set none t key (if v = resetOf key then none else some v)

/-- A value from the bytes of its type (R138). -/
def decodeValue (d : FieldDef) (b : Bytes) : Int := if d.signed then ofU (8 * d.len) (leVal b) else leVal b

/-- The bytes of a value. -/
def encodeValue (d : FieldDef) (v : Int) : Bytes := leBytes d.len (toU (8 * d.len) v)

/-- Part `i` of `n` bits of a packed value. -/
def partOf (n : Nat) (v : Int) (i : Nat) : Nat := v.toNat / 2 ^ (n * i) % 2 ^ n

/-- Is a number a permitted two-wire address: 0x08 to 0x77, not 0x0C or 0x61? -/
def addressOk (a : Nat) : Bool := decide (0x08 ≤ a) && decide (a ≤ 0x77) && a ≠ 0x0C && a ≠ 0x61

/-- ASCII 0x20 to 0x7E padded with 0x00 (R138). -/
def textOk (b : Bytes) : Bool :=
  (b.dropWhile fun c => decide (0x20 ≤ c.toNat) && decide (c.toNat ≤ 0x7E)).all (· = 0)

/-- Does a value lie within the fixed bounds of its range column (R615, step 4)? -/
def rangeOk (idx : Nat) (d : FieldDef) (v : Int) : Bool :=
  let within (lo hi : Int) : Bool := decide (lo ≤ v) && decide (v ≤ hi)
  match d.range with
  | .any => true
  | .span lo hi => within lo hi
  | .orVal x lo hi => decide (v = x) || within lo hi
  | .list4 => (upto 4).all fun i => decide (partOf 8 v i ≤ 127) || partOf 8 v i = 255
  | .text => textOk (encodeValue d v)
  | .hundreds lo hi => within lo hi && decide (v % 100 = 0)
  | .rectNode => if idx < 32 then within 1 126 else decide (v = 0)
  | .rectDev => if 32 ≤ idx then within 0 63 else decide (v = 255)
  | .tWindow => decide (part16s [v.toNat] 0 < part16s [v.toNat] 1) && decide (part16s [v.toNat] 2 < part16s [v.toNat] 3)
  | .caps => (upto 4).all fun i => decide (1 ≤ partOf 16 v i) && decide (partOf 16 v i ≤ 12000)
  | .twEnable => decide (v % 2 = 0)
  | .address => addressOk v.toNat
  | .speed => (upto 8).all fun i => partOf 2 v i ≠ 3
  | .targets => addressOk (partOf 8 v 0)

/-- Does a field, or its value, need a feature bit outside an accepted set (R145, R305)? (DEDUCED, log 15) -/
def featureMissing (feats cls idx : Nat) (d : FieldDef) (v : Int) : Bool :=
  (decide (cls = 4) && decide (32 ≤ idx) && !bit feats 9)
    || (match d.feature with
        | .none => false
        | .field b => !bit feats b
        | .value x b => decide (v = x) && !bit feats b)

/-! ### Entries and images -/

/-- An entry of Table 6-9 as it stands in a payload or an image. -/
structure Entry where
  id : Nat
  code : Nat
  len : Nat
  value : Bytes
  /-- its reserved bytes are zero -/
  clean : Bool
  deriving DecidableEq, Repr

/-- Bytes an entry of a value length takes (Table 6-9). -/
def entryBytes (len : Nat) : Nat := 4 * cdiv (6 + len) 4

/-- Entries cut from a byte string, `n` at most: what is left over, none where an entry is cut short. -/
def cutEntries : Nat → Bytes → List Entry × Bytes
  | 0, b => ([], b)
  | n + 1, b =>
    let len := fld b 4 1
    let size := entryBytes len
    if b.isEmpty ∨ b.length < size then ([], b)
    else
      let e : Entry :=
        { id := fld b 0 2, code := fld b 2 2, len := len, value := slice b 6 len
          clean := allZero b 5 1 && allZero b (6 + len) (size - 6 - len) }
      let r := cutEntries n (b.drop size)
      (e :: r.1, r.2)

/-- The field an entry names (R137). -/
def Entry.def? (e : Entry) : Option FieldDef := fieldDef (e.id / 4096) (e.id % 4096) e.code

/-- The key of an entry's field. -/
def Entry.key (e : Entry) : Nat := e.id * 65536 + e.code

/-- The number an entry carries, where its field is defined. -/
def Entry.number (e : Entry) : Int :=
  match e.def? with
  | some d => decodeValue d e.value
  | none => 0

/-- Is an entry well formed under R137 and R138, and may it be written? -/
def Entry.writable (e : Entry) : Bool :=
  match e.def? with
  | some d => d.effect ≠ .ro && d.len = e.len && e.clean && !(decide (e.id / 4096 = 11) && reservedSource (e.id % 4096))
  | none => false

/-- The bytes of an entry (Table 6-9). -/
def packEntry (key : Nat) (v : Int) : Bytes :=
  match fieldDef (keyCls key) (keyIdx key) (keyCode key) with
  | some d =>
    padTo (entryBytes d.len) (leBytes 2 (key / 65536) ++ leBytes 2 (keyCode key) ++ [byte d.len, 0] ++ encodeValue d v)
  | none => []

/-- Keys of the G fields, which every image lists (R151). -/
def keysG : List Nat :=
  ([8, 9].map fun cls => ((fieldsOf cls).filter fun d => d.effect = .g).map fun d => fieldKey cls 0 d.code).flatten

/-- Fields an image of a description lists, by key (R151). -/
def imageKeys (t : Tab (Option Int)) : List Nat :=
  (keysG.foldl (fun (m : Tab Bool) k => Tab.set false m k true) (t.map fun e => (e.1, true))).map (·.1)

/-- The entries of an image (Table 6-8). -/
def imageEntries (t : Tab (Option Int)) : Bytes := ((imageKeys t).map fun k => packEntry k (valueIn t k)).flatten

/-- Bytes 0x00 to 0x1F of an image header. -/
def imageHead (seq len count : Nat) : Bytes :=
  leBytes 4 0x45445348 ++ leBytes 2 1 ++ leBytes 2 0x0402 ++ leBytes 4 seq ++ leBytes 4 len ++ leBytes 4 count ++ zeros 12

/-- DIGEST of a header and its entries, 32 bytes. -/
def imageDigest (head entries : Bytes) : Bytes := beBytes 32 (sha256 (head ++ entries))

/-- A description image (R151). -/
def imageOf (t : Tab (Option Int)) (seq : Nat) : Bytes :=
  let e := imageEntries t
  let h := imageHead seq e.length (imageKeys t).length
  h ++ imageDigest h e ++ e

/-- DESC_DIGEST of a description under a sequence: bytes 0 to 7 of the DIGEST. -/
def digest64 (t : Tab (Option Int)) (seq : Nat) : Nat := fld (imageOf t seq) 0x20 8

/-- What a received image turns out to be (R153). -/
inductive ImageJudged where
  /-- 1 header, 2 DIGEST, 3 cover; or 4, 5 with the entry's object and field -/
  | bad (detail obj field : Nat)
  | good (seq : Nat) (values : Tab (Option Int))
  deriving DecidableEq, Repr

/-- The first entry of an image that R137 or R138 does not allow. -/
def badEntry : List Entry → Option (Nat × Nat × Nat)
  | [] => none
  | e :: t =>
    match e.def? with
    | none => some (4, e.id, e.code)
    | some d =>
      if d.effect = .ro || (decide (e.id / 4096 = 11) && reservedSource (e.id % 4096)) then some (4, e.id, e.code)
      else if d.len ≠ e.len || !e.clean || !rangeOk (e.id % 4096) d (decodeValue d e.value) then some (5, e.id, e.code)
      else badEntry t

/-- An image judged (R153, reason 0x0F). (DEDUCED, log 53) -/
def judgeImage (b : Bytes) : ImageJudged :=
  let h := b.take 0x20
  let body := b.drop 0x40
  let len := fld b 0x0C 4
  if fld b 0 4 ≠ 0x45445348 ∨ fld b 4 2 ≠ 1 ∨ len % 4 ≠ 0 ∨ 130944 < len then .bad 1 0x8000 0
  else if slice b 0x20 32 ≠ imageDigest h body then .bad 2 0x8000 0
  else
    let r := cutEntries 65536 body
    if r.2 ≠ [] ∨ r.1.length ≠ fld b 0x10 4 then .bad 1 0x8000 0
    else match badEntry r.1 with
      | some (d, o, f) => .bad d o f
      | none => .good (fld b 8 4) (r.1.foldl (fun t e => putValue t e.key e.number) [])

/-! ### Validation -/

/-- A finding of R146. -/
structure Finding where
  obj : Nat
  field : Nat
  reason : Nat
  detail : Nat
  deriving DecidableEq, Repr

/-- A finding on a field of an object. -/
def finding (cls idx field reason detail : Nat) : Finding :=
  { obj := objectId cls idx, field := field, reason := reason, detail := detail }

/-- A finding of a class chapter: its code and the second detail byte. -/
def finding14 (cls idx field code who : Nat) : Finding := finding cls idx field 0x0E (code + 256 * who)

/-- A finding where a rule is broken. -/
def foundIf (b : Bool) (f : Finding) : List Finding := if b then [f] else []

/-- Channels an output claims, existing or not. -/
def State.claims (s : State) (k : Nat) : List Nat := countFrom (s.outPhases k) (s.outFirstChannel k)

/-- Enabled outputs that claim a channel. -/
def State.claimants (s : State) (ch : Nat) : List Nat := s.describedOuts.filter fun k => (s.claims k).contains ch

/-- Channels of enabled outputs, rising. -/
def State.describedChannels (s : State) : List Nat := (upto 128).filter fun ch => s.claimants ch ≠ []

/-- Does the target of an output lie in its class's range (Table 6-7)? -/
def State.targetOk (s : State) (k : Nat) : Bool :=
  let t := s.target k
  if s.outClass k = 1 then decide (40000000 ≤ t) && decide (t ≤ 58000000) else decide (600000 ≤ t) && decide (t ≤ 14000000)

/-- Do the profile limits of an output meet R216? -/
def State.profileOk (s : State) (k : Nat) : Bool :=
  decide (s.outAccLimit k * s.outAccLimit k ≤ s.outJerkLimit k * s.outVelLimit k)

/-- Rules 0x01, 0x03, 0x05 to 0x07 and code 0x14 on an enabled output. -/
def State.checkOutput (s : State) (k : Nat) : List Finding :=
  let first := s.outFirstChannel k
  let pre := s.prereqs k
  (match (s.claims k).find? fun c => decide (128 ≤ c) || quadrant c ≠ quadrant first with
    | some c => [finding 2 k 0x04 0x01 c]
    | none => [])
  ++ ((pre.filter fun j => decide (j = k) || s.outEnable j ≠ 1).map fun _ => finding 2 k 0x06 0x03 0)
  ++ foundIf (s.outPolder k ≠ 255 && s.polEnable (s.outPolder k) ≠ 1) (finding 2 k 0x05 0x05 0)
  ++ foundIf (!s.targetOk k) (finding 2 k 0x07 0x06 0)
  ++ foundIf (s.outMaxPower k < 1) (finding 2 k 0x09 0x07 0)
  ++ foundIf (!s.profileOk k) (finding14 2 k 0x0B 0x14 k)

/-- Rule 0x02: a channel of two outputs, on each of them, on the field that claims it. (DEDUCED, log 53) -/
def State.checkShared (s : State) (ch : Nat) : List Finding :=
  let ks := s.claimants ch
  if ks.length < 2 then []
  else ks.map fun k => finding 2 k (if s.outFirstChannel k = ch then 0x03 else 0x04) 0x02 ch

/-- Rounds of adding the enabled outputs that the ones of a list name as prerequisites. -/
def State.preRounds (s : State) : Nat → List Nat → List Nat
  | 0, l => l
  | n + 1, l =>
    s.preRounds n (s.describedOuts.filter fun j => l.contains j || (l.any fun k => (s.prereqs k).contains j))

/-- Every output an output depends on, directly or not. -/
def State.preReach (s : State) (k : Nat) : List Nat :=
  s.preRounds 128 (s.describedOuts.filter (s.prereqs k).contains)

/-- Rule 0x04: the lowest output on each cycle of the prerequisite graph. (DEDUCED, log 53) -/
def State.checkCycles (s : State) : List Finding :=
  let onIt := s.describedOuts.filter fun k => (s.preReach k).contains k
  (onIt.filter fun k => !(onIt.any fun j => decide (j < k) && (s.preReach k).contains j && (s.preReach j).contains k)).map
    fun k => finding 2 k 0x06 0x04 k

/-- Rules 0x08 and 0x09 on an enabled polder. (DEDUCED, log 53) -/
def State.checkPolder (s : State) (q : Nat) : List Finding :=
  let b := s.polBudget q
  let c := s.polCeiling q
  let shares := (upto 4).map (s.polShare q)
  let quads := (upto 4).map fun n => s.describedOuts.any fun k => s.outPolder k = q && (s.claims k).any fun ch => decide (ch / 32 = n)
  foundIf (b ≠ 0 && c ≠ 0 && decide (c < b)) (finding 3 q 0x04 0x08 0)
  ++ (if shares.all (· = 0) then []
      else match firstN (fun n => (shares.getD n 0 = 0 && quads.getD n false) || (shares.getD n 0 ≠ 0 && !quads.getD n false)) (upto 4) with
        | some n => [finding 3 q (5 + n) 0x09 0]
        | none => foundIf (sumN shares ≠ c) (finding 3 q 0x05 0x09 0))

/-- Rule 0x0A: a SHED pin of two polders, on each of them. -/
def State.checkPins (s : State) : List Finding :=
  let on := s.enabledPolders
  (on.filter fun q => on.any fun p => p ≠ q && (s.polShedPins p &&& s.polShedPins q) ≠ 0).map fun q => finding 3 q 0x0B 0x0A 0

/-- Rule 0x0D: the fabric position. -/
def State.checkFabric (s : State) : List Finding :=
  let r := s.shelfFabRow
  let c := s.shelfFabCol
  foundIf (((r = 255) ≠ (c = 255)) || (r ≠ 255 && decide (s.shelfFabRows ≤ r))) (finding 8 0 0x0B 0x0D 0)
  ++ foundIf (r ≠ 255 && c ≠ 255 && decide (s.shelfFabCols ≤ c)) (finding 8 0 0x0C 0x0D 0)

/-- Is the target of output `k` raised by `x` per 10,000 above 1.2 V at the sense point of channel `ch` (code 0x03)? -/
def State.senseOver (s : State) (k ch : Nat) (x : Nat) : Bool :=
  decide (1200000 * 10000 * s.chVsRatio ch < s.target k * (10000 + x) * 2 ^ 24)

/-- Codes 0x01 to 0x04 and 0x10 of a channel of an enabled output (Tables 7-12 and 8-8, reported by R619). -/
def State.checkChannel (s : State) (ch : Nat) : List Finding :=
  let ocp := s.chOcpLimit ch
  foundIf (decide (ocp < 1) || decide (149854 * 1000 < ocp * s.chIsTransr ch)) (finding14 1 ch 0x0A 0x01 ch)
  ++ foundIf (!(decide (s.chOsRelease ch < s.chOsLevel ch) && decide (s.chOsLevel ch < s.chOvTrip ch))) (finding14 1 ch 0x0E 0x02 ch)
  ++ foundIf ((s.claimants ch).any fun k => s.senseOver k ch (s.outWinHigh k) || s.senseOver k ch (s.chOvTrip ch))
      (finding14 1 ch 0x01 0x03 ch)
  ++ foundIf (decide (s.chPeriod ch ≤ s.chDtRise ch + s.chDtFall ch)) (finding14 1 ch 0x05 0x04 ch)
  ++ foundIf (decide (s.chDMax ch ≤ s.chDMin ch)) (finding14 1 ch 0x24 0x10 ch)

/-- Is a donor a channel of the same engine, of no enabled output and named by no other channel (code 0x12)? -/
def State.donorOk (s : State) (ch : Nat) : Bool :=
  let d := s.chSlotDonor ch
  decide (d / 4 = ch / 4) && s.claimants d = [] && ((upto 128).all fun c => decide (c = ch) || s.chSlotDonor c ≠ d)

/-- Code 0x12 on a channel of an enabled output. -/
def State.checkDonor (s : State) (ch : Nat) : List Finding :=
  foundIf (s.chSlotDonor ch ≠ 255 && !s.donorOk ch) (finding14 1 ch 0x28 0x12 (s.chSlotDonor ch))

/-- Load of an engine (R200). -/
def State.engineLoad (s : State) (e : Nat) : Nat :=
  sumN (((countFrom 4 (4 * e)).filter fun c => s.claimants c ≠ []).map fun c =>
    cdiv (2 ^ 32 * 6400) (evalInterval (s.chPeriod c) (s.chSlotDonor c ≠ 255 && s.donorOk c)))

/-- Code 0x11 on an engine. -/
def State.checkEngine (s : State) (e : Nat) : List Finding :=
  match (countFrom 4 (4 * e)).find? fun c => s.claimants c ≠ [] with
  | some c => foundIf (decide (2 ^ 32 < s.engineLoad e)) (finding14 1 c 0x03 0x11 e)
  | none => []

/-- Codes 0x05 and 0x13 on a phase of an enabled output. -/
def State.checkPhase (s : State) (k i : Nat) : List Finding :=
  let first := s.outFirstChannel k
  let c := first + i
  (if s.chPeriod c ≠ s.chPeriod first then [finding14 1 c 0x03 0x05 k]
   else if s.chVsRatio c ≠ s.chVsRatio first then [finding14 1 c 0x01 0x05 k]
   else foundIf (s.chIsTransr c ≠ s.chIsTransr first) (finding14 1 c 0x02 0x05 k))
  ++ foundIf (s.chPhase c ≠ (s.chPhase first + i * 2 ^ 20 / s.outPhases k) % 2 ^ 20) (finding14 1 c 0x04 0x13 k)

/-- The phases of an output other than its lead. -/
def State.checkPhases (s : State) (k : Nat) : List Finding :=
  (((upto (s.outPhases k)).filter fun i => i ≠ 0 && decide (s.outFirstChannel k + i < 128)).map (s.checkPhase k)).flatten

/-- Codes 0x20 to 0x23 on an enabled rectifier (Table 12-2). -/
def State.checkRect (s : State) (k : Nat) : List Finding :=
  let on := (upto 40).filter fun j => s.rectEnable j = 1
  let others := on.filter (· ≠ k)
  let tide := on.filter (· < 32)
  let d := s.rectTwdev k
  foundIf (s.rectRatedPower k = 0) (finding14 4 k 0x04 0x20 k)
  ++ foundIf (s.rectRatedCurrent k = 0) (finding14 4 k 0x05 0x20 k)
  ++ (if k < 32 then foundIf (others.any fun j => decide (j < 32) && s.rectNode j = s.rectNode k) (finding14 4 k 0x02 0x21 k)
      else
        foundIf (others.any fun j => decide (32 ≤ j) && s.rectTwdev j = d) (finding14 4 k 0x03 0x21 k)
        ++ foundIf (decide (64 ≤ d) || s.devEnable d ≠ 1) (finding14 4 k 0x03 0x22 k)
        ++ foundIf (decide (d < 64) && s.devKind d ≠ 0) (finding14 4 k 0x03 0x53 k))
  ++ foundIf (s.rectStaging k = 1 && !(tide.all fun j => tide.all fun i => s.rectRatedPower i = s.rectRatedPower j))
      (finding14 4 k 0x06 0x23 k)

/-- Code 0x33 on a string: the first field that breaks it. -/
def State.checkCurves (s : State) (k : Nat) : List Finding :=
  let ocv := s.strOcv k
  let t := [s.strTempBpLo k, s.strTempBpHi k]
  let r := [s.strRateBpLo k, s.strRateBpHi k]
  (match firstN (fun i => decide (part16 ocv (i + 1) < part16 ocv i)) (upto 15) with
    | some i => [finding14 5 k (0x08 + (i + 1) / 4) 0x33 k]
    | none => [])
  ++ (match firstN (fun i => decide (part16s t (i + 1) ≤ part16s t i)) (upto 7) with
    | some i => [finding14 5 k (0x15 + (i + 1) / 4) 0x33 k]
    | none => [])
  ++ (match firstN (fun i => decide (part16 r (i + 1) ≤ part16 r i)) (upto 7) with
    | some i => [finding14 5 k (0x17 + (i + 1) / 4) 0x33 k]
    | none => [])

/-- Effective V_MIN of a described string, µV. -/
def State.vMinEff (s : State) (k : Nat) : Nat :=
  if s.strVMin k = 0 then s.strCells k * part16 (s.strOcv k) 0 * 100 else s.strVMin k

/-- Effective V_FULL of a described string, µV. -/
def State.vFullEff (s : State) (k : Nat) : Nat :=
  if s.strVFull k = 0 then s.strCells k * part16 (s.strOcv k) 15 * 100 else s.strVFull k

/-- Codes 0x32 to 0x36 on an enabled string (Table 14-4). -/
def State.checkString (s : State) (k : Nat) : List Finding :=
  let n := s.strNode k
  let w := s.strWakeI k * s.strShuntR k
  foundIf (s.strShuntR k = 0) (finding14 5 k 0x03 0x32 k)
  ++ foundIf (s.strCapacity k = 0) (finding14 5 k 0x06 0x32 k)
  ++ foundIf (s.strDisPMax k = 0) (finding14 5 k 0x1E 0x32 k)
  ++ s.checkCurves k
  ++ foundIf (n ≠ 0 && (((upto 32).any fun j => j ≠ k && s.strEnable j = 1 && s.strNode j = n)
      || ((upto 32).any fun j => s.rectEnable j = 1 && s.rectNode j = n))) (finding14 5 k 0x02 0x34 k)
  ++ foundIf (s.strTempSource k = 1 && n = 0) (finding14 5 k 0x05 0x34 k)
  ++ foundIf (decide (w < 20000000) || decide (2550000000 < w)) (finding14 5 k 0x1A 0x35 k)
  ++ foundIf (decide (s.vFullEff k ≤ s.vMinEff k)) (finding14 5 k 0x1B 0x36 k)

/-- Codes 0x30, 0x31, 0x32 and 0x37 over strings and shunts (Table 14-4). -/
def State.checkGauge (s : State) : List Finding :=
  let strs := (upto 32).filter fun k => s.strEnable k = 1
  let shunts := (upto 32).filter fun k => s.shuntEnable k = 1
  (((strs.filter fun k => s.strTable k = 1).drop 8).map fun k => finding14 5 k 0x14 0x30 k)
  ++ ((strs.filter shunts.contains).map fun k => finding14 6 k 0x01 0x31 k)
  ++ ((shunts.filter fun k => s.shuntShuntR k = 0).map fun k => finding14 6 k 0x02 0x32 k)
  ++ ((shunts.drop 16).map fun k => finding14 6 k 0x01 0x37 k)
  ++ (strs.map s.checkString).flatten

/-- Codes 0x50, 0x51 and 0x53 on an enabled TWDEV (Table 20-4). -/
def State.checkDev (s : State) (d : Nat) : List Finding :=
  let p := s.devPort d
  let a := s.devAddress d
  foundIf (!bit s.shelfTwEnable p) (finding14 10 d 0x02 0x50 d)
  ++ foundIf (((upto 64).any fun e => e ≠ d && s.devEnable e = 1 && s.devPort e = p && s.devAddress e = a)
      || partOf 8 s.devTargetAddr p = a) (finding14 10 d 0x03 0x51 d)
  ++ foundIf (s.devKind d = 0 && (((upto 40).filter fun k => decide (32 ≤ k) && s.rectEnable k = 1 && s.rectTwdev k = d).length ≠ 1))
      (finding14 10 d 0x05 0x53 d)

/-- Codes 0x50 to 0x54 (Table 20-4). -/
def State.checkTwoWire (s : State) : List Finding :=
  let devs := (upto 64).filter fun d => s.devEnable d = 1
  (devs.map s.checkDev).flatten
  ++ (((upto 128).filter fun n => s.sensorEnable n = 1 && (s.devEnable (s.sensorTwdev n) ≠ 1 || s.devKind (s.sensorTwdev n) ≠ 1)).map
      fun n => finding14 7 n 0x02 0x52 n)
  ++ foundIf (!addressOk (partOf 8 s.devTargetAddr 0)
      || (upto 8).any fun p => partOf 8 s.devTargetAddr p ≠ 0 && !addressOk (partOf 8 s.devTargetAddr p)) (finding14 10 0 0x41 0x54 0)

/-- Codes 0x40 to 0x42 on a fault source (R481). -/
def State.checkSource (s : State) (n : Nat) : List Finding :=
  let r := (s.field 11 n 0x01 (reactionsReset n)).toNat
  if reservedSource n then []
  else
    foundIf ((r &&& sourceFixed n) ≠ sourceFixed n) (finding14 11 n 0x01 0x40 n)
    ++ foundIf (bit r 5 && sourceBlock n = 0xFF) (finding14 11 n 0x01 0x41 n)
    ++ foundIf (bit r 4 && !sourceSafety n) (finding14 11 n 0x01 0x42 n)

/-- Rules on the description `s` holds as committed, whatever changed. (DEDUCED, log 53) -/
def State.checkAll (s : State) : List Finding :=
  let outs := s.describedOuts
  let chans := s.describedChannels
  (outs.map s.checkOutput).flatten ++ (chans.map s.checkShared).flatten ++ s.checkCycles
  ++ (s.enabledPolders.map s.checkPolder).flatten ++ s.checkPins ++ s.checkFabric
  ++ (chans.map s.checkChannel).flatten ++ (chans.map s.checkDonor).flatten ++ ((upto 32).map s.checkEngine).flatten
  ++ (outs.map s.checkPhases).flatten
  ++ (((upto 40).filter fun k => s.rectEnable k = 1).map s.checkRect).flatten
  ++ s.checkGauge ++ s.checkTwoWire ++ ((upto 320).map s.checkSource).flatten

/-- Outputs a field with effect code S refers to (R139). -/
def State.outsOfField (s : State) (key : Nat) : List Nat :=
  match keyCls key with
  | 1 => s.claimants (keyIdx key)
  | 2 => [keyIdx key]
  | 3 => s.describedOuts.filter fun k => s.outPolder k = keyIdx key
  | _ => []

/-- Effect code of a field key. -/
def effectOf (key : Nat) : Effect :=
  match fieldDef (keyCls key) (keyIdx key) (keyCode key) with
  | some d => d.effect
  | none => .ro

/-- Rules 0x0B and 0x0C on one changed field: `s` holds the committed description, `v` the one to be. (DEDUCED, log 53) -/
def State.checkChange (s v : State) (key : Nat) : List Finding :=
  match effectOf key with
  | .s =>
    ((upto 128).filter fun k => ((s.outsOfField key).contains k || (v.outsOfField key).contains k) && (s.outAt k).state ≠ 0).map
      fun k => finding (keyCls key) (keyIdx key) (keyCode key) 0x0B k
  | .g => foundIf (s.mode ≠ .configure) (finding (keyCls key) (keyIdx key) (keyCode key) 0x0C 0)
  | _ => []

/-- Rule 0x10: the excess of an image over 130,944 bytes. -/
def checkLength (t : Tab (Option Int)) : List Finding :=
  let n := (imageEntries t).length
  foundIf (decide (130944 < n)) (finding 8 0 0x80 0x10 (min 0xFFFFFF (n - 130944)))

/-- Findings in ascending object ID and field code (R146), each once. -/
def orderFindings (l : List Finding) : List Finding :=
  sortBy (fun f => f.obj * 65536 + f.field) (l.foldl (fun acc f => if acc.contains f then acc else acc ++ [f]) [])

/-- The state with another committed description. -/
def State.withDescription (s : State) (t : Tab (Option Int)) : State := { s with desc := { s.desc with committed := t } }

/-- Field keys whose values differ between two descriptions. -/
def changedKeys (a b : Tab (Option Int)) : List Nat :=
  ((b.foldl (fun (m : Tab Bool) e => Tab.set false m e.1 true) (a.map fun e => (e.1, true))).map (·.1)).filter fun k =>
    decide (Tab.get none a k ≠ Tab.get none b k)

/-- The findings of a description against the committed one (R146). -/
def State.validate (s : State) (t : Tab (Option Int)) : List Finding :=
  let v := s.withDescription t
  orderFindings (v.checkAll ++ ((changedKeys s.desc.committed t).map (s.checkChange v)).flatten ++ checkLength t)

/-- Table 19-5. -/
def findingsBytes (l : List Finding) : Bytes :=
  let c := l.take 60
  leSat 2 l.length ++ [byte c.length, 0]
    ++ (c.map fun f => leBytes 2 f.obj ++ leBytes 2 f.field ++ [byte f.reason] ++ leBytes 3 f.detail).flatten

/-- Does a finding concern a live field (R615, step 5)? -/
def State.involves (s : State) (f : Finding) (key : Nat) : Bool :=
  let cls := keyCls key
  let code := keyCode key
  let own := decide (f.obj = key / 65536)
  let d := f.detail % 256
  if f.reason = 0x10 then true
  else if f.reason = 0x06 then own && (code = 0x07 || code = 0x08)
  else if f.reason = 0x07 then own && code = 0x09
  else if f.reason = 0x08 then own && (code = 0x03 || code = 0x04)
  else if f.reason = 0x09 then own && (decide (0x04 ≤ code) && decide (code ≤ 0x08))
  else if f.reason = 0x0E ∧ d = 0x01 then own && code = 0x0A
  else if f.reason = 0x0E ∧ d = 0x02 then own && (decide (0x0D ≤ code) && decide (code ≤ 0x0F))
  else if f.reason = 0x0E ∧ d = 0x03 then
    (own && code = 0x0F)
      || (decide (cls = 2) && (s.claims (keyIdx key)).contains (f.obj % 4096) && [0x07, 0x08, 0x11].contains code)
  else if f.reason = 0x0E ∧ d = 0x10 then own && (code = 0x24 || code = 0x25)
  else if f.reason = 0x0E ∧ d = 0x14 then own && (decide (0x0A ≤ code) && decide (code ≤ 0x0C))
  else if f.reason = 0x0E ∧ d = 0x23 then decide (cls = 4) && code = 0x06
  else if f.reason = 0x0E ∧ d = 0x32 then own && code = 0x1E
  else if f.reason = 0x0E ∧ d = 0x33 then own && [0x08, 0x09, 0x0A, 0x0B, 0x15, 0x16, 0x17, 0x18].contains code
  else if f.reason = 0x0E ∧ d = 0x35 then own && code = 0x1A
  else if f.reason = 0x0E ∧ d = 0x36 then own && [0x08, 0x0B, 0x1B, 0x1C].contains code
  else false

/-- Does a live entry break a cross-field rule in the description `v` (R157, R216, R615)? Targets and profile limits are
judged on any output. -/
def State.liveFault (v : State) (l : List Finding) (key : Nat) : Bool :=
  let k := keyIdx key
  (decide (keyCls key = 2) && (keyCode key = 0x07 || keyCode key = 0x08) && !v.targetOk k)
    || (decide (keyCls key = 2) && [0x0A, 0x0B, 0x0C].contains (keyCode key) && !v.profileOk k)
    || l.any fun f => v.involves f key

end Sys2Proof.Machine
end

