-- ==== Sys2Proof/Machine/Rectifier.lean ====
section
/-! DEFINITION. The staging plan, the share engine, rectifier reports and the rectifier orders (R305 to R319). -/
namespace Sys2Proof.Machine

/-! ### The plan -/

/-- w_k (R306). -/
def State.rectW (s : State) (k : Nat) : Nat := if s.rectWeight k = 0 then s.rectRatedPower k / 1000 else s.rectWeight k

/-- Is a rectifier a legacy one (Table 12-1)? -/
def legacyRect (k : Nat) : Bool := decide (32 ≤ k)

/-- The strings' charge-current limit (R368), none where no string has a limit. -/
def State.stringsCharge (s : State) : Option Nat :=
  let l := (s.enabledStrings.map s.stringAt).filter (·.limOn)
  if l.any (·.chgLimited) then some (max 1 (sumN (l.map fun b => if b.chgLimited then b.chgLim else 2000000))) else none

/-- CHG_LIM (R306): the least of CHG_LIMIT and the strings' charge-current limit. -/
def State.chgLimit (s : State) : Option Nat :=
  match s.stringsCharge with
  | none => if s.rectChgLimit = 0 then none else some s.rectChgLimit
  | some l => some (if s.rectChgLimit = 0 then l else min l s.rectChgLimit)

/-- The eight efficiencies of a rectifier as the plan uses them: learned, else the prior (R308, R309). -/
def State.rectBins (s : State) (k : Nat) : List Nat :=
  let r := s.rectAt k
  let prior := [s.rectEffPriorLo k, s.rectEffPriorHi k]
  (upto 8).map fun b => if 256 ≤ r.samples.getD b 0 then r.eff.getD b 0 else part16 prior b

/-- EFF_LEARNED of a rectifier: 0 for a bin not learned (Table 12-1). -/
def Rect.learned (r : Rect) : List Nat := (upto 8).map fun b => if 256 ≤ r.samples.getD b 0 then r.eff.getD b 0 else 0

/-- A rectifier as the loss prediction sees it. -/
def State.lossRect (s : State) (k : Nat) : LossRect :=
  { weight := s.rectW k, rated := s.rectRatedPower k, bins := s.rectBins k }

/-- Rated power less its largest member (R307). -/
def lessLargest (l : List Nat) : Nat := sumN l - maxN l

/-- Does a set of rectifiers satisfy N+1 (R307)? -/
def State.nPlus1 (s : State) (l : List Nat) (pStage : Nat) : Bool :=
  decide (pStage ≤ lessLargest ((l.filter fun k => !(s.rectAt k).acLost).map s.rectRatedPower))

/-- P_stage (R307). -/
def State.pStage (s : State) : Nat := maxN s.plan.demand * (10000 + s.rectHeadroom) / 10000

/-- The stageable available rectifiers, lowest RANK first, the lower index first among equals. -/
def State.stageable (s : State) : List Nat :=
  sortBy (fun k => (s.rectAt k).rank) (s.planRects.filter fun k => decide (s.rectStaging k = 1))

/-- The available rectifiers that are always online. -/
def State.alwaysOn (s : State) : List Nat := s.planRects.filter fun k => decide (s.rectStaging k ≠ 1)

/-- A rectifier is unparked (R313, R317): STATE 3, and the trim of a legacy one starts at 0. -/
def State.unpark (s : State) (k : Nat) : State :=
  let t := s.budget.tides
  s.setRect k fun r => { r with state := 3, unparkTide := t, trimL := 0, opDue := some 0x80 }

/-- A rectifier is parked. -/
def State.park (s : State) (k : Nat) : State := s.setRect k fun r => { r with state := 2, opDue := some 0x00 }

/-- Parked members of a list. -/
def State.parkedOf (s : State) (l : List Nat) : List Nat := l.filter fun k => decide ((s.rectAt k).state = 2)

/-- Every parked member of a list is unparked. -/
def State.unparkAll (s : State) (l : List Nat) : State := s.each (s.parkedOf l) State.unpark

/-- Stageable rectifiers that count as online: not parked, with AC, and not unparking for a swap. -/
def State.onlineStageable (s : State) : List Nat :=
  s.stageable.filter fun k => decide ((s.rectAt k).state ≠ 2) && !(s.rectAt k).acLost && decide (s.plan.swapIn ≠ some k)

/-- N+1 fails with every available rectifier online (R307): all are unparked, and the episode is recorded once. -/
def State.planShort (s : State) : State :=
  let s := s.unparkAll s.planRects
  let online := s.planRects.length
  let s := if s.plan.short then s else s.record 0x12 4 ([byte online, 0, 0, 0] ++ leSat 4 s.pStage)
  { s with plan := { s.plan with short := true, parkTides := 0 } }

/-- The online count of stageable rectifiers that the plan chooses (R308): from the least count that meets N+1. -/
def State.chooseCount (s : State) (least : Nat) : Nat :=
  let base := s.alwaysOn.filter fun k => !(s.rectAt k).acLost
  let st := s.stageable.filter fun k => !(s.rectAt k).acLost
  let po := (meanOf s.plan.pout).toNat
  bestCount (fun n => totalLoss po ((base ++ st.take n).map s.lossRect)) least (st.length - least)

/-- The choice of the online count at a boundary (R308, R313). -/
def State.planStaged (s : State) (least : Nat) : State :=
  let n := s.chooseCount least
  let on := s.onlineStageable.length
  let s := s.each ((s.parkedOf (s.stageable.filter fun k => !(s.rectAt k).acLost)).take (n - on)) State.unpark
  { s with plan := { s.plan with
      short := false, nStar := n, parkTides := if n < on then s.plan.parkTides + 1 else 0
      swapWait := if on < n then 10000 else s.plan.swapWait } }

/-- The staging plan of the tide that begins (R306 to R308). -/
def State.stagePlan (s : State) : State :=
  let st := s.stageable.filter fun k => !(s.rectAt k).acLost
  let s := { s with plan := { s.plan with
    chgLim := s.chgLimit, staging := decide (s.stageable ≠ []), stranger := s.tide.stranger, ageTides := 0
    up := s.enabledRects.filter fun k => decide ((s.rectAt k).state = 1) } }
  let s := s.unparkAll s.alwaysOn
  if s.budget.rtActive then
    let s := s.unparkAll s.planRects
    if s.nPlus1 s.planRects s.pStage then { s with plan := { s.plan with parkTides := 0, short := false } } else s.planShort
  else
    match firstN (fun n => s.nPlus1 (s.alwaysOn ++ st.take n) s.pStage) (upto (st.length + 1)) with
    | none => s.planShort
    | some least => s.planStaged least

/-! ### Learning -/

/-- Output power of a rectifier's report, mW (R309). -/
def Rect.pOut (r : Rect) : Int := tdiv (r.iOut * (r.vOut : Int)) 1000000

/-- One learning sample of an online rectifier (R309). -/
def State.learnRect (s : State) (k : Nat) : State :=
  let r := s.rectAt k
  if r.state = 1 ∧ r.reported = true ∧ r.reportTide = s.budget.tides ∧ r.acLost = false ∧ 0 < r.pOut ∧ 0 < r.pIn then
    let eta := etaSample r.pOut.toNat r.pIn.toNat
    let b := effBin r.pOut.toNat (s.rectRatedPower k)
    let pad (l : List Nat) : List Nat := l ++ List.replicate (8 - l.length) 0
    s.setRect k fun r =>
      { r with
        eff := setAt (pad r.eff) b (effUpdate (r.eff.getD b 0) (r.samples.getD b 0) eta)
        samples := setAt (pad r.samples) b (min 256 (r.samples.getD b 0 + 1)) }
  else s

/-- ONLINE_S of a rectifier after one tide (Table 12-1). -/
def Rect.countOnline (r : Rect) : Rect :=
  if r.state = 1 then
    if r.onlineTides = 999 then { r with onlineTides := 0, onlineS := min 0xFFFFFFFF (r.onlineS + 1) }
    else { r with onlineTides := r.onlineTides + 1 }
  else r

/-- The measurements of the tide that ended (R307, R308): staging demand and output power, and the timers of the plan. -/
def State.planTide (s : State) : State :=
  let iSh := sumI (s.enabledShunts.map fun k => (s.convAt k).tideMa)
  let v := s.gauge.busV.getD 0
  let po := sumI ((s.enabledRects.filter fun k => decide ((s.rectAt k).state = 1)).map fun k => (s.rectAt k).pOut)
  let s := s.each s.enabledRects fun s k => (s.learnRect k).setRect k Rect.countOnline
  { s with plan := { s.plan with
      demand := keepNewest 1000 (iSh * (v : Int) / 1000000).toNat s.plan.demand, pout := keepNewest 1000 po s.plan.pout
      sincePark := s.plan.sincePark + 1, swapWait := s.plan.swapWait - 1
      stagingTides := s.plan.stagingTides + 1
      rotationTides := if s.mode = .run then s.plan.rotationTides + 1 else s.plan.rotationTides } }

/-! ### Events of the plan -/

/-- May the warden park and rotate: the spillway's conditions, no frozen plan, no Ride-through (R308, R310, R318)? -/
def State.mayPark (s : State) : Bool := s.spillway && !s.budget.frozen && !s.budget.rtActive && !s.plan.short

/-- Has a rectifier that was online as this tide's plan was made failed since (R313, R318)? -/
def State.onlineFailed (s : State) : Bool := s.plan.up.any fun k => [0, 4, 5].contains (s.rectAt k).state

/-- PARK (R308): n* below the online count for PARK_HOLD parks the online stageable rectifier of highest RANK; the failure of an
online one in the same tide cancels it (R318). (DEDUCED, log 63) -/
def execPark (s : State) : Host.Outcome State Fault Refusal :=
  .next (if s.mayPark ∧ s.onlineFailed = false ∧ s.rectParkHold * 1000 ≤ s.plan.parkTides ∧ 10000 ≤ s.plan.sincePark
      ∧ s.plan.nStar < s.onlineStageable.length then
    match (s.onlineStageable.filter fun k => decide ((s.rectAt k).state = 1)).getLast? with
    | some k =>
      let s := s.park k
      { s with plan := { s.plan with sincePark := 0 } }
    | none => s
    else s)

/-- Ranks by ONLINE_S ascending, the lower index first (R310). (DEDUCED, log 62) -/
def State.rankAll (s : State) : State :=
  let l := sortBy (fun k => (s.rectAt k).onlineS) ((upto 40).filter fun k => s.rectEnable k = 1 && s.rectStaging k = 1)
  s.each (upto l.length) fun s i => s.setRect (l.getD i 0) fun r => { r with rank := i }

/-- Does rotation wait (R310)? -/
def State.rotationWaits (s : State) : Bool :=
  !s.mayPark || s.planRects.any fun k => decide ((s.rectAt k).state = 3) && decide (s.plan.swapIn ≠ some k)

/-- The next pair of a rotation (R310), or its end when no parked rectifier ranks before an online one. -/
def State.swapBegin (s : State) : State :=
  let st := s.stageable
  match (s.parkedOf st).head?, (st.filter fun k => decide ((s.rectAt k).state = 1)).getLast? with
  | some p, some o =>
    if (s.rectAt p).rank < (s.rectAt o).rank then
      let s := s.unpark p
      { s with plan := { s.plan with swapIn := some p } }
    else { s with plan := { s.plan with rotation := false } }
  | _, _ => { s with plan := { s.plan with rotation := false } }

/-- A pair whose unparked rectifier is in STATE 1 is completed: the online one of highest RANK is parked. -/
def State.swapEnd (s : State) (p : Nat) : State :=
  let s := { s with plan := { s.plan with swapIn := none, swapWait := 10000 } }
  if (s.rectAt p).state = 1 then
    match (s.stageable.filter fun k => decide ((s.rectAt k).state = 1) && decide (k ≠ p)).getLast? with
    | some o =>
      let s := s.park o
      { s with plan := { s.plan with sincePark := 0 } }
    | none => s
  else s

/-- A rotation begins: the ranks, and the first pair. -/
def State.rotateBegin (s : State) : State :=
  let s := s.rankAll
  ({ s with plan := { s.plan with rotation := true, rotationTides := 0, swapIn := none, swapWait := 0 } }).swapBegin

/-- ROTATION (R310): every ROTATE_PERIOD of Run the ranking and the first pair, then the pairs, 10 s apart. (DEDUCED, log 63) -/
def execRotation (s : State) : Host.Outcome State Fault Refusal :=
  .next (if s.plan.rotation then
    match s.plan.swapIn with
    | some p => if (s.rectAt p).state = 3 ∨ s.mayPark = false then s else s.swapEnd p
    | none => if s.rotationWaits ∨ 0 < s.plan.swapWait then s else s.swapBegin
    else if s.mode = .run ∧ s.rectRotatePeriod ≠ 0 ∧ s.rectRotatePeriod * 1000 ≤ s.plan.rotationTides
      ∧ s.rotationWaits = false then s.rotateBegin
    else s)

/-- UNPARK_TIMEOUT (R313): a Tideline rectifier that has not reported output on within 100 ms fails. -/
def execUnparkTimeout (rect : Nat) (s : State) : Host.Outcome State Fault Refusal :=
  let r := s.rectAt rect
  .next (if r.state = 3 ∧ rect < 32 ∧ r.unparkTide + 100 ≤ s.budget.tides ∧ s.spillway = true then
    s.setRect rect fun r => { r with state := 5 } else s)

/-- The staging record of a rectifier (R309). -/
def State.stagingRecord (s : State) (k : Nat) : State :=
  let r := s.rectAt k
  s.record 0x12 5 ([byte k, byte r.rank, 0, 0] ++ leBytes 4 r.onlineS ++ ((upto 8).map fun b => leBytes 2 (r.eff.getD b 0)).flatten
    ++ ((upto 8).map fun b => byte (min 255 (r.samples.getD b 0))))

/-- STAGING_RECORD (R309): every 3,600 s, for each enabled rectifier. (DEDUCED, log 63) -/
def execStagingRecord (s : State) : Host.Outcome State Fault Refusal :=
  .next (if s.spillway ∧ 3600000 ≤ s.plan.stagingTides then
    let s := { s with plan := { s.plan with stagingTides := 0 } }
    s.each s.enabledRects State.stagingRecord
    else s)

/-- What a staging record restores (R309). (DEDUCED, log 63) -/
def State.restoreStaging (s : State) (p : Bytes) : State :=
  s.setRect (fld p 8 1) fun r =>
    { r with
      rank := fld p 9 1, onlineS := fld p 12 4, eff := (upto 8).map fun b => fld p (16 + 2 * b) 2
      samples := (upto 8).map fun b => fld p (32 + b) 1 }

/-! ### Reports -/

/-- STATE of a rectifier after a report (R313). (DEDUCED, log 63) -/
def Rect.nextState (r : Rect) (acLost outputOn fault : Bool) : Nat :=
  if r.withdrawn then 6
  else if fault then 5
  else if r.state = 2 then 2
  else if acLost then 4
  else if outputOn then 1
  else if r.state = 1 then 1
  else 3

/-- A report of rectifier `k` reaches the warden (R313). -/
def State.rectReport (s : State) (k : Nat) (iOut : Int) (vOut : Nat) (pIn : Int) (acLost outputOn fault : Bool) : State :=
  let t := s.budget.tides
  let e := s.clocks.epoch
  s.setRect k fun r =>
    let n := r.nextState acLost outputOn fault
    { r with
      state := n, unparkTide := if n = 3 ∧ r.state ≠ 3 then t else r.unparkTide, iOut := iOut, vOut := vOut, pIn := pIn
      acLost := acLost, reportEpoch := e, reportTide := t, reported := true, missRun := 0 }

/-- A scheduled report of rectifier `k` did not arrive (R313): 3 in a row fail it. -/
def State.rectMissed (s : State) (k : Nat) : State :=
  s.setRect k fun r =>
    let n := r.missRun + 1
    { r with
      missed := (r.missed + 1) % 2 ^ 32, missRun := n
      state := if 3 ≤ n ∧ (r.state = 1 ∨ r.state = 2 ∨ r.state = 3 ∨ r.state = 4) then 5 else r.state }

/-- A rectifier joins: it is to be online, until the plan parks it. -/
def State.rectJoin (s : State) (k : Nat) : State :=
  let t := s.budget.tides
  s.setRect k fun r =>
    { r with
      joined := true, state := if r.withdrawn then 6 else 3, unparkTide := t, reported := false, missRun := 0
      acLost := false }

/-- A rectifier leaves (R313): STATE 0. -/
def State.rectLeave (s : State) (k : Nat) : State :=
  s.setRect k fun r => { r with joined := false, state := 0, reported := false, acLost := false }

/-! ### The share engine -/

/-- I_rep of a rectifier (R311): its latest report, or its last command where that is older than 2 tides. -/
def State.iRep (s : State) (k : Nat) : Int :=
  let r := s.rectAt k
  if r.reported ∧ s.budget.tides ≤ r.reportTide + 2 then r.iOut else r.cmdI

/-- Sum of I_rep over enabled rectifiers that satisfy a condition. -/
def State.sumRep (s : State) (p : Nat → Bool) : Int := sumI ((s.enabledRects.filter p).map s.iRep)

/-- The demand of a beacon cycle (R311). -/
def State.demandOf (s : State) (iSh iBt : Int) : Int :=
  let st (k : Nat) : Nat := (s.rectAt k).state
  shareDemand iSh iBt s.plan.chgLim s.tide.stranger (s.sumRep fun k => decide (st k = 1) || decide (st k = 3))
    (s.sumRep fun k => legacyRect k && decide (st k = 1))

/-- The commands of one Tideline rectifier with their encodings (R311, R312). Where no weight is in force (W = 0) the share of a
rectifier in STATE 1 is not stated: a free value. -/
def State.commandRect (s : State) (dem adj : Int) (total k : Nat) : State :=
  let r := s.rectAt k
  let nominal := s.shelfBusNominal
  let v : Int := nominal + s.rectTrim k + adj
  let v := if r.state = 1 then v + s.tide.probe else v
  let i := if r.state = 1 ∧ total = 0 then min (s.rectRatedCurrent k) (s.fresh .unstated k)
    else if r.state = 1 then shareCurrent (s.rectRatedCurrent k) dem (s.rectW k) total else 0
  let wI := if r.state = 1 ∨ r.state = 3 ∨ r.state = 4 then cmdIWordOf i else 0xFFFF
  let wV := cmdVWordOf v nominal
  s.setRect k fun r =>
    { r with
      cmdIWord := wI, cmdVWord := wV, cmdI := if wI = 0xFFFF then 0 else 10 * wI, cmdV := (nominal + 1000 * wV).toNat }

/-- SHARE_ENGINE (R311): the commands of a beacon cycle from the means of the preceding one; a probe holds adj (R382). (DEDUCED, log 57) -/
def State.shareEngine (s : State) (iSh iBt : Int) : State :=
  let p := s.plan
  let adj := if s.gauge.probe.isSome then p.adj else adjNext p.adj iBt p.chgLim s.rectChgTrimGain s.rectTrimAdjMax
  let dem := s.demandOf iSh iBt
  let on := s.enabledRects.filter fun k => !legacyRect k && decide ((s.rectAt k).state = 1)
  let total := sumN (on.map s.rectW)
  let s := { s with plan := { p with
    adj := adj, dHist := keepNewest 1000 (iSh - iBt + chargeTerm p.chgLim iBt) p.dHist } }
  (s.each (s.enabledRects.filter fun k => !legacyRect k) fun s k => s.commandRect dem adj total k).used

/-! ### Legacy service -/

/-- Sum of w over all rectifiers in STATE 1. -/
def State.wAll (s : State) : Nat :=
  sumN ((s.enabledRects.filter fun k => decide ((s.rectAt k).state = 1)).map s.rectW)

/-- The legacy command of a service (R317): trim_l and VOUT_COMMAND from READ_IOUT. The target is a free value where no
rectifier is in STATE 1 or no beacon cycle has passed, and VOUT_COMMAND where it does not fit its word. (DEDUCED, log 63) -/
def State.legacyCommand (s : State) (k : Nat) (readI : Int) : State :=
  let r := s.rectAt k
  let d := meanOf s.plan.dHist
  let none := decide (s.wAll = 0) || decide (s.plan.dHist = [])
  let tgt := if none then wrapS 32 (s.fresh .unstated 0 : Nat) else tdiv (d * (s.rectW k : Int)) s.wAll
  let trim := legacyTrim r.trimL tgt readI s.rectLegacyGain s.rectLegacyTrimMax
  let uv : Int := s.shelfBusNominal + s.rectTrim k + s.plan.adj + trim
  let n := r.voutMode.getD 0
  let v := voutCommand uv n
  let v := if 0 ≤ v ∧ v < 65536 then v else (s.fresh .unstated 1 % 65536 : Nat)
  (s.setRect k fun r => { r with trimL := trim, vcmd := v, cmdV := uv.toNat, cmdI := tgt.toNat }).used

/-! ### Orders -/

/-- Does a map name a legacy rectifier (R319)? -/
def namesLegacy (m : Nat) : Bool := (mapList 40 m).any legacyRect

/-- May a request name its rectifiers: a legacy one asks for feature bit 9 (R305, R122 step 4)? -/
def mayName (q : Req) (_ : State) : Bool := !namesLegacy (q.u 0 8) || bit q.feats 9

/-- One rectifier in RECT.STATUS (Table 12-6). -/
def View.rectBytes (v : View) (k : Nat) : Bytes :=
  let r := Tab.get ({} : Rect) v.rect k
  [byte r.state, byte r.rank] ++ leBytes 2 r.cmdIWord ++ leS 4 r.iOut ++ leS 4 r.pIn

/-- RECT.STATUS (R319), of the last sealed epoch. -/
def execRectStatus (mb : Nat) (s : State) : Host.Outcome State Fault Refusal :=
  .next (s.runOrder 0x0701 mb fun q s =>
    if !q.lay 0 [] then s.refuse q .badArg
    else
      let v := s.sealedView
      let on := (upto 40).filter fun k => decide ((Tab.get ({} : Rect) v.rect k).state = 1)
      s.replySealed q (leBytes 8 (listMap on)
        ++ [byte (b2n v.plan.short + 2 * b2n v.plan.staging + 4 * b2n v.plan.stranger), byte on.length, 0, 0]
        ++ leS 4 v.plan.adj ++ ((upto 40).map v.rectBytes).flatten))

/-- Would N+1 hold without the rectifiers of a map (R318)? -/
def State.withdrawable (s : State) (m : Nat) : Bool := s.nPlus1 (s.planRects.filter fun k => !bit m k) s.pStage

/-- RECT.WITHDRAW (R319): effect at a tide boundary. -/
def execRectWithdraw (mb : Nat) (s : State) : Host.Outcome State Fault Refusal :=
  .next (s.runOrderWith 0x0702 mb anyRequest mayName fun q s =>
    let m := q.u 0 8
    if !q.lay 16 [(9, 7)] || 1 < q.u 8 1 || decide (2 ^ 40 ≤ m) || (mapList 40 m).any fun k => s.rectEnable k ≠ 1 then
      s.refuse q .badArg
    else if q.u 8 1 = 0 && !s.withdrawable m then s.refuse q .locked
    else s.wait q (.rectWithdraw m (q.u 8 1)))

/-- Withdrawn rectifiers, as a map. -/
def State.withdrawnMap (s : State) : Nat := mapWhere 40 fun k => (s.rectAt k).withdrawn

/-- RECT.WITHDRAW takes effect. -/
def State.rectWithdrawDone (s : State) (mb m action : Nat) : State :=
  if action = 0 ∧ s.withdrawable m = false then s.finish mb .locked []
  else
    let t := s.budget.tides
    let s := s.each (mapList 40 m) fun s k => s.setRect k fun r =>
      if action = 0 then { r with withdrawn := true, state := 6, opDue := some 0x00 }
      else if !r.withdrawn then r
      else
        { r with
          withdrawn := false, state := if r.joined then 3 else 0, unparkTide := t, trimL := 0
          opDue := some 0x80 }
    s.finish mb .ok (leBytes 8 s.withdrawnMap)

/-- RECT.ROTATE (R319): the first swap at a tide boundary. -/
def execRectRotate (mb : Nat) (s : State) : Host.Outcome State Fault Refusal :=
  .next (s.runOrder 0x0703 mb fun q s =>
    if s.rotationWaits then s.refuse q .wrongMode
    else if !q.lay 0 [] then s.refuse q .badArg
    else s.wait q .rectRotate)

/-- RECT.ROTATE takes effect: the response gives the epoch of the first swap. -/
def State.rectRotateDone (s : State) (mb : Nat) : State :=
  if s.rotationWaits then s.finish mb .wrongMode []
  else (if s.plan.rotation then s else s.rotateBegin).finish mb .ok (leBytes 4 s.clocks.epoch)

/-- RECT.FORGET (R319): effect at a tide boundary. -/
def execRectForget (mb : Nat) (s : State) : Host.Outcome State Fault Refusal :=
  .next (s.runOrderWith 0x0704 mb anyRequest mayName fun q s =>
    let m := q.u 0 8
    if !q.lay 8 [] || decide (2 ^ 40 ≤ m) then s.refuse q .badArg
    else s.wait q (.rectForget m))

/-- RECT.FORGET takes effect: learned curve, ONLINE_S and sample counts. -/
def State.rectForgetDone (s : State) (mb m : Nat) : State :=
  (s.each (mapList 40 m) fun s k => s.setRect k fun r =>
    { r with eff := [], samples := [], onlineS := 0, onlineTides := 0 }).finish mb .ok []

end Sys2Proof.Machine
end

