-- ==== Sys2Proof/Machine/Gauge.lean ====
section
/-! DEFINITION. The battery gauge (R352 to R380): latches, the gauge cycle of a string, what it reports, its limits, battery
reports and the restore at Configure. -/
namespace Sys2Proof.Machine

/-! ### Converters -/

/-- Does converter `k` count (R356): assigned, its domain powered, neither held in reset nor hibernating? -/
def State.convRuns (s : State) (k : Nat) : Bool :=
  let c := s.convAt k
  s.domain 13 && !s.held 9 && c.running && !c.hib

/-- Assignment and wake thresholds of the converters by the description (R356, R371). -/
def State.assignConvs (s : State) : State :=
  s.each (upto 32) fun s k =>
    let run := s.strEnable k = 1 || s.shuntEnable k = 1
    let w := wakeThreshold (s.strWakeI k) (s.strShuntR k)
    s.setConv k fun c => { c with running := run, wakeStep := if s.strEnable k = 1 then w else 0 }

/-- Shunt resistance of the object converter `k` serves, nΩ. -/
def State.shuntOf (s : State) (k : Nat) : Nat := if s.strEnable k = 1 then s.strShuntR k else s.shuntShuntR k

/-- RAW of the converters that count, read at a strobe (R352, R353): 48 bits, with their over-range flags. -/
def State.readRaws (s : State) (raws : List Int) (ovr clk : Nat) : State :=
  let s := { s with gauge := { s.gauge with clk := clk % 2 ^ 32 } }
  s.each (upto 32) fun s k =>
    if s.convRuns k then
      match raws[k]? with
      | some r => s.setConv k fun c => { c with raw := wrapS 48 r, ovr := c.ovr || bit ovr k }
      | none => s
    else s

/-- The beacon latch (R354): the mean current of the cycle that ended. -/
def State.latchBeacon (s : State) : State :=
  s.each (upto 32) fun s k =>
    let r := s.shuntOf k
    let clk := s.gauge.clk
    let c := s.convAt k
    let i := intervalMa (rawDiff c.raw c.beaconRaw) (clkDiff clk c.beaconClk) r
    s.setConv k fun c => { c with beaconMa := i, beaconRaw := c.raw, beaconClk := clk }

/-- The tide latch (R354): the mean current of the tide that ended. -/
def State.latchTide (s : State) : State :=
  s.each (upto 32) fun s k =>
    let r := s.shuntOf k
    let clk := s.gauge.clk
    let c := s.convAt k
    let i := intervalMa (rawDiff c.raw c.tideRaw) (clkDiff clk c.tideClk) r
    s.setConv k fun c => { c with tideMa := i, tideRaw := c.raw, tideClk := clk }

/-- I_sh and I_bt of the last beacon cycle (R311). -/
def State.busCurrents (s : State) : Int × Int :=
  (sumI (s.enabledShunts.map fun k => (s.convAt k).beaconMa),
   sumI (s.enabledStrings.map fun k => if (s.convAt k).hib then 0 else (s.convAt k).beaconMa))

/-! ### Fault bits -/

/-- Is a tap code outside 0.2 V to 1.45 V? -/
def tapBad (code : Nat) : Bool := decide (code * 46875 < 200000 * 128) || decide (1450000 * 128 < code * 46875)

/-- The events of fault bits that set (R388): one per bit, coded by its number plus 1. (DESIGN CHOICE, log 64) -/
def State.raiseGauge (s : State) (k old new : Nat) : State :=
  s.each ((upto 8).filter fun b => bit new b && !bit old b) fun s b => s.raise (128 + k) (b + 1) []

/-- VOLTAGE and FAULT of a shunt, and the bus voltage, of the tide that ended (R357, R358). -/
def State.shuntTide (s : State) : State :=
  let s := s.each s.enabledShunts fun s k =>
    let n := Tab.get 0 s.gauge.shuntCnt k
    let sum := Tab.get 0 s.gauge.shuntSum k
    let v := if n = 0 then Tab.get 0 s.gauge.shuntV k else tapVoltage sum (s.shuntVRatio k) / n
    let f := b2n (s.convAt k).ovr + 2 * b2n (decide (0 < n) && tapBad (sum / max n 1))
    let old := Tab.get 0 s.gauge.shuntFault k
    ({ s with gauge := { s.gauge with
        shuntV := Tab.set 0 s.gauge.shuntV k v, shuntFault := Tab.set 0 s.gauge.shuntFault k f } }).raiseGauge k old f
  let l := s.enabledShunts.map fun k => Tab.get 0 s.gauge.shuntV k
  { s with gauge := { s.gauge with
      busV := if l.isEmpty then none else some (sumN l / l.length), shuntSum := [], shuntCnt := [] } }

/-! ### Fields and figures of a string -/

/-- The fields the filter reads. -/
def State.filterFields (s : State) (k : Nat) : StringFields :=
  { ocv := s.strOcv k, ocvTc := s.strOcvTc k, rser := s.strRser k, rpa := s.strRpa k, tauA := s.strTauA k, rpb := s.strRpb k
    tauB := s.strTauB k, resTc := s.strResTc k, cells := s.strCells k, rSh := s.strShuntR k }

/-- RSER_EST as reported: RSER until the first probe (Table 14-3). -/
def State.rserOf (s : State) (k : Nat) : Nat := if (s.stringAt k).rserLearned then (s.stringAt k).rserEst else s.strRser k

/-- RS of R361, Ω. -/
def State.rsOf (s : State) (k : Nat) : F64 := f64 (if s.strAdapt k = 1 then s.rserOf k else s.strRser k) 1000000

/-- FULL, which starts at CAPACITY × 1,000 (R364). -/
def State.fullOf (s : State) (k : Nat) : Nat :=
  if (s.stringAt k).full = 0 then s.strCapacity k * 1000 else (s.stringAt k).full

/-- The effective V_MIN, µV. -/
def State.vMinOf (s : State) (k : Nat) : Nat :=
  if s.strVMin k = 0 then s.strCells k * part16 (s.strOcv k) 0 * 100 else s.strVMin k

/-- The effective V_FULL, µV. -/
def State.vFullOf (s : State) (k : Nat) : Nat :=
  if s.strVFull k = 0 then s.strCells k * part16 (s.strOcv k) 15 * 100 else s.strVFull k

/-- A temperature as binary64 °C. -/
def tempC (t : Int) : F64 := f64 t 100

/-- Eight breakpoints of an axis, signed. -/
def axisS (lo hi : Nat) : List Int := (upto 8).map fun i => part16s [lo, hi] i

/-- Eight breakpoints of an axis, unsigned. -/
def axisU (lo hi : Nat) : List Int := (upto 8).map fun i => (part16 [lo, hi] i : Int)

/-- Usable-capacity fraction c of a string (R365). -/
def State.usableOf (s : State) (k : Nat) : Int :=
  let b := s.stringAt k
  let m := meanOf b.discharge60
  let rate : Int := if m < 0 then tdiv (-m * 100) (s.strCapacity k) else 0
  usableFraction (s.strCaps k) (axisS (s.strTempBpLo k) (s.strTempBpHi k)) (axisU (s.strRateBpLo k) (s.strRateBpHi k)) b.temp rate

/-- C_use of a table string, µAh (R366). -/
def State.cUse (s : State) (k : Nat) : Int := (s.fullOf k : Int) * s.usableOf k / 10000

/-- SOC of a string as its estimate stands. -/
def State.socNow (s : State) (k : Nat) : Nat :=
  let b := s.stringAt k
  if s.strTable k = 1 then (tableFigures (s.fullOf k) (s.usableOf k) b.qRem).2 else socOf b.s

/-- The figures a string reports after a cycle (R362, R363, R366, R367). (DESIGN CHOICE, log 64) -/
def State.report (s : State) (k : Nat) : State :=
  let b := s.stringAt k
  let soc := s.socNow k
  let full := s.fullOf k
  let unit := F64.clamp (f64 0) (f64 1) b.s
  let rem := if s.strTable k = 1 then (tableFigures full (s.usableOf k) b.qRem).1 else (unit.roundMul full).toNat
  let var := if s.strTable k = 1 then b.sigmaT.mul b.sigmaT else b.p.ss
  let e := energyOf rem (s.strCells k) (ocvUv (s.strOcv k) (s.strOcvTc k) soc b.temp) (s.vMinOf k)
  s.setString k fun b =>
    { b with
      soc := soc, full := full, remaining := rem, conf := confOf var, sigma := sigmaOf var, eAvail := satU 32 e
      rserEst := if b.rserLearned then b.rserEst else s.strRser k }

/-- A correction moved SOC from `old` to `new` (R363): a jump where the change reaches JUMP_MIN. -/
def State.jump (s : State) (k : Nat) (old new : Nat) (cause : Nat) : State :=
  let d : Int := (new : Int) - old
  if d.natAbs < s.strJumpMin k then s
  else
    let e := s.clocks.epoch
    let s := s.setString k fun b => { b with jumpCount := (b.jumpCount + 1) % 2 ^ 32, lastJump := d, jumpEpoch := e }
    s.record 0x0C 1 ([byte k, byte (s.stringAt k).conf] ++ leS 2 d ++ [byte cause])

/-! ### Limits (R368) -/

/-- Does a temperature lie in a window of T_WINDOW: 0 charge, 1 discharge? -/
def State.inWindow (s : State) (k w : Nat) (t : Int) : Bool :=
  decide (part16s [s.strTWindow k] (2 * w) ≤ t) && decide (t ≤ part16s [s.strTWindow k] (2 * w + 1))

/-- A limit that is the least of those given. -/
def leastOf (a b : Option Nat) : Option Nat :=
  match a, b with | none, x => x | x, none => x | some x, some y => some (min x y)

/-- The limits a string contributes (R368); while it hibernates it keeps its last. -/
def State.limits (s : State) (k : Nat) : State :=
  let b := s.stringAt k
  let open_ := b.modSeen && !bit b.modStatus 0
  if b.state = 4 then s
  else if (b.state = 2 ∨ b.state = 3) ∧ open_ = false then
    let dis := if b.soc = 0 ∨ s.inWindow k 1 b.temp = false ∨ bit b.modStatus 4 = true then 0
      else (leastOf (some (s.strDisPMax k)) b.modDis).getD 0
    let chg := leastOf (if s.strChgIMax k = 0 then none else some (s.strChgIMax k)) (b.modChg.filter (0 < ·))
    let chg := if !s.inWindow k 0 b.temp || bit b.modStatus 3 then some 0 else chg
    s.setString k fun b => { b with disLim := dis, chgLim := chg.getD 0, chgLimited := chg.isSome, limOn := true }
  else s.setString k fun b => { b with disLim := 0, chgLim := 0, chgLimited := false, limOn := false }

/-! ### One gauge cycle -/

/-- What a gauge cycle measured of a string: ΔC, counted charge in µAh, mean current in mA. -/
structure CycleIn where
  dC : Nat
  q : Int
  i : Int
  deriving DecidableEq, Repr

/-- The interval of converter `k` from the last gauge cycle to the tide latch (R354, R355). (DESIGN CHOICE, log 64) -/
def State.takeCycle (s : State) (k : Nat) : State × CycleIn :=
  let c := s.convAt k
  let r := s.shuntOf k
  let dN := rawDiff c.tideRaw c.cycleRaw
  let dC := clkDiff c.tideClk c.cycleClk
  let ch := intervalCharge dN c.resid r
  (s.setConv k fun c => { c with cycleRaw := c.tideRaw, cycleClk := c.tideClk, resid := ch.2 },
   { dC := dC, q := ch.1, i := intervalMa dN dC r })

/-- TEMP of a string: STRT, or T_MAX of its module's report while reports arrive (R358, R370). -/
def State.tempOf (s : State) (k : Nat) : Int :=
  let b := s.stringAt k
  if s.strTempSource k = 1 ∧ b.modSeen = true ∧ b.modMiss < 3 then b.modTMax
  else if b.tCount = 0 then b.temp
  else tapTemp (b.tSum.toNat / b.tCount)

/-- FAULT of a string after a cycle (Table 14-3); bits 4 and 7 stay. The window of T_WINDOW is that of the current's
direction. (DESIGN CHOICE, log 64) -/
def State.stringFault (s : State) (k : Nat) (i : Int) : Nat :=
  let b := s.stringAt k
  let vMean := b.vSum / max b.vCount 1
  let tMean := b.tSum.toNat / max b.tCount 1
  b2n (s.convAt k).ovr + 2 * b2n (decide (0 < b.vCount) && tapBad vMean)
    + 4 * b2n (decide (0 < b.tCount) && (decide (tMean < 547) || decide (3959 < tMean)))
    + 8 * b2n (!s.inWindow k (if 0 < i then 0 else 1) b.temp)
    + 32 * b2n (s.strNode k ≠ 0 && decide (3 ≤ b.modMiss)) + 64 * b2n (b.modSeen && bit b.modStatus 1)
    + (b.fault &&& 0x90)

/-- The measured part of a cycle: charge counters, VOLTAGE, TEMP, CURRENT, FLAGS and FAULT. -/
def State.measureString (s : State) (k : Nat) (c : CycleIn) : State :=
  let b := s.stringAt k
  let v := if b.vCount = 0 then b.voltage else tapVoltage b.vSum (s.strStrvRatio k) / b.vCount
  let t := s.tempOf k
  let flags := b2n s.clocks.chargeHoldover + 2 * b2n s.gauge.dip + 16 * b2n (b.modSeen && !bit b.modStatus 0)
  let s := s.setString k fun b =>
    { b with
      voltage := v, temp := t, current := c.i, cumQ := b.cumQ + c.q, flags := flags
      chargeIn := if 0 < c.q then (b.chargeIn + c.q.toNat) % 2 ^ 64 else b.chargeIn
      chargeOut := if c.q < 0 then (b.chargeOut + (-c.q).toNat) % 2 ^ 64 else b.chargeOut
      discharge60 := keepNewest 60 c.i b.discharge60 }
  let f := s.stringFault k c.i
  (s.setString k fun b => { b with fault := f }).raiseGauge k b.fault f

/-- The module's current against the count (R369): 60 cycles beyond 5 % of CAPACITY / 1 h are logged. -/
def State.moduleDifference (s : State) (k : Nat) (i : Int) : State :=
  let b := s.stringAt k
  if b.modSeen ∧ s.strCapacity k * 5 < (i - b.modI).natAbs * 100 then
    let s := s.setString k fun b => { b with diffCycles := b.diffCycles + 1 }
    if b.diffCycles + 1 = 60 then s.record 0x0C 5 ([byte k, 0, 0, 0] ++ leS 4 i ++ leS 4 b.modI) else s
  else s.setString k fun b => { b with diffCycles := 0 }

/-- Self-discharge of the hibernated interval, µAh (R373). -/
def State.selfDischargeOf (s : State) (k : Nat) : Nat :=
  let b := s.stringAt k
  selfDischarge (s.fullOf k) (sdRate (s.strSdRate k) b.hibTemp) b.hibNs

/-- Entry into rest and its end (R362). (DESIGN CHOICE, log 64) -/
def State.restStep (s : State) (k : Nat) (i : Int) : State :=
  let low := decide (i.natAbs * 200 < s.strCapacity k)
  s.setString k fun b =>
    if low then
      let n := b.restCycles + 1
      { b with restCycles := n, state := if b.state = 2 ∧ 1800 ≤ n then 3 else b.state }
    else { b with restCycles := 0, state := if b.state = 3 then 2 else b.state }

/-- Learning of FULL at a confident entry into rest (R364). -/
def State.learnFull (s : State) (k : Nat) : State :=
  let b := s.stringAt k
  if s.strAdapt k ≠ 1 ∨ confOf b.p.ss ≠ 2 then s
  else
    let full := match b.restS with
      | none => s.fullOf k
      | some s0 =>
        let ds := b.s.sub s0
        if ds.abs.lt (f64 4 10) then s.fullOf k
        else fullUpdate (s.fullOf k) (((f64 (b.cumQ - b.restQ)).div ds).round)
    s.setString k fun b => { b with full := full, restS := some b.s, restQ := b.cumQ }

/-- Words of the filter of a string. -/
def BString.words (b : BString) : FilterWords :=
  { s := b.s, vA := b.vA, vB := b.vB, pss := b.p.ss, psa := b.p.sa, psb := b.p.sb, pas := b.p.as, paa := b.p.aa, pab := b.p.ab
    pbs := b.p.bs, pba := b.p.ba, pbb := b.p.bb, gated := b.gated }

/-- A string with the filter's words. -/
def BString.withWords (b : BString) (w : FilterWords) : BString :=
  { b with
    s := w.s, vA := w.vA, vB := w.vB, gated := w.gated
    p := { ss := w.pss, sa := w.psa, sb := w.psb, as := w.pas, aa := w.paa, ab := w.pab, bs := w.pbs, ba := w.pba, bb := w.pbb } }

/-- Microampere-hours as ampere-seconds. -/
def ampSeconds (q : Int) : F64 := f64 (q * 36) 10000

/-- Inputs of the filter in a cycle (R361, R380, R387). -/
def State.filterInput (s : State) (k : Nat) (c : CycleIn) (check : Bool) : FilterIn :=
  let b := s.stringAt k
  let full := ampSeconds (s.fullOf k)
  let drift := ((f64 5 10000).mul (ampSeconds c.q).abs).div full
  let low := decide (c.i.natAbs * 200 < s.strCapacity k)
  { dt := f64 c.dC 4096000, dq := ampSeconds c.q, i := f64 c.i 1000, tc := tempC b.temp, vm := f64 b.voltage 1000000
    full := full, sd := (ampSeconds (s.selfDischargeOf k)).div full, rs := s.rsOf k
    rest := if check then low else decide (b.state = 3), gate := !check
    extra := if s.clocks.chargeHoldover then drift.mul drift else f64 0 }

/-- A filter string is advanced (R361 to R364): rest, filter, divergence, learning and jump. -/
def State.advanceFilter (s : State) (k : Nat) (c : CycleIn) : State :=
  let before := (s.stringAt k).state
  let s := s.restStep k c.i
  let b := s.stringAt k
  let check := b.ocvCheck && decide (0 < b.vCount) && !bit b.fault 1
  let inp := s.filterInput k c check
  let predicted := socOf ((b.s.add (inp.dq.div inp.full)).sub inp.sd)
  let w := filterStep (s.filterFields k) inp b.words
  let s := s.setString k fun b => { (b.withWords w) with ocvCheck := b.ocvCheck && !check }
  let s := if 10 ≤ w.gated then
      (s.setString k fun b => { b with state := 5, fault := b.fault ||| 0x10 }).raiseGauge k b.fault (b.fault ||| 0x10)
    else s
  let s := if before = 2 ∧ (s.stringAt k).state = 3 then s.learnFull k else s
  (s.report k).jump k predicted (s.socNow k) (if check then 2 else 0)

/-- An anchor sets Q_rem and the deviation of a table string (R366). -/
def State.anchor (s : State) (k : Nat) (q : Int) : State :=
  s.setString k fun b => { b with qRem := q, sigmaT := f64 1 100 }

/-- The full anchor (R366): 60 cycles at V_FULL with a small charging current. -/
def State.fullAnchor (s : State) (k : Nat) (i : Int) : State :=
  let b := s.stringAt k
  let at_ := decide (s.vFullOf k ≤ b.voltage) && decide (0 ≤ i) && decide (i * 50 ≤ (s.strCapacity k : Int))
  let n := if at_ then b.fullCycles + 1 else 0
  let s := s.setString k fun b => { b with fullCycles := n }
  if 60 ≤ n then (s.anchor k (s.fullOf k)).setString k fun b => { b with sinceFull := some b.cumQ } else s

/-- The empty anchor (R366): the first cycle at V_MIN while discharging, with the learning of FULL. -/
def State.emptyAnchor (s : State) (k : Nat) (i : Int) : State :=
  let b := s.stringAt k
  let low := decide (b.voltage ≤ s.vMinOf k)
  let s := s.setString k fun b => { b with wasAboveMin := !low }
  if low ∧ b.wasAboveMin = true ∧ i < 0 then
    let c := s.usableOf k
    let full := match b.sinceFull with
      | some q0 =>
        if s.strAdapt k = 1 ∧ 0 < c then fullUpdate (s.fullOf k) (Int.tdiv ((q0 - b.cumQ) * 10000) c) else s.fullOf k
      | none => s.fullOf k
    let s := s.setString k fun b => { b with full := full, sinceFull := none }
    s.anchor k ((s.fullOf k : Int) - s.cUse k)
  else s

/-- A table string is advanced (R365, R366): counted charge, self-discharge, deviation and anchors. -/
def State.advanceTable (s : State) (k : Nat) (c : CycleIn) : State :=
  let s := s.restStep k c.i
  let sd := s.selfDischargeOf k
  let full := ampSeconds (s.fullOf k)
  let add := (((f64 25 10000).mul (ampSeconds c.q).abs).add
    (((f64 2 1000000).div (f64 (s.strShuntR k) 1000000000)).mul (f64 c.dC 4096000))).div full
  let drift := if s.clocks.chargeHoldover then ((f64 5 10000).mul (ampSeconds c.q).abs).div full else f64 0
  let s := s.setString k fun b =>
    { b with
      qRem := b.qRem + c.q - sd
      sigmaT := (((b.sigmaT.mul b.sigmaT).add (add.mul add)).add (drift.mul drift)).sqrt }
  let before := s.socNow k
  let s := (s.fullAnchor k c.i).emptyAnchor k c.i
  (s.report k).jump k before (s.socNow k) 1

/-- The insertion estimate (R374) from the cycle's voltage and current, with the record. -/
def State.insertString (s : State) (k : Nat) (i : Int) (reseed : Bool) : State :=
  let b := s.stringAt k
  let f := s.filterFields k
  let tc := tempC b.temp
  let kf := tempFactor f.resTc tc
  let drop := ((f64 i 1000).mul kf).mul (s.rsOf k)
  let u := (((f64 b.voltage 1000000).sub drop).div (f64 f.cells)).sub
    (((f64 f.ocvTc).mul (tc.sub (f64 25))).mul (f64 1 1000000))
  let x := ocvInverse f u
  let full := s.fullOf k
  let s := s.setString k fun b =>
    { b with
      state := 2, s := x, vA := f64 0, vB := f64 0, p := { ss := f64 4 100, aa := f64 1 10000, bb := f64 1 10000 }, gated := 0
      full := full, sigmaT := f64 2 10, restCycles := 0, restS := none, insertPending := false, ocvCheck := false
      fault := b.fault &&& 0xEF, flags := b.flags ||| 8, sinceFull := none, fullCycles := 0, wasAboveMin := true, hibNs := 0 }
  let use := s.cUse k
  let s := s.setString k fun b => { b with qRem := (x.roundMul use.toNat) + full - use }
  let s := s.report k
  if reseed then s else s.record 0x0C 3 ([byte k, 0] ++ leBytes 2 (s.stringAt k).soc)

/-- The string is absent (R375): its estimates discarded, its limits 0. -/
def State.removeString (s : State) (k : Nat) : State :=
  s.setString k fun b =>
    { chargeIn := b.chargeIn, chargeOut := b.chargeOut, uncounted := b.uncounted, jumpCount := b.jumpCount, lastV := b.lastV
      modI := b.modI, modChg := b.modChg, modDis := b.modDis, modTMax := b.modTMax, modStatus := b.modStatus
      modSeen := b.modSeen, modMiss := b.modMiss, probeState := b.probeState, probeReason := b.probeReason
      probeStart := b.probeStart, probeEnd := b.probeEnd, probeTemp := b.probeTemp, probeSoc := b.probeSoc
      probePoints := b.probePoints }

/-- The sums of the next cycle begin; the marks of one cycle end. -/
def BString.nextCycle (b : BString) : BString :=
  { b with vSum := 0, vCount := 0, tSum := 0, tCount := 0, hibNs := if b.state = 4 then b.hibNs else 0, firstCycle := false }

/-- The gauge cycle of string `k` (R361 to R375). -/
def State.cycleString (s : State) (k : Nat) : State :=
  let r := s.takeCycle k
  let c := r.2
  let restored := bit (s.stringAt k).flags 2
  let s := (r.1.measureString k c).moduleDifference k c.i
  let s := if restored && (s.stringAt k).firstCycle then s.setString k fun b => { b with flags := b.flags ||| 4 } else s
  let b := s.stringAt k
  let s := if b.firstCycle ∧ b.lastV < 5000000 then s.removeString k
    else if b.insertPending then s.insertString k c.i false
    else if b.state = 4 then s.setString k fun b => { b with current := 0 }
    else if b.state = 2 ∨ b.state = 3 then
      let s := if s.strTable k = 1 then s.advanceTable k c else s.advanceFilter k c
      s.setString k fun x => { x with flags := x.flags ||| (32 * b2n (decide (0 < b.hibNs))) }
    else s
  let s := (s.limits k).setString k BString.nextCycle
  s.setConv k fun c => { c with ovr := false }

/-- The gauge cycle of a shunt: charge counted positive since Boot (Table 14-2). -/
def State.cycleShunt (s : State) (k : Nat) : State :=
  let r := s.takeCycle k
  let q := r.2.q.toNat
  let s := { r.1 with gauge := { r.1.gauge with shuntIn := Tab.upd 0 r.1.gauge.shuntIn k fun n => (n + q) % 2 ^ 64 } }
  s.setConv k fun c => { c with ovr := false }

/-! ### Battery reports -/

/-- A limit of a report: absent at 0xFFFF, else in units of `u`. -/
def reportLimit (v u : Nat) : Option Nat := if v = 0xFFFF then none else some (v * u)

/-- A battery report (R369): its fields, and the wakes of R372. -/
def State.batteryReport (s : State) (k : Nat) (body : Bytes) : State :=
  let b := s.stringAt k
  let st := fld body 0x10 2
  let i := ofU 32 (fld body 0 4)
  let moved := b.modSeen && decide (b.modStatus % 2 ≠ st % 2)
  let s := s.setString k fun b =>
    { b with
      modI := i, modTMax := ofU 16 (fld body 8 2), modChg := reportLimit (fld body 0x0C 2) 100
      modDis := reportLimit (fld body 0x0E 2) 10000, modStatus := st, modSeen := true, modMiss := 0 }
  if s.mode.active && (moved || decide (s.strWakeI k < i.natAbs)) then s.wakeGauge s.retained.rtcNs 0 else s

/-- A scheduled battery report did not arrive; the third in succession sets FAULT bit 5 (R370). (DEDUCED, log 59) -/
def State.batteryMissed (s : State) (k : Nat) : State :=
  let b := s.stringAt k
  let f := if s.strNode k ≠ 0 ∧ 3 ≤ b.modMiss + 1 then b.fault ||| 0x20 else b.fault
  (s.setString k fun b => { b with modMiss := b.modMiss + 1, fault := f }).raiseGauge k b.fault f

/-! ### Restore at Configure (R377) -/

/-- Records of a class the logbook holds, with their SEQ (the CRC of each is that of a valid record). -/
def Logbook.ofClass (l : Logbook) (cls : Nat) : List LogRec :=
  ((l.store ++ l.staging).map (·.2)).filter fun r => decide (r.cls = cls)

/-- The string payloads of the checkpoint whose head is `h`. -/
def Logbook.ckptOf (l : Logbook) (h : LogRec) : List Bytes :=
  ((l.ofClass 0x0B).filter fun r => decide (h.seq < r.seq) && decide (fld r.payload 0 2 = fld h.payload 0 2)).map (·.payload)

/-- Strings a checkpoint covers, each once. -/
def coveredStrings (l : List Bytes) : List Nat := (upto 32).filter fun k => l.any fun p => decide (fld p 2 1 = k)

/-- The latest complete checkpoint (R377): its head, and its string payloads. -/
def Logbook.lastCkpt (l : Logbook) : Option (Bytes × List Bytes) :=
  let complete (h : LogRec) : Bool := decide (fld h.payload 0x15 1 ≤ (coveredStrings (l.ckptOf h)).length)
  let best := (l.ofClass 0x0A).foldl (fun (m : Option LogRec) h =>
    if complete h && (match m with | none => true | some x => decide (x.seq < h.seq)) then some h else m) none
  best.map fun h => (h.payload, l.ckptOf h)

/-- A string with the content of a checkpoint record (Table 14-7). -/
def State.fromCkpt (s : State) (k : Nat) (p : Bytes) : State :=
  let socQ := ofU 32 (fld p 0x0C 4)
  let sig := f64 (fld p 0x10 2) 10000
  let full := fld p 0x1C 4 * 1000
  let x := f64 socQ (2 ^ 30)
  let s := s.setString k fun _ =>
    { state := fld p 3 1, conf := fld p 4 1, s := x, sigma := fld p 0x10 2, temp := ofU 16 (fld p 0x12 2)
      vA := f64 (ofU 32 (fld p 0x14 4)) 1000000, vB := f64 (ofU 32 (fld p 0x18 4)) 1000000, full := full
      rserEst := fld p 0x20 4, rserLearned := decide (fld p 0x20 4 ≠ s.strRser k), jumpCount := fld p 0x24 4
      p := { ss := sig.mul sig, aa := f64 1 10000, bb := f64 1 10000 }, sigmaT := sig, flags := 4, firstCycle := true
      hibNs := (s.stringAt k).hibNs, hibTemp := ofU 16 (fld p 0x12 2) }
  let use := s.cUse k
  s.setString k fun b => { b with qRem := (x.roundMul use.toNat) + full - use }

/-- The deviation of a string becomes at least `d`. -/
def BString.sigmaAtLeast (b : BString) (d : F64) : BString :=
  let v := d.mul d
  { b with p := { b.p with ss := if b.p.ss.lt v then v else b.p.ss }, sigmaT := if b.sigmaT.lt d then d else b.sigmaT }

/-- The deviation of a string grows by `d`. -/
def BString.sigmaPlus (b : BString) (d : F64) : BString :=
  let n := (b.p.ss.sqrt).add d
  { b with p := { b.p with ss := n.mul n }, sigmaT := b.sigmaT.add d }

/-- The estimate of a string moves by a charge in µAh. -/
def State.moveCharge (s : State) (k : Nat) (q : Int) : State :=
  let ds := (ampSeconds q).div (ampSeconds (s.fullOf k))
  s.setString k fun b => { b with s := b.s.add ds, qRem := b.qRem + q }

/-- A string awaits the insertion estimate of R374 at the first gauge cycle. -/
def State.awaitInsert (s : State) (k : Nat) : State :=
  s.setString k fun b => { b with state := 1, insertPending := true, firstCycle := true }

/-- The first row of Table 14-8 that applies to string `k`, whose record is `p` and whose head is `h`. -/
def State.restorePath (s : State) (k : Nat) (h p : Bytes) : State :=
  let gap := s.retained.rtcNs - fld h 8 8
  let reason := fld h 0x14 1
  if fld h 0x10 4 = s.gauge.session then
    (s.fromCkpt k p).setConv k fun c => { c with cycleRaw := ofU 48 (fld p 6 6) }
  else if s.power.retainedMode = .gaugeWatch then
    let s := s.fromCkpt k p
    (s.setString k fun b => { full := b.full, rserEst := b.rserEst, rserLearned := b.rserLearned }).awaitInsert k
  else if s.power.retainedMode = .off then
    (s.fromCkpt k p).setString k fun b => { (b.sigmaAtLeast (f64 1 10)) with ocvCheck := true }
  else if reason ≠ 0 then
    let s := s.fromCkpt k p
    let full := s.fullOf k
    let rate := sdRate (s.strSdRate k)
    let lost := selfDischarge full (rate (s.stringAt k).temp) gap
    let worst := (ampSeconds (selfDischarge full (rate 6000) gap)).div (ampSeconds full)
    (s.moveCharge k (-(lost : Int))).setString k fun b => { (b.sigmaPlus worst) with ocvCheck := true }
  else
    let s := s.fromCkpt k p
    let q := Int.tdiv (Tab.get 0 s.log.ckptCurrent k * gap) 3600000000
    let part := ((ampSeconds q).abs).div (ampSeconds (s.fullOf k))
    (s.moveCharge k q).setString k fun b => { (b.sigmaPlus part) with ocvCheck := true }

/-- The restore of one string, reported as a jump (R377). -/
def State.restoreString (s : State) (k : Nat) (h : Bytes) (l : List Bytes) : State :=
  match l.find? fun p => decide (fld p 2 1 = k) with
  | none => s.awaitInsert k
  | some p =>
    let s := s.restorePath k h p
    if (s.stringAt k).insertPending then s
    else
      let old := socOf (f64 (ofU 32 (fld p 0x0C 4)) (2 ^ 30))
      (s.report k).jump k old (s.socNow k) 3

/-- At each entry into Configure every enabled string is restored, or awaits insertion (R377); the controller without the
token takes its estimates from the active (R386). -/
def State.restoreGauge (s : State) : State :=
  let last := s.log.lastCkpt
  let s := match last with | some h => { s with gauge := { s.gauge with ckptNo := fld h.1 0 4 } } | none => s
  s.each s.enabledStrings fun s k =>
    match last with
    | some h => s.restoreString k h.1 h.2
    | none => s.awaitInsert k

end Sys2Proof.Machine
end

