-- ==== Sys2Proof/Machine/DescRows.lean ====
section
/-! DEFINITION. The orders of group 0x03, the commit and its stored copies, the load at Configure, the standby's adoption,
and what a change of the committed description does (R137 to R159, R510 to R515, R615). -/
namespace Sys2Proof.Machine

/-! ### Stored copies (R149 to R152) -/

/-- SEQUENCE of stored copy `k`. -/
def Desc.seqOf (d : Desc) (k : Nat) : Nat := if k = 0 then d.store0Seq else d.store1Seq
/-- Values of stored copy `k`. -/
def Desc.valuesOf (d : Desc) (k : Nat) : Tab (Option Int) := if k = 0 then d.store0 else d.store1
/-- MAGIC, VERSION and DIGEST of stored copy `k` check. -/
def Desc.wellFormed (d : Desc) (k : Nat) : Bool := if k = 0 then d.store0Valid else d.store1Valid
/-- ORDER_SET of stored copy `k` has the major version of the running release. -/
def Desc.majorOk (d : Desc) (k : Nat) : Bool := if k = 0 then d.store0Major else d.store1Major
/-- The APPLIED word of stored copy `k` equals its SEQUENCE (R149). -/
def Desc.appliedOk (d : Desc) (k : Nat) : Bool :=
  if k = 0 then decide (d.store0Applied = d.store0Seq) else decide (d.store1Applied = d.store1Seq)
/-- Is stored copy `k` valid (R152)? -/
def Desc.valid (d : Desc) (k : Nat) : Bool := d.wellFormed k && d.majorOk k && d.appliedOk k

/-- Stored copy `k` is written with an image, its APPLIED word left erased (R149); `ok` is false where the copy is not
readable as written. A write of its APPLIED word that is still due is dropped. -/
def Desc.putCopy (d : Desc) (k seq : Nat) (t : Tab (Option Int)) (ok : Bool) : Desc :=
  let d := { d with appliedPending := d.appliedPending.filter (· ≠ k) }
  if k = 0 then
    { d with store0Seq := seq, store0 := t, store0Applied := 0xFFFFFFFF, store0Valid := ok, store0Major := true }
  else { d with store1Seq := seq, store1 := t, store1Applied := 0xFFFFFFFF, store1Valid := ok, store1Major := true }

/-- The APPLIED word of stored copy `k` is programmed with its SEQUENCE. -/
def Desc.markApplied (d : Desc) (k : Nat) : Desc :=
  let d := { d with appliedPending := d.appliedPending.filter (· ≠ k) }
  if k = 0 then { d with store0Applied := d.store0Seq } else { d with store1Applied := d.store1Seq }

/-- The valid copy whose SEQUENCE is the later under R10, copy 0 where neither is: both are equal, or 2^31 apart. (DESIGN CHOICE, log 86) -/
def Desc.laterCopy (d : Desc) : Option Nat :=
  match d.valid 0, d.valid 1 with
  | true, true => some (if later32 d.store1Seq d.store0Seq then 1 else 0)
  | true, false => some 0
  | false, true => some 1
  | false, false => none

/-- The copy that OBJ.GET and OBJ.EXPORT read: the one that holds DESC_SEQUENCE, else the later valid one (R510). -/
def Desc.readCopy (d : Desc) : Option Nat :=
  match d.laterCopy with
  | none => none
  | some k =>
    if d.wellFormed 0 && decide (d.store0Seq = d.sequence) then some 0
    else if d.wellFormed 1 && decide (d.store1Seq = d.sequence) then some 1
    else some k

/-- The copy an image is written to: the one that does not hold the committed sequence (R147, step 3). -/
def Desc.spareCopy (d : Desc) : Nat := if d.wellFormed 0 && decide (d.store0Seq = d.sequence) then 1 else 0

/-- The values of the stored description, reset values where no copy holds it. -/
def Desc.storedValues (d : Desc) : Tab (Option Int) :=
  if d.wellFormed 0 && decide (d.store0Seq = d.sequence) then d.store0
  else if d.wellFormed 1 && decide (d.store1Seq = d.sequence) then d.store1
  else []

/-- LIVE_DIVERGED as a boundary judges it (R143): an APPLIED write is pending from its first failure on. (DESIGN CHOICE, log 86) -/
def State.judgeDiverged (s : State) : State :=
  { s with desc := { s.desc with
      liveDiverged := s.desc.appliedPending ≠ [] || decide (s.desc.committed ≠ s.desc.storedValues) } }

/-! ### Read-only fields (R197) -/

/-- Read-only fields of a CHANNEL (Tables 7-11 and 8-7). -/
def roChannel (s : State) (v : View) (k code : Nat) : Int :=
  let c := Tab.get ({} : Chan) v.chan k
  let o := match s.outputOf k with
    | some j => if s.lead j = k then some (Tab.get ({} : Out) v.out j) else none
    | none => none
  match code with
  | 0x80 => c.code | 0x81 => c.cause | 0x82 => c.isOffset | 0x83 => c.ocpCount | 0x84 => c.osCount
  | 0x85 => c.brakeTimeouts | 0x86 => c.shiftCount | 0x87 => c.shiftMax | 0x88 => c.refCode
  | 0xA0 => c.duty
  | 0xA1 => (match o with | some o => o.comp.ist | none => 0)
  | 0xA2 => c.share | 0xA3 => c.gtIndex | 0xA4 => (Tab.get 204800 v.intervals k : Nat) | 0xA5 => c.evalCount | 0xA6 => c.satCount
  | 0xA7 => c.rejectTotal | 0xA8 => c.windowExits
  | 0xA9 => (match o with | some o => (setPointOf o.prof.x : Int) | none => 0)
  | _ => (match o with | some o => (o.prof.state.code : Int) | none => 0)

/-- Four u16 words as one number. -/
def packWords (l : List Nat) : Nat := leVal ((l.map fun n => leBytes 2 n).flatten)

/-- Read-only fields of a RECTIFIER (Table 12-1). -/
def roRect (v : View) (k code : Nat) : Int :=
  let r := Tab.get ({} : Rect) v.rect k
  match code with
  | 0x80 => r.state | 0x81 => r.cmdI | 0x82 => r.cmdV | 0x83 => r.iOut | 0x84 => r.vOut | 0x85 => r.pIn
  | 0x86 => r.reportEpoch | 0x87 => packWords (r.learned.take 4) | 0x88 => packWords (r.learned.drop 4)
  | 0x89 => r.onlineS | 0x8A => r.rank | _ => r.missed

/-- Read-only fields of a STRING (Table 14-3). -/
def roString (s : State) (v : View) (k code : Nat) : Int :=
  let b := Tab.get ({} : BString) v.strings k
  match code with
  | 0x80 => b.state | 0x81 => b.soc | 0x82 => b.conf | 0x83 => b.sigma | 0x84 => b.remaining | 0x85 => b.full
  | 0x86 => b.eAvail | 0x87 => b.current | 0x88 => b.voltage | 0x89 => b.temp
  | 0x8A => (min 12000 (if s.strCapacity k = 0 then 0 else b.full * 10000 / (s.strCapacity k * 1000)) : Nat)
  | 0x8B => (if b.rserLearned then b.rserEst else s.strRser k : Nat)
  | 0x8C => b.jumpCount | 0x8D => b.lastJump
  | 0x8E => b.jumpEpoch | 0x8F => b.chargeIn | 0x90 => b.chargeOut | 0x91 => b.uncounted | 0x92 => b.chgLim
  | 0x93 => b.disLim | 0x94 => b.fault | _ => b.flags

/-- Read-only fields of a SHUNT (Table 14-2). -/
def roShunt (v : View) (k code : Nat) : Int :=
  match code with
  | 0x80 => (Tab.get ({} : Conv) v.conv k).tideMa
  | 0x81 => (Tab.get 0 v.shuntV k : Nat)
  | 0x82 => (Tab.get 0 v.shuntIn k : Nat)
  | _ => (Tab.get 0 v.shuntFault k : Nat)

/-- Read-only fields of the SHELF object (Table 6-12). -/
def roShelf (v : View) (code : Nat) : Int :=
  match code with
  | 0x80 => v.descSequence | 0x81 => v.descDigest | 0x82 => v.loadStatus | _ => (b2n v.liveDiverged : Int)

/-- Read-only fields of the PEER object (Table 6-13). -/
def roPeer (v : View) (code : Nat) : Int :=
  match code with
  | 0x80 => (b2n v.present : Int) | 0x81 => v.role | 0x82 => v.partnerDie | 0x83 => v.lanesUp | _ => v.partnerSequence

/-- Read-only fields of a FAULTMAP object (Table 18-8): the collector at the last seal (R486). -/
def roSource (s : State) (n code : Nat) : Int :=
  let x := Tab.get ({} : FaultSrc) s.faults.win.src n
  match code with
  | 0x80 => sourceClass n | 0x81 => sourceFixed n | 0x82 => sourceBlock n
  | 0x83 => x.count | 0x84 => (b2n x.pending : Int) | _ => x.lastEpoch

/-- Value of a read-only field, of the last sealed epoch (R197). (DEDUCED, log 52) -/
def State.roValue (s : State) (v : View) (cls idx code : Nat) : Int :=
  match cls with
  | 1 => roChannel s v idx code
  | 2 => if code = 0x80 then (Tab.get ({} : Out) v.out idx).state else (Tab.get ({} : Out) v.out idx).lastStop
  | 3 => (Tab.get 0 v.members idx : Nat)
  | 4 => roRect v idx code
  | 5 => roString s v idx code
  | 6 => roShunt v idx code
  | 7 => if code = 0x80 then (Tab.get ({} : Sensor) v.sensors idx).value
         else if code = 0x81 then (Tab.get ({} : Sensor) v.sensors idx).valueEpoch
         else if code = 0x82 then (Tab.get ({} : Sensor) v.sensors idx).state
         else (Tab.get ({} : Sensor) v.sensors idx).failures
  | 8 => roShelf v code
  | 9 => roPeer v code
  | 10 =>
    let d := Tab.get ({} : TwDev) v.devs idx
    if code = 0x80 then d.state else if code = 0x81 then d.nacks else if code = 0x82 then d.pecErrors else d.lastStatus
  | _ => roSource s idx code

/-! ### OBJ.GET -/

/-- The (object, field) pairs of a request. -/
def Req.pairs (q : Req) (n : Nat) : List (Nat × Nat) := (upto n).map fun i => (q.u (4 + 4 * i) 2, q.u (6 + 4 * i) 2)

/-- The definition of a pair. -/
def pairDef (p : Nat × Nat) : Option FieldDef := fieldDef (p.1 / 4096) (p.1 % 4096) p.2

/-- Does a session hold the open edit? -/
def State.ownEdit (s : State) (q : Req) : Bool := decide (s.desc.edit = some q.session)

/-- The staged value of a staged field, the committed value of another (R510, source 1). -/
def Desc.stagedValue (d : Desc) (key : Nat) : Int :=
  if d.stagedWhole then valueIn d.staged key
  else match Tab.get none d.staged key with
    | some v => v
    | none => valueIn d.committed key

/-- The description a commit of the edit would make (R142, R153). -/
def mergeStaged (committed staged : Tab (Option Int)) (whole : Bool) : Tab (Option Int) :=
  if whole then staged
  else staged.foldl (fun t e => match e.2 with | some v => putValue t e.1 v | none => t) committed

/-- Value of a pair in a source. (DEDUCED, log 52) -/
def State.getValue (s : State) (src : Nat) (d : FieldDef) (p : Nat × Nat) : Int :=
  let key := p.1 * 65536 + p.2
  if d.effect = .ro then s.roValue s.sealedView (p.1 / 4096) (p.1 % 4096) p.2
  else if src = 0 then valueIn s.desc.committed key
  else if src = 1 then s.desc.stagedValue key
  else match s.desc.readCopy with
    | some k => valueIn (s.desc.valuesOf k) key
    | none => 0

/-- The entry of a pair in the response. -/
def State.getEntry (s : State) (src : Nat) (p : Nat × Nat) : Bytes :=
  match pairDef p with
  | some d => packEntry (p.1 * 65536 + p.2) (s.getValue src d p)
  | none => []

/-- OBJ.GET (R510): a response with a read-only field is of the last sealed epoch (R197); RECTIFIER 32 to 39 is served without
feature bit 9. (DEDUCED, log 52; DESIGN CHOICE, log 85) -/
def execObjGet (mb : Nat) (s : State) : Host.Outcome State Fault Refusal :=
  .next (s.runOrder 0x0301 mb fun q s =>
    let src := q.u 0 1
    let n := q.u 1 1
    let pairs := q.pairs n
    let body := (pairs.map (s.getEntry src)).flatten
    if !q.lay (4 + 4 * n) [(2, 2)] || 2 < src || n = 0 || 60 < n || pairs.any (fun p => (pairDef p).isNone)
        || decide (492 < body.length) || (src = 1 && !s.ownEdit q) then s.refuse q .badArg
    else if src = 2 && s.desc.readCopy.isNone then s.refuse q .gone
    else
      let out := [byte n, 0, 0, 0] ++ body
      if pairs.any fun p => match pairDef p with | some d => d.effect = .ro | none => false then s.replySealed q out
      else s.reply q .ok out)

/-! ### OBJ.SET -/

/-- Is a commit of this session's edit in progress, to its response (R141)? -/
def State.ownCommit (s : State) (q : Req) : Bool :=
  s.waiting.any fun w => decide (w.session = q.session) && (w.what.isCommit || w.what = .commitApplied)

/-- The first index of a list at which a condition holds. -/
def firstIndex {α : Type} (p : α → Bool) : Nat → List α → Option Nat
  | _, [] => none
  | i, x :: t => if p x then some i else firstIndex p (i + 1) t

/-- Does an entry need a feature the request does not have (R145)? (DEDUCED, log 15) -/
def Entry.unfeatured (feats : Nat) (e : Entry) : Bool :=
  match e.def? with
  | some d => featureMissing feats (e.id / 4096) (e.id % 4096) d e.number
  | none => decide (e.id / 4096 = 4) && decide (32 ≤ e.id % 4096) && decide (e.id % 4096 < 40) && !bit feats 9

/-- Is an entry's value outside its fixed bounds (R9)? RTC_ALARM must be 0 or later than the RTC at the check (R159). -/
def State.outOfRange (s : State) (e : Entry) : Bool :=
  match e.def? with
  | some d =>
    !rangeOk (e.id % 4096) d e.number
      || (decide (e.key = fieldKey 8 0 0x06) && e.number ≠ 0 && decide (e.number ≤ (s.retained.rtcNs : Int)))
  | none => true

/-- Is an entry's field live (R139)? -/
def Entry.live (e : Entry) : Bool := effectOf e.key = .l

/-- BAD_ARG with the index of the first rejected entry (R502). -/
def State.rejectEntry (s : State) (q : Req) (i : Nat) : State := s.reply q .badArg [byte i, 0, 0, 0]

/-- One entry staged in the open edit (R142). -/
def Desc.stage (d : Desc) (key : Nat) (v : Int) : Desc :=
  { d with staged := if d.stagedWhole then putValue d.staged key v else Tab.set none d.staged key (some v) }

/-- The committed values with the entries of a live order applied. -/
def applyEntries (t : Tab (Option Int)) (l : List (Nat × Int)) : Tab (Option Int) :=
  l.foldl (fun t e => putValue t e.1 e.2) t

/-- A live OBJ.SET judged at step 5 and then left to the boundary (R143, R615). -/
def State.setLive (s : State) (q : Req) (es : List Entry) : State :=
  let t := applyEntries s.desc.committed (es.map fun e => (e.key, e.number))
  let v := s.withDescription t
  let found := s.validate t
  match firstIndex (fun e => v.liveFault found (Entry.key e)) 0 es with
  | some i => s.rejectEntry q i
  | none => s.wait q (.objSet (es.map fun e => (e.key, e.number)))

/-- OBJ.SET inside the own edit: staged, 16,000 fields at most (R515). -/
def State.setStaged (s : State) (q : Req) (es : List Entry) : State :=
  let d := es.foldl (fun d e => d.stage e.key e.number) s.desc
  if 16000 < d.staged.length then s.refuse q .busy
  else ({ s with desc := d }).reply q .ok [byte es.length, 0, 0, 0]

/-- Steps 2 to 4 of R615 on the entries of an OBJ.SET: the answer to refuse with, none where all pass. -/
def State.setFault (s : State) (q : Req) (es : List Entry) : Option (Status × Option Nat) :=
  match firstIndex (fun e => !Entry.writable e) 0 es with
    | some i => some (.badArg, some i)
    | none =>
      if !s.ownEdit q && es.any (fun e => !e.live) then some (.locked, none)
      else match firstIndex s.outOfRange 0 es with
        | some i => some (.badArg, some i)
        | none => none

/-- The entries of an OBJ.SET, and what is left over of its payload (R511). -/
def Req.entries (q : Req) : List Entry × Bytes := cutEntries (q.u 0 1) (slice q.payload 4 (q.len - 4))

/-- Step 1 of R615, at step 4 of R122: no entry needs a feature that the session has not negotiated (R145). -/
def mayWrite (q : Req) (_ : State) : Bool := !(q.entries.1.any (Entry.unfeatured q.feats))

/-- OBJ.SET (R142, R143, R511, R615). -/
def execObjSet (mb : Nat) (s : State) : Host.Outcome State Fault Refusal :=
  .next (s.runOrderWith 0x0302 mb anyRequest mayWrite fun q s =>
    let n := q.u 0 1
    let r := q.entries
    if s.ownCommit q then s.refuse q .busy
    else if q.len < 4 || 496 < q.len || n = 0 || 61 < n || !allZero q.payload 1 3 || r.1.length ≠ n || r.2 ≠ [] then
      s.rejectEntry q (min r.1.length 61)
    else match s.setFault q r.1 with
      | some (st, some i) => s.reply q st [byte i, 0, 0, 0]
      | some (st, none) => s.refuse q st
      | none => if s.ownEdit q then s.setStaged q r.1 else s.setLive q r.1)

/-! ### The edit -/

/-- OBJ.BEGIN (R141, R512). -/
def execObjBegin (mb : Nat) (s : State) : Host.Outcome State Fault Refusal :=
  .next (s.runOrder 0x0303 mb fun q s =>
    if s.desc.edit.isSome then s.refuse q .busy
    else if !q.lay 0 [] then s.refuse q .badArg
    else
      ({ s with desc := { s.desc with edit := some q.session, staged := [], stagedWhole := false, load := [] } }).reply q .ok [])

/-- The findings a session's OBJ.VALIDATE gives (R146). -/
def State.findingsFor (s : State) (q : Req) : List Finding :=
  if s.ownEdit q then s.validate (mergeStaged s.desc.committed s.desc.staged s.desc.stagedWhole)
  else s.validate s.desc.committed

/-- OBJ.VALIDATE (R146, R512). -/
def execObjValidate (mb : Nat) (s : State) : Host.Outcome State Fault Refusal :=
  .next (s.runOrder 0x0304 mb fun q s =>
    if !q.lay 0 [] then s.refuse q .badArg else s.reply q .ok (findingsBytes (s.findingsFor q)))

/-- Is the order turned away because of the edit (R141, R512): BUSY for another's edit or the own commit, LOCKED without
an edit? -/
def State.editFault (s : State) (q : Req) : Option Status :=
  if s.desc.edit.isSome && !s.ownEdit q then some .busy
  else if s.ownCommit q then some .busy
  else if s.desc.edit.isNone then some .locked
  else none

/-- The next DESC_SEQUENCE (R147, step 2). -/
def nextSequence (n : Nat) : Nat := if 0xFFFFFFFF ≤ n then 1 else n + 1

/-- Steps 1 to 3 of a commit begin (Table 6-6): the staged set and the image are captured and the spare copy is written;
until the write completes, that copy is not valid. -/
def State.beginCommit (s : State) : State :=
  let d := s.desc
  let t := mergeStaged d.committed d.staged d.stagedWhole
  let k := d.spareCopy
  let seq := nextSequence d.sequence
  { s with desc := { d.putCopy k 0xFFFFFFFF [] false with
      captured := d.staged, capturedWhole := d.stagedWhole, capturedSeq := seq, committing := true, image := t, copy := k
      load := [] } }

/-- OBJ.COMMIT (R147, R512): it goes on with the external write. -/
def execObjCommit (mb : Nat) (s : State) : Host.Outcome State Fault Refusal :=
  .next (s.runOrder 0x0305 mb fun q s =>
    if s.editFault q = some .busy then s.refuse q .busy
    else if !q.lay 0 [] then s.reply q .badArg (findingsBytes [])
    else if s.desc.edit.isNone then s.refuse q .locked
    else
      let found := s.findingsFor q
      if found ≠ [] then s.reply q .badArg (findingsBytes found)
      else (s.beginCommit).wait q .commitStore)

/-- OBJ.ABORT (R141, R512). -/
def execObjAbort (mb : Nat) (s : State) : Host.Outcome State Fault Refusal :=
  .next (s.runOrder 0x0306 mb fun q s =>
    if s.editFault q = some .busy then s.refuse q .busy
    else if !q.lay 0 [] then s.refuse q .badArg
    else if s.desc.edit.isNone then s.refuse q .locked
    else (s.closeEdit).reply q .ok [])

/-! ### OBJ.LOAD and OBJ.EXPORT -/

/-- Image bytes put at an offset; a received byte is kept as its value plus 1. -/
def putImage (t : Tab Nat) : Nat → Bytes → Tab Nat
  | _, [] => t
  | o, b :: r => putImage (Tab.set 0 t o (b.toNat + 1)) (o + 1) r

/-- The first `n` bytes of a received image. -/
def imageBytes (t : Tab Nat) (n : Nat) : Bytes := (upto n).map fun o => byte (Tab.get 0 t o - 1)

/-- Bytes of the image whose header has arrived: 0x40 + LENGTH; none until LENGTH has. -/
def imageTotal (t : Tab Nat) : Option Nat :=
  if (countFrom 4 0x0C).all fun o => Tab.get 0 t o ≠ 0 then some (0x40 + leVal ((countFrom 4 0x0C).map fun o => byte (Tab.get 0 t o - 1)))
  else none

/-- Does any byte of a chunk stand in the image already? -/
def chunkOverlaps (t : Tab Nat) (o n : Nat) : Bool := t.any fun e => decide (o ≤ e.1) && decide (e.1 < o + n)

/-- The load restarts empty, and the order is answered BAD_ARG with reason 0x0F (R513). -/
def State.loadFault (s : State) (q : Req) (detail obj field : Nat) : State :=
  let f : Finding := { obj := obj, field := field, reason := 0x0F, detail := detail }
  ({ s with desc := { s.desc with load := [] } }).reply q .badArg (findingsBytes [f])

/-- The complete image is judged and staged as a whole (R145, R153). (DEDUCED, log 52) -/
def State.stageImage (s : State) (q : Req) (b : Bytes) : State :=
  let es := (cutEntries 65536 (b.drop 0x40)).1
  let judged := judgeImage b
  let header := match judged with | .bad d _ _ => decide (d ≤ 3) | .good _ _ => false
  if !header && es.any (Entry.unfeatured q.feats) then
    ({ s with desc := { s.desc with load := [] } }).refuse q .notNegotiated
  else match judged with
    | .bad d o f => s.loadFault q d o f
    | .good _ values =>
      ({ s with desc := { s.desc with staged := values, stagedWhole := true, load := [] } }).reply q .ok
        (leBytes 4 b.length ++ [1, 0, 0, 0])

/-- OBJ.LOAD (R153, R513). (DEDUCED, log 14) -/
def execObjLoad (mb : Nat) (s : State) : Host.Outcome State Fault Refusal :=
  .next (s.runOrder 0x0307 mb fun q s =>
    let o := q.u 0 4
    let n := q.u 4 2
    if s.editFault q = some .busy then s.refuse q .busy
    else if !q.lay (8 + n) [(6, 2)] || n = 0 || 488 < n then s.reply q .badArg (findingsBytes [])
    else if s.desc.edit.isNone then s.refuse q .locked
    else
      let t := putImage s.desc.load o (slice q.payload 8 n)
      let beyond := match imageTotal t with | some m => t.any fun e => decide (m ≤ e.1) | none => false
      if chunkOverlaps s.desc.load o n || beyond then s.loadFault q 3 0x8000 0
      else if imageTotal t = some t.length then s.stageImage q (imageBytes t t.length)
      else ({ s with desc := { s.desc with load := t } }).reply q .ok (leBytes 4 t.length ++ [0, 0, 0, 0]))

/-- OBJ.EXPORT (R514). -/
def execObjExport (mb : Nat) (s : State) : Host.Outcome State Fault Refusal :=
  .next (s.runOrder 0x0308 mb fun q s =>
    let o := q.u 0 4
    let n := q.u 4 2
    if !q.lay 8 [(6, 2)] || n = 0 || 480 < n then s.refuse q .badArg
    else match s.desc.readCopy with
      | none => s.refuse q .gone
      | some k =>
        let seq := s.desc.seqOf k
        let b := imageOf (s.desc.valuesOf k) seq
        if b.length < o + n then s.refuse q .badArg
        else s.reply q .ok (leBytes 4 seq ++ leBytes 4 b.length ++ slice b o n))

/-! ### What a change of the committed description does -/

/-- The always-on copies of the staged A fields (R43, R159, Table 20-2); an alarm that the RTC has passed is cleared there. -/
def State.copyAlwaysOn (s : State) (staged : Nat → Bool) : State :=
  let a := s.shelfRtcAlarm
  let r := s.retained
  { s with retained := { r with
      autoRestart := if staged (fieldKey 8 0 0x03) then decide (s.shelfAutoRestart = 1) else r.autoRestart
      wakeEnable := if staged (fieldKey 8 0 0x04) then s.shelfWakeEnable else r.wakeEnable
      gaugeWakeBoot := if staged (fieldKey 8 0 0x05) then decide (s.shelfGaugeWakeBoot = 1) else r.gaugeWakeBoot
      alarmNs := if staged (fieldKey 8 0 0x06) then (if a ≤ r.rtcNs then 0 else a) else r.alarmNs
      tw0Addr := if staged (fieldKey 10 0 0x41) then partOf 8 s.devTargetAddr 0 else r.tw0Addr } }

/-- Codes of the gains and gain tables of a lead (reason 0x0A of Table 9-1). -/
def gainCode (code : Nat) : Bool :=
  [0x20, 0x21, 0x22, 0x23, 0x2B].contains code || (decide (0x40 ≤ code) && decide (code < 0x60))

/-- A change of the lead's gains takes effect (R226, R233): a run ends, a proposal is superseded. -/
def Out.gainsChanged (o : Out) : Out :=
  if o.ident.state = 1 then o.abortIdent 0x0A true
  else if o.ident.proposal then { o with ident := { o.ident with applied := 3, applyDue := 0, announced := false } }
  else o

/-- Does one of the keys belong to an object? -/
def touches (keys : List Nat) (cls idx : Nat) : Bool := keys.any fun key => decide (keyCls key = cls) && decide (keyIdx key = idx)

/-- The period counter of a channel after a change of PERIOD or PHASE (R171): later period starts lie on the new grid, the first of
them the first one after the present period's start. (DESIGN CHOICE, log 88) -/
def State.reseed (s : State) (ch : Nat) : State :=
  let n := firstAfter (s.chPhase ch) (s.chPeriod ch)
  s.setChan ch fun c => if c.periods = 0 then c else { c with periods := n c.tStart }

/-- Output `k` after a change of fields `keys`: identification (R226), the coefficients written to the inactive banks (R220), and the
trip levels but those of a test in progress (Table 7-7). -/
def State.outChanged (s : State) (keys : List Nat) (k : Nat) : State :=
  let lead := s.lead k
  let on (cls idx : Nat) (codes : List Nat) : Bool := codes.any fun c => keys.contains (fieldKey cls idx c)
  let s := if keys.any (fun key => decide (keyCls key = 1) && decide (keyIdx key = lead) && gainCode (keyCode key)) then
      s.setOut k Out.gainsChanged else s
  let s := if on 2 k [0x07, 0x08, 0x0A, 0x0B, 0x0C] then s.setOut k (Out.abortIdent 0x06 true) else s
  s.each (s.phases k) fun s ch =>
    let s := if touches keys 1 ch || touches keys 2 k then s.stageBank k ch else s
    if (s.chanAt ch).state ≠ .test ∧ (on 2 k [0x01, 0x07, 0x08] || on 1 ch [0x01, 0x0F]) = true then s.setTrip k ch else s

/-- Outputs that a change enables: their restart tries (R265), and WANTED in Run, Ride-through and Service (Table 10-1). -/
def State.enableOut (s : State) (k : Nat) : State :=
  let tries := s.outRestartTries k
  let s := s.setOut k fun o => { o with triesLeft := tries }
  if modesLive.contains s.mode then s.want k else s

/-- An output that a change disables: WANTED cleared and an ordered shutdown (R147). -/
def State.disableOut (s : State) (k : Nat) : State :=
  let s := s.setOut k fun o => { o with wanted := false, leaving := o.driven }
  s.orderStop k 1

/-- Objects of a class whose ENABLE a change clears. -/
def clearedObjects (cls n : Nat) (old new : Tab (Option Int)) : List Nat :=
  (upto n).filter fun k => decide (valueIn old (fieldKey cls k 1) = 1) && decide (valueIn new (fieldKey cls k 1) ≠ 1)

/-- Objects that a change disables report their absent state. -/
def State.objectsLeave (s : State) (old new : Tab (Option Int)) : State :=
  let s := s.each (clearedObjects 4 40 old new) State.rectLeave
  let s := s.each (clearedObjects 5 32 old new) State.removeString
  let s := s.each (clearedObjects 10 64 old new) fun s k => s.setTwDev k fun d => { d with state := 0 }
  s.each (clearedObjects 7 128 old new) fun s k => s.setSensor k fun x => { x with state := 0 }

/-- The clusters whose enabled outputs a change touches take the default capture, unless the host's is armed or triggered
(R240). -/
def State.recapture (s : State) (outs : List Nat) : State :=
  s.each (upto 4) fun s c =>
    let x := s.clusterAt c
    if (outs.any fun k => decide (quadrant (s.lead k) = c)) && !(x.host && (x.state = 1 || x.state = 2)) then
      s.defaultCapture c
    else s

/-- The committed description becomes `new` at a tide boundary (R139, R143, R147); `staged` says which keys were staged. -/
def State.changeDescription (s : State) (new : Tab (Option Int)) (staged : Nat → Bool) : State :=
  let old := s.desc.committed
  let keys := changedKeys old new
  let was := s.describedOuts
  let s := s.withDescription new
  let now := s.describedOuts
  let on := now.filter fun k => !was.contains k
  let off := was.filter fun k => !now.contains k
  let s := s.copyAlwaysOn staged
  let s := if keys.any fun k => effectOf k = .g then s.powerDomains s.activeDomains else s
  let s := { s with clocks := { s.clocks with clkout := decide (s.shelfClkoutEnable = 1) } }
  let s := (s.objectsLeave old new).assignConvs
  let s := s.each ((upto 128).filter fun ch => keys.contains (fieldKey 1 ch 0x03) || keys.contains (fieldKey 1 ch 0x04)) State.reseed
  let s := s.each on State.enableOut
  let s := s.each off State.disableOut
  let s := s.each (now ++ off) fun s k => s.outChanged keys k
  let s := if on ++ off = [] then s else s.recapture (on ++ off)
  s.settle

/-! ### Commit steps after the check (Table 6-6) -/

/-- Is the partner in Shadow, as its HELLO says, with a lane up? -/
def State.partnerShadow (s : State) : Bool := s.partner && s.sluice.hello && s.sluice.pMode = 6 && s.linkUp

/-- Chunks of 1,024 bytes with their offsets. -/
def chunksOf : Nat → Nat → Bytes → List (Nat × Bytes)
  | 0, _, _ => []
  | n + 1, o, b => if b.isEmpty then [] else (o, b.take 1024) :: chunksOf n (o + 1024) (b.drop 1024)

/-- An image sent to the partner in DESC frames (R147, step 4; R148). -/
def State.sendDesc (s : State) (b : Bytes) : State :=
  (chunksOf 256 0 b).foldl (fun s c => s.sendPeer 0x09 (leBytes 4 c.1 ++ c.2)) s

/-- What a waiting order waits for changes. -/
def State.rewait (s : State) (mb : Nat) (what : WaitKind) : State :=
  { s with waiting := s.waiting.map fun w => if w.mailbox = mb then { w with what := what } else w }

/-- Step 3 has ended (Table 6-6): the copy is written, or the commit is answered TIMEOUT and the edit stays open, unless
its session has ended. -/
def State.commitStored (s : State) (mb : Nat) (ok : Bool) : State :=
  let d := s.desc
  if ok then
    let s := { s with desc := d.putCopy d.copy d.capturedSeq d.image true }
    if s.partnerShadow then (s.sendDesc (imageOf d.image d.capturedSeq)).rewait mb .commitPartner
    else s.rewait mb .commitBoundary
  else
    let s := (({ s with desc := { d with committing := false, captured := [] } }).finish mb .timeout [])
    match s.desc.edit with
    | some n => if (s.sesAt n).state = .openS then s else s.closeEdit
    | none => s

/-- Step 5 (Table 6-6), at a tide boundary: the staged changes are applied, the edit is closed, and the APPLIED word is
left to be programmed. -/
def State.commitApply (s : State) (w : Waiting) : State :=
  let d := s.desc
  let new := mergeStaged d.committed d.captured d.capturedWhole
  let s := s.changeDescription new fun k => d.capturedWhole || (Tab.get none d.captured k).isSome
  let s := { s with desc := { s.desc with
      sequence := d.capturedSeq, digest := digest64 d.image d.capturedSeq, loadStatus := 0, committing := false, captured := []
      edit := none, staged := [], stagedWhole := false, load := [], commitEpoch := s.clocks.epoch, appliedCopy := d.copy } }
  let s := s.record 0x0F 1 (leBytes 4 d.capturedSeq ++ leBytes 4 w.session ++ leBytes 8 s.desc.digest)
  s.rewait w.mailbox .commitApplied

/-- The APPLIED write of step 5 has ended (R149); step 6 answers OK in either case. -/
def State.commitDone (s : State) (mb : Nat) (ok : Bool) : State :=
  let d := s.desc
  let s := { s with desc :=
    if ok then d.markApplied d.appliedCopy
    else { d with appliedPending := (d.appliedPending.filter (· ≠ d.appliedCopy)) ++ [d.appliedCopy] } }
  (s.unwait mb).respond mb .ok (leBytes 4 d.sequence) d.commitEpoch

/-- A repeated APPLIED write ends, of the copy whose write failed first (R149). -/
def State.appliedRetry (s : State) (ok : Bool) : State :=
  match s.desc.appliedPending with
  | k :: _ => if ok then { s with desc := s.desc.markApplied k } else s
  | [] => s

/-- A live OBJ.SET at its boundary (R143, R504). -/
def State.liveSetDone (s : State) (mb : Nat) (l : List (Nat × Int)) : State :=
  if modesEdit.contains s.mode then
    (s.changeDescription (applyEntries s.desc.committed l) fun _ => false).finish mb .ok [byte l.length, 0, 0, 0]
  else s.finish mb .wrongMode []

/-! ### Load at Configure (R152) -/

/-- LOAD_STATUS when no copy is valid (R152). -/
def Desc.noCopyStatus (d : Desc) : Nat :=
  if (upto 2).any fun k => d.wellFormed k && !d.majorOk k && d.appliedOk k then 3 else 1

/-- The committed description at an entry into Configure (R152), its record, and the always-on copies (R159). A repeated APPLIED
write (R149) is not due any more. (DESIGN CHOICE, log 86) -/
def State.loadDescription (s : State) : State :=
  let d := s.desc
  let load (t : Tab (Option Int)) (seq status : Nat) : State :=
    { s with desc := { d with
        committed := t, sequence := seq, digest := if seq = 0 then 0 else digest64 t seq, loadStatus := status
        appliedPending := [] } }
  let s := match d.laterCopy with
    | none => load [] 0 d.noCopyStatus
    | some k =>
      let v := s.withDescription (d.valuesOf k)
      if v.validate v.desc.committed = [] then load (d.valuesOf k) (d.seqOf k) 0 else load [] 0 2
  let seq := match d.laterCopy with | some k => d.seqOf k | none => 0
  let s := s.record 0x0F 2 ([byte s.desc.loadStatus, 0, 0, 0] ++ leBytes 4 seq)
  let s := (s.copyAlwaysOn fun _ => true).assignConvs
  let s := s.each s.describedOuts fun s k =>
    let tries := s.outRestartTries k
    let s := s.setOut k fun o => { o with triesLeft := tries }
    s.each (s.phases k) fun s ch => (s.loadBanks k ch).setTrip k ch
  { s with clocks := { s.clocks with clkout := decide (s.shelfClkoutEnable = 1) } }

/-! ### Adoption by the standby (R155) -/

/-- A DESC frame of a standby: when the image is complete and well formed, it is to be acknowledged and adopted. The
answer tells whether the frame completes it. -/
def State.takeDesc (s : State) (body : Bytes) : State × Bool :=
  let t := (body.drop 4).foldl (fun (a : Tab Nat × Nat) b => (Tab.set 0 a.1 a.2 (b.toNat + 1), a.2 + 1))
    ((if fld body 0 4 = 0 then [] else s.desc.rxImage), fld body 0 4) |>.1
  if imageTotal t = some t.length then
    match judgeImage (imageBytes t t.length) with
    | .good seq values => ({ s with desc := { s.desc with rxImage := [], adopt := some seq, adoptPassed := false, adoptSet := values } }, true)
    | .bad _ _ _ => ({ s with desc := { s.desc with rxImage := [] } }, false)
  else ({ s with desc := { s.desc with rxImage := t } }, false)

/-- The adopted description applies at the first tide boundary at least 50 µs after its acknowledgement (R155), `hot` where this
one is not; its store write follows. -/
def State.adoptDescription (s : State) (hot : Bool) : State :=
  match s.desc.adopt with
  | some seq =>
    if hot && !s.desc.adoptPassed then { s with desc := { s.desc with adoptPassed := true } }
    else if s.role = 2 then
      let new := s.desc.adoptSet
      let s := s.changeDescription new fun _ => true
      let k := s.desc.spareCopy
      { s with desc := { s.desc.putCopy k 0xFFFFFFFF [] false with
          adopt := none, sequence := seq, digest := digest64 new seq, loadStatus := 0
          adoptImage := new, adoptSeq := seq, adoptCopy := k } }
    else { s with desc := { s.desc with adopt := none } }
  | none => s

/-- The standby's store write of an adopted description has ended (R155): APPLIED is programmed, or its logbook fault source is raised and the
partner told (Table 15-11). (DEDUCED, log 52) -/
def State.adoptionStored (s : State) (ok : Bool) : State :=
  let d := s.desc
  let s := if ok then { s with desc := (d.putCopy d.adoptCopy d.adoptSeq d.adoptImage true).markApplied d.adoptCopy }
    else ((s.raise 290 1 []).peerEvent 6 (leBytes 4 d.adoptSeq))
  s.record 0x0F 4 (leBytes 4 d.adoptSeq ++ [byte (b2n ok)])

end Sys2Proof.Machine
end

