-- ==== Sys2Proof/Machine/LogRows.lean ====
section
/-! DEFINITION. Meanings of the logbook's commands (chapter 17): staging, bursts, headers, the mount, and the orders of
group 0x0C. -/
namespace Sys2Proof.Machine

/-! ### Staging and flushing -/

/-- What waited for a record happens: it is flushed, or staged while unbacked (R49, R79, R411, R463). -/
def State.recordDone (s : State) (u : OfferUse) : State :=
  match u with
  | .generation => s.deliverHeld
  | .wakeHistory => { s with power := { s.power with ret := ({ s.power.ret with code := 0, prior := false }).sealed } }
  | .resetCause => { s with power := { s.power with cause := {} } }
  | _ => s

/-- Does something wait for the flush of a record of this use? -/
def OfferUse.watched (u : OfferUse) : Bool :=
  match u with
  | .generation | .wakeHistory | .resetCause => true
  | _ => false

/-- One offer is staged, with what its use asks at once: a note is answered (R471). -/
def State.stageOffer (s : State) (o : LogOffer) : State :=
  let seq := s.log.next
  let s := s.stage o
  let s := if !o.use.watched then s
    else if s.log.unbacked then s.recordDone o.use
    else { s with log := { s.log with watch := s.log.watch ++ [(o.use, seq)] } }
  match o.use with
  | .note mb _ => s.finish mb .ok (leBytes 8 seq)
  | _ => s

/-- The record of a fault entry (Table 18-10), with the QSEQ the ring gives it. -/
def faultOffer (r : RingEntry) (count : Nat) : LogOffer :=
  { cls := 0x07, source := 1, event := none, items := r.bytes ++ leBytes 4 count ++ zeros 8, flags := 0, use := .plain }

/-- The oldest fault entry is admitted: removed, put into the ring when its reactions include INTERRUPT, staged (R482);
then a held source 319 takes the place that frees (R484). -/
def State.drainFault (s : State) (e : FaultEntry) (rest : List FaultEntry) : State :=
  let f := s.faults
  let r : RingEntry :=
    { qseq := f.nextQseq, epoch := e.epoch, source := e.source, cls := e.cls, event := e.event, repeats := e.repeats
      reaction := e.reaction, data := e.data }
  let f := { f with queue := rest }
  let f := if bit e.reaction 1 then
      { f with ring := Tab.set {} f.ring (f.nextQseq % 256) r, nextQseq := (f.nextQseq + 1) % 2 ^ 32 }
    else f
  (({ s with faults := f }).stageOffer (faultOffer r e.count)).queueHeld

/-- The next offered record is admitted where there is room: the fault collector's first, then the warden's (R454). -/
def State.stageNext (s : State) : State :=
  if s.log.admits then
    match s.faults.queue, s.log.offers with
    | e :: rest, _ => s.drainFault e rest
    | [], o :: rest => ({ s with log := { s.log with offers := rest } }).stageOffer o
    | [], [] => s
  else s

/-- RECORD_STAGE (R455). -/
def execRecordStage (s : State) : Host.Outcome State Fault Refusal :=
  .next (let t := s.stageNext.startBurst
    (if t.log.unbacked then t.pushLogs else t).advanceShutdown)

/-- The next header write (R460): the copy with the lower GEN takes the present values. (DEDUCED, log 30) -/
def State.writeHeader (s : State) (hint : Nat) : State :=
  let l := s.log
  let h : StoreHeader :=
    { kind := 1, dieId := s.dieId, capacity := l.capacity, gen := l.gen + 1, clears := l.clears, tail := l.tail, hint := hint
      format := l.formatSeq, epochMark := l.flushedMark }
  let l := { l with gen := l.gen + 1, hintSeq := hint }
  { s with log := if l.header1.gen < l.header0.gen then { l with header1 := h } else { l with header0 := h } }

/-- Extended epoch of a time mark. -/
def LogRec.mark (r : LogRec) : Nat := fld r.payload 8 4 + fld r.payload 12 4 * 2 ^ 32

/-- One record of a complete burst is in the store; with an uncorrectable staged word its CRC is inverted (R457). -/
def State.flushRecord (s : State) (seq : Nat) : State :=
  let r := Tab.get ({} : LogRec) s.log.staging seq
  let bad := s.stagedBad seq
  let w := if bad then { r with crc := r.crc ^^^ 0xFFFFFFFF } else r
  let l := { s.log with
    store := Tab.set {} s.log.store (s.log.slotOf seq) w, head := seq
    flushedMark := if r.cls = 1 then r.mark else s.log.flushedMark }
  let s := { s with log := l, retained := { s.retained with seq := some seq } }
  let s := (s.log.watch.filter fun w => decide (w.2 = seq)).foldl (fun s (w : OfferUse × Nat) => s.recordDone w.1) s
  let s := { s with log := { s.log with watch := s.log.watch.filter fun w => decide (w.2 ≠ seq) } }
  if bad then s.eccEvent 204 4 (16 * (seq % 4096)) 0 else s

/-- The highest SEQ of a burst that is a multiple of 4,096 (R460). -/
def headerSeq (first last : Nat) : Option Nat :=
  if first ≤ last / 4096 * 4096 then some (last / 4096 * 4096) else none

/-- A burst is complete (R456): its records are flushed, a header follows where one is due, pushes go out, the next burst
starts. -/
def State.burstDone (s : State) (b : Burst) : State :=
  let s := (countFrom (b.last + 1 - b.first) b.first).foldl State.flushRecord s
  let s := { s with log := { s.log with burst := none, failedBursts := 0 } }
  let s := match headerSeq b.first b.last with | some h => s.writeHeader h | none => s
  s.pushLogs.startBurst

/-- The logbook becomes unbacked after three failed bursts (R456, R463). -/
def State.loseStore (s : State) : State :=
  let w := s.log.watch
  let s := { s with log := { s.log with unbacked := true, storeState := 3, head := s.log.next - 1, watch := [] } }
  (w.foldl (fun s (x : OfferUse × Nat) => s.recordDone x.1) s).raise 290 1 []

/-- A burst fails (R456). -/
def State.burstFailed (s : State) : State :=
  let s := { s with log := { s.log with burst := none, failedBursts := s.log.failedBursts + 1 } }
  if 3 ≤ s.log.failedBursts then s.loseStore else s.startBurst

/-- BURST_COMPLETE (R456): the read-back of the burst in flight matches, or differs. A brace suspends the burst outside Last-gasp
(R51). -/
def execBurstComplete (ok : Bool) (s : State) : Host.Outcome State Fault Refusal :=
  .next (match s.log.burst with
    | none => s
    | some b =>
      if s.power.brace.isSome ∧ s.mode ≠ .lastGasp then s
      else if ok then (s.burstDone b).advanceShutdown
      else if b.rewrite then s.burstFailed.advanceShutdown
      else { s with log := { s.log with burst := some { b with rewrite := true } } })

/-- UNFLUSHED_TIMEOUT (R469): source 7 outside a brace. -/
def execUnflushedTimeout (s : State) : Host.Outcome State Fault Refusal :=
  .next (if 64 ≤ s.log.unflushed ∧ s.power.brace.isNone then s.raise 295 1 [] else s)

/-! ### The mount -/

/-- The first SEQ of a format or of an unbacked mount, the held HEAD apart (R462, R463). -/
def State.firstSeq (s : State) : Nat :=
  max (match s.retained.seq with | some n => n + 1 | none => 1) (s.retained.rtcNs / 1000000 * 2 ^ 20)

/-- The scan of R461: from `seq`, records whose CRC and SEQ check; HEAD and the latest time mark read. -/
def Logbook.scan (l : Logbook) : Nat → Nat → Nat → Nat × Nat
  | 0, seq, mark => (seq - 1, mark)
  | n + 1, seq, mark =>
    let r := Tab.get ({} : LogRec) l.store (l.slotOf seq)
    if r.crcOk && decide (r.seq = seq) then Logbook.scan l n (seq + 1) (if r.cls = 1 then max mark r.mark else mark)
    else (seq - 1, mark)

/-- EVENT of a prefixed record. -/
def LogRec.event (r : LogRec) : Nat := fld r.payload 4 2

/-- Is a record passed over in the search for the deciding record (R461)? -/
def LogRec.passed (r : LogRec) : Bool :=
  [0x01, 0x07, 0x0A, 0x0B, 0x0D, 0x0E].contains r.cls || (r.cls = 0x08 && r.event = 1) || (r.cls = 0x11 && r.event = 3)

/-- Does a deciding record close an orderly end (R461)? -/
def LogRec.orderlyEnd (r : LogRec) : Bool :=
  (r.cls = 0x08 && r.event = 2) || (r.cls = 0x06 && r.event = 5) || (r.cls = 0x04 && r.event = 1)

/-- EVENT of the mount: 1 clean, 4 unclean. The search goes back over `n` records from `seq` (R461). -/
def Logbook.mountEventOf (l : Logbook) : Nat → Nat → Nat
  | 0, _ => 4
  | n + 1, seq =>
    if seq < l.formatSeq then 4
    else
      let r := Tab.get ({} : LogRec) l.store (l.slotOf seq)
      if r.passed then Logbook.mountEventOf l n (seq - 1)
      else if r.orderlyEnd then 1 else 4

/-- Stage a logbook record (class 0x02) at once. -/
def State.stageLog (s : State) (event : Nat) (items : Bytes) : State :=
  s.stage { cls := 0x02, source := 0, event := some event, items := items, flags := 0, use := .plain }

/-- Both header copies written by a format whose first SEQ is `first`, with the lowest held SEQ `tail` (R462). -/
def State.formatHeaders (s : State) (first tail : Nat) : State :=
  let l := { s.log with formatSeq := first, hintSeq := first, tail := tail, clears := 0, flushedMark := 0 }
  let h (g : Nat) : StoreHeader :=
    { kind := 1, dieId := s.dieId, capacity := l.capacity, gen := g, clears := 0, tail := tail, hint := first, format := first }
  { s with log := { l with header0 := h (l.gen + 1), header1 := h (l.gen + 2), gen := l.gen + 2 } }

/-- Is a header copy one of this device? -/
def State.ownHeader (s : State) (h : StoreHeader) : Bool := h.kind = 1 && h.dieId = s.dieId

/-- The mount leaves the logbook unbacked (R463). (DEDUCED, log 30) -/
def State.mountUnbacked (s : State) (state src : Nat) : State :=
  let b := s.firstSeq
  ({ s with log := { s.log with
      unbacked := true, storeState := state, next := b, head := b - 1, tail := b, formatSeq := b, hintSeq := b } }).raise src 1 []

/-- The mount finds both copies blank and formats the store (R462). -/
def State.mountBlank (s : State) : State :=
  let b := s.firstSeq
  let s := s.formatHeaders b b
  let s := { s with log := { s.log with next := b, head := b - 1, mountHead := b - 1, lastChain := 0 } }
  s.stageLog 2 (leBytes 8 b)

/-- The mount of a store with a header of this device (R461, steps 1 to 4). -/
def State.mountHeader (s : State) (h : StoreHeader) : State :=
  let l := { s.log with
    tail := h.tail, hintSeq := h.hint, formatSeq := h.format, clears := h.clears
    gen := max (if s.ownHeader s.log.header0 then s.log.header0.gen else 0)
      (if s.ownHeader s.log.header1 then s.log.header1.gen else 0) }
  let r := l.scan (l.store.length + 1) h.hint h.epochMark
  let last := Tab.get ({} : LogRec) l.store (l.slotOf r.1)
  let l := { l with
    head := r.1, mountHead := r.1, next := r.1 + 1, epochMark := r.2, flushedMark := r.2
    lastChain := if l.formatSeq ≤ r.1 then last.chain else 0 }
  let s := { s with log := l }
  match s.retained.seq with
  | some n => if r.1 < n then (s.raise 293 1 []).stageLog 5 (leBytes 8 n ++ leBytes 8 r.1) else s
  | none => s

/-- The header copy the mount takes: of this device, of the higher GEN (R461, step 1). -/
def State.mountCopy (s : State) : Option StoreHeader :=
  let a := s.log.header0
  let b := s.log.header1
  if s.ownHeader a && s.ownHeader b then some (if a.gen < b.gen then b else a)
  else if s.ownHeader a then some a
  else if s.ownHeader b then some b
  else none

/-- Steps 1 to 4 of the mount of a store that answers (R461 to R463). -/
def State.mountPresent (s : State) : State :=
  if s.log.header0.kind = 0 ∧ s.log.header1.kind = 0 then s.mountBlank
  else match s.mountCopy with
    | some h => s.mountHeader h
    | none => s.mountUnbacked 2 289

/-- Steps 1 to 4 of the mount with a CS1 store of `bytes`, 0 while absent. -/
def State.mountStore (s : State) (bytes : Nat) : State :=
  let s := { s with log := { s.log with storeBytes := bytes, capacity := (bytes - 4096) / 64 } }
  if s.log.capacity = 0 then s.mountUnbacked 1 288 else s.mountPresent

/-- EVENT of the mount record (Table 17-11): the event of the records after the last time mark, 1 where none is held. -/
def State.mountCode (s : State) : Nat :=
  if !s.log.unbacked && s.log.formatSeq ≤ s.log.head then s.log.mountEventOf 4096 s.log.head else 1

/-- Items of the mount record. -/
def State.mountItems (s : State) : Bytes :=
  leBytes 8 s.log.head ++ leBytes 8 s.log.hintSeq ++ leBytes 8 s.log.tail ++ leBytes 8 (s.retained.seq.getD 0)
    ++ [byte (b2n s.retained.seq.isSome)]

/-- The store is mounted: the mount record is staged, and the tide generator is released (R70, R461). -/
def State.mountDone (s : State) (ev : Nat) : State :=
  let items := s.mountItems
  let s := { s with log := { s.log with mounted := true, mountEvent := ev } }
  let s := s.stageLog ev items
  let s := if ev = 4 then s.raise 294 1 [] else s
  let s := { s with boot := { s.boot with step := 7 }, clocks := { s.clocks with tideReleased := true } }
  s.startBurst

/-- MOUNT (R461 to R463) with the size of the CS1 store in bytes, 0 while absent, the taps at which its SFDP read passed and its
declared rate (R601); the mount record follows, and the tide generator is released (R70). -/
def execMount (storeBytes : Nat) (s : State) (taps : Nat := 0) (sfdpKhz : Nat := 0) : Host.Outcome State Fault Refusal :=
  .next (if s.mode = .boot ∧ s.boot.step = 6 ∧ s.log.mounted = false then
      let s := { s with log := { s.log with cs1 := storePort taps sfdpKhz } }
      (s.mountStore storeBytes).mountDone (s.mountStore storeBytes).mountCode
    else s)

/-! ### Orders of group 0x0C -/

/-- LOG.STATUS (Table 17-9). -/
def execLogStatus (mb : Nat) (s : State) : Host.Outcome State Fault Refusal :=
  .next (s.runOrder 0x0C01 mb fun q s =>
    let l := s.log
    if !q.lay 0 [] then s.refuse q .badArg
    else s.reply q .ok (leBytes 8 l.head ++ leBytes 8 l.oldest ++ leBytes 8 l.formatSeq ++ leBytes 4 l.capacity
      ++ leBytes 4 l.clears ++ leBytes 4 l.damaged ++ [byte l.unflushed, byte l.storeState, byte l.mountEvent, 0]))

/-- LOG.READ (R465, Table 17-9). -/
def execLogRead (mb : Nat) (s : State) : Host.Outcome State Fault Refusal :=
  .next (s.runOrder 0x0C02 mb fun q s =>
    let n := q.u 8 1
    if !q.lay 12 [(9, 3)] || n = 0 || 7 < n then s.refuse q .badArg
    else
      let l := s.log
      let v := (countFrom n (q.u 0 8)).map l.view
      let st := v.foldr (fun (x : LogSlot) a => x.status + 4 * a) 0
      let s := s.logDamaged (v.filter fun x => decide (x.status = 3)).length
      s.reply q .ok (leBytes 8 l.head ++ leBytes 8 l.oldest ++ leBytes 2 st ++ [byte n] ++ zeros 13
        ++ (v.map LogSlot.bytes).flatten))

/-- What LOG.VERIFY finds wrong with a record: 0 none, 1 CRC, 2 chain, 3 SEQ (R471). -/
def State.verifyOne (s : State) (seq : Nat) : Nat :=
  let l := s.log
  let r := l.held seq
  if !r.crcOk then 1
  else if r.seq ≠ seq then 3
  else
    let prev := l.held (seq - 1)
    let known := decide (l.oldest < seq) && prev.crcOk && decide (prev.seq + 1 = seq)
    if seq = l.formatSeq then (if r.chain = chainOf l.chainKey 0 r.body then 0 else 2)
    else if known && r.chain ≠ chainOf l.chainKey prev.chain r.body then 2 else 0

/-- LOG.VERIFY (R471): the records of the range that are held are checked; LOCKED without a chain key (R85). -/
def execLogVerify (mb : Nat) (s : State) : Host.Outcome State Fault Refusal :=
  .next (s.runOrder 0x0C03 mb fun q s =>
    let n := q.u 8 2
    if !q.lay 12 [(10, 2)] || n = 0 || 16384 < n then s.refuse q .badArg
    else if s.secretLocked [1] then s.refuse q .locked
    else
      let l := s.log
      let seqs := (countFrom n (q.u 0 8)).filter fun x => decide (l.oldest ≤ x) && decide (x ≤ l.head)
      let bad := (seqs.map fun x => (x, s.verifyOne x)).filter fun (e : Nat × Nat) => decide (e.2 ≠ 0)
      let s := s.logDamaged (bad.filter fun (e : Nat × Nat) => decide (e.2 ≠ 2)).length
      let s := if bad.any fun (e : Nat × Nat) => decide (e.2 = 2) then s.raise 292 1 [] else s
      let first := bad.head?.getD (0, 0)
      s.reply q .ok (leBytes 2 seqs.length ++ leBytes 2 bad.length ++ [byte first.2, 0, 0, 0] ++ leBytes 8 first.1))

/-- LOG.NOTE (R471): answered once the note is staged. -/
def execLogNote (mb : Nat) (s : State) : Host.Outcome State Fault Refusal :=
  .next (s.runOrder 0x0C04 mb fun q s =>
    if 10 ≤ (s.sesAt q.session).notes then s.refuse q .busy
    else if !q.lay 40 [] then s.refuse q .badArg
    else
      let s := (s.setSes q.session fun e => { e with notes := e.notes + 1 }).wait q .logNote
      s.offerAs { cls := 0x15, source := 0, event := none, items := leBytes 4 q.session ++ slice q.payload 0 40
                  flags := 0, use := .note mb q.session })

/-- LOG.CLEAR (R466): the header write is an external write. -/
def execLogClear (mb : Nat) (s : State) : Host.Outcome State Fault Refusal :=
  .next (s.runOrder 0x0C05 mb fun q s =>
    let up := q.u 0 8
    if !q.lay 8 [] || up < s.log.tail || s.log.head + 1 < up then s.refuse q .badArg else s.wait q (.logClear up))

/-- The header write of LOG.CLEAR is read back: TAIL_SEQ has moved, the clear record is staged, and the order is answered (R466).
(DEDUCED, log 30) -/
def State.logCleared (s : State) (mb upto : Nat) : State :=
  let old := s.log.tail
  let s := { s with log := { s.log with tail := upto, clears := (s.log.clears + 1) % 2 ^ 32 } }
  let s := s.writeHeader s.log.hintSeq
  (s.record 0x02 3 (leBytes 8 old ++ leBytes 8 upto ++ leBytes 4 (s.request mb).session)).finish mb .ok (leBytes 8 upto)

/-- FIRST_SEQ of LOG.FORMAT (R462). -/
def State.formatFirst (s : State) : Nat :=
  max s.firstSeq (if s.ownHeader s.log.header0 || s.ownHeader s.log.header1 then s.log.mountHead + 1 else 1)

/-- LOG.FORMAT (R462, Table 17-9): the header writes are an external write. (DEDUCED, log 30) -/
def execLogFormat (mb : Nat) (s : State) : Host.Outcome State Fault Refusal :=
  .next (s.runOrder 0x0C06 mb fun q s =>
    if !q.lay 8 [(4, 4)] || q.u 0 4 ≠ 0x4D524F46 then s.refuse q .badArg
    else s.wait q (.logFormat s.formatFirst))

/-- The records still in staging written to the store at a format that ends an unbacked time (R463). -/
def Logbook.stagingToStore (l : Logbook) : Logbook :=
  { l with store := l.staging.foldl (fun t e => Tab.set {} t (e.1 % l.capacity) e.2) l.store }

/-- The header writes of LOG.FORMAT are read back (R462, R463): what staging still holds has been written to the store first; SEQ
goes on above what has been staged, and the chain starts anew with the first SEQ of the format. (DEDUCED, log 30) -/
def State.logFormatted (s : State) (mb first : Nat) : State :=
  let l := s.log
  let oldest := match l.staging.head? with | some e => e.1 | none => first
  let was := l.unbacked
  let s := if was then { s with log := l.stagingToStore }
    else (countFrom l.unflushed (l.head + 1)).foldl State.flushRecord s
  let s := s.formatHeaders first (if was then min oldest first else first)
  let n := max first l.next
  let s := { s with log := { s.log with
      unbacked := false, storeState := 0, next := n, head := n - 1, lastChain := if n = first then 0 else l.lastChain, failedBursts := 0
      burst := none } }
  (s.record 0x02 2 (leBytes 8 first)).finish mb .ok (leBytes 8 first)

/-- LOG.SUBSCRIBE (R471). (DEDUCED, log 14) -/
def execLogSubscribe (mb : Nat) (s : State) : Host.Outcome State Fault Refusal :=
  .next (s.runOrderWith 0x0C07 mb onEthernet anyRequest fun q s =>
    match s.subscribe { id := 0, session := q.session, log := true, kind := 0, row := 0, decim := 0, next := q.u 0 8
                        classes := q.u 8 4, gone := 0 } with
    | none => s.refuse q .busy
    | some r =>
      if !q.lay 12 [] then s.refuse q .badArg else (r.1.reply q .ok [byte r.2, 0, 0, 0]).pushLogs)

/-- LOG.UNSUBSCRIBE (Table 17-9). -/
def execLogUnsubscribe (mb : Nat) (s : State) : Host.Outcome State Fault Refusal :=
  .next (s.runOrder 0x0C08 mb fun q s =>
    if !q.lay 4 [(1, 3)] then s.refuse q .badArg
    else match s.unsubscribe q.session (q.u 0 1) true with
      | none => s.refuse q .badArg
      | some s => s.reply q .ok [])

/-- LOG.CAPSULES (Table 17-9). -/
def execLogCapsules (mb : Nat) (s : State) : Host.Outcome State Fault Refusal :=
  .next (s.runOrder 0x0C09 mb fun q s =>
    if !q.lay 4 [(1, 3)] || 7 < q.u 0 1 then s.refuse q .badArg
    else s.reply q .ok ((pageOf 30 (q.u 0 1) s.log.capsules).map fun (e : Nat × Nat × Nat × Nat × Nat) =>
      leBytes 8 e.1 ++ leBytes 4 e.2.1 ++ [byte e.2.2.1, byte e.2.2.2.1, byte e.2.2.2.2, 0]).flatten)

end Sys2Proof.Machine
end

