-- ==== Sys2Proof/Machine/Configure.lean ====
section
/-! DEFINITION. Entry into Configure (R104, R127, R152, R154, R377), and the ends of sessions, which may lead back to it
(R38, R124, R126). -/
namespace Sys2Proof.Machine

/-! ### Entry into Configure -/

/-- The keys of the key record as each entry into Configure judges them (R127, R334): installed only under a GOOD digest, and
while the device secret that the record is encrypted under is in use (R85, R88); one that misses a GOOD digest raises source
287. (DEDUCED, log 33) -/
def State.judgeKeys (s : State) : State :=
  let hostBad := match s.host.hostKey with
    | some k => s.fieldGood 32 8 && !s.keyMatches 32 (beBytes 16 k)
    | none => false
  let rootBad := match s.tide.kRoot with
    | some k => s.fieldGood 24 8 && !s.keyMatches 24 (beBytes 16 k)
    | none => false
  let live := decide (s.otp.lifecycle ≠ 3) && s.secret.isSome
  let s := { s with
    host := { s.host with hostKeyInstalled := live && s.fieldGood 32 8 && s.host.hostKey.isSome && !hostBad }
    tide := { s.tide with rootInstalled := live && s.fieldGood 24 8 && s.tide.kRoot.isSome && !rootBad } }
  if live && (hostBad || rootBad) then s.raise 287 1 [byte (b2n hostBad + 2 * b2n rootBad)] else s

/-- The latest staging record of each rectifier (R309). -/
def State.restoreStagings (s : State) : State :=
  let l := (s.log.ofClass 0x12).filter fun r => decide (fld r.payload 0 1 = 5)
  (sortBy (·.seq) l).foldl (fun s r => s.restoreStaging r.payload) s

/-- What each entry into Configure does: the stored description (R152), the domains it enables (R34), the keys (R127), the
gauge and the staging records (R309, R377). (DEDUCED, log 31) -/
def State.configureWork (s : State) : State :=
  let s := s.loadDescription
  let s := s.powerDomains s.activeDomains
  let s := s.judgeKeys
  let s := s.restoreGauge
  let s := s.restoreStagings
  { s with power := { s.power with configureNs := s.retained.rtcNs } }

/-- The loop clusters with their memories initialised and the default captures begun (R240, R498). -/
def State.startClusters (s : State) : State :=
  s.each (upto 4) fun s c => (s.setCluster c fun x => { x with initialised := true }).defaultCapture c

/-- The records of a Boot: boot (R102), reset cause (R79), wake history (R49). (DEDUCED, log 31) -/
def State.bootRecords (s : State) : State :=
  let b := s.boot
  let s := s.record 0x03 1 ([byte b.running, byte b.tableCopy, byte (b.stateCode 0), byte (b.stateCode 1),
    byte b.codeA, byte b.codeB, 0, 0] ++ leBytes 4 (b.header b.running 0x14 4) ++ leBytes 4 (b.sequence 0)
    ++ leBytes 4 (b.sequence 1))
  let s := if s.power.cause.cause = 0 then s else s.recordFor .resetCause 0x04 2 (leBytes 4 s.power.cause.word)
  let r := s.power.ret
  if r.attemptCodes ≠ 0 ∨ r.prior = true then s.recordFor .wakeHistory 0x05 1 r.bytes else s

/-- The running slot is marked CONFIRMED, where it is in TRIAL (R104). -/
def State.confirmSlot (s : State) : State :=
  if s.boot.stateCode s.boot.running = 0x3F then
    let s := s.tableCut
    { s with boot := s.boot.mark s.boot.running 0x1F }
  else s

/-- A claim begins (R393). -/
def State.beginClaim (s : State) (auto : Bool) : State :=
  { s with sluice := { s.sluice with claim := .waitLow, claimAuto := auto, collisions := 0 } }

/-- AUTO_RUN (R154): once Configure is complete, the warden issues MODE.SET Run on its own behalf, at every entry into Configure.
(DEDUCED, log 32) -/
def State.autoRun (s : State) : State :=
  if s.mode = .configure ∧ s.shelfAutoRun = 1 ∧ s.desc.loadStatus = 0 ∧ s.otp.lifecycle ≠ 3 ∧ s.otp.lifecycle ≠ 0 ∧ (s.desc.sequence ≠ 0 ∨ s.sluice.peer = true) then
    if s.token then s.setMode .run 7 0xFFFF else s.beginClaim true
  else s

/-- CONFIGURE_ENTRY (R102, R104, R106) at an RTC time: the image enters Configure; HRDY rises (R113), KG is drawn (R337). (DEDUCED, log 31) -/
def execConfigureEntry (s : State) (rtcNs : Nat := 0) : Host.Outcome State Fault Refusal :=
  .next (if s.mode = .boot ∧ s.boot.step = 7 then
    let s := (s.rtcRuns rtcNs).enterMode .configure
    let s := { s with host := { s.host with hrdy := true } }
    let s := s.configureWork
    let s := s.startClusters
    let s := ({ s with tide := { s.tide with kg := s.fresh .random 0 % 2 ^ 128 } }).used
    (s.bootRecords.confirmSlot).autoRun
    else s)

/-! ### Ends of sessions -/

/-- Leave Service for the mode it was entered from, or for Ride-through where the AC-loss condition holds (R38); a standby goes back
to Shadow, whose policy is its active's. Configure is entered with its whole work. (DEDUCED, log 32) -/
def State.leaveService (s : State) (trigger : Nat) : State :=
  let back := if s.budget.acLoss && s.power.fromMode ≠ .shadow then Mode.rideThrough else s.power.fromMode
  let s := s.setMode back trigger 0xFFFF
  if back = .configure then s.configureWork else s

/-- A MODE.SET that is not yet answered (R36). (DEDUCED, log 32) -/
def State.modeSetPending (s : State) : Bool :=
  s.waiting.any fun w => match w.what with | .modeSet _ => true | _ => false

/-- A session ends: its edit is discarded (R141), its subscriptions end, and the close of the session under which Service
was entered ends Service, unless a MODE.SET is pending or a long press has been made (Table 2-2, R36). -/
def State.endSession (s : State) (n : Nat) : State :=
  let s := s.setSes n fun _ => {}
  let s := { s with log := { s.log with subs := s.log.subs.filter fun x => decide (x.session ≠ n) } }
  let s := if s.desc.edit = some n then s.closeEdit else s
  if s.mode = .service ∧ s.power.serviceSession = n ∧ s.modeSetPending = false ∧ s.power.longPress = false then
    (s.leaveService 6).autoRun
  else s

/-- SESSION_IDLE_EXPIRY (R124). A session with a request in progress is not idle; a halt in Service holds the timers
(R566). -/
def execSessionIdleExpiry (session : Nat) (s : State) : Host.Outcome State Fault Refusal :=
  let busy := (upto 16).any fun n => (s.mbAt n).busy && decide ((s.request n).session = session)
  .next (if (s.sesAt session).state ≠ .closed ∧ busy = false ∧ ¬(s.anyHalted = true ∧ s.mode = .service) then s.endSession session else s)

/-- PROOF_TIMEOUT (R126). -/
def execProofTimeout (session : Nat) (s : State) : Host.Outcome State Fault Refusal :=
  .next (if (s.sesAt session).state = .proving then s.endSession session else s)

/-! ### Proofs and closes -/

/-- A failed proof: the session ends, is logged, and the third within 60 s locks the key out (R126). -/
def State.failProof (s : State) (q : Req) : State :=
  let e := s.sesAt q.session
  let recent := s.host.failedProofs.filter fun f => decide (s.budget.tides < f.2 + 60000)
  let fails := recent ++ [(e.keyId, s.budget.tides)]
  let n := (fails.filter fun f => decide (f.1 = e.keyId)).length
  let s := s.record 0x10 1 (leBytes 4 q.session ++ [byte e.keyId, byte q.transport])
  let s := { s with host := { s.host with
      failedProofs := fails, keyLocked := if 3 ≤ n then setBit s.host.keyLocked e.keyId true else s.host.keyLocked } }
  ((s.raise 275 1 []).refuse q .privilege).endSession q.session

/-- SESSION.PROVE (R126, Table 5-8). -/
def execSessionProve (mb : Nat) (s : State) : Host.Outcome State Fault Refusal :=
  .next (s.runOrder 0x0102 mb fun q s =>
    let e := s.sesAt q.session
    let nh := slice q.payload 0 16
    if !q.lay 32 [] then s.refuse q .badArg
    else if s.testFailed 1 then s.refuse q .locked
    else match s.sessionKey e.keyId with
      | none => s.failProof q
      | some k =>
        if proofTag k 1 q.session e.nonce nh = slice q.payload 16 16 then
          let s := s.setSes q.session fun e =>
            { e with state := .openS, key := beVal (proofTag k 3 q.session e.nonce nh) }
          s.reply q .ok (proofTag k 2 q.session e.nonce nh)
        else s.failProof q)

/-- SESSION.CLOSE (R124, Table 5-8). -/
def execSessionClose (mb : Nat) (s : State) : Host.Outcome State Fault Refusal :=
  .next (s.runOrder 0x0103 mb fun q s =>
    if !q.lay 0 [] then s.refuse q .badArg else (s.reply q .ok []).endSession q.session)

end Sys2Proof.Machine
end

