-- ==== Sys2Proof/Machine/Ethernet.lean ====
section
/-! DEFINITION. Management Ethernet: links, address detection, the mailbox transport (R128 to R130, R551 to R556), and the
PTP client that disciplines the RTC (R557 to R560). -/
namespace Sys2Proof.Machine

/-! ### Links and addresses -/

/-- A port goes through `f`. -/
def State.setEthPort (s : State) (p : Nat) (f : EthPort → EthPort) : State :=
  { s with eth := if p = 4 then { s.eth with l4 := f s.eth.l4 } else { s.eth with l5 := f s.eth.l5 } }

/-- Fault source of a port's link. -/
def linkSource (p : Nat) : Nat := 272 + p

/-- The MAC address of both ports (R552). -/
def State.macAddress (s : State) : Bytes := [0x02, 0x5A] ++ beBytes 4 s.dieId

/-- The IPv6 link-local address by the modified EUI-64 rule (R552), first byte first. -/
def State.linkLocal (s : State) : Bytes :=
  [0xFE, 0x80] ++ zeros 6 ++ [0x00, 0x5A] ++ (beBytes 4 s.dieId).take 1 ++ [0xFF, 0xFE] ++ (beBytes 4 s.dieId).drop 1

/-- Can a port of a powered and released group come up? -/
def State.ethPowered (s : State) (p : Nat) : Bool := (p = 4 || p = 5) && s.domain 16 && !s.held 12

/-- ETH_LINK_UP (R551, R552): block lock; duplicate address detection begins. -/
def execEthLinkUp (port : Nat) (s : State) : Host.Outcome State Fault Refusal :=
  .next (if s.ethPowered port ∧ (s.eth.portAt port).up = false then
    (s.setEthPort port fun e => { up := true, phy := e.phy }).condition (linkSource port) false else s)

/-- ETH_LINK_DOWN (R551): block lock lost for 1 ms. -/
def execEthLinkDown (port : Nat) (s : State) : Host.Outcome State Fault Refusal :=
  .next (if s.ethPowered port ∧ (s.eth.portAt port).up = true then
    (s.setEthPort port fun e => { phy := e.phy }).begin_ (linkSource port) 1 [] else s)

/-- DUPLICATE_ADDRESS_DETECTION_END (R552): a duplicate leaves the port serving nothing but further detection. (DEDUCED, log 42) -/
def execDuplicateAddressDetectionEnd (port : Nat) (duplicate : Bool) (s : State) : Host.Outcome State Fault Refusal :=
  .next (if s.ethPowered port ∧ (s.eth.portAt port).up = true ∧ (s.eth.portAt port).dadDone = false then
    let t := s.setEthPort port fun e => { e with dadDone := !duplicate, duplicate := duplicate }
    if duplicate then t.raise (linkSource port) 2 [] else t
    else s)

/-- NEIGHBOR_SOLICITATION (R553): one for the port's own address is answered with a Neighbor Advertisement: type, code,
target and target link-layer address. (DEDUCED, log 41) -/
def execNeighborSolicitation (port target : Nat) (s : State) : Host.Outcome State Fault Refusal :=
  .next (if s.ethServes port ∧ beBytes 16 target = s.linkLocal then
    s.send (.eth port ([136, 0] ++ s.linkLocal ++ [2, 1] ++ s.macAddress)) else s)

/-- ECHO_REQUEST (R553): answered with an Echo Reply of the same body. A frame of more than 1,518 bytes is discarded
(R551): 14 of Ethernet header, 40 of IPv6, 4 of ICMPv6, 4 of check sequence, and the body. (DEDUCED, log 41) -/
def execEchoRequest (port : Nat) (body : Bytes) (s : State) : Host.Outcome State Fault Refusal :=
  .next (if s.ethServes port ∧ body.length ≤ 1456 then s.send (.eth port ([129, 0] ++ body)) else s)

/-! ### The mailbox transport -/

/-- A request datagram is discarded and counted (R129). (DEDUCED, log 39) -/
def State.dropDatagram (s : State) : State := s.raise 273 1 []

/-- The mailbox part of a request datagram (Table 5-9). -/
def mailboxPart (f : Bytes) : Bytes := (f.drop 16).take (f.length - 24)

/-- Is a datagram well formed: MAGIC, VERSION, KIND, its length that of its mailbox part, SESSION as in the mailbox header? (DEDUCED, log 39) -/
def datagramFormed (f : Bytes) : Bool :=
  decide (40 ≤ f.length) && decide (f.length ≤ 536) && decide (fld f 0 2 = 0x4854) && decide (fld f 2 1 = 1)
    && decide (fld f 3 1 = 1) && decide (f.length = 40 + fld f 22 2) && decide (fld f 4 4 = fld f 24 4)

/-- Does the order of a datagram travel without a MAC: SESSION.OPEN, SESSION.PROVE? -/
def datagramKeyless (f : Bytes) : Bool := fld f 16 2 = 0x0101 || fld f 16 2 = 0x0102

/-- Does a datagram's MAC verify under its session's key (R128)? -/
def State.macGood (s : State) (f : Bytes) : Bool :=
  let e := s.sesAt (fld f 4 4)
  decide (e.state = SessState.openS) && decide (e.transport = 1)
    && decide (f.drop (f.length - 8) = mac64 e.key (f.take (f.length - 8)))

/-- A datagram for which no pool mailbox is free: KIND 3 and BUSY under the session key (R130). (DEDUCED, log 39) -/
def State.poolReject (s : State) (port : Nat) (f : Bytes) : State :=
  let n := fld f 4 4
  let r := s.responseBytes (reqOf (mailboxPart f) 0 1 1) .busy [] s.clocks.epoch
  let key := if datagramKeyless f then none else some (s.sesAt n).key
  (s.sendEth port (datagram 3 n (fld f 8 8) r key)).raise 274 1 []

/-- A request datagram that is neither discarded nor a repeat runs in pool mailbox `n` (R118, R129). (DEDUCED, log 39) -/
def State.acceptDatagram (s : State) (port n : Nat) (f : Bytes) : State :=
  let ses := fld f 4 4
  let c := fld f 8 8
  let e := s.sesAt ses
  let known := decide (e.state ≠ SessState.closed) && decide (e.transport = 1)
  let s := if known then s.setSes ses fun e => { e with counter := c, request := f, response := [] } else s
  let s := if known then { s with eth := { s.eth with peerPort := Tab.set 0 s.eth.peerPort ses port } } else s
  let s := { s with host := { s.host with ram := memWriteN s.host.ram (mbBase n) (mailboxPart f) } }
  State.drainUnknown 16 (s.ring n .ethernet port c (if datagramKeyless f then 0 else e.key))

/-- A datagram whose form and MAC are right: judged by its COUNTER (R129). (DEDUCED, log 39) -/
def State.judgeDatagram (s : State) (port : Nat) (f : Bytes) : State :=
  let e := s.sesAt (fld f 4 4)
  let c := fld f 8 8
  let seen := decide (e.request ≠ [])
  if seen ∧ c < e.counter then s.dropDatagram
  else if seen ∧ c = e.counter then
    if e.request = f ∧ e.response ≠ [] then
      (({ s with eth := { s.eth with peerPort := Tab.set 0 s.eth.peerPort (fld f 4 4) port } } : State)).sendEth port e.response
    else s
  else match s.freePool with
    | none => s.poolReject port f
    | some n => s.acceptDatagram port n f

/-- MAILBOX_DATAGRAM (R128 to R130): the UDP payload of a datagram to port 47,812. -/
def execMailboxDatagram (port : Nat) (frame : Bytes) (s : State) : Host.Outcome State Fault Refusal :=
  .next (if !s.ethServes port then s
    else if !datagramFormed frame then s.dropDatagram
    else if !datagramKeyless frame && !s.macGood frame then s.dropDatagram
    else s.judgeDatagram port frame)

/-! ### PTP -/

/-- Does the warden run the PTP client on a port (R558)? (DEDUCED, log 42) -/
def State.ptpOn (s : State) (port : Nat) : Bool := s.ethServes port && s.wardenRuns

/-- The key by which the default best-master algorithm orders two Announce messages; the lower is better. (PRESUMED, log 40) -/
def Announce.key (a : Announce) : List Nat := [a.priority1, a.quality, a.priority2, a.identity, a.steps, a.port]

/-- Lexicographic order of two keys. (PRESUMED, log 40) -/
def lessKey : List Nat → List Nat → Bool
  | x :: xs, y :: ys => decide (x < y) || (decide (x = y) && lessKey xs ys)
  | _, _ => false

/-- PTP_ANNOUNCE (R558, R559): the best grandmaster is chosen; one without PTP_TIMESCALE is ignored. -/
def execPtpAnnounce (a : AnnounceMsg) (s : State) : Host.Outcome State Fault Refusal :=
  .next (if !s.ptpOn a.port || !a.timescale then s
    else
      let n : Announce :=
        { port := a.port, priority1 := a.priority1, quality := a.quality, priority2 := a.priority2, identity := a.identity
          steps := a.steps, timescale := a.timescale }
      let same (m : Announce) : Bool := decide (m.identity = n.identity) && decide (m.port = n.port)
      match s.eth.master with
      | none => { s with eth := { s.eth with master := some n, good := 0 } }
      | some m =>
        if same m then { s with eth := { s.eth with master := some n } }
        else if lessKey n.key m.key then
          { s with eth := { s.eth with master := some n, good := 0, syncPending := false, delayPending := false } }
        else s)

/-- Is a message of the chosen grandmaster's port one that the client takes? -/
def State.ptpFrom (s : State) (port : Nat) : Bool :=
  s.ptpOn port && (match s.eth.master with | some m => decide (m.port = port) | none => false)

/-- An offset measurement (R559, R560): above 1 ms it steps the RTC at the next boundary; otherwise the rate is steered, by a
servo the spec does not give. (PRESUMED, log 40) -/
def State.ptpMeasure (s : State) (t1 t2 : Int) : State :=
  let off := t2 - t1 - s.eth.delay
  let good := if off.natAbs ≤ 1000 then min 16 (s.eth.good + 1) else 0
  let state := if (s.eth.rtcState = 0 ∨ s.eth.rtcState = 2) ∧ good = 16 then 1 else s.eth.rtcState
  let e := { s.eth with
    syncT1 := t1, syncT2 := t2, syncPending := false, offset := off, good := good, rtcState := state }
  if 1000000 < off.natAbs then { s with eth := { e with stepDue := some (-off) } }
  else
    let r : Int := (s.fresh .unstated 0 % 1000001 : Nat)
    ({ s with eth := { e with rate := r - 500000 } }).used

/-- PTP_SYNC (R557, R558): `t2` is its receive time, `t1` the origin time of a one-step Sync. -/
def execPtpSync (port : Nat) (twoStep : Bool) (t1 t2 : Int) (s : State) : Host.Outcome State Fault Refusal :=
  .next (if !s.ptpFrom port then s
    else if twoStep then { s with eth := { s.eth with syncT2 := t2, syncPending := true } }
    else s.ptpMeasure t1 t2)

/-- PTP_FOLLOW_UP (R558): the precise origin time of the Sync before. -/
def execPtpFollowUp (port : Nat) (t1 : Int) (s : State) : Host.Outcome State Fault Refusal :=
  .next (if s.ptpFrom port ∧ s.eth.syncPending then s.ptpMeasure t1 s.eth.syncT2 else s)

/-- DELAY_REQ_TIMER (R558): once per second a Delay_Req goes on the grandmaster's port; `t3` is its send time. (DEDUCED, log 41) -/
def execDelayReqTimer (t3 : Int) (s : State) : Host.Outcome State Fault Refusal :=
  .next (match s.eth.master with
    | some m =>
      if s.ptpOn m.port then
        let t := s.send (.eth m.port [0x01, 0x02])
        { t with eth := { t.eth with delayT3 := t3, delayPending := true } }
      else s
    | none => s)

/-- PTP_DELAY_RESP (R558): the end-to-end delay, half of the two legs together. -/
def execPtpDelayResp (port : Nat) (t4 : Int) (s : State) : Host.Outcome State Fault Refusal :=
  .next (if s.ptpFrom port ∧ s.eth.delayPending then
    let e := s.eth
    { s with eth := { e with
        delay := Int.tdiv ((e.syncT2 - e.syncT1) + (t4 - e.delayT3)) 2, delayPending := false } }
    else s)

/-- PTP_HOLDOVER (R559): no Sync from the grandmaster for 10 s; another may be chosen. (PRESUMED, log 40) -/
def execPtpHoldover (s : State) : Host.Outcome State Fault Refusal :=
  .next (if s.eth.rtcState = 1 then
    ({ s with eth := { s.eth with
        rtcState := 2, master := none, good := 0, syncPending := false, delayPending := false } }).raise 278 1 []
    else s)

/-- HOLDOVER_EXPIRY (R559): 24 h of holdover have passed. -/
def execHoldoverExpiry (s : State) : Host.Outcome State Fault Refusal :=
  .next (if s.eth.rtcState = 2 then { s with eth := { s.eth with rtcState := 0 } } else s)

end Sys2Proof.Machine
end

