-- ==== Sys2Proof/Machine/Sluice.lean ====
section
/-! DEFINITION. Meanings of the sluice's commands (chapter 15): partner-link frames, mirror, comparison, challenge,
fitness, claim, takeover, supervisory state, and the orders of group 0x0A. -/
namespace Sys2Proof.Machine

/-! ### Frames and lanes -/

/-- Body of a frame of a TYPE whose LENGTH and CRC check (Table 15-2). -/
def peerBody (ftype : Nat) (f : Bytes) : Option Bytes :=
  let n := fld f 2 2
  if f.length = 12 + n ∧ fld f 0 1 = ftype ∧ fld f (8 + n) 4 = crc32c (f.take (8 + n)) then some (slice f 8 n) else none

/-- A GENERATION or GEN_SEEN received (R411). -/
def State.seeGeneration (s : State) (g : Nat) : State :=
  if later32 g s.sluice.genSeen then { s with sluice := { s.sluice with genSeen := g } } else s

/-- A frame is new: not a later copy with the same TYPE and SEQ (R394). Its SEQ and GENERATION are noted. -/
def State.noteFrame (s : State) (ftype : Nat) (f : Bytes) : State :=
  let s := { s with sluice := { s.sluice with
    rxSeq := Tab.set none s.sluice.rxSeq ftype (some (fld f 1 1)), partnerGen := fld f 4 4 } }
  s.seeGeneration (fld f 4 4)

/-- A frame of a TYPE and length received on a lane that is up acts; any other is dropped. -/
def State.onFrame (s : State) (ftype : Nat) (len : Nat → Bool) (f : Bytes) (go : State → Bytes → State) : State :=
  if s.mode.firmware ∧ s.sluice.linkPowered ∧ s.linkUp = true then
    match peerBody ftype f with
    | none => s
    | some b =>
      if Tab.get none s.sluice.rxSeq ftype = some (fld f 1 1) || !len b.length then s
      else go (s.noteFrame ftype f) b
  else s

/-- A lasting condition begins, or is gone (R487). -/
def State.lasting (s : State) (src : Nat) (b : Bool) (data : Bytes) : State :=
  if b then s.begin_ src 1 data else s.condition src false

/-- Lanes named by PEER.LANES. -/
def State.lanesNamed (s : State) : Nat := b2n (bit s.peerLanes 0) + b2n (bit s.peerLanes 1)

/-- Lanes named and up. -/
def State.lanesGood (s : State) : Nat := b2n (bit s.peerLanes 0 && s.sluice.lane6.up) + b2n (bit s.peerLanes 1 && s.sluice.lane7.up)

/-- The lasting conditions of Table 15-13, sources 0, 1, 5 and 7. -/
def State.judgePeer (s : State) : State :=
  let s := s.lasting 192 (s.peerExpect = 1 && (!s.partner || !s.linkUp)) []
  let s := s.lasting 193 (s.partner && decide (s.lanesGood < s.lanesNamed) && s.linkUp) []
  let s := s.lasting 197 (s.role = 1 && s.sluice.hello && !s.partnerFit) []
  s.lasting 199 (s.role = 2 && s.shadowing && (decide (10 ≤ s.sluice.superLast) || s.sluice.pDesc ≠ s.desc.sequence)) []

/-- Lane 6 or 7 goes through `f`. -/
def State.setPeerLane (s : State) (lane : Nat) (f : PeerLane → PeerLane) : State :=
  if lane = 6 then { s with sluice := { s.sluice with lane6 := f s.sluice.lane6 } }
  else { s with sluice := { s.sluice with lane7 := f s.sluice.lane7 } }

/-- Lane 6 or 7. -/
def State.peerLane (s : State) (lane : Nat) : PeerLane := if lane = 6 then s.sluice.lane6 else s.sluice.lane7

/-- PARTNER_LANE_UP (R395): block lock has held for 100 µs; the lane is up with the next HELLO on it. -/
def execPartnerLaneUp (lane : Nat) (s : State) : Host.Outcome State Fault Refusal :=
  .next (if s.sluice.linkPowered ∧ (lane = 6 ∨ lane = 7) then s.setPeerLane lane fun l => { l with block := true } else s)

/-- PARTNER_LANE_DOWN (R395): block lock lost for 1 µs, or 3 expected frames in a row failed. -/
def execPartnerLaneDown (lane : Nat) (s : State) : Host.Outcome State Fault Refusal :=
  .next (if lane = 6 ∨ lane = 7 then (s.setPeerLane lane fun _ => {}).judgePeer else s)

/-- Send a HELLO on every named lane with block lock (R395, R396). Its reference count is a free value. (DEDUCED, log 54; DEDUCED, log 55) -/
def State.sendHello (s : State) : State :=
  if s.mode.firmware && s.sluice.linkPowered
      && ((bit s.peerLanes 0 && s.sluice.lane6.block) || (bit s.peerLanes 1 && s.sluice.lane7.block)) then
    let b := s.helloBody (s.fresh .unstated 0 % 2 ^ 32)
    let s := (s.used).send (.partner 0x01 (s.peerFrame 0x01 b))
    { s with sluice := { s.sluice with txSeq := Tab.upd 0 s.sluice.txSeq 0x01 fun n => (n + 1) % 256 } }
  else s

/-- HELLO_TIMER (R396): at least every 10 µs. -/
def execHelloTimer (s : State) : Host.Outcome State Fault Refusal := .next s.sendHello

/-- What a HELLO reports is taken (R395, R406, R411). ROLE 1 tells that SLUICE_PEER is high. -/
def State.takeHello (s : State) (b : Bytes) (delay lag : Int) : State :=
  let s := { s with sluice := { s.sluice with
    hello := true, pDie := fld b 0 4, pMode := fld b 4 1, pRole := fld b 5 1, pFit := fld b 6 1, pDesc := fld b 8 4
    pTstamp := fld b 16 4, laneDelay := delay, lagNs := lag, peer := s.sluice.peer || decide (fld b 5 1 = 1)
    partnerLongPress := bit (fld b 6 1) 6 } }
  let s := if s.sluice.pMode = 6 then s else { s with desc := { s.desc with partnerAck := 0 } }
  s.seeGeneration (fld b 12 4)

/-- Has a second passed since the image was last sent again (R148)? -/
def Desc.resendDue (d : Desc) (tides : Nat) : Bool := match d.resentAt with | none => true | some t => decide (t + 1001 ≤ tides)

/-- An active acts on a HELLO of another DESC_SEQUENCE from a partner in Shadow (R148): its image, at most once per second. -/
def State.resendDesc (s : State) : State :=
  if s.role = 1 && s.partnerShadow && s.sluice.pDesc ≠ s.desc.sequence && s.desc.sequence ≠ 0
      && s.desc.partnerAck ≠ s.desc.sequence && s.desc.resendDue s.budget.tides then
    let s := { s with desc := { s.desc with resentAt := some s.budget.tides } }
    s.sendDesc (imageOf s.desc.storedValues s.desc.sequence)
  else s

/-- PARTNER_HELLO (R395, R396, R398, R406) on a lane; `delay` and `lag` are the one-way lane delay and the lag behind the active
that the controller measures, ns. -/
def execPartnerHello (lane : Nat) (frame : Bytes) (delay lag : Int) (s : State) : Host.Outcome State Fault Refusal :=
  .next (if s.mode.firmware ∧ s.sluice.linkPowered ∧ (lane = 6 ∨ lane = 7) ∧ (s.peerLane lane).block = true then
    match peerBody 0x01 frame with
    | none => s
    | some b =>
      if b.length ≠ 20 then s
      else
        let s := s.setPeerLane lane fun l => { l with up := true }
        if Tab.get none s.sluice.rxSeq 0x01 = some (fld frame 1 1) then s.judgePeer
        else ((((s.noteFrame 0x01 frame).takeHello b delay lag).judgePeer).resendDesc)
    else s)

/-- PEER_PRESENCE (R34, R390, R618): PEER_PRES_N has gone high (`absent`) or low; domain 17 follows it. -/
def execPeerPresence (absent : Bool) (s : State) : Host.Outcome State Fault Refusal :=
  .next (
    let s := { s with sluice := { s.sluice with presN := absent } }
    let s := if absent then
        { s with sluice := { s.sluice with hello := false, pFit := 0, pMode := 0, pRole := 0, pDie := 0, pDesc := 0, peer := false } }
      else s
    let s := if s.mode.active then s.powerDomains s.activeDomains else s
    if s.mode.firmware then s.judgePeer else s)

/-! ### The mirror -/

/-- Does a cluster receive no correction (R402)? -/
def State.uncorrected (s : State) (cl : Nat) : Bool := bit s.sluice.doubted cl

/-- The corrections of a MIRROR body `m` against own words `own` (R399), without the clusters of `skip`. (DEDUCED, log 55) -/
def State.takeMirror (s : State) (m : Bytes) (own : Nat → ChanLatch) (ownOut : Nat → OutLatch) (skip : Nat → Bool) : State :=
  let s := s.each (upto 128) fun s k =>
    let a := ChanLatch.ofBytes (slice m (0x27 + 24 * k) 24)
    let w := own k
    let s := s.setChan k fun c =>
      let fresh := decide (a.chState = 1) || (decide (a.chState = 2) && c.mirState ≠ 2 && c.mirState ≠ 3)
      { c with mirState := a.chState, state := if fresh && decide (c.state = .forcedOff) then .notOwned else c.state }
    if a.chState = 4 || (s.chanAt k).state = .forcedOff || skip (quadrant k) then s
    else
      let f : ChanFix := { ist := a.ist - w.ist, dst := a.dst - w.dst, u := a.u - w.u, share := a.share - w.share, ibar := a.ibar
                           chState := a.chState }
      { s with sluice := { s.sluice with fix := Tab.set none s.sluice.fix k (some f) } }
  s.each (upto 128) fun s k =>
    let a := OutLatch.ofBytes (slice m (0xC27 + 26 * k) 26)
    let w := ownOut k
    let starts := decide (a.state = 2) && !(s.outAt k).live
    let s := s.setOut k fun o =>
      { o with state := a.state, comp := if starts then { o.comp with first := true } else o.comp }
    if skip (quadrant (s.lead k)) then s
    else
      let f : OutLatch := { x := a.x - w.x, v := a.v - w.v, a := a.a - w.a, profile := a.profile, state := a.state }
      { s with sluice := { s.sluice with fixOut := Tab.set none s.sluice.fixOut k (some f) } }

/-- The extended epoch nearest to the own one whose low half is `e` (R398, R430). (DEDUCED, log 55) -/
def State.nearEpoch (s : State) (e : Nat) : Nat :=
  let hi := s.clocks.epochHi
  let far (x : Nat) : Nat := if x ≤ s.ext then s.ext - x else x - s.ext
  let c := [hi - 1, hi, hi + 1].map fun h => h * 2 ^ 32 + e
  c.foldl (fun a b => if far b < far a then b else a) (hi * 2 ^ 32 + e)

/-- A standby takes its active's epoch (R398, R430): where its own was later, it discards the snapshots not earlier than the
adopted one, with a record. -/
def State.adoptEpoch (s : State) (e : Nat) : State :=
  let x := s.nearEpoch e
  if x = s.ext then s
  else
    let gone := s.ledger.snaps.filter fun p => decide (x ≤ p.epoch)
    let s := if x < s.ext ∧ gone ≠ [] then
        let s := { s with ledger := { s.ledger with snaps := s.ledger.snaps.filter fun p => decide (p.epoch < x) } }
        s.record 0x14 2 (leBytes 4 ((gone.map (·.epoch)).foldl min (2 ^ 64) % 2 ^ 32) ++ [byte gone.length])
      else s
    { s with clocks := { s.clocks with epoch := x % 2 ^ 32, epochHi := x / 2 ^ 32 } }

/-- The counts of the quadrants at a strobe of the active, against the own ones at the same strobe (R398). -/
def State.takeQref (s : State) (m : Bytes) : State :=
  { s with sluice := { s.sluice with
      qDelta := (upto 4).map fun q => ((fld m (7 + 8 * q) 8 : Int) - (s.sluice.qCounts.getD q 0 : Nat)) } }

/-- The standby's injection on an output ends with the active's (R227): a cycle in which the own duty of the lead included it
and the active's did not (INJECT of Table 15-7). (DESIGN CHOICE, log 69) -/
def State.endInjection (s : State) : State :=
  s.each ((s.out.filter fun e => e.2.ident.inj).map (·.1)) fun s k =>
    let c := s.chanAt (s.lead k)
    if bit c.wordS 30 && !bit c.wordA 30 then
      s.setOut k fun o => { o with ident := { o.ident with inj := false, chip := 0 } }
    else s

/-- MIRROR (R397 to R400): the standby takes it; each channel is corrected at its next evaluation. -/
def execMirror (frame : Bytes) (s : State) : Host.Outcome State Fault Refusal :=
  .next (s.onFrame 0x02 (fun n => n = 6439) frame fun s b =>
    if s.role = 2 ∧ s.shadowing = true then
      let own := fun k => Tab.get ({} : ChanLatch) s.sluice.latch k
      let ownOut := fun k => Tab.get ({} : OutLatch) s.sluice.latchOut k
      let s := (s.takeMirror b own ownOut s.uncorrected).takeQref b
      let s := { s with sluice := { s.sluice with
        mirrorAge := 0, mirrorGot := true, mirrorsApplied := s.sluice.mirrorsApplied + 1 } }
      (s.adoptEpoch (fld b 0 4)).sendHello
    else s)

/-- A channel's word over the mirror cycle that ends (Table 15-7). -/
def DutyCycle.word (d : DutyCycle) : Nat :=
  (if d.count = 0 then 0 else d.sum / d.count % 2 ^ 20) + min 127 d.count * 2 ^ 20 + b2n d.cut * 2 ^ 27 + b2n d.off * 2 ^ 28
    + b2n d.rejected * 2 ^ 29 + b2n d.inject * 2 ^ 30 + b2n d.clamp * 2 ^ 31

/-- The next mirror cycle of a channel begins. -/
def State.nextDutyCycle (s : State) (k : Nat) : State :=
  let cut := match s.outputOf k with
    | some j => (s.phases j).any fun c => (s.chanAt c).cutNow || (s.chanAt c).cutPrev
    | none => false
  let off := !s.switches k
  s.setChan k fun c => { c with cyc := { off := off, cut := cut, clamp := c.clamp.isSome } }

/-- A mirror cycle in which a MIRROR or SUMMARY did not arrive (source 2 of Table 15-13). -/
def State.countLost (s : State) : State :=
  let s := if s.sluice.mirrorGot then s
    else ({ s with sluice := { s.sluice with mirrorsLost := (s.sluice.mirrorsLost + 1) % 2 ^ 32 } }).raise 194 1 []
  let s := if s.sluice.summaryGot then s else s.raise 194 1 []
  { s with sluice := { s.sluice with mirrorGot := false, summaryGot := false, mirrorAge := min 0xFFFF (s.sluice.mirrorAge + 200) } }

/-- MIRROR_STROBE (R397, R399, R401): both controllers latch; the active sends MIRROR and SUMMARY. `counts` gives the coarse
counts of the quadrants at the strobe. (DEDUCED, log 29) -/
def execMirrorStrobe (counts : List Nat) (s : State) : Host.Outcome State Fault Refusal :=
  .next (if s.mode.firmware ∧ s.partner ∧ s.clocks.running then
    let s := { s with sluice := { s.sluice with strobe := (s.sluice.strobe + 1) % 50, qCounts := counts } }
    let s := s.latchAll
    let words := (upto 128).map fun k => (s.chanAt k).cyc.word
    let s := if s.token then
        let s := s.each (upto 128) fun s k => s.setChan k fun c => { c with wordA := c.cyc.word }
        let s := s.sendPeer 0x02 (s.mirrorBody fun q => counts.getD q 0)
        s.sendPeer 0x03 ((words.map fun w => leBytes 4 w).flatten)
      else if s.shadowing then
        let s := s.each (upto 128) fun s k => s.setChan k fun c => { c with wordS := c.cyc.word }
        s.countLost
      else s
    s.each (upto 128) State.nextDutyCycle
    else s)

/-! ### Comparison, doubt and challenge -/

/-- Is a channel compared (R401)? -/
def State.compared (s : State) (k : Nat) : Bool :=
  let c := s.chanAt k
  decide (bits c.wordA 26 20 ≠ 0) && decide (bits c.wordS 26 20 ≠ 0) && !bit c.wordA 28 && !bit c.wordS 28
    && (match s.outputOf k with | some j => (s.outAt j).live | none => false)

/-- Do two compared words disagree (R401)? -/
def dutyDisagrees (tol a b : Nat) : Bool :=
  decide (tol * 2 ^ 20 < ((bits a 19 0 : Int) - bits b 19 0).natAbs * 10000)

/-- The run counter of a channel after a compared cycle (R401, R405). (DEDUCED, log 56) -/
def State.countRun (s : State) (k : Nat) : State :=
  if s.compared k && !bit s.sluice.referred (quadrant k) then
    s.setChan k fun c => { c with
      runCounter := if dutyDisagrees s.peerDutyTol c.wordA c.wordS then min 255 (c.runCounter + 1) else 0 }
  else s

/-- Channels whose run counter has reached DOUBT_CYCLES. -/
def State.doubtedChannels (s : State) : List Nat :=
  (upto 128).filter fun k => !bit s.sluice.referred (quadrant k) && decide (s.peerDoubtCycles ≤ (s.chanAt k).runCounter)

/-- Doubt is raised and challenged (R402), unless a challenge is under way. (DESIGN CHOICE, log 92) -/
def State.raiseDoubt (s : State) : State :=
  let l := s.doubtedChannels
  if l ≠ [] ∧ (s.sluice.cmpState = 0 ∨ s.sluice.cmpState = 4) then
    let cls := mapWhere 4 fun q => l.any fun k => decide (quadrant k = q)
    let s := { s with sluice := { s.sluice with
      cmpState := 1, doubted := cls, doubts := (s.sluice.doubts + 1) % 2 ^ 32, tested := 0, passed := 0
      fix := s.sluice.fix.filter fun e => !bit cls (quadrant e.1)
      fixOut := s.sluice.fixOut.filter fun e => !bit cls (quadrant (s.lead e.1)) } }
    let s := s.sendPeer 0x06 ([byte cls, 0, 0, 0] ++ leBytes 16 (listMap l))
    let first (q : Nat) : List Nat := (l.filter fun k => decide (quadrant k = q)).take 1
    (s.each ((upto 4).flatMap first) fun s k => s.capsuleEvent k 6).raise 195 1 [byte cls]
  else s

/-- CMP_STATE once no challenge is under way. -/
def Sluice.watch (x : Sluice) : Sluice := { x with cmpState := if x.referred = 0 then 0 else 4 }

/-- The case of the doubted clusters is referred to the host (R405), and a counter that waited is challenged (R402). (DEDUCED, log 56) -/
def State.refer (s : State) : State :=
  let cls := s.sluice.doubted
  let s := s.each (upto 128) fun s k => if bit cls (quadrant k) then s.setChan k fun c => { c with runCounter := 0 } else s
  let s := { s with sluice := { s.sluice with referred := s.sluice.referred ||| cls, doubted := 0, testing := 0, cmpState := 4 } }
  (s.raise 196 1 [byte cls]).raiseDoubt

/-- PARTNER_SUMMARY (R401, R402). -/
def execPartnerSummary (frame : Bytes) (s : State) : Host.Outcome State Fault Refusal :=
  .next (s.onFrame 0x03 (fun n => n = 512) frame fun s b =>
    if s.role = 2 ∧ s.shadowing = true then
      let s := { s with sluice := { s.sluice with summaryGot := true } }
      let s := s.each (upto 128) fun s k => s.setChan k fun c => { c with wordA := fld b (4 * k) 4 }
      (s.endInjection.each (upto 128) State.countRun).raiseDoubt
    else s)

/-- CHALLENGE (R404, step 2): the active tests the named clusters. -/
def execChallenge (frame : Bytes) (s : State) : Host.Outcome State Fault Refusal :=
  .next (s.onFrame 0x06 (fun n => n = 20) frame fun s b =>
    let cls := fld b 0 1 % 16
    if s.role = 1 ∧ cls ≠ 0 then
      { s with sluice := { s.sluice with cmpState := 2, testing := cls, tested := cls, passed := 0 } }
    else s)

/-- CHALLENGE_TIMEOUT (R404): no RESULT within 200 µs of CHALLENGE. -/
def execChallengeTimeout (s : State) : Host.Outcome State Fault Refusal :=
  .next (if s.role = 2 ∧ s.sluice.cmpState = 1 ∧ s.sluice.tested = 0 then s.refer else s)

/-- RESULT (R404, step 4): on a pass the standby tests the same clusters; on a failure the active yields. -/
def execResult (frame : Bytes) (s : State) : Host.Outcome State Fault Refusal :=
  .next (s.onFrame 0x07 (fun n => n = 4) frame fun s b =>
    let tested := fld b 0 1 % 16
    let passed := fld b 1 1 % 16
    if s.role = 2 ∧ s.sluice.cmpState = 1 then
      if tested &&& passed = tested then
        { s with sluice := { s.sluice with cmpState := 3, testing := s.sluice.doubted, tested := s.sluice.doubted, passed := 0 } }
      else { s with sluice := { s.sluice with tested := tested, passed := passed } }
    else s)

/-- A standby withdraws (R407). -/
def State.withdraw (s : State) : State := { s with sluice := { s.sluice with withdrawn := true } }

/-- The tests of a challenge are complete (R404, steps 2, 3 and 5). -/
def State.challengeTested (s : State) : State :=
  let t := s.sluice.tested
  let p := s.sluice.passed
  let state := s.sluice.cmpState
  let s := s.sendPeer 0x07 [byte t, byte p, 0, 0]
  if state = 2 then
    let s := { s with sluice := s.sluice.watch }
    if p ≠ t ∧ s.canYield = true then s.yield 0x04 (t - (t &&& p)) else s
  else if p = t then s.refer
  else { s with sluice := ({ s.sluice with doubted := 0, withdrawn := true }).watch }

/-- The tests of SLUICE.WITHDRAW ACTION 1 (R407, R418): restored when all four pass, else answered UNCORRECTABLE. -/
def State.restoreTested (s : State) (passed : Nat) : State :=
  let s := { s with sluice := { s.sluice with restoreTests := none } }
  let is (w : Waiting) : Bool := w.what = .withdraw
  if passed = 15 then
    let s := { s with sluice := { s.sluice with withdrawn := false } }
    (s.waiting.filter is).foldl (fun s w => s.finish w.mailbox .ok [byte passed, 0, 0, 0]) s
  else s.finishAll is .uncorrectable

/-- A failed once-per-second test (R403, R407, R415): the active yields, the standby withdraws. -/
def State.selfTestFailed (s : State) (cl : Nat) : State :=
  let s := s.peerEvent 5 [byte (2 ^ cl)]
  if s.canYield then s.yield 0x05 (2 ^ cl)
  else if s.role = 2 then s.withdraw
  else s

/-- KNOWN_ANSWER_TEST (R403, R404, R407, R418): the test of a cluster has ended. -/
def execKnownAnswerTest (cl : Nat) (pass : Bool) (s : State) : Host.Outcome State Fault Refusal :=
  .next (
    let bitCl := if pass then 2 ^ cl else 0
    let s := if bit s.sluice.testing cl then
        let s := { s with sluice := { s.sluice with
          testing := setBit s.sluice.testing cl false, passed := s.sluice.passed ||| bitCl } }
        if s.sluice.testing = 0 then s.challengeTested else s
      else s
    let s := match s.sluice.restoreTests with
      | some (left, passed) =>
        if bit left cl then
          let left := setBit left cl false
          let s := { s with sluice := { s.sluice with restoreTests := some (left, passed ||| bitCl) } }
          if left = 0 then s.restoreTested (passed ||| bitCl) else s
        else s
      | none => s
    if bit s.sluice.selfTest cl then
      let s := { s with sluice := { s.sluice with selfTest := setBit s.sluice.selfTest cl false } }
      if pass then s else s.selfTestFailed cl
    else s)

/-- SELF_TEST_TIMER (R403): every cluster is tested once per second. -/
def execSelfTestTimer (s : State) : Host.Outcome State Fault Refusal :=
  .next (if s.mode.firmware then { s with sluice := { s.sluice with selfTest := 15 } } else s)

/-! ### Reports, descriptions and starts from the partner -/

/-- PARTNER_EVENT (R415). -/
def execPartnerEvent (frame : Bytes) (s : State) : Host.Outcome State Fault Refusal :=
  .next (s.onFrame 0x08 (fun n => n = 16) frame fun s b =>
    let s := { s with sluice := { s.sluice with
      partnerEvents := (s.sluice.partnerEvents + 1) % 2 ^ 32
      partnerLongPress := s.sluice.partnerLongPress || decide (fld b 0 2 = 3) } }
    s.record 0x11 3 b)

/-- DESC (R155): a chunk of the active's image; the standby acknowledges a complete one. -/
def execDesc (frame : Bytes) (s : State) : Host.Outcome State Fault Refusal :=
  .next (s.onFrame 0x09 (fun n => decide (4 < n) && decide (n ≤ 1028)) frame fun s b =>
    if s.role = 2 ∧ s.mode = .shadow then
      let r := s.takeDesc b
      if r.2 then r.1.sendPeer 0x0A [0x09, byte (fld frame 1 1), 0, 0] else r.1
    else s)

/-- SEQ of the last frame of a TYPE sent. -/
def State.lastSent (s : State) (ftype : Nat) : Nat := (Tab.get 0 s.sluice.txSeq ftype + 255) % 256

/-- A commit that waits for the partner goes on to its boundary (R147, R148). -/
def State.commitProceeds (s : State) : State :=
  { s with waiting := s.waiting.map fun w => if w.what = .commitPartner then { w with what := .commitBoundary } else w }

/-- ACK (R147, R148): the partner acknowledges the image whose last frame it names. -/
def execAck (frame : Bytes) (s : State) : Host.Outcome State Fault Refusal :=
  .next (s.onFrame 0x0A (fun n => n = 4) frame fun s b =>
    if s.role = 1 ∧ fld b 0 1 = 0x09 ∧ fld b 1 1 = s.lastSent 0x09 then
      let seq := if s.desc.committing then s.desc.capturedSeq else s.desc.sequence
      ({ s with desc := { s.desc with partnerAck := seq } }).commitProceeds
    else s)

/-- COMMIT_ACK_TIMEOUT (R148): 500 ms after the first DESC frame. -/
def execCommitAckTimeout (s : State) : Host.Outcome State Fault Refusal :=
  .next (if s.waiting.any fun w => w.what = .commitPartner then (s.commitProceeds).raise 199 1 [] else s)

/-- IDSTART (R227): the standby injects the same sequence from START_TSTAMP, a count of the active's quadrant that the QREF of
the last MIRROR maps to its own (R398). The frame does not carry the amplitude: a free value. -/
def execIdstart (frame : Bytes) (s : State) : Host.Outcome State Fault Refusal :=
  .next (s.onFrame 0x0B (fun n => n = 8) frame fun s b =>
    let k := fld b 0 1
    if s.role = 2 ∧ s.shadowing = true ∧ k < 128 then
      let a := s.fresh .unstated 0 % 4097
      let t := ((fld b 4 4 : Int) - s.sluice.qDelta.getD (quadrant (s.lead k)) 0) % (2 ^ 32 : Int)
      (s.used).setOut k fun o =>
        { o with ident := { o.ident with lfsr := fld b 2 2, startAt := some t.toNat, inj := false, chip := 0, evals := 0, ampl := a } }
    else s)

/-! ### Supervisory state (R413) -/

/-- Items of an output. -/
def State.superOut (s : State) (k : Nat) : List SuperItem :=
  let o := s.outAt k
  [.cap k o.cap, .sequence k o.wanted o.triesLeft (s.budget.tides - o.stopTide) o.goodTides o.held]
  ++ (if o.ident.applied = 0 then [] else [.applied k o.ident.applied o.ident.appliedEpoch])
  ++ (if o.ident.proposal then [.proposal k o.ident.quality o.ident.g o.ident.mGm o.ident.gtp o.ident.gtn] else [])

/-- Items of a polder. -/
def State.superPolder (s : State) (q : Nat) : List SuperItem :=
  let p := s.polderAt q
  .polder q p.causes p.shedTaken p.loadBefore p.okTides :: (upto 4).map fun c => .share c q (Tab.get 0 (s.clusterAt c).share q)

/-- Items of a rectifier. -/
def State.superRect (s : State) (k : Nat) : SuperItem :=
  let r := s.rectAt k
  .rect k r.rank r.withdrawn (decide (r.state = 2)) r.trimL r.onlineS r.eff r.samples

/-- Item of a node. -/
def State.superNode (s : State) (k : Nat) : SuperItem :=
  let n := s.nodeAt k
  .node k n.state n.cls n.slot n.share n.map n.moduleId n.ks n.sleeper n.txErr n.missRun

/-- Filter words of a string: s, v_A, v_B and P by rows. -/
def BString.f64s (b : BString) : List F64 :=
  [b.s, b.vA, b.vB, b.p.ss, b.p.sa, b.p.sb, b.p.as, b.p.aa, b.p.ab, b.p.bs, b.p.ba, b.p.bb]

/-- Items of a string (R386). -/
def State.superString (s : State) (k : Nat) : List SuperItem :=
  let b := s.stringAt k
  [.string k b.state b.f64s b.qRem b.full b.rserEst b.jumpCount b.lastJump b.jumpEpoch,
   .probe k b.probeState b.probeReason (b.probePoints.map fun p => (p.n, p.re, p.im, p.quality, p.iAmpl))]

/-- The fields a proposal writes (R232): GTP of the lead, and GTN where GT_SPLIT is 1. -/
def State.proposalFields (s : State) (k : Nat) : List (Nat × Int) :=
  let i := (s.outAt k).ident
  let lead := s.lead k
  let word (l : List Nat) (n : Nat) : Int := packWords ((upto 4).map fun j => l.getD (4 * n + j) 0)
  ((upto 16).map fun n => (fieldKey 1 lead (0x40 + n), word i.gtp n))
    ++ (if s.chGtSplit lead = 1 then (upto 16).map fun n => (fieldKey 1 lead (0x50 + n), word i.gtn n) else [])

/-- The fields in force once the proposals announced for the next boundary are applied (R232). -/
def State.announcedValues (s : State) : Tab (Option Int) :=
  (s.enabledOuts.filter fun k => (s.outAt k).ident.announced && decide ((s.outAt k).ident.applyDue ≠ 0)).foldl
    (fun t k => applyEntries t (s.proposalFields k)) s.desc.committed

/-- Items of the live fields: every field in force from the next boundary on that differs from the stored description. -/
def State.superFields (s : State) : List SuperItem :=
  let v := s.announcedValues
  (changedKeys v s.desc.storedValues).map fun k => .field k (valueIn v k)

/-- The supervisory state of the epoch that ends (Table 15-14). Without K_root the Tideline section is empty. -/
def State.superItems (s : State) (epoch : Nat) : List SuperItem :=
  let b := s.budget
  [.header epoch s.sluice.generation s.desc.sequence s.modeCode, .limit b.limit b.limitSource,
   .deficits b.deficitTides b.awaitShed b.sinceClear b.sinceRuntimeClear b.clearing,
   .ride b.rtActive b.rtTides b.lastPrediction b.predictionEpoch b.predictAt, .pins b.shedPins,
   .plan s.plan.adj s.plan.parkTides s.plan.sincePark s.plan.rotationTides s.plan.stagingTides s.plan.swapWait s.plan.rotation
     s.plan.swapIn]
  ++ (upto 4).map (fun c => .releases c (s.clusterAt c).clampReleased)
  ++ (s.enabledOuts.map s.superOut).flatten ++ (s.enabledPolders.map s.superPolder).flatten ++ s.enabledRects.map s.superRect
  ++ (if s.tide.rootInstalled then .groupKey s.tide.kg :: (s.tide.nodes.map fun e => s.superNode e.1) else [])
  ++ (s.enabledStrings.map s.superString).flatten ++ s.superFields

/-- The 64 SUPER chunks of an epoch are sent (R413). (DEDUCED, log 25) -/
def State.sendSuper (s : State) (epoch : Nat) : State :=
  if s.role = 1 ∧ s.linkUp = true then
    let items := s.superItems epoch
    (upto 64).foldl (fun s i => s.sendPeer 0x04 (leBytes 4 epoch ++ [byte i, 0, 0, 0]
      ++ (countFrom 1024 (1024 * i)).map fun o => byte (Config.superByte items o))) s
  else s

/-- SUPER (R413): a chunk of the supervisory state; `content` is what its DATA states. (DEDUCED, log 25) -/
def execSuper (frame : Bytes) (content : List SuperItem) (s : State) : Host.Outcome State Fault Refusal :=
  .next (s.onFrame 0x04 (fun n => n = 1032) frame fun s b =>
    let e := fld b 0 4
    let i := fld b 4 1
    if s.role = 2 ∧ s.shadowing = true ∧ i < 64 then
      let x := if s.sluice.superEpoch = e then s.sluice
        else { s.sluice with superEpoch := e, superGot := [], superData := [] }
      if Tab.get false x.superGot i then s
      else { s with sluice := { x with superGot := Tab.set false x.superGot i true, superData := x.superData ++ content } }
    else s)

/-- Polder item applied. -/
def Polder.mirrored (p : Polder) (causes : Nat) (taken : Bool) (before : Int) (ok : Nat) : Polder :=
  { p with causes := causes, shedTaken := taken, loadBefore := before, okTides := ok }

/-- The clamp releases of the active (R283): a polder's clamp that it has released is released here. -/
def State.mirrorReleases (s : State) (cl map : Nat) : State :=
  (mapList 32 (s.clusterAt cl).clamped).foldl (fun s q => if bit map q then s.releaseClamp cl q else s) s

/-- A string's filter from its words (R386). -/
def BString.withF64s (b : BString) (w : List F64) : BString :=
  let g := fun i => w.getD i {}
  { b with
    s := g 0, vA := g 1, vB := g 2
    p := { ss := g 3, sa := g 4, sb := g 5, as := g 6, aa := g 7, ab := g 8, bs := g 9, ba := g 10, bb := g 11 } }

/-- One item of a set applied by the standby (R302, R386, R413, R414). -/
def State.applySuperItem (s : State) (i : SuperItem) : State :=
  match i with
  | .header _ _ _ _ => s
  | .cap k ma => s.setOut k fun o => { o with cap := ma }
  | .releases cl map => s.mirrorReleases cl map
  | .share cl q mw => s.setCluster cl fun c => { c with share := Tab.set 0 c.share q mw }
  | .limit mw src => { s with budget := { s.budget with limit := mw, limitSource := src } }
  | .polder q causes taken before ok => s.setPolder q fun p => p.mirrored causes taken before ok
  | .deficits a w b c clearing =>
    { s with budget := { s.budget with
        deficitTides := a, awaitShed := w, sinceClear := b, sinceRuntimeClear := c, clearing := clearing } }
  | .ride on t p e n =>
    { s with budget := { s.budget with rtActive := on, rtTides := t, lastPrediction := p, predictionEpoch := e, predictAt := n } }
  | .pins m => { s with budget := { s.budget with shedPins := m } }
  | .sequence k w tries since good held =>
    let t := s.budget.tides
    s.setOut k fun o => { o with wanted := w, triesLeft := tries, stopTide := t - since, goodTides := good, held := held }
  | .plan adj a b c d w r i =>
    { s with plan := { s.plan with
        adj := adj, parkTides := a, sincePark := b, rotationTides := c, stagingTides := d, swapWait := w, rotation := r, swapIn := i } }
  | .rect k rank wd parked trimL onlineS eff samples =>
    s.setRect k fun r =>
      { r with
        rank := rank, withdrawn := wd, trimL := trimL, onlineS := onlineS, eff := eff, samples := samples
        state := if wd then 6 else if parked then 2 else r.state }
  | .node k st cls slot share map modId ks sl te mr =>
    if s.tide.rootInstalled then
      s.setNode k fun n =>
        { n with
          state := st, cls := cls, slot := slot, share := share, map := map, moduleId := modId, ks := ks, sleeper := sl
          txErr := te, missRun := mr }
    else s
  | .groupKey kg => if s.tide.rootInstalled then { s with tide := { s.tide with kg := kg } } else s
  | .string k st w q full rser jumps last je =>
    s.setString k fun b =>
      { b.withF64s w with
        state := st, insertPending := b.insertPending && decide (st = 1), firstCycle := false, qRem := q, full := full, rserEst := rser, jumpCount := jumps, lastJump := last, jumpEpoch := je }
  | .field _ _ => s
  | .applied k how e => s.setOut k fun o => { o with ident := { o.ident with applied := how, appliedEpoch := e } }
  | .proposal k ql g m p n =>
    s.setOut k fun o => { o with ident := { o.ident with
      proposal := true, quality := ql, g := g, mGm := m, gtp := p, gtn := n } }
  | .probe k st r pts =>
    s.setString k fun b =>
      { b with
        probeState := st, probeReason := r
        probePoints := pts.map fun p => { n := p.1, re := p.2.1, im := p.2.2.1, quality := p.2.2.2.1, iAmpl := p.2.2.2.2 } }

/-- The live field values of a set: the stored description with them applied (R413). -/
def State.applySuperFields (s : State) (l : List SuperItem) : State :=
  let new := l.foldl (fun t i => match i with | .field k v => putValue t k v | _ => t) s.desc.storedValues
  if s.desc.committed = new then s else s.changeDescription new fun _ => false

/-- The standby at a tide boundary (R413): a complete set is applied, an incomplete one discarded and reported. -/
def State.superTide (s : State) : State :=
  if s.role = 2 && s.shadowing then
    let x := s.sluice
    let s := { s with sluice := { x with superGot := [], superData := [], superLast := min 10 (x.superLast + 1) } }
    let s := if x.superGot.length = 64 then
        let s := (x.superData.foldl State.applySuperItem s).applySuperFields x.superData
        { s with sluice := { s.sluice with superLast := 0 } }
      else if x.superGot = [] then s
      else s.peerEvent 7 (leBytes 4 x.superEpoch)
    s.judgePeer
  else s

/-! ### Claim (R393) -/

/-- May SLUICE_OWN be raised after a drop: 10 ms have passed (R392)? -/
def State.mayRaise (s : State) (sinceDropUs : Nat) : Bool :=
  !s.sluice.peer && !s.sluice.own && (!s.sluice.dropped || decide (10000 ≤ sinceDropUs))

/-- CLAIM_RAISE (R392, R393, steps 1 and 2): SLUICE_PEER has been low for 1 µs. `sinceDropUs` is the time since a held token was
dropped. -/
def execClaimRaise (sinceDropUs : Nat) (s : State) : Host.Outcome State Fault Refusal :=
  .next (if s.sluice.claim = .waitLow then
    let s := { s with sluice := { s.sluice with peer := false } }
    if s.mayRaise sinceDropUs then
      { s with sluice := { s.sluice with own := true, dropped := false, claim := .raised } }
    else s
    else s)

/-- The controller takes the token: the generation advances and its record is written (R411). `how`: 0 claim, 1 takeover. -/
def State.takeGeneration (s : State) (how : Nat) : State :=
  let g := (s.gSeen + 1) % 2 ^ 32
  let prev := s.sluice.generation
  let s := { s with sluice := { s.sluice with
    generation := g, genSeen := g, macStopped := false, overlap := false, oldOrders := [], genHeld := decide (how = 0) } }
  let items := leBytes 4 g ++ leBytes 4 prev ++ [byte how]
  if how = 0 then s.recordFor .generation 0x11 1 items else s.record 0x11 1 items

/-- The channels of the controller that holds the token are no longer "not owned". -/
def State.ownChannels (s : State) : State :=
  s.each (upto 128) fun s k => s.setChan k fun c => if c.state = .notOwned then { c with state := .off } else c

/-- Every MODE.SET that waits is answered with the mode reached (R509). -/
def State.answerModeSet (s : State) : State :=
  let is (w : Waiting) : Bool := match w.what with | .modeSet _ => true | _ => false
  (s.waiting.filter is).foldl (fun s w => s.finish w.mailbox .ok (modePayload s.mode)) s

/-- CLAIM_SAMPLE (R393, steps 3 to 5): SLUICE_PEER 200 ns after the raise. (DEDUCED, log 55) -/
def execClaimSample (peerHigh : Bool) (s : State) : Host.Outcome State Fault Refusal :=
  .next (if s.sluice.claim = .raised then
    if peerHigh then
      let n := s.sluice.collisions + 1
      let s := { s with sluice := { s.sluice with
        own := false, peer := true, claim := .backoff, collisions := n, nibble := (s.sluice.nibble + 1) % 8 } }
      if n = 8 then s.raise 198 1 [] else s
    else
      let trigger := if s.sluice.claimAuto then 7 else 0
      let s := { s with sluice := { s.sluice with claim := .none, claimAuto := false } }
      ((((s.takeGeneration 0).ownChannels).setMode .run trigger 0xFFFF).irqGen).answerModeSet
    else s)

/-- The backoff of the present collision in µs (R393, step 5): 10 µs × (1 + n), n the 4-bit group of DIE_ID whose turn it is. -/
def State.backoffUs (s : State) : Nat := 10 * (1 + s.dieId / 16 ^ ((s.sluice.nibble + 7) % 8) % 16)

/-- CLAIM_BACKOFF_END (R393, step 5), `waitedUs` after the drop: back to step 1. -/
def execClaimBackoffEnd (s : State) (waitedUs : Nat := 0) : Host.Outcome State Fault Refusal :=
  .next (if s.sluice.claim = .backoff ∧ s.backoffUs ≤ waitedUs then { s with sluice := { s.sluice with claim := .waitLow } } else s)

/-- CLAIM_TIMEOUT (R393): SLUICE_PEER high at step 1 for 1 ms; the controller enters Shadow. (DEDUCED, log 55) -/
def execClaimTimeout (s : State) : Host.Outcome State Fault Refusal :=
  .next (if s.sluice.claim = .waitLow then
    let trigger := if s.sluice.claimAuto then 7 else 0
    let s := { s with sluice := { s.sluice with claim := .none, claimAuto := false, peer := true } }
    (s.setMode .shadow trigger 0xFFFF).answerModeSet
    else s)

/-! ### Handover and takeover -/

/-- HANDOVER (R399, R408): received by the standby; its corrections stand for the next evaluations, but for the clusters of
NO_APPLY and those under doubt. (DEDUCED, log 55) -/
def execHandover (frame : Bytes) (s : State) : Host.Outcome State Fault Refusal :=
  .next (s.onFrame 0x05 (fun n => n = 6443) frame fun s b =>
    if s.role = 2 ∧ s.shadowing = true then
      let skip := fun cl => s.uncorrected cl || bit (fld b 1 1) cl
      let s := s.takeMirror (b.drop 4) s.latchChan s.latchOut skip
      { s with sluice := { s.sluice with handover := some (fld b 0 1, fld b 1 1), mirrorAge := 0, mirrorGot := true } }
    else s)

/-- A channel of the new active (R408, step 4): driven where its output runs, but for one that its own comparators or FLT_N have
forced off (R190), else low as the old active reported it. -/
def State.takeChannel (s : State) (k : Nat) : State :=
  let live := match s.outputOf k with | some j => (s.outAt j).driven && (s.outAt j).state ≠ 1 | none => false
  s.setChan k fun c =>
    if live = true ∧ (c.mirState = 2 ∨ c.mirState = 3) then
      if c.state = .forcedOff then c.low .forcedOff else { c.low .switching with pen := true }
    else if c.mirState = 5 then c.low .lockedOut
    else if c.mirState = 4 then c.low .forcedOff
    else c.low .off

/-- The sequencer of the new active takes an output on from its mirrored state; a shorted high-side test in progress has
ended (R192, R409). -/
def State.takeOutput (s : State) (k : Nat) : State :=
  let test := (s.phases k).any fun c => (s.chanAt c).mirState = 1
  let moving := (s.outAt k).prof.state ≠ .idle && (s.outAt k).prof.state ≠ .arrived
  s.setOut k fun o =>
    match o.state with
    | 1 => { o with phase := .waiting }
    | 2 => if test then { o with state := 1, phase := .waiting } else { o with phase := .rising, inHold := false, holdUs := 0 }
    | 3 => { o with phase := .none }
    | 7 => { o with phase := .stopPending }
    | 5 => { o with phase := if moving then .stopPending else .none }
    | _ => { o with phase := .none }

/-- The standby takes over (R408 to R411); a quadrant whose cluster or analog is held in reset stays off, its outputs stopped (R27). -/
def State.takeOver (s : State) : State :=
  let cause := match s.sluice.handover with | some h => h.1 | none => 0
  let age := s.sluice.mirrorAge
  let unaligned := s.sluice.handover.isNone && !s.mirrorFresh
  let s := s.each s.enabledOuts State.takeOutput
  let s := { s with sluice := { s.sluice with own := true, dropped := false } }
  let s := s.each (upto 128) State.takeChannel
  let s := s.each ((upto 4).filter s.quadrantHeld) State.quadrantOff
  let s := s.each (s.enabledOuts.filter fun k =>
    (s.outAt k).live && (s.phases k).any fun c => decide ((s.chanAt c).state = .forcedOff)) State.phaseForced
  let s := s.takeGeneration 1
  let s := s.record 0x11 2 ([byte cause, byte (b2n unaligned)] ++ leBytes 2 age ++ leBytes 4 s.sluice.generation)
  let s := { s with sluice := { s.sluice with
    handover := none, takeovers := (s.sluice.takeovers + 1) % 2 ^ 32, lastCause := cause, handoverEpoch := s.clocks.epoch
    cmpState := 0, doubted := 0, referred := 0, testing := 0, tookOver := true } }
  let s := s.each (upto 128) fun s k => s.setChan k fun c => { c with runCounter := 0 }
  let s := { s with power := { s.power with serviceSession := 0 } }
  ((s.setMode .run 1 0xFFFF).irqGen).settle

/-- SLUICE_PEER_FALL (R408, R410): a fit standby takes the token, unless its partner reported a long press; a lockout of R392 holds
it back. In a mode without that row the trigger is recorded (R35). -/
def execSluicePeerFall (sinceDropUs : Nat) (s : State) : Host.Outcome State Fault Refusal :=
  .next (
    let s := { s with sluice := { s.sluice with peer := false } }
    if s.role = 2 && s.fit && !s.sluice.partnerLongPress && s.mayRaise sinceDropUs then s.takeOver
    else
      let s := if s.role = 2 && !s.shadowing then s.triggerIgnored 6 else s
      { s with sluice := { s.sluice with handover := none } })

/-- TOKEN_CONFLICT (R416): both SLUICE_OWN are high outside a claim; the controller that is not in Run drops. (DEDUCED, log 55) -/
def execTokenConflict (s : State) : Host.Outcome State Fault Refusal :=
  .next (if s.sluice.own ∧ s.sluice.claim = .none ∧ s.mode.firmware then
    let s := { s with sluice := { s.sluice with peer := true } }
    let s := if s.running then s else s.dropToken
    s.raise 198 1 []
    else s)

/-- An order accepted before a yield is answered STALE_GENERATION with the new generation, its effect discarded (R412). (DEDUCED, log 56) -/
def State.staleOrder (s : State) (g n : Nat) : State :=
  let mine := s.sluice.generation
  let s := { s with
    host := { s.host with orders := s.host.orders.filter (· ≠ n) }
    sluice := { s.sluice with generation := g } }
  let s := (s.unwait n).respond n .staleGeneration [] s.clocks.epoch
  { s with sluice := { s.sluice with generation := mine } }

/-- OVERLAP_CUTOFF (R412): H + 3 ms. (DEDUCED, log 56) -/
def execOverlapCutoff (s : State) : Host.Outcome State Fault Refusal :=
  .next (if s.sluice.overlap then
    let mine := s.sluice.generation
    let g := if later32 s.sluice.genSeen mine then s.sluice.genSeen else (s.gSeen + 1) % 2 ^ 32
    let late := s.sluice.oldOrders.filter fun n => s.host.orders.contains n || (s.waitingOn n).isSome
    let s := late.foldl (fun s n => s.staleOrder g n) s
    { s with sluice := { s.sluice with overlap := false, oldOrders := [], macStopped := true } }
    else s)

/-! ### Orders of group 0x0A -/

/-- SLUICE.STATUS payload (Table 15-12). -/
def State.sluiceStatus (s : State) : Bytes :=
  let x := s.sluice
  [byte s.role, byte s.fitBits, byte x.cmpState, byte s.peerLanesUp] ++ leBytes 4 x.generation ++ leBytes 4 x.partnerGen
    ++ leBytes 2 x.mirrorAge ++ [byte x.doubted, byte x.referred] ++ leBytes 4 x.mirrorsLost ++ leBytes 4 x.doubts
    ++ leBytes 4 x.takeovers ++ [byte x.lastCause, byte x.pFit, 0, 0] ++ leBytes 4 x.handoverEpoch ++ leBytes 4 x.partnerEvents

/-- SLUICE.STATUS (R418, R419). -/
def execSluiceStatus (mb : Nat) (s : State) : Host.Outcome State Fault Refusal :=
  .next (s.runOrder 0x0A01 mb fun q s =>
    if !q.lay 0 [] then s.refuse q .badArg else s.reply q .ok s.sluiceStatus)

/-- SLUICE.YIELD (R407, R418): answered by the old active under its old generation. -/
def execSluiceYield (mb : Nat) (s : State) : Host.Outcome State Fault Refusal :=
  .next (s.runOrder 0x0A02 mb fun q s =>
    if !s.token then s.refuse q .wrongMode
    else if !q.lay 4 [(0, 4)] then s.refuse q .badArg
    else if !s.partnerFit then s.refuse q .locked
    else
      let g := (s.gSeen + 1) % 2 ^ 32
      (s.yield 0x01 0).reply q .ok (leBytes 4 g))

/-- SLUICE.WITHDRAW (R407, R418): ACTION 1 tests all four clusters first. PASSED of ACTION 0, which tests none, is not
stated: a free value. (DEDUCED, log 54) -/
def execSluiceWithdraw (mb : Nat) (s : State) : Host.Outcome State Fault Refusal :=
  .next (s.runOrder 0x0A03 mb fun q s =>
    let action := q.u 0 1
    if s.sluice.restoreTests.isSome then s.refuse q .busy
    else if !q.lay 4 [(1, 3)] || 1 < action then s.refuse q .badArg
    else if action = 0 then
      let p := s.fresh .unstated 0
      ((s.used).withdraw).reply q .ok [byte p, 0, 0, 0]
    else ({ s with sluice := { s.sluice with restoreTests := some (15, 0) } }).wait q .withdraw)

/-- SLUICE.RESUME (R405, R418). -/
def execSluiceResume (mb : Nat) (s : State) : Host.Outcome State Fault Refusal :=
  .next (s.runOrder 0x0A04 mb fun q s =>
    let cls := q.u 0 1
    if !q.lay 4 [(1, 3)] || 15 < cls then s.refuse q .badArg
    else
      let x := { s.sluice with referred := s.sluice.referred - (s.sluice.referred &&& cls) }
      ({ s with sluice := if x.cmpState = 4 then x.watch else x }).reply q .ok [])

/-- SLUICE.COMPARE (R401, R418). -/
def execSluiceCompare (mb : Nat) (s : State) : Host.Outcome State Fault Refusal :=
  .next (s.runOrder 0x0A05 mb fun q s =>
    let p := q.u 0 1
    if !q.lay 4 [(1, 3)] || 3 < p then s.refuse q .badArg
    else s.reply q .ok (((countFrom 32 (32 * p)).map fun k =>
      let c := s.chanAt k
      leBytes 4 c.wordA ++ leBytes 4 c.wordS ++ [byte c.runCounter, 0, 0, 0]).flatten))

end Sys2Proof.Machine
end

