-- ==== Sys2Proof/Machine/Ident.lean ====
section
/-! DEFINITION. Plant identification and gain proposals (R223 to R234). -/
namespace Sys2Proof.Machine

/-- Runs in progress in the cluster of output `k` (R223). -/
def State.unitsUsed (s : State) (k : Nat) : Nat :=
  ((s.outsOfCluster (quadrant (s.lead k))).filter fun j => decide ((s.outAt j).ident.state = 1)).length

/-- May a run be made on output `k` (R223)? -/
def State.identReady (s : State) (k : Nat) : Bool :=
  s.outEnable k = 1 && decide ((s.outAt k).state = 3) && decide ((s.outAt k).prof.state = .arrived)

/-- Does this controller make runs: the token, and Run or Service entered from Run (R223)? -/
def State.identMode (s : State) : Bool := s.token && decide (s.effectiveMode = .run)

/-- START_TSTAMP of a run on output `k`: a count of its quadrant less than one tide ahead of the lead's present period; how far is the
implementation's. (DESIGN CHOICE, log 69) -/
def State.identStart (s : State) (k : Nat) : Nat :=
  ((s.chanAt (s.lead k)).tStart / 32 + 1 + Config.identLead % 1600000) % 2 ^ 32

/-- A run starts: the register seeded, the injection from START_TSTAMP on, and IDSTART to a partner in Shadow (R224, R227). A cluster
clamp in force ends it at once (R226). (DESIGN CHOICE, log 69) -/
def State.startIdent (s : State) (k : Nat) (ampl pm gm large : Nat) (auto : Bool) : State :=
  let t := s.identStart k
  let s := s.setOut k fun o =>
    { o with ident := {
        state := 1, ampl := ampl, pm := pm, gm := gm, gmLarge := large, lfsr := 0x1FF, startAt := some t, auto := auto
        nextRun := o.ident.nextRun, retries := o.ident.retries } }
  let s := if s.partner && s.sluice.pMode = Mode.shadow.code then
      s.sendPeer 0x0B ([byte k, 0] ++ leBytes 2 0x1FF ++ leBytes 4 t)
    else s
  if (s.phases k).any fun c => (s.chanAt c).clamp.isSome then s.identCheck k (some 7) else s

/-- Is an automatic run of output `k` due (R231)? -/
def State.identDue (s : State) (k : Nat) : Bool :=
  let o := s.outAt k
  s.identReady k && decide (s.outTuning k ≠ 0) && decide (o.ident.state ≠ 1)
    && (decide (o.ident.nextRun ≤ o.goodTides)
        || (match o.ident.retryAt with | some t => decide (t ≤ o.goodTides) | none => false))

/-- IDENT_SCHEDULE (R231): a scheduled run or the retry of an aborted one, in ascending output number. -/
def execIdentSchedule (out : Nat) (s : State) : Host.Outcome State Fault Refusal :=
  let first := firstN s.identDue (s.outsOfCluster (quadrant (s.lead out)))
  .next (if s.identMode && s.wardenRuns && decide (first = some out) && decide (s.unitsUsed out < 2) then
    let hourly := decide ((s.outAt out).ident.nextRun ≤ (s.outAt out).goodTides)
    let s := s.setOut out fun o =>
      { o with ident := { o.ident with
          nextRun := if hourly then o.ident.nextRun + 3600000 else o.ident.nextRun
          retries := if hourly then 0 else o.ident.retries } }
    s.startIdent out 512 550 800 400 true
    else s)

/-- Does an open edit stage a gain-table field of a channel (R233)? -/
def State.gainStaged (s : State) (ch : Nat) : Bool :=
  s.desc.edit.isSome && (s.desc.stagedWhole
    || (countFrom 32 0x40).any fun c => s.desc.staged.any fun e => decide (e.1 = fieldKey 1 ch c))

/-- G of R229 from the multiplier `sN` in steps of 1/16,384. -/
def proposalG (sN mid : Nat) : Nat := min 0xFFFF ((2 * (sN * 2 ^ 14) + mid) / (2 * mid))

/-- The 64 entries of a table of 16 words. -/
def gtEntries (words : List Nat) : List Nat := (upto 64).map (gtEntry words)

/-- A table as R229 proposes it. -/
def proposeTable (g mGm : Nat) (old : List Nat) : List Nat := (upto 64).map fun i => proposeEntry g mGm (old.getD i 0) i

/-- Is a complete proposal to be applied automatically (Table 9-2)? -/
def State.autoApplies (s : State) (k : Nat) : Bool :=
  let i := (s.outAt k).ident
  s.outTuning k = 2 && decide (0x2000 ≤ i.g) && decide (i.g ≤ 0x6000) && decide (9000 ≤ i.quality)
    && decide (450 ≤ i.pmNew) && decide ((s.outAt k).state = 3)

/-! ### What a run measures (R225, R228) -/

/-- exp(−2πi × k × n / 511), from the sine of a part of 2,044 of a turn. -/
def turn (k n : Nat) : C64 :=
  let p := 4 * (k * n % 511)
  { re := Config.sin64 (p + 511) 2044, im := (Config.sin64 p 2044).opp }

/-- Bin `k` of the discrete Fourier transform of the averages of 16 sums over the 511 chip positions. -/
def dftBin (sums : Tab Int) (k : Nat) : C64 :=
  (upto 511).foldl (fun a n => a.add (C64.scale (f64 (Tab.get 0 sums n) 16) (turn k n))) { re := f64 0, im := f64 0 }

/-- H_k = −Y_k / U_k (R225). -/
def Ident.stage (i : Ident) (k : Nat) : C64 :=
  let h := (dftBin i.sumE k).div (dftBin i.sumD k)
  { re := h.re.opp, im := h.im.opp }

/-- C_k (R228): the compensator of R204 at a multiplier of 1.0, in duty LSB per error LSB: KP, the integrator with this
evaluation's increment, and the filtered derivative. -/
def Coeffs.response (f : Coeffs) (k : Nat) : C64 :=
  let one : C64 := { re := f64 1, im := f64 0 }
  let z := turn k 1
  let diff := one.add (C64.scale (f64 (-1)) z)
  let a := f64 1 (2 ^ f.dFilt)
  let pole := one.add (C64.scale ((f64 1).sub a).opp z)
  let p := C64.scale (f64 f.kp) one
  let i := (C64.scale (f64 f.ki) one).div diff
  let d := (C64.scale ((f64 f.kd).mul a) diff).div pole
  C64.scale (f64 1 2048) ((p.add i).add d)

/-- The reference loop gain L_k at bins 1 to 255 (R228). -/
def loopGain (f : Coeffs) (i : Ident) : List C64 := (countFrom 255 1).map fun k => (f.response k).mul (i.stage k)

/-- A loop gain as the margin functions take it, times a multiplier in steps of 1/16,384. -/
def gainTimes (l : List C64) (n : Nat) : List (F64 × F64) :=
  l.map fun c => let x := C64.scale (f64 n 16384) c; (x.re, x.im)

/-- The largest number up to `n` that meets a condition. -/
def largest (p : Nat → Bool) : Nat → Option Nat
  | 0 => if p 0 then some 0 else none
  | n + 1 => if p (n + 1) then some (n + 1) else largest p n

/-- The multiplier s in steps of 1/16,384, from 0x0400 to 0xFFFF, none where none meets the margin targets (R228, Table 9-1). -/
def Ident.multiplier (i : Ident) (l : List C64) : Option Nat :=
  largest (fun n => decide (0x0400 ≤ n) && decide ((i.pm : Int) ≤ Config.phaseMargin (gainTimes l n))
    && decide ((i.gm : Int) ≤ Config.gainMargin (gainTimes l n))) 0xFFFF

/-- M_GM (R228). -/
def Ident.gainLimit (i : Ident) (l : List C64) : Nat :=
  (largest (fun n => decide ((i.gmLarge : Int) ≤ Config.gainMargin (gainTimes l n))) 0xFFFF).getD 0

/-- RE and IM of a bin in signed Q16.16 (Table 9-3), none where the quotient is no number that the format holds. -/
def C64.word (c : C64) : Option (Int × Int) :=
  let x := c.re.roundMul 65536
  let y := c.im.roundMul 65536
  let fits (v : Int) : Bool := decide (-(2 ^ 31) ≤ v) && decide (v < 2 ^ 31)
  if c.re.kind = 0 ∧ c.im.kind = 0 ∧ fits x = true ∧ fits y = true then some (x, y) else none

/-- QUALITY (R225): the lowest coherence of the bins from one octave below to one above the crossover; the coherence of a bin is not
a function of the sums that a unit keeps: a free value of the run. (DESIGN CHOICE, log 69) -/
def qualityOf (use fc interval : Nat) : Nat :=
  let f (k : Nat) : Nat := k * 51200000000
  let bins := (countFrom 255 1).filter fun k => decide (fc * 511 * interval ≤ 2 * f k) && decide (f k ≤ 2 * fc * 511 * interval)
  match bins.map fun k => Config.free .ident use k % 10001 with
  | [] => Config.free .ident use 0 % 10001
  | c :: t => t.foldl min c

/-- The results of a run (R225, R228, R229), none of a proposal where no multiplier meets the targets. The crossover and the margins
of a list of loop gains are functions that no rule states in full. (DESIGN CHOICE, log 69) -/
def State.identResult (s : State) (k : Nat) : Ident × Option Nat :=
  let i := (s.outAt k).ident
  let lead := s.lead k
  let h := s.interval lead
  let l := loopGain (s.coef lead) i
  let ref := gainTimes l 16384
  let fc := Config.crossover ref h
  let sN := i.multiplier l
  let new := gainTimes l (sN.getD 0)
  let mGm := i.gainLimit l
  let gtp := gtEntries (s.coef lead).gtp
  let mid := gtp.getD 8 0
  let g := if mid = 0 then s.fresh .ident 300 % 2 ^ 16 else proposalG (sN.getD 0) mid
  let p := proposeTable g mGm gtp
  ({ i with
      state := 2, reason := 0, quality := qualityOf s.freeCount fc h, epoch := s.clocks.epoch, fcRef := fc
      pmRef := Config.phaseMargin ref, gmRef := Config.gainMargin ref, fcNew := Config.crossover new h
      pmNew := Config.phaseMargin new, gmNew := Config.gainMargin new
      g := g, mGm := mGm, applied := 0, gtp := p, bins := (countFrom 255 1).map fun b => (i.stage b).word
      gtn := if (s.coef lead).gtSplit = 1 then proposeTable g mGm (gtEntries (s.coef lead).gtn) else p
      proposal := true }, sN)

/-- IDENT_RUN_END (R225, R228 to R230): after the last evaluation the warden forms the proposal, or ends the run with
reason 0x0B or 0x0C. -/
def execIdentRunEnd (out : Nat) (s : State) : Host.Outcome State Fault Refusal :=
  let i := (s.outAt out).ident
  .next (if i.state = 1 ∧ 8687 ≤ i.evals ∧ s.wardenRuns = true then
    let x := s.identResult out
    let r := x.1
    let s := s.used
    let end_ (reason : Nat) : State :=
      s.setOut out fun o =>
        let x := { o with ident := { o.ident with quality := r.quality, epoch := r.epoch, bins := r.bins } }
        x.abortIdent reason true
    if r.quality < 5000 then end_ 0x0B
    else if x.2.isNone then end_ 0x0C
    else
      let s := s.setOut out fun o => { o with ident := r }
      let s := s.record 0x0F 5 ([byte out, 2] ++ leBytes 2 r.quality ++ leBytes 2 r.g ++ leBytes 2 r.mGm ++ leS 2 r.pmNew
        ++ leS 2 r.gmNew)
      if s.autoApplies out then s.setOut out fun o => { o with ident := { o.ident with applyDue := 2 } } else s
    else s)

/-- An argument of CHAN.IDENT with its default (Table 9-4). -/
def identArg (v d : Nat) : Nat := if v = 0 then d else v

/-- The latest epoch in which a run that starts now can end (Table 9-3): START_TSTAMP lies less than one tide ahead. (DEDUCED, log
69) -/
def State.identEnd (s : State) (k : Nat) : Nat := (s.clocks.epoch + 1 + cdiv (8688 * s.interval (s.lead k)) 51200000) % 2 ^ 32

/-- CHAN.IDENT (R234). (DESIGN CHOICE, log 69) -/
def execChanIdent (mb : Nat) (s : State) : Host.Outcome State Fault Refusal :=
  .next (s.runOrder 0x0402 mb fun q s =>
    let k := q.u 0 1
    let a := identArg (q.u 2 2) 512
    let pm := identArg (q.u 4 2) 550
    let gm := identArg (q.u 6 2) 800
    let large := identArg (q.u 8 2) 400
    let argsOk := q.lay 12 [(1, 1), (10, 2)] && decide (64 ≤ a) && decide (a ≤ 4096) && decide (300 ≤ pm) && decide (pm ≤ 800)
      && decide (300 ≤ gm) && decide (gm ≤ 2000) && decide (100 ≤ large) && decide (large ≤ 2000)
    if !s.identMode then s.refuse q .wrongMode
    else if k < 128 && s.outEnable k = 1 && (decide (2 ≤ s.unitsUsed k) || decide ((s.outAt k).ident.state = 1)) then
      s.refuse q .busy
    else if !argsOk || 127 < k || !s.identReady k then s.refuse q .badArg
    else (s.startIdent k a pm gm large false).reply q .ok (leBytes 4 (s.identEnd k)))

/-- Page 0 of CHAN.IDRESULT (Table 9-5). (DESIGN CHOICE, log 69) -/
def Ident.page0 (i : Ident) : Bytes :=
  [byte i.state, byte i.reason] ++ leBytes 2 i.quality ++ leBytes 4 i.epoch ++ leBytes 4 i.fcRef ++ leS 2 i.pmRef
    ++ leS 2 i.gmRef ++ leBytes 4 i.fcNew ++ leS 2 i.pmNew ++ leS 2 i.gmNew ++ leBytes 2 i.g ++ leBytes 2 i.mGm
    ++ [byte i.applied, 0, 0, 0] ++ ((upto 64).map fun n => leBytes 2 (i.gtp.getD n 0)).flatten
    ++ ((upto 64).map fun n => leBytes 2 (i.gtn.getD n 0)).flatten

/-- RE and IM of bin `b` (Table 9-3); where no run has given a number, they are not stated: free values. -/
def State.binBytes (s : State) (i : Ident) (b : Nat) : Bytes :=
  match (i.bins.getD (b - 1) none) with
  | some (x, y) => leS 4 x ++ leS 4 y
  | none => leBytes 4 (s.fresh .ident (2 * b)) ++ leBytes 4 (s.fresh .ident (2 * b + 1))

/-- CHAN.IDRESULT (R234). -/
def execChanIdresult (mb : Nat) (s : State) : Host.Outcome State Fault Refusal :=
  .next (s.runOrder 0x0403 mb fun q s =>
    let k := q.u 0 1
    let p := q.u 1 1
    if !q.lay 4 [(2, 2)] || 127 < k || 5 < p then s.refuse q .badArg
    else if p = 0 then s.reply q .ok (s.outAt k).ident.page0
    else
      let first := 60 * (p - 1) + 1
      let n := min 60 (256 - first)
      (s.used).reply q .ok ((countFrom n first).map (s.binBytes (s.outAt k).ident)).flatten)

/-- CHAN.APPLY (R230, R232 to R234): the change takes effect at a tide boundary. (DESIGN CHOICE, log 69) -/
def execChanApply (mb : Nat) (s : State) : Host.Outcome State Fault Refusal :=
  .next (s.runOrder 0x0404 mb fun q s =>
    let k := q.u 0 1
    let i := (s.outAt k).ident
    if s.gainStaged (s.lead k) then s.refuse q .busy
    else if !q.lay 4 [(1, 3)] || 127 < k || !i.proposal then s.refuse q .badArg
    else if s.outTuning k = 0 then s.refuse q .locked
    else if i.applied = 3 then s.refuse q .gone
    else
      let s := s.setOut k fun o => { o with ident := { o.ident with applyDue := 1 } }
      s.wait q (.chanApply k))

/-- CHAN.IDABORT (R226, R234). -/
def execChanIdabort (mb : Nat) (s : State) : Host.Outcome State Fault Refusal :=
  .next (s.runOrder 0x0405 mb fun q s =>
    let k := q.u 0 1
    if !q.lay 4 [(1, 3)] || 127 < k then s.refuse q .badArg
    else (s.identCheck k (some 1)).reply q .ok [])

end Sys2Proof.Machine
end

