-- ==== Sys2Proof/Machine/GaugeRows.lean ====
section
/-! DEFINITION. Meanings of the gauge's commands: cycle, hibernation, insertion and removal, impedance probes and the orders
of group 0x09 (R361 to R389). -/
namespace Sys2Proof.Machine

/-! ### The gauge cycle -/

/-- The standby pairs the active's estimates with its own RAW (R386). -/
def State.pairRaws (s : State) : State :=
  s.each (upto 32) fun s k => s.setConv k fun c => { c with cycleRaw := c.tideRaw, cycleClk := c.tideClk }

/-- GAUGE_CYCLE (R361 to R375, R376): at a boundary whose extended epoch is a multiple of 1,000. -/
def execGaugeCycle (s : State) : Host.Outcome State Fault Refusal :=
  .next (if s.mode.active ∧ s.wardenRuns ∧ s.domain 13 ∧ s.clocks.running ∧ s.ext % 1000 = 0 ∧ s.gauge.cycleAt ≠ some s.ext then
    let s := { s with gauge := { s.gauge with
      cycleAt := some s.ext, sinceProbe := s.gauge.sinceProbe + 1, probeRetry := s.gauge.probeRetry - 1 } }
    if s.role = 2 then s.pairRaws
    else
      let s := s.each s.enabledStrings State.cycleString
      let s := s.each s.enabledShunts State.cycleShunt
      let s := { s with gauge := { s.gauge with dip := false } }
      if s.ext % 10000 = 0 then s.checkpoint 0 else s
    else s)

/-! ### Hibernation -/

/-- HIBERNATION_ENTRY (R371), at `rtcNs` on the RTC: every enabled string's comparator has stayed below its threshold for
60 s, which begin anew after a comparator wake and after a probe (R387). -/
def execHibernationEntry (rtcNs : Nat) (s : State) : Host.Outcome State Fault Refusal :=
  .next (if (s.mode = .gaugeWatch ∨ (s.mode.active ∧ s.strHibActive = 1)) ∧ s.domain 13 ∧ s.gauge.probe = none
      ∧ s.gauge.hib = false ∧ s.gauge.idleFrom + 60000000000 ≤ max s.retained.rtcNs (rtcNs % 2 ^ 64) then
    let s := s.rtcRuns rtcNs
    let t := s.retained.rtcNs
    let all := s.mode = .gaugeWatch
    let s := s.each (upto 32) fun s k =>
      let stop := (s.convAt k).running && (all || s.strEnable k = 1)
      s.setConv k fun c => { c with hib := stop }
    { s with
      gauge := { s.gauge with
        hib := true, hibFrom := t
        strings := Tab.mapVals {} (fun _ b =>
          if b.state = 2 ∨ b.state = 3 then { b with state := 4, hibTemp := b.temp, current := 0 } else b) s.gauge.strings } }
    else s)

/-- GAUGE_COMPARATOR_WAKE (R371, R372), at `rtcNs` on the RTC: the comparator of a string has been above its threshold for its
filter time; in Gauge-watch with GAUGE_WAKE_BOOT it is a wake event (R45). -/
def execGaugeComparatorWake (str rtcNs : Nat) (s : State) : Host.Outcome State Fault Refusal :=
  .next (if s.domain 13 ∧ (s.convAt str).running ∧ (s.convAt str).wakeStep ≠ 0 then
    let woken := s.gauge.hib
    let s := s.rtcRuns rtcNs
    let t := s.retained.rtcNs
    let s := { s with gauge := { s.gauge with idleFrom := t } }
    let s := s.wakeGauge t 1600
    if woken = true ∧ s.mode = .gaugeWatch ∧ s.retained.gaugeWakeBoot = true then s.wakeEvent 5 else s
    else s)

/-! ### Insertion and removal -/

/-- A string inserted, removed or over-range during a probe leaves it with reason 0x07 (R384). -/
def State.dropFromProbe (s : State) (k : Nat) : State :=
  match s.gauge.probe with
  | some p =>
    if bit p.strings k && !bit p.dropped k then
      let s := s.setString k fun b => { b with probeReason := 7 }
      { s with gauge := { s.gauge with probe := some { p with dropped := setBit p.dropped k true } } }
    else s
  | none => s

/-- STRING_INSERTION (R374): STRV has stayed above 5 V for 2 s; the estimate is made at the next gauge cycle. -/
def execStringInsertion (str : Nat) (s : State) : Host.Outcome State Fault Refusal :=
  let b := s.stringAt str
  .next (if str < 32 ∧ s.strEnable str = 1 ∧ s.mode.active ∧ s.role ≠ 2 ∧ b.state = 1 ∧ 5000000 < b.lastV then
    (s.setString str fun b => { b with insertPending := true }).dropFromProbe str else s)

/-- STRING_REMOVAL (R375): STRV has stayed below 5 V for 1 s. -/
def execStringRemoval (str : Nat) (s : State) : Host.Outcome State Fault Refusal :=
  let b := s.stringAt str
  .next (if str < 32 ∧ s.strEnable str = 1 ∧ s.mode.active ∧ s.role ≠ 2 ∧ b.state ≠ 0 ∧ b.lastV < 5000000 then
    ((s.dropFromProbe str).removeString str).record 0x0C 4 [byte str] else s)

/-! ### Impedance probes -/

/-- May a probe run (R381)? -/
def State.probeMode (s : State) : Bool := s.identMode && !s.budget.acLoss

/-- A probe starts (R381); hibernating converters wake for it. -/
def State.startProbe (s : State) (strings ampl cycles : Nat) (ns : List Nat) (auto : Bool) : State :=
  let s := s.wakeGauge s.retained.rtcNs 0
  let e := s.clocks.epoch
  let s := s.each (mapList 32 strings) fun s k => s.setString k fun b =>
    { b with probeState := 1, probeReason := 0, probeStart := e, probeEnd := 0, probeTemp := b.temp, probeSoc := b.soc
             probePoints := [] }
  let p : Probe :=
    { strings := strings, ampl := ampl, cycles := cycles, ns := ns, c := 0, auto := auto, lastMean := []
      sum := [], from_ := 0, now := [], periods := [], temps := [], ticks := 0, dropped := 0 }
  { s with gauge := { s.gauge with probe := some p } }

/-- The probe term of a beacon cycle (R382), µV. -/
def State.probeTerm (s : State) (p : Probe) : Int :=
  match p.ns with
  | [] => 0
  | n :: _ => ((f64 (p.ampl * s.shelfBusNominal : Nat) 10000).mul (Config.sin64 p.c n)).round

/-- Does a string's mean current over the period that ends change by more than 20 % of CAPACITY / 1 h (R384)? -/
def State.probeMoved (s : State) (p : Probe) (n : Nat) : Bool :=
  p.members.any fun k => !bit p.dropped k && decide (n < p.c) &&
    decide (s.strCapacity k * 20 < (tdiv (Tab.get 0 p.sum k) n - Tab.get 0 p.lastMean k).natAbs * 100)

/-- The measured window of the present frequency at the start of beacon cycle `c` of it (R383): it begins after the settling period,
takes the mean current of the cycle that ended, and closes a period at its last cycle. -/
def State.probeWindow (s : State) (p : Probe) (n : Nat) : Probe :=
  if p.c = n then { p with from_ := s.scan.total, now := [], periods := [] }
  else if n < p.c ∧ p.c ≤ (p.cycles + 1) * n then
    let t := turnBack (2 * (p.c - 1 - n) + 1) (2 * n)
    let now := p.members.foldl (fun w k =>
      Tab.upd {} w k fun x => { x with i := x.i.add (C64.scale (f64 (s.convAt k).beaconMa) t) }) p.now
    if p.c % n = 0 then
      { p with now := [], periods := p.members.foldl (fun w k => Tab.upd [] w k fun l => l ++ [Tab.get {} now k]) p.periods }
    else { p with now := now }
  else p

/-- TEMP of the probed strings is summed for its mean over the probe (R385). -/
def State.probeTemps (s : State) (p : Probe) : Probe :=
  { p with
    temps := p.members.foldl (fun w k => Tab.upd 0 w k (· + (s.stringAt k).temp)) p.temps, ticks := p.ticks + 1 }

/-- One beacon cycle of a running probe (R382 to R384): the currents of the cycle that ended, the period's end, and the
modulation of the cycle that begins. -/
def State.probeTick (s : State) : State :=
  match s.gauge.probe with
  | none => s
  | some p =>
    match p.ns with
    | [] => s
    | n :: _ =>
      let s := s.each (p.members.filter fun k => (s.convAt k).ovr) State.dropFromProbe
      let p := (s.gauge.probe).getD p
      let term := s.probeTerm p
      let sum := p.members.foldl (fun t k => Tab.upd 0 t k (· + (s.convAt k).beaconMa)) p.sum
      let q := s.probeTemps (s.probeWindow { p with sum := sum } n)
      if p.c ≠ 0 ∧ p.c % n = 0 then
        if s.probeMoved q n then s.endProbe 0x06
        else
          let means := p.members.foldl (fun t k => Tab.set 0 t k (tdiv (Tab.get 0 sum k) n)) []
          { s with
            gauge := { s.gauge with probe := some { q with c := p.c + 1, lastMean := means, sum := [] } }
            tide := { s.tide with probe := term } }
      else
        { s with gauge := { s.gauge with probe := some { q with c := p.c + 1 } }, tide := { s.tide with probe := term } }

/-- Events that end a probe at a boundary (R384). -/
def State.probeGuard (s : State) : State :=
  if s.gauge.probe.isSome then
    if s.budget.acLoss then s.endProbe 0x02
    else if s.plan.short || s.tide.stranger then s.endProbe 0x05
    else s
  else s

/-- Two sums together. -/
def Phasor.plus (a b : Phasor) : Phasor := { i := a.i.add b.i, v := a.v.add b.v, k := a.k + b.k }

/-- V_f / I_f of sums over `m` cycles, in µΩ (R383); none where I_f is zero, no scan lies in the window, or a figure is no number. -/
def Phasor.impedance (a : Phasor) (m : Nat) : Option C64 :=
  let i := C64.scale (f64 2 m) a.i
  let v := C64.scale (f64 2 a.k) a.v
  let z := C64.scale (f64 1000) (v.div i)
  if a.k = 0 ∨ i.abs.isZero = true ∨ z.re.kind ≠ 0 ∨ z.im.kind ≠ 0 then none else some z

/-- The largest deviation of the impedance over one period from `z`, as a part of |Z| (R383). -/
def worstPart (z : C64) (l : List (Option C64)) : Option F64 :=
  l.foldl (fun m p =>
    match m, p with
    | some m, some p =>
      let d := (p.sub z).abs.div z.abs
      some (if m.lt d then d else m)
    | _, _ => none) (if z.abs.isZero then none else some (f64 0))

/-- QUALITY from the largest deviation (R383). -/
def probeQuality (d : F64) : Nat := ((F64.clamp (f64 0) (f64 1) ((f64 1).sub d)).roundMul 10000).toNat

/-- One point of a probed string (R383). A figure whose division has no result is a free value. (DEDUCED, log 65) -/
def State.probePoint (s : State) (p : Probe) (k n : Nat) : State :=
  let l := Tab.get [] p.periods k
  let all := l.foldl Phasor.plus {}
  let m := p.cycles * n
  let v (i : Nat) : Nat := s.fresh .probe (4 * k + i)
  let z := all.impedance m
  let free : C64 := { re := f64 (ofU 32 (v 0)), im := f64 (ofU 32 (v 1)) }
  let w := z.getD free
  let q := match z.bind fun z => worstPart z (l.map fun a => a.impedance n) with
    | some d => probeQuality d
    | none => v 2 % 10001
  let pt : ProbePoint :=
    { n := n, re := satS 32 w.re.round, im := satS 32 w.im.round, quality := q
      iAmpl := satU 16 ((C64.scale (f64 2 (10 * m)) all.i).abs.round).toNat }
  let s := s.setString k fun b => { b with probePoints := b.probePoints ++ [pt] }
  s.record 0x0C 2 ([byte k, 0] ++ leBytes 2 pt.quality ++ leBytes 4 n ++ leS 4 pt.re ++ leS 4 pt.im ++ leS 2 (s.stringAt k).temp)

/-- Mean TEMP of a string over a probe (R385). -/
def Probe.meanTemp (p : Probe) (k : Nat) : Int := tdiv (Tab.get 0 p.temps k) (max p.ticks 1)

/-- The point that gives RSER_EST (R385): the highest frequency at or above 50 Hz with QUALITY at least 9,000. -/
def bestPoint (l : List ProbePoint) : Option ProbePoint :=
  (l.filter fun p => decide (p.n ≤ 200) && decide (9000 ≤ p.quality)).foldl (fun m p =>
    match m with | none => some p | some x => if p.n < x.n then some p else some x) none

/-- The end of a string's probe: complete, with RSER_EST where ADAPT is 1 (R385). -/
def State.probeDone (s : State) (p : Probe) (k : Nat) : State :=
  let e := s.clocks.epoch
  let out := bit p.dropped k
  let b := s.stringAt k
  let kf := tempFactor (s.strResTc k) (tempC (p.meanTemp k))
  let s := s.setString k fun b => { b with probeState := if out then 3 else 2, probeEnd := e, probeTemp := p.meanTemp k }
  match bestPoint b.probePoints with
  | some pt =>
    if s.strAdapt k = 1 ∧ out = false then
      let r := ((f64 pt.re).div kf).round.toNat
      s.setString k fun b => { b with rserEst := r, rserLearned := true }
    else s
  | none => s

/-- PROBE_FREQUENCY_END (R383, R385): the measured periods of the running frequency have ended, the last cycle latched. -/
def execProbeFrequencyEnd (s : State) : Host.Outcome State Fault Refusal :=
  .next (match s.gauge.probe with
    | none => s
    | some p =>
      match p.ns with
      | [] => s
      | n :: rest =>
        if (p.cycles + 1) * n < p.c ∧ s.wardenRuns then
          let s := (s.each (p.members.filter fun k => !bit p.dropped k) fun s k => s.probePoint p k n).used
          if rest.isEmpty then
            let s := s.each p.members fun s k => s.probeDone p k
            { s with gauge := { s.gauge with probe := none, idleFrom := s.retained.rtcNs, sinceProbe := 0 }, tide := { s.tide with probe := 0 } }
          else
            { s with gauge := { s.gauge with
                probe := some { p with ns := rest, c := p.c - (p.cycles + 1) * n, lastMean := [], sum := [], now := [], periods := [] } } }
        else s)

/-- PROBE_SCHEDULE (R385): an automatic probe of every enabled string. -/
def execProbeSchedule (s : State) : Host.Outcome State Fault Refusal :=
  .next (if s.strProbePeriod ≠ 0 ∧ s.strProbePeriod ≤ s.gauge.sinceProbe ∧ s.gauge.probeRetry = 0 ∧ s.gauge.probe = none
      ∧ s.probeMode ∧ s.wardenRuns ∧ s.enabledStrings ≠ [] then
    s.startProbe (listMap s.enabledStrings) s.strProbeAmpl 3 [100, 200, 500, 1000, 2000, 5000, 10000] true else s)

/-! ### Orders -/

/-- One string in GAUGE.STATUS. -/
def View.stringBytes (v : View) (k : Nat) : Bytes :=
  let b := Tab.get ({} : BString) v.strings k
  leBytes 2 b.soc ++ [byte b.conf, byte b.state] ++ leS 4 b.current ++ leBytes 4 b.voltage ++ leBytes 4 b.eAvail

/-- Sum over the strings of a view. -/
def View.sumStrings (v : View) (f : BString → Nat) : Nat := sumN (v.strings.map fun e => f e.2)

/-- CHG_LIM of GAUGE.STATUS (R368), 0 where absent. -/
def View.chargeLimit (v : View) : Nat :=
  let l := (v.strings.map (·.2)).filter (·.limOn)
  if l.any (·.chgLimited) then max 1 (sumN (l.map fun b => if b.chgLimited then b.chgLim else 2000000)) else 0

/-- GAUGE.STATUS (R389), of the last sealed epoch. -/
def execGaugeStatus (mb : Nat) (s : State) : Host.Outcome State Fault Refusal :=
  .next (s.runOrder 0x0901 mb fun q s =>
    let p := q.u 0 1
    if !q.lay 4 [(1, 3)] || 1 < p then s.refuse q .badArg
    else
      let v := s.sealedView
      s.replySealed q ([byte (b2n v.gaugeHib), byte (b2n v.probing), 0, 0] ++ leSat 4 (v.sumStrings (·.eAvail))
        ++ leBytes 4 (v.chargeLimit) ++ leSat 4 (v.sumStrings (·.disLim))
        ++ ((countFrom 16 (16 * p)).map v.stringBytes).flatten))

/-- The frequencies a GAUGE.PROBE names. -/
def Req.probeNs (q : Req) : List Nat := (upto (q.u 7 1)).map fun i => q.u (8 + 4 * i) 4

/-- GAUGE.PROBE (R381, R389): effect at a tide boundary. -/
def execGaugeProbe (mb : Nat) (s : State) : Host.Outcome State Fault Refusal :=
  .next (s.runOrder 0x0902 mb fun q s =>
    let a := q.u 4 2
    let c := q.u 6 1
    let n := q.u 7 1
    let strs := q.u 0 4 &&& listMap s.enabledStrings
    if !s.probeMode then s.refuse q .wrongMode
    else if s.gauge.probe.isSome then s.refuse q .busy
    else if !q.lay (8 + 4 * n) [] || n = 0 || 16 < n || a < 10 || 50 < a || c < 2 || 20 < c || strs = 0
      || q.probeNs.any (fun x => decide (x < 100) || decide (100000 < x)) then s.refuse q .badArg
    else s.wait q (.gaugeProbe strs a c q.probeNs))

/-- Beacon cycles of a probe (R381). -/
def probeCycles (cycles : Nat) (ns : List Nat) : Nat := sumN (ns.map fun n => (cycles + 1) * n)

/-- GAUGE.PROBE takes effect: the response gives the epoch in which it ends. -/
def State.gaugeProbeDone (s : State) (mb strings ampl cycles : Nat) (ns : List Nat) : State :=
  if !s.probeMode then s.finish mb .wrongMode []
  else if s.gauge.probe.isSome then s.finish mb .busy []
  else
    (s.startProbe strings ampl cycles ns false).finish mb .ok
      (leBytes 4 ((s.clocks.epoch + cdiv (probeCycles cycles ns) 10) % 2 ^ 32))

/-- One point of GAUGE.PROBERESULT. -/
def ProbePoint.bytes (p : ProbePoint) : Bytes :=
  leBytes 4 p.n ++ leS 4 p.re ++ leS 4 p.im ++ leBytes 2 p.quality ++ leBytes 2 p.iAmpl

/-- GAUGE.PROBERESULT (R389). -/
def execGaugeProberesult (mb : Nat) (s : State) : Host.Outcome State Fault Refusal :=
  .next (s.runOrder 0x0903 mb fun q s =>
    let k := q.u 0 1
    if !q.lay 4 [(1, 3)] || 31 < k then s.refuse q .badArg
    else
      let b := s.stringAt k
      s.reply q .ok ([byte b.probeState, byte b.probeReason, byte b.probePoints.length, 0] ++ leBytes 4 b.probeStart
        ++ leBytes 4 b.probeEnd ++ leS 2 b.probeTemp ++ leBytes 2 b.probeSoc ++ (b.probePoints.map ProbePoint.bytes).flatten))

/-- GAUGE.ABORT (R384, R389): effect at a tide boundary. -/
def execGaugeAbort (mb : Nat) (s : State) : Host.Outcome State Fault Refusal :=
  .next (s.runOrder 0x0904 mb fun q s => if !q.lay 0 [] then s.refuse q .badArg else s.wait q .gaugeAbort)

/-- GAUGE.WAKE (R372, R389): effect at a tide boundary. -/
def execGaugeWake (mb : Nat) (s : State) : Host.Outcome State Fault Refusal :=
  .next (s.runOrder 0x0905 mb fun q s => if !q.lay 0 [] then s.refuse q .badArg else s.wait q .gaugeWake)

/-- GAUGE.RESEED (R389): effect at a tide boundary. -/
def execGaugeReseed (mb : Nat) (s : State) : Host.Outcome State Fault Refusal :=
  .next (s.runOrder 0x0906 mb fun q s =>
    if !q.lay 8 [(5, 3)] || 2 < q.u 4 1 then s.refuse q .badArg else s.wait q (.gaugeReseed (q.u 0 4) (q.u 4 1)))

/-- GAUGE.RESEED with ACTION 1 on a string: an anchor at full, reported as a jump. -/
def State.markFull (s : State) (k : Nat) : State :=
  let old := s.socNow k
  let full := s.fullOf k
  let s := s.setString k fun b =>
    if s.strTable k = 1 then { b with qRem := full, sigmaT := f64 1 100, sinceFull := some b.cumQ }
    else { b with s := f64 1, p := { b.p with ss := f64 1 10000 } }
  (s.report k).jump k old (s.socNow k) 4

/-- GAUGE.RESEED takes effect on one string that is not absent. (DESIGN CHOICE, log 64) -/
def State.reseedString (s : State) (action k : Nat) : State :=
  if (s.stringAt k).state = 0 then s
  else if action = 0 then s.setString k fun b => { b with insertPending := true }
  else if action = 1 then s.markFull k
  else
    let cap := s.strCapacity k * 1000
    let r := s.strRser k
    s.setString k fun b => { b with full := cap, rserEst := r, rserLearned := false, restS := none }

/-- GAUGE.RESEED takes effect. -/
def State.gaugeReseedDone (s : State) (mb strings action : Nat) : State :=
  (s.each ((mapList 32 strings).filter fun k => s.strEnable k = 1) (fun s k => s.reseedString action k)).finish mb .ok []

end Sys2Proof.Machine
end

