-- ==== Sys2Proof/Machine/Tideline.lean ====
section
/-! DEFINITION. The Tideline MAC (chapter 13): tags, nodes and slots, stranger energy, error counters, the beacon with
its downlinks, scheduled reports, joins, events, alarms, sleepers and the orders of group 0x08. -/
namespace Sys2Proof.Machine

/-! ### Tags, nodes, slots -/

/-- The leftmost 32 bits of a CMAC. -/
def tag32 (key : Nat) (m : Bytes) : Bytes := beBytes 4 (cmac key m / 2 ^ 96)

/-- EPOCH ‖ CYCLE of cycle `i` of the present tide. -/
def State.stampOf (s : State) (i : Nat) : Bytes := leBytes 4 s.clocks.epoch ++ leBytes 2 (cycleNumber s.clocks.epoch i)

/-- The cycle in progress: the last one started in the tide. -/
def State.cycleNow (s : State) : Nat := s.tide.cycle - 1

/-- A TAG under a key with EPOCH and CYCLE (R333). -/
def State.timedTag (s : State) (key : Nat) (m : Bytes) : Bytes := tag32 key ([byte 0x13] ++ s.stampOf s.cycleNow ++ m)

/-- K_J of a module (R335). -/
def joinKey (kRoot moduleId : Nat) : Nat := cmac kRoot ([byte 0x30] ++ leBytes 8 moduleId)

/-- The Tideline block works: powered, not in reset, its tide grid running (R324). -/
def State.tideOn (s : State) : Bool := s.domain 14 && !s.held 10 && s.clocks.running && s.mode.active

/-- Does this controller transmit on Tideline (R324, R340, R498)? An active that has yielded keeps its schedule until its warden
acknowledges the yield, or the overlap is cut off (R412). -/
def State.tideSends (s : State) : Bool :=
  s.tideOn && !s.tide.quiet && s.tide.packetInit && !s.sluice.genHeld && !s.sluice.macStopped
    && (s.token || s.sluice.overlap || (s.mode = .configure && !s.partner))

/-- May a module send in symbol 6 of the present cycle: the beacon left DOWN6 clear and no wide beacon runs (R332, R343)? -/
def State.symbol6Open (s : State) : Bool := !s.tide.wide && !(s.tideSends && bit s.tide.flags 0)

/-- Nodes that hold a slot, rising. -/
def State.slotNodes (s : State) : List Nat := (s.tide.nodes.filter fun e => e.2.state ≠ 0).map (·.1)

/-- The node that holds a slot. -/
def State.nodeOfSlot (s : State) (slot : Nat) : Option Nat := s.slotNodes.find? fun n => decide ((s.nodeAt n).slot = slot)

/-- The lowest slot that no node holds (R325). -/
def State.freeSlot (s : State) : Option Nat := firstN (fun n => (s.nodeOfSlot n).isNone) (upto 100)

/-- The enabled Tideline rectifier a node address names. -/
def State.rectOfNode (s : State) (n : Nat) : Option Nat :=
  firstN (fun k => s.rectEnable k = 1 && s.rectNode k = n) (upto 32)

/-- The enabled string a node address names. -/
def State.stringOfNode (s : State) (n : Nat) : Option Nat :=
  firstN (fun k => s.strEnable k = 1 && s.strNode k = n) (upto 32)

/-- Does the description name a node for a class (R336)? -/
def State.nodeDescribed (s : State) (n cls : Nat) : Bool :=
  decide (1 ≤ n) && decide (n ≤ 126) &&
    ((decide (cls = 0) && (s.rectOfNode n).isSome) || (decide (cls = 1) && (s.stringOfNode n).isSome))

/-- Share index of a node (R329): the index of its rectifier. -/
def State.shareOf (s : State) (n : Nat) : Nat := (s.rectOfNode n).getD 255

/-- The joined node whose share index is `k`. -/
def State.nodeOfShare (s : State) (k : Nat) : Option Nat :=
  s.slotNodes.find? fun n => decide ((s.nodeAt n).share = k) && decide (2 ≤ (s.nodeAt n).state)

/-- A downlink frame of a node is queued; those for a LEAVE go first (R349). -/
def State.queueDown (s : State) (first : Bool) (b : Bytes) (ks : Option Nat) : State :=
  let f : DownFrame := { bytes := b, ks := ks }
  { s with tide := { s.tide with down := if first then f :: s.tide.down else s.tide.down ++ [f] } }

/-- A node leaves Tideline: its slot is free, its object without reports (R335, R370). -/
def State.freeNode (s : State) (n : Nat) : State :=
  let x := s.nodeAt n
  let s := s.setNode n fun _ => {}
  if x.cls = 0 then
    match s.rectOfNode n with
    | some k => s.rectLeave k
    | none => s
  else
    match s.stringOfNode n with
    | some k => s.setString k fun b => { b with modMiss := max 3 b.modMiss }
    | none => s

/-! ### Strangers and counters -/

/-- Stranger energy or a stranger event (R345, R346): `cycles` are those it fell in outside symbol 6. -/
def State.strangerSeen (s : State) (symbols : Nat) (cycles : List Nat) : State :=
  { s with tide := { s.tide with
      stranger := true, strangerTides := 0, strangerSymbols := s.tide.strangerSymbols + symbols
      strangerMap := cycles.foldl (fun m i => setBit m i true) s.tide.strangerMap } }

/-- REC of the controller goes up by one (R338). -/
def State.recUp (s : State) : State := { s with tide := { s.tide with rxErr := min 255 (s.tide.rxErr + 1) } }

/-- A cycle pair ends (R338): SLOT_ACK, and the controller's TEC while it transmits; at 255 it goes quiet (R340). (DEDUCED, log 57) -/
def State.endPair (s : State) : State :=
  let t := s.tide
  let up := decide (4 ≤ t.pairSched) && decide (t.slotNow = 0)
  let tec := if !s.tideSends then t.txErr else if up then min 255 (t.txErr + 8) else if t.slotNow ≠ 0 then t.txErr - 1 else t.txErr
  let s := { s with tide := { t with slotAck := t.slotNow, slotNow := 0, pairSched := 0, txErr := tec } }
  if tec = 255 && !t.quiet && s.tideSends then
    ({ s with tide := { s.tide with quiet := true, quietTide := s.budget.tides } }).begin_ 162 1 []
  else s

/-! ### The beacon -/

/-- Is the join window open (R335, R336, R343)? -/
def State.joinWindow (s : State) : Bool :=
  s.tide.rootInstalled && s.otp.lifecycle ≠ 3 && !s.tide.wide && s.wardenRuns

/-- FLAGS of a beacon (Table 13-4). -/
def State.beaconFlags (s : State) (down : Bool) : Nat :=
  b2n down + 2 * b2n s.tide.stranger + 4 * b2n s.joinWindow
    + 8 * b2n (decide (128 ≤ s.tide.txErr) || decide (128 ≤ s.tide.rxErr)) + 16 * b2n s.tide.wide

/-- ALARM_ACK of a beacon (Table 13-4). -/
def State.alarmAck (s : State) : Nat :=
  listMap (s.tide.ackLeft.map (·.1)) % 2 ^ 16
    + (match s.tide.nodeAck with | some n => n % 128 * 2 ^ 16 + 2 ^ 23 | none => 0)

/-- The entry of share index `k` in the beacon of cycle `i` (R329): zero where no joined rectifier has it, and in
Configure (R324). (DEDUCED, log 59) -/
def State.beaconEntry (s : State) (i k : Nat) : Bytes :=
  match s.nodeOfShare k with
  | none => zeros 8
  | some n =>
    if s.effectiveMode = .configure then zeros 8
    else
      let r := s.rectAt k
      let c := leBytes 2 r.cmdIWord ++ leBytes 2 (toU 16 r.cmdVWord)
      c ++ tag32 (s.nodeAt n).ks
        ([byte 0x11] ++ s.stampOf i ++ leBytes 4 s.sluice.generation ++ [byte k] ++ c)

/-- The 287 bytes of a beacon (Table 13-4). -/
def State.beaconBytes (s : State) (type flags i : Nat) : Bytes :=
  let h := [byte type, byte flags] ++ leBytes 2 (cycleNumber s.clocks.epoch i) ++ leBytes 4 s.clocks.epoch
    ++ leBytes 4 s.sluice.generation ++ leBytes 4 s.alarmAck ++ leBytes 4 s.tide.slotAck ++ zeros 4
    ++ ((upto 32).map (s.beaconEntry i)).flatten
  h ++ leBytes 4 (crc32c h) ++ zeros 3

/-- May this cycle carry a downlink: at most 2 of every 10 (R333)? (DEDUCED, log 57) -/
def State.downAllowed (s : State) : Bool :=
  !s.tide.down.isEmpty && !s.tide.wide && decide ((s.tide.downHist.filter id).length < 2)

/-- The downlink frame of symbol 6, 57 bytes (R333). -/
def State.sendDown (s : State) : State :=
  match s.tide.down with
  | [] => s
  | f :: rest =>
    let b := match f.ks with
      | some k => f.bytes ++ s.timedTag k f.bytes
      | none => f.bytes
    ({ s with tide := { s.tide with down := rest } }).send (.tideline (fld b 0 1) (padTo 57 b))

/-- The beacon of cycle `i` and what the controller puts in its symbol 6 (R323, R333, R343). -/
def State.sendBeacon (s : State) (i : Nat) : State :=
  let down := s.downAllowed
  let flags := s.beaconFlags (down || s.tide.wide)
  let s := ({ s with tide := { s.tide with flags := flags } }).send (.tideline 0x01 (s.beaconBytes 0x01 flags i))
  let s := if s.tide.wide then s.send (.tideline 0x02 (s.beaconBytes 0x02 flags i))
    else if down then s.sendDown else s
  { s with tide := { s.tide with nodeAck := none, downHist := keepNewest 9 down s.tide.downHist } }

/-- What each cycle counts down, whether or not a beacon was sent (R342, R343). -/
def State.countCycle (s : State) : State :=
  { s with tide := { s.tide with
      ackLeft := Tab.mapVals 0 (fun _ n => n - 1) s.tide.ackLeft, wideLeft := s.tide.wideLeft - 1 } }

/-- The energy and the impulse hits the receiver counted in the symbols of cycle `i` (R345, R347). -/
def State.countEnergy (s : State) (i stray stray6 hits : Nat) : State :=
  let s := if stray ≠ 0 ∨ stray6 ≠ 0 then s.strangerSeen (stray + stray6) (if stray ≠ 0 then [i] else []) else s
  { s with tide := { s.tide with impulse := s.tide.impulse + min 8 hits } }

/-- The Tideline side of a beacon strobe. -/
def State.tideCycle (s : State) (i stray stray6 hits : Nat) : State :=
  let s := if i % 2 = 0 then s.endPair else s
  let s := if s.tideSends then s.sendBeacon i
    else { s with tide := { s.tide with downHist := keepNewest 9 false s.tide.downHist } }
  s.countCycle.countEnergy i stray stray6 hits

/-- BEACON_CYCLE_START (R323): the converters are latched, the share engine computes (R311), the beacon is sent. The
operands give RAW of the converters, their over-range flags and CLK at the strobe, and what the receiver counted in the
cycle: stranger symbols outside and in symbol 6, impulse-hit symbols. (DEDUCED, log 59) -/
def execBeaconCycleStart (raws : List Int) (ovr clk stray stray6 hits : Nat) (s : State) :
    Host.Outcome State Fault Refusal :=
  .next (if s.clocks.running ∧ s.tide.cycle < 10 ∧ s.mode.firmware = true then
    let i := s.tide.cycle
    let s := ((s.readRaws raws ovr clk).latchBeacon).probeTick
    let s := { s with tide := { s.tide with cycle := i + 1 } }
    let b := s.busCurrents
    let s := if s.token && s.mode.active && s.effectiveMode ≠ .configure then s.shareEngine b.1 b.2 else s
    if s.tideOn then s.tideCycle i stray stray6 hits else s
  else s)

/-! ### Scheduled reports -/

/-- The report of a node reaches its object (R327, R369). -/
def State.applyReport (s : State) (n kind : Nat) (body : Bytes) : State :=
  if kind = 0x10 then
    match s.rectOfNode n with
    | some k =>
      let st := fld body 14 2
      s.rectReport k (ofU 32 (fld body 0 4)) (fld body 4 4) (ofU 32 (fld body 8 4)) (!bit st 0) (bit st 1) (bit st 2)
    | none => s
  else if kind = 0x11 then
    match s.stringOfNode n with
    | some k => s.batteryReport k body
    | none => s
  else s

/-- The map of a node follows its SNR over the last 100 reports (R322); a change is sent in a MAP frame. -/
def State.takeSnr (s : State) (n : Nat) (snr : Int) : State :=
  let l := keepNewest 100 snr (s.nodeAt n).snr
  let s := s.setNode n fun x => { x with snr := l }
  if l.length < 100 then s
  else
    let m := mapFor (tdiv (sumI l) 100) 7
    let x := s.nodeAt n
    if m = x.map then s
    else (s.setNode n fun x => { x with map := m }).queueDown false [byte 0x24, byte n, byte m] (some x.ks)

/-- The first verified report completes a join (R335, step 5); joins need the warden (R21). -/
def State.joinComplete (s : State) (n : Nat) : State :=
  let x := s.nodeAt n
  let s := s.setNode n fun x => { x with state := 2 }
  let s := s.record 0x13 1 ([byte n, byte x.cls, byte x.slot, byte x.share] ++ leBytes 8 x.moduleId)
  match (if x.cls = 0 then s.rectOfNode n else none) with
  | some k => s.rectJoin k
  | none => s

/-- A verified slot frame of node `n` (R326, R338, R344). -/
def State.slotVerified (s : State) (n : Nat) (f : SlotReport) : State :=
  let x := s.nodeAt n
  let t := s.tide
  let s := { s with tide := { t with slotNow := setBit t.slotNow (slotAckBit x.slot) true, rxErr := t.rxErr - 1 } }
  let s := s.setNode n fun x =>
    { x with
      missRun := 0, stale := false, freeAt := none, txErr := x.txErr - 1, state := if x.state = 1 then 1 else 2
      body := if fld f.frame 0 1 = 0x12 then slice f.frame 4 20 else x.body }
  let s := if x.state = 1 then (if s.wardenRuns then s.joinComplete n else s) else s
  (s.takeSnr n f.snr).applyReport n (fld f.frame 0 1) (f.frame.drop 4)

/-- The report of a joined node is missed (R328, R313). -/
def State.slotMissed (s : State) (n : Nat) : State :=
  let x := s.nodeAt n
  if x.state < 2 then s
  else
    let s := s.setNode n fun x => { x with missRun := x.missRun + 1, stale := true, txErr := min 255 (x.txErr + 8) }
    if x.cls = 0 then
      match s.rectOfNode n with
      | some k => s.rectMissed k
      | none => s
    else
      match s.stringOfNode n with
      | some k => s.batteryMissed k
      | none => s

/-- Is a slot frame laid out as its map says, and is that a map at which the slot is decoded: the one assigned to its node, and
then map 0 (R322, R326)? (DEDUCED, log 59) -/
def State.slotFormed (s : State) (slot : Nat) (f : SlotReport) : Bool :=
  let m := fld f.frame 3 1
  decide (m ≤ 7) && decide (f.frame.length = slotBytes m) && (s.nodeOfSlot slot).all fun n => m = (s.nodeAt n).map || m = 0

/-- Does the TAG of a slot frame of node `n` verify (Table 13-5)? `i` is the first half's cycle. -/
def State.slotTagOk (s : State) (n i : Nat) (f : SlotReport) : Bool :=
  let l := f.frame.length - 4
  decide (fld f.frame 1 1 = n) &&
    decide (tag32 (s.nodeAt n).ks ([byte 0x12] ++ s.stampOf i ++ f.frame.take l) = f.frame.drop l)

/-- A frame decoded in a slot (R326, R345). -/
def State.slotDecoded (s : State) (slot : Nat) (f : SlotReport) : State :=
  let i := 2 * (slotPlace slot).1
  match s.nodeOfSlot slot with
  | some n =>
    if s.slotTagOk n i f then s.slotVerified n f
    else
      let s := (s.slotMissed n).strangerSeen 2 [i, i + 1]
      if 2 ≤ (s.nodeAt n).state then s.raise 166 1 [byte n] else s
  | none => s.strangerSeen 2 [i, i + 1]

/-- SLOT_FRAME (R326): the codeword of a scheduled slot at the end of its second half, decoded or not, with or without
energy above the stranger level. -/
def execSlotFrame (slot : Nat) (frame : Option SlotReport) (energy : Bool) (s : State) :
    Host.Outcome State Fault Refusal :=
  let p := slotPlace slot
  let mine := (s.nodeOfSlot slot).any fun n => decide (2 ≤ (s.nodeAt n).state)
  .next (if slot < 100 ∧ s.tideOn = true ∧ s.cycleNow = 2 * p.1 + 1 then
    let s := if mine then { s with tide := { s.tide with pairSched := s.tide.pairSched + 1 } } else s
    match frame.filter (s.slotFormed slot) with
    | some f => s.slotDecoded slot f
    | none =>
      let s := if energy || frame.isSome then s.recUp else s
      match s.nodeOfSlot slot with
      | some n => s.slotMissed n
      | none => if energy || frame.isSome then s.strangerSeen 2 [2 * p.1, 2 * p.1 + 1] else s
  else s)

/-! ### Joins -/

/-- A JOIN_REQ field by field (Table 13-7). -/
structure JoinReq where
  node : Nat
  cls : Nat
  moduleId : Nat
  nm : Bytes
  droop : Nat
  standalone : Nat
  sleeper : Nat
  deriving DecidableEq, Repr

/-- A JOIN_REQ read from its frame. -/
def joinReqOf (f : Bytes) : JoinReq :=
  { node := fld f 1 1, cls := fld f 2 1, moduleId := fld f 3 8, nm := slice f 11 16, droop := fld f 27 1
    standalone := fld f 28 4, sleeper := fld f 32 1 }

/-- JOIN_NAK and its record (R336). (DEDUCED, log 57) -/
def State.joinNak (s : State) (q : JoinReq) (reason : Nat) : State :=
  let s := s.record 0x13 2 ([byte q.node, byte reason, 0, 0] ++ leBytes 8 q.moduleId)
  s.queueDown false ([byte 0x23, byte q.node] ++ leBytes 8 q.moduleId ++ [byte reason]) none

/-- A JOIN_REQ is accepted with a slot (R335, step 3): NC is drawn, a free value, KS derived, KG wrapped. (DEDUCED, log 58) -/
def State.joinAccept (s : State) (q : JoinReq) (kRoot slot : Nat) : State :=
  let nc := s.fresh .random 0 % 2 ^ 128
  let s := s.used
  let ks := cmac (joinKey kRoot q.moduleId)
    ([byte 0x31] ++ leBytes 8 q.moduleId ++ q.nm ++ beBytes 16 nc)
  let share := if q.cls = 0 then s.shareOf q.node else 255
  let s := s.setNode q.node fun _ =>
    { state := 1, cls := q.cls, slot := slot, share := share, moduleId := q.moduleId, ks := ks, sleeper := q.sleeper ≠ 0
      droop := q.droop, standalone := q.standalone, joinTide := s.budget.tides }
  let b := [byte 0x22, byte q.node] ++ beBytes 16 nc ++ [byte slot, byte share, 0, byte (b2n (q.sleeper ≠ 0))]
    ++ beBytes 24 (keyWrap ks s.tide.kg)
  s.queueDown false (b ++ tag32 ks b) none

/-- A JOIN_REQ whose TAG verified (R335, R336). (DEDUCED, log 57) -/
def State.joinVerified (s : State) (q : JoinReq) (kRoot : Nat) : State :=
  let x := s.nodeAt q.node
  if s.otp.lifecycle = 3 then s.joinNak q 4
  else if !s.nodeDescribed q.node q.cls then s.joinNak q 2
  else if x.state ≠ 0 ∧ x.moduleId ≠ q.moduleId then s.joinNak q 3
  else if x.state ≠ 0 then s.joinAccept q kRoot x.slot
  else match s.freeSlot with
    | some slot => s.joinAccept q kRoot slot
    | none => (s.joinNak q 1).raise 171 1 [byte q.node]

/-- JOIN_REQ (R335): with no installed K_root, or with a TAG that fails, it comes from a stranger. -/
def execJoinReq (frame : Bytes) (s : State) : Host.Outcome State Fault Refusal :=
  .next (if s.tideSends ∧ s.wardenRuns = true ∧ s.symbol6Open = true ∧ frame.length = 57 ∧ fld frame 0 1 = 0x20 then
    match (if s.tide.rootInstalled then s.tide.kRoot else none) with
    | none => s.strangerSeen 1 []
    | some k =>
      let q := joinReqOf frame
      if tag32 (joinKey k q.moduleId) (frame.take 33) = slice frame 33 4 then s.joinVerified q k
      else (s.strangerSeen 1 []).raise 164 1 []
  else s)

/-- JOIN_VOID (R335): 3 tides after JOIN_ACK without a first report. -/
def execJoinVoid (node : Nat) (s : State) : Host.Outcome State Fault Refusal :=
  let x := s.nodeAt node
  .next (if x.state = 1 ∧ x.joinTide + 3 ≤ s.budget.tides then s.freeNode node else s)

/-! ### Events and alarms -/

/-- Does the TAG of `l` leading bytes of a node's frame verify with EPOCH and CYCLE (R333)? -/
def State.nodeTagOk (s : State) (f : Bytes) (l : Nat) : Bool :=
  let x := s.nodeAt (fld f 1 1)
  decide (2 ≤ x.state) && decide (s.timedTag x.ks (f.take l) = slice f l 4)

/-- TIDELINE_EVENT (R332): acknowledged in a downlink. -/
def execTidelineEvent (frame : Bytes) (s : State) : Host.Outcome State Fault Refusal :=
  let n := fld frame 1 1
  .next (if s.tideOn ∧ s.symbol6Open = true ∧ frame.length = 57 ∧ fld frame 0 1 = 0x21 then
    if s.nodeTagOk frame 20 then
      let s := s.setNode n fun x => { x with lastEvent := fld frame 2 2 }
      let b := [byte 0x25, byte n] ++ leBytes 2 (fld frame 2 2)
      if s.tideSends then s.queueDown false (b ++ tag32 (s.nodeAt n).ks b) none else s
    else s.strangerSeen 1 []
  else s)

/-- COMMON_ALARM (R342): acknowledged for 100 cycles and delivered to the warden; a battery contactor that opened ends
hibernation (R372). -/
def execCommonAlarm (frame : Bytes) (s : State) : Host.Outcome State Fault Refusal :=
  let code := fld frame 1 1
  .next (if s.tideOn ∧ frame.length = 57 ∧ fld frame 0 1 = 0x30 then
    if tag32 s.tide.kg ([byte 0x14] ++ frame.take 8) = slice frame 8 4 then
      let s := if code < 16 then { s with tide := { s.tide with ackLeft := Tab.set 0 s.tide.ackLeft code 100 } } else s
      let s := s.raise 175 1 [byte code]
      if code = 5 then s.wakeGauge s.retained.rtcNs 0 else s
    else s.strangerSeen 1 [s.cycleNow]
  else s)

/-- NODE_ALARM (R342): acknowledged in the next beacon; from a node that does not report, the node is quiet (R339). (DEDUCED, log 57) -/
def execNodeAlarm (frame : Bytes) (s : State) : Host.Outcome State Fault Refusal :=
  let n := fld frame 1 1
  .next (if s.tideOn ∧ frame.length = 57 ∧ fld frame 0 1 = 0x31 then
    if s.nodeTagOk frame 19 then
      let s := { s with tide := { s.tide with nodeAck := some n } }
      let s := s.raise 174 1 ([byte n, byte (fld frame 2 1)] ++ slice frame 3 14)
      if 1 ≤ (s.nodeAt n).missRun ∧ (s.nodeAt n).state = 2 then
        (s.setNode n fun x => { x with state := 3 }).raise 167 1 [byte n]
      else s
    else s.strangerSeen 1 [s.cycleNow]
  else s)

/-- STRANGER_CLEAR (R346). -/
def execStrangerClear (s : State) : Host.Outcome State Fault Refusal :=
  .next (if s.tide.stranger ∧ 1000 ≤ s.tide.strangerTides then { s with tide := { s.tide with stranger := false } } else s)

/-! ### Sleepers and the quiet controller -/

/-- LOST_SLEEPER (R343): the mark, its record and source, and 50 ms of wide beacon. -/
def execLostSleeper (node : Nat) (s : State) : Host.Outcome State Fault Refusal :=
  let x := s.nodeAt node
  .next (if x.sleeper ∧ (x.state = 2 ∨ x.state = 3) ∧ 3 ≤ x.missRun ∧ s.tideSends = true then
    let s := s.setNode node fun x => { x with state := 4, freeAt := none }
    let s := { s with tide := { s.tide with wide := true, wideLeft := 500 } }
    (s.record 0x13 4 [byte node]).raise 165 1 [byte node]
  else s)

/-- WIDE_BEACON_END (R343, R344): the lost sleepers have 10 s from here. -/
def execWideBeaconEnd (s : State) : Host.Outcome State Fault Refusal :=
  let t := s.budget.tides
  .next (if s.tide.wide ∧ s.tide.wideLeft = 0 then
    let s := { s with tide := { s.tide with wide := false } }
    s.each (s.slotNodes.filter fun n => decide ((s.nodeAt n).state = 4) && (s.nodeAt n).freeAt.isNone) fun s n =>
      s.setNode n fun x => { x with freeAt := some (t + 10000) }
  else s)

/-- SLEEPER_FREE (R344): the slot is freed and the node leaves; the REASON of its record is not stated, a free value. (DEDUCED, log 58) -/
def execSleeperFree (node : Nat) (s : State) : Host.Outcome State Fault Refusal :=
  let x := s.nodeAt node
  .next (match x.freeAt with
    | some t =>
      if x.state = 4 ∧ t ≤ s.budget.tides then
        ((s.freeNode node).record 0x13 3 [byte node, byte (s.fresh .unstated 0)]).used
      else s
    | none => s)

/-- CONTROLLER_QUIET_END (R340): 100 ms after the controller went quiet. -/
def execControllerQuietEnd (s : State) : Host.Outcome State Fault Refusal :=
  .next (if s.tide.quiet ∧ s.tide.quietTide + 100 ≤ s.budget.tides then
    ({ s with tide := { s.tide with quiet := false, txErr := 0, rxErr := 0 } }).condition 162 false
  else s)

/-! ### What a tide boundary judges -/

/-- Bits set among the low `n` of a map. -/
def popN (n m : Nat) : Nat := (mapList n m).length

/-- The Tideline counts of the tide that ended (R346, R347, R350), and a fresh tide of beacon cycles. -/
def State.tidelineTide (s : State) : State :=
  let t := s.tide
  let run := if 3 ≤ popN 10 t.strangerMap then t.strangerRun + 1 else 0
  let imp := if 8 < t.impulse then t.impulseRun + 1 else 0
  let quiet := decide (t.strangerSymbols = 0)
  let s := { s with tide := { t with
      cycle := 0, strangerMap := 0, strangerRun := run, strangerLast := t.strangerSymbols, strangerSymbols := 0
      impulse := 0, impulseLast := t.impulse, impulseRun := imp
      strangerTides := if quiet then t.strangerTides + 1 else 0 } }
  if !s.tideOn then s
  else
    let s := if 10 ≤ run then
        (if (s.srcAt 161).present then s else s.record 0x13 5 (leBytes 2 s.tide.strangerLast)).begin_ 161 1 []
      else s.condition 161 false
    let s := if 10 ≤ imp then s.begin_ 163 1 [] else s.condition 163 false
    let s := if s.tide.rootInstalled then s.condition 170 false else s.begin_ 170 1 []
    if 10 < s.plan.ageTides then s.begin_ 172 1 [] else s.condition 172 false

/-! ### Orders -/

/-- Nodes of the sealed view in a state, as a 128-bit map. -/
def View.nodesIn (v : View) (st : Nat) : Nat := mapWhere 128 fun n => decide ((Tab.get ({} : Node) v.nodes n).state = st)

/-- TIDE.STATUS (R351). -/
def execTideStatus (mb : Nat) (s : State) : Host.Outcome State Fault Refusal :=
  .next (s.runOrder 0x0801 mb fun q s =>
    if !q.lay 0 [] then s.refuse q .badArg
    else
      let t := s.tide
      let joined := (s.slotNodes.filter fun n => decide (2 ≤ (s.nodeAt n).state)).length
      let map (st : Nat) : Nat := mapWhere 128 fun n => decide ((s.nodeAt n).state = st)
      s.reply q .ok ([byte joined, byte t.flags, byte t.txErr, byte t.rxErr] ++ leBytes 2 t.impulseLast
        ++ leBytes 2 t.strangerLast ++ leBytes 16 (map 4) ++ leBytes 16 (map 3)))

/-- One node in TIDE.NODES (Table 13-14). A module's own REC is not stated to the controller: a free value. (DEDUCED, log 58) -/
def State.nodeBytes (s : State) (n : Nat) : Bytes :=
  let x := s.nodeAt n
  let rec_ := if x.state = 0 then 0 else s.fresh .unstated n % 256
  [byte n, byte x.cls, byte x.slot, byte x.share, byte x.map, byte x.txErr, byte rec_, byte x.state] ++ leBytes 8 x.moduleId

/-- TIDE.NODES (R351). -/
def execTideNodes (mb : Nat) (s : State) : Host.Outcome State Fault Refusal :=
  .next (s.runOrder 0x0802 mb fun q s =>
    if !q.lay 4 [(1, 3)] || 7 < q.u 0 1 then s.refuse q .badArg
    else (s.reply q .ok ((countFrom 16 (16 * q.u 0 1)).map s.nodeBytes).flatten).used)

/-- TIDE.ROOTINSTALL (R334, R351): the write of the key record is an external write. -/
def execTideRootinstall (mb : Nat) (s : State) : Host.Outcome State Fault Refusal :=
  .next (s.runOrder 0x0803 mb fun q s =>
    if !q.lay 16 [] then s.refuse q .badArg
    else if !s.fieldGood 24 8 || s.secretLocked [0, 2] then s.refuse q .locked
    else if !s.keyMatches 24 (slice q.payload 0 16) then s.refuse q .badArg
    else s.wait q (.rootInstall (beVal (slice q.payload 0 16))))

/-- The key record holds K_root: what TIDE.ROOTINSTALL does once its write is read back (R127, R334). -/
def State.rootInstalled (s : State) (w : Waiting) (key : Nat) : State :=
  let s := { s with tide := { s.tide with
      kRoot := some key, rootInstalled := s.fieldGood 24 8 && s.keyMatches 24 (beBytes 16 key) } }
  (s.record 0x10 2 ([2, 0, 0, 0] ++ leBytes 4 w.session)).finish w.mailbox .ok []

/-- TIDE.EVICT (R351): LEAVE with REASON 1, the slot freed. -/
def execTideEvict (mb : Nat) (s : State) : Host.Outcome State Fault Refusal :=
  .next (s.runOrder 0x0804 mb fun q s =>
    let n := q.u 0 1
    if !q.lay 4 [(1, 3)] || (s.nodeAt n).state < 2 then s.refuse q .badArg
    else
      let b := [byte 0x26, byte n, 1]
      let s := s.queueDown true (b ++ tag32 (s.nodeAt n).ks b) none
      ((s.record 0x13 3 [byte n, 1]).freeNode n).reply q .ok [])

end Sys2Proof.Machine
end

