-- ==== Sys2Proof/Machine/Ledger.lean ====
section
/-! DEFINITION. The system ledger (R28, R29, R433 to R441): what each block contributes to a local snapshot, the seal, the
standby's copy of its active's snapshots, pushes, and the orders that read the ledger. -/
namespace Sys2Proof.Machine

/-! ### Contributions (Tables 16-4 and 16-5) -/

/-- Power domain of a contribution (R433). (DEDUCED, log 45) -/
def contribDomain (i : Nat) : Nat :=
  [2, 4, 5, 6, 7, 8, 9, 10, 11, 12, 13, 14, 17, 15, 16, 19, 3, 18, 12].getD i 0

/-- The expected contributions, as a map (R433); a standby's own warden contributes nothing to what its active supervises
(R436). (DEDUCED, log 45) -/
def State.expectedContribs (s : State) : Nat :=
  mapWhere 19 fun i => s.domain (contribDomain i) && !(decide (i = 0) && s.shadowing)

/-- Contributions of the domains on the rail of supply monitor `n` (R51; Tables 2-3 and 18-4). -/
def railContribs (n : Nat) : List Nat :=
  match n with
  | 0 => [0] | 1 => [16] | 2 => [1] | 3 => [2] | 4 => [3] | 5 => [4] | 6 => [11] | 7 => [12, 13, 14]
  | 8 => [0, 16, 17] | 9 => [1, 2, 3, 4] | 10 => [5] | 11 => [6] | 12 => [7] | 13 => [8] | 14 => [9, 10, 18]
  | 15 => [13] | 16 => [12, 14] | 17 => [12, 13, 14] | 18 => [15] | 19 => [17] | 20 => [10] | 22 => [11]
  | _ => []

/-- Contributions flagged dip for the monitors of a map (R51). -/
def dipContribs (mons : Nat) : Nat :=
  mapWhere 19 fun i => (mapList 23 mons).any fun n => (railContribs n).contains i

/-- A record padded to its size. -/
def recPad (n : Nat) (l : Bytes) : Bytes := (padTo n l).take n

/-- I_MEAN and DUTY_MEAN of channel `k`; without a sample or a duty word in the tide the spec states no mean: a free value. (DEDUCED, log 46) -/
def State.chanMeans (s : State) (k : Nat) : Bytes :=
  let t := (s.chanAt k).tide
  (if t.iCount = 0 then leBytes 4 (s.fresh .unstated (2 * k)) else leS 4 (tdiv t.iSum t.iCount))
    ++ leBytes 4 (if t.dCount = 0 then s.fresh .unstated (2 * k + 1) % 2 ^ 20 else t.dSum / t.dCount)

/-- FLAGS of a channel's record. -/
def State.chanFlags (s : State) (k : Nat) : Nat :=
  let c := s.chanAt k
  let o := match s.outputOf k with | some j => s.outAt j | none => {}
  b2n o.limitedPrev + 2 * b2n (c.tide.clamp || c.clamp.isSome) + 4 * b2n o.cap.isSome + 8 * b2n (c.tide.braking || c.braking)
    + 16 * b2n (c.tide.cut || c.cutNow) + 32 * b2n c.tide.windowExit

/-- A channel's record, in the parts its cluster and the scanner contribute. (DEDUCED, log 46) -/
def State.snapChan (s : State) (k : Nat) : List (Nat × Bytes) :=
  let c := s.chanAt k
  [(1 + quadrant k, s.chanMeans k ++ [byte c.code, byte (s.chanFlags k)] ++ leBytes 2 (c.tide.cuts % 65536)),
   (9, leBytes 2 (Tab.get 0 s.scan.codes (128 + k)) ++ leBytes 2 (Tab.get 0 s.scan.codes k))]

/-- An output's record: the mean power, set-point and profile of its lead's quadrant (R277), the warden's and the sequencer's part. -/
def State.snapOut (s : State) (k : Nat) : List (Nat × Bytes) :=
  let o := s.outAt k
  let lc := 1 + quadrant (min 127 (s.lead k))
  [(lc, leS 4 o.power ++ leBytes 4 (s.vsp k)), (0, leBytes 4 (o.cap.getD 0xFFFFFFFF)), (18, [byte o.state, byte o.lastStop]),
   (lc, [byte o.prof.state.code]), (18, [0])]

/-- CLAMPS of a polder as Table 11-6 gives them. (DEDUCED, log 47) -/
def State.clampsOf (s : State) (q : Nat) : Nat :=
  sumN ((upto 4).map fun c => b2n (bit (s.clusterAt c).clamped q) * 2 ^ c) + 16 * b2n (s.polderAt q).capped

/-- A polder's record. -/
def State.snapPolder (s : State) (q : Nat) : List (Nat × Bytes) :=
  let p := s.polderAt q
  [(0, recPad 16 (leS 4 p.load ++ leS 4 p.freeboard ++ leSat 4 p.alloc ++ [byte p.causes, byte (s.clampsOf q)]))]

/-- Does this controller send D, F and W: bit 15 negotiated and a position committed (R442)? -/
def State.reduces (s : State) : Bool := bit s.host.negotiated 15 && s.member

/-- Power of the enabled outputs outside polders. -/
def State.outsidePower (s : State) : Int :=
  sumI ((s.enabledOuts.filter fun k => s.polEnable (s.outPolder k) ≠ 1).map fun k => (s.outAt k).power)

/-- Demand D and floor F of R442. -/
def State.demandFloor (s : State) : Nat × Nat :=
  if s.reduces then
    let qs := s.enabledPolders.filter fun q => !s.polShed q
    let out := s.outsidePower
    let d := (sumN (qs.map fun q => (s.polderAt q).want) : Int) + out
    let f := (sumN (qs.map fun q => min (s.polFabricFloor q) (s.polderAt q).want) : Int) + out
    (satUI 32 d, satUI 32 f)
  else (0, 0)

/-- The fabric freeboard (R446). -/
def State.fabricFreeboard (s : State) : Int :=
  match s.fabricTerm with
  | some a => satS 32 ((a : Int) - s.budget.load)
  | none => 0x7FFFFFFF

/-- The shelf record. (DEDUCED, log 47) -/
def State.snapShelf (s : State) : Bytes :=
  let b := s.budget
  let df := s.demandFloor
  recPad 64 (leS 4 b.load ++ leBytes 4 (min 0x7FFFFFFF (b.limit.getD 0x7FFFFFFF)) ++ leS 4 b.freeboard ++ leS 4 s.fabricFreeboard
    ++ leBytes 4 s.fabric.allow ++ leBytes 4 df.1 ++ leBytes 4 df.2
    ++ leBytes 4 (if b.rtActive then b.lastPrediction else 0xFFFFFFFF) ++ leBytes 4 (if b.rtActive then b.rtTides / 1000 else 0)
    ++ [byte b.limitSource, byte (b2n b.deficitNow + 2 * b2n b.runtimeShort + 4 * b2n b.frozen), byte (min 255 b.deficitTides)])

/-- A rectifier's record: those of Tideline and the legacy ones of the two-wire ports (R315). -/
def State.snapRect (s : State) (k : Nat) : List (Nat × Bytes) :=
  let r := s.rectAt k
  [(if k < 32 then 11 else 15,
    recPad 16 (leS 4 r.iOut ++ leBytes 4 r.vOut ++ leS 4 r.pIn ++ [byte r.state, 0] ++ leBytes 2 r.cmdIWord))]

/-- A string's record. -/
def State.snapString (s : State) (k : Nat) : List (Nat × Bytes) :=
  let x := s.stringAt k
  [(10, recPad 32 (leS 4 x.current ++ leBytes 4 x.voltage ++ leS 2 x.temp ++ leBytes 2 x.soc ++ [byte x.conf, byte x.state]
    ++ leBytes 2 x.flags ++ leS 6 (s.convAt k).tideRaw ++ leSat 4 x.eAvail ++ leS 4 x.modI))]

/-- A shunt's record. -/
def State.snapShunt (s : State) (k : Nat) : List (Nat × Bytes) :=
  [(10, if s.shuntEnable k = 1 then leS 4 (s.convAt k).tideMa ++ leBytes 4 (Tab.get 0 s.gauge.shuntV k) else zeros 8)]

/-- The Tideline record. -/
def State.snapTide (s : State) : Bytes :=
  let t := s.tide
  let joined := (s.slotNodes.filter fun n => decide (2 ≤ (s.nodeAt n).state)).length
  recPad 512 ([byte joined, byte t.txErr, byte t.rxErr, 0] ++ leBytes 2 t.impulseLast ++ leBytes 2 t.strangerLast
    ++ ((countFrom 126 1).map fun n =>
      let x := s.nodeAt n
      [byte x.state, byte x.map, byte (b2n x.stale), 0]).flatten)

/-- The fault collector's record. -/
def State.snapFaults (s : State) : Bytes :=
  let f := s.faults
  let pend (c : Nat) : Nat := (f.src.filter fun e => e.2.pending && decide (e.2.lastClass = c)).length
  recPad 128 (((upto 4).map fun c => leSat 2 (Tab.get 0 f.raised c) ++ leBytes 2 (pend c)).flatten
    ++ [byte f.queue.length] ++ leBytes 4 ((f.overflow0 + f.overflow1 + f.overflow2 + f.overflow3) % 2 ^ 32))

/-- Fabric lanes up, as a map in the order N, E, S, W. (DEDUCED, log 47) -/
def State.fabLanesUp (s : State) : Nat :=
  b2n s.fabric.lane0.up + 2 * b2n s.fabric.lane1.up + 4 * b2n s.fabric.lane2.up + 8 * b2n s.fabric.lane3.up

/-- PARENT_PORT: 0xFF on a root. -/
def State.parentPort (s : State) : Nat := match s.fabric.parent with | some p => p | none => 0xFF

/-- Members delivered for the fabric snapshot sealed last. -/
def State.fabPresent (s : State) : Nat :=
  match s.ledger.fabs.getLast? with
  | some f => (f.present.filter (·.2)).length
  | none => 0

/-- Is a management Ethernet lane up in the links section (R556): block lock, and where a device answers its receive link
status, bit 2 of its register 1.1 (IEEE 802.3 clause 45)? -/
def EthPort.lane (e : EthPort) : Bool := e.up && (match e.phy with | some r => bit r 2 | none => true)

/-- LANES_UP of the links section: bit n is lane Ln (R556 says so of bits 4 and 5). (DEDUCED, log 45) -/
def State.lanesUp (s : State) : Nat :=
  s.fabLanesUp + 16 * b2n s.eth.l4.lane + 32 * b2n s.eth.l5.lane + 64 * b2n s.sluice.lane6.up + 128 * b2n s.sluice.lane7.up

/-- The links record. -/
def State.snapLinks (s : State) : List (Nat × Bytes) :=
  [(13, [byte s.lanesUp, byte s.parentPort, byte s.fabric.depth, 0] ++ leS 4 s.fabric.theta),
   (12, leBytes 2 (min 0xFFFF s.sluice.mirrorAge)), (13, recPad 118 (leBytes 2 s.fabPresent))]

/-- The body of a snapshot, in pieces by contribution and in the order of their offsets (Table 16-5). (DEDUCED, log 45) -/
def State.snapBody (s : State) : List (Nat × Bytes) :=
  ((upto 128).map s.snapChan).flatten ++ ((upto 128).map s.snapOut).flatten ++ ((upto 32).map s.snapPolder).flatten
    ++ [(0, s.snapShelf)] ++ ((upto 40).map s.snapRect).flatten ++ ((upto 32).map s.snapString).flatten
    ++ ((upto 32).map s.snapShunt).flatten
    ++ [(9, ((upto 512).map fun i => leBytes 2 (Tab.get 0 s.scan.codes i + Tab.get 0 s.scan.flags i * 4096)).flatten),
        (11, s.snapTide), (16, s.snapFaults)] ++ s.snapLinks
    ++ [(11, ((countFrom 126 1).map fun n => recPad 20 (s.nodeAt n).body).flatten), (0, zeros 5416)]

/-! ### The boundary -/

/-- The fabric epoch of an extended epoch (R431). -/
def State.fabEpochOf (s : State) (e : Nat) : Nat := (((e : Int) - s.fabric.offset) % 2 ^ 64).toNat

/-- Contributions are latched at a tide boundary that ended epoch `e` (R28): by every block before the warden works out the new
tide, whose values belong to the next contribution (R278). FLAGS as of the tide that ended. (DEDUCED, log 47) -/
def State.latchLedger (s : State) (e : Nat) (slewed : Bool) : State :=
  let expected := s.expectedContribs
  { s.used with ledger := { s.ledger with
      expected := expected, arrived := 0, open_ := true, epoch := e, tideCycles := s.clocks.tideCycles
      dip := dipContribs s.power.dipTide &&& expected
      holdover := if s.clocks.holdoverTide || s.clocks.pllLost ≠ 0 then expected else 0
      latchMode := if bit expected 0 then s.modeCode else s.ledger.latchMode
      latchFlags := 2 * b2n s.sluice.tookOver + 32 * b2n slewed, latchBody := s.snapBody } }

/-! ### The seal -/

/-- Header of a snapshot (Table 16-3) with CRC `crc`. (DEDUCED, log 45) -/
def State.snapHeader (s : State) (flags stale us crc : Nat) (fab : Option Nat) : Bytes :=
  let l := s.ledger
  recPad 64 (leBytes 2 0x4C47 ++ [1, byte flags] ++ leBytes 4 l.epoch ++ leBytes 4 (l.epoch / 2 ^ 32)
    ++ leBytes 4 (fab.getD 0xFFFFFFFF) ++ leBytes 4 s.sluice.generation ++ [byte l.latchMode, byte s.role] ++ leBytes 2 us
    ++ leBytes 4 stale ++ leBytes 4 l.dip ++ leBytes 4 l.holdover ++ leBytes 2 l.late ++ leBytes 2 (l.tideCycles / 50)
    ++ leBytes 4 s.latchView.descSequence ++ leBytes 4 16384 ++ leBytes 4 crc)

/-- Bytes of a snapshot whose CRC field is made for them. -/
def crcSnap (b : Bytes) : Bytes := b.take 0x30 ++ leBytes 4 (crc32c (b.take 0x30 ++ zeros 4 ++ b.drop 0x34)) ++ b.drop 0x34

/-- Each piece of the body, or its last present value where its contribution is stale (R29). -/
def Ledger.carried (l : Ledger) (stale : Nat) : List Bytes :=
  (List.range l.latchBody.length).map fun i =>
    let p := l.latchBody.getD i (0, [])
    if bit stale p.1 then l.lastBody.getD i (zeros p.2.length) else p.2

/-- A local snapshot held: sealing the next releases the oldest of 16 (R435). -/
def Ledger.hold (l : Ledger) (x : Snap) : Ledger :=
  let t := l.snaps ++ [x]
  { l with snaps := t.drop (t.length - 16) }

/-- One push of a ledger subscription (R441). (DEDUCED, log 48) -/
def State.pushLedger (s : State) (id epoch fab : Nat) (data : Bytes) : State :=
  match s.log.subs.find? fun x => decide (x.id = id) with
  | none => s
  | some x =>
    let s := s.push x.session ([byte x.id, byte x.kind] ++ leBytes 2 (x.next % 65536) ++ leBytes 4 epoch
      ++ leBytes 4 (epoch / 2 ^ 32) ++ leBytes 4 fab ++ data)
    { s with log := { s.log with subs := s.log.subs.map fun y => if y.id = x.id then { y with next := y.next + 1 } else y } }

/-- Every ledger subscription of a kind that is due at an epoch (R441: one per DECIM tides) pushes what `data` gives. -/
def State.pushKind (s : State) (kind epoch fab : Nat) (data : Subscription → List Bytes) : State :=
  (s.log.subs.filter fun x => !x.log && decide (x.kind = kind) && decide (epoch % max 1 x.decim = 0)).foldl (fun s x =>
    (data x).foldl (fun s d => s.pushLedger x.id epoch fab d) s) s

/-- Snapshot bytes in 16 chunks with their INDEX. -/
def snapChunks (b : Bytes) : List (Nat × Bytes) := (upto 16).map fun i => (i, slice b (1024 * i) 1024)

/-- A complete, CRC-clean set of the active's snapshot takes the place of the standby's own of its epoch, once that is sealed (R436). -/
def State.adoptSnapshot (s : State) : State :=
  let l := s.ledger
  if l.rx.length = 16 && l.snaps.any fun x => decide (x.epoch % 2 ^ 32 = l.rxEpoch) then
    let bytes := ((upto 16).map fun i => Tab.get ([] : Bytes) l.rx i).flatten
    let l := { l with rx := [] }
    let clean := decide (bytes.length = 16384) && decide (crcSnap bytes = bytes)
      && decide (fld bytes 0 2 = 0x4C47) && decide (fld bytes 4 4 = l.rxEpoch)
    let marked := crcSnap (bytes.take 3 ++ [byte (setBit (fld bytes 3 1) 2 true)] ++ bytes.drop 4)
    { s with ledger :=
      if clean then { l with snaps := l.snaps.map fun x =>
          if x.epoch % 2 ^ 32 = l.rxEpoch then { x with generation := fld bytes 0x10 4, bytes := marked } else x }
      else l }
  else s

/-- The local snapshot is sealed (R29, R434 to R436), `us` after the boundary: held, shown, sent to a standby and pushed. (DEDUCED, log 45) -/
def State.sealLocal (s : State) (us : Nat) (deadline : Bool) : State :=
  let l := s.ledger
  let stale := (l.expected - (l.expected &&& l.arrived)) ||| b2n s.shadowing
  let body := l.carried stale
  let flags := b2n deadline + l.latchFlags + 8 * b2n (decide (l.dip ≠ 0)) + 16 * b2n (decide (l.holdover ≠ 0))
  let fab := if s.member then some (s.fabEpochOf l.epoch) else none
  let bytes := crcSnap (s.snapHeader flags stale us 0 fab ++ body.flatten)
  let snap : Snap := { epoch := l.epoch, generation := s.sluice.generation, fab := fab, bytes := bytes }
  let l := { (l.hold snap) with
    open_ := false, late := 0, lastBody := body, deadlineSeals := (l.deadlineSeals + b2n deadline) % 2 ^ 32 }
  let s : State := { s.ledgerStored [(0, 16384)] l.epoch with
    ledger := l, sealedView := s.latchView
    faults := { s.faults with win := if bit stale 16 then s.faults.win else s.faults.latchWin }
    host := { s.host with sealedEpoch := l.epoch % 2 ^ 32, irqSealed := true } }
  let s := if s.role = 1 then
      (snapChunks bytes).foldl (fun s c => s.sendPeer 0x0C (leBytes 4 l.epoch ++ [byte c.1, 0, 0, 0] ++ c.2)) s
    else s
  let s := if s.role = 2 && s.shadowing then s.adoptSnapshot else s
  let s := s.pushKind 1 l.epoch (fab.getD 0xFFFFFFFF) fun _ => (snapChunks bytes).map fun c => byte c.1 :: c.2
  if deadline then s.raise 187 1 [] else s

/-- The seal where every expected contribution has arrived. -/
def State.sealIfComplete (s : State) (us : Nat) : State :=
  let l := s.ledger
  if l.open_ && decide (l.expected &&& l.arrived = l.expected) then s.sealLocal us false else s

/-- CONTRIBUTION (R28, R29): contribution `index`, tagged with the epoch it describes, arrives `us` after the boundary. One for a
sealed epoch is discarded and counted. -/
def execContribution (index epoch us : Nat) (s : State) : Host.Outcome State Fault Refusal :=
  .next (
    let l := s.ledger
    if 18 < index || !s.mode.firmware then s
    else if l.open_ && decide (epoch = l.epoch % 2 ^ 32) then
      if bit l.expected index && (decide (index ≠ 0) || s.wardenRuns) then
        ({ s with ledger := { l with arrived := setBit l.arrived index true } }).sealIfComplete us
      else s
    else if !l.snaps.isEmpty && geq32 l.newest epoch then
      ({ s with ledger := { l with late := min 65535 (l.late + 1) } }).raise 189 1 []
    else s)

/-- SEAL_DEADLINE (R29): 200 µs after the boundary. -/
def execSealDeadline (s : State) : Host.Outcome State Fault Refusal :=
  .next (if s.ledger.open_ then s.sealLocal 200 true else s)

/-! ### The standby's copy -/

/-- SNAPSHOT_FRAME (R436): a chunk of the active's sealed snapshot; any other INDEX starts or continues the set of its epoch. -/
def execSnapshotFrame (frame : Bytes) (s : State) : Host.Outcome State Fault Refusal :=
  .next (s.onFrame 0x0C (fun n => n = 1032) frame fun s b =>
    let e := fld b 0 4
    let i := fld b 4 1
    if s.role = 2 ∧ s.shadowing = true ∧ i < 16 then
      let l := if s.ledger.rxEpoch = e then s.ledger else { s.ledger with rxEpoch := e, rx := [] }
      let s := { s with ledger := { l with rx := Tab.set [] l.rx i (slice b 8 1024) } }
      s.adoptSnapshot
    else s)

/-! ### Orders of group 0x0B -/

/-- LEDGER.STATUS (R449). -/
def execLedgerStatus (mb : Nat) (s : State) : Host.Outcome State Fault Refusal :=
  .next (s.runOrder 0x0B01 mb fun q s =>
    let l := s.ledger
    if !q.lay 0 [] then s.refuse q .badArg
    else s.reply q .ok (leBytes 4 l.oldest ++ leBytes 4 l.newest
      ++ leBytes 4 (match l.snaps.getLast? with | some x => x.epoch / 2 ^ 32 | none => 0) ++ leS 4 s.fabric.offset
      ++ leBytes 4 (match l.fabs.getLast? with | some f => f.epoch | none => 0) ++ leBytes 2 s.fabPresent
      ++ leBytes 2 l.late ++ leBytes 4 l.deadlineSeals))

/-- A map of Booleans as bytes. -/
def mapBytes (n : Nat) (t : Tab Bool) : Bytes := leBytes n (mapWhere (8 * n) fun i => Tab.get false t i)

/-- Bytes of an area of a fabric snapshot: 1 row records, 2 summaries, 3 PRESENT. (DEDUCED, log 48) -/
def FabSnap.area (f : FabSnap) (a : Nat) : Bytes :=
  if a = 1 then ((upto 32).map fun c => recPad 256 (Tab.get [] f.fulls c)).flatten
  else if a = 2 then ((upto 1024).map fun m => recPad 64 (Tab.get [] f.summaries m)).flatten
  else mapBytes 128 f.present

/-- Size of an area of LEDGER.READ (Table 16-8). -/
def areaSize (a : Nat) : Nat := [16384, 8192, 65536, 128].getD a 0

/-- What LEDGER.READ reads: the epoch whose snapshot holds the area and the area's bytes, or the status of R440. (DEDUCED, log 48) -/
def State.ledgerArea (s : State) (epoch area : Nat) : (Nat × Bytes) ⊕ Nat :=
  match s.ledger.snapOf epoch with
  | none => .inr (s.ledger.localStatus epoch)
  | some x =>
    if area = 0 then .inl (x.epoch, x.bytes)
    else match x.fab with
      | none => .inr 1
      | some f => match s.ledger.fabOf f with
        | some g => .inl (g.epoch, g.area area)
        | none => .inr (s.ledger.fabEpochStatus f)

/-- LEDGER.READ (R440, R449): the response carries the epoch read (R123), and a word of the ledger RAM that reads uncorrectable
gives zeros (Table 18-9). -/
def execLedgerRead (mb : Nat) (s : State) : Host.Outcome State Fault Refusal :=
  .next (s.runOrder 0x0B02 mb fun q s =>
    let area := q.u 4 1
    let n := q.u 6 2
    let o := q.u 8 4
    if !q.lay 12 [(5, 1)] || 3 < area || n = 0 || 480 < n || areaSize area < o + n then s.refuse q .badArg
    else match s.ledgerArea (q.u 0 4) area with
      | .inl (e, b) =>
        let d := s.ledgerRead area e o (slice b o n)
        let bad := s.ledgerBad area e o n
        let s := s.each bad fun s w => s.eccEvent instLedger 4 w 0
        s.replyAt q .ok (leBytes 4 (q.u 0 4) ++ zeros 4 ++ d) (q.u 0 4)
      | .inr st => s.refuse q (if st = 1 then .gone else .notYet))

/-- FABRIC.STATUS (R449). -/
def execFabricStatus (mb : Nat) (s : State) : Host.Outcome State Fault Refusal :=
  .next (s.runOrder 0x0B03 mb fun q s =>
    let f := s.fabric
    if !s.member then s.refuse q .wrongMode
    else if !q.lay 0 [] then s.refuse q .badArg
    else s.reply q .ok ([byte s.shelfFabRow, byte s.shelfFabCol, byte s.fabLanesUp, byte s.parentPort] ++ leBytes 2 f.root
      ++ [byte f.depth, 0] ++ leS 4 f.theta ++ leBytes 4 f.allow ++ leBytes 4 f.allowEpoch ++ leBytes 4 f.relayed
      ++ leBytes 4 f.held))

/-- Is DECIM within its range for a KIND (Table 16-10)? -/
def decimOk (kind decim : Nat) : Bool :=
  decide ([1, 10, 1, 100].getD kind 0 ≤ decim) && decide (decim ≤ 60000)

/-- LEDGER.SUBSCRIBE (R441). (DEDUCED, log 14) -/
def execLedgerSubscribe (mb : Nat) (s : State) : Host.Outcome State Fault Refusal :=
  .next (s.runOrderWith 0x0B04 mb onEthernet anyRequest fun q s =>
    let kind := q.u 0 1
    let row := q.u 1 1
    let sub : Subscription :=
      { id := 0, session := q.session, log := false, kind := kind, row := row, decim := q.u 2 2, next := 0, classes := 0, gone := 0 }
    match s.subscribe sub with
    | none => s.refuse q .busy
    | some r =>
      if !q.lay 4 [] || 3 < kind || !decimOk kind (q.u 2 2) || (kind = 2 && 31 < row) then s.refuse q .badArg
      else r.1.reply q .ok [byte r.2, 0, 0, 0])

/-- LEDGER.UNSUBSCRIBE (R449). -/
def execLedgerUnsubscribe (mb : Nat) (s : State) : Host.Outcome State Fault Refusal :=
  .next (s.runOrder 0x0B05 mb fun q s =>
    if !q.lay 4 [(1, 3)] then s.refuse q .badArg
    else match s.unsubscribe q.session (q.u 0 1) false with
      | none => s.refuse q .badArg
      | some s => s.reply q .ok [])

end Sys2Proof.Machine
end

