-- ==== Sys2Proof/Machine/Fabric.lean ====
section
/-! DEFINITION. Meanings of the Levee fabric's commands (chapter 16): lanes, routing, time alignment, records, the capping reduction
and the fabric seal. -/
namespace Sys2Proof.Machine

/-! ### Position, lanes and frames -/

/-- The member's own address (R420). -/
def State.fabAddr (s : State) : Nat := 32 * s.shelfFabRow + s.shelfFabCol

/-- Lane 0 to 3: N, E, S, W. -/
def State.fabLane (s : State) (l : Nat) : FabLane :=
  match l with
  | 0 => s.fabric.lane0
  | 1 => s.fabric.lane1
  | 2 => s.fabric.lane2
  | _ => s.fabric.lane3

/-- Lane `l` goes through `f`. -/
def State.setFabLane (s : State) (l : Nat) (f : FabLane → FabLane) : State :=
  match l with
  | 0 => { s with fabric := { s.fabric with lane0 := f s.fabric.lane0 } }
  | 1 => { s with fabric := { s.fabric with lane1 := f s.fabric.lane1 } }
  | 2 => { s with fabric := { s.fabric with lane2 := f s.fabric.lane2 } }
  | 3 => { s with fabric := { s.fabric with lane3 := f s.fabric.lane3 } }
  | _ => s

/-- Is a port used: its ring has more than one member (R420)? -/
def State.laneUsed (s : State) (l : Nat) : Bool :=
  if l = 0 ∨ l = 2 then decide (1 < s.shelfFabRows) else decide (1 < s.shelfFabCols)

/-- Row and column of the neighbour at a port (R420). -/
def State.neighbour (s : State) (l : Nat) : Nat × Nat :=
  let r := s.shelfFabRow
  let c := s.shelfFabCol
  let rows := max 1 s.shelfFabRows
  let cols := max 1 s.shelfFabCols
  match l with
  | 0 => ((r + rows - 1) % rows, c)
  | 1 => (r, (c + 1) % cols)
  | 2 => ((r + 1) % rows, c)
  | _ => (r, (c + cols - 1) % cols)

/-- Does the fabric work on this controller: a position committed, domain 15 on? -/
def State.fabOn (s : State) : Bool := s.mode.firmware && s.member && s.domain 15 && !s.held 11

/-- The fabric epoch of the present tide (R431). -/
def State.fabEpoch (s : State) : Nat := s.fabEpochOf s.ext

/-- The fabric epoch of the tide that the last boundary ended. -/
def State.fabEnded (s : State) : Nat := s.fabEpochOf (s.ext - 1)


/-- A frame originated here. `f` is the fabric epoch that it describes. -/
def State.fabFrame (s : State) (ftype dst f ctrl : Nat) (body : Bytes) : Bytes :=
  let b := [byte ftype, 64] ++ leBytes 2 s.fabAddr ++ leBytes 2 dst ++ leBytes 2 f ++ leBytes 4 s.sluice.generation
    ++ leBytes 2 body.length ++ leBytes 2 ctrl ++ body
  b ++ leBytes 4 (crc32c b)

/-- The body of a frame of a TYPE whose LENGTH and CRC check (R423). -/
def fabBody (ftype : Nat) (f : Bytes) : Option Bytes :=
  let n := fld f 12 2
  if f.length = 20 + n ∧ fld f 0 1 = ftype ∧ fld f (16 + n) 4 = crc32c (f.take (16 + n)) then some (slice f 16 n) else none

/-- A frame as it goes on: its TTL and CTRL rewritten, and its CRC. -/
def fabAgain (f : Bytes) (ttl ctrl : Nat) : Bytes :=
  let n := fld f 12 2
  let b := (f.take 1) ++ [byte ttl] ++ slice f 2 12 ++ leBytes 2 ctrl ++ slice f 16 n
  b ++ leBytes 4 (crc32c b)

/-- Send a frame on a lane; on one that is down nothing goes out. -/
def State.sendFab (s : State) (l : Nat) (frame : Bytes) : State :=
  if (s.fabLane l).up && s.laneUsed l then s.send (.fabric l (fld frame 0 1) frame) else s

/-- The lasting conditions of sources 0 to 3 (R448). (DEDUCED, log 49) -/
def State.judgeLanes (s : State) : State :=
  s.each (upto 4) fun s l => s.lasting (176 + l) (s.fabOn && s.laneUsed l && !(s.fabLane l).up) []

/-- The up neighbour whose latest SYNC names the lowest ROOT below the own address, then the smallest DEPTH, then the first port
(R426). -/
def State.bestParent (s : State) : Option Nat :=
  let root (l : Nat) : Nat := (s.fabLane l).nRoot.getD 0xFFFF
  let cand := (upto 4).filter fun l => (s.fabLane l).up && s.laneUsed l && decide (root l < s.fabAddr)
  cand.foldl (fun a l => match a with
    | none => some l
    | some b =>
      if root l < root b ∨ (root l = root b ∧ (s.fabLane l).nDepth < (s.fabLane b).nDepth) then some l else some b) none

/-- The parent, root and depth from what the neighbours' SYNCs name (R426). (DEDUCED, log 49) -/
def State.chooseParent (s : State) : State :=
  match s.bestParent with
  | some l =>
    { s with fabric := { s.fabric with
        parent := some l, root := (s.fabLane l).nRoot.getD 0, depth := (s.fabLane l).nDepth + 1, isRoot := false } }
  | none => { s with fabric := { s.fabric with parent := none } }

/-- FABRIC_HELLO (R421): `settled` says that the lane has held block lock for 100 µs. -/
def execFabricHello (lane : Nat) (frame : Bytes) (settled : Bool) (s : State) : Host.Outcome State Fault Refusal :=
  .next (if s.fabOn ∧ lane < 4 ∧ s.laneUsed lane = true then
    match fabBody 0x01 frame with
    | none => s
    | some b =>
      let n := s.neighbour lane
      let right := decide (b.length = 12) && decide (fld b 0 1 = n.1) && decide (fld b 1 1 = n.2)
        && decide (fld b 2 1 = s.shelfFabRows) && decide (fld b 3 1 = s.shelfFabCols) && decide (fld b 4 1 = (lane + 2) % 4)
      if right then
        (if settled then s.setFabLane lane fun x => { x with block := true, up := true } else s).judgeLanes
      else (((s.setFabLane lane fun x => { x with up := false, nRoot := none }).chooseParent).judgeLanes).raise 180 1 []
    else s)

/-- FABRIC_HELLO_TIMER (R421): every 20 µs; `locked` is the map of the lanes with block lock. -/
def execFabricHelloTimer (locked : Nat) (s : State) : Host.Outcome State Fault Refusal :=
  .next (if s.fabOn then
    s.each (upto 4) fun s l =>
      let s := s.setFabLane l fun x => { x with block := bit locked l }
      if bit locked l && s.laneUsed l then
        let n := s.neighbour l
        let b := [byte s.shelfFabRow, byte s.shelfFabCol, byte s.shelfFabRows, byte s.shelfFabCols, byte l, byte s.role, 0, 0]
          ++ leBytes 4 s.dieId
        s.send (.fabric l 0x01 (s.fabFrame 0x01 (32 * n.1 + n.2) s.fabEpoch 0 b))
      else s
    else s)

/-- FABRIC_LANE_DOWN (R421): block lock lost for 1 µs, or no HELLO for 100 µs. -/
def execFabricLaneDown (lane : Nat) (s : State) : Host.Outcome State Fault Refusal :=
  .next (if lane < 4 then ((s.setFabLane lane fun _ => {}).chooseParent).judgeLanes else s)

/-! ### Routing (R424, R425) -/

/-- Port of a unicast toward an address, none where it is this member. -/
def State.route (s : State) (dst : Nat) : Option Nat :=
  let rows := max 1 s.shelfFabRows
  let cols := max 1 s.shelfFabCols
  let e := (dst % 32 + cols - s.shelfFabCol % cols) % cols
  let d := (dst / 32 + rows - s.shelfFabRow % rows) % rows
  let h := if 2 * e ≤ cols then 1 else 3
  let v := if 2 * d ≤ rows then 2 else 0
  if e ≠ 0 then
    if (s.fabLane h).up then some h else if d ≠ 0 then some v else some ((h + 2) % 4)
  else if d ≠ 0 then
    if (s.fabLane v).up then some v else some ((v + 2) % 4)
  else none

/-- A frame about to be passed on: its TTL counts down, and at 0 it is dropped and counted (Table 16-1). -/
def State.passOn (s : State) (l : Nat) (frame : Bytes) (ctrl : Nat) : State :=
  let ttl := fld frame 1 1
  if ttl ≤ 1 then s.raise 184 1 [] else s.sendFab l (fabAgain frame (ttl - 1) ctrl)

/-- Send a unicast that this member originates. -/
def State.sendUnicast (s : State) (ftype dst f : Nat) (body : Bytes) : State :=
  match s.route dst with
  | some l => s.sendFab l (s.fabFrame ftype dst f 0 body)
  | none => s

/-- CTRL with its fields (Table 16-1). -/
def ctrlWord (kind : Nat) (turned : Bool) (remain transit : Nat) : Nat :=
  kind + 4 * b2n turned + 8 * (remain % 32) + 256 * (transit % 64)

/-- Size of the ring of a broadcast: 1 row, 2 column. -/
def State.ringSize (s : State) (kind : Nat) : Nat := if kind = 1 then s.shelfFabCols else s.shelfFabRows

/-- Initial REMAIN of the copy toward increasing index, or of the other. -/
def firstRemain (n : Nat) (up : Bool) : Nat := if up then n / 2 else (n + 1) / 2 - 1

/-- The two copies of a broadcast leave their origin; a copy whose port is down goes the other way round as a turned one. (DEDUCED, log 49) -/
def State.sendBoth (s : State) (kind : Nat) (make : Nat → Bytes) : State :=
  let n := s.ringSize kind
  let inc := if kind = 1 then 1 else 2
  let copy (s : State) (l : Nat) (up : Bool) : State :=
    let r := firstRemain n up
    if r = 0 then s
    else if (s.fabLane l).up then s.sendFab l (make (ctrlWord kind false r 0))
    else s.sendFab ((l + 2) % 4) (make (ctrlWord kind true r (firstRemain n (!up))))
  copy (copy s inc true) ((inc + 2) % 4) false

/-- Originate a broadcast. -/
def State.broadcast (s : State) (ftype kind f : Nat) (body : Bytes) : State :=
  s.sendBoth kind fun ctrl => s.fabFrame ftype 0xFFFF f ctrl body

/-- Hops from the origin of a broadcast to this member in the direction of travel of a copy that arrived at port `l`. -/
def State.hopsFrom (s : State) (kind src l : Nat) : Nat :=
  let n := max 1 (s.ringSize kind)
  let here := if kind = 1 then s.shelfFabCol else s.shelfFabRow
  let from_ := if kind = 1 then src % 32 else src / 32
  if l = 3 ∨ l = 0 then (here + n - from_ % n) % n else (from_ + n - here % n) % n

/-- What happens to a broadcast copy after its delivery (R425). -/
def State.goOn (s : State) (l : Nat) (frame : Bytes) : State :=
  let c := fld frame 14 2
  let kind := c % 4
  let turned := bit c 2
  let remain := bits c 7 3 - 1
  let on := (l + 2) % 4
  if remain = 0 then s
  else if (s.fabLane on).up then s.passOn on frame (ctrlWord kind turned remain 0)
  else if !turned then
    let up := decide (l = 3 ∨ l = 0)
    s.passOn l frame (ctrlWord kind true remain (s.hopsFrom kind (fld frame 2 2) l + firstRemain (s.ringSize kind) (!up)))
  else s.raise 190 1 []

/-- The fabric epoch a FEPOCH stands for, none outside the window (R432). (DEDUCED, log 49) -/
def State.extendF (s : State) (f16 : Nat) : Option Nat :=
  let e := s.fabEpoch
  let d := ofU 16 ((f16 + 65536 - e % 65536) % 65536)
  if -32000 ≤ d ∧ d ≤ 32000 then some (((e : Int) + d) % 2 ^ 64).toNat else none

/-- A broadcast copy of a TYPE received at a port: in transit it goes straight on; else it is delivered, once per SRC, TYPE and
FEPOCH, and goes on (R425). -/
def State.onBroadcast (s : State) (ftype len l : Nat) (frame : Bytes) (deliver : State → Nat → Nat → Bytes → State) : State :=
  if s.fabOn ∧ l < 4 ∧ (s.fabLane l).up = true then
    match fabBody ftype frame with
    | none => s
    | some b =>
      match s.extendF (fld frame 6 2) with
      | none => s.raise 183 1 []
      | some f =>
        let c := fld frame 14 2
        let transit := bits c 13 8
        let src := fld frame 2 2
        if b.length ≠ len then s
        else if transit ≠ 0 then s.passOn ((l + 2) % 4) frame (ctrlWord (c % 4) (bit c 2) (bits c 7 3) (transit - 1))
        else
          let new := !s.fabric.seen.contains (src, ftype, f) && decide (src ≠ s.fabAddr)
          let s := if new then deliver { s with fabric := { s.fabric with seen := (src, ftype, f) :: s.fabric.seen } } src f b else s
          s.goOn l frame
  else s

/-- A unicast of a TYPE received at a port: taken at its destination, else passed on (R424). -/
def State.onUnicast (s : State) (ftype len l : Nat) (frame : Bytes) (take : State → Nat → Bytes → State) : State :=
  if s.fabOn ∧ l < 4 ∧ (s.fabLane l).up = true then
    match fabBody ftype frame with
    | none => s
    | some b =>
      match s.extendF (fld frame 6 2) with
      | none => s.raise 183 1 []
      | some f =>
        if fld frame 4 2 = s.fabAddr then (if b.length = len then take s f b else s)
        else match s.route (fld frame 4 2) with
          | some p => s.passOn p frame (fld frame 14 2)
          | none => s
  else s

/-- A one-hop frame of a TYPE received at a port that is up. These carry or answer the epoch themselves and are not held to the
window of R432. (DEDUCED, log 49) -/
def State.onHop (s : State) (ftype len l : Nat) (frame : Bytes) (take : State → Bytes → State) : State :=
  if s.fabOn ∧ l < 4 ∧ (s.fabLane l).up = true then
    match fabBody ftype frame with
    | none => s
    | some b => if b.length = len then take s b else s
  else s

/-! ### Time alignment (R426 to R431) -/

/-- SYNC_SEND (R427): T1 after a tide boundary, in ps, on every port that is up. A member that follows no root yet sends none. -/
def execSyncSend (t1 : Int) (s : State) : Host.Outcome State Fault Refusal :=
  .next (if s.fabOn ∧ s.clocks.running ∧ (s.fabric.isRoot = true ∨ s.fabric.parent.isSome = true) then
    let off : Int := if s.role = 2 then s.sluice.lagNs * 1000 else 0
    let b := leBytes 2 s.fabric.root ++ [byte s.fabric.depth, 0] ++ leBytes 8 s.fabEpoch ++ leS 4 t1 ++ leS 4 off
    s.each (upto 4) fun s l =>
      let n := s.neighbour l
      s.sendFab l (s.fabFrame 0x02 (32 * n.1 + n.2) s.fabEpoch 0 b)
    else s)

/-- The offset follows the parent's FE64, with a record where it changes (R431). (DEDUCED, log 50) -/
def State.takeOffset (s : State) (fe : Nat) : State :=
  let new := (s.ext : Int) - fe
  if new = s.fabric.offset then s
  else
    let old := s.fabric.offset
    let s := { s with fabric := { s.fabric with offset := new } }
    s.record 0x14 1 (leS 8 old ++ leS 8 new ++ leBytes 2 s.fabric.root ++ [byte s.parentPort])

/-- SYNC (R426, R427, R431): arrived at `t2` on the own timeline; the DELAY_REQ to the parent leaves at `t3`. -/
def execSync (lane : Nat) (frame : Bytes) (t2 t3 : Int) (s : State) : Host.Outcome State Fault Refusal :=
  .next (s.onHop 0x02 20 lane frame fun s b =>
    let root := fld b 0 2
    let s := s.setFabLane lane fun x => { x with nRoot := some root, nDepth := fld b 2 1 }
    let s := { s with fabric := { s.fabric with lowerHeard := s.fabric.lowerHeard || decide (root < s.fabAddr) } }
    let s := s.chooseParent
    if s.fabric.parent = some lane then
      let s := s.takeOffset (fld b 4 8)
      let s := { s with fabric := { s.fabric with
        synced := true, noSync := 0, t1 := ofU 32 (fld b 12 4), t2 := t2, t3 := t3, syncOffset := ofU 32 (fld b 16 4) } }
      let n := s.neighbour lane
      (s.condition 182 false).sendFab lane (s.fabFrame 0x03 (32 * n.1 + n.2) s.fabEpoch 0 (zeros 4))
    else s)

/-- DELAY_REQ (R427): the parent answers with its arrival time T4. -/
def execDelayReq (lane : Nat) (frame : Bytes) (t4 : Int) (s : State) : Host.Outcome State Fault Refusal :=
  .next (s.onHop 0x03 4 lane frame fun s _ =>
    let n := s.neighbour lane
    s.sendFab lane (s.fabFrame 0x04 (32 * n.1 + n.2) s.fabEpoch 0 (leS 4 t4)))

/-- The length of the next tide from θ, ps (R428): within 10 µs the steering law is not stated, a free value; above, a slew. (DEDUCED, log 50) -/
def State.steer (s : State) (theta : Int) : State :=
  if theta.natAbs ≤ 10000000 then
    let n := 49995 + s.fresh .unstated 0 % 11
    { s.used with fabric := { s.fabric with nextCycles := n, slew := false } }
  else
    let phi := (theta + 500000000) % 1000000000 - 500000000
    let k := min (phi.natAbs / 20000) 250
    let n := if Config.phaseShortens = decide (0 < phi) then 50000 - k else 50000 + k
    { s with fabric := { s.fabric with nextCycles := n, slew := true } }

/-- DELAY_RESP (R427, R428): θ, and once per tide the steering of a controller that is not a standby. -/
def execDelayResp (lane : Nat) (frame : Bytes) (s : State) : Host.Outcome State Fault Refusal :=
  .next (s.onHop 0x04 4 lane frame fun s b =>
    let f := s.fabric
    if f.parent = some lane ∧ f.synced = true then
      let t4 := ofU 32 (fld b 0 4)
      let theta := tdiv ((f.t2 - f.t1) - (t4 - f.t3)) 2 + f.syncOffset
      let s := { s with fabric := { f with theta := theta, steered := true } }
      if s.role = 2 ∨ f.steered = true then s else s.steer theta
    else s)

/-- ROOT_ELECTION (R426): 10 tides without a SYNC that names a lower ROOT. The fabric epoch goes on (R431). -/
def execRootElection (s : State) : Host.Outcome State Fault Refusal :=
  .next (if s.fabOn ∧ s.fabric.isRoot = false ∧ 10 ≤ s.fabric.noLower then
    { s with fabric := { s.fabric with isRoot := true, root := s.fabAddr, depth := 0, parent := none, theta := 0 } }
    else s)

/-- What the fabric counts at a tide boundary: steering takes effect, sources 5 and 6, tides without a lower root. -/
def State.fabricTide (s : State) : State :=
  let f := s.fabric
  if s.fabOn then
    let run := if f.steered && decide (1000000 < f.theta.natAbs) then f.thetaRun + 1 else 0
    let noSync := if f.parent.isSome && !f.synced then f.noSync + 1 else 0
    let s := { s with
      fabric := { f with
        noLower := if f.lowerHeard then 0 else f.noLower + 1, lowerHeard := false, thetaRun := run, noSync := noSync
        synced := false, steered := false, nextCycles := 50000, slewNow := f.slew, slew := false
        seen := f.seen.filter fun x => decide (s.fabEpoch ≤ x.2.2 + 32000) }
      clocks := { s.clocks with tideCycles := f.nextCycles } }
    (s.lasting 181 (decide (10 ≤ run)) []).lasting 182 (decide (10 ≤ noSync)) []
  else { s with fabric := { f with slewNow := false, slew := false, nextCycles := 50000 }, clocks := { s.clocks with tideCycles := 50000 } }

/-! ### Records (R437) -/

/-- LANES_DOWN: used lanes that are down. -/
def State.lanesDown (s : State) : Nat := mapWhere 4 fun l => s.laneUsed l && !(s.fabLane l).up

/-- The SUMMARY record of a sealed snapshot (Table 16-6). -/
def State.summaryOf (s : State) (b : Bytes) (f : Nat) : Bytes :=
  let pol (q o n : Nat) : Nat := fld b (0x1040 + 16 * q + o) n
  let shelf (o n : Nat) : Nat := fld b (0x1240 + o) n
  let shed := mapWhere 32 fun q => decide (pol q 12 1 ≠ 0)
  let rects := (upto 40).filter fun k => decide (fld b (0x1280 + 16 * k + 12) 1 = 1)
  let pend (c : Nat) : Nat := fld b (0x2000 + 4 * c + 2) 2
  let down := s.lanesDown
  let flags := b2n (decide (fld b 0x14 1 = 8)) + 2 * b2n (bit (shelf 37 1) 0) + 4 * b2n (bit (shelf 37 1) 1)
    + 8 * b2n s.fabric.allowStale + 32 * b2n (decide (down ≠ 0)) + 64 * b2n (decide (pend 3 ≠ 0))
  let shunts := (upto 32).filter fun k => s.shuntEnable k = 1
  let busV := if shunts.isEmpty then 0 else sumN (shunts.map fun k => fld b (0x1900 + 8 * k + 4) 4) / shunts.length
  let weight := if s.reduces || (s.role = 2 && shelf 20 4 ≠ 0) then s.shelfFabricWeight else 0
  [byte s.shelfFabRow, byte s.shelfFabCol, byte (fld b 0x15 1), byte (fld b 0x14 1)] ++ leBytes 4 f ++ slice b 0x10 4
    ++ leBytes 2 flags ++ [byte down, byte rects.length] ++ slice b 0x1240 4 ++ slice b 0x1244 4 ++ slice b 0x1254 4
    ++ slice b 0x1258 4 ++ leBytes 2 weight ++ [byte ((mapList 32 shed).length), 0] ++ slice b 0x1250 4
    ++ leBytes 4 s.shelfFabricLimit ++ leSat 4 (sumN (rects.map s.rectRatedPower))
    ++ leSat 4 (sumN ((upto 32).map fun k => fld b (0x1500 + 32 * k + 22) 4)) ++ slice b 0x125C 4 ++ leBytes 4 shed
    ++ leSat 2 (busV / 10000) ++ leSat 2 (pend 2 + pend 3)

/-- The FULL record of a sealed snapshot (Table 16-7). -/
def State.fullRecord (s : State) (b summary : Bytes) : Bytes :=
  summary ++ ((upto 32).map fun q =>
    let o := 0x1040 + 16 * q
    let clamps := fld b (o + 13) 1
    slice b o 4 ++ [byte (fld b (o + 12) 1),
      byte (s.polEnable q % 2 + 2 * b2n (bit clamps 4) + 4 * (s.polPriority q % 16) + 64 * b2n (decide (fld b (o + 12) 1 ≠ 0))
        + 128 * b2n (decide (clamps % 16 ≠ 0)))]).flatten

/-- A record marked as older than the tide, with the own lanes (R437). -/
def State.staleRecord (s : State) (r : Bytes) : Bytes :=
  let down := s.lanesDown
  r.take 12 ++ leBytes 2 (setBit (setBit (fld r 12 2) 4 true) 5 (decide (down ≠ 0))) ++ [byte down] ++ r.drop 15

/-- The SUMMARY and FULL of the tide that ended: from the own sealed snapshot, or on a standby from its active's (R437); none
while a standby has had no record of its active's. (DEDUCED, log 47) -/
def State.ownRecords (s : State) (f : Nat) : Option (Bytes × Bytes) :=
  match s.ledger.snaps.find? fun x => decide (x.epoch = s.ext - 1) with
  | some x =>
    if s.role = 2 && !bit (fld x.bytes 3 1) 2 then
      (if s.fabric.lastSummary = [] then none else some (s.staleRecord s.fabric.lastSummary, s.staleRecord s.fabric.lastFull))
    else
      let m := s.summaryOf x.bytes f
      some (m, s.fullRecord x.bytes m)
  | none =>
    if s.fabric.lastSummary = [] then none else some (s.staleRecord s.fabric.lastSummary, s.staleRecord s.fabric.lastFull)

/-- A SUMMARY is the latest record of an address. (DEDUCED, log 48) -/
def State.noteSummary (s : State) (src f : Nat) (r : Bytes) : State :=
  if (Tab.get [] s.fabric.latest src).isEmpty || decide (Tab.get 0 s.fabric.latestEpoch src ≤ f) then
    { s with fabric := { s.fabric with
        latest := Tab.set [] s.fabric.latest src r, latestEpoch := Tab.set 0 s.fabric.latestEpoch src f } }
  else s

/-- A FULL record is the latest of a column. -/
def State.noteFull (s : State) (col f : Nat) (r : Bytes) : State :=
  if (Tab.get [] s.fabric.fulls col).isEmpty || decide (Tab.get 0 s.fabric.fullEpoch col ≤ f) then
    { s with fabric := { s.fabric with
        fulls := Tab.set [] s.fabric.fulls col r, fullEpoch := Tab.set 0 s.fabric.fullEpoch col f } }
  else s

/-- RECORD_ORIGINATE (R437, R425): 200 µs after a boundary; FULL goes along the row, SUMMARY along the row and the column. -/
def execRecordOriginate (s : State) : Host.Outcome State Fault Refusal :=
  .next (if s.fabOn ∧ s.wardenRuns ∧ s.clocks.running then
    let f := s.fabEnded
    match s.ownRecords f with
    | none => s
    | some (m, full) =>
      let fresh := fld m 4 4 = f % 2 ^ 32
      let s := { s with fabric := { s.fabric with lastSummary := m, lastFull := full } }
      let s := if fresh then (s.noteSummary s.fabAddr f m).noteFull s.shelfFabCol f full else s
      let s := ((s.broadcast 0x05 1 f m).broadcast 0x05 2 f m).broadcast 0x06 1 f full
      s.pushKind 0 (s.ext - 1) f fun _ => [full]
    else s)

/-- A SUMMARY delivered: after the seal of its epoch it is late (R438). A copy of a row broadcast seeds the column (R425). -/
def State.takeSummary (s : State) (frame : Bytes) (src f : Nat) (b : Bytes) : State :=
  let late := match s.fabric.sealedF with | some g => decide (f ≤ g) | none => false
  let s := s.noteSummary src f b
  let s := if late then s.raise 189 1 [] else s
  if fld frame 14 2 % 4 = 1 then s.sendBoth 2 fun ctrl => fabAgain frame (fld frame 1 1 - 1) ctrl else s

/-- FABRIC_SUMMARY (R425, R438). -/
def execFabricSummary (lane : Nat) (frame : Bytes) (s : State) : Host.Outcome State Fault Refusal :=
  .next (s.onBroadcast 0x05 64 lane frame fun s src f b => s.takeSummary frame src f b)

/-- FULL (R425, R438). -/
def execFull (lane : Nat) (frame : Bytes) (s : State) : Host.Outcome State Fault Refusal :=
  .next (s.onBroadcast 0x06 256 lane frame fun s src f b =>
    if src / 32 = s.shelfFabRow then s.noteFull (src % 32) f b else s)

/-! ### The reduction (R442 to R445) -/

/-- allocate of R444, in the widths it names: 64-bit budget and sums, 128-bit products. Where the weights of all children are 0
the quotient of the first branch has no value: `free` stands for it. -/
def allocate (b : Nat) (c : List (Nat × Nat × Nat)) (i free : Nat) : Nat :=
  let sd := sumN (c.map (·.1)) % 2 ^ 64
  let sf := sumN (c.map (·.2.1)) % 2 ^ 64
  let sw := sumN (c.map (·.2.2)) % 2 ^ 64
  let x := c.getD i (0, 0, 0)
  if sd ≤ b then (x.1 + (if sw = 0 then free else ((b - sd) * x.2.2) % 2 ^ 128 / sw % 2 ^ 64)) % 2 ^ 64
  else if sf ≤ b then
    (x.2.1 + ((b - sf) * ((x.1 + 2 ^ 64 - x.2.1) % 2 ^ 64)) % 2 ^ 128 / ((sd + 2 ^ 64 - sf) % 2 ^ 64) % 2 ^ 64) % 2 ^ 64
  else b * x.2.1 % 2 ^ 128 / sf % 2 ^ 64

/-- Column of the reduction root (R443). -/
def State.rootCol (s : State) : Nat := s.fabric.root % 32

/-- Is this member a row root: one of the root's column (R443)? -/
def State.rowRoot (s : State) : Bool := (s.fabric.isRoot || s.fabric.parent.isSome) && decide (s.shelfFabCol = s.rootCol)

/-- What a member's latest record brings to its row's sum: D, F, W and FABRIC_LIMIT; one that sends zeros is left out (R442). -/
def RowSum.ofRecord (r : Bytes) (delivered : Bool) : RowSum :=
  if r.isEmpty then { subst := 1 }
  else
    let d := fld r 0x18 4
    let f := fld r 0x1C 4
    let w := fld r 0x20 2
    let out := decide (d = 0) && decide (f = 0) && decide (w = 0)
    { count := 1, subst := b2n (!delivered), limitKw := if out then 0 else fld r 0x28 4, d := d, f := f, w := w }

/-- The least non-zero of a list, 0 where there is none. -/
def leastNonZero (l : List Nat) : Nat :=
  l.foldl (fun m x => if x = 0 then m else if m = 0 then x else min m x) 0

/-- Sums of a list. -/
def RowSum.total (l : List RowSum) : RowSum :=
  { count := sumN (l.map (·.count)), subst := sumN (l.map (·.subst)), limitKw := leastNonZero (l.map (·.limitKw))
    d := sumN (l.map (·.d)), f := sumN (l.map (·.f)), w := sumN (l.map (·.w)) }

/-- ROWSUM body (R445). -/
def RowSum.bytes (x : RowSum) (row : Nat) : Bytes :=
  [byte row, byte x.count, byte x.subst, 0] ++ leBytes 4 x.limitKw ++ leBytes 8 x.d ++ leBytes 8 x.f ++ leBytes 8 x.w

/-- A ROWSUM read back. -/
def RowSum.ofBytes (b : Bytes) : RowSum :=
  { count := fld b 1 1, subst := fld b 2 1, limitKw := fld b 4 4, d := fld b 8 8, f := fld b 16 8, w := fld b 24 8 }

/-- The latest ROWSUM of a row at the root. -/
def State.noteRowSum (s : State) (row f : Nat) (x : RowSum) : State :=
  { s with fabric := { s.fabric with
      rowSums := Tab.set {} s.fabric.rowSums row x, rowSumEpoch := Tab.set 0 s.fabric.rowSumEpoch row f } }

/-- Does a stage of the reduction run here (R447: not while the warden is halted)? -/
def State.stageRuns (s : State) : Bool := s.fabOn && s.wardenRuns && s.clocks.running

/-- ROW_SUM_STAGE (R443, step 2; R445). -/
def execRowSumStage (s : State) : Host.Outcome State Fault Refusal :=
  .next (if s.stageRuns ∧ s.rowRoot = true then
    let f := s.fabEnded
    let row := s.shelfFabRow
    let one (c : Nat) : RowSum :=
      let a := 32 * row + c
      RowSum.ofRecord (Tab.get [] s.fabric.latest a) (decide (Tab.get 0 s.fabric.latestEpoch a = f))
    let l := (upto s.shelfFabCols).map one
    let sum := RowSum.total l
    let s := { s with fabric := { s.fabric with
      memberD := (upto s.shelfFabCols).foldl (fun t c => Tab.set {} t c (one c)) [] } }
    if s.fabric.isRoot then s.noteRowSum row f sum else s.sendUnicast 0x07 s.fabric.root f (sum.bytes row)
    else s)

/-- ROWSUM (R445). -/
def execRowsum (lane : Nat) (frame : Bytes) (s : State) : Host.Outcome State Fault Refusal :=
  .next (s.onUnicast 0x07 32 lane frame fun s f b => s.noteRowSum (fld b 0 1) f (RowSum.ofBytes b))

/-- A row's allowance arrives at its row root. -/
def State.takeRowAllow (s : State) (f v : Nat) : State :=
  { s with fabric := { s.fabric with rowAllow := if v = 2 ^ 64 - 1 then none else some v, rowAllowEpoch := some f } }

/-- ROOT_ALLOCATE (R443, step 3; R444, R445): a row whose ROWSUM is missing enters with its latest, and is reported. -/
def execRootAllocate (s : State) : Host.Outcome State Fault Refusal :=
  .next (if s.stageRuns ∧ s.fabric.isRoot = true then
    let f := s.fabEnded
    let rows := upto s.shelfFabRows
    let sums := rows.map fun r => Tab.get ({} : RowSum) s.fabric.rowSums r
    let missing := rows.filter fun r => decide (Tab.get 0 s.fabric.rowSumEpoch r ≠ f)
    let b := leastNonZero (sums.map (·.limitKw)) * 10 ^ 6
    let agg := sums.map fun x => (x.d, x.f, x.w)
    let s0 := s
    let allow (r : Nat) : Nat := if b = 0 then 2 ^ 64 - 1 else allocate b agg r (s0.fresh .unstated r)
    let s := s.each missing fun s _ => s.raise 185 1 []
    (s.each rows fun s r =>
      if r = s.shelfFabRow then s.takeRowAllow f (allow r)
      else s.sendUnicast 0x08 (32 * r + s.shelfFabCol) f ([byte r, 0, 0, 0] ++ leBytes 8 (allow r))).used
    else s)

/-- ROWALLOC (R445). -/
def execRowalloc (lane : Nat) (frame : Bytes) (s : State) : Host.Outcome State Fault Refusal :=
  .next (s.onUnicast 0x08 12 lane frame fun s f b => s.takeRowAllow f (fld b 4 8))

/-- A member's allowance of its plane arrives; a standby relays it to its active (R445). -/
def State.takeAllowance (s : State) (f v : Nat) : State :=
  if s.wardenRuns then
    let s := { s with fabric := { s.fabric with pendAllow := some (v, f) } }
    if s.role = 2 then
      ({ s with fabric := { s.fabric with relayed := v } }).sendPeer 0x0D (leBytes 4 f ++ leBytes 4 v)
    else s
  else s

/-- ROW_ALLOCATE (R443, step 4; R444, R445): a row root without its ROWALLOC sends nothing and reports it. -/
def execRowAllocate (s : State) : Host.Outcome State Fault Refusal :=
  .next (if s.stageRuns ∧ s.rowRoot = true then
    let f := s.fabEnded
    if s.fabric.rowAllowEpoch ≠ some f then s.raise 185 1 []
    else
      let n := s.shelfFabCols
      let agg := (upto n).map fun c =>
        let x := Tab.get ({} : RowSum) s.fabric.memberD c
        (x.d, x.f, x.w)
      let s0 := s
      let one (c : Nat) : Nat :=
        if n ≤ c then s0.fresh .unstated (32 + c) % 2 ^ 32
        else match s0.fabric.rowAllow with
          | none => 0xFFFFFFFF
          | some b => min (allocate b agg c (s0.fresh .unstated c)) 0xFFFFFFFE
      let s := (s.used).broadcast 0x09 1 f ([byte s.shelfFabRow, 0, 0, 0] ++ ((upto 32).map fun c => leBytes 4 (one c)).flatten)
      s.takeAllowance f (one s.shelfFabCol)
    else s)

/-- MEMALLOC (R445). (DEDUCED, log 49) -/
def execMemalloc (lane : Nat) (frame : Bytes) (s : State) : Host.Outcome State Fault Refusal :=
  .next (s.onBroadcast 0x09 132 lane frame fun s _ f b =>
    if fld b 0 1 = s.shelfFabRow then s.takeAllowance f (fld b (4 + 4 * s.shelfFabCol) 4) else s)

/-- ALLOWANCE_RELAY (R445): the active receives its standby's plane allowance. -/
def execAllowanceRelay (frame : Bytes) (s : State) : Host.Outcome State Fault Refusal :=
  .next (s.onFrame 0x0D (fun n => n = 8) frame fun s b =>
    if s.role = 1 then
      { s with fabric := { s.fabric with pendRelay := some (fld b 4 4, fld b 0 4), relayed := fld b 4 4 } }
    else s)

/-- Do two plane allowances differ by more than 1 % (R445)? (DEDUCED, log 51) -/
def allowancesDisagree (a b : Nat) : Bool := decide (max a b < 100 * (max a b - min a b))

/-- The allowance of the reduction that ended takes effect at the boundary of step 5 (R443, R445): the lesser of those of both
planes; with none, the one in force is held. (DEDUCED, log 51) -/
def State.allowanceTide (s : State) : State :=
  if s.fabOn && s.reduces && s.wardenRuns then
    let f := (((s.fabEpoch : Int) - 2) % 2 ^ 64).toNat
    let mine := match s.fabric.pendAllow with | some x => if x.2 = f then some x.1 else none | none => none
    let other := match s.fabric.pendRelay with | some x => if x.2 = f % 2 ^ 32 then some x.1 else none | none => none
    let s := { s with fabric := { s.fabric with pendAllow := none, pendRelay := none } }
    let n := match mine, other with
      | some a, some b => if allowancesDisagree a b then s.fabric.disagree + 1 else 0
      | _, _ => s.fabric.disagree
    let s := { s with fabric := { s.fabric with disagree := n } }
    let s := s.lasting 191 (decide (10 ≤ n)) []
    match (mine.toList ++ other.toList) with
    | a :: t =>
      { s with fabric := { s.fabric with
          allow := t.foldl min a, allowEpoch := f % 2 ^ 32, held := 0, allowStale := false, holdDue := false } }
    | [] => { s with fabric := { s.fabric with holdDue := true } }
  else s

/-- ALLOWANCE_HOLD (R445): a tide without an allowance keeps the one in force; the tenth raises source 10. (DEDUCED, log 51) -/
def execAllowanceHold (s : State) : Host.Outcome State Fault Refusal :=
  .next (if s.fabric.holdDue then
    let n := s.fabric.held + 1
    let s := { s with fabric := { s.fabric with holdDue := false, held := n, allowStale := true } }
    if n = 10 then s.raise 186 1 [] else s
    else s)

/-! ### The fabric seal (R438) -/

/-- Addresses of the rectangle. -/
def State.fabMembers (s : State) : List Nat :=
  ((upto s.shelfFabRows).map fun r => (upto s.shelfFabCols).map fun c => 32 * r + c).flatten

/-- The records of up to 16 addresses at a time. -/
def groupsOf16 : Nat → List Nat → List (List Nat)
  | 0, _ => []
  | _ + 1, [] => []
  | n + 1, l => l.take 16 :: groupsOf16 n (l.drop 16)

/-- Pushes of a fabric snapshot, of some addresses. -/
def FabSnap.pushes (x : FabSnap) (l : List Nat) : List Bytes :=
  (groupsOf16 (l.length + 1) l).map fun g => (g.map fun a => recPad 64 (Tab.get [] x.summaries a)).flatten

/-- The fabric snapshot of `f` is sealed. (DEDUCED, log 48) -/
def State.sealFabric (s : State) (f us : Nat) : State :=
  let fb := s.fabric
  let got := s.fabMembers.filter fun a => decide (Tab.get 0 fb.latestEpoch a = f) && !(Tab.get [] fb.latest a).isEmpty
  let rows := (upto s.shelfFabCols).filter fun c => decide (Tab.get 0 fb.fullEpoch c = f) && !(Tab.get [] fb.fulls c).isEmpty
  let x : FabSnap :=
    { epoch := f, present := got.foldl (fun t a => Tab.set false t a true) []
      rowPresent := rows.foldl (fun t a => Tab.set false t a true) [], summaries := fb.latest, fulls := fb.fulls, sealUs := us }
  let t := s.ledger.fabs ++ [x]
  let members := s.fabMembers
  let s := s.ledgerStored [(1, 8192), (2, 65536), (3, 128), (4, 4)] f
  let s := { s with ledger := { s.ledger with fabs := t.drop (t.length - 4) }, fabric := { fb with sealedF := some f } }
  let s := s.pushKind 2 (s.ext - 1) f fun y => x.pushes (members.filter fun a => decide (a / 32 = y.row))
  let s := s.pushKind 3 (s.ext - 1) f fun _ => x.pushes members
  if got.length < members.length then s.raise 188 1 [] else s

/-- FABRIC_SEAL (R438): with every summary delivered, or 400 µs after the boundary. -/
def execFabricSeal (us : Nat) (s : State) : Host.Outcome State Fault Refusal :=
  .next (if s.fabOn ∧ s.clocks.running then
    let f := s.fabEnded
    let all := s.fabMembers.all fun a => decide (a = s.fabAddr) || (decide (Tab.get 0 s.fabric.latestEpoch a = f)
      && !(Tab.get [] s.fabric.latest a).isEmpty)
    if s.fabric.sealedF ≠ some f ∧ (all = true ∨ 400 ≤ us) then s.sealFabric f us else s
    else s)

end Sys2Proof.Machine
end

