-- ==== Sys2Proof/Machine/Jtag.lean ====
section
/-! DEFINITION. The TAP, the debug access port, halting and the hardware semaphores (R89, R90, R561 to R567). -/
namespace Sys2Proof.Machine

/-! ### TAP instructions -/

/-- Is the TAP powered: in the firmware modes, and while a scan instruction holds the chip? -/
def State.tapOn (s : State) : Bool := s.mode.firmware || s.dbg.scanHold

/-- An instruction is in force. -/
def State.setInstr (s : State) (code : Nat) : State := { s with dbg := { s.dbg with instr := code } }

/-- A code that is not permitted, or unknown, selects BYPASS and raises source 286 (R561). -/
def State.instrRefused (s : State) : State := (s.setInstr 0xFF).raise 286 1 []

/-- Bits shifted out. -/
def State.shiftOut (s : State) (d : Bytes) : State := s.send (.jtag d)

/-- TAP_RESET (R561, R562): IDCODE is selected; a scan hold ends, and the fresh wake series follows. (PRESUMED, log 43) -/
def execTapReset (s : State) : Host.Outcome State Fault Refusal :=
  .next (let t := s.setInstr 0x02
    if s.dbg.scanHold then
      let t := { t with
        dbg := { t.dbg with scanHold := false }, power := { t.power with domains := domainMap [1] }
        otp := t.otp.unpowered }
      t.startPending
    else t)

/-- Codes of the other instructions of Table 21-3, which are commands of their own. -/
def tapCode (code : Nat) : Bool := (decide (2 ≤ code) && decide (code ≤ 9)) || decide (code = 0x10)

/-- BYPASS, or a code that Table 21-3 does not hold (R561). -/
def execBypass (code : Nat) (s : State) : Host.Outcome State Fault Refusal :=
  .next (if !s.tapOn || tapCode code then s else if code = 0xFF then s.setInstr 0xFF else s.instrRefused)

/-- IDCODE (R561). -/
def execIdcode (s : State) : Host.Outcome State Fault Refusal :=
  .next (if s.tapOn then (s.setInstr 0x02).shiftOut (leBytes 4 0x2812855B) else s)

/-- SAMPLE/PRELOAD (R561): the cells are preloaded; what they capture follows the pins in the order of the BSDL file, which
the spec does not give: free values. (DESIGN CHOICE, log 44) -/
def execSamplePreload (cells : Bytes) (s : State) : Host.Outcome State Fault Refusal :=
  .next (if s.tapOn then
    let t := (s.setInstr 0x03).shiftOut ((upto cells.length).map fun i => byte (s.fresh .unstated i))
    ({ t with dbg := { t.dbg with boundary := cells } }).used
    else s)

/-- The gate action of an immediate chip reset, and every domain but always-on, OTP and TAP in reset (R75, R562): the OTP
keeps its latches. -/
def State.scanEnter (s : State) : State :=
  if s.dbg.scanHold then s
  else
    let m := s.modeCode
    let t := (s.lowAll .off).resetToKeep m
    { t with
      dbg := { t.dbg with scanHold := true }, otp := s.otp.interrupted
      power := { t.power with domains := domainMap [1, 20] } }

/-- A scan instruction reaches Update-IR (R561, R562): permitted at the open level. -/
def State.scanInstr (s : State) (code : Nat) : State :=
  if !s.tapOn then s
  else if s.otp.debugLevel = 0 then s.scanEnter.setInstr code
  else s.instrRefused

/-- EXTEST (R562). -/
def execExtest (s : State) : Host.Outcome State Fault Refusal := .next (s.scanInstr 0x04)
/-- INTEST (R562). -/
def execIntest (s : State) : Host.Outcome State Fault Refusal := .next (s.scanInstr 0x05)
/-- CLAMP (R562). -/
def execClamp (s : State) : Host.Outcome State Fault Refusal := .next (s.scanInstr 0x06)
/-- HIGHZ (R562). -/
def execHighz (s : State) : Host.Outcome State Fault Refusal := .next (s.scanInstr 0x07)
/-- EXTEST_PULSE (R562). -/
def execExtestPulse (s : State) : Host.Outcome State Fault Refusal := .next (s.scanInstr 0x08)
/-- EXTEST_TRAIN (R562). -/
def execExtestTrain (s : State) : Host.Outcome State Fault Refusal := .next (s.scanInstr 0x09)

/-- DAPACC (R90, R561), with the level of DBGEN as it is loaded. (DESIGN CHOICE, log 44) -/
def execDapacc (dbgen : Bool) (s : State) : Host.Outcome State Fault Refusal :=
  .next (let t := { s with power := { s.power with dbgen := dbgen } }
    if !s.tapOn then t
    else if dbgen && decide (s.otp.debugLevel < 2) then t.setInstr 0x10
    else t.instrRefused)

/-! ### Debug access port -/

/-- In Service under an open service session (R90)? -/
def State.inService (s : State) : Bool :=
  decide (s.mode = .service) && decide ((s.sesAt s.power.serviceSession).state = SessState.openS)

/-- Does R90 permit more than quiet reads: the open level, or Service at the service-only level; never with DBGEN low? (DESIGN CHOICE, log 44) -/
def State.debugPermits (s : State) : Bool :=
  s.power.dbgen && (decide (s.otp.debugLevel = 0) || (decide (s.otp.debugLevel = 1) && s.inService))

/-- The access is captured: its word, and bit 31 of the lower word on error (R563). -/
def State.dapResult (s : State) (space addr op : Nat) (err : Bool) (value : Nat) : State :=
  let r := addr % 2 ^ 24 + space % 2 * 2 ^ 24 + op * 2 ^ 25 + b2n err * 2 ^ 31 + value % 2 ^ 32 * 2 ^ 32
  { (s.shiftOut (leBytes 8 r)) with dbg := { s.dbg with result := r } }

/-- A refused access raises source 286. -/
def State.dapRefused (s : State) (space addr op : Nat) : State := (s.dapResult space addr op true 0).raise 286 1 []

/-- Is an address an aligned word of a space that answers? -/
def State.dapMapped (s : State) (space addr : Nat) : Bool :=
  decide (addr % 4 = 0) && s.mode.firmware && (decide (space % 2 = 1) || s.portAlive)

/-- A read of a word; a quiet one changes nothing (R12). The content of the warden debug space is not given: a free value. (DESIGN CHOICE, log 44) -/
def State.dapReadWord (s : State) (space addr op : Nat) : State :=
  if !s.dapMapped space addr then s.dapResult space addr op true 0
  else if space % 2 = 1 then (s.dapResult space addr op false (s.fresh .unstated 0)).used
  else
    let r := s.readAll (addr % 2 ^ 24) 4
    (if op = 1 then s else r.1).dapResult space addr op (decide (r.2.1 ≠ 0)) (leVal r.2.2)

/-- DAP_READ (R563). -/
def execDapRead (space addr : Nat) (s : State) : Host.Outcome State Fault Refusal :=
  .next (if !s.tapOn || s.dbg.instr ≠ 0x10 then s
    else if s.debugPermits then s.dapReadWord space addr 0
    else s.dapRefused space addr 0)

/-- DAP_QUIET_READ (R12, R90, R563). -/
def execDapQuietRead (space addr : Nat) (s : State) : Host.Outcome State Fault Refusal :=
  .next (if !s.tapOn || s.dbg.instr ≠ 0x10 then s
    else if s.power.dbgen && decide (s.otp.debugLevel < 2) then s.dapReadWord space addr 1
    else s.dapRefused space addr 1)

/-- DAP_WRITE (R563). What a write of the warden debug space does is not given: the words written are held, and the
breakpoints are free values after it. -/
def execDapWrite (space addr value : Nat) (s : State) : Host.Outcome State Fault Refusal :=
  .next (if !s.tapOn || s.dbg.instr ≠ 0x10 then s
    else if !s.debugPermits then s.dapRefused space addr 2
    else if !s.dapMapped space addr then s.dapResult space addr 2 true value
    else if space % 2 = 1 then
      let t := { s with dbg := { s.dbg with
        wardenSpace := Tab.set 0 s.dbg.wardenSpace (addr % 2 ^ 24) (value % 2 ^ 32), breakpoints := s.fresh .unstated 0 } }
      (t.dapResult space addr 2 false value).used
    else
      let r := s.writeCut (addr % 2 ^ 24, 0, leBytes 4 value)
      r.1.alertSettle.dapResult space addr 2 (decide (r.2 ≠ 0)) value)

/-- DBGEN_FALL (R567). -/
def execDbgenFall (s : State) : Host.Outcome State Fault Refusal :=
  .next (State.drainUnknown 16 ({ s with power := { s.power with dbgen := false } }).releaseHalts)

/-! ### Halting -/

/-- HALT_REQUEST (R564, R566): outside Service, a halted core raises source 305 and stops ALIVE (R489). (DESIGN CHOICE, log 44) -/
def execHaltRequest (pair : Nat) (s : State) : Host.Outcome State Fault Refusal :=
  .next (if 1 < pair || !s.mode.firmware then s
    else if !s.debugPermits then s.raise 304 1 [byte pair]
    else
      let t := { s with
        dbg := { s.dbg with halted := setBit s.dbg.halted pair true }
        boot := { s.boot with watchdogPaused := true } }
      if s.mode = .service then t
      else (({ t with power := { t.power with alive := false } }).begin_ 305 1 [byte pair]))

/-- HALT_RELEASE (R566): the watchdog resumes with a full period once no pair is halted; then the responses held are written and the
requests that need no row are answered (R21, R120). -/
def execHaltRelease (pair : Nat) (s : State) : Host.Outcome State Fault Refusal :=
  .next (let t := { s with dbg := { s.dbg with halted := setBit s.dbg.halted pair false } }
    if pair < 2 ∧ bit s.dbg.halted pair = true then
      if t.dbg.halted = 0 then
        State.drainUnknown 16 (({ t with boot := { t.boot with watchdogPaused := false } }).condition 305 false).flushReplies
      else t
    else s)

/-- SEMAPHORE_TIMEOUT (R565): semaphore `n`, held by a core of `pair` for more than 10 ms, is released; its region is
restored, and the holder meets a bus error at its next access. -/
def execSemaphoreTimeout (n pair : Nat) (s : State) : Host.Outcome State Fault Refusal :=
  .next (if n < 32 ∧ pair < 2 ∧ s.mode.firmware then
    let sem : Semaphore := Tab.get {} s.dbg.semaphores n
    let sem : Semaphore := { sem with holder := none, region := sem.copy, busError := true }
    ({ s with dbg := { s.dbg with semaphores := Tab.set {} s.dbg.semaphores n sem } }).raise 300 1 [byte n, byte pair]
    else s)

end Sys2Proof.Machine
end

