-- ==== Sys2Proof/Machine/TwoWire.lean ====
section
/-! DEFINITION. The two-wire ports (chapter 20): controller service with the legacy rectifiers (R316, R317), the target
command set, TW0's mailbox transport and the always-on responder, and the orders of group 0x0E. -/
namespace Sys2Proof.Machine

/-! ### PEC and number formats -/

/-- One byte into the SMBus CRC-8 (R531), polynomial x^8 + x^2 + x + 1. (PRESUMED, log 35) -/
def crc8Step (c : Nat) (b : Byte) : Nat :=
  (upto 8).foldl (fun c _ => if bit c 7 then (2 * c % 256) ^^^ 7 else 2 * c) (c ^^^ b.toNat)

/-- The PEC byte of a transaction. -/
def pecOf (l : Bytes) : Byte := byte (l.foldl crc8Step 0)

/-- `m` × 2^`e` × `k`, truncated toward zero (R542). -/
def scaled (m e : Int) (k : Nat) : Int :=
  if 0 ≤ e then m * (k : Int) * 2 ^ e.toNat else Int.tdiv (m * (k : Int)) (2 ^ (-e).toNat)

/-- A LINEAR11 word in units of 1/`k`. (PRESUMED, log 35) -/
def linear11 (w k : Nat) : Int := scaled (ofU 11 (w % 2048)) (ofU 5 (w / 2048 % 32)) k

/-- A LINEAR16 word in µV under exponent `e`. (PRESUMED, log 35) -/
def linear16 (w : Nat) (e : Int) : Int := scaled (w % 65536 : Nat) e 1000000

/-- Exponent of a VOUT_MODE byte, none where it is not LINEAR16. -/
def voutExponent (b : Nat) : Option Int := if b / 32 % 8 = 0 then some (ofU 5 (b % 32)) else none

/-- A value of a signed 32-bit field; the spec gives none for a reading that does not fit it. (DEDUCED, log 36) -/
def State.fit32 (s : State) (v : Int) : Int :=
  if -(2 ^ 31) ≤ v ∧ v < 2 ^ 31 then v else wrapS 32 (s.fresh .unstated 0 : Nat)

/-! ### Controller transactions -/

/-- Modes in which a port runs controller transactions (R541). -/
def Mode.controls : Mode → Bool
  | .configure | .run | .rideThrough | .safeHold | .service => true
  | _ => false

/-- Is TW`n` a powered and enabled port out of reset? -/
def State.twOn (s : State) (n : Nat) : Bool :=
  decide (1 ≤ n) && decide (n < 8) && bit s.shelfTwEnable n && s.domain 19 && !s.held 15

/-- Does a port run controller transactions (R541)? -/
def State.twControls (s : State) (n : Nat) : Bool := s.twOn n && s.mode.controls && (s.token || !s.partner)

/-- The enabled TWDEV of a port and address. -/
def State.devOn (s : State) (port addr : Nat) : Option Nat :=
  firstN (fun d => decide (s.devEnable d = 1) && decide (s.devPort d = port) && decide (s.devAddress d = addr)) (upto 64)

/-- A transaction with a TWDEV as it goes on the bus: address, PROTOCOL of R517, command, PEC, bytes to write. -/
def State.devFrame (s : State) (d proto cmd : Nat) (w : Bytes) : Bytes :=
  [byte (s.devAddress d), byte proto, byte cmd, byte (s.devPec d)] ++ w

/-- Parts of a legacy service (R316): VOUT_MODE, STATUS_WORD, READ_IOUT, READ_VOUT, READ_PIN, READ_TEMPERATURE_1,
STATUS_INPUT, VOUT_COMMAND, OPERATION. -/
def State.legacyFrame (s : State) (k part : Nat) : Bytes :=
  let d := s.rectTwdev k
  match part with
  | 0 => s.devFrame d 3 0x20 []
  | 1 => s.devFrame d 4 0x79 []
  | 2 => s.devFrame d 4 0x8C []
  | 3 => s.devFrame d 4 0x8B []
  | 4 => s.devFrame d 4 0x97 []
  | 5 => s.devFrame d 4 0x8D []
  | 6 => s.devFrame d 3 0x7C []
  | 7 => s.devFrame d 2 0x21 (leBytes 2 (s.rectAt k).vcmd.toNat)
  | _ => s.devFrame d 1 0x01 [byte ((s.rectAt k).opDue.getD 0)]

/-- A transaction as it goes on the bus; PROTOCOL 9 is a receive byte. -/
def State.twFrame (s : State) : TwUse → Bytes
  | .alert => [0x0C, 9, 0, 0]
  | .alertStatus d => s.devFrame d 4 0x79 []
  | .legacy k part => s.legacyFrame k part
  | .sensorPage k => s.devFrame (s.sensorTwdev k) 1 0x00 [byte (s.sensorPage k)]
  | .sensorMode k => s.devFrame (s.sensorTwdev k) 3 0x20 []
  | .sensor k => s.devFrame (s.sensorTwdev k) 4 (s.sensorCommand k) []
  | .transfer mb =>
    let p := (s.request mb).payload
    [p.getD 1 0, p.getD 2 0, p.getD 3 0, p.getD 4 0] ++ (p.drop 8).take (fld p 5 1)

/-- The TWDEV or SENSOR index of a transaction in an event's DATA (R545). -/
def State.twIndex (s : State) (port : Nat) (u : TwUse) : Option Nat :=
  match u with
  | .alert => none
  | .alertStatus d => some d
  | .legacy k _ => some (s.rectTwdev k)
  | .sensorPage k | .sensorMode k | .sensor k => some k
  | .transfer _ => s.devOn port ((s.twFrame u).getD 0 0).toNat

/-- The TWDEV a transaction addresses. -/
def State.twDevice (s : State) (port : Nat) (u : TwUse) : Option Nat :=
  match u with
  | .sensorPage k | .sensorMode k | .sensor k => some (s.sensorTwdev k)
  | u => s.twIndex port u

/-- Raise an event of a port: DATA is the address, the command and the index (R545); where a part has no value in the
transaction, it is a free value. -/
def State.twEvent (s : State) (port ev : Nat) (addr : Nat) (cmd idx : Option Nat) : State :=
  (s.raise (264 + port) ev [byte addr, byte (cmd.getD (s.fresh .unstated 0)), byte (idx.getD (s.fresh .unstated 1))]).used

/-- Raise an event of a controller transaction. -/
def State.twUseEvent (s : State) (port ev : Nat) (u : TwUse) : State :=
  let f := s.twFrame u
  let cmd := match u with | .alert => none | _ => some (f.getD 2 0).toNat
  s.twEvent port ev (f.getD 0 0).toNat cmd (s.twIndex port u)

/-- Uses that wait while the warden is halted (R550): all but alert handling. -/
def TwUse.waits : TwUse → Bool
  | .alert | .alertStatus _ => false
  | _ => true

/-- Start the transaction at the front of a port's queue, once the one before it and a transaction as target have ended;
a VOUT_COMMAND is computed now (R317). While the warden is halted only alert handling starts (R550). A port that may not
initiate gives its TW.TRANSFER orders back and drops the rest. (DEDUCED, log 38) -/
def State.twStart (s : State) (port : Nat) : State :=
  let p := s.twAt port
  if s.twControls port then
    match p.queue.head? with
    | none => s
    | some u =>
      if p.targetBusy || p.running || (s.anyHalted && u.waits) then s
      else
        let s := match u with
          | .legacy k 7 => s.legacyCommand k (s.rectAt k).iOut
          | _ => s
        (s.setTw port fun p => { p with running := true }).send (.twoWire port (s.twFrame u))
  else
    let back := p.queue.filterMap fun u => match u with | .transfer mb => some mb | _ => none
    s.setTw port fun p => { p with queue := [], retries := 0, running := false, transfers := back ++ p.transfers }

/-- The transaction at the front is over, those that `drop` names with it; the next one starts. -/
def State.twNext (s : State) (port : Nat) (drop : TwUse → Bool) : State :=
  (s.setTw port fun p =>
    { p with queue := (p.queue.drop 1).filter fun u => !drop u, retries := 0, running := false }).twStart port

/-! ### Ends of transactions -/

/-- Uses of the sensor `k`. -/
def ofSensor (k : Nat) (u : TwUse) : Bool :=
  match u with
  | .sensorPage j | .sensorMode j | .sensor j => decide (j = k)
  | _ => false

/-- Uses of the legacy service of rectifier `k`. -/
def ofLegacy (k : Nat) (u : TwUse) : Bool := match u with | .legacy j _ => decide (j = k) | _ => false

/-- A sensor fails (R542). -/
def State.sensorFails (s : State) (port : Nat) (u : TwUse) (k : Nat) : State :=
  let s := s.setTwDev (s.sensorTwdev k) fun d => { d with state := 2 }
  (s.setSensor k fun x => { x with state := 3 }).twUseEvent port 4 u

/-- A legacy rectifier fails (R316, R317). -/
def State.legacyFails (s : State) (port : Nat) (u : TwUse) (k : Nat) : State :=
  let s := s.setTwDev (s.rectTwdev k) fun d => { d with state := 2 }
  (s.setRect k fun r => { r with state := if r.withdrawn then 6 else 5 }).twUseEvent port 3 u

/-- A transaction of a sensor failed (R542): the third in a row fails the sensor. -/
def State.sensorMiss (s : State) (port : Nat) (u : TwUse) (k : Nat) : State :=
  let s := s.setSensor k fun x => { x with failures := (x.failures + 1) % 2 ^ 32, failRun := x.failRun + 1 }
  if (s.sensorAt k).failRun = 3 then s.sensorFails port u k else s

/-- A transaction of a legacy service failed (R317): the third in a row fails the rectifier. -/
def State.legacyMiss (s : State) (port : Nat) (u : TwUse) (k : Nat) : State :=
  let s := s.setRect k fun r => { r with failRun := r.failRun + 1 }
  if (s.rectAt k).failRun = 3 then s.legacyFails port u k else s

/-- The transaction at the front ends with a RESULT of R517 other than 0: counted, and what it was for fails with it. (DESIGN CHOICE, log 34) -/
def State.twFailed (s : State) (port result : Nat) (u : TwUse) (data : Bytes) : State :=
  let s := if result = 4 then s else s.setTw port fun p => { p with errors := (p.errors + 1) % 2 ^ 16 }
  let s := match s.twDevice port u with
    | some d => s.setTwDev d fun x =>
      { x with
        nacks := if result = 1 ∨ result = 2 then (x.nacks + 1) % 2 ^ 32 else x.nacks
        pecErrors := if result = 3 then (x.pecErrors + 1) % 2 ^ 32 else x.pecErrors }
    | none => s
  let s := if result = 3 then s.twUseEvent port 2 u else s
  match u with
  | .alert | .alertStatus _ => s.twNext port fun _ => false
  | .legacy k _ => (s.legacyMiss port u k).twNext port (ofLegacy k)
  | .sensorPage k | .sensorMode k | .sensor k => (s.sensorMiss port u k).twNext port (ofSensor k)
  | .transfer mb =>
    (s.finish mb .ok ([byte result, byte data.length, 0, 0] ++ data)).twNext port fun _ => false

/-- A reading of a sensor in the unit of VALUE (R542). -/
def State.sensorReading (s : State) (k w : Nat) : Int :=
  match s.sensorKind k with
  | 0 => linear11 w 100
  | 1 => linear11 w 1
  | 2 => linear16 w ((s.sensorAt k).mode.getD 0)
  | _ => linear11 w 1000

/-- A sensor is read well (R542). (DEDUCED, log 36) -/
def State.sensorRead (s : State) (port : Nat) (u : TwUse) (k w : Nat) : State :=
  let v := s.fit32 (s.sensorReading k w)
  let warn := decide (s.sensorWarnHigh k < v) || decide (v < s.sensorWarnLow k)
  let e := s.clocks.epoch
  let s := (s.setSensor k fun x =>
    { x with value := v, valueEpoch := e, state := if warn then 2 else 1, failRun := 0, read := true }).used
  if warn then s.twUseEvent port 5 u else s

/-- VOUT_MODE of a sensor (R542): other than LINEAR16, the sensor fails. (DEDUCED, log 36) -/
def State.sensorModeRead (s : State) (port : Nat) (u : TwUse) (k b : Nat) : State :=
  match voutExponent b with
  | some e => (s.setSensor k fun x => { x with mode := some e }).twNext port fun _ => false
  | none => ((s.setSensor k fun x => { x with badMode := true }).sensorFails port u k).twNext port (ofSensor k)

/-- The reads of a legacy service are complete: the rectifier's report (R313, R316). (PRESUMED, log 35) -/
def State.legacyReport (s : State) (k : Nat) (acLost : Bool) : State :=
  let r := s.rectAt k
  let s := if r.joined then s else s.rectJoin k
  s.rectReport k r.iOut r.vOut r.pIn acLost (!bit (s.twDevAt (s.rectTwdev k)).lastStatus 6) false

/-- A part of a legacy service went well (R316). -/
def State.legacyPart (s : State) (port k part : Nat) (data : Bytes) : State :=
  let w := fld data 0 2
  let b := fld data 0 1
  let next (s : State) : State := s.twNext port fun _ => false
  match part with
  | 0 =>
    match voutExponent b with
    | some e => next (s.setRect k fun r => { r with voutMode := some e })
    | none =>
      ((s.setRect k fun r => { r with badVout := true }).legacyFails port (.legacy k 0) k).twNext port (ofLegacy k)
  | 1 =>
    let s := s.setTwDev (s.rectTwdev k) fun d => { d with lastStatus := w }
    let s := if bit w 13 then s else s.setTw port fun p => { p with queue := p.queue.filter fun u => decide (u ≠ .legacy k 6) }
    next s
  | 2 =>
    let v := s.fit32 (linear11 w 1000)
    next (s.setRect k fun r => { r with iOut := v }).used
  | 3 =>
    let v := linear16 w ((s.rectAt k).voutMode.getD 0)
    let v := if v < 2 ^ 32 then v.toNat else s.fresh .unstated 0 % 2 ^ 32
    next (s.setRect k fun r => { r with vOut := v }).used
  | 4 =>
    let v := s.fit32 (linear11 w 1000)
    next (s.setRect k fun r => { r with pIn := v }).used
  | 5 =>
    next (if (s.twAt port).queue.any fun u => decide (u = .legacy k 6) then s else s.legacyReport k false)
  | 6 => next (s.legacyReport k (bit b 4 || bit b 5))
  | 7 => next (s.setRect k fun r => { r with failRun := 0 })
  | _ => next (s.setRect k fun r => { r with opDue := none })

/-- An alert response came (R543): STATUS_WORD of an enabled TWDEV is read next, and event 6 is raised. (DEDUCED, log 36) -/
def State.alertCame (s : State) (port : Nat) (data : Bytes) : State :=
  let addr := fld data 0 1 / 2
  match s.devOn port addr with
  | some d =>
    let s := s.twEvent port 6 addr (some 0x79) (some d)
    (s.setTw port fun p => { p with queue := .alert :: .alertStatus d :: p.queue.drop 1 }).twNext port fun _ => false
  | none => (s.twEvent port 6 addr none none).twNext port fun _ => false

/-- The transaction at the front ends well. (DEDUCED, log 36) -/
def State.twDone (s : State) (port : Nat) (u : TwUse) (data : Bytes) : State :=
  let s := match s.twDevice port u with
    | some d => s.setTwDev d fun x => { x with state := 1 }
    | none => s
  match u with
  | .alert => s.alertCame port data
  | .alertStatus d => (s.setTwDev d fun x => { x with lastStatus := fld data 0 2 }).twNext port fun _ => false
  | .legacy k part => s.legacyPart port k part data
  | .sensorPage _ => s.twNext port fun _ => false
  | .sensorMode k => s.sensorModeRead port u k (fld data 0 1)
  | .sensor k => (s.sensorRead port u k (fld data 0 2)).twNext port fun _ => false
  | .transfer mb => (s.finish mb .ok ([0, byte data.length, 0, 0] ++ data)).twNext port fun _ => false

/-- The bytes of a transaction as controller over which the PEC byte of a read is computed (R531): every byte of the
transaction, address bytes included; none for a transaction that reads nothing or carries no PEC. -/
def pecBytes (frame data : Bytes) : Option Bytes :=
  let a := (frame.getD 0 0).toNat
  let w := frame.drop 4
  let head := [byte (2 * a), frame.getD 2 0]
  let n := byte data.length
  if frame.getD 3 0 = 0 then none
  else match (frame.getD 1 0).toNat with
    | 3 | 4 => some (head ++ [byte (2 * a + 1)] ++ data)
    | 6 => some (head ++ [byte (2 * a + 1), n] ++ data)
    | 7 => some (head ++ w ++ [byte (2 * a + 1)] ++ data)
    | 8 => some (head ++ [byte w.length] ++ w ++ [byte (2 * a + 1), n] ++ data)
    | _ => none

/-- RESULT of a transaction whose addresses and data were taken (R517): 3 where the PEC byte read is not the CRC-8 of the
bytes before it. -/
def readResult (frame data : Bytes) (pec : Nat) : Nat :=
  match pecBytes frame data with
  | some l => if pecOf l = byte pec then 0 else 3
  | none => 0

/-- TW_TRANSACTION_END (R316, R317, R517, R542): `result` is 1 for a NACK of the address, 2 of data, 3 of the PEC byte
written, and 0 for none of them; the bytes read are `data`, the PEC byte read after them is `pec`. -/
def execTwTransactionEnd (port : Nat) (result : Nat) (data : Bytes) (s : State) (pec : Nat := 0) : Host.Outcome State Fault Refusal :=
  .next (match (s.twAt port).queue.head? with
    | some u =>
      if !(s.twAt port).running || 3 < result || 255 < data.length then s
      else
        let r := if result = 0 then readResult (s.twFrame u) data pec else result
        if r = 0 then s.twDone port u data else s.twFailed port r u data
    | none => s)

/-! ### Windows -/

/-- Enabled legacy rectifiers served on a port, in ascending TWDEV order (R541). -/
def State.legacyOn (s : State) (port : Nat) : List Nat :=
  sortBy s.rectTwdev (s.enabledRects.filter fun k =>
    legacyRect k && decide (s.devEnable (s.rectTwdev k) = 1) && decide (s.devPort (s.rectTwdev k) = port) && !(s.rectAt k).badVout)

/-- The transactions of one legacy service (R316). -/
def State.legacyUses (s : State) (k : Nat) : List TwUse :=
  let r := s.rectAt k
  (if r.voutMode.isNone then [TwUse.legacy k 0] else [])
    ++ [.legacy k 1, .legacy k 2, .legacy k 3, .legacy k 4, .legacy k 5, .legacy k 6, .legacy k 7]
    ++ (if r.opDue.isSome then [TwUse.legacy k 8] else [])

/-- Enabled sensors of a port. -/
def State.sensorsOn (s : State) (port : Nat) : List Nat :=
  (upto 128).filter fun k =>
    decide (s.sensorEnable k = 1) && decide (s.devEnable (s.sensorTwdev k) = 1) && decide (s.devPort (s.sensorTwdev k) = port)

/-- Is a sensor due in this window (R542)? -/
def State.sensorDue (s : State) (k : Nat) : Bool :=
  let x := s.sensorAt k
  !x.badMode && (decide (x.failRun ≠ 0) || !x.read || decide (s.sensorPeriod k ≤ x.sinceMs))

/-- The transactions of one sensor reading (R542). -/
def State.sensorUses (s : State) (k : Nat) : List TwUse :=
  (if s.sensorPage k = 255 then [] else [TwUse.sensorPage k])
    ++ (if s.sensorKind k = 2 ∧ (s.sensorAt k).mode = none then [TwUse.sensorMode k] else []) ++ [.sensor k]

/-- A failure counted during a block reset fails its sensor or rectifier now (R550). -/
def State.windowFailures (s : State) (port : Nat) : State :=
  let s := s.each ((s.sensorsOn port).filter fun k => decide (3 ≤ (s.sensorAt k).failRun) && decide ((s.sensorAt k).state ≠ 3))
    fun s k => s.sensorFails port (.sensor k) k
  s.each ((s.legacyOn port).filter fun k =>
      decide (3 ≤ (s.rectAt k).failRun) && decide ((s.rectAt k).state ≠ 5) && !(s.rectAt k).withdrawn)
    fun s k => s.legacyFails port (.legacy k 1) k

/-- The sensors due in a window, their periods counted (R542). -/
def State.windowSensors (s : State) (port : Nat) : State × List TwUse :=
  let l := s.sensorsOn port
  let s := s.each l fun s k => s.setSensor k fun x => { x with sinceMs := min (x.sinceMs + 100) 60000 }
  let due := l.filter s.sensorDue
  (s.each due fun s k => s.setSensor k fun x => { x with sinceMs := 0 }, (due.map s.sensorUses).flatten)

/-- Place of a transaction in a window (R541): alert handling, legacy rectifiers, sensors, TW.TRANSFER. -/
def TwUse.rank : TwUse → Nat
  | .alert | .alertStatus _ => 0
  | .legacy _ _ => 1
  | .sensorPage _ | .sensorMode _ | .sensor _ => 2
  | .transfer _ => 3

/-- Transactions in the order of R541, each kind in the order in which it came. -/
def inOrder (l : List TwUse) : List TwUse := ((upto 4).map fun r => l.filter fun u => decide (u.rank = r)).flatten

/-- A window's transactions join those of the last window that have not ended; after the one on the bus they are served
in the order of R541. (DEDUCED, log 36) -/
def State.windowOpens (s : State) (port : Nat) (alert : Bool) : State :=
  let s := s.windowFailures port
  let r := if s.anyHalted then (s, []) else s.windowSensors port
  let s := r.1
  let uses := (if alert then [TwUse.alert] else [])
    ++ (if s.anyHalted then [] else ((s.legacyOn port).map s.legacyUses).flatten) ++ r.2
  let p := s.twAt port
  let old := p.queue
  let fresh := (uses ++ p.transfers.map TwUse.transfer).filter fun u => !old.contains u
  let live := if p.running then old.take 1 else []
  let wait := if p.running then old.drop 1 else old
  (s.setTw port fun p => { p with queue := live ++ inOrder (wait ++ fresh), transfers := [] }).twStart port

/-- TW_WINDOW (R541, R543): a 100 ms window of a port begins; `alert`: its ALERT_N has been low for 10 µs or longer. -/
def execTwWindow (port : Nat) (alert : Bool) (s : State) : Host.Outcome State Fault Refusal :=
  .next (if port = 0 ∨ 7 < port then s
    else
      let s := s.setTw port fun p => { p with alertLow := alert }
      if s.twControls port then s.windowOpens port alert else s)

/-! ### Bus faults and arbitration -/

/-- Own target address of a port (R532); TW0's is the always-on copy. (DEDUCED, log 37) -/
def State.targetAddr (s : State) (port : Nat) : Nat :=
  if port = 0 then s.retained.tw0Addr else s.devTargetAddr / 256 ^ port % 256

/-- Does a port have a target role that answers now (R536)? -/
def State.targetServes (s : State) (port : Nat) : Bool :=
  if port = 0 then
    s.mode.active || decide (s.mode = .lastGasp) || decide (s.mode = .boot)
      || ((decide (s.mode = .keep) || decide (s.mode = .gaugeWatch) || decide (s.mode = .stranded))
          && decide (s.tw.responder = .awake))
  else s.twOn port && decide (s.targetAddr port ≠ 0)

/-- A transaction as target ends: a transaction of the port's own that waited for it is repeated (R546). -/
def State.targetDone (s : State) (port : Nat) : State :=
  if (s.twAt port).targetBusy then (s.setTw port fun p => { p with targetBusy := false }).twStart port else s

/-- SMBUS_TIMEOUT (R530): a controller transaction ends with RESULT 5; a target resets its interface. (DESIGN CHOICE, log 34) -/
def execSmbusTimeout (port : Nat) (s : State) : Host.Outcome State Fault Refusal :=
  .next (match (s.twAt port).queue.head?, (s.twAt port).running with
    | some u, true => (s.twUseEvent port 1 u).twFailed port 5 u []
    | _, _ =>
      if 7 < port || !s.targetServes port then s
      else
        let s := s.setTw port fun p => { p with errors := (p.errors + 1) % 2 ^ 16 }
        (s.twEvent port 1 (s.targetAddr port) none none).targetDone port)

/-- ARBITRATION_LOST (R546): `winner` is the address that won, `inAddress` that it was lost in the address byte. The third
repeat that is lost ends the transaction with RESULT 4. (DESIGN CHOICE, log 34) -/
def execArbitrationLost (port winner : Nat) (inAddress : Bool) (s : State) : Host.Outcome State Fault Refusal :=
  .next (match (s.twAt port).queue.head? with
    | none => s
    | some u =>
      if !(s.twAt port).running then s
      else
        let addressed := inAddress && decide (winner = s.targetAddr port) && decide (winner ≠ 0)
        let n := (s.twAt port).retries
        let s := s.setTw port fun p => { p with arbLost := (p.arbLost + 1) % 2 ^ 16, retries := n + 1, targetBusy := addressed, running := false }
        if 3 ≤ n then (s.twUseEvent port 7 u).twFailed port 4 u [] else s.twStart port)

/-- The TW.TRANSFER of mailbox `mb` has not ended within 100 ms (R517). (DESIGN CHOICE, log 34) -/
def State.transferTimeout (s : State) (mb : Nat) : State :=
  let mine (u : TwUse) : Bool := decide (u = .transfer mb)
  let s := s.each (countFrom 7 1) fun s port =>
    let p := s.twAt port
    let running := p.running && decide (p.queue.head? = some (.transfer mb))
    let s := s.setTw port fun p =>
      { p with
        queue := p.queue.filter fun u => !mine u, transfers := p.transfers.filter fun n => decide (n ≠ mb)
        retries := if p.queue.head? = some (.transfer mb) then 0 else p.retries
        running := p.running && !running }
    s.twStart port
  s.finish mb .timeout []

/-! ### Target commands -/

/-- Bytes of a read command go out, as many as were clocked; a byte after the last is the PEC (R536, R537). -/
def State.targetReply (s : State) (port cmd : Nat) (block : Bool) (data : Bytes) (len : Nat) : State :=
  let a := s.targetAddr port
  let body := (if block then [byte data.length] else []) ++ data
  let pec := pecOf ([byte (2 * a), byte cmd, byte (2 * a + 1)] ++ body)
  let sent := (if block then [byte data.length] else []) ++ data.take len ++ (if data.length < len then [pec] else [])
  (s.send (.twoWire port sent)).targetDone port

/-- A write command is discarded for want of a good PEC (R537): the byte `p` it carries is not the CRC-8 of the address,
the command and its bytes, or it carries none and the port's PEC_REQUIRED bit is set. (DEDUCED, log 37) -/
def State.pecRefused (s : State) (cmd : Nat) (data : Bytes) (p : Option Nat) : Bool :=
  match p with
  | some b => decide (pecOf ([byte (2 * s.targetAddr 0), byte cmd] ++ data) ≠ byte b)
  | none => bit s.devPecRequired 0

/-- A write command to TW0 with its bytes, after the check of its PEC: a mismatch counts event 2 and changes nothing else
(R537). -/
def State.targetWrite (s : State) (cmd : Nat) (data : Bytes) (p : Option Nat) (f : State → State) : State :=
  if s.pecRefused cmd data p then
    let s := s.setTw 0 fun t => { t with errors := (t.errors + 1) % 2 ^ 16 }
    s.twEvent 0 2 (s.targetAddr 0) (some cmd) none
  else f s

/-- The STATUS word (Table 20-5). (DEDUCED, log 37) -/
def State.twStatusWord (s : State) : Nat :=
  s.modeCode + 16 * b2n (decide (s.mode = .stranded)) + 32 * b2n s.host.hrdy + 64 * b2n s.power.wake.active
    + 128 * b2n s.power.wake.wakeIgnored

/-- TARGET_STATUS: the STATUS command (R536); `len` data bytes are clocked. -/
def execTargetStatus (port len : Nat) (s : State) : Host.Outcome State Fault Refusal :=
  .next (if port < 8 ∧ s.targetServes port then s.targetReply port 0x01 false (leBytes 2 s.twStatusWord) len else s)

/-- IDENT (R536). -/
def execIdent (port len : Nat) (s : State) : Host.Outcome State Fault Refusal :=
  .next (if port < 8 ∧ s.targetServes port then
    s.targetReply port 0x02 true (leBytes 2 0x8128 ++ [0x21, 0x01] ++ leBytes 4 s.retained.dieId) len else s)

/-- RESET_CAUSE (R536): the register of Table 3-6, without a side effect. -/
def execResetCause (len : Nat) (s : State) : Host.Outcome State Fault Refusal :=
  .next (if s.targetServes 0 then s.targetReply 0 0x03 true (leBytes 4 s.power.cause.word) len else s)

/-- RETENTION (R536): words 0 to 7, without a side effect. -/
def execRetention (len : Nat) (s : State) : Host.Outcome State Fault Refusal :=
  .next (if s.targetServes 0 then s.targetReply 0 0x04 true s.power.ret.bytes len else s)

/-- WAKE_ENABLE (R536). -/
def execWakeEnable (len : Nat) (s : State) : Host.Outcome State Fault Refusal :=
  .next (if s.targetServes 0 then s.targetReply 0 0x05 false (leBytes 2 s.retained.wakeEnable) len else s)

/-- WAKE with data 0x57 (R536, R548): with its source disabled in Keep or Gauge-watch it only sets STATUS bit 7. -/
def execWake (data : Nat) (pec : Option Nat) (s : State) : Host.Outcome State Fault Refusal :=
  .next (if s.targetServes 0 ∧ s.mode.aon ∧ data = 0x57 then
    s.targetWrite 0x06 [byte data] pec fun s =>
      if (s.mode = .keep ∨ s.mode = .gaugeWatch) ∧ bit s.retained.wakeEnable 2 = false then
        s.setWake fun w => { w with wakeIgnored := true }
      else s.wakeEvent 2
    else s)

/-- LIVE (R536). -/
def execLive (port len : Nat) (s : State) : Host.Outcome State Fault Refusal :=
  .next (if port < 8 ∧ s.targetServes port ∧ s.mode.active then
    s.targetReply port 0x07 true (leBytes 4 s.clocks.epoch ++ leBytes 4 s.sluice.generation) len else s)

/-! ### The mailbox transport (R539, R540) -/

/-- A NACK of a mailbox command outside its state counts on source 279 (R540). -/
def State.tw0Nack (s : State) : State := s.raise 279 1 []

/-- The request in the buffer. -/
def TwoWire.request (w : TwoWire) : Req := reqOf (memReadN w.tBuf 0 512) 0 1 2

/-- A synthesised response stands in the buffer (R540). -/
def State.synthesise (s : State) (st : Status) : State :=
  let r := s.responseBytes s.tw.request st [] s.clocks.epoch
  { s with tw := { s.tw with
      tBuf := memWriteN [] 0 (padTo 512 r), tOffset := 0, tState := 2, tMailbox := none } }

/-- The buffered request goes into the highest-numbered free pool mailbox and is rung (R118, R539). -/
def State.tw0Ring (s : State) (n : Nat) : State :=
  let b := (memReadN s.tw.tBuf 0 512).take (16 + s.tw.request.len)
  let s := { s with
    host := { s.host with ram := memWriteN s.host.ram (mbBase n) b }
    tw := { s.tw with tState := 1, tOffset := 0, tMailbox := some n } }
  State.drainUnknown 16 (s.ring n .tw0 0 0 0)

/-- MB_OFFSET (R536, R539). (DEDUCED, log 37) -/
def execMbOffset (value : Nat) (pec : Option Nat) (s : State) : Host.Outcome State Fault Refusal :=
  .next (if !s.mode.active then s
    else if s.tw.tState ≠ 0 then s.tw0Nack
    else s.targetWrite 0x10 (leBytes 2 value) pec fun s => if value < 512 then { s with tw := { s.tw with tOffset := value } } else s)

/-- MB_WRITE (R536, R539): the offset advances; bytes beyond the buffer are not written. (DEDUCED, log 37) -/
def execMbWrite (data : Bytes) (pec : Option Nat) (s : State) : Host.Outcome State Fault Refusal :=
  .next (if !s.mode.active || data.isEmpty || 255 < data.length then s
    else if s.tw.tState ≠ 0 then s.tw0Nack
    else s.targetWrite 0x11 (byte data.length :: data) pec fun s =>
      let d := data.take (512 - s.tw.tOffset)
      { s with tw := { s.tw with tBuf := memWriteN s.tw.tBuf s.tw.tOffset d, tOffset := s.tw.tOffset + d.length } })

/-- MB_GO (R539, R540); of several statuses the first of R122. (DEDUCED, log 37) -/
def execMbGo (data : Nat) (pec : Option Nat) (s : State) : Host.Outcome State Fault Refusal :=
  .next (if !(s.mode.active || s.mode = .lastGasp) then s
    else if s.tw.tState ≠ 0 then s.tw0Nack
    else if data ≠ 1 then s
    else s.targetWrite 0x12 [byte data] pec fun s =>
      if 496 < s.tw.request.len then s.synthesise .badArg
      else if s.mode = .lastGasp then s.synthesise .wrongMode
      else match s.freePool with
        | none => s.synthesise .busy
        | some n => s.tw0Ring n)

/-- MB_STATE (R536). -/
def execMbState (len : Nat) (s : State) : Host.Outcome State Fault Refusal :=
  .next (if s.mode.active ∨ s.mode = .lastGasp then s.targetReply 0 0x13 false [byte s.tw.tState] len else s)

/-- Bytes MB_READ gives from an offset: the response half of the mailbox, or the synthesised response; before a response is
ready the spec gives none, and they are free values. -/
def State.tw0Response (s : State) (n : Nat) : Bytes :=
  if s.tw.tState ≠ 2 then (upto n).map fun i => byte (s.fresh .unstated i)
  else match s.tw.tMailbox with
    | some m => memReadN s.host.ram (mbBase m + 0x200 + s.tw.tOffset) n
    | none => memReadN s.tw.tBuf s.tw.tOffset n

/-- MB_READ (R536, R539): a full read advances the offset, a shorter one does not. (DEDUCED, log 37) -/
def execMbRead (len : Nat) (s : State) : Host.Outcome State Fault Refusal :=
  .next (if s.mode.active ∨ s.mode = .lastGasp then
    let n := min 255 (512 - s.tw.tOffset)
    let t := (s.targetReply 0 0x14 true (s.tw0Response n) len).used
    if n ≤ len then { t with tw := { t.tw with tOffset := t.tw.tOffset + n } } else t
    else s)

/-- MB_RELEASE (R536, R539): the mailbox is free and the buffer zeroed. (DEDUCED, log 37) -/
def execMbRelease (data : Nat) (pec : Option Nat) (s : State) : Host.Outcome State Fault Refusal :=
  .next (if !(s.mode.active || s.mode = .lastGasp) then s
    else if s.tw.tState ≠ 2 then s.tw0Nack
    else if data ≠ 1 then s
    else s.targetWrite 0x15 [byte data] pec fun s =>
      let s := match s.tw.tMailbox with | some n => s.freeMb n | none => s
      { s with tw := { s.tw with tState := 0, tBuf := [], tMailbox := none } })

/-- ALERT_RESPONSE (R538): only TW0 drives ALERT_N, and answering releases it. -/
def execAlertResponse (port : Nat) (s : State) : Host.Outcome State Fault Refusal :=
  .next (if port = 0 ∧ s.tw0Alert then
    let s := s.send (.twoWire 0 [byte (2 * s.targetAddr 0)])
    { s with tw := { s.tw with alertAnswered := true } }
    else s)

/-! ### The always-on responder (R547) -/

/-- The modes in which the responder sleeps. -/
def Mode.responderSleeps : Mode → Bool
  | .keep | .gaugeWatch | .stranded => true
  | _ => false

/-- RESPONDER_WAKE (R547): the address is NACKed and wakes the responder. -/
def execResponderWake (s : State) : Host.Outcome State Fault Refusal :=
  .next (if s.mode.responderSleeps ∧ s.tw.responder = .asleep then { s with tw := { s.tw with responder := .waking } } else s)

/-- RESPONDER_READY (R547). -/
def execResponderReady (s : State) : Host.Outcome State Fault Refusal :=
  .next (if s.tw.responder = .waking then { s with tw := { s.tw with responder := .awake } } else s)

/-- RESPONDER_SLEEP (R547). -/
def execResponderSleep (s : State) : Host.Outcome State Fault Refusal :=
  .next (if s.mode.responderSleeps ∧ s.tw.responder = .awake then { s with tw := { s.tw with responder := .asleep } } else s)

/-! ### Orders of group 0x0E -/

/-- One port in TW.STATUS (R516). -/
def State.twPortBytes (s : State) (n : Nat) : Bytes :=
  let p := s.twAt n
  let st := if n ≠ 0 && !s.twOn n then 0 else if p.targetBusy then 3 else if p.running then 2 else 1
  let devs := ((upto 64).filter fun d => decide (s.devEnable d = 1) && decide (s.devPort d = n)).length
  [byte st, byte (s.devSpeed / 4 ^ n % 4)] ++ leBytes 2 p.arbLost ++ leBytes 2 p.errors ++ [byte devs, 0]

/-- TW.STATUS (R516). -/
def execTwStatus (mb : Nat) (s : State) : Host.Outcome State Fault Refusal :=
  .next (s.runOrder 0x0E01 mb fun q s =>
    if !q.lay 0 [] then s.refuse q .badArg
    else s.reply q .ok ((upto 8).map s.twPortBytes).flatten)

/-- Does WLEN match PROTOCOL (R517)? (PRESUMED, log 35) -/
def wlenFits (proto wlen : Nat) : Bool :=
  match proto with
  | 0 | 1 => decide (wlen = 1)
  | 2 | 7 => decide (wlen = 2)
  | 3 | 4 | 6 => decide (wlen = 0)
  | _ => decide (1 ≤ wlen)

/-- Is the address that of an enabled TWDEV serving a legacy rectifier? -/
def State.legacyAddress (s : State) (port addr : Nat) : Bool :=
  match s.devOn port addr with
  | some d => decide (s.devKind d = 0) && s.enabledRects.any fun k => legacyRect k && decide (s.rectTwdev k = d)
  | none => false

/-- A TW.TRANSFER joins its port: at the end of the present window's transactions, or for the next window the port has. (DESIGN CHOICE, log 34) -/
def State.queueTransfer (s : State) (port mb : Nat) : State :=
  if s.twControls port then
    let idle := (s.twAt port).queue.isEmpty
    let s := s.setTw port fun p => { p with queue := p.queue ++ [.transfer mb] }
    if idle then s.twStart port else s
  else s.setTw port fun p => { p with transfers := p.transfers ++ [mb] }

/-- TW.TRANSFER (R517). (DESIGN CHOICE, log 34) -/
def execTwTransfer (mb : Nat) (s : State) : Host.Outcome State Fault Refusal :=
  .next (s.runOrder 0x0E02 mb fun q s =>
    let port := q.u 0 1
    let addr := q.u 1 1
    let wlen := q.u 5 1
    if !q.lay (8 + wlen) [(6, 2)] || port = 0 || 7 < port || 127 < addr || 8 < q.u 2 1 || 1 < q.u 4 1
        || !bit s.shelfTwEnable port || !wlenFits (q.u 2 1) wlen then s.refuse q .badArg
    else if s.legacyAddress port addr then s.refuse q .locked
    else (s.wait q .twTransfer).queueTransfer port q.mb)

end Sys2Proof.Machine
end

