-- ==== Sys2Proof/Machine/ModeRows.lean ====
section
/-! DEFINITION. MODE.GET and MODE.SET (R36, R37, R508, R509), and the ends of external writes. -/
namespace Sys2Proof.Machine

/-! ### MODE.GET -/

/-- FLAGS of MODE.GET (Table 19-6). -/
def State.modeFlags (s : State) : Nat :=
  b2n s.budget.acLoss + 2 * b2n s.safetyPending + 4 * b2n s.desc.edit.isSome + 8 * b2n s.sluice.withdrawn
    + 16 * b2n s.power.longPress + 32 * b2n s.power.brace.isSome

/-- MODE.GET (R508). -/
def execModeGet (mb : Nat) (s : State) : Host.Outcome State Fault Refusal :=
  .next (s.runOrder 0x0201 mb fun q s =>
    let p := s.power
    if !q.lay 0 [] then s.refuse q .badArg
    else s.reply q .ok ([byte p.mode.code, byte p.fromMode.code, byte s.role, byte s.modeFlags] ++ leBytes 4 p.modeEpoch
      ++ [byte s.otp.lifecycle, byte s.otp.debugLevel, byte s.desc.loadStatus, 0] ++ leBytes 4 s.desc.sequence
      ++ leBytes 4 p.cause.word ++ leSat 4 (((s.retained.rtcNs : Int) - p.configureNs) / 1000000000).toNat))

/-! ### MODE.SET -/

/-- The mode of a TARGET of MODE.SET (R36). -/
def modeTarget (t : Nat) : Option Mode :=
  match t with
  | 1 => some .keep
  | 2 => some .gaugeWatch
  | 5 => some .configure
  | 7 => some .run
  | 0xB => some .service
  | _ => none

/-- Does a row of Table 2-2 lead by MODE.SET from the present mode to a target? (DEDUCED, log 32) -/
def State.modeRow (s : State) (t : Mode) : Bool :=
  match t with
  | .keep | .gaugeWatch => s.mode.active
  | .service => s.mode = .configure || s.mode = .shadow || s.mode = .run || s.mode = .safeHold
  | .configure => s.mode = .safeHold || (s.mode = .service && s.power.fromMode = .configure)
  | .run => s.mode = .configure || s.mode = .safeHold || (s.mode = .service && s.power.fromMode = .run)
  | _ => false

/-- The status at which MODE.SET ends at once, by Table 19-7; none where the change begins. `present` is the outcome for the
present mode. (DEDUCED, log 32) -/
def State.modeRefusal (s : State) (q : Req) (t : Mode) : Option Status :=
  if s.power.longPress then some .wrongMode
  else if s.modeSetPending || s.sluice.claim ≠ .none then some .busy
  else if t = .service ∧ (s.sesAt q.session).privilege < 2 then some .privilege
  else if t = s.mode then some .ok
  else if !s.modeRow t then some .wrongMode
  else if s.otp.lifecycle = 0 ∨ (t = .run ∧ s.otp.lifecycle = 3) then some .wrongMode
  else if s.mode = .safeHold ∧ (t = .run ∨ t = .configure) ∧ s.safetyPending = true then some .locked
  else if t = .run ∧ s.desc.sequence = 0 ∧ s.sluice.peer = false then some .locked
  else none

/-- The mode has changed: the answer (R509). -/
def State.answerMode (s : State) (q : Req) : State := s.reply q .ok (modePayload s.mode)

/-- MODE.SET Keep or Gauge-watch begins (R37): every output is stopped in reverse dependency order. -/
def State.beginShutdown (s : State) (q : Req) (t : Mode) : State :=
  let s := s.wait q (.modeSet t)
  let s := { s with power := { s.power with shutdown := some { target := t, mailbox := some q.mb, recorded := false } } }
  let s := if s.token then ((s.clearWanted).each s.enabledOuts fun s k => s.orderStop k 1).settle else s.clearWanted
  s.advanceShutdown

/-- An accepted MODE.SET (Table 2-2). (DEDUCED, log 32) -/
def State.changeMode (s : State) (q : Req) (t : Mode) : State :=
  match t with
  | .keep | .gaugeWatch => s.beginShutdown q t
  | .service =>
    let s := s.setMode .service 0 0xFFFF
    ({ s with power := { s.power with serviceSession := q.session } }).answerMode q
  | .run =>
    if s.mode = .service then ((s.leaveService 0).answerMode q).autoRun
    else if s.token then (s.setMode .run 0 0xFFFF).answerMode q
    else (s.wait q (.modeSet .run)).beginClaim false
  | _ =>
    if s.mode = .service then ((s.leaveService 0).answerMode q).autoRun
    else (((s.setMode .configure 0 0xFFFF).configureWork).answerMode q).autoRun

/-- MODE.SET (R36, R37, R509): judged in the order of Table 19-7. -/
def execModeSet (mb : Nat) (s : State) : Host.Outcome State Fault Refusal :=
  .next (s.runOrder 0x0202 mb fun q s =>
    if !q.lay 4 [(1, 3)] then s.refuse q .badArg
    else match modeTarget (q.u 0 1) with
      | none => s.refuse q .badArg
      | some t =>
        match s.modeRefusal q t with
        | some .ok => s.answerMode q
        | some .wrongMode =>
          (if s.power.longPress || s.modeRow t then s else s.triggerIgnored 8).refuse q .wrongMode
        | some st => s.refuse q st
        | none => s.changeMode q t)

/-! ### Ends of external writes -/

/-- The write that a waiting order made has been read back, or has failed: an OTP word at a step and with bits left unset (R94).
(DEDUCED, log 33) -/
def State.writeEnded (s : State) (w : Waiting) (ok : Bool) (stage left : Nat) : State :=
  let mb := w.mailbox
  match w.what with
  | .commitStore => s.commitStored mb ok
  | .commitApplied => s.commitDone mb ok
  | .otpProgram => s.otpProgrammed mb ok stage left
  | .lifecycle t => s.lifecycleDone mb t ok stage left
  | .keyInstall kind key => if ok then s.keyInstalled w kind key else s.finish mb .timeout []
  | .rootInstall key => if ok then s.rootInstalled w key else s.finish mb .timeout []
  | .fwWrite slot o n => s.fwWriteStep mb slot o n ok
  | .fwCommit slot => s.fwCommitStep mb slot ok
  | .logClear up => if ok then s.logCleared mb up else s.finish mb .timeout []
  | .logFormat first => if ok then s.logFormatted mb first else s.finish mb .timeout []
  | _ => s

/-- Does a brace suspend what a waiting order waits for (R51): a write to the OTP or CS0, or, outside Last-gasp, to CS1? -/
def State.suspends (s : State) (w : Waiting) : Bool :=
  s.power.brace.isSome && (match w.what with
    | .commitStore | .commitApplied | .keyInstall _ _ | .rootInstall _ | .otpProgram | .lifecycle _ | .fwWrite _ _ _ | .fwCommit _ =>
      true
    | .logClear _ | .logFormat _ => s.mode ≠ .lastGasp
    | _ => false)

/-- EXTERNAL_WRITE_COMPLETE (R120, R147, R149, R155): a CS0, CS1 or OTP write with its read-back ends. `mb` is the mailbox of
the order it belongs to, 16 for the repeated APPLIED word, 17 for the standby's store write, 18 for a mark of the slot table; an
OTP word that fails has stopped at `stage` (0 primary, 1 copy, 2 seal) with the bits of `left` unset (R94). None ends while a
brace suspends it (R51). -/
def execExternalWriteComplete (mb : Nat) (ok : Bool) (s : State) (stage : Nat := 0) (left : Nat := 0) : Host.Outcome State Fault Refusal :=
  .next (if !s.wardenRuns then s
    else if 16 ≤ mb then
      (if s.power.brace.isSome then s
      else if mb = 16 then s.appliedRetry ok
      else if mb = 17 then s.adoptionStored ok
      else if ok then s.tableWritten else s)
    else match s.waitingOn mb with
      | some w => if s.suspends w then s else s.writeEnded w ok stage left
      | none => s)

/-- EXTERNAL_WRITE_TIMEOUT (R147, R466, R517, R522): the write or transaction has not ended within its limit, which the duration of
a brace lengthens (R52). OTP programming has no limit of this kind. (DEDUCED, log 33) -/
def execExternalWriteTimeout (mb : Nat) (s : State) : Host.Outcome State Fault Refusal :=
  .next (if !s.wardenRuns then s
    else match s.waitingOn mb with
      | some w =>
        match w.what with
        | .twTransfer => s.transferTimeout mb
        | .otpProgram | .lifecycle _ => s
        | _ => if s.suspends w then s else s.writeEnded w false 0 0
      | none => s)

end Sys2Proof.Machine
end

