-- ==== Sys2Proof/Machine/PortRows.lean ====
section
/-! DEFINITION. Meanings of the host port's commands (chapter 5): bursts, the status byte, and the register writes that
start something. Each of the latter is a burst of one register word. -/
namespace Sys2Proof.Machine

/-- STATUS answers the port status byte (R109, Table 5-2). -/
def State.statusRead (s : State) : State := if s.portAlive then s.send (.host [byte s.portStatus]) else s

/-- One transaction of the host port, by its command byte (Table 5-1): `addr`, `data` and `len` are its later phases. A byte that
the table does not hold sets UNKNOWN_COMMAND. -/
def State.hostCommand (s : State) (code addr : Nat) (data : Bytes) (len : Nat) : State :=
  if code = 0x32 then s.writeBurst addr data
  else if code = 0x6B then s.readBurst addr len
  else if code = 0x6C then s.quietBurst addr len
  else if code = 0x05 then s.statusRead
  else if s.portAlive then s.endTxn flagUnknownCommand else s

/-- WRITE (R109 to R112). -/
def execWrite (addr : Nat) (data : Bytes) (s : State) : Host.Outcome State Fault Refusal :=
  .next (s.hostCommand 0x32 addr data 0)

/-- READ (R109 to R112, R116). -/
def execRead (addr len : Nat) (s : State) : Host.Outcome State Fault Refusal := .next (s.hostCommand 0x6B addr [] len)

/-- QUIET READ (R12, R109). -/
def execQuietRead (addr len : Nat) (s : State) : Host.Outcome State Fault Refusal := .next (s.hostCommand 0x6C addr [] len)

/-- STATUS (R109, Table 5-2). -/
def execStatus (s : State) : Host.Outcome State Fault Refusal := .next (s.hostCommand 0x05 0 [] 0)

/-- A command byte that Table 5-1 does not hold sets UNKNOWN_COMMAND (R109); the four of the table have rows of their own. -/
def execUnknownCommand (code : Nat) (s : State) : Host.Outcome State Fault Refusal :=
  .next (if [0x32, 0x6B, 0x6C, 0x05].contains code then s else s.hostCommand code 0 [] 0)

/-- A write of 1 to bit `n` of MB_DOORBELL (R119). -/
def execMbDoorbell (n : Nat) (s : State) : Host.Outcome State Fault Refusal := .next (s.writeBurst 0x14 (leBytes 4 (2 ^ n)))

/-- A write of 1 to bit `n` of MB_DONE (R119). -/
def execMbDone (n : Nat) (s : State) : Host.Outcome State Fault Refusal := .next (s.writeBurst 0x1C (leBytes 4 (2 ^ n)))

/-- A write of IRQ_STATUS (R116). -/
def execIrqStatusClear (mask : Nat) (s : State) : Host.Outcome State Fault Refusal := .next (s.writeBurst 0x0C (leBytes 4 mask))

/-- A write of the reset-cause register (R78, Table 3-6). -/
def execResetCauseClear (value : Nat) (s : State) : Host.Outcome State Fault Refusal := .next (s.writeBurst 0x40 (leBytes 4 value))

/-- A write of CURSOR_LO (R465). -/
def execCursorLo (value : Nat) (s : State) : Host.Outcome State Fault Refusal := .next (s.writeBurst 0x020000 (leBytes 4 value))

/-- A write of CURSOR_HI (R464). -/
def execCursorHi (value : Nat) (s : State) : Host.Outcome State Fault Refusal := .next (s.writeBurst 0x020004 (leBytes 4 value))

/-- A load completes: the window shows its copy, and what it found damaged is counted (R465, R469). -/
def State.loadWindow (s : State) : State :=
  ({ s with log := { s.log with loading := false } }).logDamaged
    (s.log.window.filter fun (e : Nat × LogSlot) => decide (e.2.status = 3)).length

/-- LOAD_COMPLETE (R465): a load in progress ends. -/
def execLoadComplete (s : State) : Host.Outcome State Fault Refusal := .next (if s.log.loading then s.loadWindow else s)

/-- A read of NEXT (R439). -/
def execNext (s : State) : Host.Outcome State Fault Refusal := .next (s.readBurst 0x040010 4)

/-- A write of READ in the fault summary (R486). -/
def execReadCursorWrite (value : Nat) (s : State) : Host.Outcome State Fault Refusal :=
  .next (s.writeBurst 0x030008 (leBytes 4 value))

/-- A write to a register that has no row of its own (R111): an address that holds no register word changes nothing. -/
def execRegisterWrite (addr : Nat) (data : Bytes) (s : State) : Host.Outcome State Fault Refusal :=
  .next (match (regionOf (addr % 2 ^ 24)).1 with
    | .mailbox | .user => s
    | _ => s.writeBurst addr data)

end Sys2Proof.Machine
end

