-- ==== Sys2Proof/Machine/ScannerRows.lean ====
section
/-! DEFINITION. The supervision scanner (R255 to R264): slots, verdicts, shutdowns, temperature levels, self-check. -/
namespace Sys2Proof.Machine

/-- Does the scanner convert: its domain powered, not held in reset? (DEDUCED, log 71) -/
def State.scanning (s : State) : Bool := s.mode.firmware && s.domain 12 && !s.held 8

/-- Are verdicts given (R263; Table 18-9 for the dependency map)? -/
def State.verdicts (s : State) : Bool := !s.scan.withheld && !s.scan.mapBad

/-- STATE values in which an output is judged (Table 10-5). -/
def Out.judged (o : Out) : Bool := o.state = 2 || o.state = 3 || o.state = 7

/-- Does a SUPV code lie outside what the output's STATE is judged against (Table 10-5)? -/
def Out.supvOutside (o : Out) (code : Nat) : Bool :=
  decide (o.highCode < code) || (decide (o.state = 3) && decide (code < o.lowCode))

/-- A judged scan of SUPV: the filter counter (R261) and the full window for R252. -/
def Out.judgeSupv (o : Out) (code : Nat) : Out :=
  { o with
    supvCount := if o.supvOutside code then o.supvCount + 1 else 0
    winOk := decide (o.lowCode ≤ code) && decide (code ≤ o.highCode) }

/-- One scan after arrival (R252): the hold begins with an in-window scan, grows by a scan period, and restarts after a
scan outside the full window. (DEDUCED, log 71) -/
def Out.holdScan (o : Out) : Out :=
  if o.state = 2 ∧ o.phase = .rising ∧ o.prof.state = .arrived then
    if o.winOk then { o with inHold := true, holdUs := if o.inHold then o.holdUs + 1024 else 0 }
    else { o with inHold := false, holdUs := 0 }
  else { o with inHold := false, holdUs := 0 }

/-- OUTPUT_GOOD (R252): the output enters STATE 3 once the hold has lasted GOOD_HOLD. -/
def State.outputGood (s : State) (k : Nat) : State :=
  let o := s.outAt k
  if s.token && o.inHold && decide (s.outGoodHold k * 10 ≤ o.holdUs) then
    (s.setOut k fun o =>
      { o with
        state := 3, phase := .none, inHold := false, holdUs := 0, goodTides := 0
        ident := { o.ident with nextRun := 10000, retryAt := none, retries := 0 } }).settle
  else s

/-- A slot's last code and flags: outside, count complete (Table 10-10). -/
def State.noteSlot (s : State) (slot code flags : Nat) : State :=
  { s with scan := { s.scan with codes := Tab.set 0 s.scan.codes slot code, flags := Tab.set 0 s.scan.flags slot flags } }

/-- SUPV of channel `slot`: judged for the output whose lead it is (R260). -/
def State.supvSlot (s : State) (slot code : Nat) : State :=
  match firstN (fun k => decide (s.lead k = slot)) s.enabledOuts with
  | none => s.noteSlot slot code 0
  | some k =>
    if (s.outAt k).judged && s.verdicts then
      let s := s.setOut k fun o => (o.judgeSupv code).holdScan
      let o := s.outAt k
      let done := decide (s.outFilterCount k ≤ o.supvCount)
      let s := s.noteSlot slot code (b2n (o.supvOutside code) + 2 * b2n done)
      s.outputGood k
    else s.noteSlot slot code 0

/-- Is a TMP code that of a failed sensor (Table 10-6)? -/
def tmpBad (c : Nat) : Bool := c < 547 || 3959 < c
/-- Is it at the warning level? -/
def tmpWarn (c : Nat) : Bool := !tmpBad c && decide (2799 ≤ c)
/-- Is it at the trip level? -/
def tmpTrip (c : Nat) : Bool := !tmpBad c && decide (3072 ≤ c)
/-- Is it below the level that clears a warning? -/
def tmpCool (c : Nat) : Bool := !tmpBad c && decide (c < 2731)

/-- TMP code of a phase in the present scan. -/
def State.tmpCode (s : State) (ch : Nat) : Nat := Tab.get 0 s.scan.codes (128 + ch)

/-- Does some phase of output `k` meet a temperature level `p`, among those for which `flag` does not stand yet? -/
def State.anyPhase (s : State) (k : Nat) (flag : Chan → Bool) (p : Nat → Bool) : Bool :=
  (s.phases k).any fun c => !flag (s.chanAt c) && p (s.tmpCode c)

/-- A filter count: one more scan, or from zero. -/
def countIf (b : Bool) (n : Nat) : Nat := if b then n + 1 else 0

/-- One scan of the temperatures of an output: its counters for trip, warning, warning cleared and sensor fault (R262).
(DEDUCED, log 67) -/
def State.judgeTmp (s : State) (k : Nat) : State :=
  let trip := s.anyPhase k (fun _ => false) tmpTrip
  let warn := s.anyPhase k Chan.tempWarn tmpWarn
  let cool := s.anyPhase k (fun c => !c.tempWarn) tmpCool
  let bad := s.anyPhase k Chan.tempFault tmpBad
  s.setOut k fun o =>
    { o with
      tmpCount := countIf trip o.tmpCount, tmpWarnCount := countIf warn o.tmpWarnCount
      tmpCoolCount := countIf cool o.tmpCoolCount, tmpBadCount := countIf bad o.tmpBadCount }

/-- The flags of a phase become those given, and its source's condition follows. -/
def State.setTemps (s : State) (ch : Nat) (warn bad : Bool) : State :=
  let c := s.chanAt ch
  if warn = c.tempWarn ∧ bad = c.tempFault then s
  else (s.setChan ch fun c => { c with tempWarn := warn, tempFault := bad }).condition ch (warn || bad || c.flt)

/-- A phase's warning is cleared once the count of scans below its level is complete, a sensor fault in the first scan without
one. (DEDUCED, log 67) -/
def State.tmpClear (s : State) (k : Nat) : State :=
  let done := decide (s.outFilterCount k ≤ (s.outAt k).tmpCoolCount)
  let s := s.each (s.phases k) fun s c =>
    s.setTemps c ((s.chanAt c).tempWarn && !(done && tmpCool (s.tmpCode c))) ((s.chanAt c).tempFault && tmpBad (s.tmpCode c))
  if done then s.setOut k fun o => { o with tmpCoolCount := 0 } else s

/-- Is channel `ch` the last phase of output `k`? -/
def State.lastPhase (s : State) (k ch : Nat) : Bool := (s.phases k).getLast? = some ch

/-- TMP of channel `ch`, judged for its output with the last of its phases (R262). -/
def State.tmpSlot (s : State) (ch code : Nat) : State :=
  match s.outputOf ch with
  | none => s.noteSlot (128 + ch) code 0
  | some k =>
    if (s.outAt k).judged && s.verdicts then
      let s := s.noteSlot (128 + ch) code (b2n (tmpWarn code || tmpBad code))
      if s.lastPhase k ch then
        let s := (s.judgeTmp k).tmpClear k
        let o := s.outAt k
        let done := decide (s.outFilterCount k ≤ max o.tmpCount (max o.tmpWarnCount o.tmpBadCount))
        s.noteSlot (128 + ch) code (b2n (tmpWarn code || tmpBad code) + 2 * b2n done)
      else s
    else s.noteSlot (128 + ch) code 0

/-- A STRV scan of a probed string in the window of the present frequency, its code available one slot of 200 ns after the sample
(R383). (DEDUCED, log 65) -/
def State.probeScan (s : State) (k v : Nat) : State :=
  match s.gauge.probe with
  | none => s
  | some p =>
    match p.ns with
    | [] => s
    | n :: _ =>
      if bit p.strings k && decide (n < p.c) && decide (p.c ≤ (p.cycles + 1) * n) && decide (p.from_ ≤ s.scan.total) then
        let t := C64.scale (f64 v) (turnBack (s.scan.total - p.from_) (500 * n))
        { s with gauge := { s.gauge with
            probe := some { p with now := Tab.upd {} p.now k fun x => { x with v := x.v.add t, k := x.k + 1 } } } }
      else s

/-- STRV of a string (R256, R374): summed for the gauge cycle; above 5 V an absent string reads STATE 1 until it is inserted.
The standby takes the STATE from the active (R386). -/
def State.strvSlot (s : State) (k code : Nat) : State :=
  let v := tapVoltage code (s.strStrvRatio k)
  let own := s.strEnable k = 1 && s.mode.active && decide (s.role ≠ 2)
  s.setString k fun x =>
    { x with
      vSum := x.vSum + code, vCount := x.vCount + 1, lastV := v
      state := if own && decide (x.state = 0) && decide (5000000 < v) then 1
        else if own && decide (x.state = 1) && !x.insertPending && decide (v < 5000000) then 0
        else x.state }

/-- A string's tap codes of the gauge cycle (R256). -/
def State.stringSlot (s : State) (slot code : Nat) : State :=
  let s := s.noteSlot slot code 0
  if slot < 288 then (s.strvSlot (slot - 256) code).probeScan (slot - 256) (tapVoltage code (s.strStrvRatio (slot - 256)))
  else s.setString (slot - 288) fun x => { x with tSum := x.tSum + code, tCount := x.tCount + 1 }

/-- A bus-shunt slot (Table 10-3): summed for the tide on the enabled shunt it belongs to; an unassigned one reads 0. -/
def State.shuntSlot (s : State) (slot code : Nat) : State :=
  match ((upto 32).filter fun k => decide (s.shuntEnable k = 1))[slot - 340]? with
  | some k =>
    let s := s.noteSlot slot code 0
    { s with gauge := { s.gauge with
        shuntSum := Tab.upd 0 s.gauge.shuntSum k (· + code), shuntCnt := Tab.upd 0 s.gauge.shuntCnt k (· + 1) } }
  | none => s.noteSlot slot 0 0

/-- The scanner's check of its own converter (R263), at the second of its slots. -/
def Scanner.check (x : Scanner) (code : Nat) : Scanner :=
  if x.gndBad || decide (code < 3265) || decide (3289 < code) then
    { x with badRun := x.badRun + 1, goodRun := 0, gndBad := false }
  else { x with badRun := 0, goodRun := x.goodRun + 1, gndBad := false }

/-- A slot is converted and judged. -/
def State.convertSlot (s : State) (slot code : Nat) : State :=
  if slot < 128 then s.supvSlot slot code
  else if slot < 256 then s.tmpSlot (slot - 128) code
  else if slot < 320 then s.stringSlot slot code
  else if slot < 340 then s.noteSlot slot code 0
  else if slot < 356 then s.shuntSlot slot code
  else if slot = 356 then
    let s := s.noteSlot slot code 0
    { s with scan := { s.scan with gndBad := decide (5 < code) } }
  else if slot = 357 then
    let s := s.noteSlot slot code 0
    { s with scan := s.scan.check code }
  else s

/-- Scanner code of an input voltage in nV, an LSB 366,210.9375 nV (R255). -/
def scannerCode (v : Int) : Nat := (clampI 0 4095 (rdiv (v * 256) 93750000)).toNat

/-- SCANNER_SLOT (R255 to R263): the next slot's input voltage in nV. (DEDUCED, log 71) -/
def execScannerSlot (v : Int) (s : State) : Host.Outcome State Fault Refusal :=
  .next (if s.scanning then
    let slot := s.scan.slot
    let s := s.convertSlot slot (scannerCode v)
    { s with scan := { s.scan with slot := (slot + 1) % 512, total := s.scan.total + 1 } }
    else s)

/-- The record of a scanner shutdown (class 0x09 EVENT 2). -/
def State.shutdownRecord (s : State) (k slot : Nat) : State :=
  let o := s.outAt k
  s.record 0x09 2 ([byte k, 0] ++ leBytes 2 slot ++ leBytes 2 (Tab.get 0 s.scan.codes slot)
    ++ leBytes 2 o.lowCode ++ leBytes 2 o.highCode)

/-- The scanner shuts an output down (R261, R264): on the controller without the token its verdict is only reported. (DEDUCED, log 67) -/
def State.scannerStop (s : State) (k ch event slot : Nat) : State :=
  let code := Tab.get 0 s.scan.codes slot
  let o := s.outAt k
  if s.token then
    let s := s.chanFault ch event code (if event = 6 then some 3 else none)
    let s := s.each (s.phases k) fun s c => s.signalTrigger (quadrant c) 7 (some c)
    let s := (s.failOut k 2 false).setOut k fun o => { o with shutAt := s.scan.total }
    ((s.setOut k fun x => { x with lowCode := o.lowCode, highCode := o.highCode }).shutdownRecord k slot).settle
  else
    (s.setOut k fun x => { x with supvCount := 0, tmpCount := 0 }).peerEvent 2
      ([byte k] ++ leBytes 2 code ++ leBytes 2 o.lowCode ++ leBytes 2 o.highCode)

/-- SCANNER_SHUTDOWN (R261): the SUPV count of an output is complete. -/
def execScannerShutdown (out : Nat) (s : State) : Host.Outcome State Fault Refusal :=
  .next (if s.outEnable out = 1 ∧ (s.outAt out).judged = true ∧ s.outFilterCount out ≤ (s.outAt out).supvCount
      ∧ s.verdicts = true ∧ s.scanning = true then
    s.scannerStop out (s.lead out) 6 (s.lead out) else s)

/-- A lasting temperature event on each phase whose code meets a level and for which it does not stand yet. -/
def State.tmpEvent (s : State) (k event : Nat) (flag : Chan → Bool) (p : Nat → Bool) : State :=
  s.each ((s.phases k).filter fun c => !flag (s.chanAt c) && p (s.tmpCode c)) fun s c =>
    let x := s.chanAt c
    (s.setTemps c (x.tempWarn || event = 8) (x.tempFault || event = 9)).raiseChan c event (s.tmpCode c)

/-- TEMPERATURE_LEVEL (R262): level 0 the warning, 1 the trip, 2 the sensor fault. -/
def execTemperatureLevel (out level : Nat) (s : State) : Host.Outcome State Fault Refusal :=
  let o := s.outAt out
  let f := s.outFilterCount out
  .next (if s.outEnable out = 1 ∧ o.judged = true ∧ s.verdicts = true ∧ s.scanning = true then
    if level = 0 ∧ f ≤ o.tmpWarnCount then
      (s.setOut out fun o => { o with tmpWarnCount := 0 }).tmpEvent out 8 Chan.tempWarn tmpWarn
    else if level = 1 ∧ f ≤ o.tmpCount then
      match firstN (fun c => tmpTrip (s.tmpCode c)) (s.phases out) with
      | some c => s.scannerStop out c 7 (128 + c)
      | none => s
    else if level = 2 ∧ f ≤ o.tmpBadCount then
      (s.setOut out fun o => { o with tmpBadCount := 0 }).tmpEvent out 9 Chan.tempFault tmpBad
    else s
    else s)

/-- SCANNER_SELF_CHECK (R263): verdicts are withheld after two failing scans and resume after two good ones. -/
def execScannerSelfCheck (ok : Bool) (s : State) : Host.Outcome State Fault Refusal :=
  .next (if !ok && !s.scan.withheld && decide (2 ≤ s.scan.badRun) then
      ({ s with scan := { s.scan with withheld := true } }).begin_ 308 1 []
    else if ok && s.scan.withheld && decide (2 ≤ s.scan.goodRun) then
      ({ s with scan := { s.scan with withheld := false } }).condition 308 false
    else s)

end Sys2Proof.Machine
end

