-- ==== Sys2Proof/Machine/TideBoundary.lean ====
section
/-! DEFINITION. The tide boundary (R70, R71): the epoch, the latched contributions, the orders that take effect, and what the
warden works out for the tide that begins. -/
namespace Sys2Proof.Machine

/-! ### Time -/

/-- The RTC moves on from the last boundary, or before the first from where it stands, by some reference cycles at 20 ns and the rate
correction, in ppb (R559, R560); it never goes back by itself. (DESIGN CHOICE, log 22) -/
def State.advanceRtc (s : State) (cycles gapNs : Nat) : State :=
  let ns : Int := cycles * 20 + gapNs
  let t := ((if s.clocks.running then s.clocks.tideNs else s.retained.rtcNs : Nat) : Int) + ns + tdiv (ns * s.eth.rate) 1000000000
  s.rtcRuns t.toNat

/-- The RTC takes another value: what is counted from an earlier instant keeps its distance. (DESIGN CHOICE, log 22) -/
def State.setRtc (s : State) (ns : Nat) : State :=
  let d := (ns : Int) - s.retained.rtcNs
  { s with
    retained := { s.retained with rtcNs := ns }, power := { s.power with configureNs := s.power.configureNs + d }
    gauge := { s.gauge with idleFrom := (s.gauge.idleFrom + d).toNat } }

/-- The extended epoch takes a value (R429). -/
def State.setExt (s : State) (e : Nat) : State :=
  { s with clocks := { s.clocks with epoch := e % 2 ^ 32, epochHi := e / 2 ^ 32 % 2 ^ 32 } }

/-- The extended epoch at the first boundary after a release (R429): the later of the RTC in ms and the successor of the latest
time mark, where there is one. (DESIGN CHOICE, log 22) -/
def State.firstEpoch (s : State) : Nat :=
  let rtc := s.retained.rtcNs / 1000000
  if s.log.unbacked ∨ s.log.epochMark = 0 then rtc else max rtc (s.log.epochMark + 1)

/-- The epoch of the tide that begins (R70, R429). -/
def State.nextEpoch (s : State) : State :=
  if s.clocks.running then s.setExt ((s.ext + 1) % 2 ^ 64)
  else
    let s := s.setExt s.firstEpoch
    { s with clocks := { s.clocks with running := true } }

/-- The RTC steps, as PTP asked (R560). (DESIGN CHOICE, log 22; DEDUCED, log 23) -/
def State.stepRtc (s : State) : State :=
  match s.eth.stepDue with
  | some d =>
    ({ s with eth := { s.eth with stepDue := none } } : State).setRtc (((s.retained.rtcNs : Int) + d) % 2 ^ 64).toNat
  | none => s

/-- The time-mark record (R458, Table 17-3). (DEDUCED, log 23) -/
def State.timeMark (s : State) : State :=
  let items := leBytes 8 s.retained.rtcNs ++ leBytes 4 s.clocks.epoch ++ leBytes 4 s.clocks.epochHi
    ++ leBytes 4 s.sluice.generation ++ leS 4 s.eth.offset ++ [byte s.eth.rtcState, byte s.modeCode]
    ++ leBytes 2 s.log.unflushedMax ++ leBytes 4 s.desc.sequence ++ zeros 12
  let s := s.offerAs { cls := 0x01, source := 0, event := none, items := items, flags := 0, use := .plain }
  { s with log := { s.log with unflushedMax := 0 } }

/-- TIME_MARK (R458): at a multiple of 1,000, or where the RTC was set or stepped; each second LOG.NOTE counts afresh. (DEDUCED, log 23) -/
def State.markTime (s : State) (changed : Bool) : State :=
  let second := decide (s.ext % 1000 = 0)
  let s := if second then { s with host := { s.host with sessions := Tab.mapVals {} (fun _ e => { e with notes := 0 }) s.host.sessions } }
    else s
  if second || changed then s.timeMark else s

/-! ### What the blocks latch -/

/-- The values a boundary latches for the tide that ends: the gauge's counts, the outputs' means, the Tideline counts. -/
def State.endTide (s : State) (raws : List Int) (ovr clk : Nat) : State :=
  let s := ((s.readRaws raws ovr clk).latchTide).shuntTide
  let s := s.each (upto 4) fun s n => s.setCluster n Cluster.endTide
  (s.each s.enabledOuts fun s k => s.setOut k Out.endTide).tidelineTide

/-- The fault collector's contribution (R486). -/
def State.faultWindow (s : State) (e : Nat) : FaultWindow :=
  let f := s.faults
  { epoch := e % 2 ^ 32, ringHead := f.nextQseq, alive := s.aliveCode, depth := f.queue.length
    overflow0 := f.overflow0, overflow1 := f.overflow1, overflow2 := f.overflow2, overflow3 := f.overflow3
    src := Tab.mapVals {} (fun _ x => { x with escalated := x.escalated && decide (x.window = s.ext / 1000) }) f.src
    aliveHold := (upto 320).foldl (fun t n => Tab.set false t n ((s.srcAt n).pending && (s.srcAt n).holdsAlive)) []
    minCls := (upto 320).map fun n => (n, s.minClass n), react := (upto 320).map fun n => (n, s.reactionsOf n), ring := f.ring }

/-- Clamps in force per cluster. -/
def State.clampedTab (s : State) : Tab Nat := (upto 4).foldl (fun t c => Tab.set 0 t c (s.clusterAt c).clamped) []

/-- What the read-only fields and the status orders show once the tide is sealed (R197). -/
def State.viewOf (s : State) (e : Nat) : View :=
  let g := s.gauge
  { epoch := e % 2 ^ 32, chan := s.chan, out := s.out, polder := s.polder, budget := s.budget, rect := s.rect, plan := s.plan
    strings := g.strings, conv := g.conv, shuntIn := g.shuntIn, shuntV := g.shuntV, shuntFault := g.shuntFault, devs := s.tw.devs
    sensors := s.tw.sensors, nodes := s.tide.nodes, scanCodes := s.scan.codes, scanFlags := s.scan.flags
    scanStatus := s.scanStatus, clamped := s.clampedTab, gaugeHib := g.hib, probing := g.probe.isSome
    descSequence := s.desc.sequence, descDigest := s.desc.digest, loadStatus := s.desc.loadStatus
    members := (upto 32).foldl (fun t q => Tab.set 0 t q (listMap (s.describedOuts.filter fun k => s.outPolder k = q))) []
    intervals := (upto 128).foldl (fun t k => Tab.set 204800 t k (s.interval k)) []
    liveDiverged := s.desc.liveDiverged, present := s.partner, role := s.role, partnerDie := s.sluice.pDie
    lanesUp := s.peerLanesUp, partnerSequence := s.sluice.pDesc }

/-- Every block latches its contribution to the tide that ended (R28, R71). -/
def State.latchContribs (s : State) (e : Nat) (slewed : Bool) : State :=
  let s := s.latchLedger e slewed
  { s with latchView := s.viewOf e, faults := { s.faults with latchWin := s.faultWindow e } }

/-- What counts afresh in the tide that begins. -/
def State.clearTide (s : State) : State :=
  let dip := match s.power.brace with | some b => b.causes | none => 0
  { s with
    power := { s.power with dipTide := dip }
    clocks := { s.clocks with holdoverTide := s.clocks.refLost }
    gauge := { s.gauge with dip := s.gauge.dip || decide (s.power.dipTide ≠ 0) }
    chan := Tab.mapVals {} (fun _ c => { c with tide := {} }) s.chan
    cluster := Tab.mapVals {} (fun _ c => { c with clampBegan := 0, clampReleased := 0, maxSum := [] }) s.cluster
    out := Tab.mapVals {} (fun _ o => if o.state = 3 then { o with goodTides := o.goodTides + 1 } else o) s.out
    faults := { s.faults with raised := [] }
    sluice := { s.sluice with tookOver := false, strobe := 49 } }

/-- A string whose converter went over range in the tide counts 1 ms as not counted (R356). (DEDUCED, log 24) -/
def State.overRange (s : State) : State :=
  s.each (s.enabledStrings.filter fun k => s.convRuns k && (s.convAt k).ovr) fun s k =>
    s.setString k fun b => { b with uncounted := b.uncounted + 1000 }

/-! ### Orders that take effect -/

/-- TIME.SET at its boundary (R525): a step back is recorded. (DEDUCED, log 23) -/
def State.timeSetDone (s : State) (mb ns : Nat) : State :=
  let old := s.retained.rtcNs
  let s := if ns < old then s.record 0x10 5 (leBytes 8 old ++ leBytes 8 ns) else s
  (s.setRtc ns).finish mb .ok []

/-- A proposal is applied (R232), by CHAN.APPLY (`how` 1) or automatically (2). -/
def State.applyProposal (s : State) (k how : Nat) : State :=
  let i := (s.outAt k).ident
  let s := s.changeDescription (applyEntries s.desc.committed (s.proposalFields k)) fun _ => false
  let e := s.clocks.epoch
  let s := s.setOut k fun o => { o with ident := { o.ident with applied := how, appliedEpoch := e, applyDue := 0, announced := false } }
  s.record 0x0F 3 ([byte k, byte how] ++ leBytes 2 i.g ++ leBytes 2 i.mGm ++ [0, 0] ++ leBytes 4 e)

/-- Must a proposal still be announced: with a partner in Shadow it goes into the supervisory state one tide before the boundary
at which both controllers apply it (R232)? -/
def State.announcesFirst (s : State) (k : Nat) : Bool :=
  decide (s.role = 1) && s.partnerShadow && !(s.outAt k).ident.announced

/-- A proposal is announced in the supervisory state of this boundary. (DEDUCED, log 25) -/
def State.announce (s : State) (k : Nat) : State := s.setOut k fun o => { o with ident := { o.ident with announced := true } }

/-- CHAN.APPLY at its boundary, or one tide later where the proposal is announced first (R232): a proposal superseded meanwhile is
GONE (R233). -/
def State.chanApplyDone (s : State) (mb k : Nat) : State :=
  if (s.outAt k).ident.applied = 3 then s.finish mb .gone []
  else if (s.outAt k).ident.applyDue = 1 then
    if s.announcesFirst k then
      let s := s.announce k
      { s with waiting := s.waiting.map fun w => if w.mailbox = mb then { w with passed := true } else w }
    else
      let s := s.applyProposal k 1
      s.finish mb .ok (leBytes 4 s.clocks.epoch)
  else s.finish mb .gone []

/-- Automatic applications: one that an open edit holds up waits (R230, R233). -/
def State.applyAutomatic (s : State) : State :=
  s.each (s.enabledOuts.filter fun k => decide ((s.outAt k).ident.applyDue = 2)) fun s k =>
    if s.gainStaged (s.lead k) then s
    else if (s.outAt k).ident.proposal ∧ s.autoApplies k = true then
      if s.announcesFirst k then s.announce k else s.applyProposal k 2
    else s.setOut k fun o => { o with ident := { o.ident with applyDue := 0, announced := false } }

/-- Does a waiting order take effect at a tide boundary (R143, R147, R275)? -/
def WaitKind.atBoundary : WaitKind → Bool
  | .objSet _ | .timeSet _ | .chanStart _ | .chanStop _ _ | .chanClear _ | .chanApply _ | .budgetShed _ | .budgetRestore _
  | .gaugeProbe _ _ _ _ | .gaugeAbort | .gaugeWake | .gaugeReseed _ _ | .rectWithdraw _ _ | .rectRotate | .rectForget _
  | .commitBoundary => true
  | _ => false

/-- Must a waiting order have been checked at least 50 µs before its boundary (R143, R147, R275, R319, R389)? -/
def WaitKind.needs50 : WaitKind → Bool
  | .objSet _ | .chanStart _ | .chanStop _ _ | .chanClear _ | .chanApply _ | .budgetShed _ | .budgetRestore _ | .commitBoundary
  | .gaugeProbe _ _ _ _ | .gaugeAbort | .gaugeWake | .gaugeReseed _ _ | .rectWithdraw _ _ | .rectRotate | .rectForget _ => true
  | _ => false

/-- Does a waiting order pass over this boundary: it was checked less than 50 µs before it? `hot` names those mailboxes. -/
def Waiting.skips (w : Waiting) (hot : Nat) : Bool := w.what.needs50 && bit hot w.mailbox && !w.passed

/-- The objects whose fields a waiting order still changes, none for every one (R120). -/
def State.touches (s : State) : WaitKind → Option (List Nat)
  | .objSet l => some (l.map fun e => e.1 / 65536)
  | .chanApply k => some [objectId 1 (s.lead k)]
  | .commitStore | .commitPartner | .commitBoundary =>
    if s.desc.capturedWhole then none else some (s.desc.captured.map fun e => e.1 / 65536)
  | _ => some []

/-- Do two orders change an object in common? -/
def meets : Option (List Nat) → Option (List Nat) → Bool
  | some a, some b => a.any b.contains
  | none, some b => !b.isEmpty
  | some a, none => !a.isEmpty
  | none, none => true

/-- The waiting orders that take effect at a boundary, in order: none overtakes an earlier one, whose objects `held` lists, that
changes the same object and is not due yet (R120). -/
def State.dueOrders (s : State) (hot : Nat) : List (Option (List Nat)) → List Waiting → List Waiting
  | _, [] => []
  | held, w :: t =>
    let o := s.touches w.what
    if w.what.atBoundary && !w.skips hot && !held.any (meets o) then w :: s.dueOrders hot held t
    else s.dueOrders hot (o :: held) t

/-- A waiting order takes effect. -/
def State.takeEffect (s : State) (w : Waiting) : State :=
  let mb := w.mailbox
  match w.what with
  | .objSet l => s.liveSetDone mb l
  | .commitBoundary => s.commitApply w
  | .timeSet ns => s.timeSetDone mb ns
  | .chanStart m => s.chanStarted mb m
  | .chanStop m how => s.chanStopped mb m how
  | .chanClear m => s.chanCleared mb m
  | .chanApply k => s.chanApplyDone mb k
  | .budgetShed m => s.budgetShedDone mb m
  | .budgetRestore m => s.budgetRestoreDone mb m
  | .gaugeProbe strs a c ns => s.gaugeProbeDone mb strs a c ns
  | .gaugeAbort => (s.endProbe 0x01).finish mb .ok []
  | .gaugeWake => (s.wakeGauge s.retained.rtcNs 0).finish mb .ok []
  | .gaugeReseed strs action => s.gaugeReseedDone mb strs action
  | .rectWithdraw m action => s.rectWithdrawDone mb m action
  | .rectRotate => s.rectRotateDone mb
  | .rectForget m => s.rectForgetDone mb m
  | _ => s

/-- A waiting order at its boundary, checked again against the mode (R504). -/
def State.boundaryOrder (s : State) (w : Waiting) : State :=
  match orderRow (s.request w.mailbox).order with
  | some r => if r.served s || w.what = .commitBoundary then s.takeEffect w else s.finish w.mailbox .wrongMode []
  | none => s.takeEffect w

/-- Every order that takes effect at the boundary, in completion order (R144); one checked too late waits for the next. -/
def State.boundaryOrders (s : State) (hot : Nat) : State :=
  let due := s.dueOrders hot [] s.waiting
  let s := { s with waiting := s.waiting.map fun w => if w.skips hot then { w with passed := true } else w }
  due.foldl State.boundaryOrder s

/-! ### The warden's work -/

/-- Window codes of an output (R259): in STATE 7 HIGH_CODE keeps its value. -/
def State.setWindow (s : State) (k : Nat) : State :=
  let w := windowCodes (s.target k) (s.vsp k) (s.outWinLow k) (s.outWinHigh k) (s.chVsRatio (s.lead k))
  s.setOut k fun o => { o with lowCode := w.1, highCode := if o.state = 7 then o.highCode else w.2 }

/-- The windows of every enabled output, written to the scanner's map (R259, R493). (DEDUCED, log 26) -/
def State.setWindows (s : State) : State :=
  let s := s.each s.enabledOuts State.setWindow
  ({ s with scan := { s.scan with mapBad := false, refreshed := 0 } }).condition 309 false |>.condition 311 false

/-- Source 311 (Table 18-5): windows not refreshed for 10 tides. (DEDUCED, log 26) -/
def State.windowsOld (s : State) : State :=
  let s := { s with scan := { s.scan with refreshed := s.scan.refreshed + 1 } }
  if 10 ≤ s.scan.refreshed then s.begin_ 311 1 [] else s

/-- Tides counted by the policy. -/
def Budget.count (b : Budget) : Budget :=
  { b with
    sinceClear := b.sinceClear + 1, sinceRuntimeClear := b.sinceRuntimeClear + 1
    rtTides := if b.rtActive then b.rtTides + 1 else b.rtTides }

/-- The staging plan of the new tide, unless it is frozen (R20, R39). (DEDUCED, log 24) -/
def State.planStep (s : State) : State :=
  let s := s.planTide
  if s.spillway && !s.budget.frozen then s.stagePlan else s

/-- Capping, unless it is frozen (R39, R288). (DEDUCED, log 24) -/
def State.capStep (s : State) (stale : List Nat) : State := if s.budget.frozen then s else s.capping stale

/-- The policy of the shelf at a boundary (R278 to R302): not on a standby, which takes it from its active (R413). (DEDUCED, log 24) -/
def State.policy (s : State) (stale : List Nat) (hot : Nat) : State :=
  if s.mode.active && !s.shadowing then
    let s := ({ s with budget := s.budget.count }).takeLoads
    let s := if s.spillway then s.applyRuntime else s
    let s := (((s.boundaryOrders hot).applyAutomatic).reckon).judgeAc.rideStep
    (((s.planStep.capStep stale).takeKept).unshedOuts).probeGuard
  else if s.mode.active then (s.boundaryOrders hot).judgeAc
  else s.boundaryOrders hot

/-- A Safe-hold that a reaction asked for in the tide is recorded (R39, R480). (DEDUCED, log 24) -/
def State.holdStep (s : State) : State :=
  match s.faults.safeHoldDue with
  | some src =>
    let s := { s with faults := { s.faults with safeHoldDue := none } }
    if holdable s.mode then s.setMode .safeHold 5 src else s
  | none => s

/-- Both banks of a channel whose coefficient word read uncorrectable are rewritten from the committed description (R493). -/
def State.rewriteBanks (s : State) : State :=
  s.each s.enabledOuts fun s k => s.each ((s.phases k).filter fun c => (s.chanAt c).bankBad) fun s c =>
    (s.loadBanks k c).setChan c fun x => { x with bankBad := false }

/-- The warden of a controller that has yielded acknowledges it: its MAC sends no more (R412). The manual does not say when; Example
15-1 has it at a tide boundary. (DEDUCED, log 29) -/
def State.ackYield (s : State) : State :=
  if s.sluice.overlap && !s.token then { s with sluice := { s.sluice with macStopped := true } } else s

/-- What the warden does at a boundary (R21: nothing of it while it is halted): a Safe-hold before the policy (R40), which acts in
the mode it leaves. (DEDUCED, log 21) -/
def State.wardenTide (s : State) (stale : List Nat) (hot : Nat) : State :=
  if s.wardenRuns then
    let s := (State.drainUnknown 16 s.flushReplies).holdStep
    let stepped := s.eth.stepDue.isSome || s.waiting.any fun w => match w.what with | .timeSet _ => true | _ => false
    let s := ({ s with faults := { s.faults with heartbeatMissed := 0 } }).stepRtc
    let s := ((s.policy stale hot).superTide).adoptDescription (bit hot 16)
    let s := ((s.judgeDiverged.rewriteBanks.setWindows).markTime stepped).ackYield
    s.advanceShutdown
  else s.windowsOld

/-- ALIVE starts again at the first boundary at which nothing holds it stopped (R489). (DEDUCED, log 24) -/
def State.aliveTide (s : State) : State :=
  if s.mode.active && !s.aliveHeld then { s with power := { s.power with alive := true } } else s

/-- The tide that ended is latched, and the epoch of the tide that begins is in force; `first` on the first boundary after
a release, which ends no epoch. (DEDUCED, log 21) -/
def State.turnTide (s : State) (raws : List Int) (ovr clk gapNs : Nat) (first : Bool) : State :=
  let e := s.ext
  let slewed := s.fabric.slewNow
  let s := s.endTide raws ovr clk
  let s := if first then s else s.latchContribs e slewed
  let s := (s.overRange.clearTide).advanceRtc s.clocks.tideCycles (if first then gapNs else 0)
  s.nextEpoch

/-- What the tide that begins does first: the fabric's sections, the warden's work, the pins, and SUPER for the tide `e` that
ended. (DEDUCED, log 21) -/
def State.beginTide (s : State) (stale : List Nat) (hot e : Nat) (first : Bool) : State :=
  let s := s.fabricTide.allowanceTide
  let s := { s with plan := { s.plan with ageTides := s.plan.ageTides + 1 } }
  let s := (s.wardenTide stale hot).seedLimited
  let s := { s with budget := { s.budget with tides := s.budget.tides + 1 } }
  let s := (if s.spillway then s.driveShedPins else s).aliveTide
  let s := { s with clocks := { s.clocks with tideNs := s.retained.rtcNs } }
  if first then s else s.sendSuper (e % 2 ^ 32)

/-- The boundary of a released tide generator. (DEDUCED, log 21) -/
def State.boundary (s : State) (raws : List Int) (ovr clk gapNs hot : Nat) (first : Bool) : State :=
  (s.turnTide raws ovr clk gapNs first).beginTide s.staleOuts hot s.ext first

/-- Register 1.1 of the device at an Ethernet lane's port address is read once per tide while domain 16 is powered (R556). -/
def State.readMdio (s : State) (l : List (Option Nat)) : State :=
  if s.domain 16 then
    { s with eth := { s.eth with
      l4 := { s.eth.l4 with phy := (l.getD 0 none).map (· % 65536) }
      l5 := { s.eth.l5 with phy := (l.getD 1 none).map (· % 65536) } } }
  else s

/-- TIDE_BOUNDARY (R70, R71): RAW of the converters, their over-range flags and CLK at the strobe, and the RTC time that passed
before the first tide after a release. `hot` names the mailboxes whose orders were checked less than 50 µs before the boundary, and
bit 16 an adoption acknowledged so late; `mdio` is what the read of R556 gave at port addresses 4 and 5. (DESIGN CHOICE, log 22) -/
def execTideBoundary (raws : List Int) (ovr : Nat) (clk : Nat) (gapNs : Nat) (s : State) (hot : Nat := 0) (mdio : List (Option Nat) := []) :
    Host.Outcome State Fault Refusal :=
  .next (if s.clocks.tideReleased ∧ s.mode.firmware = true then (s.readMdio mdio).boundary raws ovr clk gapNs hot (!s.clocks.running) else s)

end Sys2Proof.Machine
end

