-- ==== Sys2Proof/Machine/Dispatch.lean ====
section
/-! DEFINITION. One arm per command: a direct call of its meaning. -/
namespace Sys2Proof.Machine

/-- The effect of a command on everything but the queue. (DEDUCED, log 6) -/
def exec (i : Instr) (s : State) : Host.Outcome State Fault Refusal :=
  match i with
  | .write addr data => Sys2Proof.Machine.execWrite addr data s
  | .read addr len => Sys2Proof.Machine.execRead addr len s
  | .quietRead addr len => Sys2Proof.Machine.execQuietRead addr len s
  | .status => Sys2Proof.Machine.execStatus s
  | .unknownCommand code => Sys2Proof.Machine.execUnknownCommand code s
  | .mbDoorbell n => Sys2Proof.Machine.execMbDoorbell n s
  | .mbDone n => Sys2Proof.Machine.execMbDone n s
  | .irqStatusClear mask => Sys2Proof.Machine.execIrqStatusClear mask s
  | .resetCauseClear value => Sys2Proof.Machine.execResetCauseClear value s
  | .cursorLo value => Sys2Proof.Machine.execCursorLo value s
  | .cursorHi value => Sys2Proof.Machine.execCursorHi value s
  | .loadComplete => Sys2Proof.Machine.execLoadComplete s
  | .next => Sys2Proof.Machine.execNext s
  | .readCursorWrite value => Sys2Proof.Machine.execReadCursorWrite value s
  | .registerWrite addr data => Sys2Proof.Machine.execRegisterWrite addr data s
  | .sessionOpen mb => Sys2Proof.Machine.execSessionOpen mb s
  | .sessionProve mb => Sys2Proof.Machine.execSessionProve mb s
  | .sessionClose mb => Sys2Proof.Machine.execSessionClose mb s
  | .sessionKeyinstall mb => Sys2Proof.Machine.execSessionKeyinstall mb s
  | .featOffer mb => Sys2Proof.Machine.execFeatOffer mb s
  | .modeGet mb => Sys2Proof.Machine.execModeGet mb s
  | .modeSet mb => Sys2Proof.Machine.execModeSet mb s
  | .objGet mb => Sys2Proof.Machine.execObjGet mb s
  | .objSet mb => Sys2Proof.Machine.execObjSet mb s
  | .objBegin mb => Sys2Proof.Machine.execObjBegin mb s
  | .objValidate mb => Sys2Proof.Machine.execObjValidate mb s
  | .objCommit mb => Sys2Proof.Machine.execObjCommit mb s
  | .objAbort mb => Sys2Proof.Machine.execObjAbort mb s
  | .objLoad mb => Sys2Proof.Machine.execObjLoad mb s
  | .objExport mb => Sys2Proof.Machine.execObjExport mb s
  | .chanUnlock mb => Sys2Proof.Machine.execChanUnlock mb s
  | .chanIdent mb => Sys2Proof.Machine.execChanIdent mb s
  | .chanIdresult mb => Sys2Proof.Machine.execChanIdresult mb s
  | .chanApply mb => Sys2Proof.Machine.execChanApply mb s
  | .chanIdabort mb => Sys2Proof.Machine.execChanIdabort mb s
  | .chanStart mb => Sys2Proof.Machine.execChanStart mb s
  | .chanStop mb => Sys2Proof.Machine.execChanStop mb s
  | .chanClear mb => Sys2Proof.Machine.execChanClear mb s
  | .chanSeqstatus mb => Sys2Proof.Machine.execChanSeqstatus mb s
  | .chanScanread mb => Sys2Proof.Machine.execChanScanread mb s
  | .traceSetup mb => Sys2Proof.Machine.execTraceSetup mb s
  | .traceArm mb => Sys2Proof.Machine.execTraceArm mb s
  | .traceTrigger mb => Sys2Proof.Machine.execTraceTrigger mb s
  | .traceStatus mb => Sys2Proof.Machine.execTraceStatus mb s
  | .traceRead mb => Sys2Proof.Machine.execTraceRead mb s
  | .traceCapsule mb => Sys2Proof.Machine.execTraceCapsule mb s
  | .budgetStatus mb => Sys2Proof.Machine.execBudgetStatus mb s
  | .budgetShed mb => Sys2Proof.Machine.execBudgetShed mb s
  | .budgetRestore mb => Sys2Proof.Machine.execBudgetRestore mb s
  | .rectStatus mb => Sys2Proof.Machine.execRectStatus mb s
  | .rectWithdraw mb => Sys2Proof.Machine.execRectWithdraw mb s
  | .rectRotate mb => Sys2Proof.Machine.execRectRotate mb s
  | .rectForget mb => Sys2Proof.Machine.execRectForget mb s
  | .tideStatus mb => Sys2Proof.Machine.execTideStatus mb s
  | .tideNodes mb => Sys2Proof.Machine.execTideNodes mb s
  | .tideRootinstall mb => Sys2Proof.Machine.execTideRootinstall mb s
  | .tideEvict mb => Sys2Proof.Machine.execTideEvict mb s
  | .gaugeStatus mb => Sys2Proof.Machine.execGaugeStatus mb s
  | .gaugeProbe mb => Sys2Proof.Machine.execGaugeProbe mb s
  | .gaugeProberesult mb => Sys2Proof.Machine.execGaugeProberesult mb s
  | .gaugeAbort mb => Sys2Proof.Machine.execGaugeAbort mb s
  | .gaugeWake mb => Sys2Proof.Machine.execGaugeWake mb s
  | .gaugeReseed mb => Sys2Proof.Machine.execGaugeReseed mb s
  | .sluiceStatus mb => Sys2Proof.Machine.execSluiceStatus mb s
  | .sluiceYield mb => Sys2Proof.Machine.execSluiceYield mb s
  | .sluiceWithdraw mb => Sys2Proof.Machine.execSluiceWithdraw mb s
  | .sluiceResume mb => Sys2Proof.Machine.execSluiceResume mb s
  | .sluiceCompare mb => Sys2Proof.Machine.execSluiceCompare mb s
  | .ledgerStatus mb => Sys2Proof.Machine.execLedgerStatus mb s
  | .ledgerRead mb => Sys2Proof.Machine.execLedgerRead mb s
  | .fabricStatus mb => Sys2Proof.Machine.execFabricStatus mb s
  | .ledgerSubscribe mb => Sys2Proof.Machine.execLedgerSubscribe mb s
  | .ledgerUnsubscribe mb => Sys2Proof.Machine.execLedgerUnsubscribe mb s
  | .logStatus mb => Sys2Proof.Machine.execLogStatus mb s
  | .logRead mb => Sys2Proof.Machine.execLogRead mb s
  | .logVerify mb => Sys2Proof.Machine.execLogVerify mb s
  | .logNote mb => Sys2Proof.Machine.execLogNote mb s
  | .logClear mb => Sys2Proof.Machine.execLogClear mb s
  | .logFormat mb => Sys2Proof.Machine.execLogFormat mb s
  | .logSubscribe mb => Sys2Proof.Machine.execLogSubscribe mb s
  | .logUnsubscribe mb => Sys2Proof.Machine.execLogUnsubscribe mb s
  | .logCapsules mb => Sys2Proof.Machine.execLogCapsules mb s
  | .faultStatus mb => Sys2Proof.Machine.execFaultStatus mb s
  | .faultRead mb => Sys2Proof.Machine.execFaultRead mb s
  | .faultAck mb => Sys2Proof.Machine.execFaultAck mb s
  | .faultEcc mb => Sys2Proof.Machine.execFaultEcc mb s
  | .faultClearcount mb => Sys2Proof.Machine.execFaultClearcount mb s
  | .twStatus mb => Sys2Proof.Machine.execTwStatus mb s
  | .twTransfer mb => Sys2Proof.Machine.execTwTransfer mb s
  | .otpRead mb => Sys2Proof.Machine.execOtpRead mb s
  | .otpProgram mb => Sys2Proof.Machine.execOtpProgram mb s
  | .otpLifecycle mb => Sys2Proof.Machine.execOtpLifecycle mb s
  | .fwStatus mb => Sys2Proof.Machine.execFwStatus mb s
  | .fwWrite mb => Sys2Proof.Machine.execFwWrite mb s
  | .fwCommit mb => Sys2Proof.Machine.execFwCommit mb s
  | .timeGet mb => Sys2Proof.Machine.execTimeGet mb s
  | .timeSet mb => Sys2Proof.Machine.execTimeSet mb s
  | .svcReset mb => Sys2Proof.Machine.execSvcReset mb s
  | .svcBlockreset mb => Sys2Proof.Machine.execSvcBlockreset mb s
  | .svcResetStart done => Sys2Proof.Machine.execSvcResetStart done s
  | .mailboxDatagram port frame => Sys2Proof.Machine.execMailboxDatagram port frame s
  | .neighborSolicitation port target => Sys2Proof.Machine.execNeighborSolicitation port target s
  | .echoRequest port body => Sys2Proof.Machine.execEchoRequest port body s
  | .ethLinkUp port => Sys2Proof.Machine.execEthLinkUp port s
  | .ethLinkDown port => Sys2Proof.Machine.execEthLinkDown port s
  | .ptpAnnounce a => Sys2Proof.Machine.execPtpAnnounce a s
  | .ptpSync port twoStep t1 t2 => Sys2Proof.Machine.execPtpSync port twoStep t1 t2 s
  | .ptpDelayResp port t4 => Sys2Proof.Machine.execPtpDelayResp port t4 s
  | .delayReqTimer t3 => Sys2Proof.Machine.execDelayReqTimer t3 s
  | .ptpHoldover => Sys2Proof.Machine.execPtpHoldover s
  | .holdoverExpiry => Sys2Proof.Machine.execHoldoverExpiry s
  | .vaonRise => Sys2Proof.Machine.execVaonRise s
  | .vaonReset => Sys2Proof.Machine.execVaonReset s
  | .wakeNLow => Sys2Proof.Machine.execWakeNLow s
  | .pbNPress highMs heldMs => Sys2Proof.Machine.execPbNPress highMs s heldMs
  | .pbNRelease heldMs => Sys2Proof.Machine.execPbNRelease heldMs s
  | .longPress => Sys2Proof.Machine.execLongPress s
  | .longPressForceOff => Sys2Proof.Machine.execLongPressForceOff s
  | .longPressPowerDown afterUs => Sys2Proof.Machine.execLongPressPowerDown afterUs s
  | .rtcAlarm => Sys2Proof.Machine.execRtcAlarm s
  | .inuvRecover => Sys2Proof.Machine.execInuvRecover s
  | .gaugeComparatorWake str rtcNs => Sys2Proof.Machine.execGaugeComparatorWake str rtcNs s
  | .pgGood n banks33 => Sys2Proof.Machine.execPgGood n banks33 s
  | .pgTimeout n rtcNs => Sys2Proof.Machine.execPgTimeout n s rtcNs
  | .crystalReady => Sys2Proof.Machine.execCrystalReady s
  | .crystalTimeout rtcNs => Sys2Proof.Machine.execCrystalTimeout s rtcNs
  | .domainSwitchOn => Sys2Proof.Machine.execDomainSwitchOn s
  | .internalResetRelease rtcNs => Sys2Proof.Machine.execInternalResetRelease s rtcNs
  | .wakeRetry => Sys2Proof.Machine.execWakeRetry s
  | .pgLost n => Sys2Proof.Machine.execPgLost n s
  | .resetNLow => Sys2Proof.Machine.execResetNLow s
  | .resetNRelease => Sys2Proof.Machine.execResetNRelease s
  | .orderlyResetProceed afterUs => Sys2Proof.Machine.execOrderlyResetProceed afterUs s
  | .chipResetWake => Sys2Proof.Machine.execChipResetWake s
  | .watchdogExpiry => Sys2Proof.Machine.execWatchdogExpiry s
  | .inuvTrip mv rtcNs => Sys2Proof.Machine.execInuvTrip mv s rtcNs
  | .lastGaspRampEnd => Sys2Proof.Machine.execLastGaspRampEnd s
  | .lastGaspComplete done => Sys2Proof.Machine.execLastGaspComplete done s
  | .supplyWarning mon mv => Sys2Proof.Machine.execSupplyWarning mon mv s
  | .braceEnd us => Sys2Proof.Machine.execBraceEnd us s
  | .supplyReset mon => Sys2Proof.Machine.execSupplyReset mon s
  | .monitorArm mon => Sys2Proof.Machine.execMonitorArm mon s
  | .referenceCrystalLoss => Sys2Proof.Machine.execReferenceCrystalLoss s
  | .holdoverTimeout => Sys2Proof.Machine.execHoldoverTimeout s
  | .rtcCrystalLoss => Sys2Proof.Machine.execRtcCrystalLoss s
  | .pllLossOfLock pll => Sys2Proof.Machine.execPllLossOfLock pll s
  | .rcOutOfRange outside => Sys2Proof.Machine.execRcOutOfRange s outside
  | .otpSenseComplete => Sys2Proof.Machine.execOtpSenseComplete s
  | .memoryInitComplete => Sys2Proof.Machine.execMemoryInitComplete s
  | .flashResetDone taps sfdpKhz rtcNs => Sys2Proof.Machine.execFlashResetDone s taps sfdpKhz rtcNs
  | .imageChecked slot readFails rtcNs => Sys2Proof.Machine.execImageChecked slot readFails s rtcNs
  | .imageStart => Sys2Proof.Machine.execImageStart s
  | .bootRomUncorrectable rtcNs => Sys2Proof.Machine.execBootRomUncorrectable s rtcNs
  | .mount storeBytes taps sfdpKhz => Sys2Proof.Machine.execMount storeBytes s taps sfdpKhz
  | .configureEntry rtcNs => Sys2Proof.Machine.execConfigureEntry s rtcNs
  | .tideBoundary raws ovr clk gapNs hot mdio => Sys2Proof.Machine.execTideBoundary raws ovr clk gapNs s hot mdio
  | .wardenHeartbeatMissed => Sys2Proof.Machine.execWardenHeartbeatMissed s
  | .contribution index epoch us => Sys2Proof.Machine.execContribution index epoch us s
  | .sealDeadline => Sys2Proof.Machine.execSealDeadline s
  | .beaconCycleStart raws ovr clk stray stray6 hits => Sys2Proof.Machine.execBeaconCycleStart raws ovr clk stray stray6 hits s
  | .mirrorStrobe counts => Sys2Proof.Machine.execMirrorStrobe counts s
  | .loopEvaluation ch vsp vsn isp isn gaspNs => Sys2Proof.Machine.execLoopEvaluation ch vsp vsn isp isn gaspNs s
  | .periodStart ch above late => Sys2Proof.Machine.execPeriodStart ch above s late
  | .currentCut ch atLsb => Sys2Proof.Machine.execCurrentCut ch s atLsb
  | .sinkLimit ch current atLsb => Sys2Proof.Machine.execSinkLimit ch current s atLsb
  | .overshoot ch atLsb => Sys2Proof.Machine.execOvershoot ch s atLsb
  | .brakeRelease ch below current => Sys2Proof.Machine.execBrakeRelease ch below s current
  | .brakeTimeout ch atLsb => Sys2Proof.Machine.execBrakeTimeout ch s atLsb
  | .ovTrip ch => Sys2Proof.Machine.execOvTrip ch s
  | .fltN ch low => Sys2Proof.Machine.execFltN ch low s
  | .ocpPersist ch => Sys2Proof.Machine.execOcpPersist ch s
  | .freeboardAccumulation cl => Sys2Proof.Machine.execFreeboardAccumulation cl s
  | .startDelayExpiry out volts => Sys2Proof.Machine.execStartDelayExpiry out volts s
  | .hsTestTrip ch => Sys2Proof.Machine.execHsTestTrip ch s
  | .hsTestEnd out samples => Sys2Proof.Machine.execHsTestEnd out samples s
  | .riseDeadlineExpiry out => Sys2Proof.Machine.execRiseDeadlineExpiry out s
  | .scannerSlot v => Sys2Proof.Machine.execScannerSlot v s
  | .scannerShutdown out => Sys2Proof.Machine.execScannerShutdown out s
  | .temperatureLevel out level => Sys2Proof.Machine.execTemperatureLevel out level s
  | .scannerSelfCheck ok => Sys2Proof.Machine.execScannerSelfCheck ok s
  | .restartClearance out sinceUs => Sys2Proof.Machine.execRestartClearance out s sinceUs
  | .triesRestore out => Sys2Proof.Machine.execTriesRestore out s
  | .identSchedule out => Sys2Proof.Machine.execIdentSchedule out s
  | .identRunEnd out => Sys2Proof.Machine.execIdentRunEnd out s
  | .captureFrozen cl => Sys2Proof.Machine.execCaptureFrozen cl s
  | .crossTrigger cl src => Sys2Proof.Machine.execCrossTrigger cl src s
  | .holdSExpiry cl => Sys2Proof.Machine.execHoldSExpiry cl s
  | .capsulePending cl => Sys2Proof.Machine.execCapsulePending cl s
  | .capsuleStage cl => Sys2Proof.Machine.execCapsuleStage cl s
  | .recordStage => Sys2Proof.Machine.execRecordStage s
  | .burstComplete ok => Sys2Proof.Machine.execBurstComplete ok s
  | .unflushedTimeout => Sys2Proof.Machine.execUnflushedTimeout s
  | .faultEvent source event data => Sys2Proof.Machine.execFaultEvent source event data s
  | .blockResetRelease block heldUs => Sys2Proof.Machine.execBlockResetRelease block s heldUs
  | .scrubTick results => Sys2Proof.Machine.execScrubTick results s
  | .mergeCommit inst word => Sys2Proof.Machine.execMergeCommit inst word s
  | .semaphoreTimeout n pair => Sys2Proof.Machine.execSemaphoreTimeout n pair s
  | .sessionIdleExpiry session => Sys2Proof.Machine.execSessionIdleExpiry session s
  | .proofTimeout session => Sys2Proof.Machine.execProofTimeout session s
  | .keyLockoutEnd key => Sys2Proof.Machine.execKeyLockoutEnd key s
  | .gaugeCycle => Sys2Proof.Machine.execGaugeCycle s
  | .hibernationEntry rtcNs => Sys2Proof.Machine.execHibernationEntry rtcNs s
  | .stringInsertion str => Sys2Proof.Machine.execStringInsertion str s
  | .stringRemoval str => Sys2Proof.Machine.execStringRemoval str s
  | .probeSchedule => Sys2Proof.Machine.execProbeSchedule s
  | .probeFrequencyEnd => Sys2Proof.Machine.execProbeFrequencyEnd s
  | .runtimePrediction => Sys2Proof.Machine.execRuntimePrediction s
  | .deficitShed => Sys2Proof.Machine.execDeficitShed s
  | .deficitClear => Sys2Proof.Machine.execDeficitClear s
  | .runtimeCauseClear => Sys2Proof.Machine.execRuntimeCauseClear s
  | .park => Sys2Proof.Machine.execPark s
  | .rotation => Sys2Proof.Machine.execRotation s
  | .unparkTimeout rect => Sys2Proof.Machine.execUnparkTimeout rect s
  | .stagingRecord => Sys2Proof.Machine.execStagingRecord s
  | .twWindow port alert => Sys2Proof.Machine.execTwWindow port alert s
  | .twTransactionEnd port result data pec => Sys2Proof.Machine.execTwTransactionEnd port result data s pec
  | .smbusTimeout port => Sys2Proof.Machine.execSmbusTimeout port s
  | .arbitrationLost port winner inAddress => Sys2Proof.Machine.execArbitrationLost port winner inAddress s
  | .alertResponse port => Sys2Proof.Machine.execAlertResponse port s
  | .targetStatus port len => Sys2Proof.Machine.execTargetStatus port len s
  | .ident port len => Sys2Proof.Machine.execIdent port len s
  | .resetCause len => Sys2Proof.Machine.execResetCause len s
  | .retention len => Sys2Proof.Machine.execRetention len s
  | .wakeEnable len => Sys2Proof.Machine.execWakeEnable len s
  | .wake data pec => Sys2Proof.Machine.execWake data pec s
  | .live port len => Sys2Proof.Machine.execLive port len s
  | .mbOffset value pec => Sys2Proof.Machine.execMbOffset value pec s
  | .mbWrite data pec => Sys2Proof.Machine.execMbWrite data pec s
  | .mbGo data pec => Sys2Proof.Machine.execMbGo data pec s
  | .mbState len => Sys2Proof.Machine.execMbState len s
  | .mbRead len => Sys2Proof.Machine.execMbRead len s
  | .mbRelease data pec => Sys2Proof.Machine.execMbRelease data pec s
  | .responderWake => Sys2Proof.Machine.execResponderWake s
  | .responderSleep => Sys2Proof.Machine.execResponderSleep s
  | .slotFrame slot frame energy => Sys2Proof.Machine.execSlotFrame slot frame energy s
  | .joinReq frame => Sys2Proof.Machine.execJoinReq frame s
  | .joinVoid node => Sys2Proof.Machine.execJoinVoid node s
  | .tidelineEvent frame => Sys2Proof.Machine.execTidelineEvent frame s
  | .commonAlarm frame => Sys2Proof.Machine.execCommonAlarm frame s
  | .nodeAlarm frame => Sys2Proof.Machine.execNodeAlarm frame s
  | .strangerClear => Sys2Proof.Machine.execStrangerClear s
  | .lostSleeper node => Sys2Proof.Machine.execLostSleeper node s
  | .wideBeaconEnd => Sys2Proof.Machine.execWideBeaconEnd s
  | .sleeperFree node => Sys2Proof.Machine.execSleeperFree node s
  | .controllerQuietEnd => Sys2Proof.Machine.execControllerQuietEnd s
  | .partnerHello lane frame delay lag => Sys2Proof.Machine.execPartnerHello lane frame delay lag s
  | .helloTimer => Sys2Proof.Machine.execHelloTimer s
  | .mirror frame => Sys2Proof.Machine.execMirror frame s
  | .partnerSummary frame => Sys2Proof.Machine.execPartnerSummary frame s
  | .super frame content => Sys2Proof.Machine.execSuper frame content s
  | .handover frame => Sys2Proof.Machine.execHandover frame s
  | .challenge frame => Sys2Proof.Machine.execChallenge frame s
  | .result frame => Sys2Proof.Machine.execResult frame s
  | .challengeTimeout => Sys2Proof.Machine.execChallengeTimeout s
  | .knownAnswerTest cl pass => Sys2Proof.Machine.execKnownAnswerTest cl pass s
  | .selfTestTimer => Sys2Proof.Machine.execSelfTestTimer s
  | .partnerEvent frame => Sys2Proof.Machine.execPartnerEvent frame s
  | .desc frame => Sys2Proof.Machine.execDesc frame s
  | .ack frame => Sys2Proof.Machine.execAck frame s
  | .commitAckTimeout => Sys2Proof.Machine.execCommitAckTimeout s
  | .idstart frame => Sys2Proof.Machine.execIdstart frame s
  | .snapshotFrame frame => Sys2Proof.Machine.execSnapshotFrame frame s
  | .allowanceRelay frame => Sys2Proof.Machine.execAllowanceRelay frame s
  | .partnerLaneUp lane => Sys2Proof.Machine.execPartnerLaneUp lane s
  | .partnerLaneDown lane => Sys2Proof.Machine.execPartnerLaneDown lane s
  | .peerPresence absent => Sys2Proof.Machine.execPeerPresence absent s
  | .claimRaise sinceDropUs => Sys2Proof.Machine.execClaimRaise sinceDropUs s
  | .claimSample peerHigh => Sys2Proof.Machine.execClaimSample peerHigh s
  | .claimBackoffEnd waitedUs => Sys2Proof.Machine.execClaimBackoffEnd s waitedUs
  | .claimTimeout => Sys2Proof.Machine.execClaimTimeout s
  | .sluicePeerFall sinceDropUs => Sys2Proof.Machine.execSluicePeerFall sinceDropUs s
  | .tokenConflict => Sys2Proof.Machine.execTokenConflict s
  | .overlapCutoff => Sys2Proof.Machine.execOverlapCutoff s
  | .fabricHello lane frame settled => Sys2Proof.Machine.execFabricHello lane frame settled s
  | .fabricHelloTimer locked => Sys2Proof.Machine.execFabricHelloTimer locked s
  | .fabricLaneDown lane => Sys2Proof.Machine.execFabricLaneDown lane s
  | .syncSend t1 => Sys2Proof.Machine.execSyncSend t1 s
  | .sync lane frame t2 t3 => Sys2Proof.Machine.execSync lane frame t2 t3 s
  | .delayReq lane frame t4 => Sys2Proof.Machine.execDelayReq lane frame t4 s
  | .delayResp lane frame => Sys2Proof.Machine.execDelayResp lane frame s
  | .rootElection => Sys2Proof.Machine.execRootElection s
  | .recordOriginate => Sys2Proof.Machine.execRecordOriginate s
  | .fabricSummary lane frame => Sys2Proof.Machine.execFabricSummary lane frame s
  | .full lane frame => Sys2Proof.Machine.execFull lane frame s
  | .rowSumStage => Sys2Proof.Machine.execRowSumStage s
  | .rowsum lane frame => Sys2Proof.Machine.execRowsum lane frame s
  | .rootAllocate => Sys2Proof.Machine.execRootAllocate s
  | .rowalloc lane frame => Sys2Proof.Machine.execRowalloc lane frame s
  | .rowAllocate => Sys2Proof.Machine.execRowAllocate s
  | .memalloc lane frame => Sys2Proof.Machine.execMemalloc lane frame s
  | .allowanceHold => Sys2Proof.Machine.execAllowanceHold s
  | .fabricSeal us => Sys2Proof.Machine.execFabricSeal us s
  | .tapReset => Sys2Proof.Machine.execTapReset s
  | .bypass code => Sys2Proof.Machine.execBypass code s
  | .idcode => Sys2Proof.Machine.execIdcode s
  | .samplePreload cells => Sys2Proof.Machine.execSamplePreload cells s
  | .extest => Sys2Proof.Machine.execExtest s
  | .intest => Sys2Proof.Machine.execIntest s
  | .clamp => Sys2Proof.Machine.execClamp s
  | .highz => Sys2Proof.Machine.execHighz s
  | .extestPulse => Sys2Proof.Machine.execExtestPulse s
  | .extestTrain => Sys2Proof.Machine.execExtestTrain s
  | .dapacc dbgen => Sys2Proof.Machine.execDapacc dbgen s
  | .dapRead space addr => Sys2Proof.Machine.execDapRead space addr s
  | .dapQuietRead space addr => Sys2Proof.Machine.execDapQuietRead space addr s
  | .dapWrite space addr value => Sys2Proof.Machine.execDapWrite space addr value s
  | .haltRequest pair => Sys2Proof.Machine.execHaltRequest pair s
  | .haltRelease pair => Sys2Proof.Machine.execHaltRelease pair s
  | .dbgenFall => Sys2Proof.Machine.execDbgenFall s
  | .referenceCrystalRestored => Sys2Proof.Machine.execReferenceCrystalRestored s
  | .rtcCrystalRestored => Sys2Proof.Machine.execRtcCrystalRestored s
  | .ptpFollowUp port t1 => Sys2Proof.Machine.execPtpFollowUp port t1 s
  | .externalWriteComplete mb ok stage left => Sys2Proof.Machine.execExternalWriteComplete mb ok s stage left
  | .externalWriteTimeout mb => Sys2Proof.Machine.execExternalWriteTimeout mb s
  | .responderReady => Sys2Proof.Machine.execResponderReady s
  | .duplicateAddressDetectionEnd port duplicate => Sys2Proof.Machine.execDuplicateAddressDetectionEnd port duplicate s

end Sys2Proof.Machine
end

