-- ==== Sys2Proof/Machine/Step.lean ====
section
/-! DEFINITION. One step: the command at the front of the queue runs; an empty queue idles. -/
namespace Sys2Proof.Machine

/-- One step. DESIGN CHOICE (log entry 2): on an empty queue the block idles, as every time-driven event is a row. (DESIGN CHOICE, log 2; DESIGN CHOICE, log 7; DESIGN CHOICE, log 76) -/
def step (s : State) : Host.Outcome State Fault Refusal :=
  match s.pending with
  | [] => .next s
  | i :: rest => exec i { s with pending := rest }

/-- `s` with the command that a word spells put at the front of its queue; `s` itself where it spells none. (DESIGN CHOICE, log 7) -/
def State.withFetchWord (s : State) (nbits w : Nat) : State :=
  match decodeTableWord nbits w with
  | some i => { s with pending := i :: s.pending }
  | none => s

end Sys2Proof.Machine
end

