-- ==== Sys2Proof/Safety.lean ====
section
/-! DEFINITION. What a safe run is: no command stops the block, what must hold of every state it reaches, and the words
in which statements say what a command leaves alone. -/
namespace Sys2Proof.Machine

/-- The outcome is a next state. -/
def Completes (o : Host.Outcome State Fault Refusal) : Prop := ∃ s', o = .next s'

/-- A property that every next state keeps. -/
def Kept (p : State → Prop) : Prop := ∀ s s', p s → step s = .next s' → p s'

/-- The parts of the state, one for each of its fields. -/
inductive Part where
  | power | retained | clocks | hold | otp | boot | host | desc | log | faults | chan | out | cluster | scan | polder
  | budget | rect | plan | tide | gauge | sluice | ledger | fabric | tw | eth | dbg | latchView | sealedView | waiting
  | sent | freeCount | pending
  deriving DecidableEq, Repr

/-- Is a part the same in two states? -/
def Part.same (p : Part) (s t : State) : Prop :=
  match p with
  | .power => t.power = s.power | .retained => t.retained = s.retained | .clocks => t.clocks = s.clocks
  | .hold => t.hold = s.hold | .otp => t.otp = s.otp | .boot => t.boot = s.boot | .host => t.host = s.host
  | .desc => t.desc = s.desc | .log => t.log = s.log | .faults => t.faults = s.faults | .chan => t.chan = s.chan
  | .out => t.out = s.out | .cluster => t.cluster = s.cluster | .scan => t.scan = s.scan
  | .polder => t.polder = s.polder | .budget => t.budget = s.budget | .rect => t.rect = s.rect | .plan => t.plan = s.plan
  | .tide => t.tide = s.tide | .gauge => t.gauge = s.gauge | .sluice => t.sluice = s.sluice
  | .ledger => t.ledger = s.ledger | .fabric => t.fabric = s.fabric | .tw => t.tw = s.tw | .eth => t.eth = s.eth
  | .dbg => t.dbg = s.dbg | .latchView => t.latchView = s.latchView | .sealedView => t.sealedView = s.sealedView
  | .waiting => t.waiting = s.waiting | .sent => t.sent = s.sent | .freeCount => t.freeCount = s.freeCount
  | .pending => t.pending = s.pending

/-- `t` differs from `s` in the listed parts only. -/
def Only (l : List Part) (s t : State) : Prop := ∀ p : Part, l.contains p = false → p.same s t

/-- The canonical form of the block's three byte memories: the mailboxes, the user RAM and the TW0 transport buffer. -/
def State.canonical (s : State) : Bool := Memory.wf s.host.ram && Memory.wf s.host.user && Memory.wf s.tw.tBuf

/-! ### Words of the statements about orders -/

/-- The state with its oldest accepted order taken off the list. -/
def State.taken (s : State) : State := { s with host := { s.host with orders := s.host.orders.drop 1 } }

/-- The order row of mailbox `mb` starts an order of code `code`: the oldest accepted request is that order, the warden
runs, and none of R122's statuses 1 to 6 applies. -/
def State.starts (s : State) (code mb : Nat) : Prop :=
  s.host.orders.head? = some mb ∧ s.wardenRuns = true ∧ (s.request mb).order = code ∧ s.judge (s.request mb) = none

/-- What follows an order's own work: requests that come to the front with an unknown code, or with an uncorrectable
word, are answered (R120, R122). -/
def State.followed (s : State) : State := State.drainUnknown 16 s

/-- The order of mailbox `mb` is taken and answered, and nothing else of its own happens. -/
def State.answer (s : State) (mb : Nat) (st : Status) (payload : Bytes) : State :=
  (s.taken.reply (s.request mb) st payload).followed

/-- The order of mailbox `mb` is taken and goes on waiting. -/
def State.holds (s : State) (mb : Nat) (what : WaitKind) : State := (s.taken.wait (s.request mb) what).followed

/-- A partner frame `f` of TYPE `t` is taken with body `b`: a lane is up, LENGTH and CRC check, and it is no later copy
(R394, Table 15-2). -/
def State.hears (s : State) (t : Nat) (f b : Bytes) : Prop :=
  s.mode.firmware = true ∧ s.sluice.linkPowered = true ∧ s.linkUp = true ∧ peerBody t f = some b ∧
    Tab.get none s.sluice.rxSeq t ≠ some (fld f 1 1)

/-- A fabric frame `f` of TYPE `t` is taken at lane `l` with a body `b` of `n` bytes: the fabric works, the lane is up, LENGTH
and CRC check (R423). -/
def State.fabHears (s : State) (t n l : Nat) (f b : Bytes) : Prop :=
  s.fabOn = true ∧ l < 4 ∧ (s.fabLane l).up = true ∧ fabBody t f = some b ∧ b.length = n

/-- The order rows: the command, its order code (Table 19-3) and its mailbox. -/
inductive IsOrder : Instr → Nat → Nat → Prop where
  | sessionOpen (mb : Nat) : IsOrder (.sessionOpen mb) 0x0101 mb
  | sessionProve (mb : Nat) : IsOrder (.sessionProve mb) 0x0102 mb
  | sessionClose (mb : Nat) : IsOrder (.sessionClose mb) 0x0103 mb
  | sessionKeyinstall (mb : Nat) : IsOrder (.sessionKeyinstall mb) 0x0104 mb
  | featOffer (mb : Nat) : IsOrder (.featOffer mb) 0x0105 mb
  | modeGet (mb : Nat) : IsOrder (.modeGet mb) 0x0201 mb
  | modeSet (mb : Nat) : IsOrder (.modeSet mb) 0x0202 mb
  | objGet (mb : Nat) : IsOrder (.objGet mb) 0x0301 mb
  | objSet (mb : Nat) : IsOrder (.objSet mb) 0x0302 mb
  | objBegin (mb : Nat) : IsOrder (.objBegin mb) 0x0303 mb
  | objValidate (mb : Nat) : IsOrder (.objValidate mb) 0x0304 mb
  | objCommit (mb : Nat) : IsOrder (.objCommit mb) 0x0305 mb
  | objAbort (mb : Nat) : IsOrder (.objAbort mb) 0x0306 mb
  | objLoad (mb : Nat) : IsOrder (.objLoad mb) 0x0307 mb
  | objExport (mb : Nat) : IsOrder (.objExport mb) 0x0308 mb
  | chanUnlock (mb : Nat) : IsOrder (.chanUnlock mb) 0x0401 mb
  | chanIdent (mb : Nat) : IsOrder (.chanIdent mb) 0x0402 mb
  | chanIdresult (mb : Nat) : IsOrder (.chanIdresult mb) 0x0403 mb
  | chanApply (mb : Nat) : IsOrder (.chanApply mb) 0x0404 mb
  | chanIdabort (mb : Nat) : IsOrder (.chanIdabort mb) 0x0405 mb
  | chanStart (mb : Nat) : IsOrder (.chanStart mb) 0x0406 mb
  | chanStop (mb : Nat) : IsOrder (.chanStop mb) 0x0407 mb
  | chanClear (mb : Nat) : IsOrder (.chanClear mb) 0x0408 mb
  | chanSeqstatus (mb : Nat) : IsOrder (.chanSeqstatus mb) 0x0409 mb
  | chanScanread (mb : Nat) : IsOrder (.chanScanread mb) 0x040A mb
  | traceSetup (mb : Nat) : IsOrder (.traceSetup mb) 0x0501 mb
  | traceArm (mb : Nat) : IsOrder (.traceArm mb) 0x0502 mb
  | traceTrigger (mb : Nat) : IsOrder (.traceTrigger mb) 0x0503 mb
  | traceStatus (mb : Nat) : IsOrder (.traceStatus mb) 0x0504 mb
  | traceRead (mb : Nat) : IsOrder (.traceRead mb) 0x0505 mb
  | traceCapsule (mb : Nat) : IsOrder (.traceCapsule mb) 0x0506 mb
  | budgetStatus (mb : Nat) : IsOrder (.budgetStatus mb) 0x0601 mb
  | budgetShed (mb : Nat) : IsOrder (.budgetShed mb) 0x0602 mb
  | budgetRestore (mb : Nat) : IsOrder (.budgetRestore mb) 0x0603 mb
  | rectStatus (mb : Nat) : IsOrder (.rectStatus mb) 0x0701 mb
  | rectWithdraw (mb : Nat) : IsOrder (.rectWithdraw mb) 0x0702 mb
  | rectRotate (mb : Nat) : IsOrder (.rectRotate mb) 0x0703 mb
  | rectForget (mb : Nat) : IsOrder (.rectForget mb) 0x0704 mb
  | tideStatus (mb : Nat) : IsOrder (.tideStatus mb) 0x0801 mb
  | tideNodes (mb : Nat) : IsOrder (.tideNodes mb) 0x0802 mb
  | tideRootinstall (mb : Nat) : IsOrder (.tideRootinstall mb) 0x0803 mb
  | tideEvict (mb : Nat) : IsOrder (.tideEvict mb) 0x0804 mb
  | gaugeStatus (mb : Nat) : IsOrder (.gaugeStatus mb) 0x0901 mb
  | gaugeProbe (mb : Nat) : IsOrder (.gaugeProbe mb) 0x0902 mb
  | gaugeProberesult (mb : Nat) : IsOrder (.gaugeProberesult mb) 0x0903 mb
  | gaugeAbort (mb : Nat) : IsOrder (.gaugeAbort mb) 0x0904 mb
  | gaugeWake (mb : Nat) : IsOrder (.gaugeWake mb) 0x0905 mb
  | gaugeReseed (mb : Nat) : IsOrder (.gaugeReseed mb) 0x0906 mb
  | sluiceStatus (mb : Nat) : IsOrder (.sluiceStatus mb) 0x0A01 mb
  | sluiceYield (mb : Nat) : IsOrder (.sluiceYield mb) 0x0A02 mb
  | sluiceWithdraw (mb : Nat) : IsOrder (.sluiceWithdraw mb) 0x0A03 mb
  | sluiceResume (mb : Nat) : IsOrder (.sluiceResume mb) 0x0A04 mb
  | sluiceCompare (mb : Nat) : IsOrder (.sluiceCompare mb) 0x0A05 mb
  | ledgerStatus (mb : Nat) : IsOrder (.ledgerStatus mb) 0x0B01 mb
  | ledgerRead (mb : Nat) : IsOrder (.ledgerRead mb) 0x0B02 mb
  | fabricStatus (mb : Nat) : IsOrder (.fabricStatus mb) 0x0B03 mb
  | ledgerSubscribe (mb : Nat) : IsOrder (.ledgerSubscribe mb) 0x0B04 mb
  | ledgerUnsubscribe (mb : Nat) : IsOrder (.ledgerUnsubscribe mb) 0x0B05 mb
  | logStatus (mb : Nat) : IsOrder (.logStatus mb) 0x0C01 mb
  | logRead (mb : Nat) : IsOrder (.logRead mb) 0x0C02 mb
  | logVerify (mb : Nat) : IsOrder (.logVerify mb) 0x0C03 mb
  | logNote (mb : Nat) : IsOrder (.logNote mb) 0x0C04 mb
  | logClear (mb : Nat) : IsOrder (.logClear mb) 0x0C05 mb
  | logFormat (mb : Nat) : IsOrder (.logFormat mb) 0x0C06 mb
  | logSubscribe (mb : Nat) : IsOrder (.logSubscribe mb) 0x0C07 mb
  | logUnsubscribe (mb : Nat) : IsOrder (.logUnsubscribe mb) 0x0C08 mb
  | logCapsules (mb : Nat) : IsOrder (.logCapsules mb) 0x0C09 mb
  | faultStatus (mb : Nat) : IsOrder (.faultStatus mb) 0x0D01 mb
  | faultRead (mb : Nat) : IsOrder (.faultRead mb) 0x0D02 mb
  | faultAck (mb : Nat) : IsOrder (.faultAck mb) 0x0D03 mb
  | faultEcc (mb : Nat) : IsOrder (.faultEcc mb) 0x0D04 mb
  | faultClearcount (mb : Nat) : IsOrder (.faultClearcount mb) 0x0D05 mb
  | twStatus (mb : Nat) : IsOrder (.twStatus mb) 0x0E01 mb
  | twTransfer (mb : Nat) : IsOrder (.twTransfer mb) 0x0E02 mb
  | otpRead (mb : Nat) : IsOrder (.otpRead mb) 0x0F01 mb
  | otpProgram (mb : Nat) : IsOrder (.otpProgram mb) 0x0F02 mb
  | otpLifecycle (mb : Nat) : IsOrder (.otpLifecycle mb) 0x0F03 mb
  | fwStatus (mb : Nat) : IsOrder (.fwStatus mb) 0x1001 mb
  | fwWrite (mb : Nat) : IsOrder (.fwWrite mb) 0x1002 mb
  | fwCommit (mb : Nat) : IsOrder (.fwCommit mb) 0x1003 mb
  | timeGet (mb : Nat) : IsOrder (.timeGet mb) 0x1101 mb
  | timeSet (mb : Nat) : IsOrder (.timeSet mb) 0x1102 mb
  | svcReset (mb : Nat) : IsOrder (.svcReset mb) 0x1201 mb
  | svcBlockreset (mb : Nat) : IsOrder (.svcBlockreset mb) 0x1202 mb

end Sys2Proof.Machine
end

