-- ==== Sys2Proof/Laws/Memory.lean ====
section
/-! SUPPORT. Tables and byte memories: reading after a write, and the canonical form that every write keeps. -/
set_option Elab.async false
namespace Sys2Proof

namespace Tab

variable {α : Type}

theorem get_erase (d : α) (t : Tab α) (i j : Nat) : get d (erase t i) j = if j = i then d else get d t j := by
  induction t with
  | nil => simp [erase, get]
  | cons e t ih =>
    obtain ⟨k, v⟩ := e
    by_cases hk : k = i
    · subst hk
      by_cases hj : j = k
      · subst hj; simp [erase, ih]
      · have hj' : ¬k = j := fun h => hj h.symm
        simp [erase, get, ih, hj, hj']
    · by_cases hj : j = i
      · subst hj; simp [erase, get, ih, hk]
      · simp [erase, get, ih, hk, hj]

theorem get_insert (d : α) (t : Tab α) (i j : Nat) (v : α) (h : ∀ e ∈ t, e.1 ≠ i) :
    get d (insert i v t) j = if j = i then v else get d t j := by
  induction t with
  | nil => simp [insert, get, eq_comm]
  | cons e t ih =>
    obtain ⟨k, w⟩ := e
    have hk : k ≠ i := h (k, w) (by simp)
    have ih := ih fun e he => h e (by simp [he])
    by_cases hl : i < k
    · by_cases hj : j = i
      · subst hj; simp [insert, get, hl]
      · have : ¬i = j := fun x => hj x.symm
        simp [insert, get, hl, hj, this]
    · by_cases hj : j = i
      · subst hj; simp [insert, get, hl, ih, hk]
      · simp [insert, get, hl, ih, hj]

theorem mem_erase {t : Tab α} {i : Nat} {e : Nat × α} : e ∈ erase t i ↔ e ∈ t ∧ e.1 ≠ i := by
  induction t with
  | nil => simp [erase]
  | cons x t ih =>
    obtain ⟨k, v⟩ := x
    by_cases hk : k = i
    · simp only [erase, hk, if_true, ih, List.mem_cons]
      constructor
      · rintro ⟨h, h'⟩; exact ⟨.inr h, h'⟩
      · rintro ⟨rfl | h, h'⟩
        · exact absurd rfl h'
        · exact ⟨h, h'⟩
    · simp only [erase, hk, if_false, List.mem_cons, ih]
      constructor
      · rintro (rfl | ⟨h, h'⟩)
        · exact ⟨.inl rfl, hk⟩
        · exact ⟨.inr h, h'⟩
      · rintro ⟨rfl | h, h'⟩
        · exact .inl rfl
        · exact .inr ⟨h, h'⟩

/-- Reading a table after entry `i` was set. -/
theorem get_set [DecidableEq α] (d : α) (t : Tab α) (i j : Nat) (v : α) :
    get d (set d t i v) j = if j = i then v else get d t j := by
  unfold set
  split
  · next h => rw [get_erase, h]
  · rw [get_insert d _ i j v fun e he => (mem_erase.mp he).2, get_erase]
    split <;> rfl

/-- Reading a table after entry `i` went through `f`. -/
theorem get_upd [DecidableEq α] (d : α) (t : Tab α) (i j : Nat) (f : α → α) :
    get d (upd d t i f) j = if j = i then f (get d t i) else get d t j := get_set d t i j _

/-- An entry of a mapped table is the mapped entry, where an unlisted entry maps to itself. -/
theorem get_mapVals [DecidableEq α] (d : α) (f : Nat → α → α) (t : Tab α) (j : Nat) (h : f j d = d) :
    get d (mapVals d f t) j = f j (get d t j) := by
  induction t with
  | nil => exact h.symm
  | cons e t ih =>
    have e1 : mapVals d f (e :: t) = set d (mapVals d f t) e.1 (f e.1 e.2) := rfl
    rw [e1, get_set, ih]
    obtain ⟨k, v⟩ := e
    by_cases hk : k = j
    · simp [get, hk]
    · simp [get, hk, Ne.symm hk]

theorem wfFrom_iff [DecidableEq α] (d : α) (lo : Option Nat) (t : Tab α) :
    wfFrom d lo t = true ↔
      (∀ e ∈ t, e.2 ≠ d) ∧ (∀ l, lo = some l → ∀ e ∈ t, l < e.1) ∧ t.Pairwise fun a b => a.1 < b.1 := by
  induction t generalizing lo with
  | nil => simp [wfFrom]
  | cons x t ih =>
    obtain ⟨k, v⟩ := x
    have key : wfFrom d lo ((k, v) :: t) = true ↔ (∀ l, lo = some l → l < k) ∧ v ≠ d ∧ wfFrom d (some k) t = true := by
      cases lo <;> simp [wfFrom, and_assoc]
    rw [key, ih]
    simp only [List.mem_cons, List.pairwise_cons]
    constructor
    · rintro ⟨h1, h2, h3, h4, h5⟩
      refine ⟨?_, ?_, ?_, h5⟩
      · rintro e (rfl | he)
        · exact h2
        · exact h3 e he
      · rintro l hl e (rfl | he)
        · exact h1 l hl
        · exact Nat.lt_trans (h1 l hl) (h4 k rfl e he)
      · exact fun e he => h4 k rfl e he
    · rintro ⟨h1, h2, h3, h4⟩
      refine ⟨fun l hl => h2 l hl (k, v) (.inl rfl), h1 (k, v) (.inl rfl), fun e he => h1 e (.inr he), ?_, h4⟩
      rintro l hl e he
      cases hl
      exact h3 e he

theorem wf_iff [DecidableEq α] (d : α) (t : Tab α) :
    wf d t = true ↔ (∀ e ∈ t, e.2 ≠ d) ∧ t.Pairwise fun a b => a.1 < b.1 := by
  simp [wf, wfFrom_iff]

theorem erase_sublist (t : Tab α) (i : Nat) : (erase t i).Sublist t := by
  induction t with
  | nil => exact .slnil
  | cons x t ih =>
    obtain ⟨k, v⟩ := x
    by_cases hk : k = i
    · simpa [erase, hk] using ih.cons (i, v)
    · simpa [erase, hk] using ih.cons_cons (k, v)

theorem wf_erase [DecidableEq α] (d : α) (t : Tab α) (i : Nat) (h : wf d t = true) : wf d (erase t i) = true := by
  rw [wf_iff] at h ⊢
  exact ⟨fun e he => h.1 e (mem_erase.mp he).1, h.2.sublist (erase_sublist t i)⟩

theorem mem_insert {t : Tab α} {i : Nat} {v : α} {e : Nat × α} : e ∈ insert i v t ↔ e = (i, v) ∨ e ∈ t := by
  induction t with
  | nil => simp [insert]
  | cons x t ih =>
    obtain ⟨k, w⟩ := x
    by_cases hl : i < k
    · simp [insert, hl]
    · simp only [insert, hl, if_false, List.mem_cons, ih]
      constructor
      · rintro (h | h | h) <;> simp [h]
      · rintro (h | h | h) <;> simp [h]

theorem pairwise_insert {t : Tab α} {i : Nat} {v : α} (h : t.Pairwise fun a b => a.1 < b.1) (hi : ∀ e ∈ t, e.1 ≠ i) :
    (insert i v t).Pairwise fun a b => a.1 < b.1 := by
  induction t with
  | nil => simp [insert]
  | cons x t ih =>
    obtain ⟨k, w⟩ := x
    have hk : k ≠ i := hi (k, w) (by simp)
    rw [List.pairwise_cons] at h
    by_cases hl : i < k
    · simp only [insert, hl, if_true, List.pairwise_cons, List.mem_cons]
      refine ⟨?_, h.1, h.2⟩
      rintro e (rfl | he)
      · exact hl
      · exact Nat.lt_trans hl (h.1 e he)
    · simp only [insert, hl, if_false, List.pairwise_cons]
      refine ⟨fun e he => ?_, ih h.2 fun e he => hi e (by simp [he])⟩
      rcases mem_insert.mp he with rfl | he
      · exact Nat.lt_of_le_of_ne (Nat.le_of_not_lt hl) hk
      · exact h.1 e he

/-- A write keeps the canonical form of a table. -/
theorem wf_set [DecidableEq α] (d : α) (t : Tab α) (i : Nat) (v : α) (h : wf d t = true) : wf d (set d t i v) = true := by
  unfold set
  split
  · exact wf_erase d t i h
  · next hv =>
    have h' := wf_erase d t i h
    rw [wf_iff] at h' ⊢
    refine ⟨fun e he => ?_, pairwise_insert h'.2 fun e he => (mem_erase.mp he).2⟩
    rcases mem_insert.mp he with rfl | he
    · exact hv
    · exact h'.1 e he

end Tab

namespace Machine

/-- A byte written is read back, and every other byte reads as before. -/
theorem memRead_write (m : List Host.Cell) (a b : Nat) (v : Byte) :
    memRead (memWrite m a v) b = if b = a then v else memRead m b := Tab.get_set 0 m a b v

/-- A write of one byte keeps the canonical form. -/
theorem memWrite_wf (m : List Host.Cell) (a : Nat) (v : Byte) (h : Memory.wf m = true) : Memory.wf (memWrite m a v) = true :=
  Tab.wf_set 0 m a v h

/-- A write of a byte string keeps the canonical form. -/
theorem memWriteN_wf (d : Bytes) (m : List Host.Cell) (a : Nat) (h : Memory.wf m = true) :
    Memory.wf (memWriteN m a d) = true := by
  induction d generalizing m a with
  | nil => exact h
  | cons b t ih => exact ih (memWrite m a b) (a + 1) (memWrite_wf m a b h)

/-- After a byte string was written from `a`, its bytes are read there and every other byte reads as before. -/
theorem memRead_writeN (d : Bytes) (m : List Host.Cell) (a b : Nat) :
    memRead (memWriteN m a d) b = if a ≤ b ∧ b < a + d.length then d.getD (b - a) 0 else memRead m b := by
  induction d generalizing m a with
  | nil => rw [memWriteN, if_neg (by simp only [List.length_nil]; omega)]
  | cons x t ih =>
    rw [memWriteN, ih, memRead_write]
    simp only [List.length_cons]
    by_cases h1 : b = a
    · subst h1
      rw [if_neg (by omega), if_pos rfl, if_pos (by omega)]
      simp
    · by_cases h2 : a + 1 ≤ b ∧ b < a + 1 + t.length
      · rw [if_pos h2, if_pos (by omega)]
        obtain ⟨n, hn⟩ : ∃ n, b - a = n + 1 := ⟨b - a - 1, by omega⟩
        rw [hn, show b - (a + 1) = n by omega]
        simp
      · rw [if_neg h2, if_neg h1, if_neg (by omega)]

/-- The empty memory is canonical. -/
theorem nil_wf : Memory.wf [] = true := rfl

end Machine
end Sys2Proof
end

