-- ==== Sys2Proof/Laws/Foot.lean ====
section
/-! SUPPORT. Footprints: what a state function may change. `Foot l s t` says that `t` differs from `s` only in the parts
whose bits `l` holds (bit i is the i-th part of `Part`), that the byte memories stay canonical, and that no channel's two
gates come to be high at one instant of its period. One lemma for each state function of the model stands in the files FootOps to
FootTideBoundary. -/
set_option Elab.async false
namespace Sys2Proof.Machine

/-- Does a set of parts hold a part? -/
def Part.holds (l : Nat) (p : Part) : Bool := l.testBit p.ctorIdx

/-- Is every part of `m` one of `l`? -/
def Part.within (m l : Nat) : Bool := m &&& l == m

/-- At no instant of its period does a waveform have both gates high. -/
def Drive.Apart (d : Drive) : Prop := ∀ t, (d.high t && d.low t) = false

theorem Drive.off_apart : Drive.Apart .off := fun _ => rfl

theorem Drive.lowOn_apart : Drive.Apart .lowOn := fun _ => rfl

/-- A pulse whose low side rises no earlier than its high side falls. -/
theorem Drive.pulse_apart {r f l : Nat} (h : f ≤ l) : Drive.Apart (.pulse r f l) := by
  intro t
  simp only [Drive.high, Drive.low, Bool.and_eq_false_iff, decide_eq_false_iff_not]
  omega

/-- No channel of a table has both gates high at an instant. -/
def chansApart (t : Tab Chan) : Prop := ∀ c, (Tab.get {} t c).drive.Apart

/-- Updating a channel keeps the gates apart where the update does. -/
theorem chansApart_upd (t : Tab Chan) (k : Nat) (f : Chan → Chan)
    (hf : ∀ c : Chan, c.drive.Apart → (f c).drive.Apart) (h : chansApart t) :
    chansApart (Tab.upd {} t k f) := by
  intro c
  rw [Tab.get_upd]
  split
  · exact hf _ (h k)
  · exact h c

/-- So does mapping every channel. -/
theorem chansApart_mapVals (t : Tab Chan) (f : Nat → Chan → Chan) (h0 : ∀ k, f k {} = {})
    (hf : ∀ k c, c.drive.Apart → (f k c).drive.Apart) (h : chansApart t) :
    chansApart (Tab.mapVals {} f t) := by
  intro c
  rw [Tab.get_mapVals _ _ _ _ (h0 c)]
  exact hf _ _ (h c)

/-- What a run keeps whatever the command: canonical byte memories, and no channel with both gates high. -/
structure Sound (s t : State) : Prop where
  mem : s.canonical = true → t.canonical = true
  gates : chansApart s.chan → chansApart t.chan

theorem Sound.rfl {s : State} : Sound s s := ⟨id, id⟩

theorem Sound.trans {s t u : State} (h : Sound s t) (h' : Sound t u) : Sound s u :=
  ⟨fun x => h'.mem (h.mem x), fun x => h'.gates (h.gates x)⟩

/-- `t` differs from `s` in the parts `l` only, and keeps what every run keeps. -/
def Foot (l : Nat) (s t : State) : Prop :=
  (∀ p : Part, p.holds l = false → p.same s t) ∧ Sound s t

/-- The mailboxes and the user RAM are canonical. -/
def HostPort.canonical (h : HostPort) : Bool := Memory.wf h.ram && Memory.wf h.user

/-- Writing mailbox bytes keeps the form. -/
theorem HostPort.canonical_ram (h : HostPort) (a : Nat) (d : Bytes) (hc : h.canonical = true) :
    ({ h with ram := memWriteN h.ram a d } : HostPort).canonical = true := by
  simp only [HostPort.canonical, Bool.and_eq_true] at hc ⊢
  exact ⟨memWriteN_wf d h.ram a hc.1, hc.2⟩

/-- Writing a mailbox byte keeps the form. -/
theorem HostPort.canonical_byte (h : HostPort) (a : Nat) (b : Byte) (hc : h.canonical = true) :
    ({ h with ram := memWrite h.ram a b } : HostPort).canonical = true := by
  simp only [HostPort.canonical, Bool.and_eq_true] at hc ⊢
  exact ⟨memWrite_wf h.ram a b hc.1, hc.2⟩

/-- Clearing the mailboxes keeps the form. -/
theorem HostPort.canonical_clear (h : HostPort) (hc : h.canonical = true) : ({ h with ram := [] } : HostPort).canonical = true := by
  simp only [HostPort.canonical, Bool.and_eq_true] at hc ⊢
  exact ⟨nil_wf, hc.2⟩

/-- Writing a user-RAM byte keeps the form. -/
theorem HostPort.canonical_user (h : HostPort) (a : Nat) (b : Byte) (w : Tab Nat) (hc : h.canonical = true) :
    ({ h with user := memWrite h.user a b, userWritten := w } : HostPort).canonical = true := by
  simp only [HostPort.canonical, Bool.and_eq_true] at hc ⊢
  exact ⟨hc.1, memWrite_wf h.user a b hc.2⟩

theorem State.canonical_eq (s : State) : s.canonical = (s.host.canonical && Memory.wf s.tw.tBuf) := rfl

theorem Part.same_trans {p : Part} {s t u : State} (h : p.same s t) (h' : p.same t u) : p.same s u := by
  cases p <;> exact Eq.trans h' h

theorem Part.same_refl (p : Part) (s : State) : p.same s s := by cases p <;> rfl

theorem Part.holds_of_within {m l : Nat} (h : Part.within m l = true) {p : Part} (hp : p.holds m = true) :
    p.holds l = true := by
  have h : m &&& l = m := by simpa [Part.within] using h
  have hp : (m &&& l).testBit p.ctorIdx = true := by rw [h]; exact hp
  rw [Nat.testBit_and, Bool.and_eq_true] at hp
  exact hp.2

theorem Part.within_trans {k m l : Nat} (h : Part.within m l = true) (h' : Part.within k m = true) :
    Part.within k l = true := by
  have h : m &&& l = m := by simpa [Part.within] using h
  have h' : k &&& m = k := by simpa [Part.within] using h'
  have : k &&& l = k := by rw [← h', Nat.and_assoc, h]
  simp [Part.within, this]

namespace Foot

variable {l m : Nat} {s0 s t : State}

theorem refl (l : Nat) (s : State) : Foot l s s := ⟨fun p _ => p.same_refl s, .rfl⟩

theorem same {l : Nat} {s : State} : Foot l s s := refl l s

/-- After a step whose footprint lies within `l`. -/
theorem after (h : Foot m s t) (h0 : Foot l s0 s) (hm : Part.within m l = true := by rfl) : Foot l s0 t := by
  refine ⟨fun p hp => Part.same_trans (h0.1 p hp) (h.1 p ?_), h0.2.trans h.2⟩
  cases hb : p.holds m with
  | false => rfl
  | true => rw [Part.holds_of_within hm hb] at hp; cases hp

theorem mono (h : Foot m s t) (hm : Part.within m l = true := by rfl) : Foot l s t := h.after (refl l s) hm

/-- The parts outside a footprint given as a list. -/
theorem only (h : Foot m s t) (l : List Part) (hm : m = (l.map fun p => 2 ^ p.ctorIdx).foldl (· ||| ·) 0) : Only l s t := by
  intro p hp
  refine h.1 p ?_
  subst hm
  have key : ∀ (l : List Part) (a : Nat), p ∉ l → a.testBit p.ctorIdx = false →
      ((l.map fun p => 2 ^ p.ctorIdx).foldl (· ||| ·) a).testBit p.ctorIdx = false := by
    intro l
    induction l with
    | nil => intro a _ ha; exact ha
    | cons q l ih =>
      intro a hq ha
      refine ih _ (fun h => hq (List.mem_cons_of_mem _ h)) ?_
      have hne : q.ctorIdx ≠ p.ctorIdx := by
        intro he
        apply hq
        have : q = p := by revert he; cases q <;> cases p <;> intro he <;> first | rfl | cases he
        rw [this]
        exact List.mem_cons_self
      rw [Nat.testBit_or, ha, Bool.false_or, Nat.testBit_two_pow]
      simpa using hne
  exact key l 0 (by simpa using hp) (Nat.zero_testBit _)

theorem ite {c : Prop} [Decidable c] {a b : State} (ha : Foot l s0 a) (hb : Foot l s0 b) :
    Foot l s0 (if c then a else b) := by split <;> assumption

theorem iteFst {α : Type} {c : Prop} [Decidable c] {a b : State × α} (ha : Foot l s0 a.1) (hb : Foot l s0 b.1) :
    Foot l s0 (if c then a else b).1 := by split <;> assumption

theorem fold {α : Type} {f : State → α → State} {xs : List α} (h : Foot l s0 s)
    (hf : ∀ s x, Foot l s0 s → Foot l s0 (f s x)) : Foot l s0 (xs.foldl f s) := by
  induction xs generalizing s with
  | nil => exact h
  | cons x t ih => exact ih (hf s x h)

theorem foldFst {α β : Type} {f : State × β → α → State × β} {xs : List α} {a : State × β} (h : Foot l s0 a.1)
    (hf : ∀ a x, Foot l s0 a.1 → Foot l s0 (f a x).1) : Foot l s0 (xs.foldl f a).1 := by
  induction xs generalizing a with
  | nil => exact h
  | cons x t ih => exact ih (hf a x h)

theorem each {f : State → Nat → State} {xs : List Nat} (h : Foot l s0 s)
    (hf : ∀ s x, Foot l s0 s → Foot l s0 (f s x)) : Foot l s0 (s.each xs f) := fold h hf

/-- A state that differs from `s` in one part. -/
theorem set {p : Part} (h : Foot l s0 s) (hl : p.holds l = true) (ht : ∀ q : Part, q ≠ p → q.same s t)
    (hc : Sound s t) : Foot l s0 t := by
  refine ⟨fun q hq => Part.same_trans (h.1 q hq) (ht q ?_), h.2.trans hc⟩
  intro he
  rw [he, hl] at hq
  cases hq

theorem power {x} (h : Foot l s0 s) (hl : Part.holds l .power = true := by rfl) : Foot l s0 { s with power := x } :=
  h.set hl (fun p hp => by cases p <;> first | rfl | exact absurd rfl hp) ⟨id, id⟩

theorem retained {x} (h : Foot l s0 s) (hl : Part.holds l .retained = true := by rfl) : Foot l s0 { s with retained := x } :=
  h.set hl (fun p hp => by cases p <;> first | rfl | exact absurd rfl hp) ⟨id, id⟩

theorem clocks {x} (h : Foot l s0 s) (hl : Part.holds l .clocks = true := by rfl) : Foot l s0 { s with clocks := x } :=
  h.set hl (fun p hp => by cases p <;> first | rfl | exact absurd rfl hp) ⟨id, id⟩

theorem hold {x} (h : Foot l s0 s) (hl : Part.holds l .hold = true := by rfl) : Foot l s0 { s with hold := x } :=
  h.set hl (fun p hp => by cases p <;> first | rfl | exact absurd rfl hp) ⟨id, id⟩

theorem otp {x} (h : Foot l s0 s) (hl : Part.holds l .otp = true := by rfl) : Foot l s0 { s with otp := x } :=
  h.set hl (fun p hp => by cases p <;> first | rfl | exact absurd rfl hp) ⟨id, id⟩

theorem boot {x} (h : Foot l s0 s) (hl : Part.holds l .boot = true := by rfl) : Foot l s0 { s with boot := x } :=
  h.set hl (fun p hp => by cases p <;> first | rfl | exact absurd rfl hp) ⟨id, id⟩

theorem desc {x} (h : Foot l s0 s) (hl : Part.holds l .desc = true := by rfl) : Foot l s0 { s with desc := x } :=
  h.set hl (fun p hp => by cases p <;> first | rfl | exact absurd rfl hp) ⟨id, id⟩

theorem log {x} (h : Foot l s0 s) (hl : Part.holds l .log = true := by rfl) : Foot l s0 { s with log := x } :=
  h.set hl (fun p hp => by cases p <;> first | rfl | exact absurd rfl hp) ⟨id, id⟩

theorem faults {x} (h : Foot l s0 s) (hl : Part.holds l .faults = true := by rfl) : Foot l s0 { s with faults := x } :=
  h.set hl (fun p hp => by cases p <;> first | rfl | exact absurd rfl hp) ⟨id, id⟩

theorem chan {x} (h : Foot l s0 s) (hg : chansApart s.chan → chansApart x)
    (hl : Part.holds l .chan = true := by rfl) : Foot l s0 { s with chan := x } :=
  h.set hl (fun p hp => by cases p <;> first | rfl | exact absurd rfl hp) ⟨id, hg⟩

theorem out {x} (h : Foot l s0 s) (hl : Part.holds l .out = true := by rfl) : Foot l s0 { s with out := x } :=
  h.set hl (fun p hp => by cases p <;> first | rfl | exact absurd rfl hp) ⟨id, id⟩

theorem cluster {x} (h : Foot l s0 s) (hl : Part.holds l .cluster = true := by rfl) : Foot l s0 { s with cluster := x } :=
  h.set hl (fun p hp => by cases p <;> first | rfl | exact absurd rfl hp) ⟨id, id⟩

theorem scan {x} (h : Foot l s0 s) (hl : Part.holds l .scan = true := by rfl) : Foot l s0 { s with scan := x } :=
  h.set hl (fun p hp => by cases p <;> first | rfl | exact absurd rfl hp) ⟨id, id⟩

theorem polder {x} (h : Foot l s0 s) (hl : Part.holds l .polder = true := by rfl) : Foot l s0 { s with polder := x } :=
  h.set hl (fun p hp => by cases p <;> first | rfl | exact absurd rfl hp) ⟨id, id⟩

theorem budget {x} (h : Foot l s0 s) (hl : Part.holds l .budget = true := by rfl) : Foot l s0 { s with budget := x } :=
  h.set hl (fun p hp => by cases p <;> first | rfl | exact absurd rfl hp) ⟨id, id⟩

theorem rect {x} (h : Foot l s0 s) (hl : Part.holds l .rect = true := by rfl) : Foot l s0 { s with rect := x } :=
  h.set hl (fun p hp => by cases p <;> first | rfl | exact absurd rfl hp) ⟨id, id⟩

theorem plan {x} (h : Foot l s0 s) (hl : Part.holds l .plan = true := by rfl) : Foot l s0 { s with plan := x } :=
  h.set hl (fun p hp => by cases p <;> first | rfl | exact absurd rfl hp) ⟨id, id⟩

theorem tide {x} (h : Foot l s0 s) (hl : Part.holds l .tide = true := by rfl) : Foot l s0 { s with tide := x } :=
  h.set hl (fun p hp => by cases p <;> first | rfl | exact absurd rfl hp) ⟨id, id⟩

theorem gauge {x} (h : Foot l s0 s) (hl : Part.holds l .gauge = true := by rfl) : Foot l s0 { s with gauge := x } :=
  h.set hl (fun p hp => by cases p <;> first | rfl | exact absurd rfl hp) ⟨id, id⟩

theorem sluice {x} (h : Foot l s0 s) (hl : Part.holds l .sluice = true := by rfl) : Foot l s0 { s with sluice := x } :=
  h.set hl (fun p hp => by cases p <;> first | rfl | exact absurd rfl hp) ⟨id, id⟩

theorem ledger {x} (h : Foot l s0 s) (hl : Part.holds l .ledger = true := by rfl) : Foot l s0 { s with ledger := x } :=
  h.set hl (fun p hp => by cases p <;> first | rfl | exact absurd rfl hp) ⟨id, id⟩

theorem fabric {x} (h : Foot l s0 s) (hl : Part.holds l .fabric = true := by rfl) : Foot l s0 { s with fabric := x } :=
  h.set hl (fun p hp => by cases p <;> first | rfl | exact absurd rfl hp) ⟨id, id⟩

theorem eth {x} (h : Foot l s0 s) (hl : Part.holds l .eth = true := by rfl) : Foot l s0 { s with eth := x } :=
  h.set hl (fun p hp => by cases p <;> first | rfl | exact absurd rfl hp) ⟨id, id⟩

theorem dbg {x} (h : Foot l s0 s) (hl : Part.holds l .dbg = true := by rfl) : Foot l s0 { s with dbg := x } :=
  h.set hl (fun p hp => by cases p <;> first | rfl | exact absurd rfl hp) ⟨id, id⟩

theorem latchView {x} (h : Foot l s0 s) (hl : Part.holds l .latchView = true := by rfl) : Foot l s0 { s with latchView := x } :=
  h.set hl (fun p hp => by cases p <;> first | rfl | exact absurd rfl hp) ⟨id, id⟩

theorem sealedView {x} (h : Foot l s0 s) (hl : Part.holds l .sealedView = true := by rfl) : Foot l s0 { s with sealedView := x } :=
  h.set hl (fun p hp => by cases p <;> first | rfl | exact absurd rfl hp) ⟨id, id⟩

theorem waiting {x} (h : Foot l s0 s) (hl : Part.holds l .waiting = true := by rfl) : Foot l s0 { s with waiting := x } :=
  h.set hl (fun p hp => by cases p <;> first | rfl | exact absurd rfl hp) ⟨id, id⟩

theorem sent {x} (h : Foot l s0 s) (hl : Part.holds l .sent = true := by rfl) : Foot l s0 { s with sent := x } :=
  h.set hl (fun p hp => by cases p <;> first | rfl | exact absurd rfl hp) ⟨id, id⟩

theorem freeCount {x} (h : Foot l s0 s) (hl : Part.holds l .freeCount = true := by rfl) : Foot l s0 { s with freeCount := x } :=
  h.set hl (fun p hp => by cases p <;> first | rfl | exact absurd rfl hp) ⟨id, id⟩

theorem hostC {x : HostPort} (h : Foot l s0 s) (hc : s.host.canonical = true → x.canonical = true)
    (hl : Part.holds l .host = true := by rfl) : Foot l s0 { s with host := x } :=
  h.set hl (fun p hp => by cases p <;> first | rfl | exact absurd rfl hp) ⟨fun hs => by
    simp only [State.canonical_eq, Bool.and_eq_true] at hs ⊢
    exact ⟨hc hs.1, hs.2⟩, id⟩

theorem host {x : HostPort} (h : Foot l s0 s) (hl : Part.holds l .host = true := by rfl)
    (hr : x.ram = s.host.ram := by first | with_reducible rfl | (dsimp only; done) | (dsimp only; split <;> rfl) | (split <;> rfl) | rfl) (hu : x.user = s.host.user := by first | with_reducible rfl | (dsimp only; done) | (dsimp only; split <;> rfl) | (split <;> rfl) | rfl) :
    Foot l s0 { s with host := x } :=
  h.hostC (hl := hl) (by simp only [HostPort.canonical, hr, hu]; exact id)

theorem twC {x : TwoWire} (h : Foot l s0 s) (hc : Memory.wf s.tw.tBuf = true → Memory.wf x.tBuf = true)
    (hl : Part.holds l .tw = true := by rfl) : Foot l s0 { s with tw := x } :=
  h.set hl (fun p hp => by cases p <;> first | rfl | exact absurd rfl hp) ⟨fun hs => by
    simp only [State.canonical_eq, Bool.and_eq_true] at hs ⊢
    exact ⟨hs.1, hc hs.2⟩, id⟩

theorem tw {x : TwoWire} (h : Foot l s0 s) (hl : Part.holds l .tw = true := by rfl)
    (hb : x.tBuf = s.tw.tBuf := by first | with_reducible rfl | (dsimp only; done) | (dsimp only; split <;> rfl) | (split <;> rfl) | rfl) : Foot l s0 { s with tw := x } := h.twC (hl := hl) (by rw [hb]; exact id)

/-- A record update of several parts. -/
theorem update {power retained clocks hold otp boot host desc log faults chan out cluster scan polder budget rect plan tide
      gauge sluice ledger fabric tw eth dbg latchView sealedView waiting sent freeCount}
    (h : Foot l s0 s) (hg : chansApart s.chan → chansApart chan := by exact id)
    (ho : ∀ p : Part, p.holds l = false → p.same s (State.mk power retained clocks hold otp boot host desc log faults chan out cluster scan
      polder budget rect plan tide gauge sluice ledger fabric tw eth dbg latchView
      sealedView waiting sent freeCount s.pending)
      := by intro p hp; cases p <;> first | exact absurd hp (by decide) | dsimp only [Part.same])
    (hr : host.ram = s.host.ram := by first | with_reducible rfl | (dsimp only; done) | (dsimp only; split <;> rfl) | (split <;> rfl) | rfl) (hu : host.user = s.host.user := by first | with_reducible rfl | (dsimp only; done) | (dsimp only; split <;> rfl) | (split <;> rfl) | rfl)
    (hb : tw.tBuf = s.tw.tBuf := by first | with_reducible rfl | (dsimp only; done) | (dsimp only; split <;> rfl) | (split <;> rfl) | rfl) :
    Foot l s0 (State.mk power retained clocks hold otp boot host desc log faults chan out cluster scan
      polder budget rect plan tide gauge sluice ledger fabric tw eth dbg latchView
      sealedView waiting sent freeCount s.pending) :=
  ⟨fun p hp => Part.same_trans (h.1 p hp) (ho p hp), h.2.trans ⟨fun h' => by
    simp only [State.canonical, hr, hu, hb] at h' ⊢
    exact h', hg⟩⟩

/-- A record update of several parts that may touch the byte memories. -/
theorem updateC {power retained clocks hold otp boot host desc log faults chan out cluster scan polder budget rect plan tide
      gauge sluice ledger fabric tw eth dbg latchView sealedView waiting sent freeCount}
    (h : Foot l s0 s) (hg : chansApart s.chan → chansApart chan := by exact id)
    (hh : s.host.canonical = true → host.canonical = true)
    (ht : Memory.wf s.tw.tBuf = true → Memory.wf tw.tBuf = true)
    (ho : ∀ p : Part, p.holds l = false → p.same s (State.mk power retained clocks hold otp boot host desc log faults chan out cluster scan
      polder budget rect plan tide gauge sluice ledger fabric tw eth dbg latchView
      sealedView waiting sent freeCount s.pending)
      := by intro p hp; cases p <;> first | exact absurd hp (by decide) | dsimp only [Part.same]) :
    Foot l s0 (State.mk power retained clocks hold otp boot host desc log faults chan out cluster scan
      polder budget rect plan tide gauge sluice ledger fabric tw eth dbg latchView
      sealedView waiting sent freeCount s.pending) :=
  ⟨fun p hp => Part.same_trans (h.1 p hp) (ho p hp), h.2.trans ⟨fun h' => by
    simp only [State.canonical_eq, Bool.and_eq_true] at h' ⊢
    exact ⟨hh h'.1, ht h'.2⟩, hg⟩⟩

end Foot

/-- The command answers a next state, within a footprint. -/
def Within (l : Nat) (s : State) (o : Host.Outcome State Fault Refusal) : Prop := ∃ t, o = .next t ∧ Foot l s t

end Sys2Proof.Machine
end

