-- ==== Sys2Proof/Laws/FootOps.lean ====
section
/-! SUPPORT. Footprints of the state functions of Ops.lean. -/
set_option Elab.async false
namespace Sys2Proof.Machine

theorem Chan.low_apart (st : ChState) (c : Chan) : (c.low st).drive.Apart := Drive.off_apart

theorem Chan.lowUnlessLocked_apart (st : ChState) (c : Chan) :
    (c.lowUnlessLocked st).drive.Apart := by
  unfold Chan.lowUnlessLocked
  split <;> exact Drive.off_apart

theorem Chan.swap_apart {c : Chan} (h : c.drive.Apart) : c.swap.drive.Apart := by
  unfold Chan.swap
  split <;> exact h

theorem State.setChan_foot (s : State) (k : Nat) (f : Chan → Chan)
    (hf : ∀ c : Chan, c.drive.Apart → (f c).drive.Apart := by
      intro c hc
      first
        | with_reducible exact hc
        | (dsimp only; exact hc)
        | (dsimp only; split <;> exact hc)
        | exact Chan.lowUnlessLocked_apart _ _
        | exact Chan.swap_apart hc
        | exact Chan.low_apart _ _
        | (dsimp only; exact Chan.low_apart _ _)
        | (split <;> first | exact hc | exact Chan.low_apart _ _)
        | exact Drive.off_apart
        | (dsimp only; repeat' first | exact Drive.off_apart | exact hc | split)
        | exact hc) :
    Foot 0x400 s (s.setChan k f) := by
  unfold State.setChan
  exact .chan .same (chansApart_upd _ _ _ hf)

theorem State.setOut_foot (s : State) (k : Nat) (f : Out → Out) : Foot 0x800 s (s.setOut k f) := by
  unfold State.setOut
  exact .out .same

theorem State.setCluster_foot (s : State) (k : Nat) (f : Cluster → Cluster) : Foot 0x1000 s (s.setCluster k f) := by
  unfold State.setCluster
  exact .cluster .same

theorem State.setPolder_foot (s : State) (k : Nat) (f : Polder → Polder) : Foot 0x4000 s (s.setPolder k f) := by
  unfold State.setPolder
  exact .polder .same

theorem State.setRect_foot (s : State) (k : Nat) (f : Rect → Rect) : Foot 0x10000 s (s.setRect k f) := by
  unfold State.setRect
  exact .rect .same

theorem State.setNode_foot (s : State) (k : Nat) (f : Node → Node) : Foot 0x40000 s (s.setNode k f) := by
  unfold State.setNode
  exact .tide .same

theorem State.setConv_foot (s : State) (k : Nat) (f : Conv → Conv) : Foot 0x80000 s (s.setConv k f) := by
  unfold State.setConv
  exact .gauge .same

theorem State.setString_foot (s : State) (k : Nat) (f : BString → BString) : Foot 0x80000 s (s.setString k f) := by
  unfold State.setString
  exact .gauge .same

theorem State.setMb_foot (s : State) (k : Nat) (f : Mailbox → Mailbox) : Foot 0x40 s (s.setMb k f) := by
  unfold State.setMb
  exact .host .same

theorem State.setSes_foot (s : State) (k : Nat) (f : Session → Session) : Foot 0x40 s (s.setSes k f) := by
  unfold State.setSes
  exact .host .same

theorem State.setTw_foot (s : State) (k : Nat) (f : TwPort → TwPort) : Foot 0x800000 s (s.setTw k f) := by
  unfold State.setTw
  exact .tw .same

theorem State.setTwDev_foot (s : State) (k : Nat) (f : TwDev → TwDev) : Foot 0x800000 s (s.setTwDev k f) := by
  unfold State.setTwDev
  exact .tw .same

theorem State.setSensor_foot (s : State) (k : Nat) (f : Sensor → Sensor) : Foot 0x800000 s (s.setSensor k f) := by
  unfold State.setSensor
  exact .tw .same

theorem State.setSrc_foot (s : State) (k : Nat) (f : FaultSrc → FaultSrc) : Foot 0x200 s (s.setSrc k f) := by
  unfold State.setSrc
  exact .faults .same

theorem State.setEcc_foot (s : State) (k : Nat) (f : EccCounters → EccCounters) : Foot 0x200 s (s.setEcc k f) := by
  unfold State.setEcc
  exact .faults .same

theorem State.used_foot (s : State) : Foot 0x40000000 s s.used := by
  unfold State.used
  exact .freeCount .same

theorem State.send_foot (s : State) (t : Tx) : Foot 0x20000000 s (s.send t) := by
  unfold State.send
  exact .sent .same

theorem State.offerAs_foot (s : State) (o : LogOffer) : Foot 0x100 s (s.offerAs o) := by
  unfold State.offerAs
  exact .log .same

theorem State.record_foot (s : State) (cls event : Nat) (items : Bytes) : Foot 0x100 s (s.record cls event items) :=
    by
  unfold State.record
  exact (State.offerAs_foot _ _).after .same

theorem State.recordFor_foot (s : State) (use : OfferUse) (cls event : Nat) (items : Bytes) :
    Foot 0x100 s (s.recordFor use cls event items) := by
  unfold State.recordFor
  exact (State.offerAs_foot _ _).after .same

end Sys2Proof.Machine
end

