-- ==== Sys2Proof/Laws/FootGates.lean ====
section
/-! SUPPORT. Footprints of the state functions of Gates.lean. -/
set_option Elab.async false
namespace Sys2Proof.Machine

theorem State.setTrip_foot (s : State) (k ch : Nat) : Foot 0x400 s (s.setTrip k ch) := by
  unfold State.setTrip
  exact (State.setChan_foot _ _ _).after .same

theorem State.lowPhase_foot (s : State) (k : Nat) (st : ChState) (ch : Nat) : Foot 0x400 s (s.lowPhase k st ch) := by
  unfold State.lowPhase
  exact (State.setTrip_foot _ _ _).after ((State.setChan_foot _ _ _).after .same)

theorem State.lowOutput_foot (s : State) (k : Nat) (st : ChState) : Foot 0x400 s (s.lowOutput k st) := by
  unfold State.lowOutput
  exact .each .same fun _ _ h0 => (State.lowPhase_foot _ _ _ _).after h0

theorem State.lowAll_foot (s : State) (st : ChState) : Foot 0x400 s (s.lowAll st) := by
  unfold State.lowAll
  exact .each .same fun _ _ h0 => (State.setChan_foot _ _ _).after h0

theorem State.stopRecord_foot (s : State) (k cause : Nat) : Foot 0x100 s (s.stopRecord k cause) := by
  unfold State.stopRecord
  exact (State.record_foot _ _ _ _).after .same

theorem State.stageBank_foot (s : State) (k ch : Nat) : Foot 0x400 s (s.stageBank k ch) := by
  unfold State.stageBank
  exact (State.setChan_foot _ _ _).after .same

theorem State.loadBanks_foot (s : State) (k ch : Nat) : Foot 0x400 s (s.loadBanks k ch) := by
  unfold State.loadBanks
  exact (State.setChan_foot _ _ _).after .same

theorem State.swapBanks_foot (s : State) (k : Nat) : Foot 0x400 s (s.swapBanks k) := by
  unfold State.swapBanks
  exact .each .same fun _ _ h0 => (State.setChan_foot _ _ _).after h0

theorem State.forceOut_foot (s : State) (k state cause : Nat) (record : Bool) :
    Foot 0xD00 s (s.forceOut k state cause record) := by
  unfold State.forceOut
  exact .ite ((State.stopRecord_foot _ _ _).after ((State.setOut_foot _ _ _).after ((State.lowOutput_foot _ _
      _).after .same))) ((State.setOut_foot _ _ _).after ((State.lowOutput_foot _ _ _).after .same))

theorem State.endRamp_foot (s : State) (k : Nat) : Foot 0xC00 s (s.endRamp k) := by
  unfold State.endRamp
  exact (State.setOut_foot _ _ _).after ((State.lowOutput_foot _ _ _).after .same)

theorem State.forceDependant_foot (s : State) (j : Nat) : Foot 0xD00 s (s.forceDependant j) := by
  unfold State.forceDependant
  exact .ite ((State.forceOut_foot _ _ _ _ _).after .same) (.ite ((State.setOut_foot _ _ _).after .same) (.ite
      ((State.endRamp_foot _ _).after .same) (.ite ((State.setOut_foot _ _ _).after .same) .same)))

theorem State.forceDependants_foot (s : State) (k : Nat) : Foot 0xD00 s (s.forceDependants k) := by
  unfold State.forceDependants
  exact .each .same fun _ _ h0 => (State.forceDependant_foot _ _).after h0

theorem State.failOut_foot (s : State) (k cause : Nat) (record : Bool) : Foot 0xD00 s (s.failOut k cause record) := by
  unfold State.failOut
  exact (State.forceDependants_foot _ _).after ((State.forceOut_foot _ _ _ _ _).after .same)

theorem State.orderStop_foot (s : State) (k cause : Nat) : Foot 0xD00 s (s.orderStop k cause) := by
  unfold State.orderStop
  exact .ite ((State.setOut_foot _ _ _).after .same) (.ite ((State.setOut_foot _ _ _).after ((State.lowOutput_foot _
      _ _).after .same)) (.ite ((State.stopRecord_foot _ _ _).after ((State.setOut_foot _ _ _).after .same)) .same))

theorem State.settleOut_foot (s : State) (k : Nat) : Foot 0x800 s (s.settleOut k) := by
  unfold State.settleOut
  exact .ite ((State.setOut_foot _ _ _).after (.ite ((State.setOut_foot _ _ _).after .same) .same)) (.ite
      ((State.setOut_foot _ _ _).after (.ite ((State.setOut_foot _ _ _).after .same) .same)) (.ite
      ((State.setOut_foot _ _ _).after .same) .same))

theorem State.settle_foot (s : State) : Foot 0x800 s s.settle := by
  unfold State.settle
  exact .ite (.each .same fun _ _ h0 => (State.settleOut_foot _ _).after h0) .same

theorem State.phaseForced_foot (s : State) (k : Nat) : Foot 0xD00 s (s.phaseForced k) := by
  unfold State.phaseForced
  exact .ite ((State.failOut_foot _ _ _ _).after .same) (.ite ((State.endRamp_foot _ _).after .same)
      ((State.lowOutput_foot _ _ _).after .same))

theorem State.clearOut_foot (s : State) (k by_ : Nat) : Foot 0x900 s (s.clearOut k by_) := by
  unfold State.clearOut
  exact (State.record_foot _ _ _ _).after ((State.setOut_foot _ _ _).after .same)

theorem State.want_foot (s : State) (k : Nat) : Foot 0x800 s (s.want k) := by
  unfold State.want
  exact .ite .same (.ite ((State.setOut_foot _ _ _).after ((State.setOut_foot _ _ _).after .same))
      ((State.setOut_foot _ _ _).after .same))

theorem State.clearWanted_foot (s : State) : Foot 0x800 s s.clearWanted := by
  unfold State.clearWanted
  exact .each .same fun _ _ h0 => (State.setOut_foot _ _ _).after h0

theorem State.outputsOff_foot (s : State) (cause : Nat) : Foot 0xC00 s (s.outputsOff cause) := by
  unfold State.outputsOff
  exact .each .same fun _ _ h0 => .ite ((State.setOut_foot _ _ _).after ((State.lowOutput_foot _ _ _).after h0))
      (.ite ((State.setOut_foot _ _ _).after h0) (.ite ((State.endRamp_foot _ _).after h0) h0))

theorem State.safeHoldOut_foot (s : State) (k : Nat) : Foot 0xD00 s (s.safeHoldOut k) := by
  unfold State.safeHoldOut
  exact .ite ((State.setOut_foot _ _ _).after ((State.lowOutput_foot _ _ _).after .same)) (.ite ((State.setOut_foot _
      _ _).after .same) (.ite .same (.ite ((State.orderStop_foot _ _ _).after .same) (.ite ((State.failOut_foot _ _ _
      _).after .same) .same))))

theorem State.safeHoldOutputs_foot (s : State) : Foot 0xD00 s s.safeHoldOutputs := by
  unfold State.safeHoldOutputs
  exact (State.settle_foot _).after (.each .same fun _ _ h0 => (State.safeHoldOut_foot _ _).after h0)

end Sys2Proof.Machine
end

