-- ==== Sys2Proof/Laws/FootHostOps.lean ====
section
/-! SUPPORT. Footprints of the state functions of HostOps.lean. -/
set_option Elab.async false
namespace Sys2Proof.Machine

theorem State.freeMb_foot (s : State) (n : Nat) : Foot 0x40 s (s.freeMb n) := by
  unfold State.freeMb
  exact .host ((State.setMb_foot _ _ _).after .same)

theorem State.sendEth_foot (s : State) (p : Nat) (d : Bytes) : Foot 0x20000000 s (s.sendEth p d) := by
  unfold State.sendEth
  exact by
    (try dsimp only)
    split
    · exact .same
    · exact (State.send_foot _ _).after .same

theorem State.writeResponse_foot (s : State) (n : Nat) (r : Bytes) : Foot 0x40 s (s.writeResponse n r) := by
  unfold State.writeResponse
  exact .hostC .same (HostPort.canonical_ram _ _ _)

theorem State.deliver_foot (s : State) (n : Nat) (st : Status) (payload : Bytes) (epoch : Nat) :
    Foot 0x20800040 s (s.deliver n st payload epoch) := by
  unfold State.deliver
  exact by
    (try dsimp only)
    split
    · exact (State.freeMb_foot _ _).after ((State.sendEth_foot _ _ _).after ((State.setSes_foot _ _ _).after (.host
        ((State.writeResponse_foot _ _ _).after .same))))
    · exact .tw ((State.setMb_foot _ _ _).after (.host ((State.writeResponse_foot _ _ _).after .same)))
    · exact (State.setMb_foot _ _ _).after (.host ((State.writeResponse_foot _ _ _).after .same))

theorem State.respond_foot (s : State) (n : Nat) (st : Status) (payload : Bytes) (epoch : Nat) :
    Foot 0x20900040 s (s.respond n st payload epoch) := by
  unfold State.respond
  exact .ite (.sluice .same) ((State.deliver_foot _ _ _ _ _).after .same)

theorem State.flushReplies_foot (s : State) : Foot 0x20900040 s s.flushReplies := by
  unfold State.flushReplies
  exact .fold (.sluice .same) fun _ _ h0 => (State.deliver_foot _ _ _ _ _).after h0

theorem State.deliverHeld_foot (s : State) : Foot 0x20900040 s s.deliverHeld := by
  unfold State.deliverHeld
  exact (State.flushReplies_foot _).after (.sluice .same)

theorem State.wait_foot (s : State) (q : Req) (what : WaitKind) : Foot 0x10000000 s (s.wait q what) := by
  unfold State.wait
  exact .waiting .same

theorem State.unwait_foot (s : State) (n : Nat) : Foot 0x10000000 s (s.unwait n) := by
  unfold State.unwait
  exact .waiting .same

theorem State.finish_foot (s : State) (n : Nat) (st : Status) (payload : Bytes) :
    Foot 0x30900040 s (s.finish n st payload) := by
  unfold State.finish
  exact (State.respond_foot _ _ _ _ _).after ((State.unwait_foot _ _).after .same)

theorem State.finishAll_foot (s : State) (p : Waiting → Bool) (st : Status) : Foot 0x30900040 s (s.finishAll p st) :=
    by
  unfold State.finishAll
  exact .fold .same fun _ _ h0 => (State.finish_foot _ _ _ _).after h0

theorem State.ring_foot (s : State) (n : Nat) (o : Owner) (port counter key : Nat) :
    Foot 0x40 s (s.ring n o port counter key) := by
  unfold State.ring
  exact .host ((State.setMb_foot _ _ _).after .same)

theorem State.irqMode_foot (s : State) : Foot 0x40 s s.irqMode := by
  unfold State.irqMode
  exact .host .same

theorem State.irqGen_foot (s : State) : Foot 0x40 s s.irqGen := by
  unfold State.irqGen
  exact .host .same

end Sys2Proof.Machine
end

