-- ==== Sys2Proof/Laws/FootMirror.lean ====
section
/-! SUPPORT. Footprints of the state functions of Mirror.lean. -/
set_option Elab.async false
namespace Sys2Proof.Machine

theorem State.sendPeer_foot (s : State) (ftype : Nat) (body : Bytes) : Foot 0x20100000 s (s.sendPeer ftype body) := by
  unfold State.sendPeer
  exact .ite (.sluice ((State.send_foot _ _).after .same)) .same

theorem State.peerEvent_foot (s : State) (code : Nat) (data : Bytes) : Foot 0x20100000 s (s.peerEvent code data) := by
  unfold State.peerEvent
  exact .ite ((State.sendPeer_foot _ _ _).after .same) .same

theorem State.latchAll_foot (s : State) : Foot 0x100000 s s.latchAll := by
  unfold State.latchAll
  exact .sluice .same

theorem State.sendHandover_foot (s : State) (cause noApply : Nat) :
    Foot 0x60100000 s (s.sendHandover cause noApply) := by
  unfold State.sendHandover
  exact (State.sendPeer_foot _ _ _).after ((State.used_foot _).after ((State.latchAll_foot _).after .same))

theorem State.dropToken_foot (s : State) : Foot 0x100C00 s s.dropToken := by
  unfold State.dropToken
  exact .ite ((State.lowAll_foot _ _).after (.each (.sluice .same) fun _ _ h0 => (State.setOut_foot _ _ _).after
      ((State.lowOutput_foot _ _ _).after h0))) .same

theorem State.passToken_foot (s : State) (cause noApply : Nat) : Foot 0x60100D40 s (s.passToken cause noApply) := by
  unfold State.passToken
  exact .sluice ((State.irqGen_foot _).after ((State.record_foot _ _ _ _).after ((State.dropToken_foot _).after
      ((State.sendHandover_foot _ _ _).after .same))))

end Sys2Proof.Machine
end

