-- ==== Sys2Proof/Laws/FootCheckpoint.lean ====
section
/-! SUPPORT. Footprints of the state functions of Checkpoint.lean. -/
set_option Elab.async false
namespace Sys2Proof.Machine

theorem State.checkpoint_foot (s : State) (reason : Nat) : Foot 0x80100 s (s.checkpoint reason) := by
  unfold State.checkpoint
  exact .ite .same (.update .same)

theorem State.wakeGauge_foot (s : State) (rtc late : Nat) : Foot 0x80000 s (s.wakeGauge rtc late) := by
  unfold State.wakeGauge
  exact .ite (.gauge .same) .same

theorem State.endProbe_foot (s : State) (reason : Nat) : Foot 0xC0000 s (s.endProbe reason) := by
  unfold State.endProbe
  dsimp only
  exact by
    (try dsimp only)
    split
    · exact .same
    · exact .update (.each .same fun _ _ h1 => (State.setString_foot _ _ _).after h1)

end Sys2Proof.Machine
end

