-- ==== Sys2Proof/Laws/FootModes.lean ====
section
/-! SUPPORT. Footprints of the state functions of Modes.lean. -/
set_option Elab.async false
namespace Sys2Proof.Machine

theorem State.abortIdents_foot (s : State) (reason : Nat) : Foot 0x800 s (s.abortIdents reason) := by
  unfold State.abortIdents
  exact .each .same fun _ _ h0 => (State.setOut_foot _ _ _).after h0

theorem State.abandonCommit_foot (s : State) (st : Status) : Foot 0x309000C0 s (s.abandonCommit st) := by
  unfold State.abandonCommit
  exact .ite (.desc ((State.finishAll_foot _ _ _).after .same)) .same

theorem State.closeEdit_foot (s : State) : Foot 0x80 s s.closeEdit := by
  unfold State.closeEdit
  exact .ite .same (.desc .same)

theorem State.releaseHalts_foot (s : State) : Foot 0x22900260 s s.releaseHalts := by
  unfold State.releaseHalts
  exact (State.flushReplies_foot _).after (.update ((State.setSrc_foot _ _ _).after .same))

theorem State.enterMode_foot (s : State) (m : Mode) : Foot 0x329C0AE1 s (s.enterMode m) := by
  unfold State.enterMode
  exact (State.irqMode_foot _).after (.power (.ite ((State.releaseHalts_foot _).after (.ite ((State.wakeGauge_foot _
      _ _).after ((State.endProbe_foot _ _).after ((State.abortIdents_foot _ _).after .same))) ((State.closeEdit_foot
      _).after ((State.abandonCommit_foot _ _).after ((State.wakeGauge_foot _ _ _).after ((State.endProbe_foot _
      _).after ((State.abortIdents_foot _ _).after .same))))))) (.ite ((State.wakeGauge_foot _ _ _).after
      ((State.endProbe_foot _ _).after ((State.abortIdents_foot _ _).after .same))) ((State.closeEdit_foot _).after
      ((State.abandonCommit_foot _ _).after ((State.wakeGauge_foot _ _ _).after ((State.endProbe_foot _ _).after
      ((State.abortIdents_foot _ _).after .same))))))))

theorem State.overtakeModeSet_foot (s : State) : Foot 0x30900041 s s.overtakeModeSet := by
  unfold State.overtakeModeSet
  exact .update ((State.finishAll_foot _ _ _).after .same)

theorem State.wantEnabled_foot (s : State) : Foot 0x800 s s.wantEnabled := by
  unfold State.wantEnabled
  exact .each .same fun _ _ h0 => .ite h0 ((State.want_foot _ _).after h0)

theorem State.onEntry_foot (s : State) (old m : Mode) : Foot 0x108D00 s (s.onEntry old m) := by
  unfold State.onEntry
  exact by
    (try dsimp only)
    split
    · exact .ite ((State.settle_foot _).after ((State.wantEnabled_foot _).after (.budget .same))) ((State.settle_foot
        _).after (.budget .same))
    · exact (State.outputsOff_foot _ _).after ((State.clearWanted_foot _).after (.budget .same))
    · exact .ite (.budget .same) (.sluice ((State.lowAll_foot _ _).after (.budget .same)))
    · exact (State.safeHoldOutputs_foot _).after (.budget .same)
    · exact .budget .same

theorem State.setMode_foot (s : State) (m : Mode) (trigger source : Nat) :
    Foot 0x329C8FE1 s (s.setMode m trigger source) := by
  unfold State.setMode
  exact (State.onEntry_foot _ _ _).after ((State.record_foot _ _ _ _).after ((State.enterMode_foot _ _).after (.ite
      .same ((State.overtakeModeSet_foot _).after .same))))

theorem State.disarm_foot (s : State) : Foot 0x1 s s.disarm := by
  unfold State.disarm
  exact .power .same

theorem State.powerDomains_foot (s : State) (d : Nat) : Foot 0x1DC1011 s (s.powerDomains d) := by
  unfold State.powerDomains
  dsimp only
  exact (State.disarm_foot _).after (.power (.each (.update .same) fun _ _ h0 => (State.setCluster_foot _ _ _).after
      h0))

theorem State.unpower_foot (s : State) (gauge : Bool) : Foot 0x1FFFFFFD s (s.unpower gauge) := by
  unfold State.unpower
  exact (State.disarm_foot _).after (.updateC .same (chansApart_mapVals _ _ (fun _ => rfl) fun _ _ _ =>
      Drive.off_apart) (fun _ => rfl) (fun _ => rfl))

theorem State.sleep_foot (s : State) (m : Mode) : Foot 0x1FFFFFFD s (s.sleep m) := by
  unfold State.sleep
  exact .power ((State.unpower_foot _ _).after ((State.wakeGauge_foot _ _ _).after .same))

theorem State.rtcRuns_foot (s : State) (ns : Nat) : Foot 0x2 s (s.rtcRuns ns) := by
  unfold State.rtcRuns
  exact .retained .same

theorem State.triggerIgnored_foot (s : State) (level : Nat) : Foot 0x100 s (s.triggerIgnored level) := by
  unfold State.triggerIgnored
  exact .ite ((State.record_foot _ _ _ _).after .same) .same

theorem State.yield_foot (s : State) (cause noApply : Nat) : Foot 0x729C8FE1 s (s.yield cause noApply) := by
  unfold State.yield
  exact .ite ((State.setMode_foot _ _ _ _).after ((State.passToken_foot _ _ _).after ((State.abandonCommit_foot _
      _).after .same))) ((State.triggerIgnored_foot _ _).after ((State.endProbe_foot _ _).after
      ((State.abortIdents_foot _ _).after ((State.passToken_foot _ _ _).after ((State.abandonCommit_foot _ _).after
      .same)))))

theorem State.noteReset_foot (s : State) (cause src : Nat) (orderly : Bool) (fromMode : Nat) :
    Foot 0x1 s (s.noteReset cause src orderly fromMode) := by
  unfold State.noteReset
  exact .power .same

theorem State.resetToKeep_foot (s : State) (fromMode : Nat) : Foot 0x1FFFFFFD s (s.resetToKeep fromMode) := by
  unfold State.resetToKeep
  exact .power (.eth ((State.sleep_foot _ _).after .same))

theorem State.chipResetNow_foot (s : State) (cause : Nat) : Foot 0x1FFFFFFD s (s.chipResetNow cause) := by
  unfold State.chipResetNow
  exact .ite ((State.resetToKeep_foot _ _).after ((State.noteReset_foot _ _ _ _ _).after ((State.lowAll_foot _
      _).after .same))) ((State.triggerIgnored_foot _ _).after .same)

theorem State.dropShutdown_foot (s : State) : Foot 0x30900041 s s.dropShutdown := by
  unfold State.dropShutdown
  exact .power ((State.overtakeModeSet_foot _).after .same)

theorem State.chipResetOrderly_foot (s : State) (cause src : Nat) :
    Foot 0x70900DC1 s (s.chipResetOrderly cause src) := by
  unfold State.chipResetOrderly
  exact .ite (.power ((State.record_foot _ _ _ _).after ((State.noteReset_foot _ _ _ _ _).after (.ite
      ((State.passToken_foot _ _ _).after ((State.lowAll_foot _ _).after ((State.abandonCommit_foot _ _).after
      ((State.dropShutdown_foot _).after .same)))) ((State.dropToken_foot _).after ((State.lowAll_foot _ _).after
      ((State.abandonCommit_foot _ _).after ((State.dropShutdown_foot _).after .same)))))))) (.ite
      ((State.triggerIgnored_foot _ _).after .same) .same)

theorem State.quadrantOff_foot (s : State) (q : Nat) : Foot 0xD00 s (s.quadrantOff q) := by
  unfold State.quadrantOff
  exact .ite (.each (.each .same fun _ _ h0 => .ite ((State.failOut_foot _ _ _ _).after h0) h0) fun _ _ h0 =>
      (State.setChan_foot _ _ _).after h0) .same

theorem State.serdesDown_foot (s : State) (b : Nat) : Foot 0x1500000 s (s.serdesDown b) := by
  unfold State.serdesDown
  exact .ite (.fabric .same) (.ite (.eth .same) (.sluice .same))

theorem State.identsOfQuadrant_foot (s : State) (q : Nat) : Foot 0x800 s (s.identsOfQuadrant q) := by
  unfold State.identsOfQuadrant
  exact .each .same fun _ _ h0 => (State.setOut_foot _ _ _).after h0

theorem State.dropTransaction_foot (s : State) (port : Nat) : Foot 0x30910040 s (s.dropTransaction port) := by
  unfold State.dropTransaction
  exact (State.setTw_foot _ _ _).after (by
    (try dsimp only)
    split
    · exact (State.finish_foot _ _ _ _).after .same
    · exact (State.setSensor_foot _ _ _).after .same
    · exact (State.setSensor_foot _ _ _).after .same
    · exact (State.setSensor_foot _ _ _).after .same
    · exact (State.setRect_foot _ _ _).after .same
    · exact .same)

theorem State.blockReset_foot (s : State) (b : Nat) : Foot 0x73DDBFE9 s (s.blockReset b) := by
  unfold State.blockReset
  exact .ite ((State.setCluster_foot _ _ _).after ((State.identsOfQuadrant_foot _ _).after ((State.quadrantOff_foot _
      _).after (.hold (.ite ((State.yield_foot _ _ _).after .same) .same))))) (.ite ((State.setCluster_foot _ _
      _).after ((State.identsOfQuadrant_foot _ _).after ((State.quadrantOff_foot _ _).after (.hold (.ite
      ((State.yield_foot _ _ _).after .same) .same))))) (.ite (.scan (.each (.hold (.ite ((State.yield_foot _ _
      _).after .same) .same)) fun _ _ h0 => (State.setOut_foot _ _ _).after h0)) (.ite ((State.endProbe_foot _
      _).after (.hold (.ite ((State.yield_foot _ _ _).after .same) .same))) (.ite (.tide ((State.endProbe_foot _
      _).after (.hold (.ite ((State.yield_foot _ _ _).after .same) .same)))) (.ite ((State.serdesDown_foot _ _).after
      (.hold (.ite ((State.yield_foot _ _ _).after .same) .same))) (.ite (.log (.hold (.ite ((State.yield_foot _ _
      _).after .same) .same))) (.each (.hold (.ite ((State.yield_foot _ _ _).after .same) .same)) fun _ _ h0 =>
      (State.dropTransaction_foot _ _).after h0)))))))

end Sys2Proof.Machine
end

