-- ==== Sys2Proof/Laws/FootCollector.lean ====
section
/-! SUPPORT. Footprints of the state functions of Collector.lean. -/
set_option Elab.async false
namespace Sys2Proof.Machine

theorem State.noteEvent_foot (s : State) (src event cls : Nat) (alive : Bool) :
    Foot 0x200 s (s.noteEvent src event cls alive) := by
  unfold State.noteEvent
  exact (State.setSrc_foot _ _ _).after (.faults .same)

theorem State.queueHeld_foot (s : State) : Foot 0x200 s s.queueHeld := by
  unfold State.queueHeld
  exact by
    (try dsimp only)
    split
    · exact .ite (.faults .same) .same
    · exact .same

theorem State.actOn_foot (s : State) (src bits : Nat) : Foot 0x73DDBFE9 s (s.actOn src bits) := by
  unfold State.actOn
  exact .ite (.faults ((State.safeHoldOutputs_foot _).after (.ite ((State.blockReset_foot _ _).after (.ite
      ((State.yield_foot _ _ _).after (.ite (.faults (.ite (.power .same) .same)) (.ite (.power .same) .same))) (.ite
      (.faults (.ite (.power .same) .same)) (.ite (.power .same) .same)))) (.ite ((State.yield_foot _ _ _).after
      (.ite (.faults (.ite (.power .same) .same)) (.ite (.power .same) .same))) (.ite (.faults (.ite (.power .same)
      .same)) (.ite (.power .same) .same)))))) (.ite ((State.triggerIgnored_foot _ _).after (.ite
      ((State.blockReset_foot _ _).after (.ite ((State.yield_foot _ _ _).after (.ite (.faults (.ite (.power .same)
      .same)) (.ite (.power .same) .same))) (.ite (.faults (.ite (.power .same) .same)) (.ite (.power .same)
      .same)))) (.ite ((State.yield_foot _ _ _).after (.ite (.faults (.ite (.power .same) .same)) (.ite (.power
      .same) .same))) (.ite (.faults (.ite (.power .same) .same)) (.ite (.power .same) .same))))) (.ite
      ((State.blockReset_foot _ _).after (.ite ((State.yield_foot _ _ _).after (.ite (.faults (.ite (.power .same)
      .same)) (.ite (.power .same) .same))) (.ite (.faults (.ite (.power .same) .same)) (.ite (.power .same)
      .same)))) (.ite ((State.yield_foot _ _ _).after (.ite (.faults (.ite (.power .same) .same)) (.ite (.power
      .same) .same))) (.ite (.faults (.ite (.power .same) .same)) (.ite (.power .same) .same)))))

theorem State.actReset_foot (s : State) (src bits : Nat) : Foot 0x70900DC1 s (s.actReset src bits) := by
  unfold State.actReset
  exact .ite ((State.chipResetOrderly_foot _ _ _).after .same) .same

theorem State.windowEvent_foot (s : State) (src cls : Nat) : Foot 0x200 s (s.windowEvent src cls).1 := by
  unfold State.windowEvent
  exact .iteFst (.iteFst ((State.setSrc_foot _ _ _).after ((State.setSrc_foot _ _ _).after .same))
      ((State.setSrc_foot _ _ _).after .same)) .same

theorem State.holdOverflow_foot (s : State) : Foot 0x200 s s.holdOverflow := by
  unfold State.holdOverflow
  exact .ite (.faults .same) (.faults .same)

theorem State.overflowEvent_foot (s : State) : Foot 0x73DDBFE9 s s.overflowEvent := by
  unfold State.overflowEvent
  exact .ite ((State.actReset_foot _ _ _).after (.ite (.faults ((State.actOn_foot _ _ _).after ((State.noteEvent_foot
      _ _ _ _ _).after ((State.windowEvent_foot _ _ _).after ((State.actReset_foot _ _ _).after (.ite
      ((State.holdOverflow_foot _).after ((State.actOn_foot _ _ _).after ((State.noteEvent_foot _ _ _ _ _).after
      .same))) ((State.actOn_foot _ _ _).after ((State.noteEvent_foot _ _ _ _ _).after .same))))))))
      ((State.actOn_foot _ _ _).after ((State.noteEvent_foot _ _ _ _ _).after ((State.windowEvent_foot _ _ _).after
      ((State.actReset_foot _ _ _).after (.ite ((State.holdOverflow_foot _).after ((State.actOn_foot _ _ _).after
      ((State.noteEvent_foot _ _ _ _ _).after .same))) ((State.actOn_foot _ _ _).after ((State.noteEvent_foot _ _ _ _
      _).after .same))))))))) ((State.windowEvent_foot _ _ _).after ((State.actReset_foot _ _ _).after (.ite
      ((State.holdOverflow_foot _).after ((State.actOn_foot _ _ _).after ((State.noteEvent_foot _ _ _ _ _).after
      .same))) ((State.actOn_foot _ _ _).after ((State.noteEvent_foot _ _ _ _ _).after .same)))))

theorem State.logEvent_foot (s : State) (src event cls bits : Nat) (data : Bytes) :
    Foot 0x73DDBFE9 s (s.logEvent src event cls bits data) := by
  unfold State.logEvent
  exact .ite ((State.overflowEvent_foot _).after (.faults .same)) (.faults .same)

theorem State.react_foot (s : State) (src event cls bits : Nat) (data : Bytes) :
    Foot 0x73DDBFE9 s (s.react src event cls bits data) := by
  unfold State.react
  exact (State.actReset_foot _ _ _).after (.ite ((State.logEvent_foot _ _ _ _ _ _).after ((State.actOn_foot _ _
      _).after .same)) ((State.actOn_foot _ _ _).after .same))

theorem State.takeEvent_foot (s : State) (src event cls : Nat) (data : Bytes) :
    Foot 0x73DDBFE9 s (s.takeEvent src event cls data) := by
  unfold State.takeEvent
  exact (State.react_foot _ _ _ _ _ _).after ((State.noteEvent_foot _ _ _ _ _).after .same)

theorem State.escalateEvent_foot (s : State) (src cls : Nat) : Foot 0x73DDBFE9 s (s.escalateEvent src cls) := by
  unfold State.escalateEvent
  exact .ite ((State.takeEvent_foot _ _ _ _ _).after ((State.windowEvent_foot _ _ _).after .same))
      ((State.windowEvent_foot _ _ _).after .same)

theorem State.raiseC_foot (s : State) (src event cls : Nat) (data : Bytes) :
    Foot 0x73DDBFE9 s (s.raiseC src event cls data) := by
  unfold State.raiseC
  exact .ite ((State.escalateEvent_foot _ _ _).after ((State.takeEvent_foot _ _ _ _ _).after .same)) .same

theorem State.raise_foot (s : State) (src event : Nat) (data : Bytes) : Foot 0x73DDBFE9 s (s.raise src event data) :=
    by
  unfold State.raise
  exact (State.raiseC_foot _ _ _ _ _).after .same

theorem State.reportEvent_foot (s : State) (src event : Nat) (data : Bytes) :
    Foot 0x73DDBFE9 s (s.reportEvent src event data) := by
  unfold State.reportEvent
  exact (State.logEvent_foot _ _ _ _ _ _).after ((State.noteEvent_foot _ _ _ _ _).after .same)

theorem State.condition_foot (s : State) (src : Nat) (b : Bool) : Foot 0x200 s (s.condition src b) := by
  unfold State.condition
  exact (State.setSrc_foot _ _ _).after .same

theorem State.begin__foot (s : State) (src event : Nat) (data : Bytes) :
    Foot 0x73DDBFE9 s (s.begin_ src event data) := by
  unfold State.begin_
  exact .ite .same ((State.raise_foot _ _ _ _).after ((State.condition_foot _ _ _).after .same))

theorem State.raiseChan_foot (s : State) (ch event code : Nat) : Foot 0x73DDBFE9 s (s.raiseChan ch event code) := by
  unfold State.raiseChan
  exact (State.raise_foot _ _ _ _).after .same

theorem State.replyAt_foot (s : State) (q : Req) (st : Status) (payload : Bytes) (epoch : Nat) :
    Foot 0x73DDBFE9 s (s.replyAt q st payload epoch) := by
  unfold State.replyAt
  exact .ite ((State.raise_foot _ _ _ _).after (.host ((State.respond_foot _ _ _ _ _).after .same)))
      ((State.respond_foot _ _ _ _ _).after .same)

theorem State.reply_foot (s : State) (q : Req) (st : Status) (payload : Bytes) :
    Foot 0x73DDBFE9 s (s.reply q st payload) := by
  unfold State.reply
  exact (State.replyAt_foot _ _ _ _ _).after .same

theorem State.refuse_foot (s : State) (q : Req) (st : Status) : Foot 0x73DDBFE9 s (s.refuse q st) := by
  unfold State.refuse
  exact (State.reply_foot _ _ _ _).after .same

theorem State.replySealed_foot (s : State) (q : Req) (payload : Bytes) :
    Foot 0x73DDBFE9 s (s.replySealed q payload) := by
  unfold State.replySealed
  exact (State.replyAt_foot _ _ _ _ _).after .same

theorem State.eccEvent_foot (s : State) (inst event word column : Nat) :
    Foot 0x73DDBFE9 s (s.eccEvent inst event word column) := by
  unfold State.eccEvent
  exact (State.raise_foot _ _ _ _).after ((State.setEcc_foot _ _ _).after (.ite .same ((State.used_foot _).after
      .same)))

theorem State.drainUnknown_foot (n : Nat) (s : State) : Foot 0x73DDBFE9 s (State.drainUnknown n s) := by
  induction n generalizing s with
  | zero => exact .same
  | succ n ih =>
    unfold State.drainUnknown
    split
    · exact .same
    · exact .ite .same (.ite ((ih _).after ((State.refuse_foot _ _ _).after ((State.eccEvent_foot _ _ _ _ _).after
        (.host .same)))) (.ite ((ih _).after ((State.refuse_foot _ _ _).after (.host .same))) .same))

theorem Foot.runOrderWith {l : Nat} {s0 s : State} {code mb : Nat} {mayP mayF : Req → State → Bool}
    {body : Req → State → State} (h0 : Foot l s0 s)
    (hf : ∀ q t, Foot l s0 t → Foot l s0 (body q t)) (hl : Part.within 0x73DDBFE9 l = true := by rfl) :
    Foot l s0 (s.runOrderWith code mb mayP mayF body) := by
  unfold State.runOrderWith
  split
  · exact h0
  · have h1 : Foot l s0 { s with host := { s.host with orders := s.host.orders.drop 1 } } :=
      .host h0 (hl := Part.holds_of_within (p := .host) hl rfl)
    refine (State.drainUnknown_foot _ _).after (hm := hl) ?_
    split
    · exact (State.refuse_foot _ _ _).after (hm := hl) h1
    · exact hf _ _ h1

theorem Foot.runOrder {l : Nat} {s0 s : State} {code mb : Nat} {body : Req → State → State} (h0 : Foot l s0 s)
    (hf : ∀ q t, Foot l s0 t → Foot l s0 (body q t)) (hl : Part.within 0x73DDBFE9 l = true := by rfl) :
    Foot l s0 (s.runOrder code mb body) := .runOrderWith h0 hf (hl := hl)

end Sys2Proof.Machine
end

