-- ==== Sys2Proof/Laws/FootFlags.lean ====
section
/-! SUPPORT. Footprints of the state functions of Flags.lean. -/
set_option Elab.async false
namespace Sys2Proof.Machine

theorem State.alertSettle_foot (s : State) : Foot 0x800000 s s.alertSettle := by
  unfold State.alertSettle
  exact .ite .same (.tw .same)

theorem State.irqClear_foot (s : State) (v : Nat) : Foot 0x40 s (s.irqClear v) := by
  unfold State.irqClear
  exact .host .same

theorem State.endTxn_foot (s : State) (flags : Nat) : Foot 0x73DDBFE9 s (s.endTxn flags) := by
  unfold State.endTxn
  exact .ite .same ((State.raise_foot _ _ _ _).after (.host .same))

end Sys2Proof.Machine
end

