-- ==== Sys2Proof/Laws/FootLogStore.lean ====
section
/-! SUPPORT. Footprints of the state functions of LogStore.lean. -/
set_option Elab.async false
namespace Sys2Proof.Machine

theorem State.stage_foot (s : State) (o : LogOffer) : Foot 0x300 s (s.stage o) := by
  unfold State.stage
  exact (State.setEcc_foot _ _ _).after (.log .same)

theorem State.startBurst_foot (s : State) : Foot 0x40000100 s s.startBurst := by
  unfold State.startBurst
  exact .ite ((State.used_foot _).after (.log .same)) .same

theorem State.logDamaged_foot (s : State) (n : Nat) : Foot 0x73DDBFE9 s (s.logDamaged n) := by
  unfold State.logDamaged
  exact .ite .same ((State.raise_foot _ _ _ _).after (.log .same))

end Sys2Proof.Machine
end

