-- ==== Sys2Proof/Laws/FootHostPort.lean ====
section
/-! SUPPORT. Footprints of the state functions of HostPort.lean. -/
set_option Elab.async false
namespace Sys2Proof.Machine

theorem State.arrayByte_foot (s : State) (inst o : Nat) (b : Byte) : Foot 0x40 s (s.arrayByte inst o b) := by
  unfold State.arrayByte
  exact .ite (.hostC .same (HostPort.canonical_user _ _ _ _)) (.ite (.hostC .same (HostPort.canonical_byte _ _ _))
      .same)

theorem State.arrayMasked_foot (s : State) (inst word mask value : Nat) :
    Foot 0x40 s (s.arrayMasked inst word mask value) := by
  unfold State.arrayMasked
  exact .fold .same fun _ _ h0 => (State.arrayByte_foot _ _ _ _).after h0

theorem State.setBad_foot (s : State) (inst word : Nat) (b : Bool) : Foot 0x200 s (s.setBad inst word b) := by
  unfold State.setBad
  exact (State.setEcc_foot _ _ _).after .same

theorem State.mergeCommit_foot (s : State) (e : MergeEntry) : Foot 0x73DDBFE9 s (s.mergeCommit e) := by
  unfold State.mergeCommit
  exact .ite ((State.setBad_foot _ _ _ _).after ((State.arrayMasked_foot _ _ _ _ _).after (.faults .same))) (.ite
      ((State.raise_foot _ _ _ _).after ((State.setEcc_foot _ _ _).after ((State.arrayMasked_foot _ _ _ _ _).after
      (.faults .same)))) ((State.arrayMasked_foot _ _ _ _ _).after (.faults .same)))

theorem State.mergeFlush_foot (s : State) (p : MergeEntry → Bool) : Foot 0x73DDBFE9 s (s.mergeFlush p) := by
  unfold State.mergeFlush
  exact .fold .same fun _ _ h0 => (State.mergeCommit_foot _ _).after h0

theorem State.mergeWrite_foot (s : State) (inst word o : Nat) (d : Bytes) :
    Foot 0x73DDBFE9 s (s.mergeWrite inst word o d) := by
  unfold State.mergeWrite
  exact by
    (try dsimp only)
    split
    · exact .ite ((State.mergeCommit_foot _ _).after .same) (.faults .same)
    · exact .ite ((State.mergeCommit_foot _ _).after .same) (.faults (by
        (try dsimp only)
        split
        · exact .ite ((State.mergeCommit_foot _ _).after .same) .same
        · exact .same))

theorem State.doorbell_foot (s : State) (n : Nat) : Foot 0x40 s (s.doorbell n).1 := by
  unfold State.doorbell
  exact .iteFst ((State.ring_foot _ _ _ _ _ _).after .same) .same

theorem State.doorbells_foot (s : State) (v : Nat) : Foot 0x73DDBFE9 s (s.doorbells v).1 := by
  unfold State.doorbells
  exact (State.drainUnknown_foot _ _).after (.foldFst ((State.mergeFlush_foot _ _).after .same) fun _ _ h0 =>
      (State.doorbell_foot _ _).after h0)

theorem State.doneClear_foot (s : State) (v : Nat) : Foot 0x40 s (s.doneClear v) := by
  unfold State.doneClear
  exact .each .same fun _ _ h0 => .ite ((State.freeMb_foot _ _).after h0) h0

theorem State.maskWrite_foot (s : State) (v : Nat) : Foot 0x40 s (s.maskWrite v) := by
  unfold State.maskWrite
  exact .host .same

theorem State.regWrite_foot (s : State) (o v : Nat) : Foot 0x73DDBFE9 s (s.regWrite o v).1 := by
  unfold State.regWrite
  exact by
    (try dsimp only)
    split
    · exact (State.irqClear_foot _ _).after .same
    · exact .host .same
    · exact (State.doorbells_foot _ _).after .same
    · exact (State.doneClear_foot _ _).after .same
    · exact (State.maskWrite_foot _ _).after .same
    · exact .power .same
    · exact .same

theorem State.logWrite_foot (s : State) (o v : Nat) : Foot 0x100 s (s.logWrite o v) := by
  unfold State.logWrite
  exact .ite (.log .same) (.ite (.log .same) .same)

theorem State.faultWrite_foot (s : State) (o v : Nat) : Foot 0x200 s (s.faultWrite o v) := by
  unfold State.faultWrite
  exact .ite (.faults .same) .same

theorem State.ledgerStored_foot (s : State) (areas : List (Nat × Nat)) (epoch : Nat) :
    Foot 0x200 s (s.ledgerStored areas epoch) := by
  unfold State.ledgerStored
  exact (State.setEcc_foot _ _ _).after .same

theorem State.ledgerWrite_foot (s : State) (o v : Nat) : Foot 0x200000 s (s.ledgerWrite o v) := by
  unfold State.ledgerWrite
  exact .ite (.ledger .same) (.ite (.ledger .same) .same)

theorem State.wordWrite_foot (s : State) (r : Region) (o v : Nat) : Foot 0x73FDBFE9 s (s.wordWrite r o v).1 := by
  unfold State.wordWrite
  exact by
    (try dsimp only)
    split
    · exact (State.regWrite_foot _ _ _).after .same
    · exact (State.logWrite_foot _ _ _).after .same
    · exact (State.faultWrite_foot _ _ _).after .same
    · exact (State.ledgerWrite_foot _ _ _).after .same
    · exact .same

theorem State.writeCut_foot (s : State) (c : Nat × Nat × Bytes) : Foot 0x73FDBFE9 s (s.writeCut c).1 := by
  unfold State.writeCut
  exact .iteFst (.iteFst ((State.wordWrite_foot _ _ _ _).after .same) .same) (by
    (try dsimp only)
    split
    · exact .iteFst .same (.iteFst .same ((State.mergeWrite_foot _ _ _ _ _).after .same))
    · exact (State.mergeWrite_foot _ _ _ _ _).after .same
    · exact .same)

theorem State.writeBurst_foot (s : State) (addr : Nat) (data : Bytes) : Foot 0x73FDBFE9 s (s.writeBurst addr data) :=
    by
  unfold State.writeBurst
  exact .ite ((State.alertSettle_foot _).after ((State.endTxn_foot _ _).after (.foldFst .same fun _ _ h0 =>
      (State.writeCut_foot _ _).after h0))) .same

theorem State.readEffect_foot (s : State) (r : Region) (o : Nat) : Foot 0x200040 s (s.readEffect r o) := by
  unfold State.readEffect
  exact .ite (.host .same) (.ite (.host .same) (.ite (.ledger .same) .same))

theorem State.arrayCut_foot (s : State) (inst word o n : Nat) : Foot 0x73DDBFE9 s (s.arrayCut inst word o n).1 := by
  unfold State.arrayCut
  exact .iteFst ((State.eccEvent_foot _ _ _ _ _).after ((State.mergeFlush_foot _ _).after .same)) (.iteFst
      ((State.eccEvent_foot _ _ _ _ _).after ((State.mergeFlush_foot _ _).after .same)) ((State.mergeFlush_foot _
      _).after .same))

theorem State.ledgerCut_foot (s : State) (o : Nat) (d : Bytes) : Foot 0x73DDBFE9 s (s.ledgerCut o d).1 := by
  unfold State.ledgerCut
  exact by
    (try dsimp only)
    split
    · exact .same
    · exact by
        (try dsimp only)
        split
        · exact .same
        · exact (State.eccEvent_foot _ _ _ _ _).after .same

theorem State.readCut_foot (s : State) (a o n : Nat) : Foot 0x73FDBFE9 s (s.readCut a o n).1 := by
  unfold State.readCut
  exact by
    (try dsimp only)
    split
    · exact (State.arrayCut_foot _ _ _ _ _).after .same
    · exact (State.arrayCut_foot _ _ _ _ _).after .same
    · exact .iteFst (.iteFst ((State.readEffect_foot _ _ _).after .same) .same) (.iteFst ((State.ledgerCut_foot _ _
        _).after .same) .same)

theorem State.readAll_foot (s : State) (addr len : Nat) : Foot 0x73FDBFE9 s (s.readAll addr len).1 := by
  unfold State.readAll
  exact .foldFst .same fun _ _ h0 => (State.readCut_foot _ _ _ _).after h0

theorem State.readBurst_foot (s : State) (addr len : Nat) : Foot 0x73FDBFE9 s (s.readBurst addr len) := by
  unfold State.readBurst
  exact .ite ((State.endTxn_foot _ _).after ((State.send_foot _ _).after ((State.readAll_foot _ _ _).after .same)))
      .same

theorem State.quietBurst_foot (s : State) (addr len : Nat) : Foot 0x73FDBFE9 s (s.quietBurst addr len) := by
  unfold State.quietBurst
  exact .ite ((State.send_foot _ _).after .same) .same

end Sys2Proof.Machine
end

