-- ==== Sys2Proof/Laws/FootPortRows.lean ====
section
/-! SUPPORT. Footprints of the state functions of PortRows.lean. -/
set_option Elab.async false
namespace Sys2Proof.Machine

theorem State.statusRead_foot (s : State) : Foot 0x20000000 s s.statusRead := by
  unfold State.statusRead
  exact .ite ((State.send_foot _ _).after .same) .same

theorem State.hostCommand_foot (s : State) (code addr : Nat) (data : Bytes) (len : Nat) :
    Foot 0x73FDBFE9 s (s.hostCommand code addr data len) := by
  unfold State.hostCommand
  exact .ite ((State.writeBurst_foot _ _ _).after .same) (.ite ((State.readBurst_foot _ _ _).after .same) (.ite
      ((State.quietBurst_foot _ _ _).after .same) (.ite ((State.statusRead_foot _).after .same) (.ite
      ((State.endTxn_foot _ _).after .same) .same))))

theorem execWrite_foot (addr : Nat) (data : Bytes) (s : State) : Within 0x73FDBFE9 s (execWrite addr data s) :=
  ⟨_, rfl, (State.hostCommand_foot _ _ _ _ _).after .same⟩

theorem execRead_foot (addr len : Nat) (s : State) : Within 0x73FDBFE9 s (execRead addr len s) :=
  ⟨_, rfl, (State.hostCommand_foot _ _ _ _ _).after .same⟩

theorem execQuietRead_foot (addr len : Nat) (s : State) : Within 0x73FDBFE9 s (execQuietRead addr len s) :=
  ⟨_, rfl, (State.hostCommand_foot _ _ _ _ _).after .same⟩

theorem execStatus_foot (s : State) : Within 0x73FDBFE9 s (execStatus s) :=
  ⟨_, rfl, (State.hostCommand_foot _ _ _ _ _).after .same⟩

theorem execUnknownCommand_foot (code : Nat) (s : State) : Within 0x73FDBFE9 s (execUnknownCommand code s) :=
  ⟨_, rfl, .ite .same ((State.hostCommand_foot _ _ _ _ _).after .same)⟩

theorem execMbDoorbell_foot (n : Nat) (s : State) : Within 0x73FDBFE9 s (execMbDoorbell n s) :=
  ⟨_, rfl, (State.writeBurst_foot _ _ _).after .same⟩

theorem execMbDone_foot (n : Nat) (s : State) : Within 0x73FDBFE9 s (execMbDone n s) :=
  ⟨_, rfl, (State.writeBurst_foot _ _ _).after .same⟩

theorem execIrqStatusClear_foot (mask : Nat) (s : State) : Within 0x73FDBFE9 s (execIrqStatusClear mask s) :=
  ⟨_, rfl, (State.writeBurst_foot _ _ _).after .same⟩

theorem execResetCauseClear_foot (value : Nat) (s : State) : Within 0x73FDBFE9 s (execResetCauseClear value s) :=
  ⟨_, rfl, (State.writeBurst_foot _ _ _).after .same⟩

theorem execCursorLo_foot (value : Nat) (s : State) : Within 0x73FDBFE9 s (execCursorLo value s) :=
  ⟨_, rfl, (State.writeBurst_foot _ _ _).after .same⟩

theorem execCursorHi_foot (value : Nat) (s : State) : Within 0x73FDBFE9 s (execCursorHi value s) :=
  ⟨_, rfl, (State.writeBurst_foot _ _ _).after .same⟩

theorem State.loadWindow_foot (s : State) : Foot 0x73DDBFE9 s s.loadWindow := by
  unfold State.loadWindow
  exact (State.logDamaged_foot _ _).after (.log .same)

theorem execLoadComplete_foot (s : State) : Within 0x73DDBFE9 s (execLoadComplete s) :=
  ⟨_, rfl, .ite ((State.loadWindow_foot _).after .same) .same⟩

theorem execNext_foot (s : State) : Within 0x73FDBFE9 s (execNext s) :=
  ⟨_, rfl, (State.readBurst_foot _ _ _).after .same⟩

theorem execReadCursorWrite_foot (value : Nat) (s : State) : Within 0x73FDBFE9 s (execReadCursorWrite value s) :=
  ⟨_, rfl, (State.writeBurst_foot _ _ _).after .same⟩

theorem execRegisterWrite_foot (addr : Nat) (data : Bytes) (s : State) :
    Within 0x73FDBFE9 s (execRegisterWrite addr data s) :=
  ⟨_, rfl, by
    (try dsimp only)
    split
    · exact .same
    · exact .same
    · exact (State.writeBurst_foot _ _ _).after .same
⟩

end Sys2Proof.Machine
end

