-- ==== Sys2Proof/Laws/FootSession.lean ====
section
/-! SUPPORT. Footprints of the state functions of Session.lean. -/
set_option Elab.async false
namespace Sys2Proof.Machine

theorem execKeyLockoutEnd_foot (key : Nat) (s : State) : Within 0x40 s (execKeyLockoutEnd key s) :=
  ⟨_, rfl, .host .same⟩

theorem State.openSession_foot (s : State) (q : Req) (priv id idle : Nat) :
    Foot 0x73DDBFE9 s (s.openSession q priv id idle) := by
  unfold State.openSession
  exact (State.reply_foot _ _ _ _).after (.eth ((State.setSes_foot _ _ _).after (.host (.ite .same ((State.used_foot
      _).after .same)))))

theorem execSessionOpen_foot (mb : Nat) (s : State) : Within 0x73DDBFE9 s (execSessionOpen mb s) :=
  ⟨_, rfl, .runOrderWith .same fun _ _ h0 => .ite ((State.refuse_foot _ _ _).after h0) (.ite ((State.refuse_foot _ _
      _).after h0) (.ite ((State.refuse_foot _ _ _).after h0) ((State.openSession_foot _ _ _ _ _).after h0)))⟩

theorem execSessionKeyinstall_foot (mb : Nat) (s : State) : Within 0x73DDBFE9 s (execSessionKeyinstall mb s) :=
  ⟨_, rfl, .runOrderWith .same fun _ _ h0 => .ite ((State.refuse_foot _ _ _).after h0) (.ite ((State.refuse_foot _ _
      _).after h0) (.ite ((State.refuse_foot _ _ _).after h0) ((State.wait_foot _ _ _).after h0)))⟩

theorem State.keyInstalled_foot (s : State) (w : Waiting) (kind key : Nat) :
    Foot 0x30900140 s (s.keyInstalled w kind key) := by
  unfold State.keyInstalled
  exact (State.finish_foot _ _ _ _).after ((State.record_foot _ _ _ _).after (.ite (.host .same) (.host .same)))

theorem execFeatOffer_foot (mb : Nat) (s : State) : Within 0x73DDBFE9 s (execFeatOffer mb s) :=
  ⟨_, rfl, .runOrder .same fun _ _ h0 => .ite ((State.refuse_foot _ _ _).after h0) ((State.reply_foot _ _ _ _).after
      (.host ((State.setSes_foot _ _ _).after h0)))⟩

end Sys2Proof.Machine
end

