-- ==== Sys2Proof/Laws/FootTrace.lean ====
section
/-! SUPPORT. Footprints of the state functions of Trace.lean. -/
set_option Elab.async false
namespace Sys2Proof.Machine

theorem State.defaultCapture_foot (s : State) (c : Nat) : Foot 0x1000 s (s.defaultCapture c) := by
  unfold State.defaultCapture
  exact (State.setCluster_foot _ _ _).after .same

theorem State.signalTrigger_foot (s : State) (c cond : Nat) (ch : Option Nat) :
    Foot 0x1000 s (s.signalTrigger c cond ch) := by
  unfold State.signalTrigger
  exact (State.setCluster_foot _ _ _).after .same

theorem State.entryStored_foot (s : State) (c slot : Nat) : Foot 0x200 s (s.entryStored c slot) := by
  unfold State.entryStored
  exact (State.setEcc_foot _ _ _).after .same

theorem State.traceWrite_foot (s : State) (ch : Nat) (e : TraceEntry) : Foot 0x1200 s (s.traceWrite ch e) := by
  unfold State.traceWrite
  exact .ite (.ite ((State.setCluster_foot _ _ _).after ((State.entryStored_foot _ _ _).after ((State.setCluster_foot
      _ _ _).after ((State.setCluster_foot _ _ _).after .same)))) ((State.setCluster_foot _ _ _).after
      ((State.setCluster_foot _ _ _).after .same))) ((State.setCluster_foot _ _ _).after .same)

theorem State.capsuleEvent_foot (s : State) (ch ev : Nat) : Foot 0x40001002 s (s.capsuleEvent ch ev) := by
  unfold State.capsuleEvent
  exact by
    (try dsimp only)
    split
    · exact .same
    · exact .ite .same (.ite ((State.setCluster_foot _ _ _).after .same) (.ite ((State.setCluster_foot _ _ _).after
        (.retained ((State.signalTrigger_foot _ _ _ _).after ((State.setCluster_foot _ _ _).after ((State.used_foot
        _).after .same))))) (.retained ((State.signalTrigger_foot _ _ _ _).after ((State.setCluster_foot _ _ _).after
        ((State.used_foot _).after .same))))))

theorem State.chanFault_foot (s : State) (ch event code : Nat) (cap : Option Nat) :
    Foot 0x73DDBFEB s (s.chanFault ch event code cap) := by
  unfold State.chanFault
  exact by
    (try dsimp only)
    split
    · exact (State.capsuleEvent_foot _ _ _).after ((State.raiseChan_foot _ _ _ _).after .same)
    · exact (State.raiseChan_foot _ _ _ _).after .same

theorem State.stageCapsule_foot (s : State) (c : Nat) : Foot 0x40001300 s (s.stageCapsule c) := by
  unfold State.stageCapsule
  exact .ite (by
    (try dsimp only)
    split
    · exact .same
    · exact .ite ((State.startBurst_foot _).after (.ite ((State.setCluster_foot _ _ _).after (.log
        ((State.setCluster_foot _ _ _).after ((State.stage_foot _ _).after .same)))) (.log ((State.setCluster_foot _
        _ _).after ((State.stage_foot _ _).after .same))))) (.ite ((State.startBurst_foot _).after
        ((State.setCluster_foot _ _ _).after ((State.stage_foot _ _).after .same))) ((State.startBurst_foot _).after
        (.log ((State.setCluster_foot _ _ _).after ((State.stage_foot _ _).after .same)))))) .same

theorem execCaptureFrozen_foot (cl : Nat) (s : State) : Within 0x1000 s (execCaptureFrozen cl s) :=
  ⟨_, rfl, (State.setCluster_foot _ _ _).after .same⟩

theorem execCrossTrigger_foot (cl src : Nat) (s : State) : Within 0x1000 s (execCrossTrigger cl src s) :=
  ⟨_, rfl, .ite ((State.signalTrigger_foot _ _ _ _).after .same) .same⟩

theorem execHoldSExpiry_foot (cl : Nat) (s : State) : Within 0x1000 s (execHoldSExpiry cl s) :=
  ⟨_, rfl, .ite ((State.defaultCapture_foot _ _).after .same) .same⟩

theorem execCapsulePending_foot (cl : Nat) (s : State) : Within 0x1000 s (execCapsulePending cl s) :=
  ⟨_, rfl, by
    (try dsimp only)
    split
    · exact (State.setCluster_foot _ _ _).after .same
    · exact .same
⟩

theorem execCapsuleStage_foot (cl : Nat) (s : State) : Within 0x40001300 s (execCapsuleStage cl s) :=
  ⟨_, rfl, (State.stageCapsule_foot _ _).after .same⟩

theorem execTraceSetup_foot (mb : Nat) (s : State) : Within 0x73DDBFE9 s (execTraceSetup mb s) :=
  ⟨_, rfl, .runOrder .same fun _ _ h0 => .ite ((State.refuse_foot _ _ _).after h0) (.ite ((State.refuse_foot _ _
      _).after h0) (.ite ((State.reply_foot _ _ _ _).after ((State.defaultCapture_foot _ _).after h0)) (.ite
      ((State.refuse_foot _ _ _).after h0) ((State.reply_foot _ _ _ _).after ((State.setCluster_foot _ _ _).after
      h0)))))⟩

theorem execTraceArm_foot (mb : Nat) (s : State) : Within 0x73DDBFE9 s (execTraceArm mb s) :=
  ⟨_, rfl, .runOrder .same fun _ _ h0 => .ite ((State.refuse_foot _ _ _).after h0) (.ite ((State.refuse_foot _ _
      _).after h0) ((State.reply_foot _ _ _ _).after ((State.setCluster_foot _ _ _).after h0)))⟩

theorem execTraceTrigger_foot (mb : Nat) (s : State) : Within 0x73DDBFE9 s (execTraceTrigger mb s) :=
  ⟨_, rfl, .runOrder .same fun _ _ h0 => .ite ((State.refuse_foot _ _ _).after h0) (.ite ((State.refuse_foot _ _
      _).after h0) ((State.reply_foot _ _ _ _).after (.each h0 fun _ _ h1 => (State.signalTrigger_foot _ _ _ _).after
      h1)))⟩

theorem execTraceStatus_foot (mb : Nat) (s : State) : Within 0x73DDBFE9 s (execTraceStatus mb s) :=
  ⟨_, rfl, .runOrder .same fun _ _ h0 => .ite ((State.refuse_foot _ _ _).after h0) ((State.reply_foot _ _ _ _).after
      h0)⟩

theorem execTraceRead_foot (mb : Nat) (s : State) : Within 0x73DDBFE9 s (execTraceRead mb s) :=
  ⟨_, rfl, .runOrder .same fun _ _ h0 => .ite ((State.refuse_foot _ _ _).after h0) (.ite ((State.refuse_foot _ _
      _).after h0) (.ite ((State.refuse_foot _ _ _).after h0) (.ite ((State.refuse_foot _ _ _).after h0)
      ((State.reply_foot _ _ _ _).after (.ite ((State.eccEvent_foot _ _ _ _ _).after h0) h0)))))⟩

theorem execTraceCapsule_foot (mb : Nat) (s : State) : Within 0x73DDBFE9 s (execTraceCapsule mb s) :=
  ⟨_, rfl, .runOrder .same fun _ _ h0 => .ite ((State.refuse_foot _ _ _).after h0) ((State.reply_foot _ _ _ _).after
      (.each h0 fun _ _ h1 => (State.setCluster_foot _ _ _).after h1))⟩

end Sys2Proof.Machine
end

