-- ==== Sys2Proof/Laws/FootFaultRows.lean ====
section
/-! SUPPORT. Footprints of the state functions of FaultRows.lean. -/
set_option Elab.async false
namespace Sys2Proof.Machine

theorem State.coefficientBad_foot (s : State) (ch : Nat) : Foot 0xD00 s (s.coefficientBad ch) := by
  unfold State.coefficientBad
  exact by
    (try dsimp only)
    split
    · exact .ite ((State.phaseForced_foot _ _).after (.each .same fun _ _ h1 => (State.setChan_foot _ _ _).after h1))
        (.each .same fun _ _ h1 => (State.setChan_foot _ _ _).after h1)
    · exact .same

theorem State.eventEffect_foot (s : State) (src event : Nat) (data : Bytes) :
    Foot 0x73DDBFEB s (s.eventEffect src event data) := by
  unfold State.eventEffect
  exact .ite (.ite ((State.coefficientBad_foot _ _).after (by
    (try dsimp only)
    split
    · exact (State.capsuleEvent_foot _ _ _).after .same
    · exact .same)) (by
    (try dsimp only)
    split
    · exact (State.capsuleEvent_foot _ _ _).after .same
    · exact .same)) (.ite (.ite ((State.begin__foot _ _ _ _).after (.scan ((State.setEcc_foot _ _ _).after .same)))
        ((State.setEcc_foot _ _ _).after .same)) (.ite (.boot .same) (.ite (.boot .same) .same)))

theorem execFaultEvent_foot (source event : Nat) (data : Bytes) (s : State) :
    Within 0x73DDBFEB s (execFaultEvent source event data s) :=
  ⟨_, rfl, .ite ((State.raise_foot _ _ _ _).after ((State.eventEffect_foot _ _ _ _).after .same)) .same⟩

theorem State.blockResume_foot (s : State) (b us : Nat) : Foot 0x4008110C s (s.blockResume b us) := by
  unfold State.blockResume
  dsimp only
  exact .ite (.ite ((State.defaultCapture_foot _ _).after (.update .same)) (.update .same)) (.ite
      ((State.setCluster_foot _ _ _).after (.update .same)) (.ite (.each (.update .same) fun _ _ h0 =>
      (State.setString_foot _ _ _).after h0) (.ite ((State.startBurst_foot _).after (.update .same)) (.update
      .same))))

theorem execBlockResetRelease_foot (block heldUs : Nat) (s : State) :
    Within 0x4008190C s (execBlockResetRelease block s heldUs) :=
  ⟨_, rfl, .ite ((State.settle_foot _).after ((State.blockResume_foot _ _ _).after .same)) .same⟩

theorem execWardenHeartbeatMissed_foot (s : State) : Within 0x73DDBFE9 s (execWardenHeartbeatMissed s) := by
  unfold execWardenHeartbeatMissed
  refine ⟨_, rfl, ?_⟩
  dsimp only
  exact .ite ((State.raise_foot _ _ _ _).after (.update .same)) .same

theorem State.scrubWord_foot (s : State) (inst : Nat) (o : ScrubOutcome) : Foot 0x73DDBFE9 s (s.scrubWord inst o) :=
    by
  unfold State.scrubWord
  exact by
    (try dsimp only)
    split
    · exact (State.mergeFlush_foot _ _).after .same
    · exact .ite ((State.eccEvent_foot _ _ _ _ _).after ((State.eccEvent_foot _ _ _ _ _).after ((State.setEcc_foot _
        _ _).after ((State.mergeFlush_foot _ _).after .same)))) ((State.eccEvent_foot _ _ _ _ _).after
        ((State.setEcc_foot _ _ _).after ((State.mergeFlush_foot _ _).after .same)))
    · exact (State.eccEvent_foot _ _ _ _ _).after ((State.setBad_foot _ _ _ _).after ((State.mergeFlush_foot _
        _).after .same))

theorem State.scrubInst_foot (s : State) (results : List ScrubResult) (inst : Nat) :
    Foot 0x73DDBFE9 s (s.scrubInst results inst) := by
  unfold State.scrubInst
  exact .ite .same ((State.setEcc_foot _ _ _).after (.ite .same ((State.scrubWord_foot _ _ _).after .same)))

theorem execScrubTick_foot (results : List ScrubResult) (s : State) : Within 0x73DDBFE9 s (execScrubTick results s) :=
  ⟨_, rfl, .ite (.each .same fun _ _ h0 => (State.scrubInst_foot _ _ _).after h0) .same⟩

theorem execMergeCommit_foot (inst word : Nat) (s : State) : Within 0x73DDBFE9 s (execMergeCommit inst word s) :=
  ⟨_, rfl, (State.mergeFlush_foot _ _).after .same⟩

theorem execFaultStatus_foot (mb : Nat) (s : State) : Within 0x73DDBFE9 s (execFaultStatus mb s) :=
  ⟨_, rfl, .runOrder .same fun _ _ h0 => .ite ((State.refuse_foot _ _ _).after h0) ((State.replyAt_foot _ _ _ _
      _).after h0)⟩

theorem execFaultRead_foot (mb : Nat) (s : State) : Within 0x73DDBFE9 s (execFaultRead mb s) :=
  ⟨_, rfl, .runOrder .same fun _ _ h0 => .ite ((State.refuse_foot _ _ _).after h0) ((State.replyAt_foot _ _ _ _
      _).after h0)⟩

theorem execFaultAck_foot (mb : Nat) (s : State) : Within 0x73DDBFE9 s (execFaultAck mb s) :=
  ⟨_, rfl, .runOrder .same fun _ _ h0 => .ite ((State.refuse_foot _ _ _).after h0) ((State.reply_foot _ _ _ _).after
      (.each h0 fun _ _ h1 => .ite h1 ((State.setSrc_foot _ _ _).after h1)))⟩

theorem execFaultEcc_foot (mb : Nat) (s : State) : Within 0x73DDBFE9 s (execFaultEcc mb s) :=
  ⟨_, rfl, .runOrder .same fun _ _ h0 => .ite ((State.refuse_foot _ _ _).after h0) ((State.reply_foot _ _ _ _).after
      h0)⟩

theorem execFaultClearcount_foot (mb : Nat) (s : State) : Within 0x73DDBFE9 s (execFaultClearcount mb s) :=
  ⟨_, rfl, .runOrder .same fun _ _ h0 => .ite ((State.refuse_foot _ _ _).after h0) ((State.reply_foot _ _ _ _).after
      (.each h0 fun _ _ h1 => .ite ((State.setEcc_foot _ _ _).after ((State.setSrc_foot _ _ _).after h1))
      ((State.setSrc_foot _ _ _).after h1)))⟩

end Sys2Proof.Machine
end

