-- ==== Sys2Proof/Laws/FootShutdown.lean ====
section
/-! SUPPORT. Footprints of the state functions of Shutdown.lean. -/
set_option Elab.async false
namespace Sys2Proof.Machine

theorem State.advanceShutdown_foot (s : State) : Foot 0x3FFFFFFD s s.advanceShutdown := by
  unfold State.advanceShutdown
  exact by
    (try dsimp only)
    split
    · exact .same
    · exact .ite .same (.ite (.ite .same (by
        (try dsimp only)
        split
        · exact (State.finish_foot _ _ _ _).after (.power ((State.record_foot _ _ _ _).after ((State.checkpoint_foot
            _ _).after .same)))
        · exact .power ((State.record_foot _ _ _ _).after ((State.checkpoint_foot _ _).after .same)))) (.ite
            ((State.sleep_foot _ _).after .same) .same))

theorem State.push_foot (s : State) (session : Nat) (body : Bytes) : Foot 0x21000000 s (s.push session body) := by
  unfold State.push
  exact (State.sendEth_foot _ _ _).after (.eth .same)

theorem State.pushLog_foot (s : State) (x : Subscription) : Foot 0x21000100 s (s.pushLog x) := by
  unfold State.pushLog
  exact .log (.fold .same fun _ _ h0 => (State.push_foot _ _ _).after h0)

theorem State.pushLogs_foot (s : State) : Foot 0x21000100 s s.pushLogs := by
  unfold State.pushLogs
  exact .fold .same fun _ _ h0 => (State.pushLog_foot _ _).after h0

theorem State.subscribe_foot {s : State} {x : Subscription} {r : State × Nat} (h : s.subscribe x = some r) :
    Foot 0x100 s r.1 := by
  unfold State.subscribe at h
  split at h
  · cases h
  · cases h
    exact .log .same

theorem State.unsubscribe_foot {s t : State} {n id : Nat} {log : Bool} (h : s.unsubscribe n id log = some t) :
    Foot 0x100 s t := by
  unfold State.unsubscribe at h
  dsimp only at h
  split at h
  · cases h
    exact .log .same
  · cases h

end Sys2Proof.Machine
end

