-- ==== Sys2Proof/Laws/FootLogRows.lean ====
section
/-! SUPPORT. Footprints of the state functions of LogRows.lean. -/
set_option Elab.async false
namespace Sys2Proof.Machine

theorem State.recordDone_foot (s : State) (u : OfferUse) : Foot 0x20900041 s (s.recordDone u) := by
  unfold State.recordDone
  exact by
    (try dsimp only)
    split
    · exact (State.deliverHeld_foot _).after .same
    · exact .power .same
    · exact .power .same
    · exact .same

theorem State.stageOffer_foot (s : State) (o : LogOffer) : Foot 0x30900341 s (s.stageOffer o) := by
  unfold State.stageOffer
  exact by
    (try dsimp only)
    split
    · exact (State.finish_foot _ _ _ _).after (.ite ((State.stage_foot _ _).after .same) (.ite
        ((State.recordDone_foot _ _).after ((State.stage_foot _ _).after .same)) (.log ((State.stage_foot _ _).after
        .same))))
    · exact .ite ((State.stage_foot _ _).after .same) (.ite ((State.recordDone_foot _ _).after ((State.stage_foot _
        _).after .same)) (.log ((State.stage_foot _ _).after .same)))

theorem State.drainFault_foot (s : State) (e : FaultEntry) (rest : List FaultEntry) :
    Foot 0x30900341 s (s.drainFault e rest) := by
  unfold State.drainFault
  exact (State.queueHeld_foot _).after ((State.stageOffer_foot _ _).after (.faults .same))

theorem State.stageNext_foot (s : State) : Foot 0x30900341 s s.stageNext := by
  unfold State.stageNext
  exact .ite (by
    (try dsimp only)
    split
    · exact (State.drainFault_foot _ _ _).after .same
    · exact (State.stageOffer_foot _ _).after (.log .same)
    · exact .same) .same

theorem execRecordStage_foot (s : State) : Within 0x7FFFFFFD s (execRecordStage s) :=
  ⟨_, rfl, (State.advanceShutdown_foot _).after (.ite ((State.pushLogs_foot _).after ((State.startBurst_foot _).after
      ((State.stageNext_foot _).after .same))) ((State.startBurst_foot _).after ((State.stageNext_foot _).after
      .same)))⟩

theorem State.writeHeader_foot (s : State) (hint : Nat) : Foot 0x100 s (s.writeHeader hint) := by
  unfold State.writeHeader
  exact .log .same

theorem State.flushRecord_foot (s : State) (seq : Nat) : Foot 0x73DDBFEB s (s.flushRecord seq) := by
  unfold State.flushRecord
  exact .ite ((State.eccEvent_foot _ _ _ _ _).after (.log (.fold (.update .same) fun _ _ h0 => (State.recordDone_foot
      _ _).after h0))) (.log (.fold (.update .same) fun _ _ h0 => (State.recordDone_foot _ _).after h0))

theorem State.burstDone_foot (s : State) (b : Burst) : Foot 0x73DDBFEB s (s.burstDone b) := by
  unfold State.burstDone
  exact (State.startBurst_foot _).after ((State.pushLogs_foot _).after (by
    (try dsimp only)
    split
    · exact (State.writeHeader_foot _ _).after (.log (.fold .same fun _ _ h1 => (State.flushRecord_foot _ _).after
        h1))
    · exact .log (.fold .same fun _ _ h1 => (State.flushRecord_foot _ _).after h1)))

theorem State.loseStore_foot (s : State) : Foot 0x73DDBFE9 s s.loseStore := by
  unfold State.loseStore
  exact (State.raise_foot _ _ _ _).after (.fold (.log .same) fun _ _ h0 => (State.recordDone_foot _ _).after h0)

theorem State.burstFailed_foot (s : State) : Foot 0x73DDBFE9 s s.burstFailed := by
  unfold State.burstFailed
  exact .ite ((State.loseStore_foot _).after (.log .same)) ((State.startBurst_foot _).after (.log .same))

theorem execBurstComplete_foot (ok : Bool) (s : State) : Within 0x7FFFFFFF s (execBurstComplete ok s) :=
  ⟨_, rfl, by
    (try dsimp only)
    split
    · exact .same
    · exact .ite .same (.ite ((State.advanceShutdown_foot _).after ((State.burstDone_foot _ _).after .same)) (.ite
        ((State.advanceShutdown_foot _).after ((State.burstFailed_foot _).after .same)) (.log .same)))
⟩

theorem execUnflushedTimeout_foot (s : State) : Within 0x73DDBFE9 s (execUnflushedTimeout s) :=
  ⟨_, rfl, .ite ((State.raise_foot _ _ _ _).after .same) .same⟩

theorem State.stageLog_foot (s : State) (event : Nat) (items : Bytes) : Foot 0x300 s (s.stageLog event items) := by
  unfold State.stageLog
  exact (State.stage_foot _ _).after .same

theorem State.formatHeaders_foot (s : State) (first tail : Nat) : Foot 0x100 s (s.formatHeaders first tail) := by
  unfold State.formatHeaders
  exact .log .same

theorem State.mountUnbacked_foot (s : State) (state src : Nat) : Foot 0x73DDBFE9 s (s.mountUnbacked state src) := by
  unfold State.mountUnbacked
  exact (State.raise_foot _ _ _ _).after (.log .same)

theorem State.mountBlank_foot (s : State) : Foot 0x300 s s.mountBlank := by
  unfold State.mountBlank
  exact (State.stageLog_foot _ _ _).after (.log ((State.formatHeaders_foot _ _ _).after .same))

theorem State.mountHeader_foot (s : State) (h : StoreHeader) : Foot 0x73DDBFE9 s (s.mountHeader h) := by
  unfold State.mountHeader
  exact by
    (try dsimp only)
    split
    · exact .ite ((State.stageLog_foot _ _ _).after ((State.raise_foot _ _ _ _).after (.log .same))) (.log .same)
    · exact .log .same

theorem State.mountPresent_foot (s : State) : Foot 0x73DDBFE9 s s.mountPresent := by
  unfold State.mountPresent
  exact .ite ((State.mountBlank_foot _).after .same) (by
    (try dsimp only)
    split
    · exact (State.mountHeader_foot _ _).after .same
    · exact (State.mountUnbacked_foot _ _ _).after .same)

theorem State.mountStore_foot (s : State) (bytes : Nat) : Foot 0x73DDBFE9 s (s.mountStore bytes) := by
  unfold State.mountStore
  exact .ite ((State.mountUnbacked_foot _ _ _).after (.log .same)) ((State.mountPresent_foot _).after (.log .same))

theorem State.mountDone_foot (s : State) (ev : Nat) : Foot 0x73DDBFED s (s.mountDone ev) := by
  unfold State.mountDone
  exact (State.startBurst_foot _).after (.update (.ite ((State.raise_foot _ _ _ _).after ((State.stageLog_foot _ _
      _).after (.log .same))) ((State.stageLog_foot _ _ _).after (.log .same))))

theorem execMount_foot (storeBytes taps sfdpKhz : Nat) (s : State) :
    Within 0x73DDBFED s (execMount storeBytes s taps sfdpKhz) :=
  ⟨_, rfl, .ite ((State.mountDone_foot _ _).after ((State.mountStore_foot _ _).after (.log .same))) .same⟩

theorem execLogStatus_foot (mb : Nat) (s : State) : Within 0x73DDBFE9 s (execLogStatus mb s) :=
  ⟨_, rfl, .runOrder .same fun _ _ h0 => .ite ((State.refuse_foot _ _ _).after h0) ((State.reply_foot _ _ _ _).after
      h0)⟩

theorem execLogRead_foot (mb : Nat) (s : State) : Within 0x73DDBFE9 s (execLogRead mb s) :=
  ⟨_, rfl, .runOrder .same fun _ _ h0 => .ite ((State.refuse_foot _ _ _).after h0) ((State.reply_foot _ _ _ _).after
      ((State.logDamaged_foot _ _).after h0))⟩

theorem execLogVerify_foot (mb : Nat) (s : State) : Within 0x73DDBFE9 s (execLogVerify mb s) :=
  ⟨_, rfl, .runOrder .same fun _ _ h0 => .ite ((State.refuse_foot _ _ _).after h0) (.ite ((State.refuse_foot _ _
      _).after h0) ((State.reply_foot _ _ _ _).after (.ite ((State.raise_foot _ _ _ _).after ((State.logDamaged_foot
      _ _).after h0)) ((State.logDamaged_foot _ _).after h0))))⟩

theorem execLogNote_foot (mb : Nat) (s : State) : Within 0x73DDBFE9 s (execLogNote mb s) :=
  ⟨_, rfl, .runOrder .same fun _ _ h0 => .ite ((State.refuse_foot _ _ _).after h0) (.ite ((State.refuse_foot _ _
      _).after h0) ((State.offerAs_foot _ _).after ((State.wait_foot _ _ _).after ((State.setSes_foot _ _ _).after
      h0))))⟩

theorem execLogClear_foot (mb : Nat) (s : State) : Within 0x73DDBFE9 s (execLogClear mb s) :=
  ⟨_, rfl, .runOrder .same fun _ _ h0 => .ite ((State.refuse_foot _ _ _).after h0) ((State.wait_foot _ _ _).after h0)⟩

theorem State.logCleared_foot (s : State) (mb upto : Nat) : Foot 0x30900140 s (s.logCleared mb upto) := by
  unfold State.logCleared
  exact (State.finish_foot _ _ _ _).after ((State.record_foot _ _ _ _).after ((State.writeHeader_foot _ _).after
      (.log .same)))

theorem execLogFormat_foot (mb : Nat) (s : State) : Within 0x73DDBFE9 s (execLogFormat mb s) :=
  ⟨_, rfl, .runOrder .same fun _ _ h0 => .ite ((State.refuse_foot _ _ _).after h0) ((State.wait_foot _ _ _).after h0)⟩

theorem State.logFormatted_foot (s : State) (mb first : Nat) : Foot 0x73DDBFEB s (s.logFormatted mb first) := by
  unfold State.logFormatted
  exact (State.finish_foot _ _ _ _).after ((State.record_foot _ _ _ _).after (.log ((State.formatHeaders_foot _ _
      _).after (.ite (.log .same) (.fold .same fun _ _ h0 => (State.flushRecord_foot _ _).after h0)))))

theorem execLogSubscribe_foot (mb : Nat) (s : State) : Within 0x73DDBFE9 s (execLogSubscribe mb s) :=
  ⟨_, rfl, .runOrderWith .same fun _ _ h0 => by
        (try dsimp only)
        split
        · exact (State.refuse_foot _ _ _).after h0
        · exact .ite ((State.refuse_foot _ _ _).after h0) ((State.pushLogs_foot _).after ((State.reply_foot _ _ _
            _).after ((State.subscribe_foot (by assumption)).after h0)))
⟩

theorem execLogUnsubscribe_foot (mb : Nat) (s : State) : Within 0x73DDBFE9 s (execLogUnsubscribe mb s) :=
  ⟨_, rfl, .runOrder .same fun _ _ h0 => .ite ((State.refuse_foot _ _ _).after h0) (by
        (try dsimp only)
        split
        · exact (State.refuse_foot _ _ _).after h0
        · exact (State.reply_foot _ _ _ _).after ((State.unsubscribe_foot (by assumption)).after h0))⟩

theorem execLogCapsules_foot (mb : Nat) (s : State) : Within 0x73DDBFE9 s (execLogCapsules mb s) :=
  ⟨_, rfl, .runOrder .same fun _ _ h0 => .ite ((State.refuse_foot _ _ _).after h0) ((State.reply_foot _ _ _ _).after
      h0)⟩

end Sys2Proof.Machine
end

