-- ==== Sys2Proof/Laws/FootPower.lean ====
section
/-! SUPPORT. Footprints of the state functions of Power.lean. -/
set_option Elab.async false
namespace Sys2Proof.Machine

theorem State.setRet_foot (s : State) (f : Retention → Retention) : Foot 0x1 s (s.setRet f) := by
  unfold State.setRet
  exact .power .same

theorem State.setWake_foot (s : State) (f : Wake → Wake) : Foot 0x1 s (s.setWake f) := by
  unfold State.setWake
  exact .power .same

theorem State.beginAttempt_foot (s : State) : Foot 0x1 s s.beginAttempt := by
  unfold State.beginAttempt
  exact .power ((State.setWake_foot _ _).after .same)

theorem State.beginSeries_foot (s : State) (kind : SeriesKind) (source fromMode : Nat) :
    Foot 0x1 s (s.beginSeries kind source fromMode) := by
  unfold State.beginSeries
  exact (State.beginAttempt_foot _).after ((State.setWake_foot _ _).after ((State.setRet_foot _ _).after .same))

theorem State.wakeEvent_foot (s : State) (b : Nat) : Foot 0x1 s (s.wakeEvent b) := by
  unfold State.wakeEvent
  exact .ite ((State.beginSeries_foot _ _ _ _).after .same) .same

theorem State.startPending_foot (s : State) : Foot 0x1 s s.startPending := by
  unfold State.startPending
  exact by
    (try dsimp only)
    split
    · exact .same
    · exact .ite ((State.beginSeries_foot _ _ _ _).after .same) .same

theorem State.dropEnables_foot (s : State) : Foot 0x1DC1011 s s.dropEnables := by
  unfold State.dropEnables
  exact (State.powerDomains_foot _ _).after (.power ((State.setWake_foot _ _).after .same))

theorem State.noteFailure_foot (s : State) (code : Nat) (attempt : Bool) : Foot 0x1 s (s.noteFailure code attempt) :=
    by
  unfold State.noteFailure
  exact (State.setRet_foot _ _).after .same

theorem State.strand_foot (s : State) : Foot 0x1FFFFFFD s s.strand := by
  unfold State.strand
  exact (State.setWake_foot _ _).after ((State.sleep_foot _ _).after ((State.setRet_foot _ _).after .same))

theorem State.failAttempt_foot (s : State) (code : Nat) : Foot 0x1FFFFFFD s (s.failAttempt code) := by
  unfold State.failAttempt
  exact .ite ((State.strand_foot _).after ((State.dropEnables_foot _).after ((State.noteFailure_foot _ _ _).after
      .same))) ((State.setWake_foot _ _).after ((State.dropEnables_foot _).after ((State.noteFailure_foot _ _
      _).after .same)))

theorem State.endAttempt_foot (s : State) (again : Bool) : Foot 0x1DC1011 s (s.endAttempt again) := by
  unfold State.endAttempt
  exact (State.setWake_foot _ _).after ((State.dropEnables_foot _).after .same)

theorem State.afterPg_foot (s : State) : Foot 0x1 s s.afterPg := by
  unfold State.afterPg
  exact (State.setWake_foot _ _).after .same

theorem State.strandBoot_foot (s : State) (code : Nat) : Foot 0x1FFFFFFD s (s.strandBoot code) := by
  unfold State.strandBoot
  exact (State.strand_foot _).after ((State.noteFailure_foot _ _ _).after .same)

theorem State.braceBegins_foot (s : State) (mon mv : Nat) : Foot 0x73DDBFE9 s (s.braceBegins mon mv) := by
  unfold State.braceBegins
  exact (State.raise_foot _ _ _ _).after (.power .same)

theorem State.braceRecords_foot (s : State) (b : Brace) (us : Nat) : Foot 0x100 s (s.braceRecords b us) := by
  unfold State.braceRecords
  exact .each .same fun _ _ h0 => (State.record_foot _ _ _ _).after h0

theorem State.gaspRamp_foot (s : State) (k : Nat) : Foot 0x800 s (s.gaspRamp k) := by
  unfold State.gaspRamp
  exact (State.setOut_foot _ _ _).after .same

theorem State.enterGasp_foot (s : State) : Foot 0x73DC1FF1 s s.enterGasp := by
  unfold State.enterGasp
  dsimp only
  exact (State.startBurst_foot _).after ((State.checkpoint_foot _ _).after (.ite ((State.passToken_foot _ _ _).after
      ((State.record_foot _ _ _ _).after (.update ((State.powerDomains_foot _ _).after ((State.peerEvent_foot _ _
      _).after ((State.clearWanted_foot _).after ((State.enterMode_foot _ _).after ((State.finishAll_foot _ _
      _).after ((State.dropShutdown_foot _).after .same))))))))) (.ite (.each (.each ((State.record_foot _ _ _
      _).after (.update ((State.powerDomains_foot _ _).after ((State.peerEvent_foot _ _ _).after
      ((State.clearWanted_foot _).after ((State.enterMode_foot _ _).after ((State.finishAll_foot _ _ _).after
      ((State.dropShutdown_foot _).after .same)))))))) fun _ _ h0 => (State.setOut_foot _ _ _).after
      ((State.lowOutput_foot _ _ _).after h0)) fun _ _ h0 => (State.gaspRamp_foot _ _).after h0) ((State.record_foot
      _ _ _ _).after (.update ((State.powerDomains_foot _ _).after ((State.peerEvent_foot _ _ _).after
      ((State.clearWanted_foot _).after ((State.enterMode_foot _ _).after ((State.finishAll_foot _ _ _).after
      ((State.dropShutdown_foot _).after .same)))))))))))

end Sys2Proof.Machine
end

