-- ==== Sys2Proof/Laws/FootPowerRows.lean ====
section
/-! SUPPORT. Footprints of the state functions of PowerRows.lean. -/
set_option Elab.async false
namespace Sys2Proof.Machine

theorem execVaonRise_foot (s : State) : Within 0x1 s (execVaonRise s) :=
  ⟨_, rfl, .ite (.power .same) .same⟩

theorem execVaonReset_foot (s : State) : Within 0x1FFFFFFF s (execVaonReset s) := by
  unfold execVaonReset
  refine ⟨_, rfl, ?_⟩
  dsimp only
  exact .update ((State.unpower_foot _ _).after .same)

theorem execWakeNLow_foot (s : State) : Within 0x1 s (execWakeNLow s) :=
  ⟨_, rfl, (State.wakeEvent_foot _ _).after (.power .same)⟩

theorem execRtcAlarm_foot (s : State) : Within 0x3 s (execRtcAlarm s) :=
  ⟨_, rfl, .ite ((State.wakeEvent_foot _ _).after (.retained ((State.rtcRuns_foot _ _).after .same))) .same⟩

theorem execInuvRecover_foot (s : State) : Within 0x1 s (execInuvRecover s) :=
  ⟨_, rfl, .ite (.ite (.power (.power .same)) (.ite ((State.startPending_foot _).after (.power .same))
      ((State.wakeEvent_foot _ _).after (.power .same)))) .same⟩

theorem State.measureBanks_foot (s : State) (b : Nat) : Foot 0x1 s (s.measureBanks b) := by
  unfold State.measureBanks
  exact .power .same

theorem State.pgGood_foot (s : State) (n banks33 : Nat) : Foot 0x1 s (s.pgGood n banks33) := by
  unfold State.pgGood
  exact .ite (.ite ((State.measureBanks_foot _ _).after (.power .same)) (.power .same)) (.ite ((State.afterPg_foot
      _).after (.ite ((State.measureBanks_foot _ _).after (.power .same)) (.power .same))) ((State.setWake_foot _
      _).after (.power (.ite ((State.measureBanks_foot _ _).after (.power .same)) (.power .same)))))

theorem execPgGood_foot (n banks33 : Nat) (s : State) : Within 0x1 s (execPgGood n banks33 s) :=
  ⟨_, rfl, .ite ((State.pgGood_foot _ _ _).after .same) .same⟩

theorem execPgTimeout_foot (n rtcNs : Nat) (s : State) : Within 0x1FFFFFFF s (execPgTimeout n s rtcNs) :=
  ⟨_, rfl, .ite ((State.failAttempt_foot _ _).after ((State.rtcRuns_foot _ _).after .same)) .same⟩

theorem execCrystalReady_foot (s : State) : Within 0x1 s (execCrystalReady s) :=
  ⟨_, rfl, .ite (.ite ((State.afterPg_foot _).after ((State.setWake_foot _ _).after .same)) ((State.setWake_foot _
      _).after .same)) .same⟩

theorem execCrystalTimeout_foot (rtcNs : Nat) (s : State) : Within 0x1FFFFFFF s (execCrystalTimeout s rtcNs) :=
  ⟨_, rfl, .ite ((State.failAttempt_foot _ _).after ((State.rtcRuns_foot _ _).after .same)) .same⟩

theorem execDomainSwitchOn_foot (s : State) : Within 0x41DC1011 s (execDomainSwitchOn s) :=
  ⟨_, rfl, .ite ((State.setWake_foot _ _).after ((State.powerDomains_foot _ _).after (.ite .same (.gauge
      ((State.used_foot _).after .same))))) .same⟩

theorem execInternalResetRelease_foot (rtcNs : Nat) (s : State) :
    Within 0x73DDBFEB s (execInternalResetRelease s rtcNs) :=
  ⟨_, rfl, .ite (.ite ((State.begin__foot _ _ _ _).after (.power ((State.setWake_foot _ _).after ((State.setRet_foot
      _ _).after ((State.wakeGauge_foot _ _ _).after ((State.rtcRuns_foot _ _).after .same)))))) (.power
      ((State.setWake_foot _ _).after ((State.setRet_foot _ _).after ((State.wakeGauge_foot _ _ _).after
      ((State.rtcRuns_foot _ _).after .same)))))) .same⟩

theorem execWakeRetry_foot (s : State) : Within 0x1 s (execWakeRetry s) :=
  ⟨_, rfl, .ite ((State.beginAttempt_foot _).after ((State.setRet_foot _ _).after .same)) .same⟩

theorem execPgLost_foot (n : Nat) (s : State) : Within 0x1FFFFFFD s (execPgLost n s) :=
  ⟨_, rfl, (State.chipResetNow_foot _ _).after (.power .same)⟩

theorem execResetNLow_foot (s : State) : Within 0x1FFFFFFD s (execResetNLow s) :=
  ⟨_, rfl, .ite ((State.endAttempt_foot _ _).after (.power .same)) ((State.chipResetNow_foot _ _).after (.power
      .same))⟩

theorem execResetNRelease_foot (s : State) : Within 0x1 s (execResetNRelease s) :=
  ⟨_, rfl, (State.startPending_foot _).after (.power .same)⟩

theorem execOrderlyResetProceed_foot (afterUs : Nat) (s : State) :
    Within 0x1FFFFFFD s (execOrderlyResetProceed afterUs s) :=
  ⟨_, rfl, by
    (try dsimp only)
    split
    · exact .ite ((State.resetToKeep_foot _ _).after .same) .same
    · exact .same
⟩

theorem execChipResetWake_foot (s : State) : Within 0x1 s (execChipResetWake s) :=
  ⟨_, rfl, .ite ((State.startPending_foot _).after ((State.setWake_foot _ _).after .same)) .same⟩

theorem execWatchdogExpiry_foot (s : State) : Within 0x73DDBFE9 s (execWatchdogExpiry s) :=
  ⟨_, rfl, .ite ((State.raise_foot _ _ _ _).after .same) .same⟩

theorem execSvcResetStart_foot (done : Bool) (s : State) : Within 0x70900DC1 s (execSvcResetStart done s) :=
  ⟨_, rfl, by
    (try dsimp only)
    split
    · exact .same
    · exact .ite .same ((State.chipResetOrderly_foot _ _ _).after (.power .same))
⟩

theorem execInuvTrip_foot (mv rtcNs : Nat) (s : State) : Within 0x73DDBFFB s (execInuvTrip mv s rtcNs) :=
  ⟨_, rfl, .ite ((State.triggerIgnored_foot _ _).after (.power ((State.rtcRuns_foot _ _).after (.power .same))))
      (.ite ((State.enterGasp_foot _).after ((State.raise_foot _ _ _ _).after ((State.rtcRuns_foot _ _).after (.power
      .same)))) (.ite ((State.endAttempt_foot _ _).after ((State.rtcRuns_foot _ _).after (.power .same)))
      ((State.rtcRuns_foot _ _).after (.power .same))))⟩

theorem execLastGaspRampEnd_foot (s : State) : Within 0xC01 s (execLastGaspRampEnd s) :=
  ⟨_, rfl, .ite (.power (.each ((State.lowAll_foot _ _).after .same) fun _ _ h0 => (State.setOut_foot _ _ _).after
      h0)) .same⟩

theorem execLastGaspComplete_foot (done : Bool) (s : State) : Within 0x1FFFFFFD s (execLastGaspComplete done s) :=
  ⟨_, rfl, .ite (.ite ((State.startPending_foot _).after ((State.setWake_foot _ _).after ((State.sleep_foot _
      _).after .same))) ((State.sleep_foot _ _).after .same)) .same⟩

theorem execSupplyWarning_foot (mon mv : Nat) (s : State) : Within 0x73DDBFE9 s (execSupplyWarning mon mv s) :=
  ⟨_, rfl, .ite (.ite (by
    (try dsimp only)
    split
    · exact .power .same
    · exact .same) ((State.braceBegins_foot _ _ _).after .same)) .same⟩

theorem execBraceEnd_foot (us : Nat) (s : State) : Within 0x40000101 s (execBraceEnd us s) :=
  ⟨_, rfl, by
    (try dsimp only)
    split
    · exact .same
    · exact .ite ((State.startBurst_foot _).after ((State.braceRecords_foot _ _ _).after (.power .same))) (.power
        .same)
⟩

theorem execSupplyReset_foot (mon : Nat) (s : State) : Within 0x1FFFFFFD s (execSupplyReset mon s) :=
  ⟨_, rfl, .ite ((State.chipResetNow_foot _ _).after .same) .same⟩

theorem execMonitorArm_foot (mon : Nat) (s : State) : Within 0x1 s (execMonitorArm mon s) :=
  ⟨_, rfl, .ite (.power .same) .same⟩

theorem execReferenceCrystalLoss_foot (s : State) : Within 0x73DDBFED s (execReferenceCrystalLoss s) :=
  ⟨_, rfl, .ite ((State.begin__foot _ _ _ _).after (.clocks .same)) .same⟩

theorem execReferenceCrystalRestored_foot (s : State) : Within 0x204 s (execReferenceCrystalRestored s) :=
  ⟨_, rfl, .ite ((State.condition_foot _ _ _).after (.clocks .same)) .same⟩

theorem execHoldoverTimeout_foot (s : State) : Within 0x70900DC1 s (execHoldoverTimeout s) :=
  ⟨_, rfl, .ite ((State.chipResetOrderly_foot _ _ _).after .same) .same⟩

theorem execRtcCrystalLoss_foot (s : State) : Within 0x73DDBFED s (execRtcCrystalLoss s) := by
  unfold execRtcCrystalLoss
  refine ⟨_, rfl, ?_⟩
  dsimp only
  exact .ite .same (.ite ((State.begin__foot _ _ _ _).after (.update .same)) (.update .same))

theorem execRtcCrystalRestored_foot (s : State) : Within 0x1000204 s (execRtcCrystalRestored s) := by
  unfold execRtcCrystalRestored
  refine ⟨_, rfl, ?_⟩
  dsimp only
  exact .ite ((State.condition_foot _ _ _).after (.update .same)) .same

theorem execPllLossOfLock_foot (pll : Nat) (s : State) : Within 0x73DDBFED s (execPllLossOfLock pll s) :=
  ⟨_, rfl, .ite (.ite ((State.reportEvent_foot _ _ _ _).after (.clocks .same)) ((State.raise_foot _ _ _ _).after
      (.clocks .same))) .same⟩

theorem execRcOutOfRange_foot (outside : Bool) (s : State) : Within 0x73DDBFED s (execRcOutOfRange s outside) :=
  ⟨_, rfl, .ite ((State.condition_foot _ _ _).after (.clocks .same)) (.ite ((State.begin__foot _ _ _ _).after
      (.clocks .same)) (.clocks .same))⟩

theorem execBootRomUncorrectable_foot (rtcNs : Nat) (s : State) :
    Within 0x7FFFFFFF s (execBootRomUncorrectable s rtcNs) := by
  unfold execBootRomUncorrectable
  refine ⟨_, rfl, ?_⟩
  dsimp only
  exact .ite (.ite (.update ((State.raise_foot _ _ _ _).after ((State.setEcc_foot _ _ _).after ((State.rtcRuns_foot _
      _).after .same)))) ((State.strandBoot_foot _ _).after ((State.raise_foot _ _ _ _).after ((State.setEcc_foot _ _
      _).after ((State.rtcRuns_foot _ _).after .same))))) .same

end Sys2Proof.Machine
end

