-- ==== Sys2Proof/Laws/FootBootRows.lean ====
section
/-! SUPPORT. Footprints of the state functions of BootRows.lean. -/
set_option Elab.async false
namespace Sys2Proof.Machine

theorem State.noteSpares_foot (s : State) (l : List (Nat × Nat × Nat)) : Foot 0x200 s (s.noteSpares l) := by
  unfold State.noteSpares
  exact .each .same fun _ _ h0 => (State.setEcc_foot _ _ _).after h0

theorem State.raiseTimes_foot (s : State) (n src : Nat) : Foot 0x73DDBFE9 s (s.raiseTimes n src) := by
  unfold State.raiseTimes
  exact .fold .same fun _ _ h0 => (State.raise_foot _ _ _ _).after h0

theorem State.senseOtp_foot (s : State) (spares : List (Nat × Nat × Nat)) : Foot 0x132 s (s.senseOtp spares) := by
  unfold State.senseOtp
  exact .log (.update .same)

theorem execOtpSenseComplete_foot (s : State) : Within 0x73DDBFFB s (execOtpSenseComplete s) :=
  ⟨_, rfl, .ite ((State.raiseTimes_foot _ _ _).after ((State.raiseTimes_foot _ _ _).after ((State.raiseTimes_foot _ _
      _).after ((State.noteSpares_foot _ _).after ((State.senseOtp_foot _ _).after .same))))) .same⟩

theorem execMemoryInitComplete_foot (s : State) : Within 0x60 s (execMemoryInitComplete s) := by
  unfold execMemoryInitComplete
  refine ⟨_, rfl, ?_⟩
  dsimp only
  exact .ite (.updateC .same (hh := HostPort.canonical_clear _) (ht := id)) .same

theorem State.noImage_foot (s : State) : Foot 0x1FFFFFFD s s.noImage := by
  unfold State.noImage
  exact .ite .same (.ite ((State.strand_foot _).after ((State.noteFailure_foot _ _ _).after .same))
      ((State.noteFailure_foot _ _ _).after .same))

theorem State.tableCut_foot (s : State) : Foot 0x40000020 s s.tableCut := by
  unfold State.tableCut
  exact (State.used_foot _).after (.boot .same)

theorem execFlashResetDone_foot (taps sfdpKhz rtcNs : Nat) (s : State) :
    Within 0x5FFFFFFF s (execFlashResetDone s taps sfdpKhz rtcNs) :=
  ⟨_, rfl, .ite ((State.noImage_foot _).after (.boot ((State.tableCut_foot _).after ((State.rtcRuns_foot _ _).after
      .same)))) .same⟩

theorem execImageChecked_foot (slot : Nat) (readFails : Bool) (rtcNs : Nat) (s : State) :
    Within 0x5FFFFFFF s (execImageChecked slot readFails s rtcNs) :=
  ⟨_, rfl, .ite (.ite (.boot ((State.tableCut_foot _).after ((State.rtcRuns_foot _ _).after .same)))
      ((State.noImage_foot _).after (.boot ((State.tableCut_foot _).after ((State.rtcRuns_foot _ _).after .same)))))
      .same⟩

theorem execImageStart_foot (s : State) : Within 0x20 s (execImageStart s) :=
  ⟨_, rfl, .ite (.boot .same) .same⟩

theorem State.tableWritten_foot (s : State) : Foot 0x1FFFFFFD s s.tableWritten := by
  unfold State.tableWritten
  exact by
    (try dsimp only)
    split
    · exact .same
    · exact .ite ((State.strand_foot _).after (by
        (try dsimp only)
        split
        · exact (State.record_foot _ _ _ _).after (.boot .same)
        · exact .boot .same)) (by
        (try dsimp only)
        split
        · exact (State.record_foot _ _ _ _).after (.boot .same)
        · exact .boot .same)

theorem State.tableFailed_foot (s : State) : Foot 0x20 s s.tableFailed := by
  unfold State.tableFailed
  exact by
    (try dsimp only)
    split
    · exact .same
    · exact .boot .same

theorem State.otpReadDone_foot (s : State) (q : Req) : Foot 0x73DDBFE9 s (s.otpReadDone q) := by
  unfold State.otpReadDone
  exact (State.reply_foot _ _ _ _).after ((State.raiseTimes_foot _ _ _).after .same)

theorem execOtpRead_foot (mb : Nat) (s : State) : Within 0x73DDBFE9 s (execOtpRead mb s) :=
  ⟨_, rfl, .runOrder .same fun _ _ h0 => .ite ((State.refuse_foot _ _ _).after h0) (.ite ((State.wait_foot _ _
      _).after h0) ((State.otpReadDone_foot _ _).after h0))⟩

theorem State.serveOtpReads_foot (s : State) : Foot 0x73DDBFE9 s s.serveOtpReads := by
  unfold State.serveOtpReads
  exact .fold .same fun _ _ h0 => (State.otpReadDone_foot _ _).after ((State.unwait_foot _ _).after h0)

theorem State.otpBegin_foot (s : State) (word value mb : Nat) (filling : Bool) :
    Foot 0x40000010 s (s.otpBegin word value mb filling) := by
  unfold State.otpBegin
  exact (State.used_foot _).after (.otp .same)

theorem execOtpProgram_foot (mb : Nat) (s : State) : Within 0x73DDBFF9 s (execOtpProgram mb s) :=
  ⟨_, rfl, .runOrder .same fun _ _ h0 => .ite ((State.refuse_foot _ _ _).after h0) (.ite ((State.refuse_foot _ _
      _).after h0) (.ite ((State.refuse_foot _ _ _).after h0) ((State.wait_foot _ _ _).after ((State.otpBegin_foot _
      _ _ _ _).after h0))))⟩

theorem execOtpLifecycle_foot (mb : Nat) (s : State) : Within 0x73DDBFF9 s (execOtpLifecycle mb s) :=
  ⟨_, rfl, .runOrder .same fun _ _ h0 => .ite ((State.refuse_foot _ _ _).after h0) (.ite ((State.refuse_foot _ _
      _).after h0) (.ite ((State.refuse_foot _ _ _).after h0) ((State.wait_foot _ _ _).after ((State.otpBegin_foot _
      _ _ _ _).after h0))))⟩

theorem State.otpEnd_foot (s : State) (j : OtpJob) (ok : Bool) (stage left : Nat) :
    Foot 0x73DDBFF9 s (s.otpEnd j ok stage left) := by
  unfold State.otpEnd
  exact .ite (.otp .same) ((State.raise_foot _ _ _ _).after (.otp .same))

theorem State.otpProgrammed_foot (s : State) (mb : Nat) (ok : Bool) (stage left : Nat) :
    Foot 0x73DDBFF9 s (s.otpProgrammed mb ok stage left) := by
  unfold State.otpProgrammed
  exact by
    (try dsimp only)
    split
    · exact .same
    · exact (State.serveOtpReads_foot _).after ((State.finish_foot _ _ _ _).after ((State.record_foot _ _ _ _).after
        ((State.otpEnd_foot _ _ _ _ _).after .same)))

theorem State.scheduleReset_foot (s : State) (n transport : Nat) : Foot 0x1 s (s.scheduleReset n transport) := by
  unfold State.scheduleReset
  exact .power .same

theorem State.lifecycleAnswer_foot (s : State) (mb target : Nat) (ok : Bool) :
    Foot 0x30900141 s (s.lifecycleAnswer mb target ok) := by
  unfold State.lifecycleAnswer
  exact .ite ((State.scheduleReset_foot _ _ _).after ((State.finish_foot _ _ _ _).after (.ite ((State.record_foot _ _
      _ _).after .same) .same))) ((State.finish_foot _ _ _ _).after (.ite ((State.record_foot _ _ _ _).after .same)
      .same))

theorem State.lifecycleDone_foot (s : State) (mb target : Nat) (ok : Bool) (stage left : Nat) :
    Foot 0x73DDBFF9 s (s.lifecycleDone mb target ok stage left) := by
  unfold State.lifecycleDone
  exact by
    (try dsimp only)
    split
    · exact .same
    · exact .ite ((State.otpBegin_foot _ _ _ _ _).after ((State.serveOtpReads_foot _).after ((State.otpEnd_foot _ _ _
        _ _).after .same))) ((State.lifecycleAnswer_foot _ _ _ _).after ((State.serveOtpReads_foot _).after
        ((State.otpEnd_foot _ _ _ _ _).after .same)))

theorem execFwStatus_foot (mb : Nat) (s : State) : Within 0x73DDBFE9 s (execFwStatus mb s) :=
  ⟨_, rfl, .runOrder .same fun _ _ h0 => .ite ((State.refuse_foot _ _ _).after h0) ((State.reply_foot _ _ _ _).after
      h0)⟩

theorem State.startImage_foot (s : State) (slot : Nat) : Foot 0x40000120 s (s.startImage slot) := by
  unfold State.startImage
  exact (State.record_foot _ _ _ _).after (.boot ((State.tableCut_foot _).after .same))

theorem execFwWrite_foot (mb : Nat) (s : State) : Within 0x73DDBFE9 s (execFwWrite mb s) :=
  ⟨_, rfl, .runOrder .same fun _ _ h0 => .ite ((State.refuse_foot _ _ _).after h0) (.ite ((State.refuse_foot _ _
      _).after h0) (.ite ((State.refuse_foot _ _ _).after h0) (.ite ((State.refuse_foot _ _ _).after h0)
      ((State.wait_foot _ _ _).after (.ite ((State.startImage_foot _ _).after h0) h0)))))⟩

theorem State.fwWritten_foot (s : State) (mb slot o n : Nat) : Foot 0x30900060 s (s.fwWritten mb slot o n) := by
  unfold State.fwWritten
  exact (State.finish_foot _ _ _ _).after (.boot .same)

theorem State.fwWriteStep_foot (s : State) (mb slot o n : Nat) (ok : Bool) :
    Foot 0x3FFFFFFD s (s.fwWriteStep mb slot o n ok) := by
  unfold State.fwWriteStep
  exact .ite ((State.finish_foot _ _ _ _).after ((State.tableFailed_foot _).after .same)) (.ite
      ((State.fwWritten_foot _ _ _ _ _).after .same) ((State.tableWritten_foot _).after .same))

theorem State.commitRecord_foot (s : State) (slot code seq : Nat) : Foot 0x100 s (s.commitRecord slot code seq) := by
  unfold State.commitRecord
  exact (State.record_foot _ _ _ _).after .same

theorem execFwCommit_foot (mb : Nat) (s : State) : Within 0x73DDBFE9 s (execFwCommit mb s) :=
  ⟨_, rfl, .runOrder .same fun _ _ h0 => .ite ((State.refuse_foot _ _ _).after h0) (.ite ((State.refuse_foot _ _
      _).after h0) (.ite ((State.refuse_foot _ _ _).after h0) (.ite ((State.wait_foot _ _ _).after (.boot
      ((State.tableCut_foot _).after h0))) ((State.reply_foot _ _ _ _).after ((State.commitRecord_foot _ _ _ _).after
      h0)))))⟩

theorem State.fwCommitStep_foot (s : State) (mb slot : Nat) (ok : Bool) :
    Foot 0x3FFFFFFD s (s.fwCommitStep mb slot ok) := by
  unfold State.fwCommitStep
  exact .ite ((State.finish_foot _ _ _ _).after ((State.tableFailed_foot _).after .same)) (.ite ((State.finish_foot _
      _ _ _).after ((State.commitRecord_foot _ _ _ _).after ((State.tableWritten_foot _).after .same)))
      ((State.tableWritten_foot _).after .same))

theorem execTimeGet_foot (mb : Nat) (s : State) : Within 0x73DDBFE9 s (execTimeGet mb s) :=
  ⟨_, rfl, .runOrder .same fun _ _ h0 => .ite ((State.refuse_foot _ _ _).after h0) ((State.reply_foot _ _ _ _).after
      h0)⟩

theorem execTimeSet_foot (mb : Nat) (s : State) : Within 0x73DDBFE9 s (execTimeSet mb s) :=
  ⟨_, rfl, .runOrderWith .same fun _ _ h0 => .ite ((State.refuse_foot _ _ _).after h0) (.ite ((State.refuse_foot _ _
      _).after h0) ((State.wait_foot _ _ _).after h0))⟩

theorem execSvcReset_foot (mb : Nat) (s : State) : Within 0x73DDBFE9 s (execSvcReset mb s) :=
  ⟨_, rfl, .runOrder .same fun _ _ h0 => .ite ((State.refuse_foot _ _ _).after h0) ((State.scheduleReset_foot _ _
      _).after ((State.reply_foot _ _ _ _).after h0))⟩

theorem execSvcBlockreset_foot (mb : Nat) (s : State) : Within 0x73DDBFE9 s (execSvcBlockreset mb s) :=
  ⟨_, rfl, .runOrder .same fun _ _ h0 => .ite ((State.refuse_foot _ _ _).after h0) (.ite ((State.refuse_foot _ _
      _).after h0) ((State.reply_foot _ _ _ _).after ((State.blockReset_foot _ _).after h0)))⟩

end Sys2Proof.Machine
end

