-- ==== Sys2Proof/Laws/FootSequencer.lean ====
section
/-! SUPPORT. Footprints of the state functions of Sequencer.lean. -/
set_option Elab.async false
namespace Sys2Proof.Machine

theorem State.testPhase_foot (s : State) (k ch : Nat) (v : Int) : Foot 0x400 s (s.testPhase k ch v) := by
  unfold State.testPhase
  exact (State.setChan_foot _ _ _).after .same

theorem State.failPhase_foot (s : State) (ch : Nat) (offset : Bool) : Foot 0x73DDBFE9 s (s.failPhase ch offset) := by
  unfold State.failPhase
  exact .ite ((State.raiseChan_foot _ _ _ _).after (.ite ((State.raiseChan_foot _ _ _ _).after ((State.setChan_foot _
      _ _).after .same)) ((State.setChan_foot _ _ _).after .same))) (.ite ((State.raiseChan_foot _ _ _ _).after
      ((State.setChan_foot _ _ _).after .same)) ((State.setChan_foot _ _ _).after .same))

theorem State.lockout_foot (s : State) (k : Nat) (offset : Nat → Bool) : Foot 0x73DDBFE9 s (s.lockout k offset) := by
  unfold State.lockout
  exact (State.settle_foot _).after ((State.record_foot _ _ _ _).after (.each (.each ((State.setOut_foot _ _ _).after
      .same) fun _ _ h0 => (State.failPhase_foot _ _ _).after h0) fun _ _ h0 => (State.setTrip_foot _ _ _).after
      ((State.setChan_foot _ _ _).after h0)))

theorem execStartDelayExpiry_foot (out : Nat) (volts : List Int) (s : State) :
    Within 0x73DDBFE9 s (execStartDelayExpiry out volts s) :=
  ⟨_, rfl, .ite (.ite ((State.lockout_foot _ _ _).after (.each ((State.setOut_foot _ _ _).after .same) fun _ _ h0 =>
      (State.testPhase_foot _ _ _ _).after h0)) (.each ((State.setOut_foot _ _ _).after .same) fun _ _ h0 =>
      (State.testPhase_foot _ _ _ _).after h0)) .same⟩

theorem execHsTestTrip_foot (ch : Nat) (s : State) : Within 0x73DDBFE9 s (execHsTestTrip ch s) :=
  ⟨_, rfl, by
    (try dsimp only)
    split
    · exact .ite ((State.lockout_foot _ _ _).after ((State.setChan_foot _ _ _).after .same)) .same
    · exact .same
⟩

theorem State.testMeasure_foot (s : State) (ch : Nat) (samples : List Int) :
    Foot 0x400 s (s.testMeasure ch samples) := by
  unfold State.testMeasure
  exact (State.setChan_foot _ _ _).after .same

theorem State.startPhase_foot (s : State) (k ch : Nat) (u : Int) : Foot 0x400 s (s.startPhase k ch u) := by
  unfold State.startPhase
  exact (State.setChan_foot _ _ _).after .same

theorem State.startPhases_foot (s : State) (k : Nat) (u : Int) : Foot 0x400 s (s.startPhases k u) := by
  unfold State.startPhases
  exact .each .same fun _ _ h0 => (State.startPhase_foot _ _ _ _).after h0

theorem State.refreshPhase_foot (s : State) (k ch : Nat) : Foot 0x73DDBFE9 s (s.refreshPhase k ch) := by
  unfold State.refreshPhase
  exact .ite ((State.raiseChan_foot _ _ _ _).after ((State.setChan_foot _ _ _).after .same)) ((State.setChan_foot _ _
      _).after .same)

theorem execHsTestEnd_foot (out : Nat) (samples : List (List Int)) (s : State) :
    Within 0x73DDBFE9 s (execHsTestEnd out samples s) :=
  ⟨_, rfl, .ite (.ite ((State.lockout_foot _ _ _).after (.each .same fun _ _ h0 => (State.testMeasure_foot _ _
      _).after h0)) (.each ((State.setOut_foot _ _ _).after ((State.startPhases_foot _ _ _).after
      ((State.swapBanks_foot _ _).after (.each .same fun _ _ h0 => (State.testMeasure_foot _ _ _).after h0)))) fun _
      _ h0 => (State.refreshPhase_foot _ _ _).after h0)) .same⟩

theorem execRiseDeadlineExpiry_foot (out : Nat) (s : State) : Within 0xD00 s (execRiseDeadlineExpiry out s) :=
  ⟨_, rfl, .ite ((State.settle_foot _).after ((State.failOut_foot _ _ _ _).after .same)) .same⟩

theorem execRestartClearance_foot (out sinceUs : Nat) (s : State) :
    Within 0x900 s (execRestartClearance out s sinceUs) :=
  ⟨_, rfl, .ite ((State.settle_foot _).after ((State.clearOut_foot _ _ _).after ((State.setOut_foot _ _ _).after
      .same))) .same⟩

theorem execTriesRestore_foot (out : Nat) (s : State) : Within 0x800 s (execTriesRestore out s) :=
  ⟨_, rfl, .ite ((State.setOut_foot _ _ _).after .same) .same⟩

theorem execChanUnlock_foot (mb : Nat) (s : State) : Within 0x73DDBFE9 s (execChanUnlock mb s) :=
  ⟨_, rfl, .runOrder .same fun _ _ h0 => .ite ((State.refuse_foot _ _ _).after h0) ((State.reply_foot _ _ _ _).after
      ((State.settle_foot _).after ((State.record_foot _ _ _ _).after ((State.setOut_foot _ _ _).after (.each h0 fun
      _ _ h1 => (State.setChan_foot _ _ _).after h1)))))⟩

theorem execChanStart_foot (mb : Nat) (s : State) : Within 0x73DDBFE9 s (execChanStart mb s) :=
  ⟨_, rfl, .runOrder .same fun _ _ h0 => .ite ((State.refuse_foot _ _ _).after h0) (.ite ((State.refuse_foot _ _
      _).after h0) ((State.wait_foot _ _ _).after h0))⟩

theorem execChanStop_foot (mb : Nat) (s : State) : Within 0x73DDBFE9 s (execChanStop mb s) :=
  ⟨_, rfl, .runOrder .same fun _ _ h0 => .ite ((State.refuse_foot _ _ _).after h0) ((State.wait_foot _ _ _).after h0)⟩

theorem execChanClear_foot (mb : Nat) (s : State) : Within 0x73DDBFE9 s (execChanClear mb s) :=
  ⟨_, rfl, .runOrder .same fun _ _ h0 => .ite ((State.refuse_foot _ _ _).after h0) ((State.wait_foot _ _ _).after h0)⟩

theorem State.chanStarted_foot (s : State) (mb m : Nat) : Foot 0x30900840 s (s.chanStarted mb m) := by
  unfold State.chanStarted
  exact .ite ((State.finish_foot _ _ _ _).after .same) ((State.finish_foot _ _ _ _).after ((State.settle_foot
      _).after (.each .same fun _ _ h0 => (State.want_foot _ _).after h0)))

theorem State.stopNamed_foot (s : State) (how k : Nat) : Foot 0xD00 s (s.stopNamed how k) := by
  unfold State.stopNamed
  exact .ite ((State.orderStop_foot _ _ _).after .same) (.ite ((State.forceOut_foot _ _ _ _ _).after .same) (.ite
      ((State.setOut_foot _ _ _).after .same) (.ite ((State.endRamp_foot _ _).after .same) .same)))

theorem State.stopDependant_foot (s : State) (how k : Nat) : Foot 0xD00 s (s.stopDependant how k) := by
  unfold State.stopDependant
  exact .ite ((State.orderStop_foot _ _ _).after .same) ((State.forceDependant_foot _ _).after .same)

theorem State.chanStopped_foot (s : State) (mb m how : Nat) : Foot 0x30900D40 s (s.chanStopped mb m how) := by
  unfold State.chanStopped
  exact (State.finish_foot _ _ _ _).after ((State.settle_foot _).after (.each (.each (.each .same fun _ _ h0 =>
      (State.setOut_foot _ _ _).after h0) fun _ _ h0 => (State.stopNamed_foot _ _ _).after h0) fun _ _ h0 =>
      (State.stopDependant_foot _ _ _).after h0))

theorem State.chanCleared_foot (s : State) (mb m : Nat) : Foot 0x30900940 s (s.chanCleared mb m) := by
  unfold State.chanCleared
  exact (State.finish_foot _ _ _ _).after ((State.settle_foot _).after (.each .same fun _ _ h0 =>
      (State.clearOut_foot _ _ _).after ((State.setOut_foot _ _ _).after h0)))

theorem execChanSeqstatus_foot (mb : Nat) (s : State) : Within 0x73DDBFE9 s (execChanSeqstatus mb s) :=
  ⟨_, rfl, .runOrder .same fun _ _ h0 => .ite ((State.refuse_foot _ _ _).after h0) ((State.replySealed_foot _ _
      _).after h0)⟩

theorem execChanScanread_foot (mb : Nat) (s : State) : Within 0x73DDBFE9 s (execChanScanread mb s) :=
  ⟨_, rfl, .runOrder .same fun _ _ h0 => .ite ((State.refuse_foot _ _ _).after h0) ((State.replySealed_foot _ _
      _).after h0)⟩

end Sys2Proof.Machine
end

