-- ==== Sys2Proof/Laws/FootScannerRows.lean ====
section
/-! SUPPORT. Footprints of the state functions of ScannerRows.lean. -/
set_option Elab.async false
namespace Sys2Proof.Machine

theorem State.outputGood_foot (s : State) (k : Nat) : Foot 0x800 s (s.outputGood k) := by
  unfold State.outputGood
  exact .ite ((State.settle_foot _).after ((State.setOut_foot _ _ _).after .same)) .same

theorem State.noteSlot_foot (s : State) (slot code flags : Nat) : Foot 0x2000 s (s.noteSlot slot code flags) := by
  unfold State.noteSlot
  exact .scan .same

theorem State.supvSlot_foot (s : State) (slot code : Nat) : Foot 0x2800 s (s.supvSlot slot code) := by
  unfold State.supvSlot
  exact by
    (try dsimp only)
    split
    · exact (State.noteSlot_foot _ _ _ _).after .same
    · exact .ite ((State.outputGood_foot _ _).after ((State.noteSlot_foot _ _ _ _).after ((State.setOut_foot _ _
        _).after .same))) ((State.noteSlot_foot _ _ _ _).after .same)

theorem State.judgeTmp_foot (s : State) (k : Nat) : Foot 0x800 s (s.judgeTmp k) := by
  unfold State.judgeTmp
  exact (State.setOut_foot _ _ _).after .same

theorem State.setTemps_foot (s : State) (ch : Nat) (warn bad : Bool) : Foot 0x600 s (s.setTemps ch warn bad) := by
  unfold State.setTemps
  exact .ite .same ((State.condition_foot _ _ _).after ((State.setChan_foot _ _ _).after .same))

theorem State.tmpClear_foot (s : State) (k : Nat) : Foot 0xE00 s (s.tmpClear k) := by
  unfold State.tmpClear
  exact .ite ((State.setOut_foot _ _ _).after (.each .same fun _ _ h0 => (State.setTemps_foot _ _ _ _).after h0))
      (.each .same fun _ _ h0 => (State.setTemps_foot _ _ _ _).after h0)

theorem State.tmpSlot_foot (s : State) (ch code : Nat) : Foot 0x2E00 s (s.tmpSlot ch code) := by
  unfold State.tmpSlot
  exact by
    (try dsimp only)
    split
    · exact (State.noteSlot_foot _ _ _ _).after .same
    · exact .ite (.ite ((State.noteSlot_foot _ _ _ _).after ((State.tmpClear_foot _ _).after ((State.judgeTmp_foot _
        _).after ((State.noteSlot_foot _ _ _ _).after .same)))) ((State.noteSlot_foot _ _ _ _).after .same))
        ((State.noteSlot_foot _ _ _ _).after .same)

theorem State.probeScan_foot (s : State) (k v : Nat) : Foot 0x80000 s (s.probeScan k v) := by
  unfold State.probeScan
  exact by
    (try dsimp only)
    split
    · exact .same
    · exact by
        (try dsimp only)
        split
        · exact .same
        · exact .ite (.gauge .same) .same

theorem State.strvSlot_foot (s : State) (k code : Nat) : Foot 0x80000 s (s.strvSlot k code) := by
  unfold State.strvSlot
  exact (State.setString_foot _ _ _).after .same

theorem State.stringSlot_foot (s : State) (slot code : Nat) : Foot 0x82000 s (s.stringSlot slot code) := by
  unfold State.stringSlot
  exact .ite ((State.probeScan_foot _ _ _).after ((State.strvSlot_foot _ _ _).after ((State.noteSlot_foot _ _ _
      _).after .same))) ((State.setString_foot _ _ _).after ((State.noteSlot_foot _ _ _ _).after .same))

theorem State.shuntSlot_foot (s : State) (slot code : Nat) : Foot 0x82000 s (s.shuntSlot slot code) := by
  unfold State.shuntSlot
  exact by
    (try dsimp only)
    split
    · exact .gauge ((State.noteSlot_foot _ _ _ _).after .same)
    · exact (State.noteSlot_foot _ _ _ _).after .same

theorem State.convertSlot_foot (s : State) (slot code : Nat) : Foot 0x82E00 s (s.convertSlot slot code) := by
  unfold State.convertSlot
  exact .ite ((State.supvSlot_foot _ _ _).after .same) (.ite ((State.tmpSlot_foot _ _ _).after .same) (.ite
      ((State.stringSlot_foot _ _ _).after .same) (.ite ((State.noteSlot_foot _ _ _ _).after .same) (.ite
      ((State.shuntSlot_foot _ _ _).after .same) (.ite (.scan ((State.noteSlot_foot _ _ _ _).after .same)) (.ite
      (.scan ((State.noteSlot_foot _ _ _ _).after .same)) .same))))))

theorem execScannerSlot_foot (v : Int) (s : State) : Within 0x82E00 s (execScannerSlot v s) :=
  ⟨_, rfl, .ite (.scan ((State.convertSlot_foot _ _ _).after .same)) .same⟩

theorem State.shutdownRecord_foot (s : State) (k slot : Nat) : Foot 0x100 s (s.shutdownRecord k slot) := by
  unfold State.shutdownRecord
  exact (State.record_foot _ _ _ _).after .same

theorem State.scannerStop_foot (s : State) (k ch event slot : Nat) :
    Foot 0x73DDBFEB s (s.scannerStop k ch event slot) := by
  unfold State.scannerStop
  exact .ite ((State.settle_foot _).after ((State.shutdownRecord_foot _ _ _).after ((State.setOut_foot _ _ _).after
      ((State.setOut_foot _ _ _).after ((State.failOut_foot _ _ _ _).after (.each ((State.chanFault_foot _ _ _ _
      _).after .same) fun _ _ h0 => (State.signalTrigger_foot _ _ _ _).after h0)))))) ((State.peerEvent_foot _ _
      _).after ((State.setOut_foot _ _ _).after .same))

theorem execScannerShutdown_foot (out : Nat) (s : State) : Within 0x73DDBFEB s (execScannerShutdown out s) :=
  ⟨_, rfl, .ite ((State.scannerStop_foot _ _ _ _ _).after .same) .same⟩

theorem State.tmpEvent_foot (s : State) (k event : Nat) (flag : Chan → Bool) (p : Nat → Bool) :
    Foot 0x73DDBFE9 s (s.tmpEvent k event flag p) := by
  unfold State.tmpEvent
  exact .each .same fun _ _ h0 => (State.raiseChan_foot _ _ _ _).after ((State.setTemps_foot _ _ _ _).after h0)

theorem execTemperatureLevel_foot (out level : Nat) (s : State) :
    Within 0x73DDBFEB s (execTemperatureLevel out level s) :=
  ⟨_, rfl, .ite (.ite ((State.tmpEvent_foot _ _ _ _ _).after ((State.setOut_foot _ _ _).after .same)) (.ite (by
    (try dsimp only)
    split
    · exact (State.scannerStop_foot _ _ _ _ _).after .same
    · exact .same) (.ite ((State.tmpEvent_foot _ _ _ _ _).after ((State.setOut_foot _ _ _).after .same)) .same)))
        .same⟩

theorem execScannerSelfCheck_foot (ok : Bool) (s : State) : Within 0x73DDBFE9 s (execScannerSelfCheck ok s) :=
  ⟨_, rfl, .ite ((State.begin__foot _ _ _ _).after (.scan .same)) (.ite ((State.condition_foot _ _ _).after (.scan
      .same)) .same)⟩

end Sys2Proof.Machine
end

