-- ==== Sys2Proof/Laws/FootButton.lean ====
section
/-! SUPPORT. Footprints of the state functions of Button.lean. -/
set_option Elab.async false
namespace Sys2Proof.Machine

theorem execPbNPress_foot (highMs heldMs : Nat) (s : State) : Within 0x1 s (execPbNPress highMs s heldMs) :=
  ⟨_, rfl, .ite ((State.wakeEvent_foot _ _).after (.ite (.power .same) .same)) (.ite (.power .same) .same)⟩

theorem execPbNRelease_foot (heldMs : Nat) (s : State) : Within 0x141 s (execPbNRelease heldMs s) :=
  ⟨_, rfl, .ite .same (.ite (.power .same) (.ite (.ite ((State.record_foot _ _ _ _).after (.host (.power .same)))
      (.power .same)) (.ite ((State.record_foot _ _ _ _).after (.power .same)) (.power .same))))⟩

theorem State.longPressBegins_foot (s : State) : Foot 0x30900D41 s s.longPressBegins := by
  unfold State.longPressBegins
  exact (State.settle_foot _).after (.each ((State.peerEvent_foot _ _ _).after ((State.record_foot _ _ _ _).after
      ((State.clearWanted_foot _).after ((State.dropShutdown_foot _).after (.power .same))))) fun _ _ h0 =>
      (State.orderStop_foot _ _ _).after h0)

theorem execLongPress_foot (s : State) : Within 0x3FFFFFFD s (execLongPress s) :=
  ⟨_, rfl, .ite (.ite (.power ((State.sleep_foot _ _).after (.power .same))) (.ite (.power
      ((State.longPressBegins_foot _).after (.power .same))) ((State.triggerIgnored_foot _ _).after (.power .same))))
      .same⟩

theorem execLongPressForceOff_foot (s : State) : Within 0x80D01 s (execLongPressForceOff s) :=
  ⟨_, rfl, .ite (.power ((State.record_foot _ _ _ _).after ((State.checkpoint_foot _ _).after (.each .same fun _ _ h0
      => .ite ((State.forceOut_foot _ _ _ _ _).after h0) h0)))) .same⟩

theorem execLongPressPowerDown_foot (afterUs : Nat) (s : State) :
    Within 0x1FFFFFFD s (execLongPressPowerDown afterUs s) :=
  ⟨_, rfl, .ite ((State.sleep_foot _ _).after .same) .same⟩

end Sys2Proof.Machine
end

