-- ==== Sys2Proof/Laws/FootChannel.lean ====
section
/-! SUPPORT. Footprints of the state functions of Channel.lean. -/
set_option Elab.async false
namespace Sys2Proof.Machine

/-- The waveform of Table 7-4 keeps the gates apart. -/
theorem periodDrive_apart (tOn rise fall : Nat) : (periodDrive tOn rise fall).Apart := by
  unfold periodDrive
  split
  · exact Drive.lowOn_apart
  · exact Drive.pulse_apart (Nat.le_add_right _ _)

theorem State.gates_foot (s : State) (ch : Nat) (d : Drive) (at_ : Nat)
    (hd : d.Apart := by
      first | exact Drive.off_apart | exact Drive.lowOn_apart | exact periodDrive_apart _ _ _) :
    Foot 0x400 s (s.gates ch d at_) := by
  unfold State.gates
  exact State.setChan_foot _ _ _ fun _ _ => hd

theorem State.endPulse_foot (s : State) (ch at_ : Nat) : Foot 0x400 s (s.endPulse ch at_) := by
  unfold State.endPulse
  refine State.setChan_foot _ _ _ fun c hc => ?_
  split
  · exact Drive.pulse_apart (Nat.le_add_right _ _)
  · exact hc

theorem State.chanTrigger_foot (s : State) (ch cond : Nat) : Foot 0x1000 s (s.chanTrigger ch cond) := by
  unfold State.chanTrigger
  exact (State.signalTrigger_foot _ _ _ _).after .same

theorem State.noteLimited_foot (s : State) (ch : Nat) : Foot 0x800 s (s.noteLimited ch) := by
  unfold State.noteLimited
  exact by
    (try dsimp only)
    split
    · exact (State.setOut_foot _ _ _).after .same
    · exact .same

theorem State.setEngine_foot (s : State) (ch : Nat) (f : Engine → Engine) : Foot 0x1000 s (s.setEngine ch f) := by
  unfold State.setEngine
  exact (State.setCluster_foot _ _ _).after .same

theorem State.dropReady_foot (s : State) (ch : Nat) : Foot 0x1000 s (s.dropReady ch) := by
  unfold State.dropReady
  exact (State.setEngine_foot _ _ _).after .same

theorem State.placeSample_foot (s : State) (ch : Nat) : Foot 0x400 s (s.placeSample ch) := by
  unfold State.placeSample
  exact (State.setChan_foot _ _ _).after .same

theorem State.beginPeriod_foot (s : State) (ch : Nat) (above : Bool) : Foot 0x1400 s (s.beginPeriod ch above) := by
  unfold State.beginPeriod
  exact .ite ((State.gates_foot _ _ _ _).after ((State.setChan_foot _ _ _).after .same)) (.ite
      ((State.chanTrigger_foot _ _ _).after ((State.gates_foot _ _ _ _).after ((State.setChan_foot _ _ _).after
      .same))) ((State.gates_foot _ _ _ _).after ((State.setChan_foot _ _ _).after .same)))

theorem execPeriodStart_foot (ch : Nat) (above late : Bool) (s : State) :
    Within 0x1400 s (execPeriodStart ch above s late) :=
  ⟨_, rfl, .ite (.ite ((State.placeSample_foot _ _).after ((State.beginPeriod_foot _ _ _).after
      ((State.dropReady_foot _ _).after ((State.setChan_foot _ _ _).after .same)))) ((State.dropReady_foot _ _).after
      ((State.setChan_foot _ _ _).after .same))) .same⟩

theorem execCurrentCut_foot (ch at_ : Nat) (s : State) : Within 0x1C00 s (execCurrentCut ch s at_) :=
  ⟨_, rfl, .ite ((State.noteLimited_foot _ _).after ((State.chanTrigger_foot _ _ _).after ((State.endPulse_foot _ _
      _).after ((State.setChan_foot _ _ _).after .same)))) .same⟩

theorem execSinkLimit_foot (ch : Nat) (current : Int) (at_ : Nat) (s : State) :
    Within 0x400 s (execSinkLimit ch current s at_) :=
  ⟨_, rfl, .ite ((State.gates_foot _ _ _ _).after .same) .same⟩

theorem execOvershoot_foot (ch at_ : Nat) (s : State) : Within 0x1400 s (execOvershoot ch s at_) :=
  ⟨_, rfl, .ite .same (.ite (.ite ((State.chanTrigger_foot _ _ _).after ((State.endPulse_foot _ _ _).after
      ((State.setChan_foot _ _ _).after .same))) .same) (.ite ((State.chanTrigger_foot _ _ _).after
      ((State.gates_foot _ _ _ _).after ((State.setChan_foot _ _ _).after .same))) .same))⟩

theorem State.releaseBrake_foot (s : State) (ch : Nat) : Foot 0x400 s (s.releaseBrake ch) := by
  unfold State.releaseBrake
  exact (State.gates_foot _ _ _ _).after ((State.setChan_foot _ _ _).after .same)

theorem execBrakeRelease_foot (ch : Nat) (below : Bool) (current : Int) (s : State) :
    Within 0x400 s (execBrakeRelease ch below s current) :=
  ⟨_, rfl, .ite (.ite ((State.setChan_foot _ _ _).after (.ite ((State.releaseBrake_foot _ _).after .same) .same))
      (.ite ((State.releaseBrake_foot _ _).after .same) .same)) .same⟩

theorem execBrakeTimeout_foot (ch at_ : Nat) (s : State) : Within 0x40001402 s (execBrakeTimeout ch s at_) :=
  ⟨_, rfl, .ite ((State.capsuleEvent_foot _ _ _).after ((State.setChan_foot _ _ _).after ((State.releaseBrake_foot _
      _).after .same))) .same⟩

theorem State.forceChannel_foot (s : State) (ch causeBit event code : Nat) (cap : Option Nat) :
    Foot 0x73DDBFEB s (s.forceChannel ch causeBit event code cap) := by
  unfold State.forceChannel
  exact by
    (try dsimp only)
    split
    · exact .ite ((State.settle_foot _).after ((State.phaseForced_foot _ _).after (.each ((State.chanFault_foot _ _ _
        _ _).after ((State.setChan_foot _ _ _).after .same)) fun _ _ h1 => (State.chanTrigger_foot _ _ _).after h1)))
        ((State.peerEvent_foot _ _ _).after (.each ((State.chanFault_foot _ _ _ _ _).after ((State.setChan_foot _ _
        _).after .same)) fun _ _ h1 => (State.setChan_foot _ _ _).after h1))
    · exact (State.chanFault_foot _ _ _ _ _).after ((State.setChan_foot _ _ _).after .same)

theorem execOvTrip_foot (ch : Nat) (s : State) : Within 0x73DDBFEB s (execOvTrip ch s) :=
  ⟨_, rfl, .ite ((State.forceChannel_foot _ _ _ _ _ _).after .same) .same⟩

theorem execFltN_foot (ch : Nat) (low : Bool) (s : State) : Within 0x73DDBFEB s (execFltN ch low s) :=
  ⟨_, rfl, .ite ((State.setChan_foot _ _ _).after .same) (.ite ((State.forceChannel_foot _ _ _ _ _ _).after
      ((State.condition_foot _ _ _).after ((State.setChan_foot _ _ _).after .same))) ((State.settle_foot _).after
      ((State.condition_foot _ _ _).after ((State.setChan_foot _ _ _).after .same))))⟩

theorem execOcpPersist_foot (ch : Nat) (s : State) : Within 0x73DDBFEB s (execOcpPersist ch s) :=
  ⟨_, rfl, .ite ((State.chanFault_foot _ _ _ _ _).after ((State.setChan_foot _ _ _).after .same)) .same⟩

end Sys2Proof.Machine
end

