-- ==== Sys2Proof/Laws/FootLoop.lean ====
section
/-! SUPPORT. Footprints of the state functions of Loop.lean. -/
set_option Elab.async false
namespace Sys2Proof.Machine

theorem State.applyChanFix_foot (s : State) (k ch : Nat) : Foot 0x100C00 s (s.applyChanFix k ch) := by
  unfold State.applyChanFix
  exact by
    (try dsimp only)
    split
    · exact .same
    · exact .sluice ((State.setChan_foot _ _ _).after (.ite ((State.setOut_foot _ _ _).after .same) .same))

theorem State.applyOutFix_foot (s : State) (k : Nat) : Foot 0x100800 s (s.applyOutFix k) := by
  unfold State.applyOutFix
  exact by
    (try dsimp only)
    split
    · exact .same
    · exact .sluice ((State.setOut_foot _ _ _).after .same)

theorem State.applyFix_foot (s : State) (k ch : Nat) : Foot 0x100C00 s (s.applyFix k ch) := by
  unfold State.applyFix
  exact .ite ((State.applyOutFix_foot _ _).after ((State.applyChanFix_foot _ _ _).after .same))
      ((State.applyChanFix_foot _ _ _).after .same)

theorem State.profileStep_foot (s : State) (k gaspNs : Nat) : Foot 0x800 s (s.profileStep k gaspNs) := by
  unfold State.profileStep
  exact .ite ((State.setOut_foot _ _ _).after .same) ((State.setOut_foot _ _ _).after .same)

theorem State.profileArrival_foot (s : State) (k : Nat) : Foot 0x3FFFFFFD s (s.profileArrival k) := by
  unfold State.profileArrival
  exact .ite ((State.advanceShutdown_foot _).after ((State.settle_foot _).after (.ite ((State.setOut_foot _ _
      _).after ((State.lowOutput_foot _ _ _).after .same)) ((State.setOut_foot _ _ _).after ((State.lowOutput_foot _
      _ _).after .same))))) .same

theorem State.rejection_foot (s : State) (k ch : Nat) (flag : Bool) : Foot 0x40001C02 s (s.rejection k ch flag).1 :=
    by
  unfold State.rejection
  exact .iteFst ((State.setChan_foot _ _ _).after ((State.setOut_foot _ _ _).after .same)) (.iteFst
      ((State.capsuleEvent_foot _ _ _).after ((State.chanTrigger_foot _ _ _).after ((State.setChan_foot _ _ _).after
      ((State.setOut_foot _ _ _).after .same)))) ((State.setOut_foot _ _ _).after .same))

theorem State.identCheck_foot (s : State) (k : Nat) (reason : Option Nat) : Foot 0x800 s (s.identCheck k reason) := by
  unfold State.identCheck
  exact by
    (try dsimp only)
    split
    · exact .ite ((State.setOut_foot _ _ _).after .same) .same
    · exact .same

theorem State.identChip_foot (s : State) (k tstamp : Nat) : Foot 0x800 s (s.identChip k tstamp) := by
  unfold State.identChip
  exact (State.setOut_foot _ _ _).after .same

theorem State.writeDuty_foot (s : State) (k ch : Nat) : Foot 0x400 s (s.writeDuty k ch) := by
  unfold State.writeDuty
  exact (State.setChan_foot _ _ _).after .same

theorem State.leadAccepted_foot (s : State) (k ch : Nat) (e : Int) (flag : Bool) (tstamp gaspNs : Nat) :
    Foot 0x73DDBFE9 s (s.leadAccepted k ch e flag tstamp gaspNs).1 := by
  unfold State.leadAccepted
  exact (State.setOut_foot _ _ _).after ((State.writeDuty_foot _ _ _).after (.each ((State.profileStep_foot _ _
      _).after ((State.identChip_foot _ _ _).after ((State.identCheck_foot _ _ _).after (.ite ((State.setChan_foot _
      _ _).after ((State.setOut_foot _ _ _).after .same)) ((State.setOut_foot _ _ _).after .same))))) fun _ _ h0 =>
      (State.refreshPhase_foot _ _ _).after h0))

theorem State.leadEval_foot (s : State) (k ch : Nat) (e : Int) (flag : Bool) (tstamp gaspNs : Nat) :
    Foot 0x73DDBFEB s (s.leadEval k ch e flag tstamp gaspNs).1 := by
  unfold State.leadEval
  exact .iteFst ((State.identCheck_foot _ _ _).after ((State.rejection_foot _ _ _ _).after .same))
      ((State.leadAccepted_foot _ _ _ _ _ _ _).after ((State.rejection_foot _ _ _ _).after .same))

theorem State.countEval_foot (s : State) (ch : Nat) (e current : Int) (shift : Nat) :
    Foot 0x400 s (s.countEval ch e current shift) := by
  unfold State.countEval
  exact (State.setChan_foot _ _ _).after .same

theorem State.evaluate_foot (s : State) (k ch : Nat) (code current : Int) (tstamp shift gaspNs : Nat) :
    Foot 0x7FFFFFFF s (s.evaluate k ch code current tstamp shift gaspNs) := by
  unfold State.evaluate
  exact .ite ((State.profileArrival_foot _ _).after ((State.traceWrite_foot _ _ _).after ((State.countEval_foot _ _ _
      _ _).after (.ite ((State.chanTrigger_foot _ _ _).after (.iteFst ((State.leadEval_foot _ _ _ _ _ _ _).after
      ((State.setChan_foot _ _ _).after ((State.applyFix_foot _ _ _).after (.ite ((State.swapBanks_foot _ _).after
      .same) .same)))) ((State.writeDuty_foot _ _ _).after ((State.setChan_foot _ _ _).after ((State.applyFix_foot _
      _ _).after (.ite ((State.swapBanks_foot _ _).after .same) .same)))))) (.iteFst ((State.leadEval_foot _ _ _ _ _
      _ _).after ((State.setChan_foot _ _ _).after ((State.applyFix_foot _ _ _).after (.ite ((State.swapBanks_foot _
      _).after .same) .same)))) ((State.writeDuty_foot _ _ _).after ((State.setChan_foot _ _ _).after
      ((State.applyFix_foot _ _ _).after (.ite ((State.swapBanks_foot _ _).after .same) .same)))))))))
      ((State.traceWrite_foot _ _ _).after ((State.countEval_foot _ _ _ _ _).after (.ite ((State.chanTrigger_foot _ _
      _).after (.iteFst ((State.leadEval_foot _ _ _ _ _ _ _).after ((State.setChan_foot _ _ _).after
      ((State.applyFix_foot _ _ _).after (.ite ((State.swapBanks_foot _ _).after .same) .same))))
      ((State.writeDuty_foot _ _ _).after ((State.setChan_foot _ _ _).after ((State.applyFix_foot _ _ _).after (.ite
      ((State.swapBanks_foot _ _).after .same) .same)))))) (.iteFst ((State.leadEval_foot _ _ _ _ _ _ _).after
      ((State.setChan_foot _ _ _).after ((State.applyFix_foot _ _ _).after (.ite ((State.swapBanks_foot _ _).after
      .same) .same)))) ((State.writeDuty_foot _ _ _).after ((State.setChan_foot _ _ _).after ((State.applyFix_foot _
      _ _).after (.ite ((State.swapBanks_foot _ _).after .same) .same))))))))

theorem State.serveSample_foot (s : State) (k : Nat) (x : Sample) : Foot 0x7FFFFFFF s (s.serveSample k x) := by
  unfold State.serveSample
  exact (State.evaluate_foot _ _ _ _ _ _ _ _).after ((State.setChan_foot _ _ _).after ((State.setEngine_foot _ _
      _).after .same))

theorem State.serveReady_foot (ch n : Nat) (s : State) : Foot 0x7FFFFFFF s (State.serveReady ch n s) := by
  induction n generalizing s with
  | zero => exact .same
  | succ n ih =>
    unfold State.serveReady
    split
    · split
      · exact (ih _).after (State.serveSample_foot _ _ _)
      · exact .same
    · exact .same

theorem execLoopEvaluation_foot (ch : Nat) (vsp vsn isp isn : Int) (gaspNs : Nat) (s : State) :
    Within 0x7FFFFFFF s (execLoopEvaluation ch vsp vsn isp isn gaspNs s) :=
  ⟨_, rfl, by
    (try dsimp only)
    split
    · exact .ite ((State.serveReady_foot _ _ _).after ((State.setEngine_foot _ _ _).after ((State.dropReady_foot _
        _).after .same))) .same
    · exact .same
⟩

theorem State.shareTerms_foot (s : State) (k : Nat) : Foot 0x400 s (s.shareTerms k) := by
  unfold State.shareTerms
  exact .ite (.each .same fun _ _ h0 => (State.setChan_foot _ _ _).after h0) .same

theorem State.estimate_foot (s : State) (k : Nat) : Foot 0x800 s (s.estimate k) := by
  unfold State.estimate
  exact (State.setOut_foot _ _ _).after .same

theorem State.accumulateOut_foot (s : State) (k : Nat) : Foot 0xC00 s (s.accumulateOut k) := by
  unfold State.accumulateOut
  exact .each ((State.estimate_foot _ _).after ((State.shareTerms_foot _ _).after (.each .same fun _ _ h0 =>
      (State.setChan_foot _ _ _).after h0))) fun _ _ h0 => (State.setChan_foot _ _ _).after h0

theorem State.clampPolder_foot (s : State) (cl q share : Nat) (sum : Int) :
    Foot 0x73DDBFE9 s (s.clampPolder cl q share sum) := by
  unfold State.clampPolder
  exact (State.setCluster_foot _ _ _).after (.each (.ite .same ((State.raise_foot _ _ _ _).after .same)) fun _ _ h0
      => .each ((State.setOut_foot _ _ _).after ((State.identCheck_foot _ _ _).after h0)) fun _ _ h1 =>
      (State.setChan_foot _ _ _).after h1)

theorem State.accumulatePolder_foot (s : State) (cl q : Nat) : Foot 0x73DDBFE9 s (s.accumulatePolder cl q) := by
  unfold State.accumulatePolder
  exact .ite ((State.clampPolder_foot _ _ _ _ _).after ((State.setCluster_foot _ _ _).after .same))
      ((State.setCluster_foot _ _ _).after .same)

theorem State.writeClamp_foot (s : State) (ch : Nat) : Foot 0x400 s (s.writeClamp ch) := by
  unfold State.writeClamp
  exact .ite ((State.setChan_foot _ _ _).after .same) .same

theorem execFreeboardAccumulation_foot (cl : Nat) (s : State) : Within 0x73DDBFE9 s (execFreeboardAccumulation cl s)
    :=
  ⟨_, rfl, .ite (.each (.each (.each .same fun _ _ h0 => .each h0 fun _ _ h1 => (State.writeClamp_foot _ _).after h1)
      fun _ _ h0 => (State.accumulateOut_foot _ _).after h0) fun _ _ h0 => (State.accumulatePolder_foot _ _ _).after
      h0) .same⟩

end Sys2Proof.Machine
end

