-- ==== Sys2Proof/Laws/FootIdent.lean ====
section
/-! SUPPORT. Footprints of the state functions of Ident.lean. -/
set_option Elab.async false
namespace Sys2Proof.Machine

theorem State.startIdent_foot (s : State) (k ampl pm gm large : Nat) (auto : Bool) :
    Foot 0x20100800 s (s.startIdent k ampl pm gm large auto) := by
  unfold State.startIdent
  exact .ite ((State.identCheck_foot _ _ _).after (.ite ((State.sendPeer_foot _ _ _).after ((State.setOut_foot _ _
      _).after .same)) ((State.setOut_foot _ _ _).after .same))) (.ite ((State.sendPeer_foot _ _ _).after
      ((State.setOut_foot _ _ _).after .same)) ((State.setOut_foot _ _ _).after .same))

theorem execIdentSchedule_foot (out : Nat) (s : State) : Within 0x20100800 s (execIdentSchedule out s) :=
  ⟨_, rfl, .ite ((State.startIdent_foot _ _ _ _ _ _ _).after ((State.setOut_foot _ _ _).after .same)) .same⟩

theorem execIdentRunEnd_foot (out : Nat) (s : State) : Within 0x40000900 s (execIdentRunEnd out s) :=
  ⟨_, rfl, .ite (.ite ((State.setOut_foot _ _ _).after ((State.used_foot _).after .same)) (.ite ((State.setOut_foot _
      _ _).after ((State.used_foot _).after .same)) (.ite ((State.setOut_foot _ _ _).after ((State.record_foot _ _ _
      _).after ((State.setOut_foot _ _ _).after ((State.used_foot _).after .same)))) ((State.record_foot _ _ _
      _).after ((State.setOut_foot _ _ _).after ((State.used_foot _).after .same)))))) .same⟩

theorem execChanIdent_foot (mb : Nat) (s : State) : Within 0x73DDBFE9 s (execChanIdent mb s) :=
  ⟨_, rfl, .runOrder .same fun _ _ h0 => .ite ((State.refuse_foot _ _ _).after h0) (.ite ((State.refuse_foot _ _
      _).after h0) (.ite ((State.refuse_foot _ _ _).after h0) ((State.reply_foot _ _ _ _).after
      ((State.startIdent_foot _ _ _ _ _ _ _).after h0))))⟩

theorem execChanIdresult_foot (mb : Nat) (s : State) : Within 0x73DDBFE9 s (execChanIdresult mb s) :=
  ⟨_, rfl, .runOrder .same fun _ _ h0 => .ite ((State.refuse_foot _ _ _).after h0) (.ite ((State.reply_foot _ _ _
      _).after h0) ((State.reply_foot _ _ _ _).after ((State.used_foot _).after h0)))⟩

theorem execChanApply_foot (mb : Nat) (s : State) : Within 0x73DDBFE9 s (execChanApply mb s) :=
  ⟨_, rfl, .runOrder .same fun _ _ h0 => .ite ((State.refuse_foot _ _ _).after h0) (.ite ((State.refuse_foot _ _
      _).after h0) (.ite ((State.refuse_foot _ _ _).after h0) (.ite ((State.refuse_foot _ _ _).after h0)
      ((State.wait_foot _ _ _).after ((State.setOut_foot _ _ _).after h0)))))⟩

theorem execChanIdabort_foot (mb : Nat) (s : State) : Within 0x73DDBFE9 s (execChanIdabort mb s) :=
  ⟨_, rfl, .runOrder .same fun _ _ h0 => .ite ((State.refuse_foot _ _ _).after h0) ((State.reply_foot _ _ _ _).after
      ((State.identCheck_foot _ _ _).after h0))⟩

end Sys2Proof.Machine
end

