-- ==== Sys2Proof/Laws/FootBudget.lean ====
section
/-! SUPPORT. Footprints of the state functions of Budget.lean. -/
set_option Elab.async false
namespace Sys2Proof.Machine

theorem State.applyCaps_foot (s : State) (ps : List CapPolder) (outs : List CapOut) :
    Foot 0x4800 s (s.applyCaps ps outs) := by
  unfold State.applyCaps
  exact .fold (.fold .same fun _ _ h0 => (State.setOut_foot _ _ _).after h0) fun _ _ h0 => (State.setPolder_foot _ _
      _).after h0

theorem State.releaseClamp_foot (s : State) (cl q : Nat) : Foot 0x1400 s (s.releaseClamp cl q) := by
  unfold State.releaseClamp
  exact (State.setCluster_foot _ _ _).after (.each .same fun _ _ h0 => .each h0 fun _ _ h1 => (State.setChan_foot _ _
      _).after h1)

theorem State.releaseClamps_foot (s : State) (ps : List CapPolder) (outs : List CapOut) :
    Foot 0x1400 s (s.releaseClamps ps outs) := by
  unfold State.releaseClamps
  exact .each .same fun _ _ h0 => .each h0 fun _ _ h1 => .ite ((State.releaseClamp_foot _ _ _).after h1) h1

theorem State.giveShares_foot (s : State) : Foot 0x1000 s s.giveShares := by
  unfold State.giveShares
  exact .each .same fun _ _ h0 => .each h0 fun _ _ h1 => (State.setCluster_foot _ _ _).after h1

theorem State.takeHardware_foot (s : State) : Foot 0x4000 s s.takeHardware := by
  unfold State.takeHardware
  exact .each .same fun _ _ h0 => .each h0 fun _ _ h1 => (State.setPolder_foot _ _ _).after h1

theorem State.seedLimited_foot (s : State) : Foot 0x800 s s.seedLimited := by
  unfold State.seedLimited
  exact .each .same fun _ _ h0 => .ite ((State.setOut_foot _ _ _).after h0) h0

theorem State.reckon_foot (s : State) : Foot 0xC000 s s.reckon := by
  unfold State.reckon
  exact .budget (.each .same fun _ _ h0 => (State.setPolder_foot _ _ _).after h0)

theorem State.takeLoads_foot (s : State) : Foot 0xC000 s s.takeLoads := by
  unfold State.takeLoads
  exact .budget (.each ((State.reckon_foot _).after .same) fun _ _ h0 => (State.setPolder_foot _ _ _).after h0)

theorem State.takeLimit_foot (s : State) : Foot 0x8000 s s.takeLimit := by
  unfold State.takeLimit
  exact .budget .same

theorem State.countDeficit_foot (s : State) (deficit : Bool) : Foot 0x8000 s (s.countDeficit deficit) := by
  unfold State.countDeficit
  exact by
    (try dsimp only)
    split
    · exact .budget .same
    · exact .budget .same

theorem State.countClear_foot (s : State) : Foot 0x4000 s s.countClear := by
  unfold State.countClear
  exact .each .same fun _ _ h0 => (State.setPolder_foot _ _ _).after h0

theorem State.capping_foot (s : State) (stale : List Nat) : Foot 0xDC00 s (s.capping stale) := by
  unfold State.capping
  exact (State.countClear_foot _).after ((State.countDeficit_foot _ _).after ((State.releaseClamps_foot _ _ _).after
      ((State.applyCaps_foot _ _ _).after (.fold ((State.takeHardware_foot _).after ((State.giveShares_foot _).after
      ((State.takeLimit_foot _).after .same))) fun _ _ h0 => (State.setPolder_foot _ _ _).after h0))))

theorem State.driveShedPins_foot (s : State) : Foot 0x8000 s s.driveShedPins := by
  unfold State.driveShedPins
  exact .ite .same (.budget .same)

theorem State.shedOut_foot (s : State) (k : Nat) : Foot 0xD00 s (s.shedOut k) := by
  unfold State.shedOut
  exact .ite ((State.setOut_foot _ _ _).after ((State.lowOutput_foot _ _ _).after .same)) (.ite
      ((State.stopRecord_foot _ _ _).after ((State.setOut_foot _ _ _).after .same)) .same)

theorem State.shedPolder_foot (s : State) (q : Nat) : Foot 0xCD00 s (s.shedPolder q) := by
  unfold State.shedPolder
  exact .ite .same ((State.settle_foot _).after ((State.record_foot _ _ _ _).after (.ite ((State.driveShedPins_foot
      _).after ((State.setPolder_foot _ _ _).after .same)) (.each ((State.driveShedPins_foot _).after
      ((State.setPolder_foot _ _ _).after .same)) fun _ _ h0 => (State.shedOut_foot _ _).after h0))))

theorem State.unshedOuts_foot (s : State) : Foot 0x800 s s.unshedOuts := by
  unfold State.unshedOuts
  exact (State.settle_foot _).after (.each .same fun _ _ h0 => (State.setOut_foot _ _ _).after h0)

theorem State.restorePolder_foot (s : State) (q : Nat) : Foot 0xC800 s (s.restorePolder q) := by
  unfold State.restorePolder
  exact (State.unshedOuts_foot _).after ((State.driveShedPins_foot _).after ((State.setPolder_foot _ _ _).after
      .same))

theorem State.addCause_foot (s : State) (q b : Nat) : Foot 0xCD00 s (s.addCause q b) := by
  unfold State.addCause
  exact (State.shedPolder_foot _ _).after ((State.setPolder_foot _ _ _).after .same)

theorem State.clearCause_foot (s : State) (q b : Nat) : Foot 0xC900 s (s.clearCause q b) := by
  unfold State.clearCause
  exact .ite ((State.restorePolder_foot _ _).after ((State.record_foot _ _ _ _).after ((State.setPolder_foot _ _
      _).after .same))) ((State.record_foot _ _ _ _).after ((State.setPolder_foot _ _ _).after .same))

theorem execDeficitShed_foot (s : State) : Within 0xCD00 s (execDeficitShed s) :=
  ⟨_, rfl, .ite (by
    (try dsimp only)
    split
    · exact (State.addCause_foot _ _ _).after ((State.setPolder_foot _ _ _).after (.budget .same))
    · exact .ite .same ((State.record_foot _ _ _ _).after (.budget .same))) .same⟩

theorem execDeficitClear_foot (s : State) : Within 0xC900 s (execDeficitClear s) :=
  ⟨_, rfl, .ite (by
    (try dsimp only)
    split
    · exact .ite ((State.clearCause_foot _ _ _).after (.budget .same)) .same
    · exact .same) .same⟩

theorem execRuntimeCauseClear_foot (s : State) : Within 0xC900 s (execRuntimeCauseClear s) :=
  ⟨_, rfl, .ite (by
    (try dsimp only)
    split
    · exact (State.clearCause_foot _ _ _).after (.budget .same)
    · exact .budget .same) .same⟩

theorem execRuntimePrediction_foot (s : State) : Within 0x40008100 s (execRuntimePrediction s) :=
  ⟨_, rfl, .ite (.ite (.budget ((State.used_foot _).after .same)) (by
    (try dsimp only)
    split
    · exact .ite ((State.record_foot _ _ _ _).after (.budget (.budget ((State.used_foot _).after .same)))) (.budget
        (.budget ((State.used_foot _).after .same)))
    · exact .budget (.budget ((State.used_foot _).after .same)))) .same⟩

theorem State.countAc_foot (s : State) : Foot 0x10000 s s.countAc := by
  unfold State.countAc
  exact .each .same fun _ _ h0 => (State.setRect_foot _ _ _).after h0

theorem State.beginRide_foot (s : State) : Foot 0x8000 s s.beginRide := by
  unfold State.beginRide
  exact .budget .same

theorem State.endRide_foot (s : State) : Foot 0x8000 s s.endRide := by
  unfold State.endRide
  exact .budget .same

theorem State.judgeAc_foot (s : State) : Foot 0x18100 s s.judgeAc := by
  unfold State.judgeAc
  exact .ite ((State.triggerIgnored_foot _ _).after (.budget (.budget ((State.countAc_foot _).after .same))))
      (.budget (.budget ((State.countAc_foot _).after .same)))

theorem State.rideStep_foot (s : State) : Foot 0x329C8FE1 s s.rideStep := by
  unfold State.rideStep
  exact .ite (.ite ((State.setMode_foot _ _ _ _).after (.ite ((State.beginRide_foot _).after .same) (.ite
      ((State.endRide_foot _).after .same) .same))) ((State.endRide_foot _).after (.ite ((State.beginRide_foot
      _).after .same) (.ite ((State.endRide_foot _).after .same) .same)))) (.ite ((State.setMode_foot _ _ _ _).after
      (.ite ((State.beginRide_foot _).after .same) (.ite ((State.endRide_foot _).after .same) .same))) (.ite
      ((State.beginRide_foot _).after .same) (.ite ((State.endRide_foot _).after .same) .same)))

theorem State.applyRuntime_foot (s : State) : Foot 0xCD00 s s.applyRuntime := by
  unfold State.applyRuntime
  exact .each (.budget .same) fun _ _ h0 => .ite h0 ((State.addCause_foot _ _ _).after h0)

theorem State.takeKept_foot (s : State) : Foot 0x8000 s s.takeKept := by
  unfold State.takeKept
  exact .budget .same

theorem execBudgetStatus_foot (mb : Nat) (s : State) : Within 0x73DDBFE9 s (execBudgetStatus mb s) :=
  ⟨_, rfl, .runOrder .same fun _ _ h0 => .ite ((State.refuse_foot _ _ _).after h0) ((State.replySealed_foot _ _
      _).after h0)⟩

theorem execBudgetShed_foot (mb : Nat) (s : State) : Within 0x73DDBFE9 s (execBudgetShed mb s) :=
  ⟨_, rfl, .runOrder .same fun _ _ h0 => .ite ((State.refuse_foot _ _ _).after h0) ((State.wait_foot _ _ _).after h0)⟩

theorem execBudgetRestore_foot (mb : Nat) (s : State) : Within 0x73DDBFE9 s (execBudgetRestore mb s) :=
  ⟨_, rfl, .runOrder .same fun _ _ h0 => .ite ((State.refuse_foot _ _ _).after h0) (.ite ((State.refuse_foot _ _
      _).after h0) ((State.wait_foot _ _ _).after h0))⟩

theorem State.budgetShedDone_foot (s : State) (mb m : Nat) : Foot 0x3090CD40 s (s.budgetShedDone mb m) := by
  unfold State.budgetShedDone
  exact (State.finish_foot _ _ _ _).after (.each .same fun _ _ h0 => (State.addCause_foot _ _ _).after h0)

theorem State.budgetRestoreDone_foot (s : State) (mb m : Nat) : Foot 0x3090C940 s (s.budgetRestoreDone mb m) := by
  unfold State.budgetRestoreDone
  exact (State.finish_foot _ _ _ _).after (.each .same fun _ _ h0 => (State.clearCause_foot _ _ _).after h0)

end Sys2Proof.Machine
end

