-- ==== Sys2Proof/Laws/FootRectifier.lean ====
section
/-! SUPPORT. Footprints of the state functions of Rectifier.lean. -/
set_option Elab.async false
namespace Sys2Proof.Machine

theorem State.unpark_foot (s : State) (k : Nat) : Foot 0x10000 s (s.unpark k) := by
  unfold State.unpark
  exact (State.setRect_foot _ _ _).after .same

theorem State.park_foot (s : State) (k : Nat) : Foot 0x10000 s (s.park k) := by
  unfold State.park
  exact (State.setRect_foot _ _ _).after .same

theorem State.unparkAll_foot (s : State) (l : List Nat) : Foot 0x10000 s (s.unparkAll l) := by
  unfold State.unparkAll
  exact .each .same fun _ _ h0 => (State.unpark_foot _ _).after h0

theorem State.planShort_foot (s : State) : Foot 0x30100 s s.planShort := by
  unfold State.planShort
  exact .plan (.ite ((State.unparkAll_foot _ _).after .same) ((State.record_foot _ _ _ _).after
      ((State.unparkAll_foot _ _).after .same)))

theorem State.planStaged_foot (s : State) (least : Nat) : Foot 0x30000 s (s.planStaged least) := by
  unfold State.planStaged
  exact .plan (.each .same fun _ _ h0 => (State.unpark_foot _ _).after h0)

theorem State.stagePlan_foot (s : State) : Foot 0x30100 s s.stagePlan := by
  unfold State.stagePlan
  exact .ite (.ite (.plan ((State.unparkAll_foot _ _).after ((State.unparkAll_foot _ _).after (.plan .same))))
      ((State.planShort_foot _).after ((State.unparkAll_foot _ _).after ((State.unparkAll_foot _ _).after (.plan
      .same))))) (by
    (try dsimp only)
    split
    · exact (State.planShort_foot _).after ((State.unparkAll_foot _ _).after (.plan .same))
    · exact (State.planStaged_foot _ _).after ((State.unparkAll_foot _ _).after (.plan .same)))

theorem State.learnRect_foot (s : State) (k : Nat) : Foot 0x10000 s (s.learnRect k) := by
  unfold State.learnRect
  exact .ite ((State.setRect_foot _ _ _).after .same) .same

theorem State.planTide_foot (s : State) : Foot 0x30000 s s.planTide := by
  unfold State.planTide
  exact .plan (.each .same fun _ _ h0 => (State.setRect_foot _ _ _).after ((State.learnRect_foot _ _).after h0))

theorem execPark_foot (s : State) : Within 0x30000 s (execPark s) :=
  ⟨_, rfl, .ite (by
    (try dsimp only)
    split
    · exact .plan ((State.park_foot _ _).after .same)
    · exact .same) .same⟩

theorem State.rankAll_foot (s : State) : Foot 0x10000 s s.rankAll := by
  unfold State.rankAll
  exact .each .same fun _ _ h0 => (State.setRect_foot _ _ _).after h0

theorem State.swapBegin_foot (s : State) : Foot 0x30000 s s.swapBegin := by
  unfold State.swapBegin
  exact by
    (try dsimp only)
    split
    · exact .ite (.plan ((State.unpark_foot _ _).after .same)) (.plan .same)
    · exact .plan .same

theorem State.swapEnd_foot (s : State) (p : Nat) : Foot 0x30000 s (s.swapEnd p) := by
  unfold State.swapEnd
  exact .ite (by
    (try dsimp only)
    split
    · exact .plan ((State.park_foot _ _).after (.plan .same))
    · exact .plan .same) (.plan .same)

theorem State.rotateBegin_foot (s : State) : Foot 0x30000 s s.rotateBegin := by
  unfold State.rotateBegin
  exact (State.swapBegin_foot _).after (.plan ((State.rankAll_foot _).after .same))

theorem execRotation_foot (s : State) : Within 0x30000 s (execRotation s) :=
  ⟨_, rfl, .ite (by
    (try dsimp only)
    split
    · exact .ite .same ((State.swapEnd_foot _ _).after .same)
    · exact .ite .same ((State.swapBegin_foot _).after .same)) (.ite ((State.rotateBegin_foot _).after .same) .same)⟩

theorem execUnparkTimeout_foot (rect : Nat) (s : State) : Within 0x10000 s (execUnparkTimeout rect s) :=
  ⟨_, rfl, .ite ((State.setRect_foot _ _ _).after .same) .same⟩

theorem State.stagingRecord_foot (s : State) (k : Nat) : Foot 0x100 s (s.stagingRecord k) := by
  unfold State.stagingRecord
  exact (State.record_foot _ _ _ _).after .same

theorem execStagingRecord_foot (s : State) : Within 0x20100 s (execStagingRecord s) :=
  ⟨_, rfl, .ite (.each (.plan .same) fun _ _ h0 => (State.stagingRecord_foot _ _).after h0) .same⟩

theorem State.restoreStaging_foot (s : State) (p : Bytes) : Foot 0x10000 s (s.restoreStaging p) := by
  unfold State.restoreStaging
  exact (State.setRect_foot _ _ _).after .same

theorem State.rectReport_foot (s : State) (k : Nat) (iOut : Int) (vOut : Nat) (pIn : Int) (acLost outputOn fault :
    Bool) :
    Foot 0x10000 s (s.rectReport k iOut vOut pIn acLost outputOn fault) := by
  unfold State.rectReport
  exact (State.setRect_foot _ _ _).after .same

theorem State.rectMissed_foot (s : State) (k : Nat) : Foot 0x10000 s (s.rectMissed k) := by
  unfold State.rectMissed
  exact (State.setRect_foot _ _ _).after .same

theorem State.rectJoin_foot (s : State) (k : Nat) : Foot 0x10000 s (s.rectJoin k) := by
  unfold State.rectJoin
  exact (State.setRect_foot _ _ _).after .same

theorem State.rectLeave_foot (s : State) (k : Nat) : Foot 0x10000 s (s.rectLeave k) := by
  unfold State.rectLeave
  exact (State.setRect_foot _ _ _).after .same

theorem State.commandRect_foot (s : State) (dem adj : Int) (total k : Nat) :
    Foot 0x10000 s (s.commandRect dem adj total k) := by
  unfold State.commandRect
  exact (State.setRect_foot _ _ _).after .same

theorem State.shareEngine_foot (s : State) (iSh iBt : Int) : Foot 0x40030000 s (s.shareEngine iSh iBt) := by
  unfold State.shareEngine
  exact (State.used_foot _).after (.each (.plan .same) fun _ _ h0 => (State.commandRect_foot _ _ _ _ _).after h0)

theorem State.legacyCommand_foot (s : State) (k : Nat) (readI : Int) : Foot 0x40010000 s (s.legacyCommand k readI) :=
    by
  unfold State.legacyCommand
  exact (State.used_foot _).after ((State.setRect_foot _ _ _).after .same)

theorem execRectStatus_foot (mb : Nat) (s : State) : Within 0x73DDBFE9 s (execRectStatus mb s) :=
  ⟨_, rfl, .runOrder .same fun _ _ h0 => .ite ((State.refuse_foot _ _ _).after h0) ((State.replySealed_foot _ _
      _).after h0)⟩

theorem execRectWithdraw_foot (mb : Nat) (s : State) : Within 0x73DDBFE9 s (execRectWithdraw mb s) :=
  ⟨_, rfl, .runOrderWith .same fun _ _ h0 => .ite ((State.refuse_foot _ _ _).after h0) (.ite ((State.refuse_foot _ _
      _).after h0) ((State.wait_foot _ _ _).after h0))⟩

theorem State.rectWithdrawDone_foot (s : State) (mb m action : Nat) :
    Foot 0x30910040 s (s.rectWithdrawDone mb m action) := by
  unfold State.rectWithdrawDone
  exact .ite ((State.finish_foot _ _ _ _).after .same) ((State.finish_foot _ _ _ _).after (.each .same fun _ _ h0 =>
      (State.setRect_foot _ _ _).after h0))

theorem execRectRotate_foot (mb : Nat) (s : State) : Within 0x73DDBFE9 s (execRectRotate mb s) :=
  ⟨_, rfl, .runOrder .same fun _ _ h0 => .ite ((State.refuse_foot _ _ _).after h0) (.ite ((State.refuse_foot _ _
      _).after h0) ((State.wait_foot _ _ _).after h0))⟩

theorem State.rectRotateDone_foot (s : State) (mb : Nat) : Foot 0x30930040 s (s.rectRotateDone mb) := by
  unfold State.rectRotateDone
  exact .ite ((State.finish_foot _ _ _ _).after .same) ((State.finish_foot _ _ _ _).after (.ite .same
      ((State.rotateBegin_foot _).after .same)))

theorem execRectForget_foot (mb : Nat) (s : State) : Within 0x73DDBFE9 s (execRectForget mb s) :=
  ⟨_, rfl, .runOrderWith .same fun _ _ h0 => .ite ((State.refuse_foot _ _ _).after h0) ((State.wait_foot _ _ _).after
      h0)⟩

theorem State.rectForgetDone_foot (s : State) (mb m : Nat) : Foot 0x30910040 s (s.rectForgetDone mb m) := by
  unfold State.rectForgetDone
  exact (State.finish_foot _ _ _ _).after (.each .same fun _ _ h0 => (State.setRect_foot _ _ _).after h0)

end Sys2Proof.Machine
end

