-- ==== Sys2Proof/Laws/FootGauge.lean ====
section
/-! SUPPORT. Footprints of the state functions of Gauge.lean. -/
set_option Elab.async false
namespace Sys2Proof.Machine

theorem State.assignConvs_foot (s : State) : Foot 0x80000 s s.assignConvs := by
  unfold State.assignConvs
  exact .each .same fun _ _ h0 => (State.setConv_foot _ _ _).after h0

theorem State.readRaws_foot (s : State) (raws : List Int) (ovr clk : Nat) :
    Foot 0x80000 s (s.readRaws raws ovr clk) := by
  unfold State.readRaws
  exact .each (.gauge .same) fun _ _ h0 => .ite (by
        (try dsimp only)
        split
        · exact (State.setConv_foot _ _ _).after h0
        · exact h0) h0

theorem State.latchBeacon_foot (s : State) : Foot 0x80000 s s.latchBeacon := by
  unfold State.latchBeacon
  exact .each .same fun _ _ h0 => (State.setConv_foot _ _ _).after h0

theorem State.latchTide_foot (s : State) : Foot 0x80000 s s.latchTide := by
  unfold State.latchTide
  exact .each .same fun _ _ h0 => (State.setConv_foot _ _ _).after h0

theorem State.raiseGauge_foot (s : State) (k old new : Nat) : Foot 0x73DDBFE9 s (s.raiseGauge k old new) := by
  unfold State.raiseGauge
  exact .each .same fun _ _ h0 => (State.raise_foot _ _ _ _).after h0

theorem State.shuntTide_foot (s : State) : Foot 0x73DDBFE9 s s.shuntTide := by
  unfold State.shuntTide
  exact .gauge (.each .same fun _ _ h0 => (State.raiseGauge_foot _ _ _ _).after (.gauge h0))

theorem State.report_foot (s : State) (k : Nat) : Foot 0x80000 s (s.report k) := by
  unfold State.report
  exact (State.setString_foot _ _ _).after .same

theorem State.jump_foot (s : State) (k old new cause : Nat) : Foot 0x80100 s (s.jump k old new cause) := by
  unfold State.jump
  exact .ite .same ((State.record_foot _ _ _ _).after ((State.setString_foot _ _ _).after .same))

theorem State.limits_foot (s : State) (k : Nat) : Foot 0x80000 s (s.limits k) := by
  unfold State.limits
  exact .ite .same (.ite ((State.setString_foot _ _ _).after .same) ((State.setString_foot _ _ _).after .same))

theorem State.takeCycle_foot (s : State) (k : Nat) : Foot 0x80000 s (s.takeCycle k).1 := by
  unfold State.takeCycle
  exact (State.setConv_foot _ _ _).after .same

theorem State.measureString_foot (s : State) (k : Nat) (c : CycleIn) : Foot 0x73DDBFE9 s (s.measureString k c) := by
  unfold State.measureString
  exact (State.raiseGauge_foot _ _ _ _).after ((State.setString_foot _ _ _).after ((State.setString_foot _ _ _).after
      .same))

theorem State.moduleDifference_foot (s : State) (k : Nat) (i : Int) : Foot 0x80100 s (s.moduleDifference k i) := by
  unfold State.moduleDifference
  exact .ite (.ite ((State.record_foot _ _ _ _).after ((State.setString_foot _ _ _).after .same))
      ((State.setString_foot _ _ _).after .same)) ((State.setString_foot _ _ _).after .same)

theorem State.restStep_foot (s : State) (k : Nat) (i : Int) : Foot 0x80000 s (s.restStep k i) := by
  unfold State.restStep
  exact (State.setString_foot _ _ _).after .same

theorem State.learnFull_foot (s : State) (k : Nat) : Foot 0x80000 s (s.learnFull k) := by
  unfold State.learnFull
  exact .ite .same ((State.setString_foot _ _ _).after .same)

theorem State.advanceFilter_foot (s : State) (k : Nat) (c : CycleIn) : Foot 0x73DDBFE9 s (s.advanceFilter k c) := by
  unfold State.advanceFilter
  exact (State.jump_foot _ _ _ _ _).after ((State.report_foot _ _).after (.ite ((State.learnFull_foot _ _).after
      (.ite ((State.raiseGauge_foot _ _ _ _).after ((State.setString_foot _ _ _).after ((State.setString_foot _ _
      _).after ((State.restStep_foot _ _ _).after .same)))) ((State.setString_foot _ _ _).after ((State.restStep_foot
      _ _ _).after .same)))) (.ite ((State.raiseGauge_foot _ _ _ _).after ((State.setString_foot _ _ _).after
      ((State.setString_foot _ _ _).after ((State.restStep_foot _ _ _).after .same)))) ((State.setString_foot _ _
      _).after ((State.restStep_foot _ _ _).after .same)))))

theorem State.anchor_foot (s : State) (k : Nat) (q : Int) : Foot 0x80000 s (s.anchor k q) := by
  unfold State.anchor
  exact (State.setString_foot _ _ _).after .same

theorem State.fullAnchor_foot (s : State) (k : Nat) (i : Int) : Foot 0x80000 s (s.fullAnchor k i) := by
  unfold State.fullAnchor
  exact .ite ((State.setString_foot _ _ _).after ((State.anchor_foot _ _ _).after ((State.setString_foot _ _ _).after
      .same))) ((State.setString_foot _ _ _).after .same)

theorem State.emptyAnchor_foot (s : State) (k : Nat) (i : Int) : Foot 0x80000 s (s.emptyAnchor k i) := by
  unfold State.emptyAnchor
  exact .ite ((State.anchor_foot _ _ _).after ((State.setString_foot _ _ _).after ((State.setString_foot _ _ _).after
      .same))) ((State.setString_foot _ _ _).after .same)

theorem State.advanceTable_foot (s : State) (k : Nat) (c : CycleIn) : Foot 0x80100 s (s.advanceTable k c) := by
  unfold State.advanceTable
  exact (State.jump_foot _ _ _ _ _).after ((State.report_foot _ _).after ((State.emptyAnchor_foot _ _ _).after
      ((State.fullAnchor_foot _ _ _).after ((State.setString_foot _ _ _).after ((State.restStep_foot _ _ _).after
      .same)))))

theorem State.insertString_foot (s : State) (k : Nat) (i : Int) (reseed : Bool) :
    Foot 0x80100 s (s.insertString k i reseed) := by
  unfold State.insertString
  exact .ite ((State.report_foot _ _).after ((State.setString_foot _ _ _).after ((State.setString_foot _ _ _).after
      .same))) ((State.record_foot _ _ _ _).after ((State.report_foot _ _).after ((State.setString_foot _ _ _).after
      ((State.setString_foot _ _ _).after .same))))

theorem State.removeString_foot (s : State) (k : Nat) : Foot 0x80000 s (s.removeString k) := by
  unfold State.removeString
  exact (State.setString_foot _ _ _).after .same

theorem State.cycleString_foot (s : State) (k : Nat) : Foot 0x73DDBFE9 s (s.cycleString k) := by
  unfold State.cycleString
  exact (State.setConv_foot _ _ _).after ((State.setString_foot _ _ _).after ((State.limits_foot _ _).after (.ite
      ((State.removeString_foot _ _).after (.ite ((State.setString_foot _ _ _).after ((State.moduleDifference_foot _
      _ _).after ((State.measureString_foot _ _ _).after ((State.takeCycle_foot _ _).after .same))))
      ((State.moduleDifference_foot _ _ _).after ((State.measureString_foot _ _ _).after ((State.takeCycle_foot _
      _).after .same))))) (.ite ((State.insertString_foot _ _ _ _).after (.ite ((State.setString_foot _ _ _).after
      ((State.moduleDifference_foot _ _ _).after ((State.measureString_foot _ _ _).after ((State.takeCycle_foot _
      _).after .same)))) ((State.moduleDifference_foot _ _ _).after ((State.measureString_foot _ _ _).after
      ((State.takeCycle_foot _ _).after .same))))) (.ite ((State.setString_foot _ _ _).after (.ite
      ((State.setString_foot _ _ _).after ((State.moduleDifference_foot _ _ _).after ((State.measureString_foot _ _
      _).after ((State.takeCycle_foot _ _).after .same)))) ((State.moduleDifference_foot _ _ _).after
      ((State.measureString_foot _ _ _).after ((State.takeCycle_foot _ _).after .same))))) (.ite
      ((State.setString_foot _ _ _).after (.ite ((State.advanceTable_foot _ _ _).after (.ite ((State.setString_foot _
      _ _).after ((State.moduleDifference_foot _ _ _).after ((State.measureString_foot _ _ _).after
      ((State.takeCycle_foot _ _).after .same)))) ((State.moduleDifference_foot _ _ _).after
      ((State.measureString_foot _ _ _).after ((State.takeCycle_foot _ _).after .same))))) ((State.advanceFilter_foot
      _ _ _).after (.ite ((State.setString_foot _ _ _).after ((State.moduleDifference_foot _ _ _).after
      ((State.measureString_foot _ _ _).after ((State.takeCycle_foot _ _).after .same))))
      ((State.moduleDifference_foot _ _ _).after ((State.measureString_foot _ _ _).after ((State.takeCycle_foot _
      _).after .same))))))) (.ite ((State.setString_foot _ _ _).after ((State.moduleDifference_foot _ _ _).after
      ((State.measureString_foot _ _ _).after ((State.takeCycle_foot _ _).after .same))))
      ((State.moduleDifference_foot _ _ _).after ((State.measureString_foot _ _ _).after ((State.takeCycle_foot _
      _).after .same))))))))))

theorem State.cycleShunt_foot (s : State) (k : Nat) : Foot 0x80000 s (s.cycleShunt k) := by
  unfold State.cycleShunt
  exact (State.setConv_foot _ _ _).after (.gauge ((State.takeCycle_foot _ _).after .same))

theorem State.batteryReport_foot (s : State) (k : Nat) (body : Bytes) : Foot 0x80000 s (s.batteryReport k body) := by
  unfold State.batteryReport
  exact .ite ((State.wakeGauge_foot _ _ _).after ((State.setString_foot _ _ _).after .same)) ((State.setString_foot _
      _ _).after .same)

theorem State.batteryMissed_foot (s : State) (k : Nat) : Foot 0x73DDBFE9 s (s.batteryMissed k) := by
  unfold State.batteryMissed
  exact (State.raiseGauge_foot _ _ _ _).after ((State.setString_foot _ _ _).after .same)

theorem State.fromCkpt_foot (s : State) (k : Nat) (p : Bytes) : Foot 0x80000 s (s.fromCkpt k p) := by
  unfold State.fromCkpt
  exact (State.setString_foot _ _ _).after ((State.setString_foot _ _ _).after .same)

theorem State.moveCharge_foot (s : State) (k : Nat) (q : Int) : Foot 0x80000 s (s.moveCharge k q) := by
  unfold State.moveCharge
  exact (State.setString_foot _ _ _).after .same

theorem State.awaitInsert_foot (s : State) (k : Nat) : Foot 0x80000 s (s.awaitInsert k) := by
  unfold State.awaitInsert
  exact (State.setString_foot _ _ _).after .same

theorem State.restorePath_foot (s : State) (k : Nat) (h p : Bytes) : Foot 0x80000 s (s.restorePath k h p) := by
  unfold State.restorePath
  exact .ite ((State.setConv_foot _ _ _).after ((State.fromCkpt_foot _ _ _).after .same)) (.ite
      ((State.awaitInsert_foot _ _).after ((State.setString_foot _ _ _).after ((State.fromCkpt_foot _ _ _).after
      .same))) (.ite ((State.setString_foot _ _ _).after ((State.fromCkpt_foot _ _ _).after .same)) (.ite
      ((State.setString_foot _ _ _).after ((State.moveCharge_foot _ _ _).after ((State.fromCkpt_foot _ _ _).after
      .same))) ((State.setString_foot _ _ _).after ((State.moveCharge_foot _ _ _).after ((State.fromCkpt_foot _ _
      _).after .same))))))

theorem State.restoreString_foot (s : State) (k : Nat) (h : Bytes) (l : List Bytes) :
    Foot 0x80100 s (s.restoreString k h l) := by
  unfold State.restoreString
  exact by
    (try dsimp only)
    split
    · exact (State.awaitInsert_foot _ _).after .same
    · exact .ite ((State.restorePath_foot _ _ _ _).after .same) ((State.jump_foot _ _ _ _ _).after
        ((State.report_foot _ _).after ((State.restorePath_foot _ _ _ _).after .same)))

theorem State.restoreGauge_foot (s : State) : Foot 0x80100 s s.restoreGauge := by
  unfold State.restoreGauge
  exact .each (by
    (try dsimp only)
    split
    · exact .gauge .same
    · exact .same) fun _ _ h0 => by
        (try dsimp only)
        split
        · exact (State.restoreString_foot _ _ _ _).after h0
        · exact (State.awaitInsert_foot _ _).after h0

end Sys2Proof.Machine
end

