-- ==== Sys2Proof/Laws/FootGaugeRows.lean ====
section
/-! SUPPORT. Footprints of the state functions of GaugeRows.lean. -/
set_option Elab.async false
namespace Sys2Proof.Machine

theorem State.pairRaws_foot (s : State) : Foot 0x80000 s s.pairRaws := by
  unfold State.pairRaws
  exact .each .same fun _ _ h0 => (State.setConv_foot _ _ _).after h0

theorem execGaugeCycle_foot (s : State) : Within 0x73DDBFE9 s (execGaugeCycle s) :=
  ⟨_, rfl, .ite (.ite ((State.pairRaws_foot _).after (.gauge .same)) (.ite ((State.checkpoint_foot _ _).after (.gauge
      (.each (.each (.gauge .same) fun _ _ h0 => (State.cycleString_foot _ _).after h0) fun _ _ h0 =>
      (State.cycleShunt_foot _ _).after h0))) (.gauge (.each (.each (.gauge .same) fun _ _ h0 =>
      (State.cycleString_foot _ _).after h0) fun _ _ h0 => (State.cycleShunt_foot _ _).after h0)))) .same⟩

theorem execHibernationEntry_foot (rtcNs : Nat) (s : State) : Within 0x80002 s (execHibernationEntry rtcNs s) :=
  ⟨_, rfl, .ite (.gauge (.each ((State.rtcRuns_foot _ _).after .same) fun _ _ h0 => (State.setConv_foot _ _ _).after
      h0)) .same⟩

theorem execGaugeComparatorWake_foot (str rtcNs : Nat) (s : State) :
    Within 0x80003 s (execGaugeComparatorWake str rtcNs s) :=
  ⟨_, rfl, .ite (.ite ((State.wakeEvent_foot _ _).after ((State.wakeGauge_foot _ _ _).after (.gauge
      ((State.rtcRuns_foot _ _).after .same)))) ((State.wakeGauge_foot _ _ _).after (.gauge ((State.rtcRuns_foot _
      _).after .same)))) .same⟩

theorem State.dropFromProbe_foot (s : State) (k : Nat) : Foot 0x80000 s (s.dropFromProbe k) := by
  unfold State.dropFromProbe
  exact by
    (try dsimp only)
    split
    · exact .ite (.gauge ((State.setString_foot _ _ _).after .same)) .same
    · exact .same

theorem execStringInsertion_foot (str : Nat) (s : State) : Within 0x80000 s (execStringInsertion str s) :=
  ⟨_, rfl, .ite ((State.dropFromProbe_foot _ _).after ((State.setString_foot _ _ _).after .same)) .same⟩

theorem execStringRemoval_foot (str : Nat) (s : State) : Within 0x80100 s (execStringRemoval str s) :=
  ⟨_, rfl, .ite ((State.record_foot _ _ _ _).after ((State.removeString_foot _ _).after ((State.dropFromProbe_foot _
      _).after .same))) .same⟩

theorem State.startProbe_foot (s : State) (strings ampl cycles : Nat) (ns : List Nat) (auto : Bool) :
    Foot 0x80000 s (s.startProbe strings ampl cycles ns auto) := by
  unfold State.startProbe
  exact .gauge (.each ((State.wakeGauge_foot _ _ _).after .same) fun _ _ h0 => (State.setString_foot _ _ _).after h0)

theorem State.probeTick_foot (s : State) : Foot 0xC0000 s s.probeTick := by
  unfold State.probeTick
  dsimp only
  exact by
    (try dsimp only)
    split
    · exact .same
    · exact by
        (try dsimp only)
        split
        · exact .same
        · exact .ite (.ite ((State.endProbe_foot _ _).after (.each .same fun _ _ h2 => (State.dropFromProbe_foot _
            _).after h2)) (.update (.each .same fun _ _ h2 => (State.dropFromProbe_foot _ _).after h2))) (.update
            (.each .same fun _ _ h2 => (State.dropFromProbe_foot _ _).after h2))

theorem State.probeGuard_foot (s : State) : Foot 0xC0000 s s.probeGuard := by
  unfold State.probeGuard
  exact .ite (.ite ((State.endProbe_foot _ _).after .same) (.ite ((State.endProbe_foot _ _).after .same) .same)) .same

theorem State.probePoint_foot (s : State) (p : Probe) (k n : Nat) : Foot 0x80100 s (s.probePoint p k n) := by
  unfold State.probePoint
  exact (State.record_foot _ _ _ _).after ((State.setString_foot _ _ _).after .same)

theorem State.probeDone_foot (s : State) (p : Probe) (k : Nat) : Foot 0x80000 s (s.probeDone p k) := by
  unfold State.probeDone
  exact by
    (try dsimp only)
    split
    · exact .ite ((State.setString_foot _ _ _).after ((State.setString_foot _ _ _).after .same))
        ((State.setString_foot _ _ _).after .same)
    · exact (State.setString_foot _ _ _).after .same

theorem execProbeFrequencyEnd_foot (s : State) : Within 0x400C0100 s (execProbeFrequencyEnd s) := by
  unfold execProbeFrequencyEnd
  refine ⟨_, rfl, ?_⟩
  dsimp only
  exact by
    (try dsimp only)
    split
    · exact .same
    · exact by
        (try dsimp only)
        split
        · exact .same
        · exact .ite (.ite (.update (.each ((State.used_foot _).after (.each .same fun _ _ h2 =>
            (State.probePoint_foot _ _ _ _).after h2)) fun _ _ h2 => (State.probeDone_foot _ _ _).after h2)) (.gauge
            ((State.used_foot _).after (.each .same fun _ _ h2 => (State.probePoint_foot _ _ _ _).after h2)))) .same

theorem execProbeSchedule_foot (s : State) : Within 0x80000 s (execProbeSchedule s) :=
  ⟨_, rfl, .ite ((State.startProbe_foot _ _ _ _ _ _).after .same) .same⟩

theorem execGaugeStatus_foot (mb : Nat) (s : State) : Within 0x73DDBFE9 s (execGaugeStatus mb s) :=
  ⟨_, rfl, .runOrder .same fun _ _ h0 => .ite ((State.refuse_foot _ _ _).after h0) ((State.replySealed_foot _ _
      _).after h0)⟩

theorem execGaugeProbe_foot (mb : Nat) (s : State) : Within 0x73DDBFE9 s (execGaugeProbe mb s) :=
  ⟨_, rfl, .runOrder .same fun _ _ h0 => .ite ((State.refuse_foot _ _ _).after h0) (.ite ((State.refuse_foot _ _
      _).after h0) (.ite ((State.refuse_foot _ _ _).after h0) ((State.wait_foot _ _ _).after h0)))⟩

theorem State.gaugeProbeDone_foot (s : State) (mb strings ampl cycles : Nat) (ns : List Nat) :
    Foot 0x30980040 s (s.gaugeProbeDone mb strings ampl cycles ns) := by
  unfold State.gaugeProbeDone
  exact .ite ((State.finish_foot _ _ _ _).after .same) (.ite ((State.finish_foot _ _ _ _).after .same)
      ((State.finish_foot _ _ _ _).after ((State.startProbe_foot _ _ _ _ _ _).after .same)))

theorem execGaugeProberesult_foot (mb : Nat) (s : State) : Within 0x73DDBFE9 s (execGaugeProberesult mb s) :=
  ⟨_, rfl, .runOrder .same fun _ _ h0 => .ite ((State.refuse_foot _ _ _).after h0) ((State.reply_foot _ _ _ _).after
      h0)⟩

theorem execGaugeAbort_foot (mb : Nat) (s : State) : Within 0x73DDBFE9 s (execGaugeAbort mb s) :=
  ⟨_, rfl, .runOrder .same fun _ _ h0 => .ite ((State.refuse_foot _ _ _).after h0) ((State.wait_foot _ _ _).after h0)⟩

theorem execGaugeWake_foot (mb : Nat) (s : State) : Within 0x73DDBFE9 s (execGaugeWake mb s) :=
  ⟨_, rfl, .runOrder .same fun _ _ h0 => .ite ((State.refuse_foot _ _ _).after h0) ((State.wait_foot _ _ _).after h0)⟩

theorem execGaugeReseed_foot (mb : Nat) (s : State) : Within 0x73DDBFE9 s (execGaugeReseed mb s) :=
  ⟨_, rfl, .runOrder .same fun _ _ h0 => .ite ((State.refuse_foot _ _ _).after h0) ((State.wait_foot _ _ _).after h0)⟩

theorem State.markFull_foot (s : State) (k : Nat) : Foot 0x80100 s (s.markFull k) := by
  unfold State.markFull
  exact (State.jump_foot _ _ _ _ _).after ((State.report_foot _ _).after ((State.setString_foot _ _ _).after .same))

theorem State.reseedString_foot (s : State) (action k : Nat) : Foot 0x80100 s (s.reseedString action k) := by
  unfold State.reseedString
  exact .ite .same (.ite ((State.setString_foot _ _ _).after .same) (.ite ((State.markFull_foot _ _).after .same)
      ((State.setString_foot _ _ _).after .same)))

theorem State.gaugeReseedDone_foot (s : State) (mb strings action : Nat) :
    Foot 0x30980140 s (s.gaugeReseedDone mb strings action) := by
  unfold State.gaugeReseedDone
  exact (State.finish_foot _ _ _ _).after (.each .same fun _ _ h0 => (State.reseedString_foot _ _ _).after h0)

end Sys2Proof.Machine
end

