-- ==== Sys2Proof/Laws/FootTideline.lean ====
section
/-! SUPPORT. Footprints of the state functions of Tideline.lean. -/
set_option Elab.async false
namespace Sys2Proof.Machine

theorem State.queueDown_foot (s : State) (first : Bool) (b : Bytes) (ks : Option Nat) :
    Foot 0x40000 s (s.queueDown first b ks) := by
  unfold State.queueDown
  exact .tide .same

theorem State.freeNode_foot (s : State) (n : Nat) : Foot 0xD0000 s (s.freeNode n) := by
  unfold State.freeNode
  exact .ite (by
    (try dsimp only)
    split
    · exact (State.rectLeave_foot _ _).after ((State.setNode_foot _ _ _).after .same)
    · exact (State.setNode_foot _ _ _).after .same) (by
    (try dsimp only)
    split
    · exact (State.setString_foot _ _ _).after ((State.setNode_foot _ _ _).after .same)
    · exact (State.setNode_foot _ _ _).after .same)

theorem State.strangerSeen_foot (s : State) (symbols : Nat) (cycles : List Nat) :
    Foot 0x40000 s (s.strangerSeen symbols cycles) := by
  unfold State.strangerSeen
  exact .tide .same

theorem State.recUp_foot (s : State) : Foot 0x40000 s s.recUp := by
  unfold State.recUp
  exact .tide .same

theorem State.endPair_foot (s : State) : Foot 0x73DDBFE9 s s.endPair := by
  unfold State.endPair
  exact .ite ((State.begin__foot _ _ _ _).after (.tide (.tide .same))) (.tide .same)

theorem State.sendDown_foot (s : State) : Foot 0x20040000 s s.sendDown := by
  unfold State.sendDown
  exact by
    (try dsimp only)
    split
    · exact .same
    · exact (State.send_foot _ _).after (.tide .same)

theorem State.sendBeacon_foot (s : State) (i : Nat) : Foot 0x20040000 s (s.sendBeacon i) := by
  unfold State.sendBeacon
  exact .tide (.ite ((State.send_foot _ _).after ((State.send_foot _ _).after (.tide .same))) (.ite
      ((State.sendDown_foot _).after ((State.send_foot _ _).after (.tide .same))) ((State.send_foot _ _).after (.tide
      .same))))

theorem State.countCycle_foot (s : State) : Foot 0x40000 s s.countCycle := by
  unfold State.countCycle
  exact .tide .same

theorem State.countEnergy_foot (s : State) (i stray stray6 hits : Nat) :
    Foot 0x40000 s (s.countEnergy i stray stray6 hits) := by
  unfold State.countEnergy
  exact .tide (.ite ((State.strangerSeen_foot _ _ _).after .same) .same)

theorem State.tideCycle_foot (s : State) (i stray stray6 hits : Nat) :
    Foot 0x73DDBFE9 s (s.tideCycle i stray stray6 hits) := by
  unfold State.tideCycle
  exact (State.countEnergy_foot _ _ _ _ _).after ((State.countCycle_foot _).after (.ite ((State.sendBeacon_foot _
      _).after (.ite ((State.endPair_foot _).after .same) .same)) (.tide (.ite ((State.endPair_foot _).after .same)
      .same))))

theorem execBeaconCycleStart_foot (raws : List Int) (ovr clk stray stray6 hits : Nat) (s : State) :
    Within 0x73DFBFE9 s (execBeaconCycleStart raws ovr clk stray stray6 hits s) :=
  ⟨_, rfl, .ite (.ite ((State.tideCycle_foot _ _ _ _ _).after (.ite ((State.shareEngine_foot _ _ _).after (.tide
      ((State.probeTick_foot _).after ((State.latchBeacon_foot _).after ((State.readRaws_foot _ _ _ _).after
      .same))))) (.tide ((State.probeTick_foot _).after ((State.latchBeacon_foot _).after ((State.readRaws_foot _ _ _
      _).after .same)))))) (.ite ((State.shareEngine_foot _ _ _).after (.tide ((State.probeTick_foot _).after
      ((State.latchBeacon_foot _).after ((State.readRaws_foot _ _ _ _).after .same))))) (.tide ((State.probeTick_foot
      _).after ((State.latchBeacon_foot _).after ((State.readRaws_foot _ _ _ _).after .same)))))) .same⟩

theorem State.applyReport_foot (s : State) (n kind : Nat) (body : Bytes) :
    Foot 0x90000 s (s.applyReport n kind body) := by
  unfold State.applyReport
  exact .ite (by
    (try dsimp only)
    split
    · exact (State.rectReport_foot _ _ _ _ _ _ _ _).after .same
    · exact .same) (.ite (by
    (try dsimp only)
    split
    · exact (State.batteryReport_foot _ _ _).after .same
    · exact .same) .same)

theorem State.takeSnr_foot (s : State) (n : Nat) (snr : Int) : Foot 0x40000 s (s.takeSnr n snr) := by
  unfold State.takeSnr
  exact .ite ((State.setNode_foot _ _ _).after .same) (.ite ((State.setNode_foot _ _ _).after .same)
      ((State.queueDown_foot _ _ _ _).after ((State.setNode_foot _ _ _).after ((State.setNode_foot _ _ _).after
      .same))))

theorem State.joinComplete_foot (s : State) (n : Nat) : Foot 0x50100 s (s.joinComplete n) := by
  unfold State.joinComplete
  exact by
    (try dsimp only)
    split
    · exact (State.rectJoin_foot _ _).after ((State.record_foot _ _ _ _).after ((State.setNode_foot _ _ _).after
        .same))
    · exact (State.record_foot _ _ _ _).after ((State.setNode_foot _ _ _).after .same)

theorem State.slotVerified_foot (s : State) (n : Nat) (f : SlotReport) : Foot 0xD0100 s (s.slotVerified n f) := by
  unfold State.slotVerified
  exact (State.applyReport_foot _ _ _ _).after ((State.takeSnr_foot _ _ _).after (.ite (.ite
      ((State.joinComplete_foot _ _).after ((State.setNode_foot _ _ _).after (.tide .same))) ((State.setNode_foot _ _
      _).after (.tide .same))) ((State.setNode_foot _ _ _).after (.tide .same))))

theorem State.slotMissed_foot (s : State) (n : Nat) : Foot 0x73DDBFE9 s (s.slotMissed n) := by
  unfold State.slotMissed
  exact .ite .same (.ite (by
    (try dsimp only)
    split
    · exact (State.rectMissed_foot _ _).after ((State.setNode_foot _ _ _).after .same)
    · exact (State.setNode_foot _ _ _).after .same) (by
    (try dsimp only)
    split
    · exact (State.batteryMissed_foot _ _).after ((State.setNode_foot _ _ _).after .same)
    · exact (State.setNode_foot _ _ _).after .same))

theorem State.slotDecoded_foot (s : State) (slot : Nat) (f : SlotReport) :
    Foot 0x73DDBFE9 s (s.slotDecoded slot f) := by
  unfold State.slotDecoded
  exact by
    (try dsimp only)
    split
    · exact .ite ((State.slotVerified_foot _ _ _).after .same) (.ite ((State.raise_foot _ _ _ _).after
        ((State.strangerSeen_foot _ _ _).after ((State.slotMissed_foot _ _).after .same))) ((State.strangerSeen_foot
        _ _ _).after ((State.slotMissed_foot _ _).after .same)))
    · exact (State.strangerSeen_foot _ _ _).after .same

theorem execSlotFrame_foot (slot : Nat) (frame : Option SlotReport) (energy : Bool) (s : State) :
    Within 0x73DDBFE9 s (execSlotFrame slot frame energy s) :=
  ⟨_, rfl, .ite (by
    (try dsimp only)
    split
    · exact (State.slotDecoded_foot _ _ _).after (.ite (.tide .same) .same)
    · exact by
        (try dsimp only)
        split
        · exact (State.slotMissed_foot _ _).after (.ite ((State.recUp_foot _).after (.ite (.tide .same) .same)) (.ite
            (.tide .same) .same))
        · exact .ite ((State.strangerSeen_foot _ _ _).after (.ite ((State.recUp_foot _).after (.ite (.tide .same)
            .same)) (.ite (.tide .same) .same))) (.ite ((State.recUp_foot _).after (.ite (.tide .same) .same)) (.ite
            (.tide .same) .same))) .same⟩

theorem State.joinNak_foot (s : State) (q : JoinReq) (reason : Nat) : Foot 0x40100 s (s.joinNak q reason) := by
  unfold State.joinNak
  exact (State.queueDown_foot _ _ _ _).after ((State.record_foot _ _ _ _).after .same)

theorem State.joinAccept_foot (s : State) (q : JoinReq) (kRoot slot : Nat) :
    Foot 0x40040000 s (s.joinAccept q kRoot slot) := by
  unfold State.joinAccept
  exact (State.queueDown_foot _ _ _ _).after ((State.setNode_foot _ _ _).after ((State.used_foot _).after .same))

theorem State.joinVerified_foot (s : State) (q : JoinReq) (kRoot : Nat) :
    Foot 0x73DDBFE9 s (s.joinVerified q kRoot) := by
  unfold State.joinVerified
  exact .ite ((State.joinNak_foot _ _ _).after .same) (.ite ((State.joinNak_foot _ _ _).after .same) (.ite
      ((State.joinNak_foot _ _ _).after .same) (.ite ((State.joinAccept_foot _ _ _ _).after .same) (by
    (try dsimp only)
    split
    · exact (State.joinAccept_foot _ _ _ _).after .same
    · exact (State.raise_foot _ _ _ _).after ((State.joinNak_foot _ _ _).after .same)))))

theorem execJoinReq_foot (frame : Bytes) (s : State) : Within 0x73DDBFE9 s (execJoinReq frame s) :=
  ⟨_, rfl, .ite (by
    (try dsimp only)
    split
    · exact (State.strangerSeen_foot _ _ _).after .same
    · exact .ite ((State.joinVerified_foot _ _ _).after .same) ((State.raise_foot _ _ _ _).after
        ((State.strangerSeen_foot _ _ _).after .same))) .same⟩

theorem execJoinVoid_foot (node : Nat) (s : State) : Within 0xD0000 s (execJoinVoid node s) :=
  ⟨_, rfl, .ite ((State.freeNode_foot _ _).after .same) .same⟩

theorem execTidelineEvent_foot (frame : Bytes) (s : State) : Within 0x40000 s (execTidelineEvent frame s) :=
  ⟨_, rfl, .ite (.ite (.ite ((State.queueDown_foot _ _ _ _).after ((State.setNode_foot _ _ _).after .same))
      ((State.setNode_foot _ _ _).after .same)) ((State.strangerSeen_foot _ _ _).after .same)) .same⟩

theorem execCommonAlarm_foot (frame : Bytes) (s : State) : Within 0x73DDBFE9 s (execCommonAlarm frame s) :=
  ⟨_, rfl, .ite (.ite (.ite ((State.wakeGauge_foot _ _ _).after ((State.raise_foot _ _ _ _).after (.ite (.tide .same)
      .same))) ((State.raise_foot _ _ _ _).after (.ite (.tide .same) .same))) ((State.strangerSeen_foot _ _ _).after
      .same)) .same⟩

theorem execNodeAlarm_foot (frame : Bytes) (s : State) : Within 0x73DDBFE9 s (execNodeAlarm frame s) :=
  ⟨_, rfl, .ite (.ite (.ite ((State.raise_foot _ _ _ _).after ((State.setNode_foot _ _ _).after ((State.raise_foot _
      _ _ _).after (.tide .same)))) ((State.raise_foot _ _ _ _).after (.tide .same))) ((State.strangerSeen_foot _ _
      _).after .same)) .same⟩

theorem execStrangerClear_foot (s : State) : Within 0x40000 s (execStrangerClear s) :=
  ⟨_, rfl, .ite (.tide .same) .same⟩

theorem execLostSleeper_foot (node : Nat) (s : State) : Within 0x73DDBFE9 s (execLostSleeper node s) :=
  ⟨_, rfl, .ite ((State.raise_foot _ _ _ _).after ((State.record_foot _ _ _ _).after (.tide ((State.setNode_foot _ _
      _).after .same)))) .same⟩

theorem execWideBeaconEnd_foot (s : State) : Within 0x40000 s (execWideBeaconEnd s) :=
  ⟨_, rfl, .ite (.each (.tide .same) fun _ _ h0 => (State.setNode_foot _ _ _).after h0) .same⟩

theorem execSleeperFree_foot (node : Nat) (s : State) : Within 0x400D0100 s (execSleeperFree node s) :=
  ⟨_, rfl, by
    (try dsimp only)
    split
    · exact .ite ((State.used_foot _).after ((State.record_foot _ _ _ _).after ((State.freeNode_foot _ _).after
        .same))) .same
    · exact .same
⟩

theorem execControllerQuietEnd_foot (s : State) : Within 0x40200 s (execControllerQuietEnd s) :=
  ⟨_, rfl, .ite ((State.condition_foot _ _ _).after (.tide .same)) .same⟩

theorem State.tidelineTide_foot (s : State) : Foot 0x73DDBFE9 s s.tidelineTide := by
  unfold State.tidelineTide
  exact .ite (.tide .same) (.ite ((State.begin__foot _ _ _ _).after (.ite ((State.condition_foot _ _ _).after (.ite
      ((State.begin__foot _ _ _ _).after (.ite ((State.begin__foot _ _ _ _).after (.ite (.tide .same)
      ((State.record_foot _ _ _ _).after (.tide .same)))) ((State.condition_foot _ _ _).after (.tide .same))))
      ((State.condition_foot _ _ _).after (.ite ((State.begin__foot _ _ _ _).after (.ite (.tide .same)
      ((State.record_foot _ _ _ _).after (.tide .same)))) ((State.condition_foot _ _ _).after (.tide .same))))))
      ((State.begin__foot _ _ _ _).after (.ite ((State.begin__foot _ _ _ _).after (.ite ((State.begin__foot _ _ _
      _).after (.ite (.tide .same) ((State.record_foot _ _ _ _).after (.tide .same)))) ((State.condition_foot _ _
      _).after (.tide .same)))) ((State.condition_foot _ _ _).after (.ite ((State.begin__foot _ _ _ _).after (.ite
      (.tide .same) ((State.record_foot _ _ _ _).after (.tide .same)))) ((State.condition_foot _ _ _).after (.tide
      .same)))))))) ((State.condition_foot _ _ _).after (.ite ((State.condition_foot _ _ _).after (.ite
      ((State.begin__foot _ _ _ _).after (.ite ((State.begin__foot _ _ _ _).after (.ite (.tide .same)
      ((State.record_foot _ _ _ _).after (.tide .same)))) ((State.condition_foot _ _ _).after (.tide .same))))
      ((State.condition_foot _ _ _).after (.ite ((State.begin__foot _ _ _ _).after (.ite (.tide .same)
      ((State.record_foot _ _ _ _).after (.tide .same)))) ((State.condition_foot _ _ _).after (.tide .same))))))
      ((State.begin__foot _ _ _ _).after (.ite ((State.begin__foot _ _ _ _).after (.ite ((State.begin__foot _ _ _
      _).after (.ite (.tide .same) ((State.record_foot _ _ _ _).after (.tide .same)))) ((State.condition_foot _ _
      _).after (.tide .same)))) ((State.condition_foot _ _ _).after (.ite ((State.begin__foot _ _ _ _).after (.ite
      (.tide .same) ((State.record_foot _ _ _ _).after (.tide .same)))) ((State.condition_foot _ _ _).after (.tide
      .same)))))))))

theorem execTideStatus_foot (mb : Nat) (s : State) : Within 0x73DDBFE9 s (execTideStatus mb s) :=
  ⟨_, rfl, .runOrder .same fun _ _ h0 => .ite ((State.refuse_foot _ _ _).after h0) ((State.reply_foot _ _ _ _).after
      h0)⟩

theorem execTideNodes_foot (mb : Nat) (s : State) : Within 0x73DDBFE9 s (execTideNodes mb s) :=
  ⟨_, rfl, .runOrder .same fun _ _ h0 => .ite ((State.refuse_foot _ _ _).after h0) ((State.used_foot _).after
      ((State.reply_foot _ _ _ _).after h0))⟩

theorem execTideRootinstall_foot (mb : Nat) (s : State) : Within 0x73DDBFE9 s (execTideRootinstall mb s) :=
  ⟨_, rfl, .runOrder .same fun _ _ h0 => .ite ((State.refuse_foot _ _ _).after h0) (.ite ((State.refuse_foot _ _
      _).after h0) (.ite ((State.refuse_foot _ _ _).after h0) ((State.wait_foot _ _ _).after h0)))⟩

theorem State.rootInstalled_foot (s : State) (w : Waiting) (key : Nat) : Foot 0x30940140 s (s.rootInstalled w key) :=
    by
  unfold State.rootInstalled
  exact (State.finish_foot _ _ _ _).after ((State.record_foot _ _ _ _).after (.tide .same))

theorem execTideEvict_foot (mb : Nat) (s : State) : Within 0x73DDBFE9 s (execTideEvict mb s) :=
  ⟨_, rfl, .runOrder .same fun _ _ h0 => .ite ((State.refuse_foot _ _ _).after h0) ((State.reply_foot _ _ _ _).after
      ((State.freeNode_foot _ _).after ((State.record_foot _ _ _ _).after ((State.queueDown_foot _ _ _ _).after
      h0))))⟩

end Sys2Proof.Machine
end

