-- ==== Sys2Proof/Laws/FootDescribe.lean ====
section
/-! SUPPORT. Footprints of the state functions of Describe.lean. -/
set_option Elab.async false
namespace Sys2Proof.Machine

theorem State.withDescription_foot (s : State) (t : Tab (Option Int)) : Foot 0x80 s (s.withDescription t) := by
  unfold State.withDescription
  exact .desc .same

end Sys2Proof.Machine
end

