-- ==== Sys2Proof/Laws/FootDescRows.lean ====
section
/-! SUPPORT. Footprints of the state functions of DescRows.lean. -/
set_option Elab.async false
namespace Sys2Proof.Machine

theorem State.judgeDiverged_foot (s : State) : Foot 0x80 s s.judgeDiverged := by
  unfold State.judgeDiverged
  exact .desc .same

theorem execObjGet_foot (mb : Nat) (s : State) : Within 0x73DDBFE9 s (execObjGet mb s) :=
  ⟨_, rfl, .runOrder .same fun _ _ h0 => .ite ((State.refuse_foot _ _ _).after h0) (.ite ((State.refuse_foot _ _
      _).after h0) (.ite ((State.replySealed_foot _ _ _).after h0) ((State.reply_foot _ _ _ _).after h0)))⟩

theorem State.rejectEntry_foot (s : State) (q : Req) (i : Nat) : Foot 0x73DDBFE9 s (s.rejectEntry q i) := by
  unfold State.rejectEntry
  exact (State.reply_foot _ _ _ _).after .same

theorem State.setLive_foot (s : State) (q : Req) (es : List Entry) : Foot 0x73DDBFE9 s (s.setLive q es) := by
  unfold State.setLive
  exact by
    (try dsimp only)
    split
    · exact (State.rejectEntry_foot _ _ _).after .same
    · exact (State.wait_foot _ _ _).after .same

theorem State.setStaged_foot (s : State) (q : Req) (es : List Entry) : Foot 0x73DDBFE9 s (s.setStaged q es) := by
  unfold State.setStaged
  exact .ite ((State.refuse_foot _ _ _).after .same) ((State.reply_foot _ _ _ _).after (.desc .same))

theorem execObjSet_foot (mb : Nat) (s : State) : Within 0x73DDBFE9 s (execObjSet mb s) :=
  ⟨_, rfl, .runOrderWith .same fun _ _ h0 => .ite ((State.refuse_foot _ _ _).after h0) (.ite ((State.rejectEntry_foot
      _ _ _).after h0) (by
        (try dsimp only)
        split
        · exact (State.reply_foot _ _ _ _).after h0
        · exact (State.refuse_foot _ _ _).after h0
        · exact .ite ((State.setStaged_foot _ _ _).after h0) ((State.setLive_foot _ _ _).after h0)))⟩

theorem execObjBegin_foot (mb : Nat) (s : State) : Within 0x73DDBFE9 s (execObjBegin mb s) :=
  ⟨_, rfl, .runOrder .same fun _ _ h0 => .ite ((State.refuse_foot _ _ _).after h0) (.ite ((State.refuse_foot _ _
      _).after h0) ((State.reply_foot _ _ _ _).after (.desc h0)))⟩

theorem execObjValidate_foot (mb : Nat) (s : State) : Within 0x73DDBFE9 s (execObjValidate mb s) :=
  ⟨_, rfl, .runOrder .same fun _ _ h0 => .ite ((State.refuse_foot _ _ _).after h0) ((State.reply_foot _ _ _ _).after
      h0)⟩

theorem State.beginCommit_foot (s : State) : Foot 0x80 s s.beginCommit := by
  unfold State.beginCommit
  exact .desc .same

theorem execObjCommit_foot (mb : Nat) (s : State) : Within 0x73DDBFE9 s (execObjCommit mb s) :=
  ⟨_, rfl, .runOrder .same fun _ _ h0 => .ite ((State.refuse_foot _ _ _).after h0) (.ite ((State.reply_foot _ _ _
      _).after h0) (.ite ((State.refuse_foot _ _ _).after h0) (.ite ((State.reply_foot _ _ _ _).after h0)
      ((State.wait_foot _ _ _).after ((State.beginCommit_foot _).after h0)))))⟩

theorem execObjAbort_foot (mb : Nat) (s : State) : Within 0x73DDBFE9 s (execObjAbort mb s) :=
  ⟨_, rfl, .runOrder .same fun _ _ h0 => .ite ((State.refuse_foot _ _ _).after h0) (.ite ((State.refuse_foot _ _
      _).after h0) (.ite ((State.refuse_foot _ _ _).after h0) ((State.reply_foot _ _ _ _).after
      ((State.closeEdit_foot _).after h0))))⟩

theorem State.loadFault_foot (s : State) (q : Req) (detail obj field : Nat) :
    Foot 0x73DDBFE9 s (s.loadFault q detail obj field) := by
  unfold State.loadFault
  exact (State.reply_foot _ _ _ _).after (.desc .same)

theorem State.stageImage_foot (s : State) (q : Req) (b : Bytes) : Foot 0x73DDBFE9 s (s.stageImage q b) := by
  unfold State.stageImage
  exact .ite ((State.refuse_foot _ _ _).after (.desc .same)) (by
    (try dsimp only)
    split
    · exact (State.loadFault_foot _ _ _ _ _).after .same
    · exact (State.reply_foot _ _ _ _).after (.desc .same))

theorem execObjLoad_foot (mb : Nat) (s : State) : Within 0x73DDBFE9 s (execObjLoad mb s) :=
  ⟨_, rfl, .runOrder .same fun _ _ h0 => .ite ((State.refuse_foot _ _ _).after h0) (.ite ((State.reply_foot _ _ _
      _).after h0) (.ite ((State.refuse_foot _ _ _).after h0) (.ite ((State.loadFault_foot _ _ _ _ _).after h0) (.ite
      ((State.stageImage_foot _ _ _).after h0) ((State.reply_foot _ _ _ _).after (.desc h0))))))⟩

theorem execObjExport_foot (mb : Nat) (s : State) : Within 0x73DDBFE9 s (execObjExport mb s) :=
  ⟨_, rfl, .runOrder .same fun _ _ h0 => .ite ((State.refuse_foot _ _ _).after h0) (by
        (try dsimp only)
        split
        · exact (State.refuse_foot _ _ _).after h0
        · exact .ite ((State.refuse_foot _ _ _).after h0) ((State.reply_foot _ _ _ _).after h0))⟩

theorem State.copyAlwaysOn_foot (s : State) (staged : Nat → Bool) : Foot 0x2 s (s.copyAlwaysOn staged) := by
  unfold State.copyAlwaysOn
  exact .retained .same

theorem State.reseed_foot (s : State) (ch : Nat) : Foot 0x400 s (s.reseed ch) := by
  unfold State.reseed
  exact (State.setChan_foot _ _ _).after .same

theorem State.outChanged_foot (s : State) (keys : List Nat) (k : Nat) : Foot 0xC00 s (s.outChanged keys k) := by
  unfold State.outChanged
  exact .each (.ite ((State.setOut_foot _ _ _).after (.ite ((State.setOut_foot _ _ _).after .same) .same)) (.ite
      ((State.setOut_foot _ _ _).after .same) .same)) fun _ _ h0 => .ite ((State.setTrip_foot _ _ _).after (.ite
      ((State.stageBank_foot _ _ _).after h0) h0)) (.ite ((State.stageBank_foot _ _ _).after h0) h0)

theorem State.enableOut_foot (s : State) (k : Nat) : Foot 0x800 s (s.enableOut k) := by
  unfold State.enableOut
  exact .ite ((State.want_foot _ _).after ((State.setOut_foot _ _ _).after .same)) ((State.setOut_foot _ _ _).after
      .same)

theorem State.disableOut_foot (s : State) (k : Nat) : Foot 0xD00 s (s.disableOut k) := by
  unfold State.disableOut
  exact (State.orderStop_foot _ _ _).after ((State.setOut_foot _ _ _).after .same)

theorem State.objectsLeave_foot (s : State) (old new : Tab (Option Int)) :
    Foot 0x890000 s (s.objectsLeave old new) := by
  unfold State.objectsLeave
  exact .each (.each (.each (.each .same fun _ _ h0 => (State.rectLeave_foot _ _).after h0) fun _ _ h0 =>
      (State.removeString_foot _ _).after h0) fun _ _ h0 => (State.setTwDev_foot _ _ _).after h0) fun _ _ h0 =>
      (State.setSensor_foot _ _ _).after h0

theorem State.recapture_foot (s : State) (outs : List Nat) : Foot 0x1000 s (s.recapture outs) := by
  unfold State.recapture
  exact .each .same fun _ _ h0 => .ite ((State.defaultCapture_foot _ _).after h0) h0

theorem State.changeDescription_foot (s : State) (new : Tab (Option Int)) (staged : Nat → Bool) :
    Foot 0x1DD1D97 s (s.changeDescription new staged) := by
  unfold State.changeDescription
  exact (State.settle_foot _).after (.ite (.each (.each (.each (.each ((State.assignConvs_foot _).after
      ((State.objectsLeave_foot _ _ _).after (.clocks (.ite ((State.powerDomains_foot _ _).after
      ((State.copyAlwaysOn_foot _ _).after ((State.withDescription_foot _ _).after .same))) ((State.copyAlwaysOn_foot
      _ _).after ((State.withDescription_foot _ _).after .same)))))) fun _ _ h0 => (State.reseed_foot _ _).after h0)
      fun _ _ h0 => (State.enableOut_foot _ _).after h0) fun _ _ h0 => (State.disableOut_foot _ _).after h0) fun _ _
      h0 => (State.outChanged_foot _ _ _).after h0) ((State.recapture_foot _ _).after (.each (.each (.each (.each
      ((State.assignConvs_foot _).after ((State.objectsLeave_foot _ _ _).after (.clocks (.ite
      ((State.powerDomains_foot _ _).after ((State.copyAlwaysOn_foot _ _).after ((State.withDescription_foot _
      _).after .same))) ((State.copyAlwaysOn_foot _ _).after ((State.withDescription_foot _ _).after .same)))))) fun
      _ _ h0 => (State.reseed_foot _ _).after h0) fun _ _ h0 => (State.enableOut_foot _ _).after h0) fun _ _ h0 =>
      (State.disableOut_foot _ _).after h0) fun _ _ h0 => (State.outChanged_foot _ _ _).after h0)))

theorem State.sendDesc_foot (s : State) (b : Bytes) : Foot 0x20100000 s (s.sendDesc b) := by
  unfold State.sendDesc
  exact .fold .same fun _ _ h0 => (State.sendPeer_foot _ _ _).after h0

theorem State.rewait_foot (s : State) (mb : Nat) (what : WaitKind) : Foot 0x10000000 s (s.rewait mb what) := by
  unfold State.rewait
  exact .waiting .same

theorem State.commitStored_foot (s : State) (mb : Nat) (ok : Bool) : Foot 0x309000C0 s (s.commitStored mb ok) := by
  unfold State.commitStored
  exact .ite (.ite ((State.rewait_foot _ _ _).after ((State.sendDesc_foot _ _).after (.desc .same)))
      ((State.rewait_foot _ _ _).after (.desc .same))) (by
    (try dsimp only)
    split
    · exact .ite ((State.finish_foot _ _ _ _).after (.desc .same)) ((State.closeEdit_foot _).after
        ((State.finish_foot _ _ _ _).after (.desc .same)))
    · exact (State.finish_foot _ _ _ _).after (.desc .same))

theorem State.commitApply_foot (s : State) (w : Waiting) : Foot 0x11DD1D97 s (s.commitApply w) := by
  unfold State.commitApply
  exact (State.rewait_foot _ _ _).after ((State.record_foot _ _ _ _).after (.desc ((State.changeDescription_foot _ _
      _).after .same)))

theorem State.commitDone_foot (s : State) (mb : Nat) (ok : Bool) : Foot 0x309000C0 s (s.commitDone mb ok) := by
  unfold State.commitDone
  exact (State.respond_foot _ _ _ _ _).after ((State.unwait_foot _ _).after (.desc .same))

theorem State.appliedRetry_foot (s : State) (ok : Bool) : Foot 0x80 s (s.appliedRetry ok) := by
  unfold State.appliedRetry
  exact by
    (try dsimp only)
    split
    · exact .ite (.desc .same) .same
    · exact .same

theorem State.liveSetDone_foot (s : State) (mb : Nat) (l : List (Nat × Int)) :
    Foot 0x31DD1DD7 s (s.liveSetDone mb l) := by
  unfold State.liveSetDone
  exact .ite ((State.finish_foot _ _ _ _).after ((State.changeDescription_foot _ _ _).after .same))
      ((State.finish_foot _ _ _ _).after .same)

theorem State.loadDescription_foot (s : State) : Foot 0x80D86 s s.loadDescription := by
  unfold State.loadDescription
  exact .clocks (.each ((State.assignConvs_foot _).after ((State.copyAlwaysOn_foot _ _).after ((State.record_foot _ _
      _ _).after (by
    (try dsimp only)
    split
    · exact .desc .same
    · exact .ite (.desc .same) (.desc .same))))) fun _ _ h0 => .each ((State.setOut_foot _ _ _).after h0) fun _ _ h1
        => (State.setTrip_foot _ _ _).after ((State.loadBanks_foot _ _ _).after h1))

theorem State.takeDesc_foot (s : State) (body : Bytes) : Foot 0x80 s (s.takeDesc body).1 := by
  unfold State.takeDesc
  exact .iteFst (by
    (try dsimp only)
    split
    · exact .desc .same
    · exact .desc .same) (.desc .same)

theorem State.adoptDescription_foot (s : State) (hot : Bool) : Foot 0x1DD1D97 s (s.adoptDescription hot) := by
  unfold State.adoptDescription
  exact by
    (try dsimp only)
    split
    · exact .ite (.desc .same) (.ite (.desc ((State.changeDescription_foot _ _ _).after .same)) (.desc .same))
    · exact .same

theorem State.adoptionStored_foot (s : State) (ok : Bool) : Foot 0x73DDBFE9 s (s.adoptionStored ok) := by
  unfold State.adoptionStored
  exact (State.record_foot _ _ _ _).after (.ite (.desc .same) ((State.peerEvent_foot _ _ _).after ((State.raise_foot
      _ _ _ _).after .same)))

end Sys2Proof.Machine
end

