-- ==== Sys2Proof/Laws/FootSluice.lean ====
section
/-! SUPPORT. Footprints of the state functions of Sluice.lean. -/
set_option Elab.async false
namespace Sys2Proof.Machine

theorem State.seeGeneration_foot (s : State) (g : Nat) : Foot 0x100000 s (s.seeGeneration g) := by
  unfold State.seeGeneration
  exact .ite (.sluice .same) .same

theorem State.noteFrame_foot (s : State) (ftype : Nat) (f : Bytes) : Foot 0x100000 s (s.noteFrame ftype f) := by
  unfold State.noteFrame
  exact (State.seeGeneration_foot _ _).after (.sluice .same)

theorem Foot.onFrame {w : Nat} {s0 s : State} {ftype : Nat} {len : Nat → Bool} {f : Bytes} {go : State → Bytes →
    State} (h0 : Foot w s0 s)
    (hf : ∀ v0 v1, Foot w s0 v0 → Foot w s0 (go v0 v1))
    (hl : Part.within 0x100000 w = true := by rfl) : Foot w s0 (s.onFrame ftype len f go) := by
  unfold State.onFrame
  exact .ite (by
    (try dsimp only)
    split
    · exact h0
    · exact .ite h0 (hf _ _ ((State.noteFrame_foot _ _ _).after (hm := Part.within_trans hl rfl) h0))) h0

theorem State.lasting_foot (s : State) (src : Nat) (b : Bool) (data : Bytes) :
    Foot 0x73DDBFE9 s (s.lasting src b data) := by
  unfold State.lasting
  exact .ite ((State.begin__foot _ _ _ _).after .same) ((State.condition_foot _ _ _).after .same)

theorem State.judgePeer_foot (s : State) : Foot 0x73DDBFE9 s s.judgePeer := by
  unfold State.judgePeer
  exact (State.lasting_foot _ _ _ _).after ((State.lasting_foot _ _ _ _).after ((State.lasting_foot _ _ _ _).after
      ((State.lasting_foot _ _ _ _).after .same)))

theorem State.setPeerLane_foot (s : State) (lane : Nat) (f : PeerLane → PeerLane) :
    Foot 0x100000 s (s.setPeerLane lane f) := by
  unfold State.setPeerLane
  exact .ite (.sluice .same) (.sluice .same)

theorem execPartnerLaneUp_foot (lane : Nat) (s : State) : Within 0x100000 s (execPartnerLaneUp lane s) :=
  ⟨_, rfl, .ite ((State.setPeerLane_foot _ _ _).after .same) .same⟩

theorem execPartnerLaneDown_foot (lane : Nat) (s : State) : Within 0x73DDBFE9 s (execPartnerLaneDown lane s) :=
  ⟨_, rfl, .ite ((State.judgePeer_foot _).after ((State.setPeerLane_foot _ _ _).after .same)) .same⟩

theorem State.sendHello_foot (s : State) : Foot 0x60100000 s s.sendHello := by
  unfold State.sendHello
  exact .ite (.sluice ((State.send_foot _ _).after ((State.used_foot _).after .same))) .same

theorem execHelloTimer_foot (s : State) : Within 0x60100000 s (execHelloTimer s) :=
  ⟨_, rfl, (State.sendHello_foot _).after .same⟩

theorem State.takeHello_foot (s : State) (b : Bytes) (delay lag : Int) : Foot 0x100080 s (s.takeHello b delay lag) :=
    by
  unfold State.takeHello
  exact (State.seeGeneration_foot _ _).after (.ite (.sluice .same) (.desc (.sluice .same)))

theorem State.resendDesc_foot (s : State) : Foot 0x20100080 s s.resendDesc := by
  unfold State.resendDesc
  exact .ite ((State.sendDesc_foot _ _).after (.desc .same)) .same

theorem execPartnerHello_foot (lane : Nat) (frame : Bytes) (delay lag : Int) (s : State) :
    Within 0x73DDBFE9 s (execPartnerHello lane frame delay lag s) :=
  ⟨_, rfl, .ite (by
    (try dsimp only)
    split
    · exact .same
    · exact .ite .same (.ite ((State.judgePeer_foot _).after ((State.setPeerLane_foot _ _ _).after .same))
        ((State.resendDesc_foot _).after ((State.judgePeer_foot _).after ((State.takeHello_foot _ _ _ _).after
        ((State.noteFrame_foot _ _ _).after ((State.setPeerLane_foot _ _ _).after .same))))))) .same⟩

theorem execPeerPresence_foot (absent : Bool) (s : State) : Within 0x73DDBFF9 s (execPeerPresence absent s) :=
  ⟨_, rfl, .ite ((State.judgePeer_foot _).after (.ite ((State.powerDomains_foot _ _).after (.ite (.sluice (.sluice
      .same)) (.sluice .same))) (.ite (.sluice (.sluice .same)) (.sluice .same)))) (.ite ((State.powerDomains_foot _
      _).after (.ite (.sluice (.sluice .same)) (.sluice .same))) (.ite (.sluice (.sluice .same)) (.sluice .same)))⟩

theorem State.takeMirror_foot (s : State) (m : Bytes) (own : Nat → ChanLatch) (ownOut : Nat → OutLatch) (skip : Nat →
    Bool) :
    Foot 0x100C00 s (s.takeMirror m own ownOut skip) := by
  unfold State.takeMirror
  exact .each (.each .same fun _ _ h0 => .ite ((State.setChan_foot _ _ _).after h0) (.sluice ((State.setChan_foot _ _
      _).after h0))) fun _ _ h0 => .ite ((State.setOut_foot _ _ _).after h0) (.sluice ((State.setOut_foot _ _
      _).after h0))

theorem State.adoptEpoch_foot (s : State) (e : Nat) : Foot 0x200104 s (s.adoptEpoch e) := by
  unfold State.adoptEpoch
  exact .ite .same (.clocks (.ite ((State.record_foot _ _ _ _).after (.ledger .same)) .same))

theorem State.takeQref_foot (s : State) (m : Bytes) : Foot 0x100000 s (s.takeQref m) := by
  unfold State.takeQref
  exact .sluice .same

theorem State.endInjection_foot (s : State) : Foot 0x800 s s.endInjection := by
  unfold State.endInjection
  exact .each .same fun _ _ h0 => .ite ((State.setOut_foot _ _ _).after h0) h0

theorem execMirror_foot (frame : Bytes) (s : State) : Within 0x60300D04 s (execMirror frame s) :=
  ⟨_, rfl, .onFrame .same fun _ _ h0 => .ite ((State.sendHello_foot _).after ((State.adoptEpoch_foot _ _).after
      (.sluice ((State.takeQref_foot _ _).after ((State.takeMirror_foot _ _ _ _ _).after h0))))) h0⟩

theorem State.nextDutyCycle_foot (s : State) (k : Nat) : Foot 0x400 s (s.nextDutyCycle k) := by
  unfold State.nextDutyCycle
  exact (State.setChan_foot _ _ _).after .same

theorem State.countLost_foot (s : State) : Foot 0x73DDBFE9 s s.countLost := by
  unfold State.countLost
  exact .sluice (.ite (.ite .same ((State.raise_foot _ _ _ _).after (.sluice .same))) ((State.raise_foot _ _ _
      _).after (.ite .same ((State.raise_foot _ _ _ _).after (.sluice .same)))))

theorem execMirrorStrobe_foot (counts : List Nat) (s : State) : Within 0x73DDBFE9 s (execMirrorStrobe counts s) :=
  ⟨_, rfl, .ite (.each (.ite ((State.sendPeer_foot _ _ _).after ((State.sendPeer_foot _ _ _).after (.each
      ((State.latchAll_foot _).after (.sluice .same)) fun _ _ h0 => (State.setChan_foot _ _ _).after h0))) (.ite
      ((State.countLost_foot _).after (.each ((State.latchAll_foot _).after (.sluice .same)) fun _ _ h0 =>
      (State.setChan_foot _ _ _).after h0)) ((State.latchAll_foot _).after (.sluice .same)))) fun _ _ h0 =>
      (State.nextDutyCycle_foot _ _).after h0) .same⟩

theorem State.countRun_foot (s : State) (k : Nat) : Foot 0x400 s (s.countRun k) := by
  unfold State.countRun
  exact .ite ((State.setChan_foot _ _ _).after .same) .same

theorem State.raiseDoubt_foot (s : State) : Foot 0x73DDBFEB s s.raiseDoubt := by
  unfold State.raiseDoubt
  exact .ite ((State.raise_foot _ _ _ _).after (.each ((State.sendPeer_foot _ _ _).after (.sluice .same)) fun _ _ h0
      => (State.capsuleEvent_foot _ _ _).after h0)) .same

theorem State.refer_foot (s : State) : Foot 0x73DDBFEB s s.refer := by
  unfold State.refer
  exact (State.raiseDoubt_foot _).after ((State.raise_foot _ _ _ _).after (.sluice (.each .same fun _ _ h0 => .ite
      ((State.setChan_foot _ _ _).after h0) h0)))

theorem execPartnerSummary_foot (frame : Bytes) (s : State) : Within 0x73DDBFEB s (execPartnerSummary frame s) :=
  ⟨_, rfl, .onFrame .same fun _ _ h0 => .ite ((State.raiseDoubt_foot _).after (.each ((State.endInjection_foot
      _).after (.each (.sluice h0) fun _ _ h1 => (State.setChan_foot _ _ _).after h1)) fun _ _ h1 =>
      (State.countRun_foot _ _).after h1)) h0⟩

theorem execChallenge_foot (frame : Bytes) (s : State) : Within 0x100000 s (execChallenge frame s) :=
  ⟨_, rfl, .onFrame .same fun _ _ h0 => .ite (.sluice h0) h0⟩

theorem execChallengeTimeout_foot (s : State) : Within 0x73DDBFEB s (execChallengeTimeout s) :=
  ⟨_, rfl, .ite ((State.refer_foot _).after .same) .same⟩

theorem execResult_foot (frame : Bytes) (s : State) : Within 0x100000 s (execResult frame s) :=
  ⟨_, rfl, .onFrame .same fun _ _ h0 => .ite (.ite (.sluice h0) (.sluice h0)) h0⟩

theorem State.withdraw_foot (s : State) : Foot 0x100000 s s.withdraw := by
  unfold State.withdraw
  exact .sluice .same

theorem State.challengeTested_foot (s : State) : Foot 0x73DDBFEB s s.challengeTested := by
  unfold State.challengeTested
  exact .ite (.ite ((State.yield_foot _ _ _).after (.sluice ((State.sendPeer_foot _ _ _).after .same))) (.sluice
      ((State.sendPeer_foot _ _ _).after .same))) (.ite ((State.refer_foot _).after ((State.sendPeer_foot _ _
      _).after .same)) (.sluice ((State.sendPeer_foot _ _ _).after .same)))

theorem State.restoreTested_foot (s : State) (passed : Nat) : Foot 0x30900040 s (s.restoreTested passed) := by
  unfold State.restoreTested
  exact .ite (.fold (.sluice (.sluice .same)) fun _ _ h0 => (State.finish_foot _ _ _ _).after h0)
      ((State.finishAll_foot _ _ _).after (.sluice .same))

theorem State.selfTestFailed_foot (s : State) (cl : Nat) : Foot 0x729C8FE1 s (s.selfTestFailed cl) := by
  unfold State.selfTestFailed
  exact .ite ((State.yield_foot _ _ _).after ((State.peerEvent_foot _ _ _).after .same)) (.ite ((State.withdraw_foot
      _).after ((State.peerEvent_foot _ _ _).after .same)) ((State.peerEvent_foot _ _ _).after .same))

theorem execKnownAnswerTest_foot (cl : Nat) (pass : Bool) (s : State) :
    Within 0x73DDBFEB s (execKnownAnswerTest cl pass s) :=
  ⟨_, rfl, .ite (.ite (.sluice (by
    (try dsimp only)
    split
    · exact .ite (.ite ((State.restoreTested_foot _ _).after (.sluice (.ite (.ite ((State.challengeTested_foot
        _).after (.sluice .same)) (.sluice .same)) .same))) (.sluice (.ite (.ite ((State.challengeTested_foot
        _).after (.sluice .same)) (.sluice .same)) .same))) (.ite (.ite ((State.challengeTested_foot _).after
        (.sluice .same)) (.sluice .same)) .same)
    · exact .ite (.ite ((State.challengeTested_foot _).after (.sluice .same)) (.sluice .same)) .same))
        ((State.selfTestFailed_foot _ _).after (.sluice (by
    (try dsimp only)
    split
    · exact .ite (.ite ((State.restoreTested_foot _ _).after (.sluice (.ite (.ite ((State.challengeTested_foot
        _).after (.sluice .same)) (.sluice .same)) .same))) (.sluice (.ite (.ite ((State.challengeTested_foot
        _).after (.sluice .same)) (.sluice .same)) .same))) (.ite (.ite ((State.challengeTested_foot _).after
        (.sluice .same)) (.sluice .same)) .same)
    · exact .ite (.ite ((State.challengeTested_foot _).after (.sluice .same)) (.sluice .same)) .same)))) (by
    (try dsimp only)
    split
    · exact .ite (.ite ((State.restoreTested_foot _ _).after (.sluice (.ite (.ite ((State.challengeTested_foot
        _).after (.sluice .same)) (.sluice .same)) .same))) (.sluice (.ite (.ite ((State.challengeTested_foot
        _).after (.sluice .same)) (.sluice .same)) .same))) (.ite (.ite ((State.challengeTested_foot _).after
        (.sluice .same)) (.sluice .same)) .same)
    · exact .ite (.ite ((State.challengeTested_foot _).after (.sluice .same)) (.sluice .same)) .same)⟩

theorem execSelfTestTimer_foot (s : State) : Within 0x100000 s (execSelfTestTimer s) :=
  ⟨_, rfl, .ite (.sluice .same) .same⟩

theorem execPartnerEvent_foot (frame : Bytes) (s : State) : Within 0x100100 s (execPartnerEvent frame s) :=
  ⟨_, rfl, .onFrame .same fun _ _ h0 => (State.record_foot _ _ _ _).after (.sluice h0)⟩

theorem execDesc_foot (frame : Bytes) (s : State) : Within 0x20100080 s (execDesc frame s) :=
  ⟨_, rfl, .onFrame .same fun _ _ h0 => .ite (.ite ((State.sendPeer_foot _ _ _).after ((State.takeDesc_foot _
      _).after h0)) ((State.takeDesc_foot _ _).after h0)) h0⟩

theorem State.commitProceeds_foot (s : State) : Foot 0x10000000 s s.commitProceeds := by
  unfold State.commitProceeds
  exact .waiting .same

theorem execAck_foot (frame : Bytes) (s : State) : Within 0x10100080 s (execAck frame s) :=
  ⟨_, rfl, .onFrame .same fun _ _ h0 => .ite ((State.commitProceeds_foot _).after (.desc h0)) h0⟩

theorem execCommitAckTimeout_foot (s : State) : Within 0x73DDBFE9 s (execCommitAckTimeout s) :=
  ⟨_, rfl, .ite ((State.raise_foot _ _ _ _).after ((State.commitProceeds_foot _).after .same)) .same⟩

theorem execIdstart_foot (frame : Bytes) (s : State) : Within 0x40100800 s (execIdstart frame s) :=
  ⟨_, rfl, .onFrame .same fun _ _ h0 => .ite ((State.setOut_foot _ _ _).after ((State.used_foot _).after h0)) h0⟩

theorem State.sendSuper_foot (s : State) (epoch : Nat) : Foot 0x20100000 s (s.sendSuper epoch) := by
  unfold State.sendSuper
  exact .ite (.fold .same fun _ _ h0 => (State.sendPeer_foot _ _ _).after h0) .same

theorem execSuper_foot (frame : Bytes) (content : List SuperItem) (s : State) :
    Within 0x100000 s (execSuper frame content s) :=
  ⟨_, rfl, .onFrame .same fun _ _ h0 => .ite (.ite h0 (.sluice h0)) h0⟩

theorem State.mirrorReleases_foot (s : State) (cl map : Nat) : Foot 0x1400 s (s.mirrorReleases cl map) := by
  unfold State.mirrorReleases
  exact .fold .same fun _ _ h0 => .ite ((State.releaseClamp_foot _ _ _).after h0) h0

theorem State.applySuperItem_foot (s : State) (i : SuperItem) : Foot 0xFDC00 s (s.applySuperItem i) := by
  unfold State.applySuperItem
  exact by
    (try dsimp only)
    split
    · exact .same
    · exact (State.setOut_foot _ _ _).after .same
    · exact (State.mirrorReleases_foot _ _ _).after .same
    · exact (State.setCluster_foot _ _ _).after .same
    · exact .budget .same
    · exact (State.setPolder_foot _ _ _).after .same
    · exact .budget .same
    · exact .budget .same
    · exact .budget .same
    · exact (State.setOut_foot _ _ _).after .same
    · exact .plan .same
    · exact (State.setRect_foot _ _ _).after .same
    · exact .ite ((State.setNode_foot _ _ _).after .same) .same
    · exact .ite (.tide .same) .same
    · exact (State.setString_foot _ _ _).after .same
    · exact .same
    · exact (State.setOut_foot _ _ _).after .same
    · exact (State.setOut_foot _ _ _).after .same
    · exact (State.setString_foot _ _ _).after .same

theorem State.applySuperFields_foot (s : State) (l : List SuperItem) : Foot 0x1DD1D97 s (s.applySuperFields l) := by
  unfold State.applySuperFields
  exact .ite .same ((State.changeDescription_foot _ _ _).after .same)

theorem State.superTide_foot (s : State) : Foot 0x73DFFFFF s s.superTide := by
  unfold State.superTide
  exact .ite ((State.judgePeer_foot _).after (.ite (.sluice ((State.applySuperFields_foot _ _).after (.fold (.sluice
      .same) fun _ _ h0 => (State.applySuperItem_foot _ _).after h0))) (.ite (.sluice .same) ((State.peerEvent_foot _
      _ _).after (.sluice .same))))) .same

theorem execClaimRaise_foot (sinceDropUs : Nat) (s : State) : Within 0x100000 s (execClaimRaise sinceDropUs s) :=
  ⟨_, rfl, .ite (.ite (.sluice (.sluice .same)) (.sluice .same)) .same⟩

theorem State.takeGeneration_foot (s : State) (how : Nat) : Foot 0x100100 s (s.takeGeneration how) := by
  unfold State.takeGeneration
  exact .ite ((State.recordFor_foot _ _ _ _ _).after (.sluice .same)) ((State.record_foot _ _ _ _).after (.sluice
      .same))

theorem State.ownChannels_foot (s : State) : Foot 0x400 s s.ownChannels := by
  unfold State.ownChannels
  exact .each .same fun _ _ h0 => (State.setChan_foot _ _ _).after h0

theorem State.answerModeSet_foot (s : State) : Foot 0x30900040 s s.answerModeSet := by
  unfold State.answerModeSet
  exact .fold .same fun _ _ h0 => (State.finish_foot _ _ _ _).after h0

theorem execClaimSample_foot (peerHigh : Bool) (s : State) : Within 0x73DDBFE9 s (execClaimSample peerHigh s) :=
  ⟨_, rfl, .ite (.ite (.ite ((State.raise_foot _ _ _ _).after (.sluice .same)) (.sluice .same))
      ((State.answerModeSet_foot _).after ((State.irqGen_foot _).after ((State.setMode_foot _ _ _ _).after
      ((State.ownChannels_foot _).after ((State.takeGeneration_foot _ _).after (.sluice .same))))))) .same⟩

theorem execClaimBackoffEnd_foot (waitedUs : Nat) (s : State) : Within 0x100000 s (execClaimBackoffEnd s waitedUs) :=
  ⟨_, rfl, .ite (.sluice .same) .same⟩

theorem execClaimTimeout_foot (s : State) : Within 0x329C8FE1 s (execClaimTimeout s) :=
  ⟨_, rfl, .ite ((State.answerModeSet_foot _).after ((State.setMode_foot _ _ _ _).after (.sluice .same))) .same⟩

theorem execHandover_foot (frame : Bytes) (s : State) : Within 0x100C00 s (execHandover frame s) :=
  ⟨_, rfl, .onFrame .same fun _ _ h0 => .ite (.sluice ((State.takeMirror_foot _ _ _ _ _).after h0)) h0⟩

theorem State.takeChannel_foot (s : State) (k : Nat) : Foot 0x400 s (s.takeChannel k) := by
  unfold State.takeChannel
  exact (State.setChan_foot _ _ _).after .same

theorem State.takeOutput_foot (s : State) (k : Nat) : Foot 0x800 s (s.takeOutput k) := by
  unfold State.takeOutput
  exact (State.setOut_foot _ _ _).after .same

theorem State.takeOver_foot (s : State) : Foot 0x329C8FE1 s s.takeOver := by
  unfold State.takeOver
  exact (State.settle_foot _).after ((State.irqGen_foot _).after ((State.setMode_foot _ _ _ _).after (.power (.each
      (.sluice ((State.record_foot _ _ _ _).after ((State.takeGeneration_foot _ _).after (.each (.each (.each
      (.sluice (.each .same fun _ _ h0 => (State.takeOutput_foot _ _).after h0)) fun _ _ h0 =>
      (State.takeChannel_foot _ _).after h0) fun _ _ h0 => (State.quadrantOff_foot _ _).after h0) fun _ _ h0 =>
      (State.phaseForced_foot _ _).after h0)))) fun _ _ h0 => (State.setChan_foot _ _ _).after h0))))

theorem execSluicePeerFall_foot (sinceDropUs : Nat) (s : State) :
    Within 0x329C8FE1 s (execSluicePeerFall sinceDropUs s) :=
  ⟨_, rfl, .ite ((State.takeOver_foot _).after (.sluice .same)) (.sluice (.ite ((State.triggerIgnored_foot _ _).after
      (.sluice .same)) (.sluice .same)))⟩

theorem execTokenConflict_foot (s : State) : Within 0x73DDBFE9 s (execTokenConflict s) :=
  ⟨_, rfl, .ite ((State.raise_foot _ _ _ _).after (.ite (.sluice .same) ((State.dropToken_foot _).after (.sluice
      .same)))) .same⟩

theorem State.staleOrder_foot (s : State) (g n : Nat) : Foot 0x30900040 s (s.staleOrder g n) := by
  unfold State.staleOrder
  exact .sluice ((State.respond_foot _ _ _ _ _).after ((State.unwait_foot _ _).after (.update .same)))

theorem execOverlapCutoff_foot (s : State) : Within 0x30900040 s (execOverlapCutoff s) :=
  ⟨_, rfl, .ite (.sluice (.fold .same fun _ _ h0 => (State.staleOrder_foot _ _ _).after h0)) .same⟩

theorem execSluiceStatus_foot (mb : Nat) (s : State) : Within 0x73DDBFE9 s (execSluiceStatus mb s) :=
  ⟨_, rfl, .runOrder .same fun _ _ h0 => .ite ((State.refuse_foot _ _ _).after h0) ((State.reply_foot _ _ _ _).after
      h0)⟩

theorem execSluiceYield_foot (mb : Nat) (s : State) : Within 0x73DDBFE9 s (execSluiceYield mb s) :=
  ⟨_, rfl, .runOrder .same fun _ _ h0 => .ite ((State.refuse_foot _ _ _).after h0) (.ite ((State.refuse_foot _ _
      _).after h0) (.ite ((State.refuse_foot _ _ _).after h0) ((State.reply_foot _ _ _ _).after ((State.yield_foot _
      _ _).after h0))))⟩

theorem execSluiceWithdraw_foot (mb : Nat) (s : State) : Within 0x73DDBFE9 s (execSluiceWithdraw mb s) :=
  ⟨_, rfl, .runOrder .same fun _ _ h0 => .ite ((State.refuse_foot _ _ _).after h0) (.ite ((State.refuse_foot _ _
      _).after h0) (.ite ((State.reply_foot _ _ _ _).after ((State.withdraw_foot _).after ((State.used_foot _).after
      h0))) ((State.wait_foot _ _ _).after (.sluice h0))))⟩

theorem execSluiceResume_foot (mb : Nat) (s : State) : Within 0x73DDBFE9 s (execSluiceResume mb s) :=
  ⟨_, rfl, .runOrder .same fun _ _ h0 => .ite ((State.refuse_foot _ _ _).after h0) ((State.reply_foot _ _ _ _).after
      (.sluice h0))⟩

theorem execSluiceCompare_foot (mb : Nat) (s : State) : Within 0x73DDBFE9 s (execSluiceCompare mb s) :=
  ⟨_, rfl, .runOrder .same fun _ _ h0 => .ite ((State.refuse_foot _ _ _).after h0) ((State.reply_foot _ _ _ _).after
      h0)⟩

end Sys2Proof.Machine
end

