-- ==== Sys2Proof/Laws/FootLedger.lean ====
section
/-! SUPPORT. Footprints of the state functions of Ledger.lean. -/
set_option Elab.async false
namespace Sys2Proof.Machine

theorem State.latchLedger_foot (s : State) (e : Nat) (slewed : Bool) : Foot 0x40200000 s (s.latchLedger e slewed) :=
    by
  unfold State.latchLedger
  exact .ledger ((State.used_foot _).after .same)

theorem State.pushLedger_foot (s : State) (id epoch fab : Nat) (data : Bytes) :
    Foot 0x21000100 s (s.pushLedger id epoch fab data) := by
  unfold State.pushLedger
  exact by
    (try dsimp only)
    split
    · exact .same
    · exact .log ((State.push_foot _ _ _).after .same)

theorem State.pushKind_foot (s : State) (kind epoch fab : Nat) (data : Subscription → List Bytes) :
    Foot 0x21000100 s (s.pushKind kind epoch fab data) := by
  unfold State.pushKind
  exact .fold .same fun _ _ h0 => .fold h0 fun _ _ h1 => (State.pushLedger_foot _ _ _ _ _).after h1

theorem State.adoptSnapshot_foot (s : State) : Foot 0x200000 s s.adoptSnapshot := by
  unfold State.adoptSnapshot
  exact .ite (.ledger .same) .same

theorem State.sealLocal_foot (s : State) (us : Nat) (deadline : Bool) :
    Foot 0x7BFDBFE9 s (s.sealLocal us deadline) := by
  unfold State.sealLocal
  exact .ite ((State.raise_foot _ _ _ _).after ((State.pushKind_foot _ _ _ _ _).after (.ite
      ((State.adoptSnapshot_foot _).after (.ite (.fold (.update ((State.ledgerStored_foot _ _ _).after .same)) fun _
      _ h0 => (State.sendPeer_foot _ _ _).after h0) (.update ((State.ledgerStored_foot _ _ _).after .same)))) (.ite
      (.fold (.update ((State.ledgerStored_foot _ _ _).after .same)) fun _ _ h0 => (State.sendPeer_foot _ _ _).after
      h0) (.update ((State.ledgerStored_foot _ _ _).after .same)))))) ((State.pushKind_foot _ _ _ _ _).after (.ite
      ((State.adoptSnapshot_foot _).after (.ite (.fold (.update ((State.ledgerStored_foot _ _ _).after .same)) fun _
      _ h0 => (State.sendPeer_foot _ _ _).after h0) (.update ((State.ledgerStored_foot _ _ _).after .same)))) (.ite
      (.fold (.update ((State.ledgerStored_foot _ _ _).after .same)) fun _ _ h0 => (State.sendPeer_foot _ _ _).after
      h0) (.update ((State.ledgerStored_foot _ _ _).after .same)))))

theorem State.sealIfComplete_foot (s : State) (us : Nat) : Foot 0x7BFDBFE9 s (s.sealIfComplete us) := by
  unfold State.sealIfComplete
  exact .ite ((State.sealLocal_foot _ _ _).after .same) .same

theorem execContribution_foot (index epoch us : Nat) (s : State) :
    Within 0x7BFDBFE9 s (execContribution index epoch us s) :=
  ⟨_, rfl, .ite .same (.ite (.ite ((State.sealIfComplete_foot _ _).after (.ledger .same)) .same) (.ite
      ((State.raise_foot _ _ _ _).after (.ledger .same)) .same))⟩

theorem execSealDeadline_foot (s : State) : Within 0x7BFDBFE9 s (execSealDeadline s) :=
  ⟨_, rfl, .ite ((State.sealLocal_foot _ _ _).after .same) .same⟩

theorem execSnapshotFrame_foot (frame : Bytes) (s : State) : Within 0x300000 s (execSnapshotFrame frame s) :=
  ⟨_, rfl, .onFrame .same fun _ _ h0 => .ite ((State.adoptSnapshot_foot _).after (.ledger h0)) h0⟩

theorem execLedgerStatus_foot (mb : Nat) (s : State) : Within 0x73DDBFE9 s (execLedgerStatus mb s) :=
  ⟨_, rfl, .runOrder .same fun _ _ h0 => .ite ((State.refuse_foot _ _ _).after h0) ((State.reply_foot _ _ _ _).after
      h0)⟩

theorem execLedgerRead_foot (mb : Nat) (s : State) : Within 0x73DDBFE9 s (execLedgerRead mb s) :=
  ⟨_, rfl, .runOrder .same fun _ _ h0 => .ite ((State.refuse_foot _ _ _).after h0) (by
        (try dsimp only)
        split
        · exact (State.replyAt_foot _ _ _ _ _).after (.each h0 fun _ _ h2 => (State.eccEvent_foot _ _ _ _ _).after h2)
        · exact (State.refuse_foot _ _ _).after h0)⟩

theorem execFabricStatus_foot (mb : Nat) (s : State) : Within 0x73DDBFE9 s (execFabricStatus mb s) :=
  ⟨_, rfl, .runOrder .same fun _ _ h0 => .ite ((State.refuse_foot _ _ _).after h0) (.ite ((State.refuse_foot _ _
      _).after h0) ((State.reply_foot _ _ _ _).after h0))⟩

theorem execLedgerSubscribe_foot (mb : Nat) (s : State) : Within 0x73DDBFE9 s (execLedgerSubscribe mb s) :=
  ⟨_, rfl, .runOrderWith .same fun _ _ h0 => by
        (try dsimp only)
        split
        · exact (State.refuse_foot _ _ _).after h0
        · exact .ite ((State.refuse_foot _ _ _).after h0) ((State.reply_foot _ _ _ _).after ((State.subscribe_foot
            (by assumption)).after h0))
⟩

theorem execLedgerUnsubscribe_foot (mb : Nat) (s : State) : Within 0x73DDBFE9 s (execLedgerUnsubscribe mb s) :=
  ⟨_, rfl, .runOrder .same fun _ _ h0 => .ite ((State.refuse_foot _ _ _).after h0) (by
        (try dsimp only)
        split
        · exact (State.refuse_foot _ _ _).after h0
        · exact (State.reply_foot _ _ _ _).after ((State.unsubscribe_foot (by assumption)).after h0))⟩

end Sys2Proof.Machine
end

