-- ==== Sys2Proof/Laws/FootFabric.lean ====
section
/-! SUPPORT. Footprints of the state functions of Fabric.lean. -/
set_option Elab.async false
namespace Sys2Proof.Machine

theorem State.setFabLane_foot (s : State) (l : Nat) (f : FabLane → FabLane) : Foot 0x400000 s (s.setFabLane l f) := by
  unfold State.setFabLane
  exact by
    (try dsimp only)
    split
    · exact .fabric .same
    · exact .fabric .same
    · exact .fabric .same
    · exact .fabric .same
    · exact .same

theorem State.sendFab_foot (s : State) (l : Nat) (frame : Bytes) : Foot 0x20000000 s (s.sendFab l frame) := by
  unfold State.sendFab
  exact .ite ((State.send_foot _ _).after .same) .same

theorem State.judgeLanes_foot (s : State) : Foot 0x73DDBFE9 s s.judgeLanes := by
  unfold State.judgeLanes
  exact .each .same fun _ _ h0 => (State.lasting_foot _ _ _ _).after h0

theorem State.chooseParent_foot (s : State) : Foot 0x400000 s s.chooseParent := by
  unfold State.chooseParent
  exact by
    (try dsimp only)
    split
    · exact .fabric .same
    · exact .fabric .same

theorem execFabricHello_foot (lane : Nat) (frame : Bytes) (settled : Bool) (s : State) :
    Within 0x73DDBFE9 s (execFabricHello lane frame settled s) :=
  ⟨_, rfl, .ite (by
    (try dsimp only)
    split
    · exact .same
    · exact .ite ((State.judgeLanes_foot _).after (.ite ((State.setFabLane_foot _ _ _).after .same) .same))
        ((State.raise_foot _ _ _ _).after ((State.judgeLanes_foot _).after ((State.chooseParent_foot _).after
        ((State.setFabLane_foot _ _ _).after .same))))) .same⟩

theorem execFabricHelloTimer_foot (locked : Nat) (s : State) : Within 0x20400000 s (execFabricHelloTimer locked s) :=
  ⟨_, rfl, .ite (.each .same fun _ _ h0 => .ite ((State.send_foot _ _).after ((State.setFabLane_foot _ _ _).after
      h0)) ((State.setFabLane_foot _ _ _).after h0)) .same⟩

theorem execFabricLaneDown_foot (lane : Nat) (s : State) : Within 0x73DDBFE9 s (execFabricLaneDown lane s) :=
  ⟨_, rfl, .ite ((State.judgeLanes_foot _).after ((State.chooseParent_foot _).after ((State.setFabLane_foot _ _
      _).after .same))) .same⟩

theorem State.passOn_foot (s : State) (l : Nat) (frame : Bytes) (ctrl : Nat) :
    Foot 0x73DDBFE9 s (s.passOn l frame ctrl) := by
  unfold State.passOn
  exact .ite ((State.raise_foot _ _ _ _).after .same) ((State.sendFab_foot _ _ _).after .same)

theorem State.sendUnicast_foot (s : State) (ftype dst f : Nat) (body : Bytes) :
    Foot 0x20000000 s (s.sendUnicast ftype dst f body) := by
  unfold State.sendUnicast
  exact by
    (try dsimp only)
    split
    · exact (State.sendFab_foot _ _ _).after .same
    · exact .same

theorem State.sendBoth_foot (s : State) (kind : Nat) (make : Nat → Bytes) :
    Foot 0x20000000 s (s.sendBoth kind make) := by
  unfold State.sendBoth
  exact .ite (.ite .same (.ite ((State.sendFab_foot _ _ _).after .same) ((State.sendFab_foot _ _ _).after .same)))
      (.ite ((State.sendFab_foot _ _ _).after (.ite .same (.ite ((State.sendFab_foot _ _ _).after .same)
      ((State.sendFab_foot _ _ _).after .same)))) ((State.sendFab_foot _ _ _).after (.ite .same (.ite
      ((State.sendFab_foot _ _ _).after .same) ((State.sendFab_foot _ _ _).after .same)))))

theorem State.broadcast_foot (s : State) (ftype kind f : Nat) (body : Bytes) :
    Foot 0x20000000 s (s.broadcast ftype kind f body) := by
  unfold State.broadcast
  exact (State.sendBoth_foot _ _ _).after .same

theorem State.goOn_foot (s : State) (l : Nat) (frame : Bytes) : Foot 0x73DDBFE9 s (s.goOn l frame) := by
  unfold State.goOn
  exact .ite .same (.ite ((State.passOn_foot _ _ _ _).after .same) (.ite ((State.passOn_foot _ _ _ _).after .same)
      ((State.raise_foot _ _ _ _).after .same)))

theorem Foot.onBroadcast {w : Nat} {s0 s : State} {ftype len l : Nat} {frame : Bytes}
    {deliver : State → Nat → Nat → Bytes → State} (h0 : Foot w s0 s)
    (hf : ∀ v0 v1 v2 v3, Foot w s0 v0 → Foot w s0 (deliver v0 v1 v2 v3)) (hl : Part.within 0x73DDBFE9 w = true := by
        rfl) :
    Foot w s0 (s.onBroadcast ftype len l frame deliver) := by
  unfold State.onBroadcast
  refine .ite ?_ h0
  cases fabBody ftype frame with
  | none => exact h0
  | some b =>
    cases s.extendF (fld frame 6 2) with
    | none => exact (State.raise_foot _ _ _ _).after (hm := Part.within_trans hl rfl) h0
    | some f =>
      refine .ite h0 (.ite ((State.passOn_foot _ _ _ _).after (hm := Part.within_trans hl rfl) h0) ?_)
      refine (State.goOn_foot _ _ _).after (hm := Part.within_trans hl rfl) (.ite ?_ h0)
      exact hf _ _ _ _ (.fabric h0 (hl := Part.holds_of_within hl rfl))

theorem Foot.onUnicast {w : Nat} {s0 s : State} {ftype len l : Nat} {frame : Bytes}
    {take : State → Nat → Bytes → State} (h0 : Foot w s0 s)
    (hf : ∀ v0 v1 v2, Foot w s0 v0 → Foot w s0 (take v0 v1 v2)) (hl : Part.within 0x73DDBFE9 w = true := by rfl) :
    Foot w s0 (s.onUnicast ftype len l frame take) := by
  unfold State.onUnicast
  refine .ite ?_ h0
  cases fabBody ftype frame with
  | none => exact h0
  | some b =>
    cases s.extendF (fld frame 6 2) with
    | none => exact (State.raise_foot _ _ _ _).after (hm := Part.within_trans hl rfl) h0
    | some f =>
      refine .ite (.ite (hf _ _ _ h0) h0) ?_
      cases s.route (fld frame 4 2) with
      | none => exact h0
      | some p => exact (State.passOn_foot _ _ _ _).after (hm := Part.within_trans hl rfl) h0

theorem Foot.onHop {w : Nat} {s0 s : State} {ftype len l : Nat} {frame : Bytes} {take : State → Bytes → State}
    (h0 : Foot w s0 s) (hf : ∀ v0 v1, Foot w s0 v0 → Foot w s0 (take v0 v1)) :
    Foot w s0 (s.onHop ftype len l frame take) := by
  unfold State.onHop
  refine .ite ?_ h0
  cases fabBody ftype frame with
  | none => exact h0
  | some b => exact .ite (hf _ _ h0) h0

theorem execSyncSend_foot (t1 : Int) (s : State) : Within 0x20000000 s (execSyncSend t1 s) :=
  ⟨_, rfl, .ite (.each .same fun _ _ h0 => (State.sendFab_foot _ _ _).after h0) .same⟩

theorem State.takeOffset_foot (s : State) (fe : Nat) : Foot 0x400100 s (s.takeOffset fe) := by
  unfold State.takeOffset
  exact .ite .same ((State.record_foot _ _ _ _).after (.fabric .same))

theorem execSync_foot (lane : Nat) (frame : Bytes) (t2 t3 : Int) (s : State) :
    Within 0x20400300 s (execSync lane frame t2 t3 s) :=
  ⟨_, rfl, .onHop .same fun _ _ h0 => .ite ((State.sendFab_foot _ _ _).after ((State.condition_foot _ _ _).after
      (.fabric ((State.takeOffset_foot _ _).after ((State.chooseParent_foot _).after (.fabric ((State.setFabLane_foot
      _ _ _).after h0))))))) ((State.chooseParent_foot _).after (.fabric ((State.setFabLane_foot _ _ _).after h0)))⟩

theorem execDelayReq_foot (lane : Nat) (frame : Bytes) (t4 : Int) (s : State) :
    Within 0x20000000 s (execDelayReq lane frame t4 s) :=
  ⟨_, rfl, .onHop .same fun _ _ h0 => (State.sendFab_foot _ _ _).after h0⟩

theorem State.steer_foot (s : State) (theta : Int) : Foot 0x40400000 s (s.steer theta) := by
  unfold State.steer
  exact .ite (.fabric ((State.used_foot _).after .same)) (.fabric .same)

theorem execDelayResp_foot (lane : Nat) (frame : Bytes) (s : State) :
    Within 0x40400000 s (execDelayResp lane frame s) :=
  ⟨_, rfl, .onHop .same fun _ _ h0 => .ite (.ite (.fabric h0) ((State.steer_foot _ _).after (.fabric h0))) h0⟩

theorem execRootElection_foot (s : State) : Within 0x400000 s (execRootElection s) :=
  ⟨_, rfl, .ite (.fabric .same) .same⟩

theorem State.fabricTide_foot (s : State) : Foot 0x73DDBFED s s.fabricTide := by
  unfold State.fabricTide
  exact .ite ((State.lasting_foot _ _ _ _).after ((State.lasting_foot _ _ _ _).after (.update .same))) (.update .same)

theorem State.noteSummary_foot (s : State) (src f : Nat) (r : Bytes) : Foot 0x400000 s (s.noteSummary src f r) := by
  unfold State.noteSummary
  exact .ite (.fabric .same) .same

theorem State.noteFull_foot (s : State) (col f : Nat) (r : Bytes) : Foot 0x400000 s (s.noteFull col f r) := by
  unfold State.noteFull
  exact .ite (.fabric .same) .same

theorem execRecordOriginate_foot (s : State) : Within 0x21400100 s (execRecordOriginate s) :=
  ⟨_, rfl, .ite (by
    (try dsimp only)
    split
    · exact .same
    · exact (State.pushKind_foot _ _ _ _ _).after ((State.broadcast_foot _ _ _ _ _).after ((State.broadcast_foot _ _
        _ _ _).after ((State.broadcast_foot _ _ _ _ _).after (.ite ((State.noteFull_foot _ _ _ _).after
        ((State.noteSummary_foot _ _ _ _).after (.fabric .same))) (.fabric .same)))))) .same⟩

theorem State.takeSummary_foot (s : State) (frame : Bytes) (src f : Nat) (b : Bytes) :
    Foot 0x73DDBFE9 s (s.takeSummary frame src f b) := by
  unfold State.takeSummary
  exact .ite ((State.sendBoth_foot _ _ _).after (.ite ((State.raise_foot _ _ _ _).after ((State.noteSummary_foot _ _
      _ _).after .same)) ((State.noteSummary_foot _ _ _ _).after .same))) (.ite ((State.raise_foot _ _ _ _).after
      ((State.noteSummary_foot _ _ _ _).after .same)) ((State.noteSummary_foot _ _ _ _).after .same))

theorem execFabricSummary_foot (lane : Nat) (frame : Bytes) (s : State) :
    Within 0x73DDBFE9 s (execFabricSummary lane frame s) :=
  ⟨_, rfl, .onBroadcast .same fun _ _ _ _ h0 => (State.takeSummary_foot _ _ _ _ _).after h0⟩

theorem execFull_foot (lane : Nat) (frame : Bytes) (s : State) : Within 0x73DDBFE9 s (execFull lane frame s) :=
  ⟨_, rfl, .onBroadcast .same fun _ _ _ _ h0 => .ite ((State.noteFull_foot _ _ _ _).after h0) h0⟩

theorem State.noteRowSum_foot (s : State) (row f : Nat) (x : RowSum) : Foot 0x400000 s (s.noteRowSum row f x) := by
  unfold State.noteRowSum
  exact .fabric .same

theorem execRowSumStage_foot (s : State) : Within 0x20400000 s (execRowSumStage s) :=
  ⟨_, rfl, .ite (.ite ((State.noteRowSum_foot _ _ _ _).after (.fabric .same)) ((State.sendUnicast_foot _ _ _ _
      _).after (.fabric .same))) .same⟩

theorem execRowsum_foot (lane : Nat) (frame : Bytes) (s : State) : Within 0x73DDBFE9 s (execRowsum lane frame s) :=
  ⟨_, rfl, .onUnicast .same fun _ _ _ h0 => (State.noteRowSum_foot _ _ _ _).after h0⟩

theorem State.takeRowAllow_foot (s : State) (f v : Nat) : Foot 0x400000 s (s.takeRowAllow f v) := by
  unfold State.takeRowAllow
  exact .fabric .same

theorem execRootAllocate_foot (s : State) : Within 0x73DDBFE9 s (execRootAllocate s) :=
  ⟨_, rfl, .ite ((State.used_foot _).after (.each (.each .same fun _ _ h0 => (State.raise_foot _ _ _ _).after h0) fun
      _ _ h0 => .ite ((State.takeRowAllow_foot _ _ _).after h0) ((State.sendUnicast_foot _ _ _ _ _).after h0))) .same⟩

theorem execRowalloc_foot (lane : Nat) (frame : Bytes) (s : State) : Within 0x73DDBFE9 s (execRowalloc lane frame s)
    :=
  ⟨_, rfl, .onUnicast .same fun _ _ _ h0 => (State.takeRowAllow_foot _ _ _).after h0⟩

theorem State.takeAllowance_foot (s : State) (f v : Nat) : Foot 0x20500000 s (s.takeAllowance f v) := by
  unfold State.takeAllowance
  exact .ite (.ite ((State.sendPeer_foot _ _ _).after (.fabric (.fabric .same))) (.fabric .same)) .same

theorem execRowAllocate_foot (s : State) : Within 0x73DDBFE9 s (execRowAllocate s) :=
  ⟨_, rfl, .ite (.ite ((State.raise_foot _ _ _ _).after .same) ((State.takeAllowance_foot _ _ _).after
      ((State.broadcast_foot _ _ _ _ _).after ((State.used_foot _).after .same)))) .same⟩

theorem execMemalloc_foot (lane : Nat) (frame : Bytes) (s : State) : Within 0x73DDBFE9 s (execMemalloc lane frame s)
    :=
  ⟨_, rfl, .onBroadcast .same fun _ _ _ _ h0 => .ite ((State.takeAllowance_foot _ _ _).after h0) h0⟩

theorem execAllowanceRelay_foot (frame : Bytes) (s : State) : Within 0x500000 s (execAllowanceRelay frame s) :=
  ⟨_, rfl, .onFrame .same fun _ _ h0 => .ite (.fabric h0) h0⟩

theorem State.allowanceTide_foot (s : State) : Foot 0x73DDBFE9 s s.allowanceTide := by
  unfold State.allowanceTide
  exact .ite (by
    (try dsimp only)
    split
    · exact .fabric ((State.lasting_foot _ _ _ _).after (.fabric (.fabric .same)))
    · exact .fabric ((State.lasting_foot _ _ _ _).after (.fabric (.fabric .same)))) .same

theorem execAllowanceHold_foot (s : State) : Within 0x73DDBFE9 s (execAllowanceHold s) :=
  ⟨_, rfl, .ite (.ite ((State.raise_foot _ _ _ _).after (.fabric .same)) (.fabric .same)) .same⟩

theorem State.sealFabric_foot (s : State) (f us : Nat) : Foot 0x73FDBFE9 s (s.sealFabric f us) := by
  unfold State.sealFabric
  exact .ite ((State.raise_foot _ _ _ _).after ((State.pushKind_foot _ _ _ _ _).after ((State.pushKind_foot _ _ _ _
      _).after (.update ((State.ledgerStored_foot _ _ _).after .same))))) ((State.pushKind_foot _ _ _ _ _).after
      ((State.pushKind_foot _ _ _ _ _).after (.update ((State.ledgerStored_foot _ _ _).after .same))))

theorem execFabricSeal_foot (us : Nat) (s : State) : Within 0x73FDBFE9 s (execFabricSeal us s) :=
  ⟨_, rfl, .ite (.ite ((State.sealFabric_foot _ _ _).after .same) .same) .same⟩

end Sys2Proof.Machine
end

