-- ==== Sys2Proof/Laws/FootTwoWire.lean ====
section
/-! SUPPORT. Footprints of the state functions of TwoWire.lean. -/
set_option Elab.async false
namespace Sys2Proof.Machine

theorem State.twEvent_foot (s : State) (port ev addr : Nat) (cmd idx : Option Nat) :
    Foot 0x73DDBFE9 s (s.twEvent port ev addr cmd idx) := by
  unfold State.twEvent
  exact (State.used_foot _).after ((State.raise_foot _ _ _ _).after .same)

theorem State.twUseEvent_foot (s : State) (port ev : Nat) (u : TwUse) : Foot 0x73DDBFE9 s (s.twUseEvent port ev u) :=
    by
  unfold State.twUseEvent
  exact (State.twEvent_foot _ _ _ _ _ _).after .same

theorem State.twStart_foot (s : State) (port : Nat) : Foot 0x60810000 s (s.twStart port) := by
  unfold State.twStart
  exact .ite (by
    (try dsimp only)
    split
    · exact .same
    · exact .ite .same ((State.send_foot _ _).after ((State.setTw_foot _ _ _).after (by
        (try dsimp only)
        split
        · exact (State.legacyCommand_foot _ _ _).after .same
        · exact .same)))) ((State.setTw_foot _ _ _).after .same)

theorem State.twNext_foot (s : State) (port : Nat) (drop : TwUse → Bool) : Foot 0x60810000 s (s.twNext port drop) :=
    by
  unfold State.twNext
  exact (State.twStart_foot _ _).after ((State.setTw_foot _ _ _).after .same)

theorem State.sensorFails_foot (s : State) (port : Nat) (u : TwUse) (k : Nat) :
    Foot 0x73DDBFE9 s (s.sensorFails port u k) := by
  unfold State.sensorFails
  exact (State.twUseEvent_foot _ _ _ _).after ((State.setSensor_foot _ _ _).after ((State.setTwDev_foot _ _ _).after
      .same))

theorem State.legacyFails_foot (s : State) (port : Nat) (u : TwUse) (k : Nat) :
    Foot 0x73DDBFE9 s (s.legacyFails port u k) := by
  unfold State.legacyFails
  exact (State.twUseEvent_foot _ _ _ _).after ((State.setRect_foot _ _ _).after ((State.setTwDev_foot _ _ _).after
      .same))

theorem State.sensorMiss_foot (s : State) (port : Nat) (u : TwUse) (k : Nat) :
    Foot 0x73DDBFE9 s (s.sensorMiss port u k) := by
  unfold State.sensorMiss
  exact .ite ((State.sensorFails_foot _ _ _ _).after ((State.setSensor_foot _ _ _).after .same))
      ((State.setSensor_foot _ _ _).after .same)

theorem State.legacyMiss_foot (s : State) (port : Nat) (u : TwUse) (k : Nat) :
    Foot 0x73DDBFE9 s (s.legacyMiss port u k) := by
  unfold State.legacyMiss
  exact .ite ((State.legacyFails_foot _ _ _ _).after ((State.setRect_foot _ _ _).after .same)) ((State.setRect_foot _
      _ _).after .same)

theorem State.twFailed_foot (s : State) (port result : Nat) (u : TwUse) (data : Bytes) :
    Foot 0x73DDBFE9 s (s.twFailed port result u data) := by
  unfold State.twFailed
  exact by
    (try dsimp only)
    split
    · exact (State.twNext_foot _ _ _).after (.ite ((State.twUseEvent_foot _ _ _ _).after (by
        (try dsimp only)
        split
        · exact (State.setTwDev_foot _ _ _).after (.ite .same ((State.setTw_foot _ _ _).after .same))
        · exact .ite .same ((State.setTw_foot _ _ _).after .same))) (by
        (try dsimp only)
        split
        · exact (State.setTwDev_foot _ _ _).after (.ite .same ((State.setTw_foot _ _ _).after .same))
        · exact .ite .same ((State.setTw_foot _ _ _).after .same)))
    · exact (State.twNext_foot _ _ _).after (.ite ((State.twUseEvent_foot _ _ _ _).after (by
        (try dsimp only)
        split
        · exact (State.setTwDev_foot _ _ _).after (.ite .same ((State.setTw_foot _ _ _).after .same))
        · exact .ite .same ((State.setTw_foot _ _ _).after .same))) (by
        (try dsimp only)
        split
        · exact (State.setTwDev_foot _ _ _).after (.ite .same ((State.setTw_foot _ _ _).after .same))
        · exact .ite .same ((State.setTw_foot _ _ _).after .same)))
    · exact (State.twNext_foot _ _ _).after ((State.legacyMiss_foot _ _ _ _).after (.ite ((State.twUseEvent_foot _ _
        _ _).after (by
        (try dsimp only)
        split
        · exact (State.setTwDev_foot _ _ _).after (.ite .same ((State.setTw_foot _ _ _).after .same))
        · exact .ite .same ((State.setTw_foot _ _ _).after .same))) (by
        (try dsimp only)
        split
        · exact (State.setTwDev_foot _ _ _).after (.ite .same ((State.setTw_foot _ _ _).after .same))
        · exact .ite .same ((State.setTw_foot _ _ _).after .same))))
    · exact (State.twNext_foot _ _ _).after ((State.sensorMiss_foot _ _ _ _).after (.ite ((State.twUseEvent_foot _ _
        _ _).after (by
        (try dsimp only)
        split
        · exact (State.setTwDev_foot _ _ _).after (.ite .same ((State.setTw_foot _ _ _).after .same))
        · exact .ite .same ((State.setTw_foot _ _ _).after .same))) (by
        (try dsimp only)
        split
        · exact (State.setTwDev_foot _ _ _).after (.ite .same ((State.setTw_foot _ _ _).after .same))
        · exact .ite .same ((State.setTw_foot _ _ _).after .same))))
    · exact (State.twNext_foot _ _ _).after ((State.sensorMiss_foot _ _ _ _).after (.ite ((State.twUseEvent_foot _ _
        _ _).after (by
        (try dsimp only)
        split
        · exact (State.setTwDev_foot _ _ _).after (.ite .same ((State.setTw_foot _ _ _).after .same))
        · exact .ite .same ((State.setTw_foot _ _ _).after .same))) (by
        (try dsimp only)
        split
        · exact (State.setTwDev_foot _ _ _).after (.ite .same ((State.setTw_foot _ _ _).after .same))
        · exact .ite .same ((State.setTw_foot _ _ _).after .same))))
    · exact (State.twNext_foot _ _ _).after ((State.sensorMiss_foot _ _ _ _).after (.ite ((State.twUseEvent_foot _ _
        _ _).after (by
        (try dsimp only)
        split
        · exact (State.setTwDev_foot _ _ _).after (.ite .same ((State.setTw_foot _ _ _).after .same))
        · exact .ite .same ((State.setTw_foot _ _ _).after .same))) (by
        (try dsimp only)
        split
        · exact (State.setTwDev_foot _ _ _).after (.ite .same ((State.setTw_foot _ _ _).after .same))
        · exact .ite .same ((State.setTw_foot _ _ _).after .same))))
    · exact (State.twNext_foot _ _ _).after ((State.finish_foot _ _ _ _).after (.ite ((State.twUseEvent_foot _ _ _
        _).after (by
        (try dsimp only)
        split
        · exact (State.setTwDev_foot _ _ _).after (.ite .same ((State.setTw_foot _ _ _).after .same))
        · exact .ite .same ((State.setTw_foot _ _ _).after .same))) (by
        (try dsimp only)
        split
        · exact (State.setTwDev_foot _ _ _).after (.ite .same ((State.setTw_foot _ _ _).after .same))
        · exact .ite .same ((State.setTw_foot _ _ _).after .same))))

theorem State.sensorRead_foot (s : State) (port : Nat) (u : TwUse) (k w : Nat) :
    Foot 0x73DDBFE9 s (s.sensorRead port u k w) := by
  unfold State.sensorRead
  exact .ite ((State.twUseEvent_foot _ _ _ _).after ((State.used_foot _).after ((State.setSensor_foot _ _ _).after
      .same))) ((State.used_foot _).after ((State.setSensor_foot _ _ _).after .same))

theorem State.sensorModeRead_foot (s : State) (port : Nat) (u : TwUse) (k b : Nat) :
    Foot 0x73DDBFE9 s (s.sensorModeRead port u k b) := by
  unfold State.sensorModeRead
  exact by
    (try dsimp only)
    split
    · exact (State.twNext_foot _ _ _).after ((State.setSensor_foot _ _ _).after .same)
    · exact (State.twNext_foot _ _ _).after ((State.sensorFails_foot _ _ _ _).after ((State.setSensor_foot _ _
        _).after .same))

theorem State.legacyReport_foot (s : State) (k : Nat) (acLost : Bool) : Foot 0x10000 s (s.legacyReport k acLost) := by
  unfold State.legacyReport
  exact (State.rectReport_foot _ _ _ _ _ _ _ _).after (.ite .same ((State.rectJoin_foot _ _).after .same))

theorem State.legacyPart_foot (s : State) (port k part : Nat) (data : Bytes) :
    Foot 0x73DDBFE9 s (s.legacyPart port k part data) := by
  unfold State.legacyPart
  exact by
    (try dsimp only)
    split
    · exact by
        (try dsimp only)
        split
        · exact (State.twNext_foot _ _ _).after ((State.setRect_foot _ _ _).after .same)
        · exact (State.twNext_foot _ _ _).after ((State.legacyFails_foot _ _ _ _).after ((State.setRect_foot _ _
            _).after .same))
    · exact (State.twNext_foot _ _ _).after (.ite ((State.setTwDev_foot _ _ _).after .same) ((State.setTw_foot _ _
        _).after ((State.setTwDev_foot _ _ _).after .same)))
    · exact (State.twNext_foot _ _ _).after ((State.used_foot _).after ((State.setRect_foot _ _ _).after .same))
    · exact (State.twNext_foot _ _ _).after ((State.used_foot _).after ((State.setRect_foot _ _ _).after .same))
    · exact (State.twNext_foot _ _ _).after ((State.used_foot _).after ((State.setRect_foot _ _ _).after .same))
    · exact (State.twNext_foot _ _ _).after (.ite .same ((State.legacyReport_foot _ _ _).after .same))
    · exact (State.twNext_foot _ _ _).after ((State.legacyReport_foot _ _ _).after .same)
    · exact (State.twNext_foot _ _ _).after ((State.setRect_foot _ _ _).after .same)
    · exact (State.twNext_foot _ _ _).after ((State.setRect_foot _ _ _).after .same)

theorem State.alertCame_foot (s : State) (port : Nat) (data : Bytes) : Foot 0x73DDBFE9 s (s.alertCame port data) := by
  unfold State.alertCame
  exact by
    (try dsimp only)
    split
    · exact (State.twNext_foot _ _ _).after ((State.setTw_foot _ _ _).after ((State.twEvent_foot _ _ _ _ _ _).after
        .same))
    · exact (State.twNext_foot _ _ _).after ((State.twEvent_foot _ _ _ _ _ _).after .same)

theorem State.twDone_foot (s : State) (port : Nat) (u : TwUse) (data : Bytes) :
    Foot 0x73DDBFE9 s (s.twDone port u data) := by
  unfold State.twDone
  exact by
    (try dsimp only)
    split
    · exact (State.alertCame_foot _ _ _).after (by
        (try dsimp only)
        split
        · exact (State.setTwDev_foot _ _ _).after .same
        · exact .same)
    · exact (State.twNext_foot _ _ _).after ((State.setTwDev_foot _ _ _).after (by
        (try dsimp only)
        split
        · exact (State.setTwDev_foot _ _ _).after .same
        · exact .same))
    · exact (State.legacyPart_foot _ _ _ _ _).after (by
        (try dsimp only)
        split
        · exact (State.setTwDev_foot _ _ _).after .same
        · exact .same)
    · exact (State.twNext_foot _ _ _).after (by
        (try dsimp only)
        split
        · exact (State.setTwDev_foot _ _ _).after .same
        · exact .same)
    · exact (State.sensorModeRead_foot _ _ _ _ _).after (by
        (try dsimp only)
        split
        · exact (State.setTwDev_foot _ _ _).after .same
        · exact .same)
    · exact (State.twNext_foot _ _ _).after ((State.sensorRead_foot _ _ _ _ _).after (by
        (try dsimp only)
        split
        · exact (State.setTwDev_foot _ _ _).after .same
        · exact .same))
    · exact (State.twNext_foot _ _ _).after ((State.finish_foot _ _ _ _).after (by
        (try dsimp only)
        split
        · exact (State.setTwDev_foot _ _ _).after .same
        · exact .same))

theorem execTwTransactionEnd_foot (port result : Nat) (data : Bytes) (pec : Nat) (s : State) :
    Within 0x73DDBFE9 s (execTwTransactionEnd port result data s pec) :=
  ⟨_, rfl, by
    (try dsimp only)
    split
    · exact .ite .same (.ite ((State.twDone_foot _ _ _ _).after .same) ((State.twFailed_foot _ _ _ _ _).after .same))
    · exact .same
⟩

theorem State.windowFailures_foot (s : State) (port : Nat) : Foot 0x73DDBFE9 s (s.windowFailures port) := by
  unfold State.windowFailures
  exact .each (.each .same fun _ _ h0 => (State.sensorFails_foot _ _ _ _).after h0) fun _ _ h0 =>
      (State.legacyFails_foot _ _ _ _).after h0

theorem State.windowSensors_foot (s : State) (port : Nat) : Foot 0x800000 s (s.windowSensors port).1 := by
  unfold State.windowSensors
  exact .each (.each .same fun _ _ h0 => (State.setSensor_foot _ _ _).after h0) fun _ _ h0 => (State.setSensor_foot _
      _ _).after h0

theorem State.windowOpens_foot (s : State) (port : Nat) (alert : Bool) :
    Foot 0x73DDBFE9 s (s.windowOpens port alert) := by
  unfold State.windowOpens
  exact (State.twStart_foot _ _).after ((State.setTw_foot _ _ _).after (.iteFst ((State.windowFailures_foot _
      _).after .same) ((State.windowSensors_foot _ _).after ((State.windowFailures_foot _ _).after .same))))

theorem execTwWindow_foot (port : Nat) (alert : Bool) (s : State) : Within 0x73DDBFE9 s (execTwWindow port alert s) :=
  ⟨_, rfl, .ite .same (.ite ((State.windowOpens_foot _ _ _).after ((State.setTw_foot _ _ _).after .same))
      ((State.setTw_foot _ _ _).after .same))⟩

theorem State.targetDone_foot (s : State) (port : Nat) : Foot 0x60810000 s (s.targetDone port) := by
  unfold State.targetDone
  exact .ite ((State.twStart_foot _ _).after ((State.setTw_foot _ _ _).after .same)) .same

theorem execSmbusTimeout_foot (port : Nat) (s : State) : Within 0x73DDBFE9 s (execSmbusTimeout port s) :=
  ⟨_, rfl, by
    (try dsimp only)
    split
    · exact (State.twFailed_foot _ _ _ _ _).after ((State.twUseEvent_foot _ _ _ _).after .same)
    · exact .ite .same ((State.targetDone_foot _ _).after ((State.twEvent_foot _ _ _ _ _ _).after ((State.setTw_foot
        _ _ _).after .same)))
⟩

theorem execArbitrationLost_foot (port winner : Nat) (inAddress : Bool) (s : State) :
    Within 0x73DDBFE9 s (execArbitrationLost port winner inAddress s) :=
  ⟨_, rfl, by
    (try dsimp only)
    split
    · exact .same
    · exact .ite .same (.ite ((State.twFailed_foot _ _ _ _ _).after ((State.twUseEvent_foot _ _ _ _).after
        ((State.setTw_foot _ _ _).after .same))) ((State.twStart_foot _ _).after ((State.setTw_foot _ _ _).after
        .same)))
⟩

theorem State.transferTimeout_foot (s : State) (mb : Nat) : Foot 0x70910040 s (s.transferTimeout mb) := by
  unfold State.transferTimeout
  exact (State.finish_foot _ _ _ _).after (.each .same fun _ _ h0 => (State.twStart_foot _ _).after
      ((State.setTw_foot _ _ _).after h0))

theorem State.targetReply_foot (s : State) (port cmd : Nat) (block : Bool) (data : Bytes) (len : Nat) :
    Foot 0x60810000 s (s.targetReply port cmd block data len) := by
  unfold State.targetReply
  exact (State.targetDone_foot _ _).after ((State.send_foot _ _).after .same)

theorem Foot.targetWrite {w : Nat} {s0 s : State} {cmd : Nat} {data : Bytes} {p : Option Nat} {f : State → State} (h0
    : Foot w s0 s)
    (hf : ∀ v0, Foot w s0 v0 → Foot w s0 (f v0))
    (hl : Part.within 0x73DDBFE9 w = true := by rfl) : Foot w s0 (s.targetWrite cmd data p f) := by
  unfold State.targetWrite
  exact .ite ((State.twEvent_foot _ _ _ _ _ _).after (hm := Part.within_trans hl rfl) ((State.setTw_foot _ _ _).after
      (hm := Part.within_trans hl rfl) h0)) (hf _ h0)

theorem execTargetStatus_foot (port len : Nat) (s : State) : Within 0x60810000 s (execTargetStatus port len s) :=
  ⟨_, rfl, .ite ((State.targetReply_foot _ _ _ _ _ _).after .same) .same⟩

theorem execIdent_foot (port len : Nat) (s : State) : Within 0x60810000 s (execIdent port len s) :=
  ⟨_, rfl, .ite ((State.targetReply_foot _ _ _ _ _ _).after .same) .same⟩

theorem execResetCause_foot (len : Nat) (s : State) : Within 0x60810000 s (execResetCause len s) :=
  ⟨_, rfl, .ite ((State.targetReply_foot _ _ _ _ _ _).after .same) .same⟩

theorem execRetention_foot (len : Nat) (s : State) : Within 0x60810000 s (execRetention len s) :=
  ⟨_, rfl, .ite ((State.targetReply_foot _ _ _ _ _ _).after .same) .same⟩

theorem execWakeEnable_foot (len : Nat) (s : State) : Within 0x60810000 s (execWakeEnable len s) :=
  ⟨_, rfl, .ite ((State.targetReply_foot _ _ _ _ _ _).after .same) .same⟩

theorem execWake_foot (data : Nat) (pec : Option Nat) (s : State) : Within 0x73DDBFE9 s (execWake data pec s) :=
  ⟨_, rfl, .ite (.targetWrite .same fun _ h0 => .ite ((State.setWake_foot _ _).after h0) ((State.wakeEvent_foot _
      _).after h0)) .same⟩

theorem execLive_foot (port len : Nat) (s : State) : Within 0x60810000 s (execLive port len s) :=
  ⟨_, rfl, .ite ((State.targetReply_foot _ _ _ _ _ _).after .same) .same⟩

theorem State.tw0Nack_foot (s : State) : Foot 0x73DDBFE9 s s.tw0Nack := by
  unfold State.tw0Nack
  exact (State.raise_foot _ _ _ _).after .same

theorem State.synthesise_foot (s : State) (st : Status) : Foot 0x800000 s (s.synthesise st) := by
  unfold State.synthesise
  exact .twC .same (fun _ => by dsimp only; exact memWriteN_wf _ _ _ nil_wf)

theorem State.tw0Ring_foot (s : State) (n : Nat) : Foot 0x73DDBFE9 s (s.tw0Ring n) := by
  unfold State.tw0Ring
  exact (State.drainUnknown_foot _ _).after ((State.ring_foot _ _ _ _ _ _).after (.updateC .same (hh :=
      HostPort.canonical_ram _ _ _) (ht := id)))

theorem execMbOffset_foot (value : Nat) (pec : Option Nat) (s : State) :
    Within 0x73DDBFE9 s (execMbOffset value pec s) :=
  ⟨_, rfl, .ite .same (.ite ((State.tw0Nack_foot _).after .same) (.targetWrite .same fun _ h0 => .ite (.tw h0) h0))⟩

theorem execMbWrite_foot (data : Bytes) (pec : Option Nat) (s : State) : Within 0x73DDBFE9 s (execMbWrite data pec s)
    :=
  ⟨_, rfl, .ite .same (.ite ((State.tw0Nack_foot _).after .same) (.targetWrite .same fun _ h0 => .twC h0
      (memWriteN_wf _ _ _)))⟩

theorem execMbGo_foot (data : Nat) (pec : Option Nat) (s : State) : Within 0x73DDBFE9 s (execMbGo data pec s) :=
  ⟨_, rfl, .ite .same (.ite ((State.tw0Nack_foot _).after .same) (.ite .same (.targetWrite .same fun _ h0 => .ite
      ((State.synthesise_foot _ _).after h0) (.ite ((State.synthesise_foot _ _).after h0) (by
        (try dsimp only)
        split
        · exact (State.synthesise_foot _ _).after h0
        · exact (State.tw0Ring_foot _ _).after h0)))))⟩

theorem execMbState_foot (len : Nat) (s : State) : Within 0x60810000 s (execMbState len s) :=
  ⟨_, rfl, .ite ((State.targetReply_foot _ _ _ _ _ _).after .same) .same⟩

theorem execMbRead_foot (len : Nat) (s : State) : Within 0x60810000 s (execMbRead len s) :=
  ⟨_, rfl, .ite (.ite (.tw ((State.used_foot _).after ((State.targetReply_foot _ _ _ _ _ _).after .same)))
      ((State.used_foot _).after ((State.targetReply_foot _ _ _ _ _ _).after .same))) .same⟩

theorem execMbRelease_foot (data : Nat) (pec : Option Nat) (s : State) :
    Within 0x73DDBFE9 s (execMbRelease data pec s) :=
  ⟨_, rfl, .ite .same (.ite ((State.tw0Nack_foot _).after .same) (.ite .same (.targetWrite .same fun _ h0 => .twC (by
        (try dsimp only)
        split
        · exact (State.freeMb_foot _ _).after h0
        · exact h0) (fun _ => nil_wf))))⟩

theorem execAlertResponse_foot (port : Nat) (s : State) : Within 0x20800000 s (execAlertResponse port s) :=
  ⟨_, rfl, .ite (.tw ((State.send_foot _ _).after .same)) .same⟩

theorem execResponderWake_foot (s : State) : Within 0x800000 s (execResponderWake s) :=
  ⟨_, rfl, .ite (.tw .same) .same⟩

theorem execResponderReady_foot (s : State) : Within 0x800000 s (execResponderReady s) :=
  ⟨_, rfl, .ite (.tw .same) .same⟩

theorem execResponderSleep_foot (s : State) : Within 0x800000 s (execResponderSleep s) :=
  ⟨_, rfl, .ite (.tw .same) .same⟩

theorem execTwStatus_foot (mb : Nat) (s : State) : Within 0x73DDBFE9 s (execTwStatus mb s) :=
  ⟨_, rfl, .runOrder .same fun _ _ h0 => .ite ((State.refuse_foot _ _ _).after h0) ((State.reply_foot _ _ _ _).after
      h0)⟩

theorem State.queueTransfer_foot (s : State) (port mb : Nat) : Foot 0x60810000 s (s.queueTransfer port mb) := by
  unfold State.queueTransfer
  exact .ite (.ite ((State.twStart_foot _ _).after ((State.setTw_foot _ _ _).after .same)) ((State.setTw_foot _ _
      _).after .same)) ((State.setTw_foot _ _ _).after .same)

theorem execTwTransfer_foot (mb : Nat) (s : State) : Within 0x73DDBFE9 s (execTwTransfer mb s) :=
  ⟨_, rfl, .runOrder .same fun _ _ h0 => .ite ((State.refuse_foot _ _ _).after h0) (.ite ((State.refuse_foot _ _
      _).after h0) ((State.queueTransfer_foot _ _ _).after ((State.wait_foot _ _ _).after h0)))⟩

end Sys2Proof.Machine
end

