-- ==== Sys2Proof/Laws/FootEthernet.lean ====
section
/-! SUPPORT. Footprints of the state functions of Ethernet.lean. -/
set_option Elab.async false
namespace Sys2Proof.Machine

theorem State.setEthPort_foot (s : State) (p : Nat) (f : EthPort → EthPort) : Foot 0x1000000 s (s.setEthPort p f) :=
    by
  unfold State.setEthPort
  exact .eth .same

theorem execEthLinkUp_foot (port : Nat) (s : State) : Within 0x1000200 s (execEthLinkUp port s) :=
  ⟨_, rfl, .ite ((State.condition_foot _ _ _).after ((State.setEthPort_foot _ _ _).after .same)) .same⟩

theorem execEthLinkDown_foot (port : Nat) (s : State) : Within 0x73DDBFE9 s (execEthLinkDown port s) :=
  ⟨_, rfl, .ite ((State.begin__foot _ _ _ _).after ((State.setEthPort_foot _ _ _).after .same)) .same⟩

theorem execDuplicateAddressDetectionEnd_foot (port : Nat) (duplicate : Bool) (s : State) :
    Within 0x73DDBFE9 s (execDuplicateAddressDetectionEnd port duplicate s) :=
  ⟨_, rfl, .ite (.ite ((State.raise_foot _ _ _ _).after ((State.setEthPort_foot _ _ _).after .same))
      ((State.setEthPort_foot _ _ _).after .same)) .same⟩

theorem execNeighborSolicitation_foot (port target : Nat) (s : State) :
    Within 0x20000000 s (execNeighborSolicitation port target s) :=
  ⟨_, rfl, .ite ((State.send_foot _ _).after .same) .same⟩

theorem execEchoRequest_foot (port : Nat) (body : Bytes) (s : State) :
    Within 0x20000000 s (execEchoRequest port body s) :=
  ⟨_, rfl, .ite ((State.send_foot _ _).after .same) .same⟩

theorem State.dropDatagram_foot (s : State) : Foot 0x73DDBFE9 s s.dropDatagram := by
  unfold State.dropDatagram
  exact (State.raise_foot _ _ _ _).after .same

theorem State.poolReject_foot (s : State) (port : Nat) (f : Bytes) : Foot 0x73DDBFE9 s (s.poolReject port f) := by
  unfold State.poolReject
  exact (State.raise_foot _ _ _ _).after ((State.sendEth_foot _ _ _).after .same)

theorem State.acceptDatagram_foot (s : State) (port n : Nat) (f : Bytes) :
    Foot 0x73DDBFE9 s (s.acceptDatagram port n f) := by
  unfold State.acceptDatagram
  exact (State.drainUnknown_foot _ _).after ((State.ring_foot _ _ _ _ _ _).after (.hostC (.ite (.eth (.ite
      ((State.setSes_foot _ _ _).after .same) .same)) (.ite ((State.setSes_foot _ _ _).after .same) .same))
      (HostPort.canonical_ram _ _ _)))

theorem State.judgeDatagram_foot (s : State) (port : Nat) (f : Bytes) : Foot 0x73DDBFE9 s (s.judgeDatagram port f) :=
    by
  unfold State.judgeDatagram
  exact .ite ((State.dropDatagram_foot _).after .same) (.ite (.ite ((State.sendEth_foot _ _ _).after (.eth .same))
      .same) (by
    (try dsimp only)
    split
    · exact (State.poolReject_foot _ _ _).after .same
    · exact (State.acceptDatagram_foot _ _ _ _).after .same))

theorem execMailboxDatagram_foot (port : Nat) (frame : Bytes) (s : State) :
    Within 0x73DDBFE9 s (execMailboxDatagram port frame s) :=
  ⟨_, rfl, .ite .same (.ite ((State.dropDatagram_foot _).after .same) (.ite ((State.dropDatagram_foot _).after .same)
      ((State.judgeDatagram_foot _ _ _).after .same)))⟩

theorem execPtpAnnounce_foot (a : AnnounceMsg) (s : State) : Within 0x1000000 s (execPtpAnnounce a s) :=
  ⟨_, rfl, .ite .same (by
    (try dsimp only)
    split
    · exact .eth .same
    · exact .ite (.eth .same) (.ite (.eth .same) .same))⟩

theorem State.ptpMeasure_foot (s : State) (t1 t2 : Int) : Foot 0x41000000 s (s.ptpMeasure t1 t2) := by
  unfold State.ptpMeasure
  exact .ite (.eth .same) ((State.used_foot _).after (.eth .same))

theorem execPtpSync_foot (port : Nat) (twoStep : Bool) (t1 t2 : Int) (s : State) :
    Within 0x41000000 s (execPtpSync port twoStep t1 t2 s) :=
  ⟨_, rfl, .ite .same (.ite (.eth .same) ((State.ptpMeasure_foot _ _ _).after .same))⟩

theorem execPtpFollowUp_foot (port : Nat) (t1 : Int) (s : State) : Within 0x41000000 s (execPtpFollowUp port t1 s) :=
  ⟨_, rfl, .ite ((State.ptpMeasure_foot _ _ _).after .same) .same⟩

theorem execDelayReqTimer_foot (t3 : Int) (s : State) : Within 0x21000000 s (execDelayReqTimer t3 s) :=
  ⟨_, rfl, by
    (try dsimp only)
    split
    · exact .ite (.eth ((State.send_foot _ _).after .same)) .same
    · exact .same
⟩

theorem execPtpDelayResp_foot (port : Nat) (t4 : Int) (s : State) : Within 0x1000000 s (execPtpDelayResp port t4 s) :=
  ⟨_, rfl, .ite (.eth .same) .same⟩

theorem execPtpHoldover_foot (s : State) : Within 0x73DDBFE9 s (execPtpHoldover s) :=
  ⟨_, rfl, .ite ((State.raise_foot _ _ _ _).after (.eth .same)) .same⟩

theorem execHoldoverExpiry_foot (s : State) : Within 0x1000000 s (execHoldoverExpiry s) :=
  ⟨_, rfl, .ite (.eth .same) .same⟩

end Sys2Proof.Machine
end

