-- ==== Sys2Proof/Laws/FootJtag.lean ====
section
/-! SUPPORT. Footprints of the state functions of Jtag.lean. -/
set_option Elab.async false
namespace Sys2Proof.Machine

theorem State.setInstr_foot (s : State) (code : Nat) : Foot 0x2000000 s (s.setInstr code) := by
  unfold State.setInstr
  exact .dbg .same

theorem State.instrRefused_foot (s : State) : Foot 0x73DDBFE9 s s.instrRefused := by
  unfold State.instrRefused
  exact (State.raise_foot _ _ _ _).after ((State.setInstr_foot _ _).after .same)

theorem State.shiftOut_foot (s : State) (d : Bytes) : Foot 0x20000000 s (s.shiftOut d) := by
  unfold State.shiftOut
  exact (State.send_foot _ _).after .same

theorem execTapReset_foot (s : State) : Within 0x2000011 s (execTapReset s) := by
  unfold execTapReset
  refine ⟨_, rfl, ?_⟩
  dsimp only
  exact .ite ((State.startPending_foot _).after (.update ((State.setInstr_foot _ _).after .same)))
      ((State.setInstr_foot _ _).after .same)

theorem execBypass_foot (code : Nat) (s : State) : Within 0x73DDBFE9 s (execBypass code s) :=
  ⟨_, rfl, .ite .same (.ite ((State.setInstr_foot _ _).after .same) ((State.instrRefused_foot _).after .same))⟩

theorem execIdcode_foot (s : State) : Within 0x22000000 s (execIdcode s) :=
  ⟨_, rfl, .ite ((State.shiftOut_foot _ _).after ((State.setInstr_foot _ _).after .same)) .same⟩

theorem execSamplePreload_foot (cells : Bytes) (s : State) : Within 0x62000000 s (execSamplePreload cells s) :=
  ⟨_, rfl, .ite ((State.used_foot _).after (.dbg ((State.shiftOut_foot _ _).after ((State.setInstr_foot _ _).after
      .same)))) .same⟩

theorem State.scanEnter_foot (s : State) : Foot 0x1FFFFFFD s s.scanEnter := by
  unfold State.scanEnter
  exact .ite .same (.update ((State.resetToKeep_foot _ _).after ((State.lowAll_foot _ _).after .same)))

theorem State.scanInstr_foot (s : State) (code : Nat) : Foot 0x7FFFFFFD s (s.scanInstr code) := by
  unfold State.scanInstr
  exact .ite .same (.ite ((State.setInstr_foot _ _).after ((State.scanEnter_foot _).after .same))
      ((State.instrRefused_foot _).after .same))

theorem execExtest_foot (s : State) : Within 0x7FFFFFFD s (execExtest s) :=
  ⟨_, rfl, (State.scanInstr_foot _ _).after .same⟩

theorem execIntest_foot (s : State) : Within 0x7FFFFFFD s (execIntest s) :=
  ⟨_, rfl, (State.scanInstr_foot _ _).after .same⟩

theorem execClamp_foot (s : State) : Within 0x7FFFFFFD s (execClamp s) :=
  ⟨_, rfl, (State.scanInstr_foot _ _).after .same⟩

theorem execHighz_foot (s : State) : Within 0x7FFFFFFD s (execHighz s) :=
  ⟨_, rfl, (State.scanInstr_foot _ _).after .same⟩

theorem execExtestPulse_foot (s : State) : Within 0x7FFFFFFD s (execExtestPulse s) :=
  ⟨_, rfl, (State.scanInstr_foot _ _).after .same⟩

theorem execExtestTrain_foot (s : State) : Within 0x7FFFFFFD s (execExtestTrain s) :=
  ⟨_, rfl, (State.scanInstr_foot _ _).after .same⟩

theorem execDapacc_foot (dbgen : Bool) (s : State) : Within 0x73DDBFE9 s (execDapacc dbgen s) :=
  ⟨_, rfl, .ite (.power .same) (.ite ((State.setInstr_foot _ _).after (.power .same)) ((State.instrRefused_foot
      _).after (.power .same)))⟩

theorem State.dapResult_foot (s : State) (space addr op : Nat) (err : Bool) (value : Nat) :
    Foot 0x22000000 s (s.dapResult space addr op err value) := by
  unfold State.dapResult
  exact .dbg ((State.shiftOut_foot _ _).after .same)

theorem State.dapRefused_foot (s : State) (space addr op : Nat) : Foot 0x73DDBFE9 s (s.dapRefused space addr op) := by
  unfold State.dapRefused
  exact (State.raise_foot _ _ _ _).after ((State.dapResult_foot _ _ _ _ _ _).after .same)

theorem State.dapReadWord_foot (s : State) (space addr op : Nat) : Foot 0x73FDBFE9 s (s.dapReadWord space addr op) :=
    by
  unfold State.dapReadWord
  exact .ite ((State.dapResult_foot _ _ _ _ _ _).after .same) (.ite ((State.used_foot _).after ((State.dapResult_foot
      _ _ _ _ _ _).after .same)) ((State.dapResult_foot _ _ _ _ _ _).after (.ite .same ((State.readAll_foot _ _
      _).after .same))))

theorem execDapRead_foot (space addr : Nat) (s : State) : Within 0x73FDBFE9 s (execDapRead space addr s) :=
  ⟨_, rfl, .ite .same (.ite ((State.dapReadWord_foot _ _ _ _).after .same) ((State.dapRefused_foot _ _ _ _).after
      .same))⟩

theorem execDapQuietRead_foot (space addr : Nat) (s : State) : Within 0x73FDBFE9 s (execDapQuietRead space addr s) :=
  ⟨_, rfl, .ite .same (.ite ((State.dapReadWord_foot _ _ _ _).after .same) ((State.dapRefused_foot _ _ _ _).after
      .same))⟩

theorem execDapWrite_foot (space addr value : Nat) (s : State) :
    Within 0x73FDBFE9 s (execDapWrite space addr value s) :=
  ⟨_, rfl, .ite .same (.ite ((State.dapRefused_foot _ _ _ _).after .same) (.ite ((State.dapResult_foot _ _ _ _ _
      _).after .same) (.ite ((State.used_foot _).after ((State.dapResult_foot _ _ _ _ _ _).after (.dbg .same)))
      ((State.dapResult_foot _ _ _ _ _ _).after ((State.alertSettle_foot _).after ((State.writeCut_foot _ _).after
      .same))))))⟩

theorem execDbgenFall_foot (s : State) : Within 0x73DDBFE9 s (execDbgenFall s) :=
  ⟨_, rfl, (State.drainUnknown_foot _ _).after ((State.releaseHalts_foot _).after (.power .same))⟩

theorem execHaltRequest_foot (pair : Nat) (s : State) : Within 0x73DDBFE9 s (execHaltRequest pair s) := by
  unfold execHaltRequest
  refine ⟨_, rfl, ?_⟩
  dsimp only
  exact .ite .same (.ite ((State.raise_foot _ _ _ _).after .same) (.ite (.update .same) ((State.begin__foot _ _ _
      _).after (.update .same))))

theorem execHaltRelease_foot (pair : Nat) (s : State) : Within 0x73DDBFE9 s (execHaltRelease pair s) :=
  ⟨_, rfl, .ite (.ite ((State.drainUnknown_foot _ _).after ((State.flushReplies_foot _).after ((State.condition_foot
      _ _ _).after (.boot (.dbg .same))))) (.dbg .same)) .same⟩

theorem execSemaphoreTimeout_foot (n pair : Nat) (s : State) : Within 0x73DDBFE9 s (execSemaphoreTimeout n pair s) :=
  ⟨_, rfl, .ite ((State.raise_foot _ _ _ _).after (.dbg .same)) .same⟩

end Sys2Proof.Machine
end

