-- ==== Sys2Proof/Laws/FootConfigure.lean ====
section
/-! SUPPORT. Footprints of the state functions of Configure.lean. -/
set_option Elab.async false
namespace Sys2Proof.Machine

theorem State.judgeKeys_foot (s : State) : Foot 0x73DDBFE9 s s.judgeKeys := by
  unfold State.judgeKeys
  exact .ite ((State.raise_foot _ _ _ _).after (.update .same)) (.update .same)

theorem State.restoreStagings_foot (s : State) : Foot 0x10000 s s.restoreStagings := by
  unfold State.restoreStagings
  exact .fold .same fun _ _ h0 => (State.restoreStaging_foot _ _).after h0

theorem State.configureWork_foot (s : State) : Foot 0x73DDBFFF s s.configureWork := by
  unfold State.configureWork
  exact .power ((State.restoreStagings_foot _).after ((State.restoreGauge_foot _).after ((State.judgeKeys_foot
      _).after ((State.powerDomains_foot _ _).after ((State.loadDescription_foot _).after .same)))))

theorem State.startClusters_foot (s : State) : Foot 0x1000 s s.startClusters := by
  unfold State.startClusters
  exact .each .same fun _ _ h0 => (State.defaultCapture_foot _ _).after ((State.setCluster_foot _ _ _).after h0)

theorem State.bootRecords_foot (s : State) : Foot 0x100 s s.bootRecords := by
  unfold State.bootRecords
  exact .ite ((State.recordFor_foot _ _ _ _ _).after (.ite ((State.record_foot _ _ _ _).after .same)
      ((State.recordFor_foot _ _ _ _ _).after ((State.record_foot _ _ _ _).after .same)))) (.ite ((State.record_foot
      _ _ _ _).after .same) ((State.recordFor_foot _ _ _ _ _).after ((State.record_foot _ _ _ _).after .same)))

theorem State.confirmSlot_foot (s : State) : Foot 0x40000020 s s.confirmSlot := by
  unfold State.confirmSlot
  exact .ite (.boot ((State.tableCut_foot _).after .same)) .same

theorem State.beginClaim_foot (s : State) (auto : Bool) : Foot 0x100000 s (s.beginClaim auto) := by
  unfold State.beginClaim
  exact .sluice .same

theorem State.autoRun_foot (s : State) : Foot 0x329C8FE1 s s.autoRun := by
  unfold State.autoRun
  exact .ite (.ite ((State.setMode_foot _ _ _ _).after .same) ((State.beginClaim_foot _ _).after .same)) .same

theorem execConfigureEntry_foot (rtcNs : Nat) (s : State) : Within 0x73DDBFFF s (execConfigureEntry s rtcNs) :=
  ⟨_, rfl, .ite ((State.autoRun_foot _).after ((State.confirmSlot_foot _).after ((State.bootRecords_foot _).after
      ((State.used_foot _).after (.tide ((State.startClusters_foot _).after ((State.configureWork_foot _).after
      (.host ((State.enterMode_foot _ _).after ((State.rtcRuns_foot _ _).after .same)))))))))) .same⟩

theorem State.leaveService_foot (s : State) (trigger : Nat) : Foot 0x73DDBFFF s (s.leaveService trigger) := by
  unfold State.leaveService
  exact .ite ((State.configureWork_foot _).after ((State.setMode_foot _ _ _ _).after .same)) ((State.setMode_foot _ _
      _ _).after .same)

theorem State.endSession_foot (s : State) (n : Nat) : Foot 0x73DDBFFF s (s.endSession n) := by
  unfold State.endSession
  exact .ite ((State.autoRun_foot _).after ((State.leaveService_foot _ _).after (.ite ((State.closeEdit_foot _).after
      (.log ((State.setSes_foot _ _ _).after .same))) (.log ((State.setSes_foot _ _ _).after .same))))) (.ite
      ((State.closeEdit_foot _).after (.log ((State.setSes_foot _ _ _).after .same))) (.log ((State.setSes_foot _ _
      _).after .same)))

theorem execSessionIdleExpiry_foot (session : Nat) (s : State) :
    Within 0x73DDBFFF s (execSessionIdleExpiry session s) :=
  ⟨_, rfl, .ite ((State.endSession_foot _ _).after .same) .same⟩

theorem execProofTimeout_foot (session : Nat) (s : State) : Within 0x73DDBFFF s (execProofTimeout session s) :=
  ⟨_, rfl, .ite ((State.endSession_foot _ _).after .same) .same⟩

theorem State.failProof_foot (s : State) (q : Req) : Foot 0x73DDBFFF s (s.failProof q) := by
  unfold State.failProof
  exact (State.endSession_foot _ _).after ((State.refuse_foot _ _ _).after ((State.raise_foot _ _ _ _).after (.host
      ((State.record_foot _ _ _ _).after .same))))

theorem execSessionProve_foot (mb : Nat) (s : State) : Within 0x73DDBFFF s (execSessionProve mb s) :=
  ⟨_, rfl, .runOrder .same fun _ _ h0 => .ite ((State.refuse_foot _ _ _).after h0) (.ite ((State.refuse_foot _ _
      _).after h0) (by
        (try dsimp only)
        split
        · exact (State.failProof_foot _ _).after h0
        · exact .ite ((State.reply_foot _ _ _ _).after ((State.setSes_foot _ _ _).after h0)) ((State.failProof_foot _
            _).after h0)))⟩

theorem execSessionClose_foot (mb : Nat) (s : State) : Within 0x73DDBFFF s (execSessionClose mb s) :=
  ⟨_, rfl, .runOrder .same fun _ _ h0 => .ite ((State.refuse_foot _ _ _).after h0) ((State.endSession_foot _ _).after
      ((State.reply_foot _ _ _ _).after h0))⟩

end Sys2Proof.Machine
end

