-- ==== Sys2Proof/Laws/FootModeRows.lean ====
section
/-! SUPPORT. Footprints of the state functions of ModeRows.lean. -/
set_option Elab.async false
namespace Sys2Proof.Machine

theorem execModeGet_foot (mb : Nat) (s : State) : Within 0x73DDBFE9 s (execModeGet mb s) :=
  ⟨_, rfl, .runOrder .same fun _ _ h0 => .ite ((State.refuse_foot _ _ _).after h0) ((State.reply_foot _ _ _ _).after
      h0)⟩

theorem State.answerMode_foot (s : State) (q : Req) : Foot 0x73DDBFE9 s (s.answerMode q) := by
  unfold State.answerMode
  exact (State.reply_foot _ _ _ _).after .same

theorem State.beginShutdown_foot (s : State) (q : Req) (t : Mode) : Foot 0x3FFFFFFD s (s.beginShutdown q t) := by
  unfold State.beginShutdown
  exact (State.advanceShutdown_foot _).after (.ite ((State.settle_foot _).after (.each ((State.clearWanted_foot
      _).after (.power ((State.wait_foot _ _ _).after .same))) fun _ _ h0 => (State.orderStop_foot _ _ _).after h0))
      ((State.clearWanted_foot _).after (.power ((State.wait_foot _ _ _).after .same))))

theorem State.changeMode_foot (s : State) (q : Req) (t : Mode) : Foot 0x7FFFFFFF s (s.changeMode q t) := by
  unfold State.changeMode
  exact by
    (try dsimp only)
    split
    · exact (State.beginShutdown_foot _ _ _).after .same
    · exact (State.beginShutdown_foot _ _ _).after .same
    · exact (State.answerMode_foot _ _).after (.power ((State.setMode_foot _ _ _ _).after .same))
    · exact .ite ((State.autoRun_foot _).after ((State.answerMode_foot _ _).after ((State.leaveService_foot _
        _).after .same))) (.ite ((State.answerMode_foot _ _).after ((State.setMode_foot _ _ _ _).after .same))
        ((State.beginClaim_foot _ _).after ((State.wait_foot _ _ _).after .same)))
    · exact .ite ((State.autoRun_foot _).after ((State.answerMode_foot _ _).after ((State.leaveService_foot _
        _).after .same))) ((State.autoRun_foot _).after ((State.answerMode_foot _ _).after ((State.configureWork_foot
        _).after ((State.setMode_foot _ _ _ _).after .same))))

theorem execModeSet_foot (mb : Nat) (s : State) : Within 0x7FFFFFFF s (execModeSet mb s) :=
  ⟨_, rfl, .runOrder .same fun _ _ h0 => .ite ((State.refuse_foot _ _ _).after h0) (by
        (try dsimp only)
        split
        · exact (State.refuse_foot _ _ _).after h0
        · exact by
            (try dsimp only)
            split
            · exact (State.answerMode_foot _ _).after h0
            · exact (State.refuse_foot _ _ _).after (.ite h0 ((State.triggerIgnored_foot _ _).after h0))
            · exact (State.refuse_foot _ _ _).after h0
            · exact (State.changeMode_foot _ _ _).after h0)⟩

theorem State.writeEnded_foot (s : State) (w : Waiting) (ok : Bool) (stage left : Nat) :
    Foot 0x7FFFFFFF s (s.writeEnded w ok stage left) := by
  unfold State.writeEnded
  exact by
    (try dsimp only)
    split
    · exact (State.commitStored_foot _ _ _).after .same
    · exact (State.commitDone_foot _ _ _).after .same
    · exact (State.otpProgrammed_foot _ _ _ _ _).after .same
    · exact (State.lifecycleDone_foot _ _ _ _ _ _).after .same
    · exact .ite ((State.keyInstalled_foot _ _ _ _).after .same) ((State.finish_foot _ _ _ _).after .same)
    · exact .ite ((State.rootInstalled_foot _ _ _).after .same) ((State.finish_foot _ _ _ _).after .same)
    · exact (State.fwWriteStep_foot _ _ _ _ _ _).after .same
    · exact (State.fwCommitStep_foot _ _ _ _).after .same
    · exact .ite ((State.logCleared_foot _ _ _).after .same) ((State.finish_foot _ _ _ _).after .same)
    · exact .ite ((State.logFormatted_foot _ _ _).after .same) ((State.finish_foot _ _ _ _).after .same)
    · exact .same

theorem execExternalWriteComplete_foot (mb : Nat) (ok : Bool) (stage left : Nat) (s : State) :
    Within 0x7FFFFFFF s (execExternalWriteComplete mb ok s stage left) :=
  ⟨_, rfl, .ite .same (.ite (.ite .same (.ite ((State.appliedRetry_foot _ _).after .same) (.ite
      ((State.adoptionStored_foot _ _).after .same) (.ite ((State.tableWritten_foot _).after .same) .same)))) (by
    (try dsimp only)
    split
    · exact .ite .same ((State.writeEnded_foot _ _ _ _ _).after .same)
    · exact .same))⟩

theorem execExternalWriteTimeout_foot (mb : Nat) (s : State) : Within 0x7FFFFFFF s (execExternalWriteTimeout mb s) :=
  ⟨_, rfl, .ite .same (by
    (try dsimp only)
    split
    · exact by
        (try dsimp only)
        split
        · exact (State.transferTimeout_foot _ _).after .same
        · exact .same
        · exact .same
        · exact .ite .same ((State.writeEnded_foot _ _ _ _ _).after .same)
    · exact .same)⟩

end Sys2Proof.Machine
end

