-- ==== Sys2Proof/Laws/FootTideBoundary.lean ====
section
/-! SUPPORT. Footprints of the state functions of TideBoundary.lean. -/
set_option Elab.async false
namespace Sys2Proof.Machine

theorem State.advanceRtc_foot (s : State) (cycles gapNs : Nat) : Foot 0x2 s (s.advanceRtc cycles gapNs) := by
  unfold State.advanceRtc
  exact (State.rtcRuns_foot _ _).after .same

theorem State.setRtc_foot (s : State) (ns : Nat) : Foot 0x80003 s (s.setRtc ns) := by
  unfold State.setRtc
  exact .update .same

theorem State.setExt_foot (s : State) (e : Nat) : Foot 0x4 s (s.setExt e) := by
  unfold State.setExt
  exact .clocks .same

theorem State.nextEpoch_foot (s : State) : Foot 0x4 s s.nextEpoch := by
  unfold State.nextEpoch
  exact .ite ((State.setExt_foot _ _).after .same) (.clocks ((State.setExt_foot _ _).after .same))

theorem State.stepRtc_foot (s : State) : Foot 0x1080003 s s.stepRtc := by
  unfold State.stepRtc
  exact by
    (try dsimp only)
    split
    · exact (State.setRtc_foot _ _).after (.eth .same)
    · exact .same

theorem State.timeMark_foot (s : State) : Foot 0x100 s s.timeMark := by
  unfold State.timeMark
  exact .log ((State.offerAs_foot _ _).after .same)

theorem State.markTime_foot (s : State) (changed : Bool) : Foot 0x140 s (s.markTime changed) := by
  unfold State.markTime
  exact .ite ((State.timeMark_foot _).after (.ite (.host .same) .same)) (.ite (.host .same) .same)

theorem State.endTide_foot (s : State) (raws : List Int) (ovr clk : Nat) :
    Foot 0x73DDBFE9 s (s.endTide raws ovr clk) := by
  unfold State.endTide
  exact (State.tidelineTide_foot _).after (.each (.each ((State.shuntTide_foot _).after ((State.latchTide_foot
      _).after ((State.readRaws_foot _ _ _ _).after .same))) fun _ _ h0 => (State.setCluster_foot _ _ _).after h0)
      fun _ _ h0 => (State.setOut_foot _ _ _).after h0)

theorem State.latchContribs_foot (s : State) (e : Nat) (slewed : Bool) :
    Foot 0x44200200 s (s.latchContribs e slewed) := by
  unfold State.latchContribs
  exact .update ((State.latchLedger_foot _ _ _).after .same)

theorem State.clearTide_foot (s : State) : Foot 0x181E05 s s.clearTide := by
  unfold State.clearTide
  exact .update .same (hg := chansApart_mapVals _ _ (fun _ => rfl) fun _ _ h => h)

theorem State.overRange_foot (s : State) : Foot 0x80000 s s.overRange := by
  unfold State.overRange
  exact .each .same fun _ _ h0 => (State.setString_foot _ _ _).after h0

theorem State.timeSetDone_foot (s : State) (mb ns : Nat) : Foot 0x30980143 s (s.timeSetDone mb ns) := by
  unfold State.timeSetDone
  exact (State.finish_foot _ _ _ _).after ((State.setRtc_foot _ _).after (.ite ((State.record_foot _ _ _ _).after
      .same) .same))

theorem State.applyProposal_foot (s : State) (k how : Nat) : Foot 0x1DD1D97 s (s.applyProposal k how) := by
  unfold State.applyProposal
  exact (State.record_foot _ _ _ _).after ((State.setOut_foot _ _ _).after ((State.changeDescription_foot _ _
      _).after .same))

theorem State.announce_foot (s : State) (k : Nat) : Foot 0x800 s (s.announce k) := by
  unfold State.announce
  exact (State.setOut_foot _ _ _).after .same

theorem State.chanApplyDone_foot (s : State) (mb k : Nat) : Foot 0x31DD1DD7 s (s.chanApplyDone mb k) := by
  unfold State.chanApplyDone
  exact .ite ((State.finish_foot _ _ _ _).after .same) (.ite (.ite (.waiting ((State.announce_foot _ _).after .same))
      ((State.finish_foot _ _ _ _).after ((State.applyProposal_foot _ _ _).after .same))) ((State.finish_foot _ _ _
      _).after .same))

theorem State.applyAutomatic_foot (s : State) : Foot 0x1DD1D97 s s.applyAutomatic := by
  unfold State.applyAutomatic
  exact .each .same fun _ _ h0 => .ite h0 (.ite (.ite ((State.announce_foot _ _).after h0) ((State.applyProposal_foot
      _ _ _).after h0)) ((State.setOut_foot _ _ _).after h0))

theorem State.takeEffect_foot (s : State) (w : Waiting) : Foot 0x31DFDDD7 s (s.takeEffect w) := by
  unfold State.takeEffect
  exact by
    (try dsimp only)
    split
    · exact (State.liveSetDone_foot _ _ _).after .same
    · exact (State.commitApply_foot _ _).after .same
    · exact (State.timeSetDone_foot _ _ _).after .same
    · exact (State.chanStarted_foot _ _ _).after .same
    · exact (State.chanStopped_foot _ _ _ _).after .same
    · exact (State.chanCleared_foot _ _ _).after .same
    · exact (State.chanApplyDone_foot _ _ _).after .same
    · exact (State.budgetShedDone_foot _ _ _).after .same
    · exact (State.budgetRestoreDone_foot _ _ _).after .same
    · exact (State.gaugeProbeDone_foot _ _ _ _ _ _).after .same
    · exact (State.finish_foot _ _ _ _).after ((State.endProbe_foot _ _).after .same)
    · exact (State.finish_foot _ _ _ _).after ((State.wakeGauge_foot _ _ _).after .same)
    · exact (State.gaugeReseedDone_foot _ _ _ _).after .same
    · exact (State.rectWithdrawDone_foot _ _ _ _).after .same
    · exact (State.rectRotateDone_foot _ _).after .same
    · exact (State.rectForgetDone_foot _ _ _).after .same
    · exact .same

theorem State.boundaryOrder_foot (s : State) (w : Waiting) : Foot 0x31DFDDD7 s (s.boundaryOrder w) := by
  unfold State.boundaryOrder
  exact by
    (try dsimp only)
    split
    · exact .ite ((State.takeEffect_foot _ _).after .same) ((State.finish_foot _ _ _ _).after .same)
    · exact (State.takeEffect_foot _ _).after .same

theorem State.boundaryOrders_foot (s : State) (hot : Nat) : Foot 0x31DFDDD7 s (s.boundaryOrders hot) := by
  unfold State.boundaryOrders
  exact .fold (.waiting .same) fun _ _ h0 => (State.boundaryOrder_foot _ _).after h0

theorem State.setWindow_foot (s : State) (k : Nat) : Foot 0x800 s (s.setWindow k) := by
  unfold State.setWindow
  exact (State.setOut_foot _ _ _).after .same

theorem State.setWindows_foot (s : State) : Foot 0x2A00 s s.setWindows := by
  unfold State.setWindows
  exact (State.condition_foot _ _ _).after ((State.condition_foot _ _ _).after (.scan (.each .same fun _ _ h0 =>
      (State.setWindow_foot _ _).after h0)))

theorem State.windowsOld_foot (s : State) : Foot 0x73DDBFE9 s s.windowsOld := by
  unfold State.windowsOld
  exact .ite ((State.begin__foot _ _ _ _).after (.scan .same)) (.scan .same)

theorem State.planStep_foot (s : State) : Foot 0x30100 s s.planStep := by
  unfold State.planStep
  exact .ite ((State.stagePlan_foot _).after ((State.planTide_foot _).after .same)) ((State.planTide_foot _).after
      .same)

theorem State.capStep_foot (s : State) (stale : List Nat) : Foot 0xDC00 s (s.capStep stale) := by
  unfold State.capStep
  exact .ite .same ((State.capping_foot _ _).after .same)

theorem State.policy_foot (s : State) (stale : List Nat) (hot : Nat) : Foot 0x33DFDFF7 s (s.policy stale hot) := by
  unfold State.policy
  exact .ite ((State.probeGuard_foot _).after ((State.unshedOuts_foot _).after ((State.takeKept_foot _).after
      ((State.capStep_foot _ _).after ((State.planStep_foot _).after ((State.rideStep_foot _).after
      ((State.judgeAc_foot _).after ((State.reckon_foot _).after ((State.applyAutomatic_foot _).after
      ((State.boundaryOrders_foot _ _).after (.ite ((State.applyRuntime_foot _).after ((State.takeLoads_foot _).after
      (.budget .same))) ((State.takeLoads_foot _).after (.budget .same))))))))))))) (.ite ((State.judgeAc_foot
      _).after ((State.boundaryOrders_foot _ _).after .same)) ((State.boundaryOrders_foot _ _).after .same))

theorem State.holdStep_foot (s : State) : Foot 0x329C8FE1 s s.holdStep := by
  unfold State.holdStep
  exact by
    (try dsimp only)
    split
    · exact .ite ((State.setMode_foot _ _ _ _).after (.faults .same)) (.faults .same)
    · exact .same

theorem State.rewriteBanks_foot (s : State) : Foot 0x400 s s.rewriteBanks := by
  unfold State.rewriteBanks
  exact .each .same fun _ _ h0 => .each h0 fun _ _ h1 => (State.setChan_foot _ _ _).after ((State.loadBanks_foot _ _
      _).after h1)

theorem State.ackYield_foot (s : State) : Foot 0x100000 s s.ackYield := by
  unfold State.ackYield
  exact .ite (.sluice .same) .same

theorem State.wardenTide_foot (s : State) (stale : List Nat) (hot : Nat) :
    Foot 0x7FFFFFFF s (s.wardenTide stale hot) := by
  unfold State.wardenTide
  exact .ite ((State.advanceShutdown_foot _).after ((State.ackYield_foot _).after ((State.markTime_foot _ _).after
      ((State.setWindows_foot _).after ((State.rewriteBanks_foot _).after ((State.judgeDiverged_foot _).after
      ((State.adoptDescription_foot _ _).after ((State.superTide_foot _).after ((State.policy_foot _ _ _).after
      ((State.stepRtc_foot _).after (.faults ((State.holdStep_foot _).after ((State.drainUnknown_foot _ _).after
      ((State.flushReplies_foot _).after .same)))))))))))))) ((State.windowsOld_foot _).after .same)

theorem State.aliveTide_foot (s : State) : Foot 0x1 s s.aliveTide := by
  unfold State.aliveTide
  exact .ite (.power .same) .same

theorem State.turnTide_foot (s : State) (raws : List Int) (ovr clk gapNs : Nat) (first : Bool) :
    Foot 0x77FDBFEF s (s.turnTide raws ovr clk gapNs first) := by
  unfold State.turnTide
  exact (State.nextEpoch_foot _).after ((State.advanceRtc_foot _ _ _).after ((State.clearTide_foot _).after
      ((State.overRange_foot _).after (.ite ((State.endTide_foot _ _ _ _).after .same) ((State.latchContribs_foot _ _
      _).after ((State.endTide_foot _ _ _ _).after .same))))))

theorem State.beginTide_foot (s : State) (stale : List Nat) (hot e : Nat) (first : Bool) :
    Foot 0x7FFFFFFF s (s.beginTide stale hot e first) := by
  unfold State.beginTide
  exact .ite (.clocks ((State.aliveTide_foot _).after (.ite ((State.driveShedPins_foot _).after (.budget
      ((State.seedLimited_foot _).after ((State.wardenTide_foot _ _ _).after (.plan ((State.allowanceTide_foot
      _).after ((State.fabricTide_foot _).after .same))))))) (.budget ((State.seedLimited_foot _).after
      ((State.wardenTide_foot _ _ _).after (.plan ((State.allowanceTide_foot _).after ((State.fabricTide_foot
      _).after .same))))))))) ((State.sendSuper_foot _ _).after (.clocks ((State.aliveTide_foot _).after (.ite
      ((State.driveShedPins_foot _).after (.budget ((State.seedLimited_foot _).after ((State.wardenTide_foot _ _
      _).after (.plan ((State.allowanceTide_foot _).after ((State.fabricTide_foot _).after .same))))))) (.budget
      ((State.seedLimited_foot _).after ((State.wardenTide_foot _ _ _).after (.plan ((State.allowanceTide_foot
      _).after ((State.fabricTide_foot _).after .same))))))))))

theorem State.boundary_foot (s : State) (raws : List Int) (ovr clk gapNs hot : Nat) (first : Bool) :
    Foot 0x7FFFFFFF s (s.boundary raws ovr clk gapNs hot first) := by
  unfold State.boundary
  exact (State.beginTide_foot _ _ _ _ _).after ((State.turnTide_foot _ _ _ _ _ _).after .same)

theorem State.readMdio_foot (s : State) (l : List (Option Nat)) : Foot 0x1000000 s (s.readMdio l) := by
  unfold State.readMdio
  exact .ite (.eth .same) .same

theorem execTideBoundary_foot (raws : List Int) (ovr clk gapNs hot : Nat) (mdio : List (Option Nat)) (s : State) :
    Within 0x7FFFFFFF s (execTideBoundary raws ovr clk gapNs s hot mdio) :=
  ⟨_, rfl, .ite ((State.boundary_foot _ _ _ _ _ _ _).after ((State.readMdio_foot _ _).after .same)) .same⟩

end Sys2Proof.Machine
end

