-- ==== Sys2Proof/Laws/Orders.lean ====
section
/-! SUPPORT. What an order row does to a state in which it starts, is turned away, or is not at the front. -/
set_option Elab.async false
namespace Sys2Proof.Machine

/-- An order that starts, and whose payload asks for no more than it may have, is carried out by its body on the state without
its request in the list. -/
theorem State.runOrderWith_starts {s : State} {code mb : Nat} {mayP mayF : Req → State → Bool} (h : s.starts code mb)
    (hp : mayP (s.request mb) s.taken = true) (hf : mayF (s.request mb) s.taken = true) (body : Req → State → State) :
    s.runOrderWith code mb mayP mayF body = (body (s.request mb) s.taken).followed := by
  obtain ⟨h1, h2, h3, h4⟩ := h
  have h5 : s.taken.judge (s.request mb) = none := h4
  have h6 : s.taken.judgeWith (s.request mb) true true = none := by simp [State.judgeWith, h5]
  simp only [State.runOrderWith, State.frontOrder, h1, h2, h3, decide_true, Bool.and_self, if_true]
  show State.drainUnknown 16 (match s.taken.judgeWith (s.request mb) (mayP (s.request mb) s.taken)
      (mayF (s.request mb) s.taken) with
    | some st => s.taken.refuse (s.request mb) st
    | none => body (s.request mb) s.taken) = _
  rw [hp, hf, h6]
  rfl

/-- The same for an order whose payload asks for no privilege or feature beyond its row. -/
theorem State.runOrder_starts {s : State} {code mb : Nat} (h : s.starts code mb) (body : Req → State → State) :
    s.runOrder code mb body = (body (s.request mb) s.taken).followed := State.runOrderWith_starts h rfl rfl body

/-- An order that one of R122's statuses turns away is answered with it. -/
theorem State.runOrder_refused {s : State} {code mb : Nat} {st : Status} (h1 : s.host.orders.head? = some mb)
    (h2 : s.wardenRuns = true) (h3 : (s.request mb).order = code) (h4 : s.judge (s.request mb) = some st)
    (body : Req → State → State) : s.runOrder code mb body = s.answer mb st [] := by
  have h5 : s.taken.judge (s.request mb) = some st := h4
  have h6 : s.taken.judgeWith (s.request mb) true true = some st := by
    simp only [State.judgeWith, h5]
    cases st <;> rfl
  simp only [State.runOrder, State.runOrderWith, State.frontOrder, h1, h2, h3, decide_true, Bool.and_self, if_true]
  show State.drainUnknown 16 (match s.taken.judgeWith (s.request mb) true true with
    | some st => s.taken.refuse (s.request mb) st
    | none => body (s.request mb) s.taken) = _
  rw [h6]
  rfl

/-- An order whose payload asks for more privilege than its session has is answered PRIVILEGE, whatever else applies from
step 4 of R122 on. -/
theorem State.runOrderWith_privilege {s : State} {code mb : Nat} {mayP mayF : Req → State → Bool} (h : s.starts code mb)
    (hp : mayP (s.request mb) s.taken = false) (body : Req → State → State) :
    s.runOrderWith code mb mayP mayF body = s.answer mb .privilege [] := by
  obtain ⟨h1, h2, h3, h4⟩ := h
  have h5 : s.taken.judge (s.request mb) = none := h4
  have h6 : ∀ b, s.taken.judgeWith (s.request mb) false b = some .privilege := by intro b; simp [State.judgeWith, h5]
  simp only [State.runOrderWith, State.frontOrder, h1, h2, h3, decide_true, Bool.and_self, if_true]
  show State.drainUnknown 16 (match s.taken.judgeWith (s.request mb) (mayP (s.request mb) s.taken)
      (mayF (s.request mb) s.taken) with
    | some st => s.taken.refuse (s.request mb) st
    | none => body (s.request mb) s.taken) = _
  rw [hp, h6]
  rfl

/-- One whose payload asks for a feature that is not negotiated is answered NOT_NEGOTIATED. -/
theorem State.runOrderWith_feature {s : State} {code mb : Nat} {mayP mayF : Req → State → Bool} (h : s.starts code mb)
    (hp : mayP (s.request mb) s.taken = true) (hf : mayF (s.request mb) s.taken = false) (body : Req → State → State) :
    s.runOrderWith code mb mayP mayF body = s.answer mb .notNegotiated [] := by
  obtain ⟨h1, h2, h3, h4⟩ := h
  have h5 : s.taken.judge (s.request mb) = none := h4
  have h6 : s.taken.judgeWith (s.request mb) true false = some .notNegotiated := by simp [State.judgeWith, h5]
  simp only [State.runOrderWith, State.frontOrder, h1, h2, h3, decide_true, Bool.and_self, if_true]
  show State.drainUnknown 16 (match s.taken.judgeWith (s.request mb) (mayP (s.request mb) s.taken)
      (mayF (s.request mb) s.taken) with
    | some st => s.taken.refuse (s.request mb) st
    | none => body (s.request mb) s.taken) = _
  rw [hp, hf, h6]
  rfl

/-- An order row whose request is not the oldest accepted one changes nothing. -/
theorem State.runOrderWith_behind {s : State} {code mb : Nat} (h : s.host.orders.head? ≠ some mb)
    (mayP mayF : Req → State → Bool) (body : Req → State → State) : s.runOrderWith code mb mayP mayF body = s := by
  simp [State.runOrderWith, State.frontOrder, h]

/-- The same where the payload asks for nothing beyond its row. -/
theorem State.runOrder_behind {s : State} {code mb : Nat} (h : s.host.orders.head? ≠ some mb)
    (body : Req → State → State) : s.runOrder code mb body = s := State.runOrderWith_behind h _ _ body

/-- With no accepted order left nothing follows. -/
theorem State.followed_none {s : State} (h : s.host.orders = []) : s.followed = s := by
  simp [State.followed, State.drainUnknown, h]

/-- Nothing follows where the oldest accepted order is known and readable. -/
theorem State.followed_known {s : State} {mb : Nat} {l : List Nat} (h : s.host.orders = mb :: l)
    (hb : s.requestBad mb = false) (hk : (orderRow (s.request mb).order).isSome = true) : s.followed = s := by
  have hn : (orderRow (s.request mb).order).isNone = false := by
    cases h' : orderRow (s.request mb).order with
    | none => rw [h'] at hk; cases hk
    | some r => rfl
  have key : ∀ n, State.drainUnknown (n + 1) s = s := by
    intro n
    rw [State.drainUnknown, h]
    simp only [hb, hn]
    cases s.wardenRuns <;> rfl
  exact key 15

end Sys2Proof.Machine
end

