-- ==== Sys2Proof/Laws/State.lean ====
section
/-! SUPPORT. The state's updates, field by field: what each named update leaves alone, by rfl, and what an item reads as
after an update of an item of its table. -/
set_option Elab.async false
namespace Sys2Proof.Machine

/-- What `setChan` leaves alone. -/
@[simp] theorem State.setChan_left (s : State) (k : Nat) (f : Chan → Chan) :
    (s.setChan k f).power = s.power ∧ (s.setChan k f).retained = s.retained ∧ (s.setChan k f).clocks = s.clocks ∧
    (s.setChan k f).hold = s.hold ∧ (s.setChan k f).otp = s.otp ∧ (s.setChan k f).boot = s.boot ∧
    (s.setChan k f).host = s.host ∧ (s.setChan k f).desc = s.desc ∧ (s.setChan k f).log = s.log ∧
    (s.setChan k f).faults = s.faults ∧ (s.setChan k f).out = s.out ∧ (s.setChan k f).cluster = s.cluster ∧
    (s.setChan k f).scan = s.scan ∧ (s.setChan k f).polder = s.polder ∧ (s.setChan k f).budget = s.budget ∧
    (s.setChan k f).rect = s.rect ∧ (s.setChan k f).plan = s.plan ∧ (s.setChan k f).tide = s.tide ∧
    (s.setChan k f).gauge = s.gauge ∧ (s.setChan k f).sluice = s.sluice ∧ (s.setChan k f).ledger = s.ledger ∧
    (s.setChan k f).fabric = s.fabric ∧ (s.setChan k f).tw = s.tw ∧ (s.setChan k f).eth = s.eth ∧
    (s.setChan k f).dbg = s.dbg ∧ (s.setChan k f).latchView = s.latchView ∧
    (s.setChan k f).sealedView = s.sealedView ∧ (s.setChan k f).waiting = s.waiting ∧ (s.setChan k f).sent = s.sent ∧
    (s.setChan k f).freeCount = s.freeCount ∧ (s.setChan k f).pending = s.pending :=
  ⟨rfl, rfl, rfl, rfl, rfl, rfl, rfl, rfl, rfl, rfl, rfl, rfl, rfl, rfl, rfl, rfl, rfl, rfl, rfl, rfl, rfl, rfl, rfl, rfl, rfl, rfl, rfl, rfl, rfl, rfl, rfl⟩

/-- Item `j` after item `k` went through `f`. -/
@[simp] theorem State.chanAt_setChan (s : State) (k : Nat) (f : Chan → Chan) (j : Nat) :
    (s.setChan k f).chanAt j = if j = k then f (s.chanAt k) else s.chanAt j := Tab.get_upd _ _ _ _ _

/-- What `setOut` leaves alone. -/
@[simp] theorem State.setOut_left (s : State) (k : Nat) (f : Out → Out) :
    (s.setOut k f).power = s.power ∧ (s.setOut k f).retained = s.retained ∧ (s.setOut k f).clocks = s.clocks ∧
    (s.setOut k f).hold = s.hold ∧ (s.setOut k f).otp = s.otp ∧ (s.setOut k f).boot = s.boot ∧
    (s.setOut k f).host = s.host ∧ (s.setOut k f).desc = s.desc ∧ (s.setOut k f).log = s.log ∧
    (s.setOut k f).faults = s.faults ∧ (s.setOut k f).chan = s.chan ∧ (s.setOut k f).cluster = s.cluster ∧
    (s.setOut k f).scan = s.scan ∧ (s.setOut k f).polder = s.polder ∧ (s.setOut k f).budget = s.budget ∧
    (s.setOut k f).rect = s.rect ∧ (s.setOut k f).plan = s.plan ∧ (s.setOut k f).tide = s.tide ∧
    (s.setOut k f).gauge = s.gauge ∧ (s.setOut k f).sluice = s.sluice ∧ (s.setOut k f).ledger = s.ledger ∧
    (s.setOut k f).fabric = s.fabric ∧ (s.setOut k f).tw = s.tw ∧ (s.setOut k f).eth = s.eth ∧
    (s.setOut k f).dbg = s.dbg ∧ (s.setOut k f).latchView = s.latchView ∧
    (s.setOut k f).sealedView = s.sealedView ∧ (s.setOut k f).waiting = s.waiting ∧ (s.setOut k f).sent = s.sent ∧
    (s.setOut k f).freeCount = s.freeCount ∧ (s.setOut k f).pending = s.pending :=
  ⟨rfl, rfl, rfl, rfl, rfl, rfl, rfl, rfl, rfl, rfl, rfl, rfl, rfl, rfl, rfl, rfl, rfl, rfl, rfl, rfl, rfl, rfl, rfl, rfl, rfl, rfl, rfl, rfl, rfl, rfl, rfl⟩

/-- Item `j` after item `k` went through `f`. -/
@[simp] theorem State.outAt_setOut (s : State) (k : Nat) (f : Out → Out) (j : Nat) :
    (s.setOut k f).outAt j = if j = k then f (s.outAt k) else s.outAt j := Tab.get_upd _ _ _ _ _

/-- What `setCluster` leaves alone. -/
@[simp] theorem State.setCluster_left (s : State) (k : Nat) (f : Cluster → Cluster) :
    (s.setCluster k f).power = s.power ∧ (s.setCluster k f).retained = s.retained ∧
    (s.setCluster k f).clocks = s.clocks ∧ (s.setCluster k f).hold = s.hold ∧ (s.setCluster k f).otp = s.otp ∧
    (s.setCluster k f).boot = s.boot ∧ (s.setCluster k f).host = s.host ∧ (s.setCluster k f).desc = s.desc ∧
    (s.setCluster k f).log = s.log ∧ (s.setCluster k f).faults = s.faults ∧ (s.setCluster k f).chan = s.chan ∧
    (s.setCluster k f).out = s.out ∧ (s.setCluster k f).scan = s.scan ∧ (s.setCluster k f).polder = s.polder ∧
    (s.setCluster k f).budget = s.budget ∧ (s.setCluster k f).rect = s.rect ∧ (s.setCluster k f).plan = s.plan ∧
    (s.setCluster k f).tide = s.tide ∧ (s.setCluster k f).gauge = s.gauge ∧ (s.setCluster k f).sluice = s.sluice ∧
    (s.setCluster k f).ledger = s.ledger ∧ (s.setCluster k f).fabric = s.fabric ∧ (s.setCluster k f).tw = s.tw ∧
    (s.setCluster k f).eth = s.eth ∧ (s.setCluster k f).dbg = s.dbg ∧
    (s.setCluster k f).latchView = s.latchView ∧ (s.setCluster k f).sealedView = s.sealedView ∧
    (s.setCluster k f).waiting = s.waiting ∧ (s.setCluster k f).sent = s.sent ∧
    (s.setCluster k f).freeCount = s.freeCount ∧ (s.setCluster k f).pending = s.pending :=
  ⟨rfl, rfl, rfl, rfl, rfl, rfl, rfl, rfl, rfl, rfl, rfl, rfl, rfl, rfl, rfl, rfl, rfl, rfl, rfl, rfl, rfl, rfl, rfl, rfl, rfl, rfl, rfl, rfl, rfl, rfl, rfl⟩

/-- Item `j` after item `k` went through `f`. -/
@[simp] theorem State.clusterAt_setCluster (s : State) (k : Nat) (f : Cluster → Cluster) (j : Nat) :
    (s.setCluster k f).clusterAt j = if j = k then f (s.clusterAt k) else s.clusterAt j := Tab.get_upd _ _ _ _ _

/-- What `setPolder` leaves alone. -/
@[simp] theorem State.setPolder_left (s : State) (k : Nat) (f : Polder → Polder) :
    (s.setPolder k f).power = s.power ∧ (s.setPolder k f).retained = s.retained ∧
    (s.setPolder k f).clocks = s.clocks ∧ (s.setPolder k f).hold = s.hold ∧ (s.setPolder k f).otp = s.otp ∧
    (s.setPolder k f).boot = s.boot ∧ (s.setPolder k f).host = s.host ∧ (s.setPolder k f).desc = s.desc ∧
    (s.setPolder k f).log = s.log ∧ (s.setPolder k f).faults = s.faults ∧ (s.setPolder k f).chan = s.chan ∧
    (s.setPolder k f).out = s.out ∧ (s.setPolder k f).cluster = s.cluster ∧ (s.setPolder k f).scan = s.scan ∧
    (s.setPolder k f).budget = s.budget ∧ (s.setPolder k f).rect = s.rect ∧ (s.setPolder k f).plan = s.plan ∧
    (s.setPolder k f).tide = s.tide ∧ (s.setPolder k f).gauge = s.gauge ∧ (s.setPolder k f).sluice = s.sluice ∧
    (s.setPolder k f).ledger = s.ledger ∧ (s.setPolder k f).fabric = s.fabric ∧ (s.setPolder k f).tw = s.tw ∧
    (s.setPolder k f).eth = s.eth ∧ (s.setPolder k f).dbg = s.dbg ∧ (s.setPolder k f).latchView = s.latchView ∧
    (s.setPolder k f).sealedView = s.sealedView ∧ (s.setPolder k f).waiting = s.waiting ∧
    (s.setPolder k f).sent = s.sent ∧ (s.setPolder k f).freeCount = s.freeCount ∧
    (s.setPolder k f).pending = s.pending :=
  ⟨rfl, rfl, rfl, rfl, rfl, rfl, rfl, rfl, rfl, rfl, rfl, rfl, rfl, rfl, rfl, rfl, rfl, rfl, rfl, rfl, rfl, rfl, rfl, rfl, rfl, rfl, rfl, rfl, rfl, rfl, rfl⟩

/-- Item `j` after item `k` went through `f`. -/
@[simp] theorem State.polderAt_setPolder (s : State) (k : Nat) (f : Polder → Polder) (j : Nat) :
    (s.setPolder k f).polderAt j = if j = k then f (s.polderAt k) else s.polderAt j := Tab.get_upd _ _ _ _ _

/-- What `setRect` leaves alone. -/
@[simp] theorem State.setRect_left (s : State) (k : Nat) (f : Rect → Rect) :
    (s.setRect k f).power = s.power ∧ (s.setRect k f).retained = s.retained ∧ (s.setRect k f).clocks = s.clocks ∧
    (s.setRect k f).hold = s.hold ∧ (s.setRect k f).otp = s.otp ∧ (s.setRect k f).boot = s.boot ∧
    (s.setRect k f).host = s.host ∧ (s.setRect k f).desc = s.desc ∧ (s.setRect k f).log = s.log ∧
    (s.setRect k f).faults = s.faults ∧ (s.setRect k f).chan = s.chan ∧ (s.setRect k f).out = s.out ∧
    (s.setRect k f).cluster = s.cluster ∧ (s.setRect k f).scan = s.scan ∧ (s.setRect k f).polder = s.polder ∧
    (s.setRect k f).budget = s.budget ∧ (s.setRect k f).plan = s.plan ∧ (s.setRect k f).tide = s.tide ∧
    (s.setRect k f).gauge = s.gauge ∧ (s.setRect k f).sluice = s.sluice ∧ (s.setRect k f).ledger = s.ledger ∧
    (s.setRect k f).fabric = s.fabric ∧ (s.setRect k f).tw = s.tw ∧ (s.setRect k f).eth = s.eth ∧
    (s.setRect k f).dbg = s.dbg ∧ (s.setRect k f).latchView = s.latchView ∧
    (s.setRect k f).sealedView = s.sealedView ∧ (s.setRect k f).waiting = s.waiting ∧ (s.setRect k f).sent = s.sent ∧
    (s.setRect k f).freeCount = s.freeCount ∧ (s.setRect k f).pending = s.pending :=
  ⟨rfl, rfl, rfl, rfl, rfl, rfl, rfl, rfl, rfl, rfl, rfl, rfl, rfl, rfl, rfl, rfl, rfl, rfl, rfl, rfl, rfl, rfl, rfl, rfl, rfl, rfl, rfl, rfl, rfl, rfl, rfl⟩

/-- Item `j` after item `k` went through `f`. -/
@[simp] theorem State.rectAt_setRect (s : State) (k : Nat) (f : Rect → Rect) (j : Nat) :
    (s.setRect k f).rectAt j = if j = k then f (s.rectAt k) else s.rectAt j := Tab.get_upd _ _ _ _ _

/-- What `setNode` leaves alone. -/
@[simp] theorem State.setNode_left (s : State) (k : Nat) (f : Node → Node) :
    (s.setNode k f).power = s.power ∧ (s.setNode k f).retained = s.retained ∧ (s.setNode k f).clocks = s.clocks ∧
    (s.setNode k f).hold = s.hold ∧ (s.setNode k f).otp = s.otp ∧ (s.setNode k f).boot = s.boot ∧
    (s.setNode k f).host = s.host ∧ (s.setNode k f).desc = s.desc ∧ (s.setNode k f).log = s.log ∧
    (s.setNode k f).faults = s.faults ∧ (s.setNode k f).chan = s.chan ∧ (s.setNode k f).out = s.out ∧
    (s.setNode k f).cluster = s.cluster ∧ (s.setNode k f).scan = s.scan ∧ (s.setNode k f).polder = s.polder ∧
    (s.setNode k f).budget = s.budget ∧ (s.setNode k f).rect = s.rect ∧ (s.setNode k f).plan = s.plan ∧
    (s.setNode k f).gauge = s.gauge ∧ (s.setNode k f).sluice = s.sluice ∧ (s.setNode k f).ledger = s.ledger ∧
    (s.setNode k f).fabric = s.fabric ∧ (s.setNode k f).tw = s.tw ∧ (s.setNode k f).eth = s.eth ∧
    (s.setNode k f).dbg = s.dbg ∧ (s.setNode k f).latchView = s.latchView ∧
    (s.setNode k f).sealedView = s.sealedView ∧ (s.setNode k f).waiting = s.waiting ∧ (s.setNode k f).sent = s.sent ∧
    (s.setNode k f).freeCount = s.freeCount ∧ (s.setNode k f).pending = s.pending :=
  ⟨rfl, rfl, rfl, rfl, rfl, rfl, rfl, rfl, rfl, rfl, rfl, rfl, rfl, rfl, rfl, rfl, rfl, rfl, rfl, rfl, rfl, rfl, rfl, rfl, rfl, rfl, rfl, rfl, rfl, rfl, rfl⟩

/-- What `setNode` leaves alone within its part. -/
@[simp] theorem State.setNode_within (s : State) (k : Nat) (f : Node → Node) :
    (s.setNode k f).tide.cycle = s.tide.cycle ∧ (s.setNode k f).tide.txErr = s.tide.txErr ∧
    (s.setNode k f).tide.rxErr = s.tide.rxErr ∧ (s.setNode k f).tide.quiet = s.tide.quiet ∧
    (s.setNode k f).tide.flags = s.tide.flags ∧ (s.setNode k f).tide.ackLeft = s.tide.ackLeft ∧
    (s.setNode k f).tide.nodeAck = s.tide.nodeAck ∧ (s.setNode k f).tide.slotAck = s.tide.slotAck ∧
    (s.setNode k f).tide.slotNow = s.tide.slotNow ∧ (s.setNode k f).tide.pairSched = s.tide.pairSched ∧
    (s.setNode k f).tide.down = s.tide.down ∧ (s.setNode k f).tide.downHist = s.tide.downHist ∧
    (s.setNode k f).tide.wide = s.tide.wide ∧ (s.setNode k f).tide.wideLeft = s.tide.wideLeft ∧
    (s.setNode k f).tide.quietTide = s.tide.quietTide ∧ (s.setNode k f).tide.stranger = s.tide.stranger ∧
    (s.setNode k f).tide.strangerTides = s.tide.strangerTides ∧
    (s.setNode k f).tide.strangerMap = s.tide.strangerMap ∧ (s.setNode k f).tide.strangerRun = s.tide.strangerRun ∧
    (s.setNode k f).tide.strangerSymbols = s.tide.strangerSymbols ∧
    (s.setNode k f).tide.strangerLast = s.tide.strangerLast ∧ (s.setNode k f).tide.impulse = s.tide.impulse ∧
    (s.setNode k f).tide.impulseLast = s.tide.impulseLast ∧ (s.setNode k f).tide.impulseRun = s.tide.impulseRun ∧
    (s.setNode k f).tide.kg = s.tide.kg ∧ (s.setNode k f).tide.kRoot = s.tide.kRoot ∧
    (s.setNode k f).tide.rootInstalled = s.tide.rootInstalled ∧ (s.setNode k f).tide.packetInit = s.tide.packetInit ∧
    (s.setNode k f).tide.probe = s.tide.probe :=
  ⟨rfl, rfl, rfl, rfl, rfl, rfl, rfl, rfl, rfl, rfl, rfl, rfl, rfl, rfl, rfl, rfl, rfl, rfl, rfl, rfl, rfl, rfl, rfl, rfl, rfl, rfl, rfl, rfl, rfl⟩

/-- Item `j` after item `k` went through `f`. -/
@[simp] theorem State.nodeAt_setNode (s : State) (k : Nat) (f : Node → Node) (j : Nat) :
    (s.setNode k f).nodeAt j = if j = k then f (s.nodeAt k) else s.nodeAt j := Tab.get_upd _ _ _ _ _

/-- What `setConv` leaves alone. -/
@[simp] theorem State.setConv_left (s : State) (k : Nat) (f : Conv → Conv) :
    (s.setConv k f).power = s.power ∧ (s.setConv k f).retained = s.retained ∧ (s.setConv k f).clocks = s.clocks ∧
    (s.setConv k f).hold = s.hold ∧ (s.setConv k f).otp = s.otp ∧ (s.setConv k f).boot = s.boot ∧
    (s.setConv k f).host = s.host ∧ (s.setConv k f).desc = s.desc ∧ (s.setConv k f).log = s.log ∧
    (s.setConv k f).faults = s.faults ∧ (s.setConv k f).chan = s.chan ∧ (s.setConv k f).out = s.out ∧
    (s.setConv k f).cluster = s.cluster ∧ (s.setConv k f).scan = s.scan ∧ (s.setConv k f).polder = s.polder ∧
    (s.setConv k f).budget = s.budget ∧ (s.setConv k f).rect = s.rect ∧ (s.setConv k f).plan = s.plan ∧
    (s.setConv k f).tide = s.tide ∧ (s.setConv k f).sluice = s.sluice ∧ (s.setConv k f).ledger = s.ledger ∧
    (s.setConv k f).fabric = s.fabric ∧ (s.setConv k f).tw = s.tw ∧ (s.setConv k f).eth = s.eth ∧
    (s.setConv k f).dbg = s.dbg ∧ (s.setConv k f).latchView = s.latchView ∧
    (s.setConv k f).sealedView = s.sealedView ∧ (s.setConv k f).waiting = s.waiting ∧ (s.setConv k f).sent = s.sent ∧
    (s.setConv k f).freeCount = s.freeCount ∧ (s.setConv k f).pending = s.pending :=
  ⟨rfl, rfl, rfl, rfl, rfl, rfl, rfl, rfl, rfl, rfl, rfl, rfl, rfl, rfl, rfl, rfl, rfl, rfl, rfl, rfl, rfl, rfl, rfl, rfl, rfl, rfl, rfl, rfl, rfl, rfl, rfl⟩

/-- What `setConv` leaves alone within its part. -/
@[simp] theorem State.setConv_within (s : State) (k : Nat) (f : Conv → Conv) :
    (s.setConv k f).gauge.clk = s.gauge.clk ∧ (s.setConv k f).gauge.strings = s.gauge.strings ∧
    (s.setConv k f).gauge.shuntIn = s.gauge.shuntIn ∧ (s.setConv k f).gauge.shuntV = s.gauge.shuntV ∧
    (s.setConv k f).gauge.shuntFault = s.gauge.shuntFault ∧ (s.setConv k f).gauge.shuntSum = s.gauge.shuntSum ∧
    (s.setConv k f).gauge.shuntCnt = s.gauge.shuntCnt ∧ (s.setConv k f).gauge.hib = s.gauge.hib ∧
    (s.setConv k f).gauge.hibFrom = s.gauge.hibFrom ∧ (s.setConv k f).gauge.probe = s.gauge.probe ∧
    (s.setConv k f).gauge.sinceProbe = s.gauge.sinceProbe ∧ (s.setConv k f).gauge.probeRetry = s.gauge.probeRetry ∧
    (s.setConv k f).gauge.ckptNo = s.gauge.ckptNo ∧ (s.setConv k f).gauge.session = s.gauge.session ∧
    (s.setConv k f).gauge.busV = s.gauge.busV ∧ (s.setConv k f).gauge.cycleAt = s.gauge.cycleAt ∧
    (s.setConv k f).gauge.dip = s.gauge.dip :=
  ⟨rfl, rfl, rfl, rfl, rfl, rfl, rfl, rfl, rfl, rfl, rfl, rfl, rfl, rfl, rfl, rfl, rfl⟩

/-- Item `j` after item `k` went through `f`. -/
@[simp] theorem State.convAt_setConv (s : State) (k : Nat) (f : Conv → Conv) (j : Nat) :
    (s.setConv k f).convAt j = if j = k then f (s.convAt k) else s.convAt j := Tab.get_upd _ _ _ _ _

/-- What `setString` leaves alone. -/
@[simp] theorem State.setString_left (s : State) (k : Nat) (f : BString → BString) :
    (s.setString k f).power = s.power ∧ (s.setString k f).retained = s.retained ∧
    (s.setString k f).clocks = s.clocks ∧ (s.setString k f).hold = s.hold ∧ (s.setString k f).otp = s.otp ∧
    (s.setString k f).boot = s.boot ∧ (s.setString k f).host = s.host ∧ (s.setString k f).desc = s.desc ∧
    (s.setString k f).log = s.log ∧ (s.setString k f).faults = s.faults ∧ (s.setString k f).chan = s.chan ∧
    (s.setString k f).out = s.out ∧ (s.setString k f).cluster = s.cluster ∧ (s.setString k f).scan = s.scan ∧
    (s.setString k f).polder = s.polder ∧ (s.setString k f).budget = s.budget ∧ (s.setString k f).rect = s.rect ∧
    (s.setString k f).plan = s.plan ∧ (s.setString k f).tide = s.tide ∧ (s.setString k f).sluice = s.sluice ∧
    (s.setString k f).ledger = s.ledger ∧ (s.setString k f).fabric = s.fabric ∧ (s.setString k f).tw = s.tw ∧
    (s.setString k f).eth = s.eth ∧ (s.setString k f).dbg = s.dbg ∧ (s.setString k f).latchView = s.latchView ∧
    (s.setString k f).sealedView = s.sealedView ∧ (s.setString k f).waiting = s.waiting ∧
    (s.setString k f).sent = s.sent ∧ (s.setString k f).freeCount = s.freeCount ∧
    (s.setString k f).pending = s.pending :=
  ⟨rfl, rfl, rfl, rfl, rfl, rfl, rfl, rfl, rfl, rfl, rfl, rfl, rfl, rfl, rfl, rfl, rfl, rfl, rfl, rfl, rfl, rfl, rfl, rfl, rfl, rfl, rfl, rfl, rfl, rfl, rfl⟩

/-- What `setString` leaves alone within its part. -/
@[simp] theorem State.setString_within (s : State) (k : Nat) (f : BString → BString) :
    (s.setString k f).gauge.clk = s.gauge.clk ∧ (s.setString k f).gauge.conv = s.gauge.conv ∧
    (s.setString k f).gauge.shuntIn = s.gauge.shuntIn ∧ (s.setString k f).gauge.shuntV = s.gauge.shuntV ∧
    (s.setString k f).gauge.shuntFault = s.gauge.shuntFault ∧ (s.setString k f).gauge.shuntSum = s.gauge.shuntSum ∧
    (s.setString k f).gauge.shuntCnt = s.gauge.shuntCnt ∧ (s.setString k f).gauge.hib = s.gauge.hib ∧
    (s.setString k f).gauge.hibFrom = s.gauge.hibFrom ∧ (s.setString k f).gauge.probe = s.gauge.probe ∧
    (s.setString k f).gauge.sinceProbe = s.gauge.sinceProbe ∧
    (s.setString k f).gauge.probeRetry = s.gauge.probeRetry ∧ (s.setString k f).gauge.ckptNo = s.gauge.ckptNo ∧
    (s.setString k f).gauge.session = s.gauge.session ∧ (s.setString k f).gauge.busV = s.gauge.busV ∧
    (s.setString k f).gauge.cycleAt = s.gauge.cycleAt ∧ (s.setString k f).gauge.dip = s.gauge.dip :=
  ⟨rfl, rfl, rfl, rfl, rfl, rfl, rfl, rfl, rfl, rfl, rfl, rfl, rfl, rfl, rfl, rfl, rfl⟩

/-- Item `j` after item `k` went through `f`. -/
@[simp] theorem State.stringAt_setString (s : State) (k : Nat) (f : BString → BString) (j : Nat) :
    (s.setString k f).stringAt j = if j = k then f (s.stringAt k) else s.stringAt j := Tab.get_upd _ _ _ _ _

/-- What `setMb` leaves alone. -/
@[simp] theorem State.setMb_left (s : State) (k : Nat) (f : Mailbox → Mailbox) :
    (s.setMb k f).power = s.power ∧ (s.setMb k f).retained = s.retained ∧ (s.setMb k f).clocks = s.clocks ∧
    (s.setMb k f).hold = s.hold ∧ (s.setMb k f).otp = s.otp ∧ (s.setMb k f).boot = s.boot ∧
    (s.setMb k f).desc = s.desc ∧ (s.setMb k f).log = s.log ∧ (s.setMb k f).faults = s.faults ∧
    (s.setMb k f).chan = s.chan ∧ (s.setMb k f).out = s.out ∧ (s.setMb k f).cluster = s.cluster ∧
    (s.setMb k f).scan = s.scan ∧ (s.setMb k f).polder = s.polder ∧ (s.setMb k f).budget = s.budget ∧
    (s.setMb k f).rect = s.rect ∧ (s.setMb k f).plan = s.plan ∧ (s.setMb k f).tide = s.tide ∧
    (s.setMb k f).gauge = s.gauge ∧ (s.setMb k f).sluice = s.sluice ∧ (s.setMb k f).ledger = s.ledger ∧
    (s.setMb k f).fabric = s.fabric ∧ (s.setMb k f).tw = s.tw ∧ (s.setMb k f).eth = s.eth ∧
    (s.setMb k f).dbg = s.dbg ∧ (s.setMb k f).latchView = s.latchView ∧ (s.setMb k f).sealedView = s.sealedView ∧
    (s.setMb k f).waiting = s.waiting ∧ (s.setMb k f).sent = s.sent ∧ (s.setMb k f).freeCount = s.freeCount ∧
    (s.setMb k f).pending = s.pending :=
  ⟨rfl, rfl, rfl, rfl, rfl, rfl, rfl, rfl, rfl, rfl, rfl, rfl, rfl, rfl, rfl, rfl, rfl, rfl, rfl, rfl, rfl, rfl, rfl, rfl, rfl, rfl, rfl, rfl, rfl, rfl, rfl⟩

/-- What `setMb` leaves alone within its part. -/
@[simp] theorem State.setMb_within (s : State) (k : Nat) (f : Mailbox → Mailbox) :
    (s.setMb k f).host.txnStatus = s.host.txnStatus ∧ (s.setMb k f).host.irqTxn = s.host.irqTxn ∧
    (s.setMb k f).host.irqButton = s.host.irqButton ∧ (s.setMb k f).host.irqGeneration = s.host.irqGeneration ∧
    (s.setMb k f).host.irqModeChange = s.host.irqModeChange ∧ (s.setMb k f).host.irqSealed = s.host.irqSealed ∧
    (s.setMb k f).host.irqEnable = s.host.irqEnable ∧ (s.setMb k f).host.hostMask = s.host.hostMask ∧
    (s.setMb k f).host.ownMask = s.host.ownMask ∧ (s.setMb k f).host.sealedEpoch = s.host.sealedEpoch ∧
    (s.setMb k f).host.errorCount = s.host.errorCount ∧ (s.setMb k f).host.hrdy = s.host.hrdy ∧
    (s.setMb k f).host.ram = s.host.ram ∧ (s.setMb k f).host.user = s.host.user ∧
    (s.setMb k f).host.userWritten = s.host.userWritten ∧ (s.setMb k f).host.orders = s.host.orders ∧
    (s.setMb k f).host.sessions = s.host.sessions ∧ (s.setMb k f).host.nextSession = s.host.nextSession ∧
    (s.setMb k f).host.hostKey = s.host.hostKey ∧ (s.setMb k f).host.datagramKey = s.host.datagramKey ∧
    (s.setMb k f).host.hostKeyInstalled = s.host.hostKeyInstalled ∧
    (s.setMb k f).host.failedProofs = s.host.failedProofs ∧ (s.setMb k f).host.keyLocked = s.host.keyLocked ∧
    (s.setMb k f).host.negotiated = s.host.negotiated ∧ (s.setMb k f).host.busyRun = s.host.busyRun :=
  ⟨rfl, rfl, rfl, rfl, rfl, rfl, rfl, rfl, rfl, rfl, rfl, rfl, rfl, rfl, rfl, rfl, rfl, rfl, rfl, rfl, rfl, rfl, rfl, rfl, rfl⟩

/-- Item `j` after item `k` went through `f`. -/
@[simp] theorem State.mbAt_setMb (s : State) (k : Nat) (f : Mailbox → Mailbox) (j : Nat) :
    (s.setMb k f).mbAt j = if j = k then f (s.mbAt k) else s.mbAt j := Tab.get_upd _ _ _ _ _

/-- What `setSes` leaves alone. -/
@[simp] theorem State.setSes_left (s : State) (k : Nat) (f : Session → Session) :
    (s.setSes k f).power = s.power ∧ (s.setSes k f).retained = s.retained ∧ (s.setSes k f).clocks = s.clocks ∧
    (s.setSes k f).hold = s.hold ∧ (s.setSes k f).otp = s.otp ∧ (s.setSes k f).boot = s.boot ∧
    (s.setSes k f).desc = s.desc ∧ (s.setSes k f).log = s.log ∧ (s.setSes k f).faults = s.faults ∧
    (s.setSes k f).chan = s.chan ∧ (s.setSes k f).out = s.out ∧ (s.setSes k f).cluster = s.cluster ∧
    (s.setSes k f).scan = s.scan ∧ (s.setSes k f).polder = s.polder ∧ (s.setSes k f).budget = s.budget ∧
    (s.setSes k f).rect = s.rect ∧ (s.setSes k f).plan = s.plan ∧ (s.setSes k f).tide = s.tide ∧
    (s.setSes k f).gauge = s.gauge ∧ (s.setSes k f).sluice = s.sluice ∧ (s.setSes k f).ledger = s.ledger ∧
    (s.setSes k f).fabric = s.fabric ∧ (s.setSes k f).tw = s.tw ∧ (s.setSes k f).eth = s.eth ∧
    (s.setSes k f).dbg = s.dbg ∧ (s.setSes k f).latchView = s.latchView ∧
    (s.setSes k f).sealedView = s.sealedView ∧ (s.setSes k f).waiting = s.waiting ∧ (s.setSes k f).sent = s.sent ∧
    (s.setSes k f).freeCount = s.freeCount ∧ (s.setSes k f).pending = s.pending :=
  ⟨rfl, rfl, rfl, rfl, rfl, rfl, rfl, rfl, rfl, rfl, rfl, rfl, rfl, rfl, rfl, rfl, rfl, rfl, rfl, rfl, rfl, rfl, rfl, rfl, rfl, rfl, rfl, rfl, rfl, rfl, rfl⟩

/-- What `setSes` leaves alone within its part. -/
@[simp] theorem State.setSes_within (s : State) (k : Nat) (f : Session → Session) :
    (s.setSes k f).host.txnStatus = s.host.txnStatus ∧ (s.setSes k f).host.irqTxn = s.host.irqTxn ∧
    (s.setSes k f).host.irqButton = s.host.irqButton ∧ (s.setSes k f).host.irqGeneration = s.host.irqGeneration ∧
    (s.setSes k f).host.irqModeChange = s.host.irqModeChange ∧ (s.setSes k f).host.irqSealed = s.host.irqSealed ∧
    (s.setSes k f).host.irqEnable = s.host.irqEnable ∧ (s.setSes k f).host.hostMask = s.host.hostMask ∧
    (s.setSes k f).host.ownMask = s.host.ownMask ∧ (s.setSes k f).host.mb = s.host.mb ∧
    (s.setSes k f).host.sealedEpoch = s.host.sealedEpoch ∧ (s.setSes k f).host.errorCount = s.host.errorCount ∧
    (s.setSes k f).host.hrdy = s.host.hrdy ∧ (s.setSes k f).host.ram = s.host.ram ∧
    (s.setSes k f).host.user = s.host.user ∧ (s.setSes k f).host.userWritten = s.host.userWritten ∧
    (s.setSes k f).host.orders = s.host.orders ∧ (s.setSes k f).host.nextSession = s.host.nextSession ∧
    (s.setSes k f).host.hostKey = s.host.hostKey ∧ (s.setSes k f).host.datagramKey = s.host.datagramKey ∧
    (s.setSes k f).host.hostKeyInstalled = s.host.hostKeyInstalled ∧
    (s.setSes k f).host.failedProofs = s.host.failedProofs ∧ (s.setSes k f).host.keyLocked = s.host.keyLocked ∧
    (s.setSes k f).host.negotiated = s.host.negotiated ∧ (s.setSes k f).host.busyRun = s.host.busyRun :=
  ⟨rfl, rfl, rfl, rfl, rfl, rfl, rfl, rfl, rfl, rfl, rfl, rfl, rfl, rfl, rfl, rfl, rfl, rfl, rfl, rfl, rfl, rfl, rfl, rfl, rfl⟩

/-- Item `j` after item `k` went through `f`. -/
@[simp] theorem State.sesAt_setSes (s : State) (k : Nat) (f : Session → Session) (j : Nat) :
    (s.setSes k f).sesAt j = if j = k then f (s.sesAt k) else s.sesAt j := Tab.get_upd _ _ _ _ _

/-- What `setTw` leaves alone. -/
@[simp] theorem State.setTw_left (s : State) (k : Nat) (f : TwPort → TwPort) :
    (s.setTw k f).power = s.power ∧ (s.setTw k f).retained = s.retained ∧ (s.setTw k f).clocks = s.clocks ∧
    (s.setTw k f).hold = s.hold ∧ (s.setTw k f).otp = s.otp ∧ (s.setTw k f).boot = s.boot ∧
    (s.setTw k f).host = s.host ∧ (s.setTw k f).desc = s.desc ∧ (s.setTw k f).log = s.log ∧
    (s.setTw k f).faults = s.faults ∧ (s.setTw k f).chan = s.chan ∧ (s.setTw k f).out = s.out ∧
    (s.setTw k f).cluster = s.cluster ∧ (s.setTw k f).scan = s.scan ∧ (s.setTw k f).polder = s.polder ∧
    (s.setTw k f).budget = s.budget ∧ (s.setTw k f).rect = s.rect ∧ (s.setTw k f).plan = s.plan ∧
    (s.setTw k f).tide = s.tide ∧ (s.setTw k f).gauge = s.gauge ∧ (s.setTw k f).sluice = s.sluice ∧
    (s.setTw k f).ledger = s.ledger ∧ (s.setTw k f).fabric = s.fabric ∧ (s.setTw k f).eth = s.eth ∧
    (s.setTw k f).dbg = s.dbg ∧ (s.setTw k f).latchView = s.latchView ∧ (s.setTw k f).sealedView = s.sealedView ∧
    (s.setTw k f).waiting = s.waiting ∧ (s.setTw k f).sent = s.sent ∧ (s.setTw k f).freeCount = s.freeCount ∧
    (s.setTw k f).pending = s.pending :=
  ⟨rfl, rfl, rfl, rfl, rfl, rfl, rfl, rfl, rfl, rfl, rfl, rfl, rfl, rfl, rfl, rfl, rfl, rfl, rfl, rfl, rfl, rfl, rfl, rfl, rfl, rfl, rfl, rfl, rfl, rfl, rfl⟩

/-- What `setTw` leaves alone within its part. -/
@[simp] theorem State.setTw_within (s : State) (k : Nat) (f : TwPort → TwPort) :
    (s.setTw k f).tw.devs = s.tw.devs ∧ (s.setTw k f).tw.sensors = s.tw.sensors ∧
    (s.setTw k f).tw.tState = s.tw.tState ∧ (s.setTw k f).tw.tOffset = s.tw.tOffset ∧
    (s.setTw k f).tw.tBuf = s.tw.tBuf ∧ (s.setTw k f).tw.tMailbox = s.tw.tMailbox ∧
    (s.setTw k f).tw.responder = s.tw.responder ∧ (s.setTw k f).tw.alertAnswered = s.tw.alertAnswered :=
  ⟨rfl, rfl, rfl, rfl, rfl, rfl, rfl, rfl⟩

/-- Item `j` after item `k` went through `f`. -/
@[simp] theorem State.twAt_setTw (s : State) (k : Nat) (f : TwPort → TwPort) (j : Nat) :
    (s.setTw k f).twAt j = if j = k then f (s.twAt k) else s.twAt j := Tab.get_upd _ _ _ _ _

/-- What `setTwDev` leaves alone. -/
@[simp] theorem State.setTwDev_left (s : State) (k : Nat) (f : TwDev → TwDev) :
    (s.setTwDev k f).power = s.power ∧ (s.setTwDev k f).retained = s.retained ∧ (s.setTwDev k f).clocks = s.clocks ∧
    (s.setTwDev k f).hold = s.hold ∧ (s.setTwDev k f).otp = s.otp ∧ (s.setTwDev k f).boot = s.boot ∧
    (s.setTwDev k f).host = s.host ∧ (s.setTwDev k f).desc = s.desc ∧ (s.setTwDev k f).log = s.log ∧
    (s.setTwDev k f).faults = s.faults ∧ (s.setTwDev k f).chan = s.chan ∧ (s.setTwDev k f).out = s.out ∧
    (s.setTwDev k f).cluster = s.cluster ∧ (s.setTwDev k f).scan = s.scan ∧ (s.setTwDev k f).polder = s.polder ∧
    (s.setTwDev k f).budget = s.budget ∧ (s.setTwDev k f).rect = s.rect ∧ (s.setTwDev k f).plan = s.plan ∧
    (s.setTwDev k f).tide = s.tide ∧ (s.setTwDev k f).gauge = s.gauge ∧ (s.setTwDev k f).sluice = s.sluice ∧
    (s.setTwDev k f).ledger = s.ledger ∧ (s.setTwDev k f).fabric = s.fabric ∧ (s.setTwDev k f).eth = s.eth ∧
    (s.setTwDev k f).dbg = s.dbg ∧ (s.setTwDev k f).latchView = s.latchView ∧
    (s.setTwDev k f).sealedView = s.sealedView ∧ (s.setTwDev k f).waiting = s.waiting ∧
    (s.setTwDev k f).sent = s.sent ∧ (s.setTwDev k f).freeCount = s.freeCount ∧ (s.setTwDev k f).pending = s.pending :=
  ⟨rfl, rfl, rfl, rfl, rfl, rfl, rfl, rfl, rfl, rfl, rfl, rfl, rfl, rfl, rfl, rfl, rfl, rfl, rfl, rfl, rfl, rfl, rfl, rfl, rfl, rfl, rfl, rfl, rfl, rfl, rfl⟩

/-- What `setTwDev` leaves alone within its part. -/
@[simp] theorem State.setTwDev_within (s : State) (k : Nat) (f : TwDev → TwDev) :
    (s.setTwDev k f).tw.ports = s.tw.ports ∧ (s.setTwDev k f).tw.sensors = s.tw.sensors ∧
    (s.setTwDev k f).tw.tState = s.tw.tState ∧ (s.setTwDev k f).tw.tOffset = s.tw.tOffset ∧
    (s.setTwDev k f).tw.tBuf = s.tw.tBuf ∧ (s.setTwDev k f).tw.tMailbox = s.tw.tMailbox ∧
    (s.setTwDev k f).tw.responder = s.tw.responder ∧ (s.setTwDev k f).tw.alertAnswered = s.tw.alertAnswered :=
  ⟨rfl, rfl, rfl, rfl, rfl, rfl, rfl, rfl⟩

/-- Item `j` after item `k` went through `f`. -/
@[simp] theorem State.twDevAt_setTwDev (s : State) (k : Nat) (f : TwDev → TwDev) (j : Nat) :
    (s.setTwDev k f).twDevAt j = if j = k then f (s.twDevAt k) else s.twDevAt j := Tab.get_upd _ _ _ _ _

/-- What `setSensor` leaves alone. -/
@[simp] theorem State.setSensor_left (s : State) (k : Nat) (f : Sensor → Sensor) :
    (s.setSensor k f).power = s.power ∧ (s.setSensor k f).retained = s.retained ∧
    (s.setSensor k f).clocks = s.clocks ∧ (s.setSensor k f).hold = s.hold ∧ (s.setSensor k f).otp = s.otp ∧
    (s.setSensor k f).boot = s.boot ∧ (s.setSensor k f).host = s.host ∧ (s.setSensor k f).desc = s.desc ∧
    (s.setSensor k f).log = s.log ∧ (s.setSensor k f).faults = s.faults ∧ (s.setSensor k f).chan = s.chan ∧
    (s.setSensor k f).out = s.out ∧ (s.setSensor k f).cluster = s.cluster ∧ (s.setSensor k f).scan = s.scan ∧
    (s.setSensor k f).polder = s.polder ∧ (s.setSensor k f).budget = s.budget ∧ (s.setSensor k f).rect = s.rect ∧
    (s.setSensor k f).plan = s.plan ∧ (s.setSensor k f).tide = s.tide ∧ (s.setSensor k f).gauge = s.gauge ∧
    (s.setSensor k f).sluice = s.sluice ∧ (s.setSensor k f).ledger = s.ledger ∧ (s.setSensor k f).fabric = s.fabric ∧
    (s.setSensor k f).eth = s.eth ∧ (s.setSensor k f).dbg = s.dbg ∧ (s.setSensor k f).latchView = s.latchView ∧
    (s.setSensor k f).sealedView = s.sealedView ∧ (s.setSensor k f).waiting = s.waiting ∧
    (s.setSensor k f).sent = s.sent ∧ (s.setSensor k f).freeCount = s.freeCount ∧
    (s.setSensor k f).pending = s.pending :=
  ⟨rfl, rfl, rfl, rfl, rfl, rfl, rfl, rfl, rfl, rfl, rfl, rfl, rfl, rfl, rfl, rfl, rfl, rfl, rfl, rfl, rfl, rfl, rfl, rfl, rfl, rfl, rfl, rfl, rfl, rfl, rfl⟩

/-- What `setSensor` leaves alone within its part. -/
@[simp] theorem State.setSensor_within (s : State) (k : Nat) (f : Sensor → Sensor) :
    (s.setSensor k f).tw.ports = s.tw.ports ∧ (s.setSensor k f).tw.devs = s.tw.devs ∧
    (s.setSensor k f).tw.tState = s.tw.tState ∧ (s.setSensor k f).tw.tOffset = s.tw.tOffset ∧
    (s.setSensor k f).tw.tBuf = s.tw.tBuf ∧ (s.setSensor k f).tw.tMailbox = s.tw.tMailbox ∧
    (s.setSensor k f).tw.responder = s.tw.responder ∧ (s.setSensor k f).tw.alertAnswered = s.tw.alertAnswered :=
  ⟨rfl, rfl, rfl, rfl, rfl, rfl, rfl, rfl⟩

/-- Item `j` after item `k` went through `f`. -/
@[simp] theorem State.sensorAt_setSensor (s : State) (k : Nat) (f : Sensor → Sensor) (j : Nat) :
    (s.setSensor k f).sensorAt j = if j = k then f (s.sensorAt k) else s.sensorAt j := Tab.get_upd _ _ _ _ _

/-- What `setSrc` leaves alone. -/
@[simp] theorem State.setSrc_left (s : State) (k : Nat) (f : FaultSrc → FaultSrc) :
    (s.setSrc k f).power = s.power ∧ (s.setSrc k f).retained = s.retained ∧ (s.setSrc k f).clocks = s.clocks ∧
    (s.setSrc k f).hold = s.hold ∧ (s.setSrc k f).otp = s.otp ∧ (s.setSrc k f).boot = s.boot ∧
    (s.setSrc k f).host = s.host ∧ (s.setSrc k f).desc = s.desc ∧ (s.setSrc k f).log = s.log ∧
    (s.setSrc k f).chan = s.chan ∧ (s.setSrc k f).out = s.out ∧ (s.setSrc k f).cluster = s.cluster ∧
    (s.setSrc k f).scan = s.scan ∧ (s.setSrc k f).polder = s.polder ∧ (s.setSrc k f).budget = s.budget ∧
    (s.setSrc k f).rect = s.rect ∧ (s.setSrc k f).plan = s.plan ∧ (s.setSrc k f).tide = s.tide ∧
    (s.setSrc k f).gauge = s.gauge ∧ (s.setSrc k f).sluice = s.sluice ∧ (s.setSrc k f).ledger = s.ledger ∧
    (s.setSrc k f).fabric = s.fabric ∧ (s.setSrc k f).tw = s.tw ∧ (s.setSrc k f).eth = s.eth ∧
    (s.setSrc k f).dbg = s.dbg ∧ (s.setSrc k f).latchView = s.latchView ∧
    (s.setSrc k f).sealedView = s.sealedView ∧ (s.setSrc k f).waiting = s.waiting ∧ (s.setSrc k f).sent = s.sent ∧
    (s.setSrc k f).freeCount = s.freeCount ∧ (s.setSrc k f).pending = s.pending :=
  ⟨rfl, rfl, rfl, rfl, rfl, rfl, rfl, rfl, rfl, rfl, rfl, rfl, rfl, rfl, rfl, rfl, rfl, rfl, rfl, rfl, rfl, rfl, rfl, rfl, rfl, rfl, rfl, rfl, rfl, rfl, rfl⟩

/-- What `setSrc` leaves alone within its part. -/
@[simp] theorem State.setSrc_within (s : State) (k : Nat) (f : FaultSrc → FaultSrc) :
    (s.setSrc k f).faults.queue = s.faults.queue ∧ (s.setSrc k f).faults.held319 = s.faults.held319 ∧
    (s.setSrc k f).faults.overflow0 = s.faults.overflow0 ∧ (s.setSrc k f).faults.overflow1 = s.faults.overflow1 ∧
    (s.setSrc k f).faults.overflow2 = s.faults.overflow2 ∧ (s.setSrc k f).faults.overflow3 = s.faults.overflow3 ∧
    (s.setSrc k f).faults.ring = s.faults.ring ∧ (s.setSrc k f).faults.nextQseq = s.faults.nextQseq ∧
    (s.setSrc k f).faults.read = s.faults.read ∧ (s.setSrc k f).faults.win = s.faults.win ∧
    (s.setSrc k f).faults.latchWin = s.faults.latchWin ∧
    (s.setSrc k f).faults.heartbeatMissed = s.faults.heartbeatMissed ∧ (s.setSrc k f).faults.ecc = s.faults.ecc ∧
    (s.setSrc k f).faults.merge = s.faults.merge ∧ (s.setSrc k f).faults.trap = s.faults.trap ∧
    (s.setSrc k f).faults.raised = s.faults.raised ∧ (s.setSrc k f).faults.safeHoldDue = s.faults.safeHoldDue :=
  ⟨rfl, rfl, rfl, rfl, rfl, rfl, rfl, rfl, rfl, rfl, rfl, rfl, rfl, rfl, rfl, rfl, rfl⟩

/-- Item `j` after item `k` went through `f`. -/
@[simp] theorem State.srcAt_setSrc (s : State) (k : Nat) (f : FaultSrc → FaultSrc) (j : Nat) :
    (s.setSrc k f).srcAt j = if j = k then f (s.srcAt k) else s.srcAt j := Tab.get_upd _ _ _ _ _

/-- What `setEcc` leaves alone. -/
@[simp] theorem State.setEcc_left (s : State) (k : Nat) (f : EccCounters → EccCounters) :
    (s.setEcc k f).power = s.power ∧ (s.setEcc k f).retained = s.retained ∧ (s.setEcc k f).clocks = s.clocks ∧
    (s.setEcc k f).hold = s.hold ∧ (s.setEcc k f).otp = s.otp ∧ (s.setEcc k f).boot = s.boot ∧
    (s.setEcc k f).host = s.host ∧ (s.setEcc k f).desc = s.desc ∧ (s.setEcc k f).log = s.log ∧
    (s.setEcc k f).chan = s.chan ∧ (s.setEcc k f).out = s.out ∧ (s.setEcc k f).cluster = s.cluster ∧
    (s.setEcc k f).scan = s.scan ∧ (s.setEcc k f).polder = s.polder ∧ (s.setEcc k f).budget = s.budget ∧
    (s.setEcc k f).rect = s.rect ∧ (s.setEcc k f).plan = s.plan ∧ (s.setEcc k f).tide = s.tide ∧
    (s.setEcc k f).gauge = s.gauge ∧ (s.setEcc k f).sluice = s.sluice ∧ (s.setEcc k f).ledger = s.ledger ∧
    (s.setEcc k f).fabric = s.fabric ∧ (s.setEcc k f).tw = s.tw ∧ (s.setEcc k f).eth = s.eth ∧
    (s.setEcc k f).dbg = s.dbg ∧ (s.setEcc k f).latchView = s.latchView ∧
    (s.setEcc k f).sealedView = s.sealedView ∧ (s.setEcc k f).waiting = s.waiting ∧ (s.setEcc k f).sent = s.sent ∧
    (s.setEcc k f).freeCount = s.freeCount ∧ (s.setEcc k f).pending = s.pending :=
  ⟨rfl, rfl, rfl, rfl, rfl, rfl, rfl, rfl, rfl, rfl, rfl, rfl, rfl, rfl, rfl, rfl, rfl, rfl, rfl, rfl, rfl, rfl, rfl, rfl, rfl, rfl, rfl, rfl, rfl, rfl, rfl⟩

/-- What `setEcc` leaves alone within its part. -/
@[simp] theorem State.setEcc_within (s : State) (k : Nat) (f : EccCounters → EccCounters) :
    (s.setEcc k f).faults.src = s.faults.src ∧ (s.setEcc k f).faults.queue = s.faults.queue ∧
    (s.setEcc k f).faults.held319 = s.faults.held319 ∧ (s.setEcc k f).faults.overflow0 = s.faults.overflow0 ∧
    (s.setEcc k f).faults.overflow1 = s.faults.overflow1 ∧ (s.setEcc k f).faults.overflow2 = s.faults.overflow2 ∧
    (s.setEcc k f).faults.overflow3 = s.faults.overflow3 ∧ (s.setEcc k f).faults.ring = s.faults.ring ∧
    (s.setEcc k f).faults.nextQseq = s.faults.nextQseq ∧ (s.setEcc k f).faults.read = s.faults.read ∧
    (s.setEcc k f).faults.win = s.faults.win ∧ (s.setEcc k f).faults.latchWin = s.faults.latchWin ∧
    (s.setEcc k f).faults.heartbeatMissed = s.faults.heartbeatMissed ∧ (s.setEcc k f).faults.merge = s.faults.merge ∧
    (s.setEcc k f).faults.trap = s.faults.trap ∧ (s.setEcc k f).faults.raised = s.faults.raised ∧
    (s.setEcc k f).faults.safeHoldDue = s.faults.safeHoldDue :=
  ⟨rfl, rfl, rfl, rfl, rfl, rfl, rfl, rfl, rfl, rfl, rfl, rfl, rfl, rfl, rfl, rfl, rfl⟩

/-- Item `j` after item `k` went through `f`. -/
@[simp] theorem State.eccAt_setEcc (s : State) (k : Nat) (f : EccCounters → EccCounters) (j : Nat) :
    (s.setEcc k f).eccAt j = if j = k then f (s.eccAt k) else s.eccAt j := Tab.get_upd _ _ _ _ _

/-- What drawing a free value leaves alone. -/
@[simp] theorem State.used_left (s : State) :
    (s.used).power = s.power ∧ (s.used).retained = s.retained ∧ (s.used).clocks = s.clocks ∧ (s.used).hold = s.hold ∧
    (s.used).otp = s.otp ∧ (s.used).boot = s.boot ∧ (s.used).host = s.host ∧ (s.used).desc = s.desc ∧
    (s.used).log = s.log ∧ (s.used).faults = s.faults ∧ (s.used).chan = s.chan ∧ (s.used).out = s.out ∧
    (s.used).cluster = s.cluster ∧ (s.used).scan = s.scan ∧ (s.used).polder = s.polder ∧ (s.used).budget = s.budget ∧
    (s.used).rect = s.rect ∧ (s.used).plan = s.plan ∧ (s.used).tide = s.tide ∧ (s.used).gauge = s.gauge ∧
    (s.used).sluice = s.sluice ∧ (s.used).ledger = s.ledger ∧ (s.used).fabric = s.fabric ∧ (s.used).tw = s.tw ∧
    (s.used).eth = s.eth ∧ (s.used).dbg = s.dbg ∧ (s.used).latchView = s.latchView ∧
    (s.used).sealedView = s.sealedView ∧ (s.used).waiting = s.waiting ∧ (s.used).sent = s.sent ∧
    (s.used).pending = s.pending :=
  ⟨rfl, rfl, rfl, rfl, rfl, rfl, rfl, rfl, rfl, rfl, rfl, rfl, rfl, rfl, rfl, rfl, rfl, rfl, rfl, rfl, rfl, rfl, rfl, rfl, rfl, rfl, rfl, rfl, rfl, rfl, rfl⟩

/-- What handing something to a port leaves alone. -/
@[simp] theorem State.send_left (s : State) (t : Tx) :
    (s.send t).power = s.power ∧ (s.send t).retained = s.retained ∧ (s.send t).clocks = s.clocks ∧
    (s.send t).hold = s.hold ∧ (s.send t).otp = s.otp ∧ (s.send t).boot = s.boot ∧ (s.send t).host = s.host ∧
    (s.send t).desc = s.desc ∧ (s.send t).log = s.log ∧ (s.send t).faults = s.faults ∧ (s.send t).chan = s.chan ∧
    (s.send t).out = s.out ∧ (s.send t).cluster = s.cluster ∧ (s.send t).scan = s.scan ∧
    (s.send t).polder = s.polder ∧ (s.send t).budget = s.budget ∧ (s.send t).rect = s.rect ∧
    (s.send t).plan = s.plan ∧ (s.send t).tide = s.tide ∧ (s.send t).gauge = s.gauge ∧ (s.send t).sluice = s.sluice ∧
    (s.send t).ledger = s.ledger ∧ (s.send t).fabric = s.fabric ∧ (s.send t).tw = s.tw ∧ (s.send t).eth = s.eth ∧
    (s.send t).dbg = s.dbg ∧ (s.send t).latchView = s.latchView ∧ (s.send t).sealedView = s.sealedView ∧
    (s.send t).waiting = s.waiting ∧ (s.send t).freeCount = s.freeCount ∧ (s.send t).pending = s.pending :=
  ⟨rfl, rfl, rfl, rfl, rfl, rfl, rfl, rfl, rfl, rfl, rfl, rfl, rfl, rfl, rfl, rfl, rfl, rfl, rfl, rfl, rfl, rfl, rfl, rfl, rfl, rfl, rfl, rfl, rfl, rfl, rfl⟩

/-- What has been sent after one more thing. -/
@[simp] theorem State.send_sent (s : State) (t : Tx) : (s.send t).sent = s.sent ++ [t] := rfl

/-- What offering a record leaves alone. -/
@[simp] theorem State.offerAs_left (s : State) (r : LogOffer) :
    (s.offerAs r).power = s.power ∧ (s.offerAs r).retained = s.retained ∧ (s.offerAs r).clocks = s.clocks ∧
    (s.offerAs r).hold = s.hold ∧ (s.offerAs r).otp = s.otp ∧ (s.offerAs r).boot = s.boot ∧
    (s.offerAs r).host = s.host ∧ (s.offerAs r).desc = s.desc ∧ (s.offerAs r).faults = s.faults ∧
    (s.offerAs r).chan = s.chan ∧ (s.offerAs r).out = s.out ∧ (s.offerAs r).cluster = s.cluster ∧
    (s.offerAs r).scan = s.scan ∧ (s.offerAs r).polder = s.polder ∧ (s.offerAs r).budget = s.budget ∧
    (s.offerAs r).rect = s.rect ∧ (s.offerAs r).plan = s.plan ∧ (s.offerAs r).tide = s.tide ∧
    (s.offerAs r).gauge = s.gauge ∧ (s.offerAs r).sluice = s.sluice ∧ (s.offerAs r).ledger = s.ledger ∧
    (s.offerAs r).fabric = s.fabric ∧ (s.offerAs r).tw = s.tw ∧ (s.offerAs r).eth = s.eth ∧
    (s.offerAs r).dbg = s.dbg ∧ (s.offerAs r).latchView = s.latchView ∧ (s.offerAs r).sealedView = s.sealedView ∧
    (s.offerAs r).waiting = s.waiting ∧ (s.offerAs r).sent = s.sent ∧ (s.offerAs r).freeCount = s.freeCount ∧
    (s.offerAs r).pending = s.pending :=
  ⟨rfl, rfl, rfl, rfl, rfl, rfl, rfl, rfl, rfl, rfl, rfl, rfl, rfl, rfl, rfl, rfl, rfl, rfl, rfl, rfl, rfl, rfl, rfl, rfl, rfl, rfl, rfl, rfl, rfl, rfl, rfl⟩

/-- Offering a record changes the offers of the logbook only. -/
@[simp] theorem State.offerAs_within (s : State) (r : LogOffer) :
    (s.offerAs r).log.mounted = s.log.mounted ∧ (s.offerAs r).log.unbacked = s.log.unbacked ∧
    (s.offerAs r).log.storeState = s.log.storeState ∧ (s.offerAs r).log.next = s.log.next ∧
    (s.offerAs r).log.lastChain = s.log.lastChain ∧ (s.offerAs r).log.chainKey = s.log.chainKey ∧
    (s.offerAs r).log.head = s.log.head ∧ (s.offerAs r).log.tail = s.log.tail ∧
    (s.offerAs r).log.formatSeq = s.log.formatSeq ∧ (s.offerAs r).log.hintSeq = s.log.hintSeq ∧
    (s.offerAs r).log.epochMark = s.log.epochMark ∧ (s.offerAs r).log.flushedMark = s.log.flushedMark ∧
    (s.offerAs r).log.capacity = s.log.capacity ∧ (s.offerAs r).log.gen = s.log.gen ∧
    (s.offerAs r).log.clears = s.log.clears ∧ (s.offerAs r).log.damaged = s.log.damaged ∧
    (s.offerAs r).log.mountEvent = s.log.mountEvent ∧ (s.offerAs r).log.staging = s.log.staging ∧
    (s.offerAs r).log.watch = s.log.watch ∧ (s.offerAs r).log.burst = s.log.burst ∧
    (s.offerAs r).log.failedBursts = s.log.failedBursts ∧ (s.offerAs r).log.unflushedMax = s.log.unflushedMax ∧
    (s.offerAs r).log.storeBytes = s.log.storeBytes ∧ (s.offerAs r).log.header0 = s.log.header0 ∧
    (s.offerAs r).log.header1 = s.log.header1 ∧ (s.offerAs r).log.store = s.log.store ∧
    (s.offerAs r).log.cursorLo = s.log.cursorLo ∧ (s.offerAs r).log.cursorHi = s.log.cursorHi ∧
    (s.offerAs r).log.cursorHiHeld = s.log.cursorHiHeld ∧ (s.offerAs r).log.loading = s.log.loading ∧
    (s.offerAs r).log.loadEpoch = s.log.loadEpoch ∧ (s.offerAs r).log.loadHead = s.log.loadHead ∧
    (s.offerAs r).log.loadTail = s.log.loadTail ∧ (s.offerAs r).log.loadUnbacked = s.log.loadUnbacked ∧
    (s.offerAs r).log.window = s.log.window ∧ (s.offerAs r).log.capsules = s.log.capsules ∧
    (s.offerAs r).log.subs = s.log.subs ∧ (s.offerAs r).log.ckptCurrent = s.log.ckptCurrent :=
  ⟨rfl, rfl, rfl, rfl, rfl, rfl, rfl, rfl, rfl, rfl, rfl, rfl, rfl, rfl, rfl, rfl, rfl, rfl, rfl, rfl, rfl, rfl, rfl, rfl, rfl, rfl, rfl, rfl, rfl, rfl, rfl, rfl, rfl, rfl, rfl, rfl, rfl, rfl⟩

@[simp] theorem State.offerAs_offers (s : State) (r : LogOffer) : (s.offerAs r).log.offers = s.log.offers ++ [r] := rfl

/-- A plain record is an offer of the warden's. -/
theorem State.record_eq (s : State) (cls event : Nat) (items : Bytes) : s.record cls event items =
    s.offerAs { cls := cls, source := 0, event := some event, items := items, flags := 0, use := .plain } := rfl

end Sys2Proof.Machine
end

