-- ==== Sys2Proof/Certificates/Slice0/Obligations.lean ====
section
/-! DEFINITION. The statements about the block: each is a proposition about `exec`, `step` and the shared operations, for
every state, with the rules of spec/ it comes from named in its docstring. -/
open Sys2Proof Sys2Proof.Machine

/-- R109, R116, R12, Table 5-2: while the port answers, a READ of a whole register word returns it, with TXN_STATUS
and ERROR_COUNT cleared by a READ of theirs; a QUIET READ of any burst returns the READ's bytes and changes nothing.
STATUS returns the status byte and changes nothing else; a command byte that Table 5-1 does not hold sets
UNKNOWN_COMMAND, TXN_ERROR, ERROR_COUNT and source 272 (R116); before Boot step 3, and without firmware, the port
ignores every transaction (R113). -/
def Obligations.PortReadsStatusAndUnknown : Prop :=
  (∀ s : State, s.portAlive = true →
    (∀ o, o < 0x100 → o % 4 = 0 → o ≠ 0x08 → o ≠ 0x34 →
      exec (.read o 4) s = .next (s.send (.host (leBytes 4 (s.regWord o))))) ∧
    exec (.read 0x08 4) s =
      .next ({ s with host := { s.host with txnStatus := 0 } }.send (.host (leBytes 4 s.host.txnStatus))) ∧
    exec (.read 0x34 4) s =
      .next ({ s with host := { s.host with errorCount := 0 } }.send (.host (leBytes 4 s.host.errorCount))) ∧
    (∀ addr len, ∃ t u d, exec (.read addr len) s = .next t ∧ exec (.quietRead addr len) s = .next u ∧
      u = s.send (.host d) ∧ t = ((s.readAll addr len).1.send (.host d)).endTxn (s.readAll addr len).2.1)) ∧
  ((∀ s : State, s.portAlive = true →
    exec .status s = .next (s.send (.host [byte (s.modeCode * 16 + 8 * b2n s.doneAny
      + 4 * b2n (decide (s.host.txnStatus ≠ 0)) + 2 * b2n s.hirq + b2n s.host.hrdy)])) ∧
    (∀ code, code ∉ [0x32, 0x6B, 0x6C, 0x05] → exec (.unknownCommand code) s =
      .next (({ s with host := { s.host with
        txnStatus := s.host.txnStatus ||| 0x20, irqTxn := true, errorCount := min 0xFFFF (s.host.errorCount + 1) } }).raise
        272 1 []))) ∧
  (∀ s : State, s.portAlive = false →
    exec .status s = .next s ∧ (∀ code, exec (.unknownCommand code) s = .next s) ∧
    (∀ addr data, exec (.write addr data) s = .next s) ∧ (∀ addr len, exec (.read addr len) s = .next s) ∧
    (∀ addr len, exec (.quietRead addr len) s = .next s)))

/-- R116, Table 3-6, R119 step 5, R465, R464, R486, R439, R111: writes of 1 clear the W1C bits of IRQ_STATUS, CAUSE
bits of the reset-cause register (0xF clears COUNT too) and a completed mailbox, which becomes free with the mask as
written (R118); nothing else changes, but for TW0's alert, which settles (R538). The window registers with an action
of their own, and the plain registers. A write of CURSOR_LO begins a load: the 64 records from the cursor, HEAD and
TAIL are taken as they stand then (log entry 30). -/
def Obligations.RegisterWritesAct : Prop :=
  (∀ s : State, s.portAlive = true →
    (∀ v, v < 2 ^ 32 → exec (.irqStatusClear v) s = .next ({ s with host := { s.host with
      irqTxn := s.host.irqTxn && !v.testBit 6, irqButton := s.host.irqButton && !v.testBit 5
      irqGeneration := s.host.irqGeneration && !v.testBit 4, irqModeChange := s.host.irqModeChange && !v.testBit 3
      irqSealed := s.host.irqSealed && !v.testBit 2 } }.alertSettle)) ∧
    (∀ v, v < 2 ^ 32 → v % 16 = 15 → exec (.resetCauseClear v) s =
      .next ({ s with power := { s.power with cause := { s.power.cause with cause := 0, count := 0 } } }.alertSettle)) ∧
    (∀ v, v < 2 ^ 32 → v % 16 ≠ 15 → ∃ c, exec (.resetCauseClear v) s =
        .next ({ s with power := { s.power with cause := { s.power.cause with cause := c } } }.alertSettle) ∧
      ∀ i, c.testBit i = (decide (i < 4) && s.power.cause.cause.testBit i && !v.testBit i)) ∧
    (∀ n, n < 16 → (s.mbAt n).done = true → exec (.mbDone n) s = .next ((s.freeMb n).alertSettle)) ∧
    (∀ n, n < 16 → (s.mbAt n).done = false → exec (.mbDone n) s = .next s.alertSettle)) ∧
  (∀ s : State, s.portAlive = true →
    (∀ v, v < 2 ^ 32 → ∃ l : Logbook, exec (.cursorLo v) s = .next ({ s with log := l }.alertSettle) ∧
      l = { s.log with
        cursorLo := v, cursorHi := s.log.cursorHiHeld, loading := true, loadEpoch := s.clocks.epoch
        loadHead := s.log.head, loadTail := s.log.oldest, loadUnbacked := s.log.unbacked, window := l.window } ∧
      ∀ i, i < 64 → Tab.get {} l.window i = s.log.view (s.log.cursorHiHeld * 2 ^ 32 + v + i)) ∧
    (∀ v, v < 2 ^ 32 → exec (.cursorHi v) s = .next ({ s with log := { s.log with cursorHiHeld := v } }.alertSettle)) ∧
    (∀ v, v < 2 ^ 32 → (s.faults.win.ringHead + 2 ^ 32 - v) % 2 ^ 32 ≤ 256 →
      exec (.readCursorWrite v) s = .next ({ s with faults := { s.faults with read := v } }.alertSettle)) ∧
    (∀ v, v < 2 ^ 32 → 256 < (s.faults.win.ringHead + 2 ^ 32 - v) % 2 ^ 32 →
      exec (.readCursorWrite v) s = .next s.alertSettle) ∧
    exec .next s = .next ({ s with ledger := { s.ledger with cursor := (s.ledger.cursor + 1) % 2 ^ 32 } }.send
      (.host (leBytes 4 s.ledger.cursor))) ∧
    (∀ v, v < 2 ^ 32 → exec (.registerWrite 0x10 (leBytes 4 v)) s =
      .next ({ s with host := { s.host with irqEnable := v % 128 } }.alertSettle)) ∧
    (∀ v, v < 2 ^ 32 → exec (.registerWrite 0x040000 (leBytes 4 v)) s =
      .next ({ s with ledger := { s.ledger with cursor := v } }.alertSettle)) ∧
    (∀ v, v < 2 ^ 32 → exec (.registerWrite 0x040014 (leBytes 4 v)) s =
      .next ({ s with ledger := { s.ledger with fabPage := v % 2 } }.alertSettle)) ∧
    (∀ a d, a < 0x100 → 0 < d.length → a % 4 + d.length ≤ 4 → d.length ≠ 4 →
      exec (.registerWrite a d) s = .next ((s.endTxn 0x04).alertSettle)))

/-- R110, R112, R118, R119, R492, R132, R493: a WRITE of one whole aligned word of the request half of a mailbox that
the host may write, or of the user RAM, stores the four bytes there and nowhere else, and a READ of that word then
returns them; a write to the request half of a busy mailbox, or of one outside MB_HOST_MASK, is ignored with
BUSY_WRITE; one to a response half leaves its content. The writes to the mailboxes that still stand in the merge
buffer commit first (`m`); then an accepted doorbell makes the mailbox busy, owned by the host port with its session's
features, and its order the newest accepted one; any other doorbell is refused with DOORBELL_REFUSED. -/
def Obligations.MailboxWordsAndDoorbells : Prop :=
  (∀ (s : State) (d : Bytes), s.portAlive = true → d.length = 4 →
    (∀ o, o < 0x4000 → o % 4 = 0 → o % 0x400 < 0x200 → s.hostOwns (o / 0x400) = true →
      (s.mbAt (o / 0x400)).busy = false →
      ∃ t, exec (.write (0x010000 + o) d) s = .next t ∧
        (∀ a, memRead t.host.ram a = if o ≤ a ∧ a < o + 4 then d.getD (a - o) 0 else memRead s.host.ram a) ∧
        t.host = { s.host with ram := t.host.ram } ∧ Only [.host, .faults, .tw] s t ∧
        exec (.read (0x010000 + o) 4) t = .next (t.send (.host d))) ∧
    (∀ o, o < 0x40000 → o % 4 = 0 →
      ∃ t, exec (.write (0x100000 + o) d) s = .next t ∧
        (∀ a, memRead t.host.user a = if o ≤ a ∧ a < o + 4 then d.getD (a - o) 0 else memRead s.host.user a) ∧
        t.host.ram = s.host.ram ∧ Only [.host, .faults, .tw] s t ∧
        exec (.read (0x100000 + o) 4) t = .next (t.send (.host d))) ∧
    (∀ o, o < 0x4000 → o % 4 = 0 → o % 0x400 < 0x200 →
      (s.hostOwns (o / 0x400) = false ∨ (s.mbAt (o / 0x400)).busy = true) →
      exec (.write (0x010000 + o) d) s = .next ((s.endTxn 0x80).alertSettle)) ∧
    (∀ o, o < 0x4000 → o % 4 = 0 → 0x200 ≤ o % 0x400 → exec (.write (0x010000 + o) d) s = .next s.alertSettle)) ∧
  (∀ (s m : State) (n : Nat), n < 16 → s.portAlive = true →
    m = s.mergeFlush (fun e => decide (e.inst = 201)) →
    (m.host.hrdy = true → m.hostOwns n = true → (m.mbAt n).busy = false → (m.mbAt n).done = false →
      ∃ x : State, exec (.mbDoorbell n) s = .next x.followed.alertSettle ∧
        x.host.orders = m.host.orders ++ [n] ∧
        (∀ k, x.mbAt k = if k = n then
            { busy := true, owner := .host, port := 0
              feats := if (m.sesAt (m.request n).session).state = .openS ∧ (m.sesAt (m.request n).session).offered = true
                then (m.sesAt (m.request n).session).features else 1 }
          else m.mbAt k) ∧
        x = { m with host := { m.host with orders := x.host.orders, mb := x.host.mb } }) ∧
    ((m.host.hrdy = false ∨ m.hostOwns n = false ∨ (m.mbAt n).busy = true ∨ (m.mbAt n).done = true) →
      exec (.mbDoorbell n) s = .next ((m.followed.endTxn 0x40).alertSettle)))

/-- R465, Table 17-9, R471: a logbook load that completes ends, so that the window shows its copy, and each record it
found damaged is counted and raises source 291; without a load in progress nothing changes. The logbook orders that
read. LOG.STATUS, LOG.READ with a status of two bits for each record and the record's bytes where it is held,
LOG.CAPSULES in pages of 30; LOG.READ counts the damaged records it meets. LOG.VERIFY on records that are all held:
where every CRC, every SEQ and every CHAIN checks it answers with the count of records alone; the first record that
fails is named with its error, and a record with a wrong CHAIN only raises source 292. Where the device secret may not
be used it answers LOCKED. -/
def Obligations.LogbookReads : Prop :=
  (∀ s : State,
    (s.log.loading = true → exec .loadComplete s = .next (({ s with log := { s.log with loading := false } }).logDamaged
      (s.log.window.filter fun (e : Nat × LogSlot) => decide (e.2.status = 3)).length)) ∧
    (s.log.loading = false → exec .loadComplete s = .next s)) ∧
  (∀ (s : State) (mb : Nat) (q : Req), q = s.request mb →
    (s.starts 0x0C01 mb → q.lay 0 [] = true → exec (.logStatus mb) s = .next (s.answer mb .ok
      (leBytes 8 s.log.head ++ leBytes 8 s.log.oldest ++ leBytes 8 s.log.formatSeq ++ leBytes 4 s.log.capacity
        ++ leBytes 4 s.log.clears ++ leBytes 4 s.log.damaged
        ++ [byte s.log.unflushed, byte s.log.storeState, byte s.log.mountEvent, 0]))) ∧
    (s.starts 0x0C02 mb → q.lay 12 [(9, 3)] = true → 1 ≤ q.u 8 1 → q.u 8 1 ≤ 7 →
      ∀ v, v = (countFrom (q.u 8 1) (q.u 0 8)).map s.log.view →
      exec (.logRead mb) s = .next (((s.taken.logDamaged (v.filter fun x => decide (x.status = 3)).length).reply q .ok
        (leBytes 8 s.log.head ++ leBytes 8 s.log.oldest ++ leBytes 2 (v.foldr (fun x a => x.status + 4 * a) 0)
          ++ [byte (q.u 8 1)] ++ zeros 13 ++ (v.map LogSlot.bytes).flatten)).followed)) ∧
    (s.starts 0x0C09 mb → q.lay 4 [(1, 3)] = true → q.u 0 1 ≤ 7 →
      exec (.logCapsules mb) s = .next (s.answer mb .ok
        ((((s.log.capsules.drop (30 * q.u 0 1)).take 30).map fun e =>
          leBytes 8 e.1 ++ leBytes 4 e.2.1 ++ [byte e.2.2.1, byte e.2.2.2.1, byte e.2.2.2.2, 0]).flatten)))) ∧
  (∀ (s : State) (mb : Nat) (q : Req), q = s.request mb → s.starts 0x0C03 mb → q.lay 12 [(10, 2)] = true →
    1 ≤ q.u 8 2 → q.u 8 2 ≤ 16384 →
    (s.secretLocked [1] = true → exec (.logVerify mb) s = .next (s.answer mb .locked [])) ∧
    (s.secretLocked [1] = false → s.log.oldest ≤ q.u 0 8 → q.u 0 8 + q.u 8 2 ≤ s.log.head + 1 →
    (∀ i, i < q.u 8 2 → s.verifyOne (q.u 0 8 + i) = 0) → exec (.logVerify mb) s =
      .next (s.answer mb .ok (leBytes 2 (q.u 8 2) ++ zeros 14))) ∧
    (∀ k, s.secretLocked [1] = false → s.log.oldest ≤ q.u 0 8 → q.u 0 8 + q.u 8 2 ≤ s.log.head + 1 → k < q.u 8 2 → s.verifyOne (q.u 0 8 + k) = 2 →
      (∀ i, i < q.u 8 2 → i ≠ k → s.verifyOne (q.u 0 8 + i) = 0) → exec (.logVerify mb) s =
      .next (((s.taken.raise 292 1 []).reply q .ok
        (leBytes 2 (q.u 8 2) ++ leBytes 2 1 ++ [2, 0, 0, 0] ++ leBytes 8 (q.u 0 8 + k))).followed)))

/-- R466, R462, R471, Table 17-9: LOG.CLEAR waits for its header write, at whose read-back TAIL moves, the clear is
counted, its record is written and the order answered with UPTO; LOG.FORMAT waits for its header writes; LOG.NOTE
counts the note and waits until it is staged; subscriptions are for Ethernet, and the end of one's own subscription
leaves the others. -/
def Obligations.LogbookChangingOrders : Prop :=
  ∀ (s : State) (mb : Nat) (q : Req), q = s.request mb →
    (s.starts 0x0C04 mb → q.lay 40 [] = true → (s.sesAt q.session).notes < 10 →
      exec (.logNote mb) s = .next (((((s.taken.setSes q.session fun e => { e with notes := e.notes + 1 }).wait q
        .logNote).offerAs { cls := 0x15, source := 0, event := none, items := leBytes 4 q.session ++ slice q.payload 0 40
                            flags := 0, use := .note mb q.session })).followed)) ∧
    (s.starts 0x0C05 mb → q.lay 8 [] = true → s.log.tail ≤ q.u 0 8 → q.u 0 8 ≤ s.log.head + 1 →
      exec (.logClear mb) s = .next (s.holds mb (.logClear (q.u 0 8)))) ∧
    (∀ u, s.logCleared mb u = ((({ s with log := { s.log with tail := u, clears := (s.log.clears + 1) % 2 ^ 32 } } :
      State).writeHeader s.log.hintSeq).record 0x02 3 (leBytes 8 s.log.tail ++ leBytes 8 u ++ leBytes 4
        ((({ s with log := { s.log with tail := u, clears := (s.log.clears + 1) % 2 ^ 32 } } : State).writeHeader
          s.log.hintSeq).request mb).session)).finish mb .ok (leBytes 8 u)) ∧
    (s.starts 0x0C06 mb → q.lay 8 [(4, 4)] = true → q.u 0 4 = 0x4D524F46 →
      exec (.logFormat mb) s = .next (s.holds mb (.logFormat s.formatFirst))) ∧
    (s.starts 0x0C07 mb → q.transport = 1 → q.lay 12 [] = true → s.log.subs.length < 8 →
      (s.log.subs.filter fun y => decide (y.session = q.session)).length < 4 →
      ∃ x : Subscription, exec (.logSubscribe mb) s =
          .next ((({ s.taken with log := { s.log with subs := s.log.subs ++ [x] } } : State).reply q .ok
            [byte x.id, 0, 0, 0]).pushLogs).followed ∧
        x = { id := x.id, session := q.session, log := true, kind := 0, row := 0, decim := 0, next := q.u 0 8
              classes := q.u 8 4, gone := 0 } ∧
        1 ≤ x.id ∧ x.id ≤ 16 ∧ ∀ y ∈ s.log.subs, y.id ≠ x.id) ∧
    (s.starts 0x0C08 mb → q.lay 4 [(1, 3)] = true →
      (s.log.subs.any fun y => decide (y.id = q.u 0 1) && decide (y.session = q.session) && y.log) = true →
      exec (.logUnsubscribe mb) s = .next ((({ s.taken with log := { s.log with
        subs := s.log.subs.filter fun y => !(decide (y.id = q.u 0 1) && decide (y.session = q.session) && y.log) } } :
          State).reply q .ok []).followed))

/-- R450, R451, R454, R455, R482, Table 18-10: RECORD_STAGE stages the warden's oldest record when the fault queue is
empty and staging has room: the record takes the next SEQ, the offer's class, flags and payload, a CHAIN over the one
before and a CRC, and its words read correctly again. Nothing else changes but the burst that may start (R456).
Without room nothing is staged. The oldest fault entry is staged before any record of the warden's; an entry whose
reactions include INTERRUPT (bit 1) enters the ring under the next QSEQ. -/
def Obligations.RecordsStagedInOrder : Prop :=
  (∀ s : State, s.power.shutdown = none → s.log.unbacked = false →
    (∀ o rest, s.log.admits = true → s.faults.queue = [] → s.log.offers = o :: rest → o.use = .plain →
      ∃ (t : State) (r : LogRec), exec .recordStage s = .next t ∧
        r.seq = s.log.next ∧ r.cls = o.cls ∧ r.source = o.source ∧ r.payload = o.payload s.clocks.epoch ∧
        r.flags = o.flags ||| (if s.power.brace.isSome then 1 else 0) ∧
        r.chain = chainOf s.log.chainKey s.log.lastChain r.body ∧ r.crc = crc32c r.chained ∧
        Tab.get {} t.log.staging s.log.next = r ∧ t.log.next = s.log.next + 1 ∧ t.log.lastChain = r.chain ∧
        t.log.offers = rest ∧ t.log.head = s.log.head ∧ t.log.store = s.log.store ∧
        Only [.log, .faults, .freeCount] s t ∧ t.faults.queue = [] ∧ t.faults.src = s.faults.src) ∧
    (s.log.admits = false → exec .recordStage s = .next s.startBurst)) ∧
  (∀ (s : State) (e : FaultEntry) (rest : List FaultEntry), s.power.shutdown = none → s.log.unbacked = false →
    s.log.admits = true → s.faults.queue = e :: rest → s.faults.held319 = none →
    ∃ t : State, exec .recordStage s = .next t ∧ t.faults.queue = rest ∧ t.log.offers = s.log.offers ∧
      t.log.next = s.log.next + 1 ∧ (Tab.get {} t.log.staging s.log.next).seq = s.log.next ∧
      (Tab.get {} t.log.staging s.log.next).cls = 0x07 ∧
      (e.reaction.testBit 1 = true →
        Tab.get {} t.faults.ring (s.faults.nextQseq % 256) =
          { qseq := s.faults.nextQseq, epoch := e.epoch, source := e.source, cls := e.cls, event := e.event
            repeats := e.repeats, reaction := e.reaction, data := e.data } ∧
        t.faults.nextQseq = (s.faults.nextQseq + 1) % 2 ^ 32) ∧
      (e.reaction.testBit 1 = false → t.faults.ring = s.faults.ring ∧ t.faults.nextQseq = s.faults.nextQseq) ∧
      Only [.log, .faults, .freeCount] s t)

/-- R456, R51, R469: a burst whose read-back matches leaves its records in their store slots and HEAD and the retained
SEQ at its last; one whose read-back differs is rewritten once, then counts as failed, and the third failed burst in a
row makes the logbook unbacked (R463) with source 290. With no burst in flight nothing changes, and a brace suspends
the burst outside Last-gasp (R51). 64 unflushed records outside a brace raise source 295; otherwise the row changes
nothing. -/
def Obligations.BurstsFlushRecords : Prop :=
  (∀ s : State,
    (∀ ok, s.log.burst = none → exec (.burstComplete ok) s = .next s) ∧
    (∀ ok b, s.log.burst = some b → s.power.brace.isSome = true → s.mode ≠ .lastGasp →
      exec (.burstComplete ok) s = .next s) ∧
    ((s.power.brace = none ∨ s.mode = .lastGasp) →
    (∀ b, s.log.burst = some b → s.power.shutdown = none → s.log.watch = [] → s.log.unbacked = false →
      b.first ≤ b.last → b.last < b.first + s.log.capacity →
      (∀ n, b.first ≤ n → n ≤ b.last → s.stagedBad n = false) →
      ∃ t, exec (.burstComplete true) s = .next t ∧ t.log.head = b.last ∧ t.retained = { s.retained with seq := some b.last } ∧
        (∀ n, b.first ≤ n → n ≤ b.last →
          Tab.get {} t.log.store (n % s.log.capacity) = Tab.get {} s.log.staging n) ∧
        t.log.failedBursts = 0 ∧ t.log.next = s.log.next ∧ t.log.staging = s.log.staging ∧
        Only [.log, .retained, .eth, .sent, .freeCount] s t) ∧
    (∀ b, s.log.burst = some b → b.rewrite = false → exec (.burstComplete false) s =
      .next { s with log := { s.log with burst := some { b with rewrite := true } } }) ∧
    (∀ b, s.log.burst = some b → b.rewrite = true → s.log.failedBursts + 1 < 3 → exec (.burstComplete false) s =
      .next ({ s with log := { s.log with burst := none, failedBursts := s.log.failedBursts + 1 } }.startBurst).advanceShutdown) ∧
    (∀ b, s.log.burst = some b → b.rewrite = true → 3 ≤ s.log.failedBursts + 1 → s.log.watch = [] →
      exec (.burstComplete false) s = .next (({ s with log := { s.log with
        burst := none, failedBursts := s.log.failedBursts + 1, unbacked := true, storeState := 3, head := s.log.next - 1 } }.raise
          290 1 []).advanceShutdown)))) ∧
  (∀ s : State,
    (64 ≤ s.log.unflushed → s.power.brace = none → exec .unflushedTimeout s = .next (s.raise 295 1 [])) ∧
    ((s.log.unflushed < 64 ∨ s.power.brace.isSome = true) → exec .unflushedTimeout s = .next s))

/-- R461, R462, R463, R70, Table 17-11: the mount of a blank store formats it from the first SEQ the retained SEQ and
the RTC allow, and a store with a header of this device takes TAIL, FORMAT and HEAD from the header and the scan; both
stage the mount record, release the tide generator and bring Boot to step 7. At any other time the row changes
nothing. -/
def Obligations.LogbookMounts : Prop :=
  ∀ (s : State) (bytes taps khz : Nat),
    (s.mode = .boot → s.boot.step = 6 → s.log.mounted = false →
      (4160 ≤ bytes → s.log.unbacked = false → s.log.header0.kind = 0 → s.log.header1.kind = 0 →
        ∃ t, exec (.mount bytes taps khz) s = .next t ∧ t.log.mounted = true ∧ t.log.mountEvent = 1 ∧
          t.log.capacity = (bytes - 4096) / 64 ∧ t.log.formatSeq = s.firstSeq ∧ t.log.tail = s.firstSeq ∧
          t.log.head = s.firstSeq - 1 ∧ t.log.next = s.firstSeq + 2 ∧ t.log.header0.kind = 1 ∧ t.log.header1.kind = 1 ∧
          t.log.header0.dieId = s.dieId ∧ t.log.header1.dieId = s.dieId ∧
          t.log.cs1 = storePort taps khz ∧
          t.boot = { s.boot with step := 7 } ∧ t.clocks = { s.clocks with tideReleased := true } ∧
          Only [.log, .boot, .clocks, .faults, .freeCount] s t) ∧
      (∀ h : StoreHeader, 4160 ≤ bytes → s.log.unbacked = false → (s.log.header0.kind ≠ 0 ∨ s.log.header1.kind ≠ 0) →
        s.mountCopy = some h → s.retained.seq = none →
        (let l := { s.log with capacity := (bytes - 4096) / 64 }
         let n := (l.scan (l.store.length + 1) h.hint h.epochMark).1
         ∃ x t : State, exec (.mount bytes taps khz) s = .next t ∧ x.log.tail = h.tail ∧ x.log.formatSeq = h.format ∧
          x.log.hintSeq = h.hint ∧ x.log.cs1 = storePort taps khz ∧ x.log.head = n ∧ x.log.next = n + 1 ∧ Only [.log] s x ∧
          t = x.mountDone (if h.format ≤ n then x.log.mountEventOf 4096 n else 1))) ∧
      (bytes < 4160 → ∃ x : State, Only [.log] s x ∧ x.log.unbacked = true ∧ x.log.storeState = 1 ∧
        x.log.next = s.firstSeq ∧ x.log.tail = s.firstSeq ∧ x.log.cs1 = storePort taps khz ∧
        exec (.mount bytes taps khz) s = .next ((x.raise 288 1 []).mountDone (x.raise 288 1 []).mountCode))) ∧
    ((s.mode ≠ .boot ∨ s.boot.step ≠ 6 ∨ s.log.mounted = true) → exec (.mount bytes taps khz) s = .next s)

/-- R500, R486, R487: the fault orders that read. FAULT.STATUS and FAULT.READ answer the window's words and records
with the window's epoch; FAULT.ECC answers the counters of an instance. FAULT.ACK clears PENDING of the named sources
whose condition is gone and answers those left pending; FAULT.CLEARCOUNT zeroes the counts of the named sources;
neither changes another source, or anything else before the answer (`x`). -/
def Obligations.FaultOrders : Prop :=
  (∀ (s : State) (mb : Nat) (q : Req) (w : FaultWindow), q = s.request mb → w = s.faults.win →
    (s.starts 0x0D01 mb → q.lay 0 [] = true → exec (.faultStatus mb) s = .next ((s.taken.replyAt q .ok
      (leBytes 4 w.epoch ++ leBytes 4 w.ringHead ++ leBytes 4 s.faults.read ++ leBytes 4 (w.alive * 256 + w.depth)
        ++ leBytes 4 w.overflow0 ++ leBytes 4 w.overflow1 ++ leBytes 4 w.overflow2 ++ leBytes 4 w.overflow3
        ++ leBytes 4 (w.pendingOf 1 * 2 ^ 16 + w.pendingOf 0) ++ leBytes 4 (w.pendingOf 3 * 2 ^ 16 + w.pendingOf 2))
      w.epoch).followed)) ∧
    (s.starts 0x0D02 mb → q.lay 4 [(3, 1)] = true → 1 ≤ q.u 2 1 → q.u 2 1 ≤ 30 → q.u 0 2 ≤ 319 →
      q.u 0 2 + q.u 2 1 ≤ 320 → exec (.faultRead mb) s = .next ((s.taken.replyAt q .ok
        (leBytes 4 w.epoch ++ ((countFrom (q.u 2 1) (q.u 0 2)).map fun i =>
          let x := Tab.get ({} : FaultSrc) w.src i
          leBytes 4 x.count ++ leBytes 4 x.lastEpoch ++ [byte x.lastEvent, byte x.lastClass,
            byte (b2n x.pending + 2 * b2n x.present + 4 * b2n (Tab.get false w.aliveHold i) + 8 * b2n x.escalated),
            byte (Tab.get (minClassReset i) w.minCls i)]
          ++ leBytes 2 (Tab.get (reactionsReset i) w.react i) ++ [0, 0]).flatten) w.epoch).followed)) ∧
    (s.starts 0x0D04 mb → q.lay 4 [(1, 3)] = true → q.u 0 1 ≤ 23 → ∀ e, e = s.eccAt (200 + q.u 0 1) →
      exec (.faultEcc mb) s = .next (s.answer mb .ok
        (leBytes 4 e.corrected ++ leBytes 4 e.uncorrectable ++ leBytes 4 e.poisoned ++ leBytes 4 e.persistent
          ++ leBytes 4 e.uninitialised ++ leBytes 4 e.passes ++ [byte e.rowsUsed, byte e.colsUsed]
          ++ leBytes 2 e.lastBank ++ leBytes 2 e.lastRow ++ [0, 0])))) ∧
  (∀ (s : State) (mb : Nat) (q : Req), q = s.request mb → q.lay 40 [] = true →
    (s.starts 0x0D03 mb → ∃ x : State, Only [.host, .faults] s x ∧ x.host = s.taken.host ∧
      (∀ n, n < 320 → x.srcAt n = if (q.u 0 40).testBit n = true ∧ s.conditionPresent n = false
        then { s.srcAt n with pending := false, holdsAlive := false } else s.srcAt n) ∧
      x.faults = { s.faults with src := x.faults.src } ∧
      ∃ m, (∀ n, m.testBit n = (decide (n < 320) && (q.u 0 40).testBit n && (x.srcAt n).pending)) ∧
        exec (.faultAck mb) s = .next ((x.reply q .ok (leBytes 40 m)).followed)) ∧
    (s.starts 0x0D05 mb → ∃ x : State, Only [.host, .faults] s x ∧ x.host = s.taken.host ∧
      (∀ n, n < 320 → x.srcAt n = if (q.u 0 40).testBit n = true then { s.srcAt n with count := 0 } else s.srcAt n) ∧
      (∀ n, n < 320 → x.eccAt n = if (q.u 0 40).testBit n = true ∧ 200 ≤ n ∧ n < 224
        then { s.eccAt n with corrected := 0, uncorrectable := 0, poisoned := 0, persistent := 0, uninitialised := 0
                              passes := 0 }
        else s.eccAt n) ∧
      x.faults = { s.faults with src := x.faults.src, ecc := x.faults.ecc } ∧
      exec (.faultClearcount mb) s = .next ((x.reply q .ok []).followed)))

/-- R478, R482, R483, Table 18-6: in a firmware mode an event of a source whose acting reactions are none, or LOG and
INTERRUPT alone, counts on its source with its epoch, code and class, and is queued, or counted in the entry of the
same source and code that still stands in the queue. No other source and no other part of the machine changes. The
sources whose block does more beside (channels, ECC memories, self-tests) are left to other statements. -/
def Obligations.EventCountedAndQueued : Prop :=
  ∀ (s : State) (src event : Nat) (data : Bytes) (c r : Nat), s.mode.firmware = true → 224 ≤ src → src < 320 →
    reservedSource src = false → src ≠ 284 → src ≠ 285 → c = eventClass src event → r = s.actingBits src c →
    (s.minClass src ≤ c ∨ s.escalate src = 0) → s.faults.queue.length < 64 →
    (r = 0 ∨ r = 1 ∨ r = 3) →
    ∃ t, exec (.faultEvent src event data) s = .next t ∧
      t.srcAt src = { s.srcAt src with
        count := ((s.srcAt src).count + 1) % 2 ^ 32, pending := true, lastEpoch := s.clocks.epoch, lastEvent := event
        lastClass := c } ∧
      (∀ n, n ≠ src → t.srcAt n = s.srcAt n) ∧
      (r = 0 → t.faults.queue = s.faults.queue) ∧
      (r ≠ 0 → (∀ e ∈ s.faults.queue, ¬(e.source = src ∧ e.event = event)) → t.faults.queue = s.faults.queue ++
        [{ epoch := s.clocks.epoch, source := src, cls := c, event := event, repeats := 0, reaction := r
           data := (padTo 16 data).take 16, count := ((s.srcAt src).count + 1) % 2 ^ 32 }]) ∧
      (r ≠ 0 → src ≠ 319 → (∃ e ∈ s.faults.queue, e.source = src ∧ e.event = event) →
        t.faults.queue = s.faults.queue.map fun e =>
          if e.source = src ∧ e.event = event then { e with repeats := min 65535 (e.repeats + 1) } else e) ∧
      Only [.faults] s t

/-- R478, R489, R77, R491, R492: an event of a reserved source, or without firmware, changes nothing; a heartbeat
missed outside a halt in Service stops ALIVE and raises source 299; the release of a held block ends its hold, its PLL
is in lock again, and the gauge's strings count the gap as uncounted time; a patrol step that meets only clean words
moves the place of every initialised memory on by one word; a merge entry of the mailboxes commits its masked bytes
and no others. -/
def Obligations.MemoryAndHoldEvents : Prop :=
  ∀ s : State,
    (∀ src event data, (s.mode.firmware = false ∨ 320 ≤ src ∨ reservedSource src = true) →
      exec (.faultEvent src event data) s = .next s) ∧
    (s.mode.firmware = true → ¬(s.anyHalted = true ∧ s.mode = .service) →
      exec .wardenHeartbeatMissed s = .next ({ s with
        faults := { s.faults with heartbeatMissed := 3 }, power := { s.power with alive := false } }.raise 299 1 [])) ∧
    (∀ b us, b < 16 → b ≠ 14 → 4 ≤ b →
      (s.held b = true ∨ (b < 8 ∧ (s.clusterAt (b - 4)).calibrating = true)) → ∃ x : State,
      exec (.blockResetRelease b us) s = .next x.settle ∧ x.held b = false ∧ (∀ k, k ≠ b → x.held k = s.held k) ∧
      (∀ c, x.clusterAt c = if c + 4 = b then { s.clusterAt c with calibrating := false } else s.clusterAt c) ∧
      (∀ k, k < 32 → x.stringAt k = if b = 9 ∧ s.strEnable k = 1
        then { s.stringAt k with uncounted := (s.stringAt k).uncounted + us } else s.stringAt k) ∧
      (∀ p, x.clocks.pllLost.testBit p = (s.clocks.pllLost.testBit p && decide (pllOf b ≠ some p))) ∧
      x.clocks = { s.clocks with pllLost := x.clocks.pllLost } ∧ Only [.hold, .clocks, .cluster, .gauge] s x) ∧
    (∀ us, s.held 14 = true → exec (.blockResetRelease 14 us) s =
      .next ({ s with hold := { s.hold with held := setBit s.hold.held 14 false } }.startBurst).settle) ∧
    (∀ b us, b < 4 → s.held b = true → (s.clusterAt b).initialised = true → exec (.blockResetRelease b us) s =
      .next (({ s with
        hold := { s.hold with held := setBit s.hold.held b false }
        clocks := { s.clocks with pllLost := setBit s.clocks.pllLost (2 + b) false } } : State).defaultCapture b).settle) ∧
    (∀ b us, s.held b = false → (b < 4 ∨ 8 ≤ b ∨ (s.clusterAt (b - 4)).calibrating = false) →
      exec (.blockResetRelease b us) s = .next s) ∧
    (s.mode.firmware = true → s.faults.merge = [] → ∃ t, exec (.scrubTick []) s = .next t ∧ Only [.faults] s t ∧
      t.faults = { s.faults with ecc := t.faults.ecc } ∧
      ∀ i, 200 ≤ i → i < 224 → t.eccAt i =
        if s.eccReady i = true then
          (if (s.eccAt i).scrub + 1 < eccWords i then { s.eccAt i with scrub := (s.eccAt i).scrub + 1 }
           else { s.eccAt i with
             scrub := 0, passes := ((s.eccAt i).passes + 1) % 2 ^ 32, lastPass := (s.eccAt i).thisPass, thisPass := [] })
        else s.eccAt i) ∧
    (∀ e : MergeEntry, e.inst = 201 → e.mask < 15 → s.faults.merge = [e] → s.wordBad 201 e.word = false →
      ∃ t, exec (.mergeCommit 201 e.word) s = .next t ∧ t.faults = { s.faults with merge := [] } ∧
        Only [.host, .faults] s t ∧ t.host = { s.host with ram := t.host.ram } ∧
        ∀ a, memRead t.host.ram a = if a / 4 = e.word ∧ e.mask.testBit (a % 4) = true
          then byte (e.value / 256 ^ (a % 4)) else memRead s.host.ram a)

/-- R84, R86, R88, R89, R87, R99, R101 to R104, R106, R107, R601, Tables 4-11 and 4-13, R102, R104, R113, R498: a
complete sensing pass with no brace in force latches the lifecycle of the latest marker that is not BLANK, the debug
level, the digests and the device secret that are GOOD, the trims and the die ID, and brings Boot to step 1; the
UNRELIABLE words, the trims that are not GOOD and the rejected spares raise their sources. While a brace is in force
nothing is sensed. Boot goes on. The initialiser clears the mailboxes; CS0 takes its tap and clock, a slot still in
TRIAL is marked REJECTED with code 0x08, and the WRITTEN and CONFIRMED slots are tried by descending SEQUENCE; a slot
that passes the check is run, marked TRIAL first where it was WRITTEN; one that fails is marked REJECTED with the
code, but for code 0x09, and the next one is tried; with none left Boot ends in Stranded with code 0x06 once the marks
are written. While a mark is being written neither the check nor the start goes on. The firmware image enters
Configure from Boot step 7 with HRDY high, every cluster's memories initialised, a TRIAL slot being marked CONFIRMED
and the time noted. At any other point of Boot the row changes nothing. (Premises: no installed key to judge, and no
gate token, which Boot never holds.) -/
def Obligations.BootSensesTriesAndEntersConfigure : Prop :=
  (∀ s : State, s.mode = .boot → s.boot.step = 0 →
    (s.power.brace = none → ∃ x : State,
      exec .otpSenseComplete s = .next (((x.raiseTimes
        ((upto 200).filter fun w => decide ((s.otpAt w).status = 3)).length 280).raiseTimes
        ((countFrom 32 48).filter fun w => !(s.otpAt w).good).length 281).raiseTimes s.spares.2 282) ∧
      x.otp.sensed = true ∧ x.otp.words = s.otp.words ∧
      x.otp.lifecycle = (if (s.otpAt 2).blank = false then 3 else if (s.otpAt 1).blank = false then 2
        else if (s.otpAt 0).blank = false then 1 else 0) ∧
      (x.otp.lifecycle = 0 ∨ x.otp.lifecycle = 3 → x.otp.debugLevel = 0) ∧
      (x.otp.lifecycle = 1 ∨ x.otp.lifecycle = 2 → (s.otpAt 4).blank = true → x.otp.debugLevel + 1 = x.otp.lifecycle) ∧
      (x.otp.lifecycle = 1 ∨ x.otp.lifecycle = 2 → (s.otpAt 4).good = true → (s.otpAt 4).primary = 0xA5 →
        x.otp.debugLevel = 1) ∧
      (x.otp.lifecycle = 1 ∨ x.otp.lifecycle = 2 → (s.otpAt 4).blank = false →
        ¬((s.otpAt 4).good = true ∧ (s.otpAt 4).primary = 0xA5) → x.otp.debugLevel = 2) ∧
      x.otp.digest0 = s.digestAt 8 ∧ x.otp.digest1 = s.digestAt 16 ∧ x.otp.secretKey = s.digestAt 40 ∧
      (∀ i, i < 32 → x.otp.trims[i]? = some (if (s.otpAt (48 + i)).good = true then some (s.otpAt (48 + i)).primary else none)) ∧
      x.retained = { s.retained with dieId := s.dieId, trims := x.otp.trims } ∧ x.boot = { s.boot with step := 1 } ∧
      Only [.otp, .log, .retained, .boot, .faults] s x) ∧
    (s.power.brace.isSome = true → exec .otpSenseComplete s = .next s)) ∧
  (∀ s : State, s.mode = .boot →
    (s.boot.step = 1 → exec .memoryInitComplete s =
      .next { s with boot := { s.boot with step := 2 }, host := { s.host with ram := [] } }) ∧
    (∀ taps khz ns, s.boot.step = 2 → s.boot.writes = [] → ∃ x : State, Only [.boot, .retained, .freeCount] s x ∧
      x.retained = { s.retained with rtcNs := max s.retained.rtcNs (ns % 2 ^ 64) } ∧ x.boot.step = 4 ∧
      x.boot.cs0 = storePort taps khz ∧ x.boot.tableCopy = (if s.boot.table0.valid = true then 0 else 1) ∧
      (∀ i, i ∈ x.boot.order ↔ i < 2 ∧ (s.boot.stateCode i = 0x7F ∨ s.boot.stateCode i = 0x1F)) ∧
      (x.boot.order = [1, 0] → x.boot.sequence 0 < x.boot.sequence 1) ∧
      (x.boot.order = [0, 1] → x.boot.sequence 1 ≤ x.boot.sequence 0) ∧ x.boot.order.length ≤ 2 ∧
      x.boot.writes = (if s.boot.stateCode 0 = 0x3F then [.mark 1 0 0x0F, .mark 0 0 0x0F] else []) ++
        (if s.boot.stateCode 1 = 0x3F then [.mark 1 1 0x0F, .mark 0 1 0x0F] else []) ∧
      x.boot.codeA = (if s.boot.stateCode 0 = 0x3F then 8 else s.boot.codeA) ∧
      x.boot.codeB = (if s.boot.stateCode 1 = 0x3F then 8 else s.boot.codeB) ∧
      exec (.flashResetDone taps khz ns) s = .next (if x.boot.order ≠ [] then x
        else if x.boot.writes = [] then x.strandBoot 0x06 else x.noteFailure 0x06 false)) ∧
    (∀ i rest fails ns, s.boot.step = 4 → s.boot.order = i :: rest → s.boot.writes = [] →
      ∀ code, code = (if fails = true ∨ s.boot.cs0.khz = 0 then 9 else s.checkSlot i s.otp.bootDigest) →
      (code = 0 → ∃ t, exec (.imageChecked i fails ns) s = .next t ∧ t.boot.step = 5 ∧ t.boot.running = i ∧
        t.boot.order = [] ∧ t.boot.writes = (if s.boot.stateCode i = 0x7F then [.mark 1 i 0x3F, .mark 0 i 0x3F] else []) ∧
        Only [.boot, .retained, .freeCount] s t) ∧
      (code ≠ 0 → ∃ x : State, Only [.boot, .retained, .freeCount] s x ∧ x.boot.order = rest ∧
        x.boot.codeA = (if i = 0 then code else s.boot.codeA) ∧ x.boot.codeB = (if i = 0 then s.boot.codeB else code) ∧
        x.boot.writes = (if code = 9 then [] else [.mark 1 i 0x0F, .mark 0 i 0x0F]) ∧
        exec (.imageChecked i fails ns) s = .next (if rest ≠ [] then x
          else if x.boot.writes = [] then x.strandBoot 0x06 else x.noteFailure 0x06 false))) ∧
    (∀ i fails ns, s.boot.writes ≠ [] → exec (.imageChecked i fails ns) s = .next s ∧ exec .imageStart s = .next s) ∧
    (s.boot.step = 5 → s.boot.writes = [] → exec .imageStart s = .next { s with boot := { s.boot with
      step := 6, watchdogArmed := true, watchdogPaused := false, written := 0 } })) ∧
  (∀ s : State,
    (∀ ns, s.mode = .boot → s.boot.step = 7 → s.host.hostKey = none → s.tide.kRoot = none → s.sluice.own = false →
      ∃ t, exec (.configureEntry ns) s = .next t ∧ t.mode = .configure ∧ t.power.fromMode = .boot ∧ t.host.hrdy = true ∧
        t.power.modeEpoch = s.clocks.epoch ∧ t.power.configureNs = max s.retained.rtcNs (ns % 2 ^ 64) ∧
        (∀ c, c < 4 → (t.clusterAt c).initialised = true) ∧
        (s.boot.stateCode s.boot.running = 0x3F → t.boot.writes = s.boot.writes ++
          [.mark 1 s.boot.running 0x1F, .mark 0 s.boot.running 0x1F]) ∧
        (s.boot.stateCode s.boot.running ≠ 0x3F → t.boot = s.boot) ∧
        t.host.irqModeChange = true) ∧
    (∀ ns, (s.mode ≠ .boot ∨ s.boot.step ≠ 7) → exec (.configureEntry ns) s = .next s))

/-- R83, R84, R91, R92, R96, R518 to R520, R521 to R523, R105: OTP.READ answers each word's status and its value, none
for the device secret or an UNRELIABLE word, and waits for the end of a word under programming; OTP.PROGRAM starts
programming a BLANK word that it may name, in Provisioned; OTP.LIFECYCLE starts the marker of an advance whose
conditions hold, BEGUN being set first; both answer LOCKED otherwise and BUSY while a word is being programmed.
FW.STATUS; FW.WRITE waits for its write, marking the slot REJECTED first where it begins an image; FW.COMMIT waits for
the rewrites of the table, copy 1 and then copy 0, where the written image passes R101, and answers BAD_ARG with the
code where it does not. -/
def Obligations.OtpAndFirmwareOrders : Prop :=
  (∀ (s : State) (mb : Nat) (q : Req), q = s.request mb →
    (s.starts 0x0F01 mb → q.lay 4 [(2, 2)] = true → 1 ≤ q.u 1 1 → q.u 1 1 ≤ 64 → q.u 0 1 + q.u 1 1 ≤ 200 →
      (s.otp.job.isSome = true → exec (.otpRead mb) s = .next (s.holds mb .otpRead)) ∧
      (s.otp.job = none → ∃ ws, ws = countFrom (q.u 1 1) (q.u 0 1) ∧ exec (.otpRead mb) s = .next (((s.taken.raiseTimes
        (ws.filter fun w => decide (s.otpStatus w = 3)).length 280).reply q .ok
        ([byte (q.u 1 1), 0, 0, 0] ++ padTo 64 (ws.map fun w => byte (s.otpStatus w))
          ++ (ws.map fun w => leBytes 4 (if s.otpStatus w = 1 then (s.otpAt w).primary else 0)).flatten)).followed))) ∧
    (∀ w v m, ∃ c, s.otpBegin w v m false = { s with freeCount := s.freeCount + 1, otp := { s.otp with
      job := some { word := w, value := v, mailbox := m, filling := false, cut := c }
      words := Tab.upd {} s.otp.words w fun x => { x with cells := x.cells ||| 7 } } }) ∧
    (s.starts 0x0F02 mb → q.lay 8 [(1, 3)] = true → s.otp.job = none →
      (s.otp.lifecycle = 1 → programmable (q.u 0 1) = true → (s.otpAt (q.u 0 1)).blank = true →
        exec (.otpProgram mb) s = .next (((s.taken.otpBegin (q.u 0 1) (q.u 4 4) mb false).wait q .otpProgram).followed)) ∧
      ((s.otp.lifecycle ≠ 1 ∨ programmable (q.u 0 1) = false ∨ (s.otpAt (q.u 0 1)).blank = false) →
        exec (.otpProgram mb) s = .next (s.answer mb .locked []))) ∧
    (s.starts 0x0F03 mb → q.lay 8 [(1, 3)] = true → s.otp.job = none →
      (q.u 0 1 = 2 → q.u 4 4 = 0 → s.lifecycleMarked = 1 → (s.fieldGood 8 8 = true ∨ s.fieldGood 16 8 = true) →
        s.fieldGood 32 8 = true → s.boot.header s.boot.running 6 2 < 2 →
        exec (.otpLifecycle mb) s = .next (((s.taken.otpBegin 1 0x5A5AA5A5 mb false).wait q (.lifecycle 2)).followed)) ∧
      (q.u 0 1 = 3 → q.u 4 4 = 0x52455449 → s.lifecycleMarked = 2 →
        exec (.otpLifecycle mb) s = .next (((s.taken.otpBegin 2 0x5A5AA5A5 mb false).wait q (.lifecycle 3)).followed))) ∧
    (∀ j, s.otp.job = some j →
      (s.starts 0x0F02 mb → exec (.otpProgram mb) s = .next (s.answer mb .busy [])) ∧
      (s.starts 0x0F03 mb → exec (.otpLifecycle mb) s = .next (s.answer mb .busy [])))) ∧
  (∀ (s : State) (mb : Nat) (q : Req), q = s.request mb →
    (s.starts 0x1001 mb → q.lay 0 [] = true → exec (.fwStatus mb) s = .next (s.answer mb .ok
      ([byte s.boot.running, byte s.boot.tableCopy, 0, 0] ++ s.boot.statusBytes 0 ++ s.boot.statusBytes 1
        ++ leBytes 4 s.boot.written))) ∧
    (s.starts 0x1002 mb → s.cs0Busy = false → q.u 0 1 ≤ 1 → 1 ≤ q.u 2 2 → q.u 2 2 ≤ 256 →
      q.lay (8 + q.u 2 2) [(1, 1)] = true → q.u 0 1 ≠ s.boot.running → q.u 4 4 + q.u 2 2 ≤ 0x300100 →
      (q.u 4 4 = 0 → ∃ c, exec (.fwWrite mb) s = .next ((((({ s.taken with freeCount := s.freeCount + 1, boot := { s.boot with
          cut := c, writes := s.boot.writes ++ [.mark 1 (q.u 0 1) 0x0F, .mark 0 (q.u 0 1) 0x0F]
          written := 0, writeSlot := q.u 0 1, erased := 0 } } : State).record 0x03 4 [byte (q.u 0 1)]).wait q
            (.fwWrite (q.u 0 1) 0 (q.u 2 2)))).followed)) ∧
      (q.u 4 4 ≠ 0 → q.u 4 4 = s.boot.written → exec (.fwWrite mb) s =
        .next (s.holds mb (.fwWrite (q.u 0 1) (q.u 4 4) (q.u 2 2))))) ∧
    (s.starts 0x1003 mb → s.cs0Busy = false → q.lay 8 [(1, 3)] = true → q.u 0 1 ≤ 1 → s.testFailed 2 = false →
      s.testFailed 3 = false →
      (s.commitCode (q.u 0 1) (q.u 4 4) = 0 → ∃ c, ∀ x, x = s.boot.committedTable (q.u 0 1)
          ((s.boot.sequence s.boot.running + 1) % 2 ^ 32) →
        exec (.fwCommit mb) s = .next ((({ s.taken with freeCount := s.freeCount + 1, boot := { s.boot with
          cut := c, writes := s.boot.writes ++ [.rewrite 1 x, .rewrite 0 x] } } : State).wait q (.fwCommit (q.u 0 1))).followed)) ∧
      (s.commitCode (q.u 0 1) (q.u 4 4) ≠ 0 → exec (.fwCommit mb) s =
        .next (((s.taken.commitRecord (q.u 0 1) (s.commitCode (q.u 0 1) (q.u 4 4)) (s.boot.sequence (q.u 0 1))).reply q .badArg
          [byte (s.commitCode (q.u 0 1) (q.u 4 4)), 0, 0, 0]).followed))))

/-- R45, R46, R49, R590: from Off the always-on domain comes up in Keep; a wake event that its enable admits, with no
attempt, spacing, pending series or RESET_N in the way, starts a wake series with its first attempt and its SOURCE bit
in the retention words; one that is not admitted starts nothing. -/
def Obligations.WakeEventStartsSeries : Prop :=
  (∀ s : State, s.mode = .off → exec .vaonRise s = .next { s with
    power := { s.power with mode := .keep, fromMode := .off, domains := 2 } }) ∧
  (∀ s : State, ∀ i, ∀ b : Nat,
    ((i = .wakeNLow ∧ b = 0) ∨ (i = .rtcAlarm ∧ b = 3 ∧ s.retained.alarmNs ≠ 0 ∧ s.mode ≠ .stranded) ∨
      (i = .inuvRecover ∧ b = 4 ∧ s.power.inuvTripped = true)) →
    s.mode.asleep = true → s.retained.wakeEnable.testBit b = true → s.power.wake.phase = .idle →
    s.power.wake.pending = none → s.power.resetN = true →
    ∃ t, exec i s = .next t ∧ t.power.wake.phase = .waitPg 0 ∧ t.power.wake.kind = .wake ∧ t.power.pwren = 1 ∧
      t.power.pg = 0 ∧ t.power.wake.crystalOn = true ∧ t.power.wake.crystalReady = false ∧
      t.power.ret.attempts = 1 ∧ t.power.ret.source = 2 ^ b ∧ t.power.ret.fromMode = s.mode.code ∧
      t.power.ret.attemptCodes = 0 ∧ t.power.ret.crc = crc32c ((t.power.ret.words.map (leBytes 4)).flatten) ∧
      t.mode = s.mode ∧ (i ≠ .rtcAlarm → t.retained = s.retained) ∧
      (i = .rtcAlarm → t.retained = { s.retained with
        alarmNs := 0, rtcNs := max s.retained.rtcNs (s.retained.alarmNs % 2 ^ 64) }) ∧
      Only [.power, .retained] s t) ∧
  (∀ s : State, s.mode.asleep = true → s.mode ≠ .stranded → s.retained.wakeEnable.testBit 0 = false →
    exec .wakeNLow s = .next { s with power := { s.power with wakeN := false } })

/-- R42, R46, R47, R72, R581, R48, R49: an attempt goes on. Each good PG enables the next rail, and the last one
measures the I/O banks (a PG that is not awaited is only taken as good); with the crystal ready the domains are
switched on, and Boot begins as the internal resets are released, and an RTC loss that began before is raised there. A
PG or the crystal that does not come fails the attempt: the enables fall, the failure's CODE stands in the retention
words, and the spacing begins; after it the next attempt starts. The fourth failure ends in Stranded. -/
def Obligations.WakeAttemptReachesBootOrFails : Prop :=
  (∀ s : State,
    (∀ n banks, n < 3 → s.power.wake.phase = .waitPg n → exec (.pgGood n banks) s = .next { s with power := { s.power with
      pg := setBit s.power.pg n true, pwren := setBit s.power.pwren (n + 1) true
      wake := { s.power.wake with phase := .waitPg (n + 1) } } }) ∧
    (∀ banks, s.power.wake.phase = .waitPg 3 → exec (.pgGood 3 banks) s = .next { s with power := { s.power with
      pg := setBit s.power.pg 3 true, bank33 := banks % 4, bankMeasured := true
      wake := { s.power.wake with phase := if s.power.wake.crystalReady then .switching else .waitCrystal } } }) ∧
    (∀ n banks, n < 3 → s.power.wake.phase ≠ .waitPg n → exec (.pgGood n banks) s = .next { s with power := { s.power with
      pg := setBit s.power.pg n true } }) ∧
    (s.power.wake.crystalOn = true → exec .crystalReady s = .next { s with power := { s.power with
      wake := { s.power.wake with
        crystalReady := true, phase := if s.power.wake.phase = .waitCrystal then .switching else s.power.wake.phase } } }) ∧
    (s.power.wake.phase = .switching → (∀ d, s.domain d = true → d = 1 ∨ d = 13) → ∃ t, exec .domainSwitchOn s = .next t ∧
      (∀ d, t.domain d = decide (d ∈ [1, 2, 3, 13, 18, 20])) ∧ t.power.wake.phase = .releasing ∧
      (s.domain 13 = true → t.gauge = s.gauge ∧ t.freeCount = s.freeCount) ∧
      (s.domain 13 = false → t.gauge = { session := s.fresh .random 0 % 2 ^ 32 } ∧ t.freeCount = s.freeCount + 1) ∧
      Only [.power, .gauge, .freeCount] s t) ∧
    (∀ ns, s.power.wake.phase = .releasing → s.gauge.hib = false → ∃ t, Only [.power, .retained] s t ∧
      exec (.internalResetRelease ns) s = .next (if s.clocks.rtcLost = true then t.begin_ 225 1 [] else t) ∧
      t.retained = { s.retained with rtcNs := max s.retained.rtcNs (ns % 2 ^ 64) } ∧ t.mode = .boot ∧ t.power.fromMode = s.mode ∧ t.power.wake.phase = .idle ∧ t.power.ret.stranded = false ∧
      t.power.ret.attempts = s.power.ret.attempts ∧ t.power.modeEpoch = s.clocks.epoch)) ∧
  (∀ (s : State) (i : Instr) (code ns : Nat), (∀ d, s.domain d = true → d = 1 ∨ (d = 13 ∧ s.mode = .gaugeWatch)) →
    ((∃ n, n < 4 ∧ i = .pgTimeout n ns ∧ s.power.wake.phase = .waitPg n ∧ code = n + 1) ∨
      (i = .crystalTimeout ns ∧ s.power.wake.crystalOn = true ∧ s.power.wake.crystalReady = false ∧ code = 5)) →
    (s.power.ret.attempts < 4 → ∃ t, exec i s = .next t ∧ t.power.wake.phase = .spacing ∧ t.power.pwren = 0 ∧
      t.power.wake.crystalOn = false ∧ t.power.ret.code = code ∧ t.power.ret.lastFailNs = max s.retained.rtcNs (ns % 2 ^ 64) ∧
      t.power.ret.attempts = s.power.ret.attempts ∧ t.power.ret.pwrenState = s.power.pwren ∧
      t.mode = s.mode ∧ Only [.power, .retained] s t ∧
      t.retained = { s.retained with rtcNs := max s.retained.rtcNs (ns % 2 ^ 64) } ∧
      ∃ u, exec .wakeRetry t = .next u ∧ u.power.ret.attempts = s.power.ret.attempts + 1 ∧
        u.power.wake.phase = .waitPg 0 ∧ u.power.pwren = 1 ∧ Only [.power] t u) ∧
    (4 ≤ s.power.ret.attempts → ∃ t, exec i s = .next t ∧ t.mode = .stranded ∧ t.power.wake.phase = .idle ∧
      t.power.pwren = 0 ∧ t.power.ret.code = code ∧ t.power.ret.stranded = true ∧
      t.power.ret.strandedCount = min 0xFFFF (s.power.ret.strandedCount + 1) ∧
      t.retained = { s.retained with rtcNs := max s.retained.rtcNs (ns % 2 ^ 64) }))

/-- R53, R75, R78, R43, R74 to R76, R104, R494, R520, R526: RESET_N low outside a wake attempt, a PG lost and an armed
rail at its reset level each begin an immediate chip reset in a firmware mode but Last-gasp: the chip is in Keep with
every enable low, the reset-cause register names the cause, the wake series of the reset is pending, and what the
always-on domain retains stays. The logbook store keeps what it held but for a burst in flight, which is cut off. The
rest of the resets. The 10 ms after a chip reset and RESET_N's release start the pending series once nothing holds it;
an orderly reset proceeds to Keep once the logbook is drained or after 150 µs; the watchdog raises source 298; the
reset that SVC.RESET scheduled begins; a second uncorrectable read of the boot ROM ends in Stranded. A power-on reset
leaves nothing on the die. -/
def Obligations.ChipResetsBeginAndProceed : Prop :=
  (∀ (s : State) (i : Instr) (cause : Nat), s.mode.firmware = true → s.mode ≠ .lastGasp → s.power.chipReset = none →
    ((i = .resetNLow ∧ s.power.wake.phase = .idle ∧ cause = 1) ∨ (∃ n, i = .pgLost n ∧ cause = 3) ∨
      (∃ m, i = .supplyReset m ∧ s.power.armed.testBit m = true ∧ s.monitorPowered m = true ∧ m ≠ 20 ∧ cause = 2)) →
    ∃ t, exec i s = .next t ∧ t.mode = .keep ∧ t.power.fromMode = s.mode ∧ t.power.retainedMode = s.mode ∧
      t.power.pwren = 0 ∧ t.power.domains = 2 ∧ t.power.alive = false ∧ t.host.hrdy = false ∧
      t.power.cause = { faultSrc := 0, fromMode := s.mode.code, count := min 255 (s.power.cause.count + 1)
                        orderly := false, cause := cause } ∧
      t.power.wake.pending = some .chipReset ∧ t.power.wake.pendingFrom = s.mode.code ∧
      t.power.wake.pendingReady = false ∧ t.retained = s.retained ∧ t.log.store = s.log.cutBurst ∧
      (s.log.burst = none → t.log.store = s.log.store) ∧
      t.desc.store0 = s.desc.store0 ∧ t.desc.store1 = s.desc.store1 ∧ (∀ c, (t.chanAt c).drive = .off ∧
        (t.chanAt c).pen = false) ∧ t.pending = s.pending) ∧
  (∀ s : State,
    (s.mode = .keep → s.power.wake.pending = some .chipReset → s.dbg.scanHold = false → s.power.resetN = true →
      s.power.inuvTripped = false → ∃ t, exec .chipResetWake s = .next t ∧ t.power.wake.phase = .waitPg 0 ∧
        t.power.wake.kind = .chipReset ∧ t.power.wake.pending = none ∧ t.power.ret.source = 2 ^ 6 ∧
        t.power.ret.attempts = 1 ∧ t.power.ret.fromMode = s.power.wake.pendingFrom ∧ t.power.pwren = 1 ∧ Only [.power] s t) ∧
    (s.mode = .keep → s.power.wake.pending = none → exec .resetNRelease s =
      .next { s with power := { s.power with resetN := true } }) ∧
    (s.mode = .keep → s.power.wake.pending = some .chipReset → s.power.wake.pendingReady = true →
      s.dbg.scanHold = false → s.power.inuvTripped = false → ∃ t, exec .resetNRelease s = .next t ∧
        t.power.resetN = true ∧ t.power.wake.phase = .waitPg 0 ∧ t.power.wake.pending = none ∧ Only [.power] s t) ∧
    (∀ r us, s.power.chipReset = some r → (s.log.drained = true ∨ 150 ≤ us) → ∃ t,
      exec (.orderlyResetProceed us) s = .next t ∧ t.mode = .keep ∧ t.power.pwren = 0 ∧
      t.power.wake.pending = some .chipReset ∧ t.power.wake.pendingFrom = r.fromMode ∧ t.retained = s.retained ∧
      t.power.cause = s.power.cause ∧ t.log.store = s.log.cutBurst) ∧
    (∀ r us, s.power.chipReset = some r → s.log.drained = false → us < 150 → exec (.orderlyResetProceed us) s = .next s) ∧
    (s.boot.watchdogArmed = true → s.boot.watchdogPaused = false → exec .watchdogExpiry s = .next (s.raise 298 1 [])) ∧
    (∀ n d, s.power.svcReset = some n → (d = false ∨ 16 ≤ n ∨ (s.mbAt n).done = false) → exec (.svcResetStart d) s =
      .next (({ s with power := { s.power with svcReset := none } } : State).chipResetOrderly 0x6 0)) ∧
    (∀ ns, s.mode = .boot → s.boot.step < 6 → ∀ x, x = ((s.rtcRuns ns).setEcc 221 fun e =>
        { e with uncorrectable := (e.uncorrectable + 1) % 2 ^ 32 }).raise 221 4 [] →
      (x.boot.romErrors ≠ 0 → exec (.bootRomUncorrectable ns) s = .next (x.strandBoot 0x07)) ∧
      (x.boot.romErrors = 0 → ∃ t, exec (.bootRomUncorrectable ns) s = .next t ∧ t.boot.step = 0 ∧ t.boot.romErrors = 1 ∧
        t.boot.dataA = x.boot.dataA ∧ t.boot.dataB = x.boot.dataB ∧
        (x.boot.writes = [] → t.boot.table0 = x.boot.table0 ∧ t.boot.table1 = x.boot.table1) ∧
        t.otp.sensed = false ∧ Only [.boot, .otp] x t)) ∧
    (∃ t, exec .vaonReset s = .next t ∧ t.mode = .off ∧ t.power.domains = 0 ∧ t.retained = {} ∧ t.clocks = {} ∧
      t.log.store = s.log.cutBurst ∧ t.desc.store0 = s.desc.store0 ∧ t.boot.dataA = s.boot.dataA ∧
      t.boot.dataB = s.boot.dataB ∧ (s.boot.writes = [] → t.boot.table0 = s.boot.table0 ∧ t.boot.table1 = s.boot.table1) ∧
      t.power.resetN = s.power.resetN ∧ t.power.wakeN = s.power.wakeN ∧ t.pending = s.pending))

/-- R35, R54, R56, R58, R59, R61, Table 2-12: INUV tripping raises source 263 and begins Last-gasp in a firmware mode;
during a wake attempt it ends the attempt without counting it; in Last-gasp its recovery is only noted, and a second
trip is recorded as ignored. With the ramps complete every channel is low, and once everything is flushed, or its time
has come, the chip enters Keep, with a restart where one is due. -/
def Obligations.LastGaspSequence : Prop :=
  ∀ s : State,
    (∀ mv ns, s.mode.firmware = true → s.mode ≠ .lastGasp → exec (.inuvTrip mv ns) s = .next
      (({ s with
        power := { s.power with inuvTripped := true }
        retained := { s.retained with rtcNs := max s.retained.rtcNs (ns % 2 ^ 64) } }.raise 263 1 (leBytes 2 mv)).enterGasp)) ∧
    (∀ x : State, x.enterGasp.mode = .lastGasp ∧ x.enterGasp.host.hrdy = false ∧ x.enterGasp.power.alive = false ∧
      x.enterGasp.power.gasp = .ramping ∧ x.enterGasp.power.gaspRecovered = false ∧
      x.enterGasp.power.inuvTripped = x.power.inuvTripped ∧
      (∀ d, d ∈ [14, 15, 16, 19, 20] → x.enterGasp.domain d = false)) ∧
    (∀ mv ns, s.mode = .lastGasp → exec (.inuvTrip mv ns) s = .next ({ s with
      power := { s.power with inuvTripped := true, gaspRecovered := false }
      retained := { s.retained with rtcNs := max s.retained.rtcNs (ns % 2 ^ 64) } }.record 0x06 6 [2, byte s.modeCode])) ∧
    (∀ mv ns, s.mode.firmware = false → (∀ d, s.domain d = true → d = 1 ∨ (d = 13 ∧ s.mode = .gaugeWatch)) → s.power.wake.phase = .waitPg 0 → s.power.wake.kind = .wake → ∃ t,
      exec (.inuvTrip mv ns) s = .next t ∧ t.power.inuvTripped = true ∧ t.power.wake.phase = .idle ∧ t.power.pwren = 0 ∧
      t.power.wake.pending = none ∧ t.power.ret = s.power.ret ∧ t.mode = s.mode ∧ Only [.power, .retained] s t ∧
      t.retained = { s.retained with rtcNs := max s.retained.rtcNs (ns % 2 ^ 64) }) ∧
    (s.mode = .lastGasp → s.power.inuvTripped = true → exec .inuvRecover s =
      .next { s with power := { s.power with inuvTripped := false, gaspRecovered := true } }) ∧
    (s.power.gasp = .ramping → ∃ t, exec .lastGaspRampEnd s = .next t ∧ t.power = { s.power with gasp := .rampsDone } ∧
      (∀ c, c < 128 → (t.chanAt c).drive = .off ∧ (t.chanAt c).pen = false) ∧
      (∀ k, k ∈ s.enabledOuts → (s.outAt k).live = true → (t.outAt k).state = 0 ∧
        (t.outAt k).lastStop = (s.outAt k).lastStop) ∧ Only [.power, .chan, .out] s t) ∧
    (∀ d, s.mode = .lastGasp → s.power.gasp = .rampsDone → (d = false ∨ s.log.drained = true) →
      (s.power.gaspRecovered && s.retained.autoRestart) = false → ∃ t, exec (.lastGaspComplete d) s = .next t ∧
      t.mode = .keep ∧ t.power.pwren = 0 ∧ t.power.retainedMode = .lastGasp ∧ t.power.wake.pending = s.power.wake.pending ∧
      t.retained = s.retained ∧ t.log.store = s.log.cutBurst) ∧
    (∀ d, s.mode = .lastGasp → s.power.gasp = .rampsDone → (d = false ∨ s.log.drained = true) →
      s.power.gaspRecovered = true → s.retained.autoRestart = true → s.power.resetN = true → s.power.inuvTripped = false →
      s.dbg.scanHold = false → ∃ t, exec (.lastGaspComplete d) s = .next t ∧ t.mode = .keep ∧
      t.power.wake.phase = .waitPg 0 ∧ t.power.wake.kind = .lastGaspRestart ∧ t.power.ret.source = 2 ^ 4 ∧
      t.power.ret.fromMode = 0xA ∧ t.power.ret.attempts = 1 ∧ t.power.pwren = 1)

/-- R50, R51, R52, R475, R72, R73, R559: an armed monitor of a powered rail that falls below its warning level begins
or joins a brace and raises event 1 with the voltage; a further warning keeps the lowest voltage; the end of the brace
offers a record for each monitor that caused it, while firmware runs, and suspended writes resume. The clock monitors.
Each loss is noted and raises its source once as it begins; a restored crystal ends the condition, and the reference
crystal's takes the pending chip reset with it; ten milliseconds of holdover begin an orderly chip reset as a fault
reaction. A PLL's loss of lock in Boot is only reported on its source; the always-on RC ends its condition once it is
back within its range. -/
def Obligations.BracesAndClockMonitors : Prop :=
  (∀ s : State,
    (∀ m mv, s.power.armed.testBit m = true → s.monitorPowered m = true →
      s.power.below.testBit m = false → s.power.brace = none → exec (.supplyWarning m mv) s = .next
        ({ s with power := { s.power with
          brace := some { causes := setBit 0 m true, minMv := Tab.set 0 [] m mv }
          below := setBit s.power.below m true, dipTide := setBit s.power.dipTide m true } }.raise (240 + m) 1
            (leBytes 2 mv ++ leBytes 4 0))) ∧
    (∀ m mv b, s.power.armed.testBit m = true → s.monitorPowered m = true →
      s.power.below.testBit m = true → s.power.brace = some b → ∃ t, exec (.supplyWarning m mv) s = .next t ∧
        t.power = { s.power with brace := t.power.brace } ∧ Only [.power] s t ∧
        ∃ c, t.power.brace = some c ∧ c.causes = b.causes ∧ Tab.get 0 c.minMv m = min (Tab.get 0 b.minMv m) mv ∧
          ∀ k, k ≠ m → Tab.get 0 c.minMv k = Tab.get 0 b.minMv k) ∧
    (∀ m mv, (s.power.armed.testBit m = false ∨ s.monitorPowered m = false) →
      exec (.supplyWarning m mv) s = .next s) ∧
    (∀ b us, s.power.brace = some b → s.mode.firmware = false → exec (.braceEnd us) s =
      .next { s with power := { s.power with brace := none, below := 0 } }) ∧
    (∀ b us, s.power.brace = some b → s.mode.firmware = true → exec (.braceEnd us) s = .next
      (((mapList 23 b.causes).foldl (fun (x : State) m => x.record 0x08 1
        (leBytes 2 (240 + m) ++ leBytes 2 (Tab.get 0 b.minMv m) ++ leSat 4 us))
        { s with power := { s.power with brace := none, below := 0 } }).startBurst)) ∧
    (∀ m, s.monitorPowered m = true → exec (.monitorArm m) s =
      .next { s with power := { s.power with armed := setBit s.power.armed m true } }) ∧
    (∀ m, s.monitorPowered m = false → exec (.monitorArm m) s = .next s)) ∧
  (∀ s : State,
    (s.mode.firmware = true → s.clocks.refLost = false → exec .referenceCrystalLoss s = .next
      ({ s with clocks := { s.clocks with refLost := true, holdoverTide := true } }.begin_ 224 1 [])) ∧
    (s.clocks.refLost = true → exec .referenceCrystalRestored s = .next
      ({ s with clocks := { s.clocks with refLost := false } }.setSrc 224 fun x => { x with present := false })) ∧
    (s.clocks.refLost = true → exec .holdoverTimeout s = .next (s.chipResetOrderly 0x5 224)) ∧
    (s.clocks.refLost = false → exec .holdoverTimeout s = .next s ∧ exec .referenceCrystalRestored s = .next s) ∧
    (s.clocks.rtcLost = false → s.mode.firmware = true → exec .rtcCrystalLoss s = .next ({ s with
      clocks := { s.clocks with rtcLost := true, chargeHoldover := true }
      eth := { s.eth with rtcState := s.eth.rtcState } }.begin_ 225 1 [])) ∧
    (s.clocks.rtcLost = false → s.mode.firmware = false → exec .rtcCrystalLoss s = .next { s with
      clocks := { s.clocks with rtcLost := true, chargeHoldover := true }
      eth := { s.eth with rtcState := 3 } }) ∧
    (s.clocks.rtcLost = true → exec .rtcCrystalRestored s = .next ({ s with
      clocks := { s.clocks with rtcLost := false, chargeHoldover := false }
      eth := { s.eth with rtcState := if s.eth.rtcState = 3 then 0 else s.eth.rtcState } }.setSrc 225 fun x =>
        { x with present := false })) ∧
    (∀ p, s.mode.firmware = true → p < 12 → s.mode = .boot → exec (.pllLossOfLock p) s = .next
      ({ s with clocks := { s.clocks with pllLost := setBit s.clocks.pllLost p true } }.reportEvent (226 + p) 1 [])) ∧
    (∀ p, s.mode.firmware = true → p < 12 → s.mode ≠ .boot → exec (.pllLossOfLock p) s = .next
      ({ s with clocks := { s.clocks with pllLost := setBit s.clocks.pllLost p true } }.raise (226 + p) 1 [])) ∧
    (s.mode.firmware = true → exec (.rcOutOfRange true) s = .next
      ({ s with clocks := { s.clocks with rcOut := true } }.begin_ 239 1 [])) ∧
    (exec (.rcOutOfRange false) s = .next ({ s with clocks := { s.clocks with rcOut := false } }.setSrc 239 fun x =>
      { x with present := false })) ∧
    (∀ n, (s.srcAt n).present = true → s.begin_ n 1 [] = s) ∧
    (∀ n, (s.srcAt n).present = false → s.begin_ n 1 [] = (s.setSrc n fun x => { x with present := true }).raise n 1 []))

/-- R269 to R273: the push-button. A press that has lasted 50 ms is a wake event in Keep, Gauge-watch or Stranded; a
release after 50 ms to 2 s in an active mode sets BUTTON and is recorded as EVENT 2, one of 2 s to 8 s in a firmware
mode as EVENT 3; a long press in Gauge-watch leads to Keep and otherwise orders every output to stop; then outputs
still driven are forced off, and the chip powers down. -/
def Obligations.PushButtonActs : Prop :=
  ∀ s : State,
    (∀ hi low, s.power.pbN = true → (s.power.pbAfterLong = false ∨ 50 ≤ hi) → ∀ x, x = { s with power := { s.power with
        pbN := false, pbMayBeLong := s.mode.firmware || decide (s.mode = Mode.gaugeWatch), pbAfterLong := false } } →
      (50 ≤ low → exec (.pbNPress hi low) s = .next (x.wakeEvent 1)) ∧ (low < 50 → exec (.pbNPress hi low) s = .next x)) ∧
    (∀ hi low, s.power.pbN = false → s.power.pbAfterLong = false → 50 ≤ low →
      exec (.pbNPress hi low) s = .next (s.wakeEvent 1)) ∧
    (∀ ms, s.power.pbN = false → 50 ≤ ms → ms ≤ 2000 → s.mode.active = true → exec (.pbNRelease ms) s = .next
      ({ s with
        power := { s.power with pbN := true, pbMayBeLong := false }
        host := { s.host with irqButton := true } }.record 0x06 2 (leSat 4 ms))) ∧
    (∀ ms, s.power.pbN = false → 2000 < ms → ms < 8000 → s.mode.firmware = true → exec (.pbNRelease ms) s = .next
      ({ s with power := { s.power with pbN := true, pbMayBeLong := false } }.record 0x06 3 (leSat 4 ms))) ∧
    (∀ ms, s.power.pbN = false → (ms < 50 ∨ 8000 ≤ ms) → exec (.pbNRelease ms) s = .next
      { s with power := { s.power with pbN := true, pbMayBeLong := false } }) ∧
    (s.power.pbN = false → s.power.pbMayBeLong = true → s.power.longPressActive = false → s.mode = .gaugeWatch →
      ∃ t, exec .longPress s = .next t ∧ t.mode = .keep ∧ t.power.pbAfterLong = true ∧ t.power.pwren = 0 ∧
        t.retained = s.retained) ∧
    (s.power.pbN = false → s.power.pbMayBeLong = true → s.power.longPressActive = false → s.mode.active = true →
      ∃ x : State, exec .longPress s = .next { x with power := { x.power with pbAfterLong := true } } ∧
        x = { s with power := { s.power with pbMayBeLong := false } }.longPressBegins ∧
        x.power.longPress = true ∧ x.power.longPressActive = true ∧ (∀ k, k < 128 → (x.outAt k).wanted = false)) ∧
    (s.power.longPressActive = true → ∃ t, exec .longPressForceOff s = .next t ∧ t.power.longPressActive = false ∧
      (∀ k, k ∈ s.enabledOuts → (t.outAt k).driven = false) ∧
      Only [.power, .chan, .out, .log, .gauge] s t) ∧
    (∀ us, s.power.longPress = true → s.power.longPressActive = false → s.mode.active = true →
      (s.log.drained = true ∨ 100000 ≤ us) → ∃ t, exec (.longPressPowerDown us) s = .next t ∧ t.mode = .keep ∧
        t.power.pwren = 0 ∧ t.retained = s.retained ∧ t.log.store = s.log.cutBurst)

/-- R510, R512, R514, R146, R197, R153, R513: the object orders that read. OBJ.GET answers an entry for each pair, of
the sealed epoch where a field is read-only and of the present one otherwise; OBJ.VALIDATE answers the findings on the
description its session would commit; OBJ.EXPORT answers bytes of the stored image; without a stored copy the last two
sources are GONE. OBJ.LOAD in the own edit keeps a chunk that overlaps none before it and answers the bytes received;
the chunk that completes a good image stages the whole of it; a chunk that overlaps restarts the load empty with
BAD_ARG. -/
def Obligations.ObjectReadAndLoadOrders : Prop :=
  (∀ (s : State) (mb : Nat) (q : Req), q = s.request mb →
    (s.starts 0x0301 mb → ∀ n, n = q.u 1 1 → q.lay (4 + 4 * n) [(2, 2)] = true → q.u 0 1 = 0 → 1 ≤ n → n ≤ 60 →
      ∀ ds : List FieldDef, (q.pairs n).map pairDef = ds.map some →
      ∀ body, body = ((q.pairs n).map fun p => s.taken.getEntry 0 p).flatten → body.length ≤ 492 →
      ((∀ d ∈ ds, d.effect ≠ .ro) →
        body = ((q.pairs n).map fun p => packEntry (p.1 * 65536 + p.2) (valueIn s.desc.committed (p.1 * 65536 + p.2))).flatten ∧
        exec (.objGet mb) s = .next (s.answer mb .ok ([byte n, 0, 0, 0] ++ body))) ∧
      ((∃ d ∈ ds, d.effect = .ro) → exec (.objGet mb) s = .next
        ((s.taken.replyAt q .ok ([byte n, 0, 0, 0] ++ body) s.sealedView.epoch).followed))) ∧
    (s.starts 0x0304 mb → q.lay 0 [] = true → exec (.objValidate mb) s = .next (s.answer mb .ok (findingsBytes
      (s.taken.validate (if s.desc.edit = some q.session then mergeStaged s.desc.committed s.desc.staged s.desc.stagedWhole
        else s.desc.committed))))) ∧
    (s.starts 0x0308 mb → q.lay 8 [(6, 2)] = true → 1 ≤ q.u 4 2 → q.u 4 2 ≤ 480 →
      (∀ k b, s.desc.readCopy = some k → b = imageOf (s.desc.valuesOf k) (s.desc.seqOf k) →
        q.u 0 4 + q.u 4 2 ≤ b.length → exec (.objExport mb) s = .next (s.answer mb .ok
          (leBytes 4 (s.desc.seqOf k) ++ leBytes 4 b.length ++ slice b (q.u 0 4) (q.u 4 2)))) ∧
      (s.desc.readCopy = none → exec (.objExport mb) s = .next (s.answer mb .gone [])))) ∧
  (∀ (s : State) (mb : Nat) (q : Req) (t : Tab Nat), q = s.request mb → s.starts 0x0307 mb →
    q.lay (8 + q.u 4 2) [(6, 2)] = true → 1 ≤ q.u 4 2 → q.u 4 2 ≤ 488 → s.desc.edit = some q.session →
    s.ownCommit q = false → t = putImage s.desc.load (q.u 0 4) (slice q.payload 8 (q.u 4 2)) →
    (chunkOverlaps s.desc.load (q.u 0 4) (q.u 4 2) = false →
      (∀ m, imageTotal t = some m → ∀ e ∈ t, e.1 < m) →
      (imageTotal t ≠ some t.length → exec (.objLoad mb) s = .next ((({ s.taken with desc := { s.desc with
        load := t } } : State).reply q .ok (leBytes 4 t.length ++ [0, 0, 0, 0])).followed)) ∧
      (∀ b seq values, imageTotal t = some t.length → b = imageBytes t t.length →
        judgeImage b = .good seq values → (cutEntries 65536 (b.drop 0x40)).1.any (Entry.unfeatured q.feats) = false →
        exec (.objLoad mb) s = .next ((({ s.taken with desc := { s.desc with
          staged := values, stagedWhole := true, load := [] } } : State).reply q .ok
            (leBytes 4 b.length ++ [1, 0, 0, 0])).followed))) ∧
    (chunkOverlaps s.desc.load (q.u 0 4) (q.u 4 2) = true → exec (.objLoad mb) s = .next
      ((({ s.taken with desc := { s.desc with load := [] } } : State).reply q .badArg
        (findingsBytes [{ obj := 0x8000, field := 0, reason := 0x0F, detail := 3 }])).followed)))

/-- R141, R142, R143, R145, R147, R512, R615: the edit. OBJ.BEGIN opens an empty edit of its session, BUSY while one
is open; OBJ.SET stages inside the own edit, and outside it waits for the tide boundary with live fields that pass
R615, and is NOT_NEGOTIATED where an entry needs a feature that the session has not negotiated; OBJ.ABORT ends the
edit; OBJ.COMMIT of a description without findings captures it and waits for its copy to be written, and of one with
findings answers them with BAD_ARG. -/
def Obligations.ObjectEditOrders : Prop :=
  ∀ (s : State) (mb : Nat) (q : Req), q = s.request mb →
    (s.starts 0x0303 mb →
      (s.desc.edit = none → q.lay 0 [] = true → exec (.objBegin mb) s = .next ((({ s.taken with desc := { s.desc with
        edit := some q.session, staged := [], stagedWhole := false, load := [] } } : State).reply q .ok []).followed)) ∧
      (∀ n, s.desc.edit = some n → exec (.objBegin mb) s = .next (s.answer mb .busy []))) ∧
    (s.starts 0x0302 mb → s.ownCommit q = false → 4 ≤ q.len → q.len ≤ 496 → 1 ≤ q.u 0 1 → q.u 0 1 ≤ 61 →
      allZero q.payload 1 3 = true → ∀ es, cutEntries (q.u 0 1) (slice q.payload 4 (q.len - 4)) = (es, []) →
      es.length = q.u 0 1 →
      (es.any (Entry.unfeatured q.feats) = true → exec (.objSet mb) s = .next (s.answer mb .notNegotiated [])) ∧
      (es.any (Entry.unfeatured q.feats) = false → s.taken.setFault q es = none →
      (∀ d, s.desc.edit = some q.session → d = es.foldl (fun d e => d.stage e.key e.number) s.desc →
        d.staged.length ≤ 16000 → exec (.objSet mb) s = .next ((({ s.taken with desc := d } : State).reply q .ok
          [byte es.length, 0, 0, 0]).followed)) ∧
      (∀ t, s.desc.edit ≠ some q.session → t = applyEntries s.desc.committed (es.map fun e => (e.key, e.number)) →
        (∀ e ∈ es, ((s.taken.withDescription t).liveFault (s.taken.validate t) e.key) = false) →
        exec (.objSet mb) s = .next (s.holds mb (.objSet (es.map fun e => (e.key, e.number))))))) ∧
    (s.starts 0x0306 mb → q.lay 0 [] = true → s.desc.edit = some q.session → s.ownCommit q = false →
      s.desc.committing = false → exec (.objAbort mb) s = .next ((({ s.taken with desc := { s.desc with
        edit := none, staged := [], stagedWhole := false, load := [] } } : State).reply q .ok []).followed)) ∧
    (s.starts 0x0305 mb → q.lay 0 [] = true → s.desc.edit = some q.session → s.ownCommit q = false →
      ∀ new, new = mergeStaged s.desc.committed s.desc.staged s.desc.stagedWhole →
      (s.taken.validate new = [] → ∃ x : State, exec (.objCommit mb) s = .next (x.wait q .commitStore).followed ∧
        x.desc.image = new ∧ x.desc.captured = s.desc.staged ∧ x.desc.committing = true ∧
        x.desc.committed = s.desc.committed ∧ x.desc.sequence = s.desc.sequence ∧ x.desc.edit = some q.session ∧
        x.desc.capturedSeq = (if 0xFFFFFFFF ≤ s.desc.sequence then 1 else s.desc.sequence + 1) ∧
        x.desc.wellFormed x.desc.copy = false ∧ Only [.desc, .host] s x ∧ x.host = s.taken.host) ∧
      (s.taken.validate new ≠ [] → exec (.objCommit mb) s = .next (s.answer mb .badArg (findingsBytes (s.taken.validate new)))))

/-- R508, R524 to R527: MODE.GET answers the mode, the mode before, ROLE, FLAGS, the epoch of the last change, the
lifecycle, the debug level, LOAD_STATUS, DESC_SEQUENCE, the reset-cause register and the seconds since Configure, and
changes nothing else. TIME.GET answers the clocks; TIME.SET waits for the next tide boundary, LOCKED while the RTC
follows PTP, and PRIVILEGE for a step back without a service session; SVC.RESET answers and schedules the orderly
reset for when its response has been delivered; SVC.BLOCKRESET resets a powered block and answers. -/
def Obligations.ModeGetTimeAndServiceOrders : Prop :=
  (∀ (s : State) (mb : Nat) (p : Power), s.starts 0x0201 mb → (s.request mb).lay 0 [] = true → p = s.power →
    exec (.modeGet mb) s = .next (s.answer mb .ok
      ([byte p.mode.code, byte p.fromMode.code, byte (if s.sluice.presN then 0 else if s.sluice.own then 1 else 2),
        byte (b2n s.budget.acLoss + 2 * b2n s.safetyPending + 4 * b2n s.desc.edit.isSome + 8 * b2n s.sluice.withdrawn
          + 16 * b2n p.longPress + 32 * b2n p.brace.isSome)]
        ++ leBytes 4 p.modeEpoch ++ [byte s.otp.lifecycle, byte s.otp.debugLevel, byte s.desc.loadStatus, 0]
        ++ leBytes 4 s.desc.sequence ++ leBytes 4 p.cause.word ++ leSat 4 (((s.retained.rtcNs : Int) - p.configureNs) / 1000000000).toNat))) ∧
  (∀ (s : State) (mb : Nat) (q : Req), q = s.request mb →
    (s.starts 0x1101 mb → q.lay 0 [] = true → exec (.timeGet mb) s = .next (s.answer mb .ok
      (leBytes 8 (if s.clocks.running = true then s.clocks.tideNs else s.retained.rtcNs) ++ leBytes 4 s.clocks.epoch ++ leBytes 4 s.clocks.epochHi
        ++ [byte s.eth.rtcState, 0, 0, 0] ++ leBytes 4 (toU 32 s.eth.offset) ++ leBytes 8 s.shelfRtcAlarm))) ∧
    (s.starts 0x1102 mb → q.lay 8 [] = true →
      (s.eth.rtcState = 1 → (s.retained.rtcNs ≤ q.u 0 8 ∨ 2 ≤ (s.sesAt q.session).privilege) →
        exec (.timeSet mb) s = .next (s.answer mb .locked [])) ∧
      (q.u 0 8 < s.retained.rtcNs → (s.sesAt q.session).privilege < 2 →
        exec (.timeSet mb) s = .next (s.answer mb .privilege [])) ∧
      (s.eth.rtcState ≠ 1 → (s.retained.rtcNs ≤ q.u 0 8 ∨ 2 ≤ (s.sesAt q.session).privilege) →
        exec (.timeSet mb) s = .next (s.holds mb (.timeSet (q.u 0 8))))) ∧
    (s.starts 0x1201 mb → q.lay 8 [(4, 4)] = true → q.u 0 4 = 0x54455352 → ∀ x, x = s.taken.reply q .ok [] →
      exec (.svcReset mb) s = .next ({ x with power := { x.power with
        svcReset := some (if q.transport = 1 then 16 else mb) } } : State).followed) ∧
    (s.starts 0x1202 mb → q.lay 4 [(1, 3)] = true → q.u 0 1 ≤ 15 →
      (s.blockPowered (q.u 0 1) = true →
        exec (.svcBlockreset mb) s = .next (((s.taken.blockReset (q.u 0 1)).reply q .ok []).followed)) ∧
      (s.blockPowered (q.u 0 1) = false → exec (.svcBlockreset mb) s = .next (s.answer mb .wrongMode []))))

/-- R35 to R38, R88, R152, R154, R393, R509, Table 2-2: MODE.SET while no MODE.SET or claim is under way and no long
press has been made, in a lifecycle after Blank. An entry into Configure does its work and runs on where AUTO_RUN asks
for it. Service is entered from its modes under a service session; Run from Configure with a description or a partner,
at once with the gate token and by a claim without it; Keep and Gauge-watch begin the orderly shutdown; the present
mode is answered OK with no change; a target to which no row leads is recorded and answered WRONG_MODE, and in Blank
so is any other. -/
def Obligations.ModeSetChangesMode : Prop :=
  ∀ (s x : State) (mb : Nat) (q : Req), q = s.request mb → s.starts 0x0202 mb → q.lay 4 [(1, 3)] = true →
    s.power.longPress = false → s.modeSetPending = false → s.sluice.claim = .none →
    (s.otp.lifecycle ≠ 0 → q.u 0 1 = 0xB → 2 ≤ (s.sesAt q.session).privilege →
      (s.mode = .configure ∨ s.mode = .shadow ∨ s.mode = .run ∨ s.mode = .safeHold) →
      x = s.taken.setMode .service 0 0xFFFF → exec (.modeSet mb) s = .next
        ((({ x with power := { x.power with serviceSession := q.session } } : State).reply q .ok [0x0B, 0, 0, 0]).followed) ∧
        x.mode = .service ∧ x.power.fromMode = s.mode ∧ x.power.modeEpoch = s.clocks.epoch) ∧
    (q.u 0 1 = 7 → s.mode = .configure → s.otp.lifecycle ≠ 0 → s.otp.lifecycle ≠ 3 → (s.desc.sequence ≠ 0 ∨ s.sluice.peer = true) →
      (s.token = true → x = s.taken.setMode .run 0 0xFFFF →
        exec (.modeSet mb) s = .next ((x.reply q .ok [0x07, 0, 0, 0]).followed) ∧ x.mode = .run) ∧
      (s.token = false → x = s.taken.wait q (.modeSet .run) → exec (.modeSet mb) s = .next ({ x with sluice := { x.sluice with
        claim := .waitLow, claimAuto := false, collisions := 0 } } : State).followed)) ∧
    (s.otp.lifecycle ≠ 0 → (q.u 0 1 = 1 ∨ q.u 0 1 = 2) → s.mode.active = true → exec (.modeSet mb) s = .next
      ((s.taken.beginShutdown q (if q.u 0 1 = 1 then .keep else .gaugeWatch)).followed)) ∧
    (s.otp.lifecycle ≠ 0 → q.u 0 1 = 5 → s.mode = .safeHold → s.safetyPending = false → x = (s.taken.setMode .configure 0 0xFFFF).configureWork →
      exec (.modeSet mb) s = .next ((x.reply q .ok (modePayload x.mode)).autoRun.followed)) ∧
    (s.otp.lifecycle ≠ 0 → s.mode = .service → (q.u 0 1 = s.power.fromMode.code) → (s.power.fromMode = .configure ∨ s.power.fromMode = .run) →
      (s.power.fromMode = .run → s.otp.lifecycle ≠ 3 ∧ (s.desc.sequence ≠ 0 ∨ s.sluice.peer = true)) →
      x = s.taken.leaveService 0 →
      exec (.modeSet mb) s = .next ((x.reply q .ok (modePayload x.mode)).autoRun.followed)) ∧
    (∀ t, modeTarget (q.u 0 1) = some t → t = s.mode → (t = .service → 2 ≤ (s.sesAt q.session).privilege) →
      exec (.modeSet mb) s = .next (s.answer mb .ok [byte s.mode.code, 0, 0, 0])) ∧
    (∀ t, modeTarget (q.u 0 1) = some t → (t = .service → 2 ≤ (s.sesAt q.session).privilege) → t ≠ s.mode →
      s.modeRow t = false → exec (.modeSet mb) s = .next (((if s.mode.firmware then
        s.taken.record 0x06 6 [8, byte s.modeCode] else s.taken).reply q .wrongMode []).followed)) ∧
    (∀ t, modeTarget (q.u 0 1) = some t → (t = .service → 2 ≤ (s.sesAt q.session).privilege) → t ≠ s.mode →
      s.modeRow t = true → s.otp.lifecycle = 0 → exec (.modeSet mb) s = .next (s.answer mb .wrongMode []))

/-- R51, R83, R94, R99, R105, R120, R127, R147, R149, R522, R523, R466: an external write that ends well, with no
brace in force, lets its order go on or be answered: an OTP word is sealed, a key record holds its key, a written
image holds its bytes and counts them, the copies of the slot table are rewritten one after the other, LOG.CLEAR takes
effect, a commit's copy holds the captured image, an APPLIED word is programmed. One that fails, or has not ended in
its time, is answered TIMEOUT, or UNCORRECTABLE with the word unsealed. Nothing ends while a brace suspends it. -/
def Obligations.ExternalWritesEnd : Prop :=
  ∀ (s : State) (mb : Nat) (w : Waiting), s.wardenRuns = true → s.mode ≠ .boot → mb < 16 → s.waitingOn mb = some w →
    (s.power.brace = none → ∀ j ok stage left, w.what = .otpProgram → s.otp.job = some j → j.filling = false →
      ∃ (x : State) (st : Nat), Only [.otp] s x ∧ x.otp = { s.otp with job := none, words := x.otp.words } ∧
      (∀ n, n ≠ j.word → x.otpAt n = s.otpAt n) ∧
      x.otpAt j.word = (if ok = true then { primary := j.value, copy := j.value, cells := (s.otpAt j.word).cells ||| 4095 }
        else (s.otpAt j.word).stopped j.value stage (0xFFFFFFFF ^^^ (left % 2 ^ 32))) ∧ st = (x.otpAt j.word).status ∧
      exec (.externalWriteComplete mb ok stage left) s = .next ((((if ok = true then x else x.raise 283 1 []).record 0x10 3
        ([byte j.word, byte st, 0, 0] ++ leBytes 4 j.value)).finish mb (if ok = true then .ok else .uncorrectable)
          [byte st, 0, 0, 0]).serveOtpReads)) ∧
    (s.power.brace = none → ∀ k stage left, w.what = .keyInstall 1 k → ∃ x : State,
      exec (.externalWriteComplete mb true stage left) s = .next (x.finish mb .ok []) ∧
      x.host = { s.host with datagramKey := some k } ∧ Only [.host, .log] s x) ∧
    (s.power.brace = none → ∀ slot o n stage left, w.what = .fwWrite slot o n → 1 ≤ n → s.boot.writes = [] → ∃ x : State,
      exec (.externalWriteComplete mb true stage left) s = .next (x.finish mb .ok (leBytes 4 (o + n))) ∧
      x.boot.written = o + n ∧ (∀ i, i < n → n ≤ 256 → x.boot.slotBytes slot (o + i) 1 =
        [(slice (s.request mb).payload 8 n).getD i 0]) ∧ Only [.boot] s x) ∧
    (s.power.brace = none → ∀ slot x stage left, w.what = .fwCommit slot → s.boot.writes = [.rewrite 1 x, .rewrite 0 x] →
      exec (.externalWriteComplete mb true stage left) s = .next { s with boot := { s.boot with
        table1 := x, writes := [.rewrite 0 x] } }) ∧
    (s.power.brace = none → ∀ slot x stage left, w.what = .fwCommit slot → s.boot.writes = [.rewrite 0 x] → ∀ b : Boot,
      b = { s.boot with table0 := x, writes := [] } → exec (.externalWriteComplete mb true stage left) s =
        .next ((({ s with boot := b } : State).commitRecord slot 0 (b.sequence slot)).finish mb .ok
          (leBytes 4 (b.sequence slot) ++ leBytes 4 (b.header slot 0x14 4)))) ∧
    (s.power.brace = none → ∀ up stage left, w.what = .logClear up →
      exec (.externalWriteComplete mb true stage left) s = .next (s.logCleared mb up)) ∧
    (s.power.brace = none → ∀ d stage left, w.what = .commitStore → d = s.desc → s.partnerShadow = false → ∃ t,
      exec (.externalWriteComplete mb true stage left) s = .next t ∧ t.desc.wellFormed d.copy = true ∧
      t.desc.seqOf d.copy = d.capturedSeq ∧ t.desc.valuesOf d.copy = d.image ∧ t.desc.appliedOk d.copy = decide
        (d.capturedSeq = 0xFFFFFFFF) ∧ t.desc.committed = d.committed ∧
      (t.waitingOn mb).map Waiting.what = some .commitBoundary ∧ Only [.desc, .waiting] s t) ∧
    (s.power.brace = none → ∀ d stage left, w.what = .commitApplied → d = s.desc → ∃ x : State,
      exec (.externalWriteComplete mb true stage left) s = .next (x.respond mb .ok (leBytes 4 d.sequence) d.commitEpoch) ∧
      x.desc = d.markApplied d.appliedCopy ∧ x.waitingOn mb = none ∧ Only [.desc, .waiting] s x) ∧
    (s.power.brace = none → ∀ stage left, (∃ kind k, w.what = .keyInstall kind k) ∨ (∃ a, w.what = .logClear a) ∨
        (∃ a, w.what = .logFormat a) ∨ (∃ k, w.what = .rootInstall k) →
      exec (.externalWriteTimeout mb) s = .next (s.finish mb .timeout []) ∧
      exec (.externalWriteComplete mb false stage left) s = .next (s.finish mb .timeout [])) ∧
    (s.power.brace.isSome = true → ∀ ok stage left, (w.what = .otpProgram ∨ w.what = .commitStore ∨ w.what = .commitApplied ∨
        (∃ kind k, w.what = .keyInstall kind k) ∨ (∃ a b c, w.what = .fwWrite a b c) ∨ (∃ a, w.what = .fwCommit a)) →
      exec (.externalWriteComplete mb ok stage left) s = .next s ∧ exec (.externalWriteTimeout mb) s = .next s) ∧
    (w.what = .otpProgram → exec (.externalWriteTimeout mb) s = .next s) ∧
    (∀ copy slot v rest stage left, s.power.brace = none → s.boot.writes = .mark copy slot v :: rest →
      (copy = 0 → v ≠ 0x1F) → exec (.externalWriteComplete 18 true stage left) s = .next { s with boot := { s.boot with
        writes := rest
        table0 := if copy = 0 then s.boot.table0.mark slot v else s.boot.table0
        table1 := if copy = 0 then s.boot.table1 else s.boot.table1.mark slot v } })

/-- R124 to R127, R132 to R135, R124, R126, R141, R38: the session orders. SESSION.OPEN with key 0 opens the next
session number at once; with another usable key the session awaits proof of a fresh nonce, which joins those that the
Boot has given. SESSION.PROVE with the right tag opens the session under the derived key, and a wrong tag ends it with
PRIVILEGE, a record and source 275. SESSION.CLOSE answers and ends the session. SESSION.KEYINSTALL waits for its
write. FEAT.OFFER takes the intersection with bits 0 to 26. A session that has been idle too long, or whose proof has
not come, ends: its number is free of state, its subscriptions and its edit are gone, and Service entered under it is
left. A request in progress, or a halt in Service, keeps the idle timer from ending it. The end of a lockout clears it
with the failed proofs it counted. -/
def Obligations.SessionOrdersAndTimers : Prop :=
  (∀ (s : State) (mb : Nat) (q : Req), q = s.request mb →
    (s.starts 0x0101 mb → q.lay 8 [(4, 4)] = true → q.u 1 1 = 0 → q.u 0 1 ≤ 1 → q.u 2 2 ≤ 3600 → q.transport ≠ 1 →
      s.host.keyLocked.testBit 0 = false → s.openSessions.length < 16 → ∃ x : State,
      exec (.sessionOpen mb) s = .next ((x.reply q .ok (leBytes 4 s.host.nextSession ++ zeros 16 ++ [0])).followed) ∧
      x.sesAt s.host.nextSession = { state := .openS, privilege := q.u 0 1, keyId := 0, transport := q.transport
                                     idleS := if q.u 2 2 = 0 then 600 else q.u 2 2 } ∧
      x.host.nextSession = s.host.nextSession + 1 ∧ (∀ n, n ≠ s.host.nextSession → x.sesAt n = s.sesAt n) ∧
      Only [.host, .eth] s x) ∧
    (s.starts 0x0101 mb → q.lay 8 [(4, 4)] = true → 1 ≤ q.u 1 1 → q.u 1 1 ≤ 3 → q.u 0 1 ≤ keyPrivilege (q.u 1 1) →
      q.u 2 2 ≤ 3600 → keyTransport (q.u 1 1) q.transport = true → s.host.keyLocked.testBit (q.u 1 1) = false →
      (s.sessionKey (q.u 1 1)).isSome = true → s.boot.rngFail = false → s.testFailed 1 = false →
      s.openSessions.length < 16 → ∀ nd, nd = s.nextNonce → ∃ x : State,
      exec (.sessionOpen mb) s = .next ((x.reply q .ok (leBytes 4 s.host.nextSession ++ beBytes 16 nd ++ [1])).followed) ∧
      (x.sesAt s.host.nextSession).state = .proving ∧ (x.sesAt s.host.nextSession).nonce = nd ∧
      (x.sesAt s.host.nextSession).privilege = q.u 0 1 ∧ (x.sesAt s.host.nextSession).keyId = q.u 1 1 ∧
      x.host.nonces = nd :: s.host.nonces ∧ x.freeCount = s.freeCount + 1 ∧ Only [.host, .eth, .freeCount] s x) ∧
    (s.starts 0x0102 mb → q.lay 32 [] = true → s.testFailed 1 = false → ∀ k e nh, e = s.sesAt q.session →
      s.sessionKey e.keyId = some k → nh = slice q.payload 0 16 →
      (proofTag k 1 q.session e.nonce nh = slice q.payload 16 16 → exec (.sessionProve mb) s = .next
        (((s.taken.setSes q.session fun e => { e with
          state := .openS, key := beVal (proofTag k 3 q.session e.nonce nh) }).reply q .ok
            (proofTag k 2 q.session e.nonce nh)).followed)) ∧
      (proofTag k 1 q.session e.nonce nh ≠ slice q.payload 16 16 → ∃ x : State, exec (.sessionProve mb) s = .next
        (((x.raise 275 1 []).reply q .privilege []).endSession q.session).followed ∧ Only [.host, .log] s x ∧
        (q.session, e.keyId).2 ∈ x.host.failedProofs.map Prod.fst)) ∧
    (s.starts 0x0103 mb → q.lay 0 [] = true → exec (.sessionClose mb) s = .next
      (((s.taken.reply q .ok []).endSession q.session).followed)) ∧
    (s.starts 0x0104 mb → q.lay 20 [(1, 3)] = true → q.transport = 0 → s.secretLocked [0, 2] = false →
      (q.u 0 1 = 1 → 2 ≤ (s.sesAt q.session).privilege → exec (.sessionKeyinstall mb) s = .next
        (s.holds mb (.keyInstall 1 (beVal (slice q.payload 4 16))))) ∧
      (q.u 0 1 = 0 → (s.fieldGood 32 8 = true → s.keyMatches 32 (slice q.payload 4 16) = true) →
        exec (.sessionKeyinstall mb) s = .next (s.holds mb (.keyInstall 0 (beVal (slice q.payload 4 16)))))) ∧
    (s.starts 0x0105 mb → q.lay 16 [] = true → (q.u 0 16).testBit 0 = true → ∃ (x : State) (acc : Nat),
      (∀ i, acc.testBit i = (decide (i ≤ 26) && (q.u 0 16).testBit i)) ∧
      exec (.featOffer mb) s = .next ((x.reply q .ok (leBytes 16 acc ++ leBytes 4 0x00040200 ++ leBytes 2 0x0402
        ++ [byte 0x21, byte s.otp.lifecycle] ++ leBytes 4 s.dieId ++ leBytes 2 496 ++ [byte s.role, 0])).followed) ∧
      x.sesAt q.session = { s.sesAt q.session with features := acc, offered := true } ∧
      (∀ n, n ≠ q.session → x.sesAt n = s.sesAt n) ∧ Only [.host] s x)) ∧
  (∀ (s : State) (n : Nat),
    ((s.sesAt n).state ≠ .closed → (∀ m, m < 16 → (s.mbAt m).busy = true → (s.request m).session ≠ n) →
      ¬(s.anyHalted = true ∧ s.mode = .service) → exec (.sessionIdleExpiry n) s = .next (s.endSession n)) ∧
    ((s.sesAt n).state = .proving → exec (.proofTimeout n) s = .next (s.endSession n)) ∧
    ((s.sesAt n).state ≠ .proving → exec (.proofTimeout n) s = .next s) ∧
    (s.mode ≠ .service → (s.endSession n).sesAt n = {} ∧ (∀ k, k ≠ n → (s.endSession n).sesAt k = s.sesAt k) ∧
      (s.endSession n).log.subs = s.log.subs.filter (fun x => decide (x.session ≠ n)) ∧
      (s.desc.edit = some n → s.desc.committing = false → (s.endSession n).desc.edit = none) ∧
      Only [.host, .log, .desc] s (s.endSession n)) ∧
    (s.mode = .service → s.power.serviceSession = n → s.modeSetPending = false → s.power.longPress = false →
      ∃ x : State, s.endSession n = (x.leaveService 6).autoRun ∧ x.sesAt n = {} ∧ Only [.host, .log, .desc] s x) ∧
    (∃ t, exec (.keyLockoutEnd n) s = .next t ∧ t.host.keyLocked.testBit n = false ∧
      (∀ k, k ≠ n → t.host.keyLocked.testBit k = s.host.keyLocked.testBit k) ∧
      (s.host.keyLocked.testBit n = true → ∀ e ∈ t.host.failedProofs, e.1 ≠ n) ∧ Only [.host] s t))

/-- R194, R253, R266, R267, R274, R275, R234: the channel orders. CHAN.UNLOCK ends a lockout; CHAN.START, CHAN.STOP
and CHAN.CLEAR wait for a tide boundary; CHAN.SEQSTATUS and CHAN.SCANREAD answer from the last sealed epoch;
CHAN.IDENT starts a run of 8,688 evaluations on an output whose phases are not clamped; CHAN.IDRESULT reads its pages;
CHAN.APPLY waits for the boundary; CHAN.IDABORT ends a run. -/
def Obligations.ChannelOrders : Prop :=
  ∀ (s : State) (mb : Nat) (q : Req) (k : Nat), q = s.request mb → k = q.u 0 1 →
    (s.starts 0x0401 mb → q.lay 4 [(1, 3)] = true → k ≤ 127 → (s.outAt k).state = 6 → ∃ x : State,
      exec (.chanUnlock mb) s = .next (x.reply q .ok []).followed ∧
      (∀ c ∈ s.phases k, (x.chanAt c).state = s.idleState ∧ (x.chanAt c).pen = false ∧ (x.chanAt c).suspect = false ∧
        ∀ i, (x.chanAt c).cause.testBit i = ((s.chanAt c).cause.testBit i && decide (i ∈ [0, 2, 3, 5]))) ∧
      (∀ c, c ∉ s.phases k → x.chanAt c = s.chanAt c) ∧ (x.outAt k).state ≤ 1 ∧
      (x.outAt k).lastStop = (s.outAt k).lastStop ∧ Only [.chan, .out, .log, .host] s x) ∧
    (∀ m, m = q.u 0 16 → s.starts 0x0406 mb → q.lay 16 [] = true → m ≠ 0 →
      (∀ j, j < 128 → m.testBit j = true → s.outEnable j = 1 ∧ (s.outAt j).state ≠ 6) →
      exec (.chanStart mb) s = .next (s.holds mb (.chanStart m))) ∧
    (s.starts 0x0407 mb → q.lay 20 [(17, 3)] = true → q.u 16 1 ≤ 1 →
      exec (.chanStop mb) s = .next (s.holds mb (.chanStop (q.u 0 16) (q.u 16 1)))) ∧
    (∀ m, m = q.u 0 16 → s.starts 0x0408 mb → q.lay 16 [] = true → m ≠ 0 →
      (∀ j, j < 128 → m.testBit j = true → s.outEnable j = 1 ∧ (s.outAt j).state = 4) →
      exec (.chanClear mb) s = .next (s.holds mb (.chanClear m))) ∧
    (s.starts 0x0409 mb → q.lay 0 [] = true → ∃ p : Bytes, exec (.chanSeqstatus mb) s =
        .next ((s.taken.replyAt q .ok p s.sealedView.epoch).followed) ∧ p.length = 340 ∧
      ∀ j, j < 128 → p[j]? = some (byte (Tab.get {} s.sealedView.out j).state) ∧
        p[128 + j]? = some (byte (Tab.get {} s.sealedView.out j).lastStop)) ∧
    (s.starts 0x040A mb → q.lay 4 [(1, 3)] = true → k ≤ 3 → ∃ p : Bytes, exec (.chanScanread mb) s =
        .next ((s.taken.replyAt q .ok p s.sealedView.epoch).followed) ∧ p.length = 256) ∧
    (s.starts 0x0402 mb → s.token = true → s.effectiveMode = .run → k < 128 → q.lay 12 [(1, 1), (10, 2)] = true →
      q.u 2 2 = 0 → q.u 4 2 = 0 → q.u 6 2 = 0 → q.u 8 2 = 0 → s.unitsUsed k < 2 → (s.outAt k).ident.state ≠ 1 →
      s.outEnable k = 1 → (s.outAt k).state = 3 → (s.outAt k).prof.state = .arrived →
      (∀ c ∈ s.phases k, (s.chanAt c).clamp = none) → ∃ x : State,
      exec (.chanIdent mb) s = .next ((x.reply q .ok (leBytes 4
        ((s.clocks.epoch + 1 + cdiv (8688 * s.interval (s.lead k)) 51200000) % 2 ^ 32))).followed) ∧
      (x.outAt k).ident = { state := 1, ampl := 512, pm := 550, gm := 800, gmLarge := 400, lfsr := 0x1FF
                            startAt := some (s.identStart k), auto := false, nextRun := (s.outAt k).ident.nextRun, retries := (s.outAt k).ident.retries } ∧
      (∀ j, j ≠ k → x.outAt j = s.outAt j) ∧ Only [.out, .sluice, .sent, .freeCount, .host] s x) ∧
    (s.starts 0x0403 mb → q.lay 4 [(2, 2)] = true → k ≤ 127 → q.u 1 1 = 0 →
      exec (.chanIdresult mb) s = .next (s.answer mb .ok (s.outAt k).ident.page0)) ∧
    (s.starts 0x0403 mb → q.lay 4 [(2, 2)] = true → k ≤ 127 → 1 ≤ q.u 1 1 → q.u 1 1 ≤ 5 → ∃ p : Bytes,
      exec (.chanIdresult mb) s = .next ((({ s.taken with freeCount := s.freeCount + 1 } : State).reply q .ok p).followed) ∧
      p.length = if q.u 1 1 = 5 then 120 else 480) ∧
    (s.starts 0x0404 mb → q.lay 4 [(1, 3)] = true → k ≤ 127 → s.gainStaged (s.lead k) = false →
      (s.outAt k).ident.proposal = true → s.outTuning k ≠ 0 → (s.outAt k).ident.applied ≠ 3 → ∃ x : State,
      exec (.chanApply mb) s = .next ((x.wait q (.chanApply k)).followed) ∧
      (x.outAt k).ident = { (s.outAt k).ident with applyDue := 1 } ∧ (∀ j, j ≠ k → x.outAt j = s.outAt j) ∧
      Only [.out, .host] s x) ∧
    (s.starts 0x0405 mb → q.lay 4 [(1, 3)] = true → k ≤ 127 → exec (.chanIdabort mb) s = .next
      (((s.taken.identCheck k (some 1)).reply q .ok []).followed))

/-- R191 to R193, R249 to R251, R265, R231, R225, R228, R230: a start. Its delay over, V0 is measured on every phase
and the shorted high-side test begins with PEN high and gates low; a comparator trip locks the output out; a good end
of the test hands the phases over and the rise begins; a rise that meets its deadline fails the output with LAST_STOP
3. A cleared restart after RESTART_DELAY, the tries restored after 60 s in STATE 3, a scheduled identification run,
and its end with results, a proposal and a record, or with no proposal. -/
def Obligations.StartsRestartsAndIdentRuns : Prop :=
  (∀ (s : State) (k : Nat),
    (∀ volts, s.outEnable k = 1 → (s.outAt k).state = 1 → (s.outAt k).phase = .delay → s.startOk k = true →
      (∀ i, i < (s.phases k).length → (s.measureV0 (s.lead k + i) (volts.getD i 0)).2.isSome = true) → ∃ t,
      exec (.startDelayExpiry k volts) s = .next t ∧ (t.outAt k).state = 2 ∧ (t.outAt k).phase = .testing ∧
      (∀ i, i < (s.phases k).length → (t.chanAt (s.lead k + i)).state = .test ∧ (t.chanAt (s.lead k + i)).pen = true ∧
        (t.chanAt (s.lead k + i)).drive = .off ∧
        (t.chanAt (s.lead k + i)).refCode = (s.measureV0 (s.lead k + i) (volts.getD i 0)).1 ∧
        (t.chanAt (s.lead k + i)).v0 = (s.measureV0 (s.lead k + i) (volts.getD i 0)).2) ∧
      (∀ j, j ≠ k → t.outAt j = s.outAt j) ∧ Only [.chan, .out] s t) ∧
    (∀ volts, (s.outEnable k ≠ 1 ∨ (s.outAt k).state ≠ 1 ∨ (s.outAt k).phase ≠ .delay ∨ s.startOk k = false) →
      exec (.startDelayExpiry k volts) s = .next s) ∧
    (∀ ch, s.outputOf ch = some k → (s.chanAt ch).state = .test → (s.outAt k).phase = .testing →
      exec (.hsTestTrip ch) s = .next ((s.setChan ch fun c => { c with tripped := true }).lockout k fun _ => false)) ∧
    (∀ bad, ∃ (x y : State) (items : Bytes), Only [.out] s x ∧ (x.outAt k).state = 6 ∧ (x.outAt k).lastStop = 6 ∧
      (∀ j, j ≠ k → x.outAt j = s.outAt j) ∧ y = (s.phases k).foldl (fun y c => y.failPhase c (bad c)) x ∧
      items.length = 12 ∧ s.lockout k bad = (((y.phases k).foldl (fun z c => (z.setChan c (Chan.low .lockedOut)).setTrip k c)
        y).record 0x09 1 items).settle) ∧
    (∀ c bad, (s.chanAt c).shorted = true → ∃ x : State, s.failPhase c bad =
        (if bad then (x.raiseChan c 3 (s.chanAt c).thr.trip).raiseChan c 4 0 else x.raiseChan c 3 (s.chanAt c).thr.trip) ∧
      (x.chanAt c).cause.testBit 1 = true ∧ (bad = true → (x.chanAt c).cause.testBit 4 = true) ∧ Only [.chan] s x) ∧
    (∀ samples : List (List Int), s.token = true → (s.outAt k).state = 2 → (s.outAt k).phase = .testing →
      (∀ i m, i < (s.phases k).length → m = testMean (sumI ((samples.getD i []).map currentAdc)) → m.natAbs ≤ 64 ∧
        (currentMa m 0 (s.chIsTransr (s.lead k + i))).natAbs * 100 ≤ s.chOcpLimit (s.lead k + i) * 5) → ∃ x : State,
      exec (.hsTestEnd k samples) s = .next ((s.phases k).foldl (fun y c => y.refreshPhase k c) x) ∧
      (x.outAt k).state = 2 ∧ (x.outAt k).phase = .rising ∧
      (∀ i, i < (s.phases k).length → (x.chanAt (s.lead k + i)).state = .switching ∧
        (x.chanAt (s.lead k + i)).isOffset = testMean (sumI ((samples.getD i []).map currentAdc)) ∧
        (x.chanAt (s.lead k + i)).thr.trip = s.tripCode k (s.lead k + i)) ∧
      (∀ j, j ≠ k → x.outAt j = s.outAt j) ∧ Only [.chan, .out] s x) ∧
    (∀ (samples : List (List Int)) i, s.token = true → (s.outAt k).state = 2 → (s.outAt k).phase = .testing →
      i < (s.phases k).length → 64 < (testMean (sumI ((samples.getD i []).map currentAdc))).natAbs →
      ∃ (x : State) (bad : Nat → Bool), exec (.hsTestEnd k samples) s = .next (x.lockout k bad) ∧
      bad (s.lead k + i) = true ∧ Only [.chan] s x ∧
      (x.chanAt (s.lead k + i)).isOffset = (s.chanAt (s.lead k + i)).isOffset) ∧
    ((s.outAt k).state = 2 → (s.outAt k).phase = .rising → ∃ t,
      exec (.riseDeadlineExpiry k) s = .next t ∧ (t.outAt k).state = 4 ∧ (t.outAt k).lastStop = 3 ∧
      (∀ c ∈ s.phases k, (t.chanAt c).pen = false ∧ (t.chanAt c).drive = .off) ∧
      Only [.chan, .out, .log] s t)) ∧
  (∀ (s : State) (k : Nat),
    (∀ us, s.outEnable k = 1 → (s.outAt k).state = 4 → s.outRestart k = 1 → (s.outAt k).lastStop ∈ [2, 3, 7] →
      0 < (s.outAt k).triesLeft → s.outRestartDelay k ≤ us → us ≤ (s.budget.tides - (s.outAt k).stopTide) * 1000 →
      (s.budget.tides - (s.outAt k).stopTide) * 1000 ≤ us + 1000 →
      s.mode ≠ .safeHold → s.wardenRuns = true → ∃ t, exec (.restartClearance k us) s = .next t ∧ (t.outAt k).state ≤ 1 ∧
      (t.outAt k).triesLeft = (s.outAt k).triesLeft - 1 ∧ (t.outAt k).held = false ∧
      t.log.offers.length = s.log.offers.length + 1 ∧ Only [.chan, .out, .log] s t) ∧
    (∀ us, (s.outAt k).state = 4 → (s.outRestart k = 0 ∨ us < s.outRestartDelay k) → exec (.restartClearance k us) s = .next s) ∧
    ((s.outAt k).state = 3 → 60000 ≤ (s.outAt k).goodTides → s.wardenRuns = true → ∃ t,
      exec (.triesRestore k) s = .next t ∧ t.outAt k = { s.outAt k with triesLeft := s.outRestartTries k } ∧
      (∀ j, j ≠ k → t.outAt j = s.outAt j) ∧ Only [.out] s t) ∧
    (s.identMode = true → s.wardenRuns = true → s.unitsUsed k < 2 →
      firstN s.identDue (s.outsOfCluster (quadrant (s.lead k))) = some k → (∀ c ∈ s.phases k, (s.chanAt c).clamp = none) → ∃ t,
      exec (.identSchedule k) s = .next t ∧ (t.outAt k).ident.state = 1 ∧ (t.outAt k).ident.auto = true ∧
      (t.outAt k).ident.lfsr = 0x1FF ∧ (t.outAt k).ident.ampl = 512 ∧ (∀ j, j ≠ k → t.outAt j = s.outAt j) ∧
      Only [.out, .sluice, .sent, .freeCount] s t) ∧
    ((s.outAt k).ident.state = 1 → 8687 ≤ (s.outAt k).ident.evals → s.wardenRuns = true → ∃ t,
      exec (.identRunEnd k) s = .next t ∧ ((t.outAt k).ident.state = 2 ∨ (t.outAt k).ident.state = 3) ∧
      ((t.outAt k).ident.state = 2 → 5000 ≤ (t.outAt k).ident.quality ∧ (t.outAt k).ident.proposal = true ∧
        t.log.offers.length = s.log.offers.length + 1) ∧
      ((t.outAt k).ident.state = 3 → (t.outAt k).ident.reason = 0x0B ∨ (t.outAt k).ident.reason = 0x0C) ∧
      (t.outAt k).ident.epoch = s.clocks.epoch ∧ (∀ j, j ≠ k → t.outAt j = s.outAt j) ∧
      Only [.out, .log, .freeCount] s t))

/-- R236 to R239, R244, Table 9-11: the trace orders. TRACE.SETUP takes the fields as given, MODE 2 the default
capture; TRACE.ARM empties the ring and names the capture; TRACE.TRIGGER signals condition 0 to each cluster named;
TRACE.STATUS and TRACE.READ read; TRACE.CAPSULE sets the capsule options of one cluster or of all. -/
def Obligations.TraceOrders : Prop :=
  ∀ (s : State) (mb : Nat) (q : Req) (c : Nat), q = s.request mb → c = q.u 0 1 →
    (s.starts 0x0501 mb → q.lay 24 [(22, 2)] = true → c ≤ 3 → (s.clusterAt c).state ≠ 4 → q.u 1 1 = 2 →
      exec (.traceSetup mb) s = .next ((s.taken.defaultCapture c).reply q .ok []).followed) ∧
    (s.starts 0x0501 mb → q.lay 24 [(22, 2)] = true → c ≤ 3 → (s.clusterAt c).state ≠ 4 → q.u 1 1 ≤ 1 →
      s.setupOk q = true → ∃ x : State, exec (.traceSetup mb) s = .next (x.reply q .ok []).followed ∧
      x.clusterAt c = { s.clusterAt c with
        state := 0, mode := q.u 1 1, decim := q.u 2 2, channels := q.u 4 4, pre := q.u 8 2, trigNode := q.u 10 1
        trigEdge := q.u 11 1, trigMask := q.u 12 2, trigChannel := q.u 14 1, xout := q.u 15 1
        trigLevel := ofU 32 (q.u 16 4), holdS := if q.u 20 2 = 0 then 10 else q.u 20 2, host := true
        trigPending := [] } ∧ (∀ d, d ≠ c → x.clusterAt d = s.clusterAt d) ∧ Only [.cluster, .host] s x) ∧
    (s.starts 0x0502 mb → q.lay 4 [(1, 3)] = true → c ≤ 3 → (s.clusterAt c).state ≠ 4 → ∃ x : State,
      exec (.traceArm mb) s =
        .next (x.reply q .ok (leBytes 4 (((s.clusterAt c).captureId + 1) % 2 ^ 32))).followed ∧
      (x.clusterAt c).state = 1 ∧ (x.clusterAt c).ring = [] ∧ (x.clusterAt c).triggered = false ∧
      (x.clusterAt c).captureId = ((s.clusterAt c).captureId + 1) % 2 ^ 32 ∧
      (∀ d, d ≠ c → x.clusterAt d = s.clusterAt d) ∧ Only [.cluster, .host] s x) ∧
    (s.starts 0x0503 mb → q.lay 4 [(1, 3)] = true → c ≤ 15 → (∀ d, d < 4 → (s.clusterAt d).state ≠ 4) → ∃ x : State,
      exec (.traceTrigger mb) s = .next (x.reply q .ok []).followed ∧
      (∀ d, d < 4 → c.testBit d = true → (s.clusterAt d).state = 1 → (s.clusterAt d).trigMask.testBit 0 = true →
        (s.clusterAt d).trigPending.contains (0, none) = false →
        x.clusterAt d = { s.clusterAt d with trigPending := (s.clusterAt d).trigPending ++ [(0, none)] }) ∧
      (∀ d, c.testBit d = false → x.clusterAt d = s.clusterAt d) ∧ Only [.cluster, .host] s x) ∧
    (s.starts 0x0504 mb → q.lay 0 [] = true → exec (.traceStatus mb) s = .next (s.answer mb .ok
      (((upto 4).map fun d => [byte (s.clusterAt d).state, byte (s.clusterAt d).mode] ++ leBytes 2 (s.clusterAt d).decim
        ++ leBytes 4 (s.clusterAt d).channels ++ leBytes 4 (s.clusterAt d).captureId
        ++ leBytes 2 (s.clusterAt d).capsules ++ leBytes 2 (s.clusterAt d).missed).flatten))) ∧
    (s.starts 0x0505 mb → q.lay 8 [(1, 1), (5, 3)] = true → c ≤ 3 → 1 ≤ q.u 4 1 → q.u 4 1 ≤ 15 →
      (s.clusterAt c).initialised = true → (s.clusterAt c).state ≠ 1 → (s.clusterAt c).state ≠ 2 →
      q.u 2 2 + q.u 4 1 ≤ (s.clusterAt c).ring.length →
      (∀ i, q.u 2 2 ≤ i → i < q.u 2 2 + q.u 4 1 → s.entryBad c i = false) → ∃ h : Bytes,
      exec (.traceRead mb) s = .next (s.answer mb .ok
        (h ++ (((s.clusterAt c).ring.drop (q.u 2 2)).take (q.u 4 1)).flatMap TraceEntry.bytes)) ∧ h.length = 16) ∧
    (s.starts 0x0506 mb → q.lay 8 [(6, 2)] = true → (c ≤ 3 ∨ c = 255) → q.u 1 1 ≤ 1 → q.u 2 2 ≤ 1023 → q.u 4 2 ≤ 127 →
      ∃ x : State, exec (.traceCapsule mb) s = .next (x.reply q .ok []).followed ∧
      (∀ d, d < 4 → (c = 255 ∨ c = d) → x.clusterAt d = { s.clusterAt d with
        capEnable := decide (q.u 1 1 = 1), capPost := q.u 2 2, capEvents := q.u 4 2 }) ∧
      (∀ d, c ≠ 255 → d ≠ c → x.clusterAt d = s.clusterAt d) ∧ Only [.cluster, .host] s x)

/-- R237, R238, R240 to R242: captures freeze when their post-trigger entries are written, and give way to the default
capture after HOLD_S; a trigger crosses to the clusters of XOUT that listen; a capsule event takes the last 1,024
entries of its output and keeps at most so many as entries follow; its collection's end puts the cluster in state 4;
it is staged as a head and fragments of 40 bytes. -/
def Obligations.CapturesAndCapsules : Prop :=
  ∀ (s : State) (c : Nat),
    ((s.clusterAt c).state = 2 → (s.clusterAt c).trigAt + 8192 - (s.clusterAt c).pre ≤ (s.clusterAt c).written →
      ∃ t, exec (.captureFrozen c) s = .next t ∧ t.clusterAt c = { s.clusterAt c with state := 3 } ∧
      (∀ d, d ≠ c → t.clusterAt d = s.clusterAt d) ∧ Only [.cluster] s t) ∧
    (∀ d, (s.clusterAt d).triggered = true → (s.clusterAt d).xout.testBit c = true → (s.clusterAt c).state = 1 →
      (s.clusterAt c).trigMask.testBit 8 = true → (s.clusterAt c).trigPending.contains (8, none) = false → ∃ t,
      exec (.crossTrigger c d) s = .next t ∧
      t.clusterAt c = { s.clusterAt c with trigPending := (s.clusterAt c).trigPending ++ [(8, none)] } ∧
      (∀ e, e ≠ c → t.clusterAt e = s.clusterAt e) ∧ Only [.cluster] s t) ∧
    (∀ d, (s.clusterAt d).triggered = false → exec (.crossTrigger c d) s = .next s) ∧
    ((s.clusterAt c).state = 3 → exec (.holdSExpiry c) s = .next (s.defaultCapture c)) ∧
    ((s.clusterAt c).state ≠ 3 → exec (.holdSExpiry c) s = .next s) ∧
    (((s.defaultCapture c).clusterAt c).state = 1 ∧ ((s.defaultCapture c).clusterAt c).mode = 1 ∧
      ((s.defaultCapture c).clusterAt c).channels = s.clusterMap c ∧ ((s.defaultCapture c).clusterAt c).pre = 0 ∧
      ((s.defaultCapture c).clusterAt c).trigMask = 0x200 ∧ ((s.defaultCapture c).clusterAt c).holdS = 10 ∧
      ((s.defaultCapture c).clusterAt c).ring = [] ∧ ((s.defaultCapture c).clusterAt c).host = false ∧
      ((s.defaultCapture c).clusterAt c).captureId = ((s.clusterAt c).captureId + 1) % 2 ^ 32 ∧
      (∀ d, d ≠ c → (s.defaultCapture c).clusterAt d = s.clusterAt d) ∧ Only [.cluster] s (s.defaultCapture c)) ∧
    (∀ ch ev k, quadrant ch = c → s.outputOf ch = some k → (s.clusterAt c).capEnable = true →
      (s.clusterAt c).capEvents.testBit ev = true → (s.clusterAt c).state ≠ 2 → (s.clusterAt c).state ≠ 4 →
      (s.clusterAt c).capPost ≠ 0 → ∃ p : Capsule,
      ((s.capsuleEvent ch ev).clusterAt c).capsuleQueue = (s.clusterAt c).capsuleQueue ++ [p] ∧
      p.number = s.retained.capsuleNo ∧ p.event = ev ∧ p.output = k ∧ p.postLeft = (s.clusterAt c).capPost ∧
      p.entries.length ≤ 1024 ∧ p.preCount = p.entries.length ∧
      p.entries <:+ (s.clusterAt c).ring.filter (s.entryOf k) ∧
      ((s.capsuleEvent ch ev).clusterAt c).ring = (s.clusterAt c).ring ∧
      (s.capsuleEvent ch ev).retained.capsuleNo = (s.retained.capsuleNo + 1) % 2 ^ 32) ∧
    (∀ (p : Capsule) (e : TraceEntry), p.entries.length ≤ 1024 →
      (p.push e).entries.length ≤ 1024 ∧ (p.push e).entries <:+ p.entries ++ [e]) ∧
    (∀ p, (s.clusterAt c).capsuleQueue.find? (fun o => !o.frozen) = some p → ∃ t, exec (.capsulePending c) s = .next t ∧
      (t.clusterAt c).capsuleQueue = (s.clusterAt c).capsuleQueue.map
        (fun o => { o with frozen := o.frozen || decide (o.number = p.number) }) ∧
      ((∀ o, o ∈ (s.clusterAt c).capsuleQueue → o.frozen = false) → (t.clusterAt c).state = 4) ∧
      (∀ d, d ≠ c → t.clusterAt d = s.clusterAt d) ∧ Only [.cluster] s t) ∧
    (∀ p (o : LogOffer), s.moverServes c = true → s.log.admits = true → s.log.unflushed < 32 → s.mode.firmware = true →
      s.mode ≠ .lastGasp → (s.clusterAt c).nextCapsule = some p → p.headStaged = false → p.fragments ≠ 0 →
      o = { cls := 0x0D, source := 2, event := none, items := p.head c, flags := 0, use := .plain } → ∃ x : State,
      exec (.capsuleStage c) s = .next x.startBurst ∧
      x.log = { (s.stage o).log with capsules := (s.log.next, p.number, c, p.event, 0) :: (s.stage o).log.capsules } ∧
      x.clusterAt c = (s.clusterAt c).setCapsule p.number (fun e => { e with headStaged := true })) ∧
    (∀ p, s.moverServes c = true → s.log.admits = true → s.log.unflushed < 32 → s.mode.firmware = true →
      s.mode ≠ .lastGasp → (s.clusterAt c).nextCapsule = some p → p.headStaged = true → ∃ x y : State,
      exec (.capsuleStage c) s = .next x.startBurst ∧
      y = s.stage { cls := 0x0E, source := 2, event := none, items := p.fragment p.nextFragment, flags := 0, use := .plain } ∧
      x.log.next = y.log.next ∧ x.log.store = y.log.store ∧
      (p.nextFragment + 1 < p.fragments → x.clusterAt c =
        (s.clusterAt c).setCapsule p.number (fun e => { e with nextFragment := e.nextFragment + 1 })) ∧
      (p.fragments ≤ p.nextFragment + 1 → x.clusterAt c = (s.clusterAt c).capsuleDone p.number)) ∧
    (∀ (x : Cluster) (n : Nat), x.state = 4 → (∀ o, o ∈ x.capsuleQueue → o.frozen = true → o.number = n) →
      (x.capsuleDone n).state = 3 ∧ ∀ o, o ∈ (x.capsuleDone n).capsuleQueue ↔ o ∈ x.capsuleQueue ∧ o.number ≠ n)

/-- R303, R304, R308 to R310, R313, R318, R319: the budget orders. BUDGET.STATUS answers 416 bytes of the last sealed
epoch; BUDGET.SHED and BUDGET.RESTORE wait for a tide boundary, where the host cause is set or cleared (R302). The
rectifier orders and the plan's events: parking after PARK_HOLD, which the failure of an online rectifier in the same
tide cancels, a rotation, an unparking that fails after 100 ms, and the staging records. -/
def Obligations.BudgetAndRectifierOrders : Prop :=
  (∀ (s : State) (mb : Nat) (q : Req) (m : Nat), q = s.request mb → m = q.u 0 4 →
    (s.starts 0x0601 mb → q.lay 0 [] = true → ∃ p : Bytes, exec (.budgetStatus mb) s =
        .next ((s.taken.replyAt q .ok p s.sealedView.epoch).followed) ∧ p.length = 416 ∧
      p.take 4 = leS 4 s.sealedView.budget.load ∧ slice p 8 4 = leS 4 s.sealedView.budget.freeboard) ∧
    (s.starts 0x0602 mb → q.lay 4 [] = true → m ≠ 0 → (∀ p, p < 32 → m.testBit p = true → s.polEnable p = 1) →
      exec (.budgetShed mb) s = .next (s.holds mb (.budgetShed m))) ∧
    (s.starts 0x0603 mb → q.lay 4 [] = true → m ≠ 0 → (∀ p, p < 32 → m.testBit p = true → s.polEnable p = 1 ∧
        (s.polderAt p).causes.testBit 2 = true) →
      exec (.budgetRestore mb) s = .next (s.holds mb (.budgetRestore m))) ∧
    (∀ p, ((s.addCause p 2).polderAt p).causes.testBit 2 = true ∧ ((s.addCause p 2).polderAt p).shedTaken = true ∧
      (∀ i, i ≠ 2 → ((s.addCause p 2).polderAt p).causes.testBit i = (s.polderAt p).causes.testBit i) ∧
      (∀ r, r ≠ p → (s.addCause p 2).polderAt r = s.polderAt r) ∧
      Only [.polder, .budget, .chan, .out, .log] s (s.addCause p 2))) ∧
  (∀ (s : State) (mb : Nat) (q : Req) (m : Nat), q = s.request mb → m = q.u 0 8 →
    (s.starts 0x0701 mb → q.lay 0 [] = true → ∃ p : Bytes, exec (.rectStatus mb) s =
        .next ((s.taken.replyAt q .ok p s.sealedView.epoch).followed) ∧ p.length = 496) ∧
    (s.starts 0x0702 mb → q.lay 16 [(9, 7)] = true → m < 2 ^ 40 → (m < 2 ^ 32 ∨ q.feats.testBit 9 = true) →
      q.u 8 1 ≤ 1 →
      (∀ k, k < 40 → m.testBit k = true → s.rectEnable k = 1) → (q.u 8 1 = 0 → s.withdrawable m = true) →
      exec (.rectWithdraw mb) s = .next (s.holds mb (.rectWithdraw m (q.u 8 1)))) ∧
    (s.starts 0x0702 mb → q.lay 16 [(9, 7)] = true → m < 2 ^ 40 → (m < 2 ^ 32 ∨ q.feats.testBit 9 = true) →
      q.u 8 1 = 0 →
      (∀ k, k < 40 → m.testBit k = true → s.rectEnable k = 1) → s.withdrawable m = false →
      exec (.rectWithdraw mb) s = .next (s.answer mb .locked [])) ∧
    (s.starts 0x0703 mb → q.lay 0 [] = true → s.rotationWaits = false →
      exec (.rectRotate mb) s = .next (s.holds mb .rectRotate)) ∧
    (s.starts 0x0704 mb → q.lay 8 [] = true → m < 2 ^ 40 → (m < 2 ^ 32 ∨ q.feats.testBit 9 = true) →
      exec (.rectForget mb) s = .next (s.holds mb (.rectForget m))) ∧
    (s.mayPark = true → s.onlineFailed = false → s.rectParkHold * 1000 ≤ s.plan.parkTides → 10000 ≤ s.plan.sincePark →
      s.plan.nStar < s.onlineStageable.length → ∀ k, (s.onlineStageable.filter fun k => decide ((s.rectAt k).state = 1)).getLast?
        = some k → ∃ t, exec .park s = .next t ∧ t.rectAt k = { s.rectAt k with state := 2, opDue := some 0x00 } ∧
      (∀ j, j ≠ k → t.rectAt j = s.rectAt j) ∧ t.plan = { s.plan with sincePark := 0 } ∧ Only [.rect, .plan] s t) ∧
    (s.mayPark = false ∨ s.onlineFailed = true → exec .park s = .next s) ∧
    (s.plan.rotation = false → s.mode = .run → s.rectRotatePeriod ≠ 0 →
      s.rectRotatePeriod * 1000 ≤ s.plan.rotationTides → s.rotationWaits = false →
      exec .rotation s = .next s.rotateBegin ∧ s.rotateBegin.plan.rotationTides = 0 ∧ Only [.rect, .plan] s s.rotateBegin) ∧
    (s.plan.rotation = false → s.rectRotatePeriod = 0 → exec .rotation s = .next s) ∧
    (∀ k, (s.rectAt k).state = 3 → k < 32 → (s.rectAt k).unparkTide + 100 ≤ s.budget.tides → s.spillway = true → ∃ t,
      exec (.unparkTimeout k) s = .next t ∧ t.rectAt k = { s.rectAt k with state := 5 } ∧
      (∀ j, j ≠ k → t.rectAt j = s.rectAt j) ∧ Only [.rect] s t) ∧
    (∀ k, (s.rectAt k).state ≠ 3 → exec (.unparkTimeout k) s = .next s) ∧
    (s.spillway = true → 3600000 ≤ s.plan.stagingTides → ∃ t, exec .stagingRecord s = .next t ∧
      t.plan = { s.plan with stagingTides := 0 } ∧ Only [.plan, .log] s t ∧
      t.log.offers.length = s.log.offers.length + s.enabledRects.length))

/-- R292, R293, R297, R298, R300: the spillway. After three deficit tides the deficit cause is set on the non-exempt
unshed polder of lowest PRIORITY, the higher index first; causes are cleared one at a time, of the highest PRIORITY,
the lower index first; a prediction in Ride-through is due every second and chooses polders for the next boundary. -/
def Obligations.SpillwaySheds : Prop :=
  ∀ (s : State) (p : Nat), s.spillway = true →
    (s.budget.frozen = false → 3 ≤ s.budget.deficitTides → s.budget.awaitShed = none →
      p < 32 → s.polEnable p = 1 → s.polShedExempt p ≠ 1 → s.polShed p = false →
      (∀ r, r < 32 → r ≠ p → s.polEnable r = 1 → s.polShedExempt r ≠ 1 → s.polShed r = false →
        s.polPriority p < s.polPriority r ∨ (s.polPriority p = s.polPriority r ∧ r < p)) → ∃ t,
      exec .deficitShed s = .next t ∧ (t.polderAt p).causes.testBit 0 = true ∧ (t.polderAt p).shedTaken = true ∧
      (t.polderAt p).loadBefore = (s.polderAt p).load ∧ (∀ r, r ≠ p → t.polderAt r = s.polderAt r) ∧
      t.budget.deficitTides = 0 ∧ t.budget.awaitShed = some (p, 0) ∧ Only [.polder, .budget, .chan, .out, .log] s t) ∧
    (s.budget.deficitTides < 3 → exec .deficitShed s = .next s) ∧
    (s.budget.rtActive = false → s.budget.frozen = false → 2000 ≤ s.budget.sinceClear → p < 32 → s.polEnable p = 1 →
      (s.polderAt p).causes.testBit 0 = true → 10000 ≤ (s.polderAt p).okTides →
      (∀ r, r < 32 → r ≠ p → s.polEnable r = 1 → (s.polderAt r).causes.testBit 0 = true →
        s.polPriority r < s.polPriority p ∨ (s.polPriority r = s.polPriority p ∧ p < r)) → ∃ t,
      exec .deficitClear s = .next t ∧ (t.polderAt p).causes.testBit 0 = false ∧
      (∀ i, i ≠ 0 → (t.polderAt p).causes.testBit i = (s.polderAt p).causes.testBit i) ∧
      (∀ r, r ≠ p → t.polderAt r = s.polderAt r) ∧ t.budget.sinceClear = 0 ∧
      t.log.offers.length = s.log.offers.length + 1 ∧ Only [.polder, .budget, .out, .log] s t) ∧
    (s.budget.rtActive = true → exec .deficitClear s = .next s) ∧
    (s.budget.clearing = true → 2000 ≤ s.budget.sinceRuntimeClear → p < 32 → s.polEnable p = 1 →
      (s.polderAt p).causes.testBit 1 = true →
      (∀ r, r < 32 → r ≠ p → s.polEnable r = 1 → (s.polderAt r).causes.testBit 1 = true →
        s.polPriority r < s.polPriority p ∨ (s.polPriority r = s.polPriority p ∧ p < r)) → ∃ t,
      exec .runtimeCauseClear s = .next t ∧ (t.polderAt p).causes.testBit 1 = false ∧
      (∀ r, r ≠ p → t.polderAt r = s.polderAt r) ∧ t.budget.sinceRuntimeClear = 0 ∧
      Only [.polder, .budget, .out, .log] s t) ∧
    (s.budget.rtActive = true → s.budget.predictAt ≤ s.budget.rtTides → ∃ t, exec .runtimePrediction s = .next t ∧
      t.budget.predictAt = s.budget.rtTides + 1000 ∧ t.budget.predictionEpoch = s.clocks.epoch ∧
      (0 < meanOf s.budget.batteryHist → 0 < meanOf s.budget.outHist → t.budget.lastPrediction =
        runtimeOf s.predictEnergy (meanOf s.budget.batteryHist) (meanOf s.budget.outHist) 0) ∧
      (∀ r, t.polderAt r = s.polderAt r) ∧ Only [.budget, .log, .freeCount] s t) ∧
    (s.budget.rtActive = false → exec .runtimePrediction s = .next s)

/-- R334, R335, R340, R343, R344, R346, R351: the Tideline orders read the controller and 16 nodes of a page, install
a root key that OTP confirms, and evict a joined node with a leave and a record. A join not completed in three tides
is void; a stranger is forgotten after 1,000 tides; a lost sleeper widens the beacon for 500 cycles and is freed
10,000 tides later; a quiet controller starts again after 100 tides. -/
def Obligations.TidelineOrdersAndTimers : Prop :=
  ∀ (s : State) (mb : Nat) (q : Req) (n : Nat), q = s.request mb → n = q.u 0 1 →
    (s.starts 0x0801 mb → q.lay 0 [] = true → ∃ p : Bytes, exec (.tideStatus mb) s = .next (s.answer mb .ok p) ∧
      p.length = 40 ∧ slice p 1 3 = [byte s.tide.flags, byte s.tide.txErr, byte s.tide.rxErr]) ∧
    (s.starts 0x0802 mb → q.lay 4 [(1, 3)] = true → n ≤ 7 → ∃ p : Bytes,
      exec (.tideNodes mb) s = .next (((s.taken.reply q .ok p).used).followed) ∧ p.length = 256 ∧
      ∀ i, i < 16 → slice p (16 * i) 6 = [byte (16 * n + i), byte (s.nodeAt (16 * n + i)).cls,
        byte (s.nodeAt (16 * n + i)).slot, byte (s.nodeAt (16 * n + i)).share, byte (s.nodeAt (16 * n + i)).map,
        byte (s.nodeAt (16 * n + i)).txErr]) ∧
    (s.starts 0x0803 mb → q.lay 16 [] = true → s.fieldGood 24 8 = true → s.secretLocked [0, 2] = false →
      s.keyMatches 24 (slice q.payload 0 16) = true → exec (.tideRootinstall mb) s =
        .next (s.holds mb (.rootInstall (beVal (slice q.payload 0 16))))) ∧
    (s.starts 0x0803 mb → q.lay 16 [] = true → s.fieldGood 24 8 = false →
      exec (.tideRootinstall mb) s = .next (s.answer mb .locked [])) ∧
    (s.starts 0x0804 mb → q.lay 4 [(1, 3)] = true → 2 ≤ (s.nodeAt n).state → ∃ x : State,
      exec (.tideEvict mb) s = .next (x.reply q .ok []).followed ∧ x.nodeAt n = {} ∧
      (∀ k, k ≠ n → x.nodeAt k = s.nodeAt k) ∧
      (∃ f, x.tide.down = f :: s.tide.down ∧ f.bytes.take 3 = [0x26, byte n, 1]) ∧
      x.log.offers.length = s.log.offers.length + 1 ∧ Only [.tide, .rect, .gauge, .log, .host] s x) ∧
    (∀ k, (s.nodeAt k).state = 1 → (s.nodeAt k).joinTide + 3 ≤ s.budget.tides →
      exec (.joinVoid k) s = .next (s.freeNode k) ∧ (s.freeNode k).nodeAt k = {} ∧
      (∀ j, j ≠ k → (s.freeNode k).nodeAt j = s.nodeAt j) ∧ Only [.tide, .rect, .gauge] s (s.freeNode k)) ∧
    (∀ k, (s.nodeAt k).state ≠ 1 → exec (.joinVoid k) s = .next s) ∧
    (s.tide.stranger = true → 1000 ≤ s.tide.strangerTides → exec .strangerClear s =
      .next { s with tide := { s.tide with stranger := false } }) ∧
    (s.tide.strangerTides < 1000 → exec .strangerClear s = .next s) ∧
    (∀ k, (s.nodeAt k).sleeper = true → ((s.nodeAt k).state = 2 ∨ (s.nodeAt k).state = 3) → 3 ≤ (s.nodeAt k).missRun → s.tideSends = true →
      ∃ x : State, exec (.lostSleeper k) s = .next (x.raise 165 1 [byte k]) ∧ (x.nodeAt k).state = 4 ∧
      x.tide.wide = true ∧ x.tide.wideLeft = 500 ∧ (∀ j, j ≠ k → x.nodeAt j = s.nodeAt j) ∧ Only [.tide, .log] s x) ∧
    (∀ k, (s.nodeAt k).sleeper = false → exec (.lostSleeper k) s = .next s) ∧
    (s.tide.wide = true → s.tide.wideLeft = 0 → ∃ t, exec .wideBeaconEnd s = .next t ∧ t.tide.wide = false ∧
      (∀ k ∈ s.slotNodes, (s.nodeAt k).state = 4 → (s.nodeAt k).freeAt = none →
        t.nodeAt k = { s.nodeAt k with freeAt := some (s.budget.tides + 10000) }) ∧
      (∀ k, (s.nodeAt k).state ≠ 4 ∨ (s.nodeAt k).freeAt ≠ none → t.nodeAt k = s.nodeAt k) ∧ Only [.tide] s t) ∧
    (s.tide.wide = false → exec .wideBeaconEnd s = .next s) ∧
    (∀ k t, (s.nodeAt k).freeAt = some t → (s.nodeAt k).state = 4 → t ≤ s.budget.tides → ∃ x,
      exec (.sleeperFree k) s = .next x ∧ x.nodeAt k = {} ∧ (∀ j, j ≠ k → x.nodeAt j = s.nodeAt j) ∧
      x.log.offers.length = s.log.offers.length + 1 ∧ Only [.tide, .rect, .gauge, .log, .freeCount] s x) ∧
    (s.tide.quiet = true → s.tide.quietTide + 100 ≤ s.budget.tides → ∃ x, exec .controllerQuietEnd s = .next x ∧
      x.tide = { s.tide with quiet := false, txErr := 0, rxErr := 0 } ∧ (x.srcAt 162).present = false ∧
      Only [.tide, .faults] s x) ∧
    (s.tide.quiet = false → exec .controllerQuietEnd s = .next s)

/-- R323, R326, R328, R332, R335, R336, R342: beacons and frames. A beacon strobe latches the converters and, while
the controller sends, gives a beacon of 287 bytes with the epoch and the generation; a verified report reaches its
node and a missed one counts; joins are accepted with a slot or refused with a reason; events and alarms are
acknowledged. -/
def Obligations.TidelineFrames : Prop :=
  ∀ s : State,
    (∀ raws ovr clk a b h, s.clocks.running = true → s.tide.cycle < 10 → s.mode.firmware = true → ∃ y : State,
      exec (.beaconCycleStart raws ovr clk a b h) s =
        .next (if y.tideOn then y.tideCycle s.tide.cycle a b h else y) ∧
      y.tide.cycle = s.tide.cycle + 1 ∧ (∀ n, y.nodeAt n = s.nodeAt n) ∧ Only [.tide, .gauge, .rect, .plan, .freeCount] s y) ∧
    (∀ raws ovr clk a b h, 10 ≤ s.tide.cycle → exec (.beaconCycleStart raws ovr clk a b h) s = .next s) ∧
    (∀ i, ∃ d l, (s.sendBeacon i).sent = s.sent ++ (.tideline 1 d :: l) ∧ d.length = 287 ∧ d.take 1 = [1] ∧
      slice d 4 4 = leBytes 4 s.clocks.epoch ∧ slice d 8 4 = leBytes 4 s.sluice.generation ∧ l.length ≤ 1) ∧
    (∀ slot f n i e, slot < 100 → s.tideOn = true → i = 2 * (slotPlace slot).1 → s.cycleNow = i + 1 →
      s.nodeOfSlot slot = some n → s.slotFormed slot f = true → s.slotTagOk n i f = true →
      (2 ≤ (s.nodeAt n).state ∨ s.wardenRuns = false) → ∃ x : State,
      exec (.slotFrame slot (some f) e) s = .next (x.applyReport n (fld f.frame 0 1) (f.frame.drop 4)) ∧
      (x.nodeAt n).missRun = 0 ∧ (x.nodeAt n).stale = false ∧ (x.nodeAt n).txErr = (s.nodeAt n).txErr - 1 ∧
      x.tide.rxErr = s.tide.rxErr - 1 ∧ (∀ k, k ≠ n → x.nodeAt k = s.nodeAt k) ∧ Only [.tide] s x) ∧
    (∀ n, (s.nodeAt n).state = 1 → ((s.joinComplete n).nodeAt n).state = 2 ∧
      (∀ k, k ≠ n → (s.joinComplete n).nodeAt k = s.nodeAt k) ∧
      (s.joinComplete n).log.offers.length = s.log.offers.length + 1 ∧ Only [.tide, .log, .rect] s (s.joinComplete n)) ∧
    (∀ n k b, s.rectOfNode n = some k → s.applyReport n 0x10 b = s.rectReport k (ofU 32 (fld b 0 4)) (fld b 4 4)
      (ofU 32 (fld b 8 4)) (!(fld b 14 2).testBit 0) ((fld b 14 2).testBit 1) ((fld b 14 2).testBit 2)) ∧
    (∀ k i v p ac on ft, ((s.rectReport k i v p ac on ft).rectAt k).iOut = i ∧
      ((s.rectReport k i v p ac on ft).rectAt k).reported = true ∧
      ((s.rectReport k i v p ac on ft).rectAt k).state = (s.rectAt k).nextState ac on ft ∧
      Only [.rect] s (s.rectReport k i v p ac on ft)) ∧
    (∀ slot n, slot < 100 → s.tideOn = true → s.cycleNow = 2 * (slotPlace slot).1 + 1 → s.nodeOfSlot slot = some n →
      2 ≤ (s.nodeAt n).state → ∃ t, exec (.slotFrame slot none false) s = .next t ∧
      (t.nodeAt n).missRun = (s.nodeAt n).missRun + 1 ∧ (t.nodeAt n).stale = true ∧
      (t.nodeAt n).txErr = min 255 ((s.nodeAt n).txErr + 8) ∧ (∀ k, k ≠ n → t.nodeAt k = s.nodeAt k) ∧
      Only [.tide, .rect, .gauge] s t) ∧
    (∀ f k q, s.tideSends = true → s.wardenRuns = true → s.symbol6Open = true → f.length = 57 → fld f 0 1 = 0x20 →
      s.tide.rootInstalled = true → s.tide.kRoot = some k → q = joinReqOf f →
      tag32 (joinKey k q.moduleId) (f.take 33) = slice f 33 4 → s.otp.lifecycle ≠ 3 →
      (∀ slot, s.nodeDescribed q.node q.cls = true → (s.nodeAt q.node).state = 0 → s.freeSlot = some slot → ∃ t,
        exec (.joinReq f) s = .next t ∧ (t.nodeAt q.node).state = 1 ∧ (t.nodeAt q.node).slot = slot ∧
        (t.nodeAt q.node).moduleId = q.moduleId ∧ (∀ j, j ≠ q.node → t.nodeAt j = s.nodeAt j) ∧
        t.tide.down.length = s.tide.down.length + 1 ∧ Only [.tide, .freeCount] s t) ∧
      (s.nodeDescribed q.node q.cls = false → ∃ t, exec (.joinReq f) s = .next t ∧ (∀ j, t.nodeAt j = s.nodeAt j) ∧
        t.tide.down.length = s.tide.down.length + 1 ∧ t.log.offers.length = s.log.offers.length + 1 ∧
        Only [.tide, .log] s t)) ∧
    (∀ f, s.tideSends = true → s.wardenRuns = true → s.symbol6Open = true → f.length = 57 → fld f 0 1 = 0x20 →
      s.tide.rootInstalled = false → exec (.joinReq f) s = .next (s.strangerSeen 1 [])) ∧
    (∀ f n, s.tideSends = true → s.symbol6Open = true → f.length = 57 → fld f 0 1 = 0x21 → n = fld f 1 1 →
      s.nodeTagOk f 20 = true → ∃ t, exec (.tidelineEvent f) s = .next t ∧
      t.nodeAt n = { s.nodeAt n with lastEvent := fld f 2 2 } ∧ (∀ j, j ≠ n → t.nodeAt j = s.nodeAt j) ∧
      t.tide.down.length = s.tide.down.length + 1 ∧ Only [.tide] s t) ∧
    (∀ f, s.tideOn = true → s.symbol6Open = true → f.length = 57 → fld f 0 1 = 0x21 → s.nodeTagOk f 20 = false →
      exec (.tidelineEvent f) s = .next (s.strangerSeen 1 [])) ∧
    (∀ f y, s.tideOn = true → f.length = 57 → fld f 0 1 = 0x30 → fld f 1 1 < 16 →
      tag32 s.tide.kg ([byte 0x14] ++ f.take 8) = slice f 8 4 →
      y = ({ s with tide := { s.tide with ackLeft := Tab.set 0 s.tide.ackLeft (fld f 1 1) 100 } }).raise 175 1
          [byte (fld f 1 1)] →
      exec (.commonAlarm f) s = .next (if fld f 1 1 = 5 then y.wakeGauge y.retained.rtcNs 0 else y)) ∧
    (∀ f n y, s.tideOn = true → f.length = 57 → fld f 0 1 = 0x31 → n = fld f 1 1 → s.nodeTagOk f 19 = true →
      y = ({ s with tide := { s.tide with nodeAck := some n } }).raise 174 1 ([byte n, byte (fld f 2 1)] ++ slice f 3 14) →
      exec (.nodeAlarm f) s = .next (if 1 ≤ (y.nodeAt n).missRun ∧ (y.nodeAt n).state = 2 then
        (y.setNode n fun x => { x with state := 3 }).raise 167 1 [byte n] else y)) ∧
    (∀ f, s.tideOn = true → f.length = 57 → fld f 0 1 = 0x31 → s.nodeTagOk f 19 = false →
      exec (.nodeAlarm f) s = .next (s.strangerSeen 1 [s.cycleNow]))

/-- R381, R384, R389, R372, R361, R371, R374, R375, R382 to R386: the gauge orders. GAUGE.STATUS answers 16 strings of
the last sealed epoch; GAUGE.PROBERESULT answers a string's points; the others wait for a tide boundary, a probe only
where none runs and in Run with AC present. The gauge's rows. The gauge cycle runs once at a boundary whose extended
epoch is a multiple of 1,000, on the standby as a latch of its own counts alone; hibernation begins and ends; strings
are inserted and removed; probes give a point for each frequency and end; automatic probes begin when they are due. -/
def Obligations.GaugeOrdersAndRows : Prop :=
  (∀ (s : State) (mb : Nat) (q : Req), q = s.request mb →
    (s.starts 0x0901 mb → q.lay 4 [(1, 3)] = true → q.u 0 1 ≤ 1 → ∃ p : Bytes, exec (.gaugeStatus mb) s =
        .next ((s.taken.replyAt q .ok p s.sealedView.epoch).followed) ∧ p.length = 272 ∧
      ∀ i, i < 16 → slice p (16 + 16 * i) 2 = leBytes 2 (Tab.get {} s.sealedView.strings (16 * q.u 0 1 + i)).soc) ∧
    (s.starts 0x0902 mb → s.gauge.probe = none → s.probeMode = true → q.lay (8 + 4 * q.u 7 1) [] = true → 1 ≤ q.u 7 1 →
      q.u 7 1 ≤ 16 → 10 ≤ q.u 4 2 → q.u 4 2 ≤ 50 → 2 ≤ q.u 6 1 → q.u 6 1 ≤ 20 →
      q.u 0 4 &&& listMap s.enabledStrings ≠ 0 → (∀ x ∈ q.probeNs, 100 ≤ x ∧ x ≤ 100000) → exec (.gaugeProbe mb) s =
        .next (s.holds mb (.gaugeProbe (q.u 0 4 &&& listMap s.enabledStrings) (q.u 4 2) (q.u 6 1) q.probeNs))) ∧
    (∀ p, s.starts 0x0902 mb → s.probeMode = true → s.gauge.probe = some p → exec (.gaugeProbe mb) s = .next (s.answer mb .busy [])) ∧
    (s.starts 0x0902 mb → s.probeMode = false →
      exec (.gaugeProbe mb) s = .next (s.answer mb .wrongMode [])) ∧
    (∀ b, s.starts 0x0903 mb → q.lay 4 [(1, 3)] = true → q.u 0 1 ≤ 31 → b = s.stringAt (q.u 0 1) →
      exec (.gaugeProberesult mb) s = .next (s.answer mb .ok ([byte b.probeState, byte b.probeReason,
        byte b.probePoints.length, 0] ++ leBytes 4 b.probeStart ++ leBytes 4 b.probeEnd ++ leS 2 b.probeTemp
        ++ leBytes 2 b.probeSoc ++ b.probePoints.flatMap ProbePoint.bytes))) ∧
    (s.starts 0x0904 mb → q.lay 0 [] = true → exec (.gaugeAbort mb) s = .next (s.holds mb .gaugeAbort)) ∧
    (s.starts 0x0905 mb → q.lay 0 [] = true → exec (.gaugeWake mb) s = .next (s.holds mb .gaugeWake)) ∧
    (s.starts 0x0906 mb → q.lay 8 [(5, 3)] = true → q.u 4 1 ≤ 2 →
      exec (.gaugeReseed mb) s = .next (s.holds mb (.gaugeReseed (q.u 0 4) (q.u 4 1)))) ∧
    (∀ n m, s.probeMode = true → s.gauge.probe = none → ∃ x : State,
      s.gaugeProbeDone mb (q.u 0 4) n m q.probeNs = x.finish mb .ok
        (leBytes 4 ((s.clocks.epoch + cdiv (probeCycles m q.probeNs) 10) % 2 ^ 32)) ∧
      (∃ p, x.gauge.probe = some p ∧ p.strings = q.u 0 4 ∧ p.ampl = n ∧ p.cycles = m ∧ p.ns = q.probeNs ∧ p.c = 0) ∧
      Only [.gauge] s x)) ∧
  (∀ s : State,
    (s.mode.active = true → s.wardenRuns = true → s.domain 13 = true → s.clocks.running = true → s.ext % 1000 = 0 →
      s.gauge.cycleAt ≠ some s.ext → s.role = 2 → ∃ t, exec .gaugeCycle s = .next t ∧ t.gauge.cycleAt = some s.ext ∧
      t.gauge.strings = s.gauge.strings ∧
      (∀ k, k < 32 → t.convAt k = { s.convAt k with cycleRaw := (s.convAt k).tideRaw, cycleClk := (s.convAt k).tideClk }) ∧
      Only [.gauge] s t) ∧
    (s.mode.active = true → s.wardenRuns = true → s.domain 13 = true → s.clocks.running = true → s.ext % 1000 = 0 →
      s.gauge.cycleAt ≠ some s.ext → s.role ≠ 2 → ∃ x y z : State, exec .gaugeCycle s =
        .next (if s.ext % 10000 = 0 then ({ y with gauge := { y.gauge with dip := false } } : State).checkpoint 0
          else { y with gauge := { y.gauge with dip := false } }) ∧
      z = s.enabledStrings.foldl State.cycleString x ∧ y = z.enabledShunts.foldl State.cycleShunt z ∧
      x.gauge.cycleAt = some s.ext ∧ x.gauge.sinceProbe = s.gauge.sinceProbe + 1 ∧ x.gauge.conv = s.gauge.conv ∧
      x.gauge.strings = s.gauge.strings ∧ Only [.gauge] s x) ∧
    ((s.ext % 1000 ≠ 0 ∨ s.gauge.cycleAt = some s.ext) → exec .gaugeCycle s = .next s) ∧
    (∀ r, (s.mode = .gaugeWatch ∨ (s.mode.active = true ∧ s.strHibActive = 1)) → s.domain 13 = true → s.gauge.probe = none →
      s.gauge.hib = false → s.gauge.idleFrom + 60000000000 ≤ max s.retained.rtcNs (r % 2 ^ 64) → ∃ t,
      exec (.hibernationEntry r) s = .next t ∧ t.gauge.hib = true ∧ t.gauge.hibFrom = max s.retained.rtcNs (r % 2 ^ 64) ∧
      t.retained.rtcNs = max s.retained.rtcNs (r % 2 ^ 64) ∧ (∀ k, k < 32 → (t.convAt k).hib =
        ((s.convAt k).running && (decide (s.mode = Mode.gaugeWatch) || decide (s.strEnable k = 1)))) ∧
      (∀ k, (s.stringAt k).state ∈ [2, 3] → (t.stringAt k).state = 4 ∧ (t.stringAt k).hibTemp = (s.stringAt k).temp) ∧
      Only [.gauge, .retained] s t) ∧
    (∀ k r, s.gauge.hib = true → s.domain 13 = true → (s.convAt k).running = true → (s.convAt k).wakeStep ≠ 0 → ∃ x : State, exec (.gaugeComparatorWake k r) s =
        .next (if x.mode = .gaugeWatch ∧ x.retained.gaugeWakeBoot = true then x.wakeEvent 5 else x) ∧
      x.gauge.hib = false ∧ (∀ j, (s.stringAt j).state = 4 → (x.stringAt j).state = 2) ∧
      (∀ j, (x.convAt j).hib = false) ∧ Only [.gauge, .retained] s x) ∧
    (∀ k r, s.gauge.hib = false → s.domain 13 = true → (s.convAt k).running = true → (s.convAt k).wakeStep ≠ 0 → ∃ t,
      exec (.gaugeComparatorWake k r) s = .next t ∧ t.gauge = { s.gauge with idleFrom := max s.retained.rtcNs (r % 2 ^ 64) } ∧
      t.retained.rtcNs = max s.retained.rtcNs (r % 2 ^ 64) ∧ Only [.gauge, .retained] s t) ∧
    (∀ k r, (s.convAt k).running = false → exec (.gaugeComparatorWake k r) s = .next s) ∧
    (∀ k, k < 32 → s.strEnable k = 1 → s.mode.active = true → s.role ≠ 2 → (s.stringAt k).state = 1 →
      5000000 < (s.stringAt k).lastV → ∃ t, exec (.stringInsertion k) s = .next t ∧
      (t.stringAt k).insertPending = true ∧ (∀ j, j ≠ k → t.stringAt j = s.stringAt j) ∧ Only [.gauge] s t) ∧
    (∀ k, (s.stringAt k).state ≠ 1 → exec (.stringInsertion k) s = .next s) ∧
    (∀ k, k < 32 → s.strEnable k = 1 → s.mode.active = true → s.role ≠ 2 → (s.stringAt k).state ≠ 0 →
      (s.stringAt k).lastV < 5000000 → ∃ t, exec (.stringRemoval k) s = .next t ∧ t.log.offers.length = s.log.offers.length + 1 ∧
      (t.stringAt k).state = 0 ∧
      (t.stringAt k).chargeIn = (s.stringAt k).chargeIn ∧ (t.stringAt k).chargeOut = (s.stringAt k).chargeOut ∧
      (∀ j, j ≠ k → t.stringAt j = s.stringAt j) ∧ Only [.gauge, .log] s t) ∧
    (∀ k, (s.stringAt k).state = 0 → exec (.stringRemoval k) s = .next s) ∧
    (∀ p n r, s.gauge.probe = some p → p.ns = n :: r → (p.cycles + 1) * n < p.c → s.wardenRuns = true → ∃ t,
      exec .probeFrequencyEnd s = .next t ∧
      (∀ k, k < 32 → p.strings.testBit k = true → p.dropped.testBit k = false → ∃ pt, pt.n = n ∧
        (t.stringAt k).probePoints = (s.stringAt k).probePoints ++ [pt] ∧
        (t.stringAt k).probeState = if r = [] then 2 else (s.stringAt k).probeState) ∧
      (r = [] → t.gauge.probe = none ∧ t.tide.probe = 0) ∧
      (r ≠ [] → ∃ p', t.gauge.probe = some p' ∧ p'.ns = r ∧ p'.c = p.c - (p.cycles + 1) * n) ∧
      Only [.gauge, .log, .tide, .freeCount] s t) ∧
    (s.gauge.probe = none → exec .probeFrequencyEnd s = .next s) ∧
    (s.strProbePeriod ≠ 0 → s.strProbePeriod ≤ s.gauge.sinceProbe → s.gauge.probeRetry = 0 → s.gauge.probe = none →
      s.probeMode = true → s.wardenRuns = true → s.enabledStrings ≠ [] → ∃ t p, exec .probeSchedule s = .next t ∧
      t.gauge.probe = some p ∧ p.strings = listMap s.enabledStrings ∧ p.cycles = 3 ∧ p.ampl = s.strProbeAmpl ∧
      p.ns = [100, 200, 500, 1000, 2000, 5000, 10000] ∧ p.auto = true ∧ Only [.gauge] s t) ∧
    (s.strProbePeriod = 0 → exec .probeSchedule s = .next s))

/-- R392, R393, R408 to R412, R416, R418, R419: the sluice orders read status and comparison words, yield to a fit
partner, withdraw and resume. A claim raises SLUICE_OWN once the pin is low and 10 µs have passed since a drop, backs
off on a collision, and otherwise makes the active of the next generation; a fit standby takes over when the pin
falls; a conflict drops the token outside Run and is reported in it; the overlap ends once its old orders are gone. -/
def Obligations.SluiceOrdersAndToken : Prop :=
  ∀ (s : State) (mb : Nat) (q : Req), q = s.request mb →
    (s.starts 0x0A01 mb → q.lay 0 [] = true → exec (.sluiceStatus mb) s = .next (s.answer mb .ok s.sluiceStatus) ∧
      s.sluiceStatus.length = 40 ∧ slice s.sluiceStatus 4 4 = leBytes 4 s.sluice.generation) ∧
    (s.starts 0x0A02 mb → q.lay 4 [(0, 4)] = true → s.token = true → s.partnerFit = true → exec (.sluiceYield mb) s =
      .next (((s.taken.yield 0x01 0).reply q .ok (leBytes 4 ((s.gSeen + 1) % 2 ^ 32))).followed)) ∧
    (∀ c n, (s.yield c n).token = false) ∧
    (s.starts 0x0A03 mb → q.lay 4 [(1, 3)] = true → s.sluice.restoreTests = none → q.u 0 1 = 0 → ∃ (p : Nat) (x : State),
      exec (.sluiceWithdraw mb) s = .next (x.reply q .ok [byte p, 0, 0, 0]).followed ∧
      x.sluice = { s.sluice with withdrawn := true } ∧ Only [.sluice, .freeCount, .host] s x) ∧
    (s.starts 0x0A03 mb → q.lay 4 [(1, 3)] = true → s.sluice.restoreTests = none → q.u 0 1 = 1 →
      exec (.sluiceWithdraw mb) s =
        .next ((({ s.taken with sluice := { s.sluice with restoreTests := some (15, 0) } } : State).wait q .withdraw).followed)) ∧
    (s.starts 0x0A04 mb → q.lay 4 [(1, 3)] = true → q.u 0 1 ≤ 15 → ∃ x : State,
      exec (.sluiceResume mb) s = .next (x.reply q .ok []).followed ∧
      (∀ i, x.sluice.referred.testBit i = (s.sluice.referred.testBit i && !(q.u 0 1).testBit i)) ∧
      Only [.sluice, .host] s x) ∧
    (s.starts 0x0A05 mb → q.lay 4 [(1, 3)] = true → q.u 0 1 ≤ 3 → ∃ p : Bytes,
      exec (.sluiceCompare mb) s = .next (s.answer mb .ok p) ∧ p.length = 384 ∧
      ∀ i, i < 32 → slice p (12 * i) 8 =
        leBytes 4 (s.chanAt (32 * q.u 0 1 + i)).wordA ++ leBytes 4 (s.chanAt (32 * q.u 0 1 + i)).wordS) ∧
    (∀ t, s.sluice.claim = .waitLow → s.sluice.own = false → (s.sluice.dropped = false ∨ 10000 ≤ t) →
      exec (.claimRaise t) s = .next { s with sluice := { s.sluice with
        peer := false, own := true, dropped := false, claim := .raised } }) ∧
    (∀ t, s.sluice.claim = .waitLow → s.sluice.dropped = true → t < 10000 →
      exec (.claimRaise t) s = .next { s with sluice := { s.sluice with peer := false } }) ∧
    (∀ t, s.sluice.claim ≠ .waitLow → exec (.claimRaise t) s = .next s) ∧
    (s.sluice.claim = .raised → ∃ x : State, exec (.claimSample false) s = .next
        (((x.setMode .run (if s.sluice.claimAuto then 7 else 0) 0xFFFF).irqGen).answerModeSet) ∧
      x.sluice = { s.sluice with
        claim := .none, claimAuto := false, generation := (s.gSeen + 1) % 2 ^ 32, genSeen := (s.gSeen + 1) % 2 ^ 32
        macStopped := false, overlap := false, oldOrders := [], genHeld := true } ∧
      (∀ k, k < 128 → (x.chanAt k).state ≠ .notOwned) ∧ x.log.offers.length = s.log.offers.length + 1 ∧
      Only [.sluice, .chan, .log] s x) ∧
    (∀ x : State, s.sluice.claim = .raised → x = { s with sluice := { s.sluice with
        own := false, peer := true, claim := .backoff, collisions := s.sluice.collisions + 1
        nibble := (s.sluice.nibble + 1) % 8 } } →
      exec (.claimSample true) s = .next (if s.sluice.collisions = 7 then x.raise 198 1 [] else x)) ∧
    (∀ t, s.sluice.claim = .backoff → s.backoffUs ≤ t →
      exec (.claimBackoffEnd t) s = .next { s with sluice := { s.sluice with claim := .waitLow } }) ∧
    (∀ t, s.sluice.claim ≠ .backoff ∨ t < s.backoffUs → exec (.claimBackoffEnd t) s = .next s) ∧
    (s.sluice.claim = .waitLow → exec .claimTimeout s = .next
      ((({ s with sluice := { s.sluice with claim := .none, claimAuto := false, peer := true } }).setMode .shadow
        (if s.sluice.claimAuto then 7 else 0) 0xFFFF).answerModeSet)) ∧
    (∀ t, s.role = 2 → s.fit = true → s.sluice.partnerLongPress = false →
      (s.sluice.dropped = false ∨ 10000 ≤ t) → ∃ x : State,
      exec (.sluicePeerFall t) s = .next (((x.setMode .run 1 0xFFFF).irqGen).settle) ∧ x.sluice.own = true ∧
      x.sluice.generation = (s.gSeen + 1) % 2 ^ 32 ∧ x.sluice.takeovers = (s.sluice.takeovers + 1) % 2 ^ 32 ∧
      x.sluice.handover = none ∧ s.log.offers.length + 2 ≤ x.log.offers.length ∧
      (∀ k, k < 128 → (s.chanAt k).mirState = 5 → s.outputOf k = none → (x.chanAt k).state = .lockedOut) ∧
      Only [.power, .sluice, .chan, .out, .log] s x) ∧
    (∀ t, s.role ≠ 2 → exec (.sluicePeerFall t) s = .next { s with sluice := { s.sluice with peer := false, handover := none } }) ∧
    (s.sluice.own = true → s.sluice.claim = .none → s.mode.firmware = true → s.running = false → exec .tokenConflict s = .next
      ((({ s with sluice := { s.sluice with peer := true } } : State).dropToken).raise 198 1 [])) ∧
    (s.sluice.own = true → s.dropToken.sluice = { s.sluice with own := false, dropped := true } ∧
      (∀ k, k < 128 → (s.dropToken.chanAt k).drive = .off ∧ (s.dropToken.chanAt k).pen = false ∧
        ((s.dropToken.chanAt k).state = .notOwned ∨ (s.dropToken.chanAt k).state = .lockedOut)) ∧
      Only [.sluice, .chan, .out] s s.dropToken) ∧
    (s.sluice.own = true → s.sluice.claim = .none → s.mode.firmware = true → s.running = true → exec .tokenConflict s = .next
      (({ s with sluice := { s.sluice with peer := true } }).raise 198 1 [])) ∧
    (s.sluice.overlap = true → (∀ n ∈ s.sluice.oldOrders, n ∉ s.host.orders ∧ s.waitingOn n = none) →
      exec .overlapCutoff s = .next { s with sluice := { s.sluice with overlap := false, oldOrders := [], macStopped := true } }) ∧
    (s.sluice.overlap = false → exec .overlapCutoff s = .next s)

/-- R396, R397, R399, R401, R402, R404, R408, R411, R413, R415, R148, R155, R227, Table 15-2: frames of the partner
that are taken. Each notes its SEQ and its generation; HELLO gives the partner's mode, fitness and description;
MIRROR, SUMMARY, SUPER and HANDOVER bring a standby its active's words, CHALLENGE starts the tests on an active and
RESULT answers the standby's challenge; DESC and its ACK, IDSTART and EVENT are taken. -/
def Obligations.PartnerFramesAct : Prop :=
  ∀ (s : State) (f b : Bytes),
    (∀ t, ∃ x, s.noteFrame t f = { s with sluice := x } ∧ Tab.get none x.rxSeq t = some (fld f 1 1) ∧
      x.partnerGen = fld f 4 4 ∧ x.genSeen = if later32 (fld f 4 4) s.sluice.genSeen then fld f 4 4 else s.sluice.genSeen) ∧
    (∀ lane d l x, s.mode.firmware = true → s.sluice.linkPowered = true → (lane = 6 ∨ lane = 7) →
      (s.peerLane lane).block = true → peerBody 0x01 f = some b → b.length = 20 →
      x = s.setPeerLane lane (fun l => { l with up := true }) → Tab.get none s.sluice.rxSeq 0x01 ≠ some (fld f 1 1) →
      exec (.partnerHello lane f d l) s = .next (((((x.noteFrame 0x01 f).takeHello b d l).judgePeer).resendDesc))) ∧
    (∀ d l, (s.takeHello b d l).sluice.pMode = fld b 4 1 ∧ (s.takeHello b d l).sluice.pFit = fld b 6 1 ∧
      (s.takeHello b d l).sluice.pDesc = fld b 8 4 ∧ (s.takeHello b d l).sluice.hello = true ∧
      ((s.takeHello b d l).sluice.pMode ≠ 6 → (s.takeHello b d l).desc.partnerAck = 0) ∧
      Only [.sluice, .desc] s (s.takeHello b d l)) ∧
    (s.hears 0x02 f b → b.length = 6439 → s.role = 2 → s.shadowing = true → ∃ x : State,
      exec (.mirror f) s = .next x.sendHello ∧ x.sluice.mirrorAge = 0 ∧ x.sluice.mirrorGot = true ∧
      x.sluice.mirrorsApplied = s.sluice.mirrorsApplied + 1 ∧
      (∀ k, k < 128 → (x.chanAt k).mirState = (ChanLatch.ofBytes (slice b (0x27 + 24 * k) 24)).chState ∧
        (x.outAt k).state = (OutLatch.ofBytes (slice b (0xC27 + 26 * k) 26)).state) ∧
      x.clocks.epochHi * 2 ^ 32 + x.clocks.epoch = s.nearEpoch (fld b 0 4) ∧
      Only [.chan, .out, .sluice, .clocks, .ledger, .log] s x) ∧
    (s.hears 0x03 f b → b.length = 512 → s.role = 2 → s.shadowing = true → ∃ x : State,
      exec (.partnerSummary f) s = .next (((upto 128).foldl State.countRun x).raiseDoubt) ∧
      (∀ k, k < 128 → x.chanAt k = { s.chanAt k with wordA := fld b (4 * k) 4 }) ∧ x.sluice.summaryGot = true ∧
      Only [.chan, .out, .sluice] s x) ∧
    (s.hears 0x06 f b → b.length = 20 → s.role = 1 → fld b 0 1 % 16 ≠ 0 → ∃ t, exec (.challenge f) s = .next t ∧
      t.sluice = { (s.noteFrame 0x06 f).sluice with
        cmpState := 2, testing := fld b 0 1 % 16, tested := fld b 0 1 % 16, passed := 0 } ∧ Only [.sluice] s t) ∧
    (s.hears 0x07 f b → b.length = 4 → s.role = 2 → s.sluice.cmpState = 1 → ∃ t, exec (.result f) s = .next t ∧
      (fld b 0 1 % 16 &&& (fld b 1 1 % 16) = fld b 0 1 % 16 → t.sluice.cmpState = 3 ∧ t.sluice.testing = s.sluice.doubted ∧
        t.sluice.tested = s.sluice.doubted) ∧
      (fld b 0 1 % 16 &&& (fld b 1 1 % 16) ≠ fld b 0 1 % 16 → t.sluice.cmpState = 1 ∧ t.sluice.passed = fld b 1 1 % 16) ∧
      Only [.sluice] s t) ∧
    (s.hears 0x08 f b → b.length = 16 → ∃ x : State, exec (.partnerEvent f) s = .next (x.record 0x11 3 b) ∧
      x.sluice.partnerEvents = (s.sluice.partnerEvents + 1) % 2 ^ 32 ∧ Only [.sluice] s x) ∧
    (s.hears 0x09 f b → 4 < b.length → b.length ≤ 1028 → s.role = 2 → s.mode = .shadow → ∀ x, x = s.noteFrame 0x09 f →
      exec (.desc f) s = .next (if (x.takeDesc b).2 then (x.takeDesc b).1.sendPeer 0x0A [0x09, byte (fld f 1 1), 0, 0]
        else (x.takeDesc b).1) ∧ Only [.desc] x (x.takeDesc b).1) ∧
    (s.hears 0x0A f b → b.length = 4 → s.role = 1 → fld b 0 1 = 0x09 → fld b 1 1 = s.lastSent 0x09 → ∃ t,
      exec (.ack f) s = .next t ∧
      t.desc.partnerAck = (if s.desc.committing then s.desc.capturedSeq else s.desc.sequence) ∧
      (∀ w ∈ t.waiting, w.what ≠ .commitPartner) ∧ Only [.desc, .sluice, .waiting] s t) ∧
    (s.hears 0x0B f b → b.length = 8 → s.role = 2 → s.shadowing = true → fld b 0 1 < 128 → ∃ t,
      exec (.idstart f) s = .next t ∧ (t.outAt (fld b 0 1)).ident.lfsr = fld b 2 2 ∧
      (t.outAt (fld b 0 1)).ident.startAt = some (((fld b 4 4 : Int) -
        s.sluice.qDelta.getD (quadrant (s.lead (fld b 0 1))) 0) % 2 ^ 32).toNat ∧ (t.outAt (fld b 0 1)).ident.inj = false ∧
      (∀ k, k ≠ fld b 0 1 → t.outAt k = s.outAt k) ∧ Only [.out, .sluice, .freeCount] s t) ∧
    (∀ c, s.hears 0x04 f b → b.length = 1032 → s.role = 2 → s.shadowing = true → fld b 4 1 < 64 →
      s.sluice.superEpoch ≠ fld b 0 4 → ∃ t, exec (.super f c) s = .next t ∧ t.sluice.superEpoch = fld b 0 4 ∧
      t.sluice.superGot = Tab.set false [] (fld b 4 1) true ∧ t.sluice.superData = c ∧ Only [.sluice] s t) ∧
    (∀ c, s.hears 0x04 f b → b.length = 1032 → s.role = 2 → s.shadowing = true → fld b 4 1 < 64 →
      s.sluice.superEpoch = fld b 0 4 → Tab.get false s.sluice.superGot (fld b 4 1) = false → ∃ t,
      exec (.super f c) s = .next t ∧ t.sluice.superData = s.sluice.superData ++ c ∧
      Tab.get false t.sluice.superGot (fld b 4 1) = true ∧ Only [.sluice] s t) ∧
    (s.hears 0x05 f b → b.length = 6443 → s.role = 2 → s.shadowing = true → ∃ t, exec (.handover f) s = .next t ∧
      t.sluice.handover = some (fld b 0 1, fld b 1 1) ∧ t.sluice.mirrorAge = 0 ∧ t.sluice.mirrorGot = true ∧
      Only [.chan, .out, .sluice] s t)

/-- R390, R395, R396, R397, R401, R403 to R405, R407, R148: a lane comes up with block lock and falls; HELLO goes out
on a lane with lock; presence and its loss; the mirror strobe sends MIRROR and SUMMARY on an active; a challenge
unanswered refers the doubted clusters; the known-answer tests answer a challenge, yield or withdraw; the timers of
the partner link. -/
def Obligations.PartnerLinkAndTests : Prop :=
  ∀ s : State,
    (∀ l, s.sluice.linkPowered = true → (l = 6 ∨ l = 7) → ∃ t, exec (.partnerLaneUp l) s = .next t ∧
      t.peerLane l = { s.peerLane l with block := true } ∧ t.peerLane (13 - l) = s.peerLane (13 - l) ∧ Only [.sluice] s t) ∧
    (∀ l, (l = 6 ∨ l = 7) → ∃ x : State, exec (.partnerLaneDown l) s = .next x.judgePeer ∧ x.peerLane l = {} ∧
      x.peerLane (13 - l) = s.peerLane (13 - l) ∧ Only [.sluice] s x) ∧
    (s.mode.firmware = true → s.sluice.linkPowered = true → ((s.peerLanes.testBit 0 = true ∧ s.sluice.lane6.block = true) ∨
        (s.peerLanes.testBit 1 = true ∧ s.sluice.lane7.block = true)) →
      ∃ t ts, exec .helloTimer s = .next t ∧ t.sent = s.sent ++ [.partner 0x01 (s.peerFrame 0x01 (s.helloBody ts))] ∧
      Only [.sluice, .sent, .freeCount] s t) ∧
    (s.mode.firmware = false → ∀ p, exec (.peerPresence p) s = .next { s with sluice :=
      if p then { s.sluice with
        presN := true, hello := false, pFit := 0, pMode := 0, pRole := 0, pDie := 0, pDesc := 0, peer := false }
      else { s.sluice with presN := false } }) ∧
    (s.mode.active = true → ∀ p, ∃ x : State, exec (.peerPresence p) s = .next ((x.powerDomains x.activeDomains).judgePeer) ∧
      x.sluice.presN = p ∧ (p = true → x.sluice.hello = false ∧ x.sluice.peer = false) ∧ Only [.sluice] s x) ∧
    (∀ ts, s.mode.firmware = true → s.partner = true → s.clocks.running = true → s.token = true → ∃ t x y,
      exec (.mirrorStrobe ts) s = .next t ∧ t.sluice.strobe = (s.sluice.strobe + 1) % 50 ∧
      (∀ k, k < 128 → (t.chanAt k).wordA = (s.chanAt k).cyc.word) ∧
      t.sent = (if s.linkUp then s.sent ++ [.partner 0x02 x, .partner 0x03 y] else s.sent) ∧
      Only [.chan, .sluice, .sent] s t) ∧
    (∀ ts, s.partner = false → exec (.mirrorStrobe ts) s = .next s) ∧
    (s.role = 2 → s.sluice.cmpState = 1 → s.sluice.tested = 0 → ∃ x : State, exec .challengeTimeout s =
        .next ((x.raise 196 1 [byte s.sluice.doubted]).raiseDoubt) ∧
      x.sluice = { s.sluice with
        referred := s.sluice.referred ||| s.sluice.doubted, doubted := 0, testing := 0, cmpState := 4 } ∧
      (∀ k, k < 128 → s.sluice.doubted.testBit (quadrant k) = true → (x.chanAt k).runCounter = 0) ∧ Only [.chan, .sluice] s x) ∧
    (s.role ≠ 2 → exec .challengeTimeout s = .next s) ∧
    (s.mode.firmware = true → exec .selfTestTimer s = .next { s with sluice := { s.sluice with selfTest := 15 } }) ∧
    (s.mode.firmware = false → exec .selfTestTimer s = .next s) ∧
    (∀ c p, s.sluice.testing.testBit c = false → s.sluice.restoreTests = none → s.sluice.selfTest.testBit c = true →
      ∃ x : State, exec (.knownAnswerTest c p) s = .next (if p then x else x.selfTestFailed c) ∧
      x.sluice = { s.sluice with selfTest := x.sluice.selfTest } ∧ x.sluice.selfTest.testBit c = false ∧
      (∀ i, i ≠ c → x.sluice.selfTest.testBit i = s.sluice.selfTest.testBit i) ∧ Only [.sluice] s x) ∧
    (∀ c p (x : State), s.sluice.testing = 2 ^ c → x = ({ s with sluice := { s.sluice with
        testing := 0, passed := s.sluice.passed ||| (if p then 2 ^ c else 0) } } : State).challengeTested →
      x.sluice.restoreTests = none → x.sluice.selfTest.testBit c = false → exec (.knownAnswerTest c p) s = .next x) ∧
    (∀ x, x = s.sendPeer 0x07 [byte s.sluice.tested, byte s.sluice.passed, 0, 0] →
      (s.sluice.cmpState = 2 → s.sluice.passed = s.sluice.tested →
        s.challengeTested = { x with sluice := x.sluice.watch }) ∧
      (s.sluice.cmpState = 2 → s.sluice.passed ≠ s.sluice.tested → s.canYield = true → s.challengeTested =
        { x with sluice := x.sluice.watch }.yield 0x04 (s.sluice.tested - (s.sluice.tested &&& s.sluice.passed))) ∧
      (s.sluice.cmpState = 3 → s.sluice.passed ≠ s.sluice.tested → s.challengeTested =
        { x with sluice := ({ x.sluice with doubted := 0, withdrawn := true }).watch }) ∧
      (s.sluice.cmpState = 3 → s.sluice.passed = s.sluice.tested → s.challengeTested = x.refer)) ∧
    ((∃ w ∈ s.waiting, w.what = .commitPartner) → ∃ x : State, exec .commitAckTimeout s = .next (x.raise 199 1 []) ∧
      (∀ w ∈ x.waiting, w.what ≠ .commitPartner) ∧ x.waiting.length = s.waiting.length ∧ Only [.waiting] s x) ∧
    ((∀ w ∈ s.waiting, w.what ≠ .commitPartner) → exec .commitAckTimeout s = .next s)

/-- R28, R29, R434 to R436, R440, R441, R449: the local ledger. Contributions of the open epoch arrive and the last
one seals the snapshot; later ones are counted; the deadline seals with what is there; a standby takes its active's
set; the orders of group 0x0B read, and begin and end subscriptions. -/
def Obligations.LedgerRows : Prop :=
  ∀ (s : State) (mb : Nat) (q : Req), q = s.request mb →
    (∀ i us x, i ≤ 18 → s.mode.firmware = true → s.ledger.open_ = true → s.ledger.expected.testBit i = true →
      (i ≠ 0 ∨ s.wardenRuns = true) → x = { s with ledger := { s.ledger with arrived := setBit s.ledger.arrived i true } } →
      exec (.contribution i (s.ledger.epoch % 2 ^ 32) us) s = .next (if x.ledger.expected &&& x.ledger.arrived = x.ledger.expected
        then x.sealLocal us false else x)) ∧
    (∀ i e us, i ≤ 18 → s.mode.firmware = true → e ≠ s.ledger.epoch % 2 ^ 32 → s.ledger.snaps ≠ [] →
      geq32 s.ledger.newest e = true → exec (.contribution i e us) s = .next
        (({ s with ledger := { s.ledger with late := min 65535 (s.ledger.late + 1) } }).raise 189 1 [])) ∧
    (∀ i e us, 18 < i → exec (.contribution i e us) s = .next s) ∧
    (s.ledger.open_ = true → exec .sealDeadline s = .next (s.sealLocal 200 true)) ∧
    (s.ledger.open_ = false → exec .sealDeadline s = .next s) ∧
    (∀ us d t, t = s.sealLocal us d → t.ledger.open_ = false ∧ t.ledger.late = 0 ∧ t.sealedView = s.latchView ∧
      (∃ x, t.ledger.snaps.getLast? = some x ∧ x.epoch = s.ledger.epoch ∧ (s.role ≠ 2 ∨ s.ledger.rx.length ≠ 16 →
        x.generation = s.sluice.generation ∧ x.bytes.take 3 = [0x47, 0x4C, 1])) ∧ t.ledger.snaps.length ≤ 16 ∧
      t.ledger.deadlineSeals = (s.ledger.deadlineSeals + if d then 1 else 0) % 2 ^ 32 ∧
      (d = false → t.host.sealedEpoch = s.ledger.epoch % 2 ^ 32 ∧ t.host.irqSealed = true)) ∧
    (∀ f b i, s.hears 0x0C f b → b.length = 1032 → s.role = 2 → s.shadowing = true → i = fld b 4 1 → i < 16 →
      ∃ x : State, exec (.snapshotFrame f) s = .next (if x.ledger.rx.length = 16 then x.adoptSnapshot else x) ∧
      x.ledger.rxEpoch = fld b 0 4 ∧ Tab.get [] x.ledger.rx i = slice b 8 1024 ∧ x.ledger.snaps = s.ledger.snaps ∧
      Only [.sluice, .ledger] s x) ∧
    (s.starts 0x0B01 mb → q.lay 0 [] = true → ∃ p : Bytes, exec (.ledgerStatus mb) s = .next (s.answer mb .ok p) ∧
      p.length = 28 ∧ p.take 8 = leBytes 4 s.ledger.oldest ++ leBytes 4 s.ledger.newest) ∧
    (∀ x, s.starts 0x0B02 mb → q.lay 12 [(5, 1)] = true → q.u 4 1 = 0 → 1 ≤ q.u 6 2 → q.u 6 2 ≤ 480 →
      q.u 8 4 + q.u 6 2 ≤ 16384 → s.ledger.snapOf (q.u 0 4) = some x → s.ledgerBad 0 x.epoch (q.u 8 4) (q.u 6 2) = [] →
      exec (.ledgerRead mb) s = .next ((s.taken.replyAt q .ok
        (leBytes 4 (q.u 0 4) ++ zeros 4 ++ slice x.bytes (q.u 8 4) (q.u 6 2)) (q.u 0 4)).followed)) ∧
    (∀ x g f, s.starts 0x0B02 mb → q.lay 12 [(5, 1)] = true → 1 ≤ q.u 4 1 → q.u 4 1 ≤ 3 → 1 ≤ q.u 6 2 → q.u 6 2 ≤ 480 →
      q.u 8 4 + q.u 6 2 ≤ areaSize (q.u 4 1) → s.ledger.snapOf (q.u 0 4) = some x → x.fab = some f →
      s.ledger.fabOf f = some g → s.ledgerBad (q.u 4 1) g.epoch (q.u 8 4) (q.u 6 2) = [] →
      exec (.ledgerRead mb) s = .next ((s.taken.replyAt q .ok
        (leBytes 4 (q.u 0 4) ++ zeros 4 ++ slice (g.area (q.u 4 1)) (q.u 8 4) (q.u 6 2)) (q.u 0 4)).followed)) ∧
    (s.starts 0x0B03 mb → q.lay 0 [] = true → s.member = true → ∃ p : Bytes,
      exec (.fabricStatus mb) s = .next (s.answer mb .ok p) ∧ p.length = 28 ∧
      p.take 2 = [byte s.shelfFabRow, byte s.shelfFabCol] ∧ slice p 12 4 = leBytes 4 s.fabric.allow) ∧
    (s.starts 0x0B03 mb → s.member = false →
      exec (.fabricStatus mb) s = .next (s.answer mb .wrongMode [])) ∧
    (s.starts 0x0B04 mb → q.transport = 1 → q.lay 4 [] = true → q.u 0 1 ≤ 3 → [1, 10, 1, 100].getD (q.u 0 1) 0 ≤ q.u 2 2 →
      q.u 2 2 ≤ 60000 → (q.u 0 1 = 2 → q.u 1 1 ≤ 31) → s.log.subs.length < 8 →
      (s.log.subs.filter fun y => decide (y.session = q.session)).length < 4 → ∃ x : Subscription,
      exec (.ledgerSubscribe mb) s = .next ((({ s.taken with log := { s.log with subs := s.log.subs ++ [x] } } : State).reply q
        .ok [byte x.id, 0, 0, 0]).followed) ∧
      x = { id := x.id, session := q.session, log := false, kind := q.u 0 1, row := q.u 1 1, decim := q.u 2 2, next := 0
            classes := 0, gone := 0 } ∧ 1 ≤ x.id ∧ x.id ≤ 16 ∧ ∀ y ∈ s.log.subs, y.id ≠ x.id) ∧
    (s.starts 0x0B05 mb → q.lay 4 [(1, 3)] = true →
      (s.log.subs.any fun y => decide (y.id = q.u 0 1) && decide (y.session = q.session) && !y.log) = true →
      exec (.ledgerUnsubscribe mb) s = .next ((({ s.taken with log := { s.log with
        subs := s.log.subs.filter fun y => !(decide (y.id = q.u 0 1) && decide (y.session = q.session) && !y.log) } } :
          State).reply q .ok []).followed))

/-- R421, R424 to R428, R431: lanes, routing and time alignment of the fabric. A HELLO with the neighbour's position
brings its lane up, any other takes it down with source 180; a SYNC of the parent sets the offset and is answered; a
DELAY_RESP gives θ; a member that hears of no lower root for ten tides becomes root. -/
def Obligations.FabricAlignment : Prop :=
  ∀ (s : State) (f b : Bytes) (l : Nat),
    (s.fabOn = true → l < 4 → s.laneUsed l = true → fabBody 0x01 f = some b → b.length = 12 →
      fld b 0 1 = (s.neighbour l).1 → fld b 1 1 = (s.neighbour l).2 → fld b 2 1 = s.shelfFabRows →
      fld b 3 1 = s.shelfFabCols → fld b 4 1 = (l + 2) % 4 → ∃ x : State,
      exec (.fabricHello l f true) s = .next x.judgeLanes ∧ x.fabLane l = { s.fabLane l with block := true, up := true } ∧
      (∀ k, k < 4 → k ≠ l → x.fabLane k = s.fabLane k) ∧ Only [.fabric] s x) ∧
    (∀ c, s.fabOn = true → l < 4 → s.laneUsed l = true → fabBody 0x01 f = some b → fld b 0 1 ≠ (s.neighbour l).1 →
      ∃ x : State, exec (.fabricHello l f c) s = .next ((x.judgeLanes).raise 180 1 []) ∧ (x.fabLane l).up = false ∧
      (∀ k, k < 4 → k ≠ l → x.fabLane k = s.fabLane k) ∧ Only [.fabric] s x) ∧
    (∀ m, s.fabOn = true → ∃ t, exec (.fabricHelloTimer m) s = .next t ∧
      (∀ k, k < 4 → t.fabLane k = { s.fabLane k with block := m.testBit k }) ∧
      t.sent.length = s.sent.length + ((upto 4).filter fun k => m.testBit k && s.laneUsed k).length ∧
      Only [.fabric, .sent] s t) ∧
    (∀ m, s.fabOn = false → exec (.fabricHelloTimer m) s = .next s) ∧
    (l < 4 → ∃ x : State, exec (.fabricLaneDown l) s = .next x.judgeLanes ∧ x.fabLane l = {} ∧
      (∀ k, k < 4 → k ≠ l → x.fabLane k = s.fabLane k) ∧ x.fabric.parent ≠ some l ∧ Only [.fabric] s x) ∧
    (∀ t1, s.fabOn = true → s.clocks.running = true → s.fabric.isRoot = true → ∃ t, exec (.syncSend t1) s = .next t ∧
      t.sent.length = s.sent.length + ((upto 4).filter fun k => (s.fabLane k).up && s.laneUsed k).length ∧
      Only [.sent] s t) ∧
    (∀ t1, s.fabric.isRoot = false → s.fabric.parent = none → exec (.syncSend t1) s = .next s) ∧
    (∀ t2 t3, s.fabHears 0x02 20 l f b → fld b 0 2 < s.fabAddr → s.laneUsed l = true →
      (∀ k, k < 4 → k ≠ l → (s.fabLane k).up = false) → ∃ (x : State) (fr : Bytes),
      exec (.sync l f t2 t3) s = .next ((x.condition 182 false).sendFab l fr) ∧ fr.take 1 = [0x03] ∧
      x.fabric.parent = some l ∧ x.fabric.root = fld b 0 2 ∧ x.fabric.depth = fld b 2 1 + 1 ∧ x.fabric.synced = true ∧
      x.fabric.offset = (s.ext : Int) - fld b 4 8 ∧ x.fabric.t2 = t2 ∧ x.fabric.t3 = t3 ∧ Only [.fabric, .log] s x) ∧
    (∀ t4, s.fabHears 0x03 4 l f b → ∃ fr, exec (.delayReq l f t4) s = .next (s.sendFab l fr) ∧ fr.take 1 = [0x04] ∧
      slice fr 16 4 = leS 4 t4) ∧
    (s.fabHears 0x04 4 l f b → s.fabric.parent = some l → s.fabric.synced = true →
      (s.role = 2 ∨ s.fabric.steered = true) → ∃ t, exec (.delayResp l f) s = .next t ∧
      t.fabric = { s.fabric with
        theta := tdiv ((s.fabric.t2 - s.fabric.t1) - (ofU 32 (fld b 0 4) - s.fabric.t3)) 2 + s.fabric.syncOffset
        steered := true } ∧ Only [.fabric] s t) ∧
    (s.fabHears 0x04 4 l f b → s.fabric.parent = some l → s.fabric.synced = true → s.role ≠ 2 →
      s.fabric.steered = false → ∃ t, exec (.delayResp l f) s = .next t ∧ t.fabric.steered = true ∧
      t.fabric.theta = tdiv ((s.fabric.t2 - s.fabric.t1) - (ofU 32 (fld b 0 4) - s.fabric.t3)) 2 + s.fabric.syncOffset ∧
      49750 ≤ t.fabric.nextCycles ∧ t.fabric.nextCycles ≤ 50250 ∧
      (t.fabric.theta.natAbs ≤ 10000000 → 49995 ≤ t.fabric.nextCycles ∧ t.fabric.nextCycles ≤ 50005 ∧ t.fabric.slew = false) ∧
      (10000000 < t.fabric.theta.natAbs → t.fabric.slew = true) ∧ Only [.fabric, .freeCount] s t) ∧
    (s.fabOn = true → s.fabric.isRoot = false → 10 ≤ s.fabric.noLower → exec .rootElection s = .next { s with fabric :=
      { s.fabric with isRoot := true, root := s.fabAddr, depth := 0, parent := none, theta := 0 } }) ∧
    (s.fabric.noLower < 10 → exec .rootElection s = .next s)

/-- R424, R425, R437, R438, R442 to R445: the records and the reduction of the fabric. A member keeps the records it
originates; a SUMMARY and a FULL are delivered once for each origin, TYPE and epoch and go on; a row root sums its
members, the reduction root with no limit lifts every allowance, a row root without its row's allowance reports it;
MEMALLOC gives the member its allowance, the standby's is relayed to the active, an allowance that stays away is held
and the tenth tide without one raises source 186; 400 µs after the boundary the fabric snapshot is sealed, one of the
last four. -/
def Obligations.FabricReduction : Prop :=
  ∀ (s : State) (f b : Bytes) (l : Nat),
    (∀ m full, s.fabOn = true → s.wardenRuns = true → s.clocks.running = true → s.ownRecords s.fabEnded = some (m, full) →
      s.log.subs = [] → ∃ t, exec .recordOriginate s = .next t ∧ t.fabric.lastSummary = m ∧ t.fabric.lastFull = full ∧
      (fld m 4 4 = s.fabEnded % 2 ^ 32 → Tab.get [] s.fabric.latest s.fabAddr = [] → m ≠ [] →
        Tab.get [] t.fabric.latest s.fabAddr = m) ∧ Only [.fabric, .sent] s t) ∧
    (s.fabOn = false → exec .recordOriginate s = .next s) ∧
    (∀ g, s.fabHears 0x05 64 l f b → s.extendF (fld f 6 2) = some g → bits (fld f 14 2) 13 8 = 0 →
      (fld f 2 2, 0x05, g) ∉ s.fabric.seen → fld f 2 2 ≠ s.fabAddr → ∃ x : State,
      exec (.fabricSummary l f) s = .next ((x.takeSummary f (fld f 2 2) g b).goOn l f) ∧
      x.fabric = { s.fabric with seen := (fld f 2 2, 0x05, g) :: s.fabric.seen } ∧ Only [.fabric] s x) ∧
    (∀ g, s.fabHears 0x06 256 l f b → s.extendF (fld f 6 2) = some g → bits (fld f 14 2) 13 8 = 0 →
      (fld f 2 2, 0x06, g) ∉ s.fabric.seen → fld f 2 2 ≠ s.fabAddr → fld f 2 2 / 32 = s.shelfFabRow →
      Tab.get [] s.fabric.fulls (fld f 2 2 % 32) = [] → ∃ x : State, exec (.full l f) s = .next (x.goOn l f) ∧
      Tab.get [] x.fabric.fulls (fld f 2 2 % 32) = b ∧ Tab.get 0 x.fabric.fullEpoch (fld f 2 2 % 32) = g ∧
      Only [.fabric] s x) ∧
    (∀ g, s.fabHears 0x06 256 l f b → s.extendF (fld f 6 2) = some g → bits (fld f 14 2) 13 8 = 0 →
      (fld f 2 2, 0x06, g) ∈ s.fabric.seen → exec (.full l f) s = .next (s.goOn l f)) ∧
    (bits (fld f 14 2) 7 3 = 1 → s.goOn l f = s) ∧
    (s.stageRuns = true → s.rowRoot = true → s.fabric.isRoot = true → ∃ t, exec .rowSumStage s = .next t ∧
      Tab.get 0 t.fabric.rowSumEpoch s.shelfFabRow = s.fabEnded ∧
      (∀ c, c < s.shelfFabCols → Tab.get {} t.fabric.memberD c = RowSum.ofRecord
        (Tab.get [] s.fabric.latest (32 * s.shelfFabRow + c))
        (decide (Tab.get 0 s.fabric.latestEpoch (32 * s.shelfFabRow + c) = s.fabEnded))) ∧
      Tab.get {} t.fabric.rowSums s.shelfFabRow =
        RowSum.total ((upto s.shelfFabCols).map fun c => Tab.get {} t.fabric.memberD c) ∧ Only [.fabric] s t) ∧
    (s.rowRoot = false → exec .rowSumStage s = .next s) ∧
    (∀ g, s.fabHears 0x07 32 l f b → s.extendF (fld f 6 2) = some g → fld f 4 2 = s.fabAddr →
      exec (.rowsum l f) s = .next (s.noteRowSum (fld b 0 1) g (RowSum.ofBytes b))) ∧
    (∀ g p, s.fabHears 0x07 32 l f b → s.extendF (fld f 6 2) = some g → fld f 4 2 ≠ s.fabAddr →
      s.route (fld f 4 2) = some p → exec (.rowsum l f) s = .next (s.passOn p f (fld f 14 2))) ∧
    (s.stageRuns = true → s.fabric.isRoot = true → s.shelfFabRow < s.shelfFabRows →
      (∀ r, r < s.shelfFabRows → Tab.get 0 s.fabric.rowSumEpoch r = s.fabEnded) →
      (∀ r, r < s.shelfFabRows → (Tab.get ({} : RowSum) s.fabric.rowSums r).limitKw = 0) → ∃ t,
      exec .rootAllocate s = .next t ∧ t.fabric = { s.fabric with rowAllow := none, rowAllowEpoch := some s.fabEnded } ∧
      Only [.fabric, .sent, .freeCount] s t) ∧
    (s.fabric.isRoot = false → exec .rootAllocate s = .next s) ∧
    (∀ g, s.fabHears 0x08 12 l f b → s.extendF (fld f 6 2) = some g → fld f 4 2 = s.fabAddr →
      exec (.rowalloc l f) s = .next { s with fabric := { s.fabric with
        rowAllow := if fld b 4 8 = 2 ^ 64 - 1 then none else some (fld b 4 8), rowAllowEpoch := some g } }) ∧
    (s.stageRuns = true → s.rowRoot = true → s.fabric.rowAllowEpoch ≠ some s.fabEnded →
      exec .rowAllocate s = .next (s.raise 185 1 [])) ∧
    (s.stageRuns = true → s.rowRoot = true → s.fabric.rowAllowEpoch = some s.fabEnded → s.fabric.rowAllow = none →
      s.shelfFabCol < s.shelfFabCols → ∃ t, exec .rowAllocate s = .next t ∧
      t.fabric.pendAllow = some (0xFFFFFFFF, s.fabEnded) ∧ Only [.fabric, .sluice, .sent, .freeCount] s t) ∧
    (∀ g, s.fabHears 0x09 132 l f b → s.extendF (fld f 6 2) = some g → bits (fld f 14 2) 13 8 = 0 →
      (fld f 2 2, 0x09, g) ∉ s.fabric.seen → fld f 2 2 ≠ s.fabAddr → fld b 0 1 = s.shelfFabRow → s.wardenRuns = true →
      ∃ x : State, exec (.memalloc l f) s = .next (x.goOn l f) ∧
      x.fabric.pendAllow = some (fld b (4 + 4 * s.shelfFabCol) 4, g) ∧ Only [.fabric, .sluice, .sent] s x) ∧
    (s.hears 0x0D f b → b.length = 8 → s.role = 1 → ∃ t, exec (.allowanceRelay f) s = .next t ∧
      t.fabric = { s.fabric with pendRelay := some (fld b 4 4, fld b 0 4), relayed := fld b 4 4 } ∧
      Only [.fabric, .sluice] s t) ∧
    (∀ x : State, s.fabric.holdDue = true → x = { s with fabric := { s.fabric with
        holdDue := false, held := s.fabric.held + 1, allowStale := true } } →
      exec .allowanceHold s = .next (if s.fabric.held = 9 then x.raise 186 1 [] else x)) ∧
    (s.fabric.holdDue = false → exec .allowanceHold s = .next s) ∧
    (∀ us, s.fabOn = true → s.clocks.running = true → s.fabric.sealedF ≠ some s.fabEnded → 400 ≤ us →
      exec (.fabricSeal us) s = .next (s.sealFabric s.fabEnded us) ∧
      ∃ x, (s.sealFabric s.fabEnded us).ledger.fabs.getLast? = some x ∧ x.epoch = s.fabEnded ∧
        (s.sealFabric s.fabEnded us).ledger.fabs.length ≤ 4) ∧
    (∀ us, s.fabric.sealedF = some s.fabEnded → exec (.fabricSeal us) s = .next s)

/-- R536 to R540, R547, R548: TW0 and the target ports. A port that serves answers the read commands with their bytes
and a PEC; a write command is taken with a good PEC; the mailbox transport takes a request byte by byte, rings it in a
pool mailbox or answers by itself, and gives its response until it is released. -/
def Obligations.TargetCommands : Prop :=
  ∀ s : State,
    (∀ p c bl d len, (s.twAt p).targetBusy = false → s.targetReply p c bl d len = s.send (.twoWire p
      ((if bl then [byte d.length] else []) ++ d.take len ++ if d.length < len then [pecOf ([byte (2 * s.targetAddr p),
        byte c, byte (2 * s.targetAddr p + 1)] ++ ((if bl then [byte d.length] else []) ++ d))] else []))) ∧
    (∀ p len, p < 8 → s.targetServes p = true →
      exec (.targetStatus p len) s = .next (s.targetReply p 0x01 false (leBytes 2 s.twStatusWord) len) ∧
      exec (.ident p len) s = .next (s.targetReply p 0x02 true ([0x28, 0x81, 0x21, 0x01] ++ leBytes 4 s.retained.dieId) len)) ∧
    (s.modeCode < 16 → s.twStatusWord % 16 = s.modeCode ∧ s.twStatusWord.testBit 4 = decide (s.mode = .stranded) ∧
      s.twStatusWord.testBit 5 = s.host.hrdy ∧ s.twStatusWord.testBit 6 = s.power.wake.active ∧
      s.twStatusWord.testBit 7 = s.power.wake.wakeIgnored) ∧
    (∀ p len, s.targetServes p = false → exec (.targetStatus p len) s = .next s ∧ exec (.ident p len) s = .next s ∧
      exec (.live p len) s = .next s) ∧
    (∀ len, s.targetServes 0 = true →
      exec (.resetCause len) s = .next (s.targetReply 0 0x03 true (leBytes 4 s.power.cause.word) len) ∧
      exec (.retention len) s = .next (s.targetReply 0 0x04 true s.power.ret.bytes len) ∧
      exec (.wakeEnable len) s = .next (s.targetReply 0 0x05 false (leBytes 2 s.retained.wakeEnable) len)) ∧
    (∀ p len, p < 8 → s.targetServes p = true → s.mode.active = true → exec (.live p len) s =
      .next (s.targetReply p 0x07 true (leBytes 4 s.clocks.epoch ++ leBytes 4 s.sluice.generation) len)) ∧
    (s.targetServes 0 = true → (s.mode = .keep ∨ s.mode = .gaugeWatch) → s.retained.wakeEnable.testBit 2 = false →
      ∀ p, s.pecRefused 0x06 [0x57] p = false → ∃ t, exec (.wake 0x57 p) s = .next t ∧ t.power.wake = { s.power.wake with wakeIgnored := true } ∧ Only [.power] s t) ∧
    (s.targetServes 0 = true → s.mode.aon = true → (s.mode = .stranded ∨ s.mode = .boot ∨ s.retained.wakeEnable.testBit 2 = true) →
      ∀ p, s.pecRefused 0x06 [0x57] p = false → exec (.wake 0x57 p) s = .next (s.wakeEvent 2)) ∧
    (∀ d p, (d ≠ 0x57 ∨ s.mode.aon = false) → exec (.wake d p) s = .next s) ∧
    (∀ c d p f, (s.pecRefused c d p = false → s.targetWrite c d p f = f s) ∧ (s.pecRefused c d p = true → s.targetWrite c d p f =
      (s.setTw 0 fun t => { t with errors := (t.errors + 1) % 2 ^ 16 }).twEvent 0 2 (s.targetAddr 0) (some c) none)) ∧
    (∀ c d, s.pecRefused c d none = s.devPecRequired.testBit 0 ∧ ∀ b, s.pecRefused c d (some b) = false ↔
      pecOf ([byte (2 * s.targetAddr 0), byte c] ++ d) = byte b) ∧
    (∀ v p, s.mode.active = true → s.tw.tState = 0 → v < 512 → s.pecRefused 0x10 (leBytes 2 v) p = false →
      exec (.mbOffset v p) s = .next { s with tw := { s.tw with tOffset := v } }) ∧
    (∀ v p d, s.mode.active = true → s.tw.tState ≠ 0 → d ≠ [] → d.length ≤ 255 → exec (.mbOffset v p) s = .next s.tw0Nack ∧
      exec (.mbWrite d p) s = .next s.tw0Nack ∧ (∀ x, exec (.mbGo x p) s = .next s.tw0Nack)) ∧
    (∀ d p, s.mode.active = true → s.tw.tState = 0 → d ≠ [] → d.length ≤ 255 → s.tw.tOffset + d.length ≤ 512 →
      s.pecRefused 0x11 (byte d.length :: d) p = false → ∃ t, exec (.mbWrite d p) s = .next t ∧ t.tw.tOffset = s.tw.tOffset + d.length ∧
      (∀ a, memRead t.tw.tBuf a = if s.tw.tOffset ≤ a ∧ a < s.tw.tOffset + d.length then d.getD (a - s.tw.tOffset) 0
        else memRead s.tw.tBuf a) ∧ Only [.tw] s t) ∧
    (∀ n p, s.mode.active = true → s.tw.tState = 0 → s.freePool = some n → s.tw.request.len ≤ 496 →
      s.pecRefused 0x12 [1] p = false → ∃ x : State, exec (.mbGo 1 p) s = .next ((x.ring n .tw0 0 0 0).followed) ∧
      x.tw = { s.tw with tState := 1, tOffset := 0, tMailbox := some n } ∧
      (∀ i, i < 16 + s.tw.request.len → memRead x.host.ram (mbBase n + i) = memRead s.tw.tBuf i) ∧ Only [.host, .tw] s x) ∧
    (∀ p, s.mode.active = true → s.tw.tState = 0 → s.freePool = none → s.tw.request.len ≤ 496 → s.pecRefused 0x12 [1] p = false →
      exec (.mbGo 1 p) s = .next (s.synthesise .busy)) ∧
    (∀ p, s.mode = .lastGasp → s.tw.tState = 0 → s.tw.request.len ≤ 496 → s.pecRefused 0x12 [1] p = false →
      exec (.mbGo 1 p) s = .next (s.synthesise .wrongMode)) ∧
    (∀ p, (s.mode.active = true ∨ s.mode = .lastGasp) → s.tw.tState = 0 → 496 < s.tw.request.len →
      s.pecRefused 0x12 [1] p = false → exec (.mbGo 1 p) s = .next (s.synthesise .badArg)) ∧
    (∀ st, (s.synthesise st).tw.tState = 2 ∧ (s.synthesise st).tw.tMailbox = none ∧ (s.synthesise st).tw.tOffset = 0 ∧
      memRead (s.synthesise st).tw.tBuf 0 = byte st.code ∧ Only [.tw] s (s.synthesise st)) ∧
    (∀ len, (s.mode.active = true ∨ s.mode = .lastGasp) →
      exec (.mbState len) s = .next (s.targetReply 0 0x13 false [byte s.tw.tState] len)) ∧
    (∀ m len n, (s.mode.active = true ∨ s.mode = .lastGasp) → s.tw.tState = 2 → s.tw.tMailbox = some m →
      (s.twAt 0).targetBusy = false → n = min 255 (512 - s.tw.tOffset) → n ≤ len → ∃ t b, exec (.mbRead len) s = .next t ∧
      t.sent = s.sent ++ [.twoWire 0 ([byte n] ++ memReadN s.host.ram (mbBase m + 0x200 + s.tw.tOffset) n ++ b)] ∧
      t.tw.tOffset = s.tw.tOffset + n ∧ Only [.tw, .sent, .freeCount] s t) ∧
    (∀ m p, (s.mode.active = true ∨ s.mode = .lastGasp) → s.tw.tState = 2 → s.tw.tMailbox = some m →
      s.pecRefused 0x15 [1] p = false → exec (.mbRelease 1 p) s = .next { s.freeMb m with tw := { s.tw with tState := 0, tBuf := [], tMailbox := none } }) ∧
    (∀ p, (s.mode.active = true ∨ s.mode = .lastGasp) → s.tw.tState = 2 → s.tw.tMailbox = none →
      s.pecRefused 0x15 [1] p = false → exec (.mbRelease 1 p) s = .next { s with tw := { s.tw with tState := 0, tBuf := [], tMailbox := none } }) ∧
    (∀ d p, (s.mode.active = true ∨ s.mode = .lastGasp) → s.tw.tState ≠ 2 → exec (.mbRelease d p) s = .next s.tw0Nack) ∧
    (s.tw0Alert = true → exec (.alertResponse 0) s = .next
      { s.send (.twoWire 0 [byte (2 * s.targetAddr 0)]) with tw := { s.tw with alertAnswered := true } }) ∧
    (∀ p, p ≠ 0 → exec (.alertResponse p) s = .next s) ∧
    (s.mode.responderSleeps = true → s.tw.responder = .asleep → exec .responderWake s =
      .next { s with tw := { s.tw with responder := .waking } }) ∧
    (s.tw.responder = .waking → exec .responderReady s = .next { s with tw := { s.tw with responder := .awake } }) ∧
    (s.mode.responderSleeps = true → s.tw.responder = .awake → exec .responderSleep s =
      .next { s with tw := { s.tw with responder := .asleep } }) ∧
    (s.tw.responder = .awake → exec .responderWake s = .next s ∧ exec .responderReady s = .next s)

/-- R516, R517, R530, R541, R542, R546: the controller side of the two-wire ports. TW.STATUS gives 8 bytes for each
port; TW.TRANSFER is LOCKED for the address of a legacy rectifier and otherwise joins its port's queue or waits for a
window; a window's first transaction goes out; a transaction that ends well or badly is answered or counted and the
next one starts; a sensor's reading within its limits stands with its epoch; lost arbitration is repeated up to three
times, then the transaction ends with RESULT 4; a timeout ends it with RESULT 5, or resets the target. -/
def Obligations.TwoWireController : Prop :=
  ∀ (s : State) (mb port : Nat) (q : Req), q = s.request mb →
    (s.starts 0x0E01 mb → q.lay 0 [] = true → ∃ p : Bytes, exec (.twStatus mb) s = .next (s.answer mb .ok p) ∧
      p.length = 64 ∧ ∀ n, n < 8 → slice p (8 * n + 2) 4 = leBytes 2 (s.twAt n).arbLost ++ leBytes 2 (s.twAt n).errors) ∧
    (s.starts 0x0E02 mb → q.lay (8 + q.u 5 1) [(6, 2)] = true → port = q.u 0 1 → 1 ≤ port → port ≤ 7 → q.u 1 1 ≤ 127 →
      q.u 2 1 ≤ 8 → q.u 4 1 ≤ 1 → s.shelfTwEnable.testBit port = true → wlenFits (q.u 2 1) (q.u 5 1) = true →
      (s.legacyAddress port (q.u 1 1) = true → exec (.twTransfer mb) s = .next (s.answer mb .locked [])) ∧
      (s.legacyAddress port (q.u 1 1) = false → exec (.twTransfer mb) s = .next
        (((s.taken.wait q .twTransfer).queueTransfer port mb).followed))) ∧
    (s.twControls port = false → ∃ x, s.queueTransfer port mb = x ∧ (x.twAt port).transfers = (s.twAt port).transfers ++ [mb] ∧
      Only [.tw] s x) ∧
    (s.twControls port = true → (s.twAt port).queue = [] → (s.twAt port).targetBusy = false →
      (s.twAt port).running = false → s.anyHalted = false → ∃ x : State,
      s.queueTransfer port mb = x.send (.twoWire port (s.twFrame (.transfer mb))) ∧
      (x.twAt port).queue = [.transfer mb] ∧ (x.twAt port).running = true ∧ Only [.tw] s x) ∧
    (∀ a x, 1 ≤ port → port ≤ 7 → x = s.setTw port (fun p => { p with alertLow := a }) →
      exec (.twWindow port a) s = .next (if s.twControls port then x.windowOpens port a else x)) ∧
    (∀ m, s.twControls port = true → s.sensorsOn port = [] → s.legacyOn port = [] → (s.twAt port).queue = [] →
      (s.twAt port).transfers = [m] → (s.twAt port).targetBusy = false → (s.twAt port).running = false →
      s.anyHalted = false → ∃ x : State,
      s.windowOpens port false = x.send (.twoWire port (s.twFrame (.transfer m))) ∧
      (x.twAt port).queue = [.transfer m] ∧ (x.twAt port).transfers = [] ∧ Only [.tw] s x) ∧
    (∀ d, (port = 0 ∨ 7 < port) → exec (.twWindow port d) s = .next s) ∧
    (∀ u d p, (s.twAt port).queue.head? = some u → (s.twAt port).running = true → d.length ≤ 255 →
      (readResult (s.twFrame u) d p = 0 → exec (.twTransactionEnd port 0 d p) s = .next (s.twDone port u d)) ∧
      (readResult (s.twFrame u) d p = 3 → exec (.twTransactionEnd port 0 d p) s = .next (s.twFailed port 3 u d)) ∧
      (readResult (s.twFrame u) d p = 0 ∨ readResult (s.twFrame u) d p = 3) ∧
      (pecBytes (s.twFrame u) d = none → readResult (s.twFrame u) d p = 0) ∧
      (∀ r, 1 ≤ r → r ≤ 3 → exec (.twTransactionEnd port r d p) s = .next (s.twFailed port r u d)) ∧
      exec (.smbusTimeout port) s = .next ((s.twUseEvent port 1 u).twFailed port 5 u [])) ∧
    (∀ r d p, (s.twAt port).queue = [] → exec (.twTransactionEnd port r d p) s = .next s) ∧
    (∀ m d, ∃ x : State, s.twDone port (.transfer m) d =
        ((x.finish m .ok ([0, byte d.length, 0, 0] ++ d)).twNext port fun _ => false) ∧
      (∀ p, x.twAt p = s.twAt p) ∧ Only [.tw] s x) ∧
    (∀ k d v, v = s.sensorReading k (fld d 0 2) → -(2 ^ 31) ≤ v → v < 2 ^ 31 → s.sensorWarnLow k ≤ v →
      v ≤ s.sensorWarnHigh k → ∃ x : State, s.twDone port (.sensor k) d = (x.twNext port fun _ => false) ∧
      (x.sensorAt k).value = v ∧ (x.sensorAt k).state = 1 ∧ (x.sensorAt k).failRun = 0 ∧
      (x.sensorAt k).valueEpoch = s.clocks.epoch ∧ (∀ j, j ≠ k → x.sensorAt j = s.sensorAt j) ∧
      Only [.tw, .freeCount] s x) ∧
    (∀ m d, ∃ x : State, s.twFailed port 1 (.transfer m) d =
        ((x.finish m .ok ([1, byte d.length, 0, 0] ++ d)).twNext port fun _ => false) ∧
      (x.twAt port).errors = ((s.twAt port).errors + 1) % 2 ^ 16 ∧ (x.twAt port).queue = (s.twAt port).queue ∧ Only [.tw] s x) ∧
    ((s.twAt port).queue = [] → port ≤ 7 → s.targetServes port = true → exec (.smbusTimeout port) s = .next
      (((s.setTw port fun p => { p with errors := (p.errors + 1) % 2 ^ 16 }).twEvent port 1 (s.targetAddr port) none
        none).targetDone port)) ∧
    (∀ u w i, (s.twAt port).queue.head? = some u → (s.twAt port).running = true → ∃ x : State,
      exec (.arbitrationLost port w i) s = .next (if 3 ≤ (s.twAt port).retries then (x.twUseEvent port 7 u).twFailed port 4 u []
        else x.twStart port) ∧
      (x.twAt port).arbLost = ((s.twAt port).arbLost + 1) % 2 ^ 16 ∧ (x.twAt port).retries = (s.twAt port).retries + 1 ∧ (x.twAt port).running = false ∧
      (x.twAt port).targetBusy = (i && decide (w = s.targetAddr port) && decide (w ≠ 0)) ∧
      (x.twAt port).queue = (s.twAt port).queue ∧ Only [.tw] s x) ∧
    (∀ w i, (s.twAt port).queue = [] → exec (.arbitrationLost port w i) s = .next s)

/-- R118, R128 to R130, R551 to R553, R557 to R560: management Ethernet. Links come up and begin detection; a datagram
is discarded, repeated from its stored response, rejected, or rung in a pool mailbox; the PTP client takes the best
grandmaster, measures, and falls back to holdover. -/
def Obligations.EthernetRows : Prop :=
  ∀ (s : State) (p : Nat),
    (s.ethPowered p = true → (s.eth.portAt p).up = false → ∃ t, exec (.ethLinkUp p) s = .next t ∧
      t.eth.portAt p = { up := true, phy := (s.eth.portAt p).phy } ∧ (t.srcAt (linkSource p)).present = false ∧ Only [.eth, .faults] s t) ∧
    (s.ethPowered p = true → (s.eth.portAt p).up = true → ∃ x : State, exec (.ethLinkDown p) s =
        .next (x.begin_ (linkSource p) 1 []) ∧ x.eth.portAt p = { phy := (s.eth.portAt p).phy } ∧ Only [.eth] s x) ∧
    (s.ethPowered p = false → exec (.ethLinkUp p) s = .next s ∧ exec (.ethLinkDown p) s = .next s) ∧
    (∀ d, s.ethPowered p = true → (s.eth.portAt p).up = true → (s.eth.portAt p).dadDone = false → ∃ x : State,
      exec (.duplicateAddressDetectionEnd p d) s = .next (if d then x.raise (linkSource p) 2 [] else x) ∧
      (x.eth.portAt p).dadDone = !d ∧ (x.eth.portAt p).duplicate = d ∧ Only [.eth] s x) ∧
    (s.ethServes p = true → exec (.neighborSolicitation p (beVal s.linkLocal)) s =
        .next (s.send (.eth p ([136, 0] ++ s.linkLocal ++ [2, 1] ++ s.macAddress))) ∧
      ∀ b, (b.length ≤ 1456 → exec (.echoRequest p b) s = .next (s.send (.eth p ([129, 0] ++ b)))) ∧
        (1456 < b.length → exec (.echoRequest p b) s = .next s)) ∧
    (s.ethServes p = false → ∀ f, exec (.mailboxDatagram p f) s = .next s ∧ exec (.echoRequest p f) s = .next s) ∧
    (∀ f, s.ethServes p = true → (datagramFormed f = false ∨ (datagramKeyless f = false ∧ s.macGood f = false)) →
      exec (.mailboxDatagram p f) s = .next s.dropDatagram) ∧
    (∀ f e c, s.ethServes p = true → datagramFormed f = true → (datagramKeyless f = true ∨ s.macGood f = true) →
      e = s.sesAt (fld f 4 4) → c = fld f 8 8 →
      (e.request ≠ [] → c < e.counter → exec (.mailboxDatagram p f) s = .next s.dropDatagram) ∧
      (e.request = f → e.request ≠ [] → c = e.counter → e.response ≠ [] →
        exec (.mailboxDatagram p f) s = .next (({ s with eth := { s.eth with
          peerPort := Tab.set 0 s.eth.peerPort (fld f 4 4) p } } : State).sendEth p e.response)) ∧
      ((e.request = [] ∨ e.counter < c) → s.freePool = none → exec (.mailboxDatagram p f) s = .next (s.poolReject p f)) ∧
      (∀ n, (e.request = [] ∨ e.counter < c) → s.freePool = some n → ∃ x : State, exec (.mailboxDatagram p f) s =
          .next ((x.ring n .ethernet p c (if datagramKeyless f then 0 else e.key)).followed) ∧
        (e.state ≠ .closed → e.transport = 1 → (x.sesAt (fld f 4 4)).counter = c ∧ (x.sesAt (fld f 4 4)).request = f ∧
          Tab.get 0 x.eth.peerPort (fld f 4 4) = p) ∧
        memReadN x.host.ram (mbBase n) (f.length - 24) = (f.drop 16).take (f.length - 24) ∧ Only [.host, .eth] s x)) ∧
    (∀ a : AnnounceMsg, s.ptpOn a.port = true → a.timescale = true → s.eth.master = none → ∃ t m,
      exec (.ptpAnnounce a) s = .next t ∧ t.eth = { s.eth with master := some m, good := 0 } ∧ m.port = a.port ∧
      m.identity = a.identity ∧ Only [.eth] s t) ∧
    (∀ a : AnnounceMsg, a.timescale = false → exec (.ptpAnnounce a) s = .next s) ∧
    (∀ (a : AnnounceMsg) m, s.ptpOn a.port = true → a.timescale = true → s.eth.master = some m →
      a.priority1 < m.priority1 → (a.identity ≠ m.identity ∨ a.port ≠ m.port) → ∃ t n, exec (.ptpAnnounce a) s = .next t ∧
      t.eth = { s.eth with master := some n, good := 0, syncPending := false, delayPending := false } ∧
      n.identity = a.identity ∧ n.port = a.port ∧ Only [.eth] s t) ∧
    (∀ t1 t2, s.ptpFrom p = true →
      exec (.ptpSync p true t1 t2) s = .next { s with eth := { s.eth with syncT2 := t2, syncPending := true } } ∧
      exec (.ptpSync p false t1 t2) s = .next (s.ptpMeasure t1 t2) ∧
      (s.eth.syncPending = true → exec (.ptpFollowUp p t1) s = .next (s.ptpMeasure t1 s.eth.syncT2))) ∧
    (∀ t1 t2, (s.ptpMeasure t1 t2).eth.offset = t2 - t1 - s.eth.delay ∧
      (s.ptpMeasure t1 t2).eth.syncT1 = t1 ∧ (s.ptpMeasure t1 t2).eth.syncT2 = t2 ∧
      (1000000 < (t2 - t1 - s.eth.delay).natAbs →
        (s.ptpMeasure t1 t2).eth.stepDue = some (-(t2 - t1 - s.eth.delay)) ∧ (s.ptpMeasure t1 t2).eth.rate = s.eth.rate) ∧
      ((t2 - t1 - s.eth.delay).natAbs ≤ 1000000 → (s.ptpMeasure t1 t2).eth.stepDue = s.eth.stepDue ∧
        -500000 ≤ (s.ptpMeasure t1 t2).eth.rate ∧ (s.ptpMeasure t1 t2).eth.rate ≤ 500000) ∧
      ((t2 - t1 - s.eth.delay).natAbs ≤ 1000 → 15 ≤ s.eth.good → (s.eth.rtcState = 0 ∨ s.eth.rtcState = 2) →
        (s.ptpMeasure t1 t2).eth.rtcState = 1) ∧ Only [.eth, .freeCount] s (s.ptpMeasure t1 t2)) ∧
    (∀ t1 t2 b, s.ptpFrom p = false → exec (.ptpSync p b t1 t2) s = .next s ∧ exec (.ptpFollowUp p t1) s = .next s) ∧
    (∀ m t3, s.eth.master = some m → s.ptpOn m.port = true → exec (.delayReqTimer t3) s = .next
      { s.send (.eth m.port [0x01, 0x02]) with eth := { s.eth with delayT3 := t3, delayPending := true } }) ∧
    (∀ t3, s.eth.master = none → exec (.delayReqTimer t3) s = .next s) ∧
    (∀ t4, s.ptpFrom p = true → s.eth.delayPending = true → exec (.ptpDelayResp p t4) s = .next { s with eth := { s.eth with
      delay := Int.tdiv ((s.eth.syncT2 - s.eth.syncT1) + (t4 - s.eth.delayT3)) 2, delayPending := false } }) ∧
    (∀ t4, s.eth.delayPending = false → exec (.ptpDelayResp p t4) s = .next s) ∧
    (s.eth.rtcState = 1 → exec .ptpHoldover s = .next (({ s with eth := { s.eth with
      rtcState := 2, master := none, good := 0, syncPending := false, delayPending := false } }).raise 278 1 [])) ∧
    (s.eth.rtcState = 2 → exec .holdoverExpiry s = .next { s with eth := { s.eth with rtcState := 0 } }) ∧
    (s.eth.rtcState = 0 → exec .ptpHoldover s = .next s ∧ exec .holdoverExpiry s = .next s)

/-- R561, R562, R12, R90, R563 to R567: the TAP. A reset selects IDCODE and ends a scan hold; BYPASS, IDCODE and
SAMPLE/PRELOAD are taken at every debug level, the six scan instructions at the open level only, and what is not
permitted selects BYPASS and raises source 286. A scan instruction leaves the chip as an immediate chip reset does,
with the always-on and OTP domains alone powered. The debug access port serves aligned words within what the level
permits; a quiet read changes nothing but what is shifted out. A halt is served only where it is permitted, a release
gives the watchdog its time back, DBGEN's fall ends every halt, and a semaphore held too long is released with its
region restored. -/
def Obligations.TapAndDebugPort : Prop :=
  (∀ s : State,
    (s.dbg.scanHold = false → exec .tapReset s = .next (s.setInstr 0x02)) ∧
    (s.dbg.scanHold = true → s.power.wake.pending = none → ∃ t, exec .tapReset s = .next t ∧ t.dbg.instr = 0x02 ∧
      t.dbg.scanHold = false ∧ t.power.domains = 2 ∧ t.otp.sensed = false ∧ Only [.dbg, .power, .otp] s t) ∧
    (s.tapOn = true → exec (.bypass 0xFF) s = .next (s.setInstr 0xFF) ∧
      (∀ c, c ≠ 0xFF → tapCode c = false → exec (.bypass c) s = .next ((s.setInstr 0xFF).raise 286 1 [])) ∧
      (∀ c, tapCode c = true → exec (.bypass c) s = .next s) ∧
      exec .idcode s = .next ((s.setInstr 0x02).send (.jtag [0x5B, 0x85, 0x12, 0x28])) ∧
      (∀ cells, ∃ t d, exec (.samplePreload cells) s = .next t ∧ t.dbg.instr = 0x03 ∧ t.dbg.boundary = cells ∧
        d.length = cells.length ∧ t.sent = (s.send (.jtag d)).sent ∧ Only [.dbg, .sent, .freeCount] s t)) ∧
    (∀ i code, ((i = Instr.extest ∧ code = 0x04) ∨ (i = .intest ∧ code = 0x05) ∨ (i = .clamp ∧ code = 0x06) ∨
        (i = .highz ∧ code = 0x07) ∨ (i = .extestPulse ∧ code = 0x08) ∨ (i = .extestTrain ∧ code = 0x09)) →
      (s.tapOn = true → s.otp.debugLevel ≠ 0 → exec i s = .next ((s.setInstr 0xFF).raise 286 1 [])) ∧
      (s.dbg.scanHold = true → s.otp.debugLevel = 0 → exec i s = .next (s.setInstr code)) ∧
      (s.mode.firmware = true → s.dbg.scanHold = false → s.otp.debugLevel = 0 → ∃ t, exec i s = .next t ∧
        t.dbg.instr = code ∧ t.dbg.scanHold = true ∧ t.mode = .keep ∧ t.power.domains = 2 ^ 1 + 2 ^ 20 ∧
        t.power.pwren = 0 ∧ t.power.alive = false ∧ t.sluice.own = false ∧ t.power.wake.pending = some .chipReset ∧
        t.power.wake.pendingFrom = s.modeCode ∧ t.retained = s.retained ∧ t.log.store = s.log.cutBurst ∧
        t.otp.sensed = s.otp.sensed ∧ (∀ c, (t.chanAt c).drive = .off ∧ (t.chanAt c).pen = false))) ∧
    (s.tapOn = false → (∀ c, exec (.bypass c) s = .next s) ∧ exec .idcode s = .next s ∧ exec .extest s = .next s ∧
      ∀ cells, exec (.samplePreload cells) s = .next s)) ∧
  (∀ s : State,
    (∀ b, ∃ x : State, x.power = { s.power with dbgen := b } ∧ Only [.power] s x ∧
      (x.tapOn = false → exec (.dapacc b) s = .next x) ∧
      (x.tapOn = true → b = true → s.otp.debugLevel < 2 → exec (.dapacc b) s = .next (x.setInstr 0x10)) ∧
      (x.tapOn = true → (b = false ∨ 2 ≤ s.otp.debugLevel) →
        exec (.dapacc b) s = .next ((x.setInstr 0xFF).raise 286 1 []))) ∧
    (∀ space a, s.tapOn = true → s.dbg.instr = 0x10 → (s.power.dbgen = false ∨ 2 ≤ s.otp.debugLevel) →
      exec (.dapQuietRead space a) s = .next (s.dapRefused space a 1) ∧
      exec (.dapRead space a) s = .next (s.dapRefused space a 0) ∧
      ∀ v, exec (.dapWrite space a v) s = .next (s.dapRefused space a 2)) ∧
    (∀ space a v, s.tapOn = true → s.dbg.instr = 0x10 → s.otp.debugLevel = 1 → s.mode ≠ .service →
      exec (.dapRead space a) s = .next (s.dapRefused space a 0) ∧
      exec (.dapWrite space a v) s = .next (s.dapRefused space a 2)) ∧
    (∀ space a, s.tapOn = true → s.dbg.instr = 0x10 → s.power.dbgen = true → s.otp.debugLevel < 2 →
      ∃ t d, exec (.dapQuietRead space a) s = .next t ∧ d.length = 8 ∧ t.sent = (s.send (.jtag d)).sent ∧
        t.dbg.instr = 0x10 ∧ t.dbg.halted = s.dbg.halted ∧ t.dbg.wardenSpace = s.dbg.wardenSpace ∧
        (a % 4 = 0 → space % 2 = 0 → a < 2 ^ 24 → s.portAlive = true → s.mode.firmware = true → (s.readAll a 4).2.1 = 0 →
          d.drop 4 = leBytes 4 (leVal (s.readAll a 4).2.2) ∧ t.dbg.result.testBit 31 = false) ∧
        (a % 4 ≠ 0 → t.dbg.result.testBit 31 = true) ∧ Only [.dbg, .sent, .freeCount] s t) ∧
    (∀ a, s.tapOn = true → s.dbg.instr = 0x10 → s.debugPermits = true → s.mode.firmware = true → s.portAlive = true →
      a % 4 = 0 → a < 2 ^ 24 →
      exec (.dapRead 0 a) s = .next ((s.readAll a 4).1.dapResult 0 a 0 (decide ((s.readAll a 4).2.1 ≠ 0))
        (leVal (s.readAll a 4).2.2)) ∧
      ∀ v, v < 2 ^ 32 → exec (.dapWrite 0 a v) s = .next ((s.writeCut (a, 0, leBytes 4 v)).1.alertSettle.dapResult 0 a 2
        (decide ((s.writeCut (a, 0, leBytes 4 v)).2 ≠ 0)) v)) ∧
    (∀ a v, s.tapOn = true → s.dbg.instr = 0x10 → s.debugPermits = true → s.mode.firmware = true → a % 4 = 0 →
      a < 2 ^ 24 → ∃ t, exec (.dapWrite 1 a v) s = .next t ∧ Tab.get 0 t.dbg.wardenSpace a = v % 2 ^ 32 ∧
        t.dbg.result.testBit 31 = false ∧ Only [.dbg, .sent, .freeCount] s t) ∧
    (∀ a v space, s.dbg.instr ≠ 0x10 → exec (.dapRead space a) s = .next s ∧ exec (.dapQuietRead space a) s = .next s ∧
      exec (.dapWrite space a v) s = .next s) ∧
    (∃ x : State, exec .dbgenFall s = .next (x.flushReplies.followed) ∧ x.power = { s.power with dbgen := false } ∧
      x.dbg.halted = 0 ∧ x.boot.watchdogPaused = false ∧ Only [.power, .dbg, .boot, .faults] s x) ∧
    (∀ pair, pair < 2 → s.mode.firmware = true →
      (s.debugPermits = false → exec (.haltRequest pair) s = .next (s.raise 304 1 [byte pair])) ∧
      (s.debugPermits = true → ∃ x : State, x.dbg.halted.testBit pair = true ∧
        x.dbg.halted.testBit (1 - pair) = s.dbg.halted.testBit (1 - pair) ∧
        x.boot = { s.boot with watchdogPaused := true } ∧
        (s.mode = .service → exec (.haltRequest pair) s = .next x ∧ Only [.dbg, .boot] s x) ∧
        (s.mode ≠ .service → x.power = { s.power with alive := false } ∧
          exec (.haltRequest pair) s = .next (x.begin_ 305 1 [byte pair]) ∧ Only [.dbg, .boot, .power] s x))) ∧
    (∀ pair, pair < 2 → s.dbg.halted.testBit pair = true → s.dbg.halted.testBit (1 - pair) = true → ∃ t,
      exec (.haltRelease pair) s = .next t ∧ t.dbg.halted.testBit pair = false ∧ t.dbg.halted.testBit (1 - pair) = true ∧
      Only [.dbg] s t) ∧
    (∀ pair, pair < 2 → s.dbg.halted = 2 ^ pair → ∃ x : State, exec (.haltRelease pair) s = .next (x.flushReplies.followed) ∧
      x.dbg.halted = 0 ∧ x.boot.watchdogPaused = false ∧ (x.srcAt 305).present = false ∧
      Only [.dbg, .boot, .faults] s x) ∧
    (∀ pair, s.dbg.halted.testBit pair = false → exec (.haltRelease pair) s = .next s) ∧
    (∀ n pair, n < 32 → pair < 2 → s.mode.firmware = true → ∃ x : State, exec (.semaphoreTimeout n pair) s =
        .next (x.raise 300 1 [byte n, byte pair]) ∧
      Tab.get ({} : Semaphore) x.dbg.semaphores n = { Tab.get {} s.dbg.semaphores n with
        holder := none, region := (Tab.get {} s.dbg.semaphores n).copy, busError := true } ∧
      (∀ m, m ≠ n → Tab.get ({} : Semaphore) x.dbg.semaphores m = Tab.get {} s.dbg.semaphores m) ∧
      Only [.dbg] s x) ∧
    (∀ n pair, (32 ≤ n ∨ 2 ≤ pair ∨ s.mode.firmware = false) → exec (.semaphoreTimeout n pair) s = .next s))

/-- R172 to R176, R181, R182, R184, R185, R190, R186 to R190: a period start loads the shadow duty word, places the
sample and lays out the pulse that R172 and R174 give, or none while the channel brakes or skips; the current
comparator cuts it, after blanking and only while PWMH is high; the sink limit holds both gates low; a crossing of the
overshoot level brakes a Rail channel and truncates a Feeder channel; braking ends by a release or its time. A trip,
and FLT_N low, force a channel off, whether or not it switches; the cause is set first (`x`), the source is raised,
and with the token every phase of the output is forced off and the output stops, while a controller without the token
holds the phases forced off and tells its active. FLT_N high again ends the condition that no temperature flag holds.
OCP_PERSIST cut periods in a row set their cause and raise once. -/
def Obligations.ChannelPinsAndForcedOff : Prop :=
  (∀ (s : State) (ch : Nat) (c : Chan), ch < 128 → c = s.chanAt ch →
    (∀ above late, s.mode.firmware = true → ∃ t, exec (.periodStart ch above late) s = .next t ∧
      (t.chanAt ch).working = (if late = true then c.shadowOld else c.shadow) ∧ (t.chanAt ch).shadow = c.shadow ∧
      (t.chanAt ch).periods = c.periods + 1 ∧ (t.chanAt ch).tStart = periodStart (s.chPhase ch) (s.chPeriod ch) c.periods ∧
      (t.chanAt ch).now = 0 ∧ (t.chanAt ch).cutPrev = c.cutNow ∧ (∀ j, j ≠ ch → t.chanAt j = s.chanAt j) ∧
      (s.chanRuns ch = false → (t.chanAt ch).drive = c.drive ∧ (t.chanAt ch).sampleAt = none) ∧
      (s.chanRuns ch = true → (t.chanAt ch).sampleAt =
        if onGrid (s.chPeriod ch) (decide (s.chSlotDonor ch ≠ 255)) c.periods then some ((t.chanAt ch).tStart +
          sampleInstant (s.chSampleMode ch) (s.chSamplePos ch) (s.chPeriod ch) (s.chDtRise ch) (t.chanAt ch).tOn) else none) ∧
      (s.chanRuns ch = true → c.braking = true → (t.chanAt ch).drive = .off ∧ (t.chanAt ch).tOn = 0) ∧
      (s.chanRuns ch = true → c.braking = false → s.feeder ch = true → (above = true ∨ c.belowRelease = false) →
        (t.chanAt ch).drive = .lowOn ∧ (t.chanAt ch).tOn = 0 ∧ (t.chanAt ch).osCount = (c.osCount + 1) % 2 ^ 32) ∧
      (s.chanRuns ch = true → c.braking = false → (s.feeder ch = false ∨ (above = false ∧ c.belowRelease = true)) →
        (t.chanAt ch).tOn = min (((if late = true then c.shadowOld else c.shadow) * s.chPeriod ch + 2 ^ 19) / 2 ^ 20)
          (s.chPeriod ch - s.chDtRise ch - s.chDtFall ch) ∧
        (t.chanAt ch).drive = (if (t.chanAt ch).tOn = 0 then .lowOn else .pulse (s.chDtRise ch)
          (s.chDtRise ch + (t.chanAt ch).tOn) (s.chDtRise ch + (t.chanAt ch).tOn + s.chDtFall ch)) ∧
        (t.chanAt ch).osCount = c.osCount) ∧
      Only [.chan, .cluster] s t) ∧
    (∀ n r f l, s.chanRuns ch = true → c.drive = .pulse r f l → r + s.chLeb ch ≤ n → n < f → ∃ t,
      exec (.currentCut ch n) s = .next t ∧
      (t.chanAt ch).ocpCount = (c.ocpCount + 1) % 2 ^ 32 ∧ (t.chanAt ch).cutNow = true ∧ (t.chanAt ch).ocpRun = c.ocpRun + 1 ∧
      (t.chanAt ch).drive = .pulse r n (n + s.chDtFall ch) ∧ (∀ j, j ≠ ch → t.chanAt j = s.chanAt j) ∧
      Only [.chan, .cluster, .out] s t) ∧
    (∀ n, (s.chanRuns ch = false ∨ c.drive.high n = false ∨ s.blanked ch n = true) → exec (.currentCut ch n) s = .next s) ∧
    (∀ i n, s.chanRuns ch = true → c.drive.low n = true →
      (currentMa (currentAdc i) c.isOffset (s.chIsTransr ch) < -(s.chSinkLimit ch : Int) ∨ (currentAdc i = -2048 ∧
        -(s.chSinkLimit ch : Int) ≤ currentMa (-2048) c.isOffset (s.chIsTransr ch))) → ∃ t,
      exec (.sinkLimit ch i n) s = .next t ∧ t.chanAt ch = { c with drive := .off, now := n } ∧
      (∀ j, j ≠ ch → t.chanAt j = s.chanAt j) ∧ Only [.chan] s t) ∧
    (∀ i n, (s.chanRuns ch = false ∨ c.drive.low n = false ∨
        (-(s.chSinkLimit ch : Int) ≤ currentMa (currentAdc i) c.isOffset (s.chIsTransr ch) ∧ -2048 < currentAdc i)) →
      exec (.sinkLimit ch i n) s = .next s) ∧
    (∀ n, s.chanRuns ch = true → s.feeder ch = false → c.brakeArmed = true → c.braking = false → ∃ t,
      exec (.overshoot ch n) s = .next t ∧ (t.chanAt ch).braking = true ∧ (t.chanAt ch).brakeArmed = false ∧
      (t.chanAt ch).brakeAt = c.tStart + n ∧ (t.chanAt ch).drive = .off ∧ (t.chanAt ch).osCount = (c.osCount + 1) % 2 ^ 32 ∧
      (∀ j, j ≠ ch → t.chanAt j = s.chanAt j) ∧ Only [.chan, .cluster] s t) ∧
    (∀ n r f l, s.chanRuns ch = true → s.feeder ch = true → c.drive = .pulse r f l → r ≤ n → n < f → ∃ t,
      exec (.overshoot ch n) s = .next t ∧
      (t.chanAt ch).braking = c.braking ∧ (t.chanAt ch).belowRelease = false ∧
      (t.chanAt ch).drive = .pulse r n (n + s.chDtFall ch) ∧ (t.chanAt ch).osCount = (c.osCount + 1) % 2 ^ 32 ∧
      (∀ j, j ≠ ch → t.chanAt j = s.chanAt j) ∧ Only [.chan, .cluster] s t) ∧
    (∀ n, (s.chanRuns ch = false ∨ (s.feeder ch = true ∧ c.drive.high n = false) ∨
      (s.feeder ch = false ∧ (c.brakeArmed = false ∨ c.braking = true))) → exec (.overshoot ch n) s = .next s) ∧
    (∀ b i, s.chanRuns ch = true → c.braking = true →
      (b = true ∨ currentMa (currentAdc i) c.isOffset (s.chIsTransr ch) ≤ 0) → ∃ t, exec (.brakeRelease ch b i) s = .next t ∧
      (t.chanAt ch).braking = false ∧ (t.chanAt ch).drive = .lowOn ∧ (t.chanAt ch).brakeArmed = (b || c.brakeArmed) ∧
      (t.chanAt ch).belowRelease = (b || c.belowRelease) ∧ (∀ j, j ≠ ch → t.chanAt j = s.chanAt j) ∧ Only [.chan] s t) ∧
    (∀ i, s.chanRuns ch = true → c.braking = false → ∃ t, exec (.brakeRelease ch true i) s = .next t ∧
      t.chanAt ch = { c with brakeArmed := true, belowRelease := true } ∧ (∀ j, j ≠ ch → t.chanAt j = s.chanAt j) ∧
      Only [.chan] s t) ∧
    (∀ i, (c.braking = false ∨ 0 < currentMa (currentAdc i) c.isOffset (s.chIsTransr ch)) →
      exec (.brakeRelease ch false i) s = .next s) ∧
    (∀ n, s.chanRuns ch = true → c.braking = true → c.brakeAt + s.chBrakeMax ch * 51200 ≤ c.tStart + n → ∃ t,
      exec (.brakeTimeout ch n) s = .next t ∧ t.chanAt ch = { c with
        braking := false, drive := .lowOn, now := n, brakeTimeouts := (c.brakeTimeouts + 1) % 2 ^ 32 } ∧
      (∀ j, j ≠ ch → t.chanAt j = s.chanAt j) ∧ Only [.chan, .cluster, .retained, .freeCount] s t) ∧
    (∀ n, (s.chanRuns ch = false ∨ c.braking = false ∨ c.tStart + n < c.brakeAt + s.chBrakeMax ch * 51200) →
      exec (.brakeTimeout ch n) s = .next s) ∧
    (∀ b i, s.chanRuns ch = false → exec (.brakeRelease ch b i) s = .next s)) ∧
  (∀ (s : State) (ch : Nat) (c : Chan), ch < 128 → c = s.chanAt ch →
    (s.mode.firmware = true → s.quadrantHeld (quadrant ch) = false → c.state ≠ .test → c.state ≠ .forcedOff →
      c.state ≠ .lockedOut → ∀ k, s.outputOf ch = some k → ∃ x y : State, exec (.ovTrip ch) s = .next
        (if y.token then ((y.each (y.phases k) fun u n => u.chanTrigger n 6).phaseForced k).settle
          else (y.each (y.phases k) fun u n => u.setChan n (Chan.lowUnlessLocked .forcedOff)).peerEvent 1
            ([byte ch] ++ leBytes 2 (y.chanAt ch).cause)) ∧
      y = x.chanFault ch 2 c.thr.trip (some 0) ∧ x.chanAt ch = { c with cause := setBit c.cause 2 true } ∧
      (∀ j, j ≠ ch → x.chanAt j = s.chanAt j) ∧ Only [.chan] s x) ∧
    (s.tripActs ch = false → exec (.ovTrip ch) s = .next s) ∧
    ((s.mode.firmware = false ∨ s.outputOf ch = none ∨ c.state = .test ∨ c.state = .forcedOff ∨ c.state = .lockedOut) →
      s.tripActs ch = false) ∧
    (∀ k, s.mode.firmware = true → s.outputOf ch = some k → ∃ x y : State, exec (.fltN ch true) s = .next
        (if y.token then ((y.each (y.phases k) fun u n => u.chanTrigger n 6).phaseForced k).settle
          else (y.each (y.phases k) fun u n => u.setChan n (Chan.lowUnlessLocked .forcedOff)).peerEvent 1
            ([byte ch] ++ leBytes 2 (y.chanAt ch).cause)) ∧
      y = x.chanFault ch 1 0 (some 1) ∧ x.chanAt ch = { c with flt := true, cause := setBit c.cause 0 true } ∧
      (x.srcAt ch).present = true ∧ (∀ j, j ≠ ch → x.chanAt j = s.chanAt j) ∧ Only [.chan, .faults] s x) ∧
    (∀ k, s.mode.firmware = true → s.outputOf ch = some k → ∃ t, exec (.fltN ch false) s = .next t ∧
      t.chanAt ch = { c with flt := false } ∧
      (t.srcAt ch).present = (c.tempWarn || c.tempFault) ∧ Only [.chan, .faults, .out] s t) ∧
    (∀ b, (s.mode.firmware = false ∨ (s.outputOf ch).isNone = true) → exec (.fltN ch b) s = .next (s.setChan ch fun x =>
      { x with flt := b })) ∧
    (∀ k (x : State), (x.outAt k).live = true → ((x.phaseForced k).outAt k).state = 4 ∧
      ((x.phaseForced k).outAt k).lastStop = 7 ∧ ∀ n, n ∈ x.phases k → ((x.phaseForced k).chanAt n).drive = .off ∧
        ((x.phaseForced k).chanAt n).pen = false) ∧
    (∀ x, (Chan.lowUnlessLocked .forcedOff x).drive = .off ∧ (Chan.lowUnlessLocked .forcedOff x).pen = false ∧
      (Chan.lowUnlessLocked .forcedOff x).state = if x.state = .lockedOut then .lockedOut else .forcedOff) ∧
    (s.chanRuns ch = true → s.chOcpPersist ch ≠ 0 → s.chOcpPersist ch ≤ c.ocpRun → c.ocpRaised = false → ∃ x : State,
      exec (.ocpPersist ch) s = .next (x.chanFault ch 5 c.thr.current (some 2)) ∧
      x.chanAt ch = { c with cause := setBit c.cause 3 true, ocpRaised := true } ∧
      (∀ j, j ≠ ch → x.chanAt j = s.chanAt j) ∧ Only [.chan] s x) ∧
    ((s.chanRuns ch = false ∨ s.chOcpPersist ch = 0 ∨ c.ocpRun < s.chOcpPersist ch ∨ c.ocpRaised = true) →
      exec (.ocpPersist ch) s = .next s))

/-- R246, R252, R255, R260 to R264: the scanner converts its next slot, holds the nearest code and, for a supervised
output, runs the filter counter. A complete count shuts the output down with the token, and is only reported without
it; the temperature levels warn, trip and find failed sensors, phase by phase; two failing self-checks withhold
verdicts until two good ones. -/
def Obligations.ScannerRows : Prop :=
  ∀ s : State,
    (∀ v : Int, scannerCode v ≤ 4095 ∧ (v < 0 → scannerCode v = 0) ∧ (4095 * 93750000 < v * 256 → scannerCode v = 4095) ∧
      (0 ≤ v → v * 256 ≤ 4095 * 93750000 → 2 * ((scannerCode v : Int) * 93750000 - v * 256).natAbs ≤ 93750000)) ∧
    (s.scanning = true → s.scan.slot < 512 → ∀ v code, code = scannerCode v → ∃ t, exec (.scannerSlot v) s = .next t ∧
      t.scan.slot = (s.scan.slot + 1) % 512 ∧ t.scan.total = s.scan.total + 1 ∧
      ((s.scan.slot < 340 ∨ s.scan.slot = 356 ∨ s.scan.slot = 357) → Tab.get 0 t.scan.codes s.scan.slot = code) ∧
      (340 ≤ s.scan.slot → s.scan.slot < 356 → Tab.get 0 t.scan.codes s.scan.slot =
        if s.scan.slot - 340 < ((upto 32).filter fun k => decide (s.shuntEnable k = 1)).length then code else 0) ∧
      (∀ n, n ≠ s.scan.slot → Tab.get 0 t.scan.codes n = Tab.get 0 s.scan.codes n) ∧
      (∀ k, firstN (fun j => decide (s.lead j = s.scan.slot)) s.enabledOuts = some k → s.scan.slot < 128 →
        (s.outAt k).judged = true → s.verdicts = true → (t.outAt k).supvCount =
          if (s.outAt k).highCode < code ∨ ((s.outAt k).state = 3 ∧ code < (s.outAt k).lowCode)
          then (s.outAt k).supvCount + 1 else 0) ∧
      (s.scan.slot = 356 → t.scan.gndBad = decide (5 < code)) ∧
      (s.scan.slot = 357 → s.scan.gndBad = false → 3265 ≤ code → code ≤ 3289 →
        t.scan.badRun = 0 ∧ t.scan.goodRun = s.scan.goodRun + 1) ∧
      (s.scan.slot = 357 → (s.scan.gndBad = true ∨ code < 3265 ∨ 3289 < code) →
        t.scan.badRun = s.scan.badRun + 1 ∧ t.scan.goodRun = 0) ∧ Only [.scan, .out, .gauge, .faults, .chan] s t) ∧
    (s.scanning = false → ∀ v, exec (.scannerSlot v) s = .next s) ∧
    (∀ k, s.outEnable k = 1 → (s.outAt k).judged = true → s.outFilterCount k ≤ (s.outAt k).supvCount → s.verdicts = true →
      s.scanning = true →
      (s.token = true → ∃ t, exec (.scannerShutdown k) s = .next t ∧ (t.outAt k).state = 4 ∧ (t.outAt k).lastStop = 2 ∧
        (∀ c, c ∈ t.phases k → (t.chanAt c).drive = .off ∧ (t.chanAt c).pen = false)) ∧
      (s.token = false → ∃ x : State, exec (.scannerShutdown k) s = .next (x.peerEvent 2 ([byte k] ++
          leBytes 2 (Tab.get 0 s.scan.codes (s.lead k)) ++ leBytes 2 (s.outAt k).lowCode ++ leBytes 2 (s.outAt k).highCode)) ∧
        x.outAt k = { s.outAt k with supvCount := 0, tmpCount := 0 } ∧ Only [.out] s x)) ∧
    (∀ k, ((s.outAt k).supvCount < s.outFilterCount k ∨ (s.outAt k).judged = false ∨ s.verdicts = false) →
      exec (.scannerShutdown k) s = .next s) ∧
    (∀ k, s.outEnable k = 1 → (s.outAt k).judged = true → s.verdicts = true → s.scanning = true →
      (s.outFilterCount k ≤ (s.outAt k).tmpWarnCount → ∃ (x t : State),
        exec (.temperatureLevel k 0) s = .next t ∧ t = x.tmpEvent k 8 Chan.tempWarn tmpWarn ∧
        x.outAt k = { s.outAt k with tmpWarnCount := 0 } ∧ Only [.out] s x ∧
        ∀ c, c ∈ s.phases k → tmpWarn (s.tmpCode c) = true → (t.chanAt c).tempWarn = true) ∧
      (s.outFilterCount k ≤ (s.outAt k).tmpCount → ∀ c, firstN (fun c => tmpTrip (Tab.get 0 s.scan.codes (128 + c)))
        (s.phases k) = some c → s.token = true → ∃ t, exec (.temperatureLevel k 1) s = .next t ∧ (t.outAt k).state = 4 ∧
        (t.outAt k).lastStop = 2 ∧ ∀ c, c ∈ t.phases k → (t.chanAt c).drive = .off ∧ (t.chanAt c).pen = false) ∧
      (s.outFilterCount k ≤ (s.outAt k).tmpBadCount → ∃ (x t : State),
        exec (.temperatureLevel k 2) s = .next t ∧ t = x.tmpEvent k 9 Chan.tempFault tmpBad ∧
        x.outAt k = { s.outAt k with tmpBadCount := 0 } ∧ Only [.out] s x ∧
        ∀ c, c ∈ s.phases k → tmpBad (s.tmpCode c) = true → (t.chanAt c).tempFault = true)) ∧
    (∀ k l, (s.outAt k).judged = false → exec (.temperatureLevel k l) s = .next s) ∧
    (s.scan.withheld = false → 2 ≤ s.scan.badRun → ∃ x : State, exec (.scannerSelfCheck false) s =
      .next (x.begin_ 308 1 []) ∧ x.scan = { s.scan with withheld := true } ∧ Only [.scan] s x) ∧
    (s.scan.withheld = true → 2 ≤ s.scan.goodRun → ∃ t, exec (.scannerSelfCheck true) s = .next t ∧
      t.scan = { s.scan with withheld := false } ∧ (t.srcAt 308).present = false ∧ Only [.scan, .faults] s t) ∧
    (∀ b, (b = false → s.scan.withheld = true ∨ s.scan.badRun < 2) → (b = true → s.scan.withheld = false ∨ s.scan.goodRun < 2) →
      exec (.scannerSelfCheck b) s = .next s)

/-- R177, R198 to R212, R220, R276, R280: a due sample is taken at its instant, deferred where the engine's last
sample is too near, and evaluated, or waits for one of the same instant before it in slot order. An evaluated sample
of a lead, accepted, runs the control law, the profile and the levels with the coefficients in force, and writes the
duty words; a rejected one changes neither the compensator nor the duty. Every evaluation is counted. The 10 µs
accumulation takes the phase means and power estimates of its cluster's outputs, sums the polders, and clamps one
above its share. -/
def Obligations.LoopRows : Prop :=
  ∀ (s : State) (ch k : Nat),
    (∀ vsp vsn isp isn ns, s.evaluates ch = false → exec (.loopEvaluation ch vsp vsn isp isn ns) s = .next s) ∧
    (∀ vsp vsn isp isn ns t0 at_, s.outputOf ch = some k → s.evaluates ch = true → (s.chanAt ch).sampleAt = some t0 →
      (s.engineAt ch).ready = [] →
      at_ = deferred t0 (match (s.engineAt ch).last with
        | some (c, n0, a0) => if c = ch then none else some (n0, a0)
        | none => none) →
      (∀ c, c / 4 = ch / 4 → c ≠ ch → s.evaluates c = true → (s.chanAt c).sampleAt = some t0 → s.rankOf ch < s.rankOf c) →
      ∃ x : State, exec (.loopEvaluation ch vsp vsn isp isn ns) s = .next (x.evaluate k ch
          (errorRaw (s.chanAt ch).refCode (vsp - vsn)) (currentAdc (isp - isn)) ((at_ + 16) / 32) (at_ - t0) ns) ∧
        x.chanAt ch = { s.chanAt ch with sampleAt := none } ∧ (∀ j, j ≠ ch → x.chanAt j = s.chanAt j) ∧
        (x.engineAt ch).last = some (ch, t0, at_) ∧ (x.engineAt ch).slot = s.slotOf ch ∧ Only [.chan, .cluster] s x) ∧
    (∀ vsp vsn isp isn ns t0 c, s.evaluates ch = true → (s.chanAt ch).sampleAt = some t0 → (s.engineAt ch).ready = [] →
      c / 4 = ch / 4 → c ≠ ch → s.evaluates c = true → (s.chanAt c).sampleAt = some t0 → s.rankOf c ≤ s.rankOf ch →
      ∃ t, exec (.loopEvaluation ch vsp vsn isp isn ns) s = .next t ∧
        (t.engineAt ch).ready = [{ at_ := t0, ch := ch, v := vsp - vsn, i := isp - isn, gaspNs := ns }] ∧ Only [.cluster] s t) ∧
    (∀ code cur ts sh ns, ch ≠ s.lead k → Tab.get none s.sluice.fix ch = none → ∃ t : State,
      t = s.evaluate k ch code cur ts sh ns ∧
      (t.chanAt ch).duty = (clampI (s.coef ch).dMin (s.coef ch).dMax
        (sar ((s.outAt k).comp.u + (s.chanAt ch).share + 1024) 11 + (s.outAt k).ident.chip)).toNat ∧
      (t.chanAt ch).shadow = (t.chanAt ch).duty ∧ (t.chanAt ch).shadowOld = (s.chanAt ch).shadow ∧
      (t.chanAt ch).evalCount = ((s.chanAt ch).evalCount + 1) % 2 ^ 32 ∧ t.outAt k = s.outAt k ∧
      (∀ j, j ≠ ch → t.chanAt j = s.chanAt j) ∧ Only [.chan, .cluster, .faults] s t) ∧
    (∀ code cur ts sh ns y r, ch = s.lead k → y = s.swapBanks k →
      Tab.get none s.sluice.fix ch = none → Tab.get none s.sluice.fixOut k = none → -512 ≤ code → code ≤ 511 →
      (∀ n, n ∈ s.phases k → bit (s.chanAt n).cause 5 = true ∨
        refCodeRaw ((y.profileStep k ns).vsp k) (s.chVsRatio n) ≤ 65535) →
      r = compEval (y.coef ch) ((y.coef ch).gain code) code (s.cutOf k)
        { ist := (s.outAt k).comp.ist, dst := (s.outAt k).comp.dst, u := (s.outAt k).comp.u
          ePrev := if (s.outAt k).comp.first then code else (s.outAt k).comp.ePrev } →
      ∃ x : State, s.evaluate k ch code cur ts sh ns = x.profileArrival k ∧
      (x.outAt k).comp.ist = r.1.ist ∧ (x.outAt k).comp.dst = r.1.dst ∧ (x.outAt k).comp.u = r.1.u ∧
      (x.outAt k).comp.ePrev = code ∧ (x.outAt k).comp.rejRun = 0 ∧
      (x.outAt k).prof = ((y.profileStep k ns).outAt k).prof ∧
      ((s.outAt k).ident.inj = false → (s.outAt k).ident.startAt = none → (x.chanAt ch).duty =
        (clampI (y.coef ch).dMin (y.coef ch).dMax (sar (r.1.u + (s.chanAt ch).share + 1024) 11)).toNat) ∧
      (x.chanAt ch).shadow = (x.chanAt ch).duty ∧
      (x.chanAt ch).evalCount = ((s.chanAt ch).evalCount + 1) % 2 ^ 32 ∧ Only [.chan, .out, .cluster, .faults] s x) ∧
    (∀ code cur ts sh ns y, ch = s.lead k → y = s.swapBanks k →
      Tab.get none s.sluice.fix ch = none → Tab.get none s.sluice.fixOut k = none → (code < -512 ∨ 511 < code) →
      (s.outAt k).comp.rejRun < (y.coef ch).rejectCount → (y.coef ch).rejectCount ≤ 255 →
      ∃ x : State, s.evaluate k ch code cur ts sh ns = x ∧
      (x.outAt k).comp = { (s.outAt k).comp with rejRun := (s.outAt k).comp.rejRun + 1 } ∧
      (x.outAt k).prof = (s.outAt k).prof ∧
      (x.chanAt ch).duty = (s.chanAt ch).duty ∧ (x.chanAt ch).shadow = (s.chanAt ch).shadow ∧
      (x.chanAt ch).rejectTotal = ((s.chanAt ch).rejectTotal + 1) % 2 ^ 32 ∧
      (x.chanAt ch).evalCount = ((s.chanAt ch).evalCount + 1) % 2 ^ 32 ∧ Only [.chan, .out, .cluster, .faults] s x) ∧
    (∀ c : Chan, (c.swapDue = true → c.swap.bank = !c.bank ∧ c.swap.swapDue = false) ∧ (c.swapDue = false → c.swap = c) ∧
      c.coef = if c.bank = true then c.bank1 else c.bank0) ∧
    (∀ cl, s.mode.firmware = true → cl < 4 → s.held cl = false → (s.token = true ∨ s.shadowing = true) →
      (∀ q, s.polCeiling q = 0) → ∃ t, exec (.freeboardAccumulation cl) s = .next t ∧
      (∀ c, (s.chanAt c).curCount ≠ 0 → (∃ j, j ∈ s.outsOfCluster cl ∧ c ∈ s.phases j) →
        (t.chanAt c).curMean = tdiv (s.chanAt c).curSum (s.chanAt c).curCount ∧ (t.chanAt c).curCount = 0) ∧
      (∀ c, (∀ j, j ∈ s.outsOfCluster cl → c ∉ s.phases j) → t.chanAt c = s.chanAt c) ∧
      (∀ j, j ∉ s.outsOfCluster cl → t.outAt j = s.outAt j) ∧
      (∀ j, j ≠ cl → t.clusterAt j = s.clusterAt j) ∧ Only [.chan, .out, .cluster] s t) ∧
    (∀ cl, (4 ≤ cl ∨ s.mode.firmware = false ∨ s.held cl = true) → exec (.freeboardAccumulation cl) s = .next s) ∧
    (∀ cl q share, s.mode.firmware = true → cl < 4 → s.held cl = false → (s.token = true ∨ s.shadowing = true) →
      s.enabledPolders = [q] → s.polCeiling q ≠ 0 → share = Tab.get 0 (s.clusterAt cl).share q → ∃ (y : State) (sum : Int),
      Only [.chan, .out, .cluster] s y ∧ Tab.get 0 (y.clusterAt cl).lastSum q = sum ∧
      sum = sumI (((y.outsOfCluster cl).filter fun j => decide (y.outPolder j = q)).map fun j => (y.outAt j).eLast) ∧
      (sum ≤ (share : Int) → exec (.freeboardAccumulation cl) s = .next y) ∧
      ((share : Int) < sum → exec (.freeboardAccumulation cl) s = .next (y.clampPolder cl q share sum))) ∧
    (∀ cl q share sum j, j ∈ s.outsOfCluster cl → s.outPolder j = q →
      ch ∈ s.phases j → ∃ m, ((s.clampPolder cl q share sum).chanAt ch).clamp = some m ∧
        m ≤ clampOf (s.chOcpLimit ch) (s.chanAt ch).curMean share sum.toNat)

/-- R28, R70, R71, R429, R559, R143, R147, R274, R275, R298, R319, R384, R389, R504, R525: a tide boundary before the
release of the tide generator changes nothing. The first one after it latches no contribution and sets the extended
epoch to the later of the RTC in ms and the successor of the last time mark; every later one latches the contributions
of the tide that ends, tagged with its epoch, and advances the epoch by one. The RTC moves on by the tide from the
last boundary. Facts of what the tide that begins does then are stated elsewhere. What a waiting order does at the
tide boundary, before its answer (`x`). An order whose mode no longer serves it is answered WRONG_MODE and does
nothing. -/
def Obligations.TideBoundaryTurnsAndOrdersAct : Prop :=
  (∀ (s : State) (raws : List Int) (ovr clk gap hot : Nat) (mdio : List (Option Nat)),
    ((s.clocks.tideReleased = false ∨ s.mode.firmware = false) →
      exec (.tideBoundary raws ovr clk gap hot mdio) s = .next s) ∧
    (s.clocks.tideReleased = true → s.mode.firmware = true → ∃ y x : State, y = (s.readMdio mdio).endTide raws ovr clk ∧
      exec (.tideBoundary raws ovr clk gap hot mdio) s =
        .next (x.beginTide (s.readMdio mdio).staleOuts hot s.ext (!s.clocks.running)) ∧
      x.clocks.running = true ∧ x.clocks.epoch < 2 ^ 32 ∧
      (s.clocks.running = true → x.ext = (s.ext + 1) % 2 ^ 64 ∧ x.ledger.epoch = s.ext ∧ x.ledger.open_ = true ∧
        x.ledger.arrived = 0 ∧ x.latchView = y.viewOf s.ext ∧
        x.faults.latchWin.epoch = s.ext % 2 ^ 32 ∧
        x.retained.rtcNs = max s.retained.rtcNs (((s.clocks.tideNs : Int) + s.clocks.tideCycles * 20 +
          tdiv (s.clocks.tideCycles * 20 * y.eth.rate) 1000000000).toNat % 2 ^ 64)) ∧
      (s.clocks.running = false → x.ledger = s.ledger ∧ x.latchView = s.latchView ∧
        x.retained.rtcNs = max s.retained.rtcNs (((s.retained.rtcNs : Int) + (s.clocks.tideCycles * 20 + gap) +
          tdiv ((s.clocks.tideCycles * 20 + gap) * y.eth.rate) 1000000000).toNat % 2 ^ 64) ∧
        (y.log.epochMark = 0 ∨ y.log.unbacked = true → x.ext = x.retained.rtcNs / 1000000 % 2 ^ 64) ∧
        (y.log.epochMark ≠ 0 → y.log.unbacked = false →
          x.ext = max (x.retained.rtcNs / 1000000) (y.log.epochMark + 1) % 2 ^ 64)) ∧
      x.mode = y.mode ∧ x.faults.raised = [] ∧ x.sluice.strobe = 49 ∧
      (∀ c, (x.chanAt c).tide = {}) ∧ x.pending = s.pending ∧
      Only [.clocks, .power, .gauge, .chan, .cluster, .out, .faults, .sluice, .desc, .ledger, .latchView, .retained,
        .freeCount] y x)) ∧
  (∀ (s : State) (mb ses : Nat),
    (∀ w r, w = s.request mb → orderRow w.order = some r → r.served s = false → ∀ what, what ≠ WaitKind.commitBoundary →
      s.boundaryOrder { mailbox := mb, session := ses, what := what } = s.finish mb .wrongMode []) ∧
    (∀ ns, ∃ x : State, s.takeEffect { mailbox := mb, session := ses, what := .timeSet ns } = x.finish mb .ok [] ∧
      x.retained = { s.retained with rtcNs := ns } ∧ (s.retained.rtcNs ≤ ns → x.log = s.log) ∧
      (ns < s.retained.rtcNs → x.log.offers.length = s.log.offers.length + 1) ∧
      Only [.retained, .log, .power, .gauge] s x) ∧
    (∀ l, modesEdit.contains s.mode = true → ∃ x : State,
      s.takeEffect { mailbox := mb, session := ses, what := .objSet l } = x.finish mb .ok [byte l.length, 0, 0, 0] ∧
      x = s.changeDescription (applyEntries s.desc.committed l) fun _ => false) ∧
    (∀ m, (∃ k, k < 128 ∧ m.testBit k = true ∧ (s.outAt k).state = 6) →
      s.takeEffect { mailbox := mb, session := ses, what := .chanStart m } = s.finish mb .locked []) ∧
    (∀ m, s.power.longPress = false → (∀ k, k < 128 → m.testBit k = true → (s.outAt k).state ≠ 6) → ∃ (x : State) (held : Nat),
      s.takeEffect { mailbox := mb, session := ses, what := .chanStart m } = x.finish mb .ok (leBytes 16 held) ∧
      (∀ k, held.testBit k = (decide (k < 128) && m.testBit k && decide ((s.outAt k).state = 4))) ∧
      (∀ k, k < 128 → (x.outAt k).wanted = (m.testBit k || (s.outAt k).wanted)) ∧ Only [.out] s x) ∧
    (∀ m how, ∃ (x : State) (d : Bytes), s.takeEffect { mailbox := mb, session := ses, what := .chanStop m how } =
        x.finish mb .ok d ∧ (∀ k, k < 128 → m.testBit k = true → s.outEnable k = 1 → (x.outAt k).wanted = false) ∧
      (∀ k, k < 128 → m.testBit k = true → s.outEnable k = 1 → how ≠ 0 → (s.outAt k).live = true →
        (x.outAt k).state = 0 ∧ ∀ c, c ∈ s.phases k → (x.chanAt c).drive = .off ∧ (x.chanAt c).pen = false) ∧ Only [.out, .chan, .log] s x) ∧
    (∀ m, ∃ (x : State) (d : Bytes), s.takeEffect { mailbox := mb, session := ses, what := .chanClear m } = x.finish mb .ok d ∧
      (∀ k, k < 128 → m.testBit k = true → (s.outAt k).state = 4 → (x.outAt k).state = 0 ∨ (x.outAt k).state = 1) ∧
      Only [.out, .chan, .log] s x) ∧
    (∀ m, ∃ (x : State) (d : Bytes), s.takeEffect { mailbox := mb, session := ses, what := .budgetShed m } = x.finish mb .ok d ∧
      (∀ q, q < 32 → m.testBit q = true → (x.polderAt q).causes.testBit 2 = true) ∧
      Only [.out, .chan, .log, .polder, .budget] s x) ∧
    (∀ m, ∃ (x : State) (d : Bytes), s.takeEffect { mailbox := mb, session := ses, what := .budgetRestore m } =
        x.finish mb .ok d ∧ (∀ q, q < 32 → m.testBit q = true → (x.polderAt q).causes.testBit 2 = false) ∧
      Only [.out, .log, .polder, .budget] s x) ∧
    (∀ m, s.withdrawable m = false → s.takeEffect { mailbox := mb, session := ses, what := .rectWithdraw m 0 } =
      s.finish mb .locked []) ∧
    (∀ m, s.withdrawable m = true → ∃ (x : State) (d : Bytes),
      s.takeEffect { mailbox := mb, session := ses, what := .rectWithdraw m 0 } = x.finish mb .ok d ∧
      (∀ k, k < 40 → x.rectAt k = if m.testBit k then { s.rectAt k with withdrawn := true, state := 6, opDue := some 0x00 }
        else s.rectAt k) ∧ Only [.rect] s x) ∧
    (∀ m, ∃ x : State, s.takeEffect { mailbox := mb, session := ses, what := .rectForget m } = x.finish mb .ok [] ∧
      (∀ k, k < 40 → x.rectAt k = if m.testBit k
        then { s.rectAt k with eff := [], samples := [], onlineS := 0, onlineTides := 0 } else s.rectAt k) ∧
      Only [.rect] s x) ∧
    (∃ x : State, s.takeEffect { mailbox := mb, session := ses, what := .gaugeWake } = x.finish mb .ok [] ∧
      x.gauge.hib = false ∧ Only [.gauge] s x) ∧
    (∀ k, (s.outAt k).ident.applied = 3 → s.takeEffect { mailbox := mb, session := ses, what := .chanApply k } =
      s.finish mb .gone []) ∧
    (∀ k, (s.outAt k).ident.applied ≠ 3 → (s.outAt k).ident.applyDue = 1 → s.announcesFirst k = false → ∃ x : State,
      s.takeEffect { mailbox := mb, session := ses, what := .chanApply k } = x.finish mb .ok (leBytes 4 s.clocks.epoch) ∧
      (x.outAt k).ident.applied = 1 ∧ (x.outAt k).ident.applyDue = 0 ∧ x.pending = s.pending) ∧
    (∀ k, (s.outAt k).ident.applied ≠ 3 → (s.outAt k).ident.applyDue = 1 → s.announcesFirst k = true → ∃ t,
      s.takeEffect { mailbox := mb, session := ses, what := .chanApply k } = t ∧ (t.outAt k).ident.announced = true ∧
      t.desc = s.desc ∧ t.host = s.host ∧ Only [.out, .waiting] s t))

/-- A step of a block: the command at the front of the queue runs on the state with the queue's rest; on an empty
queue the block idles (the model's choice, log entry 2). -/
def Obligations.StepRunsFrontCommand : Prop :=
  (∀ (c : Instr) (s : State) (rest : List Instr), s.pending = c :: rest →
    step s = exec c { s with pending := rest }) ∧
  (∀ (c : Instr) (s : State), step { s with pending := c :: s.pending } = exec c s) ∧
  (∀ s : State, s.pending = [] → step s = .next s)

/-- R41, R53, R70, R190, R294, R590: the machine right after a power-on reset. It is in Keep with the always-on domain
alone, every enable, gate, PEN, ALIVE, HRDY and SLUICE_OWN low, the tide generator stopped and nothing retained. It
meets the invariants that every step keeps. (Which of the values the spec leaves open is in log entry 3.) -/
def Obligations.ResetStateValues : Prop :=
  State.reset.mode = .keep ∧ State.reset.power.domains = 2 ∧ State.reset.power.pwren = 0 ∧
  State.reset.power.alive = false ∧ State.reset.host.hrdy = false ∧ State.reset.sluice.own = false ∧
  State.reset.token = false ∧ State.reset.clocks.running = false ∧ State.reset.clocks.tideReleased = false ∧
  State.reset.retained.rtcNs = 0 ∧ State.reset.waiting = [] ∧ State.reset.pending = [] ∧ State.reset.sent = [] ∧
  (∀ c, (State.reset.chanAt c).drive = .off ∧ (State.reset.chanAt c).pen = false) ∧
  (∀ k, (State.reset.outAt k).state = 0) ∧ (∀ n, (State.reset.mbAt n).busy = false ∧ (State.reset.mbAt n).done = false) ∧
  (∀ n, (State.reset.srcAt n).pending = false) ∧ (∀ a, memRead State.reset.host.ram a = 0) ∧ State.reset.canonical = true

/-- The table of commands: every command answers a next state, from every state, and leaves the queue of waiting
commands alone. Nothing is refused and nothing stops the block. -/
def Obligations.EveryCommandCompletes : Prop :=
  ∀ (c : Instr) (s : State), ∃ t, exec c s = .next t ∧ t.pending = s.pending

/-- The mailboxes, the user RAM and the TW0 buffer keep their canonical form under every step: equal contents are
equal data. -/
def Obligations.CanonicalMemoriesKept : Prop :=
 Kept fun s => s.canonical = true

/-- R174: a pulse that would not fit with its dead times is shortened to PERIOD − DT_RISE − DT_FALL; with T_ON 0 PWML
stays high and PWMH low; and whatever the command, no step leaves a channel with a waveform in which both gates are
high at some instant. -/
def Obligations.GatesNeverBothHigh : Prop :=
  (∀ d p r f : Nat, p < r + (d * p + 2 ^ 19) / 2 ^ 20 + f → onTimeLimited d p r f = p - r - f) ∧
  (∀ d p r f : Nat, r + (d * p + 2 ^ 19) / 2 ^ 20 + f ≤ p → onTimeLimited d p r f = (d * p + 2 ^ 19) / 2 ^ 20) ∧
  (∀ (s : State) (ch : Nat), ch < 128 → s.mode.firmware = true → s.token = true → s.chanRuns ch = true →
    s.feeder ch = false → (s.chanAt ch).braking = false →
    onTimeLimited (s.chanAt ch).shadow (s.chPeriod ch) (s.chDtRise ch) (s.chDtFall ch) = 0 → ∃ t,
      exec (.periodStart ch false false) s = .next t ∧
        ∀ n, (t.chanAt ch).drive.high n = false ∧ (t.chanAt ch).drive.low n = true) ∧
  Kept fun s => ∀ ch n, ¬((s.chanAt ch).drive.high n = true ∧ (s.chanAt ch).drive.low n = true)

/-- R10: a is later than b when (a − b) mod 2^32 lies from 1 to 2^31 − 1; otherwise it is not later. The values are
equal when the difference is 0. -/
def Obligations.SerialComparison : Prop :=
  ∀ a b : Nat, a < 2 ^ 32 → b < 2 ^ 32 →
    (later32 a b = true ↔ 1 ≤ (a + 2 ^ 32 - b) % 2 ^ 32 ∧ (a + 2 ^ 32 - b) % 2 ^ 32 ≤ 2 ^ 31 - 1) ∧
    (geq32 a b = true ↔ later32 a b = true ∨ a = b) ∧ (a = b ↔ (a + 2 ^ 32 - b) % 2 ^ 32 = 0) ∧
    ((a + 2 ^ 32 - b) % 2 ^ 32 = 2 ^ 31 → later32 a b = false ∧ later32 b a = false)

/-- R180: the cluster writes the code min(1,023, round(I_LIM × IS_TRANSR / 1,000 / 146.484 375)) at every evaluation
of a channel, I_LIM being the limit in force then, the least of R17's three. (1,000 × 146.484 375 is 9,375,000 / 64.)
-/
def Obligations.CurrentComparatorCode : Prop :=
  ∀ (s : State) (ch k : Nat) (code cur : Int) (ts sh ns : Nat), s.outputOf ch = some k → ∃ x : State,
      (s.evaluate k ch code cur ts sh ns = x ∨ s.evaluate k ch code cur ts sh ns = x.profileArrival k) ∧
      (x.chanAt ch).thr.current =
        min 1023 ((s.currentLimit ch * s.chIsTransr ch * 64 + 4687500) / 9375000) ∧
      s.currentLimit ch ≤ s.chOcpLimit ch ∧ (∀ c, (s.chanAt ch).clamp = some c → s.currentLimit ch ≤ c) ∧
      (∀ c, (s.outAt k).cap = some c → s.currentLimit ch ≤ c) ∧
      (s.currentLimit ch = s.chOcpLimit ch ∨ (s.chanAt ch).clamp = some (s.currentLimit ch) ∨
        (s.outAt k).cap = some (s.currentLimit ch))

/-- R446: the fabric freeboard is ALLOWANCE − L_s, held to the s32 range (R278), and 0x7FFF_FFFF while no allowance
applies. -/
def Obligations.FabricFreeboardValue : Prop :=
  ∀ s : State, (s.fabricTerm = none → s.fabricFreeboard = 0x7FFFFFFF) ∧
    (∀ a, s.fabricTerm = some a → -(2 ^ 31) ≤ (a : Int) - s.budget.load → (a : Int) - s.budget.load < 2 ^ 31 →
      s.fabricFreeboard = (a : Int) - s.budget.load)

/-- R120, R122: an order row acts only on the oldest accepted request, in the warden's order. Of several statuses the
first of R122 that applies is answered, with nothing else changed: length and flags, session and privilege, feature
set, generation, mode. Some orders ask for more privilege, or for a feature, by what their payload names (`p`, `f`).
-/
def Obligations.OrderStatusPriority : Prop :=
  ∀ (i : Instr) (code mb : Nat), IsOrder i code mb → ∀ s : State,
    (s.host.orders.head? ≠ some mb → exec i s = .next s) ∧ (s.wardenRuns = false → exec i s = .next s) ∧
    ((s.request mb).order ≠ code → exec i s = .next s) ∧
    (∀ r, s.host.orders.head? = some mb → s.wardenRuns = true → (s.request mb).order = code → orderRow code = some r →
      ((496 < (s.request mb).len ∨ 4 ≤ (s.request mb).flags) → exec i s = .next (s.answer mb .badArg [])) ∧
      ((s.request mb).len ≤ 496 → (s.request mb).flags < 4 →
        (s.sessionOk (s.request mb) r = false → exec i s = .next (s.answer mb .privilege [])) ∧
        (s.sessionOk (s.request mb) r = true → ∃ p f : Bool,
          (code = 0x0101 → p = mayOpen (s.request mb) s) ∧ (code = 0x0104 → p = mayInstall (s.request mb) s) ∧
          ((code = 0x0B04 ∨ code = 0x0C07) → p = decide ((s.request mb).transport = 1)) ∧
          (code = 0x1102 → p = mayStepBack (s.request mb) s) ∧
          (code ∉ [0x0101, 0x0104, 0x0B04, 0x0C07, 0x1102] → p = true) ∧
          (code = 0x0302 → f = mayWrite (s.request mb) s) ∧
          ((code = 0x0702 ∨ code = 0x0704) → f = mayName (s.request mb) s) ∧
          (code ∉ [0x0302, 0x0702, 0x0704] → f = true) ∧
          (p = false → exec i s = .next (s.answer mb .privilege [])) ∧
          (p = true → (f = false ∨ (r.feats.all fun n => bit (s.request mb).feats n) = false) →
            exec i s = .next (s.answer mb .notNegotiated [])) ∧
          (p = true → f = true → (r.feats.all fun n => bit (s.request mb).feats n) = true →
            ((s.request mb).flags.testBit 0 = true → geq32 s.sluice.generation (s.request mb).minGen = false →
              exec i s = .next (s.answer mb .staleGeneration [])) ∧
            (((s.request mb).flags.testBit 0 = false ∨ geq32 s.sluice.generation (s.request mb).minGen = true) →
              r.served s = false → exec i s = .next (s.answer mb .wrongMode []))))))

/-- R122, R501: a request whose LENGTH differs from its layout's, or with a non-zero RSV byte, is answered BAD_ARG and
changes nothing. The orders whose layout is checked before any other status of their own, with their length and RSV
bytes; then those that another status of R122 precedes, with the condition under which it does not apply. -/
def Obligations.BadLayoutAnsweredBadArg : Prop :=
  ∀ (s : State) (mb : Nat), (∀ e ∈ (
     [(.sessionProve mb, 0x0102, 32, []), (.sessionClose mb, 0x0103, 0, []), (.featOffer mb, 0x0105, 16, []),
      (.modeGet mb, 0x0201, 0, []), (.modeSet mb, 0x0202, 4, [(1, 3)]), (.objValidate mb, 0x0304, 0, []),
      (.objExport mb, 0x0308, 8, [(6, 2)]), (.chanUnlock mb, 0x0401, 4, [(1, 3)]),
      (.chanIdresult mb, 0x0403, 4, [(2, 2)]), (.chanIdabort mb, 0x0405, 4, [(1, 3)]),
      (.chanStart mb, 0x0406, 16, []), (.chanStop mb, 0x0407, 20, [(17, 3)]), (.chanClear mb, 0x0408, 16, []),
      (.chanSeqstatus mb, 0x0409, 0, []), (.chanScanread mb, 0x040A, 4, [(1, 3)]), (.traceStatus mb, 0x0504, 0, []),
      (.traceRead mb, 0x0505, 8, [(1, 1), (5, 3)]), (.traceCapsule mb, 0x0506, 8, [(6, 2)]),
      (.budgetStatus mb, 0x0601, 0, []), (.budgetShed mb, 0x0602, 4, []), (.budgetRestore mb, 0x0603, 4, []),
      (.rectStatus mb, 0x0701, 0, []), (.tideStatus mb, 0x0801, 0, []), (.tideNodes mb, 0x0802, 4, [(1, 3)]),
      (.tideRootinstall mb, 0x0803, 16, []), (.tideEvict mb, 0x0804, 4, [(1, 3)]),
      (.gaugeStatus mb, 0x0901, 4, [(1, 3)]), (.gaugeProberesult mb, 0x0903, 4, [(1, 3)]),
      (.gaugeAbort mb, 0x0904, 0, []), (.gaugeWake mb, 0x0905, 0, []), (.gaugeReseed mb, 0x0906, 8, [(5, 3)]),
      (.sluiceStatus mb, 0x0A01, 0, []), (.sluiceResume mb, 0x0A04, 4, [(1, 3)]),
      (.sluiceCompare mb, 0x0A05, 4, [(1, 3)]), (.ledgerStatus mb, 0x0B01, 0, []),
      (.ledgerRead mb, 0x0B02, 12, [(5, 1)]), (.ledgerUnsubscribe mb, 0x0B05, 4, [(1, 3)]),
      (.logStatus mb, 0x0C01, 0, []), (.logRead mb, 0x0C02, 12, [(9, 3)]), (.logVerify mb, 0x0C03, 12, [(10, 2)]),
      (.logClear mb, 0x0C05, 8, []), (.logFormat mb, 0x0C06, 8, [(4, 4)]), (.logUnsubscribe mb, 0x0C08, 4, [(1, 3)]),
      (.logCapsules mb, 0x0C09, 4, [(1, 3)]), (.faultStatus mb, 0x0D01, 0, []), (.faultRead mb, 0x0D02, 4, [(3, 1)]),
      (.faultAck mb, 0x0D03, 40, []), (.faultEcc mb, 0x0D04, 4, [(1, 3)]), (.faultClearcount mb, 0x0D05, 40, []),
      (.twStatus mb, 0x0E01, 0, []), (.otpRead mb, 0x0F01, 4, [(2, 2)]), (.fwStatus mb, 0x1001, 0, []),
      (.timeGet mb, 0x1101, 0, []), (.svcReset mb, 0x1201, 8, [(4, 4)])] :
      List (Instr × Nat × Nat × List (Nat × Nat))),
    s.starts e.2.1 mb → (s.request mb).lay e.2.2.1 e.2.2.2 = false → exec e.1 s = .next (s.answer mb .badArg [])) ∧
   (∀ e ∈ (
     [(.sluiceYield mb, 0x0A02, 4, [(0, 4)], s.token), (.fabricStatus mb, 0x0B03, 0, [], s.member),
      (.rectRotate mb, 0x0703, 0, [], !s.rotationWaits),
      (.svcBlockreset mb, 0x1202, 4, [(1, 3)], !decide ((s.request mb).u 0 1 < 16) || s.blockPowered ((s.request mb).u 0 1)),
      (.sessionKeyinstall mb, 0x0104, 20, [(1, 3)], mayInstall (s.request mb) s),
      (.timeSet mb, 0x1102, 8, [], mayStepBack (s.request mb) s),
      (.rectWithdraw mb, 0x0702, 16, [(9, 7)], mayName (s.request mb) s),
      (.rectForget mb, 0x0704, 8, [], mayName (s.request mb) s)] :
      List (Instr × Nat × Nat × List (Nat × Nat) × Bool)),
    s.starts e.2.1 mb → e.2.2.2.2 = true → (s.request mb).lay e.2.2.1 e.2.2.2.1 = false →
      exec e.1 s = .next (s.answer mb .badArg []))

/-- R45, R47, R53, R75, R124 to R127, R465, R561: commands that complete with their own effect, each named with its
conditions. The orders of the logbook that read, and the session orders, answer OK; a session, a proof and a lockout
that end, end. The wake events, the failures of a wake attempt and the reset causes named here begin what they begin.
Each scan instruction is taken at the open debug level. -/
def Obligations.NamedCommandsComplete : Prop :=
  ∀ (s : State) (mb : Nat) (q : Req), q = s.request mb →
    (s.log.loading = true → ∃ t, exec .loadComplete s = .next t ∧ t.log.loading = false) ∧
    (s.starts 0x0C01 mb → q.lay 0 [] = true → ∃ d : Bytes, d.length = 40 ∧ exec (.logStatus mb) s = .next (s.answer mb .ok d)) ∧
    (s.starts 0x0C02 mb → q.lay 12 [(9, 3)] = true → 1 ≤ q.u 8 1 → q.u 8 1 ≤ 7 → ∃ (x : State) (d : Bytes),
      exec (.logRead mb) s = .next ((x.reply q .ok d).followed)) ∧
    (s.starts 0x0C09 mb → q.lay 4 [(1, 3)] = true → q.u 0 1 ≤ 7 → ∃ d : Bytes,
      exec (.logCapsules mb) s = .next (s.answer mb .ok d)) ∧
    (s.starts 0x0101 mb → q.lay 8 [(4, 4)] = true → q.u 1 1 = 0 → q.u 0 1 ≤ 1 → q.u 2 2 ≤ 3600 → q.transport ≠ 1 →
      s.host.keyLocked.testBit 0 = false → s.openSessions.length < 16 → ∃ (x : State) (d : Bytes),
      exec (.sessionOpen mb) s = .next ((x.reply q .ok d).followed) ∧ (x.sesAt s.host.nextSession).state = .openS) ∧
    (s.starts 0x0102 mb → q.lay 32 [] = true → s.testFailed 1 = false → ∀ k, s.sessionKey (s.sesAt q.session).keyId = some k →
      proofTag k 1 q.session (s.sesAt q.session).nonce (slice q.payload 0 16) = slice q.payload 16 16 →
      ∃ (x : State) (d : Bytes), exec (.sessionProve mb) s = .next ((x.reply q .ok d).followed) ∧
        (x.sesAt q.session).state = .openS) ∧
    (s.starts 0x0103 mb → q.lay 0 [] = true → exec (.sessionClose mb) s =
      .next (((s.taken.reply q .ok []).endSession q.session).followed)) ∧
    (s.starts 0x0104 mb → q.lay 20 [(1, 3)] = true → q.transport = 0 → s.secretLocked [0, 2] = false → q.u 0 1 = 1 →
      2 ≤ (s.sesAt q.session).privilege → exec (.sessionKeyinstall mb) s =
        .next (s.holds mb (.keyInstall 1 (beVal (slice q.payload 4 16))))) ∧
    (s.starts 0x0105 mb → q.lay 16 [] = true → (q.u 0 16).testBit 0 = true → ∃ (x : State) (d : Bytes),
      exec (.featOffer mb) s = .next ((x.reply q .ok d).followed) ∧ (x.sesAt q.session).offered = true) ∧
    (∀ n, (s.sesAt n).state = .proving → exec (.proofTimeout n) s = .next (s.endSession n)) ∧
    (∀ n, (s.sesAt n).state ≠ .closed → (∀ m, m < 16 → (s.mbAt m).busy = false) → s.anyHalted = false →
      exec (.sessionIdleExpiry n) s = .next (s.endSession n)) ∧
    (∀ n, ∃ t, exec (.keyLockoutEnd n) s = .next t ∧ t.host.keyLocked.testBit n = false) ∧
    (s.retained.alarmNs ≠ 0 → s.mode.asleep = true → s.mode ≠ .stranded → s.retained.wakeEnable.testBit 3 = true →
      s.power.wake.phase = .idle → s.power.wake.pending = none → s.power.resetN = true → ∃ t, exec .rtcAlarm s = .next t ∧
        t.retained.alarmNs = 0 ∧ t.power.wake.phase = .waitPg 0 ∧ t.power.pwren = 1 ∧ t.power.ret.source = 8) ∧
    (s.power.ret.attempts < 4 →
      (∀ n ns, n < 4 → s.power.wake.phase = .waitPg n → ∃ t, exec (.pgTimeout n ns) s = .next t ∧
        t.power.wake.phase = .spacing ∧ t.power.pwren = 0 ∧ t.power.ret.code = n + 1) ∧
      (∀ ns, s.power.wake.crystalOn = true → s.power.wake.crystalReady = false → ∃ t, exec (.crystalTimeout ns) s = .next t ∧
        t.power.wake.phase = .spacing ∧ t.power.pwren = 0 ∧ t.power.ret.code = 5)) ∧
    (s.mode.firmware = true → s.mode ≠ .lastGasp → s.power.chipReset = none →
      (∀ n, ∃ t, exec (.pgLost n) s = .next t ∧ t.mode = .keep ∧ t.power.pwren = 0 ∧ t.power.cause.cause = 3 ∧
        t.power.wake.pending = some .chipReset) ∧
      (s.power.wake.phase = .idle → ∃ t, exec .resetNLow s = .next t ∧ t.mode = .keep ∧ t.power.pwren = 0 ∧
        t.power.cause.cause = 1 ∧ t.power.wake.pending = some .chipReset) ∧
      (∀ m, s.power.armed.testBit m = true → s.monitorPowered m = true → m ≠ 20 → ∃ t, exec (.supplyReset m) s = .next t ∧
        t.mode = .keep ∧ t.power.pwren = 0 ∧ t.power.cause.cause = 2 ∧ t.power.wake.pending = some .chipReset)) ∧
    (s.dbg.scanHold = true → s.otp.debugLevel = 0 → exec .extest s = .next (s.setInstr 0x04) ∧
      exec .intest s = .next (s.setInstr 0x05) ∧ exec .clamp s = .next (s.setInstr 0x06) ∧
      exec .highz s = .next (s.setInstr 0x07) ∧ exec .extestPulse s = .next (s.setInstr 0x08) ∧
      exec .extestTrain s = .next (s.setInstr 0x09)) ∧
    (s.mode.firmware = true → s.dbg.scanHold = false → s.otp.debugLevel = 0 →
      (∃ t, exec .extest s = .next t ∧ t.dbg.instr = 0x04 ∧ t.dbg.scanHold = true) ∧
      (∃ t, exec .intest s = .next t ∧ t.dbg.instr = 0x05 ∧ t.dbg.scanHold = true) ∧
      (∃ t, exec .clamp s = .next t ∧ t.dbg.instr = 0x06 ∧ t.dbg.scanHold = true) ∧
      (∃ t, exec .highz s = .next t ∧ t.dbg.instr = 0x07 ∧ t.dbg.scanHold = true) ∧
      (∃ t, exec .extestPulse s = .next t ∧ t.dbg.instr = 0x08 ∧ t.dbg.scanHold = true) ∧
      (∃ t, exec .extestTrain s = .next t ∧ t.dbg.instr = 0x09 ∧ t.dbg.scanHold = true))

/-- R21, R119 step 4, R123, R128, R129, R411: a response. It fills the response half of its mailbox, header and
payload padded with zeros (the padding is the model's choice, log entry 13), and only then is MB_BUSY cleared and
MB_DONE set; over Ethernet it is sent as a datagram and the mailbox is free. No other mailbox and no other byte
changes. A response is held while the warden is halted, and one to an operate order after a claim, until the
generation record is flushed. -/
def Obligations.ResponseFillsItsHalf : Prop :=
  ∀ (s : State) (q : Req) (st : Status) (payload : Bytes), q.mb < 16 → payload.length ≤ 496 →
    (st ≠ Status.busy ∨ s.host.busyRun < 99) →
    (s.anyHalted = false → (s.sluice.genHeld = false ∨ s.operateOrder q.mb = false) → ∃ t, s.reply q st payload = t ∧
      memReadN t.host.ram (mbBase q.mb + 0x200) 512 =
        padTo 512 (s.responseBytes (s.request q.mb) st payload s.clocks.epoch) ∧
      (∀ a, (a < mbBase q.mb + 0x200 ∨ mbBase q.mb + 0x400 ≤ a) → memRead t.host.ram a = memRead s.host.ram a) ∧
      (∀ m, m ≠ q.mb → t.mbAt m = s.mbAt m) ∧ t.host.user = s.host.user ∧
      ((s.mbAt q.mb).owner ≠ .ethernet → (t.mbAt q.mb).busy = false ∧ (t.mbAt q.mb).done = true ∧ t.sent = s.sent ∧
        (t.mbAt q.mb).quiet = bit (s.request q.mb).flags 1) ∧
      ((s.mbAt q.mb).owner = .ethernet → (t.mbAt q.mb).busy = false ∧ (t.mbAt q.mb).done = false ∧
        (t.mbAt q.mb).owner = .free) ∧ Only [.host, .tw, .sent] s t) ∧
    ((s.anyHalted = true ∨ (s.sluice.genHeld = true ∧ s.operateOrder q.mb = true)) → s.host.busyRun < 100 → ∃ t, s.reply q st payload = t ∧
      t.sluice.heldReplies = s.sluice.heldReplies ++
        [{ mailbox := q.mb, status := st.code, payload := payload, epoch := s.clocks.epoch }] ∧ Only [.sluice] s t)
end

