-- ==== Sys2Proof/Machine/Balls.lean ====
section
/-! DEFINITION. The levels at the signal balls (R580, R582, R584) as functions of the state: a ball's level is what its bank,
its domain and its block give, so none of them is stored twice. -/
namespace Sys2Proof.Machine

/-- What a ball shows between two commands. -/
inductive Level where
  | low | high
  /-- high impedance: undriven, or an input -/
  | highZ
  /-- electrical idle of a powered lane -/
  | idle
  /-- an open-drain output that does not pull low -/
  | released
  /-- driven with a signal of its block: a clock, a square wave, a frame -/
  | signal
  deriving DecidableEq, Repr

/-- The I/O banks of Table 22-7 that switch with a regulator enable, and AON. -/
inductive Bank where
  | aon | a | b | tl | serdes
  deriving DecidableEq, Repr

/-- Signal balls of Table 22-8 whose state is the TRN8128's. -/
inductive Ball where
  | pwmh (ch : Nat) | pwml (ch : Nat) | pen (ch : Nat)
  | sluiceOwn | shed (n : Nat) | gpio (n : Nat)
  | twLine (port : Nat) | tw0AlertN
  | hpIo | hirqN | hrdy
  | spSck | spCs0N | spCs1N | spIo | spRstN | spWpN
  | tdo | mdc | mdio | clkout
  | alive | pwren (n : Nat)
  | tlTxen | tlCplen
  | laneTx (lane : Nat)
  deriving DecidableEq, Repr

/-- The bank of a ball (Table 22-7). -/
def Ball.bank : Ball → Bank
  | .pwmh _ | .pwml _ | .pen _ | .sluiceOwn | .shed _ | .gpio _ => .a
  | .twLine p => if p = 0 then .aon else .a
  | .tw0AlertN | .alive | .pwren _ => .aon
  | .hpIo | .hirqN | .hrdy | .spSck | .spCs0N | .spCs1N | .spIo | .spRstN | .spWpN | .tdo | .mdc | .mdio | .clkout => .b
  | .tlTxen | .tlCplen => .tl
  | .laneTx _ => .serdes

/-- Is a bank's supply present (Table 2-4)? AON is, in every mode but Off. (DEDUCED, log 77) -/
def State.bankOn (s : State) : Bank → Bool
  | .aon => decide (s.mode ≠ .off)
  | .a | .b => decide (s.mode ≠ .off) && bit s.power.pwren 3
  | .tl => decide (s.mode ≠ .off) && bit s.power.pwren 1
  | .serdes => decide (s.mode ≠ .off) && bit s.power.pwren 2

/-- The domain of a lane's SerDes group (Table 2-3). -/
def laneDomain (lane : Nat) : Nat := if lane < 4 then 15 else if lane < 6 then 16 else 17

/-- Does an order wait on a write of CS0 (R147, R522, R527), or is one due that no order waits on (R99, R149, R155)? -/
def State.cs0Writing (s : State) : Bool :=
  s.desc.appliedPending ≠ [] || !s.boot.writes.isEmpty || (s.waiting.any fun w => match w.what with
    | .commitStore | .commitApplied | .keyInstall _ _ | .fwWrite _ _ _ | .fwCommit _ | .rootInstall _ => true
    | _ => false)

/-- A push-pull output. -/
def pushPull (b : Bool) : Level := if b then .high else .low

/-- An open-drain output that pulls low. -/
def openDrain (low : Bool) : Level := if low then .low else .released

/-- The level of a ball whose bank is supplied (Table 22-8): an unpowered domain has left its block in the reset state. (DEDUCED, log 77) -/
def State.driven (s : State) : Ball → Level
  | .pwmh k => pushPull (s.chanAt k).pwmh
  | .pwml k => pushPull (s.chanAt k).pwml
  | .pen k => pushPull (s.chanAt k).pen
  | .sluiceOwn => pushPull s.sluice.own
  | .shed n => pushPull (bit s.budget.shedPins n)
  | .gpio _ | .hpIo | .spIo | .tdo => .highZ
  | .twLine p => if (s.twAt p).running then .signal else .released
  | .tw0AlertN => openDrain s.tw0Alert
  | .hirqN => openDrain s.hirq
  | .hrdy => pushPull s.host.hrdy
  | .spSck => .low
  | .spCs0N | .spCs1N => .high
  | .spRstN => pushPull (s.domain 18 && !(s.mode = .boot && s.boot.step = 2))
  | .spWpN => pushPull (s.domain 18 && s.cs0Writing)
  | .clkout => if s.clocks.clkout then .signal else .low
  | .alive => if s.power.alive then .signal else .low
  | .pwren n => pushPull (bit s.power.pwren n)
  | .mdc => if s.domain 16 then .signal else .low
  | .mdio => if s.domain 16 then .signal else .released
  | .tlTxen => if s.tideSends then .signal else .low
  | .tlCplen => pushPull (s.domain 14)
  | .laneTx l =>
    if !s.domain (laneDomain l) then .highZ
    else if 6 ≤ l ∧ bit s.peerLanes (l - 6) = false then .idle
    else .signal

/-- The level of a ball (R582): without its bank's supply it is in high impedance, and so is every ball in Off. (DEDUCED, log 77) -/
def State.ball (s : State) (b : Ball) : Level := if s.bankOn b.bank then s.driven b else .highZ

end Sys2Proof.Machine
end

