-- ==== Sys2Proof/WellFormed.lean ====
section
/-! DEFINITION. Well-formed commands: every index a command names lies in its range of Table 0-7, every register
address in 24 bits, every code in its width. -/
namespace Sys2Proof

/-- A command whose operands lie in the ranges the spec gives them. (DESIGN CHOICE, log 1) -/
def Instr.wf : Instr → Bool
  | .write addr _ => decide (addr < 2 ^ 24)
  | .read addr _ => decide (addr < 2 ^ 24)
  | .quietRead addr _ => decide (addr < 2 ^ 24)
  | .status => true
  | .unknownCommand code => decide (code < 256)
  | .mbDoorbell n => decide (n < 16)
  | .mbDone n => decide (n < 16)
  | .irqStatusClear mask => decide (mask < 2 ^ 32)
  | .resetCauseClear value => decide (value < 2 ^ 32)
  | .cursorLo value => decide (value < 2 ^ 32)
  | .cursorHi value => decide (value < 2 ^ 32)
  | .loadComplete => true
  | .next => true
  | .readCursorWrite value => decide (value < 2 ^ 32)
  | .registerWrite addr _ => decide (addr < 2 ^ 24)
  | .sessionOpen mb => decide (mb < 16)
  | .sessionProve mb => decide (mb < 16)
  | .sessionClose mb => decide (mb < 16)
  | .sessionKeyinstall mb => decide (mb < 16)
  | .featOffer mb => decide (mb < 16)
  | .modeGet mb => decide (mb < 16)
  | .modeSet mb => decide (mb < 16)
  | .objGet mb => decide (mb < 16)
  | .objSet mb => decide (mb < 16)
  | .objBegin mb => decide (mb < 16)
  | .objValidate mb => decide (mb < 16)
  | .objCommit mb => decide (mb < 16)
  | .objAbort mb => decide (mb < 16)
  | .objLoad mb => decide (mb < 16)
  | .objExport mb => decide (mb < 16)
  | .chanUnlock mb => decide (mb < 16)
  | .chanIdent mb => decide (mb < 16)
  | .chanIdresult mb => decide (mb < 16)
  | .chanApply mb => decide (mb < 16)
  | .chanIdabort mb => decide (mb < 16)
  | .chanStart mb => decide (mb < 16)
  | .chanStop mb => decide (mb < 16)
  | .chanClear mb => decide (mb < 16)
  | .chanSeqstatus mb => decide (mb < 16)
  | .chanScanread mb => decide (mb < 16)
  | .traceSetup mb => decide (mb < 16)
  | .traceArm mb => decide (mb < 16)
  | .traceTrigger mb => decide (mb < 16)
  | .traceStatus mb => decide (mb < 16)
  | .traceRead mb => decide (mb < 16)
  | .traceCapsule mb => decide (mb < 16)
  | .budgetStatus mb => decide (mb < 16)
  | .budgetShed mb => decide (mb < 16)
  | .budgetRestore mb => decide (mb < 16)
  | .rectStatus mb => decide (mb < 16)
  | .rectWithdraw mb => decide (mb < 16)
  | .rectRotate mb => decide (mb < 16)
  | .rectForget mb => decide (mb < 16)
  | .tideStatus mb => decide (mb < 16)
  | .tideNodes mb => decide (mb < 16)
  | .tideRootinstall mb => decide (mb < 16)
  | .tideEvict mb => decide (mb < 16)
  | .gaugeStatus mb => decide (mb < 16)
  | .gaugeProbe mb => decide (mb < 16)
  | .gaugeProberesult mb => decide (mb < 16)
  | .gaugeAbort mb => decide (mb < 16)
  | .gaugeWake mb => decide (mb < 16)
  | .gaugeReseed mb => decide (mb < 16)
  | .sluiceStatus mb => decide (mb < 16)
  | .sluiceYield mb => decide (mb < 16)
  | .sluiceWithdraw mb => decide (mb < 16)
  | .sluiceResume mb => decide (mb < 16)
  | .sluiceCompare mb => decide (mb < 16)
  | .ledgerStatus mb => decide (mb < 16)
  | .ledgerRead mb => decide (mb < 16)
  | .fabricStatus mb => decide (mb < 16)
  | .ledgerSubscribe mb => decide (mb < 16)
  | .ledgerUnsubscribe mb => decide (mb < 16)
  | .logStatus mb => decide (mb < 16)
  | .logRead mb => decide (mb < 16)
  | .logVerify mb => decide (mb < 16)
  | .logNote mb => decide (mb < 16)
  | .logClear mb => decide (mb < 16)
  | .logFormat mb => decide (mb < 16)
  | .logSubscribe mb => decide (mb < 16)
  | .logUnsubscribe mb => decide (mb < 16)
  | .logCapsules mb => decide (mb < 16)
  | .faultStatus mb => decide (mb < 16)
  | .faultRead mb => decide (mb < 16)
  | .faultAck mb => decide (mb < 16)
  | .faultEcc mb => decide (mb < 16)
  | .faultClearcount mb => decide (mb < 16)
  | .twStatus mb => decide (mb < 16)
  | .twTransfer mb => decide (mb < 16)
  | .otpRead mb => decide (mb < 16)
  | .otpProgram mb => decide (mb < 16)
  | .otpLifecycle mb => decide (mb < 16)
  | .fwStatus mb => decide (mb < 16)
  | .fwWrite mb => decide (mb < 16)
  | .fwCommit mb => decide (mb < 16)
  | .timeGet mb => decide (mb < 16)
  | .timeSet mb => decide (mb < 16)
  | .svcReset mb => decide (mb < 16)
  | .svcBlockreset mb => decide (mb < 16)
  | .svcResetStart _ => true
  | .mailboxDatagram port _ => decide (4 ≤ port) && decide (port ≤ 5)
  | .neighborSolicitation port _ => decide (4 ≤ port) && decide (port ≤ 5)
  | .echoRequest port _ => decide (4 ≤ port) && decide (port ≤ 5)
  | .ethLinkUp port => decide (4 ≤ port) && decide (port ≤ 5)
  | .ethLinkDown port => decide (4 ≤ port) && decide (port ≤ 5)
  | .ptpAnnounce _ => true
  | .ptpSync port _ _ _ => decide (4 ≤ port) && decide (port ≤ 5)
  | .ptpDelayResp port _ => decide (4 ≤ port) && decide (port ≤ 5)
  | .delayReqTimer _ => true
  | .ptpHoldover => true
  | .holdoverExpiry => true
  | .vaonRise => true
  | .vaonReset => true
  | .wakeNLow => true
  | .pbNPress _ _ => true
  | .pbNRelease _ => true
  | .longPress => true
  | .longPressForceOff => true
  | .longPressPowerDown _ => true
  | .rtcAlarm => true
  | .inuvRecover => true
  | .gaugeComparatorWake str _ => decide (str < 32)
  | .pgGood n banks33 => decide (n < 4) && decide (banks33 < 4)
  | .pgTimeout n _ => decide (n < 4)
  | .crystalReady => true
  | .crystalTimeout _ => true
  | .domainSwitchOn => true
  | .internalResetRelease _ => true
  | .wakeRetry => true
  | .pgLost n => decide (n < 4)
  | .resetNLow => true
  | .resetNRelease => true
  | .orderlyResetProceed _ => true
  | .chipResetWake => true
  | .watchdogExpiry => true
  | .inuvTrip _ _ => true
  | .lastGaspRampEnd => true
  | .lastGaspComplete _ => true
  | .supplyWarning mon _ => decide (mon < 23)
  | .braceEnd _ => true
  | .supplyReset mon => decide (mon < 23)
  | .monitorArm mon => decide (mon < 23)
  | .referenceCrystalLoss => true
  | .holdoverTimeout => true
  | .rtcCrystalLoss => true
  | .pllLossOfLock pll => decide (pll < 12)
  | .rcOutOfRange _ => true
  | .otpSenseComplete => true
  | .memoryInitComplete => true
  | .flashResetDone _ _ _ => true
  | .imageChecked slot _ _ => decide (slot < 2)
  | .imageStart => true
  | .bootRomUncorrectable _ => true
  | .mount _ _ _ => true
  | .configureEntry _ => true
  | .tideBoundary _ _ _ _ _ _ => true
  | .wardenHeartbeatMissed => true
  | .contribution index _ _ => decide (index < 19)
  | .sealDeadline => true
  | .beaconCycleStart _ _ _ _ _ _ => true
  | .mirrorStrobe _ => true
  | .loopEvaluation ch _ _ _ _ _ => decide (ch < 128)
  | .periodStart ch _ _ => decide (ch < 128)
  | .currentCut ch _ => decide (ch < 128)
  | .sinkLimit ch _ _ => decide (ch < 128)
  | .overshoot ch _ => decide (ch < 128)
  | .brakeRelease ch _ _ => decide (ch < 128)
  | .brakeTimeout ch _ => decide (ch < 128)
  | .ovTrip ch => decide (ch < 128)
  | .fltN ch _ => decide (ch < 128)
  | .ocpPersist ch => decide (ch < 128)
  | .freeboardAccumulation cl => decide (cl < 4)
  | .startDelayExpiry out _ => decide (out < 128)
  | .hsTestTrip ch => decide (ch < 128)
  | .hsTestEnd out samples => decide (out < 128) && (samples.all fun l => decide (l.length = 256))
  | .riseDeadlineExpiry out => decide (out < 128)
  | .scannerSlot _ => true
  | .scannerShutdown out => decide (out < 128)
  | .temperatureLevel out level => decide (out < 128) && decide (level < 3)
  | .scannerSelfCheck _ => true
  | .restartClearance out _ => decide (out < 128)
  | .triesRestore out => decide (out < 128)
  | .identSchedule out => decide (out < 128)
  | .identRunEnd out => decide (out < 128)
  | .captureFrozen cl => decide (cl < 4)
  | .crossTrigger cl src => decide (cl < 4) && decide (src < 4)
  | .holdSExpiry cl => decide (cl < 4)
  | .capsulePending cl => decide (cl < 4)
  | .capsuleStage cl => decide (cl < 4)
  | .recordStage => true
  | .burstComplete _ => true
  | .unflushedTimeout => true
  | .faultEvent source event _ => decide (source < 320) && decide (event < 256)
  | .blockResetRelease block _ => decide (block < 16)
  | .scrubTick _ => true
  | .mergeCommit _ word => decide (word < 2 ^ 20)
  | .semaphoreTimeout n pair => decide (n < 16) && decide (pair < 2)
  | .sessionIdleExpiry _ => true
  | .proofTimeout _ => true
  | .keyLockoutEnd key => decide (key < 4)
  | .gaugeCycle => true
  | .hibernationEntry _ => true
  | .stringInsertion str => decide (str < 32)
  | .stringRemoval str => decide (str < 32)
  | .probeSchedule => true
  | .probeFrequencyEnd => true
  | .runtimePrediction => true
  | .deficitShed => true
  | .deficitClear => true
  | .runtimeCauseClear => true
  | .park => true
  | .rotation => true
  | .unparkTimeout rect => decide (rect < 40)
  | .stagingRecord => true
  | .twWindow port _ => decide (1 ≤ port) && decide (port ≤ 7)
  | .twTransactionEnd port _ _ _ => decide (1 ≤ port) && decide (port ≤ 7)
  | .smbusTimeout port => decide (port < 8)
  | .arbitrationLost port _ _ => decide (1 ≤ port) && decide (port ≤ 7)
  | .alertResponse port => decide (port < 8)
  | .targetStatus port _ => decide (port < 8)
  | .ident port _ => decide (port < 8)
  | .resetCause _ => true
  | .retention _ => true
  | .wakeEnable _ => true
  | .wake _ _ => true
  | .live port _ => decide (4 ≤ port) && decide (port ≤ 5)
  | .mbOffset _ _ => true
  | .mbWrite _ _ => true
  | .mbGo _ _ => true
  | .mbState _ => true
  | .mbRead _ => true
  | .mbRelease _ _ => true
  | .responderWake => true
  | .responderSleep => true
  | .slotFrame slot _ _ => decide (slot < 2)
  | .joinReq _ => true
  | .joinVoid node => decide (1 ≤ node) && decide (node ≤ 126)
  | .tidelineEvent _ => true
  | .commonAlarm _ => true
  | .nodeAlarm _ => true
  | .strangerClear => true
  | .lostSleeper node => decide (1 ≤ node) && decide (node ≤ 126)
  | .wideBeaconEnd => true
  | .sleeperFree node => decide (1 ≤ node) && decide (node ≤ 126)
  | .controllerQuietEnd => true
  | .partnerHello lane _ _ _ => decide (6 ≤ lane) && decide (lane ≤ 7)
  | .helloTimer => true
  | .mirror _ => true
  | .partnerSummary _ => true
  | .super _ _ => true
  | .handover _ => true
  | .challenge _ => true
  | .result _ => true
  | .challengeTimeout => true
  | .knownAnswerTest cl _ => decide (cl < 4)
  | .selfTestTimer => true
  | .partnerEvent _ => true
  | .desc _ => true
  | .ack _ => true
  | .commitAckTimeout => true
  | .idstart _ => true
  | .snapshotFrame _ => true
  | .allowanceRelay _ => true
  | .partnerLaneUp lane => decide (6 ≤ lane) && decide (lane ≤ 7)
  | .partnerLaneDown lane => decide (6 ≤ lane) && decide (lane ≤ 7)
  | .peerPresence _ => true
  | .claimRaise _ => true
  | .claimSample _ => true
  | .claimBackoffEnd _ => true
  | .claimTimeout => true
  | .sluicePeerFall _ => true
  | .tokenConflict => true
  | .overlapCutoff => true
  | .fabricHello lane _ _ => decide (lane < 4)
  | .fabricHelloTimer _ => true
  | .fabricLaneDown lane => decide (lane < 4)
  | .syncSend _ => true
  | .sync lane _ _ _ => decide (lane < 4)
  | .delayReq lane _ _ => decide (lane < 4)
  | .delayResp lane _ => decide (lane < 4)
  | .rootElection => true
  | .recordOriginate => true
  | .fabricSummary lane _ => decide (lane < 4)
  | .full lane _ => decide (lane < 4)
  | .rowSumStage => true
  | .rowsum _ _ => true
  | .rootAllocate => true
  | .rowalloc _ _ => true
  | .rowAllocate => true
  | .memalloc _ _ => true
  | .allowanceHold => true
  | .fabricSeal _ => true
  | .tapReset => true
  | .bypass _ => true
  | .idcode => true
  | .samplePreload _ => true
  | .extest => true
  | .intest => true
  | .clamp => true
  | .highz => true
  | .extestPulse => true
  | .extestTrain => true
  | .dapacc _ => true
  | .dapRead _ _ => true
  | .dapQuietRead _ _ => true
  | .dapWrite _ _ value => decide (value < 2 ^ 32)
  | .haltRequest pair => decide (pair < 2)
  | .haltRelease pair => decide (pair < 2)
  | .dbgenFall => true
  | .referenceCrystalRestored => true
  | .rtcCrystalRestored => true
  | .ptpFollowUp port _ => decide (4 ≤ port) && decide (port ≤ 5)
  | .externalWriteComplete mb _ _ _ => decide (mb < 19)
  | .externalWriteTimeout mb => decide (mb < 18)
  | .responderReady => true
  | .duplicateAddressDetectionEnd port _ => decide (4 ≤ port) && decide (port ≤ 5)

end Sys2Proof
end

