-- ==== Sys2Proof/Tests/Slice0.lean ====
section
/-! SUPPORT. Tests of the model and witnesses of the statements: small states built by helpers, ill-formed commands that the
checks of WellFormed.lean refuse, the spec's worked examples, published vectors of the algorithms, and for each statement
with hypotheses states and operands that meet them. -/
set_option synthInstance.maxSize 4000
set_option Elab.async false
open Sys2Proof Sys2Proof.Machine
namespace Sys2Proof.Tests

/-! ### Helpers -/

/-- A small state: mode `m`, every domain on, the token as `own`, the partner absent as `pres`. -/
def tBase (m : Mode) (own pres : Bool) : State :=
  { ({} : State) with
    power.mode := m, power.fromMode := .run, power.domains := 0xFFFFF, boot.step := 7, clocks.running := true
    sluice.own := own, sluice.presN := pres, otp.lifecycle := 2, otp.secretKey := some 0 }
/-- Description entries (class, index, code, value) as the committed description. -/
def tDesc (l : List (Nat × Nat × Nat × Int)) : Tab (Option Int) := l.map fun e => (fieldKey e.1 e.2.1 e.2.2.1, some e.2.2.2)
/-- `s` with an accepted request of order `code` and payload `p` in mailbox 0, from session 1 open with every feature. -/
def tOrder (code : Nat) (p : Bytes) (w : Owner) (s : State) (session : Nat := 1) (st : SessState := .openS) (flags minGen : Nat := 0) : State :=
  { s with
    host.ram := memWriteN [] 0 (leBytes 2 code ++ leBytes 2 flags ++ leBytes 2 7 ++ leBytes 2 p.length ++ leBytes 4 session ++ leBytes 4 minGen ++ p)
    host.orders := [0]
    host.mb := [(0, { busy := true, owner := w, feats := 2 ^ 40 - 1 })]
    host.sessions := [(1, { state := st, privilege := 2, transport := w.transport, features := 2 ^ 40 - 1 })] }
/-- The request of mailbox 0 names session 0. -/
def tNoSession (s : State) : State := { s with host.ram := memWriteN s.host.ram 8 [0] }
/-- Session 1 is proving with key 1. -/
def tProving (s : State) : State := { s with host.sessions := [(1, { state := .proving, privilege := 1, keyId := 1 })] }
/-- Bytes in the NOR from offset `o` upward. -/
def tImage (o : Nat) : Bytes → Tab Nat
  | [] => []
  | b :: r => (if b = 255 then [] else [(o, b.toNat)]) ++ tImage (o + 1) r
/-- A valid copy of the slot table with the state bytes of both slots. -/
def tTable (a b : Nat) : SlotTable :=
  let t : SlotTable := { magic := 0x4C534645, version := 1, stateA := a, stateB := b }
  { t with crc := crc32c t.body }
/-- A partner frame of TYPE `t`, SEQ `seq` and body `b`. -/
def tPeer (t seq : Nat) (b : Bytes) : Bytes :=
  let h := [byte t, byte seq] ++ leBytes 2 b.length ++ zeros 4 ++ b
  h ++ leBytes 4 (crc32c h)
theorem crcSteps_lt (n r : Nat) (h : r < 2 ^ 32) : crcSteps n r < 2 ^ 32 := by
  induction n generalizing r with
  | zero => exact h
  | succ n ih =>
    refine ih _ ?_
    split
    · exact Nat.xor_lt_two_pow (by omega) (by decide)
    · omega
theorem crcFrom_lt (l : Bytes) (r : Nat) (h : r < 2 ^ 32) : crcFrom r l < 2 ^ 32 := by
  induction l generalizing r with
  | nil => exact h
  | cons b l ih =>
    refine ih _ (crcSteps_lt 8 _ (Nat.xor_lt_two_pow h ?_))
    have := b.isLt; omega
theorem leVal_leBytes_four (v : Nat) (h : v < 2 ^ 32) : leVal (leBytes 4 v) = v := by
  simp only [leBytes, leVal, byte, BitVec.toNat_ofNat]; omega
theorem leVal_leBytes_two (v : Nat) (h : v < 2 ^ 16) : leVal (leBytes 2 v) = v := by
  simp only [leBytes, leVal, byte, BitVec.toNat_ofNat]; omega
/-- A partner frame as the tests build it is taken with its body. -/
theorem tPeer_body (t seq : Nat) (b : Bytes) (ht : t < 256) (hb : b.length < 2 ^ 16) :
    peerBody t (tPeer t seq b) = some b := by
  have hc : ∀ l : Bytes, crc32c l < 2 ^ 32 := fun l => Nat.xor_lt_two_pow (crcFrom_lt l _ (by decide)) (by decide)
  have e : tPeer t seq b = byte t :: byte seq :: (leBytes 2 b.length ++ ((0 : Byte) :: 0 :: 0 :: 0 :: (b ++
      leBytes 4 (crc32c (byte t :: byte seq :: (leBytes 2 b.length ++ ((0 : Byte) :: 0 :: 0 :: 0 :: b))))))) := by
    simp [tPeer, zeros, List.replicate]
  have e2 : ∀ r : Bytes, slice (byte t :: byte seq :: (leBytes 2 b.length ++ r)) 2 2 = leBytes 2 b.length := by
    intro r; simp [slice, leBytes, zeros]
  have e3 : fld (tPeer t seq b) 2 2 = b.length := by rw [e, fld, e2]; exact leVal_leBytes_two _ hb
  have e4 : fld (tPeer t seq b) 0 1 = t := by
    rw [e]; simp [fld, slice, zeros, leVal, byte]; omega
  have e5 : (tPeer t seq b).length = 12 + b.length := by rw [e]; simp [leBytes]; omega
  have e6 : (tPeer t seq b).take (8 + b.length) = byte t :: byte seq :: (leBytes 2 b.length ++ ((0 : Byte) :: 0 :: 0 :: 0 :: b)) := by
    rw [e]; simp [leBytes, Nat.add_comm 8]
  have e7 : fld (tPeer t seq b) (8 + b.length) 4 = crc32c ((tPeer t seq b).take (8 + b.length)) := by
    rw [e6, e, fld]
    have : ∀ v, slice (byte t :: byte seq :: (leBytes 2 b.length ++ ((0 : Byte) :: 0 :: 0 :: 0 :: (b ++ leBytes 4 v)))) (8 + b.length) 4
        = leBytes 4 v := by
      intro v; simp [slice, leBytes, zeros, Nat.add_comm 8]
    rw [this]; exact leVal_leBytes_four _ (hc _)
  have e8 : slice (tPeer t seq b) 8 b.length = b := by
    rw [e]; simp [slice, leBytes, zeros]
  simp [peerBody, e3, e4, e5, e7, e8]
/-- A fabric frame of TYPE `t` from `src` to `dst` in fabric epoch 0 with body `b`. -/
def tFab (t src dst flags : Nat) (b : Bytes) : Bytes :=
  let h := [byte t, 0] ++ leBytes 2 src ++ leBytes 2 dst ++ zeros 6 ++ leBytes 2 b.length ++ leBytes 2 flags ++ b
  h ++ leBytes 4 (crc32c h)
/-- A fabric frame as the tests build it is taken with its body. -/
theorem tFab_body (t src dst flags : Nat) (b : Bytes) (ht : t < 256) (hb : b.length < 2 ^ 16) :
    fabBody t (tFab t src dst flags b) = some b := by
  have hc : ∀ l : Bytes, crc32c l < 2 ^ 32 := fun l => Nat.xor_lt_two_pow (crcFrom_lt l _ (by decide)) (by decide)
  have z6 : zeros 6 = [0, 0, 0, 0, 0, 0] := rfl
  generalize hh : [byte t, 0] ++ leBytes 2 src ++ leBytes 2 dst ++ zeros 6 ++ leBytes 2 b.length ++ leBytes 2 flags = h
  have hl : h.length = 16 := by rw [← hh]; simp [leBytes, z6]
  have h0 : fld h 0 1 = t := by rw [← hh]; simp [fld, slice, zeros, leVal, byte]; omega
  have h1 : slice h 12 2 = leBytes 2 b.length := by rw [← hh]; simp [slice, leBytes, zeros]
  have e : tFab t src dst flags b = h ++ (b ++ leBytes 4 (crc32c (h ++ b))) := by rw [← hh]; simp [tFab]
  have pre : ∀ (r : Bytes) (o n : Nat), o + n ≤ 16 → slice (h ++ r) o n = slice h o n := by
    intro r o n hon
    have : ((h ++ r).drop o).take n = (h.drop o).take n := by
      rw [List.drop_append_of_le_length (by omega), List.take_append_of_le_length (by simp; omega)]
    simp only [slice, this]
  have e3 : fld (tFab t src dst flags b) 12 2 = b.length := by
    rw [e, fld, pre _ _ _ (by omega), h1]; exact leVal_leBytes_two _ hb
  have e4 : fld (tFab t src dst flags b) 0 1 = t := by rw [e, fld, pre _ _ _ (by omega)]; exact h0
  have e5 : (tFab t src dst flags b).length = 20 + b.length := by rw [e]; simp [leBytes, hl]; omega
  have e6 : (tFab t src dst flags b).take (16 + b.length) = h ++ b := by
    rw [e, ← List.append_assoc]; exact List.take_left' (by simp [hl])
  have e8 : slice (tFab t src dst flags b) 16 b.length = b := by
    rw [e, slice, List.drop_left' hl, List.take_left' rfl]; simp [zeros]
  have e7 : fld (tFab t src dst flags b) (16 + b.length) 4 = crc32c (h ++ b) := by
    rw [e, ← List.append_assoc, fld, slice, List.drop_left' (by simp [hl])]
    exact leVal_leBytes_four _ (hc _)
  simp [fabBody, e3, e4, e5, e6, e7, e8]
/-- FLAGS of the request of mailbox 0. -/
def tFlags (f : Nat) (s : State) : State := { s with host.ram := memWriteN s.host.ram 2 [byte f] }
/-- Mailbox 0's session has no feature. -/
def tNoFeats (s : State) : State := { s with host.mb := [(0, { busy := true, owner := .host, feats := 0 })] }
/-- The request of mailbox 0 asks for generation 1. -/
def tMinGen (s : State) : State := { s with host.ram := memWriteN (memWriteN s.host.ram 2 [1]) 12 [1] }
/-- A join request of node 1, class 0, under root key 5, with its MAC. -/
def tJoin : Bytes := [32, 1] ++ zeros 31 ++ [0x4F, 0xAB, 0x51, 0x3E] ++ zeros 20
/-- An alarm of node 1, key 0, in epoch 0, cycle 2. -/
def tAlarm : Bytes := [33, 1] ++ zeros 18 ++ [0x4A, 0x21, 0xC4, 0xBF] ++ zeros 33
/-- A leave of node 1, key 0, in epoch 0, cycle 2. -/
def tLeave : Bytes := [49, 1] ++ zeros 17 ++ [0x81, 0xF9, 0x1E, 0x70] ++ zeros 34
/-- A standby's frame of priority 1 under the group key 0. -/
def tStand : Bytes := [48, 1] ++ zeros 6 ++ [0xF5, 0x68, 0x75, 0x63] ++ zeros 45
/-- A slot frame of node 4 with an empty MAP, key 0, slot 21 of epoch 0. -/
def tSlot4 : SlotReport := { frame := [0, 4] ++ zeros 22 ++ [0xD3, 0x61, 0x55, 0x25], snr := 0 }
theorem tZeros_length (n : Nat) : (zeros n).length = n := List.length_replicate
/-- The values of the image of an empty description. -/
def tValues : Tab (Option Int) :=
  match judgeImage (imageOf [] 5) with
  | .good _ v => v
  | .bad _ _ _ => []
/-- The state an outcome answers, `d` where it answers none. -/
def tNext (o : Host.Outcome State Fault Refusal) (d : State) : State :=
  match o with
  | .next t => t
  | _ => d
/-- A fabric member at row 1, column 1 of 2 by 2, with the snapshot of epoch 0. -/
def tFabS : State :=
  { tBase .run true true with
    clocks.epoch := 1, ledger.snaps := [{ epoch := 0, generation := 0, fab := none, bytes := [] }]
    desc.committed := tDesc [(8, 0, 11, 1), (8, 0, 12, 1), (8, 0, 13, 2), (8, 0, 14, 2)] }
/-- Its own records. -/
def tFabR : Bytes × Bytes := (tFabS.ownRecords tFabS.fabEnded).getD ([], [])
theorem tBurst {s : State} (n : Nat) (h1 : 1 ≤ n) (h2 : n ≤ 2) (h : s.stagedBad 1 = false ∧ s.stagedBad 2 = false) : s.stagedBad n = false := by
  obtain rfl | rfl : n = 1 ∨ n = 2 := by omega
  · exact h.1
  · exact h.2
theorem tDomain {s : State} (h : s.power.domains = 0) (d : Nat) : s.domain d = false := by
  rw [State.domain, h, bit, Nat.zero_testBit]
theorem tDomain13 {s : State} (h : s.power.domains = 2 ^ 13) {d : Nat} (hd : s.domain d = true) : d = 13 := by
  rw [State.domain, h, bit, Nat.testBit_two_pow] at hd
  exact (of_decide_eq_true hd).symm
/-- No other channel of engine 0 is evaluated. -/
theorem tOthers {s : State} {P : Prop} {c : Nat} (h : s.evaluates 1 = false ∧ s.evaluates 2 = false ∧ s.evaluates 3 = false)
    (h4 : c / 4 = 0 / 4) (h0 : c ≠ 0) (he : s.evaluates c = true) : P := by
  obtain rfl | rfl | rfl : c = 1 ∨ c = 2 ∨ c = 3 := by omega
  · rw [h.1] at he; cases he
  · rw [h.2.1] at he; cases he
  · rw [h.2.2] at he; cases he

/-! ### Well-formedness: for each check an ill-formed command, which it refuses -/

theorem test_wf_refuses_0 : ([.write (2 ^ 24) [], .read (2 ^ 24) 0, .quietRead (2 ^ 24) 0, .unknownCommand 256, .mbDoorbell 16,
     .mbDone 16, .irqStatusClear (2 ^ 32), .resetCauseClear (2 ^ 32), .cursorLo (2 ^ 32), .cursorHi (2 ^ 32),
     .readCursorWrite (2 ^ 32), .registerWrite (2 ^ 24) [], .sessionOpen 16, .sessionProve 16, .sessionClose 16,
     .sessionKeyinstall 16, .featOffer 16, .modeGet 16, .modeSet 16, .objGet 16, .objSet 16, .objBegin 16,
     .objValidate 16, .objCommit 16, .objAbort 16, .objLoad 16, .objExport 16, .chanUnlock 16, .chanIdent 16,
     .chanIdresult 16, .chanApply 16, .chanIdabort 16, .chanStart 16, .chanStop 16, .chanClear 16,
     .chanSeqstatus 16, .chanScanread 16, .traceSetup 16, .traceArm 16, .traceTrigger 16, .traceStatus 16,
     .traceRead 16, .traceCapsule 16, .budgetStatus 16, .budgetShed 16, .budgetRestore 16, .rectStatus 16,
     .rectWithdraw 16, .rectRotate 16, .rectForget 16, .tideStatus 16, .tideNodes 16, .tideRootinstall 16,
     .tideEvict 16, .gaugeStatus 16, .gaugeProbe 16, .gaugeProberesult 16, .gaugeAbort 16, .gaugeWake 16,
     .gaugeReseed 16, .sluiceStatus 16, .sluiceYield 16, .sluiceWithdraw 16, .sluiceResume 16, .sluiceCompare 16,
     .ledgerStatus 16, .ledgerRead 16, .fabricStatus 16, .ledgerSubscribe 16, .ledgerUnsubscribe 16] : List Instr).all (fun i => !i.wf) = true := by
  decide +kernel
theorem test_wf_refuses_1 : ([.logStatus 16, .logRead 16, .logVerify 16, .logNote 16, .logClear 16, .logFormat 16, .logSubscribe 16,
     .logUnsubscribe 16, .logCapsules 16, .faultStatus 16, .faultRead 16, .faultAck 16, .faultEcc 16,
     .faultClearcount 16, .twStatus 16, .twTransfer 16, .otpRead 16, .otpProgram 16, .otpLifecycle 16,
     .fwStatus 16, .fwWrite 16, .fwCommit 16, .timeGet 16, .timeSet 16, .svcReset 16, .svcBlockreset 16,
     .mailboxDatagram 3 [], .mailboxDatagram 6 [], .neighborSolicitation 3 0, .neighborSolicitation 6 0,
     .echoRequest 3 [], .echoRequest 6 [], .ethLinkUp 3, .ethLinkUp 6, .ethLinkDown 3, .ethLinkDown 6,
     .ptpSync 3 false 0 0, .ptpSync 6 false 0 0, .ptpDelayResp 3 0, .ptpDelayResp 6 0, .gaugeComparatorWake 32 0,
     .pgGood 4 0, .pgGood 0 4, .pgTimeout 4 0, .pgLost 4, .supplyWarning 23 0, .supplyReset 23, .monitorArm 23,
     .pllLossOfLock 12, .imageChecked 2 false 0, .contribution 19 0 0, .loopEvaluation 128 0 0 0 0 0,
     .periodStart 128 false false, .currentCut 128 0, .sinkLimit 128 0 0, .overshoot 128 0,
     .brakeRelease 128 false 0, .brakeTimeout 128 0, .ovTrip 128, .fltN 128 false, .ocpPersist 128,
     .freeboardAccumulation 4, .startDelayExpiry 128 [], .hsTestTrip 128, .hsTestEnd 128 [], .hsTestEnd 0 [[]],
     .riseDeadlineExpiry 128, .scannerShutdown 128, .temperatureLevel 128 0, .temperatureLevel 0 3] : List Instr).all (fun i => !i.wf) = true := by
  decide +kernel
theorem test_wf_refuses_2 : ([.restartClearance 128 0, .triesRestore 128, .identSchedule 128, .identRunEnd 128, .captureFrozen 4,
     .crossTrigger 4 0, .crossTrigger 0 4, .holdSExpiry 4, .capsulePending 4, .capsuleStage 4,
     .faultEvent 320 0 [], .faultEvent 0 256 [], .blockResetRelease 16 0, .mergeCommit 0 (2 ^ 20),
     .semaphoreTimeout 16 0, .semaphoreTimeout 0 2, .keyLockoutEnd 4, .stringInsertion 32, .stringRemoval 32,
     .unparkTimeout 40, .twWindow 0 false, .twWindow 8 false, .twTransactionEnd 0 0 [] 0,
     .twTransactionEnd 8 0 [] 0, .smbusTimeout 8, .arbitrationLost 0 0 false, .arbitrationLost 8 0 false,
     .alertResponse 8, .targetStatus 8 0, .ident 8 0, .live 3 0, .live 6 0, .slotFrame 2 none false, .joinVoid 0,
     .joinVoid 127, .lostSleeper 0, .lostSleeper 127, .sleeperFree 0, .sleeperFree 127, .partnerHello 5 [] 0 0,
     .partnerHello 8 [] 0 0, .knownAnswerTest 4 false, .partnerLaneUp 5, .partnerLaneUp 8, .partnerLaneDown 5,
     .partnerLaneDown 8, .fabricHello 4 [] false, .fabricLaneDown 4, .sync 4 [] 0 0, .delayReq 4 [] 0,
     .delayResp 4 [], .fabricSummary 4 [], .full 4 [], .dapWrite 0 0 (2 ^ 32), .haltRequest 2, .haltRelease 2,
     .ptpFollowUp 3 0, .ptpFollowUp 6 0, .externalWriteComplete 19 false 0 0, .externalWriteTimeout 18,
     .duplicateAddressDetectionEnd 3 false, .duplicateAddressDetectionEnd 6 false] : List Instr).all (fun i => !i.wf) = true := by
  decide +kernel
theorem test_wf_accepts : ([.write (2 ^ 24 - 1) [], .mbDoorbell 15, .modeGet 0, .ethLinkUp 4, .ethLinkUp 5] : List Instr).all Instr.wf = true := by
  decide +kernel

/-! ### Tests from the spec's worked examples, and from published vectors of the algorithms -/

/-- Example 0-1: the bytes of 54 V in a payload (R6). -/
theorem test_setpoint_bytes : leBytes 4 54000000 = [0x80, 0xF9, 0x37, 0x03] := by decide +kernel
/-- Example 0-1: epoch 0x10 is later than 0xFFFFFFF0 in the window of R10. -/
theorem test_epoch_wrap : geq32 0x10 0xFFFFFFF0 = true ∧ geq32 0xFFFFFFF0 0x10 = false := by decide +kernel
/-- R202: the indices the spec lists. -/
theorem test_gain_index : [31, 32, 35, 36, 40, 63, 64, 255, 256, 511].map gtIndexOf = [31, 32, 32, 33, 34, 39, 40, 55, 56, 63] := by
  decide +kernel
/-- Table 7-14: reference code, current code and the overshoot, release and trip codes of channel 100. -/
theorem test_codes_of_channel_100 :
    refCode 12000000 0x0C000000 = 54613 ∧ currentCode 45000 3000 = 922 ∧
    [300, 100, 1000].map (fun p => voltageCode (levelAbove 12000000 p) 0x0C000000) = [2813, 2758, 3004] := by decide +kernel
/-- Example 7-1: on-time and sample instant. -/
theorem test_on_time : onTime 233017 102400 = 22756 ∧ sampleInstant 1 0 102400 1024 22756 = 12402 := by decide +kernel
/-- The coefficients of Example 8-1. -/
def tBank : Coeffs :=
  { kp := 0x40000, ki := 0x1000, kd := 0x80000, dMax := 0x80000
    gtp := 0x2000200020002000 :: List.replicate 7 0x4000400040004000 ++ List.replicate 8 0x6000600060006000 }
/-- R255: the code of a 1.2 V input, and those at and past full scale. -/
theorem test_scanner_code : [1200000000, 1500000000, -1].map scannerCode = [3277, 4095, 0] := by decide +kernel
/-- Table 8-4: the words of one evaluation, and the duty of the lead and of channel 101. -/
theorem test_example_8_1_words :
    compEval tBank 16384 5 false
      { ist := 477218816, dst := 524288, u := 0, ePrev := 1 } =
    ({ ist := 477239296, dst := 917504, u := 479467520, ePrev := 5 }, false) ∧
    phaseDuty 479467520 0 0 524288 = 234115 ∧ phaseDuty 479467520 (-4096) 0 524288 = 234113 := by decide +kernel
/-- Its loop state. -/
def tRailOut : Out :=
  { state := 3
    prof := { x := 12000000 * 2 ^ 16, target := 12000000, state := .arrived }
    comp := { ist := 477218816, dst := 524288, ePrev := 1, first := false } }
/-- Output 97 of Example 8-1 before its evaluation. -/
def tRail : State :=
  { tBase .run true true with
    desc.committed := tDesc [(1, 100, 0x01, 0x0C000000), (1, 100, 0x02, 3000), (1, 100, 0x03, 102400), (1, 100, 0x0A, 45000),
      (2, 97, 0x01, 1), (2, 97, 0x03, 100), (2, 97, 0x04, 4), (2, 97, 0x07, 12000000)]
    out := [(97, tRailOut)]
    chan := [(100, { state := .switching, bank0 := tBank, refCode := 54613, sampleAt := some 12402 }), (101, { state := .switching, share := -4096 })] }
/-- Example 8-1: one LOOP_EVALUATION of the lead whose sense voltage is five codes below the reference. -/
theorem test_example_8_1 :
    ∃ t, exec (.loopEvaluation 100 997493896 0 0 0 0) tRail = .next t ∧
      (t.outAt 97).comp.ist = 477239296 ∧ (t.outAt 97).comp.dst = 917504 ∧ (t.outAt 97).comp.u = 479467520 ∧
      (t.chanAt 100).shadow = 234115 :=
  ⟨_, rfl, by decide +kernel⟩
/-- Example 5-1: FEAT.OFFER with bits 0 to 26 and 40 answers the payload of the text. -/
def tOffer : State :=
  tOrder 0x0105 [0xFF, 0xFF, 0xFF, 0x07, 0, 1, 0, 0, 0, 0, 0, 0, 0, 0, 0, 0] .host
    { tBase .run true false with sluice.generation := 3, otp.lifecycle := 2, otp.words := [(192, sealedWord 0x3A910C47)] }
theorem test_example_5_1 :
    ∃ t, exec (.featOffer 0) tOffer = .next t ∧
      memReadN t.host.ram 0x200 12 = [0, 0, 7, 0, 0x20, 0, 5, 1, 3, 0, 0, 0] ∧
      memReadN t.host.ram 0x210 32 = [0xFF, 0xFF, 0xFF, 7] ++ zeros 12 ++ [0, 2, 4, 0, 2, 4, 0x21, 2, 0x47, 0x0C, 0x91, 0x3A, 0xF0, 1, 1, 0] :=
  ⟨_, rfl, by decide +kernel⟩
/-- FIPS 180-4: the digest of "abc". -/
theorem test_sha256 : sha256 [0x61, 0x62, 0x63] = 0xBA7816BF8F01CFEA414140DE5DAE2223B00361A396177A9CB410FF61F20015AD := by decide +kernel
/-- RFC 4493, example 2. -/
theorem test_cmac :
    cmac 0x2B7E151628AED2A6ABF7158809CF4F3C (beBytes 16 0x6BC1BEE22E409F96E93D7E117393172A) = 0x070A16B46B4D4144F79BDD9DD04A287C := by
  decide +kernel
/-- The published check value of CRC-32C, over "123456789". -/
theorem test_crc32c : crc32c [0x31, 0x32, 0x33, 0x34, 0x35, 0x36, 0x37, 0x38, 0x39] = 0xE3069283 := by decide +kernel
/-- After reset the port ignores a STATUS read, as nothing answers before Boot step 3 (R113). -/
theorem test_reset_is_silent : step { State.reset with pending := [.status] } = .next State.reset := by rfl
/-- An empty queue idles. -/
theorem test_idle : step State.reset = .next State.reset := by rfl

/-- Table 22-8: levels in Run, without PWREN_IO, in step 4 of Boot, and in Off. -/
theorem test_ball_states :
    (let s := { tBase .run true true with power.pwren := 15, chan := [(3, { pen := true })], host.hrdy := true }
     [s.ball (.pen 3), s.ball (.pwmh 3), s.ball .hirqN, s.ball .hrdy, s.ball .spRstN, s.ball .spWpN, s.ball (.gpio 0)] =
       [Level.high, .low, .released, .high, .high, .low, .highZ]) ∧
    (let s := { tBase .run true true with power.pwren := 7, chan := [(3, { pen := true })] }
     [s.ball (.pen 3), s.ball (.shed 0), s.ball (.pwren 0), s.ball .alive] = [Level.highZ, .highZ, .high, .low]) ∧
    { tBase .boot true true with power.pwren := 15, boot.step := 2 }.ball .spRstN = .low ∧
    { tBase .off true true with power.pwren := 15 }.ball .alive = .highZ := by decide +kernel

/-! ### Witnesses -/

/-- States and operands that meet the hypotheses of the clauses of `Obligations.PortReadsStatusAndUnknown`. -/
theorem witness_PortReadsStatusAndUnknown :
    (∃ (s : State) (o : Nat), s.portAlive = true ∧ o < 256 ∧ o % 4 = 0 ∧ o ≠ 8 ∧ o ≠ 52) ∧
    (∃ (s : State) (code : Nat), s.portAlive = true ∧ ¬code ∈ [50, 107, 108, 5]) ∧
    (∃ (s : State), s.portAlive = false) :=
  ⟨⟨tBase .run true false, 0, by decide +kernel⟩,
    ⟨tBase .run true false, 0, by decide +kernel⟩,
    ⟨tBase .keep true false, by decide +kernel⟩⟩

/-- States and operands that meet the hypotheses of the clauses of `Obligations.RegisterWritesAct`. -/
theorem witness_RegisterWritesAct :
    (∃ (s : State) (v : Nat), s.portAlive = true ∧ v < 2 ^ 32 ∧ v % 16 = 15) ∧
    (∃ (s : State) (v : Nat), s.portAlive = true ∧ v < 2 ^ 32 ∧ v % 16 ≠ 15) ∧
    (∃ (s : State) (n : Nat), s.portAlive = true ∧ n < 16 ∧ (s.mbAt n).done = true) ∧
    (∃ (s : State) (n : Nat), s.portAlive = true ∧ n < 16 ∧ (s.mbAt n).done = false) ∧
    (∃ (s : State) (v : Nat) (i : Nat), s.portAlive = true ∧ v < 2 ^ 32 ∧ i < 64) ∧
    (∃ (s : State) (v : Nat), s.portAlive = true ∧ v < 2 ^ 32 ∧ (s.faults.win.ringHead + 2 ^ 32 - v) % 2 ^ 32 ≤ 256) ∧
    (∃ (s : State) (v : Nat), s.portAlive = true ∧ v < 2 ^ 32 ∧ 256 < (s.faults.win.ringHead + 2 ^ 32 - v) % 2 ^ 32) ∧
    (∃ (s : State) (a : Nat) (d : Bytes), s.portAlive = true ∧ a < 256 ∧ 0 < List.length d ∧
      a % 4 + List.length d ≤ 4 ∧ List.length d ≠ 4) :=
  ⟨⟨tBase .run true false, 15, by decide +kernel⟩,
    ⟨tBase .run true false, 0, by decide +kernel⟩,
    ⟨{ tBase .run true false with host.mb := [(0, { done := true })] }, 0, by decide +kernel⟩,
    ⟨{ tBase .run true false with host.mb := [(0, { done := false })] }, 0, by decide +kernel⟩,
    ⟨tBase .run true false, 0, 0, by decide +kernel⟩,
    ⟨tBase .run true false, 0, by decide +kernel⟩,
    ⟨tBase .run true false, 1, by decide +kernel⟩,
    ⟨tBase .run true false, 0, [1, 2], by decide +kernel⟩⟩

/-- States and operands that meet the hypotheses of the clauses of `Obligations.MailboxWordsAndDoorbells`. -/
theorem witness_MailboxWordsAndDoorbells :
    (∃ (s : State) (d : Bytes) (o : Nat), s.portAlive = true ∧ List.length d = 4 ∧ o < 16384 ∧ o % 4 = 0 ∧
      o % 1024 < 512 ∧ s.hostOwns (o / 1024) = true ∧ (s.mbAt (o / 1024)).busy = false) ∧
    (∃ (s : State) (d : Bytes) (o : Nat), s.portAlive = true ∧ List.length d = 4 ∧ o < 262144 ∧ o % 4 = 0) ∧
    (∃ (s : State) (d : Bytes) (o : Nat), s.portAlive = true ∧ List.length d = 4 ∧ o < 16384 ∧ o % 4 = 0 ∧
      o % 1024 < 512 ∧ (s.hostOwns (o / 1024) = false ∨ (s.mbAt (o / 1024)).busy = true)) ∧
    (∃ (s : State) (d : Bytes) (o : Nat), s.portAlive = true ∧ List.length d = 4 ∧ o < 16384 ∧ o % 4 = 0 ∧
      512 ≤ o % 1024) ∧
    (∃ (s : State) (n : Nat), n < 16 ∧ s.portAlive = true ∧
      (s.mergeFlush fun e => decide (e.inst = 201)).host.hrdy = true ∧
      (s.mergeFlush fun e => decide (e.inst = 201)).hostOwns n = true ∧
      ((s.mergeFlush fun e => decide (e.inst = 201)).mbAt n).busy = false ∧
      ((s.mergeFlush fun e => decide (e.inst = 201)).mbAt n).done = false) ∧
    (∃ (s : State) (n : Nat), n < 16 ∧ s.portAlive = true ∧
      ((s.mergeFlush fun e => decide (e.inst = 201)).host.hrdy = false ∨ (s.mergeFlush fun e => decide (e.inst = 201)).hostOwns n = false ∨ ((s.mergeFlush fun e => decide (e.inst = 201)).mbAt n).busy = true ∨ ((s.mergeFlush fun e => decide (e.inst = 201)).mbAt n).done = true)) :=
  ⟨⟨tBase .run true false, [1, 2, 3, 4], 508, by decide +kernel⟩,
    ⟨tBase .run true false, [1, 2, 3, 4], 262140, by decide +kernel⟩,
    ⟨{ tBase .run true false with host.mb := [(0, { busy := true })] }, [1, 2, 3, 4], 508, by decide +kernel⟩,
    ⟨tBase .run true false, [1, 2, 3, 4], 512, by decide +kernel⟩,
    ⟨{ tBase .run true false with host.hrdy := true }, 0, by decide +kernel⟩,
    ⟨tBase .run true false, 0, by decide +kernel⟩⟩

/-- States and operands that meet the hypotheses of the clauses of `Obligations.LogbookReads`. -/
theorem witness_LogbookReads :
    (∃ (s : State), s.log.loading = true) ∧
    (∃ (s : State), s.log.loading = false) ∧
    (∃ (s : State) (mb : Nat), s.starts 3073 mb ∧ (s.request mb).lay 0 [] = true) ∧
    (∃ (s : State) (mb : Nat), s.starts 3074 mb ∧ (s.request mb).lay 12 [(9, 3)] = true ∧ 1 ≤ (s.request mb).u 8 1 ∧
      (s.request mb).u 8 1 ≤ 7) ∧
    (∃ (s : State) (mb : Nat), s.starts 3081 mb ∧ (s.request mb).lay 4 [(1, 3)] = true ∧ (s.request mb).u 0 1 ≤ 7) ∧
    (∃ (s : State) (mb : Nat), s.starts 3075 mb ∧ (s.request mb).lay 12 [(10, 2)] = true ∧ 1 ≤ (s.request mb).u 8 2 ∧
      (s.request mb).u 8 2 ≤ 16384 ∧ s.secretLocked [1] = true) ∧
    (∃ (s : State) (mb : Nat), s.starts 3075 mb ∧ (s.request mb).lay 12 [(10, 2)] = true ∧ 1 ≤ (s.request mb).u 8 2 ∧
      (s.request mb).u 8 2 ≤ 16384 ∧ s.secretLocked [1] = false ∧ s.log.oldest ≤ (s.request mb).u 0 8 ∧
      (s.request mb).u 0 8 + (s.request mb).u 8 2 ≤ s.log.head + 1 ∧
      ∀ (i : Nat), i < (s.request mb).u 8 2 → s.verifyOne ((s.request mb).u 0 8 + i) = 0) ∧
    (∃ (s : State) (mb : Nat) (k : Nat), s.starts 3075 mb ∧ (s.request mb).lay 12 [(10, 2)] = true ∧
      1 ≤ (s.request mb).u 8 2 ∧ (s.request mb).u 8 2 ≤ 16384 ∧ s.secretLocked [1] = false ∧
      s.log.oldest ≤ (s.request mb).u 0 8 ∧ (s.request mb).u 0 8 + (s.request mb).u 8 2 ≤ s.log.head + 1 ∧
      k < (s.request mb).u 8 2 ∧ s.verifyOne ((s.request mb).u 0 8 + k) = 2 ∧
      ∀ (i : Nat), i < (s.request mb).u 8 2 → i ≠ k → s.verifyOne ((s.request mb).u 0 8 + i) = 0) :=
  ⟨⟨{ tBase .run true false with log.loading := true }, by decide +kernel⟩,
    ⟨{ tBase .run true false with log.loading := false }, by decide +kernel⟩,
    ⟨tOrder 3073 [] .host (tBase .run true false), 0, by unfold State.starts; decide +kernel⟩,
    ⟨tOrder 3074 [0, 0, 0, 0, 0, 0, 0, 0, 1, 0, 0, 0] .host (tBase .run true false), 0,
      by unfold State.starts; decide +kernel⟩,
    ⟨tOrder 3081 [0, 0, 0, 0] .host (tBase .run true false), 0, by unfold State.starts; decide +kernel⟩,
    ⟨{ tOrder 3075 [0, 0, 0, 0, 0, 0, 0, 0, 1, 0, 0, 0] .host (tBase .run true false) with otp.secretKey := none }, 0,
      by unfold State.starts; decide +kernel⟩,
    ⟨{ tOrder 3075 [1, 0, 0, 0, 0, 0, 0, 0, 1, 0, 0, 0] .host (tBase .run true false) with log.mounted := true, log.head := 1, log.formatSeq := 2, log.capacity := 100, log.store := [(1, { seq := 1, crc := 800104810 })] },
      0, by unfold State.starts; decide +kernel⟩,
    ⟨{ tOrder 3075 [1, 0, 0, 0, 0, 0, 0, 0, 1, 0, 0, 0] .host (tBase .run true false) with log.mounted := true, log.head := 1, log.capacity := 100, log.store := [(1, { seq := 1, crc := 800104810 })] },
      0, 0, by unfold State.starts; decide +kernel⟩⟩

/-- States and operands that meet the hypotheses of the clauses of `Obligations.LogbookChangingOrders`. -/
theorem witness_LogbookChangingOrders :
    (∃ (s : State) (mb : Nat), s.starts 3076 mb ∧ (s.request mb).lay 40 [] = true ∧
      (s.sesAt (s.request mb).session).notes < 10) ∧
    (∃ (s : State) (mb : Nat), s.starts 3077 mb ∧ (s.request mb).lay 8 [] = true ∧ s.log.tail ≤ (s.request mb).u 0 8 ∧
      (s.request mb).u 0 8 ≤ s.log.head + 1) ∧
    (∃ (s : State) (mb : Nat), s.starts 3078 mb ∧ (s.request mb).lay 8 [(4, 4)] = true ∧
      (s.request mb).u 0 4 = 1297239878) ∧
    (∃ (s : State) (mb : Nat) (y : Subscription), s.starts 3079 mb ∧ (s.request mb).transport = 1 ∧
      (s.request mb).lay 12 [] = true ∧ s.log.subs.length < 8 ∧
      (List.filter (fun y => decide (y.session = (s.request mb).session)) s.log.subs).length < 4 ∧ y ∈ s.log.subs) ∧
    (∃ (s : State) (mb : Nat), s.starts 3080 mb ∧ (s.request mb).lay 4 [(1, 3)] = true ∧
      (s.log.subs.any fun y => decide (y.id = (s.request mb).u 0 1) && decide (y.session = (s.request mb).session) && y.log) = true) :=
  ⟨⟨tOrder 3076 [0, 0, 0, 0, 0, 0, 0, 0, 0, 0, 0, 0, 0, 0, 0, 0, 0, 0, 0, 0, 0, 0, 0, 0, 0, 0, 0, 0, 0, 0, 0, 0, 0, 0, 0, 0, 0, 0, 0, 0] .host (tBase .run true false),
  0, by unfold State.starts; decide +kernel⟩,
    ⟨{ tOrder 3077 [1, 0, 0, 0, 0, 0, 0, 0] .host (tBase .configure true false) with log.head := 1 }, 0,
      by unfold State.starts; decide +kernel⟩,
    ⟨tOrder 3078 [70, 79, 82, 77, 0, 0, 0, 0] .host (tBase .configure true false), 0,
      by unfold State.starts; decide +kernel⟩,
    ⟨{ tOrder 3079 [0, 0, 0, 0, 0, 0, 0, 0, 0, 0, 0, 0] .ethernet (tBase .run true false) with log.subs := [{ id := 1, session := 1, log := true, kind := 0, row := 0, decim := 1, next := 1, classes := 0, gone := 0 }] },
      0, { id := 1, session := 1, log := true, kind := 0, row := 0, decim := 1, next := 1, classes := 0, gone := 0 },
      by unfold State.starts; decide +kernel⟩,
    ⟨{ tOrder 3080 [1, 0, 0, 0] .host (tBase .run true false) with log.subs := [{ id := 1, session := 1, log := true, kind := 0, row := 0, decim := 1, next := 1, classes := 0, gone := 0 }] },
      0, by unfold State.starts; decide +kernel⟩⟩

/-- States and operands that meet the hypotheses of the clauses of `Obligations.RecordsStagedInOrder`. -/
theorem witness_RecordsStagedInOrder :
    (∃ (s : State) (o : LogOffer) (rest : List LogOffer), s.power.shutdown = none ∧ s.log.unbacked = false ∧
      s.log.admits = true ∧ s.faults.queue = [] ∧ s.log.offers = o :: rest ∧ o.use = OfferUse.plain) ∧
    (∃ (s : State), s.power.shutdown = none ∧ s.log.unbacked = false ∧ s.log.admits = false) ∧
    (∃ (s : State) (e : FaultEntry) (rest : List FaultEntry), s.power.shutdown = none ∧ s.log.unbacked = false ∧
      s.log.admits = true ∧ s.faults.queue = e :: rest ∧ s.faults.held319 = none ∧ e.reaction.testBit 1 = true) ∧
    (∃ (s : State) (e : FaultEntry) (rest : List FaultEntry), s.power.shutdown = none ∧ s.log.unbacked = false ∧
      s.log.admits = true ∧ s.faults.queue = e :: rest ∧ s.faults.held319 = none ∧ e.reaction.testBit 1 = false) :=
  ⟨⟨{ tBase .run true false with power.shutdown := none, log.unbacked := false, log.mounted := true, faults.queue := [], log.offers := [{ cls := 4, source := 0, event := none, items := [], flags := 0, use := .plain }] },
  { cls := 4, source := 0, event := none, items := [], flags := 0, use := .plain }, [], by decide +kernel⟩,
    ⟨{ tBase .run true false with power.shutdown := none, log.unbacked := false }, by decide +kernel⟩,
    ⟨{ tBase .run true false with power.shutdown := none, log.unbacked := false, log.mounted := true, faults.held319 := none, faults.queue := [{ epoch := 0, source := 290, cls := 1, event := 1, repeats := 1, reaction := 3, data := [], count := 1 }] },
      { epoch := 0, source := 290, cls := 1, event := 1, repeats := 1, reaction := 3, data := [], count := 1 }, [],
      by decide +kernel⟩,
    ⟨{ tBase .run true false with power.shutdown := none, log.unbacked := false, log.mounted := true, faults.held319 := none, faults.queue := [{ epoch := 0, source := 290, cls := 1, event := 1, repeats := 1, reaction := 1, data := [], count := 1 }] },
      { epoch := 0, source := 290, cls := 1, event := 1, repeats := 1, reaction := 1, data := [], count := 1 }, [],
      by decide +kernel⟩⟩

/-- States and operands that meet the hypotheses of the clauses of `Obligations.BurstsFlushRecords`. -/
theorem witness_BurstsFlushRecords :
    (∃ (s : State), s.log.burst = none) ∧
    (∃ (s : State) (b : Burst), s.log.burst = some b ∧ s.power.brace.isSome = true ∧ s.mode ≠ Mode.lastGasp) ∧
    (∃ (s : State) (b : Burst), (s.power.brace = none ∨ s.mode = Mode.lastGasp) ∧ s.log.burst = some b ∧
      s.power.shutdown = none ∧ s.log.watch = [] ∧ s.log.unbacked = false ∧ b.first ≤ b.last ∧
      b.last < b.first + s.log.capacity ∧ ∀ (n : Nat), b.first ≤ n → n ≤ b.last → s.stagedBad n = false) ∧
    (∃ (s : State) (b : Burst) (n : Nat), (s.power.brace = none ∨ s.mode = Mode.lastGasp) ∧ s.log.burst = some b ∧
      s.power.shutdown = none ∧ s.log.watch = [] ∧ s.log.unbacked = false ∧ b.first ≤ b.last ∧
      b.last < b.first + s.log.capacity ∧ (∀ (n : Nat), b.first ≤ n → n ≤ b.last → s.stagedBad n = false) ∧
      b.first ≤ n ∧ n ≤ b.last) ∧
    (∃ (s : State) (b : Burst), (s.power.brace = none ∨ s.mode = Mode.lastGasp) ∧ s.log.burst = some b ∧
      b.rewrite = false) ∧
    (∃ (s : State) (b : Burst), (s.power.brace = none ∨ s.mode = Mode.lastGasp) ∧ s.log.burst = some b ∧
      b.rewrite = true ∧ s.log.failedBursts + 1 < 3) ∧
    (∃ (s : State) (b : Burst), (s.power.brace = none ∨ s.mode = Mode.lastGasp) ∧ s.log.burst = some b ∧
      b.rewrite = true ∧ 3 ≤ s.log.failedBursts + 1 ∧ s.log.watch = []) ∧
    (∃ (s : State), 64 ≤ s.log.unflushed ∧ s.power.brace = none) ∧
    (∃ (s : State), s.log.unflushed < 64 ∨ s.power.brace.isSome = true) :=
  ⟨⟨{ tBase .run true false with log.burst := none }, by decide +kernel⟩,
    ⟨{ tBase .run true false with power.brace := some { causes := 1, minMv := [] }, log.burst := some { first := 1, last := 2, rewrite := false } },
      { first := 1, last := 2, rewrite := false }, by decide +kernel⟩,
    ⟨{ tBase .run true true with power.shutdown := none, log.watch := [], log.unbacked := false, log.burst := some { first := 1, last := 2, rewrite := false }, log.capacity := 64 },
      { first := 1, last := 2, rewrite := false }, .inl rfl, rfl, rfl, rfl, rfl, by decide, by decide,
      fun n h1 h2 => tBurst n h1 h2 ⟨by decide +kernel, by decide +kernel⟩⟩,
    ⟨{ tBase .run true true with power.shutdown := none, log.watch := [], log.unbacked := false, log.burst := some { first := 1, last := 2, rewrite := false }, log.capacity := 64 },
      { first := 1, last := 2, rewrite := false }, 2, .inl rfl, rfl, rfl, rfl, rfl, by decide, by decide,
      fun n h1 h2 => tBurst n h1 h2 ⟨by decide +kernel, by decide +kernel⟩, by decide, by decide⟩,
    ⟨{ tBase .run true false with log.burst := some { first := 1, last := 2, rewrite := false } },
      { first := 1, last := 2, rewrite := false }, by decide +kernel⟩,
    ⟨{ tBase .run true false with log.burst := some { first := 1, last := 2, rewrite := true } },
      { first := 1, last := 2, rewrite := true }, by decide +kernel⟩,
    ⟨{ tBase .run true false with log.watch := [], log.burst := some { first := 1, last := 2, rewrite := true }, log.failedBursts := 2 },
      { first := 1, last := 2, rewrite := true }, by decide +kernel⟩,
    ⟨{ tBase .run true false with power.brace := none, log.next := 65 }, by decide +kernel⟩,
    ⟨tBase .run true false, by decide +kernel⟩⟩

/-- States and operands that meet the hypotheses of the clauses of `Obligations.LogbookMounts`. -/
theorem witness_LogbookMounts :
    (∃ (s : State) (bytes : Nat), s.mode = Mode.boot ∧ s.boot.step = 6 ∧ s.log.mounted = false ∧ 4160 ≤ bytes ∧
      s.log.unbacked = false ∧ s.log.header0.kind = 0 ∧ s.log.header1.kind = 0) ∧
    (∃ (s : State) (bytes : Nat) (h : StoreHeader), s.mode = Mode.boot ∧ s.boot.step = 6 ∧ s.log.mounted = false ∧
      4160 ≤ bytes ∧ s.log.unbacked = false ∧ (s.log.header0.kind ≠ 0 ∨ s.log.header1.kind ≠ 0) ∧
      s.mountCopy = some h ∧ s.retained.seq = none) ∧
    (∃ (s : State) (bytes : Nat), s.mode = Mode.boot ∧ s.boot.step = 6 ∧ s.log.mounted = false ∧ bytes < 4160) ∧
    (∃ (s : State), s.mode ≠ Mode.boot ∨ s.boot.step ≠ 6 ∨ s.log.mounted = true) :=
  ⟨⟨{ tBase .boot true false with boot.step := 6, log.mounted := false, log.unbacked := false, log.header0.kind := 0, log.header1.kind := 0 },
  4160, by decide +kernel⟩,
    ⟨{ tBase .boot true false with boot.step := 6, log.mounted := false, log.unbacked := false, retained.seq := none, log.header0 := { kind := 1, capacity := 100 } },
      4160, { kind := 1, capacity := 100 }, by decide +kernel⟩,
    ⟨{ tBase .boot true false with boot.step := 6, log.mounted := false }, 4159, by decide +kernel⟩,
    ⟨tBase .run true false, by decide +kernel⟩⟩

/-- States and operands that meet the hypotheses of the clauses of `Obligations.FaultOrders`. -/
theorem witness_FaultOrders :
    (∃ (s : State) (mb : Nat), s.starts 3329 mb ∧ (s.request mb).lay 0 [] = true) ∧
    (∃ (s : State) (mb : Nat), s.starts 3330 mb ∧ (s.request mb).lay 4 [(3, 1)] = true ∧ 1 ≤ (s.request mb).u 2 1 ∧
      (s.request mb).u 2 1 ≤ 30 ∧ (s.request mb).u 0 2 ≤ 319 ∧ (s.request mb).u 0 2 + (s.request mb).u 2 1 ≤ 320) ∧
    (∃ (s : State) (mb : Nat), s.starts 3332 mb ∧ (s.request mb).lay 4 [(1, 3)] = true ∧ (s.request mb).u 0 1 ≤ 23) ∧
    (∃ (s : State) (mb : Nat) (n : Nat), (s.request mb).lay 40 [] = true ∧ s.starts 3331 mb ∧ n < 320) ∧
    (∃ (s : State) (mb : Nat) (n : Nat), (s.request mb).lay 40 [] = true ∧ s.starts 3333 mb ∧ n < 320) :=
  ⟨⟨tOrder 3329 [] .host (tBase .run true false), 0, by unfold State.starts; decide +kernel⟩,
    ⟨tOrder 3330 [0, 0, 1, 0] .host (tBase .run true false), 0, by unfold State.starts; decide +kernel⟩,
    ⟨tOrder 3332 [0, 0, 0, 0] .host (tBase .run true false), 0, by unfold State.starts; decide +kernel⟩,
    ⟨tOrder 3331 [0, 0, 0, 0, 0, 0, 0, 0, 0, 0, 0, 0, 0, 0, 0, 0, 0, 0, 0, 0, 0, 0, 0, 0, 0, 0, 0, 0, 0, 0, 0, 0, 0, 0, 0, 0, 0, 0, 0, 0] .host (tBase .run true false),
      0, 0, by unfold State.starts; decide +kernel⟩,
    ⟨tOrder 3333 [0, 0, 0, 0, 0, 0, 0, 0, 0, 0, 0, 0, 0, 0, 0, 0, 0, 0, 0, 0, 0, 0, 0, 0, 0, 0, 0, 0, 0, 0, 0, 0, 0, 0, 0, 0, 0, 0, 0, 0] .host (tBase .run true false),
      0, 0, by unfold State.starts; decide +kernel⟩⟩

/-- States and operands that meet the hypotheses of the clauses of `Obligations.EventCountedAndQueued`. -/
theorem witness_EventCountedAndQueued :
    (∃ (s : State) (src : Nat) (event : Nat) (n : Nat), s.mode.firmware = true ∧ 224 ≤ src ∧ src < 320 ∧
      reservedSource src = false ∧ src ≠ 284 ∧ src ≠ 285 ∧
      (s.minClass src ≤ eventClass src event ∨ s.escalate src = 0) ∧ s.faults.queue.length < 64 ∧
      (s.actingBits src (eventClass src event) = 0 ∨ s.actingBits src (eventClass src event) = 1 ∨ s.actingBits src (eventClass src event) = 3) ∧
      n ≠ src) ∧
    (∃ (s : State) (src : Nat) (event : Nat), s.mode.firmware = true ∧ 224 ≤ src ∧ src < 320 ∧
      reservedSource src = false ∧ src ≠ 284 ∧ src ≠ 285 ∧
      (s.minClass src ≤ eventClass src event ∨ s.escalate src = 0) ∧ s.faults.queue.length < 64 ∧
      (s.actingBits src (eventClass src event) = 0 ∨ s.actingBits src (eventClass src event) = 1 ∨ s.actingBits src (eventClass src event) = 3) ∧
      s.actingBits src (eventClass src event) = 0) ∧
    (∃ (s : State) (src : Nat) (event : Nat), s.mode.firmware = true ∧ 224 ≤ src ∧ src < 320 ∧
      reservedSource src = false ∧ src ≠ 284 ∧ src ≠ 285 ∧
      (s.minClass src ≤ eventClass src event ∨ s.escalate src = 0) ∧ s.faults.queue.length < 64 ∧
      (s.actingBits src (eventClass src event) = 0 ∨ s.actingBits src (eventClass src event) = 1 ∨ s.actingBits src (eventClass src event) = 3) ∧
      s.actingBits src (eventClass src event) ≠ 0 ∧
      ∀ (e : FaultEntry), e ∈ s.faults.queue → ¬(e.source = src ∧ e.event = event)) ∧
    (∃ (s : State) (src : Nat) (event : Nat), s.mode.firmware = true ∧ 224 ≤ src ∧ src < 320 ∧
      reservedSource src = false ∧ src ≠ 284 ∧ src ≠ 285 ∧
      (s.minClass src ≤ eventClass src event ∨ s.escalate src = 0) ∧ s.faults.queue.length < 64 ∧
      (s.actingBits src (eventClass src event) = 0 ∨ s.actingBits src (eventClass src event) = 1 ∨ s.actingBits src (eventClass src event) = 3) ∧
      s.actingBits src (eventClass src event) ≠ 0 ∧ src ≠ 319 ∧ ∃ e, e ∈ s.faults.queue ∧ e.source = src ∧
      e.event = event) :=
  ⟨⟨{ tBase .run true false with desc.committed := tDesc [(11, 318, 1, 0)] }, 318, 1, 0, by decide +kernel⟩,
    ⟨{ tBase .run true false with desc.committed := tDesc [(11, 318, 1, 0)] }, 318, 1, by decide +kernel⟩,
    ⟨{ tBase .run true false with desc.committed := tDesc [(11, 290, 1, 3)] }, 290, 1, by decide +kernel⟩,
    ⟨{ tBase .run true false with faults.queue := [{ epoch := 0, source := 290, cls := 1, event := 1, repeats := 1, reaction := 3, data := [], count := 1 }], desc.committed := tDesc [(11, 290, 1, 3)] },
      290, 1, by decide +kernel⟩⟩

/-- States and operands that meet the hypotheses of the clauses of `Obligations.MemoryAndHoldEvents`. -/
theorem witness_MemoryAndHoldEvents :
    (∃ (s : State) (src : Nat), s.mode.firmware = false ∨ 320 ≤ src ∨ reservedSource src = true) ∧
    (∃ (s : State), s.mode.firmware = true ∧ ¬(s.anyHalted = true ∧ s.mode = Mode.service)) ∧
    (∃ (s : State) (b : Nat) (k : Nat), b < 16 ∧ b ≠ 14 ∧ 4 ≤ b ∧
      (s.held b = true ∨ b < 8 ∧ (s.clusterAt (b - 4)).calibrating = true) ∧ k ≠ b) ∧
    (∃ (s : State) (b : Nat) (k : Nat), b < 16 ∧ b ≠ 14 ∧ 4 ≤ b ∧
      (s.held b = true ∨ b < 8 ∧ (s.clusterAt (b - 4)).calibrating = true) ∧ k < 32) ∧
    (∃ (s : State), s.held 14 = true) ∧
    (∃ (s : State) (b : Nat), b < 4 ∧ s.held b = true ∧ (s.clusterAt b).initialised = true) ∧
    (∃ (s : State) (b : Nat), s.held b = false ∧ (b < 4 ∨ 8 ≤ b ∨ (s.clusterAt (b - 4)).calibrating = false)) ∧
    (∃ (s : State) (i : Nat), s.mode.firmware = true ∧ s.faults.merge = [] ∧ 200 ≤ i ∧ i < 224) ∧
    (∃ (s : State) (e : MergeEntry), e.inst = 201 ∧ e.mask < 15 ∧ s.faults.merge = [e] ∧ s.wordBad 201 e.word = false) :=
  ⟨⟨tBase .keep true false, 0, by decide +kernel⟩,
    ⟨tBase .run true false, by decide +kernel⟩,
    ⟨{ tBase .run true false with hold.held := 16 }, 4, 5, by decide +kernel⟩,
    ⟨{ tBase .run true false with hold.held := 32 }, 5, 5, by decide +kernel⟩,
    ⟨{ tBase .run true false with hold.held := 16384 }, by decide +kernel⟩,
    ⟨{ tBase .run true false with cluster := [(3, { initialised := true })], hold.held := 8 }, 3, by decide +kernel⟩,
    ⟨tBase .run true false, 0, by decide +kernel⟩,
    ⟨{ tBase .run true false with faults.merge := [] }, 200, by decide +kernel⟩,
    ⟨{ tBase .run true false with faults.merge := [{ inst := 201, word := 0, mask := 14, value := 0 }] },
      { inst := 201, word := 0, mask := 14, value := 0 }, by decide +kernel⟩⟩

/-- States and operands that meet the hypotheses of the clauses of `Obligations.BootSensesTriesAndEntersConfigure`. -/
theorem witness_BootSensesTriesAndEntersConfigure :
    (∃ (s : State) (i : Nat), s.mode = Mode.boot ∧ s.boot.step = 0 ∧ s.power.brace = none ∧ i < 32) ∧
    (∃ (s : State), s.mode = Mode.boot ∧ s.boot.step = 0 ∧ s.power.brace.isSome = true) ∧
    (∃ (s : State), s.mode = Mode.boot ∧ s.boot.step = 1) ∧
    (∃ (s : State), s.mode = Mode.boot ∧ s.boot.step = 2 ∧ s.boot.writes = []) ∧
    (∃ (s : State) (i : Nat) (rest : List Nat) (fails : Bool), s.mode = Mode.boot ∧ s.boot.step = 4 ∧
      s.boot.order = i :: rest ∧ s.boot.writes = [] ∧
      (if fails = true ∨ s.boot.cs0.khz = 0 then 9 else s.checkSlot i s.otp.bootDigest) = 0) ∧
    (∃ (s : State) (i : Nat) (rest : List Nat) (fails : Bool), s.mode = Mode.boot ∧ s.boot.step = 4 ∧
      s.boot.order = i :: rest ∧ s.boot.writes = [] ∧
      (if fails = true ∨ s.boot.cs0.khz = 0 then 9 else s.checkSlot i s.otp.bootDigest) ≠ 0) ∧
    (∃ (s : State), s.mode = Mode.boot ∧ s.boot.writes ≠ []) ∧
    (∃ (s : State), s.mode = Mode.boot ∧ s.boot.step = 5 ∧ s.boot.writes = []) ∧
    (∃ (s : State) (c : Nat), s.mode = Mode.boot ∧ s.boot.step = 7 ∧ s.host.hostKey = none ∧ s.tide.kRoot = none ∧
      s.sluice.own = false ∧ c < 4) ∧
    (∃ (s : State), s.mode = Mode.boot ∧ s.boot.step = 7 ∧ s.host.hostKey = none ∧ s.tide.kRoot = none ∧
      s.sluice.own = false ∧ s.boot.stateCode s.boot.running = 63) ∧
    (∃ (s : State), s.mode = Mode.boot ∧ s.boot.step = 7 ∧ s.host.hostKey = none ∧ s.tide.kRoot = none ∧
      s.sluice.own = false ∧ s.boot.stateCode s.boot.running ≠ 63) ∧
    (∃ (s : State), s.mode ≠ Mode.boot ∨ s.boot.step ≠ 7) :=
  ⟨⟨{ tBase .boot true false with boot.step := 0, power.brace := none }, 0, by decide +kernel⟩,
    ⟨{ tBase .boot true false with boot.step := 0, power.brace := some { causes := 1, minMv := [] } },
      by decide +kernel⟩,
    ⟨{ tBase .boot true false with boot.step := 1 }, by decide +kernel⟩,
    ⟨{ tBase .boot true false with boot.step := 2, boot.writes := [] }, by decide +kernel⟩,
    ⟨{ tBase .boot true false with boot.step := 4, boot.writes := [], boot.order := [0, 1], boot.cs0 := { khz := 1 }, boot.dataA := tImage 0 ([69, 70, 72, 78, 1, 0, 0, 0, 64, 0, 0, 0, 0, 0, 0, 0, 0, 0, 0, 0, 0, 0, 0, 0, 0, 0, 0, 0, 0, 0, 0, 0] ++ [245, 165, 253, 66, 209, 106, 32, 48, 39, 152, 239, 110, 211, 9, 151, 155, 67, 0, 61, 35, 32, 217, 240, 232, 234, 152, 49, 169, 39, 89, 251, 75] ++ [107, 23, 209, 242, 225, 44, 66, 71, 248, 188, 230, 229, 99, 164, 64, 242, 119, 3, 125, 129, 45, 235, 51, 160, 244, 161, 57, 69, 216, 152, 194, 150] ++ [79, 227, 66, 226, 254, 26, 127, 155, 142, 231, 235, 74, 124, 15, 158, 22, 43, 206, 51, 87, 107, 49, 94, 206, 203, 182, 64, 104, 55, 191, 81, 245] ++ [124, 242, 123, 24, 141, 3, 79, 126, 138, 82, 56, 3, 4, 181, 26, 195, 192, 137, 105, 226, 119, 242, 27, 53, 166, 11, 72, 252, 71, 102, 153, 120] ++ [224, 47, 185, 194, 164, 81, 242, 63, 47, 184, 246, 38, 2, 93, 206, 185, 213, 106, 69, 61, 29, 36, 106, 172, 95, 67, 19, 179, 206, 62, 56, 205] ++ zeros 128), otp.digest0 := some 71941966651439181731255131253748476600071339345811457704479305079427371333080, otp.words := [(199, sealedWord 0)] },
      0, [1], false, by decide +kernel⟩,
    ⟨{ tBase .boot true false with boot.step := 4, boot.writes := [], boot.order := [0, 1] }, 0, [1], true,
      by decide +kernel⟩,
    ⟨{ tBase .boot true false with boot.step := 4, boot.writes := [.mark 1 0 15] }, by decide +kernel⟩,
    ⟨{ tBase .boot true false with boot.step := 5, boot.writes := [] }, by decide +kernel⟩,
    ⟨{ tBase .boot true false with boot.step := 7, host.hostKey := none, tide.kRoot := none, sluice.own := false }, 0,
      by decide +kernel⟩,
    ⟨{ tBase .boot true false with boot.step := 7, host.hostKey := none, tide.kRoot := none, sluice.own := false, boot.table0 := tTable 0x3F 0xFF, boot.table1 := tTable 0x3F 0xFF },
      by decide +kernel⟩,
    ⟨{ tBase .boot true false with boot.step := 7, host.hostKey := none, tide.kRoot := none, sluice.own := false },
      by decide +kernel⟩,
    ⟨tBase .run true false, by decide +kernel⟩⟩

/-- States and operands that meet the hypotheses of the clauses of `Obligations.OtpAndFirmwareOrders`. -/
theorem witness_OtpAndFirmwareOrders :
    (∃ (s : State) (mb : Nat), s.starts 3841 mb ∧ (s.request mb).lay 4 [(2, 2)] = true ∧ 1 ≤ (s.request mb).u 1 1 ∧
      (s.request mb).u 1 1 ≤ 64 ∧ (s.request mb).u 0 1 + (s.request mb).u 1 1 ≤ 200 ∧ s.otp.job.isSome = true) ∧
    (∃ (s : State) (mb : Nat), s.starts 3841 mb ∧ (s.request mb).lay 4 [(2, 2)] = true ∧ 1 ≤ (s.request mb).u 1 1 ∧
      (s.request mb).u 1 1 ≤ 64 ∧ (s.request mb).u 0 1 + (s.request mb).u 1 1 ≤ 200 ∧ s.otp.job = none) ∧
    (∃ (s : State) (mb : Nat), s.starts 3842 mb ∧ (s.request mb).lay 8 [(1, 3)] = true ∧ s.otp.job = none ∧
      s.otp.lifecycle = 1 ∧ programmable ((s.request mb).u 0 1) = true ∧
      (s.otpAt ((s.request mb).u 0 1)).blank = true) ∧
    (∃ (s : State) (mb : Nat), s.starts 3842 mb ∧ (s.request mb).lay 8 [(1, 3)] = true ∧ s.otp.job = none ∧
      (s.otp.lifecycle ≠ 1 ∨ programmable ((s.request mb).u 0 1) = false ∨ (s.otpAt ((s.request mb).u 0 1)).blank = false)) ∧
    (∃ (s : State) (mb : Nat), s.starts 3843 mb ∧ (s.request mb).lay 8 [(1, 3)] = true ∧ s.otp.job = none ∧
      (s.request mb).u 0 1 = 2 ∧ (s.request mb).u 4 4 = 0 ∧ s.lifecycleMarked = 1 ∧
      (s.fieldGood 8 8 = true ∨ s.fieldGood 16 8 = true) ∧ s.fieldGood 32 8 = true ∧
      s.boot.header s.boot.running 6 2 < 2) ∧
    (∃ (s : State) (mb : Nat), s.starts 3843 mb ∧ (s.request mb).lay 8 [(1, 3)] = true ∧ s.otp.job = none ∧
      (s.request mb).u 0 1 = 3 ∧ (s.request mb).u 4 4 = 1380275273 ∧ s.lifecycleMarked = 2) ∧
    (∃ (s : State) (mb : Nat) (j : OtpJob), s.otp.job = some j ∧ s.starts 3842 mb) ∧
    (∃ (s : State) (mb : Nat) (j : OtpJob), s.otp.job = some j ∧ s.starts 3843 mb) ∧
    (∃ (s : State) (mb : Nat), s.starts 4097 mb ∧ (s.request mb).lay 0 [] = true) ∧
    (∃ (s : State) (mb : Nat), s.starts 4098 mb ∧ s.cs0Busy = false ∧ (s.request mb).u 0 1 ≤ 1 ∧
      1 ≤ (s.request mb).u 2 2 ∧ (s.request mb).u 2 2 ≤ 256 ∧
      (s.request mb).lay (8 + (s.request mb).u 2 2) [(1, 1)] = true ∧ (s.request mb).u 0 1 ≠ s.boot.running ∧
      (s.request mb).u 4 4 + (s.request mb).u 2 2 ≤ 3145984 ∧ (s.request mb).u 4 4 = 0) ∧
    (∃ (s : State) (mb : Nat), s.starts 4098 mb ∧ s.cs0Busy = false ∧ (s.request mb).u 0 1 ≤ 1 ∧
      1 ≤ (s.request mb).u 2 2 ∧ (s.request mb).u 2 2 ≤ 256 ∧
      (s.request mb).lay (8 + (s.request mb).u 2 2) [(1, 1)] = true ∧ (s.request mb).u 0 1 ≠ s.boot.running ∧
      (s.request mb).u 4 4 + (s.request mb).u 2 2 ≤ 3145984 ∧ (s.request mb).u 4 4 ≠ 0 ∧
      (s.request mb).u 4 4 = s.boot.written) ∧
    (∃ (s : State) (mb : Nat), s.starts 4099 mb ∧ s.cs0Busy = false ∧ (s.request mb).lay 8 [(1, 3)] = true ∧
      (s.request mb).u 0 1 ≤ 1 ∧ s.testFailed 2 = false ∧ s.testFailed 3 = false ∧
      s.commitCode ((s.request mb).u 0 1) ((s.request mb).u 4 4) = 0) ∧
    (∃ (s : State) (mb : Nat), s.starts 4099 mb ∧ s.cs0Busy = false ∧ (s.request mb).lay 8 [(1, 3)] = true ∧
      (s.request mb).u 0 1 ≤ 1 ∧ s.testFailed 2 = false ∧ s.testFailed 3 = false ∧
      s.commitCode ((s.request mb).u 0 1) ((s.request mb).u 4 4) ≠ 0) :=
  ⟨⟨{ tOrder 3841 [0, 1, 0, 0] .host (tBase .run true false) with otp.job := some { word := 5, value := 1, mailbox := 1 } },
  0, by unfold State.starts; decide +kernel⟩,
    ⟨{ tOrder 3841 [0, 1, 0, 0] .host (tBase .run true false) with otp.job := none }, 0,
      by unfold State.starts; decide +kernel⟩,
    ⟨{ tOrder 3842 [4, 0, 0, 0, 0, 0, 0, 0] .host (tBase .configure true false) with otp.job := none, otp.lifecycle := 1 },
      0, by unfold State.starts; decide +kernel⟩,
    ⟨{ tOrder 3842 [0, 0, 0, 0, 0, 0, 0, 0] .host (tBase .configure true false) with otp.job := none }, 0,
      by unfold State.starts; decide +kernel⟩,
    ⟨{ tOrder 3843 [2, 0, 0, 0, 0, 0, 0, 0] .host (tBase .configure true false) with otp.job := none, otp.words := [(0, sealedWord 1), (8, sealedWord 1), (9, sealedWord 1), (10, sealedWord 1), (11, sealedWord 1), (12, sealedWord 1), (13, sealedWord 1), (14, sealedWord 1), (15, sealedWord 1), (32, sealedWord 1), (33, sealedWord 1), (34, sealedWord 1), (35, sealedWord 1), (36, sealedWord 1), (37, sealedWord 1), (38, sealedWord 1), (39, sealedWord 1)], boot.dataA := [(6, 0), (7, 0)] },
      0, by unfold State.starts; decide +kernel⟩,
    ⟨{ tOrder 3843 [3, 0, 0, 0, 73, 84, 69, 82] .host (tBase .configure true false) with otp.job := none, otp.words := [(0, sealedWord 1), (1, sealedWord 1)] },
      0, by unfold State.starts; decide +kernel⟩,
    ⟨{ tOrder 3842 [] .host (tBase .configure true false) with otp.job := some { word := 5, value := 1, mailbox := 1 } },
      0, { word := 5, value := 1, mailbox := 1 }, by unfold State.starts; decide +kernel⟩,
    ⟨{ tOrder 3843 [] .host (tBase .configure true false) with otp.job := some { word := 5, value := 1, mailbox := 1 } },
      0, { word := 5, value := 1, mailbox := 1 }, by unfold State.starts; decide +kernel⟩,
    ⟨tOrder 4097 [] .host (tBase .run true false), 0, by unfold State.starts; decide +kernel⟩,
    ⟨tOrder 4098 [1, 0, 1, 0, 0, 0, 0, 0, 9] .host (tBase .run true false), 0, by unfold State.starts; decide +kernel⟩,
    ⟨{ tOrder 4098 [1, 0, 1, 0, 4, 0, 0, 0, 9] .host (tBase .run true false) with boot.written := 4 }, 0,
      by unfold State.starts; decide +kernel⟩,
    ⟨{ tOrder 4099 [1, 0, 0, 0, 64, 1, 0, 0] .host (tBase .run true false) with boot.writeSlot := 1, boot.written := 320, boot.dataB := tImage 0 ([69, 70, 72, 78, 1, 0, 0, 0, 64, 0, 0, 0, 0, 0, 0, 0, 0, 0, 0, 0, 0, 0, 0, 0, 0, 0, 0, 0, 0, 0, 0, 0] ++ [245, 165, 253, 66, 209, 106, 32, 48, 39, 152, 239, 110, 211, 9, 151, 155, 67, 0, 61, 35, 32, 217, 240, 232, 234, 152, 49, 169, 39, 89, 251, 75] ++ [107, 23, 209, 242, 225, 44, 66, 71, 248, 188, 230, 229, 99, 164, 64, 242, 119, 3, 125, 129, 45, 235, 51, 160, 244, 161, 57, 69, 216, 152, 194, 150] ++ [79, 227, 66, 226, 254, 26, 127, 155, 142, 231, 235, 74, 124, 15, 158, 22, 43, 206, 51, 87, 107, 49, 94, 206, 203, 182, 64, 104, 55, 191, 81, 245] ++ [124, 242, 123, 24, 141, 3, 79, 126, 138, 82, 56, 3, 4, 181, 26, 195, 192, 137, 105, 226, 119, 242, 27, 53, 166, 11, 72, 252, 71, 102, 153, 120] ++ [224, 47, 185, 194, 164, 81, 242, 63, 47, 184, 246, 38, 2, 93, 206, 185, 213, 106, 69, 61, 29, 36, 106, 172, 95, 67, 19, 179, 206, 62, 56, 205] ++ zeros 128), otp.words := [(8, sealedWord 2111534552), (9, sealedWord 908207087), (10, sealedWord 3325609902), (11, sealedWord 2151594928), (12, sealedWord 257765140), (13, sealedWord 618656984), (14, sealedWord 4126070526), (15, sealedWord 2668475851), (199, sealedWord 0)] },
      0, by unfold State.starts; decide +kernel⟩,
    ⟨{ tOrder 4099 [1, 0, 0, 0, 0, 0, 0, 0] .host (tBase .run true false) with boot.writeSlot := 1 }, 0,
      by unfold State.starts; decide +kernel⟩⟩

/-- States and operands that meet the hypotheses of the clauses of `Obligations.WakeEventStartsSeries`. -/
theorem witness_WakeEventStartsSeries :
    (∃ (s : State), s.mode = Mode.off) ∧
    (∃ (s : State) (i : Instr) (b : Nat), (i = Instr.wakeNLow ∧ b = 0 ∨ i = Instr.rtcAlarm ∧ b = 3 ∧ s.retained.alarmNs ≠ 0 ∧ s.mode ≠ Mode.stranded ∨ i = Instr.inuvRecover ∧ b = 4 ∧ s.power.inuvTripped = true) ∧
      s.mode.asleep = true ∧ s.retained.wakeEnable.testBit b = true ∧ s.power.wake.phase = WakePhase.idle ∧
      s.power.wake.pending = none ∧ s.power.resetN = true ∧ i ≠ Instr.rtcAlarm) ∧
    (∃ (s : State) (b : Nat), (Instr.rtcAlarm = Instr.wakeNLow ∧ b = 0 ∨ Instr.rtcAlarm = Instr.rtcAlarm ∧ b = 3 ∧ s.retained.alarmNs ≠ 0 ∧ s.mode ≠ Mode.stranded ∨ Instr.rtcAlarm = Instr.inuvRecover ∧ b = 4 ∧ s.power.inuvTripped = true) ∧
      s.mode.asleep = true ∧ s.retained.wakeEnable.testBit b = true ∧ s.power.wake.phase = WakePhase.idle ∧
      s.power.wake.pending = none ∧ s.power.resetN = true) ∧
    (∃ (s : State), s.mode.asleep = true ∧ s.mode ≠ Mode.stranded ∧ s.retained.wakeEnable.testBit 0 = false) :=
  ⟨⟨tBase .off true false, by decide +kernel⟩,
    ⟨{ tBase .keep true false with retained.wakeEnable := 2 ^ 0, power.wake.phase := WakePhase.idle, power.wake.pending := none, power.resetN := true },
      Instr.wakeNLow, 0, by decide +kernel⟩,
    ⟨{ tBase .keep true false with retained.wakeEnable := 15, power.wake.phase := WakePhase.idle, power.wake.pending := none, power.resetN := true, retained.alarmNs := 5 },
      3, by decide +kernel⟩,
    ⟨{ tBase .keep true false with retained.wakeEnable := 6 }, by decide +kernel⟩⟩

/-- States and operands that meet the hypotheses of the clauses of `Obligations.WakeAttemptReachesBootOrFails`. -/
theorem witness_WakeAttemptReachesBootOrFails :
    (∃ (s : State) (n : Nat), n < 3 ∧ s.power.wake.phase = WakePhase.waitPg n) ∧
    (∃ (s : State), s.power.wake.phase = WakePhase.waitPg 3) ∧
    (∃ (s : State) (n : Nat), n < 3 ∧ s.power.wake.phase ≠ WakePhase.waitPg n) ∧
    (∃ (s : State), s.power.wake.crystalOn = true) ∧
    (∃ (s : State), s.power.wake.phase = WakePhase.switching ∧ ∀ (d : Nat), s.domain d = true → d = 1 ∨ d = 13) ∧
    (∃ (s : State), s.power.wake.phase = WakePhase.switching ∧ (∀ (d : Nat), s.domain d = true → d = 1 ∨ d = 13) ∧
      s.domain 13 = true) ∧
    (∃ (s : State), s.power.wake.phase = WakePhase.switching ∧ (∀ (d : Nat), s.domain d = true → d = 1 ∨ d = 13) ∧
      s.domain 13 = false) ∧
    (∃ (s : State), s.power.wake.phase = WakePhase.releasing ∧ s.gauge.hib = false) ∧
    (∃ (s : State) (i : Instr) (code : Nat) (ns : Nat), (∀ (d : Nat), s.domain d = true → d = 1 ∨ d = 13 ∧ s.mode = Mode.gaugeWatch) ∧
      ((∃ n, n < 4 ∧ i = Instr.pgTimeout n ns ∧ s.power.wake.phase = WakePhase.waitPg n ∧ code = n + 1) ∨ i = Instr.crystalTimeout ns ∧ s.power.wake.crystalOn = true ∧ s.power.wake.crystalReady = false ∧ code = 5) ∧
      s.power.ret.attempts < 4) ∧
    (∃ (s : State) (i : Instr) (code : Nat) (ns : Nat), (∀ (d : Nat), s.domain d = true → d = 1 ∨ d = 13 ∧ s.mode = Mode.gaugeWatch) ∧
      ((∃ n, n < 4 ∧ i = Instr.pgTimeout n ns ∧ s.power.wake.phase = WakePhase.waitPg n ∧ code = n + 1) ∨ i = Instr.crystalTimeout ns ∧ s.power.wake.crystalOn = true ∧ s.power.wake.crystalReady = false ∧ code = 5) ∧
      4 ≤ s.power.ret.attempts) :=
  ⟨⟨{ tBase .run true false with power.wake.phase := .waitPg 2 }, 2, by decide +kernel⟩,
    ⟨{ tBase .run true false with power.wake.phase := .waitPg 3 }, by decide +kernel⟩,
    ⟨tBase .run true false, 0, by decide +kernel⟩,
    ⟨{ tBase .run true false with power.wake.crystalOn := true }, by decide +kernel⟩,
    ⟨{ tBase .keep true true with power.wake.phase := .switching, power.domains := 0 }, rfl,
      (fun d h => by rw [tDomain (by decide) d] at h; cases h)⟩,
    ⟨{ tBase .keep true true with power.wake.phase := .switching, power.domains := 2 ^ 13 }, rfl,
      (fun d h => .inr (tDomain13 (by decide) h)), by decide⟩,
    ⟨{ tBase .keep true true with power.wake.phase := .switching, power.domains := 0 }, rfl,
      (fun d h => by rw [tDomain (by decide) d] at h; cases h), by decide⟩,
    ⟨{ tBase .run true false with power.wake.phase := WakePhase.releasing, gauge.hib := false }, by decide +kernel⟩,
    ⟨{ tBase .keep true true with power.wake.phase := .waitPg 3, power.domains := 0 }, Instr.pgTimeout 3 7, 4, 7,
      (fun d h => by rw [tDomain (by decide) d] at h; cases h), Or.inl ⟨3, by decide, rfl, rfl, rfl⟩, by decide⟩,
    ⟨{ tBase .keep true true with power.ret.attempts := 4, power.wake.phase := .waitPg 3, power.domains := 0 },
      Instr.pgTimeout 3 7, 4, 7, (fun d h => by rw [tDomain (by decide) d] at h; cases h), Or.inl ⟨3, by decide, rfl,
      rfl, rfl⟩, by decide⟩⟩

/-- States and operands that meet the hypotheses of the clauses of `Obligations.ChipResetsBeginAndProceed`. -/
theorem witness_ChipResetsBeginAndProceed :
    (∃ (s : State) (i : Instr) (cause : Nat), s.mode.firmware = true ∧ s.mode ≠ Mode.lastGasp ∧
      s.power.chipReset = none ∧
      (i = Instr.resetNLow ∧ s.power.wake.phase = WakePhase.idle ∧ cause = 1 ∨ (∃ n, i = Instr.pgLost n ∧ cause = 3) ∨ ∃ m, i = Instr.supplyReset m ∧ s.power.armed.testBit m = true ∧ s.monitorPowered m = true ∧ m ≠ 20 ∧ cause = 2) ∧
      s.log.burst = none) ∧
    (∃ (s : State), s.mode = Mode.keep ∧ s.power.wake.pending = some SeriesKind.chipReset ∧ s.dbg.scanHold = false ∧
      s.power.resetN = true ∧ s.power.inuvTripped = false) ∧
    (∃ (s : State), s.mode = Mode.keep ∧ s.power.wake.pending = none) ∧
    (∃ (s : State), s.mode = Mode.keep ∧ s.power.wake.pending = some SeriesKind.chipReset ∧
      s.power.wake.pendingReady = true ∧ s.dbg.scanHold = false ∧ s.power.inuvTripped = false) ∧
    (∃ (s : State) (r : ChipReset) (us : Nat), s.power.chipReset = some r ∧ (s.log.drained = true ∨ 150 ≤ us)) ∧
    (∃ (s : State) (r : ChipReset) (us : Nat), s.power.chipReset = some r ∧ s.log.drained = false ∧ us < 150) ∧
    (∃ (s : State), s.boot.watchdogArmed = true ∧ s.boot.watchdogPaused = false) ∧
    (∃ (s : State) (n : Nat) (d : Bool), s.power.svcReset = some n ∧ (d = false ∨ 16 ≤ n ∨ (s.mbAt n).done = false)) ∧
    (∃ (s : State) (ns : Nat), s.mode = Mode.boot ∧ s.boot.step < 6 ∧
      (((s.rtcRuns ns).setEcc 221 fun e => { corrected := e.corrected, uncorrectable := (e.uncorrectable + 1) % 2 ^ 32, poisoned := e.poisoned, persistent := e.persistent, uninitialised := e.uninitialised, passes := e.passes, rowsUsed := e.rowsUsed, colsUsed := e.colsUsed, lastBank := e.lastBank, lastRow := e.lastRow, scrub := e.scrub, lastPass := e.lastPass, thisPass := e.thisPass, bad := e.bad }).raise 221 4 []).boot.romErrors ≠ 0) ∧
    (∃ (s : State) (ns : Nat), s.mode = Mode.boot ∧ s.boot.step < 6 ∧
      (((s.rtcRuns ns).setEcc 221 fun e => { corrected := e.corrected, uncorrectable := (e.uncorrectable + 1) % 2 ^ 32, poisoned := e.poisoned, persistent := e.persistent, uninitialised := e.uninitialised, passes := e.passes, rowsUsed := e.rowsUsed, colsUsed := e.colsUsed, lastBank := e.lastBank, lastRow := e.lastRow, scrub := e.scrub, lastPass := e.lastPass, thisPass := e.thisPass, bad := e.bad }).raise 221 4 []).boot.romErrors = 0 ∧
      (((s.rtcRuns ns).setEcc 221 fun e => { corrected := e.corrected, uncorrectable := (e.uncorrectable + 1) % 2 ^ 32, poisoned := e.poisoned, persistent := e.persistent, uninitialised := e.uninitialised, passes := e.passes, rowsUsed := e.rowsUsed, colsUsed := e.colsUsed, lastBank := e.lastBank, lastRow := e.lastRow, scrub := e.scrub, lastPass := e.lastPass, thisPass := e.thisPass, bad := e.bad }).raise 221 4 []).boot.writes = []) ∧
    (∃ (s : State), s.boot.writes = []) :=
  ⟨⟨{ tBase .run false true with power.chipReset := none, log.burst := none }, Instr.resetNLow, 1, by decide, by decide,
  by decide, Or.inl ⟨rfl, by decide, rfl⟩, by decide⟩,
    ⟨{ tBase .keep true false with power.wake.pending := some SeriesKind.chipReset, power.resetN := true, power.inuvTripped := false, dbg := { scanHold := false } },
      by decide +kernel⟩,
    ⟨{ tBase .keep true false with power.wake.pending := none }, by decide +kernel⟩,
    ⟨{ tBase .keep true false with power.wake.pending := some SeriesKind.chipReset, power.wake.pendingReady := true, power.inuvTripped := false, dbg := { scanHold := false } },
      by decide +kernel⟩,
    ⟨{ tBase .run true false with power.chipReset := some { orderly := false, fromMode := 7 }, log.next := 2 },
      { orderly := false, fromMode := 7 }, 150, by decide +kernel⟩,
    ⟨{ tBase .run true false with power.chipReset := some { orderly := false, fromMode := 7 }, log.next := 2 },
      { orderly := false, fromMode := 7 }, 149, by decide +kernel⟩,
    ⟨{ tBase .run true false with boot.watchdogArmed := true, boot.watchdogPaused := false }, by decide +kernel⟩,
    ⟨{ tBase .run true false with power.svcReset := some 2 }, 2, false, by decide +kernel⟩,
    ⟨{ tBase .boot true false with boot.step := 5, boot.romErrors := 1 }, 0, by decide +kernel⟩,
    ⟨{ tBase .boot true false with boot.step := 5 }, 0, by decide +kernel⟩,
    ⟨{ tBase .run true false with boot.writes := [] }, by decide +kernel⟩⟩

/-- States and operands that meet the hypotheses of the clauses of `Obligations.LastGaspSequence`. -/
theorem witness_LastGaspSequence :
    (∃ (s : State), s.mode.firmware = true ∧ s.mode ≠ Mode.lastGasp) ∧
    (∃ (d : Nat), d ∈ [14, 15, 16, 19, 20]) ∧
    (∃ (s : State), s.mode.firmware = false ∧
      (∀ (d : Nat), s.domain d = true → d = 1 ∨ d = 13 ∧ s.mode = Mode.gaugeWatch) ∧
      s.power.wake.phase = WakePhase.waitPg 0 ∧ s.power.wake.kind = SeriesKind.wake) ∧
    (∃ (s : State), s.mode = Mode.lastGasp ∧ s.power.inuvTripped = true) ∧
    (∃ (s : State) (c : Nat), s.power.gasp = GaspPhase.ramping ∧ c < 128) ∧
    (∃ (s : State) (k : Nat), s.power.gasp = GaspPhase.ramping ∧ k ∈ s.enabledOuts ∧ (s.outAt k).live = true) ∧
    (∃ (s : State) (d : Bool), s.mode = Mode.lastGasp ∧ s.power.gasp = GaspPhase.rampsDone ∧
      (d = false ∨ s.log.drained = true) ∧ (s.power.gaspRecovered && s.retained.autoRestart) = false) ∧
    (∃ (s : State) (d : Bool), s.mode = Mode.lastGasp ∧ s.power.gasp = GaspPhase.rampsDone ∧
      (d = false ∨ s.log.drained = true) ∧ s.power.gaspRecovered = true ∧ s.retained.autoRestart = true ∧
      s.power.resetN = true ∧ s.power.inuvTripped = false ∧ s.dbg.scanHold = false) :=
  ⟨⟨tBase .run true false, by decide +kernel⟩,
    ⟨16, by decide +kernel⟩,
    ⟨{ tBase .keep true true with power.wake.kind := SeriesKind.wake, power.wake.phase := .waitPg 0, power.domains := 0 },
      rfl, (fun d h => by rw [tDomain (by decide) d] at h; cases h), rfl, rfl⟩,
    ⟨{ tBase .lastGasp true false with power.inuvTripped := true }, by decide +kernel⟩,
    ⟨{ tBase .run true false with power.gasp := GaspPhase.ramping }, 0, by decide +kernel⟩,
    ⟨{ tBase .run true false with power.gasp := GaspPhase.ramping, out := [(0, { state := 3 })], desc.committed := tDesc [(2, 0, 1, 1)] },
      0, by decide +kernel⟩,
    ⟨{ tBase .lastGasp true false with power.gasp := GaspPhase.rampsDone }, false, by decide +kernel⟩,
    ⟨{ tBase .lastGasp true false with power.gasp := GaspPhase.rampsDone, power.gaspRecovered := true, retained.autoRestart := true, power.resetN := true, power.inuvTripped := false, dbg := { scanHold := false } },
      false, by decide +kernel⟩⟩

/-- States and operands that meet the hypotheses of the clauses of `Obligations.BracesAndClockMonitors`. -/
theorem witness_BracesAndClockMonitors :
    (∃ (s : State) (m : Nat), s.power.armed.testBit m = true ∧ s.monitorPowered m = true ∧
      s.power.below.testBit m = false ∧ s.power.brace = none) ∧
    (∃ (s : State) (m : Nat) (b : Brace) (k : Nat), s.power.armed.testBit m = true ∧ s.monitorPowered m = true ∧
      s.power.below.testBit m = true ∧ s.power.brace = some b ∧ k ≠ m) ∧
    (∃ (s : State) (m : Nat), s.power.armed.testBit m = false ∨ s.monitorPowered m = false) ∧
    (∃ (s : State) (b : Brace), s.power.brace = some b ∧ s.mode.firmware = false) ∧
    (∃ (s : State) (b : Brace), s.power.brace = some b ∧ s.mode.firmware = true) ∧
    (∃ (s : State) (m : Nat), s.monitorPowered m = false) ∧
    (∃ (s : State), s.mode.firmware = true ∧ s.clocks.refLost = false) ∧
    (∃ (s : State), s.clocks.refLost = true) ∧
    (∃ (s : State), s.clocks.rtcLost = false ∧ s.mode.firmware = true) ∧
    (∃ (s : State), s.clocks.rtcLost = false ∧ s.mode.firmware = false) ∧
    (∃ (s : State), s.clocks.rtcLost = true) ∧
    (∃ (s : State) (p : Nat), s.mode.firmware = true ∧ p < 12 ∧ s.mode = Mode.boot) ∧
    (∃ (s : State) (p : Nat), s.mode.firmware = true ∧ p < 12 ∧ s.mode ≠ Mode.boot) ∧
    (∃ (s : State) (n : Nat), (s.srcAt n).present = true) ∧
    (∃ (s : State) (n : Nat), (s.srcAt n).present = false) :=
  ⟨⟨{ tBase .run true false with power.armed := 1, power.brace := none }, 0, by decide +kernel⟩,
    ⟨{ tBase .run true false with power.armed := 2 ^ 0, power.below := 2 ^ 0, power.brace := some { causes := 1, minMv := [] } },
      0, { causes := 1, minMv := [] }, 1, by decide +kernel⟩,
    ⟨tBase .run true false, 0, by decide +kernel⟩,
    ⟨{ tBase .keep true false with power.brace := some { causes := 1, minMv := [] } }, { causes := 1, minMv := [] },
      by decide +kernel⟩,
    ⟨{ tBase .run true false with power.brace := some { causes := 1, minMv := [] } }, { causes := 1, minMv := [] },
      by decide +kernel⟩,
    ⟨tBase .run true false, 18, by decide +kernel⟩,
    ⟨{ tBase .run true false with clocks.refLost := false }, by decide +kernel⟩,
    ⟨{ tBase .run true false with clocks.refLost := true }, by decide +kernel⟩,
    ⟨{ tBase .run true false with clocks.rtcLost := false }, by decide +kernel⟩,
    ⟨{ tBase .keep true false with clocks.rtcLost := false }, by decide +kernel⟩,
    ⟨{ tBase .run true false with clocks.rtcLost := true }, by decide +kernel⟩,
    ⟨tBase .boot true false, 0, by decide +kernel⟩,
    ⟨tBase .run true false, 0, by decide +kernel⟩,
    ⟨{ tBase .run true false with faults.src := [(0, { present := true })] }, 0, by decide +kernel⟩,
    ⟨{ tBase .run true false with faults.src := [(0, { present := false })] }, 0, by decide +kernel⟩⟩

/-- States and operands that meet the hypotheses of the clauses of `Obligations.PushButtonActs`. -/
theorem witness_PushButtonActs :
    (∃ (s : State) (hi : Nat) (low : Nat), s.power.pbN = true ∧ (s.power.pbAfterLong = false ∨ 50 ≤ hi) ∧ 50 ≤ low) ∧
    (∃ (s : State) (hi : Nat) (low : Nat), s.power.pbN = true ∧ (s.power.pbAfterLong = false ∨ 50 ≤ hi) ∧ low < 50) ∧
    (∃ (s : State) (low : Nat), s.power.pbN = false ∧ s.power.pbAfterLong = false ∧ 50 ≤ low) ∧
    (∃ (s : State) (ms : Nat), s.power.pbN = false ∧ 50 ≤ ms ∧ ms ≤ 2000 ∧ s.mode.active = true) ∧
    (∃ (s : State) (ms : Nat), s.power.pbN = false ∧ 2000 < ms ∧ ms < 8000 ∧ s.mode.firmware = true) ∧
    (∃ (s : State) (ms : Nat), s.power.pbN = false ∧ (ms < 50 ∨ 8000 ≤ ms)) ∧
    (∃ (s : State), s.power.pbN = false ∧ s.power.pbMayBeLong = true ∧ s.power.longPressActive = false ∧
      s.mode = Mode.gaugeWatch) ∧
    (∃ (s : State) (k : Nat), s.power.pbN = false ∧ s.power.pbMayBeLong = true ∧ s.power.longPressActive = false ∧
      s.mode.active = true ∧ k < 128) ∧
    (∃ (s : State) (k : Nat), s.power.longPressActive = true ∧ k ∈ s.enabledOuts) ∧
    (∃ (s : State) (us : Nat), s.power.longPress = true ∧ s.power.longPressActive = false ∧ s.mode.active = true ∧
      (s.log.drained = true ∨ 100000 ≤ us)) :=
  ⟨⟨{ tBase .run true false with power.pbN := true }, 50, 50, by decide +kernel⟩,
    ⟨{ tBase .run true false with power.pbN := true }, 0, 0, by decide +kernel⟩,
    ⟨{ tBase .run true false with power.pbN := false, power.pbAfterLong := false }, 50, by decide +kernel⟩,
    ⟨{ tBase .run true false with power.pbN := false }, 50, by decide +kernel⟩,
    ⟨{ tBase .run true false with power.pbN := false }, 7999, by decide +kernel⟩,
    ⟨{ tBase .run true false with power.pbN := false }, 0, by decide +kernel⟩,
    ⟨{ tBase .gaugeWatch true false with power.pbN := false, power.pbMayBeLong := true, power.longPressActive := false },
      by decide +kernel⟩,
    ⟨{ tBase .run true false with power.pbN := false, power.pbMayBeLong := true, power.longPressActive := false }, 0,
      by decide +kernel⟩,
    ⟨{ tBase .run true false with power.longPressActive := true, desc.committed := tDesc [(2, 0, 1, 1)] }, 0,
      by decide +kernel⟩,
    ⟨{ tBase .run true false with power.longPress := true, power.longPressActive := false }, 0, by decide +kernel⟩⟩

/-- States and operands that meet the hypotheses of the clauses of `Obligations.ObjectReadAndLoadOrders`. -/
theorem witness_ObjectReadAndLoadOrders :
    (∃ (s : State) (mb : Nat) (ds : List FieldDef), s.starts 769 mb ∧
      (s.request mb).lay (4 + 4 * (s.request mb).u 1 1) [(2, 2)] = true ∧ (s.request mb).u 0 1 = 0 ∧
      1 ≤ (s.request mb).u 1 1 ∧ (s.request mb).u 1 1 ≤ 60 ∧
      List.map pairDef ((s.request mb).pairs ((s.request mb).u 1 1)) = List.map some ds ∧
      (List.map (fun p => s.taken.getEntry 0 p) ((s.request mb).pairs ((s.request mb).u 1 1))).flatten.length ≤ 492 ∧
      ∀ (d : FieldDef), d ∈ ds → d.effect ≠ Effect.ro) ∧
    (∃ (s : State) (mb : Nat) (ds : List FieldDef), s.starts 769 mb ∧
      (s.request mb).lay (4 + 4 * (s.request mb).u 1 1) [(2, 2)] = true ∧ (s.request mb).u 0 1 = 0 ∧
      1 ≤ (s.request mb).u 1 1 ∧ (s.request mb).u 1 1 ≤ 60 ∧
      List.map pairDef ((s.request mb).pairs ((s.request mb).u 1 1)) = List.map some ds ∧
      (List.map (fun p => s.taken.getEntry 0 p) ((s.request mb).pairs ((s.request mb).u 1 1))).flatten.length ≤ 492 ∧
      ∃ d, d ∈ ds ∧ d.effect = Effect.ro) ∧
    (∃ (s : State) (mb : Nat), s.starts 772 mb ∧ (s.request mb).lay 0 [] = true) ∧
    (∃ (s : State) (mb : Nat) (k : Nat), s.starts 776 mb ∧ (s.request mb).lay 8 [(6, 2)] = true ∧
      1 ≤ (s.request mb).u 4 2 ∧ (s.request mb).u 4 2 ≤ 480 ∧ s.desc.readCopy = some k ∧
      (s.request mb).u 0 4 + (s.request mb).u 4 2 ≤ List.length (imageOf (s.desc.valuesOf k) (s.desc.seqOf k))) ∧
    (∃ (s : State) (mb : Nat), s.starts 776 mb ∧ (s.request mb).lay 8 [(6, 2)] = true ∧ 1 ≤ (s.request mb).u 4 2 ∧
      (s.request mb).u 4 2 ≤ 480 ∧ s.desc.readCopy = none) ∧
    (∃ (s : State) (mb : Nat), s.starts 775 mb ∧ (s.request mb).lay (8 + (s.request mb).u 4 2) [(6, 2)] = true ∧
      1 ≤ (s.request mb).u 4 2 ∧ (s.request mb).u 4 2 ≤ 488 ∧ s.desc.edit = some (s.request mb).session ∧
      s.ownCommit (s.request mb) = false ∧
      chunkOverlaps s.desc.load ((s.request mb).u 0 4) ((s.request mb).u 4 2) = false ∧
      (∀ (m : Nat), imageTotal (putImage s.desc.load ((s.request mb).u 0 4) (slice (s.request mb).payload 8 ((s.request mb).u 4 2))) = some m → ∀ (e : Nat × Nat), e ∈ putImage s.desc.load ((s.request mb).u 0 4) (slice (s.request mb).payload 8 ((s.request mb).u 4 2)) → e.fst < m) ∧
      imageTotal (putImage s.desc.load ((s.request mb).u 0 4) (slice (s.request mb).payload 8 ((s.request mb).u 4 2))) ≠ some (List.length (putImage s.desc.load ((s.request mb).u 0 4) (slice (s.request mb).payload 8 ((s.request mb).u 4 2))))) ∧
    (∃ (s : State) (mb : Nat) (seq : Nat) (values : Tab (Option Int)), s.starts 775 mb ∧
      (s.request mb).lay (8 + (s.request mb).u 4 2) [(6, 2)] = true ∧ 1 ≤ (s.request mb).u 4 2 ∧
      (s.request mb).u 4 2 ≤ 488 ∧ s.desc.edit = some (s.request mb).session ∧ s.ownCommit (s.request mb) = false ∧
      chunkOverlaps s.desc.load ((s.request mb).u 0 4) ((s.request mb).u 4 2) = false ∧
      (∀ (m : Nat), imageTotal (putImage s.desc.load ((s.request mb).u 0 4) (slice (s.request mb).payload 8 ((s.request mb).u 4 2))) = some m → ∀ (e : Nat × Nat), e ∈ putImage s.desc.load ((s.request mb).u 0 4) (slice (s.request mb).payload 8 ((s.request mb).u 4 2)) → e.fst < m) ∧
      imageTotal (putImage s.desc.load ((s.request mb).u 0 4) (slice (s.request mb).payload 8 ((s.request mb).u 4 2))) = some (List.length (putImage s.desc.load ((s.request mb).u 0 4) (slice (s.request mb).payload 8 ((s.request mb).u 4 2)))) ∧
      judgeImage (imageBytes (putImage s.desc.load ((s.request mb).u 0 4) (slice (s.request mb).payload 8 ((s.request mb).u 4 2))) (List.length (putImage s.desc.load ((s.request mb).u 0 4) (slice (s.request mb).payload 8 ((s.request mb).u 4 2))))) = ImageJudged.good seq values ∧
      (cutEntries 65536 (List.drop 64 (imageBytes (putImage s.desc.load ((s.request mb).u 0 4) (slice (s.request mb).payload 8 ((s.request mb).u 4 2))) (List.length (putImage s.desc.load ((s.request mb).u 0 4) (slice (s.request mb).payload 8 ((s.request mb).u 4 2))))))).fst.any (Entry.unfeatured (s.request mb).feats) = false) :=
  ⟨⟨tOrder 769 [0, 1, 0, 0, 0, 32, 1, 0] .host (tBase .run true false), 0, (pairDef (8192, 1)).toList,
  by unfold State.starts; decide +kernel⟩,
    ⟨tOrder 769 [0, 1, 0, 0, 0, 16, 128, 0] .host (tBase .run true false), 0, (pairDef (4096, 0x80)).toList,
      by unfold State.starts; decide +kernel⟩,
    ⟨tOrder 772 [] .host (tBase .run true false), 0, by unfold State.starts; decide +kernel⟩,
    ⟨{ tOrder 776 [63, 0, 0, 0, 1, 0, 0, 0] .host (tBase .run true false) with desc.store0Valid := true, desc.store0Seq := 1, desc.store0Applied := 1, desc.sequence := 1 },
      0, 0, by unfold State.starts; decide +kernel⟩,
    ⟨tOrder 776 [0, 0, 0, 0, 1, 0, 0, 0] .host (tBase .run true false), 0, by unfold State.starts; decide +kernel⟩,
    ⟨{ tOrder 775 [0, 0, 0, 0, 1, 0, 0, 0, 7] .host (tBase .run true true) with desc.edit := some 1 }, 0,
      by unfold State.starts; decide +kernel, by decide +kernel, by decide +kernel, by decide +kernel,
      by decide +kernel, by decide +kernel, by decide +kernel,
      (fun m h => by have h2 := (Eq.symm (b := (none : Option Nat)) (by decide +kernel)).trans h; cases h2),
      by decide +kernel⟩,
    ⟨{ tOrder 775 (leBytes 4 0 ++ [136, 0, 0, 0] ++ imageOf [] 5) .host (tBase .run true true) with desc.edit := some 1 },
      0, 5, tValues, by unfold State.starts; decide +kernel, by decide +kernel, by decide +kernel, by decide +kernel,
      by decide +kernel, by decide +kernel, by decide +kernel,
      fun m h => by have h2 := (Eq.symm (b := some 136) (by decide +kernel)).trans h; cases h2; decide +kernel,
      by decide +kernel, by decide +kernel, by decide +kernel⟩⟩

/-- States and operands that meet the hypotheses of the clauses of `Obligations.ObjectReadAndLoadOrders`. -/
theorem witness_ObjectReadAndLoadOrders_load :
    ∃ (s : State) (mb : Nat), s.starts 775 mb ∧ (s.request mb).lay (8 + (s.request mb).u 4 2) [(6, 2)] = true ∧
      1 ≤ (s.request mb).u 4 2 ∧ (s.request mb).u 4 2 ≤ 488 ∧ s.desc.edit = some (s.request mb).session ∧
      s.ownCommit (s.request mb) = false ∧
      chunkOverlaps s.desc.load ((s.request mb).u 0 4) ((s.request mb).u 4 2) = true :=
  ⟨{ tOrder 775 [0, 0, 0, 0, 1, 0, 0, 0, 7] .host (tBase .run true false) with desc.edit := some 1, desc.load := [(0, 1)] },
    0, by unfold State.starts; decide +kernel⟩

/-- States and operands that meet the hypotheses of the clauses of `Obligations.ObjectEditOrders`. -/
theorem witness_ObjectEditOrders :
    (∃ (s : State) (mb : Nat), s.starts 771 mb ∧ s.desc.edit = none ∧ (s.request mb).lay 0 [] = true) ∧
    (∃ (s : State) (mb : Nat) (n : Nat), s.starts 771 mb ∧ s.desc.edit = some n) ∧
    (∃ (s : State) (mb : Nat) (es : List Entry), s.starts 770 mb ∧ s.ownCommit (s.request mb) = false ∧
      4 ≤ (s.request mb).len ∧ (s.request mb).len ≤ 496 ∧ 1 ≤ (s.request mb).u 0 1 ∧ (s.request mb).u 0 1 ≤ 61 ∧
      allZero (s.request mb).payload 1 3 = true ∧
      cutEntries ((s.request mb).u 0 1) (slice (s.request mb).payload 4 ((s.request mb).len - 4)) = (es, []) ∧
      es.length = (s.request mb).u 0 1 ∧ es.any (Entry.unfeatured (s.request mb).feats) = true) ∧
    (∃ (s : State) (mb : Nat) (es : List Entry), s.starts 770 mb ∧ s.ownCommit (s.request mb) = false ∧
      4 ≤ (s.request mb).len ∧ (s.request mb).len ≤ 496 ∧ 1 ≤ (s.request mb).u 0 1 ∧ (s.request mb).u 0 1 ≤ 61 ∧
      allZero (s.request mb).payload 1 3 = true ∧
      cutEntries ((s.request mb).u 0 1) (slice (s.request mb).payload 4 ((s.request mb).len - 4)) = (es, []) ∧
      es.length = (s.request mb).u 0 1 ∧ es.any (Entry.unfeatured (s.request mb).feats) = false ∧
      s.taken.setFault (s.request mb) es = none ∧ s.desc.edit = some (s.request mb).session ∧
      List.length (List.foldl (fun d e => d.stage e.key e.number) s.desc es).staged ≤ 16000) ∧
    (∃ (s : State) (mb : Nat) (es : List Entry), s.starts 770 mb ∧ s.ownCommit (s.request mb) = false ∧
      4 ≤ (s.request mb).len ∧ (s.request mb).len ≤ 496 ∧ 1 ≤ (s.request mb).u 0 1 ∧ (s.request mb).u 0 1 ≤ 61 ∧
      allZero (s.request mb).payload 1 3 = true ∧
      cutEntries ((s.request mb).u 0 1) (slice (s.request mb).payload 4 ((s.request mb).len - 4)) = (es, []) ∧
      es.length = (s.request mb).u 0 1 ∧ es.any (Entry.unfeatured (s.request mb).feats) = false ∧
      s.taken.setFault (s.request mb) es = none ∧ s.desc.edit ≠ some (s.request mb).session ∧
      ∀ (e : Entry), e ∈ es → (s.taken.withDescription (applyEntries s.desc.committed (List.map (fun e => (e.key, e.number)) es))).liveFault (s.taken.validate (applyEntries s.desc.committed (List.map (fun e => (e.key, e.number)) es))) e.key = false) ∧
    (∃ (s : State) (mb : Nat), s.starts 774 mb ∧ (s.request mb).lay 0 [] = true ∧
      s.desc.edit = some (s.request mb).session ∧ s.ownCommit (s.request mb) = false ∧ s.desc.committing = false) ∧
    (∃ (s : State) (mb : Nat), s.starts 773 mb ∧ (s.request mb).lay 0 [] = true ∧
      s.desc.edit = some (s.request mb).session ∧ s.ownCommit (s.request mb) = false ∧
      s.taken.validate (mergeStaged s.desc.committed s.desc.staged s.desc.stagedWhole) = []) ∧
    (∃ (s : State) (mb : Nat), s.starts 773 mb ∧ (s.request mb).lay 0 [] = true ∧
      s.desc.edit = some (s.request mb).session ∧ s.ownCommit (s.request mb) = false ∧
      s.taken.validate (mergeStaged s.desc.committed s.desc.staged s.desc.stagedWhole) ≠ []) :=
  ⟨⟨{ tOrder 771 [] .host (tBase .run true false) with desc.edit := none }, 0, by unfold State.starts; decide +kernel⟩,
    ⟨{ tOrder 771 [] .host (tBase .run true false) with desc.edit := some 2 }, 0, 2,
      by unfold State.starts; decide +kernel⟩,
    ⟨{ tOrder 770 [1, 0, 0, 0, 32, 64, 1, 0, 1, 0, 1, 0] .host (tBase .configure true false) with host.mb := [(0, { busy := true, owner := .host, feats := 4 })] },
      0, [{ id := 16416, code := 1, len := 1, value := [1], clean := true }], by unfold State.starts; decide +kernel⟩,
    ⟨{ tOrder 770 [1, 0, 0, 0, 0, 32, 1, 0, 1, 0, 1, 0] .host (tBase .run true false) with desc.edit := some 1 }, 0,
      [{ id := 8192, code := 1, len := 1, value := [1], clean := true }], by unfold State.starts; decide +kernel⟩,
    ⟨tOrder 770 [1, 0, 0, 0, 0, 16, 10, 0, 4, 0, 1, 0, 0, 0, 0, 0] .host (tBase .run true false), 0,
      [{ id := 4096, code := 10, len := 4, value := [1, 0, 0, 0], clean := true }],
      by unfold State.starts; decide +kernel⟩,
    ⟨{ tOrder 774 [] .host (tBase .run true false) with desc.committing := false, desc.edit := some 1 }, 0,
      by unfold State.starts; decide +kernel⟩,
    ⟨{ tOrder 773 [] .host (tBase .run true false) with desc.edit := some 1 }, 0,
      by unfold State.starts; decide +kernel⟩,
    ⟨{ tOrder 773 [] .host (tBase .run true false) with desc.edit := some 1, desc.staged := tDesc [(2, 0, 1, 1)] }, 0,
      by unfold State.starts; decide +kernel⟩⟩

/-- States and operands that meet the hypotheses of the clauses of `Obligations.ModeGetTimeAndServiceOrders`. -/
theorem witness_ModeGetTimeAndServiceOrders :
    (∃ (s : State) (mb : Nat), s.starts 513 mb ∧ (s.request mb).lay 0 [] = true) ∧
    (∃ (s : State) (mb : Nat), s.starts 4353 mb ∧ (s.request mb).lay 0 [] = true) ∧
    (∃ (s : State) (mb : Nat), s.starts 4354 mb ∧ (s.request mb).lay 8 [] = true ∧ s.eth.rtcState = 1 ∧
      (s.retained.rtcNs ≤ (s.request mb).u 0 8 ∨ 2 ≤ (s.sesAt (s.request mb).session).privilege)) ∧
    (∃ (s : State) (mb : Nat), s.starts 4354 mb ∧ (s.request mb).lay 8 [] = true ∧
      (s.request mb).u 0 8 < s.retained.rtcNs ∧ (s.sesAt (s.request mb).session).privilege < 2) ∧
    (∃ (s : State) (mb : Nat), s.starts 4354 mb ∧ (s.request mb).lay 8 [] = true ∧ s.eth.rtcState ≠ 1 ∧
      (s.retained.rtcNs ≤ (s.request mb).u 0 8 ∨ 2 ≤ (s.sesAt (s.request mb).session).privilege)) ∧
    (∃ (s : State) (mb : Nat), s.starts 4609 mb ∧ (s.request mb).lay 8 [(4, 4)] = true ∧
      (s.request mb).u 0 4 = 1413829458) ∧
    (∃ (s : State) (mb : Nat), s.starts 4610 mb ∧ (s.request mb).lay 4 [(1, 3)] = true ∧ (s.request mb).u 0 1 ≤ 15 ∧
      s.blockPowered ((s.request mb).u 0 1) = true) ∧
    (∃ (s : State) (mb : Nat), s.starts 4610 mb ∧ (s.request mb).lay 4 [(1, 3)] = true ∧ (s.request mb).u 0 1 ≤ 15 ∧
      s.blockPowered ((s.request mb).u 0 1) = false) :=
  ⟨⟨tOrder 513 [] .host (tBase .run true false), 0, by unfold State.starts; decide +kernel⟩,
    ⟨tOrder 4353 [] .host (tBase .run true false), 0, by unfold State.starts; decide +kernel⟩,
    ⟨{ tOrder 4354 [0, 0, 0, 0, 0, 0, 0, 0] .host (tBase .run true false) with eth.rtcState := 1 }, 0,
      by unfold State.starts; decide +kernel⟩,
    ⟨{ tOrder 4354 [0, 0, 0, 0, 0, 0, 0, 0] .host (tBase .run true false) with retained.rtcNs := 1, host.sessions := [(1, { state := .openS, privilege := 1, features := 2 ^ 40 - 1 })] },
      0, by unfold State.starts; decide +kernel⟩,
    ⟨tOrder 4354 [0, 0, 0, 0, 0, 0, 0, 0] .host (tBase .run true false), 0, by unfold State.starts; decide +kernel⟩,
    ⟨tOrder 4609 [82, 83, 69, 84, 0, 0, 0, 0] .host (tBase .run true false), 0,
      by unfold State.starts; decide +kernel⟩,
    ⟨tOrder 4610 [0, 0, 0, 0] .host (tBase .run true false), 0, by unfold State.starts; decide +kernel⟩,
    ⟨{ tOrder 4610 [0, 0, 0, 0] .host (tBase .run true false) with power.domains := 0 }, 0,
      by unfold State.starts; decide +kernel⟩⟩

/-- States and operands that meet the hypotheses of the clauses of `Obligations.ModeSetChangesMode`. -/
theorem witness_ModeSetChangesMode :
    (∃ (s : State) (mb : Nat), s.starts 514 mb ∧ (s.request mb).lay 4 [(1, 3)] = true ∧ s.power.longPress = false ∧
      s.modeSetPending = false ∧ s.sluice.claim = ClaimPhase.none ∧ s.otp.lifecycle ≠ 0 ∧ (s.request mb).u 0 1 = 11 ∧
      2 ≤ (s.sesAt (s.request mb).session).privilege ∧
      (s.mode = Mode.configure ∨ s.mode = Mode.shadow ∨ s.mode = Mode.run ∨ s.mode = Mode.safeHold)) ∧
    (∃ (s : State) (mb : Nat), s.starts 514 mb ∧ (s.request mb).lay 4 [(1, 3)] = true ∧ s.power.longPress = false ∧
      s.modeSetPending = false ∧ s.sluice.claim = ClaimPhase.none ∧ (s.request mb).u 0 1 = 7 ∧
      s.mode = Mode.configure ∧ s.otp.lifecycle ≠ 0 ∧ s.otp.lifecycle ≠ 3 ∧
      (s.desc.sequence ≠ 0 ∨ s.sluice.peer = true) ∧ s.token = true) ∧
    (∃ (s : State) (mb : Nat), s.starts 514 mb ∧ (s.request mb).lay 4 [(1, 3)] = true ∧ s.power.longPress = false ∧
      s.modeSetPending = false ∧ s.sluice.claim = ClaimPhase.none ∧ (s.request mb).u 0 1 = 7 ∧
      s.mode = Mode.configure ∧ s.otp.lifecycle ≠ 0 ∧ s.otp.lifecycle ≠ 3 ∧
      (s.desc.sequence ≠ 0 ∨ s.sluice.peer = true) ∧ s.token = false) ∧
    (∃ (s : State) (mb : Nat), s.starts 514 mb ∧ (s.request mb).lay 4 [(1, 3)] = true ∧ s.power.longPress = false ∧
      s.modeSetPending = false ∧ s.sluice.claim = ClaimPhase.none ∧ s.otp.lifecycle ≠ 0 ∧
      ((s.request mb).u 0 1 = 1 ∨ (s.request mb).u 0 1 = 2) ∧ s.mode.active = true) ∧
    (∃ (s : State) (mb : Nat), s.starts 514 mb ∧ (s.request mb).lay 4 [(1, 3)] = true ∧ s.power.longPress = false ∧
      s.modeSetPending = false ∧ s.sluice.claim = ClaimPhase.none ∧ s.otp.lifecycle ≠ 0 ∧ (s.request mb).u 0 1 = 5 ∧
      s.mode = Mode.safeHold ∧ s.safetyPending = false) ∧
    (∃ (s : State) (mb : Nat), s.starts 514 mb ∧ (s.request mb).lay 4 [(1, 3)] = true ∧ s.power.longPress = false ∧
      s.modeSetPending = false ∧ s.sluice.claim = ClaimPhase.none ∧ s.otp.lifecycle ≠ 0 ∧ s.mode = Mode.service ∧
      (s.request mb).u 0 1 = s.power.fromMode.code ∧
      (s.power.fromMode = Mode.configure ∨ s.power.fromMode = Mode.run) ∧
      (s.power.fromMode = Mode.run → s.otp.lifecycle ≠ 3 ∧ (s.desc.sequence ≠ 0 ∨ s.sluice.peer = true))) ∧
    (∃ (s : State) (mb : Nat), s.starts 514 mb ∧ (s.request mb).lay 4 [(1, 3)] = true ∧ s.power.longPress = false ∧
      s.modeSetPending = false ∧ s.sluice.claim = ClaimPhase.none ∧ modeTarget ((s.request mb).u 0 1) = some s.mode ∧
      (s.mode = Mode.service → 2 ≤ (s.sesAt (s.request mb).session).privilege)) ∧
    (∃ (s : State) (mb : Nat) (t : Mode), s.starts 514 mb ∧ (s.request mb).lay 4 [(1, 3)] = true ∧
      s.power.longPress = false ∧ s.modeSetPending = false ∧ s.sluice.claim = ClaimPhase.none ∧
      modeTarget ((s.request mb).u 0 1) = some t ∧
      (t = Mode.service → 2 ≤ (s.sesAt (s.request mb).session).privilege) ∧ t ≠ s.mode ∧ s.modeRow t = false) ∧
    (∃ (s : State) (mb : Nat) (t : Mode), s.starts 514 mb ∧ (s.request mb).lay 4 [(1, 3)] = true ∧
      s.power.longPress = false ∧ s.modeSetPending = false ∧ s.sluice.claim = ClaimPhase.none ∧
      modeTarget ((s.request mb).u 0 1) = some t ∧
      (t = Mode.service → 2 ≤ (s.sesAt (s.request mb).session).privilege) ∧ t ≠ s.mode ∧ s.modeRow t = true ∧
      s.otp.lifecycle = 0) :=
  ⟨⟨{ tOrder 514 [11, 0, 0, 0] .host (tBase .run true false) with power.longPress := false, sluice.claim := ClaimPhase.none, otp.lifecycle := 1 },
  0, by unfold State.starts; decide +kernel⟩,
    ⟨{ tOrder 514 [7, 0, 0, 0] .host (tBase .configure true false) with power.longPress := false, sluice.claim := ClaimPhase.none, otp.lifecycle := 1, desc.sequence := 1 },
      0, by unfold State.starts; decide +kernel⟩,
    ⟨{ tOrder 514 [7, 0, 0, 0] .host (tBase .configure false false) with power.longPress := false, sluice.claim := ClaimPhase.none, otp.lifecycle := 1, desc.sequence := 1 },
      0, by unfold State.starts; decide +kernel⟩,
    ⟨{ tOrder 514 [1, 0, 0, 0] .host (tBase .run true false) with power.longPress := false, sluice.claim := ClaimPhase.none, otp.lifecycle := 1 },
      0, by unfold State.starts; decide +kernel⟩,
    ⟨{ tOrder 514 [5, 0, 0, 0] .host (tBase .safeHold true false) with power.longPress := false, sluice.claim := ClaimPhase.none, otp.lifecycle := 1 },
      0, by unfold State.starts; decide +kernel⟩,
    ⟨{ tOrder 514 [5, 0, 0, 0] .host (tBase .service true false) with power.longPress := false, sluice.claim := ClaimPhase.none, otp.lifecycle := 1, power.fromMode := .configure },
      0, by unfold State.starts; decide +kernel⟩,
    ⟨{ tOrder 514 [5, 0, 0, 0] .host (tBase .configure true false) with power.longPress := false, sluice.claim := ClaimPhase.none },
      0, by unfold State.starts; decide +kernel⟩,
    ⟨{ tOrder 514 [5, 0, 0, 0] .host (tBase .run true false) with power.longPress := false, sluice.claim := ClaimPhase.none },
      0, .configure, by unfold State.starts; decide +kernel⟩,
    ⟨{ tOrder 514 [1, 0, 0, 0] .host (tBase .run true false) with power.longPress := false, sluice.claim := ClaimPhase.none, otp.lifecycle := 0 },
      0, .keep, by unfold State.starts; decide +kernel⟩⟩

/-- States and operands that meet the hypotheses of the clauses of `Obligations.ExternalWritesEnd`. -/
theorem witness_ExternalWritesEnd :
    (∃ (s : State) (mb : Nat) (w : Waiting) (j : OtpJob) (n : Nat), s.wardenRuns = true ∧ s.mode ≠ Mode.boot ∧
      mb < 16 ∧ s.waitingOn mb = some w ∧ s.power.brace = none ∧ w.what = WaitKind.otpProgram ∧ s.otp.job = some j ∧
      j.filling = false ∧ n ≠ j.word) ∧
    (∃ (s : State) (mb : Nat) (w : Waiting) (k : Nat), s.wardenRuns = true ∧ s.mode ≠ Mode.boot ∧ mb < 16 ∧
      s.waitingOn mb = some w ∧ s.power.brace = none ∧ w.what = WaitKind.keyInstall 1 k) ∧
    (∃ (s : State) (mb : Nat) (w : Waiting) (slot : Nat) (o : Nat) (n : Nat) (i : Nat), s.wardenRuns = true ∧
      s.mode ≠ Mode.boot ∧ mb < 16 ∧ s.waitingOn mb = some w ∧ s.power.brace = none ∧
      w.what = WaitKind.fwWrite slot o n ∧ 1 ≤ n ∧ s.boot.writes = [] ∧ i < n ∧ n ≤ 256) ∧
    (∃ (s : State) (mb : Nat) (w : Waiting) (slot : Nat) (x : SlotTable), s.wardenRuns = true ∧ s.mode ≠ Mode.boot ∧
      mb < 16 ∧ s.waitingOn mb = some w ∧ s.power.brace = none ∧ w.what = WaitKind.fwCommit slot ∧
      s.boot.writes = [TableWrite.rewrite 1 x, TableWrite.rewrite 0 x]) ∧
    (∃ (s : State) (mb : Nat) (w : Waiting) (slot : Nat) (x : SlotTable), s.wardenRuns = true ∧ s.mode ≠ Mode.boot ∧
      mb < 16 ∧ s.waitingOn mb = some w ∧ s.power.brace = none ∧ w.what = WaitKind.fwCommit slot ∧
      s.boot.writes = [TableWrite.rewrite 0 x]) ∧
    (∃ (s : State) (mb : Nat) (w : Waiting) (up : Nat), s.wardenRuns = true ∧ s.mode ≠ Mode.boot ∧ mb < 16 ∧
      s.waitingOn mb = some w ∧ s.power.brace = none ∧ w.what = WaitKind.logClear up) ∧
    (∃ (s : State) (mb : Nat) (w : Waiting), s.wardenRuns = true ∧ s.mode ≠ Mode.boot ∧ mb < 16 ∧
      s.waitingOn mb = some w ∧ s.power.brace = none ∧ w.what = WaitKind.commitStore ∧ s.partnerShadow = false) ∧
    (∃ (s : State) (mb : Nat) (w : Waiting), s.wardenRuns = true ∧ s.mode ≠ Mode.boot ∧ mb < 16 ∧
      s.waitingOn mb = some w ∧ s.power.brace = none ∧ w.what = WaitKind.commitApplied) ∧
    (∃ (s : State) (mb : Nat) (w : Waiting), s.wardenRuns = true ∧ s.mode ≠ Mode.boot ∧ mb < 16 ∧
      s.waitingOn mb = some w ∧ s.power.brace = none ∧
      ((∃ kind k, w.what = WaitKind.keyInstall kind k) ∨ (∃ a, w.what = WaitKind.logClear a) ∨ (∃ a, w.what = WaitKind.logFormat a) ∨ ∃ k, w.what = WaitKind.rootInstall k)) ∧
    (∃ (s : State) (mb : Nat) (w : Waiting), s.wardenRuns = true ∧ s.mode ≠ Mode.boot ∧ mb < 16 ∧
      s.waitingOn mb = some w ∧ s.power.brace.isSome = true ∧
      (w.what = WaitKind.otpProgram ∨ w.what = WaitKind.commitStore ∨ w.what = WaitKind.commitApplied ∨ (∃ kind k, w.what = WaitKind.keyInstall kind k) ∨ (∃ a b c, w.what = WaitKind.fwWrite a b c) ∨ ∃ a, w.what = WaitKind.fwCommit a)) ∧
    (∃ (s : State) (mb : Nat) (w : Waiting) (copy : Nat) (slot : Nat) (v : Nat) (rest : List TableWrite), s.wardenRuns = true ∧
      s.mode ≠ Mode.boot ∧ mb < 16 ∧ s.waitingOn mb = some w ∧ s.power.brace = none ∧
      s.boot.writes = TableWrite.mark copy slot v :: rest ∧ (copy = 0 → v ≠ 31)) :=
  ⟨⟨{ tBase .run true false with power.brace := none, waiting := [{ mailbox := 3, session := 1, what := .otpProgram }], otp.job := some { word := 5, value := 1, mailbox := 1 } },
  3, { mailbox := 3, session := 1, what := .otpProgram }, { word := 5, value := 1, mailbox := 1 }, 6,
  by decide +kernel⟩,
    ⟨{ tBase .run true false with power.brace := none, waiting := [{ mailbox := 3, session := 1, what := .keyInstall 1 5 }] },
      3, { mailbox := 3, session := 1, what := .keyInstall 1 5 }, 5, by decide +kernel⟩,
    ⟨{ tBase .run true false with power.brace := none, boot.writes := [], waiting := [{ mailbox := 3, session := 1, what := .fwWrite 1 0 1 }] },
      3, { mailbox := 3, session := 1, what := .fwWrite 1 0 1 }, 1, 0, 1, 0, by decide +kernel⟩,
    ⟨{ tBase .run true false with power.brace := none, waiting := [{ mailbox := 3, session := 1, what := .fwCommit 1 }], boot.writes := [.rewrite 1 {}, .rewrite 0 {}] },
      3, { mailbox := 3, session := 1, what := .fwCommit 1 }, 1, {}, by decide +kernel⟩,
    ⟨{ tBase .run true false with power.brace := none, waiting := [{ mailbox := 3, session := 1, what := .fwCommit 1 }], boot.writes := [.rewrite 0 {}] },
      3, { mailbox := 3, session := 1, what := .fwCommit 1 }, 1, {}, by decide +kernel⟩,
    ⟨{ tBase .run true false with power.brace := none, waiting := [{ mailbox := 3, session := 1, what := .logClear 5 }] },
      3, { mailbox := 3, session := 1, what := .logClear 5 }, 5, by decide +kernel⟩,
    ⟨{ tBase .run true false with power.brace := none, waiting := [{ mailbox := 3, session := 1, what := .commitStore }] },
      3, { mailbox := 3, session := 1, what := .commitStore }, by decide +kernel⟩,
    ⟨{ tBase .run true false with power.brace := none, waiting := [{ mailbox := 3, session := 1, what := .commitApplied }] },
      3, { mailbox := 3, session := 1, what := .commitApplied }, by decide +kernel⟩,
    ⟨{ tBase .run true true with power.brace := none, waiting := [{ mailbox := 3, session := 1, what := .logFormat 7 }] },
      3, { mailbox := 3, session := 1, what := .logFormat 7 }, by decide, by decide, by decide, by decide, by decide,
      Or.inr (Or.inr (Or.inl ⟨7, rfl⟩))⟩,
    ⟨{ tBase .run true true with power.brace := some { causes := 1, minMv := [] }, waiting := [{ mailbox := 3, session := 1, what := .commitStore }] },
      3, { mailbox := 3, session := 1, what := .commitStore }, by decide, by decide, by decide, by decide, by decide,
      .inr (.inl rfl)⟩,
    ⟨{ tBase .run true false with power.brace := none, waiting := [{ mailbox := 3, session := 1, what := .fwWrite 1 0 1 }], boot.writes := [.mark 1 1 15, .mark 0 1 15] },
      3, { mailbox := 3, session := 1, what := .fwWrite 1 0 1 }, 1, 1, 15, [.mark 0 1 15], by decide +kernel⟩⟩

/-- States and operands that meet the hypotheses of the clauses of `Obligations.SessionOrdersAndTimers`. -/
theorem witness_SessionOrdersAndTimers :
    (∃ (s : State) (mb : Nat) (n : Nat), s.starts 257 mb ∧ (s.request mb).lay 8 [(4, 4)] = true ∧
      (s.request mb).u 1 1 = 0 ∧ (s.request mb).u 0 1 ≤ 1 ∧ (s.request mb).u 2 2 ≤ 3600 ∧
      (s.request mb).transport ≠ 1 ∧ s.host.keyLocked.testBit 0 = false ∧ s.openSessions.length < 16 ∧
      n ≠ s.host.nextSession) ∧
    (∃ (s : State) (mb : Nat), s.starts 257 mb ∧ (s.request mb).lay 8 [(4, 4)] = true ∧ 1 ≤ (s.request mb).u 1 1 ∧
      (s.request mb).u 1 1 ≤ 3 ∧ (s.request mb).u 0 1 ≤ keyPrivilege ((s.request mb).u 1 1) ∧
      (s.request mb).u 2 2 ≤ 3600 ∧ keyTransport ((s.request mb).u 1 1) (s.request mb).transport = true ∧
      s.host.keyLocked.testBit ((s.request mb).u 1 1) = false ∧ (s.sessionKey ((s.request mb).u 1 1)).isSome = true ∧
      s.boot.rngFail = false ∧ s.testFailed 1 = false ∧ s.openSessions.length < 16) ∧
    (∃ (s : State) (mb : Nat) (k : Nat), s.starts 258 mb ∧ (s.request mb).lay 32 [] = true ∧ s.testFailed 1 = false ∧
      s.sessionKey (s.sesAt (s.request mb).session).keyId = some k ∧
      proofTag k 1 (s.request mb).session (s.sesAt (s.request mb).session).nonce (slice (s.request mb).payload 0 16) = slice (s.request mb).payload 16 16) ∧
    (∃ (s : State) (mb : Nat) (k : Nat), s.starts 258 mb ∧ (s.request mb).lay 32 [] = true ∧ s.testFailed 1 = false ∧
      s.sessionKey (s.sesAt (s.request mb).session).keyId = some k ∧
      proofTag k 1 (s.request mb).session (s.sesAt (s.request mb).session).nonce (slice (s.request mb).payload 0 16) ≠ slice (s.request mb).payload 16 16) ∧
    (∃ (s : State) (mb : Nat), s.starts 259 mb ∧ (s.request mb).lay 0 [] = true) ∧
    (∃ (s : State) (mb : Nat), s.starts 260 mb ∧ (s.request mb).lay 20 [(1, 3)] = true ∧
      (s.request mb).transport = 0 ∧ s.secretLocked [0, 2] = false ∧ (s.request mb).u 0 1 = 1 ∧
      2 ≤ (s.sesAt (s.request mb).session).privilege) ∧
    (∃ (s : State) (mb : Nat), s.starts 260 mb ∧ (s.request mb).lay 20 [(1, 3)] = true ∧
      (s.request mb).transport = 0 ∧ s.secretLocked [0, 2] = false ∧ (s.request mb).u 0 1 = 0 ∧
      (s.fieldGood 32 8 = true → s.keyMatches 32 (slice (s.request mb).payload 4 16) = true)) ∧
    (∃ (s : State) (mb : Nat) (n : Nat), s.starts 261 mb ∧ (s.request mb).lay 16 [] = true ∧
      ((s.request mb).u 0 16).testBit 0 = true ∧ n ≠ (s.request mb).session) ∧
    (∃ (s : State) (n : Nat), (s.sesAt n).state ≠ SessState.closed ∧
      (∀ (m : Nat), m < 16 → (s.mbAt m).busy = true → (s.request m).session ≠ n) ∧
      ¬(s.anyHalted = true ∧ s.mode = Mode.service)) ∧
    (∃ (s : State) (n : Nat), (s.sesAt n).state = SessState.proving) ∧
    (∃ (s : State) (n : Nat), (s.sesAt n).state ≠ SessState.proving) ∧
    (∃ (s : State) (n : Nat) (k : Nat), s.mode ≠ Mode.service ∧ k ≠ n) ∧
    (∃ (s : State) (n : Nat), s.mode ≠ Mode.service ∧ s.desc.edit = some n ∧ s.desc.committing = false) ∧
    (∃ (s : State), s.mode = Mode.service ∧ s.modeSetPending = false ∧ s.power.longPress = false) :=
  ⟨⟨tNoSession (tOrder 257 [1, 0, 0, 0, 0, 0, 0, 0] .host (tBase .run true false)), 0, 2,
  by unfold State.starts; decide +kernel⟩,
    ⟨{ tNoSession (tOrder 257 [1, 1, 0, 0, 0, 0, 0, 0] .host (tBase .run true false)) with boot.rngFail := false, host.datagramKey := some 5 },
      0, by unfold State.starts; decide +kernel⟩,
    ⟨{ tProving (tOrder 258 (zeros 16 ++ [0xB1, 0xCA, 0x86, 0x0B, 0xC9, 0x3E, 0xE7, 0xE9, 0x8A, 0xE4, 0xBE, 0x38, 0x1A, 0xD2, 0xFB, 0xEE]) .host (tBase .run true false)) with host.datagramKey := some 5 },
      0, 5, by unfold State.starts; decide +kernel⟩,
    ⟨{ tProving (tOrder 258 [0, 0, 0, 0, 0, 0, 0, 0, 0, 0, 0, 0, 0, 0, 0, 0, 0, 0, 0, 0, 0, 0, 0, 0, 0, 0, 0, 0, 0, 0, 0, 0] .host (tBase .run true false)) with host.datagramKey := some 5 },
      0, 5, by unfold State.starts; decide +kernel⟩,
    ⟨tOrder 259 [] .host (tBase .run true false), 0, by unfold State.starts; decide +kernel⟩,
    ⟨tOrder 260 [1, 0, 0, 0, 0, 0, 0, 0, 0, 0, 0, 0, 0, 0, 0, 0, 0, 0, 0, 0] .host (tBase .configure true false), 0,
      by unfold State.starts; decide +kernel⟩,
    ⟨tOrder 260 [0, 0, 0, 0, 0, 0, 0, 0, 0, 0, 0, 0, 0, 0, 0, 0, 0, 0, 0, 0] .host (tBase .configure true false), 0,
      by unfold State.starts; decide +kernel⟩,
    ⟨tOrder 261 [1, 0, 0, 0, 0, 0, 0, 0, 0, 0, 0, 0, 0, 0, 0, 0] .host (tBase .run true false), 0, 2,
      by unfold State.starts; decide +kernel⟩,
    ⟨{ tBase .run true false with host.sessions := [(1, { state := .openS })] }, 1, by decide +kernel⟩,
    ⟨{ tBase .run true false with host.sessions := [(0, { state := SessState.proving })] }, 0, by decide +kernel⟩,
    ⟨tBase .run true false, 0, by decide +kernel⟩,
    ⟨tBase .run true false, 0, 1, by decide +kernel⟩,
    ⟨{ tBase .run true false with desc.committing := false, desc.edit := some 1 }, 1, by decide +kernel⟩,
    ⟨{ tBase .service true false with power.longPress := false }, by decide +kernel⟩⟩

/-- States and operands that meet the hypotheses of the clauses of `Obligations.ChannelOrders`. -/
theorem witness_ChannelOrders :
    (∃ (s : State) (mb : Nat) (c : Nat), s.starts 1025 mb ∧ (s.request mb).lay 4 [(1, 3)] = true ∧
      (s.request mb).u 0 1 ≤ 127 ∧ (s.outAt ((s.request mb).u 0 1)).state = 6 ∧ c ∈ s.phases ((s.request mb).u 0 1)) ∧
    (∃ (s : State) (mb : Nat) (c : Nat), s.starts 1025 mb ∧ (s.request mb).lay 4 [(1, 3)] = true ∧
      (s.request mb).u 0 1 ≤ 127 ∧ (s.outAt ((s.request mb).u 0 1)).state = 6 ∧ ¬c ∈ s.phases ((s.request mb).u 0 1)) ∧
    (∃ (s : State) (mb : Nat), s.starts 1030 mb ∧ (s.request mb).lay 16 [] = true ∧ (s.request mb).u 0 16 ≠ 0 ∧
      ∀ (j : Nat), j < 128 → ((s.request mb).u 0 16).testBit j = true → s.outEnable j = 1 ∧ (s.outAt j).state ≠ 6) ∧
    (∃ (s : State) (mb : Nat), s.starts 1031 mb ∧ (s.request mb).lay 20 [(17, 3)] = true ∧ (s.request mb).u 16 1 ≤ 1) ∧
    (∃ (s : State) (mb : Nat), s.starts 1032 mb ∧ (s.request mb).lay 16 [] = true ∧ (s.request mb).u 0 16 ≠ 0 ∧
      ∀ (j : Nat), j < 128 → ((s.request mb).u 0 16).testBit j = true → s.outEnable j = 1 ∧ (s.outAt j).state = 4) ∧
    (∃ (s : State) (mb : Nat) (j : Nat), s.starts 1033 mb ∧ (s.request mb).lay 0 [] = true ∧ j < 128) ∧
    (∃ (s : State) (mb : Nat), s.starts 1034 mb ∧ (s.request mb).lay 4 [(1, 3)] = true ∧ (s.request mb).u 0 1 ≤ 3) ∧
    (∃ (s : State) (mb : Nat), s.starts 1026 mb ∧ s.token = true ∧ s.effectiveMode = Mode.run ∧
      (s.request mb).u 0 1 < 128 ∧ (s.request mb).lay 12 [(1, 1), (10, 2)] = true ∧ (s.request mb).u 2 2 = 0 ∧
      (s.request mb).u 4 2 = 0 ∧ (s.request mb).u 6 2 = 0 ∧ (s.request mb).u 8 2 = 0 ∧
      s.unitsUsed ((s.request mb).u 0 1) < 2 ∧ (s.outAt ((s.request mb).u 0 1)).ident.state ≠ 1 ∧
      s.outEnable ((s.request mb).u 0 1) = 1 ∧ (s.outAt ((s.request mb).u 0 1)).state = 3 ∧
      (s.outAt ((s.request mb).u 0 1)).prof.state = ProfState.arrived ∧
      ∀ (c : Nat), c ∈ s.phases ((s.request mb).u 0 1) → (s.chanAt c).clamp = none) ∧
    (∃ (s : State) (mb : Nat) (j : Nat), s.starts 1026 mb ∧ s.token = true ∧ s.effectiveMode = Mode.run ∧
      (s.request mb).u 0 1 < 128 ∧ (s.request mb).lay 12 [(1, 1), (10, 2)] = true ∧ (s.request mb).u 2 2 = 0 ∧
      (s.request mb).u 4 2 = 0 ∧ (s.request mb).u 6 2 = 0 ∧ (s.request mb).u 8 2 = 0 ∧
      s.unitsUsed ((s.request mb).u 0 1) < 2 ∧ (s.outAt ((s.request mb).u 0 1)).ident.state ≠ 1 ∧
      s.outEnable ((s.request mb).u 0 1) = 1 ∧ (s.outAt ((s.request mb).u 0 1)).state = 3 ∧
      (s.outAt ((s.request mb).u 0 1)).prof.state = ProfState.arrived ∧
      (∀ (c : Nat), c ∈ s.phases ((s.request mb).u 0 1) → (s.chanAt c).clamp = none) ∧ j ≠ (s.request mb).u 0 1) ∧
    (∃ (s : State) (mb : Nat), s.starts 1027 mb ∧ (s.request mb).lay 4 [(2, 2)] = true ∧ (s.request mb).u 0 1 ≤ 127 ∧
      (s.request mb).u 1 1 = 0) ∧
    (∃ (s : State) (mb : Nat), s.starts 1027 mb ∧ (s.request mb).lay 4 [(2, 2)] = true ∧ (s.request mb).u 0 1 ≤ 127 ∧
      1 ≤ (s.request mb).u 1 1 ∧ (s.request mb).u 1 1 ≤ 5) ∧
    (∃ (s : State) (mb : Nat) (j : Nat), s.starts 1028 mb ∧ (s.request mb).lay 4 [(1, 3)] = true ∧
      (s.request mb).u 0 1 ≤ 127 ∧ s.gainStaged (s.lead ((s.request mb).u 0 1)) = false ∧
      (s.outAt ((s.request mb).u 0 1)).ident.proposal = true ∧ s.outTuning ((s.request mb).u 0 1) ≠ 0 ∧
      (s.outAt ((s.request mb).u 0 1)).ident.applied ≠ 3 ∧ j ≠ (s.request mb).u 0 1) ∧
    (∃ (s : State) (mb : Nat), s.starts 1029 mb ∧ (s.request mb).lay 4 [(1, 3)] = true ∧ (s.request mb).u 0 1 ≤ 127) :=
  ⟨⟨{ tOrder 1025 [0, 0, 0, 0] .host (tBase .run true false) with out := [(0, { state := 6 })], desc.committed := tDesc [(2, 0, 1, 1)] },
  0, 0, by unfold State.starts; decide +kernel⟩,
    ⟨{ tOrder 1025 [0, 0, 0, 0] .host (tBase .run true false) with out := [(0, { state := 6 })], desc.committed := tDesc [(2, 0, 1, 1)] },
      0, 1, by unfold State.starts; decide +kernel⟩,
    ⟨{ tOrder 1030 [1, 0, 0, 0, 0, 0, 0, 0, 0, 0, 0, 0, 0, 0, 0, 0] .host (tBase .run true false) with desc.committed := tDesc [(2, 0, 1, 1)] },
      0, by unfold State.starts; decide +kernel⟩,
    ⟨tOrder 1031 [0, 0, 0, 0, 0, 0, 0, 0, 0, 0, 0, 0, 0, 0, 0, 0, 0, 0, 0, 0] .host (tBase .run true false), 0,
      by unfold State.starts; decide +kernel⟩,
    ⟨{ tOrder 1032 [1, 0, 0, 0, 0, 0, 0, 0, 0, 0, 0, 0, 0, 0, 0, 0] .host (tBase .run true false) with out := [(0, { state := 4 })], desc.committed := tDesc [(2, 0, 1, 1)] },
      0, by unfold State.starts; decide +kernel⟩,
    ⟨tOrder 1033 [] .host (tBase .run true false), 0, 0, by unfold State.starts; decide +kernel⟩,
    ⟨tOrder 1034 [0, 0, 0, 0] .host (tBase .run true false), 0, by unfold State.starts; decide +kernel⟩,
    ⟨{ tOrder 1026 [0, 0, 0, 0, 0, 0, 0, 0, 0, 0, 0, 0] .host (tBase .run true false) with out := [(0, { state := 3, prof := { state := .arrived } })], desc.committed := tDesc [(2, 0, 1, 1)] },
      0, by unfold State.starts; decide +kernel⟩,
    ⟨{ tOrder 1026 [0, 0, 0, 0, 0, 0, 0, 0, 0, 0, 0, 0] .host (tBase .run true false) with out := [(0, { state := 3, prof := { state := .arrived } })], desc.committed := tDesc [(2, 0, 1, 1)] },
      0, 1, by unfold State.starts; decide +kernel⟩,
    ⟨tOrder 1027 [0, 0, 0, 0] .host (tBase .run true false), 0, by unfold State.starts; decide +kernel⟩,
    ⟨tOrder 1027 [0, 1, 0, 0] .host (tBase .run true false), 0, by unfold State.starts; decide +kernel⟩,
    ⟨{ tOrder 1028 [0, 0, 0, 0] .host (tBase .run true false) with out := [(0, { ident := { proposal := true } })], desc.committed := tDesc [(2, 0, 1, 1), (2, 0, 23, 1)] },
      0, 1, by unfold State.starts; decide +kernel⟩,
    ⟨tOrder 1029 [0, 0, 0, 0] .host (tBase .run true false), 0, by unfold State.starts; decide +kernel⟩⟩

/-- States and operands that meet the hypotheses of the clauses of `Obligations.StartsRestartsAndIdentRuns`. -/
theorem witness_StartsRestartsAndIdentRuns :
    (∃ (s : State) (k : Nat) (volts : List Int), s.outEnable k = 1 ∧ (s.outAt k).state = 1 ∧
      (s.outAt k).phase = SeqPhase.delay ∧ s.startOk k = true ∧
      ∀ (i : Nat), i < (s.phases k).length → (s.measureV0 (s.lead k + i) (volts.getD i 0)).snd.isSome = true) ∧
    (∃ (s : State) (k : Nat) (volts : List Int) (i : Nat), s.outEnable k = 1 ∧ (s.outAt k).state = 1 ∧
      (s.outAt k).phase = SeqPhase.delay ∧ s.startOk k = true ∧
      (∀ (i : Nat), i < (s.phases k).length → (s.measureV0 (s.lead k + i) (volts.getD i 0)).snd.isSome = true) ∧
      i < (s.phases k).length) ∧
    (∃ (s : State) (k : Nat) (volts : List Int) (j : Nat), s.outEnable k = 1 ∧ (s.outAt k).state = 1 ∧
      (s.outAt k).phase = SeqPhase.delay ∧ s.startOk k = true ∧
      (∀ (i : Nat), i < (s.phases k).length → (s.measureV0 (s.lead k + i) (volts.getD i 0)).snd.isSome = true) ∧
      j ≠ k) ∧
    (∃ (s : State) (k : Nat), s.outEnable k ≠ 1 ∨ (s.outAt k).state ≠ 1 ∨ (s.outAt k).phase ≠ SeqPhase.delay ∨ s.startOk k = false) ∧
    (∃ (s : State) (k : Nat) (ch : Nat), s.outputOf ch = some k ∧ (s.chanAt ch).state = ChState.test ∧
      (s.outAt k).phase = SeqPhase.testing) ∧
    (∃ (s : State) (c : Nat), (s.chanAt c).shorted = true) ∧
    (∃ (s : State) (k : Nat) (samples : List (List Int)), s.token = true ∧ (s.outAt k).state = 2 ∧
      (s.outAt k).phase = SeqPhase.testing ∧
      ∀ (i : Nat) (m : Int), i < (s.phases k).length → m = testMean (sumI (List.map currentAdc (samples.getD i []))) → m.natAbs ≤ 64 ∧
      (currentMa m 0 (s.chIsTransr (s.lead k + i))).natAbs * 100 ≤ s.chOcpLimit (s.lead k + i) * 5) ∧
    (∃ (s : State) (k : Nat) (samples : List (List Int)) (i : Nat), s.token = true ∧ (s.outAt k).state = 2 ∧
      (s.outAt k).phase = SeqPhase.testing ∧
      (∀ (i : Nat) (m : Int), i < (s.phases k).length → m = testMean (sumI (List.map currentAdc (samples.getD i []))) → m.natAbs ≤ 64 ∧ (currentMa m 0 (s.chIsTransr (s.lead k + i))).natAbs * 100 ≤ s.chOcpLimit (s.lead k + i) * 5) ∧
      i < (s.phases k).length) ∧
    (∃ (s : State) (k : Nat) (samples : List (List Int)) (j : Nat), s.token = true ∧ (s.outAt k).state = 2 ∧
      (s.outAt k).phase = SeqPhase.testing ∧
      (∀ (i : Nat) (m : Int), i < (s.phases k).length → m = testMean (sumI (List.map currentAdc (samples.getD i []))) → m.natAbs ≤ 64 ∧ (currentMa m 0 (s.chIsTransr (s.lead k + i))).natAbs * 100 ≤ s.chOcpLimit (s.lead k + i) * 5) ∧
      j ≠ k) ∧
    (∃ (s : State) (k : Nat) (samples : List (List Int)) (i : Nat), s.token = true ∧ (s.outAt k).state = 2 ∧
      (s.outAt k).phase = SeqPhase.testing ∧ i < (s.phases k).length ∧
      64 < (testMean (sumI (List.map currentAdc (samples.getD i [])))).natAbs) ∧
    (∃ (s : State) (k : Nat) (c : Nat), (s.outAt k).state = 2 ∧ (s.outAt k).phase = SeqPhase.rising ∧ c ∈ s.phases k) ∧
    (∃ (s : State) (k : Nat) (us : Nat), s.outEnable k = 1 ∧ (s.outAt k).state = 4 ∧ s.outRestart k = 1 ∧
      (s.outAt k).lastStop ∈ [2, 3, 7] ∧ 0 < (s.outAt k).triesLeft ∧ s.outRestartDelay k ≤ us ∧
      us ≤ (s.budget.tides - (s.outAt k).stopTide) * 1000 ∧
      (s.budget.tides - (s.outAt k).stopTide) * 1000 ≤ us + 1000 ∧ s.mode ≠ Mode.safeHold ∧ s.wardenRuns = true) ∧
    (∃ (s : State) (k : Nat) (us : Nat), (s.outAt k).state = 4 ∧ (s.outRestart k = 0 ∨ us < s.outRestartDelay k)) ∧
    (∃ (s : State) (k : Nat) (j : Nat), (s.outAt k).state = 3 ∧ 60000 ≤ (s.outAt k).goodTides ∧ s.wardenRuns = true ∧
      j ≠ k) ∧
    (∃ (s : State) (k : Nat), s.identMode = true ∧ s.wardenRuns = true ∧ s.unitsUsed k < 2 ∧
      firstN s.identDue (s.outsOfCluster (quadrant (s.lead k))) = some k ∧
      ∀ (c : Nat), c ∈ s.phases k → (s.chanAt c).clamp = none) ∧
    (∃ (s : State) (k : Nat) (j : Nat), s.identMode = true ∧ s.wardenRuns = true ∧ s.unitsUsed k < 2 ∧
      firstN s.identDue (s.outsOfCluster (quadrant (s.lead k))) = some k ∧
      (∀ (c : Nat), c ∈ s.phases k → (s.chanAt c).clamp = none) ∧ j ≠ k) ∧
    (∃ (s : State) (k : Nat) (j : Nat), (s.outAt k).ident.state = 1 ∧ 8687 ≤ (s.outAt k).ident.evals ∧
      s.wardenRuns = true ∧ j ≠ k) :=
  ⟨⟨{ tBase .run true false with out := [(0, { state := 1, phase := SeqPhase.delay })], cluster := [(0, { initialised := true })], desc.committed := tDesc [(2, 0, 1, 1)] },
  0, [256000000], by decide +kernel⟩,
    ⟨{ tBase .run true false with out := [(0, { state := 1, phase := SeqPhase.delay })], cluster := [(0, { initialised := true })], desc.committed := tDesc [(2, 0, 1, 1)] },
      0, [256000000], 0, by decide +kernel⟩,
    ⟨{ tBase .run true false with out := [(0, { state := 1, phase := SeqPhase.delay })], cluster := [(0, { initialised := true })], desc.committed := tDesc [(2, 0, 1, 1)] },
      0, [256000000], 1, by decide +kernel⟩,
    ⟨tBase .run true false, 0, by decide +kernel⟩,
    ⟨{ tBase .run true false with chan := [(0, { state := .test })], out := [(0, { phase := .testing })], desc.committed := tDesc [(2, 0, 1, 1)] },
      0, 0, by decide +kernel⟩,
    ⟨tBase .run true false, 0, by decide +kernel⟩,
    ⟨{ tBase .run true true with out := [(0, { state := 2, phase := .testing })], desc.committed := tDesc [(2, 0, 1, 1)] },
      0, [[0]], rfl, rfl, rfl,
      (fun i m h hm => by have h : i < 1 := h; obtain rfl : i = 0 := (by omega); subst hm; decide +kernel)⟩,
    ⟨{ tBase .run true true with out := [(0, { state := 2, phase := .testing })], desc.committed := tDesc [(2, 0, 1, 1)] },
      0, [[0]], 0, rfl, rfl, rfl,
      (fun i m h hm => by have h : i < 1 := h; obtain rfl : i = 0 := (by omega); subst hm; decide +kernel),
      by decide +kernel⟩,
    ⟨{ tBase .run true true with out := [(0, { state := 2, phase := .testing })], desc.committed := tDesc [(2, 0, 1, 1)] },
      0, [[0]], 1, rfl, rfl, rfl,
      (fun i m h hm => by have h : i < 1 := h; obtain rfl : i = 0 := (by omega); subst hm; decide +kernel), by decide⟩,
    ⟨{ tBase .run true false with out := [(0, { state := 2, phase := .testing })], desc.committed := tDesc [(2, 0, 1, 1)] },
      0, [List.replicate 16 (2 ^ 60)], 0, by decide +kernel⟩,
    ⟨{ tBase .run true false with out := [(0, { state := 2, phase := SeqPhase.rising })] }, 0, 0, by decide +kernel⟩,
    ⟨{ tBase .run true false with out := [(0, { state := 4, lastStop := 2, triesLeft := 1 })], budget.tides := 1000, desc.committed := tDesc [(2, 0, 1, 1), (2, 0, 20, 1)] },
      0, 1000000, by decide +kernel⟩,
    ⟨{ tBase .run true false with out := [(0, { state := 4 })] }, 0, 0, by decide +kernel⟩,
    ⟨{ tBase .run true false with out := [(0, { state := 3, goodTides := 60000 })] }, 0, 1, by decide +kernel⟩,
    ⟨{ tBase .run true false with out := [(0, { state := 3, prof := { state := .arrived }, goodTides := 10000 })], desc.committed := tDesc [(2, 0, 1, 1), (2, 0, 23, 1)] },
      0, by decide +kernel⟩,
    ⟨{ tBase .run true false with out := [(0, { state := 3, prof := { state := .arrived }, goodTides := 10000 })], desc.committed := tDesc [(2, 0, 1, 1), (2, 0, 23, 1)] },
      0, 1, by decide +kernel⟩,
    ⟨{ tBase .run true false with out := [(0, { ident := { state := 1, evals := 8687 } })] }, 0, 1, by decide +kernel⟩⟩

/-- States and operands that meet the hypotheses of the clauses of `Obligations.TraceOrders`. -/
theorem witness_TraceOrders :
    (∃ (s : State) (mb : Nat), s.starts 1281 mb ∧ (s.request mb).lay 24 [(22, 2)] = true ∧ (s.request mb).u 0 1 ≤ 3 ∧
      (s.clusterAt ((s.request mb).u 0 1)).state ≠ 4 ∧ (s.request mb).u 1 1 = 2) ∧
    (∃ (s : State) (mb : Nat) (d : Nat), s.starts 1281 mb ∧ (s.request mb).lay 24 [(22, 2)] = true ∧
      (s.request mb).u 0 1 ≤ 3 ∧ (s.clusterAt ((s.request mb).u 0 1)).state ≠ 4 ∧ (s.request mb).u 1 1 ≤ 1 ∧
      s.setupOk (s.request mb) = true ∧ d ≠ (s.request mb).u 0 1) ∧
    (∃ (s : State) (mb : Nat) (d : Nat), s.starts 1282 mb ∧ (s.request mb).lay 4 [(1, 3)] = true ∧
      (s.request mb).u 0 1 ≤ 3 ∧ (s.clusterAt ((s.request mb).u 0 1)).state ≠ 4 ∧ d ≠ (s.request mb).u 0 1) ∧
    (∃ (s : State) (mb : Nat), s.starts 1283 mb ∧ (s.request mb).lay 4 [(1, 3)] = true ∧ (s.request mb).u 0 1 ≤ 15 ∧
      ∀ (d : Nat), d < 4 → (s.clusterAt d).state ≠ 4) ∧
    (∃ (s : State) (mb : Nat) (d : Nat), s.starts 1283 mb ∧ (s.request mb).lay 4 [(1, 3)] = true ∧
      (s.request mb).u 0 1 ≤ 15 ∧ (∀ (d : Nat), d < 4 → (s.clusterAt d).state ≠ 4) ∧ d < 4 ∧
      ((s.request mb).u 0 1).testBit d = true ∧ (s.clusterAt d).state = 1 ∧
      (s.clusterAt d).trigMask.testBit 0 = true ∧ (s.clusterAt d).trigPending.contains (0, none) = false) ∧
    (∃ (s : State) (mb : Nat) (d : Nat), s.starts 1283 mb ∧ (s.request mb).lay 4 [(1, 3)] = true ∧
      (s.request mb).u 0 1 ≤ 15 ∧ (∀ (d : Nat), d < 4 → (s.clusterAt d).state ≠ 4) ∧
      ((s.request mb).u 0 1).testBit d = false) ∧
    (∃ (s : State) (mb : Nat), s.starts 1284 mb ∧ (s.request mb).lay 0 [] = true) ∧
    (∃ (s : State) (mb : Nat), s.starts 1285 mb ∧ (s.request mb).lay 8 [(1, 1), (5, 3)] = true ∧
      (s.request mb).u 0 1 ≤ 3 ∧ 1 ≤ (s.request mb).u 4 1 ∧ (s.request mb).u 4 1 ≤ 15 ∧
      (s.clusterAt ((s.request mb).u 0 1)).initialised = true ∧ (s.clusterAt ((s.request mb).u 0 1)).state ≠ 1 ∧
      (s.clusterAt ((s.request mb).u 0 1)).state ≠ 2 ∧
      (s.request mb).u 2 2 + (s.request mb).u 4 1 ≤ (s.clusterAt ((s.request mb).u 0 1)).ring.length ∧
      ∀ (i : Nat), (s.request mb).u 2 2 ≤ i → i < (s.request mb).u 2 2 + (s.request mb).u 4 1 → s.entryBad ((s.request mb).u 0 1) i = false) ∧
    (∃ (s : State) (mb : Nat) (d : Nat), s.starts 1286 mb ∧ (s.request mb).lay 8 [(6, 2)] = true ∧
      ((s.request mb).u 0 1 ≤ 3 ∨ (s.request mb).u 0 1 = 255) ∧ (s.request mb).u 1 1 ≤ 1 ∧
      (s.request mb).u 2 2 ≤ 1023 ∧ (s.request mb).u 4 2 ≤ 127 ∧ d < 4 ∧
      ((s.request mb).u 0 1 = 255 ∨ (s.request mb).u 0 1 = d)) ∧
    (∃ (s : State) (mb : Nat) (d : Nat), s.starts 1286 mb ∧ (s.request mb).lay 8 [(6, 2)] = true ∧
      ((s.request mb).u 0 1 ≤ 3 ∨ (s.request mb).u 0 1 = 255) ∧ (s.request mb).u 1 1 ≤ 1 ∧
      (s.request mb).u 2 2 ≤ 1023 ∧ (s.request mb).u 4 2 ≤ 127 ∧ (s.request mb).u 0 1 ≠ 255 ∧
      d ≠ (s.request mb).u 0 1) :=
  ⟨⟨tOrder 1281 [0, 2, 0, 0, 0, 0, 0, 0, 0, 0, 0, 0, 0, 0, 0, 0, 0, 0, 0, 0, 0, 0, 0, 0] .host (tBase .run true false),
  0, by unfold State.starts; decide +kernel⟩,
    ⟨tOrder 1281 [0, 0, 0, 0, 1, 0, 0, 0, 0, 0, 0, 0, 0, 0, 0, 0, 0, 0, 0, 0, 0, 0, 0, 0] .host (tBase .run true false),
      0, 1, by unfold State.starts; decide +kernel⟩,
    ⟨tOrder 1282 [0, 0, 0, 0] .host (tBase .run true false), 0, 1, by unfold State.starts; decide +kernel⟩,
    ⟨tOrder 1283 [0, 0, 0, 0] .host (tBase .run true false), 0, by unfold State.starts; decide +kernel⟩,
    ⟨{ tOrder 1283 [8, 0, 0, 0] .host (tBase .run true false) with cluster := [(3, { state := 1, trigMask := 2 ^ 0 })] },
      0, 3, by unfold State.starts; decide +kernel⟩,
    ⟨tOrder 1283 [0, 0, 0, 0] .host (tBase .run true false), 0, 0, by unfold State.starts; decide +kernel⟩,
    ⟨tOrder 1284 [] .host (tBase .run true false), 0, by unfold State.starts; decide +kernel⟩,
    ⟨{ tOrder 1285 [0, 0, 0, 0, 1, 0, 0, 0] .host (tBase .run true true) with cluster := [(0, { state := 3, written := 1, ring := [{}], initialised := true })] },
      0, by unfold State.starts; decide +kernel, by decide +kernel, by decide +kernel, by decide +kernel,
      by decide +kernel, by decide +kernel, by decide +kernel, by decide +kernel, by decide +kernel,
      fun i _ h => by have h : i < 1 := h; obtain rfl : i = 0 := (by omega); decide +kernel⟩,
    ⟨tOrder 1286 [0, 0, 0, 0, 0, 0, 0, 0] .host (tBase .run true false), 0, 0, by unfold State.starts; decide +kernel⟩,
    ⟨tOrder 1286 [0, 0, 0, 0, 0, 0, 0, 0] .host (tBase .run true false), 0, 1, by unfold State.starts; decide +kernel⟩⟩

/-- States and operands that meet the hypotheses of the clauses of `Obligations.CapturesAndCapsules`. -/
theorem witness_CapturesAndCapsules :
    (∃ (s : State) (c : Nat) (d : Nat), (s.clusterAt c).state = 2 ∧
      (s.clusterAt c).trigAt + 8192 - (s.clusterAt c).pre ≤ (s.clusterAt c).written ∧ d ≠ c) ∧
    (∃ (s : State) (c : Nat) (d : Nat) (e : Nat), (s.clusterAt d).triggered = true ∧
      (s.clusterAt d).xout.testBit c = true ∧ (s.clusterAt c).state = 1 ∧ (s.clusterAt c).trigMask.testBit 8 = true ∧
      (s.clusterAt c).trigPending.contains (8, none) = false ∧ e ≠ c) ∧
    (∃ (s : State) (d : Nat), (s.clusterAt d).triggered = false) ∧
    (∃ (s : State) (c : Nat), (s.clusterAt c).state = 3) ∧
    (∃ (s : State) (c : Nat), (s.clusterAt c).state ≠ 3) ∧
    (∃ (s : State) (ch : Nat) (ev : Nat) (k : Nat), s.outputOf ch = some k ∧
      (s.clusterAt (quadrant ch)).capEnable = true ∧ (s.clusterAt (quadrant ch)).capEvents.testBit ev = true ∧
      (s.clusterAt (quadrant ch)).state ≠ 2 ∧ (s.clusterAt (quadrant ch)).state ≠ 4 ∧
      (s.clusterAt (quadrant ch)).capPost ≠ 0) ∧
    (∃ (p : Capsule), p.entries.length ≤ 1024) ∧
    (∃ (s : State) (c : Nat) (p : Capsule), List.find? (fun o => !o.frozen) (s.clusterAt c).capsuleQueue = some p ∧
      ∀ (o : Capsule), o ∈ (s.clusterAt c).capsuleQueue → o.frozen = false) ∧
    (∃ (s : State) (c : Nat) (p : Capsule) (d : Nat), List.find? (fun o => !o.frozen) (s.clusterAt c).capsuleQueue = some p ∧
      d ≠ c) ∧
    (∃ (s : State) (c : Nat) (p : Capsule), s.moverServes c = true ∧ s.log.admits = true ∧ s.log.unflushed < 32 ∧
      s.mode.firmware = true ∧ s.mode ≠ Mode.lastGasp ∧ (s.clusterAt c).nextCapsule = some p ∧ p.headStaged = false ∧
      p.fragments ≠ 0) ∧
    (∃ (s : State) (c : Nat) (p : Capsule), s.moverServes c = true ∧ s.log.admits = true ∧ s.log.unflushed < 32 ∧
      s.mode.firmware = true ∧ s.mode ≠ Mode.lastGasp ∧ (s.clusterAt c).nextCapsule = some p ∧ p.headStaged = true ∧
      p.nextFragment + 1 < p.fragments) ∧
    (∃ (s : State) (c : Nat) (p : Capsule), s.moverServes c = true ∧ s.log.admits = true ∧ s.log.unflushed < 32 ∧
      s.mode.firmware = true ∧ s.mode ≠ Mode.lastGasp ∧ (s.clusterAt c).nextCapsule = some p ∧ p.headStaged = true ∧
      p.fragments ≤ p.nextFragment + 1) ∧
    (∃ (x : Cluster) (n : Nat), x.state = 4 ∧ ∀ (o : Capsule), o ∈ x.capsuleQueue → o.frozen = true → o.number = n) :=
  ⟨⟨{ tBase .run true false with cluster := [(0, { state := 2, written := 8192 })] }, 0, 1, by decide +kernel⟩,
    ⟨{ tBase .run true false with cluster := [(0, { triggered := true, xout := 1, state := 1, trigMask := 2 ^ 8 })] },
      0, 0, 1, by decide +kernel⟩,
    ⟨{ tBase .run true false with cluster := [(0, { triggered := false })] }, 0, by decide +kernel⟩,
    ⟨{ tBase .run true false with cluster := [(0, { state := 3 })] }, 0, by decide +kernel⟩,
    ⟨tBase .run true false, 0, by decide +kernel⟩,
    ⟨{ tBase .run true false with cluster := [(0, { state := 1, capEnable := true, capEvents := 1, capPost := 256 })], desc.committed := tDesc [(2, 0, 1, 1)] },
      0, 0, 0, by decide +kernel⟩,
    ⟨{ entries := [{}, {}], frozen := true, headStaged := false, nextFragment := 0 }, by decide +kernel⟩,
    ⟨{ tBase .run true true with cluster := [(0, { capsuleQueue := [{ entries := [{}, {}], frozen := false, headStaged := false, nextFragment := 0 }] })] },
      0, { entries := [{}, {}], frozen := false, headStaged := false, nextFragment := 0 }, by decide,
      by decide +kernel⟩,
    ⟨{ tBase .run true false with cluster := [(0, { capsuleQueue := [{ entries := [{}, {}], frozen := false, headStaged := false, nextFragment := 0 }] })] },
      0, { entries := [{}, {}], frozen := false, headStaged := false, nextFragment := 0 }, 1, by decide +kernel⟩,
    ⟨{ tBase .run true false with log.mounted := true, cluster := [(0, { state := 4, capsuleQueue := [{ entries := [{}, {}], frozen := true, headStaged := false, nextFragment := 0 }] })] },
      0, { entries := [{}, {}], frozen := true, headStaged := false, nextFragment := 0 }, by decide +kernel⟩,
    ⟨{ tBase .run true false with log.mounted := true, cluster := [(0, { state := 4, capsuleQueue := [{ entries := [{}, {}], frozen := true, headStaged := true, nextFragment := 0 }] })] },
      0, { entries := [{}, {}], frozen := true, headStaged := true, nextFragment := 0 }, by decide +kernel⟩,
    ⟨{ tBase .run true false with log.mounted := true, cluster := [(0, { state := 4, capsuleQueue := [{ entries := [{}, {}], frozen := true, headStaged := true, nextFragment := 1 }] })] },
      0, { entries := [{}, {}], frozen := true, headStaged := true, nextFragment := 1 }, by decide +kernel⟩,
    ⟨({ state := 4, capsuleQueue := [{ entries := [{}, {}], frozen := true, headStaged := true, nextFragment := 1 }] } : Cluster),
      0, by decide, by decide +kernel⟩⟩

/-- States and operands that meet the hypotheses of the clauses of `Obligations.BudgetAndRectifierOrders`. -/
theorem witness_BudgetAndRectifierOrders :
    (∃ (s : State) (mb : Nat), s.starts 1537 mb ∧ (s.request mb).lay 0 [] = true) ∧
    (∃ (s : State) (mb : Nat), s.starts 1538 mb ∧ (s.request mb).lay 4 [] = true ∧ (s.request mb).u 0 4 ≠ 0 ∧
      ∀ (p : Nat), p < 32 → ((s.request mb).u 0 4).testBit p = true → s.polEnable p = 1) ∧
    (∃ (s : State) (mb : Nat), s.starts 1539 mb ∧ (s.request mb).lay 4 [] = true ∧ (s.request mb).u 0 4 ≠ 0 ∧
      ∀ (p : Nat), p < 32 → ((s.request mb).u 0 4).testBit p = true → s.polEnable p = 1 ∧
      (s.polderAt p).causes.testBit 2 = true) ∧
    (∃ (i : Nat), i ≠ 2) ∧
    (∃ (p : Nat) (r : Nat), r ≠ p) ∧
    (∃ (s : State) (mb : Nat), s.starts 1793 mb ∧ (s.request mb).lay 0 [] = true) ∧
    (∃ (s : State) (mb : Nat), s.starts 1794 mb ∧ (s.request mb).lay 16 [(9, 7)] = true ∧
      (s.request mb).u 0 8 < 2 ^ 40 ∧ ((s.request mb).u 0 8 < 2 ^ 32 ∨ (s.request mb).feats.testBit 9 = true) ∧
      (s.request mb).u 8 1 ≤ 1 ∧
      (∀ (k : Nat), k < 40 → ((s.request mb).u 0 8).testBit k = true → s.rectEnable k = 1) ∧
      ((s.request mb).u 8 1 = 0 → s.withdrawable ((s.request mb).u 0 8) = true)) ∧
    (∃ (s : State) (mb : Nat), s.starts 1794 mb ∧ (s.request mb).lay 16 [(9, 7)] = true ∧
      (s.request mb).u 0 8 < 2 ^ 40 ∧ ((s.request mb).u 0 8 < 2 ^ 32 ∨ (s.request mb).feats.testBit 9 = true) ∧
      (s.request mb).u 8 1 = 0 ∧
      (∀ (k : Nat), k < 40 → ((s.request mb).u 0 8).testBit k = true → s.rectEnable k = 1) ∧
      s.withdrawable ((s.request mb).u 0 8) = false) ∧
    (∃ (s : State) (mb : Nat), s.starts 1795 mb ∧ (s.request mb).lay 0 [] = true ∧ s.rotationWaits = false) ∧
    (∃ (s : State) (mb : Nat), s.starts 1796 mb ∧ (s.request mb).lay 8 [] = true ∧ (s.request mb).u 0 8 < 2 ^ 40 ∧
      ((s.request mb).u 0 8 < 2 ^ 32 ∨ (s.request mb).feats.testBit 9 = true)) ∧
    (∃ (s : State) (k : Nat) (j : Nat), s.mayPark = true ∧ s.onlineFailed = false ∧
      s.rectParkHold * 1000 ≤ s.plan.parkTides ∧ 10000 ≤ s.plan.sincePark ∧ s.plan.nStar < s.onlineStageable.length ∧
      (List.filter (fun k => decide ((s.rectAt k).state = 1)) s.onlineStageable).getLast? = some k ∧ j ≠ k) ∧
    (∃ (s : State), s.mayPark = false ∨ s.onlineFailed = true) ∧
    (∃ (s : State), s.plan.rotation = false ∧ s.mode = Mode.run ∧ s.rectRotatePeriod ≠ 0 ∧
      s.rectRotatePeriod * 1000 ≤ s.plan.rotationTides ∧ s.rotationWaits = false) ∧
    (∃ (s : State), s.plan.rotation = false ∧ s.rectRotatePeriod = 0) ∧
    (∃ (s : State) (k : Nat) (j : Nat), (s.rectAt k).state = 3 ∧ k < 32 ∧
      (s.rectAt k).unparkTide + 100 ≤ s.budget.tides ∧ s.spillway = true ∧ j ≠ k) ∧
    (∃ (s : State) (k : Nat), (s.rectAt k).state ≠ 3) ∧
    (∃ (s : State), s.spillway = true ∧ 3600000 ≤ s.plan.stagingTides) :=
  ⟨⟨tOrder 1537 [] .host (tBase .run true false), 0, by unfold State.starts; decide +kernel⟩,
    ⟨{ tOrder 1538 [1, 0, 0, 0] .host (tBase .run true false) with desc.committed := tDesc [(3, 0, 1, 1)] }, 0,
      by unfold State.starts; decide +kernel⟩,
    ⟨{ tOrder 1539 [1, 0, 0, 0] .host (tBase .run true false) with polder := [(0, { causes := 4 })], desc.committed := tDesc [(3, 0, 1, 1)] },
      0, by unfold State.starts; decide +kernel⟩,
    ⟨0, by decide +kernel⟩,
    ⟨0, 1, by decide +kernel⟩,
    ⟨tOrder 1793 [] .host (tBase .run true false), 0, by unfold State.starts; decide +kernel⟩,
    ⟨tOrder 1794 [0, 0, 0, 0, 0, 0, 0, 0, 0, 0, 0, 0, 0, 0, 0, 0] .host (tBase .run true false), 0,
      by unfold State.starts; decide +kernel⟩,
    ⟨{ tOrder 1794 [0, 0, 0, 0, 0, 0, 0, 0, 0, 0, 0, 0, 0, 0, 0, 0] .host (tBase .run true false) with plan.demand := [1000] },
      0, by unfold State.starts; decide +kernel⟩,
    ⟨tOrder 1795 [] .host (tBase .run true false), 0, by unfold State.starts; decide +kernel⟩,
    ⟨tOrder 1796 [0, 0, 0, 0, 0, 0, 0, 0] .host (tBase .run true false), 0, by unfold State.starts; decide +kernel⟩,
    ⟨{ tBase .run true false with plan.sincePark := 10000, rect := [(0, { state := 1, joined := true, rank := 0 }), (1, { state := 1, joined := true, rank := 1 })], plan.parkTides := 60000, plan.nStar := 1, desc.committed := tDesc [(4, 0, 1, 1), (4, 0, 4, 1000), (4, 0, 6, 1), (4, 1, 1, 1), (4, 1, 4, 1000), (4, 1, 6, 1), (4, 2, 1, 1), (4, 2, 4, 1000), (4, 2, 6, 1)] },
      1, 0, by decide +kernel⟩,
    ⟨tBase .run false false, by decide +kernel⟩,
    ⟨{ tBase .run true false with plan.rotation := false, plan.rotationTides := 604800000 }, by decide +kernel⟩,
    ⟨{ tBase .run true false with plan.rotation := false, desc.committed := tDesc [(4, 0, 69, 0)] },
      by decide +kernel⟩,
    ⟨{ tBase .run true false with rect := [(2, { state := 3 })], budget.tides := 100 }, 2, 1, by decide +kernel⟩,
    ⟨tBase .run true false, 0, by decide +kernel⟩,
    ⟨{ tBase .run true false with plan.stagingTides := 3600000 }, by decide +kernel⟩⟩

/-- States and operands that meet the hypotheses of the clauses of `Obligations.SpillwaySheds`. -/
theorem witness_SpillwaySheds :
    (∃ (s : State) (p : Nat), s.spillway = true ∧ s.budget.frozen = false ∧ 3 ≤ s.budget.deficitTides ∧
      s.budget.awaitShed = none ∧ p < 32 ∧ s.polEnable p = 1 ∧ s.polShedExempt p ≠ 1 ∧ s.polShed p = false ∧
      ∀ (r : Nat), r < 32 → r ≠ p → s.polEnable r = 1 → s.polShedExempt r ≠ 1 → s.polShed r = false → s.polPriority p < s.polPriority r ∨ s.polPriority p = s.polPriority r ∧
      r < p) ∧
    (∃ (s : State) (p : Nat) (r : Nat), s.spillway = true ∧ s.budget.frozen = false ∧ 3 ≤ s.budget.deficitTides ∧
      s.budget.awaitShed = none ∧ p < 32 ∧ s.polEnable p = 1 ∧ s.polShedExempt p ≠ 1 ∧ s.polShed p = false ∧
      (∀ (r : Nat), r < 32 → r ≠ p → s.polEnable r = 1 → s.polShedExempt r ≠ 1 → s.polShed r = false → s.polPriority p < s.polPriority r ∨ s.polPriority p = s.polPriority r ∧ r < p) ∧
      r ≠ p) ∧
    (∃ (s : State), s.spillway = true ∧ s.budget.deficitTides < 3) ∧
    (∃ (s : State) (p : Nat), s.spillway = true ∧ s.budget.rtActive = false ∧ s.budget.frozen = false ∧
      2000 ≤ s.budget.sinceClear ∧ p < 32 ∧ s.polEnable p = 1 ∧ (s.polderAt p).causes.testBit 0 = true ∧
      10000 ≤ (s.polderAt p).okTides ∧
      ∀ (r : Nat), r < 32 → r ≠ p → s.polEnable r = 1 → (s.polderAt r).causes.testBit 0 = true → s.polPriority r < s.polPriority p ∨ s.polPriority r = s.polPriority p ∧
      p < r) ∧
    (∃ (s : State) (p : Nat) (i : Nat), s.spillway = true ∧ s.budget.rtActive = false ∧ s.budget.frozen = false ∧
      2000 ≤ s.budget.sinceClear ∧ p < 32 ∧ s.polEnable p = 1 ∧ (s.polderAt p).causes.testBit 0 = true ∧
      10000 ≤ (s.polderAt p).okTides ∧
      (∀ (r : Nat), r < 32 → r ≠ p → s.polEnable r = 1 → (s.polderAt r).causes.testBit 0 = true → s.polPriority r < s.polPriority p ∨ s.polPriority r = s.polPriority p ∧ p < r) ∧
      i ≠ 0) ∧
    (∃ (s : State) (p : Nat) (r : Nat), s.spillway = true ∧ s.budget.rtActive = false ∧ s.budget.frozen = false ∧
      2000 ≤ s.budget.sinceClear ∧ p < 32 ∧ s.polEnable p = 1 ∧ (s.polderAt p).causes.testBit 0 = true ∧
      10000 ≤ (s.polderAt p).okTides ∧
      (∀ (r : Nat), r < 32 → r ≠ p → s.polEnable r = 1 → (s.polderAt r).causes.testBit 0 = true → s.polPriority r < s.polPriority p ∨ s.polPriority r = s.polPriority p ∧ p < r) ∧
      r ≠ p) ∧
    (∃ (s : State) (p : Nat), s.spillway = true ∧ s.budget.clearing = true ∧ 2000 ≤ s.budget.sinceRuntimeClear ∧
      p < 32 ∧ s.polEnable p = 1 ∧ (s.polderAt p).causes.testBit 1 = true ∧
      ∀ (r : Nat), r < 32 → r ≠ p → s.polEnable r = 1 → (s.polderAt r).causes.testBit 1 = true → s.polPriority r < s.polPriority p ∨ s.polPriority r = s.polPriority p ∧
      p < r) ∧
    (∃ (s : State) (p : Nat) (r : Nat), s.spillway = true ∧ s.budget.clearing = true ∧
      2000 ≤ s.budget.sinceRuntimeClear ∧ p < 32 ∧ s.polEnable p = 1 ∧ (s.polderAt p).causes.testBit 1 = true ∧
      (∀ (r : Nat), r < 32 → r ≠ p → s.polEnable r = 1 → (s.polderAt r).causes.testBit 1 = true → s.polPriority r < s.polPriority p ∨ s.polPriority r = s.polPriority p ∧ p < r) ∧
      r ≠ p) ∧
    (∃ (s : State), s.spillway = true ∧ s.budget.rtActive = true ∧ s.budget.predictAt ≤ s.budget.rtTides ∧
      0 < meanOf s.budget.batteryHist ∧ 0 < meanOf s.budget.outHist) :=
  ⟨⟨{ tBase .run true false with budget.frozen := false, budget.deficitTides := 3, budget.awaitShed := none, desc.committed := tDesc [(3, 0, 1, 1)] },
  0, by decide +kernel, by decide +kernel, by decide +kernel, by decide +kernel, by decide +kernel, by decide +kernel,
  by decide +kernel, by decide +kernel, by decide +kernel⟩,
    ⟨{ tBase .run true false with budget.frozen := false, budget.deficitTides := 3, budget.awaitShed := none, desc.committed := tDesc [(3, 0, 1, 1)] },
      0, 1, by decide +kernel, by decide +kernel, by decide +kernel, by decide +kernel, by decide +kernel,
      by decide +kernel, by decide +kernel, by decide +kernel, by decide +kernel, by decide +kernel⟩,
    ⟨tBase .run true false, by decide +kernel, by decide +kernel⟩,
    ⟨{ tBase .run true false with budget.rtActive := false, budget.frozen := false, budget.sinceClear := 2000, polder := [(0, { causes := 2 ^ 0, okTides := 10000 })], desc.committed := tDesc [(3, 0, 1, 1)] },
      0, by decide +kernel, by decide +kernel, by decide +kernel, by decide +kernel, by decide +kernel,
      by decide +kernel, by decide +kernel, by decide +kernel, by decide +kernel⟩,
    ⟨{ tBase .run true false with budget.rtActive := false, budget.frozen := false, budget.sinceClear := 2000, polder := [(0, { causes := 2 ^ 0, okTides := 10000 })], desc.committed := tDesc [(3, 0, 1, 1)] },
      0, 1, by decide +kernel, by decide +kernel, by decide +kernel, by decide +kernel, by decide +kernel,
      by decide +kernel, by decide +kernel, by decide +kernel, by decide +kernel, by decide +kernel⟩,
    ⟨{ tBase .run true false with budget.rtActive := false, budget.frozen := false, budget.sinceClear := 2000, polder := [(0, { causes := 2 ^ 0, okTides := 10000 })], desc.committed := tDesc [(3, 0, 1, 1)] },
      0, 1, by decide +kernel, by decide +kernel, by decide +kernel, by decide +kernel, by decide +kernel,
      by decide +kernel, by decide +kernel, by decide +kernel, by decide +kernel, by decide +kernel⟩,
    ⟨{ tBase .run true false with budget.clearing := true, budget.sinceRuntimeClear := 2000, polder := [(0, { causes := 2 ^ 1 })], desc.committed := tDesc [(3, 0, 1, 1)] },
      0, by decide +kernel, by decide +kernel, by decide +kernel, by decide +kernel, by decide +kernel,
      by decide +kernel, by decide +kernel⟩,
    ⟨{ tBase .run true false with budget.clearing := true, budget.sinceRuntimeClear := 2000, polder := [(0, { causes := 2 ^ 1 })], desc.committed := tDesc [(3, 0, 1, 1)] },
      0, 1, by decide +kernel, by decide +kernel, by decide +kernel, by decide +kernel, by decide +kernel,
      by decide +kernel, by decide +kernel, by decide +kernel⟩,
    ⟨{ tBase .run true false with budget.rtActive := true, budget.predictAt := 0, budget.batteryHist := [5], budget.outHist := [5] },
      by decide +kernel, by decide +kernel, by decide +kernel, by decide +kernel, by decide +kernel⟩⟩

/-- States and operands that meet the hypotheses of the clauses of `Obligations.TidelineOrdersAndTimers`. -/
theorem witness_TidelineOrdersAndTimers :
    (∃ (s : State) (mb : Nat), s.starts 2049 mb ∧ (s.request mb).lay 0 [] = true) ∧
    (∃ (s : State) (mb : Nat) (i : Nat), s.starts 2050 mb ∧ (s.request mb).lay 4 [(1, 3)] = true ∧
      (s.request mb).u 0 1 ≤ 7 ∧ i < 16) ∧
    (∃ (s : State) (mb : Nat), s.starts 2051 mb ∧ (s.request mb).lay 16 [] = true ∧ s.fieldGood 24 8 = true ∧
      s.secretLocked [0, 2] = false ∧ s.keyMatches 24 (slice (s.request mb).payload 0 16) = true) ∧
    (∃ (s : State) (mb : Nat), s.starts 2051 mb ∧ (s.request mb).lay 16 [] = true ∧ s.fieldGood 24 8 = false) ∧
    (∃ (s : State) (mb : Nat) (k : Nat), s.starts 2052 mb ∧ (s.request mb).lay 4 [(1, 3)] = true ∧
      2 ≤ (s.nodeAt ((s.request mb).u 0 1)).state ∧ k ≠ (s.request mb).u 0 1) ∧
    (∃ (s : State) (k : Nat) (j : Nat), (s.nodeAt k).state = 1 ∧ (s.nodeAt k).joinTide + 3 ≤ s.budget.tides ∧ j ≠ k) ∧
    (∃ (s : State) (k : Nat), (s.nodeAt k).state ≠ 1) ∧
    (∃ (s : State), s.tide.stranger = true ∧ 1000 ≤ s.tide.strangerTides) ∧
    (∃ (s : State), s.tide.strangerTides < 1000) ∧
    (∃ (s : State) (k : Nat) (j : Nat), (s.nodeAt k).sleeper = true ∧
      ((s.nodeAt k).state = 2 ∨ (s.nodeAt k).state = 3) ∧ 3 ≤ (s.nodeAt k).missRun ∧ s.tideSends = true ∧ j ≠ k) ∧
    (∃ (s : State) (k : Nat), (s.nodeAt k).sleeper = false) ∧
    (∃ (s : State) (k : Nat), s.tide.wide = true ∧ s.tide.wideLeft = 0 ∧ k ∈ s.slotNodes ∧ (s.nodeAt k).state = 4 ∧
      (s.nodeAt k).freeAt = none) ∧
    (∃ (s : State) (k : Nat), s.tide.wide = true ∧ s.tide.wideLeft = 0 ∧
      ((s.nodeAt k).state ≠ 4 ∨ (s.nodeAt k).freeAt ≠ none)) ∧
    (∃ (s : State), s.tide.wide = false) ∧
    (∃ (s : State) (k : Nat) (t : Nat) (j : Nat), (s.nodeAt k).freeAt = some t ∧ (s.nodeAt k).state = 4 ∧
      t ≤ s.budget.tides ∧ j ≠ k) ∧
    (∃ (s : State), s.tide.quiet = true ∧ s.tide.quietTide + 100 ≤ s.budget.tides) ∧
    (∃ (s : State), s.tide.quiet = false) :=
  ⟨⟨tOrder 2049 [] .host (tBase .run true false), 0, by unfold State.starts; decide +kernel⟩,
    ⟨tOrder 2050 [0, 0, 0, 0] .host (tBase .run true false), 0, 0, by unfold State.starts; decide +kernel⟩,
    ⟨{ tOrder 2051 [0, 0, 0, 0, 0, 0, 0, 0, 0, 0, 0, 0, 0, 0, 0, 0] .host (tBase .configure true false) with otp.words := [(24, sealedWord 4278732599), (25, sealedWord 3583865335), (26, sealedWord 1976082071), (27, sealedWord 684879061), (28, sealedWord 4147932527), (29, sealedWord 997863916), (30, sealedWord 2871681829), (31, sealedWord 3141004328)] },
      0, by unfold State.starts; decide +kernel⟩,
    ⟨tOrder 2051 [0, 0, 0, 0, 0, 0, 0, 0, 0, 0, 0, 0, 0, 0, 0, 0] .host (tBase .configure true false), 0,
      by unfold State.starts; decide +kernel⟩,
    ⟨{ tOrder 2052 [2, 0, 0, 0] .host (tBase .run true false) with tide.nodes := [(2, { state := 2 })] }, 0, 1,
      by unfold State.starts; decide +kernel⟩,
    ⟨{ tBase .run true false with tide.nodes := [(2, { state := 1 })], budget.tides := 3 }, 2, 1, by decide +kernel⟩,
    ⟨tBase .run true false, 0, by decide +kernel⟩,
    ⟨{ tBase .run true false with tide.stranger := true, tide.strangerTides := 1000 }, by decide +kernel⟩,
    ⟨tBase .run true false, by decide +kernel⟩,
    ⟨{ tBase .run true false with tide.nodes := [(2, { sleeper := true, missRun := 3, state := 2 })], tide.packetInit := true },
      2, 1, by decide +kernel⟩,
    ⟨{ tBase .run true false with tide.nodes := [(0, { sleeper := false })] }, 0, by decide +kernel⟩,
    ⟨{ tBase .run true false with tide.wide := true, tide.wideLeft := 0, tide.nodes := [(0, { state := 4, freeAt := none })] },
      0, by decide +kernel⟩,
    ⟨{ tBase .run true false with tide.wide := true, tide.wideLeft := 0 }, 0, by decide +kernel⟩,
    ⟨{ tBase .run true false with tide.wide := false }, by decide +kernel⟩,
    ⟨{ tBase .run true false with tide.nodes := [(2, { state := 4, freeAt := some 5 })], budget.tides := 5 }, 2, 5, 1,
      by decide +kernel⟩,
    ⟨{ tBase .run true false with tide.quiet := true, budget.tides := 100 }, by decide +kernel⟩,
    ⟨{ tBase .run true false with tide.quiet := false }, by decide +kernel⟩⟩

/-- States and operands that meet the hypotheses of the clauses of `Obligations.TidelineFrames`. -/
theorem witness_TidelineFrames :
    (∃ (s : State), s.clocks.running = true ∧ s.tide.cycle < 10 ∧ s.mode.firmware = true) ∧
    (∃ (s : State), 10 ≤ s.tide.cycle) ∧
    (∃ (s : State) (slot : Nat) (f : SlotReport) (n : Nat) (k : Nat), slot < 100 ∧ s.tideOn = true ∧
      s.cycleNow = 2 * (slotPlace slot).fst + 1 ∧ s.nodeOfSlot slot = some n ∧ s.slotFormed slot f = true ∧
      s.slotTagOk n (2 * (slotPlace slot).fst) f = true ∧ (2 ≤ (s.nodeAt n).state ∨ s.wardenRuns = false) ∧ k ≠ n) ∧
    (∃ (s : State) (n : Nat) (k : Nat), (s.nodeAt n).state = 1 ∧ k ≠ n) ∧
    (∃ (s : State) (n : Nat) (k : Nat), s.rectOfNode n = some k) ∧
    (∃ (s : State) (slot : Nat) (n : Nat) (k : Nat), slot < 100 ∧ s.tideOn = true ∧
      s.cycleNow = 2 * (slotPlace slot).fst + 1 ∧ s.nodeOfSlot slot = some n ∧ 2 ≤ (s.nodeAt n).state ∧ k ≠ n) ∧
    (∃ (s : State) (f : Bytes) (k : Nat) (slot : Nat) (j : Nat), s.tideSends = true ∧ s.wardenRuns = true ∧
      s.symbol6Open = true ∧ List.length f = 57 ∧ fld f 0 1 = 32 ∧ s.tide.rootInstalled = true ∧
      s.tide.kRoot = some k ∧ tag32 (joinKey k (joinReqOf f).moduleId) (List.take 33 f) = slice f 33 4 ∧
      s.otp.lifecycle ≠ 3 ∧ s.nodeDescribed (joinReqOf f).node (joinReqOf f).cls = true ∧
      (s.nodeAt (joinReqOf f).node).state = 0 ∧ s.freeSlot = some slot ∧ j ≠ (joinReqOf f).node) ∧
    (∃ (s : State) (f : Bytes) (k : Nat), s.tideSends = true ∧ s.wardenRuns = true ∧ s.symbol6Open = true ∧
      List.length f = 57 ∧ fld f 0 1 = 32 ∧ s.tide.rootInstalled = true ∧ s.tide.kRoot = some k ∧
      tag32 (joinKey k (joinReqOf f).moduleId) (List.take 33 f) = slice f 33 4 ∧ s.otp.lifecycle ≠ 3 ∧
      s.nodeDescribed (joinReqOf f).node (joinReqOf f).cls = false) ∧
    (∃ (s : State) (f : Bytes), s.tideSends = true ∧ s.wardenRuns = true ∧ s.symbol6Open = true ∧ List.length f = 57 ∧
      fld f 0 1 = 32 ∧ s.tide.rootInstalled = false) ∧
    (∃ (s : State) (f : Bytes) (j : Nat), s.tideSends = true ∧ s.symbol6Open = true ∧ List.length f = 57 ∧
      fld f 0 1 = 33 ∧ s.nodeTagOk f 20 = true ∧ j ≠ fld f 1 1) ∧
    (∃ (s : State) (f : Bytes), s.tideOn = true ∧ s.symbol6Open = true ∧ List.length f = 57 ∧ fld f 0 1 = 33 ∧
      s.nodeTagOk f 20 = false) ∧
    (∃ (s : State) (f : Bytes), s.tideOn = true ∧ List.length f = 57 ∧ fld f 0 1 = 48 ∧ fld f 1 1 < 16 ∧
      tag32 s.tide.kg ([byte 20] ++ List.take 8 f) = slice f 8 4) ∧
    (∃ (s : State) (f : Bytes), s.tideOn = true ∧ List.length f = 57 ∧ fld f 0 1 = 49 ∧ s.nodeTagOk f 19 = true) ∧
    (∃ (s : State) (f : Bytes), s.tideOn = true ∧ List.length f = 57 ∧ fld f 0 1 = 49 ∧ s.nodeTagOk f 19 = false) :=
  ⟨⟨{ tBase .run true false with clocks.running := true }, by decide +kernel⟩,
    ⟨{ tBase .run true false with tide.cycle := 10 }, by decide +kernel⟩,
    ⟨{ tBase .run true false with tide.nodes := [(4, { state := 2, slot := 21 })], tide.cycle := 4 }, 21, tSlot4, 4,
      2, by decide +kernel⟩,
    ⟨{ tBase .run true false with tide.nodes := [(0, { state := 1 })] }, 0, 1, by decide +kernel⟩,
    ⟨{ tBase .run true false with desc.committed := tDesc [(4, 0, 1, 1)] }, 0, 0, by decide +kernel⟩,
    ⟨{ tBase .run true false with tide.nodes := [(4, { state := 2, slot := 21 })], tide.cycle := 4 }, 21, 4, 2,
      by decide +kernel⟩,
    ⟨{ tBase .run true false with tide.rootInstalled := true, tide.packetInit := true, tide.kRoot := some 5, desc.committed := tDesc [(4, 0, 1, 1), (4, 0, 2, 1)] },
      tJoin, 5, 0, 0, by decide +kernel⟩,
    ⟨{ tBase .run true false with tide.rootInstalled := true, tide.packetInit := true, tide.kRoot := some 5 }, tJoin,
      5, by decide +kernel⟩,
    ⟨{ tBase .run true false with tide.rootInstalled := false, tide.packetInit := true }, ([32, 1] ++ zeros 55),
      by decide +kernel⟩,
    ⟨{ tBase .run true false with tide.nodes := [(1, { state := 2 })], tide.packetInit := true, tide.cycle := 3 },
      tAlarm, 2, by decide +kernel⟩,
    ⟨{ tBase .run true false with tide.cycle := 3 }, ([33, 1] ++ zeros 55), by decide +kernel⟩,
    ⟨{ tBase .run true false with tide.cycle := 3 }, tStand, by decide +kernel⟩,
    ⟨{ tBase .run true false with tide.nodes := [(1, { state := 2 })], tide.cycle := 3 }, tLeave, by decide +kernel⟩,
    ⟨{ tBase .run true false with tide.cycle := 3 }, ([49, 1] ++ zeros 55), by decide +kernel⟩⟩

/-- States and operands that meet the hypotheses of the clauses of `Obligations.GaugeOrdersAndRows`. -/
theorem witness_GaugeOrdersAndRows :
    (∃ (s : State) (mb : Nat) (i : Nat), s.starts 2305 mb ∧ (s.request mb).lay 4 [(1, 3)] = true ∧
      (s.request mb).u 0 1 ≤ 1 ∧ i < 16) ∧
    (∃ (s : State) (mb : Nat), s.starts 2306 mb ∧ s.gauge.probe = none ∧ s.probeMode = true ∧
      (s.request mb).lay (8 + 4 * (s.request mb).u 7 1) [] = true ∧ 1 ≤ (s.request mb).u 7 1 ∧
      (s.request mb).u 7 1 ≤ 16 ∧ 10 ≤ (s.request mb).u 4 2 ∧ (s.request mb).u 4 2 ≤ 50 ∧ 2 ≤ (s.request mb).u 6 1 ∧
      (s.request mb).u 6 1 ≤ 20 ∧ (s.request mb).u 0 4 &&& listMap s.enabledStrings ≠ 0 ∧
      ∀ (x : Nat), x ∈ (s.request mb).probeNs → 100 ≤ x ∧ x ≤ 100000) ∧
    (∃ (s : State) (mb : Nat) (p : Probe), s.starts 2306 mb ∧ s.probeMode = true ∧ s.gauge.probe = some p) ∧
    (∃ (s : State) (mb : Nat), s.starts 2306 mb ∧ s.probeMode = false) ∧
    (∃ (s : State) (mb : Nat), s.starts 2307 mb ∧ (s.request mb).lay 4 [(1, 3)] = true ∧ (s.request mb).u 0 1 ≤ 31) ∧
    (∃ (s : State) (mb : Nat), s.starts 2308 mb ∧ (s.request mb).lay 0 [] = true) ∧
    (∃ (s : State) (mb : Nat), s.starts 2309 mb ∧ (s.request mb).lay 0 [] = true) ∧
    (∃ (s : State) (mb : Nat), s.starts 2310 mb ∧ (s.request mb).lay 8 [(5, 3)] = true ∧ (s.request mb).u 4 1 ≤ 2) ∧
    (∃ (s : State) (k : Nat), s.mode.active = true ∧ s.wardenRuns = true ∧ s.domain 13 = true ∧
      s.clocks.running = true ∧ s.ext % 1000 = 0 ∧ s.gauge.cycleAt ≠ some s.ext ∧ s.role = 2 ∧ k < 32) ∧
    (∃ (s : State), s.mode.active = true ∧ s.wardenRuns = true ∧ s.domain 13 = true ∧ s.clocks.running = true ∧
      s.ext % 1000 = 0 ∧ s.gauge.cycleAt ≠ some s.ext ∧ s.role ≠ 2) ∧
    (∃ (s : State), s.ext % 1000 ≠ 0 ∨ s.gauge.cycleAt = some s.ext) ∧
    (∃ (s : State) (r : Nat) (k : Nat), (s.mode = Mode.gaugeWatch ∨ s.mode.active = true ∧ s.strHibActive = 1) ∧
      s.domain 13 = true ∧ s.gauge.probe = none ∧ s.gauge.hib = false ∧
      s.gauge.idleFrom + 60000000000 ≤ max s.retained.rtcNs (r % 2 ^ 64) ∧ k < 32) ∧
    (∃ (s : State) (r : Nat) (k : Nat), (s.mode = Mode.gaugeWatch ∨ s.mode.active = true ∧ s.strHibActive = 1) ∧
      s.domain 13 = true ∧ s.gauge.probe = none ∧ s.gauge.hib = false ∧
      s.gauge.idleFrom + 60000000000 ≤ max s.retained.rtcNs (r % 2 ^ 64) ∧ (s.stringAt k).state ∈ [2, 3]) ∧
    (∃ (s : State) (k : Nat) (j : Nat), s.gauge.hib = true ∧ s.domain 13 = true ∧ (s.convAt k).running = true ∧
      (s.convAt k).wakeStep ≠ 0 ∧ (s.stringAt j).state = 4) ∧
    (∃ (s : State) (k : Nat), s.gauge.hib = false ∧ s.domain 13 = true ∧ (s.convAt k).running = true ∧
      (s.convAt k).wakeStep ≠ 0) ∧
    (∃ (s : State) (k : Nat), (s.convAt k).running = false) ∧
    (∃ (s : State) (k : Nat) (j : Nat), k < 32 ∧ s.strEnable k = 1 ∧ s.mode.active = true ∧ s.role ≠ 2 ∧
      (s.stringAt k).state = 1 ∧ 5000000 < (s.stringAt k).lastV ∧ j ≠ k) ∧
    (∃ (s : State) (k : Nat), (s.stringAt k).state ≠ 1) ∧
    (∃ (s : State) (k : Nat) (j : Nat), k < 32 ∧ s.strEnable k = 1 ∧ s.mode.active = true ∧ s.role ≠ 2 ∧
      (s.stringAt k).state ≠ 0 ∧ (s.stringAt k).lastV < 5000000 ∧ j ≠ k) ∧
    (∃ (s : State) (k : Nat), (s.stringAt k).state = 0) ∧
    (∃ (s : State) (p : Probe) (n : Nat) (r : List Nat) (k : Nat), s.gauge.probe = some p ∧ p.ns = n :: r ∧
      (p.cycles + 1) * n < p.c ∧ s.wardenRuns = true ∧ k < 32 ∧ p.strings.testBit k = true ∧
      p.dropped.testBit k = false) ∧
    (∃ (s : State) (p : Probe) (n : Nat), s.gauge.probe = some p ∧ p.ns = [n] ∧ (p.cycles + 1) * n < p.c ∧
      s.wardenRuns = true) ∧
    (∃ (s : State) (p : Probe) (n : Nat) (r : List Nat), s.gauge.probe = some p ∧ p.ns = n :: r ∧
      (p.cycles + 1) * n < p.c ∧ s.wardenRuns = true ∧ r ≠ []) ∧
    (∃ (s : State), s.strProbePeriod ≠ 0 ∧ s.strProbePeriod ≤ s.gauge.sinceProbe ∧ s.gauge.probeRetry = 0 ∧
      s.gauge.probe = none ∧ s.probeMode = true ∧ s.wardenRuns = true ∧ s.enabledStrings ≠ []) ∧
    (∃ (s : State), s.strProbePeriod = 0) :=
  ⟨⟨tOrder 2305 [0, 0, 0, 0] .host (tBase .run true false), 0, 0, by unfold State.starts; decide +kernel⟩,
    ⟨{ tOrder 2306 [1, 0, 0, 0, 10, 0, 2, 1, 100, 0, 0, 0] .host (tBase .run true false) with gauge.probe := none, desc.committed := tDesc [(5, 0, 1, 1)] },
      0, by unfold State.starts; decide +kernel⟩,
    ⟨{ tOrder 2306 [] .host (tBase .run true false) with gauge.probe := some ({ strings := 1, ampl := 10, cycles := 2, ns := [100], c := 1000, auto := false, lastMean := [], sum := [], from_ := 0, now := [], periods := [], temps := [], ticks := 0, dropped := 0 }) },
      0,
      { strings := 1, ampl := 10, cycles := 2, ns := [100], c := 1000, auto := false, lastMean := [], sum := [], from_ := 0, now := [], periods := [], temps := [], ticks := 0, dropped := 0 },
      by unfold State.starts; decide +kernel⟩,
    ⟨tOrder 2306 [] .host (tBase .run false false), 0, by unfold State.starts; decide +kernel⟩,
    ⟨tOrder 2307 [0, 0, 0, 0] .host (tBase .run true false), 0, by unfold State.starts; decide +kernel⟩,
    ⟨tOrder 2308 [] .host (tBase .run true false), 0, by unfold State.starts; decide +kernel⟩,
    ⟨tOrder 2309 [] .host (tBase .run true false), 0, by unfold State.starts; decide +kernel⟩,
    ⟨tOrder 2310 [0, 0, 0, 0, 0, 0, 0, 0] .host (tBase .run true false), 0, by unfold State.starts; decide +kernel⟩,
    ⟨{ tBase .run false false with clocks.running := true }, 0, by decide +kernel⟩,
    ⟨{ tBase .run true false with clocks.running := true }, by decide +kernel⟩,
    ⟨{ tBase .run true false with clocks.epoch := 1 }, by decide +kernel⟩,
    ⟨{ tBase .gaugeWatch true false with gauge.probe := none, gauge.hib := false, gauge.strings := [(2, { state := 3 })] },
      60000000000, 2, by decide +kernel⟩,
    ⟨{ tBase .gaugeWatch true false with gauge.probe := none, gauge.hib := false, gauge.strings := [(2, { state := 3 })] },
      60000000000, 2, by decide +kernel⟩,
    ⟨{ tBase .run true false with gauge.hib := true, gauge.conv := [(0, { running := true, wakeStep := 1 })], gauge.strings := [(1, { state := 4 })] },
      0, 1, by decide +kernel⟩,
    ⟨{ tBase .run true false with gauge.hib := false, gauge.conv := [(0, { running := true, wakeStep := 1 })] }, 0,
      by decide +kernel⟩,
    ⟨{ tBase .run true false with gauge.conv := [(0, { running := false })] }, 0, by decide +kernel⟩,
    ⟨{ tBase .run true false with gauge.strings := [(2, { state := 1, lastV := 5000001 })], desc.committed := tDesc [(5, 2, 1, 1)] },
      2, 1, by decide +kernel⟩,
    ⟨tBase .run true false, 0, by decide +kernel⟩,
    ⟨{ tBase .run true false with gauge.strings := [(2, { state := 2, lastV := 4999999 })], desc.committed := tDesc [(5, 2, 1, 1)] },
      2, 1, by decide +kernel⟩,
    ⟨{ tBase .run true false with gauge.strings := [(0, { state := 0 })] }, 0, by decide +kernel⟩,
    ⟨{ tBase .run true false with gauge.probe := some ({ strings := 1, ampl := 10, cycles := 2, ns := [100, 200], c := 1000, auto := false, lastMean := [], sum := [], from_ := 0, now := [], periods := [], temps := [], ticks := 0, dropped := 0 }) },
      { strings := 1, ampl := 10, cycles := 2, ns := [100, 200], c := 1000, auto := false, lastMean := [], sum := [], from_ := 0, now := [], periods := [], temps := [], ticks := 0, dropped := 0 },
      100, [200], 0, by decide +kernel⟩,
    ⟨{ tBase .run true false with gauge.probe := some ({ strings := 1, ampl := 10, cycles := 2, ns := [100], c := 1000, auto := false, lastMean := [], sum := [], from_ := 0, now := [], periods := [], temps := [], ticks := 0, dropped := 0 }) },
      { strings := 1, ampl := 10, cycles := 2, ns := [100], c := 1000, auto := false, lastMean := [], sum := [], from_ := 0, now := [], periods := [], temps := [], ticks := 0, dropped := 0 },
      100, by decide +kernel⟩,
    ⟨{ tBase .run true false with gauge.probe := some ({ strings := 1, ampl := 10, cycles := 2, ns := [100, 200], c := 1000, auto := false, lastMean := [], sum := [], from_ := 0, now := [], periods := [], temps := [], ticks := 0, dropped := 0 }) },
      { strings := 1, ampl := 10, cycles := 2, ns := [100, 200], c := 1000, auto := false, lastMean := [], sum := [], from_ := 0, now := [], periods := [], temps := [], ticks := 0, dropped := 0 },
      100, [200], by decide +kernel⟩,
    ⟨{ tBase .run true false with gauge.probeRetry := 0, gauge.probe := none, gauge.sinceProbe := 604800, desc.committed := tDesc [(5, 0, 1, 1)] },
      by decide +kernel⟩,
    ⟨{ tBase .run true false with desc.committed := tDesc [(5, 0, 65, 0)] }, by decide +kernel⟩⟩

/-- States and operands that meet the hypotheses of the clauses of `Obligations.SluiceOrdersAndToken`. -/
theorem witness_SluiceOrdersAndToken :
    (∃ (s : State) (mb : Nat), s.starts 2561 mb ∧ (s.request mb).lay 0 [] = true) ∧
    (∃ (s : State) (mb : Nat), s.starts 2562 mb ∧ (s.request mb).lay 4 [(0, 4)] = true ∧ s.token = true ∧
      s.partnerFit = true) ∧
    (∃ (s : State) (mb : Nat), s.starts 2563 mb ∧ (s.request mb).lay 4 [(1, 3)] = true ∧
      s.sluice.restoreTests = none ∧ (s.request mb).u 0 1 = 0) ∧
    (∃ (s : State) (mb : Nat), s.starts 2563 mb ∧ (s.request mb).lay 4 [(1, 3)] = true ∧
      s.sluice.restoreTests = none ∧ (s.request mb).u 0 1 = 1) ∧
    (∃ (s : State) (mb : Nat), s.starts 2564 mb ∧ (s.request mb).lay 4 [(1, 3)] = true ∧ (s.request mb).u 0 1 ≤ 15) ∧
    (∃ (s : State) (mb : Nat) (i : Nat), s.starts 2565 mb ∧ (s.request mb).lay 4 [(1, 3)] = true ∧
      (s.request mb).u 0 1 ≤ 3 ∧ i < 32) ∧
    (∃ (s : State) (t : Nat), s.sluice.claim = ClaimPhase.waitLow ∧ s.sluice.own = false ∧
      (s.sluice.dropped = false ∨ 10000 ≤ t)) ∧
    (∃ (s : State) (t : Nat), s.sluice.claim = ClaimPhase.waitLow ∧ s.sluice.dropped = true ∧ t < 10000) ∧
    (∃ (s : State), s.sluice.claim ≠ ClaimPhase.waitLow) ∧
    (∃ (s : State) (k : Nat), s.sluice.claim = ClaimPhase.raised ∧ k < 128) ∧
    (∃ (s : State) (t : Nat), s.sluice.claim = ClaimPhase.backoff ∧ s.backoffUs ≤ t) ∧
    (∃ (s : State) (t : Nat), s.sluice.claim ≠ ClaimPhase.backoff ∨ t < s.backoffUs) ∧
    (∃ (s : State) (t : Nat) (k : Nat), s.role = 2 ∧ s.fit = true ∧ s.sluice.partnerLongPress = false ∧
      (s.sluice.dropped = false ∨ 10000 ≤ t) ∧ k < 128 ∧ (s.chanAt k).mirState = 5 ∧ s.outputOf k = none) ∧
    (∃ (s : State), s.role ≠ 2) ∧
    (∃ (s : State), s.sluice.own = true ∧ s.sluice.claim = ClaimPhase.none ∧ s.mode.firmware = true ∧
      s.running = false) ∧
    (∃ (s : State) (k : Nat), s.sluice.own = true ∧ k < 128) ∧
    (∃ (s : State), s.sluice.own = true ∧ s.sluice.claim = ClaimPhase.none ∧ s.mode.firmware = true ∧
      s.running = true) ∧
    (∃ (s : State), s.sluice.overlap = true ∧ ∀ (n : Nat), n ∈ s.sluice.oldOrders → ¬n ∈ s.host.orders ∧
      s.waitingOn n = none) ∧
    (∃ (s : State), s.sluice.overlap = false) :=
  ⟨⟨tOrder 2561 [] .host (tBase .run true false), 0, by unfold State.starts; decide +kernel⟩,
    ⟨{ tOrder 2562 [0, 0, 0, 0] .host (tBase .run true false) with sluice.hello := true, sluice.pFit := 1 }, 0,
      by unfold State.starts; decide +kernel⟩,
    ⟨{ tOrder 2563 [0, 0, 0, 0] .host (tBase .shadow true false) with sluice.restoreTests := none }, 0,
      by unfold State.starts; decide +kernel⟩,
    ⟨{ tOrder 2563 [1, 0, 0, 0] .host (tBase .shadow true false) with sluice.restoreTests := none }, 0,
      by unfold State.starts; decide +kernel⟩,
    ⟨tOrder 2564 [0, 0, 0, 0] .host (tBase .run true false), 0, by unfold State.starts; decide +kernel⟩,
    ⟨tOrder 2565 [0, 0, 0, 0] .host (tBase .shadow true false), 0, 0, by unfold State.starts; decide +kernel⟩,
    ⟨{ tBase .run true false with sluice.claim := ClaimPhase.waitLow, sluice.own := false }, 0, by decide +kernel⟩,
    ⟨{ tBase .run true false with sluice.claim := ClaimPhase.waitLow, sluice.dropped := true }, 0, by decide +kernel⟩,
    ⟨tBase .run true false, by decide +kernel⟩,
    ⟨{ tBase .run true false with sluice.claim := ClaimPhase.raised }, 0, by decide +kernel⟩,
    ⟨{ tBase .run true false with sluice.claim := ClaimPhase.backoff }, 16, by decide +kernel⟩,
    ⟨tBase .run true false, 0, by decide +kernel⟩,
    ⟨{ tBase .shadow false false with sluice.partnerLongPress := false, chan := [(2, { mirState := 5 })], sluice.mirrorsApplied := 50, sluice.superLast := 0 },
      10000, 2, by decide +kernel⟩,
    ⟨tBase .run true false, by decide +kernel⟩,
    ⟨{ tBase .configure true false with sluice.own := true, sluice.claim := ClaimPhase.none }, by decide +kernel⟩,
    ⟨{ tBase .run true false with sluice.own := true }, 0, by decide +kernel⟩,
    ⟨{ tBase .run true false with sluice.own := true, sluice.claim := ClaimPhase.none }, by decide +kernel⟩,
    ⟨{ tBase .run true false with sluice.overlap := true }, by decide +kernel⟩,
    ⟨{ tBase .run true false with sluice.overlap := false }, by decide +kernel⟩⟩

/-- States and operands that meet the hypotheses of the clauses of `Obligations.PartnerFramesAct`. -/
theorem witness_PartnerFramesAct :
    (∃ (s : State) (f : Bytes) (b : Bytes) (lane : Nat), s.mode.firmware = true ∧ s.sluice.linkPowered = true ∧
      (lane = 6 ∨ lane = 7) ∧ (s.peerLane lane).block = true ∧ peerBody 1 f = some b ∧ List.length b = 20 ∧
      Tab.get none s.sluice.rxSeq 1 ≠ some (fld f 1 1)) ∧
    (∃ (s : State) (b : Bytes) (d : Int) (l : Int), (s.takeHello b d l).sluice.pMode ≠ 6) ∧
    (∃ (s : State) (f : Bytes) (b : Bytes) (k : Nat), s.hears 2 f b ∧ List.length b = 6439 ∧ s.role = 2 ∧
      s.shadowing = true ∧ k < 128) ∧
    (∃ (s : State) (f : Bytes) (b : Bytes) (k : Nat), s.hears 3 f b ∧ List.length b = 512 ∧ s.role = 2 ∧
      s.shadowing = true ∧ k < 128) ∧
    (∃ (s : State) (f : Bytes) (b : Bytes), s.hears 6 f b ∧ List.length b = 20 ∧ s.role = 1 ∧ fld b 0 1 % 16 ≠ 0) ∧
    (∃ (s : State) (f : Bytes) (b : Bytes), s.hears 7 f b ∧ List.length b = 4 ∧ s.role = 2 ∧ s.sluice.cmpState = 1 ∧
      fld b 0 1 % 16 &&& fld b 1 1 % 16 = fld b 0 1 % 16) ∧
    (∃ (s : State) (f : Bytes) (b : Bytes), s.hears 7 f b ∧ List.length b = 4 ∧ s.role = 2 ∧ s.sluice.cmpState = 1 ∧
      fld b 0 1 % 16 &&& fld b 1 1 % 16 ≠ fld b 0 1 % 16) ∧
    (∃ (s : State) (f : Bytes) (b : Bytes), s.hears 8 f b ∧ List.length b = 16) ∧
    (∃ (s : State) (f : Bytes) (b : Bytes), s.hears 9 f b ∧ 4 < List.length b ∧ List.length b ≤ 1028 ∧ s.role = 2 ∧
      s.mode = Mode.shadow) ∧
    (∃ (s : State) (f : Bytes) (b : Bytes), s.hears 10 f b ∧ List.length b = 4 ∧ s.role = 1 ∧ fld b 0 1 = 9 ∧
      fld b 1 1 = s.lastSent 9) ∧
    (∃ (s : State) (f : Bytes) (b : Bytes) (k : Nat), s.hears 11 f b ∧ List.length b = 8 ∧ s.role = 2 ∧
      s.shadowing = true ∧ fld b 0 1 < 128 ∧ k ≠ fld b 0 1) ∧
    (∃ (s : State) (f : Bytes) (b : Bytes), s.hears 4 f b ∧ List.length b = 1032 ∧ s.role = 2 ∧ s.shadowing = true ∧
      fld b 4 1 < 64 ∧ s.sluice.superEpoch ≠ fld b 0 4) ∧
    (∃ (s : State) (f : Bytes) (b : Bytes), s.hears 4 f b ∧ List.length b = 1032 ∧ s.role = 2 ∧ s.shadowing = true ∧
      fld b 4 1 < 64 ∧ s.sluice.superEpoch = fld b 0 4 ∧ Tab.get false s.sluice.superGot (fld b 4 1) = false) ∧
    (∃ (s : State) (f : Bytes) (b : Bytes), s.hears 5 f b ∧ List.length b = 6443 ∧ s.role = 2 ∧ s.shadowing = true) :=
  ⟨⟨{ tBase .shadow false false with sluice.linkPowered := true, sluice.lane6 := { block := true, up := true } },
  (tPeer 1 3 (zeros 20)), ((zeros 20)), 6, by decide +kernel⟩,
    ⟨tBase .run true false, [], 0, 0, by decide +kernel⟩,
    ⟨{ tBase .shadow false false with sluice.linkPowered := true, sluice.lane6 := { block := true, up := true } },
      (tPeer 2 3 (zeros 6439)), ((zeros 6439)), 1, ⟨rfl, rfl, rfl,
      tPeer_body _ _ _ (by decide) (by first | (rw [tZeros_length]; decide) | (rw [List.length_cons, tZeros_length]; decide)),
      nofun⟩, by simp only [tZeros_length], by decide +kernel, by decide +kernel, by decide +kernel⟩,
    ⟨{ tBase .shadow false false with sluice.linkPowered := true, sluice.lane6 := { block := true, up := true } },
      (tPeer 3 3 (zeros 512)), ((zeros 512)), 1, ⟨rfl, rfl, rfl,
      tPeer_body _ _ _ (by decide) (by first | (rw [tZeros_length]; decide) | (rw [List.length_cons, tZeros_length]; decide)),
      nofun⟩, by simp only [tZeros_length], by decide +kernel, by decide +kernel, by decide +kernel⟩,
    ⟨{ tBase .run true false with sluice.linkPowered := true, sluice.lane6 := { block := true, up := true } },
      (tPeer 6 3 (byte 1 :: zeros 19)), ((byte 1 :: zeros 19)), by unfold State.hears; decide +kernel⟩,
    ⟨{ tBase .shadow false false with sluice.cmpState := 1, sluice.linkPowered := true, sluice.lane6 := { block := true, up := true } },
      (tPeer 7 3 [3, 3, 0, 0]), ([3, 3, 0, 0]), by unfold State.hears; decide +kernel⟩,
    ⟨{ tBase .shadow false false with sluice.cmpState := 1, sluice.linkPowered := true, sluice.lane6 := { block := true, up := true } },
      (tPeer 7 3 [3, 1, 0, 0]), ([3, 1, 0, 0]), by unfold State.hears; decide +kernel⟩,
    ⟨{ tBase .shadow false false with sluice.linkPowered := true, sluice.lane6 := { block := true, up := true } },
      (tPeer 8 3 (zeros 16)), ((zeros 16)), by unfold State.hears; decide +kernel⟩,
    ⟨{ tBase .shadow false false with sluice.linkPowered := true, sluice.lane6 := { block := true, up := true } },
      (tPeer 9 3 (zeros 5)), ((zeros 5)), by unfold State.hears; decide +kernel⟩,
    ⟨{ tBase .run true false with sluice.linkPowered := true, sluice.lane6 := { block := true, up := true } },
      (tPeer 10 3 [9, 255, 0, 0]), ([9, 255, 0, 0]), by unfold State.hears; decide +kernel⟩,
    ⟨{ tBase .shadow false false with sluice.linkPowered := true, sluice.lane6 := { block := true, up := true } },
      (tPeer 11 3 ([5] ++ zeros 7)), (([5] ++ zeros 7)), 1, by unfold State.hears; decide +kernel⟩,
    ⟨{ tBase .shadow false false with sluice.linkPowered := true, sluice.lane6 := { block := true, up := true } },
      (tPeer 4 3 (byte 1 :: zeros 1031)), ((byte 1 :: zeros 1031)), ⟨rfl, rfl, rfl,
      tPeer_body _ _ _ (by decide) (by first | (rw [tZeros_length]; decide) | (rw [List.length_cons, tZeros_length]; decide)),
      nofun⟩, by simp only [List.length_cons, tZeros_length], by decide +kernel, by decide +kernel, by decide +kernel,
      by decide +kernel⟩,
    ⟨{ tBase .shadow false false with sluice.linkPowered := true, sluice.lane6 := { block := true, up := true } },
      (tPeer 4 3 (zeros 1032)), ((zeros 1032)), ⟨rfl, rfl, rfl,
      tPeer_body _ _ _ (by decide) (by first | (rw [tZeros_length]; decide) | (rw [List.length_cons, tZeros_length]; decide)),
      nofun⟩, by simp only [tZeros_length], by decide +kernel, by decide +kernel, by decide +kernel,
      by decide +kernel, by decide +kernel⟩,
    ⟨{ tBase .shadow false false with sluice.linkPowered := true, sluice.lane6 := { block := true, up := true } },
      (tPeer 5 3 (zeros 6443)), ((zeros 6443)), ⟨rfl, rfl, rfl,
      tPeer_body _ _ _ (by decide) (by first | (rw [tZeros_length]; decide) | (rw [List.length_cons, tZeros_length]; decide)),
      nofun⟩, by simp only [tZeros_length], by decide +kernel, by decide +kernel⟩⟩

/-- States and operands that meet the hypotheses of the clauses of `Obligations.PartnerLinkAndTests`. -/
theorem witness_PartnerLinkAndTests :
    (∃ (s : State) (l : Nat), s.sluice.linkPowered = true ∧ (l = 6 ∨ l = 7)) ∧
    (∃ (l : Nat), l = 6 ∨ l = 7) ∧
    (∃ (s : State), s.mode.firmware = true ∧ s.sluice.linkPowered = true ∧
      (s.peerLanes.testBit 0 = true ∧ s.sluice.lane6.block = true ∨ s.peerLanes.testBit 1 = true ∧ s.sluice.lane7.block = true)) ∧
    (∃ (s : State), s.mode.firmware = false) ∧
    (∃ (s : State), s.mode.active = true) ∧
    (∃ (s : State) (k : Nat), s.mode.firmware = true ∧ s.partner = true ∧ s.clocks.running = true ∧ s.token = true ∧
      k < 128) ∧
    (∃ (s : State), s.partner = false) ∧
    (∃ (s : State) (k : Nat), s.role = 2 ∧ s.sluice.cmpState = 1 ∧ s.sluice.tested = 0 ∧ k < 128 ∧
      s.sluice.doubted.testBit (quadrant k) = true) ∧
    (∃ (s : State), s.role ≠ 2) ∧
    (∃ (s : State) (c : Nat) (i : Nat), s.sluice.testing.testBit c = false ∧ s.sluice.restoreTests = none ∧
      s.sluice.selfTest.testBit c = true ∧ i ≠ c) ∧
    (∃ (s x : State) (c : Nat) (p : Bool), s.sluice.testing = 2 ^ c ∧
      x = ({ s with sluice := { s.sluice with testing := 0, passed := s.sluice.passed ||| (if p then 2 ^ c else 0) } } : State).challengeTested ∧
      x.sluice.restoreTests = none ∧ x.sluice.selfTest.testBit c = false) ∧
    (∃ (s : State), s.sluice.cmpState = 2 ∧ s.sluice.passed = s.sluice.tested) ∧
    (∃ (s : State), s.sluice.cmpState = 2 ∧ s.sluice.passed ≠ s.sluice.tested ∧ s.canYield = true) ∧
    (∃ (s : State), s.sluice.cmpState = 3 ∧ s.sluice.passed ≠ s.sluice.tested) ∧
    (∃ (s : State), s.sluice.cmpState = 3 ∧ s.sluice.passed = s.sluice.tested) ∧
    (∃ s : State, ∃ w, w ∈ s.waiting ∧ w.what = WaitKind.commitPartner) ∧
    (∃ (s : State), ∀ (w : Waiting), w ∈ s.waiting → w.what ≠ WaitKind.commitPartner) :=
  ⟨⟨{ tBase .run true false with sluice.linkPowered := true }, 6, by decide +kernel⟩,
    ⟨6, by decide +kernel⟩,
    ⟨{ tBase .run true false with sluice.linkPowered := true, sluice.lane6 := { block := true } }, by decide +kernel⟩,
    ⟨tBase .keep true false, by decide +kernel⟩,
    ⟨tBase .run true false, by decide +kernel⟩,
    ⟨{ tBase .run true false with clocks.running := true }, 0, by decide +kernel⟩,
    ⟨tBase .run true true, by decide +kernel⟩,
    ⟨{ tBase .run false false with sluice.cmpState := 1, sluice.tested := 0, sluice.doubted := 2 }, 32,
      by decide +kernel⟩,
    ⟨tBase .run true false, by decide +kernel⟩,
    ⟨{ tBase .run true false with sluice.restoreTests := none, sluice.selfTest := 1 }, 0, 1, by decide +kernel⟩,
    ⟨{ tBase .run true false with sluice.testing := 2 }, _, 1, true, rfl, rfl, by decide +kernel, by decide +kernel⟩,
    ⟨{ tBase .run true false with sluice.cmpState := 2 }, by decide +kernel⟩,
    ⟨{ tBase .run true false with sluice.cmpState := 2, sluice.tested := 1, sluice.hello := true, sluice.pFit := 1 },
      by decide +kernel⟩,
    ⟨{ tBase .run true false with sluice.cmpState := 3, sluice.tested := 1 }, by decide +kernel⟩,
    ⟨{ tBase .run true false with sluice.cmpState := 3 }, by decide +kernel⟩,
    ⟨{ tBase .run true false with waiting := [{ mailbox := 3, session := 1, what := .commitPartner }] }, _,
      List.mem_cons_self, rfl⟩,
    ⟨tBase .run true false, by decide +kernel⟩⟩

/-- States and operands that meet the hypotheses of the clauses of `Obligations.LedgerRows`. -/
theorem witness_LedgerRows :
    (∃ (s : State) (i : Nat), i ≤ 18 ∧ s.mode.firmware = true ∧ s.ledger.open_ = true ∧
      s.ledger.expected.testBit i = true ∧ (i ≠ 0 ∨ s.wardenRuns = true)) ∧
    (∃ (s : State) (i : Nat) (e : Nat), i ≤ 18 ∧ s.mode.firmware = true ∧ e ≠ s.ledger.epoch % 2 ^ 32 ∧
      s.ledger.snaps ≠ [] ∧ geq32 s.ledger.newest e = true) ∧
    (∃ (i : Nat), 18 < i) ∧
    (∃ (s : State), s.ledger.open_ = false) ∧
    (∃ (s : State), s.role ≠ 2 ∨ List.length s.ledger.rx ≠ 16) ∧
    (∃ (s : State) (f : Bytes) (b : Bytes), s.hears 12 f b ∧ List.length b = 1032 ∧ s.role = 2 ∧ s.shadowing = true ∧
      fld b 4 1 < 16) ∧
    (∃ (s : State) (mb : Nat), s.starts 2817 mb ∧ (s.request mb).lay 0 [] = true) ∧
    (∃ (s : State) (mb : Nat) (x : Snap), s.starts 2818 mb ∧ (s.request mb).lay 12 [(5, 1)] = true ∧
      (s.request mb).u 4 1 = 0 ∧ 1 ≤ (s.request mb).u 6 2 ∧ (s.request mb).u 6 2 ≤ 480 ∧
      (s.request mb).u 8 4 + (s.request mb).u 6 2 ≤ 16384 ∧ s.ledger.snapOf ((s.request mb).u 0 4) = some x ∧
      s.ledgerBad 0 x.epoch ((s.request mb).u 8 4) ((s.request mb).u 6 2) = []) ∧
    (∃ (s : State) (mb : Nat) (x : Snap) (g : FabSnap) (f : Nat), s.starts 2818 mb ∧
      (s.request mb).lay 12 [(5, 1)] = true ∧ 1 ≤ (s.request mb).u 4 1 ∧ (s.request mb).u 4 1 ≤ 3 ∧
      1 ≤ (s.request mb).u 6 2 ∧ (s.request mb).u 6 2 ≤ 480 ∧
      (s.request mb).u 8 4 + (s.request mb).u 6 2 ≤ areaSize ((s.request mb).u 4 1) ∧
      s.ledger.snapOf ((s.request mb).u 0 4) = some x ∧ x.fab = some f ∧ s.ledger.fabOf f = some g ∧
      s.ledgerBad ((s.request mb).u 4 1) g.epoch ((s.request mb).u 8 4) ((s.request mb).u 6 2) = []) ∧
    (∃ (s : State) (mb : Nat), s.starts 2819 mb ∧ (s.request mb).lay 0 [] = true ∧ s.member = true) ∧
    (∃ (s : State) (mb : Nat), s.starts 2819 mb ∧ s.member = false) ∧
    (∃ (s : State) (mb : Nat) (y : Subscription), s.starts 2820 mb ∧ (s.request mb).transport = 1 ∧
      (s.request mb).lay 4 [] = true ∧ (s.request mb).u 0 1 ≤ 3 ∧
      [1, 10, 1, 100].getD ((s.request mb).u 0 1) 0 ≤ (s.request mb).u 2 2 ∧ (s.request mb).u 2 2 ≤ 60000 ∧
      ((s.request mb).u 0 1 = 2 → (s.request mb).u 1 1 ≤ 31) ∧ s.log.subs.length < 8 ∧
      (List.filter (fun y => decide (y.session = (s.request mb).session)) s.log.subs).length < 4 ∧ y ∈ s.log.subs) ∧
    (∃ (s : State) (mb : Nat), s.starts 2821 mb ∧ (s.request mb).lay 4 [(1, 3)] = true ∧
      (s.log.subs.any fun y => decide (y.id = (s.request mb).u 0 1) && decide (y.session = (s.request mb).session) && !y.log) = true) :=
  ⟨⟨{ tBase .run true false with ledger.open_ := true, ledger.expected := 1 }, 0, by decide +kernel⟩,
    ⟨{ tBase .run true false with ledger.snaps := [{ epoch := 0, generation := 0, fab := some 0, bytes := [] }] }, 18,
      4294967295, by decide +kernel⟩,
    ⟨32, by decide +kernel⟩,
    ⟨{ tBase .run true false with ledger.open_ := false }, by decide +kernel⟩,
    ⟨tBase .run true false, by decide +kernel⟩,
    ⟨{ tBase .shadow false false with sluice.linkPowered := true, sluice.lane6 := { block := true, up := true } },
      (tPeer 12 3 (zeros 1032)), ((zeros 1032)), ⟨rfl, rfl, rfl,
      tPeer_body _ _ _ (by decide) (by first | (rw [tZeros_length]; decide) | (rw [List.length_cons, tZeros_length]; decide)),
      nofun⟩, by simp only [tZeros_length], by decide +kernel, by decide +kernel, by decide +kernel⟩,
    ⟨tOrder 2817 [] .host (tBase .run true false), 0, by unfold State.starts; decide +kernel⟩,
    ⟨{ tOrder 2818 [0, 0, 0, 0, 0, 0, 1, 0, 0, 0, 0, 0] .host (tBase .run true false) with ledger.snaps := [{ epoch := 0, generation := 0, fab := some 0, bytes := [] }] },
      0, { epoch := 0, generation := 0, fab := some 0, bytes := [] }, by unfold State.starts; decide +kernel⟩,
    ⟨{ tOrder 2818 [0, 0, 0, 0, 1, 0, 1, 0, 0, 0, 0, 0] .host (tBase .run true false) with ledger.snaps := [{ epoch := 0, generation := 0, fab := some 0, bytes := [] }], ledger.fabs := [{ epoch := 0, present := [], rowPresent := [], summaries := [], fulls := [], sealUs := 0 }] },
      0, { epoch := 0, generation := 0, fab := some 0, bytes := [] },
      { epoch := 0, present := [], rowPresent := [], summaries := [], fulls := [], sealUs := 0 }, 0,
      by unfold State.starts; decide +kernel⟩,
    ⟨{ tOrder 2819 [] .host (tBase .run true false) with desc.committed := tDesc [(8, 0, 11, 1), (8, 0, 12, 1), (8, 0, 13, 2), (8, 0, 14, 2)] },
      0, by unfold State.starts; decide +kernel⟩,
    ⟨tOrder 2819 [] .host (tBase .run true false), 0, by unfold State.starts; decide +kernel⟩,
    ⟨{ tOrder 2820 [0, 0, 1, 0] .ethernet (tBase .run true false) with log.subs := [{ id := 1, session := 1, log := false, kind := 0, row := 0, decim := 1, next := 1, classes := 0, gone := 0 }] },
      0, { id := 1, session := 1, log := false, kind := 0, row := 0, decim := 1, next := 1, classes := 0, gone := 0 },
      by unfold State.starts; decide +kernel⟩,
    ⟨{ tOrder 2821 [1, 0, 0, 0] .host (tBase .run true false) with log.subs := [{ id := 1, session := 1, log := false, kind := 0, row := 0, decim := 1, next := 1, classes := 0, gone := 0 }] },
      0, by unfold State.starts; decide +kernel⟩⟩

/-- States and operands that meet the hypotheses of the clauses of `Obligations.FabricAlignment`. -/
theorem witness_FabricAlignment :
    (∃ (s : State) (f : Bytes) (b : Bytes) (l : Nat) (k : Nat), s.fabOn = true ∧ l < 4 ∧ s.laneUsed l = true ∧
      fabBody 1 f = some b ∧ List.length b = 12 ∧ fld b 0 1 = (s.neighbour l).fst ∧ fld b 1 1 = (s.neighbour l).snd ∧
      fld b 2 1 = s.shelfFabRows ∧ fld b 3 1 = s.shelfFabCols ∧ fld b 4 1 = (l + 2) % 4 ∧ k < 4 ∧ k ≠ l) ∧
    (∃ (s : State) (f : Bytes) (b : Bytes) (l : Nat) (k : Nat), s.fabOn = true ∧ l < 4 ∧ s.laneUsed l = true ∧
      fabBody 1 f = some b ∧ fld b 0 1 ≠ (s.neighbour l).fst ∧ k < 4 ∧ k ≠ l) ∧
    (∃ (s : State), s.fabOn = false) ∧
    (∃ (s : State), s.fabOn = true ∧ s.clocks.running = true ∧ s.fabric.isRoot = true) ∧
    (∃ (s : State), s.fabric.isRoot = false ∧ s.fabric.parent = none) ∧
    (∃ (s : State) (f : Bytes) (b : Bytes) (l : Nat), s.fabHears 2 20 l f b ∧ fld b 0 2 < s.fabAddr ∧
      s.laneUsed l = true ∧ ∀ (k : Nat), k < 4 → k ≠ l → (s.fabLane k).up = false) ∧
    (∃ (s : State) (f : Bytes) (b : Bytes) (l : Nat), s.fabHears 3 4 l f b) ∧
    (∃ (s : State) (f : Bytes) (b : Bytes) (l : Nat), s.fabHears 4 4 l f b ∧ s.fabric.parent = some l ∧
      s.fabric.synced = true ∧ (s.role = 2 ∨ s.fabric.steered = true)) ∧
    (∃ (s : State) (f : Bytes) (b : Bytes) (l : Nat), s.fabHears 4 4 l f b ∧ s.fabric.parent = some l ∧
      s.fabric.synced = true ∧ s.role ≠ 2 ∧ s.fabric.steered = false) ∧
    (∃ (s : State), s.fabOn = true ∧ s.fabric.isRoot = false ∧ 10 ≤ s.fabric.noLower) ∧
    (∃ (s : State), s.fabric.noLower < 10) :=
  ⟨⟨{ tBase .run true false with fabric.lane0 := { block := true, up := true }, desc.committed := tDesc [(8, 0, 11, 1), (8, 0, 12, 1), (8, 0, 13, 2), (8, 0, 14, 2)] },
  (tFab 1 0 0 0 ([0, 1, 2, 2, 2] ++ zeros 7)), (([0, 1, 2, 2, 2] ++ zeros 7)), 0, 1, by decide +kernel⟩,
    ⟨{ tBase .run true false with fabric.lane0 := { block := true, up := true }, desc.committed := tDesc [(8, 0, 11, 1), (8, 0, 12, 1), (8, 0, 13, 2), (8, 0, 14, 2)] },
      (tFab 1 0 0 0 ([1, 1, 2, 2, 2] ++ zeros 7)), (([1, 1, 2, 2, 2] ++ zeros 7)), 0, 1, by decide +kernel⟩,
    ⟨tBase .run true false, by decide +kernel⟩,
    ⟨{ tBase .run true false with clocks.running := true, fabric.isRoot := true, desc.committed := tDesc [(8, 0, 11, 1), (8, 0, 12, 1), (8, 0, 13, 2), (8, 0, 14, 2)] },
      by decide +kernel⟩,
    ⟨{ tBase .run true false with fabric.isRoot := false, fabric.parent := none }, by decide +kernel⟩,
    ⟨{ tBase .run true false with fabric.lane0 := { block := true, up := true }, desc.committed := tDesc [(8, 0, 11, 1), (8, 0, 12, 1), (8, 0, 13, 2), (8, 0, 14, 2)] },
      (tFab 2 0 0 0 (zeros 20)), ((zeros 20)), 0, by unfold State.fabHears; decide +kernel⟩,
    ⟨{ tBase .run true false with fabric.lane0 := { block := true, up := true }, desc.committed := tDesc [(8, 0, 11, 1), (8, 0, 12, 1), (8, 0, 13, 2), (8, 0, 14, 2)] },
      (tFab 3 0 0 0 (zeros 4)), ((zeros 4)), 0, by unfold State.fabHears; decide +kernel⟩,
    ⟨{ tBase .run true false with fabric.synced := true, fabric.lane0 := { block := true, up := true }, fabric.parent := some 0, fabric.steered := true, desc.committed := tDesc [(8, 0, 11, 1), (8, 0, 12, 1), (8, 0, 13, 2), (8, 0, 14, 2)] },
      (tFab 4 0 0 0 (zeros 4)), ((zeros 4)), 0, by unfold State.fabHears; decide +kernel⟩,
    ⟨{ tBase .run true false with fabric.synced := true, fabric.steered := false, fabric.lane0 := { block := true, up := true }, fabric.parent := some 0, desc.committed := tDesc [(8, 0, 11, 1), (8, 0, 12, 1), (8, 0, 13, 2), (8, 0, 14, 2)] },
      (tFab 4 0 0 0 (zeros 4)), ((zeros 4)), 0, by unfold State.fabHears; decide +kernel⟩,
    ⟨{ tBase .run true false with fabric.isRoot := false, fabric.noLower := 10, desc.committed := tDesc [(8, 0, 11, 1), (8, 0, 12, 1), (8, 0, 13, 2), (8, 0, 14, 2)] },
      by decide +kernel⟩,
    ⟨tBase .run true false, by decide +kernel⟩⟩

/-- States and operands that meet the hypotheses of the clauses of `Obligations.FabricReduction`. -/
theorem witness_FabricReduction :
    (∃ (s : State) (m : Bytes) (full : Bytes), s.fabOn = true ∧ s.wardenRuns = true ∧ s.clocks.running = true ∧
      s.ownRecords s.fabEnded = some (m, full) ∧ s.log.subs = [] ∧ fld m 4 4 = s.fabEnded % 2 ^ 32 ∧
      Tab.get [] s.fabric.latest s.fabAddr = [] ∧ m ≠ []) ∧
    (∃ (s : State), s.fabOn = false) ∧
    (∃ (s : State) (f : Bytes) (b : Bytes) (l : Nat) (g : Nat), s.fabHears 5 64 l f b ∧
      s.extendF (fld f 6 2) = some g ∧ bits (fld f 14 2) 13 8 = 0 ∧ ¬(fld f 2 2, 5, g) ∈ s.fabric.seen ∧
      fld f 2 2 ≠ s.fabAddr) ∧
    (∃ (s : State) (f : Bytes) (b : Bytes) (l : Nat) (g : Nat), s.fabHears 6 256 l f b ∧
      s.extendF (fld f 6 2) = some g ∧ bits (fld f 14 2) 13 8 = 0 ∧ ¬(fld f 2 2, 6, g) ∈ s.fabric.seen ∧
      fld f 2 2 ≠ s.fabAddr ∧ fld f 2 2 / 32 = s.shelfFabRow ∧ Tab.get [] s.fabric.fulls (fld f 2 2 % 32) = []) ∧
    (∃ (s : State) (f : Bytes) (b : Bytes) (l : Nat) (g : Nat), s.fabHears 6 256 l f b ∧
      s.extendF (fld f 6 2) = some g ∧ bits (fld f 14 2) 13 8 = 0 ∧ (fld f 2 2, 6, g) ∈ s.fabric.seen) ∧
    (∃ (f : Bytes), bits (fld f 14 2) 7 3 = 1) ∧
    (∃ (s : State) (c : Nat), s.stageRuns = true ∧ s.rowRoot = true ∧ s.fabric.isRoot = true ∧ c < s.shelfFabCols) ∧
    (∃ (s : State), s.rowRoot = false) ∧
    (∃ (s : State) (f : Bytes) (b : Bytes) (l : Nat) (g : Nat), s.fabHears 7 32 l f b ∧
      s.extendF (fld f 6 2) = some g ∧ fld f 4 2 = s.fabAddr) ∧
    (∃ (s : State) (f : Bytes) (b : Bytes) (l : Nat) (g : Nat) (p : Nat), s.fabHears 7 32 l f b ∧
      s.extendF (fld f 6 2) = some g ∧ fld f 4 2 ≠ s.fabAddr ∧ s.route (fld f 4 2) = some p) ∧
    (∃ (s : State), s.stageRuns = true ∧ s.fabric.isRoot = true ∧ s.shelfFabRow < s.shelfFabRows ∧
      (∀ (r : Nat), r < s.shelfFabRows → Tab.get 0 s.fabric.rowSumEpoch r = s.fabEnded) ∧
      ∀ (r : Nat), r < s.shelfFabRows → (Tab.get { } s.fabric.rowSums r).limitKw = 0) ∧
    (∃ (s : State), s.fabric.isRoot = false) ∧
    (∃ (s : State) (f : Bytes) (b : Bytes) (l : Nat) (g : Nat), s.fabHears 8 12 l f b ∧
      s.extendF (fld f 6 2) = some g ∧ fld f 4 2 = s.fabAddr) ∧
    (∃ (s : State), s.stageRuns = true ∧ s.rowRoot = true ∧ s.fabric.rowAllowEpoch ≠ some s.fabEnded) ∧
    (∃ (s : State), s.stageRuns = true ∧ s.rowRoot = true ∧ s.fabric.rowAllowEpoch = some s.fabEnded ∧
      s.fabric.rowAllow = none ∧ s.shelfFabCol < s.shelfFabCols) ∧
    (∃ (s : State) (f : Bytes) (b : Bytes) (l : Nat) (g : Nat), s.fabHears 9 132 l f b ∧
      s.extendF (fld f 6 2) = some g ∧ bits (fld f 14 2) 13 8 = 0 ∧ ¬(fld f 2 2, 9, g) ∈ s.fabric.seen ∧
      fld f 2 2 ≠ s.fabAddr ∧ fld b 0 1 = s.shelfFabRow ∧ s.wardenRuns = true) ∧
    (∃ (s : State) (f : Bytes) (b : Bytes), s.hears 13 f b ∧ List.length b = 8 ∧ s.role = 1) ∧
    (∃ (s : State), s.fabric.holdDue = true) ∧
    (∃ (s : State), s.fabric.holdDue = false) ∧
    (∃ (s : State) (us : Nat), s.fabOn = true ∧ s.clocks.running = true ∧ s.fabric.sealedF ≠ some s.fabEnded ∧
      400 ≤ us) ∧
    (∃ (s : State), s.fabric.sealedF = some s.fabEnded) :=
  ⟨⟨tFabS, tFabR.1, tFabR.2, by decide +kernel⟩,
    ⟨tBase .run true false, by decide +kernel⟩,
    ⟨{ tBase .run true false with fabric.lane0 := { block := true, up := true }, desc.committed := tDesc [(8, 0, 11, 1), (8, 0, 12, 1), (8, 0, 13, 2), (8, 0, 14, 2)] },
      (tFab 5 0 0 0 (zeros 64)), ((zeros 64)), 0, 0, ⟨by decide +kernel, by decide, rfl,
      tFab_body _ _ _ _ _ (by decide) (by first | (rw [tZeros_length]; decide) | (rw [List.length_cons, tZeros_length]; decide)),
      by simp only [tZeros_length]⟩, by decide +kernel, by decide +kernel, by decide +kernel, by decide +kernel⟩,
    ⟨{ tBase .run true false with fabric.lane0 := { block := true, up := true }, desc.committed := tDesc [(8, 0, 11, 1), (8, 0, 12, 1), (8, 0, 13, 2), (8, 0, 14, 2)] },
      (tFab 6 32 0 0 (zeros 256)), ((zeros 256)), 0, 0, ⟨by decide +kernel, by decide, rfl,
      tFab_body _ _ _ _ _ (by decide) (by first | (rw [tZeros_length]; decide) | (rw [List.length_cons, tZeros_length]; decide)),
      by simp only [tZeros_length]⟩, by decide +kernel, by decide +kernel, by decide +kernel, by decide +kernel,
      by decide +kernel, by decide +kernel⟩,
    ⟨{ tBase .run true false with fabric.lane0 := { block := true, up := true }, fabric.seen := [(32, 6, 0)], desc.committed := tDesc [(8, 0, 11, 1), (8, 0, 12, 1), (8, 0, 13, 2), (8, 0, 14, 2)] },
      (tFab 6 32 0 0 (zeros 256)), ((zeros 256)), 0, 0, ⟨by decide +kernel, by decide, rfl,
      tFab_body _ _ _ _ _ (by decide) (by first | (rw [tZeros_length]; decide) | (rw [List.length_cons, tZeros_length]; decide)),
      by simp only [tZeros_length]⟩, by decide +kernel, by decide +kernel, by decide +kernel⟩,
    ⟨(zeros 14 ++ [8]), by decide +kernel⟩,
    ⟨{ tBase .run true false with fabric.isRoot := true, desc.committed := tDesc [(8, 0, 11, 1), (8, 0, 12, 0), (8, 0, 13, 2), (8, 0, 14, 2)] },
      1, by decide +kernel⟩,
    ⟨tBase .run true false, by decide +kernel⟩,
    ⟨{ tBase .run true false with fabric.lane0 := { block := true, up := true }, desc.committed := tDesc [(8, 0, 11, 1), (8, 0, 12, 1), (8, 0, 13, 2), (8, 0, 14, 2)] },
      (tFab 7 0 33 0 (zeros 32)), ((zeros 32)), 0, 0, by unfold State.fabHears; decide +kernel⟩,
    ⟨{ tBase .run true false with fabric.lane0 := { block := true, up := true }, desc.committed := tDesc [(8, 0, 11, 1), (8, 0, 12, 1), (8, 0, 13, 2), (8, 0, 14, 2)] },
      (tFab 7 0 0 0 (zeros 32)), ((zeros 32)), 0, 0, 2, by unfold State.fabHears; decide +kernel⟩,
    ⟨{ tBase .run true false with fabric.isRoot := true, fabric.rowSumEpoch := [(0, 1), (1, 1)], clocks.epoch := 2, desc.committed := tDesc [(8, 0, 11, 1), (8, 0, 12, 0), (8, 0, 13, 2), (8, 0, 14, 2)] },
      by decide +kernel⟩,
    ⟨{ tBase .run true false with fabric.isRoot := false }, by decide +kernel⟩,
    ⟨{ tBase .run true false with fabric.lane0 := { block := true, up := true }, desc.committed := tDesc [(8, 0, 11, 1), (8, 0, 12, 1), (8, 0, 13, 2), (8, 0, 14, 2)] },
      (tFab 8 0 33 0 (zeros 12)), ((zeros 12)), 0, 0, by unfold State.fabHears; decide +kernel⟩,
    ⟨{ tBase .run true false with fabric.isRoot := true, clocks.epoch := 2, desc.committed := tDesc [(8, 0, 11, 1), (8, 0, 12, 0), (8, 0, 13, 2), (8, 0, 14, 2)] },
      by decide +kernel⟩,
    ⟨{ tBase .run true false with fabric.rowAllow := none, fabric.isRoot := true, fabric.rowAllowEpoch := some 1, clocks.epoch := 2, desc.committed := tDesc [(8, 0, 11, 1), (8, 0, 12, 0), (8, 0, 13, 2), (8, 0, 14, 2)] },
      by decide +kernel⟩,
    ⟨{ tBase .run true false with fabric.lane0 := { block := true, up := true }, desc.committed := tDesc [(8, 0, 11, 1), (8, 0, 12, 1), (8, 0, 13, 2), (8, 0, 14, 2)] },
      (tFab 9 0 0 0 (byte 1 :: zeros 131)), ((byte 1 :: zeros 131)), 0, 0, ⟨by decide +kernel, by decide, rfl,
      tFab_body _ _ _ _ _ (by decide) (by first | (rw [tZeros_length]; decide) | (rw [List.length_cons, tZeros_length]; decide)),
      by simp only [List.length_cons, tZeros_length]⟩, by decide +kernel, by decide +kernel, by decide +kernel,
      by decide +kernel, by decide +kernel, by decide +kernel⟩,
    ⟨{ tBase .run true false with sluice.linkPowered := true, sluice.lane6 := { block := true, up := true } },
      (tPeer 13 3 (zeros 8)), ((zeros 8)), by unfold State.hears; decide +kernel⟩,
    ⟨{ tBase .run true false with fabric.holdDue := true }, by decide +kernel⟩,
    ⟨{ tBase .run true false with fabric.holdDue := false }, by decide +kernel⟩,
    ⟨{ tBase .run true false with clocks.running := true, desc.committed := tDesc [(8, 0, 11, 1), (8, 0, 12, 1), (8, 0, 13, 2), (8, 0, 14, 2)] },
      400, by decide +kernel⟩,
    ⟨{ tBase .run true false with fabric.sealedF := some 1, clocks.epoch := 2 }, by decide +kernel⟩⟩

/-- States and operands that meet the hypotheses of the clauses of `Obligations.TargetCommands`. -/
theorem witness_TargetCommands :
    (∃ (s : State) (p : Nat), (s.twAt p).targetBusy = false) ∧
    (∃ (s : State), s.modeCode < 16) ∧
    (∃ (s : State) (p : Nat), s.targetServes p = false) ∧
    (∃ (s : State) (p : Nat), p < 8 ∧ s.targetServes p = true ∧ s.mode.active = true) ∧
    (∃ (s : State) (p : Option Nat), s.targetServes 0 = true ∧ (s.mode = Mode.keep ∨ s.mode = Mode.gaugeWatch) ∧
      s.retained.wakeEnable.testBit 2 = false ∧ s.pecRefused 6 [87] p = false) ∧
    (∃ (s : State) (p : Option Nat), s.targetServes 0 = true ∧ s.mode.aon = true ∧
      (s.mode = Mode.stranded ∨ s.mode = Mode.boot ∨ s.retained.wakeEnable.testBit 2 = true) ∧
      s.pecRefused 6 [87] p = false) ∧
    (∃ (s : State) (d : Nat), d ≠ 87 ∨ s.mode.aon = false) ∧
    (∃ (s : State) (c : Nat) (d : Bytes) (p : Option Nat), s.pecRefused c d p = false) ∧
    (∃ (s : State) (c : Nat) (d : Bytes) (p : Option Nat), s.pecRefused c d p = true) ∧
    (∃ (s : State) (v : Nat) (p : Option Nat), s.mode.active = true ∧ s.tw.tState = 0 ∧ v < 512 ∧
      s.pecRefused 16 (leBytes 2 v) p = false) ∧
    (∃ (s : State) (d : List Byte), s.mode.active = true ∧ s.tw.tState ≠ 0 ∧ d ≠ [] ∧ d.length ≤ 255) ∧
    (∃ (s : State) (d : List Byte) (p : Option Nat), s.mode.active = true ∧ s.tw.tState = 0 ∧ d ≠ [] ∧
      d.length ≤ 255 ∧ s.tw.tOffset + d.length ≤ 512 ∧ s.pecRefused 17 (byte d.length :: d) p = false) ∧
    (∃ (s : State) (n : Nat) (p : Option Nat) (i : Nat), s.mode.active = true ∧ s.tw.tState = 0 ∧
      s.freePool = some n ∧ s.tw.request.len ≤ 496 ∧ s.pecRefused 18 [1] p = false ∧ i < 16 + s.tw.request.len) ∧
    (∃ (s : State) (p : Option Nat), s.mode.active = true ∧ s.tw.tState = 0 ∧ s.freePool = none ∧
      s.tw.request.len ≤ 496 ∧ s.pecRefused 18 [1] p = false) ∧
    (∃ (s : State) (p : Option Nat), s.mode = Mode.lastGasp ∧ s.tw.tState = 0 ∧ s.tw.request.len ≤ 496 ∧
      s.pecRefused 18 [1] p = false) ∧
    (∃ (s : State) (p : Option Nat), (s.mode.active = true ∨ s.mode = Mode.lastGasp) ∧ s.tw.tState = 0 ∧
      496 < s.tw.request.len ∧ s.pecRefused 18 [1] p = false) ∧
    (∃ (s : State), s.mode.active = true ∨ s.mode = Mode.lastGasp) ∧
    (∃ (s : State) (m : Nat) (len : Nat), (s.mode.active = true ∨ s.mode = Mode.lastGasp) ∧ s.tw.tState = 2 ∧
      s.tw.tMailbox = some m ∧ (s.twAt 0).targetBusy = false ∧ min 255 (512 - s.tw.tOffset) ≤ len) ∧
    (∃ (s : State) (m : Nat) (p : Option Nat), (s.mode.active = true ∨ s.mode = Mode.lastGasp) ∧ s.tw.tState = 2 ∧
      s.tw.tMailbox = some m ∧ s.pecRefused 21 [1] p = false) ∧
    (∃ (s : State) (p : Option Nat), (s.mode.active = true ∨ s.mode = Mode.lastGasp) ∧ s.tw.tState = 2 ∧
      s.tw.tMailbox = none ∧ s.pecRefused 21 [1] p = false) ∧
    (∃ (s : State), (s.mode.active = true ∨ s.mode = Mode.lastGasp) ∧ s.tw.tState ≠ 2) ∧
    (∃ (s : State), s.tw0Alert = true) ∧
    (∃ (p : Nat), p ≠ 0) ∧
    (∃ (s : State), s.mode.responderSleeps = true ∧ s.tw.responder = Responder.asleep) ∧
    (∃ (s : State), s.tw.responder = Responder.waking) ∧
    (∃ (s : State), s.mode.responderSleeps = true ∧ s.tw.responder = Responder.awake) :=
  ⟨⟨{ tBase .run true false with tw.ports := [(0, { targetBusy := false })] }, 0, by decide +kernel⟩,
    ⟨tBase .run true false, by decide +kernel⟩,
    ⟨tBase .run true false, 1, by decide +kernel⟩,
    ⟨tBase .run true false, 0, by decide +kernel⟩,
    ⟨{ tBase .keep true false with tw.responder := .awake, retained.wakeEnable := 3 }, none, by decide +kernel⟩,
    ⟨tBase .boot true false, none, by decide +kernel⟩,
    ⟨tBase .run true false, 0, by decide +kernel⟩,
    ⟨tBase .run true false, 6, [1], none, by decide +kernel⟩,
    ⟨tBase .run true false, 6, [1], some 256, by decide +kernel⟩,
    ⟨{ tBase .run true false with tw.tState := 0 }, 5, none, by decide +kernel⟩,
    ⟨{ tBase .run true false with tw.tState := 1 }, [1], by decide +kernel⟩,
    ⟨{ tBase .run true false with tw.tState := 0, tw.tOffset := 511 }, [1], none, by decide +kernel⟩,
    ⟨{ tBase .run true false with tw.tState := 0, tw.tBuf := [(6, 1)] }, 15, none, 16, by decide +kernel⟩,
    ⟨{ tBase .run true false with tw.tState := 0, host.mb := [(12, { busy := true }), (13, { busy := true }), (14, { busy := true }), (15, { busy := true })] },
      none, by decide +kernel⟩,
    ⟨{ tBase .lastGasp true false with tw.tState := 0 }, none, by decide +kernel⟩,
    ⟨{ tBase .run true false with tw.tState := 0, tw.tBuf := [(6, 0), (7, 2)] }, none, by decide +kernel⟩,
    ⟨tBase .run true false, by decide +kernel⟩,
    ⟨{ tBase .run true false with tw.tState := 2, tw.ports := [(0, { targetBusy := false })], tw.tMailbox := some 15 },
      15, 255, by decide +kernel⟩,
    ⟨{ tBase .run true false with tw.tState := 2, tw.tMailbox := some 15 }, 15, none, by decide +kernel⟩,
    ⟨{ tBase .run true false with tw.tState := 2, tw.tMailbox := none }, none, by decide +kernel⟩,
    ⟨tBase .run true false, by decide +kernel⟩,
    ⟨{ tBase .run true false with host.irqTxn := true, host.irqEnable := 64 }, by decide +kernel⟩,
    ⟨1, by decide +kernel⟩,
    ⟨{ tBase .keep true false with tw.responder := Responder.asleep }, by decide +kernel⟩,
    ⟨{ tBase .run true false with tw.responder := Responder.waking }, by decide +kernel⟩,
    ⟨{ tBase .keep true false with tw.responder := Responder.awake }, by decide +kernel⟩⟩

/-- States and operands that meet the hypotheses of the clauses of `Obligations.TwoWireController`. -/
theorem witness_TwoWireController :
    (∃ (s : State) (mb : Nat) (n : Nat), s.starts 3585 mb ∧ (s.request mb).lay 0 [] = true ∧ n < 8) ∧
    (∃ (s : State) (mb : Nat), s.starts 3586 mb ∧ (s.request mb).lay (8 + (s.request mb).u 5 1) [(6, 2)] = true ∧
      1 ≤ (s.request mb).u 0 1 ∧ (s.request mb).u 0 1 ≤ 7 ∧ (s.request mb).u 1 1 ≤ 127 ∧ (s.request mb).u 2 1 ≤ 8 ∧
      (s.request mb).u 4 1 ≤ 1 ∧ s.shelfTwEnable.testBit ((s.request mb).u 0 1) = true ∧
      wlenFits ((s.request mb).u 2 1) ((s.request mb).u 5 1) = true ∧
      s.legacyAddress ((s.request mb).u 0 1) ((s.request mb).u 1 1) = true) ∧
    (∃ (s : State) (mb : Nat), s.starts 3586 mb ∧ (s.request mb).lay (8 + (s.request mb).u 5 1) [(6, 2)] = true ∧
      1 ≤ (s.request mb).u 0 1 ∧ (s.request mb).u 0 1 ≤ 7 ∧ (s.request mb).u 1 1 ≤ 127 ∧ (s.request mb).u 2 1 ≤ 8 ∧
      (s.request mb).u 4 1 ≤ 1 ∧ s.shelfTwEnable.testBit ((s.request mb).u 0 1) = true ∧
      wlenFits ((s.request mb).u 2 1) ((s.request mb).u 5 1) = true ∧
      s.legacyAddress ((s.request mb).u 0 1) ((s.request mb).u 1 1) = false) ∧
    (∃ (s : State) (port : Nat), s.twControls port = false) ∧
    (∃ (port : Nat), 1 ≤ port ∧ port ≤ 7) ∧
    (∃ (s : State) (port : Nat) (m : Nat), s.twControls port = true ∧ s.sensorsOn port = [] ∧ s.legacyOn port = [] ∧
      (s.twAt port).queue = [] ∧ (s.twAt port).transfers = [m] ∧ (s.twAt port).targetBusy = false ∧
      (s.twAt port).running = false ∧ s.anyHalted = false) ∧
    (∃ (port : Nat), port = 0 ∨ 7 < port) ∧
    (∃ (s : State) (port : Nat) (u : TwUse) (d : Bytes) (p : Nat), (s.twAt port).queue.head? = some u ∧
      (s.twAt port).running = true ∧ List.length d ≤ 255 ∧ readResult (s.twFrame u) d p = 0) ∧
    (∃ (s : State) (port : Nat) (u : TwUse) (d : Bytes) (p : Nat), (s.twAt port).queue.head? = some u ∧
      (s.twAt port).running = true ∧ List.length d ≤ 255 ∧ readResult (s.twFrame u) d p = 3) ∧
    (∃ (s : State) (port : Nat) (u : TwUse) (d : Bytes), (s.twAt port).queue.head? = some u ∧
      (s.twAt port).running = true ∧ List.length d ≤ 255 ∧ pecBytes (s.twFrame u) d = none) ∧
    (∃ (s : State) (port : Nat) (u : TwUse) (d : Bytes) (r : Nat), (s.twAt port).queue.head? = some u ∧
      (s.twAt port).running = true ∧ List.length d ≤ 255 ∧ 1 ≤ r ∧ r ≤ 3) ∧
    (∃ (s : State) (k : Nat) (d : Bytes) (j : Nat), -2 ^ 31 ≤ s.sensorReading k (fld d 0 2) ∧
      s.sensorReading k (fld d 0 2) < 2 ^ 31 ∧ s.sensorWarnLow k ≤ s.sensorReading k (fld d 0 2) ∧
      s.sensorReading k (fld d 0 2) ≤ s.sensorWarnHigh k ∧ j ≠ k) ∧
    (∃ (s : State) (port : Nat), (s.twAt port).queue = [] ∧ port ≤ 7 ∧ s.targetServes port = true) :=
  ⟨⟨tOrder 3585 [] .host (tBase .run true false), 0, 0, by unfold State.starts; decide +kernel⟩,
    ⟨{ tOrder 3586 [1, 8, 0, 0, 0, 1, 0, 0, 5] .host (tBase .run true false) with desc.committed := tDesc [(4, 32, 1, 1), (4, 32, 3, 0), (8, 0, 9, 2), (10, 0, 1, 1), (10, 0, 2, 1), (10, 0, 3, 8), (10, 0, 5, 0)] },
      0, by unfold State.starts; decide +kernel⟩,
    ⟨{ tOrder 3586 [1, 8, 0, 0, 0, 1, 0, 0, 5] .host (tBase .run true false) with desc.committed := tDesc [(8, 0, 9, 2)] },
      0, by unfold State.starts; decide +kernel⟩,
    ⟨tBase .run true false, 0, by decide +kernel⟩,
    ⟨1, by decide +kernel⟩,
    ⟨{ tBase .run true false with tw.ports := [(1, { queue := [], targetBusy := false, running := false, transfers := [5] })], desc.committed := tDesc [(8, 0, 9, 2)] },
      1, 5, by decide +kernel⟩,
    ⟨0, by decide +kernel⟩,
    ⟨{ tBase .run true false with tw.ports := [(1, { running := true, queue := [.alert] })] }, 1, .alert, [], 0,
      by decide +kernel⟩,
    ⟨{ tBase .run true false with tw.ports := [(1, { running := true, queue := [.alertStatus 0] })], desc.committed := tDesc [(10, 0, 4, 1)] },
      1, .alertStatus 0, [], 1, by decide +kernel⟩,
    ⟨{ tBase .run true false with tw.ports := [(1, { running := true, queue := [.alert] })] }, 1, .alert, [],
      by decide +kernel⟩,
    ⟨{ tBase .run true false with tw.ports := [(1, { running := true, queue := [.alert] })] }, 1, .alert, [], 3,
      by decide +kernel⟩,
    ⟨tBase .run true false, 2, [5, 0], 1, by decide +kernel⟩,
    ⟨{ tBase .run true false with tw.ports := [(0, { queue := [] })] }, 0, by decide +kernel⟩⟩

/-- States and operands that meet the hypotheses of the clauses of `Obligations.EthernetRows`. -/
theorem witness_EthernetRows :
    (∃ (s : State) (p : Nat), s.ethPowered p = true ∧ (s.eth.portAt p).up = false) ∧
    (∃ (s : State) (p : Nat), s.ethPowered p = false) ∧
    (∃ (s : State) (p : Nat), s.ethPowered p = true ∧ (s.eth.portAt p).up = true ∧ (s.eth.portAt p).dadDone = false) ∧
    (∃ (s : State) (p : Nat) (b : Bytes), s.ethServes p = true ∧ List.length b ≤ 1456) ∧
    (∃ (s : State) (p : Nat) (b : Bytes), s.ethServes p = true ∧ 1456 < List.length b) ∧
    (∃ (s : State) (p : Nat), s.ethServes p = false) ∧
    (∃ (s : State) (p : Nat) (f : Bytes), s.ethServes p = true ∧
      (datagramFormed f = false ∨ datagramKeyless f = false ∧ s.macGood f = false)) ∧
    (∃ (s : State) (p : Nat) (f : Bytes), s.ethServes p = true ∧ datagramFormed f = true ∧
      (datagramKeyless f = true ∨ s.macGood f = true) ∧ (s.sesAt (fld f 4 4)).request ≠ [] ∧
      fld f 8 8 < (s.sesAt (fld f 4 4)).counter) ∧
    (∃ (s : State) (p : Nat) (f : Bytes), s.ethServes p = true ∧ datagramFormed f = true ∧
      (datagramKeyless f = true ∨ s.macGood f = true) ∧ (s.sesAt (fld f 4 4)).request = f ∧
      (s.sesAt (fld f 4 4)).request ≠ [] ∧ fld f 8 8 = (s.sesAt (fld f 4 4)).counter ∧
      (s.sesAt (fld f 4 4)).response ≠ []) ∧
    (∃ (s : State) (p : Nat) (f : Bytes), s.ethServes p = true ∧ datagramFormed f = true ∧
      (datagramKeyless f = true ∨ s.macGood f = true) ∧
      ((s.sesAt (fld f 4 4)).request = [] ∨ (s.sesAt (fld f 4 4)).counter < fld f 8 8) ∧ s.freePool = none) ∧
    (∃ (s : State) (p : Nat) (f : Bytes) (n : Nat), s.ethServes p = true ∧ datagramFormed f = true ∧
      (datagramKeyless f = true ∨ s.macGood f = true) ∧
      ((s.sesAt (fld f 4 4)).request = [] ∨ (s.sesAt (fld f 4 4)).counter < fld f 8 8) ∧ s.freePool = some n ∧
      (s.sesAt (fld f 4 4)).state ≠ SessState.closed ∧ (s.sesAt (fld f 4 4)).transport = 1) ∧
    (∃ (s : State) (a : AnnounceMsg), s.ptpOn a.port = true ∧ a.timescale = true ∧ s.eth.master = none) ∧
    (∃ (a : AnnounceMsg), a.timescale = false) ∧
    (∃ (s : State) (a : AnnounceMsg) (m : Announce), s.ptpOn a.port = true ∧ a.timescale = true ∧
      s.eth.master = some m ∧ a.priority1 < m.priority1 ∧ (a.identity ≠ m.identity ∨ a.port ≠ m.port)) ∧
    (∃ (s : State) (p : Nat), s.ptpFrom p = true ∧ s.eth.syncPending = true) ∧
    (∃ (s : State) (t1 : Int) (t2 : Int), 1000000 < (t2 - t1 - s.eth.delay).natAbs) ∧
    (∃ (s : State) (t1 : Int) (t2 : Int), (t2 - t1 - s.eth.delay).natAbs ≤ 1000000) ∧
    (∃ (s : State) (t1 : Int) (t2 : Int), (t2 - t1 - s.eth.delay).natAbs ≤ 1000 ∧ 15 ≤ s.eth.good ∧
      (s.eth.rtcState = 0 ∨ s.eth.rtcState = 2)) ∧
    (∃ (s : State) (p : Nat), s.ptpFrom p = false) ∧
    (∃ (s : State) (m : Announce), s.eth.master = some m ∧ s.ptpOn m.port = true) ∧
    (∃ (s : State) (p : Nat), s.ptpFrom p = true ∧ s.eth.delayPending = true) ∧
    (∃ (s : State), s.eth.delayPending = false) ∧
    (∃ (s : State), s.eth.rtcState = 1) ∧
    (∃ (s : State), s.eth.rtcState = 2) ∧
    (∃ (s : State), s.eth.rtcState = 0) :=
  ⟨⟨tBase .run true false, 4, by decide +kernel⟩,
    ⟨tBase .run true false, 0, by decide +kernel⟩,
    ⟨{ tBase .run true false with eth.l4 := { up := true } }, 4, by decide +kernel⟩,
    ⟨{ tBase .run true false with eth.l4 := { up := true, dadDone := true } }, 4, [], by decide +kernel⟩,
    ⟨{ tBase .run true false with eth.l4 := { up := true, dadDone := true } }, 4, (zeros 1457), by decide +kernel⟩,
    ⟨tBase .run true false, 0, by decide +kernel⟩,
    ⟨{ tBase .run true false with eth.l4 := { up := true, dadDone := true } }, 4, [], by decide +kernel⟩,
    ⟨{ tBase .run true false with eth.l4 := { up := true, dadDone := true }, host.sessions := [(1, { state := .openS, request := [1], counter := 6 })] },
      4,
      (leBytes 2 0x4854 ++ [1, 1] ++ leBytes 4 1 ++ leBytes 8 5 ++ leBytes 2 0x0101 ++ zeros 6 ++ leBytes 4 1 ++ zeros 12),
      by decide +kernel⟩,
    ⟨{ tBase .run true false with eth.l4 := { up := true, dadDone := true }, host.sessions := [(1, { state := .openS, request := (leBytes 2 0x4854 ++ [1, 1] ++ leBytes 4 1 ++ leBytes 8 5 ++ leBytes 2 0x0101 ++ zeros 6 ++ leBytes 4 1 ++ zeros 12), counter := 5, response := [1] })] },
      4,
      (leBytes 2 0x4854 ++ [1, 1] ++ leBytes 4 1 ++ leBytes 8 5 ++ leBytes 2 0x0101 ++ zeros 6 ++ leBytes 4 1 ++ zeros 12),
      by decide +kernel⟩,
    ⟨{ tBase .run true false with eth.l4 := { up := true, dadDone := true }, host.mb := [(12, { busy := true }), (13, { busy := true }), (14, { busy := true }), (15, { busy := true })] },
      4,
      (leBytes 2 0x4854 ++ [1, 1] ++ leBytes 4 1 ++ leBytes 8 5 ++ leBytes 2 0x0101 ++ zeros 6 ++ leBytes 4 1 ++ zeros 12),
      by decide +kernel⟩,
    ⟨{ tBase .run true false with eth.l4 := { up := true, dadDone := true }, host.sessions := [(1, { state := .openS, transport := 1, counter := 4, request := [1] })] },
      4,
      (leBytes 2 0x4854 ++ [1, 1] ++ leBytes 4 1 ++ leBytes 8 5 ++ leBytes 2 0x0101 ++ zeros 6 ++ leBytes 4 1 ++ zeros 12),
      15, by decide +kernel⟩,
    ⟨{ tBase .run true false with eth.master := none, eth.l4 := { up := true, dadDone := true } },
      { port := 4, priority1 := 1, quality := 0, priority2 := 0, identity := 1, steps := 0, timescale := true },
      by decide +kernel⟩,
    ⟨{ port := 4, priority1 := 1, quality := 0, priority2 := 0, identity := 1, steps := 0, timescale := false },
      by decide +kernel⟩,
    ⟨{ tBase .run true false with eth.l4 := { up := true, dadDone := true }, eth.master := some { port := 4, priority1 := 2, quality := 0, priority2 := 0, identity := 2, steps := 0, timescale := true } },
      { port := 4, priority1 := 1, quality := 0, priority2 := 0, identity := 1, steps := 0, timescale := true },
      { port := 4, priority1 := 2, quality := 0, priority2 := 0, identity := 2, steps := 0, timescale := true },
      by decide +kernel⟩,
    ⟨{ tBase .run true false with eth.syncPending := true, eth.l4 := { up := true, dadDone := true }, eth.master := some { port := 4, priority1 := 2, quality := 0, priority2 := 0, identity := 2, steps := 0, timescale := true } },
      4, by decide +kernel⟩,
    ⟨tBase .run true false, 0, 1000001, by decide +kernel⟩,
    ⟨tBase .run true false, 0, 1000000, by decide +kernel⟩,
    ⟨{ tBase .run true false with eth.good := 15 }, 0, -1000, by decide +kernel⟩,
    ⟨tBase .run true false, 0, by decide +kernel⟩,
    ⟨{ tBase .run true false with eth.l4 := { up := true, dadDone := true }, eth.master := some { port := 4, priority1 := 2, quality := 0, priority2 := 0, identity := 2, steps := 0, timescale := true } },
      { port := 4, priority1 := 2, quality := 0, priority2 := 0, identity := 2, steps := 0, timescale := true },
      by decide +kernel⟩,
    ⟨{ tBase .run true false with eth.delayPending := true, eth.l4 := { up := true, dadDone := true }, eth.master := some { port := 4, priority1 := 2, quality := 0, priority2 := 0, identity := 2, steps := 0, timescale := true } },
      4, by decide +kernel⟩,
    ⟨{ tBase .run true false with eth.delayPending := false }, by decide +kernel⟩,
    ⟨{ tBase .run true false with eth.rtcState := 1 }, by decide +kernel⟩,
    ⟨{ tBase .run true false with eth.rtcState := 2 }, by decide +kernel⟩,
    ⟨{ tBase .run true false with eth.rtcState := 0 }, by decide +kernel⟩⟩

/-- States and operands that meet the hypotheses of the clauses of `Obligations.TapAndDebugPort`. -/
theorem witness_TapAndDebugPort :
    (∃ (s : State), s.dbg.scanHold = true ∧ s.power.wake.pending = none) ∧
    (∃ (s : State) (c : Nat), s.tapOn = true ∧ c ≠ 255 ∧ tapCode c = false) ∧
    (∃ (s : State) (c : Nat), s.tapOn = true ∧ tapCode c = true) ∧
    (∃ (s : State) (i : Instr) (code : Nat), (i = Instr.extest ∧ code = 4 ∨ i = Instr.intest ∧ code = 5 ∨ i = Instr.clamp ∧ code = 6 ∨ i = Instr.highz ∧ code = 7 ∨ i = Instr.extestPulse ∧ code = 8 ∨ i = Instr.extestTrain ∧ code = 9) ∧
      s.tapOn = true ∧ s.otp.debugLevel ≠ 0) ∧
    (∃ (s : State) (i : Instr) (code : Nat), (i = Instr.extest ∧ code = 4 ∨ i = Instr.intest ∧ code = 5 ∨ i = Instr.clamp ∧ code = 6 ∨ i = Instr.highz ∧ code = 7 ∨ i = Instr.extestPulse ∧ code = 8 ∨ i = Instr.extestTrain ∧ code = 9) ∧
      s.dbg.scanHold = true ∧ s.otp.debugLevel = 0) ∧
    (∃ (s : State) (i : Instr) (code : Nat), (i = Instr.extest ∧ code = 4 ∨ i = Instr.intest ∧ code = 5 ∨ i = Instr.clamp ∧ code = 6 ∨ i = Instr.highz ∧ code = 7 ∨ i = Instr.extestPulse ∧ code = 8 ∨ i = Instr.extestTrain ∧ code = 9) ∧
      s.mode.firmware = true ∧ s.dbg.scanHold = false ∧ s.otp.debugLevel = 0) ∧
    (∃ (s : State), s.tapOn = false) ∧
    (∃ (s : State), s.tapOn = true ∧ s.dbg.instr = 16 ∧ (s.power.dbgen = false ∨ 2 ≤ s.otp.debugLevel)) ∧
    (∃ (s : State), s.tapOn = true ∧ s.dbg.instr = 16 ∧ s.otp.debugLevel = 1 ∧ s.mode ≠ Mode.service) ∧
    (∃ (s : State) (space : Nat) (a : Nat), s.tapOn = true ∧ s.dbg.instr = 16 ∧ s.power.dbgen = true ∧
      s.otp.debugLevel < 2 ∧ a % 4 = 0 ∧ space % 2 = 0 ∧ a < 2 ^ 24 ∧ s.portAlive = true ∧ s.mode.firmware = true ∧
      (s.readAll a 4).snd.fst = 0) ∧
    (∃ (s : State) (a : Nat), s.tapOn = true ∧ s.dbg.instr = 16 ∧ s.power.dbgen = true ∧ s.otp.debugLevel < 2 ∧
      a % 4 ≠ 0) ∧
    (∃ (s : State) (a : Nat) (v : Nat), s.tapOn = true ∧ s.dbg.instr = 16 ∧ s.debugPermits = true ∧
      s.mode.firmware = true ∧ s.portAlive = true ∧ a % 4 = 0 ∧ a < 2 ^ 24 ∧ v < 2 ^ 32) ∧
    (∃ (s : State), s.dbg.instr ≠ 16) ∧
    (∃ (s : State) (pair : Nat), pair < 2 ∧ s.mode.firmware = true ∧ s.debugPermits = false) ∧
    (∃ (s : State) (pair : Nat), pair < 2 ∧ s.mode.firmware = true ∧ s.debugPermits = true ∧ s.mode = Mode.service) ∧
    (∃ (s : State) (pair : Nat), pair < 2 ∧ s.mode.firmware = true ∧ s.debugPermits = true ∧ s.mode ≠ Mode.service) ∧
    (∃ (s : State) (pair : Nat), pair < 2 ∧ s.dbg.halted.testBit pair = true ∧ s.dbg.halted.testBit (1 - pair) = true) ∧
    (∃ (s : State) (pair : Nat), pair < 2 ∧ s.dbg.halted = 2 ^ pair) ∧
    (∃ (s : State) (pair : Nat), s.dbg.halted.testBit pair = false) ∧
    (∃ (s : State) (n : Nat) (pair : Nat) (m : Nat), n < 32 ∧ pair < 2 ∧ s.mode.firmware = true ∧ m ≠ n) ∧
    (∃ (s : State) (n : Nat) (pair : Nat), 32 ≤ n ∨ 2 ≤ pair ∨ s.mode.firmware = false) :=
  ⟨⟨{ tBase .run true false with power.wake.pending := none, dbg := { scanHold := true } }, by decide +kernel⟩,
    ⟨tBase .run true false, 0, by decide +kernel⟩,
    ⟨tBase .run true false, 2, by decide +kernel⟩,
    ⟨{ tBase .run true false with otp.debugLevel := 1 }, Instr.extest, 4, by decide +kernel⟩,
    ⟨{ tBase .run true false with otp.debugLevel := 0, dbg := { scanHold := true } }, Instr.extest, 4,
      by decide +kernel⟩,
    ⟨{ tBase .run true false with otp.debugLevel := 0, dbg := { scanHold := false } }, Instr.extest, 4,
      by decide +kernel⟩,
    ⟨tBase .keep true false, by decide +kernel⟩,
    ⟨{ tBase .run true false with dbg := { instr := 16 } }, by decide +kernel⟩,
    ⟨{ tBase .run true false with otp.debugLevel := 1, dbg := { instr := 16 } }, by decide +kernel⟩,
    ⟨{ tBase .run true false with power.dbgen := true, otp.debugLevel := 0, dbg := { instr := 16 } }, 0, 0,
      by decide +kernel⟩,
    ⟨{ tBase .run true false with power.dbgen := true, otp.debugLevel := 0, dbg := { instr := 16 } }, 1,
      by decide +kernel⟩,
    ⟨{ tBase .run true false with power.dbgen := true, otp.debugLevel := 0, dbg := { instr := 16 } }, 1048576, 1,
      by decide +kernel⟩,
    ⟨tBase .run true false, by decide +kernel⟩,
    ⟨tBase .run true false, 0, by decide +kernel⟩,
    ⟨{ tBase .service true false with power.dbgen := true, otp.debugLevel := 0 }, 0, by decide +kernel⟩,
    ⟨{ tBase .run true false with power.dbgen := true, otp.debugLevel := 0 }, 0, by decide +kernel⟩,
    ⟨{ tBase .run true false with dbg := { halted := 3 } }, 0, by decide +kernel⟩,
    ⟨{ tBase .run true false with dbg := { halted := 1 } }, 0, by decide +kernel⟩,
    ⟨tBase .run true false, 0, by decide +kernel⟩,
    ⟨tBase .run true false, 0, 0, 1, by decide +kernel⟩,
    ⟨tBase .run true false, 0, 2, by decide +kernel⟩⟩

/-- States and operands that meet the hypotheses of the clauses of `Obligations.ChannelPinsAndForcedOff`. -/
theorem witness_ChannelPinsAndForcedOff :
    (∃ (s : State) (ch : Nat), ch < 128 ∧ s.mode.firmware = true ∧ s.chanRuns ch = false) ∧
    (∃ (s : State) (ch : Nat), ch < 128 ∧ s.mode.firmware = true ∧ s.chanRuns ch = true ∧
      (s.chanAt ch).braking = true) ∧
    (∃ (s : State) (ch : Nat) (above : Bool), ch < 128 ∧ s.mode.firmware = true ∧ s.chanRuns ch = true ∧
      (s.chanAt ch).braking = false ∧ s.feeder ch = true ∧ (above = true ∨ (s.chanAt ch).belowRelease = false)) ∧
    (∃ (s : State) (ch : Nat) (above : Bool), ch < 128 ∧ s.mode.firmware = true ∧ s.chanRuns ch = true ∧
      (s.chanAt ch).braking = false ∧ (s.feeder ch = false ∨ above = false ∧ (s.chanAt ch).belowRelease = true)) ∧
    (∃ (s : State) (ch : Nat) (n : Nat) (r : Nat) (f : Nat) (l : Nat) (j : Nat), ch < 128 ∧ s.chanRuns ch = true ∧
      (s.chanAt ch).drive = Drive.pulse r f l ∧ r + s.chLeb ch ≤ n ∧ n < f ∧ j ≠ ch) ∧
    (∃ (s : State) (ch : Nat) (n : Nat), ch < 128 ∧
      (s.chanRuns ch = false ∨ (s.chanAt ch).drive.high n = false ∨ s.blanked ch n = true)) ∧
    (∃ (s : State) (ch : Nat) (i : Int) (n : Nat) (j : Nat), ch < 128 ∧ s.chanRuns ch = true ∧
      (s.chanAt ch).drive.low n = true ∧
      (currentMa (currentAdc i) (s.chanAt ch).isOffset (s.chIsTransr ch) < -↑(s.chSinkLimit ch) ∨ currentAdc i = -2048 ∧ -↑(s.chSinkLimit ch) ≤ currentMa (-2048) (s.chanAt ch).isOffset (s.chIsTransr ch)) ∧
      j ≠ ch) ∧
    (∃ (s : State) (ch : Nat) (i : Int) (n : Nat), ch < 128 ∧
      (s.chanRuns ch = false ∨ (s.chanAt ch).drive.low n = false ∨ -↑(s.chSinkLimit ch) ≤ currentMa (currentAdc i) (s.chanAt ch).isOffset (s.chIsTransr ch) ∧ -2048 < currentAdc i)) ∧
    (∃ (s : State) (ch : Nat) (j : Nat), ch < 128 ∧ s.chanRuns ch = true ∧ s.feeder ch = false ∧
      (s.chanAt ch).brakeArmed = true ∧ (s.chanAt ch).braking = false ∧ j ≠ ch) ∧
    (∃ (s : State) (ch : Nat) (n : Nat) (r : Nat) (f : Nat) (l : Nat) (j : Nat), ch < 128 ∧ s.chanRuns ch = true ∧
      s.feeder ch = true ∧ (s.chanAt ch).drive = Drive.pulse r f l ∧ r ≤ n ∧ n < f ∧ j ≠ ch) ∧
    (∃ (s : State) (ch : Nat) (n : Nat), ch < 128 ∧
      (s.chanRuns ch = false ∨ s.feeder ch = true ∧ (s.chanAt ch).drive.high n = false ∨ s.feeder ch = false ∧ ((s.chanAt ch).brakeArmed = false ∨ (s.chanAt ch).braking = true))) ∧
    (∃ (s : State) (ch : Nat) (b : Bool) (i : Int) (j : Nat), ch < 128 ∧ s.chanRuns ch = true ∧
      (s.chanAt ch).braking = true ∧
      (b = true ∨ currentMa (currentAdc i) (s.chanAt ch).isOffset (s.chIsTransr ch) ≤ 0) ∧ j ≠ ch) ∧
    (∃ (s : State) (ch : Nat) (i : Int), ch < 128 ∧
      ((s.chanAt ch).braking = false ∨ 0 < currentMa (currentAdc i) (s.chanAt ch).isOffset (s.chIsTransr ch))) ∧
    (∃ (s : State) (ch : Nat) (n : Nat) (j : Nat), ch < 128 ∧ s.chanRuns ch = true ∧ (s.chanAt ch).braking = true ∧
      (s.chanAt ch).brakeAt + s.chBrakeMax ch * 51200 ≤ (s.chanAt ch).tStart + n ∧ j ≠ ch) ∧
    (∃ (s : State) (ch : Nat) (n : Nat), ch < 128 ∧
      (s.chanRuns ch = false ∨ (s.chanAt ch).braking = false ∨ (s.chanAt ch).tStart + n < (s.chanAt ch).brakeAt + s.chBrakeMax ch * 51200)) ∧
    (∃ (s : State) (ch : Nat) (k : Nat) (j : Nat), ch < 128 ∧ s.mode.firmware = true ∧
      s.quadrantHeld (quadrant ch) = false ∧ (s.chanAt ch).state ≠ ChState.test ∧
      (s.chanAt ch).state ≠ ChState.forcedOff ∧ (s.chanAt ch).state ≠ ChState.lockedOut ∧ s.outputOf ch = some k ∧
      j ≠ ch) ∧
    (∃ (s : State) (ch : Nat), ch < 128 ∧ s.tripActs ch = false) ∧
    (∃ (s : State) (ch : Nat), ch < 128 ∧
      (s.mode.firmware = false ∨ s.outputOf ch = none ∨ (s.chanAt ch).state = ChState.test ∨ (s.chanAt ch).state = ChState.forcedOff ∨ (s.chanAt ch).state = ChState.lockedOut)) ∧
    (∃ (s : State) (ch : Nat), ch < 128 ∧ (s.mode.firmware = false ∨ (s.outputOf ch).isNone = true)) ∧
    (∃ (ch : Nat) (k : Nat) (x : State) (n : Nat), ch < 128 ∧ (x.outAt k).live = true ∧ n ∈ x.phases k) ∧
    (∃ (s : State) (ch : Nat) (j : Nat), ch < 128 ∧ s.chanRuns ch = true ∧ s.chOcpPersist ch ≠ 0 ∧
      s.chOcpPersist ch ≤ (s.chanAt ch).ocpRun ∧ (s.chanAt ch).ocpRaised = false ∧ j ≠ ch) ∧
    (∃ (s : State) (ch : Nat), ch < 128 ∧
      (s.chanRuns ch = false ∨ s.chOcpPersist ch = 0 ∨ (s.chanAt ch).ocpRun < s.chOcpPersist ch ∨ (s.chanAt ch).ocpRaised = true)) :=
  ⟨⟨tBase .run true false, 0, by decide +kernel⟩,
    ⟨{ tBase .run true false with chan := [(0, { braking := true, state := .switching })], desc.committed := tDesc [(2, 0, 1, 1)] },
      0, by decide +kernel⟩,
    ⟨{ tBase .run true false with chan := [(0, { braking := false, state := .switching })], desc.committed := tDesc [(2, 0, 1, 1), (2, 0, 2, 1)] },
      0, true, by decide +kernel⟩,
    ⟨{ tBase .run true false with chan := [(0, { braking := false, state := .switching })], desc.committed := tDesc [(2, 0, 1, 1)] },
      0, true, by decide +kernel⟩,
    ⟨{ tBase .run true false with chan := [(0, { state := .switching, drive := .pulse 0 10000 10100 })], desc.committed := tDesc [(2, 0, 1, 1)] },
      0, 3072, 0, 10000, 10100, 1, by decide +kernel⟩,
    ⟨tBase .run true false, 0, 0, by decide +kernel⟩,
    ⟨{ tBase .run true false with chan := [(0, { state := .switching, drive := .lowOn })], desc.committed := tDesc [(2, 0, 1, 1)] },
      0, (-3000000000000), 0, 1, by decide +kernel⟩,
    ⟨{ tBase .run true false with chan := [(0, { state := .switching })], desc.committed := tDesc [(2, 0, 1, 1)] }, 0,
      0, 0, by decide +kernel⟩,
    ⟨{ tBase .run true false with chan := [(0, { brakeArmed := true, braking := false, state := .switching })], desc.committed := tDesc [(2, 0, 1, 1)] },
      0, 1, by decide +kernel⟩,
    ⟨{ tBase .run true false with chan := [(0, { state := .switching, drive := .pulse 0 10000 10100 })], desc.committed := tDesc [(2, 0, 1, 1), (2, 0, 2, 1)] },
      0, 5, 0, 10000, 10100, 1, by decide +kernel⟩,
    ⟨tBase .run true false, 0, 0, by decide +kernel⟩,
    ⟨{ tBase .run true false with chan := [(0, { braking := true, state := .switching })], desc.committed := tDesc [(2, 0, 1, 1)] },
      0, true, 0, 1, by decide +kernel⟩,
    ⟨tBase .run true false, 0, 0, by decide +kernel⟩,
    ⟨{ tBase .run true false with chan := [(0, { braking := true, state := .switching })], desc.committed := tDesc [(2, 0, 1, 1)] },
      0, 1000000000, 1, by decide +kernel⟩,
    ⟨tBase .run true false, 0, 0, by decide +kernel⟩,
    ⟨{ tBase .run true false with desc.committed := tDesc [(2, 0, 1, 1)] }, 0, 0, 1, by decide +kernel⟩,
    ⟨{ tBase .keep true false with desc.committed := tDesc [(2, 0, 1, 1)] }, 0, by decide +kernel⟩,
    ⟨tBase .run true false, 0, by decide +kernel⟩,
    ⟨tBase .run true false, 0, by decide +kernel⟩,
    ⟨0, 0, { tBase .run true true with out := [(0, { state := 3 })] }, 0, by decide +kernel⟩,
    ⟨{ tBase .run true false with chan := [(0, { ocpRaised := false, state := .switching, ocpRun := 1000 })], desc.committed := tDesc [(2, 0, 1, 1)] },
      0, 1, by decide +kernel⟩,
    ⟨tBase .run true false, 0, by decide +kernel⟩⟩

/-- States and operands that meet the hypotheses of the clauses of `Obligations.ScannerRows`. -/
theorem witness_ScannerRows :
    (∃ (v : Int), v < 0) ∧
    (∃ (v : Int), 4095 * 93750000 < v * 256) ∧
    (∃ (v : Int), 0 ≤ v ∧ v * 256 ≤ 4095 * 93750000) ∧
    (∃ (s : State), s.scanning = true ∧ s.scan.slot < 512 ∧
      (s.scan.slot < 340 ∨ s.scan.slot = 356 ∨ s.scan.slot = 357)) ∧
    (∃ (s : State), s.scanning = true ∧ s.scan.slot < 512 ∧ 340 ≤ s.scan.slot ∧ s.scan.slot < 356) ∧
    (∃ (s : State) (n : Nat), s.scanning = true ∧ s.scan.slot < 512 ∧ n ≠ s.scan.slot) ∧
    (∃ (s : State) (k : Nat), s.scanning = true ∧ s.scan.slot < 512 ∧
      firstN (fun j => decide (s.lead j = s.scan.slot)) s.enabledOuts = some k ∧ s.scan.slot < 128 ∧
      (s.outAt k).judged = true ∧ s.verdicts = true) ∧
    (∃ (s : State), s.scanning = true ∧ s.scan.slot < 512 ∧ s.scan.slot = 356) ∧
    (∃ (s : State) (v : Int), s.scanning = true ∧ s.scan.slot < 512 ∧ s.scan.slot = 357 ∧ s.scan.gndBad = false ∧
      3265 ≤ scannerCode v ∧ scannerCode v ≤ 3289) ∧
    (∃ (s : State) (v : Int), s.scanning = true ∧ s.scan.slot < 512 ∧ s.scan.slot = 357 ∧
      (s.scan.gndBad = true ∨ scannerCode v < 3265 ∨ 3289 < scannerCode v)) ∧
    (∃ (s : State), s.scanning = false) ∧
    (∃ (s : State) (k : Nat), s.outEnable k = 1 ∧ (s.outAt k).judged = true ∧
      s.outFilterCount k ≤ (s.outAt k).supvCount ∧ s.verdicts = true ∧ s.scanning = true ∧ s.token = true) ∧
    (∃ (s : State) (k : Nat), s.outEnable k = 1 ∧ (s.outAt k).judged = true ∧
      s.outFilterCount k ≤ (s.outAt k).supvCount ∧ s.verdicts = true ∧ s.scanning = true ∧ s.token = false) ∧
    (∃ (s : State) (k : Nat), (s.outAt k).supvCount < s.outFilterCount k ∨ (s.outAt k).judged = false ∨ s.verdicts = false) ∧
    (∃ (s : State) (k : Nat) (c : Nat), s.outEnable k = 1 ∧ (s.outAt k).judged = true ∧ s.verdicts = true ∧
      s.scanning = true ∧ s.outFilterCount k ≤ (s.outAt k).tmpWarnCount ∧ c ∈ s.phases k ∧
      tmpWarn (s.tmpCode c) = true) ∧
    (∃ (s : State) (k : Nat) (c : Nat), s.outEnable k = 1 ∧ (s.outAt k).judged = true ∧ s.verdicts = true ∧
      s.scanning = true ∧ s.outFilterCount k ≤ (s.outAt k).tmpCount ∧
      firstN (fun c => tmpTrip (Tab.get 0 s.scan.codes (128 + c))) (s.phases k) = some c ∧ s.token = true) ∧
    (∃ (s : State) (k : Nat) (c : Nat), s.outEnable k = 1 ∧ (s.outAt k).judged = true ∧ s.verdicts = true ∧
      s.scanning = true ∧ s.outFilterCount k ≤ (s.outAt k).tmpBadCount ∧ c ∈ s.phases k ∧ tmpBad (s.tmpCode c) = true) ∧
    (∃ (s : State) (k : Nat), (s.outAt k).judged = false) ∧
    (∃ (s : State), s.scan.withheld = false ∧ 2 ≤ s.scan.badRun) ∧
    (∃ (s : State), s.scan.withheld = true ∧ 2 ≤ s.scan.goodRun) ∧
    (∃ (s : State) (b : Bool), (b = false → s.scan.withheld = true ∨ s.scan.badRun < 2) ∧
      (b = true → s.scan.withheld = false ∨ s.scan.goodRun < 2)) :=
  ⟨⟨(-1), by decide +kernel⟩,
    ⟨2000000000, by decide +kernel⟩,
    ⟨0, by decide +kernel⟩,
    ⟨tBase .run true false, by decide +kernel⟩,
    ⟨{ tBase .run true false with scan.slot := 340 }, by decide +kernel⟩,
    ⟨tBase .run true false, 1, by decide +kernel⟩,
    ⟨{ tBase .run true false with out := [(0, { state := 3 })], desc.committed := tDesc [(2, 0, 1, 1)] }, 0,
      by decide +kernel⟩,
    ⟨{ tBase .run true false with scan.slot := 356 }, by decide +kernel⟩,
    ⟨{ tBase .run true false with scan.slot := 357, scan.gndBad := false }, 1195678711, by decide +kernel⟩,
    ⟨{ tBase .run true false with scan.slot := 357 }, 0, by decide +kernel⟩,
    ⟨tBase .keep true false, by decide +kernel⟩,
    ⟨{ tBase .run true false with out := [(0, { state := 3, supvCount := 2 })], desc.committed := tDesc [(2, 0, 1, 1)] },
      0, by decide +kernel⟩,
    ⟨{ tBase .run false false with out := [(0, { state := 3, supvCount := 2 })], desc.committed := tDesc [(2, 0, 1, 1)] },
      0, by decide +kernel⟩,
    ⟨tBase .run true false, 0, by decide +kernel⟩,
    ⟨{ tBase .run true false with out := [(0, { state := 3, tmpWarnCount := 3 })], scan.codes := [(128, 2799)], desc.committed := tDesc [(2, 0, 1, 1)] },
      0, 0, by decide +kernel⟩,
    ⟨{ tBase .run true false with out := [(0, { state := 3, tmpCount := 2 })], scan.codes := [(128, 3072)], desc.committed := tDesc [(2, 0, 1, 1)] },
      0, 0, by decide +kernel⟩,
    ⟨{ tBase .run true false with out := [(0, { state := 3, tmpBadCount := 2 })], desc.committed := tDesc [(2, 0, 1, 1)] },
      0, 0, by decide +kernel⟩,
    ⟨tBase .run true false, 0, by decide +kernel⟩,
    ⟨{ tBase .run true false with scan.withheld := false, scan.badRun := 2 }, by decide +kernel⟩,
    ⟨{ tBase .run true false with scan.withheld := true, scan.goodRun := 2 }, by decide +kernel⟩,
    ⟨tBase .run true false, true, by decide +kernel⟩⟩

/-- States and operands that meet the hypotheses of the clauses of `Obligations.LoopRows`. -/
theorem witness_LoopRows :
    (∃ (s : State) (ch : Nat), s.evaluates ch = false) ∧
    (∃ (s : State) (ch : Nat) (k : Nat) (t0 : Nat), s.outputOf ch = some k ∧ s.evaluates ch = true ∧
      (s.chanAt ch).sampleAt = some t0 ∧ (s.engineAt ch).ready = [] ∧
      ∀ (c : Nat), c / 4 = ch / 4 → c ≠ ch → s.evaluates c = true → (s.chanAt c).sampleAt = some t0 → s.rankOf ch < s.rankOf c) ∧
    (∃ (s : State) (ch : Nat) (k : Nat) (t0 : Nat) (j : Nat), s.outputOf ch = some k ∧ s.evaluates ch = true ∧
      (s.chanAt ch).sampleAt = some t0 ∧ (s.engineAt ch).ready = [] ∧
      (∀ (c : Nat), c / 4 = ch / 4 → c ≠ ch → s.evaluates c = true → (s.chanAt c).sampleAt = some t0 → s.rankOf ch < s.rankOf c) ∧
      j ≠ ch) ∧
    (∃ (s : State) (ch : Nat) (t0 : Nat) (c : Nat), s.evaluates ch = true ∧ (s.chanAt ch).sampleAt = some t0 ∧
      (s.engineAt ch).ready = [] ∧ c / 4 = ch / 4 ∧ c ≠ ch ∧ s.evaluates c = true ∧ (s.chanAt c).sampleAt = some t0 ∧
      s.rankOf c ≤ s.rankOf ch) ∧
    (∃ (s : State) (ch : Nat) (k : Nat) (j : Nat), ch ≠ s.lead k ∧ Tab.get none s.sluice.fix ch = none ∧ j ≠ ch) ∧
    (∃ (s : State) (k : Nat) (code : Int) (ns : Nat), Tab.get none s.sluice.fix (s.lead k) = none ∧
      Tab.get none s.sluice.fixOut k = none ∧ -512 ≤ code ∧ code ≤ 511 ∧
      ∀ (n : Nat), n ∈ s.phases k → bit (s.chanAt n).cause 5 = true ∨ refCodeRaw (((s.swapBanks k).profileStep k ns).vsp k) (s.chVsRatio n) ≤ 65535) ∧
    (∃ (s : State) (k : Nat) (code : Int) (ns : Nat), Tab.get none s.sluice.fix (s.lead k) = none ∧
      Tab.get none s.sluice.fixOut k = none ∧ -512 ≤ code ∧ code ≤ 511 ∧
      (∀ (n : Nat), n ∈ s.phases k → bit (s.chanAt n).cause 5 = true ∨ refCodeRaw (((s.swapBanks k).profileStep k ns).vsp k) (s.chVsRatio n) ≤ 65535) ∧
      (s.outAt k).ident.inj = false ∧ (s.outAt k).ident.startAt = none) ∧
    (∃ (s : State) (k : Nat) (code : Int), Tab.get none s.sluice.fix (s.lead k) = none ∧
      Tab.get none s.sluice.fixOut k = none ∧ (code < -512 ∨ 511 < code) ∧
      (s.outAt k).comp.rejRun < ((s.swapBanks k).coef (s.lead k)).rejectCount ∧
      ((s.swapBanks k).coef (s.lead k)).rejectCount ≤ 255) ∧
    (∃ (c : Chan), c.swapDue = true) ∧
    (∃ (c : Chan), c.swapDue = false) ∧
    (∃ (s : State) (cl : Nat), s.mode.firmware = true ∧ cl < 4 ∧ s.held cl = false ∧
      (s.token = true ∨ s.shadowing = true) ∧ ∀ (q : Nat), s.polCeiling q = 0) ∧
    (∃ (s : State) (cl : Nat) (c : Nat), s.mode.firmware = true ∧ cl < 4 ∧ s.held cl = false ∧
      (s.token = true ∨ s.shadowing = true) ∧ (∀ (q : Nat), s.polCeiling q = 0) ∧ (s.chanAt c).curCount ≠ 0 ∧
      ∃ j, j ∈ s.outsOfCluster cl ∧ c ∈ s.phases j) ∧
    (∃ (s : State) (cl : Nat) (c : Nat), s.mode.firmware = true ∧ cl < 4 ∧ s.held cl = false ∧
      (s.token = true ∨ s.shadowing = true) ∧ (∀ (q : Nat), s.polCeiling q = 0) ∧
      ∀ (j : Nat), j ∈ s.outsOfCluster cl → ¬c ∈ s.phases j) ∧
    (∃ (s : State) (cl : Nat) (j : Nat), s.mode.firmware = true ∧ cl < 4 ∧ s.held cl = false ∧
      (s.token = true ∨ s.shadowing = true) ∧ (∀ (q : Nat), s.polCeiling q = 0) ∧ ¬j ∈ s.outsOfCluster cl) ∧
    (∃ (s : State) (cl : Nat) (j : Nat), s.mode.firmware = true ∧ cl < 4 ∧ s.held cl = false ∧
      (s.token = true ∨ s.shadowing = true) ∧ (∀ (q : Nat), s.polCeiling q = 0) ∧ j ≠ cl) ∧
    (∃ (s : State) (cl : Nat), 4 ≤ cl ∨ s.mode.firmware = false ∨ s.held cl = true) ∧
    (∃ (s : State) (cl : Nat) (q : Nat), s.mode.firmware = true ∧ cl < 4 ∧ s.held cl = false ∧
      (s.token = true ∨ s.shadowing = true) ∧ s.enabledPolders = [q] ∧ s.polCeiling q ≠ 0) ∧
    (∃ (s : State) (ch : Nat) (cl : Nat) (j : Nat), j ∈ s.outsOfCluster cl ∧ ch ∈ s.phases j) :=
  ⟨⟨tBase .run true false, 0, by decide +kernel⟩,
    ⟨{ tBase .run true true with chan := [(0, { state := .switching, sampleAt := some 0 })], desc.committed := tDesc [(2, 0, 1, 1)] },
      0, 0, 0, by decide +kernel, by decide +kernel, rfl, rfl,
      (fun c h hc he _ => tOthers (by decide +kernel) h hc he)⟩,
    ⟨{ tBase .run true true with chan := [(0, { state := .switching, sampleAt := some 0 })], desc.committed := tDesc [(2, 0, 1, 1)] },
      0, 0, 0, 1, by decide +kernel, by decide +kernel, rfl, rfl,
      (fun c h hc he _ => tOthers (by decide +kernel) h hc he), by decide⟩,
    ⟨{ tBase .run true false with chan := [(0, { state := .switching, sampleAt := some 0 }), (1, { state := .switching, sampleAt := some 0 })], cluster := [(0, { engines := [(0, { slot := 0 })] })], desc.committed := tDesc [(2, 0, 1, 1), (2, 0, 4, 2)] },
      0, 0, 1, by decide +kernel⟩,
    ⟨{ tBase .run true false with chan := [(1, { state := .switching })], desc.committed := tDesc [(2, 0, 1, 1), (2, 0, 4, 2)] },
      1, 0, 0, by decide +kernel⟩,
    ⟨{ tBase .run true false with chan := [(0, { state := .switching })], desc.committed := tDesc [(2, 0, 1, 1)] }, 0,
      (-512), 0, by decide +kernel⟩,
    ⟨{ tBase .run true false with out := [(0, { ident := { inj := false, startAt := none } })], chan := [(0, { state := .switching })], desc.committed := tDesc [(2, 0, 1, 1)] },
      0, (511), 0, by decide +kernel⟩,
    ⟨{ tBase .run true false with chan := [(0, { state := .switching })], desc.committed := tDesc [(2, 0, 1, 1)] }, 0,
      (512), by decide +kernel⟩,
    ⟨{ swapDue := true }, by decide +kernel⟩,
    ⟨{}, by decide +kernel⟩,
    ⟨tBase .run true true, 0, rfl, by decide, by decide, .inl rfl, fun _ => rfl⟩,
    ⟨{ tBase .run true true with chan := [(0, { curCount := 1 })], out := [(0, { leaving := true })] }, 0, 0, rfl,
      by decide, by decide, .inl rfl, fun _ => rfl, by decide, 0, by decide +kernel, by decide +kernel⟩,
    ⟨tBase .run true true, 0, 1, rfl, by decide, by decide, .inl rfl, fun _ => rfl, by decide +kernel⟩,
    ⟨tBase .run true true, 0, 1, rfl, by decide, by decide, .inl rfl, fun _ => rfl, by decide +kernel⟩,
    ⟨tBase .run true true, 0, 1, rfl, by decide, by decide, .inl rfl, fun _ => rfl, by decide⟩,
    ⟨tBase .run true false, 4, by decide +kernel⟩,
    ⟨{ tBase .run true false with desc.committed := tDesc [(3, 3, 1, 1), (3, 3, 4, 100)] }, 0, 3, by decide +kernel⟩,
    ⟨{ tBase .run true false with cluster := [(0, { clamped := 8 })], desc.committed := tDesc [(2, 0, 1, 1), (2, 0, 5, 3)] },
      0, 0, 0, by decide +kernel⟩⟩

/-- States and operands that meet the hypotheses of the clauses of `Obligations.TideBoundaryTurnsAndOrdersAct`. -/
theorem witness_TideBoundaryTurnsAndOrdersAct :
    (∃ (s : State), s.clocks.tideReleased = false ∨ s.mode.firmware = false) ∧
    (∃ (s : State), s.clocks.tideReleased = true ∧ s.mode.firmware = true ∧ s.clocks.running = true) ∧
    (∃ (s : State), s.clocks.tideReleased = true ∧ s.mode.firmware = true ∧ s.clocks.running = false) ∧
    (∃ (s : State) (mb : Nat) (r : OrderRow) (what : WaitKind), orderRow (s.request mb).order = some r ∧
      r.served s = false ∧ what ≠ WaitKind.commitBoundary) ∧
    (∃ (s : State) (ns : Nat), s.retained.rtcNs ≤ ns) ∧
    (∃ (s : State) (ns : Nat), ns < s.retained.rtcNs) ∧
    (∃ (s : State), modesEdit.contains s.mode = true) ∧
    (∃ (s : State) (m : Nat), ∃ k, k < 128 ∧ m.testBit k = true ∧ (s.outAt k).state = 6) ∧
    (∃ (s : State) (m : Nat), s.power.longPress = false ∧
      ∀ (k : Nat), k < 128 → m.testBit k = true → (s.outAt k).state ≠ 6) ∧
    (∃ (s : State) (m : Nat) (k : Nat), s.power.longPress = false ∧
      (∀ (k : Nat), k < 128 → m.testBit k = true → (s.outAt k).state ≠ 6) ∧ k < 128) ∧
    (∃ (s : State) (m : Nat) (how : Nat) (k : Nat) (c : Nat), k < 128 ∧ m.testBit k = true ∧ s.outEnable k = 1 ∧
      how ≠ 0 ∧ (s.outAt k).live = true ∧ c ∈ s.phases k) ∧
    (∃ (s : State) (m : Nat) (k : Nat), k < 128 ∧ m.testBit k = true ∧ (s.outAt k).state = 4) ∧
    (∃ (m : Nat) (q : Nat), q < 32 ∧ m.testBit q = true) ∧
    (∃ (s : State) (m : Nat), s.withdrawable m = false) ∧
    (∃ (s : State) (m : Nat) (k : Nat), s.withdrawable m = true ∧ k < 40) ∧
    (∃ (s : State) (k : Nat), (s.outAt k).ident.applied = 3) ∧
    (∃ (s : State) (k : Nat), (s.outAt k).ident.applied ≠ 3 ∧ (s.outAt k).ident.applyDue = 1 ∧
      s.announcesFirst k = false) ∧
    (∃ (s : State) (k : Nat), (s.outAt k).ident.applied ≠ 3 ∧ (s.outAt k).ident.applyDue = 1 ∧
      s.announcesFirst k = true) :=
  ⟨⟨tBase .run true false, by decide +kernel⟩,
    ⟨{ tBase .run true false with clocks.tideReleased := true, clocks.running := true }, by decide +kernel⟩,
    ⟨{ tBase .run true false with clocks.tideReleased := true, clocks.running := false }, by decide +kernel⟩,
    ⟨tOrder 3077 [] .host (tBase .run true false), 0, (orderOf 0x0C05 (some 2) modesStore [16, 17]), .commitStore,
      by decide +kernel⟩,
    ⟨tBase .run true false, 0, by decide +kernel⟩,
    ⟨{ tBase .run true false with retained.rtcNs := 5 }, 0, by decide +kernel⟩,
    ⟨tBase .run true false, by decide +kernel⟩,
    ⟨{ tBase .run true true with out := [(3, { state := 6 })] }, 8, 3, by decide, by decide, rfl⟩,
    ⟨{ tBase .run true false with power.longPress := false }, 0, by decide +kernel⟩,
    ⟨{ tBase .run true false with power.longPress := false }, 0, 0, by decide +kernel⟩,
    ⟨{ tBase .run true false with out := [(0, { state := 3 })], desc.committed := tDesc [(2, 0, 1, 1)] }, 1, 1, 0, 0,
      by decide +kernel⟩,
    ⟨{ tBase .run true false with out := [(0, { state := 4 })] }, 1, 0, by decide +kernel⟩,
    ⟨1, 0, by decide +kernel⟩,
    ⟨{ tBase .run true false with plan.demand := [1000] }, 1, by decide +kernel⟩,
    ⟨tBase .run true false, 0, 0, by decide +kernel⟩,
    ⟨{ tBase .run true false with out := [(0, { ident := { applied := 3 } })] }, 0, by decide +kernel⟩,
    ⟨{ tBase .run true false with out := [(0, { ident := { applyDue := 1 } })] }, 0, by decide +kernel⟩,
    ⟨{ tBase .run true false with out := [(0, { ident := { applyDue := 1 } })], sluice.peer := true, sluice.hello := true, sluice.pMode := 6, sluice.lane6 := { block := true, up := true } },
      0, by decide +kernel⟩⟩

/-- States and operands that meet the hypotheses of the clauses of `Obligations.StepRunsFrontCommand`. -/
theorem witness_StepRunsFrontCommand :
    (∃ (c : Instr) (s : State) (rest : List Instr), s.pending = c :: rest) ∧
    (∃ (s : State), s.pending = []) :=
  ⟨⟨Instr.status, { tBase .run true false with pending := [.status] }, [], by decide +kernel⟩,
    ⟨tBase .run true false, by decide +kernel⟩⟩

/-- States and operands that meet the hypotheses of the clauses of `Obligations.GatesNeverBothHigh`. -/
theorem witness_GatesNeverBothHigh :
    (∃ (d : Nat) (p : Nat) (r : Nat) (f : Nat), p < r + (d * p + 2 ^ 19) / 2 ^ 20 + f) ∧
    (∃ (d : Nat) (p : Nat) (r : Nat) (f : Nat), r + (d * p + 2 ^ 19) / 2 ^ 20 + f ≤ p) ∧
    (∃ (s : State) (ch : Nat), ch < 128 ∧ s.mode.firmware = true ∧ s.token = true ∧ s.chanRuns ch = true ∧
      s.feeder ch = false ∧ (s.chanAt ch).braking = false ∧
      onTimeLimited (s.chanAt ch).shadow (s.chPeriod ch) (s.chDtRise ch) (s.chDtFall ch) = 0) :=
  ⟨⟨0, 0, 0, 1, by decide +kernel⟩,
    ⟨0, 0, 0, 0, by decide +kernel⟩,
    ⟨{ tBase .run true false with chan := [(0, { braking := false, state := .switching })], desc.committed := tDesc [(2, 0, 1, 1)] },
      0, by decide +kernel⟩⟩

/-- States and operands that meet the hypotheses of the clauses of `Obligations.SerialComparison`. -/
theorem witness_SerialComparison :
    ∃ (a : Nat) (b : Nat), a < 2 ^ 32 ∧ b < 2 ^ 32 ∧ (a + 2 ^ 32 - b) % 2 ^ 32 = 2 ^ 31 :=
  ⟨2147483648, 0, by decide +kernel⟩

/-- States and operands that meet the hypotheses of the clauses of `Obligations.CurrentComparatorCode`. -/
theorem witness_CurrentComparatorCode :
    (∃ (s : State) (ch : Nat) (k : Nat) (c : Nat), s.outputOf ch = some k ∧ (s.chanAt ch).clamp = some c) ∧
    (∃ (s : State) (ch : Nat) (k : Nat) (c : Nat), s.outputOf ch = some k ∧ (s.outAt k).cap = some c) :=
  ⟨⟨{ tBase .run true false with chan := [(0, { state := .switching, clamp := some 7 })], out := [(0, { cap := some 7 })], desc.committed := tDesc [(2, 0, 1, 1)] },
  0, 0, 7, by decide +kernel⟩,
    ⟨{ tBase .run true false with chan := [(0, { state := .switching, clamp := some 7 })], out := [(0, { cap := some 7 })], desc.committed := tDesc [(2, 0, 1, 1)] },
      0, 0, 7, by decide +kernel⟩⟩

/-- States and operands that meet the hypotheses of the clauses of `Obligations.FabricFreeboardValue`. -/
theorem witness_FabricFreeboardValue :
    (∃ (s : State), s.fabricTerm = none) ∧
    (∃ (s : State) (a : Nat), s.fabricTerm = some a ∧ -2 ^ 31 ≤ ↑a - s.budget.load ∧ ↑a - s.budget.load < 2 ^ 31) :=
  ⟨⟨tBase .run true false, by decide +kernel⟩,
    ⟨{ tBase .run true false with host.negotiated := 32768, fabric.allow := 100, desc.committed := tDesc [(8, 0, 11, 1), (8, 0, 12, 1), (8, 0, 13, 2), (8, 0, 14, 2)] },
      100, by decide +kernel⟩⟩

/-- States and operands that meet the hypotheses of the clauses of `Obligations.OrderStatusPriority`. -/
theorem witness_OrderStatusPriority :
    (∃ (i : Instr) (code : Nat) (mb : Nat) (s : State), IsOrder i code mb ∧ s.host.orders.head? ≠ some mb) ∧
    (∃ (i : Instr) (code : Nat) (mb : Nat) (s : State), IsOrder i code mb ∧ s.wardenRuns = false) ∧
    (∃ (i : Instr) (code : Nat) (mb : Nat) (s : State), IsOrder i code mb ∧ (s.request mb).order ≠ code) ∧
    (∃ (i : Instr) (mb : Nat) (s : State) (r : OrderRow), IsOrder i (s.request mb).order mb ∧
      s.host.orders.head? = some mb ∧ s.wardenRuns = true ∧ orderRow (s.request mb).order = some r ∧
      (496 < (s.request mb).len ∨ 4 ≤ (s.request mb).flags)) ∧
    (∃ (i : Instr) (mb : Nat) (s : State) (r : OrderRow), IsOrder i (s.request mb).order mb ∧
      s.host.orders.head? = some mb ∧ s.wardenRuns = true ∧ orderRow (s.request mb).order = some r ∧
      (s.request mb).len ≤ 496 ∧ (s.request mb).flags < 4 ∧ s.sessionOk (s.request mb) r = false) ∧
    (∃ (i : Instr) (mb : Nat) (s : State) (r : OrderRow), IsOrder i (s.request mb).order mb ∧
      s.host.orders.head? = some mb ∧ s.wardenRuns = true ∧ orderRow (s.request mb).order = some r ∧
      (s.request mb).len ≤ 496 ∧ (s.request mb).flags < 4 ∧ s.sessionOk (s.request mb) r = true ∧
      (s.request mb).order = 257) ∧
    (∃ (i : Instr) (mb : Nat) (s : State) (r : OrderRow), IsOrder i (s.request mb).order mb ∧
      s.host.orders.head? = some mb ∧ s.wardenRuns = true ∧ orderRow (s.request mb).order = some r ∧
      (s.request mb).len ≤ 496 ∧ (s.request mb).flags < 4 ∧ s.sessionOk (s.request mb) r = true ∧
      (s.request mb).order = 260) ∧
    (∃ (i : Instr) (mb : Nat) (s : State) (r : OrderRow), IsOrder i (s.request mb).order mb ∧
      s.host.orders.head? = some mb ∧ s.wardenRuns = true ∧ orderRow (s.request mb).order = some r ∧
      (s.request mb).len ≤ 496 ∧ (s.request mb).flags < 4 ∧ s.sessionOk (s.request mb) r = true ∧
      ((s.request mb).order = 2820 ∨ (s.request mb).order = 3079)) ∧
    (∃ (i : Instr) (mb : Nat) (s : State) (r : OrderRow), IsOrder i (s.request mb).order mb ∧
      s.host.orders.head? = some mb ∧ s.wardenRuns = true ∧ orderRow (s.request mb).order = some r ∧
      (s.request mb).len ≤ 496 ∧ (s.request mb).flags < 4 ∧ s.sessionOk (s.request mb) r = true ∧
      (s.request mb).order = 4354) ∧
    (∃ (i : Instr) (mb : Nat) (s : State) (r : OrderRow), IsOrder i (s.request mb).order mb ∧
      s.host.orders.head? = some mb ∧ s.wardenRuns = true ∧ orderRow (s.request mb).order = some r ∧
      (s.request mb).len ≤ 496 ∧ (s.request mb).flags < 4 ∧ s.sessionOk (s.request mb) r = true ∧
      ¬(s.request mb).order ∈ [257, 260, 2820, 3079, 4354]) ∧
    (∃ (i : Instr) (mb : Nat) (s : State) (r : OrderRow), IsOrder i (s.request mb).order mb ∧
      s.host.orders.head? = some mb ∧ s.wardenRuns = true ∧ orderRow (s.request mb).order = some r ∧
      (s.request mb).len ≤ 496 ∧ (s.request mb).flags < 4 ∧ s.sessionOk (s.request mb) r = true ∧
      (s.request mb).order = 770) ∧
    (∃ (i : Instr) (mb : Nat) (s : State) (r : OrderRow), IsOrder i (s.request mb).order mb ∧
      s.host.orders.head? = some mb ∧ s.wardenRuns = true ∧ orderRow (s.request mb).order = some r ∧
      (s.request mb).len ≤ 496 ∧ (s.request mb).flags < 4 ∧ s.sessionOk (s.request mb) r = true ∧
      ((s.request mb).order = 1794 ∨ (s.request mb).order = 1796)) ∧
    (∃ (i : Instr) (mb : Nat) (s : State) (r : OrderRow), IsOrder i (s.request mb).order mb ∧
      s.host.orders.head? = some mb ∧ s.wardenRuns = true ∧ orderRow (s.request mb).order = some r ∧
      (s.request mb).len ≤ 496 ∧ (s.request mb).flags < 4 ∧ s.sessionOk (s.request mb) r = true ∧
      ¬(s.request mb).order ∈ [770, 1794, 1796]) :=
  ⟨⟨(Instr.modeGet 0), 513, 0, tBase .run true true, IsOrder.modeGet 0, by decide⟩,
    ⟨(Instr.modeGet 0), 513, 0, tBase .keep true true, IsOrder.modeGet 0, by decide⟩,
    ⟨(Instr.modeGet 0), 513, 0, tBase .run true true, IsOrder.modeGet 0, by decide⟩,
    ⟨(Instr.modeGet 0), 0, tFlags 4 (tOrder 513 [] .host (tBase .run true true)),
      (orderOf 0x0201 (some 0) modesAll [0]), (show IsOrder _ _ _ from IsOrder.modeGet 0), by decide, by decide,
      by decide, by decide⟩,
    ⟨(Instr.modeGet 0), 0, tNoSession (tOrder 513 [] .host (tBase .run true true)),
      (orderOf 0x0201 (some 0) modesAll [0]), (show IsOrder _ _ _ from IsOrder.modeGet 0), by decide, by decide,
      by decide, by decide, by decide, by decide⟩,
    ⟨(Instr.sessionOpen 0), 0, tNoSession (tOrder 257 [] .host (tBase .run true true)),
      (orderOf 0x0101 none modesAll [0]), (show IsOrder _ _ _ from IsOrder.sessionOpen 0), by decide, by decide,
      by decide, by decide, by decide, by decide, by decide⟩,
    ⟨(Instr.sessionKeyinstall 0), 0, tOrder 260 [] .host (tBase .run true true),
      (orderOf 0x0104 (some 1) modesSetup [0]), (show IsOrder _ _ _ from IsOrder.sessionKeyinstall 0), by decide,
      by decide, by decide, by decide, by decide, by decide, by decide⟩,
    ⟨(Instr.logSubscribe 0), 0, tOrder 3079 [] .host (tBase .run true true),
      (orderOf 0x0C07 (some 1) modesAll [16, 26]), (show IsOrder _ _ _ from IsOrder.logSubscribe 0), by decide,
      by decide, by decide, by decide, by decide, by decide, by decide⟩,
    ⟨(Instr.timeSet 0), 0, tOrder 4354 [] .host (tBase .run true true), (orderOf 0x1102 (some 1) modesAll [22]),
      (show IsOrder _ _ _ from IsOrder.timeSet 0), by decide, by decide, by decide, by decide, by decide, by decide,
      by decide⟩,
    ⟨(Instr.modeGet 0), 0, tOrder 513 [] .host (tBase .run true true), (orderOf 0x0201 (some 0) modesAll [0]),
      (show IsOrder _ _ _ from IsOrder.modeGet 0), by decide, by decide, by decide, by decide, by decide, by decide,
      by decide⟩,
    ⟨(Instr.objSet 0), 0, tOrder 770 [] .host (tBase .run true true), (orderOf 0x0302 (some 1) modesEdit [2]),
      (show IsOrder _ _ _ from IsOrder.objSet 0), by decide, by decide, by decide, by decide, by decide, by decide,
      by decide⟩,
    ⟨(Instr.rectWithdraw 0), 0, tOrder 1794 [] .host (tBase .run true true), (orderOf 0x0702 (some 1) modesLive [7]),
      (show IsOrder _ _ _ from IsOrder.rectWithdraw 0), by decide, by decide, by decide, by decide, by decide,
      by decide, by decide⟩,
    ⟨(Instr.modeGet 0), 0, tOrder 513 [] .host (tBase .run true true), (orderOf 0x0201 (some 0) modesAll [0]),
      (show IsOrder _ _ _ from IsOrder.modeGet 0), by decide, by decide, by decide, by decide, by decide, by decide,
      by decide⟩⟩

/-- States and operands that meet the hypotheses of the clauses of `Obligations.BadLayoutAnsweredBadArg`. -/
theorem witness_BadLayoutAnsweredBadArg :
    (∃ (s : State) (mb : Nat), s.starts 513 mb ∧ (s.request mb).lay 0 [] = false) ∧
    (∃ (s : State) (mb : Nat), s.starts 2562 mb ∧ s.token = true ∧ (s.request mb).lay 4 [(0, 4)] = false) :=
  ⟨⟨tOrder 513 [1] .host (tBase .run true true), 0, by unfold State.starts; decide +kernel⟩,
    ⟨tOrder 2562 [1] .host (tBase .run true true), 0, by unfold State.starts; decide +kernel⟩⟩

/-- States and operands that meet the hypotheses of the clauses of `Obligations.ResponseFillsItsHalf`. -/
theorem witness_ResponseFillsItsHalf :
    (∃ (s : State) (q : Req) (st : Status) (payload : Bytes) (a : Nat), q.mb < 16 ∧ List.length payload ≤ 496 ∧
      (st ≠ Status.busy ∨ s.host.busyRun < 99) ∧ s.anyHalted = false ∧
      (s.sluice.genHeld = false ∨ s.operateOrder q.mb = false) ∧ (a < mbBase q.mb + 512 ∨ mbBase q.mb + 1024 ≤ a)) ∧
    (∃ (s : State) (q : Req) (st : Status) (payload : Bytes) (m : Nat), q.mb < 16 ∧ List.length payload ≤ 496 ∧
      (st ≠ Status.busy ∨ s.host.busyRun < 99) ∧ s.anyHalted = false ∧
      (s.sluice.genHeld = false ∨ s.operateOrder q.mb = false) ∧ m ≠ q.mb) ∧
    (∃ (s : State) (q : Req) (st : Status) (payload : Bytes), q.mb < 16 ∧ List.length payload ≤ 496 ∧
      (st ≠ Status.busy ∨ s.host.busyRun < 99) ∧ s.anyHalted = false ∧
      (s.sluice.genHeld = false ∨ s.operateOrder q.mb = false) ∧ (s.mbAt q.mb).owner ≠ Owner.ethernet) ∧
    (∃ (s : State) (q : Req) (st : Status) (payload : Bytes), q.mb < 16 ∧ List.length payload ≤ 496 ∧
      (st ≠ Status.busy ∨ s.host.busyRun < 99) ∧ s.anyHalted = false ∧
      (s.sluice.genHeld = false ∨ s.operateOrder q.mb = false) ∧ (s.mbAt q.mb).owner = Owner.ethernet) ∧
    (∃ (s : State) (q : Req) (st : Status) (payload : Bytes), q.mb < 16 ∧ List.length payload ≤ 496 ∧
      (st ≠ Status.busy ∨ s.host.busyRun < 99) ∧
      (s.anyHalted = true ∨ s.sluice.genHeld = true ∧ s.operateOrder q.mb = true) ∧ s.host.busyRun < 100) :=
  ⟨⟨tBase .run true false,
  { mb := 15, order := 513, flags := 0, tag := 0, len := 0, session := 1, minGen := 0, feats := 1, transport := 0, payload := [] },
  .ok, [1], 0, by decide +kernel⟩,
    ⟨tBase .run true false,
      { mb := 15, order := 513, flags := 0, tag := 0, len := 0, session := 1, minGen := 0, feats := 1, transport := 0, payload := [] },
      .ok, [1], 14, by decide +kernel⟩,
    ⟨tBase .run true false,
      { mb := 15, order := 513, flags := 0, tag := 0, len := 0, session := 1, minGen := 0, feats := 1, transport := 0, payload := [] },
      .ok, [1], by decide +kernel⟩,
    ⟨{ tBase .run true false with host.mb := [(15, { owner := .ethernet })] },
      { mb := 15, order := 513, flags := 0, tag := 0, len := 0, session := 1, minGen := 0, feats := 1, transport := 0, payload := [] },
      .ok, [1], by decide +kernel⟩,
    ⟨{ tBase .run true false with dbg := { halted := 1 } },
      { mb := 0, order := 513, flags := 0, tag := 0, len := 0, session := 1, minGen := 0, feats := 1, transport := 0, payload := [] },
      .ok, [1], by decide +kernel⟩⟩

/-- States and operands that meet the hypotheses of the clauses of `Obligations.NamedCommandsComplete`. -/
theorem witness_NamedCommandsComplete :
    (∃ (s : State), s.log.loading = true) ∧
    (∃ (s : State) (mb : Nat), s.starts 3073 mb ∧ (s.request mb).lay 0 [] = true) ∧
    (∃ (s : State) (mb : Nat), s.starts 3074 mb ∧ (s.request mb).lay 12 [(9, 3)] = true ∧ 1 ≤ (s.request mb).u 8 1 ∧
      (s.request mb).u 8 1 ≤ 7) ∧
    (∃ (s : State) (mb : Nat), s.starts 3081 mb ∧ (s.request mb).lay 4 [(1, 3)] = true ∧ (s.request mb).u 0 1 ≤ 7) ∧
    (∃ (s : State) (mb : Nat), s.starts 257 mb ∧ (s.request mb).lay 8 [(4, 4)] = true ∧ (s.request mb).u 1 1 = 0 ∧
      (s.request mb).u 0 1 ≤ 1 ∧ (s.request mb).u 2 2 ≤ 3600 ∧ (s.request mb).transport ≠ 1 ∧
      s.host.keyLocked.testBit 0 = false ∧ s.openSessions.length < 16) ∧
    (∃ (s : State) (mb : Nat) (k : Nat), s.starts 258 mb ∧ (s.request mb).lay 32 [] = true ∧ s.testFailed 1 = false ∧
      s.sessionKey (s.sesAt (s.request mb).session).keyId = some k ∧
      proofTag k 1 (s.request mb).session (s.sesAt (s.request mb).session).nonce (slice (s.request mb).payload 0 16) = slice (s.request mb).payload 16 16) ∧
    (∃ (s : State) (mb : Nat), s.starts 259 mb ∧ (s.request mb).lay 0 [] = true) ∧
    (∃ (s : State) (mb : Nat), s.starts 260 mb ∧ (s.request mb).lay 20 [(1, 3)] = true ∧
      (s.request mb).transport = 0 ∧ s.secretLocked [0, 2] = false ∧ (s.request mb).u 0 1 = 1 ∧
      2 ≤ (s.sesAt (s.request mb).session).privilege) ∧
    (∃ (s : State) (mb : Nat), s.starts 261 mb ∧ (s.request mb).lay 16 [] = true ∧
      ((s.request mb).u 0 16).testBit 0 = true) ∧
    (∃ (s : State) (n : Nat), (s.sesAt n).state = SessState.proving) ∧
    (∃ (s : State) (n : Nat), (s.sesAt n).state ≠ SessState.closed ∧ (∀ (m : Nat), m < 16 → (s.mbAt m).busy = false) ∧
      s.anyHalted = false) ∧
    (∃ (s : State), s.retained.alarmNs ≠ 0 ∧ s.mode.asleep = true ∧ s.mode ≠ Mode.stranded ∧
      s.retained.wakeEnable.testBit 3 = true ∧ s.power.wake.phase = WakePhase.idle ∧ s.power.wake.pending = none ∧
      s.power.resetN = true) ∧
    (∃ (s : State) (n : Nat), s.power.ret.attempts < 4 ∧ n < 4 ∧ s.power.wake.phase = WakePhase.waitPg n) ∧
    (∃ (s : State), s.power.ret.attempts < 4 ∧ s.power.wake.crystalOn = true ∧ s.power.wake.crystalReady = false) ∧
    (∃ (s : State), s.mode.firmware = true ∧ s.mode ≠ Mode.lastGasp ∧ s.power.chipReset = none ∧
      s.power.wake.phase = WakePhase.idle) ∧
    (∃ (s : State) (m : Nat), s.mode.firmware = true ∧ s.mode ≠ Mode.lastGasp ∧ s.power.chipReset = none ∧
      s.power.armed.testBit m = true ∧ s.monitorPowered m = true ∧ m ≠ 20) ∧
    (∃ (s : State), s.dbg.scanHold = true ∧ s.otp.debugLevel = 0) ∧
    (∃ (s : State), s.mode.firmware = true ∧ s.dbg.scanHold = false ∧ s.otp.debugLevel = 0) :=
  ⟨⟨{ tBase .run true false with log.loading := true }, by decide +kernel⟩,
    ⟨tOrder 3073 [] .host (tBase .run true false), 0, by unfold State.starts; decide +kernel⟩,
    ⟨tOrder 3074 [0, 0, 0, 0, 0, 0, 0, 0, 1, 0, 0, 0] .host (tBase .run true false), 0,
      by unfold State.starts; decide +kernel⟩,
    ⟨tOrder 3081 [0, 0, 0, 0] .host (tBase .run true false), 0, by unfold State.starts; decide +kernel⟩,
    ⟨tNoSession (tOrder 257 [0, 0, 0, 0, 0, 0, 0, 0] .host (tBase .run true false)), 0,
      by unfold State.starts; decide +kernel⟩,
    ⟨{ tProving (tOrder 258 (zeros 16 ++ [0xB1, 0xCA, 0x86, 0x0B, 0xC9, 0x3E, 0xE7, 0xE9, 0x8A, 0xE4, 0xBE, 0x38, 0x1A, 0xD2, 0xFB, 0xEE]) .host (tBase .run true false)) with host.datagramKey := some 5 },
      0, 5, by unfold State.starts; decide +kernel⟩,
    ⟨tOrder 259 [] .host (tBase .run true false), 0, by unfold State.starts; decide +kernel⟩,
    ⟨tOrder 260 [1, 0, 0, 0, 0, 0, 0, 0, 0, 0, 0, 0, 0, 0, 0, 0, 0, 0, 0, 0] .host (tBase .configure true false), 0,
      by unfold State.starts; decide +kernel⟩,
    ⟨tOrder 261 [1, 0, 0, 0, 0, 0, 0, 0, 0, 0, 0, 0, 0, 0, 0, 0] .host (tBase .run true false), 0,
      by unfold State.starts; decide +kernel⟩,
    ⟨{ tBase .run true false with host.sessions := [(0, { state := SessState.proving })] }, 0, by decide +kernel⟩,
    ⟨{ tBase .run true true with host.sessions := [(1, { state := .openS })] }, 1, by decide, fun m _ => rfl,
      by decide⟩,
    ⟨{ tBase .keep true false with retained.alarmNs := 1, retained.wakeEnable := 2 ^ 3, power.wake.phase := WakePhase.idle, power.wake.pending := none, power.resetN := true },
      by decide +kernel⟩,
    ⟨{ tBase .keep true false with power.wake.phase := .waitPg 0 }, 0, by decide +kernel⟩,
    ⟨{ tBase .run true false with power.wake.crystalOn := true, power.wake.crystalReady := false }, by decide +kernel⟩,
    ⟨{ tBase .run true false with power.chipReset := none, power.wake.phase := WakePhase.idle }, by decide +kernel⟩,
    ⟨{ tBase .run true false with power.chipReset := none, power.armed := 1 }, 0, by decide +kernel⟩,
    ⟨{ tBase .run true false with otp.debugLevel := 0, dbg := { scanHold := true } }, by decide +kernel⟩,
    ⟨{ tBase .run true false with otp.debugLevel := 0, dbg := { scanHold := false } }, by decide +kernel⟩⟩

end Sys2Proof.Tests
end

section
/-! PROOFS. The serial comparison of wrapping 32-bit counters (R10): `geq32` and `later32` are described once by the
difference of their operands modulo 2^32, and the statement follows from where that difference lies. -/
namespace Sys2Proof

/-- The difference R10 compares by: a − b modulo 2^32. -/
def serialDiff (a b : Nat) : Nat := (a + 2 ^ 32 - b) % 2 ^ 32

/-- For two 32-bit values only equal ones differ by 0. -/
theorem serialDiff_eq_zero_iff {a b : Nat} (ha : a < 2 ^ 32) (hb : b < 2 ^ 32) :
    serialDiff a b = 0 ↔ a = b := by
  unfold serialDiff
  omega

/-- At half the range the difference is the same in both directions. -/
theorem serialDiff_swap_of_eq_half {a b : Nat} (ha : a < 2 ^ 32) (hb : b < 2 ^ 32)
    (h : serialDiff a b = 2 ^ 31) : serialDiff b a = 2 ^ 31 := by
  unfold serialDiff at h ⊢
  omega

/-- `geq32` reads the difference alone: it lies in the lower half of the range. -/
theorem geq32_iff_serialDiff_lt (a : Nat) {b : Nat} (hb : b < 2 ^ 32) :
    geq32 a b = true ↔ serialDiff a b < 2 ^ 31 := by
  simp only [geq32, serialDiff, Nat.mod_eq_of_lt hb, decide_eq_true_eq]

/-- `later32` is `geq32` without equality. -/
theorem later32_iff_geq32_and_ne {a b : Nat} (ha : a < 2 ^ 32) (hb : b < 2 ^ 32) :
    later32 a b = true ↔ geq32 a b = true ∧ a ≠ b := by
  simp only [later32, Bool.and_eq_true, decide_eq_true_eq, Nat.mod_eq_of_lt ha, Nat.mod_eq_of_lt hb]

/-- R10's range of differences, 1 to 2^31 − 1: not 0, because the values are not equal. -/
theorem later32_iff_serialDiff_range {a b : Nat} (ha : a < 2 ^ 32) (hb : b < 2 ^ 32) :
    later32 a b = true ↔ 1 ≤ serialDiff a b ∧ serialDiff a b ≤ 2 ^ 31 - 1 := by
  rw [later32_iff_geq32_and_ne ha hb, geq32_iff_serialDiff_lt a hb, ne_eq, ← serialDiff_eq_zero_iff ha hb]
  omega

/-- Equal values meet `geq32`, so it is `later32` or equality. -/
theorem geq32_iff_later32_or_eq {a b : Nat} (ha : a < 2 ^ 32) (hb : b < 2 ^ 32) :
    geq32 a b = true ↔ later32 a b = true ∨ a = b := by
  rw [later32_iff_serialDiff_range ha hb, geq32_iff_serialDiff_lt a hb, ← serialDiff_eq_zero_iff ha hb]
  omega

/-- A difference of half the range lies just above R10's range, so it makes nothing later. -/
theorem later32_eq_false_of_serialDiff_eq_half {a b : Nat} (ha : a < 2 ^ 32) (hb : b < 2 ^ 32)
    (h : serialDiff a b = 2 ^ 31) : later32 a b = false := by
  rw [← Bool.not_eq_true, later32_iff_serialDiff_range ha hb, h]
  omega

/-- Settles O54: each clause is the matching fact about the difference modulo 2^32. -/
theorem serialComparison : Obligations.SerialComparison := by
  intro a b ha hb
  refine ⟨later32_iff_serialDiff_range ha hb, geq32_iff_later32_or_eq ha hb, (serialDiff_eq_zero_iff ha hb).symm,
    fun hhalf => ⟨?_, ?_⟩⟩
  · exact later32_eq_false_of_serialDiff_eq_half ha hb hhalf
  · exact later32_eq_false_of_serialDiff_eq_half hb ha (serialDiff_swap_of_eq_half ha hb hhalf)

end Sys2Proof
end

section
/-! PROOFS. What every command keeps (log entry 6): each row answers a next state and leaves the queue alone, the byte
memories stay canonical and no channel's gates come to be high together. Its footprint lemma in Laws/ says so for each
row; here they are collected over the table of commands, and a step is one row of it. -/
namespace Sys2Proof.Machine

/-- A footprint widened to every part but the queue. -/
theorem Within.butQueue {l : Nat} {s : State} {o : Host.Outcome State Fault Refusal} (h : Within l s o)
    (hl : Part.within l 0x7FFFFFFF = true := by rfl) : Within 0x7FFFFFFF s o :=
  let ⟨t, ht, hf⟩ := h
  ⟨t, ht, hf.mono hl⟩

/-- The table of commands: each stays within the parts beside the queue, by its row's footprint. -/
theorem exec_within (s : State) : ∀ c : Instr, Within 0x7FFFFFFF s (exec c s)
  | .write _ _ => (execWrite_foot ..).butQueue
  | .read _ _ => (execRead_foot ..).butQueue
  | .quietRead _ _ => (execQuietRead_foot ..).butQueue
  | .status => (execStatus_foot ..).butQueue
  | .unknownCommand _ => (execUnknownCommand_foot ..).butQueue
  | .mbDoorbell _ => (execMbDoorbell_foot ..).butQueue
  | .mbDone _ => (execMbDone_foot ..).butQueue
  | .irqStatusClear _ => (execIrqStatusClear_foot ..).butQueue
  | .resetCauseClear _ => (execResetCauseClear_foot ..).butQueue
  | .cursorLo _ => (execCursorLo_foot ..).butQueue
  | .cursorHi _ => (execCursorHi_foot ..).butQueue
  | .loadComplete => (execLoadComplete_foot ..).butQueue
  | .next => (execNext_foot ..).butQueue
  | .readCursorWrite _ => (execReadCursorWrite_foot ..).butQueue
  | .registerWrite _ _ => (execRegisterWrite_foot ..).butQueue
  | .sessionOpen _ => (execSessionOpen_foot ..).butQueue
  | .sessionProve _ => (execSessionProve_foot ..).butQueue
  | .sessionClose _ => (execSessionClose_foot ..).butQueue
  | .sessionKeyinstall _ => (execSessionKeyinstall_foot ..).butQueue
  | .featOffer _ => (execFeatOffer_foot ..).butQueue
  | .modeGet _ => (execModeGet_foot ..).butQueue
  | .modeSet _ => (execModeSet_foot ..).butQueue
  | .objGet _ => (execObjGet_foot ..).butQueue
  | .objSet _ => (execObjSet_foot ..).butQueue
  | .objBegin _ => (execObjBegin_foot ..).butQueue
  | .objValidate _ => (execObjValidate_foot ..).butQueue
  | .objCommit _ => (execObjCommit_foot ..).butQueue
  | .objAbort _ => (execObjAbort_foot ..).butQueue
  | .objLoad _ => (execObjLoad_foot ..).butQueue
  | .objExport _ => (execObjExport_foot ..).butQueue
  | .chanUnlock _ => (execChanUnlock_foot ..).butQueue
  | .chanIdent _ => (execChanIdent_foot ..).butQueue
  | .chanIdresult _ => (execChanIdresult_foot ..).butQueue
  | .chanApply _ => (execChanApply_foot ..).butQueue
  | .chanIdabort _ => (execChanIdabort_foot ..).butQueue
  | .chanStart _ => (execChanStart_foot ..).butQueue
  | .chanStop _ => (execChanStop_foot ..).butQueue
  | .chanClear _ => (execChanClear_foot ..).butQueue
  | .chanSeqstatus _ => (execChanSeqstatus_foot ..).butQueue
  | .chanScanread _ => (execChanScanread_foot ..).butQueue
  | .traceSetup _ => (execTraceSetup_foot ..).butQueue
  | .traceArm _ => (execTraceArm_foot ..).butQueue
  | .traceTrigger _ => (execTraceTrigger_foot ..).butQueue
  | .traceStatus _ => (execTraceStatus_foot ..).butQueue
  | .traceRead _ => (execTraceRead_foot ..).butQueue
  | .traceCapsule _ => (execTraceCapsule_foot ..).butQueue
  | .budgetStatus _ => (execBudgetStatus_foot ..).butQueue
  | .budgetShed _ => (execBudgetShed_foot ..).butQueue
  | .budgetRestore _ => (execBudgetRestore_foot ..).butQueue
  | .rectStatus _ => (execRectStatus_foot ..).butQueue
  | .rectWithdraw _ => (execRectWithdraw_foot ..).butQueue
  | .rectRotate _ => (execRectRotate_foot ..).butQueue
  | .rectForget _ => (execRectForget_foot ..).butQueue
  | .tideStatus _ => (execTideStatus_foot ..).butQueue
  | .tideNodes _ => (execTideNodes_foot ..).butQueue
  | .tideRootinstall _ => (execTideRootinstall_foot ..).butQueue
  | .tideEvict _ => (execTideEvict_foot ..).butQueue
  | .gaugeStatus _ => (execGaugeStatus_foot ..).butQueue
  | .gaugeProbe _ => (execGaugeProbe_foot ..).butQueue
  | .gaugeProberesult _ => (execGaugeProberesult_foot ..).butQueue
  | .gaugeAbort _ => (execGaugeAbort_foot ..).butQueue
  | .gaugeWake _ => (execGaugeWake_foot ..).butQueue
  | .gaugeReseed _ => (execGaugeReseed_foot ..).butQueue
  | .sluiceStatus _ => (execSluiceStatus_foot ..).butQueue
  | .sluiceYield _ => (execSluiceYield_foot ..).butQueue
  | .sluiceWithdraw _ => (execSluiceWithdraw_foot ..).butQueue
  | .sluiceResume _ => (execSluiceResume_foot ..).butQueue
  | .sluiceCompare _ => (execSluiceCompare_foot ..).butQueue
  | .ledgerStatus _ => (execLedgerStatus_foot ..).butQueue
  | .ledgerRead _ => (execLedgerRead_foot ..).butQueue
  | .fabricStatus _ => (execFabricStatus_foot ..).butQueue
  | .ledgerSubscribe _ => (execLedgerSubscribe_foot ..).butQueue
  | .ledgerUnsubscribe _ => (execLedgerUnsubscribe_foot ..).butQueue
  | .logStatus _ => (execLogStatus_foot ..).butQueue
  | .logRead _ => (execLogRead_foot ..).butQueue
  | .logVerify _ => (execLogVerify_foot ..).butQueue
  | .logNote _ => (execLogNote_foot ..).butQueue
  | .logClear _ => (execLogClear_foot ..).butQueue
  | .logFormat _ => (execLogFormat_foot ..).butQueue
  | .logSubscribe _ => (execLogSubscribe_foot ..).butQueue
  | .logUnsubscribe _ => (execLogUnsubscribe_foot ..).butQueue
  | .logCapsules _ => (execLogCapsules_foot ..).butQueue
  | .faultStatus _ => (execFaultStatus_foot ..).butQueue
  | .faultRead _ => (execFaultRead_foot ..).butQueue
  | .faultAck _ => (execFaultAck_foot ..).butQueue
  | .faultEcc _ => (execFaultEcc_foot ..).butQueue
  | .faultClearcount _ => (execFaultClearcount_foot ..).butQueue
  | .twStatus _ => (execTwStatus_foot ..).butQueue
  | .twTransfer _ => (execTwTransfer_foot ..).butQueue
  | .otpRead _ => (execOtpRead_foot ..).butQueue
  | .otpProgram _ => (execOtpProgram_foot ..).butQueue
  | .otpLifecycle _ => (execOtpLifecycle_foot ..).butQueue
  | .fwStatus _ => (execFwStatus_foot ..).butQueue
  | .fwWrite _ => (execFwWrite_foot ..).butQueue
  | .fwCommit _ => (execFwCommit_foot ..).butQueue
  | .timeGet _ => (execTimeGet_foot ..).butQueue
  | .timeSet _ => (execTimeSet_foot ..).butQueue
  | .svcReset _ => (execSvcReset_foot ..).butQueue
  | .svcBlockreset _ => (execSvcBlockreset_foot ..).butQueue
  | .svcResetStart _ => (execSvcResetStart_foot ..).butQueue
  | .mailboxDatagram _ _ => (execMailboxDatagram_foot ..).butQueue
  | .neighborSolicitation _ _ => (execNeighborSolicitation_foot ..).butQueue
  | .echoRequest _ _ => (execEchoRequest_foot ..).butQueue
  | .ethLinkUp _ => (execEthLinkUp_foot ..).butQueue
  | .ethLinkDown _ => (execEthLinkDown_foot ..).butQueue
  | .ptpAnnounce _ => (execPtpAnnounce_foot ..).butQueue
  | .ptpSync _ _ _ _ => (execPtpSync_foot ..).butQueue
  | .ptpDelayResp _ _ => (execPtpDelayResp_foot ..).butQueue
  | .delayReqTimer _ => (execDelayReqTimer_foot ..).butQueue
  | .ptpHoldover => (execPtpHoldover_foot ..).butQueue
  | .holdoverExpiry => (execHoldoverExpiry_foot ..).butQueue
  | .vaonRise => (execVaonRise_foot ..).butQueue
  | .vaonReset => (execVaonReset_foot ..).butQueue
  | .wakeNLow => (execWakeNLow_foot ..).butQueue
  | .pbNPress _ _ => (execPbNPress_foot ..).butQueue
  | .pbNRelease _ => (execPbNRelease_foot ..).butQueue
  | .longPress => (execLongPress_foot ..).butQueue
  | .longPressForceOff => (execLongPressForceOff_foot ..).butQueue
  | .longPressPowerDown _ => (execLongPressPowerDown_foot ..).butQueue
  | .rtcAlarm => (execRtcAlarm_foot ..).butQueue
  | .inuvRecover => (execInuvRecover_foot ..).butQueue
  | .gaugeComparatorWake _ _ => (execGaugeComparatorWake_foot ..).butQueue
  | .pgGood _ _ => (execPgGood_foot ..).butQueue
  | .pgTimeout _ _ => (execPgTimeout_foot ..).butQueue
  | .crystalReady => (execCrystalReady_foot ..).butQueue
  | .crystalTimeout _ => (execCrystalTimeout_foot ..).butQueue
  | .domainSwitchOn => (execDomainSwitchOn_foot ..).butQueue
  | .internalResetRelease _ => (execInternalResetRelease_foot ..).butQueue
  | .wakeRetry => (execWakeRetry_foot ..).butQueue
  | .pgLost _ => (execPgLost_foot ..).butQueue
  | .resetNLow => (execResetNLow_foot ..).butQueue
  | .resetNRelease => (execResetNRelease_foot ..).butQueue
  | .orderlyResetProceed _ => (execOrderlyResetProceed_foot ..).butQueue
  | .chipResetWake => (execChipResetWake_foot ..).butQueue
  | .watchdogExpiry => (execWatchdogExpiry_foot ..).butQueue
  | .inuvTrip _ _ => (execInuvTrip_foot ..).butQueue
  | .lastGaspRampEnd => (execLastGaspRampEnd_foot ..).butQueue
  | .lastGaspComplete _ => (execLastGaspComplete_foot ..).butQueue
  | .supplyWarning _ _ => (execSupplyWarning_foot ..).butQueue
  | .braceEnd _ => (execBraceEnd_foot ..).butQueue
  | .supplyReset _ => (execSupplyReset_foot ..).butQueue
  | .monitorArm _ => (execMonitorArm_foot ..).butQueue
  | .referenceCrystalLoss => (execReferenceCrystalLoss_foot ..).butQueue
  | .holdoverTimeout => (execHoldoverTimeout_foot ..).butQueue
  | .rtcCrystalLoss => (execRtcCrystalLoss_foot ..).butQueue
  | .pllLossOfLock _ => (execPllLossOfLock_foot ..).butQueue
  | .rcOutOfRange _ => (execRcOutOfRange_foot ..).butQueue
  | .otpSenseComplete => (execOtpSenseComplete_foot ..).butQueue
  | .memoryInitComplete => (execMemoryInitComplete_foot ..).butQueue
  | .flashResetDone _ _ _ => (execFlashResetDone_foot ..).butQueue
  | .imageChecked _ _ _ => (execImageChecked_foot ..).butQueue
  | .imageStart => (execImageStart_foot ..).butQueue
  | .bootRomUncorrectable _ => (execBootRomUncorrectable_foot ..).butQueue
  | .mount _ _ _ => (execMount_foot ..).butQueue
  | .configureEntry _ => (execConfigureEntry_foot ..).butQueue
  | .tideBoundary _ _ _ _ _ _ => (execTideBoundary_foot ..).butQueue
  | .wardenHeartbeatMissed => (execWardenHeartbeatMissed_foot ..).butQueue
  | .contribution _ _ _ => (execContribution_foot ..).butQueue
  | .sealDeadline => (execSealDeadline_foot ..).butQueue
  | .beaconCycleStart _ _ _ _ _ _ => (execBeaconCycleStart_foot ..).butQueue
  | .mirrorStrobe _ => (execMirrorStrobe_foot ..).butQueue
  | .loopEvaluation _ _ _ _ _ _ => (execLoopEvaluation_foot ..).butQueue
  | .periodStart _ _ _ => (execPeriodStart_foot ..).butQueue
  | .currentCut _ _ => (execCurrentCut_foot ..).butQueue
  | .sinkLimit _ _ _ => (execSinkLimit_foot ..).butQueue
  | .overshoot _ _ => (execOvershoot_foot ..).butQueue
  | .brakeRelease _ _ _ => (execBrakeRelease_foot ..).butQueue
  | .brakeTimeout _ _ => (execBrakeTimeout_foot ..).butQueue
  | .ovTrip _ => (execOvTrip_foot ..).butQueue
  | .fltN _ _ => (execFltN_foot ..).butQueue
  | .ocpPersist _ => (execOcpPersist_foot ..).butQueue
  | .freeboardAccumulation _ => (execFreeboardAccumulation_foot ..).butQueue
  | .startDelayExpiry _ _ => (execStartDelayExpiry_foot ..).butQueue
  | .hsTestTrip _ => (execHsTestTrip_foot ..).butQueue
  | .hsTestEnd _ _ => (execHsTestEnd_foot ..).butQueue
  | .riseDeadlineExpiry _ => (execRiseDeadlineExpiry_foot ..).butQueue
  | .scannerSlot _ => (execScannerSlot_foot ..).butQueue
  | .scannerShutdown _ => (execScannerShutdown_foot ..).butQueue
  | .temperatureLevel _ _ => (execTemperatureLevel_foot ..).butQueue
  | .scannerSelfCheck _ => (execScannerSelfCheck_foot ..).butQueue
  | .restartClearance _ _ => (execRestartClearance_foot ..).butQueue
  | .triesRestore _ => (execTriesRestore_foot ..).butQueue
  | .identSchedule _ => (execIdentSchedule_foot ..).butQueue
  | .identRunEnd _ => (execIdentRunEnd_foot ..).butQueue
  | .captureFrozen _ => (execCaptureFrozen_foot ..).butQueue
  | .crossTrigger _ _ => (execCrossTrigger_foot ..).butQueue
  | .holdSExpiry _ => (execHoldSExpiry_foot ..).butQueue
  | .capsulePending _ => (execCapsulePending_foot ..).butQueue
  | .capsuleStage _ => (execCapsuleStage_foot ..).butQueue
  | .recordStage => (execRecordStage_foot ..).butQueue
  | .burstComplete _ => (execBurstComplete_foot ..).butQueue
  | .unflushedTimeout => (execUnflushedTimeout_foot ..).butQueue
  | .faultEvent _ _ _ => (execFaultEvent_foot ..).butQueue
  | .blockResetRelease _ _ => (execBlockResetRelease_foot ..).butQueue
  | .scrubTick _ => (execScrubTick_foot ..).butQueue
  | .mergeCommit _ _ => (execMergeCommit_foot ..).butQueue
  | .semaphoreTimeout _ _ => (execSemaphoreTimeout_foot ..).butQueue
  | .sessionIdleExpiry _ => (execSessionIdleExpiry_foot ..).butQueue
  | .proofTimeout _ => (execProofTimeout_foot ..).butQueue
  | .keyLockoutEnd _ => (execKeyLockoutEnd_foot ..).butQueue
  | .gaugeCycle => (execGaugeCycle_foot ..).butQueue
  | .hibernationEntry _ => (execHibernationEntry_foot ..).butQueue
  | .stringInsertion _ => (execStringInsertion_foot ..).butQueue
  | .stringRemoval _ => (execStringRemoval_foot ..).butQueue
  | .probeSchedule => (execProbeSchedule_foot ..).butQueue
  | .probeFrequencyEnd => (execProbeFrequencyEnd_foot ..).butQueue
  | .runtimePrediction => (execRuntimePrediction_foot ..).butQueue
  | .deficitShed => (execDeficitShed_foot ..).butQueue
  | .deficitClear => (execDeficitClear_foot ..).butQueue
  | .runtimeCauseClear => (execRuntimeCauseClear_foot ..).butQueue
  | .park => (execPark_foot ..).butQueue
  | .rotation => (execRotation_foot ..).butQueue
  | .unparkTimeout _ => (execUnparkTimeout_foot ..).butQueue
  | .stagingRecord => (execStagingRecord_foot ..).butQueue
  | .twWindow _ _ => (execTwWindow_foot ..).butQueue
  | .twTransactionEnd _ _ _ _ => (execTwTransactionEnd_foot ..).butQueue
  | .smbusTimeout _ => (execSmbusTimeout_foot ..).butQueue
  | .arbitrationLost _ _ _ => (execArbitrationLost_foot ..).butQueue
  | .alertResponse _ => (execAlertResponse_foot ..).butQueue
  | .targetStatus _ _ => (execTargetStatus_foot ..).butQueue
  | .ident _ _ => (execIdent_foot ..).butQueue
  | .resetCause _ => (execResetCause_foot ..).butQueue
  | .retention _ => (execRetention_foot ..).butQueue
  | .wakeEnable _ => (execWakeEnable_foot ..).butQueue
  | .wake _ _ => (execWake_foot ..).butQueue
  | .live _ _ => (execLive_foot ..).butQueue
  | .mbOffset _ _ => (execMbOffset_foot ..).butQueue
  | .mbWrite _ _ => (execMbWrite_foot ..).butQueue
  | .mbGo _ _ => (execMbGo_foot ..).butQueue
  | .mbState _ => (execMbState_foot ..).butQueue
  | .mbRead _ => (execMbRead_foot ..).butQueue
  | .mbRelease _ _ => (execMbRelease_foot ..).butQueue
  | .responderWake => (execResponderWake_foot ..).butQueue
  | .responderSleep => (execResponderSleep_foot ..).butQueue
  | .slotFrame _ _ _ => (execSlotFrame_foot ..).butQueue
  | .joinReq _ => (execJoinReq_foot ..).butQueue
  | .joinVoid _ => (execJoinVoid_foot ..).butQueue
  | .tidelineEvent _ => (execTidelineEvent_foot ..).butQueue
  | .commonAlarm _ => (execCommonAlarm_foot ..).butQueue
  | .nodeAlarm _ => (execNodeAlarm_foot ..).butQueue
  | .strangerClear => (execStrangerClear_foot ..).butQueue
  | .lostSleeper _ => (execLostSleeper_foot ..).butQueue
  | .wideBeaconEnd => (execWideBeaconEnd_foot ..).butQueue
  | .sleeperFree _ => (execSleeperFree_foot ..).butQueue
  | .controllerQuietEnd => (execControllerQuietEnd_foot ..).butQueue
  | .partnerHello _ _ _ _ => (execPartnerHello_foot ..).butQueue
  | .helloTimer => (execHelloTimer_foot ..).butQueue
  | .mirror _ => (execMirror_foot ..).butQueue
  | .partnerSummary _ => (execPartnerSummary_foot ..).butQueue
  | .super _ _ => (execSuper_foot ..).butQueue
  | .handover _ => (execHandover_foot ..).butQueue
  | .challenge _ => (execChallenge_foot ..).butQueue
  | .result _ => (execResult_foot ..).butQueue
  | .challengeTimeout => (execChallengeTimeout_foot ..).butQueue
  | .knownAnswerTest _ _ => (execKnownAnswerTest_foot ..).butQueue
  | .selfTestTimer => (execSelfTestTimer_foot ..).butQueue
  | .partnerEvent _ => (execPartnerEvent_foot ..).butQueue
  | .desc _ => (execDesc_foot ..).butQueue
  | .ack _ => (execAck_foot ..).butQueue
  | .commitAckTimeout => (execCommitAckTimeout_foot ..).butQueue
  | .idstart _ => (execIdstart_foot ..).butQueue
  | .snapshotFrame _ => (execSnapshotFrame_foot ..).butQueue
  | .allowanceRelay _ => (execAllowanceRelay_foot ..).butQueue
  | .partnerLaneUp _ => (execPartnerLaneUp_foot ..).butQueue
  | .partnerLaneDown _ => (execPartnerLaneDown_foot ..).butQueue
  | .peerPresence _ => (execPeerPresence_foot ..).butQueue
  | .claimRaise _ => (execClaimRaise_foot ..).butQueue
  | .claimSample _ => (execClaimSample_foot ..).butQueue
  | .claimBackoffEnd _ => (execClaimBackoffEnd_foot ..).butQueue
  | .claimTimeout => (execClaimTimeout_foot ..).butQueue
  | .sluicePeerFall _ => (execSluicePeerFall_foot ..).butQueue
  | .tokenConflict => (execTokenConflict_foot ..).butQueue
  | .overlapCutoff => (execOverlapCutoff_foot ..).butQueue
  | .fabricHello _ _ _ => (execFabricHello_foot ..).butQueue
  | .fabricHelloTimer _ => (execFabricHelloTimer_foot ..).butQueue
  | .fabricLaneDown _ => (execFabricLaneDown_foot ..).butQueue
  | .syncSend _ => (execSyncSend_foot ..).butQueue
  | .sync _ _ _ _ => (execSync_foot ..).butQueue
  | .delayReq _ _ _ => (execDelayReq_foot ..).butQueue
  | .delayResp _ _ => (execDelayResp_foot ..).butQueue
  | .rootElection => (execRootElection_foot ..).butQueue
  | .recordOriginate => (execRecordOriginate_foot ..).butQueue
  | .fabricSummary _ _ => (execFabricSummary_foot ..).butQueue
  | .full _ _ => (execFull_foot ..).butQueue
  | .rowSumStage => (execRowSumStage_foot ..).butQueue
  | .rowsum _ _ => (execRowsum_foot ..).butQueue
  | .rootAllocate => (execRootAllocate_foot ..).butQueue
  | .rowalloc _ _ => (execRowalloc_foot ..).butQueue
  | .rowAllocate => (execRowAllocate_foot ..).butQueue
  | .memalloc _ _ => (execMemalloc_foot ..).butQueue
  | .allowanceHold => (execAllowanceHold_foot ..).butQueue
  | .fabricSeal _ => (execFabricSeal_foot ..).butQueue
  | .tapReset => (execTapReset_foot ..).butQueue
  | .bypass _ => (execBypass_foot ..).butQueue
  | .idcode => (execIdcode_foot ..).butQueue
  | .samplePreload _ => (execSamplePreload_foot ..).butQueue
  | .extest => (execExtest_foot ..).butQueue
  | .intest => (execIntest_foot ..).butQueue
  | .clamp => (execClamp_foot ..).butQueue
  | .highz => (execHighz_foot ..).butQueue
  | .extestPulse => (execExtestPulse_foot ..).butQueue
  | .extestTrain => (execExtestTrain_foot ..).butQueue
  | .dapacc _ => (execDapacc_foot ..).butQueue
  | .dapRead _ _ => (execDapRead_foot ..).butQueue
  | .dapQuietRead _ _ => (execDapQuietRead_foot ..).butQueue
  | .dapWrite _ _ _ => (execDapWrite_foot ..).butQueue
  | .haltRequest _ => (execHaltRequest_foot ..).butQueue
  | .haltRelease _ => (execHaltRelease_foot ..).butQueue
  | .dbgenFall => (execDbgenFall_foot ..).butQueue
  | .referenceCrystalRestored => (execReferenceCrystalRestored_foot ..).butQueue
  | .rtcCrystalRestored => (execRtcCrystalRestored_foot ..).butQueue
  | .ptpFollowUp _ _ => (execPtpFollowUp_foot ..).butQueue
  | .externalWriteComplete _ _ _ _ => (execExternalWriteComplete_foot ..).butQueue
  | .externalWriteTimeout _ => (execExternalWriteTimeout_foot ..).butQueue
  | .responderReady => (execResponderReady_foot ..).butQueue
  | .duplicateAddressDetectionEnd _ _ => (execDuplicateAddressDetectionEnd_foot ..).butQueue

/-- A command that answers `t` keeps what every run keeps. -/
theorem exec_sound {c : Instr} {s t : State} (h : exec c s = .next t) : Sound s t := by
  obtain ⟨u, hu, -, hsound⟩ := exec_within s c
  rw [hu] at h
  cases h
  exact hsound

/-- So does a step: it idles, or its command runs on the state without it in the queue. -/
theorem step_sound {s t : State} (h : step s = .next t) : Sound s t := by
  unfold step at h
  split at h
  · cases h
    exact .rfl
  · next i rest _ =>
    have hqueue : Sound s { s with pending := rest } := ⟨id, id⟩
    exact hqueue.trans (exec_sound h)

end Sys2Proof.Machine
end

section
/-! PROOFS. The gates of a channel (R172 to R174): the on-time that the dead times leave, the waveform that a period
start gives a Rail channel, and the invariant that no waveform has both gates high. -/
namespace Sys2Proof.Machine

/-- A pulse that does not fit with its dead times is shortened to what they leave. -/
theorem onTimeLimited_of_lt {d p r f : Nat} (h : p < r + onTime d p + f) : onTimeLimited d p r f = p - r - f :=
  if_pos h

/-- A pulse that fits keeps the on-time of its duty word. -/
theorem onTimeLimited_of_le {d p r f : Nat} (h : r + onTime d p + f ≤ p) : onTimeLimited d p r f = onTime d p :=
  if_neg (Nat.not_lt.mpr h)

/-- What a period start does before it lays out the waveform: the channel's carry-over, its late samples dropped. -/
def State.periodCarried (s : State) (ch : Nat) (late : Bool) : State :=
  (s.setChan ch (Chan.nextPeriod late (periodStart (s.chPhase ch) (s.chPeriod ch) (s.chanAt ch).periods))).dropReady ch

/-- PERIOD_START of a running channel: the carry-over, the waveform, the sample instant. -/
theorem exec_periodStart_of_runs {s : State} {ch : Nat} (above late : Bool) (hc : ch < 128)
    (hm : s.mode.firmware = true) (hr : s.chanRuns ch = true) :
    exec (.periodStart ch above late) s = .next (((s.periodCarried ch late).beginPeriod ch above).placeSample ch) := by
  change execPeriodStart ch above s late = _
  simp only [execPeriodStart, hm, hc, hr, decide_true, Bool.and_self, if_true, State.periodCarried]

/-- The channel itself after the carry-over. -/
theorem State.periodCarried_chanAt (s : State) (ch : Nat) (late : Bool) :
    (s.periodCarried ch late).chanAt ch =
      Chan.nextPeriod late (periodStart (s.chPhase ch) (s.chPeriod ch) (s.chanAt ch).periods) (s.chanAt ch) :=
  (s.chanAt_setChan ch _ ch).trans (if_pos rfl)

/-- A channel that neither brakes nor skips takes the waveform of its working duty word. -/
theorem State.beginPeriod_drive {s : State} {ch : Nat} (above : Bool) (hb : (s.chanAt ch).braking = false)
    (hf : s.feeder ch = false) :
    ((s.beginPeriod ch above).chanAt ch).drive =
      periodDrive (onTimeLimited (s.chanAt ch).working (s.chPeriod ch) (s.chDtRise ch) (s.chDtFall ch))
        (s.chDtRise ch) (s.chDtFall ch) := by
  simp [State.beginPeriod, State.gates, hb, hf]

/-- Placing the sample leaves the waveforms alone. -/
theorem State.placeSample_drive (s : State) (ch c : Nat) :
    ((s.placeSample ch).chanAt c).drive = (s.chanAt c).drive := by
  rw [State.placeSample, State.chanAt_setChan]
  split
  · next h => rw [h]
  · rfl

/-- With T_ON 0 a running Rail channel that does not brake keeps PWML high throughout the period (R174). -/
theorem exec_periodStart_lowOn {s : State} {ch : Nat} (hc : ch < 128) (hm : s.mode.firmware = true)
    (hr : s.chanRuns ch = true) (hf : s.feeder ch = false) (hb : (s.chanAt ch).braking = false)
    (h0 : onTimeLimited (s.chanAt ch).shadow (s.chPeriod ch) (s.chDtRise ch) (s.chDtFall ch) = 0) :
    ∃ t, exec (.periodStart ch false false) s = .next t ∧ (t.chanAt ch).drive = .lowOn := by
  refine ⟨_, exec_periodStart_of_runs false false hc hm hr, ?_⟩
  have hb' : ((s.periodCarried ch false).chanAt ch).braking = false := by
    rw [State.periodCarried_chanAt]
    exact hb
  have hw : ((s.periodCarried ch false).chanAt ch).working = (s.chanAt ch).shadow := by
    rw [State.periodCarried_chanAt]
    rfl
  have hf' : (s.periodCarried ch false).feeder ch = false := hf
  rw [State.placeSample_drive, State.beginPeriod_drive false hb' hf', hw]
  change periodDrive (onTimeLimited (s.chanAt ch).shadow (s.chPeriod ch) (s.chDtRise ch) (s.chDtFall ch)) _ _ = _
  rw [h0]
  rfl

/-- The invariant of R174, in the words of the statement. -/
theorem chansApart_iff (s : State) :
    chansApart s.chan ↔ ∀ ch n, ¬((s.chanAt ch).drive.high n = true ∧ (s.chanAt ch).drive.low n = true) := by
  simp only [chansApart, Drive.Apart, State.chanAt, ← Bool.and_eq_true, Bool.not_eq_true]

/-- Every step keeps the gates of every channel apart. -/
theorem kept_chansApart : Kept fun s => chansApart s.chan := fun _ _ h hs => (step_sound hs).gates h

end Sys2Proof.Machine

namespace Sys2Proof
open Machine

/-- Settles O53: the two cases of the dead times' limit, the waveform of T_ON 0, and the step invariant that the
footprints of all rows carry. -/
theorem gatesNeverBothHigh : Obligations.GatesNeverBothHigh := by
  refine ⟨fun _ _ _ _ => onTimeLimited_of_lt, fun _ _ _ _ => onTimeLimited_of_le, ?_, ?_⟩
  · intro s ch hc hm _ hr hf hb h0
    obtain ⟨t, ht, hd⟩ := exec_periodStart_lowOn hc hm hr hf hb h0
    exact ⟨t, ht, fun n => by rw [hd]; exact ⟨rfl, rfl⟩⟩
  · simpa only [chansApart_iff] using kept_chansApart

end Sys2Proof
end

section
/-! PROOFS. The current comparator (R180): the code that an evaluation writes, and a state in which the limit in force
moves within the evaluation. An evaluation of a lead refreshes the reference code of its phases (R165) before it writes the
comparator; where that code clips for the first time it raises event 10 of the channel, whose reactions act at once (R480).
BLOCK_RESET of the quadrant stops the output, and one that a commit had disabled (R147) leaves the enabled ones with its
stop: its cap (R286) is then no limit of the channel any more. -/
namespace Sys2Proof.Machine

/-- What every turn of a fold keeps, the fold keeps. -/
theorem State.each_keeps {α : Type} (g : State → α) {f : State → Nat → State} (hf : ∀ s k, g (f s k) = g s)
    (l : List Nat) (s : State) : g (s.each l f) = g s := by
  induction l generalizing s with
  | nil => rfl
  | cons k l ih => exact (ih (f s k)).trans (hf s k)

/-- A channel that goes low keeps its comparators' codes. -/
theorem Chan.lowUnlessLocked_thr (st : ChState) (c : Chan) : (c.lowUnlessLocked st).thr = c.thr := by
  unfold Chan.lowUnlessLocked
  split <;> rfl

/-- A phase that goes low keeps every current comparator: only its trip level is restored. -/
theorem State.lowPhase_thrCurrent (s : State) (k : Nat) (st : ChState) (c ch : Nat) :
    ((s.lowPhase k st c).chanAt ch).thr.current = (s.chanAt ch).thr.current := by
  simp only [State.lowPhase, State.setTrip, State.chanAt_setChan]
  by_cases h : ch = c
  · simp only [h, if_true, Chan.lowUnlessLocked_thr]
  · simp only [h, if_false]

/-- So does an output whose phases go low. -/
theorem State.lowOutput_thrCurrent (s : State) (k : Nat) (st : ChState) (ch : Nat) :
    ((s.lowOutput k st).chanAt ch).thr.current = (s.chanAt ch).thr.current :=
  State.each_keeps (fun s => (s.chanAt ch).thr.current) (fun s c => s.lowPhase_thrCurrent k st c ch) (s.phases k) s

/-- The sequencer's own transitions touch no channel. -/
theorem State.settle_chan (s : State) : s.settle.chan = s.chan := (State.settle_foot s).1 .chan rfl

/-- Answering an order touches no channel. -/
theorem State.finish_chan (s : State) (n : Nat) (st : Status) (payload : Bytes) :
    (s.finish n st payload).chan = s.chan := (State.finish_foot s n st payload).1 .chan rfl

/-- A gauge checkpoint touches no channel. -/
theorem State.checkpoint_chan (s : State) (reason : Nat) : (s.checkpoint reason).chan = s.chan :=
  (State.checkpoint_foot s reason).1 .chan rfl

/-- A shutdown that goes on touches no channel, or it powers the chip down and the description is lost with it. -/
theorem State.advanceShutdown_chan_or_undescribed (s : State) :
    s.advanceShutdown.chan = s.chan ∨ s.advanceShutdown.desc.committed = [] := by
  unfold State.advanceShutdown
  split
  · exact .inl rfl
  · next d _ =>
    by_cases hhalted : s.anyHalted = true
    · rw [if_pos hhalted]
      exact .inl rfl
    rw [if_neg hhalted]
    by_cases hfirst : (!d.recorded) = true
    · rw [if_pos hfirst]
      split
      · exact .inl rfl
      · dsimp only
        split
        · exact .inl ((State.finish_chan _ _ _ _).trans (s.checkpoint_chan 2))
        · exact .inl (s.checkpoint_chan 2)
    · rw [if_neg hfirst]
      split
      · exact .inr rfl
      · exact .inl rfl

/-- The arrival of a profile leaves every current comparator as it is, unless the chip powers down with it. -/
theorem State.profileArrival_thrCurrent {s : State} {k : Nat} (ch : Nat)
    (h : (s.profileArrival k).desc.committed ≠ []) :
    ((s.profileArrival k).chanAt ch).thr.current = (s.chanAt ch).thr.current := by
  unfold State.profileArrival at h ⊢
  dsimp only at h ⊢
  split
  · next harrived =>
    rw [if_pos harrived] at h
    rw [State.chanAt, (State.advanceShutdown_chan_or_undescribed _).resolve_right h, State.settle_chan]
    split
    · exact State.lowOutput_thrCurrent s k _ ch
    · exact State.lowOutput_thrCurrent s k _ ch
  · rfl

/-- The current comparator code that R180 asks of an evaluation of `ch` that begins in `s`. -/
def State.codeInForce (s : State) (ch : Nat) : Nat :=
  min 1023 ((s.currentLimit ch * s.chIsTransr ch * 64 + 4687500) / 9375000)

/-- Output 0 of channel 0, OCP_LIMIT 1,000 mA, in Run under a cap of 500 mA: disabled by a commit while driven, its ordered
stop waits at a set-point of 1.3 V. At that set-point the reference code of channel 0 clips, and the reactions of its
fault source are LOG and BLOCK_RESET. -/
def stopsInEvaluation : State :=
  { ({} : State) with
    power.mode := .run, sluice.own := true
    desc.committed := [(fieldKey 1 0 0x0A, some 1000), (fieldKey 11 0 0x01, some 0x21)]
    chan := [(0, { state := .switching })]
    out := [(0, { state := 7, phase := .stopPending, leaving := true, cap := some 500
                  prof := { x := 1300000 * 2 ^ 16, target := 1300000, state := .arrived } })] }

/-- The evaluation begins with the cap as the limit in force: code 34. -/
theorem stopsInEvaluation_codeInForce : stopsInEvaluation.codeInForce 0 = 34 := by decide +kernel

/-- It stops output 0, and so writes the code of OCP_LIMIT: 68. -/
theorem stopsInEvaluation_writes :
    ((stopsInEvaluation.evaluate 0 0 0 0 0 0 0).chanAt 0).thr.current = 68 := by decide +kernel

/-- The description stands after it. -/
theorem stopsInEvaluation_described : (stopsInEvaluation.evaluate 0 0 0 0 0 0 0).desc.committed ≠ [] := by
  decide +kernel

/-- Whatever is taken for the state before the arrival of the profile, it holds the code of OCP_LIMIT. -/
theorem stopsInEvaluation_thrCurrent {x : State}
    (h : stopsInEvaluation.evaluate 0 0 0 0 0 0 0 = x ∨ stopsInEvaluation.evaluate 0 0 0 0 0 0 0 = x.profileArrival 0) :
    (x.chanAt 0).thr.current = 68 := by
  rw [← stopsInEvaluation_writes]
  rcases h with h | h
  · rw [h]
  · rw [h, State.profileArrival_thrCurrent 0 (h ▸ stopsInEvaluation_described)]

end Sys2Proof.Machine

namespace Sys2Proof
open Machine

/-- Refutes O55: an evaluation that stops the output of its channel writes the code of the limit that is left, not of the
one it began with, here 68 for OCP_LIMIT and not 34 for the cap. -/
theorem not_currentComparatorCode : ¬ Obligations.CurrentComparatorCode := by
  intro h
  obtain ⟨x, hx, hcode, -⟩ := h stopsInEvaluation 0 0 0 0 0 0 0 (by decide +kernel)
  have hwritten := stopsInEvaluation_thrCurrent hx
  rw [hcode, ← State.codeInForce, stopsInEvaluation_codeInForce] at hwritten
  exact absurd hwritten (by decide)

end Sys2Proof
end

section
/-! PROOFS. The table of commands as a whole: completion, the canonical memories, the queue and the state after reset. -/
set_option Elab.async false
namespace Sys2Proof
namespace Machine

/-- A footprint without the queue leaves the queue alone. -/
theorem Foot.pending_eq {l : Nat} {s t : State} (h : Foot l s t) (hl : Part.holds l .pending = false := by rfl) :
    t.pending = s.pending := h.1 .pending hl

end Machine
open Machine

/-- Settles O51: every row of the table answers within a footprint that does not hold the queue. -/
theorem everyCommandCompletes : Obligations.EveryCommandCompletes := by
  intro c s
  obtain ⟨t, ht, hfoot⟩ := exec_within s c
  exact ⟨t, ht, Foot.pending_eq hfoot⟩

/-- Settles O52: what a step keeps holds the canonical form. -/
theorem canonicalMemoriesKept : Obligations.CanonicalMemoriesKept :=
  fun _ _ hcanonical hstep => (step_sound hstep).mem hcanonical

/-- A step with a command at the front runs it on the rest of the queue. -/
theorem step_of_front {c : Instr} {s : State} {rest : List Instr} (h : s.pending = c :: rest) :
    step s = exec c { s with pending := rest } := by
  simp only [step, h]

/-- Settles O49: by the two cases of the queue. -/
theorem stepRunsFrontCommand : Obligations.StepRunsFrontCommand := by
  refine ⟨fun c s rest => step_of_front, fun c s => step_of_front rfl, fun s hempty => ?_⟩
  simp only [step, hempty]

/-- Settles O50: the reset state is written out, its tables empty, so that each item reads as its default. -/
theorem resetStateValues : Obligations.ResetStateValues := by
  refine ⟨rfl, rfl, rfl, rfl, rfl, rfl, rfl, rfl, rfl, rfl, rfl, rfl, rfl, ?_, ?_, ?_, ?_, ?_, rfl⟩
  · exact fun c => ⟨rfl, rfl⟩
  · exact fun k => rfl
  · exact fun n => ⟨rfl, rfl⟩
  · exact fun n => rfl
  · exact fun a => rfl

end Sys2Proof
end

section
/-! PROOFS. Words and lists: the model's own list functions as the library's, little-endian fields read back, and single
bits of maps. -/
set_option Elab.async false
namespace Sys2Proof

theorem countFrom_eq_range' (n lo : Nat) : countFrom n lo = List.range' lo n := by
  induction n generalizing lo with
  | zero => rfl
  | succ n ih => rw [countFrom, ih, List.range'_succ]

theorem upto_eq_range (n : Nat) : upto n = List.range n := by
  rw [upto, countFrom_eq_range', List.range_eq_range']

@[simp] theorem mem_countFrom {n lo i : Nat} : i ∈ countFrom n lo ↔ lo ≤ i ∧ i < lo + n := by
  rw [countFrom_eq_range', List.mem_range'_1]

@[simp] theorem mem_upto {n i : Nat} : i ∈ upto n ↔ i < n := by
  rw [upto_eq_range, List.mem_range]

@[simp] theorem length_countFrom (n lo : Nat) : (countFrom n lo).length = n := by
  rw [countFrom_eq_range', List.length_range']

@[simp] theorem length_upto (n : Nat) : (upto n).length = n := length_countFrom n 0

theorem firstN_eq_find? (p : Nat → Bool) (l : List Nat) : firstN p l = l.find? p := by
  induction l with
  | nil => rfl
  | cons x t ih =>
    rw [firstN, List.find?_cons, ih]
    cases p x <;> rfl

@[simp] theorem length_leBytes (n v : Nat) : (leBytes n v).length = n := by
  induction n generalizing v with
  | zero => rfl
  | succ n ih => rw [leBytes, List.length_cons, ih]

/-- The value of the `n` low bytes of `v`. -/
theorem leVal_leBytes (n v : Nat) : leVal (leBytes n v) = v % 256 ^ n := by
  induction n generalizing v with
  | zero => rw [Nat.pow_zero, Nat.mod_one]; rfl
  | succ n ih =>
    rw [leBytes, leVal, ih, Nat.pow_succ', Nat.mod_mul]
    simp [byte]

theorem leVal_leBytes_of_lt {n v : Nat} (h : v < 256 ^ n) : leVal (leBytes n v) = v := by
  rw [leVal_leBytes, Nat.mod_eq_of_lt h]

@[simp] theorem length_zeros (n : Nat) : (zeros n).length = n := List.length_replicate

@[simp] theorem length_slice (l : Bytes) (o n : Nat) : (slice l o n).length = n := by
  simp only [slice, List.length_append, List.length_take, List.length_drop, length_zeros]
  omega

theorem sumN_eq_sum (l : List Nat) : sumN l = l.sum := by
  induction l with
  | nil => rfl
  | cons x t ih => rw [sumN, ih, List.sum_cons]

/-- The map of the numbers below `n` at which `p` holds, as a sum of powers of two. -/
def bitSum (p : Nat → Bool) (n : Nat) : Nat := sumN ((upto n).map fun k => b2n (p k) * 2 ^ k)

theorem bitSum_succ (p : Nat → Bool) (n : Nat) : bitSum p (n + 1) = bitSum p n + b2n (p n) * 2 ^ n := by
  simp only [bitSum, upto_eq_range, sumN_eq_sum, List.range_succ, List.map_append, List.sum_append, List.map_cons,
    List.map_nil, List.sum_cons, List.sum_nil, Nat.add_zero]

theorem bitSum_lt (p : Nat → Bool) (n : Nat) : bitSum p n < 2 ^ n := by
  induction n with
  | zero => exact Nat.one_pos
  | succ n ih =>
    rw [bitSum_succ, Nat.pow_succ]
    cases p n
    · simp only [b2n, Bool.false_eq_true, if_false, Nat.zero_mul]; omega
    · simp only [b2n, if_true, Nat.one_mul]; omega

theorem testBit_bitSum (p : Nat → Bool) (n i : Nat) : (bitSum p n).testBit i = (decide (i < n) && p i) := by
  induction n with
  | zero => simp [bitSum, upto, countFrom, sumN]
  | succ n ih =>
    rw [bitSum_succ]
    cases hp : p n with
    | false =>
      rw [b2n, if_neg Bool.false_ne_true, Nat.zero_mul, Nat.add_zero, ih]
      obtain h | rfl | h := Nat.lt_trichotomy i n
      · simp [h, Nat.lt_succ_of_lt h]
      · simp [hp]
      · rw [decide_eq_false (by omega), decide_eq_false (by omega)]
    | true =>
      rw [b2n, if_pos rfl, Nat.one_mul, Nat.add_comm]
      obtain h | rfl | h := Nat.lt_trichotomy i n
      · rw [Nat.testBit_two_pow_add_gt h, ih, decide_eq_true h, decide_eq_true (Nat.lt_succ_of_lt h)]
      · rw [Nat.testBit_two_pow_add_eq, Nat.testBit_lt_two_pow (bitSum_lt p i)]
        simp [hp]
      · rw [Nat.testBit_lt_two_pow (Nat.lt_of_lt_of_le (by have := bitSum_lt p n; rw [Nat.pow_succ]; omega)
          (Nat.pow_le_pow_right (by decide) (Nat.succ_le_of_lt h))), decide_eq_false (by omega), Bool.false_and]

theorem mapWhere_eq_bitSum (n : Nat) (p : Nat → Bool) : Machine.mapWhere n p = bitSum p n := by
  have key : ∀ l : List Nat, sumN ((l.filter p).map fun k => 2 ^ k) = sumN (l.map fun k => b2n (p k) * 2 ^ k) := by
    intro l
    induction l with
    | nil => rfl
    | cons x t ih =>
      cases hx : p x with
      | false => simp [hx, sumN, ih, b2n]
      | true => simp [hx, sumN, ih, b2n]
  exact key _

theorem testBit_mapWhere (n : Nat) (p : Nat → Bool) (i : Nat) :
    (Machine.mapWhere n p).testBit i = (decide (i < n) && p i) := by
  rw [mapWhere_eq_bitSum, testBit_bitSum]

/-- A word around bit `i`: the bits above, the bit, the bits below. -/
theorem testBit_around (q r i : Nat) (c : Bool) (hr : r < 2 ^ i) (j : Nat) :
    (2 ^ (i + 1) * q + (2 ^ i * b2n c + r)).testBit j =
      if j = i then c else if j < i then r.testBit j else q.testBit (j - (i + 1)) := by
  have hc : b2n c ≤ 1 := by cases c <;> decide
  have hlow : 2 ^ i * b2n c + r < 2 ^ (i + 1) := by
    have := Nat.mul_le_mul_left (2 ^ i) hc
    rw [Nat.pow_succ]; omega
  rw [Nat.testBit_two_pow_mul_add _ hlow, Nat.testBit_two_pow_mul_add _ hr]
  obtain h | rfl | h := Nat.lt_trichotomy j i
  · rw [if_pos (by omega), if_pos h, if_neg (by omega), if_pos h]
  · rw [if_pos (by omega), if_neg (by omega), if_pos rfl, Nat.sub_self]
    cases c <;> rfl
  · rw [if_neg (by omega), if_neg (by omega), if_neg (by omega)]

theorem exists_bit_around (v i : Nat) :
    ∃ q r, r < 2 ^ i ∧ v = 2 ^ (i + 1) * q + (2 ^ i * b2n (v.testBit i) + r) := by
  refine ⟨v / 2 ^ i / 2, v % 2 ^ i, Nat.mod_lt _ (Nat.two_pow_pos i), ?_⟩
  have hbit : b2n (v.testBit i) = v / 2 ^ i % 2 := by
    rw [Nat.testBit_eq_decide_div_mod_eq, b2n]
    split
    · next h => exact (of_decide_eq_true h).symm
    · next h => simp only [decide_eq_true_eq] at h; omega
  calc v = 2 ^ i * (v / 2 ^ i) + v % 2 ^ i := (Nat.div_add_mod v (2 ^ i)).symm
    _ = 2 ^ i * (2 * (v / 2 ^ i / 2) + v / 2 ^ i % 2) + v % 2 ^ i := by rw [Nat.div_add_mod (v / 2 ^ i) 2]
    _ = _ := by
      rw [hbit, Nat.pow_succ, Nat.mul_add, ← Nat.mul_assoc, Nat.add_assoc]

/-- Only bit `i` of a word is set by `setBit`. -/
theorem testBit_setBit (v i : Nat) (b : Bool) (j : Nat) :
    (setBit v i b).testBit j = if j = i then b else v.testBit j := by
  obtain ⟨q, r, hr, hv⟩ := exists_bit_around v i
  have hset : setBit v i b = 2 ^ (i + 1) * q + (2 ^ i * b2n b + r) := by
    unfold setBit
    cases hbit : v.testBit i <;> rw [hbit] at hv <;> cases b <;> simp [b2n] at hv ⊢ <;> omega
  rw [hset, testBit_around q r i b hr]
  by_cases hj : j = i
  · rw [if_pos hj, if_pos hj]
  · rw [if_neg hj, if_neg hj, hv, testBit_around q r i _ hr, if_neg hj]

namespace Machine

/-- Outcomes with equal next states. -/
theorem next_congr {s t : State} (h : s = t) : (.next s : Host.Outcome State Fault Refusal) = .next t := congrArg _ h

/-- The parts outside a list, from a footprint within the list's parts. -/
theorem Foot.onlyIn {m : Nat} {s t : State} (h : Foot m s t) (l : List Part)
    (hm : Part.within m ((l.map fun p => 2 ^ p.ctorIdx).foldl (· ||| ·) 0) = true := by rfl) : Only l s t :=
  (h.mono hm).only l rfl

/-- What taking the oldest order off the list leaves alone. -/
@[simp] theorem State.taken_left (s : State) :
    s.taken.power = s.power ∧ s.taken.retained = s.retained ∧ s.taken.clocks = s.clocks ∧
    s.taken.hold = s.hold ∧ s.taken.otp = s.otp ∧ s.taken.boot = s.boot ∧ s.taken.desc = s.desc ∧
    s.taken.log = s.log ∧ s.taken.faults = s.faults ∧ s.taken.chan = s.chan ∧ s.taken.out = s.out ∧
    s.taken.cluster = s.cluster ∧ s.taken.scan = s.scan ∧ s.taken.polder = s.polder ∧
    s.taken.budget = s.budget ∧ s.taken.rect = s.rect ∧ s.taken.plan = s.plan ∧ s.taken.tide = s.tide ∧
    s.taken.gauge = s.gauge ∧ s.taken.sluice = s.sluice ∧ s.taken.ledger = s.ledger ∧
    s.taken.fabric = s.fabric ∧ s.taken.tw = s.tw ∧ s.taken.eth = s.eth ∧ s.taken.dbg = s.dbg ∧
    s.taken.latchView = s.latchView ∧ s.taken.sealedView = s.sealedView ∧ s.taken.waiting = s.waiting ∧
    s.taken.sent = s.sent ∧ s.taken.freeCount = s.freeCount ∧ s.taken.pending = s.pending :=
  ⟨rfl, rfl, rfl, rfl, rfl, rfl, rfl, rfl, rfl, rfl, rfl, rfl, rfl, rfl, rfl, rfl, rfl, rfl, rfl, rfl, rfl, rfl, rfl, rfl, rfl, rfl, rfl, rfl, rfl, rfl, rfl⟩

end Machine
end Sys2Proof
end

section
/-! PROOFS. The host port (chapter 5): a burst of one register word, what each register write does, and the reads that
change nothing. -/
set_option Elab.async false
namespace Sys2Proof.Machine

/-- A transaction without flags changes nothing at its end. -/
@[simp] theorem State.endTxn_zero (s : State) : s.endTxn 0 = s := rfl

/-- A burst within one word is one cut. -/
theorem wordCuts_within {a : Nat} {d : Bytes} (hd : 0 < d.length) (h : a % 4 + d.length ≤ 4) :
    wordCuts (d.length + 1) a d = [(a % 2 ^ 24 - a % 4, a % 4, d)] := by
  cases d with
  | nil => cases hd
  | cons x t =>
    have htake : (x :: t).take (4 - a % 4) = x :: t := List.take_of_length_le (by omega)
    have hdrop : (x :: t).drop (4 - a % 4) = [] := List.drop_eq_nil_of_le (by omega)
    simp only [wordCuts, htake, hdrop, List.length_cons]

/-- A WRITE within one word, as the one cut it is. -/
theorem State.writeBurst_within {s : State} {a : Nat} {d : Bytes} (halive : s.portAlive = true) (hd : 0 < d.length)
    (h : a % 4 + d.length ≤ 4) :
    s.writeBurst a d = ((s.writeCut (a % 2 ^ 24 - a % 4, a % 4, d)).1.endTxn
      (s.writeCut (a % 2 ^ 24 - a % 4, a % 4, d)).2).alertSettle := by
  simp only [State.writeBurst, halive, if_true, wordCuts_within hd h, List.foldl_cons, List.foldl_nil, Nat.zero_or]

/-- A WRITE of one whole register word. -/
theorem State.writeBurst_word {s : State} {a v o : Nat} {r : Region} (halive : s.portAlive = true)
    (hregion : regionOf a = (r, o)) (hv : v < 2 ^ 32) (ha : a < 2 ^ 24) (h4 : a % 4 = 0)
    (hreg : registerWord r o = true) :
    s.writeBurst a (leBytes 4 v) = ((s.wordWrite r o v).1.endTxn (s.wordWrite r o v).2).alertSettle := by
  have hval : leVal (leBytes 4 v) = v := leVal_leBytes_of_lt hv
  rw [State.writeBurst_within halive (by simp) (by simp [h4])]
  simp only [State.writeCut, h4, Nat.mod_eq_of_lt ha, Nat.sub_zero, hregion, hreg, if_true, length_leBytes, hval]

/-- A WRITE of one whole register word that sets no flag. -/
theorem State.writeBurst_quiet {s t : State} {a v o : Nat} {r : Region} (halive : s.portAlive = true)
    (hregion : regionOf a = (r, o)) (hv : v < 2 ^ 32) (hwrite : s.wordWrite r o v = (t, 0))
    (ha : a < 2 ^ 24 := by decide) (h4 : a % 4 = 0 := by decide) (hreg : registerWord r o = true := by decide) :
    s.writeBurst a (leBytes 4 v) = t.alertSettle := by
  rw [State.writeBurst_word halive hregion hv ha h4 hreg, hwrite, State.endTxn_zero]

/-- A READ within one word, as the one cut it is. -/
theorem State.readAll_word (s : State) {a : Nat} (ha : a < 2 ^ 24) (h4 : a % 4 = 0) :
    s.readAll a 4 = (s.readCut a 0 4) := by
  have h := wordCuts_within (a := a) (d := zeros 4) (by decide) (by simp [h4])
  have hlen : (zeros 4).length + 1 = 5 := rfl
  rw [hlen] at h
  simp only [State.readAll, h, h4, Nat.mod_eq_of_lt ha, Nat.sub_zero, List.foldl_cons, List.foldl_nil,
    length_zeros, Nat.zero_or, List.nil_append]

/-- A READ of one host-port register: the bytes of its word, and the word's effect of being read. -/
theorem State.readCut_register (s : State) {o : Nat} (ho : o < 0x100) (h4 : o % 4 = 0) :
    s.readCut o 0 4 = (s.readEffect .regs o, 0, leBytes 4 (s.regWord o)) := by
  have hregion : regionOf o = (.regs, o) := by simp only [regionOf, ho, if_true]
  have hbyte : ∀ i, i < 4 → s.plainByte .regs (o + i) = some (byte (s.regWord o / 256 ^ i)) := by
    intro i hi
    have hmod : (o + i) % 4 = i := by omega
    simp only [State.plainByte, hmod, Nat.add_sub_cancel]
  have hbytes : (countFrom 4 o).map (s.plainByte .regs) = (leBytes 4 (s.regWord o)).map some := by
    have h0 := hbyte 0 (by decide)
    have h1 := hbyte 1 (by decide)
    have h2 := hbyte 2 (by decide)
    have h3 := hbyte 3 (by decide)
    simp only [countFrom, List.map_cons, List.map_nil, leBytes, Nat.add_assoc, Nat.reduceAdd, h1, h2, h3,
      Nat.div_div_eq_div_mul, Nat.reduceMul, Nat.reducePow]
    rw [← Nat.add_zero o, h0, Nat.pow_zero, Nat.div_one, Nat.add_zero]
  simp only [State.readCut, hregion, Nat.add_zero, hbytes, List.map_map]
  simp [registerWord, Function.comp_def]

/-- The port answers a READ of a register with its word. -/
theorem State.readBurst_register {s : State} (halive : s.portAlive = true) {o : Nat} (ho : o < 0x100) (h4 : o % 4 = 0) :
    s.readBurst o 4 = (s.readEffect .regs o).send (.host (leBytes 4 (s.regWord o))) := by
  rw [State.readBurst, if_pos halive, State.readAll_word s (by omega) h4, State.readCut_register s ho h4,
    State.endTxn_zero]

/-- What READ, QUIET READ and WRITE do while the port does not answer (R113). -/
theorem State.bursts_dead {s : State} (hdead : s.portAlive = false) (addr len : Nat) (data : Bytes) :
    s.readBurst addr len = s ∧ s.quietBurst addr len = s ∧ s.writeBurst addr data = s := by
  simp [State.readBurst, State.quietBurst, State.writeBurst, hdead]

end Sys2Proof.Machine

namespace Sys2Proof
open Machine

/-- Settles O1: a register READ is one cut; the other transactions are the port's own cases. -/
theorem portReadsStatusAndUnknown : Obligations.PortReadsStatusAndUnknown := by
  refine ⟨fun s halive => ⟨fun o ho h4 h8 h34 => ?_, ?_, ?_, fun addr len => ?_⟩,
    fun s halive => ⟨?_, fun code hcode => ?_⟩, fun s hdead => ⟨?_, fun code => ?_, fun addr data => ?_,
      fun addr len => ?_, fun addr len => ?_⟩⟩
  · have heffect : s.readEffect .regs o = s := by simp [State.readEffect, h8, h34]
    exact next_congr ((State.readBurst_register halive ho h4).trans (by rw [heffect]))
  · exact next_congr (State.readBurst_register halive (by decide) (by decide))
  · exact next_congr (State.readBurst_register halive (by decide) (by decide))
  · refine ⟨_, _, (s.readAll addr len).2.2, rfl, rfl, ?_, ?_⟩
    · simp only [State.hostCommand, State.quietBurst, halive, Nat.reduceEqDiff, if_false, if_true]
    · simp only [State.hostCommand, State.readBurst, halive, Nat.reduceEqDiff, if_false, if_true]
  · show Host.Outcome.next s.statusRead = _
    rw [State.statusRead, if_pos halive, State.portStatus]
  · have hnot : [0x32, 0x6B, 0x6C, 0x05].contains code = false := by simpa using hcode
    simp only [List.mem_cons, List.not_mem_nil, or_false, not_or] at hcode
    obtain ⟨h1, h2, h3, h4⟩ := hcode
    simp only [exec, execUnknownCommand, hnot, State.hostCommand, h1, h2, h3, h4, halive, if_false, if_true,
      Bool.false_eq_true]
    rfl
  · show Host.Outcome.next s.statusRead = _
    rw [State.statusRead, hdead]; rfl
  · obtain ⟨hread, hquiet, hwrite⟩ := State.bursts_dead hdead 0 0 []
    have hstatus : s.statusRead = s := by rw [State.statusRead, hdead]; rfl
    simp only [exec, execUnknownCommand, State.hostCommand, hread, hquiet, hwrite, hstatus, hdead, ite_self,
      Bool.false_eq_true, if_false]
  · exact next_congr (State.bursts_dead hdead addr 0 data).2.2
  · exact next_congr (State.bursts_dead hdead addr len []).1
  · exact next_congr (State.bursts_dead hdead addr len []).2.1

end Sys2Proof
end

section
/-! PROOFS. Register writes (R111, R116, Table 5-4): what each of them does. -/
set_option Elab.async false
namespace Sys2Proof

/-- Reading a table after the entries of a list were set. -/
theorem Tab.get_foldl_set {α : Type} [DecidableEq α] (d : α) (f : Nat → α) (l : List Nat) (t : Tab α) (j : Nat) :
    Tab.get d (l.foldl (fun t i => Tab.set d t i (f i)) t) j = if j ∈ l then f j else Tab.get d t j := by
  induction l generalizing t with
  | nil => rfl
  | cons i l ih =>
    rw [List.foldl_cons, ih, Tab.get_set]
    by_cases hl : j ∈ l
    · simp [hl]
    · by_cases hi : j = i
      · subst hi; simp
      · simp [hl, hi]

namespace Machine

/-- The list of a map with one bit. -/
theorem mapList_two_pow {k n : Nat} (h : n < k) : mapList k (2 ^ n) = [n] := by
  have hbit : (bit (2 ^ n)) = fun i => decide (i = n) := by
    funext i
    rw [bit, Nat.testBit_two_pow, decide_eq_decide]
    exact eq_comm
  have hcount : (List.range k).count n = 1 :=
    (List.Nodup.count List.nodup_range).trans (if_pos (List.mem_range.mpr h))
  rw [mapList, hbit, upto_eq_range, List.filter_eq, hcount]
  rfl

/-- CAUSE after a write that leaves the fields of the register that hold no cause. -/
theorem ResetCause.written_bits (c : ResetCause) {v : Nat} (h : v % 16 ≠ 15) (i : Nat) :
    (c.written v).cause.testBit i = (decide (i < 4) && c.cause.testBit i && !v.testBit i) := by
  have hcause : (c.written v).cause = bitSum (fun k => bit c.cause k && !bit (v % 2 ^ 4) k) 4 := by
    simp only [ResetCause.written, if_neg h]
    rfl
  rw [hcause, testBit_bitSum, bit, bit, Nat.testBit_mod_two_pow]
  cases decide (i < 4) <;> simp

/-- A write of one bit of MB_DONE. -/
theorem State.doneClear_one (s : State) {n : Nat} (hn : n < 16) :
    s.doneClear (2 ^ n) = if (s.mbAt n).done then s.freeMb n else s := by
  rw [State.doneClear, mapList_two_pow hn]
  rfl

/-- What the window of a load holds. -/
theorem Logbook.load_window (l : Logbook) (epoch lo : Nat) {i : Nat} (hi : i < 64) :
    Tab.get {} (l.load epoch lo).window i = l.view (l.cursorHiHeld * 2 ^ 32 + lo + i) := by
  have h := Tab.get_foldl_set ({} : LogSlot) (fun i => l.view (l.cursorHiHeld * 2 ^ 32 + lo + i)) (upto 64) [] i
  rw [if_pos (mem_upto.mpr hi)] at h
  exact h

/-- A write of part of a register word is refused as unaligned. -/
theorem exec_registerWrite_part {s : State} (halive : s.portAlive = true) {a : Nat} {d : Bytes} (ha : a < 0x100)
    (hd : 0 < d.length) (hfit : a % 4 + d.length ≤ 4) (hpart : d.length ≠ 4) :
    exec (.registerWrite a d) s = .next ((s.endTxn 0x04).alertSettle) := by
  have hmod : a % 2 ^ 24 = a := Nat.mod_eq_of_lt (by omega)
  have hregion : ∀ o, o < 0x100 → regionOf o = (.regs, o) := fun o ho => by simp only [regionOf, ho, if_true]
  have hexec : exec (.registerWrite a d) s = .next (s.writeBurst a d) := by
    simp only [exec, execRegisterWrite, hmod, hregion a ha]
  rw [hexec, State.writeBurst_within halive hd hfit, hmod]
  simp only [State.writeCut, hregion (a - a % 4) (by omega), registerWord, if_true, if_neg hpart]
  rfl

/-- A write of a whole register word at an address that has no row of its own. -/
theorem exec_registerWrite_word {s t : State} {a v o : Nat} {r : Region} (halive : s.portAlive = true)
    (hregion : regionOf a = (r, o)) (hv : v < 2 ^ 32) (hwrite : s.wordWrite r o v = (t, 0))
    (ha : a < 2 ^ 24 := by decide) (h4 : a % 4 = 0 := by decide) (hreg : registerWord r o = true := by decide) :
    exec (.registerWrite a (leBytes 4 v)) s = .next t.alertSettle := by
  have hexec : exec (.registerWrite a (leBytes 4 v)) s = .next (s.writeBurst a (leBytes 4 v)) := by
    simp only [exec, execRegisterWrite, Nat.mod_eq_of_lt ha, hregion]
    cases r <;> first | rfl | cases hreg
  rw [hexec, State.writeBurst_quiet halive hregion hv hwrite ha h4 hreg]

/-- A read of NEXT answers the cursor and moves it on. -/
theorem State.readCut_next (s : State) : s.readCut 0x040010 0 4 =
    ({ s with ledger := { s.ledger with cursor := (s.ledger.cursor + 1) % 2 ^ 32 } }, 0, leBytes 4 s.ledger.cursor) := by
  have hregion : regionOf 0x040010 = (.ledgerw, 0x10) := by decide
  have hword : s.ledgerWord 0x10 = s.ledger.cursor := rfl
  simp only [State.readCut, hregion, Nat.add_zero, countFrom, List.map_cons, List.map_nil, State.plainByte,
    State.ledgerByte, Nat.reduceLT, Nat.reduceAdd, if_true, Nat.reduceMod, Nat.reduceSub, hword]
  simp [registerWord, State.readEffect, leBytes, Nat.div_div_eq_div_mul]

end Machine
open Machine

/-- Settles O2: each register write is one whole word of its part. -/
theorem registerWritesAct : Obligations.RegisterWritesAct := by
  refine ⟨fun s halive => ⟨fun v hv => ?_, fun v hv h15 => ?_, fun v hv h15 => ?_, fun n hn hdone => ?_,
    fun n hn hdone => ?_⟩, fun s halive => ⟨fun v hv => ?_, fun v hv => ?_, fun v hv hnear => ?_, fun v hv hfar => ?_,
      ?_, fun v hv => ?_, fun v hv => ?_, fun v hv => ?_, fun a d ha hd hfit hpart =>
        exec_registerWrite_part halive ha hd hfit hpart⟩⟩
  · exact next_congr (State.writeBurst_quiet halive (by decide : regionOf 0x0C = (.regs, 0x0C)) hv rfl)
  · refine next_congr (State.writeBurst_quiet halive (by decide : regionOf 0x40 = (.regs, 0x40)) hv ?_)
    simp only [State.wordWrite, State.regWrite, ResetCause.written, h15, if_true]
  · refine ⟨(s.power.cause.written v).cause,
      next_congr (State.writeBurst_quiet halive (by decide : regionOf 0x40 = (.regs, 0x40)) hv ?_),
      ResetCause.written_bits _ h15⟩
    simp only [State.wordWrite, State.regWrite, ResetCause.written, h15, if_false]
  · refine next_congr (State.writeBurst_quiet halive (by decide : regionOf 0x1C = (.regs, 0x1C))
      (Nat.pow_lt_pow_right (by decide) (by omega)) ?_)
    simp only [State.wordWrite, State.regWrite, State.doneClear_one s hn, hdone, if_true]
  · refine next_congr (State.writeBurst_quiet halive (by decide : regionOf 0x1C = (.regs, 0x1C))
      (Nat.pow_lt_pow_right (by decide) (by omega)) ?_)
    simp only [State.wordWrite, State.regWrite, State.doneClear_one s hn, hdone, Bool.false_eq_true, if_false]
  · refine ⟨s.log.load s.clocks.epoch v,
      next_congr (State.writeBurst_quiet halive (by decide : regionOf 0x020000 = (.logw, 0)) hv ?_), rfl,
      fun i hi => Logbook.load_window _ _ _ hi⟩
    simp only [State.wordWrite, State.logWrite, Nat.mod_eq_of_lt hv, if_true]
  · refine next_congr (State.writeBurst_quiet halive (by decide : regionOf 0x020004 = (.logw, 4)) hv ?_)
    simp only [State.wordWrite, State.logWrite, Nat.mod_eq_of_lt hv, if_true, show ¬(4 = 0) from by decide, if_false]
  · refine next_congr (State.writeBurst_quiet halive (by decide : regionOf 0x030008 = (.faultw, 8)) hv ?_)
    simp only [State.wordWrite, State.faultWrite, Nat.mod_eq_of_lt hv, hnear, and_self, if_true]
  · refine next_congr (State.writeBurst_quiet halive (by decide : regionOf 0x030008 = (.faultw, 8)) hv ?_)
    simp only [State.wordWrite, State.faultWrite, Nat.mod_eq_of_lt hv, Nat.not_le.mpr hfar, and_false, if_false]
  · simp only [exec, execNext, State.readBurst, halive, if_true, State.readAll_word s (a := 0x040010) (by decide) (by decide),
      State.readCut_next, State.endTxn_zero]
  · exact exec_registerWrite_word halive (by decide : regionOf 0x10 = (.regs, 0x10)) hv rfl
  · refine exec_registerWrite_word halive (by decide : regionOf 0x040000 = (.ledgerw, 0)) hv ?_
    simp only [State.wordWrite, State.ledgerWrite, Nat.mod_eq_of_lt hv, if_true]
  · exact exec_registerWrite_word halive (by decide : regionOf 0x040014 = (.ledgerw, 0x14)) hv rfl

end Sys2Proof
end

section
/-! PROOFS. The mailboxes and the user RAM at the host port (R110, R118, R119, R492): a whole word written past the merge
buffer and read back, writes that are ignored, and doorbells. -/
set_option Elab.async false
namespace Sys2Proof

/-- Byte `i` of the value of a little-endian byte string. -/
theorem byte_leVal_div (d : Bytes) (i : Nat) : byte (leVal d / 256 ^ i) = d.getD i 0 := by
  induction d generalizing i with
  | nil => simp [leVal, byte]
  | cons b t ih =>
    cases i with
    | zero =>
      rw [leVal, Nat.pow_zero, Nat.div_one]
      apply BitVec.eq_of_toNat_eq
      simp only [byte, BitVec.toNat_ofNat, List.getD_cons_zero]
      omega
    | succ i =>
      have hb : b.toNat < 256 := b.isLt
      have hdiv : (b.toNat + 256 * leVal t) / 256 = leVal t := by omega
      rw [leVal, Nat.pow_succ', ← Nat.div_div_eq_div_mul, hdiv, ih]
      rfl

/-- Setting the bits of a list. -/
theorem testBit_foldl_setBit (l : List Nat) (m j : Nat) :
    (l.foldl (fun m i => setBit m i true) m).testBit j = (decide (j ∈ l) || m.testBit j) := by
  induction l generalizing m with
  | nil => simp
  | cons i l ih =>
    rw [List.foldl_cons, ih, testBit_setBit]
    by_cases h : j = i <;> simp [h]

/-- A 4-bit map with every bit set. -/
theorem mod_sixteen_eq_fifteen {m : Nat} (h : ∀ i, i < 4 → m.testBit i = true) : m % 16 = 15 := by
  apply Nat.eq_of_testBit_eq
  intro i
  rw [show (16 : Nat) = 2 ^ 4 from rfl, show (15 : Nat) = 2 ^ 4 - 1 from rfl, Nat.testBit_mod_two_pow,
    Nat.testBit_two_pow_sub_one]
  by_cases hi : i < 4
  · simp [h i hi]
  · simp [hi]

namespace Machine

/-- A merge entry of a whole word. -/
def fullEntry (inst word : Nat) (d : Bytes) : MergeEntry := { inst := inst, word := word, mask := 15, value := leVal d }

/-- Four bytes put into an entry fill it. -/
theorem MergeEntry.put_full (e : MergeEntry) {d : Bytes} (hd : d.length = 4) : e.put 0 d = fullEntry e.inst e.word d := by
  obtain ⟨d0, d1, d2, d3, rfl⟩ : ∃ a b c e, d = [a, b, c, e] := by
    match d, hd with
    | [a, b, c, e], _ => exact ⟨a, b, c, e, rfl⟩
  have hmask : (countFrom 4 0).foldl (fun m i => setBit m i true) e.mask % 16 = 15 :=
    mod_sixteen_eq_fifteen fun i hi => by
      rw [testBit_foldl_setBit, decide_eq_true (mem_countFrom.mpr ⟨Nat.zero_le _, by omega⟩), Bool.true_or]
  simp only [MergeEntry.put, fullEntry, List.length_cons, List.length_nil, Nat.reduceAdd, hmask]
  rfl

/-- A whole word passes the merge buffer. -/
theorem State.mergeWrite_full (s : State) (inst word : Nat) {d : Bytes} (hd : d.length = 4) :
    s.mergeWrite inst word 0 d = s.mergeCommit (fullEntry inst word d) := by
  unfold State.mergeWrite
  dsimp only
  split
  · next e he =>
    have hmine := List.find?_some he
    simp only [decide_eq_true_eq] at hmine
    rw [MergeEntry.put_full e hd, hmine.1, hmine.2]
    rfl
  · rw [MergeEntry.put_full _ hd]
    rfl

/-- The entries of a word leave the merge buffer. -/
def State.unmerged (s : State) (inst word : Nat) : State :=
  { s with faults := { s.faults with
    merge := s.faults.merge.filter fun x => decide (¬(x.inst = inst ∧ x.word = word)) } }

/-- A whole mailbox word committed. -/
theorem State.mergeCommit_mailbox (s : State) (word : Nat) {d : Bytes} (hd : d.length = 4) :
    s.mergeCommit (fullEntry 201 word d) = ({ s.unmerged 201 word with
      host := { s.host with ram := memWriteN s.host.ram (4 * word) d } } : State).setBad 201 word false := by
  obtain ⟨d0, d1, d2, d3, rfl⟩ : ∃ a b c e, d = [a, b, c, e] := by
    match d, hd with
    | [a, b, c, e], _ => exact ⟨a, b, c, e, rfl⟩
  have hbits : (upto 4).filter (bit 15) = [0, 1, 2, 3] := by decide
  simp only [State.mergeCommit, fullEntry, State.arrayMasked, hbits, List.foldl_cons, List.foldl_nil, byte_leVal_div,
    State.arrayByte, instUser, instMailbox, Nat.reduceEqDiff, if_false, if_true]
  rfl

/-- A whole word of the user RAM committed: its four bytes are marked written. -/
theorem State.mergeCommit_user (s : State) (word : Nat) {d : Bytes} (hd : d.length = 4) : ∃ w, Tab.get 0 w word = 15 ∧
    s.mergeCommit (fullEntry 202 word d) = ({ s.unmerged 202 word with
      host := { s.host with user := memWriteN s.host.user (4 * word) d, userWritten := w } } : State).setBad 202 word false := by
  obtain ⟨d0, d1, d2, d3, rfl⟩ : ∃ a b c e, d = [a, b, c, e] := by
    match d, hd with
    | [a, b, c, e], _ => exact ⟨a, b, c, e, rfl⟩
  have hbits : (upto 4).filter (bit 15) = [0, 1, 2, 3] := by decide
  have hword : ∀ i, i < 4 → (4 * word + i) / 4 = word ∧ (4 * word + i) % 4 = i := by omega
  obtain ⟨hq0, hr0⟩ := hword 0 (by decide)
  obtain ⟨hq1, hr1⟩ := hword 1 (by decide)
  obtain ⟨hq2, hr2⟩ := hword 2 (by decide)
  obtain ⟨hq3, hr3⟩ := hword 3 (by decide)
  let mark (w : Tab Nat) (i : Nat) : Tab Nat := Tab.upd 0 w word fun m => setBit m i true % 16
  refine ⟨mark (mark (mark (mark s.host.userWritten 0) 1) 2) 3, ?_, ?_⟩
  · simp only [mark, Tab.get_upd, if_true]
    refine mod_sixteen_eq_fifteen fun i hi => ?_
    have hmod : ∀ m, (m % 16).testBit i = m.testBit i := fun m => by
      rw [show (16 : Nat) = 2 ^ 4 from rfl, Nat.testBit_mod_two_pow, decide_eq_true hi, Bool.true_and]
    simp only [testBit_setBit, hmod]
    match i, hi with
    | 0, _ => rfl
    | 1, _ => rfl
    | 2, _ => rfl
    | 3, _ => rfl
  · simp only [State.mergeCommit, fullEntry, State.arrayMasked, hbits, List.foldl_cons, List.foldl_nil, byte_leVal_div,
      State.arrayByte, instUser, if_true, hq0, hq1, hq2, hq3, hr0, hr1, hr2, hr3]
    rfl

/-- No entry of a word is left to flush where its entries have left the buffer. -/
theorem State.mergeFlush_none {s : State} {inst word : Nat}
    (h : ∀ e ∈ s.faults.merge, ¬(e.inst = inst ∧ e.word = word)) :
    s.mergeFlush (fun e => decide (e.inst = inst ∧ e.word = word)) = s := by
  have hnone : s.faults.merge.filter (fun e => decide (e.inst = inst ∧ e.word = word)) = [] :=
    List.filter_eq_nil_iff.mpr fun e he => by simpa using h e he
  rw [State.mergeFlush, hnone, List.foldl_nil]

/-- What was written to consecutive addresses is read back. -/
theorem memReadN_writeN (m : List Host.Cell) (a : Nat) (d : Bytes) : memReadN (memWriteN m a d) a d.length = d := by
  apply List.ext_getElem
  · simp [memReadN]
  · intro i h1 h2
    have hlt : i < d.length := by simpa [memReadN] using h1
    simp only [memReadN, List.getElem_map, countFrom_eq_range', List.getElem_range', memRead_writeN]
    rw [if_pos (by omega)]
    simp [List.getD_eq_getElem?_getD, hlt]

/-- A word that was committed whole is read back by the port. -/
theorem State.readBurst_committed {s : State} {a o inst : Nat} {r : Region} {d : Bytes} (halive : s.portAlive = true)
    (ha : a < 2 ^ 24) (h4 : a % 4 = 0) (ho : o % 4 = 0) (hregion : regionOf a = (r, o))
    (hinst : (r = .mailbox ∧ inst = 201) ∨ (r = .user ∧ inst = 202 ∧ Tab.get 0 s.host.userWritten (o / 4) = 15))
    (hmerge : ∀ e ∈ s.faults.merge, ¬(e.inst = inst ∧ e.word = o / 4)) (hgood : s.wordBad inst (o / 4) = false)
    (hread : s.arrayRead inst o 4 = d) : s.readBurst a 4 = s.send (.host d) := by
  have hword : 4 * (o / 4) = o := by omega
  have hcut : s.readCut a 0 4 = (s, 0, d) := by
    rcases hinst with ⟨rfl, rfl⟩ | ⟨rfl, rfl, hwritten⟩
    · simp only [State.readCut, hregion, State.arrayCut, instMailbox, instUser, State.mergeFlush_none hmerge, hgood,
        Nat.reduceEqDiff, false_and, if_false, Bool.false_eq_true, hword, Nat.add_zero, hread]
    · simp only [State.readCut, hregion, State.arrayCut, instUser, State.mergeFlush_none hmerge, hgood, hwritten,
        ne_eq, not_true, and_false, if_false, Bool.false_eq_true, hword, Nat.add_zero, hread]
  rw [State.readBurst, if_pos halive, State.readAll_word s ha h4, hcut, State.endTxn_zero]

/-- A word marked good or bad reads so. -/
theorem State.setBad_wordBad (s : State) (inst word : Nat) (b : Bool) : (s.setBad inst word b).wordBad inst word = b := by
  simp only [State.wordBad, State.setBad, State.eccAt_setEcc, if_true, Tab.get_set]

/-- What a committed word leaves in the merge buffer and among the words that read uncorrectable. -/
theorem State.committed_word (s : State) (h : HostPort) (inst word : Nat) :
    (∀ e ∈ ((({ s.unmerged inst word with host := h } : State).setBad inst word false).alertSettle).faults.merge,
      ¬(e.inst = inst ∧ e.word = word)) ∧
    ((({ s.unmerged inst word with host := h } : State).setBad inst word false).alertSettle).wordBad inst word = false := by
  have hsettle : ∀ t : State, t.alertSettle.faults = t.faults := fun t => by unfold State.alertSettle; split <;> rfl
  constructor
  · intro e he
    rw [hsettle] at he
    exact of_decide_eq_true (List.mem_filter.mp he).2
  · rw [State.wordBad, State.eccAt, hsettle]
    exact State.setBad_wordBad _ inst word false

theorem State.alertSettle_host (s : State) : s.alertSettle.host = s.host := by
  unfold State.alertSettle; split <;> rfl

theorem State.alertSettle_portAlive (s : State) : s.alertSettle.portAlive = s.portAlive := by
  unfold State.alertSettle; split <;> rfl

/-- A word committed at the port touches the host port, the merge buffer and TW0's alert only. -/
theorem State.committed_only (s : State) (h : HostPort) (inst word : Nat) : Only [.host, .faults, .tw] s
    (({ s.unmerged inst word with host := h } : State).setBad inst word false).alertSettle := by
  unfold State.alertSettle
  split <;> (intro p hp; cases p <;> first | rfl | exact absurd hp (by decide))

/-- The cut of a write of one aligned word of the mailboxes. -/
theorem State.writeCut_mailbox (s : State) {o : Nat} (ho : o < 0x4000) (d : Bytes) :
    s.writeCut (0x010000 + o, 0, d) =
      if 0x200 ≤ o % 0x400 then (s, 0)
      else if (s.mbAt (o / 0x400)).busy = true ∨ s.hostOwns (o / 0x400) = false then (s, 0x80)
      else (s.mergeWrite 201 (o / 4) 0 d, 0) := by
  have hregion : regionOf (0x010000 + o) = (.mailbox, o) := by
    simp only [regionOf]
    rw [if_neg (by omega), if_pos (by omega), Nat.add_sub_cancel_left]
  simp only [State.writeCut, hregion, registerWord, Bool.false_eq_true, if_false]
  rfl

/-- A WRITE of one aligned word of the mailboxes. -/
theorem State.writeBurst_mailbox {s : State} {o : Nat} {d : Bytes} (halive : s.portAlive = true) (hd : d.length = 4)
    (ho : o < 0x4000) (h4 : o % 4 = 0) :
    s.writeBurst (0x010000 + o) d = ((s.writeCut (0x010000 + o, 0, d)).1.endTxn
      (s.writeCut (0x010000 + o, 0, d)).2).alertSettle := by
  have h0 : (0x010000 + o) % 4 = 0 := by omega
  have hlt : 0x010000 + o < 2 ^ 24 := by omega
  rw [State.writeBurst_within halive (by omega) (by omega), h0, Nat.mod_eq_of_lt hlt, Nat.sub_zero]

/-- A word of a request half that the host may write is stored and read back. -/
theorem exec_write_mailbox {s : State} {o : Nat} {d : Bytes} (halive : s.portAlive = true) (hd : d.length = 4)
    (ho : o < 0x4000) (h4 : o % 4 = 0) (hhalf : o % 0x400 < 0x200) (howns : s.hostOwns (o / 0x400) = true)
    (hfree : (s.mbAt (o / 0x400)).busy = false) :
    ∃ t, exec (.write (0x010000 + o) d) s = .next t ∧
      (∀ a, memRead t.host.ram a = if o ≤ a ∧ a < o + 4 then d.getD (a - o) 0 else memRead s.host.ram a) ∧
      t.host = { s.host with ram := t.host.ram } ∧ Only [.host, .faults, .tw] s t ∧
      exec (.read (0x010000 + o) 4) t = .next (t.send (.host d)) := by
  have hword : 4 * (o / 4) = o := by omega
  have hcut : s.writeCut (0x010000 + o, 0, d) = (({ s.unmerged 201 (o / 4) with
      host := { s.host with ram := memWriteN s.host.ram o d } } : State).setBad 201 (o / 4) false, 0) := by
    rw [State.writeCut_mailbox s ho, if_neg (by omega), if_neg (by simp [howns, hfree]), State.mergeWrite_full s _ _ hd,
      State.mergeCommit_mailbox s _ hd, hword]
  obtain ⟨hmerge, hgood⟩ := State.committed_word s { s.host with ram := memWriteN s.host.ram o d } 201 (o / 4)
  refine ⟨_, next_congr ((State.writeBurst_mailbox halive hd ho h4).trans (by rw [hcut, State.endTxn_zero])), ?_, ?_,
    State.committed_only s _ 201 (o / 4), next_congr ?_⟩
  · intro a
    rw [State.alertSettle_host, ← hd]
    exact memRead_writeN d s.host.ram o a
  · rw [State.alertSettle_host]
    rfl
  · have hregion : regionOf (0x010000 + o) = (.mailbox, o) := by
      simp only [regionOf]
      rw [if_neg (by omega), if_pos (by omega), Nat.add_sub_cancel_left]
    refine State.readBurst_committed (inst := 201) (o := o) (r := .mailbox) ?_ (by omega) (by omega) h4 hregion
      (.inl ⟨rfl, rfl⟩) hmerge hgood ?_
    · rw [State.alertSettle_portAlive]
      exact halive
    · simp only [State.arrayRead, instUser, instMailbox, Nat.reduceEqDiff, if_false, if_true, State.alertSettle_host]
      rw [← hd]
      exact memReadN_writeN s.host.ram o d

/-- A word of the user RAM is stored and read back. -/
theorem exec_write_user {s : State} {o : Nat} {d : Bytes} (halive : s.portAlive = true) (hd : d.length = 4)
    (ho : o < 0x40000) (h4 : o % 4 = 0) :
    ∃ t, exec (.write (0x100000 + o) d) s = .next t ∧
      (∀ a, memRead t.host.user a = if o ≤ a ∧ a < o + 4 then d.getD (a - o) 0 else memRead s.host.user a) ∧
      t.host.ram = s.host.ram ∧ Only [.host, .faults, .tw] s t ∧
      exec (.read (0x100000 + o) 4) t = .next (t.send (.host d)) := by
  have hword : 4 * (o / 4) = o := by omega
  have hregion : regionOf (0x100000 + o) = (.user, o) := by
    simp only [regionOf]
    rw [if_neg (by omega), if_neg (by omega), if_neg (by omega), if_neg (by omega), if_neg (by omega), if_pos (by omega),
      Nat.add_sub_cancel_left]
  obtain ⟨w, hw, hcommit⟩ := State.mergeCommit_user s (o / 4) hd
  rw [hword] at hcommit
  have hcut : s.writeCut (0x100000 + o, 0, d) = (s.mergeCommit (fullEntry 202 (o / 4) d), 0) := by
    simp only [State.writeCut, hregion, registerWord, Bool.false_eq_true, if_false, instUser,
      State.mergeWrite_full s _ _ hd]
  have h0 : (0x100000 + o) % 4 = 0 := by omega
  have hburst : s.writeBurst (0x100000 + o) d = (s.mergeCommit (fullEntry 202 (o / 4) d)).alertSettle := by
    rw [State.writeBurst_within halive (by omega) (by omega), h0, Nat.mod_eq_of_lt (by omega), Nat.sub_zero, hcut,
      State.endTxn_zero]
  rw [hcommit] at hburst
  obtain ⟨hmerge, hgood⟩ := State.committed_word s
    { s.host with user := memWriteN s.host.user o d, userWritten := w } 202 (o / 4)
  refine ⟨_, next_congr hburst, ?_, ?_, State.committed_only s _ 202 (o / 4), next_congr ?_⟩
  · intro a
    rw [State.alertSettle_host, ← hd]
    exact memRead_writeN d s.host.user o a
  · rw [State.alertSettle_host]
    rfl
  · refine State.readBurst_committed (inst := 202) (o := o) (r := .user) ?_ (by omega) (by omega) h4 hregion
      (.inr ⟨rfl, rfl, ?_⟩) hmerge hgood ?_
    · rw [State.alertSettle_portAlive]
      exact halive
    · rw [State.alertSettle_host]
      exact hw
    · simp only [State.arrayRead, instUser, if_true, State.alertSettle_host]
      rw [← hd]
      exact memReadN_writeN s.host.user o d

/-- A write of one doorbell bit. -/
theorem exec_mbDoorbell {s : State} (halive : s.portAlive = true) {n : Nat} (hn : n < 16) :
    exec (.mbDoorbell n) s = .next (((s.mergeFlush fun e => decide (e.inst = 201)).doorbell n).1.followed.endTxn
      (if ((s.mergeFlush fun e => decide (e.inst = 201)).doorbell n).2 then 0x40 else 0)).alertSettle := by
  have hpow : 2 ^ n < 2 ^ 16 := Nat.pow_lt_pow_right (by decide) hn
  refine next_congr ((State.writeBurst_word halive (by decide : regionOf 0x14 = (.regs, 0x14)) (by omega) (by decide)
    (by decide) (by decide)).trans ?_)
  simp only [State.wordWrite, State.regWrite, State.doorbells, Nat.mod_eq_of_lt hpow, mapList_two_pow hn, List.foldl_cons,
    List.foldl_nil, Bool.false_or]
  rfl

end Machine
open Machine

/-- Settles O3: a whole word is committed past the merge buffer; a doorbell is judged on what the flush left. -/
theorem mailboxWordsAndDoorbells : Obligations.MailboxWordsAndDoorbells := by
  refine ⟨fun s d halive hd => ⟨fun o ho h4 hhalf howns hfree => exec_write_mailbox halive hd ho h4 hhalf howns hfree,
    fun o ho h4 => exec_write_user halive hd ho h4, fun o ho h4 hhalf hshut => ?_, fun o ho h4 hhalf => ?_⟩,
    fun s m n hn halive hm => ⟨fun hrdy howns hbusy hdone => ?_, fun hshut => ?_⟩⟩
  · refine next_congr ((State.writeBurst_mailbox halive hd ho h4).trans ?_)
    rw [State.writeCut_mailbox s ho, if_neg (by omega), if_pos hshut.symm]
  · refine next_congr ((State.writeBurst_mailbox halive hd ho h4).trans ?_)
    rw [State.writeCut_mailbox s ho, if_pos hhalf, State.endTxn_zero]
  · have hbell : m.doorbell n = (m.ring n .host 0 0 0, false) := by
      simp only [State.doorbell, hrdy, howns, hbusy, hdone, Bool.not_false, Bool.and_self, if_true]
    refine ⟨m.ring n .host 0 0 0, ?_, rfl, fun k => ?_, rfl⟩
    · rw [exec_mbDoorbell halive hn, ← hm, hbell]
      rfl
    · have hring : (m.ring n .host 0 0 0).mbAt k = (m.setMb n fun _ =>
          { busy := true, owner := .host, port := 0
            feats := if (m.sesAt (m.request n).session).state = .openS && (m.sesAt (m.request n).session).offered
              then (m.sesAt (m.request n).session).features else 1 }).mbAt k := rfl
      rw [hring, State.mbAt_setMb]
      simp only [Bool.and_eq_true, decide_eq_true_eq]
  · have hbell : m.doorbell n = (m, true) := by
      rw [State.doorbell, if_neg]
      rcases hshut with h | h | h | h <;> simp [h]
    rw [exec_mbDoorbell halive hn, ← hm, hbell]
    rfl

end Sys2Proof
end

section
/-! PROOFS. The order rows (R120, R122): each is one run of its order with what its payload asks for beyond its row, and a
status that turns a request away answers it with nothing else changed. -/
set_option Elab.async false
namespace Sys2Proof.Machine

/-- The privilege an order asks for by what its payload names. -/
def extraPrivilege (code : Nat) : Req → State → Bool :=
  if code = 0x0101 then mayOpen else if code = 0x0104 then mayInstall
  else if code = 0x0B04 ∨ code = 0x0C07 then onEthernet else if code = 0x1102 then mayStepBack else anyRequest

/-- The feature an order asks for by what its payload names. -/
def extraFeature (code : Nat) : Req → State → Bool :=
  if code = 0x0302 then mayWrite else if code = 0x0702 ∨ code = 0x0704 then mayName else anyRequest

/-- Every order row runs its order. -/
theorem IsOrder.exec_eq {i : Instr} {code mb : Nat} (h : IsOrder i code mb) : ∃ body : Req → State → State, ∀ s,
    exec i s = .next (s.runOrderWith code mb (extraPrivilege code) (extraFeature code) body) := by
  cases h <;> exact ⟨_, fun _ => rfl⟩

/-- An order row whose request does not stand in front, or that the warden cannot start, changes nothing. -/
theorem State.runOrderWith_idle {s : State} {code mb : Nat}
    (h : s.host.orders.head? ≠ some mb ∨ s.wardenRuns = false ∨ (s.request mb).order ≠ code)
    (mayP mayF : Req → State → Bool) (body : Req → State → State) : s.runOrderWith code mb mayP mayF body = s := by
  have hfront : s.frontOrder code mb = none := by
    rw [State.frontOrder, if_neg]
    rcases h with h | h | h <;> simp [h]
  rw [State.runOrderWith, hfront]

/-- A front order that a status turns away is answered with it. -/
theorem State.runOrderWith_refused {s : State} {code mb : Nat} {mayP mayF : Req → State → Bool} {st : Status}
    (hfront : s.host.orders.head? = some mb) (hruns : s.wardenRuns = true) (hcode : (s.request mb).order = code)
    (hjudge : s.judgeWith (s.request mb) (mayP (s.request mb) s.taken) (mayF (s.request mb) s.taken) = some st)
    (body : Req → State → State) : s.runOrderWith code mb mayP mayF body = s.answer mb st [] := by
  have htaken : s.taken.judgeWith (s.request mb) (mayP (s.request mb) s.taken) (mayF (s.request mb) s.taken) = some st :=
    hjudge
  simp only [State.runOrderWith, State.frontOrder, hfront, hruns, hcode, decide_true, Bool.and_self, if_true]
  show State.drainUnknown 16 (match s.taken.judgeWith (s.request mb) (mayP (s.request mb) s.taken)
      (mayF (s.request mb) s.taken) with
    | some st => s.taken.refuse (s.request mb) st
    | none => body (s.request mb) s.taken) = _
  rw [htaken]
  rfl

/-- R122's statuses 2 to 6 for a request whose order has a row. -/
theorem State.judge_of_row {s : State} {q : Req} {r : OrderRow} (hrow : orderRow q.order = some r) : s.judge q =
    if q.len > 496 ∨ q.flags ≥ 4 then some .badArg
    else if !s.sessionOk q r then some .privilege
    else if !(r.feats.all fun f => bit q.feats f) then some .notNegotiated
    else if bit q.flags 0 && !geq32 s.sluice.generation q.minGen then some .staleGeneration
    else if !r.served s then some .wrongMode
    else none := by
  rw [State.judge, hrow]

/-- Length and flags, and the session, are judged before what the payload asks for. -/
theorem State.judgeWith_early {s : State} {q : Req} {st : Status} (h : s.judge q = some st)
    (hst : st = .badArg ∨ st = .privilege) (p f : Bool) : s.judgeWith q p f = some st := by
  rcases hst with rfl | rfl <;> simp only [State.judgeWith, h]

/-- Past the session, the privilege and then the feature that the payload asks for are judged before the rest. -/
theorem State.judgeWith_late {s : State} {q : Req}
    (h : ∀ st, s.judge q = some st → st = .notNegotiated ∨ st = .staleGeneration ∨ st = .wrongMode) (p f : Bool) :
    s.judgeWith q p f = if !p then some .privilege else if !f then some .notNegotiated else s.judge q := by
  unfold State.judgeWith
  cases hj : s.judge q with
  | none => rfl
  | some st => obtain rfl | rfl | rfl := h st hj <;> rfl

/-- What the payload asks for is judged without the list of accepted orders. -/
theorem extras_taken (s : State) (q : Req) (code : Nat) :
    extraPrivilege code q s.taken = extraPrivilege code q s ∧ extraFeature code q s.taken = extraFeature code q s := by
  unfold extraPrivilege extraFeature
  constructor
  · repeat' split
    all_goals rfl
  · repeat' split
    all_goals rfl

end Sys2Proof.Machine

namespace Sys2Proof
open Machine

/-- Settles O57: the statuses of R122 in the order in which `judge` and `judgeWith` ask. -/
theorem orderStatusPriority : Obligations.OrderStatusPriority := by
  intro i code mb horder s
  obtain ⟨body, hexec⟩ := horder.exec_eq
  simp only [hexec]
  have hidle := fun h => next_congr (State.runOrderWith_idle (s := s) (code := code) (mb := mb) h
    (extraPrivilege code) (extraFeature code) body)
  refine ⟨fun h => hidle (.inl h), fun h => hidle (.inr (.inl h)), fun h => hidle (.inr (.inr h)),
    fun r hfront hruns hcode hrow => ?_⟩
  have hjudge := State.judge_of_row (s := s) (q := s.request mb) (hcode.symm ▸ hrow)
  obtain ⟨hp, hf⟩ := extras_taken s (s.request mb) code
  have hrefuse : ∀ {st : Status}, s.judgeWith (s.request mb) (extraPrivilege code (s.request mb) s)
      (extraFeature code (s.request mb) s) = some st →
      (Host.Outcome.next (s.runOrderWith code mb (extraPrivilege code) (extraFeature code) body) :
        Host.Outcome State Fault Refusal) = .next (s.answer mb st []) := fun h =>
    next_congr (State.runOrderWith_refused hfront hruns hcode (by rw [hp, hf]; exact h) body)
  refine ⟨fun hlayout => hrefuse (State.judgeWith_early (by rw [hjudge, if_pos hlayout]) (.inl rfl) _ _),
    fun hlen hflags => ⟨fun hsession => hrefuse (State.judgeWith_early ?_ (.inr rfl) _ _), fun hsession => ?_⟩⟩
  · rw [hjudge, if_neg (by omega), hsession]
    rfl
  · rw [if_neg (by omega), hsession, Bool.not_true, if_neg Bool.false_ne_true] at hjudge
    have hlate : ∀ st, s.judge (s.request mb) = some st → st = .notNegotiated ∨ st = .staleGeneration ∨ st = .wrongMode := by
      intro st hst
      rw [hjudge] at hst
      split at hst
      · cases hst; exact .inl rfl
      · split at hst
        · cases hst; exact .inr (.inl rfl)
        · split at hst
          · cases hst; exact .inr (.inr rfl)
          · cases hst
    have hwith := State.judgeWith_late hlate (extraPrivilege code (s.request mb) s) (extraFeature code (s.request mb) s)
    refine ⟨extraPrivilege code (s.request mb) s, extraFeature code (s.request mb) s, ?_, ?_, ?_, ?_, ?_, ?_, ?_, ?_,
      fun hpriv => hrefuse ?_, fun hpriv hfeat => hrefuse ?_, fun hpriv hfeat hfeats => ⟨fun hflag hgen => hrefuse ?_,
        fun hgen hserved => hrefuse ?_⟩⟩
    · rintro rfl; rfl
    · rintro rfl; rfl
    · rintro (rfl | rfl) <;> rfl
    · rintro rfl; rfl
    · intro hnot
      simp only [List.mem_cons, List.not_mem_nil, or_false, not_or] at hnot
      obtain ⟨h1, h2, h3, h4, h5⟩ := hnot
      simp only [extraPrivilege, h1, h2, h3, h4, h5, or_self, if_false, anyRequest]
    · rintro rfl; rfl
    · rintro (rfl | rfl) <;> rfl
    · intro hnot
      simp only [List.mem_cons, List.not_mem_nil, or_false, not_or] at hnot
      obtain ⟨h1, h2, h3⟩ := hnot
      simp only [extraFeature, h1, h2, h3, or_self, if_false, anyRequest]
    · rw [hwith, hpriv]; rfl
    · rw [hwith, hpriv, hjudge]
      rcases hfeat with h | h
      · rw [h]; rfl
      · rw [h]; cases extraFeature code (s.request mb) s <;> rfl
    · rw [hwith, hpriv, hfeat, hjudge, hfeats, bit, hflag, hgen]; rfl
    · rw [hwith, hpriv, hfeat, hjudge, hfeats, hserved]
      rcases hgen with h | h <;> simp [bit, h]

end Sys2Proof
end

section
/-! PROOFS. The layout check (R122, R501): an order whose body turns the request away is answered with that status. -/
set_option Elab.async false
namespace Sys2Proof.Machine

/-- An order that starts, and whose body only refuses the request, is answered so. -/
theorem State.runOrder_refuses {s : State} {code mb : Nat} {st : Status} {body : Req → State → State}
    (hstart : s.starts code mb) (hbody : body (s.request mb) s.taken = s.taken.refuse (s.request mb) st) :
    (.next (s.runOrder code mb body) : Host.Outcome State Fault Refusal) = .next (s.answer mb st []) :=
  next_congr ((State.runOrder_starts hstart body).trans (congrArg State.followed hbody))

/-- The same for an order whose payload asks for more, and has it. -/
theorem State.runOrderWith_refuses {s : State} {code mb : Nat} {st : Status} {mayP mayF : Req → State → Bool}
    {body : Req → State → State} (hstart : s.starts code mb) (hp : mayP (s.request mb) s = true)
    (hf : mayF (s.request mb) s = true) (hpt : mayP (s.request mb) s.taken = mayP (s.request mb) s)
    (hft : mayF (s.request mb) s.taken = mayF (s.request mb) s)
    (hbody : body (s.request mb) s.taken = s.taken.refuse (s.request mb) st) :
    (.next (s.runOrderWith code mb mayP mayF body) : Host.Outcome State Fault Refusal) = .next (s.answer mb st []) :=
  next_congr ((State.runOrderWith_starts hstart (hpt.trans hp) (hft.trans hf) body).trans (congrArg State.followed hbody))

end Sys2Proof.Machine

namespace Sys2Proof
open Machine

/-- Settles O58: every body checks its layout first, or after the statuses that the second list names. -/
theorem badLayoutAnsweredBadArg : Obligations.BadLayoutAnsweredBadArg := by
  intro s mb
  constructor
  · simp only [List.forall_mem_cons, List.not_mem_nil, false_imp_iff, implies_true, and_true]
    repeat' apply And.intro
    all_goals
      intro hstart hlay
      exact State.runOrder_refuses hstart (by simp only [hlay, Bool.not_false, Bool.true_or, if_true])
  · simp only [List.forall_mem_cons, List.not_mem_nil, false_imp_iff, implies_true, and_true]
    refine ⟨?yield, ?fabric, ?rotate, ?blockreset, ?keyinstall, ?timeSet, ?withdraw, ?forget⟩
    all_goals intro hstart hpre hlay
    case yield =>
      have htoken : s.taken.token = true := hpre
      exact State.runOrder_refuses hstart (by simp [hlay, htoken])
    case fabric =>
      have hmember : s.taken.member = true := hpre
      exact State.runOrder_refuses hstart (by simp [hlay, hmember])
    case rotate =>
      have hrotation : s.taken.rotationWaits = false := by
        show s.rotationWaits = false
        simpa using hpre
      exact State.runOrder_refuses hstart (by simp [hlay, hrotation])
    case blockreset =>
      have hpowered : (decide ((s.request mb).u 0 1 < 16) && !s.taken.blockPowered ((s.request mb).u 0 1)) = false := by
        show (decide ((s.request mb).u 0 1 < 16) && !s.blockPowered ((s.request mb).u 0 1)) = false
        cases hd : decide ((s.request mb).u 0 1 < 16) <;> simp_all
      exact State.runOrder_refuses hstart (by simp [hlay, hpowered])
    case keyinstall => exact State.runOrderWith_refuses hstart hpre rfl rfl rfl (by simp [hlay])
    case timeSet => exact State.runOrderWith_refuses hstart hpre rfl rfl rfl (by simp [hlay])
    case withdraw => exact State.runOrderWith_refuses hstart rfl hpre rfl rfl (by simp [hlay])
    case forget => exact State.runOrderWith_refuses hstart rfl hpre rfl rfl (by simp [hlay])

end Sys2Proof
end

section
/-! PROOFS. A response (R119 step 4, R128, R411): delivered into the response half of its mailbox, or held. -/
set_option Elab.async false
namespace Sys2Proof.Machine

/-- The response half of mailbox `n` filled with `r`, and the run of BUSY answers counted. -/
def State.filled (s : State) (n : Nat) (r : Bytes) (busyRun : Nat) : State :=
  { s.writeResponse n r with host := { (s.writeResponse n r).host with busyRun := busyRun } }

theorem State.filled_host (s : State) (n : Nat) (r : Bytes) (busyRun : Nat) : (s.filled n r busyRun).host =
    { s.host with ram := memWriteN s.host.ram (mbBase n + 0x200) (padTo 512 r), busyRun := busyRun } := rfl

/-- What a response in `t` to mailbox `n` of `s` has left, whatever the transport. -/
structure Delivered (s t : State) (n : Nat) (r : Bytes) : Prop where
  half : memReadN t.host.ram (mbBase n + 0x200) 512 = padTo 512 r
  other : ∀ a, (a < mbBase n + 0x200 ∨ mbBase n + 0x400 ≤ a) → memRead t.host.ram a = memRead s.host.ram a
  mailboxes : ∀ m, m ≠ n → t.mbAt m = s.mbAt m
  user : t.host.user = s.host.user
  only : Only [.host, .tw, .sent] s t

theorem length_padTo {n : Nat} {l : Bytes} (h : l.length ≤ n) : (padTo n l).length = n := by
  rw [padTo, List.length_append, length_zeros]; omega

/-- A delivery leaves what a response leaves when it differs from the filled mailbox in this mailbox's state, in sessions,
in the mask and beside the host port only. -/
theorem Delivered.of_filled {s t : State} {n : Nat} {r : Bytes} (hr : r.length ≤ 512)
    (hram : t.host.ram = memWriteN s.host.ram (mbBase n + 0x200) (padTo 512 r)) (huser : t.host.user = s.host.user)
    (hmb : ∀ m, m ≠ n → t.mbAt m = s.mbAt m) (honly : Only [.host, .tw, .sent] s t) : Delivered s t n r := by
  have hlen := length_padTo hr
  refine ⟨?_, fun a ha => ?_, hmb, huser, honly⟩
  · have hread := memReadN_writeN s.host.ram (mbBase n + 0x200) (padTo 512 r)
    rwa [hlen, ← hram] at hread
  · rw [hram, memRead_writeN, hlen, if_neg (by omega)]

/-- The response bytes fit the response half. -/
theorem State.length_responseBytes (s : State) (q : Req) (st : Status) {payload : Bytes} (epoch : Nat)
    (h : payload.length ≤ 496) : (s.responseBytes q st payload epoch).length ≤ 512 := by
  simp only [State.responseBytes, List.length_append, List.length_cons, List.length_nil, length_leBytes]
  omega

/-- What goes out over Ethernet leaves everything but what has been sent. -/
theorem State.sendEth_host (s : State) (p : Nat) (d : Bytes) : (s.sendEth p d).host = s.host :=
  (State.sendEth_foot s p d).1 .host rfl

theorem State.freeMb_mbAt (s : State) (n m : Nat) : (s.freeMb n).mbAt m = if m = n then {} else s.mbAt m :=
  State.mbAt_setMb s n (fun _ => {}) m

theorem State.freeMb_host {s t : State} (h : s.host = t.host) (n : Nat) : (s.freeMb n).host = (t.freeMb n).host := by
  simp only [State.freeMb, State.setMb, h]

/-- A delivery over Ethernet sends the response and frees the mailbox. -/
theorem State.deliver_ethernet {s : State} {n : Nat} {st : Status} {payload : Bytes} {epoch : Nat}
    (hlen : payload.length ≤ 496) (howner : (s.mbAt n).owner = .ethernet) :
    Delivered s (s.deliver n st payload epoch) n (s.responseBytes (s.request n) st payload epoch) ∧
      (s.deliver n st payload epoch).mbAt n = {} ∧
      (s.deliver n st payload epoch).host.busyRun = if st = .busy then s.host.busyRun + 1 else 0 := by
  have hfoot := (State.deliver_foot s n st payload epoch).onlyIn [.host, .tw, .sent]
  have hfilled : ∃ d ses, s.deliver n st payload epoch = (((s.filled n (s.responseBytes (s.request n) st payload epoch)
      (if st = .busy then s.host.busyRun + 1 else 0)).setSes (s.request n).session ses).sendEth (s.mbAt n).port d).freeMb n := by
    simp only [State.deliver, howner]
    exact ⟨_, _, rfl⟩
  obtain ⟨d, ses, heq⟩ := hfilled
  generalize (if st = .busy then s.host.busyRun + 1 else 0) = run at heq ⊢
  generalize hr : s.responseBytes (s.request n) st payload epoch = r at heq ⊢
  have hhost : (s.deliver n st payload epoch).host =
      (((s.filled n r run).setSes (s.request n).session ses).freeMb n).host := by
    rw [heq]
    exact State.freeMb_host (State.sendEth_host _ _ _) n
  refine ⟨.of_filled (hr ▸ s.length_responseBytes _ _ _ hlen) ?_ ?_ (fun m hm => ?_) hfoot, ?_, ?_⟩
  · rw [hhost]; rfl
  · rw [hhost]; rfl
  · rw [heq, State.freeMb_mbAt, if_neg hm, State.mbAt, State.sendEth_host]; rfl
  · rw [heq, State.freeMb_mbAt, if_pos rfl]
  · rw [hhost]; rfl

/-- A delivery to the host port or TW0 completes the mailbox. -/
theorem State.deliver_mailbox {s : State} {n : Nat} {st : Status} {payload : Bytes} {epoch : Nat}
    (hlen : payload.length ≤ 496) (howner : (s.mbAt n).owner ≠ .ethernet) :
    Delivered s (s.deliver n st payload epoch) n (s.responseBytes (s.request n) st payload epoch) ∧
      (s.deliver n st payload epoch).mbAt n =
        { s.mbAt n with busy := false, done := true, quiet := bit (s.request n).flags 1 } ∧
      (s.deliver n st payload epoch).sent = s.sent ∧
      (s.deliver n st payload epoch).host.busyRun = if st = .busy then s.host.busyRun + 1 else 0 := by
  have hfoot := (State.deliver_foot s n st payload epoch).onlyIn [.host, .tw, .sent]
  have hfilled : ∃ tw, s.deliver n st payload epoch = { (s.filled n (s.responseBytes (s.request n) st payload epoch)
      (if st = .busy then s.host.busyRun + 1 else 0)).setMb n (fun m =>
        { m with busy := false, done := true, quiet := bit (s.request n).flags 1 }) with tw := tw } := by
    cases h : (s.mbAt n).owner with
    | ethernet => exact absurd h howner
    | free => simp only [State.deliver, h]; exact ⟨_, rfl⟩
    | host => simp only [State.deliver, h]; exact ⟨_, rfl⟩
    | tw0 => simp only [State.deliver, h]; exact ⟨_, rfl⟩
  obtain ⟨tw, heq⟩ := hfilled
  generalize (if st = .busy then s.host.busyRun + 1 else 0) = run at heq ⊢
  generalize hr : s.responseBytes (s.request n) st payload epoch = r at heq ⊢
  have hmb : ∀ m, (s.deliver n st payload epoch).mbAt m = if m = n then
      { s.mbAt n with busy := false, done := true, quiet := bit (s.request n).flags 1 } else s.mbAt m := by
    intro m
    rw [heq]
    exact State.mbAt_setMb (s.filled n r run) n _ m
  refine ⟨.of_filled (hr ▸ s.length_responseBytes _ _ _ hlen) (by rw [heq]; rfl) (by rw [heq]; rfl)
    (fun m hm => by rw [hmb, if_neg hm]) hfoot, by rw [hmb, if_pos rfl], by rw [heq]; rfl, by rw [heq]; rfl⟩

/-- An answer that nothing holds, in a run of BUSY answers that is not complete, is the delivery. -/
theorem State.reply_delivers {s : State} {q : Req} {st : Status} {payload : Bytes} (hholds : s.holdsReply q.mb = false)
    (hrun : (s.deliver q.mb st payload s.clocks.epoch).host.busyRun < 100) :
    s.reply q st payload = s.deliver q.mb st payload s.clocks.epoch := by
  simp only [State.reply, State.replyAt, State.respond, hholds, Bool.false_eq_true, if_false]
  rw [if_neg (by omega)]

end Sys2Proof.Machine

namespace Sys2Proof
open Machine

/-- Settles O60: by the delivery of each transport, and by the held answer. -/
theorem responseFillsItsHalf : Obligations.ResponseFillsItsHalf := by
  intro s q st payload _ hlen hbusy
  refine ⟨fun hhalted hgen => ?_, fun hheld hrun => ?_⟩
  · have hholds : s.holdsReply q.mb = false := by
      rcases hgen with h | h <;> simp [State.holdsReply, hhalted, h]
    have hrun : (if st = .busy then s.host.busyRun + 1 else 0) < 100 := by
      split
      · next h => exact hbusy.elim (fun h' => absurd h h') fun h' => by omega
      · decide
    by_cases howner : (s.mbAt q.mb).owner = .ethernet
    · obtain ⟨⟨hhalf, hother, hmailboxes, huser, honly⟩, hmb, hrun'⟩ :=
        State.deliver_ethernet (st := st) (epoch := s.clocks.epoch) hlen howner
      refine ⟨_, State.reply_delivers hholds (Nat.lt_of_le_of_lt (Nat.le_of_eq hrun') hrun), hhalf, hother, hmailboxes, huser,
        fun h => absurd howner h, fun _ => ?_, honly⟩
      rw [hmb]
      exact ⟨rfl, rfl, rfl⟩
    · obtain ⟨⟨hhalf, hother, hmailboxes, huser, honly⟩, hmb, hsent, hrun'⟩ :=
        State.deliver_mailbox (st := st) (epoch := s.clocks.epoch) hlen howner
      refine ⟨_, State.reply_delivers hholds (Nat.lt_of_le_of_lt (Nat.le_of_eq hrun') hrun), hhalf, hother, hmailboxes, huser,
        fun _ => ?_, fun h => absurd h howner, honly⟩
      rw [hmb]
      exact ⟨rfl, rfl, hsent, rfl⟩
  · have hholds : s.holdsReply q.mb = true := by
      rcases hheld with h | ⟨h, h'⟩ <;> simp [State.holdsReply, *]
    have hreply : s.reply q st payload = { s with sluice := { s.sluice with heldReplies := s.sluice.heldReplies ++
        [{ mailbox := q.mb, status := st.code, payload := payload, epoch := s.clocks.epoch }] } } := by
      simp only [State.reply, State.replyAt, State.respond, hholds, if_true]
      rw [if_neg (by omega)]
    refine ⟨_, hreply, rfl, ?_⟩
    exact Foot.onlyIn (Foot.sluice (l := 0x100000) Foot.same) [.sluice]

end Sys2Proof
end

section
/-! PROOFS. The logbook orders (R465, R466, R471): each body on the state with its request taken. -/
set_option Elab.async false
namespace Sys2Proof.Machine

/-- What an order that starts makes of the state, by what its body makes of it. -/
theorem State.runOrder_does {s x : State} {code mb : Nat} {body : Req → State → State}
    (hstart : s.starts code mb) (hbody : body (s.request mb) s.taken = x) :
    (.next (s.runOrder code mb body) : Host.Outcome State Fault Refusal) = .next x.followed :=
  next_congr ((State.runOrder_starts hstart body).trans (congrArg State.followed hbody))

/-- The same for an order whose payload asks for more, and has it. -/
theorem State.runOrderWith_does {s x : State} {code mb : Nat} {mayP mayF : Req → State → Bool}
    {body : Req → State → State} (hstart : s.starts code mb) (hp : mayP (s.request mb) s.taken = true)
    (hf : mayF (s.request mb) s.taken = true) (hbody : body (s.request mb) s.taken = x) :
    (.next (s.runOrderWith code mb mayP mayF body) : Host.Outcome State Fault Refusal) = .next x.followed :=
  next_congr ((State.runOrderWith_starts hstart hp hf body).trans (congrArg State.followed hbody))

/-- Among 16 numbers one is free while fewer than 8 are taken. -/
theorem exists_free_id (l : List Subscription) (h : l.length < 8) :
    ∃ id, firstN (fun i => l.all fun y => decide (y.id ≠ i)) (countFrom 16 1) = some id ∧ 1 ≤ id ∧ id ≤ 16 ∧
      ∀ y ∈ l, y.id ≠ id := by
  cases hfind : firstN (fun i => l.all fun y => decide (y.id ≠ i)) (countFrom 16 1) with
  | none =>
    rw [firstN_eq_find?, List.find?_eq_none] at hfind
    have hsub : countFrom 16 1 ⊆ l.map (·.id) := by
      intro i hi
      have htaken := hfind i hi
      simp only [List.all_eq_true, decide_eq_true_eq, Classical.not_forall, Classical.not_not] at htaken
      obtain ⟨y, hy, hid⟩ := htaken
      exact List.mem_map.mpr ⟨y, hy, hid⟩
    have hnodup : (countFrom 16 1).Nodup := by
      rw [countFrom_eq_range']
      exact List.nodup_range'
    have hle := hnodup.length_le_of_subset hsub
    rw [length_countFrom, List.length_map] at hle
    omega
  | some id =>
    rw [firstN_eq_find?] at hfind
    have hmem := mem_countFrom.mp (List.mem_of_find?_eq_some hfind)
    have hfree := List.find?_some hfind
    simp only [List.all_eq_true, decide_eq_true_eq] at hfree
    exact ⟨id, rfl, hmem.1, by omega, hfree⟩

/-- A subscription within the limits of R441 gets a number that none has. -/
theorem State.subscribe_within {s : State} (x : Subscription) (h8 : s.log.subs.length < 8)
    (h4 : (s.log.subs.filter fun y => decide (y.session = x.session)).length < 4) :
    ∃ id, s.subscribe x = some ({ s with log := { s.log with subs := s.log.subs ++ [{ x with id := id }] } }, id) ∧
      1 ≤ id ∧ id ≤ 16 ∧ ∀ y ∈ s.log.subs, y.id ≠ id := by
  obtain ⟨id, hid, h1, h16, hfree⟩ := exists_free_id s.log.subs h8
  refine ⟨id, ?_, h1, h16, hfree⟩
  rw [State.subscribe, if_neg (by omega), hid]
  rfl

/-- No damaged record changes nothing. -/
@[simp] theorem State.logDamaged_zero (s : State) : s.logDamaged 0 = s := rfl

/-- The records of a range that is held are all looked at. -/
theorem filter_held {n lo oldest head : Nat} (h1 : oldest ≤ lo) (h2 : lo + n ≤ head + 1) :
    (countFrom n lo).filter (fun x => decide (oldest ≤ x) && decide (x ≤ head)) = countFrom n lo := by
  refine List.filter_eq_self.mpr fun x hx => ?_
  rw [mem_countFrom] at hx
  simp only [Bool.and_eq_true, decide_eq_true_eq]
  omega

/-- The one number of a range at which a value is not 0. -/
theorem filter_single {n lo k : Nat} (f : Nat → Nat) (hk : k < n) (hf : f (lo + k) ≠ 0)
    (h : ∀ i, i < n → i ≠ k → f (lo + i) = 0) :
    ((countFrom n lo).map fun x => (x, f x)).filter (fun e : Nat × Nat => decide (e.2 ≠ 0)) = [(lo + k, f (lo + k))] := by
  have hfilter : (countFrom n lo).filter (fun x => decide (f x ≠ 0)) = (countFrom n lo).filter (fun x => decide (x = lo + k)) := by
    refine List.filter_congr fun x hx => ?_
    rw [mem_countFrom] at hx
    rw [decide_eq_decide]
    constructor
    · intro hne
      refine Classical.byContradiction fun hx' => ?_
      have hx0 := h (x - lo) (by omega) (by omega)
      rw [show lo + (x - lo) = x by omega] at hx0
      exact hne hx0
    · rintro rfl
      exact hf
  have hcount : (countFrom n lo).count (lo + k) = 1 :=
    (List.Nodup.count (by rw [countFrom_eq_range']; exact List.nodup_range')).trans (if_pos (mem_countFrom.mpr (by omega)))
  have hone : (countFrom n lo).filter (fun x => decide (x = lo + k)) = [lo + k] := by
    rw [List.filter_eq, hcount]
    rfl
  rw [List.filter_map]
  show ((countFrom n lo).filter (fun x => decide (f x ≠ 0))).map _ = _
  rw [hfilter, hone]
  rfl

end Sys2Proof.Machine

namespace Sys2Proof
open Machine

/-- Settles O4: each order's body under its layout. -/
theorem logbookReads : Obligations.LogbookReads := by
  refine ⟨fun s => ⟨fun hload => ?_, fun hload => ?_⟩, ?_, ?_⟩
  · simp only [exec, execLoadComplete, hload, if_true, State.loadWindow]
  · simp only [exec, execLoadComplete, hload, Bool.false_eq_true, if_false]
  · rintro s mb q rfl
    refine ⟨fun hstart hlay => ?_, fun hstart hlay h1 h7 v hv => ?_, fun hstart hlay h7 => ?_⟩
    · exact State.runOrder_does hstart (by simp only [hlay, Bool.not_true, Bool.false_eq_true, if_false]; rfl)
    · refine State.runOrder_does hstart ?_
      have hok : (!(s.request mb).lay 12 [(9, 3)] || decide ((s.request mb).u 8 1 = 0) ||
          decide (7 < (s.request mb).u 8 1)) = false := by
        rw [hlay, decide_eq_false (by omega), decide_eq_false (by omega)]
        rfl
      simp only [hok, Bool.false_eq_true, if_false]
      rw [hv]
      rfl
    · refine State.runOrder_does hstart ?_
      have hok : (!(s.request mb).lay 4 [(1, 3)] || decide (7 < (s.request mb).u 0 1)) = false := by
        rw [hlay, decide_eq_false (by omega)]
        rfl
      simp only [hok, Bool.false_eq_true, if_false]
      rfl
  · rintro s mb q rfl hstart hlay h1 hmax
    have hok : (!(s.request mb).lay 12 [(10, 2)] || decide ((s.request mb).u 8 2 = 0) ||
        decide (16384 < (s.request mb).u 8 2)) = false := by
      rw [hlay, decide_eq_false (by omega), decide_eq_false (by omega)]
      rfl
    refine ⟨fun hlocked => ?_, fun hlocked hold hhead hgood => ?_, fun k hlocked hold hhead hk hbad hgood => ?_⟩
    · have hlocked' : s.taken.secretLocked [1] = true := hlocked
      exact State.runOrder_does hstart (by simp only [hok, hlocked', Bool.false_eq_true, if_false, if_true]; rfl)
    · have hlocked' : s.taken.secretLocked [1] = false := hlocked
      refine State.runOrder_does hstart ?_
      have hnone : ((countFrom ((s.request mb).u 8 2) ((s.request mb).u 0 8)).map fun x => (x, s.taken.verifyOne x)).filter
          (fun e : Nat × Nat => decide (e.2 ≠ 0)) = [] := by
        refine List.filter_eq_nil_iff.mpr fun e he => ?_
        obtain ⟨x, hx, rfl⟩ := List.mem_map.mp he
        rw [mem_countFrom] at hx
        have hx0 := hgood (x - (s.request mb).u 0 8) (by omega)
        rw [show (s.request mb).u 0 8 + (x - (s.request mb).u 0 8) = x by omega] at hx0
        have hx' : s.taken.verifyOne x = 0 := hx0
        simp [hx']
      have hheld := filter_held (oldest := s.taken.log.oldest) (head := s.taken.log.head) hold hhead
      simp only [hok, hlocked', Bool.false_eq_true, if_false, hheld, hnone]
      rw [length_countFrom]
      rfl
    · have hlocked' : s.taken.secretLocked [1] = false := hlocked
      refine State.runOrder_does hstart ?_
      have hone := filter_single (lo := (s.request mb).u 0 8) s.taken.verifyOne hk (by
        show s.verifyOne _ ≠ 0
        rw [hbad]
        decide) hgood
      have hbad' : s.taken.verifyOne ((s.request mb).u 0 8 + k) = 2 := hbad
      rw [hbad'] at hone
      have hheld := filter_held (oldest := s.taken.log.oldest) (head := s.taken.log.head) hold hhead
      simp only [hok, hlocked', Bool.false_eq_true, if_false, hheld, hone]
      rw [length_countFrom]
      rfl

/-- Settles O5: each order's body under its layout and limits. -/
theorem logbookChangingOrders : Obligations.LogbookChangingOrders := by
  rintro s mb q rfl
  refine ⟨fun hstart hlay hnotes => ?_, fun hstart hlay htail hhead => ?_, fun u => rfl, fun hstart hlay hmagic => ?_,
    fun hstart hether hlay h8 h4 => ?_, fun hstart hlay hmine => ?_⟩
  · have hten : ¬10 ≤ (s.taken.sesAt (s.request mb).session).notes := Nat.not_le.mpr hnotes
    exact State.runOrder_does hstart
      (by simp only [hlay, hten, Bool.not_true, Bool.false_eq_true, if_false])
  · have hok : (!(s.request mb).lay 8 [] || decide ((s.request mb).u 0 8 < s.taken.log.tail) ||
        decide (s.taken.log.head + 1 < (s.request mb).u 0 8)) = false := by
      simp only [State.taken_left, hlay, Nat.not_lt.mpr htail, Nat.not_lt.mpr hhead, decide_false, Bool.not_true, Bool.or_self]
    exact State.runOrder_does hstart (by simp only [hok, Bool.false_eq_true, if_false])
  · exact State.runOrder_does hstart
      (by simp only [hlay, hmagic, Bool.not_true, ne_eq, not_true, decide_false, Bool.or_self, Bool.false_eq_true, if_false]; rfl)
  · obtain ⟨id, hsub, h1, h16, hfree⟩ := State.subscribe_within (s := s.taken)
      { id := 0, session := (s.request mb).session, log := true, kind := 0, row := 0, decim := 0
        next := (s.request mb).u 0 8, classes := (s.request mb).u 8 4, gone := 0 } h8 h4
    refine ⟨{ id := id, session := (s.request mb).session, log := true, kind := 0, row := 0, decim := 0,
               next := (s.request mb).u 0 8, classes := (s.request mb).u 8 4, gone := 0 },
      State.runOrderWith_does hstart (decide_eq_true hether) rfl ?_, rfl, h1, h16, hfree⟩
    simp only [hsub, hlay, Bool.not_true, Bool.false_eq_true, if_false]
    rfl
  · refine State.runOrder_does hstart ?_
    have hunsub : s.taken.unsubscribe (s.request mb).session ((s.request mb).u 0 1) true =
        some { s.taken with log := { s.log with subs := s.log.subs.filter fun y =>
          !(decide (y.id = (s.request mb).u 0 1) && decide (y.session = (s.request mb).session) && y.log) } } := by
      have hlog : ∀ b : Bool, decide (b = true) = b := by decide
      simp only [State.unsubscribe, State.taken_left, hlog, hmine, if_true]
    simp only [hlay, hunsub, Bool.not_true, Bool.false_eq_true, if_false]

end Sys2Proof
end

section
/-! PROOFS. Staging (R450 to R456, R482): what a staged record holds, what staging leaves alone, and the order of the fault
entries and the warden's records. -/
set_option Elab.async false
namespace Sys2Proof.Machine

/-- Without an orderly shutdown under way none goes on. -/
theorem State.advanceShutdown_none {s : State} (h : s.power.shutdown = none) : s.advanceShutdown = s := by
  rw [State.advanceShutdown, h]

/-- A burst that may start changes the burst and the count of free values. -/
theorem State.startBurst_eq (s : State) : ∃ b n, s.startBurst =
    { s with log := { s.log with burst := b }, freeCount := n } := by
  unfold State.startBurst
  dsimp only
  split
  · exact ⟨_, _, rfl⟩
  · exact ⟨s.log.burst, s.freeCount, rfl⟩

/-- What starting a burst leaves alone within the log. -/
@[simp] theorem State.startBurst_within (s : State) :
    s.startBurst.log.staging = s.log.staging ∧ s.startBurst.log.next = s.log.next ∧
    s.startBurst.log.lastChain = s.log.lastChain ∧ s.startBurst.log.offers = s.log.offers ∧
    s.startBurst.log.head = s.log.head ∧ s.startBurst.log.store = s.log.store ∧
    s.startBurst.log.unbacked = s.log.unbacked ∧ s.startBurst.log.failedBursts = s.log.failedBursts ∧
    s.startBurst.faults = s.faults ∧ s.startBurst.power = s.power ∧ s.startBurst.retained = s.retained := by
  obtain ⟨b, n, h⟩ := s.startBurst_eq
  rw [h]
  exact ⟨rfl, rfl, rfl, rfl, rfl, rfl, rfl, rfl, rfl, rfl, rfl⟩

/-- The record that staging makes of an offer, before its CHAIN. -/
def State.offered (s : State) (o : LogOffer) : LogRec :=
  { seq := s.log.next, cls := o.cls, source := o.source
    flags := o.flags ||| b2n s.power.brace.isSome ||| (4 * b2n s.log.unbacked), payload := o.payload s.clocks.epoch }

/-- The record that staging makes of an offer (R450, R451). -/
def State.stagedRec (s : State) (o : LogOffer) : LogRec :=
  let r := { s.offered o with chain := chainOf s.log.chainKey s.log.lastChain (s.offered o).body }
  { r with crc := crc32c r.chained }

theorem State.stagedRec_chain (s : State) (o : LogOffer) :
    (s.stagedRec o).chain = chainOf s.log.chainKey s.log.lastChain (s.stagedRec o).body := rfl

theorem State.stagedRec_crc (s : State) (o : LogOffer) : (s.stagedRec o).crc = crc32c (s.stagedRec o).chained := rfl

/-- Where a record is staged. -/
theorem State.stage_staging (s : State) (o : LogOffer) :
    Tab.get {} (s.stage o).log.staging s.log.next = s.stagedRec o := by
  show Tab.get {} (Tab.set {} _ s.log.next (s.stagedRec o)) s.log.next = _
  rw [Tab.get_set, if_pos rfl]

/-- Staging changes the log and the words that read uncorrectable. -/
theorem State.stage_only (s : State) (o : LogOffer) : Only [.log, .faults] s (s.stage o) :=
  (State.stage_foot s o).onlyIn [.log, .faults]

/-- A plain offer is staged and nothing waits for it. -/
theorem State.stageOffer_plain (s : State) {o : LogOffer} (h : o.use = .plain) : s.stageOffer o = s.stage o := by
  simp only [State.stageOffer, h]
  rfl

theorem State.stage_unbacked (s : State) (o : LogOffer) : (s.stage o).log.unbacked = s.log.unbacked := rfl

/-- RECORD_STAGE while the logbook is backed and no shutdown is under way. -/
theorem exec_recordStage {s : State} (hshut : s.stageNext.power.shutdown = none) (hbacked : s.stageNext.log.unbacked = false) :
    exec .recordStage s = .next s.stageNext.startBurst := by
  have hunbacked : s.stageNext.startBurst.log.unbacked = false := by simpa using hbacked
  have hnone : s.stageNext.startBurst.power.shutdown = none := by simpa using hshut
  show Host.Outcome.next (if s.stageNext.startBurst.log.unbacked then s.stageNext.startBurst.pushLogs
    else s.stageNext.startBurst).advanceShutdown = _
  rw [hunbacked, if_neg Bool.false_ne_true, State.advanceShutdown_none hnone]

/-- The ring entry of a fault entry (Table 18-10). -/
def State.entryInRing (s : State) (e : FaultEntry) : RingEntry :=
  { qseq := s.faults.nextQseq, epoch := e.epoch, source := e.source, cls := e.cls, event := e.event, repeats := e.repeats
    reaction := e.reaction, data := e.data }

/-- The collector once a fault entry left its queue, for the ring too where its reactions include INTERRUPT. -/
def State.admitted (s : State) (e : FaultEntry) (rest : List FaultEntry) : Faults :=
  if bit e.reaction 1 then
    { s.faults with
      queue := rest, ring := Tab.set {} s.faults.ring (s.faults.nextQseq % 256) (s.entryInRing e)
      nextQseq := (s.faults.nextQseq + 1) % 2 ^ 32 }
  else { s.faults with queue := rest }

theorem State.admitted_queue (s : State) (e : FaultEntry) (rest : List FaultEntry) : (s.admitted e rest).queue = rest := by
  unfold State.admitted; split <;> rfl

theorem State.admitted_held (s : State) (e : FaultEntry) (rest : List FaultEntry) :
    (s.admitted e rest).held319 = s.faults.held319 := by
  unfold State.admitted; split <;> rfl

theorem State.queueHeld_none {s : State} (h : s.faults.held319 = none) : s.queueHeld = s := by
  rw [State.queueHeld, h]

/-- Parts that stay the same over two steps. -/
theorem Only.trans {l : List Part} {s t u : State} (h : Only l s t) (h' : Only l t u) : Only l s u :=
  fun p hp => Part.same_trans (h p hp) (h' p hp)

theorem Only.mono {l m : List Part} {s t : State} (h : Only l s t) (hlm : ∀ p ∈ l, p ∈ m) : Only m s t := by
  intro p hp
  refine h p ?_
  simp only [List.contains_eq_mem, decide_eq_false_iff_not] at hp ⊢
  exact fun hl => hp (hlm p hl)

theorem Only.refl (l : List Part) (s : State) : Only l s s := fun p _ => Part.same_refl p s

end Sys2Proof.Machine

namespace Sys2Proof
open Machine

/-- Settles O6: by the queue's head; the staged record is `stagedRec` of its offer. -/
theorem recordsStagedInOrder : Obligations.RecordsStagedInOrder := by
  refine ⟨fun s hshut hbacked => ⟨fun o rest hadmits hqueue hoffers huse => ?_, fun hadmits => ?_⟩,
    fun s e rest hshut hbacked hadmits hqueue hheld => ?_⟩
  · obtain ⟨x, hx⟩ : ∃ x : State, x = { s with log := { s.log with offers := rest } } := ⟨_, rfl⟩
    have hfoot : Foot 0x100 s x := hx ▸ .log .same
    have hnext : s.stageNext = x.stage o := by
      rw [State.stageNext, if_pos hadmits, hqueue, hoffers, hx]
      exact State.stageOffer_plain _ huse
    have hexec := exec_recordStage (s := s) (by rw [hnext, hx]; exact hshut) (by rw [hnext, hx]; exact hbacked)
    rw [hnext] at hexec
    have hstaging : Tab.get {} (x.stage o).log.staging s.log.next = x.stagedRec o := by
      have hsame : x.log.next = s.log.next := by rw [hx]
      rw [← hsame]
      exact State.stage_staging x o
    have hflags : (x.stagedRec o).flags = o.flags ||| if s.power.brace.isSome then 1 else 0 := by
      rw [hx]
      show o.flags ||| b2n s.power.brace.isSome ||| 4 * b2n s.log.unbacked = _
      rw [hbacked, b2n, b2n]
      simp
    have hhead : (x.stage o).log.head = s.log.head := by
      rw [hx]
      show (if s.log.unbacked then s.log.next else s.log.head) = _
      rw [hbacked]
      rfl
    have honly := ((State.startBurst_foot _).after ((State.stage_foot x o).after (hfoot.mono (l := 0x40000300)))).onlyIn
      [.log, .faults, .freeCount]
    refine ⟨(x.stage o).startBurst, x.stagedRec o, hexec, ?_, rfl, rfl, ?_, hflags, ?_, State.stagedRec_crc x o, ?_, ?_, ?_,
      ?_, ?_, ?_, honly, ?_, ?_⟩
    · rw [hx]; rfl
    · rw [hx]; rfl
    · rw [hx]; rfl
    · simpa using hstaging
    · simp only [State.startBurst_within]; rw [hx]; rfl
    · simp only [State.startBurst_within]; rfl
    · simp only [State.startBurst_within]; rw [hx]; rfl
    · simpa using hhead
    · simp only [State.startBurst_within]; rw [hx]; rfl
    · simp only [State.startBurst_within]; rw [hx]; exact hqueue
    · simp only [State.startBurst_within]; rw [hx]; rfl
  · have hnext : s.stageNext = s := by rw [State.stageNext, if_neg (by simp [hadmits])]
    have hexec := exec_recordStage (s := s) (by rw [hnext]; exact hshut) (by rw [hnext]; exact hbacked)
    rwa [hnext] at hexec
  · obtain ⟨x, hx⟩ : ∃ x : State, x = { s with faults := s.admitted e rest } := ⟨_, rfl⟩
    have hfoot : Foot 0x200 s x := hx ▸ .faults .same
    obtain ⟨o, ho⟩ : ∃ o, o = faultOffer (s.entryInRing e) e.count := ⟨_, rfl⟩
    have hnext : s.stageNext = x.stage o := by
      rw [State.stageNext, if_pos hadmits, hqueue]
      show State.queueHeld (({ s with faults := s.admitted e rest } : State).stageOffer (faultOffer (s.entryInRing e) e.count)) = _
      rw [← hx, ← ho, State.stageOffer_plain x (by rw [ho]; rfl)]
      refine State.queueHeld_none ?_
      have hsame : (x.stage o).faults.held319 = x.faults.held319 := rfl
      rw [hsame, hx]
      exact (s.admitted_held e rest).trans hheld
    have hexec := exec_recordStage (s := s) (by rw [hnext, hx]; exact hshut) (by rw [hnext, hx]; exact hbacked)
    rw [hnext] at hexec
    have hstaging : Tab.get {} (x.stage o).log.staging s.log.next = x.stagedRec o := by
      have hsame : x.log.next = s.log.next := by rw [hx]
      rw [← hsame]
      exact State.stage_staging x o
    have hring : (x.stage o).startBurst.faults.ring = (s.admitted e rest).ring ∧
        (x.stage o).startBurst.faults.nextQseq = (s.admitted e rest).nextQseq ∧
        (x.stage o).startBurst.faults.queue = (s.admitted e rest).queue := by
      simp only [State.startBurst_within]
      rw [hx]
      exact ⟨rfl, rfl, rfl⟩
    obtain ⟨hring, hqseq, hqueue'⟩ := hring
    have honly := ((State.startBurst_foot _).after ((State.stage_foot x o).after (hfoot.mono (l := 0x40000300)))).onlyIn
      [.log, .faults, .freeCount]
    refine ⟨(x.stage o).startBurst, hexec, hqueue'.trans (s.admitted_queue e rest), ?_, ?_, ?_, ?_, fun hbit => ?_,
      fun hbit => ?_, honly⟩
    · simp only [State.startBurst_within]
      rw [hx]
      rfl
    · simp only [State.startBurst_within]
      rw [hx]
      rfl
    · simp only [State.startBurst_within, hstaging]
      rw [hx]
      rfl
    · simp only [State.startBurst_within, hstaging]
      rw [ho]
      rfl
    · rw [hring, hqseq, State.admitted, bit, hbit, if_pos rfl]
      exact ⟨(Tab.get_set _ _ _ _ _).trans (if_pos rfl), rfl⟩
    · rw [hring, hqseq, State.admitted, bit, hbit]
      exact ⟨rfl, rfl⟩

end Sys2Proof
end

section
/-! PROOFS. Bursts (R456, R51, R463): the records of a matching burst are flushed one after the other, and what failed bursts
lead to. -/
set_option Elab.async false
namespace Sys2Proof.Machine

/-- A header write changes the header copies, GEN and the hint. -/
theorem State.writeHeader_eq (s : State) (hint : Nat) : ∃ g h0 h1, s.writeHeader hint =
    { s with log := { s.log with gen := g, hintSeq := hint, header0 := h0, header1 := h1 } } := by
  unfold State.writeHeader
  dsimp only
  split
  · exact ⟨_, s.log.header0, _, rfl⟩
  · exact ⟨_, _, s.log.header1, rfl⟩

/-- A push changes the counters of pushes and what has been sent. -/
theorem State.push_eq (s : State) (session : Nat) (body : Bytes) : ∃ e t, s.push session body =
    { s with eth := e, sent := t } := by
  unfold State.push State.sendEth
  dsimp only
  split
  · exact ⟨_, s.sent, rfl⟩
  · exact ⟨_, _, rfl⟩

theorem State.pushes_eq {α : Type} (session : Nat) (f : α → Bytes) (l : List α) (s : State) : ∃ e t,
    l.foldl (fun s x => s.push session (f x)) s = { s with eth := e, sent := t } := by
  induction l generalizing s with
  | nil => exact ⟨s.eth, s.sent, rfl⟩
  | cons x l ih =>
    obtain ⟨e, t, hpush⟩ := s.push_eq session (f x)
    obtain ⟨e', t', hrest⟩ := ih (s.push session (f x))
    rw [List.foldl_cons, hrest, hpush]
    exact ⟨e', t', rfl⟩

/-- The pushes of the log subscriptions change these, the counters of pushes and what has been sent. -/
theorem State.pushLogs_eq (s : State) : ∃ subs e t, s.pushLogs =
    { s with log := { s.log with subs := subs }, eth := e, sent := t } := by
  have hone : ∀ (s : State) (x : Subscription), ∃ subs e t, s.pushLog x =
      { s with log := { s.log with subs := subs }, eth := e, sent := t } := by
    intro s x
    obtain ⟨e, t, h⟩ := State.pushes_eq x.session (fun l : List LogRec => [byte x.id, byte l.length, 0, 0] ++
      leBytes 4 ((x.gone + (s.log.oldest - x.next)) % 2 ^ 32) ++ (l.map LogRec.bytes).flatten)
      (sevens ((s.log.pushable (max x.next s.log.oldest) x.classes).length + 1)
        (s.log.pushable (max x.next s.log.oldest) x.classes)) s
    unfold State.pushLog
    dsimp only
    rw [h]
    exact ⟨_, e, t, rfl⟩
  have hall : ∀ (l : List Subscription) (s : State), ∃ subs e t, l.foldl State.pushLog s =
      { s with log := { s.log with subs := subs }, eth := e, sent := t } := by
    intro l
    induction l with
    | nil => exact fun s => ⟨s.log.subs, s.eth, s.sent, rfl⟩
    | cons x l ih =>
      intro s
      obtain ⟨subs, e, t, h⟩ := hone s x
      obtain ⟨subs', e', t', h'⟩ := ih (s.pushLog x)
      rw [List.foldl_cons, h', h]
      exact ⟨subs', e', t', rfl⟩
  exact hall _ s

/-- A record of a burst is flushed as it was staged while nothing waits for it and its words read correctly. -/
theorem State.flushRecord_good {s : State} {seq : Nat} (hwatch : s.log.watch = []) (hgood : s.stagedBad seq = false) :
    ∃ mark, s.flushRecord seq = { s with
      log := { s.log with
        store := Tab.set {} s.log.store (s.log.slotOf seq) (Tab.get {} s.log.staging seq), head := seq, flushedMark := mark }
      retained := { s.retained with seq := some seq } } := by
  refine ⟨if (Tab.get ({} : LogRec) s.log.staging seq).cls = 1 then (Tab.get ({} : LogRec) s.log.staging seq).mark
    else s.log.flushedMark, ?_⟩
  simp only [State.flushRecord, hgood, Bool.false_eq_true, if_false, hwatch, List.filter_nil, List.foldl_nil]

/-- What flushing the records `first` to `first + n` leaves. -/
structure Flushed (s t : State) (first n : Nat) : Prop where
  head : t.log.head = first + n
  retained : t.retained = { s.retained with seq := some (first + n) }
  store : ∀ m, first ≤ m → m ≤ first + n → Tab.get {} t.log.store (m % s.log.capacity) = Tab.get {} s.log.staging m
  next : t.log.next = s.log.next
  staging : t.log.staging = s.log.staging
  unbacked : t.log.unbacked = s.log.unbacked
  capacity : t.log.capacity = s.log.capacity
  watch : t.log.watch = s.log.watch
  foot : Foot 0x102 s t

theorem Flushed.of_eq {s t : State} {first mark : Nat} (hcap : 0 < s.log.capacity) (h : t = { s with
      log := { s.log with
        store := Tab.set {} s.log.store (s.log.slotOf first) (Tab.get {} s.log.staging first), head := first, flushedMark := mark }
      retained := { s.retained with seq := some first } }) : Flushed s t first 0 := by
  have hslot : s.log.slotOf first = first % s.log.capacity := by rw [Logbook.slotOf, if_neg (by omega)]
  refine ⟨by rw [h]; rfl, by rw [h]; rfl, fun m h1 h2 => ?_, by rw [h], by rw [h], by rw [h], by rw [h], by rw [h], ?_⟩
  · obtain rfl : m = first := by omega
    rw [h]
    show Tab.get {} (Tab.set {} s.log.store (s.log.slotOf m) (Tab.get {} s.log.staging m)) (m % s.log.capacity) = _
    rw [hslot, Tab.get_set, if_pos rfl]
  · rw [h]
    exact Foot.update Foot.same

/-- One more record flushed. -/
theorem Flushed.succ {s t u : State} {first n : Nat} (h : Flushed s t first n) (h' : Flushed t u (first + n + 1) 0)
    (hstore : ∃ v, u.log.store = Tab.set {} t.log.store ((first + n + 1) % s.log.capacity) v)
    (hfit : n + 1 < s.log.capacity) : Flushed s u first (n + 1) := by
  refine ⟨h'.head, by rw [h'.retained, h.retained]; rfl, fun m h1 h2 => ?_, h'.next.trans h.next,
    h'.staging.trans h.staging, h'.unbacked.trans h.unbacked, h'.capacity.trans h.capacity, h'.watch.trans h.watch,
    h'.foot.after h.foot⟩
  by_cases hm : m = first + n + 1
  · have hlast := h'.store m (by omega) (by omega)
    rwa [h.capacity, h.staging] at hlast
  · obtain ⟨v, hv⟩ := hstore
    have hne : m % s.log.capacity ≠ (first + n + 1) % s.log.capacity := by
      intro heq
      have hdvd := Nat.dvd_of_mod_eq_zero (Nat.sub_mod_eq_zero_of_mod_eq heq.symm)
      have hle := Nat.le_of_dvd (by omega) hdvd
      omega
    rw [hv, Tab.get_set, if_neg hne]
    exact h.store m h1 (by omega)

/-- The records of a burst whose words all read correctly are flushed in their order. -/
theorem State.flush_all {s : State} {first : Nat} (hwatch : s.log.watch = []) (n : Nat) (hfit : n < s.log.capacity)
    (hgood : ∀ m, first ≤ m → m ≤ first + n → s.stagedBad m = false) :
    Flushed s ((countFrom (n + 1) first).foldl State.flushRecord s) first n := by
  induction n with
  | zero =>
    obtain ⟨mark, h⟩ := State.flushRecord_good hwatch (hgood first (Nat.le_refl _) (Nat.le_refl _))
    exact .of_eq (by omega) h
  | succ n ih =>
    have hprev := ih (by omega) fun m h1 h2 => hgood m h1 (by omega)
    obtain ⟨t, ht⟩ : ∃ t, t = (countFrom (n + 1) first).foldl State.flushRecord s := ⟨_, rfl⟩
    rw [← ht] at hprev
    have hsplit : countFrom (n + 1 + 1) first = countFrom (n + 1) first ++ [first + n + 1] := by
      rw [countFrom_eq_range', countFrom_eq_range', List.range'_concat, Nat.one_mul, Nat.add_assoc]
    rw [hsplit, List.foldl_append, ← ht]
    have hbad : t.stagedBad (first + n + 1) = false := by
      have hfaults : t.faults = s.faults := hprev.foot.1 .faults rfl
      have hsame : t.stagedBad (first + n + 1) = s.stagedBad (first + n + 1) := by
        simp only [State.stagedBad, State.eccAt, hfaults]
      rw [hsame]
      exact hgood _ (by omega) (by omega)
    obtain ⟨mark, h⟩ := State.flushRecord_good (hprev.watch.trans hwatch) hbad
    have hslot : t.log.slotOf (first + n + 1) = (first + n + 1) % s.log.capacity := by
      rw [Logbook.slotOf, hprev.capacity, if_neg (by omega)]
    refine hprev.succ (.of_eq (by rw [hprev.capacity]; omega) h) ⟨Tab.get {} t.log.staging (first + n + 1), ?_⟩ hfit
    show (t.flushRecord (first + n + 1)).log.store = _
    rw [h, ← hslot]

/-- What the end of a matching burst leaves beside the flushed records. -/
theorem State.burstDone_eq (s : State) (b : Burst) {t : State}
    (ht : t = (countFrom (b.last + 1 - b.first) b.first).foldl State.flushRecord s) :
    (s.burstDone b).log.head = t.log.head ∧ (s.burstDone b).retained = t.retained ∧
    (s.burstDone b).log.store = t.log.store ∧ (s.burstDone b).log.failedBursts = 0 ∧
    (s.burstDone b).log.next = t.log.next ∧ (s.burstDone b).log.staging = t.log.staging ∧
    (s.burstDone b).power = t.power ∧ Only [.log, .eth, .sent, .freeCount] t (s.burstDone b) := by
  obtain ⟨x, hx⟩ : ∃ x : State, x = { t with log := { t.log with burst := none, failedBursts := 0 } } := ⟨_, rfl⟩
  obtain ⟨y, hy⟩ : ∃ y : State, y = match headerSeq b.first b.last with | some h => x.writeHeader h | none => x := ⟨_, rfl⟩
  have hdone : s.burstDone b = y.pushLogs.startBurst := by
    rw [hy, State.burstDone, ← ht, ← hx] <;> rfl
  have hheader : ∃ l, y = { x with log := l } ∧ l.head = x.log.head ∧ l.store = x.log.store ∧
      l.failedBursts = x.log.failedBursts ∧ l.next = x.log.next ∧ l.staging = x.log.staging := by
    rw [hy]
    split
    · next h _ =>
      obtain ⟨g, h0, h1, hw⟩ := x.writeHeader_eq h
      exact ⟨_, hw, rfl, rfl, rfl, rfl, rfl⟩
    · exact ⟨x.log, rfl, rfl, rfl, rfl, rfl, rfl⟩
  obtain ⟨l, hl, hhead, hstore, hfailed, hnext, hstaging⟩ := hheader
  obtain ⟨subs, e, sent, hpush⟩ := y.pushLogs_eq
  obtain ⟨burst, n, hstart⟩ := y.pushLogs.startBurst_eq
  rw [hdone, hstart, hpush, hl, hx]
  rw [hx] at hhead hstore hfailed hnext hstaging
  refine ⟨hhead, rfl, hstore, hfailed, hnext, hstaging, rfl, ?_⟩
  intro p hp
  cases p <;> first | rfl | exact absurd hp (by decide)

end Sys2Proof.Machine

namespace Sys2Proof
open Machine

/-- Settles O7: by the outcome of the burst in flight. -/
theorem burstsFlushRecords : Obligations.BurstsFlushRecords := by
  refine ⟨fun s => ⟨fun ok hnone => ?_, fun ok b hb hbrace hmode => ?_, fun hrun => ?_⟩,
    fun s => ⟨fun h64 hbrace => ?_, fun h => ?_⟩⟩
  · simp only [exec, execBurstComplete, hnone]
  · simp only [exec, execBurstComplete, hb, hbrace, ne_eq, hmode, not_false_eq_true, and_self, if_true]
  · have hfree : ¬(s.power.brace.isSome = true ∧ s.mode ≠ .lastGasp) := by
      rcases hrun with h | h
      · simp [h]
      · simp [h]
    refine ⟨fun b hb hshut hwatch hbacked hle hfit hgood => ?_, fun b hb hrewrite => ?_, fun b hb hrewrite hfew => ?_,
      fun b hb hrewrite hmany hwatch => ?_⟩
    · obtain ⟨t, ht⟩ : ∃ t, t = (countFrom (b.last + 1 - b.first) b.first).foldl State.flushRecord s := ⟨_, rfl⟩
      have hflushed : Flushed s t b.first (b.last - b.first) := by
        rw [ht, show b.last + 1 - b.first = b.last - b.first + 1 by omega]
        exact State.flush_all hwatch _ (by omega) fun m h1 h2 => hgood m h1 (by omega)
      obtain ⟨hhead, hretained, hstore, hfailed, hnext, hstaging, hpower, honly⟩ := s.burstDone_eq b ht
      have hlast : b.first + (b.last - b.first) = b.last := by omega
      have hsame : t.power = s.power := hflushed.foot.1 .power rfl
      have hnoshut : (s.burstDone b).power.shutdown = none := by rw [hpower, hsame]; exact hshut
      refine ⟨s.burstDone b, ?_, ?_, ?_, fun n h1 h2 => ?_, hfailed, hnext.trans hflushed.next,
        hstaging.trans hflushed.staging, ?_⟩
      · simp only [exec, execBurstComplete, hb, hfree, if_false, if_true, State.advanceShutdown_none hnoshut]
      · rw [hhead, hflushed.head, hlast]
      · rw [hretained, hflushed.retained, hlast]
      · rw [hstore]
        exact hflushed.store n h1 (by omega)
      · exact ((hflushed.foot.onlyIn [.log, .retained]).mono (by simp)).trans (honly.mono (by simp))
    · simp only [exec, execBurstComplete, hb, hfree, hrewrite, Bool.false_eq_true, if_false]
    · have h3 : ¬3 ≤ s.log.failedBursts + 1 := by omega
      simp only [exec, execBurstComplete, hb, hfree, hrewrite, Bool.false_eq_true, if_false, if_true, State.burstFailed, h3]
    · simp only [exec, execBurstComplete, hb, hfree, hrewrite, Bool.false_eq_true, if_false, if_true, State.burstFailed,
        hmany, State.loseStore, hwatch, List.foldl_nil]
  · simp only [exec, execUnflushedTimeout, h64, hbrace, Option.isNone_none, and_self, if_true]
  · have hno : ¬(64 ≤ s.log.unflushed ∧ s.power.brace.isNone = true) := by
      rcases h with h | h
      · omega
      · cases hb : s.power.brace <;> simp_all
    simp only [exec, execUnflushedTimeout, hno, if_false]

end Sys2Proof
end

section
/-! PROOFS. The mount (R461 to R463): a blank store, a store with a header of this device, and no store. -/
set_option Elab.async false
namespace Sys2Proof.Machine

/-- The state at the mount of a store of `bytes` bytes and `cap` records at `port`. -/
def State.atMount (s : State) (bytes cap : Nat) (port : StorePort) : State :=
  { s with log := { s.log with cs1 := port, storeBytes := bytes, capacity := cap } }

/-- Steps 1 to 4 of the mount of that store. -/
def State.mounting (s : State) (bytes cap : Nat) (port : StorePort) : State :=
  if cap = 0 then (s.atMount bytes cap port).mountUnbacked 1 288 else (s.atMount bytes cap port).mountPresent

/-- A mount in its time. -/
theorem exec_mount {s : State} {bytes taps khz cap : Nat} {port : StorePort} (hmode : s.mode = .boot)
    (hstep : s.boot.step = 6) (hmounted : s.log.mounted = false) (hcap : cap = (bytes - 4096) / 64)
    (hport : port = storePort taps khz) : exec (.mount bytes taps khz) s =
      .next ((s.mounting bytes cap port).mountDone (s.mounting bytes cap port).mountCode) := by
  have hstore : ({ s with log := { s.log with cs1 := storePort taps khz } } : State).mountStore bytes =
      s.mounting bytes cap port := by
    rw [hcap, hport]
    rfl
  exact next_congr ((if_pos ⟨hmode, hstep, hmounted⟩).trans
    (congrArg (fun m : State => m.mountDone m.mountCode) hstore))

/-- The scan reads the store and the slots only. -/
theorem Logbook.scan_congr {l m : Logbook} (hstore : l.store = m.store) (hcap : l.capacity = m.capacity) (n seq mark : Nat) :
    l.scan n seq mark = m.scan n seq mark := by
  have hslot : ∀ q, l.slotOf q = m.slotOf q := fun q => by rw [Logbook.slotOf, Logbook.slotOf, hcap]
  induction n generalizing seq mark with
  | zero => rfl
  | succ n ih => rw [Logbook.scan, Logbook.scan, hstore, hslot, ih]

/-- The mount record of a mount whose event is not the unclean one. -/
theorem State.mountDone_clean (s : State) {ev : Nat} (h : ev ≠ 4) : s.mountDone ev =
    ({ ({ s with log := { s.log with mounted := true, mountEvent := ev } } : State).stageLog ev s.mountItems with
        boot := { s.boot with step := 7 }, clocks := { s.clocks with tideReleased := true } } : State).startBurst := by
  simp only [State.mountDone, h, if_false]
  rfl

theorem State.firstSeq_congr {s t : State} (h : s.retained = t.retained) : s.firstSeq = t.firstSeq := by
  rw [State.firstSeq, State.firstSeq, h]

theorem State.dieId_congr {s t : State} (h : s.otp = t.otp) : s.dieId = t.dieId := by
  rw [State.dieId, State.dieId, State.otpAt, State.otpAt, h]

theorem State.firstSeq_pos (s : State) : 1 ≤ s.firstSeq := by
  refine Nat.le_trans ?_ (Nat.le_max_left _ _)
  split <;> omega

/-- HEAD stays while a record is staged with the store in use. -/
theorem State.stageLog_head {s : State} (h : s.log.unbacked = false) (ev : Nat) (items : Bytes) :
    (s.stageLog ev items).log.head = s.log.head := by
  show (if s.log.unbacked then s.log.next else s.log.head) = _
  rw [h, if_neg Bool.false_ne_true]

/-- The mount of a blank store, before its mount record. -/
theorem State.mountBlank_log {s : State} (h : s.log.unbacked = false) :
    s.mountBlank.log.unbacked = false ∧ s.mountBlank.log.formatSeq = s.firstSeq ∧ s.mountBlank.log.tail = s.firstSeq ∧
    s.mountBlank.log.head = s.firstSeq - 1 ∧ s.mountBlank.log.next = s.firstSeq + 1 ∧
    s.mountBlank.log.header0.kind = 1 ∧ s.mountBlank.log.header1.kind = 1 ∧
    s.mountBlank.log.header0.dieId = s.dieId ∧ s.mountBlank.log.header1.dieId = s.dieId ∧
    s.mountBlank.log.cs1 = s.log.cs1 ∧ s.mountBlank.log.capacity = s.log.capacity ∧ Foot 0x300 s s.mountBlank := by
  refine ⟨h, rfl, rfl, State.stageLog_head ?_ 2 _, rfl, rfl, rfl, rfl, rfl, rfl, rfl, ?_⟩
  · exact h
  · exact (State.stage_foot _ _).after (Foot.log (Foot.log Foot.same))

/-- The mount of a store with a header of this device, where no SEQ is retained, before its mount record. -/
theorem State.mountHeader_log {s : State} {h : StoreHeader} (hret : s.retained.seq = none) (hbacked : s.log.unbacked = false) :
    (s.mountHeader h).log.tail = h.tail ∧ (s.mountHeader h).log.hintSeq = h.hint ∧
    (s.mountHeader h).log.formatSeq = h.format ∧
    (s.mountHeader h).log.head = (s.log.scan (s.log.store.length + 1) h.hint h.epochMark).1 ∧
    (s.mountHeader h).log.next = (s.log.scan (s.log.store.length + 1) h.hint h.epochMark).1 + 1 ∧
    (s.mountHeader h).log.unbacked = false ∧ (s.mountHeader h).log.cs1 = s.log.cs1 ∧ Foot 0x100 s (s.mountHeader h) := by
  obtain ⟨l, hl⟩ : ∃ l : Logbook, l = { s.log with
    tail := h.tail, hintSeq := h.hint, formatSeq := h.format, clears := h.clears
    gen := max (if s.ownHeader s.log.header0 then s.log.header0.gen else 0)
      (if s.ownHeader s.log.header1 then s.log.header1.gen else 0) } := ⟨_, rfl⟩
  obtain ⟨chain, heq⟩ : ∃ chain, s.mountHeader h = { s with log := { l with
      head := (l.scan (l.store.length + 1) h.hint h.epochMark).1
      mountHead := (l.scan (l.store.length + 1) h.hint h.epochMark).1
      next := (l.scan (l.store.length + 1) h.hint h.epochMark).1 + 1
      epochMark := (l.scan (l.store.length + 1) h.hint h.epochMark).2
      flushedMark := (l.scan (l.store.length + 1) h.hint h.epochMark).2
      lastChain := chain } } := by
    rw [State.mountHeader, ← hl]
    simp only [hret]
    exact ⟨_, rfl⟩
  have hstore : l.store = s.log.store := by rw [hl]
  have hscan : l.scan (l.store.length + 1) h.hint h.epochMark = s.log.scan (s.log.store.length + 1) h.hint h.epochMark := by
    rw [hstore]
    exact Logbook.scan_congr hstore (by rw [hl]) _ _ _
  rw [hscan] at heq
  rw [heq]
  refine ⟨?_, ?_, ?_, rfl, rfl, ?_, ?_, .log .same⟩
  all_goals rw [hl]
  exact hbacked

end Sys2Proof.Machine

namespace Sys2Proof
open Machine

/-- Settles O8: by what the mount finds. -/
theorem logbookMounts : Obligations.LogbookMounts := by
  intro s bytes taps khz
  obtain ⟨cap, hcap⟩ : ∃ cap, cap = (bytes - 4096) / 64 := ⟨_, rfl⟩
  obtain ⟨port, hport⟩ : ∃ port, port = storePort taps khz := ⟨_, rfl⟩
  obtain ⟨x, hx⟩ : ∃ x, x = s.atMount bytes cap port := ⟨_, rfl⟩
  have hfoot : Foot 0x100 s x := hx ▸ .log .same
  rw [← hcap, ← hport]
  refine ⟨fun hmode hstep hmounted => ⟨fun hbytes hbacked hblank0 hblank1 => ?_,
    fun h hbytes hbacked hused hcopy hseq => ?_, fun hbytes => ?_⟩, fun hother => ?_⟩
  · have hexec := exec_mount hmode hstep hmounted hcap hport
    obtain ⟨y, hy⟩ : ∃ y, y = x.mountBlank := ⟨_, rfl⟩
    have hpresent : x.mountPresent = y := by
      rw [hy, State.mountPresent, if_pos]
      rw [hx]
      exact ⟨hblank0, hblank1⟩
    have hfirst : x.firstSeq = s.firstSeq := State.firstSeq_congr (hfoot.1 .retained rfl)
    have hdie : x.dieId = s.dieId := State.dieId_congr (hfoot.1 .otp rfl)
    obtain ⟨hyb, hyformat, hytail, hyhead, hynext, hyk0, hyk1, hyd0, hyd1, hycs, hycap, hyfoot⟩ :=
      State.mountBlank_log (s := x) (by rw [hx]; exact hbacked)
    rw [← hy] at hyb hyformat hytail hyhead hynext hyk0 hyk1 hyd0 hyd1 hycs hycap hyfoot
    have hcode : y.mountCode = 1 := by
      have hpos := s.firstSeq_pos
      rw [State.mountCode, if_neg]
      rw [hyformat, hyhead, hfirst]
      simp only [Bool.and_eq_true, decide_eq_true_eq]
      omega
    rw [State.mounting, if_neg (by omega), ← hx, hpresent, hcode, State.mountDone_clean y (by decide)] at hexec
    obtain ⟨z, hz⟩ : ∃ z : State, z = ({ y with log := { y.log with mounted := true, mountEvent := 1 } } :
      State).stageLog 1 y.mountItems := ⟨_, rfl⟩
    have hzhead : z.log.head = y.log.head := by
      rw [hz]
      exact State.stageLog_head (s := { y with log := { y.log with mounted := true, mountEvent := 1 } }) hyb 1 y.mountItems
    have hzlog : z.log.mounted = true ∧ z.log.mountEvent = 1 ∧ z.log.capacity = y.log.capacity ∧
        z.log.formatSeq = y.log.formatSeq ∧ z.log.tail = y.log.tail ∧ z.log.next = y.log.next + 1 ∧
        z.log.header0 = y.log.header0 ∧ z.log.header1 = y.log.header1 ∧ z.log.cs1 = y.log.cs1 := by
      rw [hz]
      exact ⟨rfl, rfl, rfl, rfl, rfl, rfl, rfl, rfl, rfl⟩
    obtain ⟨hzm, hze, hzcap, hzformat, hztail, hznext, hzh0, hzh1, hzcs⟩ := hzlog
    have hsyfoot : Foot 0x300 s y := hyfoot.after hfoot.mono
    have hzfoot : Foot 0x300 s z := by
      rw [hz]
      exact (State.stage_foot _ _).after (Foot.log hsyfoot)
    have hboot : y.boot = s.boot := hsyfoot.1 .boot rfl
    have hclocks : y.clocks = s.clocks := hsyfoot.1 .clocks rfl
    obtain ⟨w, hw⟩ : ∃ w : State, w = { z with
      boot := { s.boot with step := 7 }, clocks := { s.clocks with tideReleased := true } } := ⟨_, rfl⟩
    rw [← hz, hboot, hclocks, ← hw] at hexec
    have hwfoot : Foot 0x324 s w := by
      rw [hw]
      exact Foot.update hzfoot.mono
    obtain ⟨b, n, hburst⟩ := w.startBurst_eq
    have honly := ((State.startBurst_foot w).after (hwfoot.mono (l := 0x40000324))).onlyIn
      [.log, .boot, .clocks, .faults, .freeCount]
    refine ⟨w.startBurst, hexec, ?_⟩
    rw [hburst] at honly ⊢
    rw [hw] at honly ⊢
    exact ⟨hzm, hze, hzcap.trans (hycap.trans (by rw [hx]; rfl)), hzformat.trans (hyformat.trans hfirst),
      hztail.trans (hytail.trans hfirst), hzhead.trans (hyhead.trans (by rw [hfirst])),
      hznext.trans (by rw [hynext, hfirst]), (congrArg StoreHeader.kind hzh0).trans hyk0,
      (congrArg StoreHeader.kind hzh1).trans hyk1, (congrArg StoreHeader.dieId hzh0).trans (hyd0.trans hdie),
      (congrArg StoreHeader.dieId hzh1).trans (hyd1.trans hdie), hzcs.trans (hycs.trans (by rw [hx]; rfl)), rfl, rfl, honly⟩
  · have hexec := exec_mount hmode hstep hmounted hcap hport
    have hdie : x.dieId = s.dieId := State.dieId_congr (hfoot.1 .otp rfl)
    have hxcopy : x.mountCopy = some h := by
      rw [← hcopy]
      simp only [State.mountCopy, State.ownHeader, hdie]
      rw [hx]
      rfl
    have hpresent : x.mountPresent = x.mountHeader h := by
      rw [State.mountPresent, if_neg, hxcopy]
      rw [hx]
      rintro ⟨h0, h1⟩
      rcases hused with hne | hne
      · exact hne h0
      · exact hne h1
    obtain ⟨y, hy⟩ : ∃ y, y = x.mountHeader h := ⟨_, rfl⟩
    rw [State.mounting, if_neg (by omega), ← hx, hpresent, ← hy] at hexec
    have hret : x.retained.seq = none := (congrArg Retained.seq (hfoot.1 .retained rfl)).trans hseq
    have hstore : x.log.store = s.log.store := by rw [hx]; rfl
    obtain ⟨htail, hhint, hformat, hhead, hnext, hbacked', hcs, hyfoot⟩ :=
      State.mountHeader_log (h := h) hret (show x.log.unbacked = false by rw [hx]; exact hbacked)
    rw [← hy] at htail hhint hformat hhead hnext hbacked' hcs hyfoot
    have hscan : x.log.scan (x.log.store.length + 1) h.hint h.epochMark =
        ({ s.log with capacity := cap } : Logbook).scan (s.log.store.length + 1) h.hint h.epochMark := by
      rw [hstore]
      exact Logbook.scan_congr (m := { s.log with capacity := cap }) hstore (by rw [hx]; rfl) _ _ _
    rw [hscan] at hhead hnext
    refine ⟨y, _, hexec, htail, hformat, hhint, hcs.trans (by rw [hx]; rfl), hhead, hnext,
      Foot.onlyIn (hyfoot.after hfoot) [.log], ?_⟩
    rw [State.mountCode, hbacked', hformat, hhead]
    simp only [Bool.not_false, Bool.true_and, decide_eq_true_eq]
  · have hexec := exec_mount hmode hstep hmounted hcap hport
    rw [State.mounting, if_pos (by omega), ← hx] at hexec
    have hfirst : x.firstSeq = s.firstSeq := State.firstSeq_congr (hfoot.1 .retained rfl)
    refine ⟨{ x with log := { x.log with
      unbacked := true, storeState := 1, next := x.firstSeq, head := x.firstSeq - 1, tail := x.firstSeq
      formatSeq := x.firstSeq, hintSeq := x.firstSeq } }, Foot.onlyIn (m := 0x100) (Foot.log hfoot) [.log], rfl, rfl,
      hfirst, hfirst, by rw [hx]; rfl, hexec⟩
  · have hno : ¬(s.mode = .boot ∧ s.boot.step = 6 ∧ s.log.mounted = false) := by
      rintro ⟨h1, h2, h3⟩
      rcases hother with h | h | h
      · exact h h1
      · exact h h2
      · rw [h3] at h; cases h
    simp only [exec, execMount, hno, if_false]

end Sys2Proof
end

section
/-! PROOFS. The fault orders and the collector (R478 to R487, R500): sources and counters that an update over a map names, and
an event that is counted and queued. -/
set_option Elab.async false
namespace Sys2Proof.Machine

/-- Updating the numbers of a list one after the other changes each of their items once. `Q` is what the steps keep. -/
theorem State.each_items {α : Type} (item : State → Nat → α) (f : State → Nat → State) (Q : State → Prop)
    (g : Nat → α → α) (hstep : ∀ s n, Q s → Q (f s n) ∧ ∀ j, item (f s n) j = if j = n then g n (item s n) else item s j)
    (l : List Nat) (hl : l.Nodup) {s : State} (hs : Q s) :
    Q (s.each l f) ∧ ∀ j, item (s.each l f) j = if j ∈ l then g j (item s j) else item s j := by
  induction l generalizing s with
  | nil => exact ⟨hs, fun j => by simp [State.each]⟩
  | cons n l ih =>
    obtain ⟨hnot, hl⟩ := List.nodup_cons.mp hl
    obtain ⟨hQ, hitem⟩ := hstep s n hs
    obtain ⟨hQ', hitem'⟩ := ih hl hQ
    refine ⟨hQ', fun j => ?_⟩
    show item ((f s n).each l f) j = _
    rw [hitem']
    by_cases hj : j = n
    · subst hj
      rw [if_neg hnot, hitem, if_pos rfl, if_pos List.mem_cons_self]
    · rw [hitem, if_neg hj]
      simp only [List.mem_cons, hj, false_or]

theorem nodup_mapList (n m : Nat) : (mapList n m).Nodup := by
  rw [mapList, upto_eq_range]
  exact List.nodup_range.filter _

@[simp] theorem mem_mapList {n m i : Nat} : i ∈ mapList n m ↔ i < n ∧ m.testBit i = true := by
  rw [mapList, List.mem_filter, mem_upto, bit]

/-- The map of the numbers of a map at which a condition holds. -/
theorem testBit_listMap_filter (n m : Nat) (p : Nat → Bool) (i : Nat) :
    (listMap ((mapList n m).filter p)).testBit i = (decide (i < n) && m.testBit i && p i) := by
  have hmap : listMap ((mapList n m).filter p) = mapWhere n (fun k => bit m k && p k) := by
    rw [mapWhere, mapList, List.filter_filter]
    congr 2
    funext k
    rw [Bool.and_comm]
  rw [hmap, testBit_mapWhere, bit, Bool.and_assoc]

/-- FAULT.ACK clears PENDING of the named sources whose condition is gone, and changes nothing else. -/
theorem State.ack_each (s : State) (m : Nat) : ∃ x, s.each (mapList 320 m) (fun s n =>
      if s.conditionPresent n then s else s.setSrc n fun x => { x with pending := false, holdsAlive := false }) = x ∧
    x = { s with faults := { s.faults with src := x.faults.src } } ∧
    ∀ n, n < 320 → x.srcAt n = if m.testBit n = true ∧ s.conditionPresent n = false
      then { s.srcAt n with pending := false, holdsAlive := false } else s.srcAt n := by
  refine ⟨_, rfl, ?_⟩
  have h := State.each_items State.srcAt (fun s n =>
      if s.conditionPresent n then s else s.setSrc n fun x => { x with pending := false, holdsAlive := false })
    (fun t => t = { s with faults := { s.faults with src := t.faults.src } } ∧
      ∀ n, t.conditionPresent n = s.conditionPresent n)
    (fun n x => if s.conditionPresent n then x else { x with pending := false, holdsAlive := false })
    (fun t n ⟨ht, hcond⟩ => by
      rw [hcond]
      cases hn : s.conditionPresent n with
      | true =>
        refine ⟨⟨ht, hcond⟩, fun j => ?_⟩
        simp only [if_true]
        split
        · next hj => rw [hj]
        · rfl
      | false =>
        refine ⟨⟨?_, fun k => ?_⟩, fun j => ?_⟩
        · rw [ht]; rfl
        · rw [← hcond k]
          simp only [State.conditionPresent, Bool.false_eq_true, if_false, State.srcAt_setSrc]
          by_cases hk : k = n
          · subst hk
            rw [if_pos rfl]
            rfl
          · simp only [hk, if_false]; rfl
        · exact State.srcAt_setSrc t n _ j)
    (mapList 320 m) (nodup_mapList 320 m) (s := s) ⟨rfl, fun n => rfl⟩
  refine ⟨h.1.1, fun n hn => ?_⟩
  rw [h.2 n]
  cases hc : s.conditionPresent n <;> by_cases hb : m.testBit n = true <;> simp [hn, hb]

/-- FAULT.CLEARCOUNT zeroes the counts of the named sources, and changes nothing else. -/
theorem State.clear_each (s : State) (m : Nat) : ∃ x, s.each (mapList 320 m) (fun s n =>
      let s := s.setSrc n fun x => { x with count := 0 }
      if 200 ≤ n ∧ n < 224 then s.setEcc n EccCounters.clear else s) = x ∧
    x = { s with faults := { s.faults with src := x.faults.src, ecc := x.faults.ecc } } ∧
    (∀ n, n < 320 → x.srcAt n = if m.testBit n = true then { s.srcAt n with count := 0 } else s.srcAt n) ∧
    ∀ n, n < 320 → x.eccAt n = if m.testBit n = true ∧ 200 ≤ n ∧ n < 224 then (s.eccAt n).clear else s.eccAt n := by
  refine ⟨_, rfl, ?_⟩
  have h := State.each_items (fun t n => (t.srcAt n, t.eccAt n)) (fun s n =>
      let s := s.setSrc n fun x => { x with count := 0 }
      if 200 ≤ n ∧ n < 224 then s.setEcc n EccCounters.clear else s)
    (fun t => t = { s with faults := { s.faults with src := t.faults.src, ecc := t.faults.ecc } })
    (fun n x => ({ x.1 with count := 0 }, if 200 ≤ n ∧ n < 224 then x.2.clear else x.2))
    (fun t n ht => by
      refine ⟨?_, fun j => ?_⟩
      · dsimp only
        split
        · rw [ht]; rfl
        · rw [ht]; rfl
      · have hsrc : ∀ u : State, (u.setEcc n EccCounters.clear).srcAt j = u.srcAt j := fun u => rfl
        have hecc : ∀ k, (t.setSrc n fun x => { x with count := 0 }).eccAt k = t.eccAt k := fun k => rfl
        dsimp only
        split
        · rw [hsrc, State.srcAt_setSrc, State.eccAt_setEcc, hecc, hecc]
          split <;> rfl
        · rw [State.srcAt_setSrc, hecc]
          split
          · next hj => rw [hj]
          · rfl)
    (mapList 320 m) (nodup_mapList 320 m) (s := s) rfl
  refine ⟨h.1, fun n hn => ?_, fun n hn => ?_⟩
  · have hitem := congrArg Prod.fst (h.2 n)
    refine hitem.trans ?_
    by_cases hb : m.testBit n = true <;> simp [hn, hb]
  · have hitem := congrArg Prod.snd (h.2 n)
    refine hitem.trans ?_
    by_cases hb : m.testBit n = true <;> simp [hn, hb]

end Sys2Proof.Machine

namespace Sys2Proof
open Machine

/-- Settles O9: each order's body under its layout. -/
theorem faultOrders : Obligations.FaultOrders := by
  refine ⟨?_, ?_⟩
  · rintro s mb q w rfl rfl
    refine ⟨fun hstart hlay => ?_, fun hstart hlay h1 h30 h319 h320 => ?_, fun hstart hlay h23 e he => ?_⟩
    · refine State.runOrder_does hstart ?_
      simp only [hlay, Bool.not_true, Bool.false_eq_true, if_false, upto, countFrom, List.map_cons, List.map_nil,
        List.flatten_cons, List.flatten_nil, List.append_nil, List.append_assoc]
      rfl
    · have hok : (!(s.request mb).lay 4 [(3, 1)] || decide (319 < (s.request mb).u 0 2) ||
          decide ((s.request mb).u 2 1 = 0) || decide (30 < (s.request mb).u 2 1) ||
          decide (320 < (s.request mb).u 0 2 + (s.request mb).u 2 1)) = false := by
        rw [hlay, decide_eq_false (by omega), decide_eq_false (by omega), decide_eq_false (by omega),
          decide_eq_false (by omega)]
        rfl
      refine State.runOrder_does hstart ?_
      simp only [hok, Bool.false_eq_true, if_false]
      rfl
    · have hok : (!(s.request mb).lay 4 [(1, 3)] || decide (23 < (s.request mb).u 0 1)) = false := by
        rw [hlay, decide_eq_false (by omega)]
        rfl
      refine State.runOrder_does hstart ?_
      simp only [hok, Bool.false_eq_true, if_false]
      rw [he]
      rfl
  · rintro s mb q rfl hlay
    refine ⟨fun hstart => ?_, fun hstart => ?_⟩
    · obtain ⟨x, hx, heq, hsrc⟩ := s.taken.ack_each ((s.request mb).u 0 40)
      refine ⟨x, ?_, by rw [heq], hsrc, by rw [heq]; rfl, _, fun n => testBit_listMap_filter 320 _ _ n,
        State.runOrder_does hstart ?_⟩
      · rw [heq]
        intro p hp
        cases p <;> first | rfl | exact absurd hp (by decide)
      · simp only [hlay, Bool.not_true, Bool.false_eq_true, if_false, hx]
    · obtain ⟨x, hx, heq, hsrc, hecc⟩ := s.taken.clear_each ((s.request mb).u 0 40)
      refine ⟨x, ?_, by rw [heq], hsrc, hecc, by rw [heq]; rfl, State.runOrder_does hstart ?_⟩
      · rw [heq]
        intro p hp
        cases p <;> first | rfl | exact absurd hp (by decide)
      · dsimp only at hx
        simp only [hlay, Bool.not_true, Bool.false_eq_true, if_false, hx]

end Sys2Proof
end

section
/-! PROOFS. An event of a source whose reactions are none, or LOG and INTERRUPT alone (R478, R482, R483). -/
set_option Elab.async false
namespace Sys2Proof.Machine

/-- Reactions of LOG and INTERRUPT at most leave every step of Table 18-7 but LOG alone. -/
theorem State.actOn_small (s : State) (src : Nat) {r : Nat} (h : r = 0 ∨ r = 1 ∨ r = 3) :
    s.actOn src r = s ∧ s.actReset src r = s := by
  rcases h with rfl | rfl | rfl <;> exact ⟨rfl, rfl⟩

/-- Queueing an entry where there is room discards none. -/
theorem Faults.queueEntry_room {f : Faults} (e : FaultEntry) (h : f.queue.length < 64) :
    f.queueEntry e = ({ f with
      queue := if f.queue.any (sameEntry e.source e.event)
        then f.queue.map (fun x => if sameEntry e.source e.event x then x.again else x) else f.queue ++ [e] }, false) := by
  rw [Faults.queueEntry]
  split
  · rfl
  · rfl

/-- The entry that LOG queues for an event noted in `s`. -/
def State.loggedEntry (s : State) (src event cls bits : Nat) (data : Bytes) : FaultEntry :=
  { epoch := s.clocks.epoch, source := src, cls := cls, event := event, repeats := 0, reaction := bits
    data := data16 data, count := (s.srcAt src).count }

theorem State.logEvent_room {s : State} (src event cls bits : Nat) (data : Bytes) (h : s.faults.queue.length < 64) :
    s.logEvent src event cls bits data = { s with faults := { s.faults with
      queue := if s.faults.queue.any (sameEntry src event)
        then s.faults.queue.map (fun x => if sameEntry src event x then x.again else x)
        else s.faults.queue ++ [s.loggedEntry src event cls bits data] } } := by
  obtain ⟨e, he⟩ : ∃ e, e = s.loggedEntry src event cls bits data := ⟨_, rfl⟩
  have hlog : s.logEvent src event cls bits data =
      if (s.faults.queueEntry e).2 then ({ s with faults := (s.faults.queueEntry e).1 } : State).overflowEvent
      else { s with faults := (s.faults.queueEntry e).1 } := by
    rw [he]
    rfl
  rw [hlog, Faults.queueEntry_room e h, if_neg Bool.false_ne_true, he]
  rfl

/-- MIN_CLASS and ESCALATE are committed fields. -/
theorem State.thresholds_congr {s t : State} (h : t.desc = s.desc) (src : Nat) :
    t.minClass src = s.minClass src ∧ t.escalate src = s.escalate src := by
  simp only [State.minClass, State.escalate, State.field, h, and_self]

/-- Below no threshold, or without ESCALATE, an event does not escalate. -/
theorem State.escalateEvent_none {s : State} {src cls : Nat} (h : s.minClass src ≤ cls ∨ s.escalate src = 0) :
    s.escalateEvent src cls = s := by
  have hwindow : s.windowEvent src cls = (s, false) := by
    rw [State.windowEvent, if_neg]
    rcases h with h | h
    · exact fun h' => absurd h'.1 (by omega)
    · exact fun h' => h'.2 h
  rw [State.escalateEvent, hwindow]
  rfl

/-- What an event of small reactions leaves. -/
structure Noted (s t : State) (src event cls r : Nat) (data : Bytes) : Prop where
  source : t.srcAt src = { s.srcAt src with
    count := ((s.srcAt src).count + 1) % 2 ^ 32, pending := true, lastEpoch := s.clocks.epoch, lastEvent := event
    lastClass := cls }
  others : ∀ n, n ≠ src → t.srcAt n = s.srcAt n
  queue : t.faults.queue = if r = 0 then s.faults.queue
    else if s.faults.queue.any (sameEntry src event)
      then s.faults.queue.map (fun x => if sameEntry src event x then x.again else x)
    else s.faults.queue ++ [{ epoch := s.clocks.epoch, source := src, cls := cls, event := event, repeats := 0, reaction := r
                              data := data16 data, count := ((s.srcAt src).count + 1) % 2 ^ 32 }]
  only : Only [.faults] s t

theorem State.noteEvent_srcAt (s : State) (src event cls n : Nat) : (s.noteEvent src event cls false).srcAt n =
    if n = src then { s.srcAt src with
      count := ((s.srcAt src).count + 1) % 2 ^ 32, pending := true, lastEpoch := s.clocks.epoch, lastEvent := event
      lastClass := cls } else s.srcAt n := by
  refine (State.srcAt_setSrc _ src _ n).trans ?_
  split
  · simp only [Bool.or_false]
    rfl
  · rfl

theorem State.takeEvent_small {s : State} (src event cls : Nat) (data : Bytes) {r : Nat} (hr : r = s.actingBits src cls)
    (hsmall : r = 0 ∨ r = 1 ∨ r = 3) (hroom : s.faults.queue.length < 64) :
    Noted s (s.takeEvent src event cls data) src event cls r data := by
  obtain ⟨t, ht⟩ : ∃ t, t = s.noteEvent src event cls false := ⟨_, rfl⟩
  have hseven : bit r 7 = false := by rcases hsmall with rfl | rfl | rfl <;> rfl
  have hsrc : ∀ n, t.srcAt n = _ := fun n => ht ▸ State.noteEvent_srcAt s src event cls n
  have hqueue : t.faults.queue = s.faults.queue := by rw [ht]; rfl
  have honly : Only [.faults] s t := by
    rw [ht]
    intro p hp
    cases p <;> first | rfl | exact absurd hp (by decide)
  have htake : s.takeEvent src event cls data = if bit r 0 then t.logEvent src event cls r data else t := by
    rw [State.takeEvent, ← hr, hseven, ← ht]
    show ((if bit r 0 then (t.actOn src r).logEvent src event cls r data else t.actOn src r)).actReset src r = _
    rw [(State.actOn_small t src hsmall).1, (State.actOn_small _ src hsmall).2]
  by_cases h0 : r = 0
  · have heq : s.takeEvent src event cls data = t := by rw [htake, h0]; rfl
    rw [heq]
    exact ⟨by rw [hsrc, if_pos rfl], fun n hn => by rw [hsrc, if_neg hn], by rw [hqueue, if_pos h0], honly⟩
  · have hbit : bit r 0 = true := by
      rcases hsmall with rfl | rfl | rfl
      · exact absurd rfl h0
      · rfl
      · rfl
    have hcount : (t.srcAt src).count = ((s.srcAt src).count + 1) % 2 ^ 32 := by rw [hsrc, if_pos rfl]
    have hepoch : t.clocks.epoch = s.clocks.epoch := congrArg Clocks.epoch (honly .clocks rfl)
    rw [hbit, if_pos rfl, State.logEvent_room src event cls r data (hqueue ▸ hroom)] at htake
    rw [htake]
    refine ⟨(hsrc src).trans (if_pos rfl), fun n hn => (hsrc n).trans (if_neg hn), ?_, ?_⟩
    · rw [if_neg h0]
      simp only [hqueue, State.loggedEntry, hcount, hepoch]
    · intro p hp
      have hsame := honly p hp
      cases p <;> first | exact hsame | exact absurd hp (by decide)

end Sys2Proof.Machine

namespace Sys2Proof
open Machine

/-- Settles O10: the event is taken, and neither acts beside LOG nor escalates. -/
theorem eventCountedAndQueued : Obligations.EventCountedAndQueued := by
  intro s src event data c r hfirm hlo hhi hres h284 h285 hc hr hesc hroom hsmall
  obtain ⟨hsrc, hothers, hqueue, honly⟩ := State.takeEvent_small src event c data hr hsmall hroom
  obtain ⟨hmin, hescalate⟩ := State.thresholds_congr (honly .desc rfl) src
  have hexec : exec (.faultEvent src event data) s = .next (s.takeEvent src event c data) := by
    have hgate : (s.mode.firmware && decide (src < 320) && !reservedSource src) = true := by
      rw [hfirm, hres, decide_eq_true hhi]
      rfl
    have heffect : s.eventEffect src event data = s := by
      rw [State.eventEffect, if_neg (by omega), if_neg (by omega), if_neg h284, if_neg h285]
    have hraising : s.raisingSource src event = src := by
      rw [State.raisingSource, if_neg (by omega)]
    refine next_congr ((if_pos hgate).trans ?_)
    rw [heffect, hraising, State.raise, State.raiseC, hgate, if_pos rfl, ← hc]
    exact State.escalateEvent_none (by rw [hmin, hescalate]; exact hesc)
  have hsame : ∀ e : FaultEntry, sameEntry src event e = true ↔ e.source = src ∧ e.event = event := fun e => by
    rw [sameEntry, Bool.and_eq_true, decide_eq_true_eq, decide_eq_true_eq]
  refine ⟨_, hexec, hsrc, hothers, fun h0 => by rw [hqueue, if_pos h0], fun h0 hnew => ?_, fun h0 h319 hold => ?_, honly⟩
  · have hany : s.faults.queue.any (sameEntry src event) = false := by
      rw [List.any_eq_false]
      exact fun e he => mt (hsame e).mp (hnew e he)
    rw [hqueue, if_neg h0, hany]
    rfl
  · have hany : s.faults.queue.any (sameEntry src event) = true := by
      obtain ⟨e, he, hse⟩ := hold
      exact List.any_eq_true.mpr ⟨e, he, (hsame e).mpr hse⟩
    rw [hqueue, if_neg h0, hany, if_pos rfl]
    refine List.map_congr_left fun e _ => ?_
    by_cases hse : e.source = src ∧ e.event = event
    · rw [if_pos ((hsame e).mpr hse), if_pos hse, FaultEntry.again, if_neg fun h => h319 (hse.1.symm.trans h.1)]
    · rw [if_neg (mt (hsame e).mp hse), if_neg hse]

end Sys2Proof
end

section
/-! PROOFS. A held block's release against the tables outside the die's range. -/
set_option Elab.async false
namespace Sys2Proof.Machine

/-- Block 10 held, and an entry of a cluster 6, which no chip has, marked calibrating. -/
def strayCluster : State := { ({} : State) with
  hold := { ({} : State).hold with held := 1024 }
  cluster := [(6, { calibrating := true })] }

/-- `strayCluster` with the hold of block 10 ended. -/
def strayReleased : State := { strayCluster with hold := { strayCluster.hold with held := setBit 1024 10 false } }

theorem strayCluster_release : exec (.blockResetRelease 10 0) strayCluster = .next strayReleased.settle := by
  refine next_congr ((if_pos ?_).trans rfl)
  rfl

end Sys2Proof.Machine

namespace Sys2Proof
open Machine

/-- Refutes O11: of a table that holds an entry of a cluster 6, the release of block 10 leaves that entry, while the
statement, whose `c` is not bounded, has it cleared. -/
theorem not_memoryAndHoldEvents : ¬ Obligations.MemoryAndHoldEvents := by
  intro h
  obtain ⟨-, -, hrelease, -⟩ := h strayCluster
  obtain ⟨x, hx, -, -, hcluster, -⟩ := hrelease 10 0 (by decide) (by decide) (by decide) (.inl rfl)
  have hkept : ∀ y : State, y.settle.clusterAt 6 = y.clusterAt 6 := fun y => by
    have honly : Only [.out] y y.settle := (State.settle_foot y).onlyIn [.out]
    have hcl : y.settle.cluster = y.cluster := honly .cluster rfl
    rw [State.clusterAt, State.clusterAt, hcl]
  have hsettle : x.settle = strayReleased.settle := by
    have heq := hx.symm.trans strayCluster_release
    injection heq
  have hleft : x.clusterAt 6 = { calibrating := true } := by rw [← hkept x, hsettle, hkept]; rfl
  have hcleared : (x.clusterAt 6).calibrating = false := congrArg (·.calibrating) (hcluster 6)
  rw [hleft] at hcleared
  cases hcleared

end Sys2Proof
end

section
/-! PROOFS. The orders on the OTP array and on the firmware slots (R91 to R105, R518 to R523). -/
set_option Elab.async false
namespace Sys2Proof.Machine

/-- The programming of a word begins by BEGUN. -/
theorem State.otpBegin_eq (s : State) (w v m : Nat) : s.otpBegin w v m false =
    { s with
      freeCount := s.freeCount + 1
      otp := { s.otp with
        job := some { word := w, value := v, mailbox := m, filling := false, cut := s.fresh .unstated 0 }
        words := Tab.upd {} s.otp.words w fun x => { x with cells := x.cells ||| 7 } } } := rfl

end Sys2Proof.Machine

namespace Sys2Proof
open Machine

/-- Settles O13: each order's body on the state with its request taken. -/
theorem otpAndFirmwareOrders : Obligations.OtpAndFirmwareOrders := by
  refine ⟨?_, ?_⟩
  · rintro s mb q rfl
    refine ⟨fun hstart hlay h1 h64 h200 => ⟨fun hjob => ?_, fun hjob => ?_⟩, fun w v m => ⟨_, s.otpBegin_eq w v m⟩,
      fun hstart hlay hjob => ⟨fun hlife hprog hblank => ?_, fun hno => ?_⟩,
      fun hstart hlay hjob => ⟨fun ht hc hmark hsigner hservice hheader => ?_, fun ht hc hmark => ?_⟩,
      fun j hjob => ⟨fun hstart => ?_, fun hstart => ?_⟩⟩
    · exact State.runOrder_does hstart ((if_neg (by simp [hlay]; omega)).trans (if_pos hjob))
    · have hfree : ¬s.taken.otp.job.isSome = true := by simp [hjob]
      exact ⟨_, rfl, State.runOrder_does hstart ((if_neg (by simp [hlay]; omega)).trans (if_neg hfree))⟩
    · have hfree : ¬s.taken.otp.job.isSome = true := by simp [hjob]
      refine State.runOrder_does hstart ((if_neg hfree).trans ((if_neg (by simp [hlay])).trans (if_neg ?_)))
      have hblank' : (s.taken.otpAt ((s.request mb).u 0 1)).blank = true := hblank
      simp [hlife, hprog, hblank']
    · have hfree : ¬s.taken.otp.job.isSome = true := by simp [hjob]
      refine State.runOrder_does hstart ((if_neg hfree).trans ((if_neg (by simp [hlay])).trans (if_pos ?_)))
      have hat : s.taken.otpAt ((s.request mb).u 0 1) = s.otpAt ((s.request mb).u 0 1) := rfl
      rw [hat]
      rcases hno with h | h | h <;> simp [h]
    · have hfree : ¬s.taken.otp.job.isSome = true := by simp [hjob]
      have hmark' : s.taken.lifecycleMarked = 1 := hmark
      have hsigner' : s.taken.fieldGood 8 8 = true ∨ s.taken.fieldGood 16 8 = true := hsigner
      have hservice' : s.taken.fieldGood 32 8 = true := hservice
      refine (State.runOrder_does hstart ((if_neg hfree).trans ((if_neg (by simp [hlay, ht, hc])).trans (if_neg ?_)))).trans ?_
      · rcases hsigner' with h | h <;> simp [ht, hmark', hservice', hheader, h]
      · rw [ht]
    · have hfree : ¬s.taken.otp.job.isSome = true := by simp [hjob]
      have hmark' : s.taken.lifecycleMarked = 2 := hmark
      refine (State.runOrder_does hstart ((if_neg hfree).trans ((if_neg (by simp [hlay, ht, hc])).trans
        (if_neg (by simp [ht, hmark']))))).trans ?_
      rw [ht]
    · exact State.runOrder_does hstart (if_pos (by simp [hjob]))
    · exact State.runOrder_does hstart (if_pos (by simp [hjob]))
  · rintro s mb q rfl
    refine ⟨fun hstart hlay => ?_, fun hstart hbusy hslot h1 h256 hlay hrun hend => ⟨fun ho => ?_, fun ho hnext => ?_⟩,
      fun hstart hbusy hlay hslot htest2 htest3 => ⟨fun hcode => ?_, fun hcode => ?_⟩⟩
    · exact State.runOrder_does hstart (if_neg (by simp [hlay]))
    · have hfree : ¬s.taken.cs0Busy = true := by rw [show s.taken.cs0Busy = false from hbusy]; decide
      refine ⟨s.fresh .unstated 0, State.runOrder_does hstart ((if_neg hfree).trans ((if_neg (by simp [hlay]; omega)).trans
        ((if_neg hrun).trans ((if_neg ?_).trans ?_))))⟩
      · exact ho ▸ by simpa [ho] using hend
      · rw [if_pos ho, ho]
        rfl
    · have hfree : ¬s.taken.cs0Busy = true := by rw [show s.taken.cs0Busy = false from hbusy]; decide
      refine State.runOrder_does hstart ((if_neg hfree).trans ((if_neg (by simp [hlay]; omega)).trans
        ((if_neg hrun).trans ((if_neg ?_).trans ?_))))
      · simp [hnext] at hend ⊢; omega
      · rw [if_neg ho]
    · have hfree : ¬s.taken.cs0Busy = true := by rw [show s.taken.cs0Busy = false from hbusy]; decide
      have htest : ¬(s.taken.testFailed 2 || s.taken.testFailed 3) = true := by
        rw [show s.taken.testFailed 2 = false from htest2, show s.taken.testFailed 3 = false from htest3]; decide
      refine ⟨s.fresh .unstated 0, fun x hx => State.runOrder_does hstart ((if_neg hfree).trans ((if_neg (by simp [hlay]; omega)).trans
        ((if_neg htest).trans ((if_pos hcode).trans ?_))))⟩
      rw [hx]
      rfl
    · have hfree : ¬s.taken.cs0Busy = true := by rw [show s.taken.cs0Busy = false from hbusy]; decide
      have htest : ¬(s.taken.testFailed 2 || s.taken.testFailed 3) = true := by
        rw [show s.taken.testFailed 2 = false from htest2, show s.taken.testFailed 3 = false from htest3]; decide
      exact State.runOrder_does hstart ((if_neg hfree).trans ((if_neg (by simp [hlay]; omega)).trans
        ((if_neg htest).trans (if_neg hcode))))

end Sys2Proof
end

section
/-! PROOFS. The object orders that read, and OBJ.LOAD (R146, R153, R510 to R514). -/
set_option Elab.async false
namespace Sys2Proof.Machine

/-- A pair that each definition of a list goes with. -/
theorem forall_pair_of_map {α β : Type} {f : α → Option β} {l : List α} {ds : List β} (h : l.map f = ds.map some) :
    ∀ p ∈ l, ∃ d ∈ ds, f p = some d := by
  intro p hp
  have hmem : f p ∈ ds.map some := h ▸ List.mem_map_of_mem hp
  obtain ⟨d, hd, hf⟩ := List.mem_map.mp hmem
  exact ⟨d, hd, hf.symm⟩

/-- Each definition of a list goes with a pair. -/
theorem exists_pair_of_map {α β : Type} {f : α → Option β} {l : List α} {ds : List β} (h : l.map f = ds.map some) :
    ∀ d ∈ ds, ∃ p ∈ l, f p = some d := by
  intro d hd
  have hmem : some d ∈ l.map f := h ▸ List.mem_map_of_mem hd
  obtain ⟨p, hp, hf⟩ := List.mem_map.mp hmem
  exact ⟨p, hp, hf⟩

/-- The entry of a field that is not read-only holds its committed value. -/
theorem State.getEntry_committed {s : State} {p : Nat × Nat} {d : FieldDef} (hd : pairDef p = some d) (hro : d.effect ≠ .ro) :
    s.getEntry 0 p = packEntry (p.1 * 65536 + p.2) (valueIn s.desc.committed (p.1 * 65536 + p.2)) := by
  rw [State.getEntry, hd]
  show packEntry _ (s.getValue 0 d p) = _
  rw [State.getValue, if_neg hro, if_pos rfl]

/-- A session's own edit is not turned away where no commit of its own is under way. -/
theorem State.editFault_own {s : State} {q : Req} (hown : s.desc.edit = some q.session) (hcommit : s.ownCommit q = false) :
    s.editFault q = none := by
  simp [State.editFault, State.ownEdit, hown, hcommit]

/-- The findings are those on the description that the session would commit. -/
theorem State.findingsFor_eq (s : State) (q : Req) : s.findingsFor q =
    s.validate (if s.desc.edit = some q.session then mergeStaged s.desc.committed s.desc.staged s.desc.stagedWhole
      else s.desc.committed) := by
  unfold State.findingsFor State.ownEdit
  by_cases h : s.desc.edit = some q.session
  · rw [if_pos (decide_eq_true h), if_pos h]
  · rw [if_neg (by simp [h]), if_neg h]

/-- A complete good image that needs no missing feature is staged whole. -/
theorem State.stageImage_good {s : State} {q : Req} {b : Bytes} {seq : Nat} {values : Tab (Option Int)}
    (hgood : judgeImage b = .good seq values)
    (hfeat : (cutEntries 65536 (b.drop 0x40)).1.any (Entry.unfeatured q.feats) = false) :
    s.stageImage q b = ({ s with desc := { s.desc with staged := values, stagedWhole := true, load := [] } } : State).reply q .ok
      (leBytes 4 b.length ++ [1, 0, 0, 0]) := by
  rw [State.stageImage, hgood, hfeat]
  rfl

/-- Does a byte of a received image stand beyond the LENGTH of its header? -/
def imageBeyond (t : Tab Nat) : Bool :=
  match imageTotal t with
  | some m => t.any fun e => decide (m ≤ e.1)
  | none => false

theorem imageBeyond_of_within {t : Tab Nat} (h : ∀ m, imageTotal t = some m → ∀ e ∈ t, e.1 < m) : imageBeyond t = false := by
  unfold imageBeyond
  split
  · next m hm =>
    rw [List.any_eq_false]
    intro e he
    have := h m hm e he
    simp; omega
  · rfl

/-- What OBJ.LOAD makes of a chunk, once the own edit admits it. -/
theorem objLoad_admitted {s : State} {mb : Nat} {q : Req} (hq : q = s.request mb) (hstart : s.starts 0x0307 mb)
    (hlay : q.lay (8 + q.u 4 2) [(6, 2)] = true) (h1 : 1 ≤ q.u 4 2) (h488 : q.u 4 2 ≤ 488)
    (hown : s.desc.edit = some q.session) (hcommit : s.ownCommit q = false) {t : Tab Nat}
    (ht : t = putImage s.desc.load (q.u 0 4) (slice q.payload 8 (q.u 4 2))) :
    exec (.objLoad mb) s = .next (if (chunkOverlaps s.desc.load (q.u 0 4) (q.u 4 2) || imageBeyond t) = true then
        s.taken.loadFault q 3 0x8000 0
      else if imageTotal t = some t.length then s.taken.stageImage q (imageBytes t t.length)
      else ({ s.taken with desc := { s.desc with load := t } } : State).reply q .ok (leBytes 4 t.length ++ [0, 0, 0, 0])).followed := by
  subst hq ht
  have hbusy : ¬s.taken.editFault (s.request mb) = some .busy := by
    rw [State.editFault_own (s := s.taken) hown hcommit]
    decide
  have hopen : ¬s.taken.desc.edit.isNone = true := by
    rw [show s.taken.desc.edit = some _ from hown]
    exact Bool.false_ne_true
  refine State.runOrder_does hstart ((if_neg hbusy).trans ((if_neg (by simp [hlay]; omega)).trans ((if_neg hopen).trans ?_)))
  generalize slice (s.request mb).payload 8 ((s.request mb).u 4 2) = c
  rw [show s.taken.desc.load = s.desc.load from rfl]
  generalize putImage s.desc.load ((s.request mb).u 0 4) c = t
  rfl

end Sys2Proof.Machine

namespace Sys2Proof
open Machine

/-- Settles O20: each order's body on the state with its request taken. -/
theorem objectReadAndLoadOrders : Obligations.ObjectReadAndLoadOrders := by
  refine ⟨?_, ?_⟩
  · rintro s mb q rfl
    refine ⟨?_, fun hstart hlay => ?_, fun hstart hlay h1 h480 => ⟨fun k b hk hb hlen => ?_, fun hnone => ?_⟩⟩
    · rintro hstart n rfl hlay hsrc h1 h60 ds hds body rfl hlen
      have hdef := forall_pair_of_map hds
      have hguard : ¬(!(s.request mb).lay (4 + 4 * (s.request mb).u 1 1) [(2, 2)] || decide (2 < (s.request mb).u 0 1) ||
          decide ((s.request mb).u 1 1 = 0) || decide (60 < (s.request mb).u 1 1) ||
          ((s.request mb).pairs ((s.request mb).u 1 1)).any (fun p => (pairDef p).isNone) ||
          decide (492 < (((s.request mb).pairs ((s.request mb).u 1 1)).map (s.taken.getEntry ((s.request mb).u 0 1))).flatten.length) ||
          (decide ((s.request mb).u 0 1 = 1) && !s.taken.ownEdit (s.request mb))) = true := by
        have hall : ((s.request mb).pairs ((s.request mb).u 1 1)).any (fun p => (pairDef p).isNone) = false := by
          rw [List.any_eq_false]
          intro p hp
          obtain ⟨d, -, hd⟩ := hdef p hp
          simp [hd]
        rw [hall, hsrc, hlay]
        rw [decide_eq_false (Nat.not_lt.mpr hlen), decide_eq_false (by omega : ¬(s.request mb).u 1 1 = 0),
          decide_eq_false (by omega : ¬60 < (s.request mb).u 1 1)]
        exact Bool.false_ne_true
      have hgone : ¬(decide ((s.request mb).u 0 1 = 2) && s.taken.desc.readCopy.isNone) = true := by simp [hsrc]
      refine ⟨fun hro => ⟨?_, ?_⟩, fun hro => ?_⟩
      · refine congrArg List.flatten (List.map_congr_left fun p hp => ?_)
        obtain ⟨d, hd, hpd⟩ := hdef p hp
        exact State.getEntry_committed hpd (hro d hd)
      · refine State.runOrder_does hstart ((if_neg hguard).trans ((if_neg hgone).trans ((if_neg ?_).trans ?_)))
        · rw [Bool.not_eq_true, List.any_eq_false]
          intro p hp
          obtain ⟨d, hd, hpd⟩ := hdef p hp
          simp [hpd, hro d hd]
        · rw [hsrc]
      · refine State.runOrder_does hstart ((if_neg hguard).trans ((if_neg hgone).trans ((if_pos ?_).trans ?_)))
        · obtain ⟨d, hd, hdro⟩ := hro
          obtain ⟨p, hp, hpd⟩ := exists_pair_of_map hds d hd
          exact List.any_eq_true.mpr ⟨p, hp, by simp [hpd, hdro]⟩
        · rw [hsrc]
          rfl
    · refine State.runOrder_does hstart ((if_neg (by simp [hlay])).trans ?_)
      rw [State.findingsFor_eq]
      rfl
    · refine State.runOrder_does hstart ((if_neg (by simp [hlay]; omega)).trans ?_)
      have hk' : s.taken.desc.readCopy = some k := hk
      simp only [hk']
      rw [if_neg (Nat.not_lt.mpr (hb ▸ hlen)), hb]
      rfl
    · refine State.runOrder_does hstart ((if_neg (by simp [hlay]; omega)).trans ?_)
      have hk' : s.taken.desc.readCopy = none := hnone
      simp only [hk']
      rfl
  · intro s mb q t hq hstart hlay h1 h488 hown hcommit ht
    have hload := objLoad_admitted hq hstart hlay h1 h488 hown hcommit ht
    refine ⟨fun hfree hwithin => ?_, fun hover => ?_⟩
    · rw [hfree, imageBeyond_of_within hwithin, Bool.or_self, if_neg Bool.false_ne_true] at hload
      refine ⟨fun hpart => ?_, fun b seq values htotal hb hgood hfeat => ?_⟩
      · rw [hload, if_neg hpart]
      · rw [hload, if_pos htotal, ← hb, State.stageImage_good hgood hfeat]
        rfl
    · rw [hload, hover, Bool.true_or, if_pos rfl]
      rfl

end Sys2Proof
end

section
/-! PROOFS. The edit of the description and the live OBJ.SET (R141 to R147, R512, R615). -/
set_option Elab.async false
namespace Sys2Proof.Machine

theorem firstIndex_none {α : Type} {p : α → Bool} {l : List α} (h : ∀ x ∈ l, p x = false) (i : Nat) :
    firstIndex p i l = none := by
  induction l generalizing i with
  | nil => rfl
  | cons x t ih =>
    rw [firstIndex, h x List.mem_cons_self, if_neg Bool.false_ne_true]
    exact ih (fun y hy => h y (List.mem_cons_of_mem _ hy)) (i + 1)

/-- Live entries that all pass R615 wait for the tide boundary. -/
theorem State.setLive_waits {s : State} {q : Req} {es : List Entry}
    (h : ∀ e ∈ es, (s.withDescription (applyEntries s.desc.committed (es.map fun e => (e.key, e.number)))).liveFault
      (s.validate (applyEntries s.desc.committed (es.map fun e => (e.key, e.number)))) e.key = false) :
    s.setLive q es = s.wait q (.objSet (es.map fun e => (e.key, e.number))) := by
  unfold State.setLive
  dsimp only
  rw [firstIndex_none h]

/-- A stored copy being written leaves the rest of the description, and is not well formed. -/
theorem Desc.putCopy_begins (d : Desc) (k seq : Nat) (t : Tab (Option Int)) :
    (d.putCopy k seq t false).wellFormed k = false ∧ (d.putCopy k seq t false).committed = d.committed ∧
      (d.putCopy k seq t false).sequence = d.sequence ∧ (d.putCopy k seq t false).edit = d.edit := by
  unfold Desc.putCopy Desc.wellFormed
  split <;> exact ⟨rfl, rfl, rfl, rfl⟩

/-- A commit begins: the staged set and the image are captured, and the spare copy is being written. -/
theorem State.beginCommit_desc (s : State) :
    s.beginCommit = { s with desc := s.beginCommit.desc } ∧
    s.beginCommit.desc.image = mergeStaged s.desc.committed s.desc.staged s.desc.stagedWhole ∧
    s.beginCommit.desc.captured = s.desc.staged ∧ s.beginCommit.desc.committing = true ∧
    s.beginCommit.desc.committed = s.desc.committed ∧ s.beginCommit.desc.sequence = s.desc.sequence ∧
    s.beginCommit.desc.edit = s.desc.edit ∧ s.beginCommit.desc.capturedSeq = nextSequence s.desc.sequence ∧
    s.beginCommit.desc.wellFormed s.beginCommit.desc.copy = false := by
  obtain ⟨hformed, hcommitted, hseq, hedit⟩ := s.desc.putCopy_begins s.desc.spareCopy 0xFFFFFFFF []
  exact ⟨rfl, rfl, rfl, rfl, hcommitted, hseq, hedit, rfl, hformed⟩

/-- The findings of the own edit are those on what it would commit. -/
theorem State.findingsFor_own {s : State} {q : Req} (h : s.desc.edit = some q.session) :
    s.findingsFor q = s.validate (mergeStaged s.desc.committed s.desc.staged s.desc.stagedWhole) := by
  rw [State.findingsFor_eq, if_pos h]

end Sys2Proof.Machine

namespace Sys2Proof
open Machine

/-- Settles O21: each order's body on the state with its request taken. -/
theorem objectEditOrders : Obligations.ObjectEditOrders := by
  rintro s mb q rfl
  refine ⟨fun hstart => ⟨fun hnone hlay => ?_, fun n hn => ?_⟩, ?_, fun hstart hlay hown hcommit hidle => ?_,
    fun hstart hlay hown hcommit new hnew => ?_⟩
  · have hfree : ¬s.taken.desc.edit.isSome = true := by
      rw [show s.taken.desc.edit = none from hnone]
      exact Bool.false_ne_true
    exact State.runOrder_does hstart ((if_neg hfree).trans (if_neg (by simp [hlay])))
  · have hopen : s.taken.desc.edit.isSome = true := by rw [show s.taken.desc.edit = some n from hn]; rfl
    exact State.runOrder_does hstart (if_pos hopen)
  · intro hstart hcommit h4 h496 h1 h61 hzero es hes hlen
    have hentries : (s.request mb).entries = (es, []) := hes
    refine ⟨fun hfeat => ?_, fun hfeat hfault => ?_⟩
    · have hmay : mayWrite (s.request mb) s.taken = false := by
        rw [mayWrite, hentries, hfeat]
        rfl
      exact next_congr (State.runOrderWith_feature hstart rfl hmay _)
    · have hmay : mayWrite (s.request mb) s.taken = true := by
        rw [mayWrite, hentries, hfeat]
        rfl
      have hown' : ¬s.taken.ownCommit (s.request mb) = true := by
        rw [show s.taken.ownCommit (s.request mb) = false from hcommit]
        exact Bool.false_ne_true
      have hok : ¬(decide ((s.request mb).len < 4) || decide (496 < (s.request mb).len) || decide ((s.request mb).u 0 1 = 0) ||
          decide (61 < (s.request mb).u 0 1) || !allZero (s.request mb).payload 1 3 ||
          decide ((s.request mb).entries.1.length ≠ (s.request mb).u 0 1) || decide ((s.request mb).entries.2 ≠ [])) = true := by
        rw [hentries, hzero, hlen]
        simp
        omega
      refine ⟨fun d hedit hd hcount => ?_, fun t hedit ht hlive => ?_⟩
      · refine State.runOrderWith_does hstart rfl hmay ((if_neg hown').trans ((if_neg hok).trans ?_))
        have hmine : s.taken.ownEdit (s.request mb) = true := decide_eq_true hedit
        simp only [hentries, hfault, hmine, if_true]
        have hd' : es.foldl (fun d e => d.stage e.key e.number) s.taken.desc = d := hd.symm
        rw [State.setStaged, hd', if_neg (Nat.not_lt.mpr hcount)]
      · refine State.runOrderWith_does hstart rfl hmay ((if_neg hown').trans ((if_neg hok).trans ?_))
        have hmine : s.taken.ownEdit (s.request mb) = false := decide_eq_false hedit
        simp only [hentries, hfault, hmine, Bool.false_eq_true, if_false]
        refine State.setLive_waits fun e he => ?_
        have hone := hlive e he
        rw [ht] at hone
        exact hone
  · have hgoes : ¬s.taken.editFault (s.request mb) = some .busy := by
      rw [State.editFault_own (s := s.taken) hown hcommit]
      decide
    have hopen : ¬s.taken.desc.edit.isNone = true := by
      rw [show s.taken.desc.edit = some _ from hown]
      exact Bool.false_ne_true
    refine State.runOrder_does hstart ((if_neg hgoes).trans ((if_neg (by simp [hlay])).trans ((if_neg hopen).trans ?_)))
    rw [State.closeEdit, if_neg (by rw [show s.taken.desc.committing = false from hidle]; exact Bool.false_ne_true)]
    rfl
  · have hgoes : ¬s.taken.editFault (s.request mb) = some .busy := by
      rw [State.editFault_own (s := s.taken) hown hcommit]
      decide
    have hopen : ¬s.taken.desc.edit.isNone = true := by
      rw [show s.taken.desc.edit = some _ from hown]
      exact Bool.false_ne_true
    have hfound : s.taken.findingsFor (s.request mb) = s.taken.validate new := by
      rw [State.findingsFor_own (s := s.taken) hown, hnew]
      rfl
    refine ⟨fun hnone => ?_, fun hsome => ?_⟩
    · obtain ⟨hx, himage, hcaptured, hcommitting, hcommitted, hseq, hedit, hnext, hformed⟩ := s.taken.beginCommit_desc
      refine ⟨s.taken.beginCommit, State.runOrder_does hstart ((if_neg hgoes).trans ((if_neg (by simp [hlay])).trans
        ((if_neg hopen).trans (if_neg ?_)))), himage.trans hnew.symm, hcaptured, hcommitting, hcommitted, hseq, hedit.trans hown, hnext,
        hformed, ?_, ?_⟩
      · rw [hfound, hnone]
        exact fun h => h rfl
      · rw [hx]
        intro p hp
        cases p <;> first | rfl | exact absurd hp (by decide)
      · rw [hx]
    · refine State.runOrder_does hstart ((if_neg hgoes).trans ((if_neg (by simp [hlay])).trans ((if_neg hopen).trans
        ((if_pos ?_).trans ?_))))
      · rw [hfound]
        exact hsome
      · rw [hfound]

end Sys2Proof
end

section
/-! PROOFS. MODE.GET, MODE.SET, the time and the service orders (R35 to R38, R508, R509, R524 to R527). -/
set_option Elab.async false
namespace Sys2Proof.Machine

/-- A part outside a footprint is unchanged. -/
theorem Foot.keeps {l : Nat} {s t : State} (h : Foot l s t) (p : Part) (hp : p.holds l = false := by rfl) : p.same s t :=
  h.1 p hp

/-- The mode part after a change of mode. -/
theorem State.enterMode_power (s : State) (m : Mode) : (s.enterMode m).power =
    { s.power with mode := m, fromMode := s.mode, modeEpoch := s.clocks.epoch } := by
  unfold State.enterMode
  dsimp only
  generalize hx : ((s.abortIdents 0x08).endProbe 0x03).wakeGauge s.retained.rtcNs 0 = x
  have hfoot : Foot 0xC0800 s x := by
    rw [← hx]
    exact (State.wakeGauge_foot _ _ _).after ((State.endProbe_foot _ _).after ((State.abortIdents_foot _ _).after .same))
  generalize hy : (if minorChange s.mode m = true then x
    else (x.abandonCommit (if modesEdit.contains m = true then .busy else .wrongMode)).closeEdit) = y
  have hfoot' : Foot 0x309C08C0 s y := by
    rw [← hy]
    exact .ite hfoot.mono ((State.closeEdit_foot _).after ((State.abandonCommit_foot _ _).after hfoot.mono))
  generalize hz : (if s.mode = .service ∨ m = .lastGasp then y.releaseHalts else y) = z
  have hfoot'' : Foot 0x329C0AE0 s z := by
    rw [← hz]
    exact .ite ((State.releaseHalts_foot _).after hfoot'.mono) hfoot'.mono
  have hpower : z.power = s.power := hfoot''.keeps .power
  have hclocks : z.clocks = s.clocks := hfoot''.keeps .clocks
  refine ((State.irqMode_foot _).keeps .power).trans ?_
  show ({ z.power with mode := m, fromMode := s.mode, modeEpoch := z.clocks.epoch } : Power) = _
  rw [hpower, hclocks]

/-- MODE.SET enters a mode from the present one, at the present epoch. -/
theorem State.setMode_power (s : State) (m : Mode) (source : Nat) : (s.setMode m 0 source).power =
    { s.power with mode := m, fromMode := s.mode, modeEpoch := s.clocks.epoch } := by
  unfold State.setMode
  dsimp only
  rw [if_pos rfl]
  refine ((State.onEntry_foot _ _ _).keeps .power).trans (((State.record_foot _ _ _ _).keeps .power).trans ?_)
  exact s.enterMode_power m

/-- MODE.SET of a TARGET acts by its refusal. -/
theorem modeSet_judged {s : State} {mb : Nat} {t : Mode} (hstart : s.starts 0x0202 mb)
    (hlay : (s.request mb).lay 4 [(1, 3)] = true) (ht : modeTarget ((s.request mb).u 0 1) = some t) :
    exec (.modeSet mb) s = .next (match s.modeRefusal (s.request mb) t with
      | some .ok => s.taken.answerMode (s.request mb)
      | some .wrongMode =>
        (if s.power.longPress || s.modeRow t then s.taken else s.taken.triggerIgnored 8).refuse (s.request mb) .wrongMode
      | some st => s.taken.refuse (s.request mb) st
      | none => s.taken.changeMode (s.request mb) t).followed := by
  refine State.runOrder_does hstart ((if_neg (by simp [hlay])).trans ?_)
  rw [ht] <;> rfl

/-- A MODE.SET that nothing refuses changes the mode. -/
theorem modeSet_changes {s : State} {mb : Nat} {t : Mode} (hstart : s.starts 0x0202 mb)
    (hlay : (s.request mb).lay 4 [(1, 3)] = true) (ht : modeTarget ((s.request mb).u 0 1) = some t)
    (hnone : s.modeRefusal (s.request mb) t = none) :
    exec (.modeSet mb) s = .next (s.taken.changeMode (s.request mb) t).followed := by
  rw [modeSet_judged hstart hlay ht, hnone]

/-- The refusals of Table 19-7 before the row of Table 2-2, where none of them applies. -/
theorem State.modeRefusal_row {s : State} {q : Req} {t : Mode} (hpress : s.power.longPress = false)
    (hset : s.modeSetPending = false) (hclaim : s.sluice.claim = .none)
    (hpriv : t = .service → 2 ≤ (s.sesAt q.session).privilege) (hmode : t ≠ s.mode) :
    s.modeRefusal q t = if (!s.modeRow t) = true then some .wrongMode
      else if s.otp.lifecycle = 0 ∨ (t = .run ∧ s.otp.lifecycle = 3) then some .wrongMode
      else if s.mode = .safeHold ∧ (t = .run ∨ t = .configure) ∧ s.safetyPending = true then some .locked
      else if t = .run ∧ s.desc.sequence = 0 ∧ s.sluice.peer = false then some .locked else none := by
  have hfree : ¬(s.modeSetPending || decide (s.sluice.claim ≠ .none)) = true := by simp [hset, hclaim]
  have hpriv' : ¬(t = .service ∧ (s.sesAt q.session).privilege < 2) := fun h => by
    have := hpriv h.1
    omega
  rw [State.modeRefusal, if_neg (by simp [hpress]), if_neg hfree, if_neg hpriv', if_neg hmode]

end Sys2Proof.Machine

namespace Sys2Proof
open Machine

/-- Settles O22: each order's body on the state with its request taken. -/
theorem modeGetTimeAndServiceOrders : Obligations.ModeGetTimeAndServiceOrders := by
  refine ⟨?_, ?_⟩
  · rintro s mb p hstart hlay rfl
    exact State.runOrder_does hstart (if_neg (by simp [hlay]))
  · rintro s mb q rfl
    refine ⟨fun hstart hlay => ?_, fun hstart hlay => ⟨fun hptp hmay => ?_, fun hback hpriv => ?_, fun hfree hmay => ?_⟩,
      fun hstart hlay hkey => ?_, fun hstart hlay hblock => ⟨fun hpower => ?_, fun hpower => ?_⟩⟩
    · exact State.runOrder_does hstart (if_neg (by simp [hlay]))
    · have hmay' : mayStepBack (s.request mb) s.taken = true := by
        rcases hmay with h | h
        · exact Bool.or_eq_true_iff.mpr (.inl (decide_eq_true h))
        · exact Bool.or_eq_true_iff.mpr (.inr (decide_eq_true h))
      exact State.runOrderWith_does hstart hmay' rfl ((if_neg (by simp [hlay])).trans (if_pos hptp))
    · have hmay' : mayStepBack (s.request mb) s.taken = false :=
        Bool.or_eq_false_iff.mpr ⟨decide_eq_false (Nat.not_le.mpr hback), decide_eq_false (Nat.not_le.mpr hpriv)⟩
      exact next_congr (State.runOrderWith_privilege hstart hmay' _)
    · have hmay' : mayStepBack (s.request mb) s.taken = true := by
        rcases hmay with h | h
        · exact Bool.or_eq_true_iff.mpr (.inl (decide_eq_true h))
        · exact Bool.or_eq_true_iff.mpr (.inr (decide_eq_true h))
      exact State.runOrderWith_does hstart hmay' rfl ((if_neg (by simp [hlay])).trans (if_neg hfree))
    · rintro x rfl
      exact State.runOrder_does hstart (if_neg (by simp [hlay, hkey]))
    · have hpower' : s.taken.blockPowered ((s.request mb).u 0 1) = true := hpower
      exact State.runOrder_does hstart ((if_neg (by simp [hpower'])).trans (if_neg (by simp [hlay]; omega)))
    · have hpower' : s.taken.blockPowered ((s.request mb).u 0 1) = false := hpower
      exact State.runOrder_does hstart (if_pos (by simp [hpower']; omega))

/-- Settles O23: the judgement of Table 19-7, and then the change to the target. -/
theorem modeSetChangesMode : Obligations.ModeSetChangesMode := by
  rintro s x mb q rfl hstart hlay hpress hset hclaim
  have hrow := fun t => State.modeRefusal_row (q := s.request mb) (t := t) hpress hset hclaim
  refine ⟨fun hlife htarget hpriv hmode hx => ?_, fun htarget hmode hlife hretired hdesc => ⟨fun htoken hx => ?_, fun htoken hx => ?_⟩,
    fun hlife htarget hactive => ?_, fun hlife htarget hmode hsafe hx => ?_, fun hlife hmode htarget hfrom hrun hx => ?_,
    fun t htarget hsame hpriv => ?_, fun t htarget hpriv hother hno => ?_, fun t htarget hpriv hother hyes hblank => ?_⟩
  · have hnone : s.modeRefusal (s.request mb) .service = none := by
      rw [hrow _ (fun _ => hpriv) (by rcases hmode with h | h | h | h <;> simp [h])]
      rcases hmode with h | h | h | h <;> simp [State.modeRow, h, hlife]
    refine ⟨?_, ?_⟩
    · rw [modeSet_changes hstart hlay (by rw [htarget]; rfl) hnone, hx]
      have hservice : (s.taken.setMode .service 0 0xFFFF).mode = .service := by
        rw [State.mode, State.setMode_power]
      show Host.Outcome.next ((State.reply _ _ _ (modePayload (s.taken.setMode .service 0 0xFFFF).mode)).followed) = _
      rw [hservice]
      rfl
    · rw [State.mode, hx, State.setMode_power]
      exact ⟨rfl, rfl, rfl⟩
  · have hnone : s.modeRefusal (s.request mb) .run = none := by
      rw [hrow _ (fun h => by cases h) (by simp [hmode])]
      rcases hdesc with h | h <;> simp [State.modeRow, hmode, hlife, hretired, h]
    have htoken' : s.taken.token = true := htoken
    have hmode' : ¬s.taken.mode = .service := by rw [show s.taken.mode = .configure from hmode]; decide
    have hrunMode : x.mode = .run := by rw [State.mode, hx, State.setMode_power]
    refine ⟨?_, hrunMode⟩
    rw [modeSet_changes hstart hlay (by rw [htarget]; rfl) hnone]
    refine next_congr (congrArg State.followed ((if_neg hmode').trans ((if_pos htoken').trans ?_)))
    rw [← hx, State.answerMode, hrunMode]
    rfl
  · have hnone : s.modeRefusal (s.request mb) .run = none := by
      rw [hrow _ (fun h => by cases h) (by simp [hmode])]
      rcases hdesc with h | h <;> simp [State.modeRow, hmode, hlife, hretired, h]
    have htoken' : ¬s.taken.token = true := by rw [show s.taken.token = false from htoken]; decide
    have hmode' : ¬s.taken.mode = .service := by rw [show s.taken.mode = .configure from hmode]; decide
    rw [modeSet_changes hstart hlay (by rw [htarget]; rfl) hnone]
    refine next_congr (congrArg State.followed ((if_neg hmode').trans ((if_neg htoken').trans ?_)))
    rw [← hx]
    rfl
  · rcases htarget with h | h
    · have hnone : s.modeRefusal (s.request mb) .keep = none := by
        rw [hrow _ (fun h => by cases h) (by rintro h; rw [← h] at hactive; cases hactive)]
        simp [State.modeRow, hactive, hlife]
      rw [modeSet_changes hstart hlay (by rw [h]; rfl) hnone, h]
      rfl
    · have hnone : s.modeRefusal (s.request mb) .gaugeWatch = none := by
        rw [hrow _ (fun h => by cases h) (by rintro h; rw [← h] at hactive; cases hactive)]
        simp [State.modeRow, hactive, hlife]
      rw [modeSet_changes hstart hlay (by rw [h]; rfl) hnone, h]
      rfl
  · have hnone : s.modeRefusal (s.request mb) .configure = none := by
      rw [hrow _ (fun h => by cases h) (by simp [hmode])]
      simp [State.modeRow, hmode, hlife, hsafe]
    have hmode' : ¬s.taken.mode = .service := by rw [show s.taken.mode = .safeHold from hmode]; decide
    rw [modeSet_changes hstart hlay (by rw [htarget]; rfl) hnone]
    refine next_congr (congrArg State.followed ((if_neg hmode').trans ?_))
    rw [hx]
    rfl
  · have hmode' : s.taken.mode = .service := hmode
    rcases hfrom with h | h
    · have hnone : s.modeRefusal (s.request mb) .configure = none := by
        rw [hrow _ (fun h => by cases h) (by simp [hmode])]
        simp [State.modeRow, hmode, hlife, h]
      rw [modeSet_changes hstart hlay (by rw [htarget, h]; rfl) hnone]
      refine next_congr (congrArg State.followed ((if_pos hmode').trans ?_))
      rw [hx]
      rfl
    · obtain ⟨hretired, hdesc⟩ := hrun h
      have hnone : s.modeRefusal (s.request mb) .run = none := by
        rw [hrow _ (fun h => by cases h) (by simp [hmode])]
        rcases hdesc with h' | h' <;> simp [State.modeRow, hmode, hlife, hretired, h, h']
      rw [modeSet_changes hstart hlay (by rw [htarget, h]; rfl) hnone]
      refine next_congr (congrArg State.followed ((if_pos hmode').trans ?_))
      rw [hx]
      rfl
  · have hok : s.modeRefusal (s.request mb) t = some .ok := by
      have hpriv' : ¬(t = .service ∧ (s.sesAt (s.request mb).session).privilege < 2) := fun h => by
        have := hpriv h.1
        omega
      rw [State.modeRefusal, if_neg (by simp [hpress]), if_neg (by simp [hset, hclaim]), if_neg hpriv', if_pos hsame]
    rw [modeSet_judged hstart hlay htarget, hok]
    rfl
  · have hwrong : s.modeRefusal (s.request mb) t = some .wrongMode := by
      rw [hrow t hpriv hother, hno]
      rfl
    rw [modeSet_judged hstart hlay htarget, hwrong, hpress, hno]
    rfl
  · have hwrong : s.modeRefusal (s.request mb) t = some .wrongMode := by
      rw [hrow t hpriv hother, hyes, if_neg (by decide), if_pos (.inl hblank)]
    rw [modeSet_judged hstart hlay htarget, hwrong, hpress, hyes]
    rfl

end Sys2Proof
end

section
/-! PROOFS. The ends of external writes (R51, R83, R94, R99, R105, R127, R147, R149). -/
set_option Elab.async false
namespace Sys2Proof.Machine

/-- The order that waits on a mailbox is of that mailbox. -/
theorem State.waitingOn_mailbox {s : State} {mb : Nat} {w : Waiting} (h : s.waitingOn mb = some w) : w.mailbox = mb :=
  of_decide_eq_true (List.find?_some (p := fun w : Waiting => decide (w.mailbox = mb)) h)

/-- Without a brace nothing is suspended. -/
theorem State.suspends_unbraced {s : State} (w : Waiting) (h : s.power.brace = none) : s.suspends w = false := by
  rw [State.suspends, h]
  rfl

/-- A write of a waiting order that ends while nothing suspends it. -/
theorem externalWriteComplete_ends {s : State} {mb : Nat} {w : Waiting} (hruns : s.wardenRuns = true) (hmb : mb < 16)
    (hw : s.waitingOn mb = some w) (hbrace : s.power.brace = none) (ok : Bool) (stage left : Nat) :
    exec (.externalWriteComplete mb ok stage left) s = .next (s.writeEnded w ok stage left) := by
  refine next_congr ((if_neg (by simp [hruns])).trans ((if_neg (by omega)).trans ?_))
  rw [hw]
  exact if_neg (by rw [State.suspends_unbraced w hbrace]; exact Bool.false_ne_true)

/-- A write of a waiting order does not end while a brace suspends it. -/
theorem externalWriteComplete_suspended {s : State} {mb : Nat} {w : Waiting} (hruns : s.wardenRuns = true) (hmb : mb < 16)
    (hw : s.waitingOn mb = some w) (hsus : s.suspends w = true) (ok : Bool) (stage left : Nat) :
    exec (.externalWriteComplete mb ok stage left) s = .next s := by
  refine next_congr ((if_neg (by simp [hruns])).trans ((if_neg (by omega)).trans ?_))
  rw [hw]
  exact if_pos hsus

/-- The limit of a waiting order's write. -/
theorem externalWriteTimeout_of {s : State} {mb : Nat} {w : Waiting} (hruns : s.wardenRuns = true)
    (hw : s.waitingOn mb = some w) (hbus : w.what ≠ .twTransfer) (hprog : w.what ≠ .otpProgram)
    (hlife : ∀ t, w.what ≠ .lifecycle t) :
    exec (.externalWriteTimeout mb) s = .next (if s.suspends w = true then s else s.writeEnded w false 0 0) := by
  refine next_congr ((if_neg (by simp [hruns])).trans ?_)
  rw [hw]
  dsimp only
  split
  · next h => exact absurd h hbus
  · next h => exact absurd h hprog
  · next t h => exact absurd h (hlife t)
  · rfl

/-- A slot-table write that is read back outside Boot, and is no CONFIRMED mark of copy 0. -/
theorem State.tableWritten_eq {s : State} {w : TableWrite} {rest : List TableWrite} (hwrites : s.boot.writes = w :: rest)
    (hmode : s.mode ≠ .boot) (hmark : ∀ slot, w ≠ .mark 0 slot 0x1F) :
    s.tableWritten = { s with boot := { s.boot.written1 w with writes := rest } } := by
  unfold State.tableWritten
  rw [hwrites]
  dsimp only
  split
  · next slot => exact absurd rfl (hmark slot)
  · exact if_neg fun h => hmode h.1

/-- A copy whose writing has ended is well formed and holds the image. -/
theorem Desc.putCopy_written (d : Desc) (k seq : Nat) (t : Tab (Option Int)) :
    (d.putCopy k seq t true).wellFormed k = true ∧ (d.putCopy k seq t true).seqOf k = seq ∧
    (d.putCopy k seq t true).valuesOf k = t ∧ (d.putCopy k seq t true).appliedOk k = decide (seq = 0xFFFFFFFF) ∧
    (d.putCopy k seq t true).committed = d.committed := by
  have hcomm : decide (0xFFFFFFFF = seq) = decide (seq = 0xFFFFFFFF) := decide_eq_decide.mpr eq_comm
  unfold Desc.putCopy Desc.wellFormed Desc.seqOf Desc.valuesOf Desc.appliedOk
  by_cases hk : k = 0
  · simp only [hk, if_true]
    exact ⟨trivial, trivial, trivial, hcomm, trivial⟩
  · simp only [hk, if_false]
    exact ⟨trivial, trivial, trivial, hcomm, trivial⟩

/-- The partner's presence rests on its HELLO, the lanes and the committed description. -/
theorem State.partnerShadow_congr {s t : State} (hsluice : t.sluice = s.sluice) (hdesc : t.desc.committed = s.desc.committed) :
    t.partnerShadow = s.partnerShadow := by
  simp only [State.partnerShadow, State.partner, State.linkUp, State.peerLanes, State.field, hsluice, hdesc]

/-- What a waiting order waits for, after it changes. -/
theorem State.waitingOn_rewait {s : State} {mb : Nat} {w : Waiting} (h : s.waitingOn mb = some w) (what : WaitKind) :
    ((s.rewait mb what).waitingOn mb).map Waiting.what = some what := by
  have hfind : ∀ l : List Waiting, l.find? (fun w => decide (w.mailbox = mb)) = some w →
      ((l.map fun w => if w.mailbox = mb then { w with what := what } else w).find? fun w => decide (w.mailbox = mb)).map
        Waiting.what = some what := by
    intro l hl
    induction l with
    | nil => cases hl
    | cons x l ih =>
      by_cases hx : x.mailbox = mb
      · simp [hx]
      · rw [List.find?_cons_of_neg (by simp [hx])] at hl
        rw [List.map_cons, if_neg hx, List.find?_cons_of_neg (by simp [hx])]
        exact ih hl
  exact hfind s.waiting h

theorem State.waitingOn_unwait (s : State) (mb : Nat) : (s.unwait mb).waitingOn mb = none := by
  refine List.find?_eq_none.mpr fun w hw => ?_
  have := (List.mem_filter.mp hw).2
  simpa using this

theorem byte_toNat (b : Byte) : byte b.toNat = b := by
  simp [byte]

/-- Erasing a block leaves the other fields of the boot block, and where a slot's bytes stand. -/
theorem Boot.eraseBlock_only (b : Boot) (slot blk : Nat) : ∃ x y e, b.eraseBlock slot blk = { b with dataA := x, dataB := y, erased := e } := by
  unfold Boot.eraseBlock Boot.setData
  split
  · exact ⟨_, _, _, rfl⟩
  · split
    · exact ⟨_, _, _, rfl⟩
    · exact ⟨_, _, _, rfl⟩

/-- A byte of a slot whose data have gone through `f`. -/
theorem Boot.slotBytes_setData (b : Boot) (slot : Nat) (f : Tab Nat → Tab Nat) (o : Nat) :
    (b.setData slot f).slotBytes slot o 1 = [byte (Tab.get 0xFF (f (if slot = 0 then b.dataA else b.dataB)) o)] := by
  unfold Boot.slotBytes Boot.setData
  by_cases h : slot = 0
  · simp only [h, if_true]
    rfl
  · simp only [h, if_false]
    rfl

/-- The bytes of FW.WRITE stand in its slot once it is read back. -/
theorem State.fwWritten_eq (s : State) (mb slot o n : Nat) : ∃ x : State,
    s.fwWritten mb slot o n = x.finish mb .ok (leBytes 4 (o + n)) ∧ x.boot.written = o + n ∧
    (∀ i, i < n → x.boot.slotBytes slot (o + i) 1 = [(slice (s.request mb).payload 8 n).getD i 0]) ∧ Only [.boot] s x := by
  obtain ⟨b, hb⟩ : ∃ b, b = (s.boot.eraseBlock slot (o / 65536)).eraseBlock slot ((o + n - 1) / 65536) := ⟨_, rfl⟩
  obtain ⟨d, hd⟩ : ∃ d, d = slice (s.request mb).payload 8 n := ⟨_, rfl⟩
  obtain ⟨x, hx⟩ : ∃ x : State, x = { s with boot := { b.setData slot fun t =>
    (upto n).foldl (fun t i => Tab.set 0xFF t (o + i) (d.getD i 0).toNat) t with written := o + n } } := ⟨_, rfl⟩
  refine ⟨x, ?_, by rw [hx], fun i hi => ?_, ?_⟩
  · rw [hx, hb, hd]
    rfl
  · have hbytes : x.boot.slotBytes slot (o + i) 1 = (b.setData slot fun t =>
        (upto n).foldl (fun t i => Tab.set 0xFF t (o + i) (d.getD i 0).toNat) t).slotBytes slot (o + i) 1 := by
      rw [hx]
      rfl
    have hset : ∀ t : Tab Nat, (upto n).foldl (fun t i => Tab.set 0xFF t (o + i) (d.getD i 0).toNat) t =
        ((upto n).map (o + ·)).foldl (fun t j => Tab.set 0xFF t j (d.getD (j - o) 0).toNat) t := by
      intro t
      rw [List.foldl_map]
      simp only [Nat.add_sub_cancel_left]
    rw [hbytes, Boot.slotBytes_setData, hset, Tab.get_foldl_set, if_pos (List.mem_map.mpr ⟨i, mem_upto.mpr hi, rfl⟩),
      Nat.add_sub_cancel_left, byte_toNat, hd]
  · rw [hx]
    intro p hp
    cases p <;> first | rfl | exact absurd hp (by decide)

/-- The word of an OTP programming that ends, and nothing else of the array. -/
theorem State.otpEnd_eq (s : State) (j : OtpJob) (ok : Bool) (stage left : Nat) : ∃ x : State,
    s.otpEnd j ok stage left = (if ok = true then x else x.raise 283 1 []) ∧ Only [.otp] s x ∧
    x.otp = { s.otp with job := none, words := x.otp.words } ∧ (∀ n, n ≠ j.word → x.otpAt n = s.otpAt n) ∧
    x.otpAt j.word = j.result (s.otpAt j.word) ok stage left := by
  refine ⟨{ s with otp := { s.otp with
    job := none, words := Tab.set {} s.otp.words j.word (j.result (s.otpAt j.word) ok stage left) } }, rfl, ?_, rfl,
    fun n hn => ?_, ?_⟩
  · intro p hp
    cases p <;> first | rfl | exact absurd hp (by decide)
  · exact (Tab.get_set _ _ _ _ _).trans (if_neg hn)
  · exact (Tab.get_set _ _ _ _ _).trans (if_pos rfl)

end Sys2Proof.Machine

namespace Sys2Proof
open Machine

/-- Settles O24: the waiting order's own end, once nothing suspends it. -/
theorem externalWritesEnd : Obligations.ExternalWritesEnd := by
  intro s mb w hruns hmode hmb hw
  have hmail : w.mailbox = mb := State.waitingOn_mailbox hw
  refine ⟨fun hbrace j ok stage left hwhat hjob hfill => ?_, fun hbrace k stage left hwhat => ?_,
    fun hbrace slot o n stage left hwhat hn hwrites => ?_, fun hbrace slot x stage left hwhat hwrites => ?_,
    fun hbrace slot x stage left hwhat hwrites b hb => ?_, fun hbrace up stage left hwhat => ?_,
    fun hbrace d stage left hwhat hd hpartner => ?_, fun hbrace d stage left hwhat hd => ?_,
    fun hbrace stage left hwhat => ?_, fun hbrace ok stage left hwhat => ?_, fun hwhat => ?_,
    fun copy slot v rest stage left hbrace hwrites hconfirmed => ?_⟩
  · obtain ⟨x, hend, honly, hotp, hothers, hword⟩ := s.otpEnd_eq j ok stage left
    refine ⟨x, (x.otpAt j.word).status, honly, hotp, hothers, ?_, rfl, ?_⟩
    · rw [hword, OtpJob.result, hfill]
      cases ok <;> rfl
    · rw [externalWriteComplete_ends hruns hmb hw hbrace, State.writeEnded, hwhat, hmail]
      dsimp only
      rw [State.otpProgrammed, hjob]
      dsimp only
      rw [hend]
      have hraised : ((if ok = true then x else x.raise 283 1 []) : State).otp = x.otp := by
        cases ok
        · exact (State.raise_foot x 283 1 []).keeps .otp
        · rfl
      rw [State.otpAt, hraised]
      rfl
  · refine ⟨({ s with host := { s.host with datagramKey := some k } } : State).record 0x10 2
      ([1, 0, 0, 0] ++ leBytes 4 w.session), ?_, ?_, ?_⟩
    · rw [externalWriteComplete_ends hruns hmb hw hbrace, State.writeEnded, hwhat, hmail]
      dsimp only
      rw [if_pos rfl, State.keyInstalled, hmail]
      rfl
    · exact (State.record_foot _ _ _ _).keeps .host
    · intro p hp
      refine Part.same_trans (t := { s with host := { s.host with datagramKey := some k } }) ?_
        (((State.record_foot _ _ _ _).onlyIn [.log] : Only [.log] _ _) p ?_)
      · cases p <;> first | rfl | exact absurd hp (by decide)
      · cases p <;> first | rfl | exact absurd hp (by decide)
  · obtain ⟨x, hx, hwritten, hbytes, honly⟩ := s.fwWritten_eq mb slot o n
    refine ⟨x, ?_, hwritten, fun i hi _ => hbytes i hi, honly⟩
    rw [externalWriteComplete_ends hruns hmb hw hbrace, State.writeEnded, hwhat, hmail]
    dsimp only
    rw [State.fwWriteStep, hwrites]
    exact next_congr hx
  · rw [externalWriteComplete_ends hruns hmb hw hbrace, State.writeEnded, hwhat, hmail]
    dsimp only
    rw [State.fwCommitStep, State.tableWritten_eq hwrites hmode (by rintro _ ⟨⟩)]
    rfl
  · rw [externalWriteComplete_ends hruns hmb hw hbrace, State.writeEnded, hwhat, hmail]
    dsimp only
    rw [State.fwCommitStep, State.tableWritten_eq hwrites hmode (by rintro _ ⟨⟩), hb]
    rfl
  · rw [externalWriteComplete_ends hruns hmb hw hbrace, State.writeEnded, hwhat, hmail]
    rfl
  · subst hd
    obtain ⟨hformed, hseq, hvalues, happlied, hcommitted⟩ := s.desc.putCopy_written s.desc.copy s.desc.capturedSeq s.desc.image
    obtain ⟨x, hx⟩ : ∃ x : State, x = { s with desc := s.desc.putCopy s.desc.copy s.desc.capturedSeq s.desc.image true } :=
      ⟨_, rfl⟩
    have hdesc : (x.rewait mb .commitBoundary).desc = s.desc.putCopy s.desc.copy s.desc.capturedSeq s.desc.image true := by
      rw [hx]
      rfl
    have hwait : x.waitingOn mb = some w := by
      rw [hx]
      exact hw
    refine ⟨x.rewait mb .commitBoundary, ?_, hdesc ▸ hformed, hdesc ▸ hseq, hdesc ▸ hvalues, hdesc ▸ happlied,
      hdesc ▸ hcommitted, State.waitingOn_rewait hwait _, ?_⟩
    · rw [externalWriteComplete_ends hruns hmb hw hbrace, State.writeEnded, hwhat, hmail]
      have hpartner' : ¬x.partnerShadow = true := by
        have hsame : x.partnerShadow = s.partnerShadow :=
          State.partnerShadow_congr (by rw [hx]) (by rw [hx]; exact hcommitted)
        rw [hsame, hpartner]
        exact Bool.false_ne_true
      dsimp only
      rw [State.commitStored]
      refine next_congr ((if_pos rfl).trans ?_)
      rw [← hx]
      exact if_neg hpartner'
    · rw [hx]
      intro p hp
      cases p <;> first | rfl | exact absurd hp (by decide)
  · subst hd
    refine ⟨({ s with desc := s.desc.markApplied s.desc.appliedCopy } : State).unwait mb, ?_, rfl, State.waitingOn_unwait _ _, ?_⟩
    · rw [externalWriteComplete_ends hruns hmb hw hbrace, State.writeEnded, hwhat, hmail]
      rfl
    · intro p hp
      cases p <;> first | rfl | exact absurd hp (by decide)
  · have hends : ∀ stage left, s.writeEnded w false stage left = s.finish mb .timeout [] := by
      intro stage left
      rw [State.writeEnded, hmail]
      rcases hwhat with ⟨kind, k, h⟩ | ⟨a, h⟩ | ⟨a, h⟩ | ⟨k, h⟩ <;> rw [h] <;> rfl
    refine ⟨?_, ?_⟩
    · rw [externalWriteTimeout_of hruns hw, State.suspends_unbraced w hbrace, if_neg Bool.false_ne_true, hends]
      all_goals rcases hwhat with ⟨kind, k, h⟩ | ⟨a, h⟩ | ⟨a, h⟩ | ⟨k, h⟩ <;> simp [h]
    · rw [externalWriteComplete_ends hruns hmb hw hbrace, hends]
  · have hsus : s.suspends w = true := by
      rw [State.suspends, hbrace]
      rcases hwhat with h | h | h | ⟨kind, k, h⟩ | ⟨a, b, c, h⟩ | ⟨a, h⟩ <;> rw [h] <;> rfl
    refine ⟨externalWriteComplete_suspended hruns hmb hw hsus ok stage left, ?_⟩
    by_cases hprog : w.what = .otpProgram
    · refine next_congr ((if_neg (by simp [hruns])).trans ?_)
      rw [hw]
      dsimp only
      rw [hprog]
    · rw [externalWriteTimeout_of hruns hw, if_pos hsus]
      all_goals rcases hwhat with h | h | h | ⟨kind, k, h⟩ | ⟨a, b, c, h⟩ | ⟨a, h⟩ <;> first | exact absurd h hprog | simp [h]
  · refine next_congr ((if_neg (by simp [hruns])).trans ?_)
    rw [hw]
    dsimp only
    rw [hwhat]
  · have hfree : ¬s.power.brace.isSome = true := by simp [hbrace]
    refine next_congr ((if_neg (by simp [hruns])).trans ((if_pos (by omega)).trans ((if_neg hfree).trans
      ((if_neg (by omega)).trans ((if_neg (by omega)).trans ((if_pos rfl).trans ?_))))))
    rw [State.tableWritten_eq hwrites hmode]
    · rw [Boot.written1, Boot.setTable]
      by_cases hcopy : copy = 0
      · simp only [hcopy, if_true]
      · simp only [hcopy, if_false]
    · rintro slot ⟨⟩
      exact hconfirmed rfl rfl

end Sys2Proof
end

section
/-! PROOFS. Sessions: their orders, their timers and the lockout (R124 to R127, R132 to R135). -/
set_option Elab.async false
namespace Sys2Proof.Machine

/-- The state of a session that SESSION.OPEN makes, before its answer. -/
def State.opened (s : State) (q : Req) (priv id idle : Nat) : State :=
  let nd := if id = 0 then 0 else s.nextNonce
  { s with
    freeCount := if id = 0 then s.freeCount else s.freeCount + 1
    host := { s.host with
      nextSession := s.host.nextSession + 1, nonces := if id = 0 then s.host.nonces else nd :: s.host.nonces
      sessions := Tab.upd {} s.host.sessions s.host.nextSession fun _ =>
        { state := if id = 0 then .openS else .proving, privilege := priv, keyId := id, transport := q.transport
          idleS := if idle = 0 then 600 else idle, nonce := nd } }
    eth := { s.eth with peerPort := Tab.set 0 s.eth.peerPort s.host.nextSession (s.mbAt q.mb).port } }

theorem State.openSession_eq (s : State) (q : Req) (priv id idle : Nat) :
    s.openSession q priv id idle = (s.opened q priv id idle).reply q .ok (leBytes 4 s.host.nextSession
      ++ beBytes 16 (if id = 0 then 0 else s.nextNonce) ++ [byte (if id = 0 then 0 else 1)]) := by
  by_cases h : id = 0
  · subst h
    rfl
  · simp only [State.openSession, State.opened, h, if_false]
    rfl

theorem State.opened_session (s : State) (q : Req) (priv id idle n : Nat) : (s.opened q priv id idle).sesAt n =
    if n = s.host.nextSession then
      { state := if id = 0 then .openS else .proving, privilege := priv, keyId := id, transport := q.transport
        idleS := if idle = 0 then 600 else idle, nonce := if id = 0 then 0 else s.nextNonce }
    else s.sesAt n := by
  show Tab.get {} (Tab.upd {} s.host.sessions s.host.nextSession fun _ => _) n = _
  rw [Tab.get_upd]
  rfl

/-- A SESSION.OPEN that nothing refuses opens its session. -/
theorem sessionOpen_opens {s : State} {mb : Nat} {q : Req} (hq : q = s.request mb) (hstart : s.starts 0x0101 mb)
    (hlay : q.lay 8 [(4, 4)] = true) (hid : q.u 1 1 ≤ 3) (hpriv : q.u 0 1 ≤ keyPrivilege (q.u 1 1)) (hidle : q.u 2 2 ≤ 3600)
    (htransport : keyTransport (q.u 1 1) q.transport = true) (hlock : s.host.keyLocked.testBit (q.u 1 1) = false)
    (hkey : q.u 1 1 ≠ 0 → (s.sessionKey (q.u 1 1)).isSome = true ∧ s.boot.rngFail = false ∧ s.testFailed 1 = false)
    (hroom : s.openSessions.length < 16) :
    exec (.sessionOpen mb) s = .next ((s.taken.opened q (q.u 0 1) (q.u 1 1) (q.u 2 2)).reply q .ok (leBytes 4 s.host.nextSession
      ++ beBytes 16 (if q.u 1 1 = 0 then 0 else s.nextNonce) ++ [byte (if q.u 1 1 = 0 then 0 else 1)])).followed := by
  subst hq
  have hprivMax : keyPrivilege ((s.request mb).u 1 1) ≤ 2 := by
    unfold keyPrivilege
    split <;> decide
  have hmay : mayOpen (s.request mb) s.taken = true := by
    rw [mayOpen, htransport, decide_eq_true hpriv]
    exact Bool.or_true _
  have hroom' : ¬16 ≤ s.taken.openSessions.length := Nat.not_le.mpr hroom
  refine State.runOrderWith_does hstart hmay rfl ((if_neg hroom').trans ((if_neg ?_).trans ((if_neg ?_).trans ?_)))
  · simp [hlay]
    omega
  · have hlock' : bit s.taken.host.keyLocked ((s.request mb).u 1 1) = false := hlock
    rw [hlock']
    by_cases h : (s.request mb).u 1 1 = 0
    · simp [h]
    · obtain ⟨hsome, hrng, htest⟩ := hkey h
      have hsome' : (s.taken.sessionKey ((s.request mb).u 1 1)).isNone = false := by
        rw [show s.taken.sessionKey ((s.request mb).u 1 1) = s.sessionKey ((s.request mb).u 1 1) from rfl, ← Option.not_isSome, hsome]
        rfl
      have htest' : s.taken.testFailed 1 = false := htest
      simp [hsome', hrng, htest']
  · exact State.openSession_eq _ _ _ _ _

/-- A session that ends, before what its end does to Service. -/
def State.sessionEnded (s : State) (n : Nat) : State :=
  let s := s.setSes n fun _ => {}
  let s := { s with log := { s.log with subs := s.log.subs.filter fun x => decide (x.session ≠ n) } }
  if s.desc.edit = some n then s.closeEdit else s

theorem State.sessionEnded_only (s : State) (n : Nat) : Only [.host, .log, .desc] s (s.sessionEnded n) := by
  unfold State.sessionEnded State.closeEdit
  dsimp only
  intro p hp
  split
  · split <;> (cases p <;> first | rfl | exact absurd hp (by decide))
  · cases p <;> first | rfl | exact absurd hp (by decide)

theorem State.sessionEnded_host (s : State) (n : Nat) : (s.sessionEnded n).host = (s.setSes n fun _ => {}).host ∧
    (s.sessionEnded n).log.subs = s.log.subs.filter fun x => decide (x.session ≠ n) := by
  unfold State.sessionEnded State.closeEdit
  dsimp only
  split
  · split <;> exact ⟨rfl, rfl⟩
  · exact ⟨rfl, rfl⟩

theorem State.sessionEnded_edit {s : State} {n : Nat} (hedit : s.desc.edit = some n) (hidle : s.desc.committing = false) :
    (s.sessionEnded n).desc.edit = none := by
  have hedit' : (s.setSes n fun _ => {}).desc.edit = some n := hedit
  have hidle' : ¬(s.setSes n fun _ => {}).desc.committing = true := by
    rw [show (s.setSes n fun _ => {}).desc.committing = false from hidle]
    exact Bool.false_ne_true
  unfold State.sessionEnded State.closeEdit
  dsimp only
  rw [if_pos hedit', if_neg hidle']

theorem State.sesAt_sessionEnded (s : State) (n k : Nat) : (s.sessionEnded n).sesAt k = if k = n then {} else s.sesAt k := by
  rw [State.sesAt, (s.sessionEnded_host n).1]
  exact State.sesAt_setSes s n (fun _ => {}) k

/-- The end of a session ends Service where Service was entered under it. -/
theorem State.endSession_eq (s : State) (n : Nat) : s.endSession n =
    if s.mode = .service ∧ s.power.serviceSession = n ∧ s.modeSetPending = false ∧ s.power.longPress = false then
      ((s.sessionEnded n).leaveService 6).autoRun
    else s.sessionEnded n := by
  obtain ⟨x, hx⟩ : ∃ x, x = s.sessionEnded n := ⟨_, rfl⟩
  have honly : Only [.host, .log, .desc] s x := hx ▸ s.sessionEnded_only n
  have hend : s.endSession n = if x.mode = .service ∧ x.power.serviceSession = n ∧ x.modeSetPending = false ∧
      x.power.longPress = false then (x.leaveService 6).autoRun else x := by
    rw [hx]
    rfl
  have hpower : x.power = s.power := honly .power rfl
  have hwaiting : x.waiting = s.waiting := honly .waiting rfl
  have hpending : x.modeSetPending = s.modeSetPending := by
    unfold State.modeSetPending
    rw [hwaiting]
  have hmode : x.mode = s.mode := congrArg Power.mode hpower
  rw [hend, hmode, hpower, hpending, ← hx]

/-- A proof that fails counts against its key, is logged, and ends the session with PRIVILEGE. -/
theorem State.failProof_eq (s : State) (q : Req) : ∃ x : State,
    s.failProof q = ((x.raise 275 1 []).reply q .privilege []).endSession q.session ∧ Only [.host, .log] s x ∧
    (s.sesAt q.session).keyId ∈ x.host.failedProofs.map Prod.fst := by
  refine ⟨_, rfl, ?_, ?_⟩
  · have hrecord := State.record_foot s 0x10 1 (leBytes 4 q.session ++ [byte (s.sesAt q.session).keyId, byte q.transport])
    intro p hp
    refine Part.same_trans (((hrecord.mono (l := 0x100)).onlyIn [.log] : Only [.log] _ _) p ?_) ?_
    · cases p <;> first | rfl | exact absurd hp (by decide)
    · cases p <;> first | rfl | exact absurd hp (by decide)
  · exact List.mem_map.mpr ⟨((s.sesAt q.session).keyId, s.budget.tides), List.mem_append_right _ List.mem_cons_self, rfl⟩

end Sys2Proof.Machine

namespace Sys2Proof
open Machine

/-- Settles O25: the orders' bodies, and what the end of a session leaves. -/
theorem sessionOrdersAndTimers : Obligations.SessionOrdersAndTimers := by
  refine ⟨?_, fun s n => ⟨fun hstate hidle hhalt => ?_, fun hstate => next_congr (if_pos hstate), fun hstate => ?_, fun hmode => ?_,
    fun hmode hsession hset hpress => ?_, ?_⟩⟩
  · intro s mb q hq
    refine ⟨fun hstart hlay hid hpriv hidle htransport hlock hroom => ?_,
      fun hstart hlay h1 h3 hpriv hidle htransport hlock hkey hrng htest hroom nd hnd => ?_,
      fun hstart hlay htest k e nh he hk hnh => ?_, fun hstart hlay => ?_, fun hstart hlay htransport hlocked => ?_,
      fun hstart hlay hbit => ?_⟩
    · have hopen := sessionOpen_opens hq hstart hlay (by omega) (by rw [hid]; exact hpriv) hidle
        (by rw [hid]; exact decide_eq_true htransport) (by rw [hid]; exact hlock) (fun h => absurd hid h) hroom
      rw [hid, if_pos rfl, if_pos rfl, List.append_assoc, show beBytes 16 0 ++ [byte 0] = zeros 16 ++ [0] by decide,
        ← List.append_assoc] at hopen
      refine ⟨_, hopen, ?_, rfl, fun n hn => (State.opened_session _ _ _ _ _ n).trans (if_neg hn), ?_⟩
      · exact (State.opened_session _ _ _ _ _ _).trans (if_pos rfl)
      · intro p hp
        cases p <;> first | rfl | exact absurd hp (by decide)
    · have hid : q.u 1 1 ≠ 0 := by omega
      have hopen := sessionOpen_opens hq hstart hlay h3 hpriv hidle htransport hlock (fun _ => ⟨hkey, hrng, htest⟩) hroom
      rw [if_neg hid, if_neg hid, ← hnd] at hopen
      have hses := State.opened_session s.taken q (q.u 0 1) (q.u 1 1) (q.u 2 2) s.host.nextSession
      rw [if_pos (show s.host.nextSession = s.taken.host.nextSession from rfl), if_neg hid, if_neg hid] at hses
      refine ⟨_, hopen, ?_, ?_, ?_, ?_, ?_, ?_, ?_⟩
      · rw [hses]
      · rw [hses, hnd]
        rfl
      · rw [hses]
      · rw [hses]
      · refine (if_neg hid).trans ?_
        rw [if_neg hid, hnd]
        rfl
      · exact if_neg hid
      · intro p hp
        cases p <;> first | rfl | exact absurd hp (by decide)
    · subst hq he hnh
      have htest' : ¬s.taken.testFailed 1 = true := by
        rw [show s.taken.testFailed 1 = false from htest]
        exact Bool.false_ne_true
      have hk' : s.taken.sessionKey (s.taken.sesAt (s.request mb).session).keyId = some k := hk
      refine ⟨fun htag => ?_, fun htag => ?_⟩
      · refine State.runOrder_does hstart ((if_neg (by simp [hlay])).trans ((if_neg htest').trans ?_))
        simp only [hk']
        exact if_pos htag
      · obtain ⟨x, hx, honly, hmem⟩ := s.taken.failProof_eq (s.request mb)
        refine ⟨x, State.runOrder_does hstart ((if_neg (by simp [hlay])).trans ((if_neg htest').trans ?_)), ?_, hmem⟩
        · simp only [hk']
          exact (if_neg htag).trans hx
        · intro p hp
          refine Part.same_trans ?_ (honly p hp)
          cases p <;> first | rfl | exact absurd hp (by decide)
    · subst hq
      exact State.runOrder_does hstart (if_neg (by simp [hlay]))
    · subst hq
      have hlocked' : ¬s.taken.secretLocked [0, 2] = true := by
        rw [show s.taken.secretLocked [0, 2] = false from hlocked]
        exact Bool.false_ne_true
      refine ⟨fun hkind hpriv => ?_, fun hkind hmatch => ?_⟩
      · have hmay : mayInstall (s.request mb) s.taken = true := by
          have hpriv' : 2 ≤ (s.taken.sesAt (s.request mb).session).privilege := hpriv
          simp [mayInstall, htransport, hpriv']
        refine State.runOrderWith_does hstart hmay rfl ((if_neg (by simp [hlay, hkind])).trans ((if_neg hlocked').trans
          ((if_neg (by simp [hkind])).trans ?_)))
        rw [hkind]
      · have hmay : mayInstall (s.request mb) s.taken = true := by simp [mayInstall, htransport, hkind]
        refine State.runOrderWith_does hstart hmay rfl ((if_neg (by simp [hlay, hkind])).trans ((if_neg hlocked').trans
          ((if_neg ?_).trans ?_)))
        · have hmatch' : s.taken.fieldGood 32 8 = true → s.taken.keyMatches 32 (slice (s.request mb).payload 4 16) = true := hmatch
          simpa [hkind] using hmatch'
        · rw [hkind]
    · subst hq
      obtain ⟨acc, hacc⟩ : ∃ acc, acc = bitSum (fun i => bit ((s.request mb).u 0 16) i && bit featuresSupported i) 27 := ⟨_, rfl⟩
      have hbit' : bit ((s.request mb).u 0 16) 0 = true := hbit
      obtain ⟨x, hx⟩ : ∃ x : State, x = { s.taken.setSes (s.request mb).session fun e => { e with features := acc, offered := true } with
        host := { (s.taken.setSes (s.request mb).session fun e => { e with features := acc, offered := true }).host with
          negotiated := s.host.negotiated ||| acc } } := ⟨_, rfl⟩
      refine ⟨x, acc, fun i => ?_, State.runOrder_does hstart ((if_neg (by simp [hlay, hbit'])).trans ?_), ?_, fun n hn => ?_, ?_⟩
      · rw [hacc, testBit_bitSum, bit, bit, featuresSupported, Nat.testBit_two_pow_sub_one]
        by_cases hi : i < 27
        · simp [hi, Nat.lt_succ_iff.mp hi]
        · simp [hi, show ¬i ≤ 26 by omega]
      · rw [hx, hacc]
        rfl
      · rw [hx]
        exact (State.sesAt_setSes s.taken (s.request mb).session (fun e => { e with features := acc, offered := true }) _).trans (if_pos rfl)
      · rw [hx]
        exact (State.sesAt_setSes s.taken (s.request mb).session (fun e => { e with features := acc, offered := true }) _).trans (if_neg hn)
      · rw [hx]
        intro p hp
        cases p <;> first | rfl | exact absurd hp (by decide)
  · refine next_congr (if_pos ⟨hstate, ?_, hhalt⟩)
    rw [List.any_eq_false]
    intro m hm hbusy
    rw [Bool.and_eq_true, decide_eq_true_eq] at hbusy
    exact hidle m (mem_upto.mp hm) hbusy.1 hbusy.2
  · exact next_congr (if_neg hstate)
  · rw [State.endSession_eq, if_neg fun h => hmode h.1]
    refine ⟨(State.sesAt_sessionEnded s n n).trans (if_pos rfl), fun k hk => (State.sesAt_sessionEnded s n k).trans (if_neg hk),
      (s.sessionEnded_host n).2, State.sessionEnded_edit, s.sessionEnded_only n⟩
  · refine ⟨s.sessionEnded n, ?_, (State.sesAt_sessionEnded s n n).trans (if_pos rfl), s.sessionEnded_only n⟩
    rw [State.endSession_eq, if_pos ⟨hmode, hsession, hset, hpress⟩]
  · refine ⟨_, rfl, ?_, fun k hk => ?_, fun hlock e he => ?_, ?_⟩
    · exact (testBit_setBit _ _ _ _).trans (if_pos rfl)
    · exact (testBit_setBit _ _ _ _).trans (if_neg hk)
    · have hfails : e ∈ s.host.failedProofs.filter fun e => decide (e.1 ≠ n) := by
        have he' : e ∈ if bit s.host.keyLocked n = true then s.host.failedProofs.filter fun e => decide (e.1 ≠ n)
          else s.host.failedProofs := he
        rwa [if_pos (show bit s.host.keyLocked n = true from hlock)] at he'
      exact of_decide_eq_true (List.mem_filter.mp hfails).2
    · intro p hp
      cases p <;> first | rfl | exact absurd hp (by decide)

end Sys2Proof
end

section
/-! PROOFS. The sequencer's own transitions, and updates of every phase of an output, item by item. -/
set_option Elab.async false
namespace Sys2Proof.Machine

/-- What the sequencer's own transitions may do to an output: from STATE 0 to 1, the delay of a start, and the ramp of a
pending stop (R248 to R250, R253). -/
def Out.Settles (o o' : Out) : Prop :=
  ∃ st ph, o' = { o with state := st, phase := ph } ∧ (st = o.state ∨ (o.state = 0 ∧ st = 1)) ∧
    (ph = o.phase ∨ st = 1 ∨ (o.phase = .stopPending ∧ ph = .stopping))

theorem Out.Settles.refl (o : Out) : o.Settles o := ⟨o.state, o.phase, rfl, .inl rfl, .inl rfl⟩

theorem Out.Settles.trans {a b c : Out} (h : a.Settles b) (h' : b.Settles c) : a.Settles c := by
  obtain ⟨st, ph, rfl, hst, hph⟩ := h
  obtain ⟨st', ph', rfl, hst', hph'⟩ := h'
  refine ⟨st', ph', rfl, ?_, ?_⟩
  · rcases hst' with h' | ⟨h0, h1⟩
    · exact hst.imp (fun h => h'.trans h) fun ⟨h0, h1⟩ => ⟨h0, h'.trans h1⟩
    · rcases hst with h | ⟨h0', h1'⟩
      · exact .inr ⟨h ▸ h0, h1⟩
      · exact absurd h0 (by show ¬st = 0; omega)
  · rcases hph' with h' | h' | ⟨hp, hs⟩
    · rcases hph with h | h | ⟨hp, hs⟩
      · exact .inl (h'.trans h)
      · rcases hst' with h1 | ⟨-, h1⟩
        · exact .inr (.inl (h1.trans h))
        · exact .inr (.inl h1)
      · exact .inr (.inr ⟨hp, h'.trans hs⟩)
    · exact .inr (.inl h')
    · rcases hph with h | h | ⟨hp', hs'⟩
      · exact .inr (.inr ⟨h ▸ hp, hs⟩)
      · rcases hst' with h1 | ⟨-, h1⟩
        · exact .inr (.inl (h1.trans h))
        · exact .inr (.inl h1)
      · exact absurd (hs'.symm.trans hp) (by decide)

theorem State.settleOut_settles (s : State) (k j : Nat) : (s.outAt j).Settles ((s.settleOut k).outAt j) := by
  have hwant : ∃ t, t = (if (s.outAt k).state = 0 ∧ (s.outAt k).wanted then s.setOut k fun o => { o with state := 1, phase := .waiting }
      else s) ∧ (s.outAt j).Settles (t.outAt j) := by
    refine ⟨_, rfl, ?_⟩
    split
    · next h =>
      rw [State.outAt_setOut]
      split
      · next hj => exact ⟨1, .waiting, by rw [hj], .inr ⟨hj ▸ h.1, rfl⟩, .inr (.inl rfl)⟩
      · exact .refl _
    · exact .refl _
  obtain ⟨t, ht, hsettles⟩ := hwant
  refine hsettles.trans ?_
  unfold State.settleOut
  dsimp only
  rw [← ht]
  split
  · next h =>
    rw [State.outAt_setOut]
    split
    · next hj => exact ⟨1, _, by rw [hj, ← h], .inl (hj ▸ h.symm), .inr (.inl rfl)⟩
    · exact .refl _
  · split
    · next h =>
      rw [State.outAt_setOut]
      split
      · next hj => exact ⟨_, .stopping, by rw [hj], .inl rfl, .inr (.inr ⟨hj ▸ h.2.1, rfl⟩)⟩
      · exact .refl _
    · exact .refl _

/-- An output after the sequencer's own transitions. -/
theorem State.settle_settles (s : State) (j : Nat) : (s.outAt j).Settles (s.settle.outAt j) := by
  have hfold : ∀ (l : List Nat) (s : State), (s.outAt j).Settles ((s.each l State.settleOut).outAt j) := by
    intro l
    induction l with
    | nil => exact fun s => .refl _
    | cons k l ih => exact fun s => (s.settleOut_settles k j).trans (ih (s.settleOut k))
  unfold State.settle
  split
  · exact hfold _ s
  · exact .refl _

/-- The sequencer's own transitions leave every output alone that is in no STATE but 0 and 1, and asks for no stop. -/
theorem Out.Settles.state {o o' : Out} (h : o.Settles o') : o'.state = o.state ∨ (o.state = 0 ∧ o'.state = 1) := by
  obtain ⟨st, ph, rfl, hst, -⟩ := h
  exact hst

theorem Out.Settles.lastStop {o o' : Out} (h : o.Settles o') : o'.lastStop = o.lastStop := by
  obtain ⟨st, ph, rfl, -, -⟩ := h
  rfl

/-- The phases of an output are the channels from its lead on. -/
theorem State.phases_eq (s : State) (k : Nat) : s.phases k = countFrom (s.phases k).length (s.lead k) := by
  have hprefix : ∀ n lo, (countFrom n lo).filter (· < 128) = countFrom ((countFrom n lo).filter (· < 128)).length lo := by
    intro n
    induction n with
    | zero => exact fun _ => rfl
    | succ n ih =>
      intro lo
      rw [countFrom]
      by_cases h : lo < 128
      · rw [List.filter_cons_of_pos (by simpa using h), List.length_cons, countFrom, ← ih]
      · have hnone : (lo :: countFrom n (lo + 1)).filter (· < 128) = [] := by
          rw [List.filter_eq_nil_iff]
          intro x hx
          rcases List.mem_cons.mp hx with rfl | hx
          · simpa using h
          · rw [mem_countFrom] at hx
            simp
            omega
        rw [hnone]
        rfl
  exact hprefix _ _

theorem State.phases_nodup (s : State) (k : Nat) : (s.phases k).Nodup := by
  rw [State.phases_eq, countFrom_eq_range']
  exact List.nodup_range'

@[simp] theorem State.mem_phases {s : State} {k c : Nat} :
    c ∈ s.phases k ↔ s.lead k ≤ c ∧ c < s.lead k + (s.phases k).length := by
  conv => lhs; rw [State.phases_eq]
  exact mem_countFrom

theorem State.phase_mem {s : State} {k i : Nat} (hi : i < (s.phases k).length) : s.lead k + i ∈ s.phases k := by
  rw [State.mem_phases]
  omega

/-- `t` differs from `s` in its channels only. -/
def State.ChansOnly (s t : State) : Prop := t = { s with chan := t.chan }

theorem State.ChansOnly.refl (s : State) : s.ChansOnly s := rfl

theorem State.ChansOnly.setChan {s t : State} (h : s.ChansOnly t) (c : Nat) (f : Chan → Chan) : s.ChansOnly (t.setChan c f) := by
  unfold State.ChansOnly at h ⊢
  rw [h]
  rfl

theorem State.ChansOnly.trans {s t u : State} (h : s.ChansOnly t) (h' : t.ChansOnly u) : s.ChansOnly u := by
  unfold State.ChansOnly at h h' ⊢
  rw [h', h]

theorem State.ChansOnly.only {s t : State} (h : s.ChansOnly t) : Only [.chan] s t := by
  rw [h]
  intro p hp
  cases p <;> first | rfl | exact absurd hp (by decide)

/-- Channels of a list, each updated by a step that does no more. -/
theorem State.each_chans {s : State} (f : State → Nat → State) (g : Nat → Chan → Chan)
    (hstep : ∀ t n, s.ChansOnly t → f t n = t.setChan n (g n)) (l : List Nat) (hl : l.Nodup) :
    s.ChansOnly (s.each l f) ∧ ∀ c, (s.each l f).chanAt c = if c ∈ l then g c (s.chanAt c) else s.chanAt c :=
  State.each_items State.chanAt f (fun t => s.ChansOnly t) g (fun t n ht => by
    rw [hstep t n ht]
    exact ⟨ht.setChan n _, fun j => State.chanAt_setChan t n _ j⟩) l hl (.refl s)

end Sys2Proof.Machine
end

section
/-! PROOFS. The channel orders (R194, R234, R253, R266, R267, R274, R275). -/
set_option Elab.async false
namespace Sys2Proof.Machine

/-- A map of enabled outputs, at least one. -/
theorem State.mapEnabled_of {s : State} {m : Nat} (hm : m ≠ 0) (h : ∀ j, j < 128 → m.testBit j = true → s.outEnable j = 1) :
    s.mapEnabled m = true := by
  rw [State.mapEnabled, decide_eq_true hm, Bool.true_and, List.all_eq_true]
  intro j hj
  obtain ⟨hlt, hbit⟩ := mem_mapList.mp hj
  exact decide_eq_true (h j hlt hbit)

/-- No output of a map meets a condition that none of them meets. -/
theorem any_mapList_false {m : Nat} {p : Nat → Bool} (h : ∀ j, j < 128 → m.testBit j = true → p j = false) :
    (mapList 128 m).any p = false := by
  rw [List.any_eq_false]
  intro j hj
  obtain ⟨hlt, hbit⟩ := mem_mapList.mp hj
  rw [h j hlt hbit]
  exact Bool.false_ne_true

/-- The bits of FAULT_CAUSE that an unlock leaves. -/
theorem testBit_unlocked (v i : Nat) : (v &&& 0x2D).testBit i = (v.testBit i && decide (i ∈ [0, 2, 3, 5])) := by
  have hmask : (0x2D : Nat).testBit i = decide (i ∈ [0, 2, 3, 5]) := by
    by_cases h : i < 6
    · have hall : ∀ j < 6, (0x2D : Nat).testBit j = decide (j ∈ [0, 2, 3, 5]) := by decide
      exact hall i h
    · have hlt : (0x2D : Nat) < 2 ^ i := Nat.lt_of_lt_of_le (by decide : (0x2D : Nat) < 2 ^ 6) (Nat.pow_le_pow_right (by decide) (by omega))
      rw [Nat.testBit_lt_two_pow hlt]
      have : ¬i ∈ [0, 2, 3, 5] := by simp; omega
      rw [decide_eq_false this]
  rw [Nat.testBit_and, hmask]

/-- A channel of an output that is unlocked (R194). -/
def Chan.unlocked (st : ChState) (x : Chan) : Chan := { x.low st with cause := x.cause &&& 0x2D, suspect := false, tripped := false }

/-- CHAN.UNLOCK before its answer. -/
def State.unlocked (s : State) (k : Nat) : State :=
  ((((s.each (s.phases k) fun t c => t.setChan c (Chan.unlocked s.idleState)).setOut k fun o =>
    { o with state := 0, phase := .none })).record 0x09 5 [byte k]).settle

theorem State.unlocked_spec (s : State) (k : Nat) :
    (∀ c, (s.unlocked k).chanAt c = if c ∈ s.phases k then (s.chanAt c).unlocked s.idleState else s.chanAt c) ∧
    ((s.unlocked k).outAt k).state ≤ 1 ∧ ((s.unlocked k).outAt k).lastStop = (s.outAt k).lastStop ∧
    Only [.chan, .out, .log] s (s.unlocked k) := by
  obtain ⟨x, hx⟩ : ∃ x, x = s.each (s.phases k) fun t c => t.setChan c (Chan.unlocked s.idleState) := ⟨_, rfl⟩
  obtain ⟨hchans, hitem⟩ := State.each_chans (fun t c => t.setChan c (Chan.unlocked s.idleState)) (fun _ => Chan.unlocked s.idleState)
    (fun _ _ _ => rfl) (s.phases k) (s.phases_nodup k)
  rw [← hx] at hchans hitem
  obtain ⟨y, hy⟩ : ∃ y, y = x.setOut k fun o => { o with state := 0, phase := .none } := ⟨_, rfl⟩
  obtain ⟨z, hz⟩ : ∃ z, z = y.record 0x09 5 [byte k] := ⟨_, rfl⟩
  have hsettle : s.unlocked k = z.settle := by rw [hz, hy, hx]; rfl
  have hrecord : Foot 0x100 y z := hz ▸ State.record_foot y _ _ _
  have hzout : z.out = y.out := hrecord.keeps .out
  have hout : z.outAt k = { s.outAt k with state := 0, phase := .none } := by
    have hxout : x.outAt k = s.outAt k := by rw [hchans]; rfl
    rw [State.outAt, hzout, ← State.outAt, hy, State.outAt_setOut, if_pos rfl, hxout]
  have hsettles := z.settle_settles k
  rw [hout] at hsettles
  refine ⟨fun c => ?_, ?_, ?_, ?_⟩
  · have hchan : z.settle.chan = x.chan := by
      rw [State.settle_chan, show z.chan = y.chan from hrecord.keeps .chan, hy]
      rfl
    rw [hsettle, State.chanAt, hchan]
    exact hitem c
  · rw [hsettle]
    rcases hsettles.state with h | ⟨-, h⟩
    · exact Nat.le_trans (Nat.le_of_eq h) (Nat.zero_le 1)
    · exact Nat.le_of_eq h
  · rw [hsettle, hsettles.lastStop]
  · have hfoot : Foot 0x900 y (s.unlocked k) := hsettle ▸ (State.settle_foot z).after hrecord.mono
    intro p hp
    refine Part.same_trans (t := y) ?_ ((hfoot.onlyIn [.log, .out] : Only [.log, .out] _ _) p ?_)
    · rw [hy, hchans]
      cases p <;> first | rfl | exact absurd hp (by decide)
    · cases p <;> first | rfl | exact absurd hp (by decide)

/-- The start of a run on an output whose phases are not clamped (R224, R227). -/
theorem State.startIdent_spec {s : State} {k : Nat} (ampl pm gm large : Nat) (auto : Bool)
    (hfree : ∀ c ∈ s.phases k, (s.chanAt c).clamp = none) :
    ((s.startIdent k ampl pm gm large auto).outAt k).ident = { state := 1, ampl := ampl, pm := pm, gm := gm, gmLarge := large
                                                               lfsr := 0x1FF, startAt := some (s.identStart k), auto := auto
                                                               nextRun := (s.outAt k).ident.nextRun
                                                               retries := (s.outAt k).ident.retries } ∧
    (∀ j, j ≠ k → (s.startIdent k ampl pm gm large auto).outAt j = s.outAt j) ∧
    Only [.out, .sluice, .sent, .freeCount] s (s.startIdent k ampl pm gm large auto) := by
  obtain ⟨x, hx⟩ : ∃ x, x = s.setOut k fun o => { o with ident := {
      state := 1, ampl := ampl, pm := pm, gm := gm, gmLarge := large, lfsr := 0x1FF, startAt := some (s.identStart k), auto := auto
      nextRun := o.ident.nextRun, retries := o.ident.retries } } := ⟨_, rfl⟩
  obtain ⟨y, hy⟩ : ∃ y, y = if x.partner && x.sluice.pMode = Mode.shadow.code then
      x.sendPeer 0x0B ([byte k, 0] ++ leBytes 2 0x1FF ++ leBytes 4 (s.identStart k)) else x := ⟨_, rfl⟩
  have hfoot : Foot 0x20100000 x y := by
    rw [hy]
    exact .ite (State.sendPeer_foot x _ _) .same
  have hchan : y.chan = s.chan := by
    rw [show y.chan = x.chan from hfoot.keeps .chan, hx]
    rfl
  have hphases : y.phases k = s.phases k := by
    rw [State.phases, State.outPhases, State.outFirstChannel, State.field, State.field, show y.desc = x.desc from hfoot.keeps .desc, hx]
    rfl
  have hout : y.out = x.out := hfoot.keeps .out
  have heq : s.startIdent k ampl pm gm large auto = y := by
    have hclamp : ¬((y.phases k).any fun c => (y.chanAt c).clamp.isSome) = true := by
      rw [hphases, Bool.not_eq_true, List.any_eq_false]
      intro c hc
      rw [State.chanAt, hchan, ← State.chanAt, hfree c hc]
      exact Bool.false_ne_true
    rw [hy, hx] at hclamp
    rw [State.startIdent, if_neg hclamp, hy, hx]
  rw [heq]
  refine ⟨?_, fun j hj => ?_, ?_⟩
  · rw [State.outAt, hout, ← State.outAt, hx, State.outAt_setOut, if_pos rfl]
  · rw [State.outAt, hout, ← State.outAt, hx, State.outAt_setOut, if_neg hj]
  · intro p hp
    refine Part.same_trans (t := x) ?_ ((hfoot.onlyIn [.sluice, .sent] : Only [.sluice, .sent] _ _) p ?_)
    · rw [hx]
      cases p <;> first | rfl | exact absurd hp (by decide)
    · cases p <;> first | rfl | exact absurd hp (by decide)

@[simp] theorem length_leS (n : Nat) (v : Int) : (leS n v).length = n := length_leBytes n _

theorem State.length_binBytes (s : State) (i : Ident) (b : Nat) : (s.binBytes i b).length = 8 := by
  unfold State.binBytes
  split <;> simp

/-- The length of fields of one size, laid side by side. -/
theorem length_flatten_map {α : Type} (l : List α) (f : α → Bytes) (n : Nat) (h : ∀ x ∈ l, (f x).length = n) :
    ((l.map f).flatten).length = l.length * n := by
  induction l with
  | nil => simp
  | cons x l ih =>
    rw [List.map_cons, List.flatten_cons, List.length_append, h x List.mem_cons_self,
      ih fun y hy => h y (List.mem_cons_of_mem _ hy), List.length_cons, Nat.succ_mul, Nat.add_comm]

/-- Item `j` of a list of bytes by number. -/
theorem getElem?_map_upto {α : Type} (f : Nat → α) {n j : Nat} (hj : j < n) : ((upto n).map f)[j]? = some (f j) := by
  rw [upto_eq_range, List.getElem?_map, List.getElem?_range hj]
  rfl

end Sys2Proof.Machine

namespace Sys2Proof
open Machine

/-- Settles O26: each order's body on the state with its request taken. -/
theorem channelOrders : Obligations.ChannelOrders := by
  rintro s mb q k rfl rfl
  obtain ⟨k, hk⟩ : ∃ k, k = (s.request mb).u 0 1 := ⟨_, rfl⟩
  rw [← hk]
  refine ⟨fun hstart hlay hmax hlocked => ?_, ?_, fun hstart hlay hhow => ?_, ?_, fun hstart hlay => ?_, fun hstart hlay hmax => ?_,
    fun hstart htoken hmode hmax hlay ha hpm hgm hlarge hunits hidle henable hstate hprof hfree => ?_,
    fun hstart hlay hmax hpage => ?_, fun hstart hlay hmax h1 h5 => ?_,
    fun hstart hlay hmax hstaged hproposal htuning happlied => ?_, fun hstart hlay hmax => ?_⟩
  · obtain ⟨hchan, hstate, hstop, honly⟩ := s.taken.unlocked_spec k
    refine ⟨s.taken.unlocked k, State.runOrder_does hstart ?_, fun c hc => ?_, fun c hc => ?_, hstate, hstop, ?_⟩
    · rw [hk] at hlocked hmax ⊢
      have hlocked' : (s.taken.outAt ((s.request mb).u 0 1)).state = 6 := hlocked
      exact (if_neg (by simp [hlay, hlocked']; omega)).trans rfl
    · rw [hchan c, if_pos (show c ∈ s.taken.phases k from hc)]
      exact ⟨rfl, rfl, rfl, testBit_unlocked _⟩
    · exact (hchan c).trans (if_neg hc)
    · intro p hp
      refine Part.same_trans (t := s.taken) ?_ (honly p ?_)
      · cases p <;> first | rfl | exact absurd hp (by decide)
      · cases p <;> first | rfl | exact absurd hp (by decide)
  · intro m hmap hstart hlay hm hall
    have henabled : s.taken.mapEnabled m = true :=
      State.mapEnabled_of (s := s.taken) hm fun j hj hbit => (hall j hj hbit).1
    have hnone : (mapList 128 m).any (fun k => (s.taken.outAt k).state = 6) = false :=
      any_mapList_false fun j hj hbit => decide_eq_false (hall j hj hbit).2
    rw [hmap] at henabled hnone ⊢
    exact State.runOrder_does hstart ((if_neg (by simp [hlay, henabled])).trans (if_neg (by rw [hnone]; exact Bool.false_ne_true)))
  · exact State.runOrder_does hstart (if_neg (by simp [hlay]; omega))
  · intro m hmap hstart hlay hm hall
    have henabled : s.taken.mapEnabled m = true :=
      State.mapEnabled_of (s := s.taken) hm fun j hj hbit => (hall j hj hbit).1
    have hnone : (mapList 128 m).any (fun k => (s.taken.outAt k).state ≠ 4) = false :=
      any_mapList_false fun j hj hbit => decide_eq_false fun h => h (hall j hj hbit).2
    rw [hmap] at henabled hnone ⊢
    exact State.runOrder_does hstart (if_neg (by rw [hlay, henabled, hnone]; exact Bool.false_ne_true))
  · refine ⟨_, State.runOrder_does hstart (if_neg (by simp [hlay])), by simp, fun j hj => ⟨?_, ?_⟩⟩
    · simp only [List.append_assoc]
      rw [List.getElem?_append_left (by simpa using hj)]
      exact getElem?_map_upto _ hj
    · simp only [List.append_assoc]
      rw [List.getElem?_append_right (by simp), List.getElem?_append_left (by simp; omega)]
      simp only [List.length_map, length_upto, Nat.add_sub_cancel_left]
      exact getElem?_map_upto _ hj
  · refine ⟨_, State.runOrder_does hstart (if_neg (by rw [hk] at hmax; simp [hlay]; omega)), ?_⟩
    rw [length_flatten_map _ _ 2 (fun _ _ => by simp), length_countFrom]
  · have hfree' : ∀ c ∈ s.taken.phases k, (s.taken.chanAt c).clamp = none := hfree
    obtain ⟨hident, hothers, honly⟩ := State.startIdent_spec 512 550 800 400 false hfree'
    refine ⟨s.taken.startIdent k 512 550 800 400 false, State.runOrder_does hstart ?_, hident, hothers, ?_⟩
    · rw [hk] at hmax hunits hidle henable hstate hprof ⊢
      have hmode' : s.taken.identMode = true := by
        rw [State.identMode, show s.taken.token = true from htoken, show s.taken.effectiveMode = .run from hmode]
        rfl
      have hready : s.taken.identReady ((s.request mb).u 0 1) = true := by
        rw [State.identReady, show s.taken.outEnable _ = 1 from henable, show (s.taken.outAt _).state = 3 from hstate,
          show (s.taken.outAt _).prof.state = .arrived from hprof]
        rfl
      have hunits' : ¬2 ≤ s.taken.unitsUsed ((s.request mb).u 0 1) := Nat.not_le.mpr hunits
      have hidle' : ¬(s.taken.outAt ((s.request mb).u 0 1)).ident.state = 1 := hidle
      have hmax' : ¬127 < (s.request mb).u 0 1 := by omega
      refine (if_neg (by simp [hmode'])).trans ((if_neg (by simp [hunits', hidle'])).trans ((if_neg ?_).trans ?_))
      · simp [hlay, ha, hpm, hgm, hlarge, identArg, hmax', hready]
      · rw [ha, hpm, hgm, hlarge]
        rfl
    · intro p hp
      refine Part.same_trans (t := s.taken) ?_ (honly p ?_)
      · cases p <;> first | rfl | exact absurd hp (by decide)
      · cases p <;> first | rfl | exact absurd hp (by decide)
  · rw [hk] at hmax ⊢
    exact State.runOrder_does hstart ((if_neg (by simp [hlay]; omega)).trans (if_pos hpage))
  · rw [hk] at hmax
    refine ⟨_, State.runOrder_does hstart ((if_neg (by simp [hlay]; omega)).trans (if_neg (by omega))), ?_⟩
    rw [length_flatten_map _ _ 8 (fun _ _ => State.length_binBytes _ _ _), length_countFrom]
    split
    · omega
    · rw [Nat.min_eq_left (by omega)]
  · refine ⟨s.taken.setOut k fun o => { o with ident := { o.ident with applyDue := 1 } }, State.runOrder_does hstart ?_, ?_,
      fun j hj => ?_, ?_⟩
    · rw [hk] at hmax hstaged hproposal htuning happlied ⊢
      have hstaged' : ¬s.taken.gainStaged (s.taken.lead ((s.request mb).u 0 1)) = true := by
        rw [show s.taken.gainStaged (s.taken.lead _) = false from hstaged]
        exact Bool.false_ne_true
      have hproposal' : (s.taken.outAt ((s.request mb).u 0 1)).ident.proposal = true := hproposal
      exact (if_neg hstaged').trans ((if_neg (by simp [hlay, hproposal']; omega)).trans ((if_neg htuning).trans ((if_neg happlied).trans rfl)))
    · rw [State.outAt_setOut, if_pos rfl]
      rfl
    · rw [State.outAt_setOut, if_neg hj]
      rfl
    · intro p hp
      cases p <;> first | rfl | exact absurd hp (by decide)
  · rw [hk] at hmax ⊢
    exact State.runOrder_does hstart (if_neg (by simp [hlay]; omega))

end Sys2Proof
end

section
/-! PROOFS. Captures, triggers, capsules and the trace orders (R235 to R245). -/
set_option Elab.async false
namespace Sys2Proof.Machine

/-- `t` differs from `s` in its clusters only. -/
theorem State.setCluster_only (s : State) (c : Nat) (f : Cluster → Cluster) : Only [.cluster] s (s.setCluster c f) := by
  intro p hp
  cases p <;> first | rfl | exact absurd hp (by decide)

theorem State.taken_only (s : State) : Only [.host] s s.taken := by
  intro p hp
  cases p <;> first | rfl | exact absurd hp (by decide)

/-- A list of parts grown by the one before. -/
theorem Only.cons_trans {p : Part} {l : List Part} {s t u : State} (h : Only [p] s t) (h' : Only l t u) : Only (p :: l) s u := by
  intro r hr
  rw [List.contains_cons, Bool.or_eq_false_iff] at hr
  refine Part.same_trans (h r ?_) (h' r hr.2)
  rw [List.contains_cons, hr.1]
  rfl

/-- A waiting trigger of an armed cluster that listens to it. -/
theorem State.signalTrigger_armed {s : State} {c cond : Nat} (hstate : (s.clusterAt c).state = 1)
    (hmask : (s.clusterAt c).trigMask.testBit cond = true) (hnew : (s.clusterAt c).trigPending.contains (cond, none) = false) :
    (s.signalTrigger c cond none).clusterAt c = { s.clusterAt c with trigPending := (s.clusterAt c).trigPending ++ [(cond, none)] } :=
  (State.clusterAt_setCluster s c _ c).trans ((if_pos rfl).trans (if_pos ⟨hstate, hmask, rfl, hnew⟩))

theorem State.signalTrigger_other (s : State) (c cond : Nat) (ch : Option Nat) {d : Nat} (hd : d ≠ c) :
    (s.signalTrigger c cond ch).clusterAt d = s.clusterAt d :=
  (State.clusterAt_setCluster s c _ d).trans (if_neg hd)

/-- Triggers signalled to several clusters, each once. -/
theorem State.each_clusters {s : State} (g : Nat → Cluster → Cluster) (l : List Nat) (hl : l.Nodup) :
    Only [.cluster] s (s.each l fun t n => t.setCluster n (g n)) ∧
    ∀ c, (s.each l fun t n => t.setCluster n (g n)).clusterAt c = if c ∈ l then g c (s.clusterAt c) else s.clusterAt c := by
  have h := State.each_items State.clusterAt (fun t n => t.setCluster n (g n)) (fun t => t = { s with cluster := t.cluster }) g
    (fun t n ht => ⟨by rw [ht]; rfl, fun j => State.clusterAt_setCluster t n _ j⟩) l hl (s := s) rfl
  refine ⟨?_, h.2⟩
  rw [h.1]
  intro p hp
  cases p <;> first | rfl | exact absurd hp (by decide)

/-- The entries of a ring from `i` on, by number. -/
theorem rows_eq (ring : List TraceEntry) (n start : Nat) (h : start + n ≤ ring.length) :
    ((countFrom n start).map fun i => (ring.getD i {}).bytes).flatten =
      ((ring.drop start).take n).flatMap TraceEntry.bytes := by
  rw [List.flatMap_def]
  congr 1
  rw [show (countFrom n start).map (fun i => (ring.getD i {}).bytes) =
      ((countFrom n start).map fun i => ring.getD i {}).map TraceEntry.bytes by
    rw [List.map_map]
    rfl]
  congr 1
  refine List.ext_getElem (by simp; omega) fun i h1 h2 => ?_
  have hi : i < n := by simpa using h1
  simp only [countFrom_eq_range', List.getElem_map, List.getElem_range', List.getElem_take, List.getElem_drop, Nat.one_mul]
  exact (List.getElem_eq_getD _).symm

/-- The header of TRACE.READ (Table 9-11). -/
def Cluster.readHead (x : Cluster) : Bytes :=
  let first := x.written - x.ring.length
  leBytes 2 (if x.triggered ∧ first ≤ x.trigAt ∧ x.trigAt < x.written then x.trigAt - first else 0xFFFF)
    ++ leBytes 2 x.ring.length ++ leBytes 4 x.captureId
    ++ leBytes 4 (if x.triggered then x.trigEpoch else 0) ++ leBytes 2 (if x.triggered then x.trigSource else 0) ++ [0, 0]

theorem Cluster.length_readHead (x : Cluster) : x.readHead.length = 16 := by
  simp [Cluster.readHead]

/-- A frozen capsule is not unfrozen. -/
def Capsule.freeze (n : Nat) (o : Capsule) : Capsule := { o with frozen := o.frozen || decide (o.number = n) }

/-- The first capsule to be frozen puts its cluster in state 4. -/
theorem Cluster.freeze_state {x : Cluster} {p : Capsule} (hp : p ∈ x.capsuleQueue)
    (hnone : ∀ o, o ∈ x.capsuleQueue → o.frozen = false) : (x.mapCapsules (Capsule.freeze p.number)).state = 4 := by
  have hfresh : ((x.capsuleQueue.map (Capsule.freeze p.number)).any (·.frozen) && !x.capsuleQueue.any (·.frozen)) = true := by
    have hold : x.capsuleQueue.any (·.frozen) = false := by
      rw [List.any_eq_false]
      intro o ho
      rw [hnone o ho]
      exact Bool.false_ne_true
    rw [hold, Bool.not_false, Bool.and_true, List.any_eq_true]
    exact ⟨p.freeze p.number, List.mem_map_of_mem hp, by simp [Capsule.freeze]⟩
  exact if_pos hfresh

/-- The ring of entries of a capsule's output is kept to its last 1,024. -/
theorem Capsule.push_entries {p : Capsule} (e : TraceEntry) (h : p.entries.length ≤ 1024) :
    (p.push e).entries.length ≤ 1024 ∧ (p.push e).entries <:+ p.entries ++ [e] := by
  by_cases hfull : 1024 ≤ p.entries.length
  · have hentries : (p.push e).entries = p.entries.drop 1 ++ [e] := by
      simp only [Capsule.push, decide_eq_true hfull, if_true]
    rw [hentries]
    refine ⟨by simp; omega, ?_⟩
    obtain ⟨l, hl⟩ := List.drop_suffix 1 p.entries
    exact ⟨l, by rw [← List.append_assoc, hl]⟩
  · have hentries : (p.push e).entries = p.entries ++ [e] := by
      simp only [Capsule.push, decide_eq_false hfull, Bool.false_eq_true, if_false]
    rw [hentries]
    exact ⟨by simp; omega, List.suffix_refl _⟩

/-- A capsule event of an output whose cluster admits it (R241). -/
theorem State.capsuleEvent_begins {s : State} {ch ev k : Nat} (hout : s.outputOf ch = some k)
    (henable : (s.clusterAt (quadrant ch)).capEnable = true) (hevent : (s.clusterAt (quadrant ch)).capEvents.testBit ev = true)
    (h2 : (s.clusterAt (quadrant ch)).state ≠ 2) (h4 : (s.clusterAt (quadrant ch)).state ≠ 4)
    (hpost : (s.clusterAt (quadrant ch)).capPost ≠ 0) : ∃ p : Capsule,
    ((s.capsuleEvent ch ev).clusterAt (quadrant ch)).capsuleQueue = (s.clusterAt (quadrant ch)).capsuleQueue ++ [p] ∧
    p.number = s.retained.capsuleNo ∧ p.event = ev ∧ p.output = k ∧ p.postLeft = (s.clusterAt (quadrant ch)).capPost ∧
    p.entries.length ≤ 1024 ∧ p.preCount = p.entries.length ∧
    p.entries <:+ (s.clusterAt (quadrant ch)).ring.filter (s.entryOf k) ∧
    ((s.capsuleEvent ch ev).clusterAt (quadrant ch)).ring = (s.clusterAt (quadrant ch)).ring ∧
    (s.capsuleEvent ch ev).retained.capsuleNo = (s.retained.capsuleNo + 1) % 2 ^ 32 := by
  obtain ⟨x, hx⟩ : ∃ x, x = s.clusterAt (quadrant ch) := ⟨_, rfl⟩
  rw [← hx] at henable hevent h2 h4 hpost ⊢
  obtain ⟨mine, hmine⟩ : ∃ l, l = x.ring.filter (s.entryOf k) := ⟨_, rfl⟩
  obtain ⟨kept, hkept⟩ : ∃ l, l = mine.drop (mine.length - 1024) := ⟨_, rfl⟩
  have hlen : kept.length ≤ 1024 := by
    rw [hkept, List.length_drop]
    omega
  obtain ⟨p, hp⟩ : ∃ p : Capsule, p = { number := s.retained.capsuleNo, event := ev, output := k, mode := x.mode, decim := x.decim
                                        postLeft := x.capPost, epoch := s.clocks.epoch, tstamp := s.fresh .unstated 0 % 2 ^ 32
                                        missed := x.missed, entries := kept
                                        preCount := kept.length } := ⟨_, rfl⟩
  obtain ⟨t, ht⟩ : ∃ t, t = s.used.setCluster (quadrant ch) fun x =>
      { x with capsuleQueue := x.capsuleQueue ++ [p], capsules := x.capsules + 1 } := ⟨_, rfl⟩
  obtain ⟨u, hu⟩ : ∃ u, u = t.signalTrigger (quadrant ch) 9 (some ch) := ⟨_, rfl⟩
  have hevents : s.capsuleEvent ch ev = { u with retained := { u.retained with capsuleNo := (s.retained.capsuleNo + 1) % 2 ^ 32 } } := by
    have hguard : ¬(!x.capEnable || !bit x.capEvents ev) = true := by
      rw [henable, show bit x.capEvents ev = true from hevent]
      exact Bool.false_ne_true
    unfold State.capsuleEvent
    dsimp only
    rw [hout, ← hx]
    dsimp only
    rw [if_neg hguard, if_neg (fun h => h.elim h2 h4), if_neg hpost, ← hmine, ← hkept, ← hp, ← ht, ← hu]
    rw [show u.retained.capsuleNo = s.retained.capsuleNo by rw [hu, ht]; rfl]
  have htx : t.clusterAt (quadrant ch) = { x with capsuleQueue := x.capsuleQueue ++ [p], capsules := x.capsules + 1 } := by
    rw [ht, State.clusterAt_setCluster, if_pos rfl, hx]
    rfl
  have huq : (u.clusterAt (quadrant ch)).capsuleQueue = (t.clusterAt (quadrant ch)).capsuleQueue ∧
      (u.clusterAt (quadrant ch)).ring = (t.clusterAt (quadrant ch)).ring := by
    rw [hu, State.signalTrigger, State.clusterAt_setCluster, if_pos rfl]
    dsimp only
    split <;> exact ⟨rfl, rfl⟩
  have hat : (s.capsuleEvent ch ev).clusterAt (quadrant ch) = u.clusterAt (quadrant ch) := by rw [hevents]; rfl
  rw [hat, huq.1, huq.2, htx, hevents]
  have hentries : p.entries = kept := by rw [hp]
  refine ⟨p, rfl, by rw [hp], by rw [hp], by rw [hp], by rw [hp], hentries ▸ hlen, by rw [hp], ?_, rfl, rfl⟩
  rw [hentries, ← hmine, hkept]
  exact List.drop_suffix _ _

/-- What the mover stages next of a cluster, while it may. -/
theorem State.stageCapsule_head {s : State} {c : Nat} {p : Capsule} (hmover : s.moverServes c = true)
    (hadmits : s.log.admits = true) (hroom : s.log.unflushed < 32) (hfirm : s.mode.firmware = true) (hgasp : s.mode ≠ .lastGasp)
    (hnext : (s.clusterAt c).nextCapsule = some p) : s.stageCapsule c =
      if p.headStaged = false then
        let y := (s.stage { cls := 0x0D, source := 2, event := none, items := p.head c, flags := 0, use := .plain }).setCluster c
          fun x => x.setCapsule p.number fun o => { o with headStaged := true }
        let y := { y with log := { y.log with capsules := (s.log.next, p.number, c, p.event, 0) :: y.log.capsules } }
        (if p.fragments = 0 then y.setCluster c fun x => x.capsuleDone p.number else y).startBurst
      else
        let y := s.stage { cls := 0x0E, source := 2, event := none, items := p.fragment p.nextFragment, flags := 0, use := .plain }
        if p.nextFragment + 1 < p.fragments then
          (y.setCluster c fun x => x.setCapsule p.number fun o => { o with nextFragment := o.nextFragment + 1 }).startBurst
        else
          let y := y.setCluster c fun x => x.capsuleDone p.number
          ({ y with log := { y.log with capsules := y.log.capsules.map fun (e : Nat × Nat × Nat × Nat × Nat) =>
              if e.2.1 = p.number then (e.1, e.2.1, e.2.2.1, e.2.2.2.1, 1) else e } }).startBurst := by
  have hguard : (s.moverServes c && s.log.admits && decide (s.log.unflushed < 32) && s.mode.firmware && decide (s.mode ≠ .lastGasp)) = true := by
    rw [hmover, hadmits, hfirm, decide_eq_true hroom, decide_eq_true hgasp]
    rfl
  unfold State.stageCapsule
  rw [if_pos hguard, hnext]
  dsimp only
  cases p.headStaged
  · rfl
  · rfl

end Sys2Proof.Machine

namespace Sys2Proof
open Machine

/-- Settles O28: each order's body on the state with its request taken. -/
theorem traceOrders : Obligations.TraceOrders := by
  rintro s mb q k rfl rfl
  obtain ⟨c, hc⟩ : ∃ c, c = (s.request mb).u 0 1 := ⟨_, rfl⟩
  rw [← hc]
  refine ⟨fun hstart hlay hmax hstate hmode => ?_, fun hstart hlay hmax hstate hmode hok => ?_, fun hstart hlay hmax hstate => ?_,
    fun hstart hlay hmax hstate => ?_, fun hstart hlay => ?_, fun hstart hlay hmax h1 h15 hinit hs1 hs2 hlen hgood => ?_,
    fun hstart hlay hmax henable hpost hevents => ?_⟩
  · rw [hc] at hmax hstate ⊢
    exact State.runOrder_does hstart ((if_neg fun h => hstate h.1).trans ((if_neg (by simp [hlay]; omega)).trans (if_pos hmode)))
  · refine ⟨_, State.runOrder_does hstart ((if_neg ?_).trans ((if_neg ?_).trans ((if_neg (by omega)).trans (if_neg ?_)))), ?_, ?_, ?_⟩
    · rw [← hc]
      exact fun h => hstate h.1
    · rw [hc] at hmax
      simp [hlay]
      omega
    · simp [show s.taken.setupOk (s.request mb) = true from hok]
    · rw [hc]
      exact (State.clusterAt_setCluster _ _ _ _).trans (if_pos rfl)
    · intro d hd
      rw [hc] at hd
      exact (State.clusterAt_setCluster _ _ _ _).trans (if_neg hd)
    · intro p hp
      cases p <;> first | rfl | exact absurd hp (by decide)
  · obtain ⟨x, hx⟩ : ∃ x, x = s.taken.setCluster c fun x =>
        { x with
          state := 1, ring := [], written := 0, triggered := false, trigPending := [], lastNode := none, evalCount := []
          captureId := (x.captureId + 1) % 2 ^ 32 } := ⟨_, rfl⟩
    have hat : x.clusterAt c = { s.clusterAt c with
        state := 1, ring := [], written := 0, triggered := false, trigPending := [], lastNode := none, evalCount := []
        captureId := ((s.clusterAt c).captureId + 1) % 2 ^ 32 } := by
      rw [hx, State.clusterAt_setCluster, if_pos rfl]
      rfl
    refine ⟨x, State.runOrder_does hstart ?_, by rw [hat], by rw [hat], by rw [hat], by rw [hat], fun d hd => ?_, ?_⟩
    · rw [hc] at hmax hstate hx hat
      refine (if_neg fun h => hstate h.1).trans ((if_neg (by simp [hlay]; omega)).trans ?_)
      dsimp only
      rw [← hx, hat, ← hc]
    · rw [hx, State.clusterAt_setCluster, if_neg hd]
      rfl
    · rw [hx]
      intro p hp
      cases p <;> first | rfl | exact absurd hp (by decide)
  · obtain ⟨honly, hitem⟩ := State.each_clusters (s := s.taken) (fun _ x =>
        if x.state = 1 ∧ bit x.trigMask 0 = true ∧ true = true ∧ x.trigPending.contains (0, none) = false then
          { x with trigPending := x.trigPending ++ [(0, none)] }
        else x) (mapList 4 c) (nodup_mapList 4 c)
    refine ⟨_, State.runOrder_does hstart ((if_neg ?_).trans (if_neg ?_)), fun d hd hbit hs hm hn => ?_, fun d hd => ?_, ?_⟩
    · rw [← hc, Bool.not_eq_true, List.any_eq_false]
      intro d hd
      exact fun h => hstate d (mem_mapList.mp hd).1 (of_decide_eq_true h)
    · rw [hc] at hmax
      simp [hlay]
      omega
    · rw [← hc]
      refine (hitem d).trans ((if_pos (mem_mapList.mpr ⟨hd, hbit⟩)).trans (if_pos ⟨hs, hm, rfl, hn⟩))
    · rw [← hc]
      refine (hitem d).trans (if_neg fun h => ?_)
      rw [(mem_mapList.mp h).2] at hd
      cases hd
    · rw [← hc]
      exact fun p hp => Part.same_trans (s.taken_only p (by cases p <;> first | rfl | exact absurd hp (by decide)))
        (honly p (by cases p <;> first | rfl | exact absurd hp (by decide)))
  · exact State.runOrder_does hstart (if_neg (by simp [hlay]))
  · refine ⟨(s.clusterAt c).readHead, State.runOrder_does hstart ?_, Cluster.length_readHead _⟩
    · rw [hc] at hmax hinit hs1 hs2 hlen hgood ⊢
      have hinit' : (s.taken.clusterAt ((s.request mb).u 0 1)).initialised = true := hinit
      refine (if_neg (by simp [hlay]; omega)).trans ((if_neg (by simp [hinit'])).trans ((if_neg fun h => h.elim hs1 hs2).trans
        ((if_neg (Nat.not_lt.mpr hlen)).trans ?_)))
      have hgood' : ∀ i ∈ countFrom ((s.request mb).u 4 1) ((s.request mb).u 2 2),
          s.taken.entryBad ((s.request mb).u 0 1) i = false := fun i hi => by
        rw [mem_countFrom] at hi
        exact hgood i hi.1 hi.2
      have hany : (countFrom ((s.request mb).u 4 1) ((s.request mb).u 2 2)).any
          (s.taken.entryBad ((s.request mb).u 0 1)) = false := by
        rw [List.any_eq_false]
        intro i hi
        rw [hgood' i hi]
        exact Bool.false_ne_true
      have hrows : ((countFrom ((s.request mb).u 4 1) ((s.request mb).u 2 2)).map fun i =>
          if s.taken.entryBad ((s.request mb).u 0 1) i then zeros 32
          else ((s.taken.clusterAt ((s.request mb).u 0 1)).ring.getD i {}).bytes).flatten =
          (((s.clusterAt ((s.request mb).u 0 1)).ring.drop ((s.request mb).u 2 2)).take ((s.request mb).u 4 1)).flatMap
            TraceEntry.bytes := by
        rw [← rows_eq _ _ _ hlen]
        refine congrArg List.flatten (List.map_congr_left fun i hi => ?_)
        rw [hgood' i hi]
        rfl
      simp only [hany, hrows, Bool.false_eq_true, if_false]
      rfl
  · obtain ⟨l, hl⟩ : ∃ l, l = if c = 255 then upto 4 else [c] := ⟨_, rfl⟩
    have hnodup : l.Nodup := by
      rw [hl]
      split
      · rw [upto_eq_range]
        exact List.nodup_range
      · exact List.nodup_cons.mpr ⟨List.not_mem_nil, List.nodup_nil⟩
    obtain ⟨x, hx⟩ : ∃ x, x = s.taken.each l fun t n => t.setCluster n fun x =>
        { x with capEnable := (s.request mb).u 1 1 = 1, capPost := (s.request mb).u 2 2, capEvents := (s.request mb).u 4 2 } := ⟨_, rfl⟩
    obtain ⟨honly, hitem⟩ := State.each_clusters (s := s.taken) (fun _ x =>
        { x with capEnable := (s.request mb).u 1 1 = 1, capPost := (s.request mb).u 2 2, capEvents := (s.request mb).u 4 2 }) l hnodup
    rw [← hx] at honly hitem
    refine ⟨x, State.runOrder_does hstart ?_, fun d hd hwhich => ?_, fun d h255 hd => ?_, ?_⟩
    · rw [hc] at hmax hl
      refine (if_neg (by simp [hlay]; omega)).trans ?_
      dsimp only
      rw [← hl, ← hx]
    · refine (hitem d).trans (if_pos ?_)
      rw [hl]
      split
      · exact mem_upto.mpr hd
      · next h => exact List.mem_singleton.mpr (hwhich.resolve_left h).symm
    · refine (hitem d).trans (if_neg ?_)
      rw [hl, if_neg h255]
      exact fun h => hd (List.mem_singleton.mp h)
    · exact fun p hp => Part.same_trans (s.taken_only p (by cases p <;> first | rfl | exact absurd hp (by decide)))
        (honly p (by cases p <;> first | rfl | exact absurd hp (by decide)))

/-- Settles O29: what each row does to its cluster. -/
theorem capturesAndCapsules : Obligations.CapturesAndCapsules := by
  intro s c
  refine ⟨fun hstate hfull => ⟨_, rfl, ?_, fun d hd => (State.clusterAt_setCluster _ _ _ _).trans (if_neg hd), s.setCluster_only c _⟩,
    fun d htrig hxout hstate hmask hnew => ⟨_, next_congr (if_pos ?_), State.signalTrigger_armed hstate hmask hnew,
      fun e he => State.signalTrigger_other s c 8 none he, s.setCluster_only c _⟩,
    fun d htrig => next_congr (if_neg ?_), fun hstate => next_congr (if_pos hstate), fun hstate => next_congr (if_neg hstate), ?_,
    ?_, fun p e h => Capsule.push_entries e h, fun p hp => ?_, fun p o hmover hadmits hroom hfirm hgasp hnext hhead hfrag ho => ?_,
    fun p hmover hadmits hroom hfirm hgasp hnext hhead => ?_, fun x n hstate hall => ⟨?_, fun o => ?_⟩⟩
  · exact (State.clusterAt_setCluster _ _ _ _).trans ((if_pos rfl).trans (if_pos ⟨hstate, hfull⟩))
  · rw [htrig, show bit (s.clusterAt d).xout c = true from hxout]
    rfl
  · rw [htrig]
    exact Bool.false_ne_true
  · have hat := State.clusterAt_setCluster s c (fun x => { x with
      state := 1, mode := 1, decim := smallestDecim (s.mapIntervals c (s.clusterMap c)) 11 2, channels := s.clusterMap c, pre := 0
      trigNode := 0, trigEdge := 0, trigMask := 0x200, trigChannel := 0, xout := 0, trigLevel := 0, holdS := 10, host := false
      captureId := (x.captureId + 1) % 2 ^ 32, ring := [], written := 0, triggered := false, trigPending := []
      lastNode := none, evalCount := [] })
    have hdefault : (s.defaultCapture c).clusterAt c = _ := (hat c).trans (if_pos rfl)
    rw [hdefault]
    exact ⟨rfl, rfl, rfl, rfl, rfl, rfl, rfl, rfl, rfl, fun d hd => (hat d).trans (if_neg hd), s.setCluster_only c _⟩
  · rintro ch ev k rfl hout henable hevent h2 h4 hpost
    exact State.capsuleEvent_begins hout henable hevent h2 h4 hpost
  · refine ⟨s.setCluster c fun x => x.mapCapsules (Capsule.freeze p.number), ?_, ?_, fun hnone => ?_,
      fun d hd => (State.clusterAt_setCluster _ _ _ _).trans (if_neg hd), s.setCluster_only c _⟩
    · refine next_congr ?_
      rw [hp]
      rfl
    · rw [State.clusterAt_setCluster, if_pos rfl]
      rfl
    · rw [State.clusterAt_setCluster, if_pos rfl]
      exact Cluster.freeze_state (List.mem_of_find?_eq_some hp) hnone
  · obtain ⟨y, hy⟩ : ∃ y, y = s.stage o := ⟨_, rfl⟩
    have hcluster : y.cluster = s.cluster := hy ▸ (State.stage_foot s o).keeps .cluster
    refine ⟨{ y.setCluster c fun x => x.setCapsule p.number fun o => { o with headStaged := true } with
      log := { y.log with capsules := (s.log.next, p.number, c, p.event, 0) :: y.log.capsules } }, ?_, by rw [← hy], ?_⟩
    · refine next_congr ((State.stageCapsule_head hmover hadmits hroom hfirm hgasp hnext).trans ((if_pos hhead).trans ?_))
      dsimp only
      rw [if_neg hfrag, ← ho, ← hy]
      rfl
    · have hat := State.clusterAt_setCluster y c (fun x => x.setCapsule p.number fun o => { o with headStaged := true }) c
      have hyc : y.clusterAt c = s.clusterAt c := by
        rw [State.clusterAt, hcluster]
        rfl
      rw [if_pos rfl, hyc] at hat
      exact hat
  · have hhead' : ¬p.headStaged = false := by simp [hhead]
    have hstage := (State.stageCapsule_head hmover hadmits hroom hfirm hgasp hnext).trans (if_neg hhead')
    obtain ⟨y, hy⟩ : ∃ y, y = s.stage { cls := 0x0E, source := 2, event := none, items := p.fragment p.nextFragment, flags := 0
                                        use := .plain } := ⟨_, rfl⟩
    have hcluster : y.cluster = s.cluster := hy ▸ (State.stage_foot s _).keeps .cluster
    dsimp only at hstage
    rw [← hy] at hstage
    have hat : ∀ f, (y.setCluster c f).clusterAt c = f (s.clusterAt c) := fun f => by
      rw [State.clusterAt_setCluster, if_pos rfl, State.clusterAt, hcluster]
      rfl
    by_cases hmore : p.nextFragment + 1 < p.fragments
    · rw [if_pos hmore] at hstage
      exact ⟨_, y, next_congr hstage, hy, rfl, rfl, fun _ => hat _, fun h => absurd hmore (Nat.not_lt.mpr h)⟩
    · rw [if_neg hmore] at hstage
      exact ⟨_, y, next_congr hstage, hy, rfl, rfl, fun h => absurd h hmore,
        fun _ => hat fun x => x.capsuleDone p.number⟩
  · refine if_pos ⟨hstate, ?_⟩
    rw [List.any_eq_false]
    intro o ho hfrozen
    obtain ⟨hmem, hnum⟩ := List.mem_filter.mp ho
    exact of_decide_eq_true hnum (hall o hmem hfrozen)
  · show o ∈ x.capsuleQueue.filter _ ↔ _
    rw [List.mem_filter, decide_eq_true_eq]

end Sys2Proof
end

section
/-! PROOFS. The budget orders, a shed cause set, the rectifier orders and the events of the staging plan (R302 to R319). -/
set_option Elab.async false
namespace Sys2Proof.Machine

/-- The field that stands after the bytes `a`. -/
theorem slice_mid (a b c : Bytes) {o n : Nat} (ha : a.length = o) (hb : b.length = n) : slice (a ++ (b ++ c)) o n = b := by
  rw [slice, List.drop_left' ha, List.take_left' hb, hb, Nat.sub_self]
  exact List.append_nil b

/-- A map of polders that are all enabled may be named. -/
theorem State.poldersOk_of {s : State} {m : Nat} (hm : m ≠ 0) (h : ∀ p, p < 32 → m.testBit p = true → s.polEnable p = 1) :
    s.poldersOk m = true := by
  rw [State.poldersOk, decide_eq_true hm, Bool.true_and, List.all_eq_true]
  intro p hp
  obtain ⟨hlt, hbit⟩ := mem_mapList.mp hp
  exact decide_eq_true (h p hlt hbit)

/-- The polders of a shed cause: what `shedPolder` leaves of the table. -/
theorem State.shedPolder_polder (s : State) {q : Nat} (htaken : (s.polderAt q).shedTaken = false) (hshed : s.polShed q = true)
    (r : Nat) : (s.shedPolder q).polderAt r =
      if r = q then { s.polderAt q with shedTaken := true } else s.polderAt r := by
  obtain ⟨x, hx⟩ : ∃ x, x = (s.setPolder q fun x => { x with shedTaken := true }).driveShedPins := ⟨_, rfl⟩
  have hpins : x.polder = (s.setPolder q fun x => { x with shedTaken := true }).polder := by
    rw [hx]
    exact (State.driveShedPins_foot _).keeps .polder
  have houts : ∀ l, (x.each l State.shedOut).polder = x.polder := fun l =>
    (.each .same fun _ _ h => (State.shedOut_foot _ _).after h : Foot 0xD00 x (x.each l State.shedOut)).keeps .polder
  have hall : (s.shedPolder q).polder = (s.setPolder q fun x => { x with shedTaken := true }).polder := by
    unfold State.shedPolder
    rw [htaken, hshed, if_neg (by decide), ← hpins, ← hx]
    dsimp only
    refine ((State.settle_foot _).keeps .polder).trans (((State.record_foot _ _ _ _).keeps .polder).trans ?_)
    split
    · rfl
    · exact houts _
  rw [State.polderAt, hall]
  exact State.polderAt_setPolder s q _ r

/-- A shed polder's shed takes effect, or has already; its causes and the other polders stay. -/
theorem State.shedPolder_spec (s : State) {q : Nat} (hshed : s.polShed q = true) :
    ((s.shedPolder q).polderAt q).causes = (s.polderAt q).causes ∧ ((s.shedPolder q).polderAt q).shedTaken = true ∧
    ((s.shedPolder q).polderAt q).loadBefore = (s.polderAt q).loadBefore ∧
    ∀ r, r ≠ q → (s.shedPolder q).polderAt r = s.polderAt r := by
  cases htaken : (s.polderAt q).shedTaken
  · have hat := State.shedPolder_polder s htaken hshed
    have hq := hat q
    rw [if_pos rfl] at hq
    rw [hq]
    exact ⟨rfl, rfl, rfl, fun r hr => (hat r).trans (if_neg hr)⟩
  · have hkeep : s.shedPolder q = s := if_pos (by rw [htaken]; rfl)
    rw [hkeep]
    exact ⟨rfl, htaken, rfl, fun _ _ => rfl⟩

/-- A shed cause set (Table 11-3). -/
theorem State.addCause_spec (s : State) (q b : Nat) :
    ((s.addCause q b).polderAt q).causes = setBit (s.polderAt q).causes b true ∧
    ((s.addCause q b).polderAt q).shedTaken = true ∧ ∀ r, r ≠ q → (s.addCause q b).polderAt r = s.polderAt r := by
  obtain ⟨x, hx⟩ : ∃ x, x = s.setPolder q fun x => { x with
      causes := setBit x.causes b true
      loadBefore := if x.causes = 0 then (s.polderAt q).load else x.loadBefore } := ⟨_, rfl⟩
  have hcauses : (x.polderAt q).causes = setBit (s.polderAt q).causes b true := by
    rw [hx, State.polderAt_setPolder, if_pos rfl]
  have hshed : x.polShed q = true := by
    rw [State.polShed, decide_eq_true_eq, hcauses]
    intro hzero
    have hbit := testBit_setBit (s.polderAt q).causes b true b
    rw [hzero, Nat.zero_testBit, if_pos rfl] at hbit
    exact Bool.noConfusion hbit
  obtain ⟨hsame, htaken, -, hothers⟩ := x.shedPolder_spec hshed
  rw [show s.addCause q b = x.shedPolder q by rw [hx]; rfl]
  refine ⟨hsame.trans hcauses, htaken, fun r hr => (hothers r hr).trans ?_⟩
  rw [hx, State.polderAt_setPolder, if_neg hr]

/-- A request whose map names no legacy rectifier, or whose session has feature 9, may name them. -/
theorem mayName_of {q : Req} {s : State} (h : q.u 0 8 < 2 ^ 32 ∨ q.feats.testBit 9 = true) : mayName q s = true := by
  rw [mayName]
  rcases h with h | h
  · have hnone : namesLegacy (q.u 0 8) = false := by
      rw [namesLegacy, List.any_eq_false]
      intro k hk
      obtain ⟨-, hbit⟩ := mem_mapList.mp hk
      have hlow : k < 32 := by
        refine Classical.byContradiction fun hge => ?_
        rw [Nat.testBit_lt_two_pow (Nat.lt_of_lt_of_le h (Nat.pow_le_pow_right (by omega) (by omega)))] at hbit
        exact Bool.noConfusion hbit
      rw [legacyRect, decide_eq_true_eq]
      omega
    rw [hnone]
    rfl
  · rw [show bit q.feats 9 = true from h, Bool.or_true]

/-- Every rectifier of a map is enabled. -/
theorem State.rects_enabled {s : State} {m : Nat} (h : ∀ k, k < 40 → m.testBit k = true → s.rectEnable k = 1) :
    ((mapList 40 m).any fun k => decide (s.rectEnable k ≠ 1)) = false := by
  rw [List.any_eq_false]
  intro k hk
  obtain ⟨hlt, hbit⟩ := mem_mapList.mp hk
  simp [h k hlt hbit]

/-- The pairs of a rotation leave the count of its period. -/
theorem State.swapBegin_rotationTides (s : State) : s.swapBegin.plan.rotationTides = s.plan.rotationTides := by
  unfold State.swapBegin
  dsimp only
  split
  · split <;> rfl
  · rfl

/-- One staging record for each rectifier named. -/
theorem State.stagingRecords_offers (l : List Nat) (s : State) :
    (s.each l State.stagingRecord).log.offers.length = s.log.offers.length + l.length := by
  induction l generalizing s with
  | nil => rfl
  | cons k l ih =>
    rw [State.each, List.foldl_cons, ← State.each, ih, State.stagingRecord, State.record_eq, State.offerAs_offers,
      List.length_append, List.length_cons, List.length_nil, List.length_cons]
    omega

end Sys2Proof.Machine

namespace Sys2Proof
open Machine

/-- Settles O30: each order's body on the state with its request taken, and each row of the plan from its conditions. -/
theorem budgetAndRectifierOrders : Obligations.BudgetAndRectifierOrders := by
  refine ⟨?_, ?_⟩
  · rintro s mb q m rfl hm
    refine ⟨fun hstart hlay => ?_, fun hstart hlay hm0 hall => ?_, fun hstart hlay hm0 hall => ?_, fun p => ?_⟩
    · refine ⟨_, State.runOrder_does hstart (if_neg (by simp [hlay])), ?_, ?_, ?_⟩
      · simp only [View.budgetStatus, List.length_append, length_leS, length_leBytes, List.length_cons, List.length_nil]
        rw [length_flatten_map _ _ 12 (fun _ _ => by simp [View.polderBytes]), length_upto]
      · simp only [View.budgetStatus, List.append_assoc]
        exact List.take_left' (length_leS _ _)
      · simp only [View.budgetStatus, List.append_assoc]
        rw [← List.append_assoc]
        exact slice_mid _ _ _ (by simp) (length_leS _ _)
    · have hok : s.taken.poldersOk m = true := State.poldersOk_of (s := s.taken) hm0 hall
      rw [hm] at hok ⊢
      exact State.runOrder_does hstart (if_neg (by simp [hlay, hok]))
    · have hok : s.taken.poldersOk m = true := State.poldersOk_of (s := s.taken) hm0 fun p hp hb => (hall p hp hb).1
      have hcause : ((mapList 32 m).any fun p => !bit (s.taken.polderAt p).causes 2) = false := by
        rw [List.any_eq_false]
        intro p hp
        obtain ⟨hlt, hbit⟩ := mem_mapList.mp hp
        rw [show bit (s.taken.polderAt p).causes 2 = true from (hall p hlt hbit).2]
        exact Bool.false_ne_true
      rw [hm] at hok hcause ⊢
      exact State.runOrder_does hstart ((if_neg (by simp [hlay, hok])).trans (if_neg (by rw [hcause]; exact Bool.false_ne_true)))
    · obtain ⟨hcauses, htaken, hothers⟩ := s.addCause_spec p 2
      rw [hcauses]
      refine ⟨?_, htaken, fun i hi => ?_, hothers, (State.addCause_foot s p 2).onlyIn _⟩
      · rw [testBit_setBit, if_pos rfl]
      · rw [testBit_setBit, if_neg hi]
  · rintro s mb q m rfl hm
    refine ⟨fun hstart hlay => ?_, fun hstart hlay hmax hleg hact hen hwd => ?_, fun hstart hlay hmax hleg hact hen hwd => ?_,
      fun hstart hlay hwaits => ?_, fun hstart hlay hmax hleg => ?_, fun hmay hfail hhold hsince hstar k hk => ?_, fun hoff => ?_,
      fun hrot hmode hper htides hwaits => ?_, fun hrot hper => ?_, fun k hstate hk htime hspill => ?_, fun k hstate => ?_,
      fun hspill htides => ?_⟩
    · refine ⟨_, State.runOrder_does hstart (if_neg (by simp [hlay])), ?_⟩
      simp only [List.length_append, length_leS, length_leBytes, List.length_cons, List.length_nil]
      rw [length_flatten_map _ _ 12 (fun _ _ => by simp [View.rectBytes]), length_upto]
    · have hen' : ((mapList 40 m).any fun k => decide (s.taken.rectEnable k ≠ 1)) = false := State.rects_enabled (s := s.taken) hen
      have hwd' : (s.request mb).u 8 1 = 0 → s.taken.withdrawable m = true := hwd
      rw [hm] at hen' hwd' hmax hleg ⊢
      refine State.runOrderWith_does hstart rfl (mayName_of hleg) ((if_neg ?_).trans ((if_neg ?_).trans rfl))
      · rw [hlay, hen', decide_eq_false (Nat.not_lt.mpr hact), decide_eq_false (Nat.not_le.mpr hmax)]
        exact Bool.false_ne_true
      · intro h
        rw [Bool.and_eq_true, decide_eq_true_eq, Bool.not_eq_true'] at h
        rw [hwd' h.1] at h
        exact Bool.noConfusion h.2
    · have hen' : ((mapList 40 m).any fun k => decide (s.taken.rectEnable k ≠ 1)) = false := State.rects_enabled (s := s.taken) hen
      have hwd' : s.taken.withdrawable m = false := hwd
      rw [hm] at hen' hwd' hmax hleg
      refine State.runOrderWith_does hstart rfl (mayName_of hleg) ((if_neg ?_).trans (if_pos ?_))
      · rw [hlay, hen', hact, decide_eq_false (Nat.not_le.mpr hmax)]
        decide
      · rw [hact, hwd']
        rfl
    · have hwaits' : s.taken.rotationWaits = false := hwaits
      exact State.runOrder_does hstart ((if_neg (by rw [hwaits']; exact Bool.false_ne_true)).trans (if_neg (by simp [hlay])))
    · rw [hm] at hmax hleg ⊢
      exact State.runOrderWith_does hstart rfl (mayName_of hleg) (if_neg (by
        rw [hlay, decide_eq_false (Nat.not_le.mpr hmax)]
        exact Bool.false_ne_true))
    · refine ⟨{ s.park k with plan := { s.plan with sincePark := 0 } },
        next_congr ((if_pos ⟨hmay, hfail, hhold, hsince, hstar⟩).trans ?_), ?_, fun j hj => ?_, rfl, ?_⟩
      · rw [hk]
        rfl
      · exact (State.rectAt_setRect s k (fun r => { r with state := 2, opDue := some 0 }) k).trans (if_pos rfl)
      · exact (State.rectAt_setRect s k (fun r => { r with state := 2, opDue := some 0 }) j).trans (if_neg hj)
      · intro p hp
        cases p <;> first | rfl | exact absurd hp (by decide)
    · refine next_congr (if_neg ?_)
      rintro ⟨hmay, hfail, -⟩
      rcases hoff with h | h
      · rw [h] at hmay; exact Bool.noConfusion hmay
      · rw [h] at hfail; exact Bool.noConfusion hfail
    · refine ⟨next_congr ((if_neg (by rw [hrot]; exact Bool.false_ne_true)).trans (if_pos ⟨hmode, hper, htides, hwaits⟩)),
        State.swapBegin_rotationTides _, (State.rotateBegin_foot s).onlyIn _⟩
    · exact next_congr ((if_neg (by rw [hrot]; exact Bool.false_ne_true)).trans (if_neg fun h => h.2.1 hper))
    · refine ⟨_, next_congr (if_pos ⟨hstate, hk, htime, hspill⟩), ?_, fun j hj => ?_, (State.setRect_foot s k _).onlyIn _⟩
      · exact (State.rectAt_setRect s k _ k).trans (if_pos rfl)
      · exact (State.rectAt_setRect s k _ j).trans (if_neg hj)
    · exact next_congr (if_neg fun h => hstate h.1)
    · obtain ⟨x, hx⟩ : ∃ x : State, x = { s with plan := { s.plan with stagingTides := 0 } } := ⟨_, rfl⟩
      have hfoot : Foot 0x100 x (x.each s.enabledRects State.stagingRecord) :=
        .each .same fun _ _ h => (State.record_foot _ _ _ _).after h
      refine ⟨x.each s.enabledRects State.stagingRecord, next_congr ((if_pos ⟨hspill, htides⟩).trans (by rw [hx]; rfl)), ?_, ?_, ?_⟩
      · rw [show (x.each s.enabledRects State.stagingRecord).plan = x.plan from hfoot.keeps .plan, hx]
      · intro p hp
        refine Part.same_trans (t := x) ?_ ((hfoot.onlyIn [.plan, .log] : Only [.plan, .log] _ _) p hp)
        rw [hx]
        cases p <;> first | rfl | exact absurd hp (by decide)
      · rw [State.stagingRecords_offers, hx]

end Sys2Proof
end

section
/-! PROOFS. A runtime prediction made later than it was due. -/
set_option Elab.async false
namespace Sys2Proof.Machine

/-- Ride-through with a prediction due at tide 0, one tide ago. -/
def overdue : State := { ({} : State) with
  power := { ({} : State).power with mode := .rideThrough }
  sluice := { ({} : State).sluice with own := true }
  budget := { ({} : State).budget with rtActive := true, rtTides := 1, predictAt := 0 } }

theorem overdue_spillway : overdue.spillway = true := by decide

end Sys2Proof.Machine

namespace Sys2Proof
open Machine

/-- Refutes O31: a prediction due at tide 0 that is made at tide 1 sets the next one at tide 1000, a second after it was
due, where the statement asks for a second after it was made. -/
theorem not_spillwaySheds : ¬ Obligations.SpillwaySheds := by
  intro h
  obtain ⟨-, -, -, -, -, hpredict, -⟩ := h overdue 0 overdue_spillway
  obtain ⟨t, ht, hat, -⟩ := hpredict rfl (by decide)
  have hrun : exec .runtimePrediction overdue = .next { overdue.used with budget := { overdue.budget with
      predictAt := 1000
      predictionEpoch := 0
      lastPrediction := overdue.fresh .unstated 0 % 2 ^ 32
      runtimeShort := false } } :=
    next_congr ((if_pos ⟨overdue_spillway, rfl, by decide⟩).trans rfl)
  injection hrun.symm.trans ht with heq
  rw [← heq] at hat
  exact absurd hat (by decide)

end Sys2Proof
end

section
/-! PROOFS. The Tideline orders and the timers of nodes and controller (R334 to R351). -/
set_option Elab.async false
namespace Sys2Proof.Machine

@[simp] theorem length_beBytes (n v : Nat) : (beBytes n v).length = n := by
  rw [beBytes, List.length_reverse, length_leBytes]

/-- What is left of the nodes by one that leaves. -/
theorem State.freeNode_nodes (s : State) (n j : Nat) : (s.freeNode n).nodeAt j = if j = n then {} else s.nodeAt j := by
  have htide : (s.freeNode n).tide = (s.setNode n fun _ => {}).tide := by
    unfold State.freeNode
    dsimp only
    split
    · split
      · exact (State.rectLeave_foot _ _).keeps .tide
      · rfl
    · split
      · rfl
      · rfl
  rw [State.nodeAt, htide]
  exact State.nodeAt_setNode s n _ j

theorem State.freeNode_down (s : State) (n : Nat) : (s.freeNode n).tide.down = s.tide.down := by
  unfold State.freeNode
  dsimp only
  split
  · split
    · exact congrArg (·.down) ((State.rectLeave_foot _ _).keeps .tide)
    · rfl
  · split
    · rfl
    · rfl

theorem State.length_nodeBytes (s : State) (n : Nat) : (s.nodeBytes n).length = 16 := by
  simp [State.nodeBytes]

/-- Entry `i` of fields of one size, laid side by side, from its start on. -/
theorem flatten_map_split {α : Type} (l : List α) (f : α → Bytes) (n i : Nat) (h : ∀ x ∈ l, (f x).length = n)
    (hi : i < l.length) : (l.map f).flatten =
      ((l.take i).map f).flatten ++ (f l[i] ++ ((l.drop (i + 1)).map f).flatten) ∧ ((l.take i).map f).flatten.length = n * i := by
  refine ⟨?_, ?_⟩
  · conv => lhs; rw [← List.take_append_drop i l, List.drop_eq_getElem_cons hi]
    rw [List.map_append, List.flatten_append, List.map_cons, List.flatten_cons]
  · rw [length_flatten_map _ _ n fun x hx => h x (List.mem_of_mem_take hx), List.length_take, Nat.min_eq_left (Nat.le_of_lt hi), Nat.mul_comm]

/-- The slots of sleepers that are lost get their time. -/
theorem State.each_freeAt (t : Nat) (l : List Nat) (s : State) :
    Only [.tide] s (s.each l fun s n => s.setNode n fun x => { x with freeAt := some t }) ∧
    (s.each l fun s n => s.setNode n fun x => { x with freeAt := some t }).tide.wide = s.tide.wide ∧
    ∀ k, (s.each l fun s n => s.setNode n fun x => { x with freeAt := some t }).nodeAt k =
      if k ∈ l then { s.nodeAt k with freeAt := some t } else s.nodeAt k := by
  induction l generalizing s with
  | nil => exact ⟨Only.refl _ s, rfl, fun k => (if_neg List.not_mem_nil).symm⟩
  | cons n l ih =>
    obtain ⟨honly, hwide, hat⟩ := ih (s.setNode n fun x => { x with freeAt := some t })
    refine ⟨Only.trans ((State.setNode_foot s n _).onlyIn [.tide]) honly, hwide, fun k => ?_⟩
    refine (hat k).trans ?_
    rw [State.nodeAt_setNode]
    by_cases hk : k = n
    · rw [if_pos (show k ∈ n :: l from hk ▸ List.mem_cons_self), hk, if_pos rfl]
      exact ite_self _
    · rw [if_neg hk]
      exact ite_congr (propext (by rw [List.mem_cons, or_iff_right hk])) (fun _ => rfl) fun _ => rfl

end Sys2Proof.Machine

namespace Sys2Proof
open Machine

/-- Settles O32: each order's body on the state with its request taken, and each timer from its conditions. -/
theorem tidelineOrdersAndTimers : Obligations.TidelineOrdersAndTimers := by
  rintro s mb q n rfl rfl
  obtain ⟨n, hn⟩ : ∃ n, n = (s.request mb).u 0 1 := ⟨_, rfl⟩
  rw [← hn]
  refine ⟨fun hstart hlay => ?_, fun hstart hlay hmax => ?_, fun hstart hlay hgood hlocked hkey => ?_, fun hstart hlay hgood => ?_,
    fun hstart hlay hstate => ?_, fun k hstate htime => ?_, fun k hstate => ?_, fun hstr htides => ?_, fun htides => ?_,
    fun k hsl hstate hmiss hsends => ?_, fun k hsl => ?_, fun hwide hleft => ?_, fun hwide => ?_, fun k t hat hstate htime => ?_,
    fun hquiet htime => ?_, fun hquiet => ?_⟩
  · refine ⟨_, State.runOrder_does hstart (if_neg (by simp [hlay])), ?_, ?_⟩
    · simp
    · simp only [List.append_assoc]
      exact slice_mid [_] [_, _, _] _ rfl rfl
  · have hlen : ∀ k ∈ countFrom 16 (16 * n), (s.taken.nodeBytes k).length = 16 := fun k _ => State.length_nodeBytes _ _
    refine ⟨_, State.runOrder_does hstart (if_neg (by rw [hn] at hmax; simp [hlay]; omega)), ?_, fun i hi => ?_⟩
    · rw [← hn, length_flatten_map _ _ 16 hlen, length_countFrom]
    · rw [← hn]
      have hi' : i < (countFrom 16 (16 * n)).length := Nat.lt_of_lt_of_eq hi (length_countFrom _ _).symm
      obtain ⟨hsplit, hbefore⟩ := flatten_map_split _ s.taken.nodeBytes 16 i hlen hi'
      have hitem : (countFrom 16 (16 * n))[i] = 16 * n + i := by simp [countFrom_eq_range']
      rw [hsplit, hitem]
      exact slice_mid _ [_, _, _, _, _, _] _ hbefore rfl
  · have hgood' : s.taken.fieldGood 24 8 = true := hgood
    have hlocked' : s.taken.secretLocked [0, 2] = false := hlocked
    have hkey' : s.taken.keyMatches 24 (slice (s.request mb).payload 0 16) = true := hkey
    exact State.runOrder_does hstart ((if_neg (by simp [hlay])).trans ((if_neg (by simp [hgood', hlocked'])).trans
      (if_neg (by simp [hkey']))))
  · have hgood' : s.taken.fieldGood 24 8 = false := hgood
    exact State.runOrder_does hstart ((if_neg (by simp [hlay])).trans (if_pos (by rw [hgood']; rfl)))
  · have hstate' : 2 ≤ (s.taken.nodeAt n).state := hstate
    obtain ⟨f, hf⟩ : ∃ f : DownFrame, f = { bytes := [byte 0x26, byte n, 1] ++ tag32 (s.taken.nodeAt n).ks [byte 0x26, byte n, 1]
                                            ks := none } := ⟨_, rfl⟩
    obtain ⟨y, hy⟩ : ∃ y, y = (s.taken.queueDown true f.bytes none).record 0x13 3 [byte n, 1] := ⟨_, rfl⟩
    have hdown : y.tide.down = f :: s.tide.down := by rw [hy, hf]; rfl
    have hnodes : ∀ k, y.nodeAt k = s.nodeAt k := fun k => by rw [hy]; rfl
    refine ⟨y.freeNode n, State.runOrder_does hstart ((if_neg ?_).trans ?_), ?_, fun k hk => ?_, ⟨f, ?_, ?_⟩, ?_, ?_⟩
    · rw [← hn, hlay]
      simp
      omega
    · rw [hy, hf, hn]
    · rw [State.freeNode_nodes, if_pos rfl]
    · rw [State.freeNode_nodes, if_neg hk, hnodes]
    · rw [State.freeNode_down, hdown]
    · rw [hf]
      exact List.take_left' rfl
    · rw [show (y.freeNode n).log = y.log from (State.freeNode_foot _ _).keeps .log, hy, State.record_eq, State.offerAs_offers,
        List.length_append]
      rfl
    · refine Only.trans (t := y) ?_ ((State.freeNode_foot y n).onlyIn _)
      rw [hy]
      intro p hp
      cases p <;> first | rfl | exact absurd hp (by decide)
  · refine ⟨next_congr (if_pos ⟨hstate, htime⟩), ?_, fun j hj => ?_, (State.freeNode_foot s k).onlyIn _⟩
    · rw [State.freeNode_nodes, if_pos rfl]
    · rw [State.freeNode_nodes, if_neg hj]
  · exact next_congr (if_neg fun h => hstate h.1)
  · exact next_congr (if_pos ⟨hstr, htides⟩)
  · exact next_congr (if_neg fun h => absurd h.2 (Nat.not_le.mpr htides))
  · obtain ⟨y, hy⟩ : ∃ y, y = s.setNode k fun x => { x with
        state := 4
        freeAt := none } := ⟨_, rfl⟩
    refine ⟨({ y with tide := { y.tide with wide := true, wideLeft := 500 } } : State).record 0x13 4 [byte k],
      next_congr ((if_pos ⟨hsl, hstate, hmiss, hsends⟩).trans (by rw [hy])), ?_, rfl, rfl, fun j hj => ?_, ?_⟩
    · show (y.nodeAt k).state = 4
      rw [hy, State.nodeAt_setNode, if_pos rfl]
    · show y.nodeAt j = s.nodeAt j
      rw [hy, State.nodeAt_setNode, if_neg hj]
    · rw [hy]
      intro p hp
      cases p <;> first | rfl | exact absurd hp (by decide)
  · exact next_congr (if_neg fun h => by rw [hsl] at h; exact Bool.noConfusion h.1)
  · obtain ⟨y, hy⟩ : ∃ y : State, y = { s with tide := { s.tide with wide := false } } := ⟨_, rfl⟩
    have hnodes : ∀ k, y.nodeAt k = s.nodeAt k := fun k => by rw [hy]; rfl
    obtain ⟨honly, hwide', hat⟩ := State.each_freeAt (s.budget.tides + 10000)
      (y.slotNodes.filter fun n => decide ((y.nodeAt n).state = 4) && (y.nodeAt n).freeAt.isNone) y
    refine ⟨_, next_congr ((if_pos ⟨hwide, hleft⟩).trans ?_), ?_, fun k hk h4 hnone => (hat k).trans ?_, fun k hk => (hat k).trans ?_, ?_⟩
    · rw [hy]
    · rw [hwide', hy]
    · have hmem : k ∈ y.slotNodes := by rw [hy]; exact hk
      rw [if_pos (List.mem_filter.mpr ⟨hmem, by rw [hnodes, h4, hnone]; rfl⟩), hnodes]
    · rw [if_neg ?_, hnodes]
      intro hmem
      have hboth := (List.mem_filter.mp hmem).2
      rw [hnodes, Bool.and_eq_true, decide_eq_true_eq, Option.isNone_iff_eq_none] at hboth
      exact hk.elim (fun h => h hboth.1) fun h => h hboth.2
    · refine Only.trans (t := y) ?_ honly
      rw [hy]
      intro p hp
      cases p <;> first | rfl | exact absurd hp (by decide)
  · exact next_congr (if_neg fun h => by rw [hwide] at h; exact Bool.noConfusion h.1)
  · obtain ⟨y, hy⟩ : ∃ y, y = s.freeNode k := ⟨_, rfl⟩
    refine ⟨(y.record 0x13 3 [byte k, byte (s.fresh .unstated 0)]).used, next_congr ?_, ?_, fun j hj => ?_, ?_, ?_⟩
    · rw [hat]
      exact (if_pos ⟨hstate, htime⟩).trans (by rw [hy])
    · show y.nodeAt k = {}
      rw [hy, State.freeNode_nodes, if_pos rfl]
    · show y.nodeAt j = _
      rw [hy, State.freeNode_nodes, if_neg hj]
    · show (y.log.offers ++ [_]).length = _
      rw [show y.log = s.log by rw [hy]; exact (State.freeNode_foot _ _).keeps .log, List.length_append]
      rfl
    · refine Only.trans (t := y) (hy ▸ (State.freeNode_foot s k).onlyIn _) fun p hp => ?_
      cases p <;> first | rfl | exact absurd hp (by decide)
  · refine ⟨_, next_congr (if_pos ⟨hquiet, htime⟩), rfl, ?_, ?_⟩
    · rw [State.condition, State.srcAt_setSrc, if_pos rfl]
    · intro p hp
      cases p <;> first | rfl | exact absurd hp (by decide)
  · exact next_congr (if_neg fun h => by rw [hquiet] at h; exact Bool.noConfusion h.1)

end Sys2Proof
end

section
/-! PROOFS. The third report missed in a row of a string module. -/
set_option Elab.async false
namespace Sys2Proof.Machine

/-- String 0 on node 1 in slot 0, two reports missed, at the end of the slot's second half. -/
def quietString : State := { ({} : State) with
  power := { ({} : State).power with mode := .run, domains := 2 ^ 14 }
  clocks := { ({} : State).clocks with running := true }
  desc := { ({} : State).desc with committed := [(fieldKey 5 0 0x01, some 1), (fieldKey 5 0 0x02, some 1)] }
  tide := { ({} : State).tide with cycle := 2, nodes := [(1, { state := 2, cls := 1, slot := 0 })] }
  gauge := { ({} : State).gauge with strings := [(0, { modMiss := 2 })] } }

/-- How often a command has raised the source of gauge channel 0. -/
def gaugeCount : Host.Outcome State Fault Refusal → Nat
  | .next t => (t.srcAt 128).count
  | _ => 0

theorem quietString_raises : gaugeCount (exec (.slotFrame 0 none false) quietString) = 1 := by decide

end Sys2Proof.Machine

namespace Sys2Proof
open Machine

/-- Refutes O33: the third missed report in a row of a string's module sets FAULT bit 5 and raises source 128, so the
missed slot changes the fault table too, while the statement holds the change to Tideline, rectifiers and gauge. -/
theorem not_tidelineFrames : ¬ Obligations.TidelineFrames := by
  intro h
  obtain ⟨-, -, -, -, -, -, -, hmissed, -⟩ := h quietString
  obtain ⟨t, ht, -, -, -, -, honly⟩ := hmissed 0 1 (by decide) (by decide) (by decide) (by decide) (by decide)
  have hfaults : t.faults = quietString.faults := honly .faults rfl
  have hnone : gaugeCount (exec (.slotFrame 0 none false) quietString) = 0 := by
    rw [ht, gaugeCount, State.srcAt, hfaults]
    rfl
  rw [quietString_raises] at hnone
  exact absurd hnone (by decide)

end Sys2Proof
end

section
/-! PROOFS. The gauge orders, the gauge cycle, hibernation, strings and probes (R361 to R389). -/
set_option Elab.async false
namespace Sys2Proof.Machine

/-- A bit of every item of a list of strings is set; the other strings stay. -/
theorem State.each_strings {s : State} (g : Nat → BString → BString) (l : List Nat) (hl : l.Nodup) :
    Only [.gauge] s (s.each l fun t n => t.setString n (g n)) ∧
    ∀ c, (s.each l fun t n => t.setString n (g n)).stringAt c = if c ∈ l then g c (s.stringAt c) else s.stringAt c := by
  have h := State.each_items State.stringAt (fun t n => t.setString n (g n)) (fun t => t = { s with gauge := t.gauge }) g
    (fun t n ht => ⟨by rw [ht]; rfl, fun j => State.stringAt_setString t n _ j⟩) l hl (s := s) rfl
  refine ⟨?_, h.2⟩
  rw [h.1]
  intro p hp
  cases p <;> first | rfl | exact absurd hp (by decide)

/-- The converters of a list, each once, and nothing else of the gauge. -/
theorem State.each_convs {s : State} (g : Nat → Conv → Conv) (l : List Nat) (hl : l.Nodup) :
    (∃ v, s.each l (fun t n => t.setConv n (g n)) = { s with gauge := { s.gauge with conv := v } }) ∧
    ∀ c, (s.each l fun t n => t.setConv n (g n)).convAt c = if c ∈ l then g c (s.convAt c) else s.convAt c := by
  refine State.each_items State.convAt (fun t n => t.setConv n (g n))
    (fun t => ∃ v, t = { s with gauge := { s.gauge with conv := v } }) g (fun t n ht => ⟨?_, fun j => State.convAt_setConv t n _ j⟩)
    l hl (s := s) ⟨s.gauge.conv, rfl⟩
  obtain ⟨v, rfl⟩ := ht
  exact ⟨_, rfl⟩

/-- The converters that stop as hibernation begins (R371). -/
theorem State.hibernate_convs (s : State) (all : Bool) (l : List Nat) (hl : l.Nodup) :
    (∃ v, (s.each l fun t k => t.setConv k fun c => { c with hib := (t.convAt k).running && (all || decide (t.strEnable k = 1)) }) =
      { s with gauge := { s.gauge with conv := v } }) ∧
    ∀ j, (s.each l fun t k => t.setConv k fun c => { c with hib := (t.convAt k).running && (all || decide (t.strEnable k = 1)) }).convAt j =
      if j ∈ l then { s.convAt j with hib := (s.convAt j).running && (all || decide (s.strEnable j = 1)) } else s.convAt j := by
  refine State.each_items State.convAt _ (fun t => ∃ v, t = { s with gauge := { s.gauge with conv := v } })
    (fun k c => { c with hib := c.running && (all || decide (s.strEnable k = 1)) }) (fun t n ht => ?_) l hl (s := s) ⟨s.gauge.conv, rfl⟩
  obtain ⟨v, rfl⟩ := ht
  exact ⟨⟨_, rfl⟩, fun j => State.convAt_setConv _ n _ j⟩

theorem nodup_upto (n : Nat) : (upto n).Nodup := by
  rw [upto_eq_range]
  exact List.nodup_range

theorem Probe.mem_members {p : Probe} {k : Nat} : k ∈ p.members ↔ k < 32 ∧ p.strings.testBit k = true := by
  rw [Probe.members, List.mem_filter, mem_upto]
  rfl

/-- A hibernated string as its hibernation ends `d` nanoseconds after it began (R372, R373). -/
def BString.woken (d late : Nat) (b : BString) : BString :=
  if b.state = 4 then
    { b with state := 2, hibNs := b.hibNs + d, uncounted := b.uncounted + late, restCycles := 0 }
  else b

/-- A string as hibernation begins (R371). -/
def BString.hibernated (b : BString) : BString :=
  if b.state = 2 ∨ b.state = 3 then
    { b with state := 4, hibTemp := b.temp, current := 0 }
  else b

@[simp] theorem length_leSat (n v : Nat) : (leSat n v).length = n := length_leBytes n _

/-- What hibernation's end leaves of strings and converters. -/
theorem State.wakeGauge_spec {s : State} (rtc late : Nat) (hhib : s.gauge.hib = true) :
    (s.wakeGauge rtc late).gauge.hib = false ∧ (∀ j, ((s.wakeGauge rtc late).convAt j).hib = false) ∧
    ∀ j, (s.stringAt j).state = 4 → ((s.wakeGauge rtc late).stringAt j).state = 2 := by
  unfold State.wakeGauge
  rw [if_pos hhib]
  refine ⟨rfl, fun j => ?_, fun j hj => ?_⟩
  · show (Tab.get {} (Tab.mapVals {} (fun _ c => { c with hib := false }) s.gauge.conv) j).hib = false
    rw [Tab.get_mapVals _ _ _ _ rfl]
  · show (Tab.get {} (Tab.mapVals {} (fun _ => BString.woken (rtc - s.gauge.hibFrom) late) s.gauge.strings) j).state = 2
    rw [Tab.get_mapVals _ _ _ _ rfl]
    exact congrArg BString.state (if_pos hj)

theorem State.dropFromProbe_other (s : State) {k j : Nat} (hj : j ≠ k) : (s.dropFromProbe k).stringAt j = s.stringAt j := by
  unfold State.dropFromProbe
  split
  · split
    · exact (State.stringAt_setString s k (fun b => { b with probeReason := 7 }) j).trans (if_neg hj)
    · rfl
  · rfl

/-- A string that leaves a probe keeps all but the reason. -/
theorem State.dropFromProbe_string (s : State) (k : Nat) : ∃ r,
    (s.dropFromProbe k).stringAt k = { s.stringAt k with probeReason := r } := by
  unfold State.dropFromProbe
  split
  · split
    · exact ⟨7, (State.stringAt_setString s k (fun b => { b with probeReason := 7 }) k).trans (if_pos rfl)⟩
    · exact ⟨_, rfl⟩
  · exact ⟨_, rfl⟩

/-- A probe that starts (R381). -/
theorem State.startProbe_probe (s : State) (strings ampl cycles : Nat) (ns : List Nat) (auto : Bool) :
    ∃ p, (s.startProbe strings ampl cycles ns auto).gauge.probe = some p ∧ p.strings = strings ∧ p.ampl = ampl ∧
      p.cycles = cycles ∧ p.ns = ns ∧ p.c = 0 ∧ p.auto = auto :=
  ⟨_, rfl, rfl, rfl, rfl, rfl, rfl, rfl⟩

/-- A point is added to the string probed, and to it alone. -/
theorem State.probePoint_strings (s : State) (p : Probe) (k n : Nat) : ∃ pt : ProbePoint, pt.n = n ∧
    ∀ j, (s.probePoint p k n).stringAt j =
      if j = k then { s.stringAt k with probePoints := (s.stringAt k).probePoints ++ [pt] } else s.stringAt j := by
  obtain ⟨pt, ⟨items, heq⟩, hn⟩ : ∃ pt : ProbePoint, (∃ items, s.probePoint p k n =
      (s.setString k fun b => { b with probePoints := b.probePoints ++ [pt] }).record 0x0C 2 items) ∧ pt.n = n := ⟨_, ⟨_, rfl⟩, rfl⟩
  refine ⟨pt, hn, fun j => ?_⟩
  rw [heq]
  exact State.stringAt_setString s k (fun b => { b with probePoints := b.probePoints ++ [pt] }) j

/-- Each string of a list gets one point, and the others none. -/
theorem State.probePoints_strings (p : Probe) (n : Nat) (l : List Nat) (hl : l.Nodup) (s : State) :
    (∀ k ∈ l, ∃ pt : ProbePoint, pt.n = n ∧ (s.each l fun s k => s.probePoint p k n).stringAt k =
      { s.stringAt k with probePoints := (s.stringAt k).probePoints ++ [pt] }) ∧
    ∀ j, j ∉ l → (s.each l fun s k => s.probePoint p k n).stringAt j = s.stringAt j := by
  induction l generalizing s with
  | nil => exact ⟨fun k hk => absurd hk List.not_mem_nil, fun j _ => rfl⟩
  | cons k l ih =>
    obtain ⟨hnot, hl⟩ := List.nodup_cons.mp hl
    obtain ⟨pt, hn, hat⟩ := s.probePoint_strings p k n
    obtain ⟨hin, hout⟩ := ih hl (s.probePoint p k n)
    refine ⟨fun j hj => ?_, fun j hj => ?_⟩
    · rcases List.mem_cons.mp hj with rfl | hj
      · exact ⟨pt, hn, (hout _ hnot).trans ((hat _).trans (if_pos rfl))⟩
      · obtain ⟨pt', hn', hat'⟩ := hin j hj
        refine ⟨pt', hn', hat'.trans ?_⟩
        rw [hat, if_neg (fun h : j = k => hnot (h ▸ hj))]
    · rw [List.mem_cons, not_or] at hj
      exact (hout j hj.2).trans ((hat j).trans (if_neg hj.1))

/-- A string's probe complete: its points stay. -/
theorem State.probeDone_strings (s : State) (p : Probe) (k : Nat) :
    ((s.probeDone p k).stringAt k).probePoints = (s.stringAt k).probePoints ∧
    ((s.probeDone p k).stringAt k).probeState = (if bit p.dropped k then 3 else 2) ∧
    ∀ j, j ≠ k → (s.probeDone p k).stringAt j = s.stringAt j := by
  obtain ⟨x, hx⟩ : ∃ x, x = s.setString k fun b => { b with
      probeState := if bit p.dropped k then 3 else 2
      probeEnd := s.clocks.epoch
      probeTemp := p.meanTemp k } := ⟨_, rfl⟩
  obtain ⟨y, hy, hdone⟩ : ∃ y, (y = x ∨ ∃ r, y = x.setString k fun b => { b with
      rserEst := r
      rserLearned := true }) ∧ s.probeDone p k = y := by
    unfold State.probeDone
    dsimp only
    rw [← hx]
    split
    · split
      · exact ⟨_, .inr ⟨_, rfl⟩, rfl⟩
      · exact ⟨x, .inl rfl, rfl⟩
    · exact ⟨x, .inl rfl, rfl⟩
  have hkeep : (y.stringAt k).probePoints = (x.stringAt k).probePoints ∧ (y.stringAt k).probeState = (x.stringAt k).probeState ∧
      ∀ j, j ≠ k → y.stringAt j = x.stringAt j := by
    rcases hy with hy | ⟨r, hy⟩
    · rw [hy]
      exact ⟨rfl, rfl, fun _ _ => rfl⟩
    · rw [hy]
      refine ⟨?_, ?_, fun j hj => ?_⟩
      · rw [State.stringAt_setString, if_pos rfl]
      · rw [State.stringAt_setString, if_pos rfl]
      · rw [State.stringAt_setString, if_neg hj]
  obtain ⟨hpoints, hstate, hothers⟩ := hkeep
  rw [hdone, hpoints, hstate, hx]
  refine ⟨?_, ?_, fun j hj => (hothers j hj).trans ?_⟩
  · rw [State.stringAt_setString, if_pos rfl]
  · rw [State.stringAt_setString, if_pos rfl]
  · rw [hx, State.stringAt_setString, if_neg hj]

/-- The strings of a list whose probe completes keep their points. -/
theorem State.probesDone_strings (p : Probe) (l : List Nat) (hl : l.Nodup) (s : State) :
    (∀ k ∈ l, ((s.each l fun s k => s.probeDone p k).stringAt k).probePoints = (s.stringAt k).probePoints ∧
      ((s.each l fun s k => s.probeDone p k).stringAt k).probeState = if bit p.dropped k then 3 else 2) ∧
    ∀ j, j ∉ l → (s.each l fun s k => s.probeDone p k).stringAt j = s.stringAt j := by
  induction l generalizing s with
  | nil => exact ⟨fun k hk => absurd hk List.not_mem_nil, fun j _ => rfl⟩
  | cons k l ih =>
    obtain ⟨hnot, hl⟩ := List.nodup_cons.mp hl
    obtain ⟨hpoints, hstate, hothers⟩ := s.probeDone_strings p k
    obtain ⟨hin, hout⟩ := ih hl (s.probeDone p k)
    refine ⟨fun j hj => ?_, fun j hj => ?_⟩
    · rcases List.mem_cons.mp hj with rfl | hj
      · have hat : (s.each (j :: l) fun s k => s.probeDone p k).stringAt j = (s.probeDone p j).stringAt j := hout j hnot
        rw [hat]
        exact ⟨hpoints, hstate⟩
      · obtain ⟨hp, hs⟩ := hin j hj
        rw [hothers j (fun h : j = k => hnot (h ▸ hj))] at hp
        exact ⟨hp, hs⟩
    · rw [List.mem_cons, not_or] at hj
      exact (hout j hj.2).trans (hothers j hj.1)

end Sys2Proof.Machine

namespace Sys2Proof
open Machine

/-- Settles O34: the orders, and each row of the gauge from its conditions. -/
theorem gaugeOrdersAndRows : Obligations.GaugeOrdersAndRows := by
  refine ⟨?_, ?_⟩
  · rintro s mb q rfl
    refine ⟨fun hstart hlay hmax => ?_, fun hstart hprobe hmode hlay hn1 hn16 ha10 ha50 hc2 hc20 hstrs hns => ?_,
      fun p hstart hmode hprobe => ?_, fun hstart hmode => ?_, fun b hstart hlay hmax hb => ?_, fun hstart hlay => ?_,
      fun hstart hlay => ?_, fun hstart hlay hmax => ?_, fun n m hmode hprobe => ?_⟩
    · obtain ⟨k, hk⟩ : ∃ k, k = (s.request mb).u 0 1 := ⟨_, rfl⟩
      have hlen : ∀ j ∈ countFrom 16 (16 * k), (s.sealedView.stringBytes j).length = 16 := fun j _ => by simp [View.stringBytes]
      refine ⟨_, State.runOrder_does hstart (if_neg (by simp [hlay]; omega)), ?_, fun i hi => ?_⟩
      · rw [List.length_append, ← hk]
        show _ + (List.map s.sealedView.stringBytes (countFrom 16 (16 * k))).flatten.length = _
        rw [length_flatten_map _ _ 16 hlen, length_countFrom]
        simp
      · rw [← hk]
        have hi' : i < (countFrom 16 (16 * k)).length := Nat.lt_of_lt_of_eq hi (length_countFrom _ _).symm
        obtain ⟨hsplit, hbefore⟩ := flatten_map_split _ s.sealedView.stringBytes 16 i hlen hi'
        have hitem : (countFrom 16 (16 * k))[i] = 16 * k + i := by simp [countFrom_eq_range']
        show slice (_ ++ (List.map s.sealedView.stringBytes (countFrom 16 (16 * k))).flatten) _ _ = _
        rw [hsplit, hitem, ← List.append_assoc, View.stringBytes, List.append_assoc (leBytes 2 _), List.append_assoc (leBytes 2 _),
          List.append_assoc (leBytes 2 _), List.append_assoc (leBytes 2 _)]
        refine slice_mid _ _ _ ?_ (length_leBytes _ _)
        rw [List.length_append, hbefore]
        simp
    · have hmode' : s.taken.probeMode = true := hmode
      have hprobe' : s.taken.gauge.probe = none := hprobe
      have hstrs' : (s.request mb).u 0 4 &&& listMap s.taken.enabledStrings ≠ 0 := hstrs
      have hns' : ((s.request mb).probeNs.any fun x => decide (x < 100) || decide (100000 < x)) = false := by
        rw [List.any_eq_false]
        intro x hx
        obtain ⟨hlo, hhi⟩ := hns x hx
        rw [decide_eq_false (Nat.not_lt.mpr hlo), decide_eq_false (Nat.not_lt.mpr hhi)]
        exact Bool.false_ne_true
      refine State.runOrder_does hstart ((if_neg (by simp [hmode'])).trans ((if_neg (by rw [hprobe']; exact Bool.false_ne_true)).trans ((if_neg ?_).trans rfl)))
      simp only [hlay, hns', Bool.not_true, Bool.false_or, Bool.or_false, Bool.or_eq_true, decide_eq_true_eq]
      omega
    · have hmode' : s.taken.probeMode = true := hmode
      have hprobe' : s.taken.gauge.probe = some p := hprobe
      exact State.runOrder_does hstart ((if_neg (by simp [hmode'])).trans (if_pos (by rw [hprobe']; rfl)))
    · have hmode' : s.taken.probeMode = false := hmode
      exact State.runOrder_does hstart (if_pos (by simp [hmode']))
    · rw [List.flatMap_def, hb]
      exact State.runOrder_does hstart (if_neg (by simp [hlay]; omega))
    · exact State.runOrder_does hstart (if_neg (by simp [hlay]))
    · exact State.runOrder_does hstart (if_neg (by simp [hlay]))
    · exact State.runOrder_does hstart (if_neg (by simp [hlay]; omega))
    · obtain ⟨p, hp, hstrings, hampl, hcycles, hns, hc, -⟩ :=
        s.startProbe_probe ((s.request mb).u 0 4) n m (s.request mb).probeNs false
      refine ⟨s.startProbe ((s.request mb).u 0 4) n m (s.request mb).probeNs false, ?_, ⟨p, hp, hstrings, hampl, hcycles, hns, hc⟩,
        (State.startProbe_foot _ _ _ _ _ _).onlyIn _⟩
      exact (if_neg (by simp [hmode])).trans (if_neg (by simp [hprobe]))
  · intro s
    refine ⟨fun hact hwarden hdom hclk hext hat hrole => ?_, fun hact hwarden hdom hclk hext hat hrole => ?_, fun hoff => ?_,
      fun r hmode hdom hprobe hhib hidle => ?_, fun k r hhib hdom hrun hstep => ?_, fun k r hhib hdom hrun hstep => ?_,
      fun k r hrun => ?_, fun k hk hen hact hrole hstate hv => ?_, fun k hstate => ?_, fun k hk hen hact hrole hstate hv => ?_,
      fun k hstate => ?_, fun p n r hprobe hns hc hwarden => ?_, fun hprobe => ?_, fun hper hsince hretry hprobe hmode hwarden hstrs => ?_,
      fun hper => ?_⟩
    · obtain ⟨x, hx⟩ : ∃ x : State, x = { s with gauge := { s.gauge with
          cycleAt := some s.ext
          sinceProbe := s.gauge.sinceProbe + 1
          probeRetry := s.gauge.probeRetry - 1 } } := ⟨_, rfl⟩
      obtain ⟨⟨v, hv⟩, hconv⟩ := State.each_convs (s := x) (fun _ c => { c with cycleRaw := c.tideRaw, cycleClk := c.tideClk })
        (upto 32) (nodup_upto 32)
      have hrole' : x.role = 2 := by rw [hx]; exact hrole
      refine ⟨x.pairRaws, next_congr ((if_pos ⟨hact, hwarden, hdom, hclk, hext, hat⟩).trans ?_), ?_, ?_, fun k hk => ?_, ?_⟩
      · rw [← hx]
        exact if_pos hrole'
      · rw [State.pairRaws, hv, hx]
      · rw [State.pairRaws, hv, hx]
      · refine (hconv k).trans ((if_pos (mem_upto.mpr hk)).trans ?_)
        rw [hx]
        rfl
      · rw [State.pairRaws, hv, hx]
        intro p hp
        cases p <;> first | rfl | exact absurd hp (by decide)
    · obtain ⟨x, hx⟩ : ∃ x : State, x = { s with gauge := { s.gauge with
          cycleAt := some s.ext
          sinceProbe := s.gauge.sinceProbe + 1
          probeRetry := s.gauge.probeRetry - 1 } } := ⟨_, rfl⟩
      obtain ⟨z, hz⟩ : ∃ z, z = s.enabledStrings.foldl State.cycleString x := ⟨_, rfl⟩
      obtain ⟨y, hy⟩ : ∃ y, y = z.enabledShunts.foldl State.cycleShunt z := ⟨_, rfl⟩
      have hzx : Foot 0x73DDBFE9 x z := hz ▸ (.each .same fun _ _ h => (State.cycleString_foot _ _).after h :
        Foot 0x73DDBFE9 x (x.each s.enabledStrings State.cycleString))
      have hyz : Foot 0x80000 z y := hy ▸ (.each .same fun _ _ h => (State.cycleShunt_foot _ _).after h :
        Foot 0x80000 z (z.each z.enabledShunts State.cycleShunt))
      have hext' : y.ext = s.ext := by
        rw [State.ext, show y.clocks = z.clocks from hyz.keeps .clocks, show z.clocks = x.clocks from hzx.keeps .clocks, hx]
        rfl
      have hrole' : ¬x.role = 2 := by rw [hx]; exact hrole
      refine ⟨x, y, z, next_congr ((if_pos ⟨hact, hwarden, hdom, hclk, hext, hat⟩).trans ?_), hz, hy, ?_, ?_, ?_, ?_, ?_⟩
      · rw [← hx]
        refine (if_neg hrole').trans ?_
        have hz' : x.each x.enabledStrings State.cycleString = z := by
          rw [hz, hx]
          rfl
        have hy' : z.each z.enabledShunts State.cycleShunt = y := hy.symm
        dsimp only
        rw [hz', hy', show State.ext { y with gauge := { y.gauge with dip := false } } = s.ext from hext']
      · rw [hx]
      · rw [hx]
      · rw [hx]
      · rw [hx]
      · rw [hx]
        intro p hp
        cases p <;> first | rfl | exact absurd hp (by decide)
    · exact next_congr (if_neg fun h => hoff.elim (fun h' => h' h.2.2.2.2.1) fun h' => h.2.2.2.2.2 h')
    · obtain ⟨⟨v, hv⟩, hconv⟩ := (s.rtcRuns r).hibernate_convs (decide (s.mode = .gaugeWatch)) (upto 32) (nodup_upto 32)
      obtain ⟨t, ht⟩ : ∃ t : State, t = { s.rtcRuns r with
          gauge := { s.gauge with
            hib := true
            hibFrom := max s.retained.rtcNs (r % 2 ^ 64)
            conv := v
            strings := Tab.mapVals {} (fun _ => BString.hibernated) s.gauge.strings } } := ⟨_, rfl⟩
      refine ⟨t, next_congr ((if_pos ⟨hmode, hdom, hprobe, hhib, hidle⟩).trans ?_), by rw [ht], by rw [ht], by rw [ht]; rfl,
        fun k hk => ?_, fun k hk => ?_, ?_⟩
      · dsimp only
        refine (congrArg (fun z : State => { z with
          gauge := { z.gauge with
            hib := true
            hibFrom := max s.retained.rtcNs (r % 2 ^ 64)
            strings := Tab.mapVals {} (fun _ => BString.hibernated) z.gauge.strings } }) hv).trans ?_
        rw [ht]
        rfl
      · rw [hv] at hconv
        rw [ht]
        exact (congrArg Conv.hib ((hconv k).trans (if_pos (mem_upto.mpr hk)))).trans rfl
      · have hat : t.stringAt k = (s.stringAt k).hibernated := by
          rw [ht]
          exact Tab.get_mapVals {} (fun _ => BString.hibernated) s.gauge.strings k rfl
        have hstate : (s.stringAt k).state = 2 ∨ (s.stringAt k).state = 3 := by simpa using hk
        rw [hat, BString.hibernated, if_pos hstate]
        exact ⟨rfl, rfl⟩
      · rw [ht]
        intro p hp
        cases p <;> first | rfl | exact absurd hp (by decide)
    · obtain ⟨y, hy⟩ : ∃ y : State, y = { s.rtcRuns r with gauge := { s.gauge with idleFrom := max s.retained.rtcNs (r % 2 ^ 64) } } :=
        ⟨_, rfl⟩
      have hhib' : y.gauge.hib = true := by rw [hy]; exact hhib
      obtain ⟨hoff, hconv, hstring⟩ := State.wakeGauge_spec (max s.retained.rtcNs (r % 2 ^ 64)) 1600 hhib'
      refine ⟨y.wakeGauge (max s.retained.rtcNs (r % 2 ^ 64)) 1600, next_congr ((if_pos ⟨hdom, hrun, hstep⟩).trans ?_), hoff,
        fun j hj => hstring j ?_, hconv, ?_⟩
      · rw [hy]
        exact ite_congr (propext (and_iff_right hhib)) (fun _ => rfl) fun _ => rfl
      · rw [hy]
        exact hj
      · refine Only.trans (t := y) ?_ ((State.wakeGauge_foot _ _ _).onlyIn _)
        rw [hy]
        intro p hp
        cases p <;> first | rfl | exact absurd hp (by decide)
    · obtain ⟨y, hy⟩ : ∃ y : State, y = { s.rtcRuns r with gauge := { s.gauge with idleFrom := max s.retained.rtcNs (r % 2 ^ 64) } } :=
        ⟨_, rfl⟩
      refine ⟨y, next_congr ((if_pos ⟨hdom, hrun, hstep⟩).trans ?_), by rw [hy], by rw [hy]; rfl, ?_⟩
      · have hkeep : y.wakeGauge (max s.retained.rtcNs (r % 2 ^ 64)) 1600 = y := by
          rw [hy]
          exact if_neg (by rw [show _ = s.gauge.hib from rfl, hhib]; exact Bool.false_ne_true)
        refine (if_neg fun h => by rw [hhib] at h; exact Bool.noConfusion h.1).trans ?_
        exact (congrArg (fun z : State => z.wakeGauge (max s.retained.rtcNs (r % 2 ^ 64)) 1600) hy.symm).trans hkeep
      · rw [hy]
        intro p hp
        cases p <;> first | rfl | exact absurd hp (by decide)
    · exact next_congr (if_neg fun h => by rw [hrun] at h; exact Bool.noConfusion h.2.1)
    · obtain ⟨reason, hreason⟩ := (s.setString k fun b => { b with insertPending := true }).dropFromProbe_string k
      refine ⟨_, next_congr (if_pos ⟨hk, hen, hact, hrole, hstate, hv⟩), ?_, fun j hj => ?_, ?_⟩
      · rw [hreason, State.stringAt_setString, if_pos rfl]
      · rw [State.dropFromProbe_other _ hj, State.stringAt_setString, if_neg hj]
      · exact Only.trans ((State.setString_foot s k _).onlyIn _) ((State.dropFromProbe_foot _ _).onlyIn _)
    · exact next_congr (if_neg fun h => hstate h.2.2.2.2.1)
    · obtain ⟨x, hx⟩ : ∃ x, x = s.dropFromProbe k := ⟨_, rfl⟩
      obtain ⟨reason, hreason⟩ := s.dropFromProbe_string k
      rw [← hx] at hreason
      have hat : ((x.removeString k).record 0x0C 4 [byte k]).stringAt k = (x.removeString k).stringAt k := rfl
      have hlog : x.log = s.log := hx ▸ (State.dropFromProbe_foot _ _).keeps .log
      refine ⟨(x.removeString k).record 0x0C 4 [byte k],
        next_congr ((if_pos ⟨hk, hen, hact, hrole, hstate, hv⟩).trans (by rw [hx])), ?_, ?_, ?_, ?_, fun j hj => ?_, ?_⟩
      · show (x.log.offers ++ [_]).length = _
        rw [hlog, List.length_append]
        rfl
      · rw [hat, State.removeString, State.stringAt_setString, if_pos rfl]
      · rw [hat, State.removeString, State.stringAt_setString, if_pos rfl, hreason]
      · rw [hat, State.removeString, State.stringAt_setString, if_pos rfl, hreason]
      · show (x.removeString k).stringAt j = _
        rw [State.removeString, State.stringAt_setString, if_neg hj, hx, State.dropFromProbe_other _ hj]
      · refine Only.trans (t := x) (hx ▸ (State.dropFromProbe_foot _ _).onlyIn _) ?_
        exact Only.trans ((State.removeString_foot _ _).onlyIn _) ((State.record_foot _ _ _ _).onlyIn _)
    · exact next_congr (if_neg fun h => h.2.2.2.2.1 hstate)
    · obtain ⟨l, hl⟩ : ∃ l, l = p.members.filter fun k => !bit p.dropped k := ⟨_, rfl⟩
      obtain ⟨y, hy⟩ : ∃ y, y = (s.each l fun s k => s.probePoint p k n).used := ⟨_, rfl⟩
      have hmembers : p.members.Nodup := (nodup_upto 32).filter _
      obtain ⟨hpoint, -⟩ := State.probePoints_strings p n l (hl ▸ hmembers.filter _) s
      have hys : Only [.gauge, .log, .freeCount] s y := by
        rw [hy]
        exact Only.trans ((.each .same fun _ _ h => (State.probePoint_foot _ _ _ _).after h :
          Foot 0x80100 s (s.each l fun s k => s.probePoint p k n)).onlyIn _) ((State.used_foot _).onlyIn _)
      have hyat : ∀ k, k < 32 → p.strings.testBit k = true → p.dropped.testBit k = false → ∃ pt : ProbePoint, pt.n = n ∧
          y.stringAt k = { s.stringAt k with probePoints := (s.stringAt k).probePoints ++ [pt] } := by
        intro k hk hbit hdrop
        rw [hy]
        exact hpoint k (hl ▸ List.mem_filter.mpr ⟨Probe.mem_members.mpr ⟨hk, hbit⟩, by rw [show bit p.dropped k = false from hdrop]; rfl⟩)
      have hrun : ∀ t, (if r.isEmpty then
            let z := y.each p.members fun s k => s.probeDone p k
            { z with gauge := { z.gauge with probe := none, idleFrom := z.retained.rtcNs, sinceProbe := 0 }, tide := { z.tide with probe := 0 } }
          else
            { y with gauge := { y.gauge with
                probe := some { p with ns := r, c := p.c - (p.cycles + 1) * n, lastMean := [], sum := [], now := [], periods := [] } } }) = t →
          exec .probeFrequencyEnd s = .next t := by
        intro t ht
        refine next_congr ?_
        rw [hprobe]
        dsimp only
        rw [hns]
        dsimp only
        rw [if_pos ⟨hc, hwarden⟩, ← hl, ← hy]
        exact ht
      cases r with
      | nil =>
        obtain ⟨hdone, -⟩ := State.probesDone_strings p p.members hmembers y
        have hzy : Only [.gauge] y (y.each p.members fun s k => s.probeDone p k) :=
          (.each .same fun _ _ h => (State.probeDone_foot _ _ _).after h :
            Foot 0x80000 y (y.each p.members fun s k => s.probeDone p k)).onlyIn _
        obtain ⟨z, hz⟩ : ∃ z, z = y.each p.members fun s k => s.probeDone p k := ⟨_, rfl⟩
        rw [← hz] at hdone hzy
        refine ⟨{ z with
            gauge := { z.gauge with probe := none, idleFrom := z.retained.rtcNs, sinceProbe := 0 }
            tide := { z.tide with probe := 0 } }, hrun _ (by rw [hz]; rfl), fun k hk hbit hdrop => ?_, fun _ => ⟨rfl, rfl⟩,
          fun h => absurd rfl h, ?_⟩
        · obtain ⟨pt, hpt, hat⟩ := hyat k hk hbit hdrop
          obtain ⟨hpoints, hstate⟩ := hdone k (Probe.mem_members.mpr ⟨hk, hbit⟩)
          refine ⟨pt, hpt, hpoints.trans (by rw [hat]), hstate.trans ?_⟩
          rw [show bit p.dropped k = false from hdrop]
          rfl
        · refine Only.trans (hys.mono (by decide)) (Only.trans (hzy.mono (by decide)) fun q hq => ?_)
          cases q <;> first | rfl | exact absurd hq (by decide)
      | cons m r =>
        refine ⟨{ y with gauge := { y.gauge with
            probe := some { p with ns := m :: r, c := p.c - (p.cycles + 1) * n, lastMean := [], sum := [], now := [], periods := [] } } },
          hrun _ rfl, fun k hk hbit hdrop => ?_, fun h => absurd h (List.cons_ne_nil _ _), fun _ => ⟨_, rfl, rfl, rfl⟩, ?_⟩
        · obtain ⟨pt, hpt, hat⟩ := hyat k hk hbit hdrop
          refine ⟨pt, hpt, ?_, ?_⟩
          · exact (congrArg BString.probePoints hat).trans rfl
          · exact (congrArg BString.probeState hat).trans (if_neg (List.cons_ne_nil _ _)).symm
        · refine Only.trans (hys.mono (by decide)) fun q hq => ?_
          cases q <;> first | rfl | exact absurd hq (by decide)
    · exact next_congr (by rw [hprobe])
    · obtain ⟨p, hp, hstrings, hampl, hcycles, hns, -, hauto⟩ :=
        s.startProbe_probe (listMap s.enabledStrings) s.strProbeAmpl 3 [100, 200, 500, 1000, 2000, 5000, 10000] true
      exact ⟨_, p, next_congr (if_pos ⟨hper, hsince, hretry, hprobe, hmode, hwarden, hstrs⟩), hp, hstrings, hcycles, hampl, hns, hauto,
        (State.startProbe_foot _ _ _ _ _ _).onlyIn _⟩
    · exact next_congr (if_neg fun h => h.1 hper)

end Sys2Proof
end

section
/-! PROOFS. Laws of forcing off: what it leaves of locked-out channels and of the logbook, and who holds the gate token
after a yield (R193, R254, R392). -/
set_option Elab.async false
namespace Sys2Proof.Machine

/-- `t` is `s` with records offered and locked-out channels kept. -/
structure State.Forces (s t : State) : Prop where
  offers : ∃ l, t.log = { s.log with offers := s.log.offers ++ l }
  locked : ∀ c, (s.chanAt c).state = .lockedOut → (t.chanAt c).state = .lockedOut

theorem State.Forces.refl (s : State) : s.Forces s := ⟨⟨[], by rw [List.append_nil]⟩, fun _ h => h⟩

theorem State.Forces.trans {s t u : State} (h : s.Forces t) (h' : t.Forces u) : s.Forces u := by
  obtain ⟨⟨l, hl⟩, hlocked⟩ := h
  obtain ⟨⟨m, hm⟩, hlocked'⟩ := h'
  exact ⟨⟨l ++ m, by rw [hm, hl, List.append_assoc]⟩, fun c hc => hlocked' c (hlocked c hc)⟩

theorem State.Forces.each {s t : State} (h : s.Forces t) (l : List Nat) {f : State → Nat → State}
    (hf : ∀ (x : State) (k : Nat), x.Forces (f x k)) : s.Forces (t.each l f) := by
  induction l generalizing t with
  | nil => exact h
  | cons k l ih => exact ih (h.trans (hf t k))

/-- A change of neither the logbook nor the channels. -/
theorem State.Forces.of_eq {s t : State} (hlog : t.log = s.log) (hchan : t.chan = s.chan) : s.Forces t :=
  ⟨⟨[], by rw [hlog, List.append_nil]⟩, fun c hc => by rw [State.chanAt, hchan]; exact hc⟩

theorem State.Forces.setOut {s t : State} (h : s.Forces t) (k : Nat) (f : Out → Out) : s.Forces (t.setOut k f) :=
  h.trans (.of_eq rfl rfl)

theorem State.Forces.record {s t : State} (h : s.Forces t) (cls event : Nat) (items : Bytes) : s.Forces (t.record cls event items) :=
  h.trans ⟨⟨_, rfl⟩, fun _ hc => hc⟩

theorem State.Forces.setChan {s t : State} (h : s.Forces t) (c : Nat) {f : Chan → Chan}
    (hf : ∀ x, x.state = .lockedOut → (f x).state = .lockedOut) : s.Forces (t.setChan c f) := by
  refine h.trans ⟨⟨[], by rw [List.append_nil]; rfl⟩, fun j hj => ?_⟩
  rw [State.chanAt_setChan]
  split
  · next heq => exact hf _ (heq ▸ hj)
  · exact hj

theorem Chan.lowUnlessLocked_locked {st : ChState} {c : Chan} (h : c.state = .lockedOut) : (c.lowUnlessLocked st).state = .lockedOut := by
  rw [Chan.lowUnlessLocked, if_pos h]
  rfl

theorem State.Forces.lowPhase {s t : State} (h : s.Forces t) (k : Nat) (st : ChState) (c : Nat) : s.Forces (t.lowPhase k st c) := by
  unfold State.lowPhase State.setTrip
  exact (h.setChan c fun _ => Chan.lowUnlessLocked_locked).setChan c fun _ hx => hx

theorem State.Forces.lowOutput {s t : State} (h : s.Forces t) (k : Nat) (st : ChState) : s.Forces (t.lowOutput k st) :=
  h.each _ fun x c => (State.Forces.refl x).lowPhase k st c

theorem State.Forces.forceOut {s t : State} (h : s.Forces t) (k state cause : Nat) (record : Bool) :
    s.Forces (t.forceOut k state cause record) := by
  unfold State.forceOut
  dsimp only
  split
  · exact ((h.lowOutput k _).setOut k _).record _ _ _
  · exact (h.lowOutput k _).setOut k _

theorem State.Forces.endRamp {s t : State} (h : s.Forces t) (k : Nat) : s.Forces (t.endRamp k) := (h.lowOutput k _).setOut k _

theorem State.Forces.forceDependant {s t : State} (h : s.Forces t) (j : Nat) : s.Forces (t.forceDependant j) := by
  unfold State.forceDependant
  dsimp only
  split
  · exact h.forceOut _ _ _ _
  · split
    · exact h.setOut _ _
    · split
      · exact h.endRamp _
      · split
        · exact h.setOut _ _
        · exact h

theorem State.Forces.failOut {s t : State} (h : s.Forces t) (k cause : Nat) (record : Bool) : s.Forces (t.failOut k cause record) :=
  (h.forceOut k 4 cause record).each _ fun x j => (State.Forces.refl x).forceDependant j

theorem State.Forces.phaseForced {s t : State} (h : s.Forces t) (k : Nat) : s.Forces (t.phaseForced k) := by
  unfold State.phaseForced
  split
  · exact h.failOut _ _ _
  · split
    · exact h.endRamp _
    · exact h.lowOutput _ _

theorem State.Forces.quadrantOff {s t : State} (h : s.Forces t) (q : Nat) : s.Forces (t.quadrantOff q) := by
  unfold State.quadrantOff
  split
  · refine State.Forces.each (State.Forces.each h _ fun x k => ?_) _ fun x c =>
      (State.Forces.refl x).setChan c fun _ => Chan.lowUnlessLocked_locked
    split
    · exact (State.Forces.refl x).failOut _ _ _
    · exact .refl x
  · exact h

/-- Every channel of the chip low. -/
theorem State.lowAll_chans (s : State) (st : ChState) (k : Nat) (hk : k < 128) :
    (s.lowAll st).chanAt k = (s.chanAt k).lowUnlessLocked st := by
  have h := State.each_items State.chanAt (fun t c => t.setChan c (Chan.lowUnlessLocked st)) (fun _ => True)
    (fun _ => Chan.lowUnlessLocked st) (fun t n _ => ⟨trivial, fun j => State.chanAt_setChan t n _ j⟩) (upto 128)
    (by rw [upto_eq_range]; exact List.nodup_range) (s := s) trivial
  exact (h.2 k).trans (if_pos (mem_upto.mpr hk))

theorem Chan.lowUnlessLocked_low (st : ChState) (c : Chan) : (c.lowUnlessLocked st).drive = .off ∧ (c.lowUnlessLocked st).pen = false ∧
    ((c.lowUnlessLocked st).state = st ∨ (c.lowUnlessLocked st).state = .lockedOut) := by
  unfold Chan.lowUnlessLocked
  split
  · exact ⟨rfl, rfl, .inr rfl⟩
  · exact ⟨rfl, rfl, .inl rfl⟩

/-! ### Who holds the gate token -/

theorem State.respond_own (s : State) (n : Nat) (st : Status) (payload : Bytes) (epoch : Nat) :
    (s.respond n st payload epoch).sluice.own = s.sluice.own := by
  unfold State.respond
  split
  · rfl
  · exact congrArg (·.own) ((State.deliver_foot _ _ _ _ _).keeps .sluice)

theorem State.finishAll_own (s : State) (p : Waiting → Bool) (st : Status) : (s.finishAll p st).sluice.own = s.sluice.own := by
  unfold State.finishAll
  generalize s.waiting.filter p = l
  induction l generalizing s with
  | nil => rfl
  | cons w l ih => exact (ih _).trans (State.respond_own _ _ _ _ _)

theorem State.abandonCommit_own (s : State) (st : Status) : (s.abandonCommit st).sluice.own = s.sluice.own := by
  unfold State.abandonCommit
  split
  · exact State.finishAll_own _ _ _
  · rfl

theorem State.releaseHalts_own (s : State) : s.releaseHalts.sluice.own = s.sluice.own := by
  have hfold : ∀ (l : List HeldReply) (t : State),
      (l.foldl (fun s h => s.deliver h.mailbox (Status.ofCode h.status) h.payload h.epoch) t).sluice.own = t.sluice.own := by
    intro l
    induction l with
    | nil => exact fun _ => rfl
    | cons h l ih => exact fun t => (ih _).trans (congrArg (·.own) ((State.deliver_foot _ _ _ _ _).keeps .sluice))
  unfold State.releaseHalts State.flushReplies
  exact hfold _ _

theorem State.enterMode_own (s : State) (m : Mode) : (s.enterMode m).sluice.own = s.sluice.own := by
  obtain ⟨x, hx⟩ : ∃ x, x = ((s.abortIdents 0x08).endProbe 0x03).wakeGauge s.retained.rtcNs 0 := ⟨_, rfl⟩
  have hxs : x.sluice = s.sluice := hx ▸ (((State.wakeGauge_foot _ _ _).keeps .sluice).trans
    (((State.endProbe_foot _ _).keeps .sluice).trans ((State.abortIdents_foot _ _).keeps .sluice)))
  obtain ⟨y, hy, hyx⟩ : ∃ y, y = (if minorChange s.mode m then x
      else (x.abandonCommit (if modesEdit.contains m then .busy else .wrongMode)).closeEdit) ∧ y.sluice.own = x.sluice.own := by
    refine ⟨_, rfl, ?_⟩
    split
    · rfl
    · exact (congrArg (·.own) ((State.closeEdit_foot _).keeps .sluice)).trans (State.abandonCommit_own _ _)
  unfold State.enterMode
  dsimp only
  rw [← hx, ← hy]
  refine Eq.trans ?_ (hyx.trans (congrArg (·.own) hxs))
  split
  · exact State.releaseHalts_own y
  · rfl

/-- Entering Shadow leaves a token that is not held. -/
theorem State.setMode_shadow_own (s : State) (trigger source : Nat) (h : s.sluice.own = false) :
    (s.setMode .shadow trigger source).sluice.own = false := by
  obtain ⟨x, hx, hxs⟩ : ∃ x, x = (if trigger = 0 then s else s.overtakeModeSet) ∧ x.sluice.own = false := by
    refine ⟨_, rfl, ?_⟩
    split
    · exact h
    · show ((s.finishAll _ .wrongMode).sluice.own && _) = false
      rw [State.finishAll_own, h, Bool.false_and]
  have henter := (x.enterMode_own .shadow).trans hxs
  unfold State.setMode
  dsimp only
  rw [← hx]
  unfold State.onEntry
  dsimp only
  split <;> exact henter

theorem State.dropToken_own (s : State) : s.dropToken.sluice.own = false := by
  unfold State.dropToken
  split
  · refine (congrArg (·.own) ((State.lowAll_foot _ _).keeps .sluice)).trans ?_
    exact congrArg (·.own) ((.each .same fun _ _ h => (State.setOut_foot _ _ _).after ((State.lowOutput_foot _ _ _).after h) :
      Foot 0xC00 _ _).keeps .sluice)
  · next h => exact Bool.eq_false_iff.mpr h

/-- A yield gives the token away (R407). -/
theorem State.yield_own (s : State) (cause noApply : Nat) : (s.yield cause noApply).sluice.own = false := by
  have hpass : ((s.abandonCommit .busy).passToken cause noApply).sluice.own = false := State.dropToken_own _
  unfold State.yield
  dsimp only
  split
  · exact State.setMode_shadow_own _ _ _ hpass
  · exact (congrArg (·.own) (((State.triggerIgnored_foot _ _).keeps .sluice).trans (((State.endProbe_foot _ _).keeps .sluice).trans
      ((State.abortIdents_foot _ _).keeps .sluice)))).trans hpass

end Sys2Proof.Machine
end

section
/-! PROOFS. The sluice orders, the claim of the gate token, takeover and token conflict (R392 to R419). -/
set_option Elab.async false
namespace Sys2Proof.Machine

theorem and_halves (a b : Nat) : (a &&& b) / 2 = a / 2 &&& b / 2 ∧ (a &&& b) % 2 = (a % 2) * (b % 2) := by
  refine ⟨Nat.and_div_two, ?_⟩
  have h := Nat.and_mod_two_pow (a := a) (b := b) (n := 1)
  rw [Nat.pow_one] at h
  rw [h]
  rcases Nat.mod_two_eq_zero_or_one a with ha | ha <;> rcases Nat.mod_two_eq_zero_or_one b with hb | hb <;> rw [ha, hb] <;> rfl

/-- Bits taken out of a map: the lowest bit, and the others. -/
theorem sub_and_halves (a b : Nat) : (a - (a &&& b)) % 2 = (a % 2) * (1 - b % 2) ∧
    (a - (a &&& b)) / 2 = a / 2 - (a / 2 &&& b / 2) := by
  have hle : a / 2 &&& b / 2 ≤ a / 2 := Nat.and_le_left
  obtain ⟨hdiv, hmod⟩ := and_halves a b
  generalize a / 2 &&& b / 2 = d at *
  generalize a &&& b = c at *
  rcases Nat.mod_two_eq_zero_or_one a with ha | ha <;> rcases Nat.mod_two_eq_zero_or_one b with hb | hb <;>
    rw [ha, hb] at hmod <;> rw [ha, hb] <;> omega

/-- Bits taken out of a map. -/
theorem testBit_sub_and (a b i : Nat) : (a - (a &&& b)).testBit i = (a.testBit i && !b.testBit i) := by
  induction i generalizing a b with
  | zero =>
    simp only [Nat.testBit_zero, (sub_and_halves a b).1]
    rcases Nat.mod_two_eq_zero_or_one a with ha | ha <;> rcases Nat.mod_two_eq_zero_or_one b with hb | hb <;> rw [ha, hb] <;> rfl
  | succ i ih => rw [Nat.testBit_succ, (sub_and_halves a b).2, ih, ← Nat.testBit_succ, ← Nat.testBit_succ]

/-- The channels that a claim makes the controller's own. -/
theorem State.ownChannels_owned (s : State) (k : Nat) (hk : k < 128) : (s.ownChannels.chanAt k).state ≠ .notOwned := by
  have h := State.each_items State.chanAt
    (fun t k => t.setChan k fun c => if c.state = .notOwned then { c with state := .off } else c) (fun _ => True)
    (fun _ c => if c.state = .notOwned then { c with state := .off } else c)
    (fun t n _ => ⟨trivial, fun j => State.chanAt_setChan t n _ j⟩) (upto 128)
    (by rw [upto_eq_range]; exact List.nodup_range) (s := s) trivial
  have hat := (h.2 k).trans (if_pos (mem_upto.mpr hk))
  rw [State.ownChannels, hat]
  split
  · exact fun hno => nomatch hno
  · next hno => exact hno

theorem State.takeOutput_leaving (s : State) (k j : Nat) : ((s.takeOutput k).outAt j).leaving = (s.outAt j).leaving := by
  unfold State.takeOutput
  dsimp only
  rw [State.outAt_setOut]
  split
  · next hj =>
    rw [hj]
    split
    · rfl
    · split <;> rfl
    all_goals rfl
  · rfl

theorem State.takeOutputs_leaving (l : List Nat) (s : State) (j : Nat) :
    ((s.each l State.takeOutput).outAt j).leaving = (s.outAt j).leaving := by
  induction l generalizing s with
  | nil => rfl
  | cons k l ih => exact (ih _).trans (s.takeOutput_leaving k j)

/-- Which output a channel belongs to depends on the description and on the outputs that are leaving. -/
theorem State.outputOf_congr {s t : State} (hdesc : t.desc = s.desc) (hleave : ∀ j, (t.outAt j).leaving = (s.outAt j).leaving)
    (k : Nat) : t.outputOf k = s.outputOf k := by
  have houts : t.enabledOuts = s.enabledOuts := by
    unfold State.enabledOuts State.outEnable State.field
    rw [hdesc]
    simp only [hleave]
  unfold State.outputOf State.outFirstChannel State.outPhases State.field
  rw [houts, hdesc]

/-- A channel that belongs to no output and was locked out by the old active. -/
theorem State.takeChannels_locked (s : State) {k : Nat} (hk : k < 128) (hmir : (s.chanAt k).mirState = 5) (hout : s.outputOf k = none) :
    ((s.each (upto 128) State.takeChannel).chanAt k).state = .lockedOut := by
  have hfold : ∀ (l : List Nat) (t : State), t.outputOf k = none → ((t.chanAt k).mirState = 5) →
      ((t.chanAt k).state = .lockedOut ∨ k ∈ l) → ((t.each l State.takeChannel).chanAt k).state = .lockedOut := by
    intro l
    induction l with
    | nil => exact fun t _ _ h => h.resolve_right List.not_mem_nil
    | cons c l ih =>
      intro t hnone h5 h
      have hnone' : (t.takeChannel c).outputOf k = none := (State.outputOf_congr rfl (fun _ => rfl) k).trans hnone
      by_cases hc : k = c
      · have hat : (t.takeChannel c).chanAt k = (t.chanAt k).low .lockedOut := by
          unfold State.takeChannel
          rw [State.chanAt_setChan, if_pos hc, ← hc, hnone, h5]
          rfl
        exact ih _ hnone' (by rw [hat]; exact h5) (.inl (by rw [hat]; rfl))
      · have hat : (t.takeChannel c).chanAt k = t.chanAt k := by
          unfold State.takeChannel
          rw [State.chanAt_setChan, if_neg hc]
        refine ih _ hnone' (by rw [hat]; exact h5) ?_
        rw [hat]
        exact h.imp_right fun hmem => (List.mem_cons.mp hmem).resolve_left hc
  exact hfold _ s hout hmir (.inr (mem_upto.mpr hk))

/-- The standby takes over: the state before it enters Run (R408 to R411). -/
theorem State.takeOver_spec (s : State) : ∃ x : State, s.takeOver = ((x.setMode .run 1 0xFFFF).irqGen).settle ∧ x.sluice.own = true ∧
    x.sluice.generation = (s.gSeen + 1) % 2 ^ 32 ∧ x.sluice.takeovers = (s.sluice.takeovers + 1) % 2 ^ 32 ∧
    x.sluice.handover = none ∧ s.log.offers.length + 2 ≤ x.log.offers.length ∧
    (∀ k, k < 128 → (s.chanAt k).mirState = 5 → s.outputOf k = none → (x.chanAt k).state = .lockedOut) ∧
    Only [.power, .sluice, .chan, .out, .log] s x := by
  obtain ⟨cause, hcause⟩ : ∃ c, c = (match s.sluice.handover with | some h => h.1 | none => 0) := ⟨_, rfl⟩
  obtain ⟨unaligned, hunal⟩ : ∃ u, u = (s.sluice.handover.isNone && !s.mirrorFresh) := ⟨_, rfl⟩
  obtain ⟨a, ha⟩ : ∃ a, a = s.each s.enabledOuts State.takeOutput := ⟨_, rfl⟩
  obtain ⟨b, hb⟩ : ∃ b : State, b = { a with sluice := { a.sluice with own := true, dropped := false } } := ⟨_, rfl⟩
  obtain ⟨c, hc⟩ : ∃ c, c = b.each (upto 128) State.takeChannel := ⟨_, rfl⟩
  obtain ⟨d, hd⟩ : ∃ d, d = c.each ((upto 4).filter c.quadrantHeld) State.quadrantOff := ⟨_, rfl⟩
  obtain ⟨e, he⟩ : ∃ e, e = d.each (d.enabledOuts.filter fun k =>
    (d.outAt k).live && (d.phases k).any fun c => decide ((d.chanAt c).state = .forcedOff)) State.phaseForced := ⟨_, rfl⟩
  obtain ⟨f, hf⟩ : ∃ f, f = (e.takeGeneration 1).record 0x11 2
    ([byte cause, byte (b2n unaligned)] ++ leBytes 2 s.sluice.mirrorAge ++ leBytes 4 (e.takeGeneration 1).sluice.generation) := ⟨_, rfl⟩
  obtain ⟨g, hg⟩ : ∃ g : State, g = { f with sluice := { f.sluice with
    handover := none, takeovers := (f.sluice.takeovers + 1) % 2 ^ 32, lastCause := cause, handoverEpoch := f.clocks.epoch
    cmpState := 0, doubted := 0, referred := 0, testing := 0, tookOver := true } } := ⟨_, rfl⟩
  obtain ⟨i, hi⟩ : ∃ i, i = g.each (upto 128) fun s k => s.setChan k fun c => { c with runCounter := 0 } := ⟨_, rfl⟩
  have hover : s.takeOver = ((({ i with power := { i.power with serviceSession := 0 } } : State).setMode .run 1 0xFFFF).irqGen).settle := by
    subst hi hg hf he hd hc hb ha hunal hcause
    rfl
  have hfa : Foot 0x800 s a := ha ▸ .each .same fun _ _ h => (State.takeOutput_foot _ _).after h
  have hfc : Foot 0x400 b c := hc ▸ .each .same fun _ _ h => (State.takeChannel_foot _ _).after h
  have hfd : Foot 0xD00 c d := hd ▸ .each .same fun _ _ h => (State.quadrantOff_foot _ _).after h
  have hfe : Foot 0xD00 d e := he ▸ .each .same fun _ _ h => (State.phaseForced_foot _ _).after h
  have hff : Foot 0x100100 e f := hf ▸ (State.record_foot _ _ _ _).after ((State.takeGeneration_foot _ _).after .same)
  have hfi : Foot 0x400 g i := hi ▸ .each .same fun _ _ h => (State.setChan_foot _ _ _).after h
  have hforces : c.Forces e := by
    rw [he, hd]
    exact ((State.Forces.refl c).each _ fun x q => (State.Forces.refl x).quadrantOff q).each _ fun x k => (State.Forces.refl x).phaseForced k
  obtain ⟨⟨l, hl⟩, hlocked⟩ := hforces
  have hlog : c.log = s.log := (hfc.keeps .log).trans (hb ▸ hfa.keeps .log)
  have hsluice : e.sluice = { s.sluice with own := true, dropped := false } := by
    rw [show e.sluice = d.sluice from hfe.keeps .sluice, show d.sluice = c.sluice from hfd.keeps .sluice,
      show c.sluice = b.sluice from hfc.keeps .sluice, hb, show a.sluice = s.sluice from hfa.keeps .sluice]
  have hseen : e.gSeen = s.gSeen := by
    unfold State.gSeen Logbook.lastGeneration
    rw [hsluice, hl, hlog]
  have hfs : f.sluice = (e.takeGeneration 1).sluice := by rw [hf]; rfl
  have hgen : (e.takeGeneration 1).sluice = { e.sluice with
      generation := (e.gSeen + 1) % 2 ^ 32, genSeen := (e.gSeen + 1) % 2 ^ 32, macStopped := false, overlap := false
      oldOrders := [], genHeld := false } := rfl
  have his : i.sluice = g.sluice := hfi.keeps .sluice
  refine ⟨{ i with power := { i.power with serviceSession := 0 } }, hover, ?_, ?_, ?_, ?_, ?_, fun k hk hmir hout => ?_, ?_⟩
  · show i.sluice.own = true
    rw [his, hg, hfs, hgen, hsluice]
  · show i.sluice.generation = _
    rw [his, hg, hfs, hgen, hseen]
  · show i.sluice.takeovers = _
    rw [his, hg, hfs, hgen, hsluice]
  · show i.sluice.handover = none
    rw [his, hg]
  · show s.log.offers.length + 2 ≤ i.log.offers.length
    obtain ⟨o, o', hoffers⟩ : ∃ o o', f.log.offers = (e.log.offers ++ [o]) ++ [o'] := by
      rw [hf]
      exact ⟨_, _, rfl⟩
    rw [show i.log = g.log from hfi.keeps .log, hg]
    show _ ≤ f.log.offers.length
    rw [hoffers, hl, hlog, List.length_append, List.length_append, List.length_append]
    simp only [List.length_cons, List.length_nil]
    omega
  · show (i.chanAt k).state = .lockedOut
    have hkeep : g.Forces i := by
      rw [hi]
      exact State.Forces.each (.refl g) (upto 128) fun x c => (State.Forces.refl x).setChan c fun _ h => h
    have hback : ∀ j, (e.chanAt j).state = .lockedOut → (i.chanAt j).state = .lockedOut := by
      intro j hj
      have hgj : (g.chanAt j).state = .lockedOut := by
        rw [State.chanAt, hg]
        show (Tab.get {} f.chan j).state = _
        rw [show f.chan = e.chan from hff.keeps .chan]
        exact hj
      exact hkeep.locked j hgj
    refine hback k (hlocked k ?_)
    rw [hc]
    refine State.takeChannels_locked b hk ?_ ?_
    · rw [State.chanAt, hb]
      show (Tab.get {} a.chan k).mirState = 5
      rw [show a.chan = s.chan from hfa.keeps .chan]
      exact hmir
    · refine (State.outputOf_congr (s := s) ?_ (fun j => ?_) k).trans hout
      · rw [hb]
        exact hfa.keeps .desc
      · rw [hb, ha]
        exact State.takeOutputs_leaving _ s j
  · refine Only.trans (hfa.onlyIn _) (Only.trans (t := b) ?_ (Only.trans (hfc.onlyIn _) (Only.trans (hfd.onlyIn _)
      (Only.trans (hfe.onlyIn _) (Only.trans (hff.onlyIn _) (Only.trans (t := g) ?_ (Only.trans (hfi.onlyIn _) ?_)))))))
    · rw [hb]
      intro p hp
      cases p <;> first | rfl | exact absurd hp (by decide)
    · rw [hg]
      intro p hp
      cases p <;> first | rfl | exact absurd hp (by decide)
    · intro p hp
      cases p <;> first | rfl | exact absurd hp (by decide)


/-- The gate token dropped: every channel low and no longer owned (R392). -/
theorem State.dropToken_spec {s : State} (h : s.sluice.own = true) :
    s.dropToken.sluice = { s.sluice with own := false, dropped := true } ∧
    (∀ k, k < 128 → (s.dropToken.chanAt k).drive = .off ∧ (s.dropToken.chanAt k).pen = false ∧
      ((s.dropToken.chanAt k).state = .notOwned ∨ (s.dropToken.chanAt k).state = .lockedOut)) ∧
    Only [.sluice, .chan, .out] s s.dropToken := by
  obtain ⟨y, hy⟩ : ∃ y : State, y = { s with sluice := { s.sluice with own := false, dropped := true } } := ⟨_, rfl⟩
  obtain ⟨x, hx⟩ : ∃ x, x = y.each (y.enabledOuts.filter fun k => decide ((y.outAt k).phase = .testing)) fun s k =>
      (s.lowOutput k .notOwned).setOut k fun o => { o with state := 1, phase := .waiting } := ⟨_, rfl⟩
  have hdrop : s.dropToken = x.lowAll .notOwned := by
    unfold State.dropToken
    rw [if_pos h, hx, hy]
  have hfoot : Foot 0xC00 y x := hx ▸ .each .same fun _ _ h => (State.setOut_foot _ _ _).after ((State.lowOutput_foot _ _ _).after h)
  refine ⟨?_, fun k hk => ?_, (State.dropToken_foot s).onlyIn _⟩
  · rw [hdrop, show (x.lowAll .notOwned).sluice = x.sluice from (State.lowAll_foot _ _).keeps .sluice,
      show x.sluice = y.sluice from hfoot.keeps .sluice, hy]
  · rw [hdrop, State.lowAll_chans _ _ _ hk]
    exact Chan.lowUnlessLocked_low _ _

end Sys2Proof.Machine

namespace Sys2Proof
open Machine

/-- Settles O35: each order's body on the state with its request taken, and each row of the claim and of the token from its
conditions. -/
theorem sluiceOrdersAndToken : Obligations.SluiceOrdersAndToken := by
  rintro s mb q rfl
  refine ⟨fun hstart hlay => ⟨?_, ?_, ?_⟩, fun hstart hlay htoken hfit => ?_, fun c n => State.yield_own s c n,
    fun hstart hlay htests hact => ?_, fun hstart hlay htests hact => ?_, fun hstart hlay hmax => ?_, fun hstart hlay hmax => ?_,
    fun t hclaim hown hdrop => ?_, fun t hclaim hdrop ht => ?_, fun t hclaim => ?_, fun hclaim => ?_, fun x hclaim hx => ?_,
    fun t hclaim ht => ?_, fun t hoff => ?_, fun hclaim => ?_, fun t hrole hfit hpress hdrop => ?_, fun t hrole => ?_,
    fun hown hclaim hfirm hrun => ?_, fun hown => State.dropToken_spec hown, fun hown hclaim hfirm hrun => ?_,
    fun hover hnone => ?_, fun hover => ?_⟩
  · exact State.runOrder_does hstart (if_neg (by simp [hlay]))
  · simp [State.sluiceStatus]
  · simp only [State.sluiceStatus, List.append_assoc]
    exact slice_mid [_, _, _, _] _ _ rfl (length_leBytes _ _)
  · have hfit' : s.taken.partnerFit = true := hfit
    have htoken' : s.taken.token = true := htoken
    exact State.runOrder_does hstart ((if_neg (by rw [htoken']; exact Bool.false_ne_true)).trans ((if_neg (by simp [hlay])).trans
      (if_neg (by rw [hfit']; exact Bool.false_ne_true))))
  · have htests' : s.taken.sluice.restoreTests = none := htests
    refine ⟨s.taken.fresh .unstated 0, (s.taken.used).withdraw, State.runOrder_does hstart ((if_neg ?_).trans ((if_neg ?_).trans
      (if_pos hact))), rfl, ?_⟩
    · rw [htests']
      exact Bool.false_ne_true
    · rw [hlay, hact]
      decide
    · intro p hp
      cases p <;> first | rfl | exact absurd hp (by decide)
  · have htests' : s.taken.sluice.restoreTests = none := htests
    refine State.runOrder_does hstart ((if_neg ?_).trans ((if_neg ?_).trans (if_neg ?_)))
    · rw [htests']
      exact Bool.false_ne_true
    · rw [hlay, hact]
      decide
    · rw [hact]
      decide
  · obtain ⟨cls, hcls⟩ : ∃ cls, cls = (s.request mb).u 0 1 := ⟨_, rfl⟩
    obtain ⟨y, hy⟩ : ∃ y : Sluice, y = { s.sluice with referred := s.sluice.referred - (s.sluice.referred &&& cls) } := ⟨_, rfl⟩
    refine ⟨{ s.taken with sluice := if y.cmpState = 4 then y.watch else y }, State.runOrder_does hstart ((if_neg ?_).trans ?_),
      fun i => ?_, ?_⟩
    · rw [hlay, decide_eq_false (Nat.not_lt.mpr hmax)]
      exact Bool.false_ne_true
    · rw [hy, hcls]
      rfl
    · have href : (if y.cmpState = 4 then y.watch else y).referred = y.referred := by split <;> rfl
      rw [← hcls, ← testBit_sub_and]
      exact congrArg (fun m => Nat.testBit m i) (href.trans (by rw [hy]))
    · intro p hp
      cases p <;> first | rfl | exact absurd hp (by decide)
  · obtain ⟨k, hk⟩ : ∃ k, k = (s.request mb).u 0 1 := ⟨_, rfl⟩
    obtain ⟨f, hf⟩ : ∃ f : Nat → Bytes, f = fun k => leBytes 4 (s.chanAt k).wordA ++ leBytes 4 (s.chanAt k).wordS ++
      [byte (s.chanAt k).runCounter, 0, 0, 0] := ⟨_, rfl⟩
    have hlen : ∀ j ∈ countFrom 32 (32 * k), (f j).length = 12 := fun j _ => by simp [hf]
    refine ⟨((countFrom 32 (32 * k)).map f).flatten, State.runOrder_does hstart ((if_neg ?_).trans ?_), ?_, fun i hi => ?_⟩
    · rw [hlay, decide_eq_false (Nat.not_lt.mpr hmax)]
      exact Bool.false_ne_true
    · rw [hk, hf]
      rfl
    · rw [length_flatten_map _ _ 12 hlen, length_countFrom]
    · have hi' : i < (countFrom 32 (32 * k)).length := Nat.lt_of_lt_of_eq hi (length_countFrom _ _).symm
      obtain ⟨hsplit, hbefore⟩ := flatten_map_split _ f 12 i hlen hi'
      have hitem : (countFrom 32 (32 * k))[i] = 32 * k + i := by simp [countFrom_eq_range']
      rw [hsplit, hitem, ← hk]
      rw [hf] at hbefore ⊢
      rw [List.append_assoc (leBytes 4 _ ++ leBytes 4 _)]
      exact slice_mid _ _ _ hbefore (by simp)
  · have hraise : ({ s with sluice := { s.sluice with peer := false } } : State).mayRaise t = true := by
      show (!false && !s.sluice.own && (!s.sluice.dropped || decide (10000 ≤ t))) = true
      rw [hown]
      rcases hdrop with h | h
      · rw [h]; rfl
      · rw [decide_eq_true h, Bool.or_true]; rfl
    exact next_congr ((if_pos hclaim).trans (if_pos hraise))
  · have hraise : ({ s with sluice := { s.sluice with peer := false } } : State).mayRaise t = false := by
      show (!false && !s.sluice.own && (!s.sluice.dropped || decide (10000 ≤ t))) = false
      rw [hdrop, decide_eq_false (Nat.not_le.mpr ht)]
      simp
    exact next_congr ((if_pos hclaim).trans (if_neg (by rw [hraise]; exact Bool.false_ne_true)))
  · exact next_congr (if_neg hclaim)
  · obtain ⟨y, hy⟩ : ∃ y : State, y = { s with sluice := { s.sluice with claim := .none, claimAuto := false } } := ⟨_, rfl⟩
    have hseen : y.gSeen = s.gSeen := by rw [hy]; rfl
    have hgen : (y.takeGeneration 0).sluice = { y.sluice with
        generation := (y.gSeen + 1) % 2 ^ 32, genSeen := (y.gSeen + 1) % 2 ^ 32, macStopped := false, overlap := false
        oldOrders := [], genHeld := true } := rfl
    have hfoot := State.ownChannels_foot (y.takeGeneration 0)
    refine ⟨(y.takeGeneration 0).ownChannels, next_congr ((if_pos hclaim).trans (by rw [hy]; rfl)), ?_,
      fun k hk => State.ownChannels_owned _ k hk, ?_, ?_⟩
    · rw [show (y.takeGeneration 0).ownChannels.sluice = (y.takeGeneration 0).sluice from hfoot.keeps .sluice, hgen, hseen, hy]
    · rw [show (y.takeGeneration 0).ownChannels.log = (y.takeGeneration 0).log from hfoot.keeps .log]
      show (y.log.offers ++ [_]).length = _
      rw [hy, List.length_append]
      rfl
    · refine Only.trans (t := y) ?_ (Only.trans ((State.takeGeneration_foot y 0).onlyIn _) (hfoot.onlyIn _))
      rw [hy]
      intro p hp
      cases p <;> first | rfl | exact absurd hp (by decide)
  · refine next_congr ((if_pos hclaim).trans ((if_pos rfl).trans ?_))
    rw [hx]
    exact ite_congr (propext (by constructor <;> intro h <;> omega)) (fun _ => rfl) fun _ => rfl
  · exact next_congr (if_pos ⟨hclaim, ht⟩)
  · exact next_congr (if_neg fun h => hoff.elim (fun h' => h' h.1) fun h' => absurd h.2 (Nat.not_le.mpr h'))
  · exact next_congr (if_pos hclaim)
  · obtain ⟨y, hy⟩ : ∃ y : State, y = { s with sluice := { s.sluice with peer := false } } := ⟨_, rfl⟩
    obtain ⟨x, hx, hown, hgen, htake, hhand, hoffers, hlocked, honly⟩ := y.takeOver_spec
    have hrole' : y.role = 2 := hy ▸ hrole
    have hnot : s.sluice.own = false := by
      refine Classical.byContradiction fun h => ?_
      rw [Bool.not_eq_false] at h
      rw [State.role, h] at hrole
      revert hrole
      cases s.sluice.presN <;> decide
    have hguard : (decide (y.role = 2) && y.fit && !y.sluice.partnerLongPress && y.mayRaise t) = true := by
      have hraise : y.mayRaise t = true := by
        rw [hy]
        show (!false && !s.sluice.own && (!s.sluice.dropped || decide (10000 ≤ t))) = true
        rw [hnot]
        rcases hdrop with h | h
        · rw [h]; rfl
        · rw [decide_eq_true h, Bool.or_true]; rfl
      have hfit' : y.fit = true := hy ▸ hfit
      have hpress' : y.sluice.partnerLongPress = false := hy ▸ hpress
      rw [decide_eq_true hrole', hfit', hpress', hraise]
      rfl
    have hys : Only [.sluice] s y := by
      rw [hy]
      intro p hp
      cases p <;> first | rfl | exact absurd hp (by decide)
    refine ⟨x, next_congr ?_, hown, ?_, ?_, hhand, ?_, fun k hk hmir hout => hlocked k hk ?_ ?_, Only.trans (hys.mono (by decide)) honly⟩
    · refine Eq.trans ?_ hx
      rw [hy] at hguard ⊢
      exact if_pos hguard
    · rw [hgen, hy]
      rfl
    · rw [htake, hy]
    · rw [show y.log = s.log by rw [hy]] at hoffers
      exact hoffers
    · rw [hy]
      exact hmir
    · rw [hy]
      exact hout
  · obtain ⟨y, hy⟩ : ∃ y : State, y = { s with sluice := { s.sluice with peer := false } } := ⟨_, rfl⟩
    have hrole' : decide (y.role = 2) = false := decide_eq_false (hy ▸ hrole)
    have hskip : (if y.role = 2 && !y.shadowing then y.triggerIgnored 6 else y) = y := by
      rw [hrole']
      rfl
    refine next_congr (Eq.trans (b := { y with sluice := { y.sluice with handover := none } }) ?_ (by rw [hy]))
    refine Eq.trans (b := if decide (y.role = 2) && y.fit && !y.sluice.partnerLongPress && y.mayRaise t then y.takeOver
      else { (if y.role = 2 && !y.shadowing then y.triggerIgnored 6 else y) with
        sluice := { (if y.role = 2 && !y.shadowing then y.triggerIgnored 6 else y).sluice with handover := none } }) (by rw [hy]) ?_
    rw [hskip, hrole']
    rfl
  · have hrun' : ({ s with sluice := { s.sluice with peer := true } } : State).running = false := hrun
    refine next_congr ((if_pos ⟨hown, hclaim, hfirm⟩).trans ?_)
    dsimp only
    rw [hrun']
    rfl
  · have hrun' : ({ s with sluice := { s.sluice with peer := true } } : State).running = true := hrun
    refine next_congr ((if_pos ⟨hown, hclaim, hfirm⟩).trans ?_)
    dsimp only
    rw [hrun']
    rfl
  · have hlate : (s.sluice.oldOrders.filter fun n => s.host.orders.contains n || (s.waitingOn n).isSome) = [] := by
      rw [List.filter_eq_nil_iff]
      intro n hn
      obtain ⟨horders, hwait⟩ := hnone n hn
      rw [hwait, Option.isSome_none, Bool.or_false, List.contains_iff_mem]
      exact horders
    refine next_congr ((if_pos hover).trans ?_)
    dsimp only
    rw [hlate]
    rfl
  · exact next_congr (if_neg (by rw [hover]; exact Bool.false_ne_true))

end Sys2Proof
end

section
/-! PROOFS. Frames of the partner that are taken (R394 to R415). -/
set_option Elab.async false
namespace Sys2Proof.Machine

/-- A frame that is heard acts. -/
theorem State.onFrame_hears {s x : State} {t : Nat} {f b : Bytes} {len : Nat → Bool} {go : State → Bytes → State}
    (h : s.hears t f b) (hlen : len b.length = true) (hgo : go (s.noteFrame t f) b = x) : s.onFrame t len f go = x := by
  obtain ⟨hfirm, hlink, hup, hbody, hseq⟩ := h
  unfold State.onFrame
  rw [if_pos ⟨hfirm, hlink, hup⟩, hbody]
  dsimp only
  rw [if_neg (by rw [decide_eq_false hseq, hlen]; exact Bool.false_ne_true)]
  exact hgo

/-- What a frame taken notes of itself (R394, R411). -/
theorem State.noteFrame_spec (s : State) (t : Nat) (f : Bytes) : ∃ x, s.noteFrame t f = { s with sluice := x } ∧
    Tab.get none x.rxSeq t = some (fld f 1 1) ∧ x.partnerGen = fld f 4 4 ∧
    x.genSeen = (if later32 (fld f 4 4) s.sluice.genSeen then fld f 4 4 else s.sluice.genSeen) ∧
    x = { s.sluice with rxSeq := x.rxSeq, partnerGen := x.partnerGen, genSeen := x.genSeen } := by
  obtain ⟨y, hy⟩ : ∃ y : Sluice, y = { s.sluice with
    rxSeq := Tab.set none s.sluice.rxSeq t (some (fld f 1 1)), partnerGen := fld f 4 4 } := ⟨_, rfl⟩
  have hseq : Tab.get none y.rxSeq t = some (fld f 1 1) := by
    rw [hy]
    exact (Tab.get_set none s.sluice.rxSeq t t (some (fld f 1 1))).trans (if_pos rfl)
  have hnote : s.noteFrame t f = ({ s with sluice := y } : State).seeGeneration (fld f 4 4) := by rw [hy]; rfl
  have hgen : y.genSeen = s.sluice.genSeen := by rw [hy]
  have hpart : y.partnerGen = fld f 4 4 := by rw [hy]
  have heq : y = { s.sluice with rxSeq := y.rxSeq, partnerGen := y.partnerGen, genSeen := y.genSeen } := by rw [hy]
  rw [hnote, State.seeGeneration]
  by_cases hlater : later32 (fld f 4 4) s.sluice.genSeen = true
  · have hlater' : later32 (fld f 4 4) y.genSeen = true := hgen ▸ hlater
    refine ⟨{ y with genSeen := fld f 4 4 }, if_pos hlater', hseq, hpart, (if_pos hlater).symm, ?_⟩
    rw [hy]
  · have hlater' : ¬later32 (fld f 4 4) y.genSeen = true := hgen ▸ hlater
    exact ⟨y, if_neg hlater', hseq, hpart, hgen.trans (if_neg hlater).symm, heq⟩

theorem State.noteFrame_only (s : State) (t : Nat) (f : Bytes) : Only [.sluice] s (s.noteFrame t f) :=
  (State.noteFrame_foot s t f).onlyIn _

/-- A channel as the mirror's channel state `st` finds it (R399). -/
def Chan.mirrored (st : Nat) (c : Chan) : Chan :=
  let fresh := decide (st = 1) || (decide (st = 2) && c.mirState ≠ 2 && c.mirState ≠ 3)
  { c with
    mirState := st
    state := if fresh && decide (c.state = .forcedOff) then .notOwned else c.state }

/-- An output as the mirror's STATE `st` finds it (R399). -/
def Out.mirrored (st : Nat) (starts : Bool) (o : Out) : Out :=
  { o with
    state := st
    comp := if starts then { o.comp with first := true } else o.comp }

/-- What a mirror body `m` brings to channel `k` (R399). -/
def State.mirrorChan (m : Bytes) (own : Nat → ChanLatch) (skip : Nat → Bool) (s : State) (k : Nat) : State :=
  let a := ChanLatch.ofBytes (slice m (0x27 + 24 * k) 24)
  let w := own k
  let s := s.setChan k (Chan.mirrored a.chState)
  if a.chState = 4 || (s.chanAt k).state = .forcedOff || skip (quadrant k) then s
  else
    let f : ChanFix := { ist := a.ist - w.ist, dst := a.dst - w.dst, u := a.u - w.u, share := a.share - w.share, ibar := a.ibar
                         chState := a.chState }
    { s with sluice := { s.sluice with fix := Tab.set none s.sluice.fix k (some f) } }

/-- What a mirror body `m` brings to output `k` (R399). -/
def State.mirrorOut (m : Bytes) (ownOut : Nat → OutLatch) (skip : Nat → Bool) (s : State) (k : Nat) : State :=
  let a := OutLatch.ofBytes (slice m (0xC27 + 26 * k) 26)
  let w := ownOut k
  let s := s.setOut k (Out.mirrored a.state (decide (a.state = 2) && !(s.outAt k).live))
  if skip (quadrant (s.lead k)) then s
  else
    let f : OutLatch := { x := a.x - w.x, v := a.v - w.v, a := a.a - w.a, profile := a.profile, state := a.state }
    { s with sluice := { s.sluice with fixOut := Tab.set none s.sluice.fixOut k (some f) } }

theorem State.takeMirror_eq (s : State) (m : Bytes) (own : Nat → ChanLatch) (ownOut : Nat → OutLatch) (skip : Nat → Bool) :
    s.takeMirror m own ownOut skip =
      (s.each (upto 128) (State.mirrorChan m own skip)).each (upto 128) (State.mirrorOut m ownOut skip) := rfl

theorem State.mirrorChan_mirState (m : Bytes) (own : Nat → ChanLatch) (skip : Nat → Bool) (s : State) (n j : Nat) :
    ((s.mirrorChan m own skip n).chanAt j).mirState =
      if j = n then (ChanLatch.ofBytes (slice m (0x27 + 24 * n) 24)).chState else (s.chanAt j).mirState := by
  obtain ⟨x, hx⟩ : ∃ x, x = s.setChan n (Chan.mirrored (ChanLatch.ofBytes (slice m (0x27 + 24 * n) 24)).chState) := ⟨_, rfl⟩
  have hchan : (s.mirrorChan m own skip n).chan = x.chan := by
    unfold State.mirrorChan
    dsimp only
    rw [← hx]
    split <;> rfl
  rw [State.chanAt, hchan, ← State.chanAt, hx, State.chanAt_setChan]
  split <;> rfl

theorem State.mirrorOut_state (m : Bytes) (ownOut : Nat → OutLatch) (skip : Nat → Bool) (s : State) (n j : Nat) :
    ((s.mirrorOut m ownOut skip n).outAt j).state =
      if j = n then (OutLatch.ofBytes (slice m (0xC27 + 26 * n) 26)).state else (s.outAt j).state := by
  obtain ⟨a, ha⟩ : ∃ a, a = OutLatch.ofBytes (slice m (0xC27 + 26 * n) 26) := ⟨_, rfl⟩
  obtain ⟨x, hx⟩ : ∃ x, x = s.setOut n (Out.mirrored a.state (decide (a.state = 2) && !(s.outAt n).live)) := ⟨_, rfl⟩
  have hout : (s.mirrorOut m ownOut skip n).out = x.out := by
    unfold State.mirrorOut
    dsimp only
    rw [← ha, ← hx]
    split <;> rfl
  rw [State.outAt, hout, ← State.outAt, hx, State.outAt_setOut, ← ha]
  split <;> rfl

theorem State.mirrorOut_foot (m : Bytes) (ownOut : Nat → OutLatch) (skip : Nat → Bool) (s : State) (n : Nat) :
    Foot 0x100800 s (s.mirrorOut m ownOut skip n) := by
  unfold State.mirrorOut
  exact .ite ((State.setOut_foot _ _ _).after .same) (.sluice ((State.setOut_foot _ _ _).after .same))

/-- The channel states and output states that a mirror body brings (R399). -/
theorem State.takeMirror_spec (s : State) (m : Bytes) (own : Nat → ChanLatch) (ownOut : Nat → OutLatch) (skip : Nat → Bool)
    (k : Nat) (hk : k < 128) :
    ((s.takeMirror m own ownOut skip).chanAt k).mirState = (ChanLatch.ofBytes (slice m (0x27 + 24 * k) 24)).chState ∧
    ((s.takeMirror m own ownOut skip).outAt k).state = (OutLatch.ofBytes (slice m (0xC27 + 26 * k) 26)).state := by
  have hnodup : (upto 128).Nodup := nodup_upto 128
  have hmem : k ∈ upto 128 := mem_upto.mpr hk
  rw [State.takeMirror_eq]
  generalize upto 128 = l at hnodup hmem ⊢
  obtain ⟨x, hx⟩ : ∃ x, x = s.each l (State.mirrorChan m own skip) := ⟨_, rfl⟩
  have hchans := (State.each_items (fun t j => (t.chanAt j).mirState) (State.mirrorChan m own skip) (fun _ => True)
    (fun n _ => (ChanLatch.ofBytes (slice m (0x27 + 24 * n) 24)).chState)
    (fun t n _ => ⟨trivial, fun j => State.mirrorChan_mirState m own skip t n j⟩) l hnodup (s := s) trivial).2 k
  have houts := (State.each_items (fun t j => (t.outAt j).state) (State.mirrorOut m ownOut skip) (fun _ => True)
    (fun n _ => (OutLatch.ofBytes (slice m (0xC27 + 26 * n) 26)).state)
    (fun t n _ => ⟨trivial, fun j => State.mirrorOut_state m ownOut skip t n j⟩) l hnodup (s := x) trivial).2 k
  rw [← hx] at hchans ⊢
  have hfoot : Foot 0x100800 x (x.each l (State.mirrorOut m ownOut skip)) :=
    .each .same fun _ _ h => (State.mirrorOut_foot _ _ _ _ _).after h
  have hchan : (x.each l (State.mirrorOut m ownOut skip)).chan = x.chan := hfoot.keeps .chan
  refine ⟨?_, houts.trans (if_pos hmem)⟩
  rw [State.chanAt, hchan]
  exact hchans.trans (if_pos hmem)

/-- The epoch that a standby takes (R398, R430). -/
theorem State.adoptEpoch_clocks (s : State) (e : Nat) :
    (s.adoptEpoch e).clocks.epochHi * 2 ^ 32 + (s.adoptEpoch e).clocks.epoch = s.nearEpoch e := by
  by_cases h : s.nearEpoch e = s.ext
  · have hkeep : s.adoptEpoch e = s := if_pos h
    rw [hkeep, h, State.ext]
  · have hepoch : (s.adoptEpoch e).clocks.epoch = s.nearEpoch e % 2 ^ 32 := by
      unfold State.adoptEpoch
      exact congrArg (fun t : State => t.clocks.epoch) (if_neg h)
    have hhi : (s.adoptEpoch e).clocks.epochHi = s.nearEpoch e / 2 ^ 32 := by
      unfold State.adoptEpoch
      exact congrArg (fun t : State => t.clocks.epochHi) (if_neg h)
    rw [hepoch, hhi]
    exact Nat.div_add_mod' _ _

end Sys2Proof.Machine
end

section
/-! PROOFS. What each frame of the partner does, by role (R394 to R415). -/
set_option Elab.async false
namespace Sys2Proof.Machine

/-- Every channel takes a word, and nothing else changes. -/
theorem State.each_words (s : State) (g : Nat → Chan → Chan) :
    Only [.chan] s (s.each (upto 128) fun t k => t.setChan k (g k)) ∧
    ∀ k, k < 128 → (s.each (upto 128) fun t k => t.setChan k (g k)).chanAt k = g k (s.chanAt k) := by
  have hnodup := nodup_upto 128
  have hmem : ∀ k, k < 128 → k ∈ upto 128 := fun k hk => mem_upto.mpr hk
  generalize upto 128 = l at hnodup hmem ⊢
  obtain ⟨honly, hat⟩ := State.each_chans (s := s) (fun t n => t.setChan n (g n)) g (fun _ _ _ => rfl) l hnodup
  exact ⟨honly.only, fun k hk => (hat k).trans (if_pos (hmem k hk))⟩

/-- A frame taken notes its SEQ and its generation only. -/
theorem State.noteFrame_eq (s : State) (t : Nat) (f : Bytes) : ∃ r p g, s.noteFrame t f =
    { s with sluice := { s.sluice with rxSeq := r, partnerGen := p, genSeen := g } } := by
  obtain ⟨x, hx, -, -, -, heq⟩ := s.noteFrame_spec t f
  exact ⟨x.rxSeq, x.partnerGen, x.genSeen, hx.trans (congrArg (fun y => ({ s with sluice := y } : State)) heq)⟩

/-- No commit waits for the partner once its image is acknowledged. -/
theorem State.commitProceeds_waiting (s : State) : ∀ w ∈ s.commitProceeds.waiting, w.what ≠ .commitPartner := by
  intro w hw
  obtain ⟨v, -, rfl⟩ := List.mem_map.mp hw
  split
  · exact fun h => nomatch h
  · next h => exact h

theorem State.seeGeneration_sluice (s : State) (g : Nat) : ∃ n, (s.seeGeneration g).sluice = { s.sluice with genSeen := n } := by
  unfold State.seeGeneration
  split
  · exact ⟨_, rfl⟩
  · exact ⟨_, rfl⟩

/-- What a HELLO brings (R395, R406). -/
theorem State.takeHello_spec (s : State) (b : Bytes) (d l : Int) :
    (s.takeHello b d l).sluice.pMode = fld b 4 1 ∧ (s.takeHello b d l).sluice.pFit = fld b 6 1 ∧
    (s.takeHello b d l).sluice.pDesc = fld b 8 4 ∧ (s.takeHello b d l).sluice.hello = true ∧
    ((s.takeHello b d l).sluice.pMode ≠ 6 → (s.takeHello b d l).desc.partnerAck = 0) := by
  obtain ⟨y, hy⟩ : ∃ y : State, y = { s with sluice := { s.sluice with
    hello := true, pDie := fld b 0 4, pMode := fld b 4 1, pRole := fld b 5 1, pFit := fld b 6 1, pDesc := fld b 8 4
    pTstamp := fld b 16 4, laneDelay := d, lagNs := l, peer := s.sluice.peer || decide (fld b 5 1 = 1)
    partnerLongPress := bit (fld b 6 1) 6 } } := ⟨_, rfl⟩
  obtain ⟨z, hz⟩ : ∃ z : State, z = if y.sluice.pMode = 6 then y else { y with desc := { y.desc with partnerAck := 0 } } := ⟨_, rfl⟩
  have heq : s.takeHello b d l = z.seeGeneration (fld b 12 4) := by
    rw [hz, hy]
    rfl
  have hzy : z.sluice = y.sluice := by
    rw [hz]
    split <;> rfl
  obtain ⟨n, hn⟩ := z.seeGeneration_sluice (fld b 12 4)
  have hdesc : (z.seeGeneration (fld b 12 4)).desc = z.desc := (State.seeGeneration_foot _ _).keeps .desc
  rw [heq, hn, hzy, hdesc]
  refine ⟨by rw [hy], by rw [hy], by rw [hy], by rw [hy], fun h6 => ?_⟩
  rw [hz, if_neg h6]

/-- A mirror leaves the count of those applied. -/
theorem State.takeMirror_applied (s : State) (m : Bytes) (own : Nat → ChanLatch) (ownOut : Nat → OutLatch) (skip : Nat → Bool) :
    (s.takeMirror m own ownOut skip).sluice.mirrorsApplied = s.sluice.mirrorsApplied := by
  rw [State.takeMirror_eq]
  refine (State.each_keeps (fun t => t.sluice.mirrorsApplied) (fun t k => ?_) _ _).trans
    (State.each_keeps (fun t => t.sluice.mirrorsApplied) (fun t k => ?_) _ s)
  · unfold State.mirrorOut
    dsimp only
    split <;> rfl
  · unfold State.mirrorChan
    dsimp only
    split <;> rfl

end Sys2Proof.Machine

namespace Sys2Proof
open Machine

/-- Settles O36: each frame's body on the state that has noted it. -/
theorem partnerFramesAct : Obligations.PartnerFramesAct := by
  intro s f b
  refine ⟨fun t => ?_, fun lane d l x hfirm hlink hlane hblock hbody hlen hx hseq => ?_, fun d l => ?_, fun hh hlen hrole hshadow => ?_,
    fun hh hlen hrole hshadow => ?_, fun hh hlen hrole hcls => ?_, fun hh hlen hrole hcmp => ?_, fun hh hlen => ?_,
    fun hh hlo hhi hrole hmode x hx => ?_, fun hh hlen hrole h9 hlast => ?_, fun hh hlen hrole hshadow hk => ?_,
    fun c hh hlen hrole hshadow hi he => ?_, fun c hh hlen hrole hshadow hi he hgot => ?_, fun hh hlen hrole hshadow => ?_⟩
  · obtain ⟨x, hx, hseq, hgen, hseen, -⟩ := s.noteFrame_spec t f
    exact ⟨x, hx, hseq, hgen, hseen⟩
  · have hseq' : ¬Tab.get none x.sluice.rxSeq 0x01 = some (fld f 1 1) := by
      have hkeep : x.sluice.rxSeq = s.sluice.rxSeq := by
        rw [hx]
        unfold State.setPeerLane
        split <;> rfl
      rw [hkeep]
      exact hseq
    refine next_congr ((if_pos ⟨hfirm, hlink, hlane, hblock⟩).trans ?_)
    rw [hbody]
    dsimp only
    rw [if_neg (Classical.not_not.mpr hlen), ← hx]
    exact if_neg hseq'
  · obtain ⟨hmode, hfit, hdesc, hhello, hack⟩ := s.takeHello_spec b d l
    exact ⟨hmode, hfit, hdesc, hhello, hack, (State.takeHello_foot s b d l).onlyIn _⟩
  · obtain ⟨r, p, g, hn⟩ := s.noteFrame_eq 0x02 f
    obtain ⟨n, hn'⟩ : ∃ n, n = s.noteFrame 0x02 f := ⟨_, rfl⟩
    rw [← hn'] at hn
    obtain ⟨y, hy⟩ : ∃ y, y = n.takeMirror b (fun k => Tab.get ({} : ChanLatch) n.sluice.latch k)
      (fun k => Tab.get ({} : OutLatch) n.sluice.latchOut k) n.uncorrected := ⟨_, rfl⟩
    obtain ⟨z, hz⟩ : ∃ z : State, z = { y.takeQref b with sluice := { (y.takeQref b).sluice with
        mirrorAge := 0, mirrorGot := true, mirrorsApplied := (y.takeQref b).sluice.mirrorsApplied + 1 } } := ⟨_, rfl⟩
    obtain ⟨x, hx⟩ : ∃ x, x = z.adoptEpoch (fld b 0 4) := ⟨_, rfl⟩
    have hrole' : n.role = 2 := hn ▸ hrole
    have hshadow' : n.shadowing = true := hn ▸ hshadow
    have hfy : Foot 0x100C00 n y := hy ▸ State.takeMirror_foot _ _ _ _ _
    have hfx : Foot 0x200104 z x := hx ▸ State.adoptEpoch_foot _ _
    have hxs : x.sluice = z.sluice := hfx.keeps .sluice
    have hxc : x.chan = y.chan := (hfx.keeps .chan).trans (by rw [hz]; rfl)
    have hxo : x.out = y.out := (hfx.keeps .out).trans (by rw [hz]; rfl)
    have happlied : y.sluice.mirrorsApplied = s.sluice.mirrorsApplied := by
      rw [hy, State.takeMirror_applied, hn]
    refine ⟨x, next_congr (State.onFrame_hears hh (decide_eq_true hlen) ?_), ?_, ?_, ?_, fun k hk => ?_, ?_, ?_⟩
    · rw [← hn']
      refine (if_pos ⟨hrole', hshadow'⟩).trans ?_
      rw [hx, hz, hy]
    · rw [hxs, hz]
    · rw [hxs, hz]
    · rw [hxs, hz, ← happlied]
      rfl
    · rw [State.chanAt, State.outAt, hxc, hxo, ← State.chanAt, ← State.outAt, hy]
      exact State.takeMirror_spec n b _ _ _ k hk
    · rw [hx, State.adoptEpoch_clocks, State.nearEpoch, State.nearEpoch, State.ext, State.ext,
        show z.clocks = s.clocks by rw [hz]; exact (hfy.keeps .clocks).trans (by rw [hn])]
    · refine Only.trans (t := n) ?_ (Only.trans (hfy.onlyIn _) (Only.trans (t := z) ?_ (hfx.onlyIn _)))
      · rw [hn]
        intro p hp
        cases p <;> first | rfl | exact absurd hp (by decide)
      · rw [hz]
        intro p hp
        cases p <;> first | rfl | exact absurd hp (by decide)
  · obtain ⟨r, p, g, hn⟩ := s.noteFrame_eq 0x03 f
    obtain ⟨y, hy⟩ : ∃ y : State, y = { s with sluice := { s.sluice with
        rxSeq := r, partnerGen := p, genSeen := g, summaryGot := true } } := ⟨_, rfl⟩
    obtain ⟨honly, hword⟩ := y.each_words fun k c => { c with wordA := fld b (4 * k) 4 }
    obtain ⟨z, hz⟩ : ∃ z, z = y.each (upto 128) fun s k => s.setChan k fun c => { c with wordA := fld b (4 * k) 4 } := ⟨_, rfl⟩
    rw [← hz] at honly hword
    have hfoot := State.endInjection_foot z
    refine ⟨z.endInjection, next_congr (State.onFrame_hears hh (decide_eq_true hlen) ?_), fun k hk => ?_, ?_, ?_⟩
    · rw [hn]
      refine (if_pos ⟨hrole, hshadow⟩).trans ?_
      rw [hz, hy]
      rfl
    · rw [State.chanAt, show z.endInjection.chan = z.chan from hfoot.keeps .chan, ← State.chanAt, hword k hk, hy]
      rfl
    · rw [show z.endInjection.sluice = z.sluice from hfoot.keeps .sluice, show z.sluice = y.sluice from honly .sluice rfl, hy]
    · refine Only.trans (t := y) ?_ (Only.trans (honly.mono (by decide)) (hfoot.onlyIn _))
      rw [hy]
      intro p hp
      cases p <;> first | rfl | exact absurd hp (by decide)
  · obtain ⟨r, p, g, hn⟩ := s.noteFrame_eq 0x06 f
    have hnote := s.noteFrame_only 0x06 f
    obtain ⟨n, hn'⟩ : ∃ n, n = s.noteFrame 0x06 f := ⟨_, rfl⟩
    rw [← hn'] at hn hnote
    have hrole' : n.role = 1 := by rw [hn]; exact hrole
    refine ⟨{ n with sluice := { n.sluice with
          cmpState := 2, testing := fld b 0 1 % 16, tested := fld b 0 1 % 16, passed := 0 } },
      next_congr (State.onFrame_hears hh (decide_eq_true hlen) ?_), ?_, ?_⟩
    · rw [← hn']
      exact if_pos ⟨hrole', hcls⟩
    · rw [← hn']
    · refine Only.trans hnote fun p hp => ?_
      cases p <;> first | rfl | exact absurd hp (by decide)
  · obtain ⟨r, p, g, hn⟩ := s.noteFrame_eq 0x07 f
    have hnote := s.noteFrame_only 0x07 f
    obtain ⟨n, hn'⟩ : ∃ n, n = s.noteFrame 0x07 f := ⟨_, rfl⟩
    rw [← hn'] at hn hnote
    have hguard : n.role = 2 ∧ n.sluice.cmpState = 1 := by rw [hn]; exact ⟨hrole, hcmp⟩
    have hrun := fun x (hx : (if fld b 0 1 % 16 &&& (fld b 1 1 % 16) = fld b 0 1 % 16 then
        { n with sluice := { n.sluice with
          cmpState := 3, testing := n.sluice.doubted, tested := n.sluice.doubted, passed := 0 } }
      else { n with sluice := { n.sluice with
          tested := fld b 0 1 % 16, passed := fld b 1 1 % 16 } }) = x) =>
      (next_congr (State.onFrame_hears (len := fun n => decide (n = 4)) hh (decide_eq_true hlen)
        (by rw [← hn']; exact (if_pos hguard).trans hx)) :
        exec (.result f) s = .next x)
    by_cases hpass : fld b 0 1 % 16 &&& (fld b 1 1 % 16) = fld b 0 1 % 16
    · refine ⟨_, hrun _ (if_pos hpass), fun _ => ⟨rfl, ?_, ?_⟩, fun h => absurd hpass h, ?_⟩
      · rw [hn]
      · rw [hn]
      · refine Only.trans hnote fun p hp => ?_
        cases p <;> first | rfl | exact absurd hp (by decide)
    · refine ⟨_, hrun _ (if_neg hpass), fun h => absurd h hpass, fun _ => ⟨?_, rfl⟩, ?_⟩
      · exact hguard.2
      · refine Only.trans hnote fun p hp => ?_
        cases p <;> first | rfl | exact absurd hp (by decide)
  · obtain ⟨r, p, g, hn⟩ := s.noteFrame_eq 0x08 f
    have hnote := s.noteFrame_only 0x08 f
    obtain ⟨n, hn'⟩ : ∃ n, n = s.noteFrame 0x08 f := ⟨_, rfl⟩
    rw [← hn'] at hn hnote
    refine ⟨{ n with sluice := { n.sluice with
        partnerEvents := (n.sluice.partnerEvents + 1) % 2 ^ 32
        partnerLongPress := n.sluice.partnerLongPress || decide (fld b 0 2 = 3) } },
      next_congr (State.onFrame_hears hh (decide_eq_true hlen) ?_), ?_, ?_⟩
    · rw [← hn']
    · rw [hn]
    · refine Only.trans hnote fun p hp => ?_
      cases p <;> first | rfl | exact absurd hp (by decide)
  · obtain ⟨r, p, g, hn⟩ := s.noteFrame_eq 0x09 f
    have hguard : x.role = 2 ∧ x.mode = .shadow := by rw [hx, hn]; exact ⟨hrole, hmode⟩
    refine ⟨next_congr (State.onFrame_hears hh ?_ ?_), (State.takeDesc_foot x b).onlyIn _⟩
    · rw [decide_eq_true hlo, decide_eq_true hhi]
      rfl
    · rw [← hx]
      exact if_pos hguard
  · obtain ⟨r, p, g, hn⟩ := s.noteFrame_eq 0x0A f
    have hnote := s.noteFrame_only 0x0A f
    obtain ⟨n, hn'⟩ : ∃ n, n = s.noteFrame 0x0A f := ⟨_, rfl⟩
    rw [← hn'] at hn hnote
    obtain ⟨y, hy⟩ : ∃ y : State, y = { n with desc := { n.desc with
        partnerAck := if n.desc.committing then n.desc.capturedSeq
          else n.desc.sequence } } := ⟨_, rfl⟩
    refine ⟨y.commitProceeds, next_congr (State.onFrame_hears hh (decide_eq_true hlen) ?_), ?_, y.commitProceeds_waiting, ?_⟩
    · have hguard : n.role = 1 ∧ fld b 0 1 = 0x09 ∧ fld b 1 1 = n.lastSent 0x09 := by
        rw [hn]
        exact ⟨hrole, h9, hlast⟩
      rw [← hn']
      refine (if_pos hguard).trans ?_
      rw [hy]
    · show y.desc.partnerAck = _
      rw [hy, hn]
    · refine Only.trans (hnote.mono (by decide)) (Only.trans (t := y) ?_ ((State.commitProceeds_foot y).onlyIn _))
      rw [hy]
      intro p hp
      cases p <;> first | rfl | exact absurd hp (by decide)
  · obtain ⟨r, p, g, hn⟩ := s.noteFrame_eq 0x0B f
    obtain ⟨k, hk'⟩ : ∃ k, k = fld b 0 1 := ⟨_, rfl⟩
    rw [← hk'] at hk ⊢
    obtain ⟨at_, hat⟩ : ∃ a : Nat, a = (((fld b 4 4 : Int) - s.sluice.qDelta.getD (quadrant (s.lead k)) 0) % 2 ^ 32).toNat := ⟨_, rfl⟩
    obtain ⟨a, ha⟩ : ∃ a, a = s.fresh .unstated 0 % 4097 := ⟨_, rfl⟩
    obtain ⟨t, ht⟩ : ∃ t : State, t = ((s.noteFrame 0x0B f).used).setOut k fun o =>
        { o with ident := { o.ident with lfsr := fld b 2 2, startAt := some at_, inj := false, chip := 0, evals := 0, ampl := a } } :=
      ⟨_, rfl⟩
    have hout : ∀ j, t.outAt j = if j = k then { s.outAt k with ident := { (s.outAt k).ident with
        lfsr := fld b 2 2, startAt := some at_, inj := false, chip := 0, evals := 0, ampl := a } } else s.outAt j := fun j => by
      rw [ht, State.outAt_setOut, hn]
      rfl
    refine ⟨t, next_congr (State.onFrame_hears hh (decide_eq_true hlen) ?_), ?_, ?_, ?_, fun j hj => (hout j).trans (if_neg hj), ?_⟩
    · have hguard : (s.noteFrame 0x0B f).role = 2 ∧ (s.noteFrame 0x0B f).shadowing = true ∧ k < 128 := by
        rw [hn]
        exact ⟨hrole, hshadow, hk⟩
      rw [hk'] at hguard
      refine (if_pos hguard).trans ?_
      rw [ht, ha, hat, hk', hn]
      rfl
    · rw [hout, if_pos rfl]
    · rw [hout, if_pos rfl, ← hat]
    · rw [hout, if_pos rfl]
    · rw [ht, hn]
      intro p hp
      cases p <;> first | rfl | exact absurd hp (by decide)
  · obtain ⟨r, p, g, hn⟩ := s.noteFrame_eq 0x04 f
    obtain ⟨n, hn'⟩ : ∃ n, n = s.noteFrame 0x04 f := ⟨_, rfl⟩
    rw [← hn'] at hn
    have hguard : n.role = 2 ∧ n.shadowing = true ∧ fld b 4 1 < 64 := by
      rw [hn]
      exact ⟨hrole, hshadow, hi⟩
    have he' : ¬n.sluice.superEpoch = fld b 0 4 := by
      rw [hn]
      exact he
    refine ⟨{ n with sluice := { n.sluice with
        superEpoch := fld b 0 4, superGot := Tab.set false [] (fld b 4 1) true, superData := c } },
      next_congr (State.onFrame_hears hh (decide_eq_true hlen) ?_), rfl, rfl, rfl, ?_⟩
    · rw [← hn']
      refine (if_pos hguard).trans ?_
      dsimp only
      rw [if_neg he']
      exact if_neg Bool.false_ne_true
    · rw [hn]
      intro p hp
      cases p <;> first | rfl | exact absurd hp (by decide)
  · obtain ⟨r, p, g, hn⟩ := s.noteFrame_eq 0x04 f
    obtain ⟨n, hn'⟩ : ∃ n, n = s.noteFrame 0x04 f := ⟨_, rfl⟩
    rw [← hn'] at hn
    have hguard : n.role = 2 ∧ n.shadowing = true ∧ fld b 4 1 < 64 := by
      rw [hn]
      exact ⟨hrole, hshadow, hi⟩
    have he' : n.sluice.superEpoch = fld b 0 4 := by
      rw [hn]
      exact he
    have hgot' : ¬Tab.get false n.sluice.superGot (fld b 4 1) = true := by
      rw [hn, hgot]
      exact Bool.false_ne_true
    refine ⟨{ n with sluice := { n.sluice with
        superGot := Tab.set false n.sluice.superGot (fld b 4 1) true, superData := n.sluice.superData ++ c } },
      next_congr (State.onFrame_hears hh (decide_eq_true hlen) ?_), ?_, ?_, ?_⟩
    · rw [← hn']
      refine (if_pos hguard).trans ?_
      dsimp only
      rw [if_pos he']
      exact if_neg hgot'
    · rw [hn]
    · exact (Tab.get_set false n.sluice.superGot (fld b 4 1) (fld b 4 1) true).trans (if_pos rfl)
    · rw [hn]
      intro p hp
      cases p <;> first | rfl | exact absurd hp (by decide)
  · obtain ⟨r, p, g, hn⟩ := s.noteFrame_eq 0x05 f
    obtain ⟨n, hn'⟩ : ∃ n, n = s.noteFrame 0x05 f := ⟨_, rfl⟩
    rw [← hn'] at hn
    have hguard : n.role = 2 ∧ n.shadowing = true := by
      rw [hn]
      exact ⟨hrole, hshadow⟩
    obtain ⟨y, hy⟩ : ∃ y, y = n.takeMirror (b.drop 4) n.latchChan n.latchOut fun cl => n.uncorrected cl || bit (fld b 1 1) cl :=
      ⟨_, rfl⟩
    have hfy : Foot 0x100C00 n y := hy ▸ State.takeMirror_foot _ _ _ _ _
    refine ⟨{ y with sluice := { y.sluice with handover := some (fld b 0 1, fld b 1 1), mirrorAge := 0, mirrorGot := true } },
      next_congr (State.onFrame_hears hh (decide_eq_true hlen) ?_), rfl, rfl, rfl, ?_⟩
    · rw [← hn']
      refine (if_pos hguard).trans ?_
      rw [hy]
    · refine Only.trans (t := n) ?_ (Only.trans (hfy.onlyIn _) fun p hp => ?_)
      · rw [hn]
        intro p hp
        cases p <;> first | rfl | exact absurd hp (by decide)
      · cases p <;> first | rfl | exact absurd hp (by decide)

end Sys2Proof
end

section
/-! PROOFS. Lanes, presence, the mirror strobe and the tests of the partner link (R390 to R407). -/
set_option Elab.async false
namespace Sys2Proof.Machine

theorem Mode.firmware_of_active {m : Mode} (h : m.active = true) : m.firmware = true := by
  cases m <;> first | rfl | exact h

/-- One lane goes through `f`, the other keeps what it holds. -/
theorem State.setPeerLane_spec (s : State) {l : Nat} (hl : l = 6 ∨ l = 7) (f : PeerLane → PeerLane) :
    (s.setPeerLane l f).peerLane l = f (s.peerLane l) ∧ (s.setPeerLane l f).peerLane (13 - l) = s.peerLane (13 - l) ∧
    Only [.sluice] s (s.setPeerLane l f) := by
  rcases hl with rfl | rfl
  all_goals exact ⟨rfl, rfl, fun p hp => by cases p <;> first | rfl | exact absurd hp (by decide)⟩

/-- A frame goes out on a link that is up, and SEQ counts on. -/
theorem State.sendPeer_spec (s : State) (t : Nat) (b : Bytes) : ∃ q,
    s.sendPeer t b = { s with sent := if s.linkUp then s.sent ++ [.partner t (s.peerFrame t b)] else s.sent
                              sluice := { s.sluice with txSeq := q } } := by
  unfold State.sendPeer
  split
  · next h => exact ⟨_, rfl⟩
  · next h => exact ⟨_, rfl⟩

/-- Whether a lane is up depends on the named lanes and the lanes alone. -/
theorem State.linkUp_congr {s t : State} (hd : t.desc = s.desc) (h6 : t.sluice.lane6 = s.sluice.lane6)
    (h7 : t.sluice.lane7 = s.sluice.lane7) : t.linkUp = s.linkUp := by
  unfold State.linkUp State.peerLanes State.field
  rw [hd, h6, h7]

/-- What the fold of the next mirror cycle leaves of every channel's last word. -/
theorem State.each_nextDutyCycle_wordA (l : List Nat) (s : State) (k : Nat) :
    ((s.each l State.nextDutyCycle).chanAt k).wordA = (s.chanAt k).wordA := by
  induction l generalizing s with
  | nil => rfl
  | cons n l ih =>
    refine (ih (s.nextDutyCycle n)).trans ?_
    unfold State.nextDutyCycle
    dsimp only
    rw [State.chanAt_setChan]
    split
    · next h => rw [h]
    · rfl

/-- The first half of a strobe on an active: the latch, the words, MIRROR and SUMMARY. -/
def State.strobed (s : State) (counts : List Nat) : State :=
  ({ s with sluice := { s.sluice with strobe := (s.sluice.strobe + 1) % 50, qCounts := counts } } : State).latchAll

theorem State.strobed_spec (s : State) (counts : List Nat) :
    (s.strobed counts).sluice.strobe = (s.sluice.strobe + 1) % 50 ∧ Only [.sluice] s (s.strobed counts) := by
  refine ⟨rfl, fun p hp => ?_⟩
  cases p <;> first | rfl | exact absurd hp (by decide)

/-- A strobe on the controller with the token (R397, R401). -/
theorem mirrorStrobe_active {s : State} {ts : List Nat} (hf : s.mode.firmware = true) (hp : s.partner = true)
    (hr : s.clocks.running = true) (ht : s.token = true) : ∃ t x y,
      exec (.mirrorStrobe ts) s = .next t ∧ t.sluice.strobe = (s.sluice.strobe + 1) % 50 ∧
      (∀ k, k < 128 → (t.chanAt k).wordA = (s.chanAt k).cyc.word) ∧
      t.sent = (if s.linkUp then s.sent ++ [.partner 0x02 x, .partner 0x03 y] else s.sent) ∧
      Only [.chan, .sluice, .sent] s t := by
  obtain ⟨hstrobe, honly⟩ := s.strobed_spec ts
  obtain ⟨a, ha⟩ : ∃ a, a = s.strobed ts := ⟨_, rfl⟩
  rw [← ha] at hstrobe honly
  obtain ⟨w, hw⟩ : ∃ w, w = ((upto 128).map fun k => (a.chanAt k).cyc.word) := ⟨_, rfl⟩
  obtain ⟨hwords, hat⟩ := a.each_words fun _ c => { c with wordA := c.cyc.word }
  obtain ⟨b, hb⟩ : ∃ b, b = a.each (upto 128) fun s k => s.setChan k fun c => { c with wordA := c.cyc.word } := ⟨_, rfl⟩
  rw [← hb] at hwords hat
  obtain ⟨q, hq⟩ := b.sendPeer_spec 0x02 (b.mirrorBody fun q => ts.getD q 0)
  obtain ⟨c, hc⟩ : ∃ c, c = b.sendPeer 0x02 (b.mirrorBody fun q => ts.getD q 0) := ⟨_, rfl⟩
  rw [← hc] at hq
  obtain ⟨r, hrd⟩ := c.sendPeer_spec 0x03 ((w.map fun w => leBytes 4 w).flatten)
  obtain ⟨d, hd⟩ : ∃ d, d = c.sendPeer 0x03 ((w.map fun w => leBytes 4 w).flatten) := ⟨_, rfl⟩
  rw [← hd] at hrd
  have htok : a.token = true := by
    unfold State.token
    rw [ha]
    exact ht
  have hab : b.sluice = a.sluice := hwords .sluice rfl
  have hbs : b.sent = s.sent := (hwords .sent rfl).trans (honly .sent rfl)
  have hlink : b.linkUp = s.linkUp := State.linkUp_congr ((hwords .desc rfl).trans (honly .desc rfl))
    (by rw [hab, ha]; rfl) (by rw [hab, ha]; rfl)
  have hclink : c.linkUp = b.linkUp := by rw [hq]; rfl
  have hbd : Only [.sluice, .sent] b d := by
    rw [hrd, hq]
    intro p hp
    cases p <;> first | rfl | exact absurd hp (by decide)
  have hfoot : Foot 0x400 d (d.each (upto 128) State.nextDutyCycle) :=
    .each .same fun _ _ h => (State.nextDutyCycle_foot _ _).after h
  refine ⟨d.each (upto 128) State.nextDutyCycle, b.peerFrame 0x02 (b.mirrorBody fun q => ts.getD q 0),
    c.peerFrame 0x03 ((w.map fun w => leBytes 4 w).flatten), next_congr ?_, ?_, fun k hk => ?_, ?_, ?_⟩
  · refine (if_pos ⟨hf, hp, hr⟩).trans ?_
    rw [hd, hc, hb, hw, ha]
    refine congrArg (fun t : State => t.each (upto 128) State.nextDutyCycle) (if_pos ?_)
    rw [ha] at htok
    exact htok
  · rw [hfoot.keeps .sluice, show d.sluice.strobe = b.sluice.strobe by rw [hrd, hq], hab, hstrobe]
  · rw [State.each_nextDutyCycle_wordA, State.chanAt, hbd .chan rfl, ← State.chanAt, hat k hk, State.chanAt,
      honly .chan rfl]
    rfl
  · rw [hfoot.keeps .sent, hrd]
    dsimp only
    rw [hclink, hq]
    dsimp only
    rw [hlink, hbs]
    split
    · exact List.append_assoc ..
    · rfl
  · exact ((honly.mono (by decide)).trans (hwords.mono (by decide))).trans
      ((hbd.mono (by decide)).trans (hfoot.onlyIn _))

/-- The refused challenge of doubted clusters, before the report (R405). -/
def State.referred (s : State) : State :=
  let x := s.each (upto 128) fun t k =>
    if bit s.sluice.doubted (quadrant k) then t.setChan k fun c => { c with runCounter := 0 } else t
  { x with sluice := { x.sluice with
    referred := x.sluice.referred ||| s.sluice.doubted, doubted := 0, testing := 0, cmpState := 4 } }

theorem State.refer_eq (s : State) : s.refer = (s.referred.raise 196 1 [byte s.sluice.doubted]).raiseDoubt := rfl

theorem State.referred_spec (s : State) :
    s.referred.sluice = { s.sluice with
      referred := s.sluice.referred ||| s.sluice.doubted, doubted := 0, testing := 0, cmpState := 4 } ∧
    (∀ k, k < 128 → s.sluice.doubted.testBit (quadrant k) = true → (s.referred.chanAt k).runCounter = 0) ∧
    Only [.chan, .sluice] s s.referred := by
  obtain ⟨f, hf⟩ : ∃ f : State → Nat → State, f = fun t k =>
    if bit s.sluice.doubted (quadrant k) then t.setChan k fun c => { c with runCounter := 0 } else t := ⟨_, rfl⟩
  obtain ⟨honly, hat⟩ := State.each_items State.chanAt f (fun t => s.ChansOnly t)
    (fun k c => if bit s.sluice.doubted (quadrant k) then { c with runCounter := 0 } else c) (fun t k ht => by
      rw [hf]
      dsimp only
      split
      · exact ⟨ht.setChan k _, fun j => State.chanAt_setChan t k _ j⟩
      · refine ⟨ht, fun j => ?_⟩
        split
        · next h => rw [h]
        · rfl) (upto 128) (nodup_upto 128) (.refl s)
  obtain ⟨x, hx⟩ : ∃ x, x = s.each (upto 128) f := ⟨_, rfl⟩
  rw [← hx] at honly hat
  have heq : s.referred = { x with sluice := { x.sluice with
      referred := x.sluice.referred ||| s.sluice.doubted, doubted := 0, testing := 0, cmpState := 4 } } := by
    rw [hx, hf]
    rfl
  have hsl : x.sluice = s.sluice := honly.only .sluice rfl
  refine ⟨?_, fun k hk hd => ?_, ?_⟩
  · rw [heq, hsl]
  · rw [heq]
    refine (congrArg Chan.runCounter ((hat k).trans ((if_pos (mem_upto.mpr hk)).trans (if_pos hd)))).trans rfl
  · rw [heq]
    refine Only.trans (honly.only.mono (by decide)) fun p hp => ?_
    cases p <;> first | rfl | exact absurd hp (by decide)

theorem execChallengeTimeout_refers {s : State} (hr : s.role = 2) (hc : s.sluice.cmpState = 1) (ht : s.sluice.tested = 0) :
    exec .challengeTimeout s = .next ((s.referred.raise 196 1 [byte s.sluice.doubted]).raiseDoubt) :=
  next_congr (if_pos ⟨hr, hc, ht⟩)

theorem setBit_two_pow (c : Nat) : setBit (2 ^ c) c false = 0 := by
  unfold setBit
  rw [Nat.testBit_two_pow_self]
  exact Nat.sub_self _

/-- The known-answer test of one second: its cluster is done, and a failed one is answered (R403). -/
theorem knownAnswerTest_selfTest {s : State} {c : Nat} {p : Bool} (ht : s.sluice.testing.testBit c = false)
    (hr : s.sluice.restoreTests = none) (hs : s.sluice.selfTest.testBit c = true) :
    ∃ x : State, exec (.knownAnswerTest c p) s = .next (if p then x else x.selfTestFailed c) ∧
      x.sluice = { s.sluice with selfTest := x.sluice.selfTest } ∧ x.sluice.selfTest.testBit c = false ∧
      (∀ i, i ≠ c → x.sluice.selfTest.testBit i = s.sluice.selfTest.testBit i) ∧ Only [.sluice] s x := by
  refine ⟨{ s with sluice := { s.sluice with selfTest := setBit s.sluice.selfTest c false } }, ?_, rfl, ?_, fun i hi => ?_,
    fun q hq => ?_⟩
  · unfold exec execKnownAnswerTest bit
    simp only [ht, hr, hs, if_true, if_false, Bool.false_eq_true]
  · refine (testBit_setBit ..).trans (if_pos rfl)
  · refine (testBit_setBit ..).trans (if_neg hi)
  · cases q <;> first | rfl | exact absurd hq (by decide)

/-- The last test of a challenge answers it (R404). -/
theorem knownAnswerTest_challenge {s x : State} {c : Nat} {p : Bool} (ht : s.sluice.testing = 2 ^ c)
    (hx : x = ({ s with sluice := { s.sluice with
        testing := 0, passed := s.sluice.passed ||| (if p then 2 ^ c else 0) } } : State).challengeTested)
    (hr : x.sluice.restoreTests = none) (hs : x.sluice.selfTest.testBit c = false) :
    exec (.knownAnswerTest c p) s = .next x := by
  have hb : s.sluice.testing.testBit c = true := by
    rw [ht]
    exact Nat.testBit_two_pow_self
  have h0 : setBit s.sluice.testing c false = 0 := by
    rw [ht]
    exact setBit_two_pow c
  unfold exec execKnownAnswerTest bit
  simp only [hb, h0, if_true]
  rw [← hx]
  simp only [hr, hs, if_false, Bool.false_eq_true]

/-- The end of a challenge's tests (R404, steps 2, 3 and 5). -/
theorem State.challengeTested_cases (s x : State)
    (hx : x = s.sendPeer 0x07 [byte s.sluice.tested, byte s.sluice.passed, 0, 0]) :
    (s.sluice.cmpState = 2 → s.sluice.passed = s.sluice.tested →
        s.challengeTested = { x with sluice := x.sluice.watch }) ∧
    (s.sluice.cmpState = 2 → s.sluice.passed ≠ s.sluice.tested → s.canYield = true → s.challengeTested =
        { x with sluice := x.sluice.watch }.yield 0x04 (s.sluice.tested - (s.sluice.tested &&& s.sluice.passed))) ∧
    (s.sluice.cmpState = 3 → s.sluice.passed ≠ s.sluice.tested → s.challengeTested =
        { x with sluice := ({ x.sluice with doubted := 0, withdrawn := true }).watch }) ∧
    (s.sluice.cmpState = 3 → s.sluice.passed = s.sluice.tested → s.challengeTested = x.refer) := by
  have hyield : ({ x with sluice := x.sluice.watch } : State).canYield = s.canYield := by
    obtain ⟨q, hq⟩ := s.sendPeer_spec 0x07 [byte s.sluice.tested, byte s.sluice.passed, 0, 0]
    rw [hx, hq]
    rfl
  have h3 : ∀ h : s.sluice.cmpState = 3, s.sluice.cmpState ≠ 2 := fun h => by rw [h]; decide
  unfold State.challengeTested
  dsimp only
  rw [← hx]
  refine ⟨fun hc hp => ?_, fun hc hp hy => ?_, fun hc hp => ?_, fun hc hp => ?_⟩
  · exact (if_pos hc).trans (if_neg fun h => h.1 hp)
  · exact (if_pos hc).trans (if_pos ⟨hp, hyield.trans hy⟩)
  · exact (if_neg (h3 hc)).trans (if_neg hp)
  · exact (if_neg (h3 hc)).trans (if_pos hp)

/-- A commit no longer waits for its partner's acknowledgement (R148). -/
theorem commitAckTimeout_waiting {s : State} (h : ∃ w ∈ s.waiting, w.what = .commitPartner) :
    exec .commitAckTimeout s = .next (s.commitProceeds.raise 199 1 []) :=
  next_congr (if_pos (List.any_eq_true.mpr (h.imp fun _ hw => ⟨hw.1, decide_eq_true hw.2⟩)))

theorem commitAckTimeout_none {s : State} (h : ∀ w ∈ s.waiting, w.what ≠ .commitPartner) : exec .commitAckTimeout s = .next s :=
  next_congr (if_neg fun ha => by
    obtain ⟨w, hw, hd⟩ := List.any_eq_true.mp ha
    exact h w hw (of_decide_eq_true hd))

/-- Power after a change of domains: the mode stays, and the monitors are judged anew. -/
theorem State.powerDomains_power (s : State) (d : Nat) : ∃ a b,
    (s.powerDomains d).power = { s.power with domains := d, armed := a, below := b } := by
  unfold State.powerDomains
  dsimp only
  generalize ha : ({ s with
    tide := _, fabric := _, eth := _, sluice := _, tw := _, gauge := _, otp := _ } : State) = a
  have hpow : a.power = s.power := by rw [← ha]
  generalize (upto 4).filter _ = l
  have hfoot : Foot 0x1000 a (a.each l fun s q => s.setCluster q fun c => { c with calibrating := true }) :=
    .each .same fun _ _ h => (State.setCluster_foot _ _ _).after h
  exact ⟨_, _, by
    rw [State.disarm, hfoot.keeps .power, hpow]⟩

theorem State.powerDomains_mode (s : State) (d : Nat) : (s.powerDomains d).mode = s.mode := by
  obtain ⟨a, b, h⟩ := s.powerDomains_power d
  exact (congrArg Power.mode h).trans rfl

/-- The pin as it stands now, and what its rise takes away. -/
def Sluice.presence (x : Sluice) (p : Bool) : Sluice :=
  if p then { x with presN := true, hello := false, pFit := 0, pMode := 0, pRole := 0, pDie := 0, pDesc := 0, peer := false }
  else { x with presN := false }

theorem execPeerPresence_eq (s : State) (p : Bool) : execPeerPresence p s = .next (
    let x := { s with sluice := s.sluice.presence p }
    let y := if x.mode.active then x.powerDomains x.activeDomains else x
    if y.mode.firmware then y.judgePeer else y) := by
  cases p <;> rfl

/-- A change of PEER_PRES_N in an active mode (R34, R390). -/
theorem peerPresence_active {s : State} (h : s.mode.active = true) (p : Bool) : ∃ x : State,
    exec (.peerPresence p) s = .next ((x.powerDomains x.activeDomains).judgePeer) ∧
    x.sluice.presN = p ∧ (p = true → x.sluice.hello = false ∧ x.sluice.peer = false) ∧ Only [.sluice] s x := by
  obtain ⟨x, hx⟩ : ∃ x, x = { s with sluice := s.sluice.presence p } := ⟨_, rfl⟩
  have hmode : x.mode = s.mode := by
    rw [hx]
    rfl
  refine ⟨x, (execPeerPresence_eq s p).trans ?_, ?_, fun hp => ?_, ?_⟩
  · dsimp only
    rw [← hx, show (if x.mode.active = true then x.powerDomains x.activeDomains else x) = x.powerDomains x.activeDomains from
      if_pos (by rw [hmode]; exact h)]
    refine next_congr (if_pos ?_)
    rw [State.powerDomains_mode, hmode]
    exact Mode.firmware_of_active h
  · rw [hx]
    cases p <;> rfl
  · rw [hx, hp]
    exact ⟨rfl, rfl⟩
  · rw [hx]
    intro q hq
    cases q <;> first | rfl | exact absurd hq (by decide)

theorem peerPresence_noFirmware {s : State} (h : s.mode.firmware = false) (p : Bool) :
    exec (.peerPresence p) s = .next { s with sluice := s.sluice.presence p } := by
  obtain ⟨x, hx⟩ : ∃ x, x = { s with sluice := s.sluice.presence p } := ⟨_, rfl⟩
  have hmode : x.mode = s.mode := by
    rw [hx]
    rfl
  have hact : ¬ x.mode.active = true := fun ha => by
    rw [← hmode, Mode.firmware_of_active ha] at h
    exact absurd h (by decide)
  refine (execPeerPresence_eq s p).trans ?_
  dsimp only
  rw [← hx, if_neg hact]
  refine next_congr (if_neg ?_)
  rw [hmode, h]
  exact Bool.false_ne_true

end Sys2Proof.Machine

namespace Sys2Proof
open Machine

/-- Settles O37: each row of the partner link evaluated on the conditions its clause names. -/
theorem partnerLinkAndTests : Obligations.PartnerLinkAndTests := by
  unfold Obligations.PartnerLinkAndTests
  intro s
  refine ⟨fun l hp hl => ?_, fun l hl => ?_, fun hf hp hlane => ?_, fun hf p => ?_, fun ha p => peerPresence_active ha p,
    fun ts hf hp hr ht => mirrorStrobe_active hf hp hr ht, fun ts hp => ?_, fun hr hc ht => ?_, fun hr => ?_,
    fun hf => next_congr (if_pos hf), fun hf => next_congr (if_neg (by rw [hf]; exact Bool.false_ne_true)),
    fun c p ht hr hs => knownAnswerTest_selfTest ht hr hs, fun c p x ht hx hr hs => knownAnswerTest_challenge ht hx hr hs,
    fun x hx => s.challengeTested_cases x hx, fun hw => ?_, commitAckTimeout_none⟩
  · obtain ⟨hlane, hother, honly⟩ := s.setPeerLane_spec hl fun l => { l with block := true }
    exact ⟨_, next_congr (if_pos ⟨hp, hl⟩), hlane, hother, honly⟩
  · obtain ⟨hlane, hother, honly⟩ := s.setPeerLane_spec hl fun _ => {}
    exact ⟨_, next_congr (if_pos hl), hlane, hother, honly⟩
  · refine ⟨_, s.fresh .unstated 0 % 2 ^ 32, next_congr (if_pos ?_), ?_, fun q hq => ?_⟩
    · unfold bit
      rw [hf, hp]
      rcases hlane with ⟨h, h'⟩ | ⟨h, h'⟩
      · rw [h, h']
        rfl
      · rw [h, h', Bool.and_self, Bool.or_true]
        rfl
    · rfl
    · cases q <;> first | rfl | exact absurd hq (by decide)
  · rw [peerPresence_noFirmware hf p]
    cases p <;> rfl
  · refine next_congr (if_neg fun h => ?_)
    rw [hp] at h
    exact absurd h.2.1 Bool.false_ne_true
  · obtain ⟨hsl, hrun, honly⟩ := s.referred_spec
    exact ⟨_, execChallengeTimeout_refers hr hc ht, hsl, hrun, honly⟩
  · exact next_congr (if_neg fun h => hr h.1)
  · refine ⟨_, commitAckTimeout_waiting hw, s.commitProceeds_waiting, List.length_map _, fun q hq => ?_⟩
    cases q <;> first | rfl | exact absurd hq (by decide)

end Sys2Proof
end

section
/-! PROOFS. The always-on controller: power domains, wake series and attempts (R42 to R49). -/
set_option Elab.async false
namespace Sys2Proof.Machine

theorem testBit_domainMap {l : List Nat} (hl : l.Nodup) (d : Nat) : (domainMap l).testBit d = decide (d ∈ l) := by
  induction l generalizing d with
  | nil => exact (Nat.zero_testBit d).trans rfl
  | cons n l ih =>
    obtain ⟨hn, hl⟩ := List.nodup_cons.mp hl
    have hbit : (domainMap l).testBit n = false := (ih hl n).trans (decide_eq_false hn)
    have heq : domainMap (n :: l) = setBit (domainMap l) n true := by
      rw [setBit, hbit, if_neg Bool.false_ne_true, if_pos rfl]
      exact Nat.add_comm ..
    rw [heq, testBit_setBit, ih hl]
    by_cases hd : d = n
    · rw [if_pos hd, hd]
      exact (decide_eq_true (List.mem_cons_self ..)).symm
    · rw [if_neg hd]
      exact decide_eq_decide.mpr ⟨List.mem_cons_of_mem _, fun h => (List.mem_cons.mp h).resolve_left hd⟩

/-- The blocks whose domain is not in `d` lose their state, and those that come up with a link or a RAM start (R43, R107). -/
def State.domainsOff (s : State) (d : Nat) : State :=
  { s with
    tide := if s.domain 14 && !bit d 14 then s.tide.fresh
      else if bit d 14 && !s.domain 14 then { s.tide with packetInit := true } else s.tide
    fabric := if s.domain 15 && !bit d 15 then
        { s.fabric with lane0 := {}, lane1 := {}, lane2 := {}, lane3 := {}, root := 0, depth := 0, parent := none, isRoot := false }
      else s.fabric
    eth := if s.domain 16 && !bit d 16 then { s.eth with l4 := {}, l5 := {}, master := none } else s.eth
    sluice := if s.domain 17 && !bit d 17 then s.sluice.linkOff
      else if bit d 17 then { s.sluice with linkPowered := true } else s.sluice
    tw := if s.domain 19 && !bit d 19 then s.tw.mapPorts (fun p => { alertLow := p.alertLow }) else s.tw
    gauge := if s.domain 13 && !bit d 13 then {} else s.gauge
    otp := if s.domain 20 && !bit d 20 then s.otp.interrupted else s.otp }

theorem State.powerDomains_eq (s : State) (d : Nat) : s.powerDomains d =
    (let x := (s.domainsOff d).each ((upto 4).filter fun q => bit d (8 + q) && !s.domain (8 + q)) fun s q =>
        s.setCluster q fun c => { c with calibrating := true }
     { x with power := { x.power with domains := d } }).disarm := rfl

/-- A change of domains that switches nothing off, nor the packet RAM, the partner link or an analog quadrant on, changes the power
alone. -/
theorem State.powerDomains_quiet {s : State} {d : Nat} (hoff : ∀ n, s.domain n = true → d.testBit n = true)
    (h14 : d.testBit 14 = false) (h17 : d.testBit 17 = false) (hq : ∀ q, q < 4 → d.testBit (8 + q) = false) :
    s.powerDomains d = ({ s with power := { s.power with domains := d } } : State).disarm := by
  have hn : ∀ n, (s.domain n && !bit d n) = false := fun n => by
    cases h : s.domain n with
    | false => rfl
    | true => rw [bit, hoff n h]; rfl
  have hfilter : ((upto 4).filter fun q => bit d (8 + q) && !s.domain (8 + q)) = [] := by
    rw [List.filter_eq_nil_iff]
    intro q hq'
    rw [bit, hq q (mem_upto.mp hq')]
    exact Bool.false_ne_true
  have hoff : s.domainsOff d = s := by
    have h14' : bit d 14 = false := h14
    have h17' : bit d 17 = false := h17
    unfold State.domainsOff
    rw [hn, hn, hn, hn, hn, hn, hn, h14', h17']
    rfl
  rw [State.powerDomains_eq, hfilter, hoff]
  rfl

theorem Only.disarm (s : State) : Only [.power] s s.disarm := fun p hp => by
  cases p <;> first | rfl | exact absurd hp (by decide)

/-! ### Wake series -/

/-- Word 7 is none of the words it seals. -/
theorem Retention.words_crc (r : Retention) (n : Nat) : ({ r with crc := n } : Retention).words = r.words := by
  cases r
  rfl

/-- Word 7 seals the words before it (R49). -/
theorem Retention.sealed_crc (r : Retention) : r.sealed.crc = crc32c ((r.sealed.words.map (leBytes 4)).flatten) := by
  unfold Retention.sealed
  generalize hc : crc32c ((r.words.map (leBytes 4)).flatten) = c
  rw [Retention.words_crc, hc]

/-- A series begins in the power part alone. -/
theorem State.beginSeries_eq (s : State) (k : SeriesKind) (src from_ : Nat) : s.beginSeries k src from_ = { s with power := { s.power with
    ret := Retention.sealed { s.power.ret with
      attempts := 1, fromMode := from_, source := src, attemptCodes := 0, prior := decide (s.power.ret.code ≠ 0) }
    wake := { s.power.wake with
      kind := k, pending := none, pendingReady := false, wakeIgnored := false, phase := .waitPg 0, crystalOn := true
      crystalReady := false }
    pwren := 1, pg := 0 } } := rfl

theorem Only.power (s : State) (p : Power) : Only [.power] s { s with power := p } := fun q hq => by
  cases q <;> first | rfl | exact absurd hq (by decide)

theorem Wake.active_idle {w : Wake} (h : w.phase = .idle) : w.active = false := by
  rw [Wake.active, h]

/-- A wake event admitted (R45). -/
theorem State.wakeEvent_begins {s : State} {b : Nat} (hasleep : s.mode.asleep = true) (hb : s.retained.wakeEnable.testBit b = true)
    (hsrc : s.mode = .stranded → b < 3 ∨ b = 4) (hidle : s.power.wake.phase = .idle) (hpend : s.power.wake.pending = none)
    (hreset : s.power.resetN = true) : s.wakeEvent b = s.beginSeries .wake (2 ^ b) s.modeCode := by
  refine if_pos ?_
  rw [hasleep, Wake.active_idle hidle, hpend, hreset]
  split
  · next h =>
    rcases hsrc h with h | rfl
    · rw [decide_eq_true h]
      rfl
    · rw [bit, hb]
      rfl
  · rw [bit, hb]
    rfl

/-- A wake event that its enable does not let through (R45). -/
theorem State.wakeEvent_none {s : State} {b : Nat} (hstr : s.mode ≠ .stranded) (hb : s.retained.wakeEnable.testBit b = false) :
    s.wakeEvent b = s := by
  refine if_neg ?_
  rw [if_neg hstr, bit, hb, Bool.and_false]
  exact Bool.false_ne_true

/-- A pending series that nothing holds starts (R75). -/
theorem State.startPending_begins {s : State} {k : SeriesKind} (hasleep : s.mode.asleep = true)
    (hpend : s.power.wake.pending = some k) (hscan : s.dbg.scanHold = false) (hready : s.power.wake.pendingReady = true)
    (hreset : s.power.resetN = true) (hinuv : s.power.inuvTripped = false) :
    s.startPending = s.beginSeries k (s.pendingSource k) s.power.wake.pendingFrom := by
  unfold State.startPending
  dsimp only
  rw [hpend]
  refine if_pos ?_
  rw [hasleep, hscan, hready, hreset, hinuv, Bool.not_false, Bool.or_true]
  rfl

theorem State.startPending_none {s : State} (hpend : s.power.wake.pending = none) : s.startPending = s := by
  unfold State.startPending
  dsimp only
  rw [hpend]

/-- The RTC runs in the retained part alone. -/
theorem State.rtcRuns_only (s : State) (ns : Nat) : Only [.retained] s (s.rtcRuns ns) := fun q hq => by
  cases q <;> first | rfl | exact absurd hq (by decide)

/-- What the state of a series that has just begun shows. -/
theorem State.beginSeries_shows (s : State) (k : SeriesKind) (src from_ : Nat) {t : State} (ht : t = s.beginSeries k src from_) :
    t.power.wake.phase = .waitPg 0 ∧ t.power.wake.kind = k ∧ t.power.pwren = 1 ∧
    t.power.pg = 0 ∧ t.power.wake.crystalOn = true ∧ t.power.wake.crystalReady = false ∧
    t.power.ret.attempts = 1 ∧ t.power.ret.source = src ∧ t.power.ret.fromMode = from_ ∧
    t.power.ret.attemptCodes = 0 ∧ t.power.ret.crc = crc32c ((t.power.ret.words.map (leBytes 4)).flatten) ∧
    t.mode = s.mode ∧ t.retained = s.retained ∧ t.power.wake.pending = none ∧ Only [.power] s t := by
  subst ht
  rw [State.beginSeries_eq]
  exact ⟨rfl, rfl, rfl, rfl, rfl, rfl, rfl, rfl, rfl, rfl, Retention.sealed_crc _, rfl, rfl, rfl, Only.power _ _⟩

end Sys2Proof.Machine

namespace Sys2Proof
open Machine

/-- Settles O14: an admitted wake event is the start of a series, whichever command brings it. -/
theorem wakeEventStartsSeries : Obligations.WakeEventStartsSeries := by
  unfold Obligations.WakeEventStartsSeries
  refine ⟨fun s h => next_congr (if_pos h), fun s i b hi hasleep hb hidle hpend hreset => ?_, fun s hasleep hstr hb => ?_⟩
  · have hbegin : ∀ (x t : State), x.power.mode = s.power.mode → x.power.wake = s.power.wake → x.power.resetN = s.power.resetN →
        x.retained.wakeEnable = s.retained.wakeEnable → (s.mode = .stranded → b < 3 ∨ b = 4) → x.wakeEvent b = t →
        t = x.beginSeries .wake (2 ^ b) s.mode.code := fun x t hm hw hr he hsrc ht => by
      have hmode : x.mode = s.mode := hm
      rw [← ht, State.wakeEvent_begins (by rw [hmode]; exact hasleep) (by rw [he]; exact hb) (by rw [hmode]; exact hsrc)
        (by rw [hw]; exact hidle) (by rw [hw]; exact hpend) (by rw [hr]; exact hreset), State.modeCode, hm]
      rfl
    rcases hi with ⟨rfl, rfl⟩ | ⟨rfl, rfl, halarm, hstr⟩ | ⟨rfl, rfl, hinuv⟩
    · obtain ⟨x, hx⟩ : ∃ x : State, x = { s with power := { s.power with wakeN := false } } := ⟨_, rfl⟩
      have honly : Only [.power] s x := by
        rw [hx]
        exact Only.power _ _
      obtain ⟨h1, h2, h3, h4, h5, h6, h7, h8, h9, h10, h11, h12, h13, -, h15⟩ := x.beginSeries_shows .wake (2 ^ 0) s.mode.code
        (hbegin x _ (by rw [hx]) (by rw [hx]) (by rw [hx]) (by rw [hx]) (fun _ => .inl (by decide)) rfl)
      exact ⟨x.wakeEvent 0, by rw [hx]; rfl, h1, h2, h3, h4, h5, h6, h7, h8, h9, h10, h11,
        h12.trans (by rw [hx]; rfl), fun _ => h13.trans (honly .retained rfl), (by intro h; cases h),
        (honly.mono (by decide)).trans (h15.mono (by decide))⟩
    · obtain ⟨x, hx⟩ : ∃ x : State, x = { s.rtcRuns s.retained.alarmNs with
          retained := { (s.rtcRuns s.retained.alarmNs).retained with alarmNs := 0 } } := ⟨_, rfl⟩
      have honly : Only [.retained] s x := by
        rw [hx]
        intro q hq
        cases q <;> first | rfl | exact absurd hq (by decide)
      have hmode : s.mode = .keep ∨ s.mode = .gaugeWatch := by
        revert hasleep hstr
        cases s.mode <;> intro hasleep hstr
        all_goals first | exact .inl rfl | exact .inr rfl | exact absurd rfl hstr | exact absurd hasleep Bool.false_ne_true
      obtain ⟨h1, h2, h3, h4, h5, h6, h7, h8, h9, h10, h11, h12, h13, -, h15⟩ := x.beginSeries_shows .wake (2 ^ 3) s.mode.code
        (hbegin x _ (by rw [hx]; rfl) (by rw [hx]; rfl) (by rw [hx]; rfl) (by rw [hx]; rfl) (fun h => absurd h hstr) rfl)
      refine ⟨x.wakeEvent 3, next_congr ((if_pos ⟨hmode, halarm, hb⟩).trans (by rw [hx])), h1, h2, h3, h4, h5, h6, h7, h8, h9, h10, h11,
        h12.trans (by rw [hx]; rfl), fun h => absurd rfl h, fun _ => h13.trans (by rw [hx]; rfl),
        (honly.mono (by decide)).trans (h15.mono (by decide))⟩
    · obtain ⟨x, hx⟩ : ∃ x : State, x = { s with power := { s.power with inuvTripped := false } } := ⟨_, rfl⟩
      have honly : Only [.power] s x := by
        rw [hx]
        exact Only.power _ _
      have hgasp : ¬ x.mode = .lastGasp := fun h => by
        rw [show s.mode = .lastGasp by rw [hx] at h; exact h] at hasleep
        exact absurd hasleep Bool.false_ne_true
      have hpend' : ¬ x.power.wake.pending.isSome = true := by
        rw [hx]
        show ¬ s.power.wake.pending.isSome = true
        rw [hpend]
        exact Bool.false_ne_true
      obtain ⟨h1, h2, h3, h4, h5, h6, h7, h8, h9, h10, h11, h12, h13, -, h15⟩ := x.beginSeries_shows .wake (2 ^ 4) s.mode.code
        (hbegin x _ (by rw [hx]) (by rw [hx]) (by rw [hx]) (by rw [hx]) (fun _ => .inr rfl) rfl)
      refine ⟨x.wakeEvent 4, next_congr ((if_pos hinuv).trans ?_), h1, h2, h3, h4, h5, h6, h7, h8, h9, h10, h11,
        h12.trans (by rw [hx]; rfl), fun _ => h13.trans (honly .retained rfl), (by intro h; cases h),
        (honly.mono (by decide)).trans (h15.mono (by decide))⟩
      subst hx
      exact (if_neg hgasp).trans (if_neg hpend')
  · exact next_congr (State.wakeEvent_none hstr hb)

end Sys2Proof
end

section
/-! PROOFS. The steps and failures of a wake attempt (R46 to R49). -/
set_option Elab.async false
namespace Sys2Proof.Machine

theorem State.wakeGauge_awake {s : State} (h : s.gauge.hib = false) (rtc late : Nat) : s.wakeGauge rtc late = s :=
  if_neg (by rw [h]; exact Bool.false_ne_true)

theorem State.disarm_eq (s : State) : ∃ a b, s.disarm = { s with power := { s.power with armed := a, below := b } } := ⟨_, _, rfl⟩

/-- The power part once the enables have fallen (R43). -/
def Power.dropped (p : Power) (d a b : Nat) : Power :=
  { p with wake := { p.wake with crystalOn := false, crystalReady := false }, pwren := 0, pg := 0, bankMeasured := false
           domains := d, armed := a, below := b }

theorem State.dropEnables_power (s : State) : ∃ d a b, s.dropEnables.power = s.power.dropped d a b := by
  obtain ⟨x, hx⟩ : ∃ x : State, x = { s with power := { s.power with
    wake := { s.power.wake with crystalOn := false, crystalReady := false }, pwren := 0, pg := 0, bankMeasured := false } } := ⟨_, rfl⟩
  obtain ⟨a, b, h⟩ := x.powerDomains_power (domainMap (if x.power.mode = Mode.gaugeWatch then [1, 13] else [1]))
  refine ⟨domainMap (if x.power.mode = Mode.gaugeWatch then [1, 13] else [1]), a, b, ?_⟩
  rw [hx] at h ⊢
  exact h

/-- Where only the always-on domain and a watched gauge are powered, the fall of the enables changes the power alone. -/
theorem State.dropEnables_asleep {s : State} (hd : ∀ d, s.domain d = true → d = 1 ∨ (d = 13 ∧ s.mode = .gaugeWatch)) :
    ∃ d a b, s.dropEnables = { s with power := s.power.dropped d a b } := by
  obtain ⟨x, hx⟩ : ∃ x : State, x = { s with power := { s.power with
    wake := { s.power.wake with crystalOn := false, crystalReady := false }, pwren := 0, pg := 0, bankMeasured := false } } := ⟨_, rfl⟩
  obtain ⟨l, hl⟩ : ∃ l, l = if s.mode = Mode.gaugeWatch then [1, 13] else [1] := ⟨_, rfl⟩
  have hnodup : l.Nodup := by
    rw [hl]
    split <;> decide
  have hmem : ∀ n, n ∈ l ↔ n = 1 ∨ (n = 13 ∧ s.mode = .gaugeWatch) := fun n => by
    rw [hl]
    split
    · next h => simp [h]
    · next h => simp [h]
  have hno : ∀ n, n ≠ 1 → n ≠ 13 → (domainMap l).testBit n = false := fun n h1 h13 => by
    rw [testBit_domainMap hnodup]
    exact decide_eq_false fun h => ((hmem n).mp h).elim h1 fun h => h13 h.1
  have hquiet : x.powerDomains (domainMap l) = ({ x with power := { x.power with domains := domainMap l } } : State).disarm :=
    State.powerDomains_quiet (fun n hn => by
      rw [testBit_domainMap hnodup]
      refine decide_eq_true ((hmem n).mpr (hd n ?_))
      rw [hx] at hn
      exact hn) (hno 14 (by decide) (by decide)) (hno 17 (by decide) (by decide))
      fun q hq => hno (8 + q) (by omega) (by omega)
  have heq : s.dropEnables = x.powerDomains (domainMap l) := by
    rw [hl, hx]
    rfl
  obtain ⟨a, b, hdis⟩ := ({ x with power := { x.power with domains := domainMap l } } : State).disarm_eq
  refine ⟨domainMap l, a, b, heq.trans (hquiet.trans (hdis.trans ?_))⟩
  rw [hx]
  rfl

/-- The retention words of a failure (R49). -/
def Retention.failed (r : Retention) (code rtc pwren pg : Nat) (attempt : Bool) : Retention :=
  Retention.sealed { r with
    code := code, lastFailNs := rtc, pwrenState := pwren, pgState := pg
    firstFailS := if decide (r.attemptCodes = 0) then rtc / 1000000000 % 2 ^ 32 else r.firstFailS
    prior := if decide (r.attemptCodes = 0) then false else r.prior
    attemptCodes := if attempt then setBits r.attemptCodes (8 * r.attempts - 1) (8 * r.attempts - 8) code else r.attemptCodes }

theorem State.noteFailure_eq (s : State) (code : Nat) (attempt : Bool) : s.noteFailure code attempt = { s with power := { s.power with
    ret := s.power.ret.failed code s.retained.rtcNs s.power.pwren s.power.pg attempt } } := rfl

/-- What a failure leaves in the retention words. -/
theorem Retention.failed_spec (r : Retention) (code rtc pwren pg : Nat) (attempt : Bool) :
    (r.failed code rtc pwren pg attempt).code = code ∧ (r.failed code rtc pwren pg attempt).lastFailNs = rtc ∧
    (r.failed code rtc pwren pg attempt).attempts = r.attempts ∧ (r.failed code rtc pwren pg attempt).pwrenState = pwren ∧
    (r.failed code rtc pwren pg attempt).strandedCount = r.strandedCount := ⟨rfl, rfl, rfl, rfl, rfl⟩

/-- The power part as the chip enters a mode without firmware, and what stays of the rest (R43). -/
theorem State.sleep_spec (s : State) (m : Mode) :
    (s.sleep m).mode = m ∧ (s.sleep m).power.fromMode = s.mode ∧
    (s.sleep m).power.retainedMode = (if m = .stranded then s.power.retainedMode else s.mode) ∧
    (s.sleep m).power.pwren = 0 ∧ (s.sleep m).power.wake = { s.power.wake with phase := .idle, crystalOn := false, crystalReady := false } ∧
    (s.sleep m).power.domains = domainMap (if decide (m = .gaugeWatch) then [1, 13] else [1]) ∧ (s.sleep m).power.alive = false ∧
    (s.sleep m).power.ret = s.power.ret ∧ (s.sleep m).power.cause = s.power.cause ∧
    (s.sleep m).retained = s.retained ∧ (s.sleep m).host = s.host.unpowered ∧ (s.sleep m).log = s.log.unpowered ∧
    (s.sleep m).desc = s.desc.unpowered ∧ (s.sleep m).chan = chanUnpowered s.chan ∧ (s.sleep m).pending = s.pending := by
  have hw : ∃ g, s.wakeGauge s.retained.rtcNs 0 = { s with gauge := g } := by
    unfold State.wakeGauge
    split
    · exact ⟨_, rfl⟩
    · exact ⟨s.gauge, rfl⟩
  obtain ⟨g, hg⟩ := hw
  unfold State.sleep
  dsimp only
  rw [hg]
  exact ⟨rfl, rfl, rfl, rfl, rfl, rfl, rfl, rfl, rfl, rfl, rfl, rfl, rfl, rfl, rfl⟩

/-- A failed attempt (R47) where only what sleeps is powered: the enables are low and the failure stands in the retention words. -/
theorem State.failAttempt_begins {s : State} (code : Nat)
    (hd : ∀ d, s.domain d = true → d = 1 ∨ (d = 13 ∧ s.mode = .gaugeWatch)) : ∃ x : State,
    s.failAttempt code = (if 4 ≤ s.power.ret.attempts then x.strand else x.setWake fun w => { w with phase := .spacing }) ∧
    x.power.pwren = 0 ∧ x.power.wake.crystalOn = false ∧ x.power.wake.crystalReady = false ∧ x.mode = s.mode ∧
    x.power.ret = s.power.ret.failed code s.retained.rtcNs s.power.pwren s.power.pg true ∧ Only [.power] s x := by
  obtain ⟨d, a, b, hdrop⟩ := State.dropEnables_asleep (s := s.noteFailure code true) hd
  refine ⟨(s.noteFailure code true).dropEnables, ?_, ?_, ?_, ?_, ?_, ?_, ?_⟩
  · rw [State.failAttempt, hdrop]
    rfl
  all_goals rw [hdrop]
  · rfl
  · rfl
  · rfl
  · rfl
  · rfl
  · exact Only.power _ _

/-- The fall of the power into Stranded (R48). -/
theorem State.strand_spec (s : State) : s.strand.mode = .stranded ∧ s.strand.power.wake.phase = .idle ∧ s.strand.power.pwren = 0 ∧
    s.strand.power.ret.code = s.power.ret.code ∧ s.strand.power.ret.stranded = true ∧
    s.strand.power.ret.strandedCount = min 0xFFFF (s.power.ret.strandedCount + 1) ∧ s.strand.retained = s.retained := by
  obtain ⟨x, hx⟩ : ∃ x, x = s.setRet fun r => { r with stranded := true, strandedCount := min 0xFFFF (r.strandedCount + 1) } := ⟨_, rfl⟩
  obtain ⟨hmode, -, -, hpwren, -, -, -, hret, -, hretd, -⟩ := x.sleep_spec .stranded
  have heq : s.strand = (x.sleep .stranded).setWake fun w => { w with phase := .idle, pending := none, pendingReady := false } := by
    rw [hx]
    rfl
  have hpow : s.strand.power = { (x.sleep .stranded).power with
      wake := { (x.sleep .stranded).power.wake with phase := .idle, pending := none, pendingReady := false } } := by
    rw [heq]
    rfl
  have hr : s.strand.power.ret = x.power.ret := by
    rw [hpow]
    exact hret
  refine ⟨?_, ?_, ?_, ?_, ?_, ?_, ?_⟩
  · rw [State.mode, hpow]
    exact hmode
  · rw [hpow]
  · rw [hpow]
    exact hpwren
  · rw [hr, hx]
    rfl
  · rw [hr, hx]
    rfl
  · rw [hr, hx]
    rfl
  · rw [heq]
    refine Eq.trans (b := (x.sleep .stranded).retained) rfl (hretd.trans ?_)
    rw [hx]
    rfl

/-- A PG or the crystal that does not come is a failed attempt with its code (R46, R47). -/
theorem failAttempt_of_timeout {s : State} {i : Instr} {code ns : Nat}
    (h : (∃ n, n < 4 ∧ i = .pgTimeout n ns ∧ s.power.wake.phase = .waitPg n ∧ code = n + 1) ∨
      (i = .crystalTimeout ns ∧ s.power.wake.crystalOn = true ∧ s.power.wake.crystalReady = false ∧ code = 5)) :
    exec i s = .next ((s.rtcRuns ns).failAttempt code) := by
  rcases h with ⟨n, hn, rfl, hphase, rfl⟩ | ⟨rfl, hon, hready, rfl⟩
  · exact next_congr (if_pos ⟨hphase, hn⟩)
  · refine next_congr (if_pos ?_)
    rw [hon, hready]
    rfl

theorem State.wakeRetry_begins {t : State} (h : t.power.wake.phase = .spacing) : ∃ u, exec .wakeRetry t = .next u ∧
    u.power.ret.attempts = t.power.ret.attempts + 1 ∧ u.power.wake.phase = .waitPg 0 ∧ u.power.pwren = 1 ∧ Only [.power] t u :=
  ⟨(t.setRet fun r => { r with attempts := r.attempts + 1 }).beginAttempt, next_congr (if_pos h), rfl, rfl, rfl, Only.power _ _⟩

/-- The domains of Boot come up (R46, step 7). -/
theorem domainSwitchOn_spec {s : State} (hphase : s.power.wake.phase = .switching)
    (hd : ∀ d, s.domain d = true → d = 1 ∨ d = 13) : ∃ t, exec .domainSwitchOn s = .next t ∧
    (∀ d, t.domain d = decide (d ∈ [1, 2, 3, 13, 18, 20])) ∧ t.power.wake.phase = .releasing ∧
    (s.domain 13 = true → t.gauge = s.gauge ∧ t.freeCount = s.freeCount) ∧
    (s.domain 13 = false → t.gauge = { session := s.fresh .random 0 % 2 ^ 32 } ∧ t.freeCount = s.freeCount + 1) ∧
    Only [.power, .gauge, .freeCount] s t := by
  have hnodup : [1, 2, 3, 13, 18, 20].Nodup := by decide
  obtain ⟨v, hv⟩ : ∃ v, v = s.fresh .random 0 % 2 ^ 32 := ⟨_, rfl⟩
  obtain ⟨x, hx⟩ : ∃ x : State, x = if s.domain 13 then s else { s.used with gauge := { session := v } } := ⟨_, rfl⟩
  obtain ⟨l, hl⟩ : ∃ l, l = domainMap [1, 2, 3, 13, 18, 20] := ⟨_, rfl⟩
  have hbit : ∀ d, l.testBit d = decide (d ∈ [1, 2, 3, 13, 18, 20]) := fun d => by
    rw [hl]
    exact testBit_domainMap hnodup d
  have hpow : x.power = s.power := by
    rw [hx]
    split <;> rfl
  have hquiet : x.powerDomains l = ({ x with power := { x.power with domains := l } } : State).disarm :=
    State.powerDomains_quiet (fun n hn => by
      rw [hbit]
      rcases hd n (by rw [State.domain, ← hpow]; exact hn) with rfl | rfl <;> decide) (by rw [hbit]; decide) (by rw [hbit]; decide)
      fun q hq => by
        rw [hbit]
        revert q
        decide
  refine ⟨(x.powerDomains l).setWake fun w => { w with phase := .releasing }, next_congr ((if_pos hphase).trans ?_), ?_, rfl, ?_, ?_, ?_⟩
  · rw [hx, hl, hv]
  · rw [hquiet]
    exact hbit
  all_goals rw [hquiet]
  · intro h
    rw [hx, if_pos h]
    exact ⟨rfl, rfl⟩
  · intro h
    rw [hx, if_neg (by rw [h]; exact Bool.false_ne_true), ← hv]
    exact ⟨rfl, rfl⟩
  · refine Only.trans (t := x) ?_ ((Only.power _ _).mono (by decide))
    rw [hx]
    intro q hq
    split
    · exact Only.refl _ s q hq
    · cases q <;> first | rfl | exact absurd hq (by decide)

end Sys2Proof.Machine

namespace Sys2Proof
open Machine

/-- Settles O15: each step of an attempt, and a failure as the fall of the enables with its retention words. -/
theorem wakeAttemptReachesBootOrFails : Obligations.WakeAttemptReachesBootOrFails := by
  unfold Obligations.WakeAttemptReachesBootOrFails
  refine ⟨fun s => ⟨fun n banks hn hphase => ?_, fun banks hphase => ?_, fun n banks hn hphase => ?_, fun hon => ?_,
    fun hphase hd => domainSwitchOn_spec hphase hd, fun ns hphase hhib => ?_⟩, fun s i code ns hd hi => ⟨fun hlt => ?_, fun hge => ?_⟩⟩
  · refine next_congr ((if_pos (by omega)).trans ?_)
    unfold State.pgGood
    dsimp only
    rw [if_neg (show ¬ n = 3 by omega), if_neg (not_not_intro hphase), if_neg (show ¬ n = 3 by omega)]
    rfl
  · refine next_congr ((if_pos (by omega)).trans ?_)
    unfold State.pgGood State.measureBanks
    dsimp only
    rw [if_pos rfl, if_neg (not_not_intro hphase), if_pos rfl]
    rfl
  · refine next_congr ((if_pos (by omega)).trans ?_)
    unfold State.pgGood
    dsimp only
    rw [if_neg (show ¬ n = 3 by omega), if_pos hphase]
  · refine next_congr ((if_pos hon).trans ?_)
    by_cases h : s.power.wake.phase = .waitCrystal
    · rw [if_pos h]
      exact if_pos h
    · rw [if_neg h]
      exact if_neg h
  · obtain ⟨x, hx⟩ : ∃ x, x = s.rtcRuns ns := ⟨_, rfl⟩
    have hgauge : x.wakeGauge x.retained.rtcNs 0 = x := State.wakeGauge_awake (by rw [hx]; exact hhib) _ _
    obtain ⟨t, ht⟩ : ∃ t : State, t = { x with power := { x.power with
      ret := Retention.sealed { x.power.ret with stranded := false }, wake := { x.power.wake with phase := .idle }
      mode := .boot, fromMode := x.mode, modeEpoch := x.clocks.epoch } } := ⟨_, rfl⟩
    refine ⟨t, ?_, next_congr ((if_pos hphase).trans ?_), ?_, ?_, ?_, ?_, ?_, ?_, ?_⟩
    · rw [ht]
      exact Only.trans (t := x) (by rw [hx]; exact (s.rtcRuns_only ns).mono (by decide)) ((Only.power _ _).mono (by decide))
    · dsimp only
      rw [← hx, hgauge, ht, hx]
      rfl
    all_goals rw [ht, hx] <;> rfl
  · obtain ⟨x, hfail, hpwren, hon, -, hmode, hret, honly⟩ := State.failAttempt_begins (s := s.rtcRuns ns) code hd
    rw [if_neg (show ¬ 4 ≤ (s.rtcRuns ns).power.ret.attempts from Nat.not_le.mpr hlt)] at hfail
    obtain ⟨hcode, hlast, hatt, hpw, -⟩ := Retention.failed_spec s.power.ret code (s.rtcRuns ns).retained.rtcNs s.power.pwren s.power.pg true
    have hret' : (x.setWake fun w => { w with phase := .spacing }).power.ret =
      s.power.ret.failed code (s.rtcRuns ns).retained.rtcNs s.power.pwren s.power.pg true := hret
    obtain ⟨u, hu, huatt, huphase, hupwren, huonly⟩ := State.wakeRetry_begins (t := x.setWake fun w => { w with phase := .spacing }) rfl
    refine ⟨_, (failAttempt_of_timeout hi).trans (congrArg _ hfail), rfl, hpwren, hon, ?_, ?_, ?_, ?_, hmode, ?_, ?_, u, hu, ?_,
      huphase, hupwren, huonly⟩
    · rw [hret', hcode]
    · rw [hret', hlast]
      rfl
    · rw [hret', hatt]
    · rw [hret', hpw]
    · exact ((s.rtcRuns_only ns).mono (by decide)).trans ((honly.trans (Only.power _ _)).mono (by decide))
    · exact honly .retained rfl
    · rw [huatt, hret', hatt]
  · obtain ⟨x, hfail, -, -, -, -, hret, honly⟩ := State.failAttempt_begins (s := s.rtcRuns ns) code hd
    rw [if_pos (show 4 ≤ (s.rtcRuns ns).power.ret.attempts from hge)] at hfail
    obtain ⟨hmode, hphase, hpwren, hcode, hstr, hcount, hretd⟩ := x.strand_spec
    refine ⟨x.strand, (failAttempt_of_timeout hi).trans (congrArg _ hfail), hmode, hphase, hpwren, ?_, hstr, ?_, ?_⟩
    · rw [hcode, hret]
      rfl
    · rw [hcount, hret]
      rfl
    · rw [hretd]
      exact honly .retained rfl

end Sys2Proof
end

section
/-! PROOFS. Chip resets, and what a power-on reset leaves (R74 to R78). -/
set_option Elab.async false
namespace Sys2Proof.Machine

/-- Every channel without power is low. -/
theorem chanUnpowered_low (t : Tab Chan) (c : Nat) : (Tab.get {} (chanUnpowered t) c).drive = .off ∧
    (Tab.get {} (chanUnpowered t) c).pen = false := by
  unfold chanUnpowered
  rw [Tab.get_mapVals {} (fun _ c => { flt := c.flt }) t c rfl]
  exact ⟨rfl, rfl⟩

/-- The chip in Keep with the wake series of the reset pending (R75). -/
theorem State.resetToKeep_spec (s : State) (m : Nat) :
    (s.resetToKeep m).mode = .keep ∧ (s.resetToKeep m).power.fromMode = s.mode ∧ (s.resetToKeep m).power.retainedMode = s.mode ∧
    (s.resetToKeep m).power.pwren = 0 ∧ (s.resetToKeep m).power.domains = 2 ∧ (s.resetToKeep m).power.alive = false ∧
    (s.resetToKeep m).host.hrdy = false ∧ (s.resetToKeep m).power.cause = s.power.cause ∧
    (s.resetToKeep m).power.wake.pending = some .chipReset ∧ (s.resetToKeep m).power.wake.pendingFrom = m ∧
    (s.resetToKeep m).power.wake.pendingReady = false ∧ (s.resetToKeep m).retained = s.retained ∧
    (s.resetToKeep m).log.store = s.log.cutBurst ∧ (s.resetToKeep m).desc.store0 = s.desc.store0 ∧
    (s.resetToKeep m).desc.store1 = s.desc.store1 ∧
    (∀ c, ((s.resetToKeep m).chanAt c).drive = .off ∧ ((s.resetToKeep m).chanAt c).pen = false) ∧
    (s.resetToKeep m).pending = s.pending := by
  obtain ⟨hmode, hfrom, hretained, hpwren, -, hdom, halive, -, hcause, hretd, hhost, hlog, hdesc, hchan, hpend⟩ := s.sleep_spec .keep
  have hheq : ∃ e, s.resetToKeep m = { s.sleep .keep with
      eth := e
      power := { (s.sleep .keep).power with
        wake := { (s.sleep .keep).power.wake with pending := some .chipReset, pendingFrom := m, pendingReady := false } } } :=
    ⟨_, rfl⟩
  obtain ⟨e, heq⟩ := hheq
  rw [heq]
  generalize s.sleep .keep = x at hmode hfrom hretained hpwren hdom halive hcause hretd hhost hlog hdesc hchan hpend
  refine ⟨hmode, hfrom, hretained, hpwren, hdom.trans rfl, halive, ?_, hcause, rfl, rfl, rfl, hretd, ?_, ?_, ?_, fun c => ?_, hpend⟩
  · show x.host.hrdy = false
    rw [hhost]
    rfl
  · show x.log.store = _
    rw [hlog]
    rfl
  · show x.desc.store0 = _
    rw [hdesc]
    rfl
  · show x.desc.store1 = _
    rw [hdesc]
    rfl
  · show (Tab.get {} x.chan c).drive = .off ∧ (Tab.get {} x.chan c).pen = false
    rw [hchan]
    exact chanUnpowered_low s.chan c

/-- An immediate chip reset from a firmware mode but Last-gasp, none being under way (R75). -/
theorem State.chipResetNow_eq {s : State} (hf : s.mode.firmware = true) (hg : s.mode ≠ .lastGasp) (hc : s.power.chipReset = none)
    (cause : Nat) : s.chipResetNow cause = ((s.lowAll .off).noteReset cause 0 false s.mode.code).resetToKeep s.mode.code := by
  refine (if_pos ?_).trans ?_
  · rw [State.resettable, hf, decide_eq_true hg]
    rfl
  · dsimp only
    rw [hc]
    rfl

/-- What an immediate chip reset leaves (R75, R78). -/
theorem State.chipResetNow_spec {s : State} (hf : s.mode.firmware = true) (hg : s.mode ≠ .lastGasp) (hc : s.power.chipReset = none)
    {cause : Nat} (hcause : cause ≠ 5) {t : State} (ht : t = s.chipResetNow cause) :
    t.mode = .keep ∧ t.power.fromMode = s.mode ∧ t.power.retainedMode = s.mode ∧
      t.power.pwren = 0 ∧ t.power.domains = 2 ∧ t.power.alive = false ∧ t.host.hrdy = false ∧
      t.power.cause = { faultSrc := 0, fromMode := s.mode.code, count := min 255 (s.power.cause.count + 1)
                        orderly := false, cause := cause } ∧
      t.power.wake.pending = some .chipReset ∧ t.power.wake.pendingFrom = s.mode.code ∧
      t.power.wake.pendingReady = false ∧ t.retained = s.retained ∧ t.log.store = s.log.cutBurst ∧
      t.desc.store0 = s.desc.store0 ∧ t.desc.store1 = s.desc.store1 ∧ (∀ c, (t.chanAt c).drive = .off ∧
        (t.chanAt c).pen = false) ∧ t.pending = s.pending := by
  rw [ht, State.chipResetNow_eq hf hg hc]
  have hlow := s.lowAll_foot .off
  obtain ⟨a, ha⟩ : ∃ a, a = s.lowAll .off := ⟨_, rfl⟩
  rw [← ha] at hlow
  obtain ⟨x, hx⟩ : ∃ x, x = a.noteReset cause 0 false s.mode.code := ⟨_, rfl⟩
  have hax : x = { a with power := { a.power with cause :=
      { faultSrc := 0, fromMode := s.mode.code, count := min 255 (a.power.cause.count + 1), orderly := false, cause := cause } } } := by
    rw [hx, State.noteReset, if_neg hcause]
  obtain ⟨h1, h2, h3, h4, h5, h6, h7, h8, h9, h10, h11, h12, h13, h14, h15, h16, h17⟩ := x.resetToKeep_spec s.mode.code
  have hpow : a.power = s.power := hlow.keeps .power
  have hmode : x.mode = s.mode := by
    rw [hax]
    show a.power.mode = s.power.mode
    rw [hpow]
  rw [← ha, ← hx]
  refine ⟨h1, h2.trans hmode, h3.trans hmode, h4, h5, h6, h7, h8.trans ?_, h9, h10, h11, h12.trans ?_, h13.trans ?_, h14.trans ?_,
    h15.trans ?_, h16, h17.trans ?_⟩
  · rw [hax, hpow]
  · rw [hax]
    exact hlow.keeps .retained
  · rw [hax]
    exact congrArg Logbook.cutBurst (hlow.keeps .log)
  · rw [hax]
    exact congrArg Desc.store0 (hlow.keeps .desc)
  · rw [hax]
    exact congrArg Desc.store1 (hlow.keeps .desc)
  · rw [hax]
    exact hlow.keeps .pending

/-- The triggers of an immediate chip reset (R53, R75): the state in which it begins differs in a pin or a PG only. -/
theorem chipResetNow_of_trigger {s : State} {i : Instr} {cause : Nat}
    (hi : (i = .resetNLow ∧ s.power.wake.phase = .idle ∧ cause = 1) ∨ (∃ n, i = .pgLost n ∧ cause = 3) ∨
      (∃ m, i = .supplyReset m ∧ s.power.armed.testBit m = true ∧ s.monitorPowered m = true ∧ m ≠ 20 ∧ cause = 2)) :
    ∃ r g, exec i s = .next (({ s with power := { s.power with resetN := r, pg := g } } : State).chipResetNow cause) ∧ cause ≠ 5 := by
  rcases hi with ⟨rfl, hidle, rfl⟩ | ⟨n, rfl, rfl⟩ | ⟨m, rfl, harmed, hpowered, hm, rfl⟩
  · refine ⟨false, s.power.pg, next_congr (if_neg ?_), by decide⟩
    rw [Wake.active_idle hidle]
    exact Bool.false_ne_true
  · exact ⟨s.power.resetN, setBit s.power.pg n false, rfl, by decide⟩
  · refine ⟨s.power.resetN, s.power.pg, next_congr (if_pos ?_), by decide⟩
    rw [bit, harmed, hpowered, decide_eq_true hm]
    rfl

/-- An immediate chip reset, whatever triggers it (R53, R75). -/
theorem chipReset_triggered {s : State} {i : Instr} {cause : Nat} (hf : s.mode.firmware = true) (hg : s.mode ≠ .lastGasp)
    (hc : s.power.chipReset = none)
    (hi : (i = .resetNLow ∧ s.power.wake.phase = .idle ∧ cause = 1) ∨ (∃ n, i = .pgLost n ∧ cause = 3) ∨
      (∃ m, i = .supplyReset m ∧ s.power.armed.testBit m = true ∧ s.monitorPowered m = true ∧ m ≠ 20 ∧ cause = 2)) :
    ∃ t, exec i s = .next t ∧ t.mode = .keep ∧ t.power.fromMode = s.mode ∧ t.power.retainedMode = s.mode ∧
      t.power.pwren = 0 ∧ t.power.domains = 2 ∧ t.power.alive = false ∧ t.host.hrdy = false ∧
      t.power.cause = { faultSrc := 0, fromMode := s.mode.code, count := min 255 (s.power.cause.count + 1)
                        orderly := false, cause := cause } ∧
      t.power.wake.pending = some .chipReset ∧ t.power.wake.pendingFrom = s.mode.code ∧
      t.power.wake.pendingReady = false ∧ t.retained = s.retained ∧ t.log.store = s.log.cutBurst ∧
      (s.log.burst = none → t.log.store = s.log.store) ∧
      t.desc.store0 = s.desc.store0 ∧ t.desc.store1 = s.desc.store1 ∧ (∀ c, (t.chanAt c).drive = .off ∧
        (t.chanAt c).pen = false) ∧ t.pending = s.pending := by
  obtain ⟨r, g, hexec, hcause⟩ := chipResetNow_of_trigger hi
  obtain ⟨x, hx⟩ : ∃ x : State, x = { s with power := { s.power with resetN := r, pg := g } } := ⟨_, rfl⟩
  obtain ⟨h1, h2, h3, h4, h5, h6, h7, h8, h9, h10, h11, h12, h13, h14, h15, h16, h17⟩ :=
    State.chipResetNow_spec (s := x) (by rw [hx]; exact hf) (by rw [hx]; exact hg) (by rw [hx]; exact hc) hcause rfl
  rw [← hx] at hexec
  have hmode : x.mode = s.mode := by
    rw [hx]
    rfl
  have hlog : x.log = s.log := by rw [hx]
  rw [hlog] at h13
  refine ⟨x.chipResetNow cause, hexec, h1, h2.trans hmode, h3.trans hmode, h4, h5, h6, h7, h8.trans ?_, h9,
    h10.trans (congrArg Mode.code hmode), h11, h12.trans ?_, h13, fun hb => h13.trans ?_, h14.trans ?_, h15.trans ?_, h16, h17.trans ?_⟩
  · rw [hmode, hx]
  · rw [hx]
  · rw [Logbook.cutBurst, hb]
  · rw [hx]
  · rw [hx]
  · rw [hx]

/-- What the tables of a boot state keep where no write of theirs is cut off. -/
theorem Boot.unpowered_spec (b : Boot) : b.unpowered.step = 0 ∧ b.unpowered.dataA = b.dataA ∧ b.unpowered.dataB = b.dataB ∧
    (b.writes = [] → b.unpowered.table0 = b.table0 ∧ b.unpowered.table1 = b.table1) := by
  have htable : ∀ (c : Boot) n f, (c.setTable n f).dataA = c.dataA ∧ (c.setTable n f).dataB = c.dataB := fun c n f => by
    unfold Boot.setTable
    split <;> exact ⟨rfl, rfl⟩
  have hcut : ∀ w, (b.cutWrite w).dataA = b.dataA ∧ (b.cutWrite w).dataB = b.dataB := fun w => by
    unfold Boot.cutWrite
    split
    · exact htable _ _ _
    · split
      · exact ⟨rfl, rfl⟩
      · split <;> exact htable _ _ _
  unfold Boot.unpowered
  cases hw : b.writes with
  | nil => exact ⟨rfl, rfl, rfl, fun _ => ⟨rfl, rfl⟩⟩
  | cons w l => exact ⟨rfl, (hcut w).1, (hcut w).2, fun h => (nomatch h)⟩

/-- A pending series of a reset in Keep, with nothing to hold it (R75). -/
theorem State.startPending_keep {s : State} (hm : s.mode = .keep) (hp : s.power.wake.pending = some .chipReset)
    (hscan : s.dbg.scanHold = false) (hready : s.power.wake.pendingReady = true) (hr : s.power.resetN = true)
    (hi : s.power.inuvTripped = false) : s.startPending = s.beginSeries .chipReset (2 ^ 6) s.power.wake.pendingFrom :=
  State.startPending_begins (by rw [hm]; rfl) hp hscan hready hr hi

end Sys2Proof.Machine

namespace Sys2Proof
open Machine

/-- Settles O16: each trigger is an immediate chip reset; the rest of the rows on the conditions they name. -/
theorem chipResetsBeginAndProceed : Obligations.ChipResetsBeginAndProceed := by
  unfold Obligations.ChipResetsBeginAndProceed
  refine ⟨fun s i cause hf hg hc hi => chipReset_triggered hf hg hc hi, fun s => ⟨fun hm hp hscan hr hi => ?_, fun hm hp => ?_,
    fun hm hp hready hscan hi => ?_, fun r us hr hgo => ?_, fun r us hr hd hus => ?_, fun ha hp => ?_, fun n d hn hd => ?_,
    fun ns hm hstep x hx => ⟨fun hne => ?_, fun h0 => ?_⟩, ?_⟩⟩
  · obtain ⟨x, hx⟩ : ∃ x, x = s.setWake fun w => { w with pendingReady := true } := ⟨_, rfl⟩
    obtain ⟨h1, h2, h3, -, -, -, h7, h8, h9, -, -, -, -, h14, h15⟩ := x.beginSeries_shows .chipReset (2 ^ 6) s.power.wake.pendingFrom
      (t := x.startPending) (by
        rw [hx]
        exact State.startPending_keep hm hp hscan rfl hr hi)
    refine ⟨x.startPending, next_congr ((if_pos ⟨hp, hscan⟩).trans (by rw [hx])), h1, h2, h14, h8, h7, h9, h3, Only.trans ?_ h15⟩
    rw [hx]
    exact Only.power _ _
  · exact next_congr (State.startPending_none hp)
  · obtain ⟨x, hx⟩ : ∃ x : State, x = { s with power := { s.power with resetN := true } } := ⟨_, rfl⟩
    have hbegin : x.startPending = x.beginSeries .chipReset (2 ^ 6) s.power.wake.pendingFrom := by
      rw [hx]
      exact State.startPending_keep hm hp hscan hready rfl hi
    obtain ⟨h1, h2, h3, -, -, -, h7, h8, h9, -, -, -, -, h14, h15⟩ := x.beginSeries_shows .chipReset (2 ^ 6) s.power.wake.pendingFrom hbegin
    refine ⟨x.startPending, next_congr (by rw [hx]), ?_, h1, h14, Only.trans ?_ h15⟩
    · rw [hbegin, State.beginSeries_eq, hx]
    · rw [hx]
      exact Only.power _ _
  · obtain ⟨h1, -, -, h4, -, -, -, h8, h9, h10, -, h12, h13, -⟩ := s.resetToKeep_spec r.fromMode
    refine ⟨s.resetToKeep r.fromMode, ?_, h1, h4, h9, h10, h12, h8, h13⟩
    unfold exec execOrderlyResetProceed
    rw [hr]
    exact next_congr (if_pos hgo)
  · unfold exec execOrderlyResetProceed
    rw [hr]
    refine next_congr (if_neg ?_)
    rw [hd]
    rintro (h | h)
    · exact Bool.false_ne_true h
    · omega
  · refine next_congr (if_pos ?_)
    rw [ha, hp]
    rfl
  · unfold exec execSvcResetStart
    rw [hn]
    refine next_congr (if_neg fun h => ?_)
    rw [Bool.and_eq_true, Bool.and_eq_true] at h
    obtain ⟨⟨h1, h2⟩, h3⟩ := h
    rcases hd with hd | hd | hd
    · rw [hd] at h1
      exact Bool.false_ne_true h1
    · exact absurd (of_decide_eq_true h2) (by omega)
    · rw [hd] at h3
      exact Bool.false_ne_true h3
  · refine next_congr ((if_pos ⟨hm, hstep⟩).trans ?_)
    dsimp only
    rw [hx] at hne ⊢
    exact if_neg hne
  · obtain ⟨u, hu⟩ : ∃ u : State, u = { x with boot := { x.boot.unpowered with romErrors := 1 }, otp := x.otp.unpowered } := ⟨_, rfl⟩
    obtain ⟨hs, ha, hb, ht⟩ := x.boot.unpowered_spec
    refine ⟨u, next_congr ((if_pos ⟨hm, hstep⟩).trans ?_), ?_, ?_, ?_, ?_, ?_, ?_, ?_⟩
    · dsimp only
      rw [hu, hx]
      rw [hx] at h0
      exact if_pos h0
    all_goals rw [hu]
    · exact hs
    · exact ha
    · exact hb
    · exact ht
    · rfl
    · intro q hq
      cases q <;> first | rfl | exact absurd hq (by decide)
  · obtain ⟨-, ha, hb, ht⟩ := s.boot.unpowered_spec
    exact ⟨_, rfl, rfl, rfl, rfl, rfl, rfl, rfl, ha, hb, ht, rfl, rfl, rfl⟩

end Sys2Proof
end

section
/-! PROOFS. The Last-gasp sequence (R54 to R61). -/
set_option Elab.async false
namespace Sys2Proof.Machine

theorem State.gaspDomains_off (s : State) (d : Nat) (hd : d ∈ [14, 15, 16, 19, 20]) : s.gaspDomains.testBit d = false := by
  unfold State.gaspDomains
  split
  all_goals
    rw [testBit_domainMap (by decide)]
    revert d
    decide

/-- The power part as a MODE.SET and a shutdown give way. -/
theorem State.dropShutdown_power (s : State) : s.dropShutdown.power = { s.power with shutdown := none } := by
  unfold State.dropShutdown State.overtakeModeSet
  dsimp only
  rw [(State.finishAll_foot s _ .wrongMode).keeps .power]

/-- The state once Last-gasp is entered, before its record (Table 2-12, steps 2 to 4). -/
def State.gasping (s : State) : State :=
  let x := (((s.dropShutdown.finishAll (fun _ => true) .wrongMode).enterMode .lastGasp).clearWanted).peerEvent 4 []
  let y := x.powerDomains x.gaspDomains
  { y with
    power := { y.power with alive := false, chipReset := none, gasp := .ramping, gaspRecovered := false }
    host := { y.host with hrdy := false } }

theorem State.gasping_spec (s : State) : s.gasping.mode = .lastGasp ∧ s.gasping.host.hrdy = false ∧ s.gasping.power.alive = false ∧
    s.gasping.power.gasp = .ramping ∧ s.gasping.power.gaspRecovered = false ∧
    s.gasping.power.inuvTripped = s.power.inuvTripped ∧ ∀ d, d ∈ [14, 15, 16, 19, 20] → s.gasping.domain d = false := by
  obtain ⟨a, ha⟩ : ∃ a, a = s.dropShutdown.finishAll (fun _ => true) .wrongMode := ⟨_, rfl⟩
  have hpa : a.power = { s.power with shutdown := none } := by
    rw [ha, (State.finishAll_foot _ _ _).keeps .power, State.dropShutdown_power]
  obtain ⟨x, hx⟩ : ∃ x, x = ((a.enterMode .lastGasp).clearWanted).peerEvent 4 [] := ⟨_, rfl⟩
  have hpx : x.power = { a.power with mode := .lastGasp, fromMode := a.mode, modeEpoch := a.clocks.epoch } := by
    rw [hx, (State.peerEvent_foot _ _ _).keeps .power, (State.clearWanted_foot _).keeps .power, State.enterMode_power]
  obtain ⟨b, c, hpy⟩ := x.powerDomains_power x.gaspDomains
  obtain ⟨y, hy⟩ : ∃ y, y = x.powerDomains x.gaspDomains := ⟨_, rfl⟩
  have heq : s.gasping = { y with
      power := { y.power with alive := false, chipReset := none, gasp := .ramping, gaspRecovered := false }
      host := { y.host with hrdy := false } } := by
    rw [hy, hx, ha]
    rfl
  rw [← hy, hpx, hpa] at hpy
  rw [heq]
  refine ⟨?_, rfl, rfl, rfl, rfl, ?_, fun d hd => ?_⟩
  · show y.power.mode = .lastGasp
    rw [hpy]
  · show y.power.inuvTripped = s.power.inuvTripped
    rw [hpy]
  · show y.power.domains.testBit d = false
    rw [hpy]
    exact x.gaspDomains_off d hd

/-- Step 5 of Table 2-12: the token is passed, or the outputs ramp. -/
def State.gaspActs (s : State) (yields : Bool) : State :=
  if yields then s.passToken 0x07 0
  else if s.token then
    let s := s.each (s.enabledOuts.filter fun k => (s.outAt k).phase = .testing) fun s k =>
      (s.lowOutput k .off).setOut k fun o => o.halt 0 o.lastStop s.budget.tides
    s.each s.gaspOuts State.gaspRamp
  else s

theorem State.enterGasp_eq (s : State) : ∃ b y, s.enterGasp = (((s.gasping.record 0x08 2 b).gaspActs y).checkpoint 1).startBurst :=
  ⟨_, _, rfl⟩

theorem State.gaspActs_keeps (s : State) (y : Bool) : (s.gaspActs y).power = s.power ∧ (s.gaspActs y).host.hrdy = s.host.hrdy := by
  unfold State.gaspActs
  split
  · refine ⟨(s.passToken_foot 0x07 0).keeps .power, ?_⟩
    unfold State.passToken
    dsimp only
    show (State.record (s.sendHandover 7 0).dropToken 0x11 4 _).host.hrdy = s.host.hrdy
    rw [(State.record_foot _ _ _ _).keeps .host, (State.dropToken_foot _).keeps .host, (State.sendHandover_foot _ _ _).keeps .host]
  · split
    · have hfoot : Foot 0xC00 s ((s.each (s.enabledOuts.filter fun k => (s.outAt k).phase = .testing) fun s k =>
          (s.lowOutput k .off).setOut k fun o => o.halt 0 o.lastStop s.budget.tides)) :=
        .each .same fun _ _ h => (State.setOut_foot _ _ _).after ((State.lowOutput_foot _ _ _).after h)
      obtain ⟨x, hx⟩ : ∃ x, x = s.each (s.enabledOuts.filter fun k => (s.outAt k).phase = .testing) fun s k =>
          (s.lowOutput k .off).setOut k fun o => o.halt 0 o.lastStop s.budget.tides := ⟨_, rfl⟩
      rw [← hx] at hfoot
      have hramp : Foot 0x800 x (x.each x.gaspOuts State.gaspRamp) := .each .same fun _ _ h => (State.gaspRamp_foot _ _).after h
      rw [← hx]
      exact ⟨(hramp.keeps .power).trans (hfoot.keeps .power),
        congrArg HostPort.hrdy ((hramp.keeps .host).trans (hfoot.keeps .host))⟩
    · exact ⟨rfl, rfl⟩

/-- Last-gasp as it begins (Table 2-12). -/
theorem State.enterGasp_spec (s : State) : s.enterGasp.mode = .lastGasp ∧ s.enterGasp.host.hrdy = false ∧ s.enterGasp.power.alive = false ∧
    s.enterGasp.power.gasp = .ramping ∧ s.enterGasp.power.gaspRecovered = false ∧
    s.enterGasp.power.inuvTripped = s.power.inuvTripped ∧ ∀ d, d ∈ [14, 15, 16, 19, 20] → s.enterGasp.domain d = false := by
  obtain ⟨b, y, heq⟩ := s.enterGasp_eq
  obtain ⟨hmode, hhrdy, halive, hgasp, hrec, hinuv, hdom⟩ := s.gasping_spec
  obtain ⟨x, hx⟩ : ∃ x, x = s.gasping.record 0x08 2 b := ⟨_, rfl⟩
  obtain ⟨hpow, hhost⟩ := x.gaspActs_keeps y
  have hxr : Foot 0x100 s.gasping x := by
    rw [hx]
    exact State.record_foot _ _ _ _
  have hp : s.enterGasp.power = s.gasping.power := by
    rw [heq, ← hx, (State.startBurst_foot _).keeps .power, (State.checkpoint_foot _ _).keeps .power, hpow]
    exact hxr.keeps .power
  have hh : s.enterGasp.host.hrdy = s.gasping.host.hrdy := by
    rw [heq, ← hx, (State.startBurst_foot _).keeps .host, (State.checkpoint_foot _ _).keeps .host, hhost]
    exact congrArg HostPort.hrdy (hxr.keeps .host)
  unfold State.mode at hmode ⊢
  unfold State.domain at hdom ⊢
  rw [hp]
  exact ⟨hmode, hh.trans hhrdy, halive, hgasp, hrec, hinuv, hdom⟩

/-- The pins and the scan hold as a mode without firmware begins. -/
theorem State.sleep_pins (s : State) (m : Mode) : (s.sleep m).power.resetN = s.power.resetN ∧
    (s.sleep m).power.inuvTripped = s.power.inuvTripped ∧ (s.sleep m).dbg.scanHold = s.dbg.scanHold := by
  have hw := s.wakeGauge_foot s.retained.rtcNs 0
  obtain ⟨x, hx⟩ : ∃ x, x = s.wakeGauge s.retained.rtcNs 0 := ⟨_, rfl⟩
  rw [← hx] at hw
  unfold State.sleep
  rw [← hx]
  have hp : x.power = s.power := hw.keeps .power
  have hd : x.dbg = s.dbg := hw.keeps .dbg
  refine ⟨?_, ?_, ?_⟩
  · show x.power.resetN = _
    rw [hp]
  · show x.power.inuvTripped = _
    rw [hp]
  · show x.dbg.scanHold = _
    rw [hd]

/-- What an attempt that INUV ends leaves (R58), where only what sleeps is powered. -/
theorem State.endAttempt_spec {s : State} (hd : ∀ d, s.domain d = true → d = 1 ∨ (d = 13 ∧ s.mode = .gaugeWatch)) :
    (s.endAttempt false).power.inuvTripped = s.power.inuvTripped ∧ (s.endAttempt false).power.wake.phase = .idle ∧
    (s.endAttempt false).power.pwren = 0 ∧ (s.endAttempt false).power.wake.pending = none ∧
    (s.endAttempt false).power.ret = s.power.ret ∧ (s.endAttempt false).mode = s.mode ∧ Only [.power] s (s.endAttempt false) := by
  obtain ⟨d, a, b, hdrop⟩ := State.dropEnables_asleep hd
  unfold State.endAttempt
  dsimp only
  rw [hdrop]
  exact ⟨rfl, rfl, rfl, rfl, rfl, rfl, Only.power _ _⟩

/-- Every output of a list halts, and keeps why it stopped last. -/
theorem State.each_halt (s : State) (l : List Nat) (hl : l.Nodup) :
    Only [.out] s (s.each l fun s k => s.setOut k fun o => o.halt 0 o.lastStop s.budget.tides) ∧
    ∀ k, (s.each l fun s k => s.setOut k fun o => o.halt 0 o.lastStop s.budget.tides).outAt k =
      if k ∈ l then (s.outAt k).halt 0 (s.outAt k).lastStop s.budget.tides else s.outAt k := by
  obtain ⟨⟨o, ho⟩, hat⟩ := State.each_items State.outAt (fun t k => t.setOut k fun o => o.halt 0 o.lastStop t.budget.tides)
    (fun t => ∃ o, t = { s with out := o }) (fun _ o => o.halt 0 o.lastStop s.budget.tides) (fun t n ht => by
      obtain ⟨o, rfl⟩ := ht
      exact ⟨⟨_, rfl⟩, fun j => State.outAt_setOut ..⟩) l hl ⟨s.out, rfl⟩
  refine ⟨?_, hat⟩
  rw [ho]
  intro p hp
  cases p <;> first | rfl | exact absurd hp (by decide)

/-- The end of the ramps (R56, step 7). -/
theorem lastGaspRampEnd_spec {s : State} (hg : s.power.gasp = .ramping) : ∃ t, exec .lastGaspRampEnd s = .next t ∧
    t.power = { s.power with gasp := .rampsDone } ∧
    (∀ c, c < 128 → (t.chanAt c).drive = .off ∧ (t.chanAt c).pen = false) ∧
    (∀ k, k ∈ s.enabledOuts → (s.outAt k).live = true → (t.outAt k).state = 0 ∧
      (t.outAt k).lastStop = (s.outAt k).lastStop) ∧ Only [.power, .chan, .out] s t := by
  have hlow := s.lowAll_foot s.idleState
  have hchan := s.lowAll_chans s.idleState
  obtain ⟨a, ha⟩ : ∃ a, a = s.lowAll s.idleState := ⟨_, rfl⟩
  rw [← ha] at hlow hchan
  obtain ⟨l, hl⟩ : ∃ l, l = a.enabledOuts.filter fun k => (a.outAt k).live := ⟨_, rfl⟩
  have hnodup : l.Nodup := by
    rw [hl]
    exact ((nodup_upto 128).filter _).filter _
  obtain ⟨honly, hout⟩ := a.each_halt l hnodup
  obtain ⟨x, hx⟩ : ∃ x, x = a.each l fun s k => s.setOut k fun o => o.halt 0 o.lastStop s.budget.tides := ⟨_, rfl⟩
  rw [← hx] at honly hout
  have hpow : x.power = s.power := (honly .power rfl).trans (hlow.keeps .power)
  have houts : a.out = s.out := hlow.keeps .out
  have hdesc : a.desc = s.desc := hlow.keeps .desc
  have henabled : a.enabledOuts = s.enabledOuts := by
    unfold State.enabledOuts State.outEnable State.field State.outAt
    rw [houts, hdesc]
  refine ⟨{ x with power := { x.power with gasp := .rampsDone } }, next_congr ((if_pos hg).trans (by rw [hx, hl, ha])), ?_, fun c hc => ?_,
    fun k hk hlive => ?_, ?_⟩
  · rw [hpow]
  · show (Tab.get {} x.chan c).drive = .off ∧ (Tab.get {} x.chan c).pen = false
    rw [show x.chan = a.chan from honly .chan rfl]
    have h := Chan.lowUnlessLocked_low s.idleState (s.chanAt c)
    rw [← hchan c hc] at h
    exact ⟨h.1, h.2.1⟩
  · have hmem : k ∈ l := by
      rw [hl, henabled]
      refine List.mem_filter.mpr ⟨hk, ?_⟩
      rw [State.outAt, houts]
      exact hlive
    have h := hout k
    rw [if_pos hmem] at h
    refine ⟨congrArg Out.state h, (congrArg Out.lastStop h).trans ?_⟩
    show (Tab.get {} a.out k).lastStop = _
    rw [houts]
    rfl
  · exact (hlow.onlyIn [.power, .chan, .out]).trans ((honly.mono (by decide)).trans ((Only.power _ _).mono (by decide)))

end Sys2Proof.Machine

namespace Sys2Proof
open Machine

/-- Settles O17: INUV by mode, the state as Last-gasp begins, and its end. -/
theorem lastGaspSequence : Obligations.LastGaspSequence := by
  unfold Obligations.LastGaspSequence
  intro s
  have hfirm : s.mode = .lastGasp → s.mode.firmware = true := fun h => by rw [h]; rfl
  refine ⟨fun mv ns hf hg => ?_, State.enterGasp_spec, fun mv ns hm => ?_, fun mv ns hf hd hphase hkind => ?_, fun hm ht => ?_,
    lastGaspRampEnd_spec, fun d hm hg hgo hagain => ?_, fun d hm hg hgo hrec hauto hr hi hscan => ?_⟩
  · exact next_congr ((if_neg hg).trans (if_pos hf))
  · exact next_congr ((if_pos hm).trans (if_pos (hfirm hm)))
  · obtain ⟨x, hx⟩ : ∃ x : State, x = ({ s with power := { s.power with inuvTripped := true } } : State).rtcRuns ns := ⟨_, rfl⟩
    obtain ⟨h1, h2, h3, h4, h5, h6, h7⟩ := State.endAttempt_spec (s := x) (by rw [hx]; exact hd)
    have hng : ¬ s.mode = .lastGasp := fun h => by
      rw [hfirm h] at hf
      exact absurd hf (by decide)
    have hactive : s.power.wake.active = true := by
      rw [Wake.active, hphase]
    refine ⟨x.endAttempt false, next_congr ((if_neg hng).trans ((if_neg ?_).trans ((if_pos hactive).trans ?_))), h1.trans ?_, h2, h3, h4,
      h5.trans ?_, h6.trans ?_, Only.trans (t := x) ?_ (h7.mono (by decide)), (h7 .retained rfl).trans ?_⟩
    · show ¬ s.mode.firmware = true
      rw [hf]
      exact Bool.false_ne_true
    · rw [hx]
      show State.endAttempt _ (decide (s.power.wake.kind ≠ .wake)) = _
      rw [hkind]
      rfl
    all_goals rw [hx]
    · rfl
    · rfl
    · rfl
    · intro q hq
      cases q <;> first | rfl | exact absurd hq (by decide)
    · rfl
  · exact next_congr ((if_pos ht).trans (if_pos hm))
  · obtain ⟨h1, -, h3, h4, h5, -, -, -, -, h10, -, h12, -⟩ := s.sleep_spec .keep
    refine ⟨s.sleep .keep, next_congr ((if_pos ⟨hm, hg, hgo⟩).trans ?_), h1, h4, ?_, ?_, h10, ?_⟩
    · refine if_neg ?_
      rw [hagain]
      exact Bool.false_ne_true
    · rw [h3, hm]
      rfl
    · rw [h5]
    · rw [h12]
      rfl
  · obtain ⟨hmode, -⟩ := s.sleep_spec .keep
    obtain ⟨hr', hi', hscan'⟩ := s.sleep_pins .keep
    obtain ⟨x, hx⟩ : ∃ x, x = (s.sleep .keep).setWake fun w =>
      { w with pending := some .lastGaspRestart, pendingFrom := 0xA, pendingReady := true } := ⟨_, rfl⟩
    have hbegin : x.startPending = x.beginSeries .lastGaspRestart (2 ^ 4) 0xA := by
      rw [hx]
      exact State.startPending_begins ((congrArg Mode.asleep hmode).trans rfl) rfl (hscan'.trans hscan) rfl (hr'.trans hr) (hi'.trans hi)
    obtain ⟨h1, h2, h3, -, -, -, h7, h8, h9, -, -, h12, -, -, -⟩ := x.beginSeries_shows .lastGaspRestart (2 ^ 4) 0xA hbegin
    refine ⟨x.startPending, next_congr ((if_pos ⟨hm, hg, hgo⟩).trans ((if_pos ?_).trans (by rw [hx]))), h12.trans ?_, h1, h2, h8, h9, h7, h3⟩
    · rw [hrec, hauto]
      rfl
    · rw [hx]
      exact hmode

end Sys2Proof
end

section
/-! PROOFS. Supply braces and the clock monitors (R50 to R52, R72). -/
set_option Elab.async false
namespace Sys2Proof.Machine

/-- An armed monitor of a powered rail is judged. -/
theorem State.monitor_judged {s : State} {m : Nat} (ha : s.power.armed.testBit m = true) (hp : s.monitorPowered m = true) :
    (bit s.power.armed m && s.monitorPowered m) = true := by
  rw [bit, ha, hp]
  rfl

/-- A further warning of a monitor under a brace keeps the lowest voltage (R51). -/
theorem supplyWarning_lowest {s : State} {m mv : Nat} {b : Brace} (ha : s.power.armed.testBit m = true)
    (hp : s.monitorPowered m = true) (hbelow : s.power.below.testBit m = true) (hb : s.power.brace = some b) :
    ∃ t, exec (.supplyWarning m mv) s = .next t ∧
      t.power = { s.power with brace := t.power.brace } ∧ Only [.power] s t ∧
      ∃ c, t.power.brace = some c ∧ c.causes = b.causes ∧ Tab.get 0 c.minMv m = min (Tab.get 0 b.minMv m) mv ∧
        ∀ k, k ≠ m → Tab.get 0 c.minMv k = Tab.get 0 b.minMv k := by
  refine ⟨{ s with power := { s.power with brace := some { b with minMv := Tab.upd 0 b.minMv m fun v => min v mv } } },
    next_congr ((if_pos (State.monitor_judged ha hp)).trans ((if_pos hbelow).trans ?_)), rfl, Only.power _ _,
    { b with minMv := Tab.upd 0 b.minMv m fun v => min v mv }, rfl, rfl, ?_, fun k hk => ?_⟩
  · rw [hb]
  · exact (Tab.get_upd 0 b.minMv m m fun v => min v mv).trans (if_pos rfl)
  · exact (Tab.get_upd 0 b.minMv m k fun v => min v mv).trans (if_neg hk)

end Sys2Proof.Machine

namespace Sys2Proof
open Machine

/-- Settles O18: the braces and the clock monitors, each row on the conditions its clause names. -/
theorem bracesAndClockMonitors : Obligations.BracesAndClockMonitors := by
  unfold Obligations.BracesAndClockMonitors
  refine ⟨fun s => ⟨fun m mv ha hp hbelow hb => ?_, fun m mv b ha hp hbelow hb => supplyWarning_lowest ha hp hbelow hb, fun m mv h => ?_,
    fun b us hb hf => ?_, fun b us hb hf => ?_, fun m hp => next_congr (if_pos hp), fun m hp => next_congr (if_neg ?_)⟩,
    fun s => ⟨fun hf hr => next_congr (if_pos ?_), fun hr => next_congr (if_pos hr), fun hr => next_congr (if_pos hr),
    fun hr => ⟨next_congr (if_neg ?_), next_congr (if_neg ?_)⟩, fun hr hf => ?_, fun hr hf => ?_, fun hr => next_congr (if_pos hr),
    fun p hf hp hm => ?_, fun p hf hp hm => ?_, fun hf => ?_, rfl, fun n hn => if_pos hn, fun n hn => if_neg ?_⟩⟩
  · refine next_congr ((if_pos (State.monitor_judged ha hp)).trans ((if_neg ?_).trans ?_))
    · rw [bit, hbelow]
      exact Bool.false_ne_true
    · unfold State.braceBegins
      rw [hb]
      rfl
  · refine next_congr (if_neg ?_)
    rcases h with h | h
    · rw [bit, h, Bool.false_and]
      exact Bool.false_ne_true
    · rw [h, Bool.and_false]
      exact Bool.false_ne_true
  · unfold exec execBraceEnd
    rw [hb]
    refine next_congr (if_neg ?_)
    show ¬ s.mode.firmware = true
    rw [hf]
    exact Bool.false_ne_true
  · unfold exec execBraceEnd
    rw [hb]
    exact next_congr (if_pos hf)
  · rw [hp]
    exact Bool.false_ne_true
  · rw [hf, hr]
    rfl
  · rw [hr]
    exact Bool.false_ne_true
  · rw [hr]
    exact Bool.false_ne_true
  · refine next_congr ((if_neg ?_).trans ((if_pos hf).trans ?_))
    · rw [hr]
      exact Bool.false_ne_true
    · rw [if_pos hf]
  · have hf' : ¬ s.mode.firmware = true := by
      rw [hf]
      exact Bool.false_ne_true
    refine next_congr ((if_neg ?_).trans ((if_neg hf').trans ?_))
    · rw [hr]
      exact Bool.false_ne_true
    · rw [if_neg hf']
  · refine next_congr ((if_pos ?_).trans (if_pos hm))
    rw [hf, decide_eq_true hp]
    rfl
  · refine next_congr ((if_pos ?_).trans (if_neg hm))
    rw [hf, decide_eq_true hp]
    rfl
  · exact next_congr ((if_neg (by decide)).trans (if_pos hf))
  · rw [hn]
    exact Bool.false_ne_true

end Sys2Proof
end

section
/-! PROOFS. The push-button (R269 to R273). -/
set_option Elab.async false
namespace Sys2Proof.Machine

theorem Out.Settles.wanted {o o' : Out} (h : o.Settles o') : o'.wanted = o.wanted := by
  obtain ⟨st, ph, rfl, -, -⟩ := h
  rfl

theorem Out.abortIdent_wanted (o : Out) (r : Nat) (b : Bool) : (o.abortIdent r b).wanted = o.wanted := by
  unfold Out.abortIdent
  split <;> rfl

/-- An ordered stop leaves WANTED as it is. -/
theorem State.orderStop_wanted (s : State) (k c j : Nat) : ((s.orderStop k c).outAt j).wanted = (s.outAt j).wanted := by
  have hlow : ∀ st, ((s.lowOutput k st).outAt j).wanted = (s.outAt j).wanted := fun st => by
    rw [State.outAt, (s.lowOutput_foot k st).keeps .out]
    rfl
  have hset : ∀ (t : State) (f : Out → Out), (∀ o, (f o).wanted = o.wanted) → ((t.setOut k f).outAt j).wanted = (t.outAt j).wanted :=
    fun t f hf => by
      rw [State.outAt_setOut]
      split
      · next h => rw [hf, h]
      · rfl
  unfold State.orderStop
  dsimp only
  split
  · exact hset _ _ fun _ => rfl
  · split
    · exact (hset _ (fun o => o.halt 0 c s.budget.tides) fun _ => rfl).trans (hlow s.idleState)
    · split
      · exact hset s (fun o => { (o.abortIdent 0x02 true) with state := 7, lastStop := c, phase := .stopPending })
          fun o => o.abortIdent_wanted 0x02 true
      · rfl

theorem State.each_orderStop_wanted (s : State) (l : List Nat) (c j : Nat) :
    ((s.each l fun s k => s.orderStop k c).outAt j).wanted = (s.outAt j).wanted := by
  induction l generalizing s with
  | nil => rfl
  | cons k l ih => exact (ih _).trans (s.orderStop_wanted k c j)

theorem State.clearWanted_outs (s : State) {k : Nat} (hk : k < 128) : (s.clearWanted.outAt k).wanted = false := by
  obtain ⟨-, hat⟩ := State.each_items State.outAt (fun t k => t.setOut k fun o => { o with wanted := false }) (fun _ => True)
    (fun _ o => { o with wanted := false }) (fun t n _ => ⟨trivial, fun j => State.outAt_setOut ..⟩) (upto 128) (nodup_upto 128)
    (s := s) trivial
  exact congrArg Out.wanted ((hat k).trans (if_pos (mem_upto.mpr hk)))

/-- A long press as it begins (R271). -/
theorem State.longPressBegins_spec (s : State) : s.longPressBegins.power.longPress = true ∧
    s.longPressBegins.power.longPressActive = true ∧ ∀ k, k < 128 → (s.longPressBegins.outAt k).wanted = false := by
  obtain ⟨a, ha⟩ : ∃ a : State, a = { s with power := { s.power with longPress := true, longPressActive := true } } := ⟨_, rfl⟩
  obtain ⟨b, hb⟩ : ∃ b, b = (a.dropShutdown.clearWanted.record 0x06 4 []).peerEvent 3 [] := ⟨_, rfl⟩
  obtain ⟨l, hl⟩ : ∃ l, l = b.enabledOuts := ⟨_, rfl⟩
  have heq : s.longPressBegins = (b.each l fun s k => s.orderStop k 8).settle := by
    rw [hl, hb, ha]
    rfl
  have hfoot : Foot 0xD00 b (b.each l fun s k => s.orderStop k 8) := .each .same fun _ _ h => (State.orderStop_foot _ _ _).after h
  have hpow : s.longPressBegins.power = { a.power with shutdown := none } := by
    rw [heq, (State.settle_foot _).keeps .power, hfoot.keeps .power, hb, (State.peerEvent_foot _ _ _).keeps .power,
      (State.record_foot _ _ _ _).keeps .power, (State.clearWanted_foot _).keeps .power, State.dropShutdown_power]
  have hbout : b.out = a.dropShutdown.clearWanted.out := by
    rw [hb, (State.peerEvent_foot _ _ _).keeps .out, (State.record_foot _ _ _ _).keeps .out]
  refine ⟨?_, ?_, fun k hk => ?_⟩
  · rw [hpow]
    show a.power.longPress = true
    rw [ha]
  · rw [hpow]
    show a.power.longPressActive = true
    rw [ha]
  · have hclear := a.dropShutdown.clearWanted_outs hk
    rw [heq, (State.settle_settles _ k).wanted, State.each_orderStop_wanted]
    rw [State.outAt] at hclear ⊢
    rw [hbout]
    exact hclear

theorem Out.halt_driven (o : Out) (cause tide : Nat) : (o.halt 0 cause tide).driven = false := rfl

/-- An output forced off, with the others as they are. -/
theorem State.forceOut_outs (s : State) (k state cause j : Nat) (record : Bool) : (s.forceOut k state cause record).outAt j =
    if j = k then ((s.outAt k).abortIdent 0x02 true).halt state cause s.budget.tides else s.outAt j := by
  have hlow := s.lowOutput_foot k .forcedOff
  obtain ⟨a, ha⟩ : ∃ a, a = s.lowOutput k .forcedOff := ⟨_, rfl⟩
  obtain ⟨b, hb⟩ : ∃ b, b = a.setOut k (fun o => (o.abortIdent 0x02 true).halt state cause a.budget.tides) := ⟨_, rfl⟩
  rw [← ha] at hlow
  have hout : a.out = s.out := hlow.keeps .out
  have hbudget : a.budget = s.budget := hlow.keeps .budget
  have heq : (s.forceOut k state cause record).outAt j = b.outAt j := by
    unfold State.forceOut
    dsimp only
    rw [← ha, ← hb]
    split
    · rw [State.outAt, (State.stopRecord_foot _ _ _).keeps .out]
      rfl
    · rfl
  rw [heq, hb, State.outAt_setOut, hbudget, State.outAt, State.outAt, hout]
  rfl

/-- Every output still driven forced off (R271, step 3). -/
theorem State.each_forceDriven (s : State) (l : List Nat) (hl : l.Nodup) :
    Foot 0xD00 s (s.each l fun s k => if (s.outAt k).driven then s.forceOut k 0 8 true else s) ∧
    ∀ k, k ∈ l → ((s.each l fun s k => if (s.outAt k).driven then s.forceOut k 0 8 true else s).outAt k).driven = false := by
  obtain ⟨-, hat⟩ := State.each_items State.outAt (fun s k => if (s.outAt k).driven then s.forceOut k 0 8 true else s)
    (fun t => t.budget = s.budget)
    (fun _ o => if o.driven then (o.abortIdent 0x02 true).halt 0 8 s.budget.tides else o) (fun t n ht => by
      split
      · refine ⟨((State.forceOut_foot _ _ _ _ _).keeps .budget).trans ht, fun j => ?_⟩
        rw [State.forceOut_outs, ht]
      · refine ⟨ht, fun j => ?_⟩
        split
        · next h => rw [h]
        · rfl) l hl (s := s) rfl
  refine ⟨.each .same fun _ _ h => .ite ((State.forceOut_foot _ _ _ _ _).after h) h, fun k hk => ?_⟩
  rw [hat k, if_pos hk]
  split
  · rfl
  · next h => exact Bool.eq_false_iff.mpr h

end Sys2Proof.Machine

namespace Sys2Proof
open Machine

/-- Settles O19: the counted falls and rises by their times, and the long press by mode. -/
theorem pushButtonActs : Obligations.PushButtonActs := by
  unfold Obligations.PushButtonActs
  intro s
  refine ⟨fun hi low hpb hhi x hx => ?_, fun hi low hpb hlong hlow => ?_, fun ms hpb h50 h2000 ha => ?_, fun ms hpb h2000 h8000 hf => ?_,
    fun ms hpb hms => ?_, fun hpb hlong hact hm => ?_, fun hpb hlong hact ha => ?_, fun hact => ?_, fun us hl hact ha hgo => ?_⟩
  · have hrun : execPbNPress hi s low = .next (if !x.power.pbAfterLong && decide (50 ≤ low) then x.wakeEvent 1 else x) := by
      have hafter : (s.power.pbAfterLong && decide (hi < 50)) = false := by
        rcases hhi with h | h
        · rw [h, Bool.false_and]
        · rw [decide_eq_false (by omega), Bool.and_false]
      unfold execPbNPress
      dsimp only
      rw [hx, if_pos hpb, hafter]
    have hx' : x.power.pbAfterLong = false := by rw [hx]
    constructor
    · exact fun h => hrun.trans (next_congr (if_pos (by rw [hx', decide_eq_true h]; rfl)))
    · exact fun h => hrun.trans (next_congr (if_neg (by rw [hx', decide_eq_false (by omega)]; exact Bool.false_ne_true)))
  · have hpb' : ¬ s.power.pbN = true := by
      rw [hpb]
      exact Bool.false_ne_true
    unfold exec execPbNPress
    dsimp only
    rw [if_neg hpb']
    refine next_congr (if_pos ?_)
    rw [hlong, decide_eq_true hlow]
    rfl
  · refine next_congr ((if_neg (by rw [hpb]; exact Bool.false_ne_true)).trans ((if_neg ?_).trans ((if_pos h2000).trans (if_pos ha))))
    simp
    omega
  · refine next_congr ((if_neg (by rw [hpb]; exact Bool.false_ne_true)).trans ((if_neg ?_).trans ((if_neg ?_).trans (if_pos hf))))
    · simp
      omega
    · omega
  · refine next_congr ((if_neg (by rw [hpb]; exact Bool.false_ne_true)).trans (if_pos ?_))
    simp
    omega
  · obtain ⟨x, hx⟩ : ∃ x : State, x = { s with power := { s.power with pbMayBeLong := false } } := ⟨_, rfl⟩
    obtain ⟨h1, -, -, h4, -, -, -, -, -, h10, -⟩ := x.sleep_spec .keep
    refine ⟨{ x.sleep .keep with power := { (x.sleep .keep).power with pbAfterLong := true } }, next_congr ((if_pos ?_).trans ((if_pos hm).trans
      (by rw [hx]))), h1, rfl, h4, h10.trans (by rw [hx])⟩
    rw [hpb, hlong, hact]
    rfl
  · obtain ⟨x, hx⟩ : ∃ x, x = ({ s with power := { s.power with pbMayBeLong := false } } : State).longPressBegins := ⟨_, rfl⟩
    obtain ⟨h1, h2, h3⟩ := ({ s with power := { s.power with pbMayBeLong := false } } : State).longPressBegins_spec
    rw [← hx] at h1 h2 h3
    have hg : ¬ s.mode = .gaugeWatch := fun h => by
      rw [h] at ha
      exact Bool.false_ne_true ha
    have hfirm : (s.mode.firmware && decide (s.mode ≠ .lastGasp)) = true := by
      rw [Mode.firmware_of_active ha]
      refine decide_eq_true fun h => ?_
      rw [h] at ha
      exact Bool.false_ne_true ha
    refine ⟨x, next_congr ((if_pos ?_).trans ((if_neg hg).trans ((if_pos hfirm).trans (by rw [hx])))), hx, h1, h2, h3⟩
    rw [hpb, hlong, hact]
    rfl
  · obtain ⟨l, hl⟩ : ∃ l, l = s.enabledOuts := ⟨_, rfl⟩
    have hnodup : l.Nodup := by
      rw [hl]
      exact (nodup_upto 128).filter _
    obtain ⟨hfoot, hdriven⟩ := s.each_forceDriven l hnodup
    obtain ⟨a, ha⟩ : ∃ a, a = s.each l fun s k => if (s.outAt k).driven then s.forceOut k 0 8 true else s := ⟨_, rfl⟩
    rw [← ha] at hfoot hdriven
    obtain ⟨b, hb⟩ : ∃ b, b = (a.checkpoint 3).record 0x06 5 [byte Mode.keep.code, 1] := ⟨_, rfl⟩
    have hfootb : Foot 0x80100 a b := by
      rw [hb]
      exact (State.record_foot _ _ _ _).after (State.checkpoint_foot _ _)
    refine ⟨{ b with power := { b.power with longPressActive := false } }, next_congr ((if_pos hact).trans (by rw [hb, ha, hl])), rfl,
      fun k hk => ?_, ?_⟩
    · show (Tab.get {} b.out k).driven = false
      rw [show b.out = a.out from hfootb.keeps .out]
      exact hdriven k (hl ▸ hk)
    · exact (hfoot.onlyIn _).trans ((hfootb.onlyIn _).trans ((Only.power _ _).mono (by decide)))
  · obtain ⟨h1, -, -, h4, -, -, -, -, -, h10, -, h12, -⟩ := s.sleep_spec .keep
    have hg : s.mode ≠ .lastGasp := fun h => by
      rw [h] at ha
      exact Bool.false_ne_true ha
    refine ⟨s.sleep .keep, next_congr (if_pos ?_), h1, h4, h10, ?_⟩
    · rw [hl, hact, Mode.firmware_of_active ha, decide_eq_true hg]
      rcases hgo with h | h
      · rw [h]
        rfl
      · rw [decide_eq_true h, Bool.or_true]
        rfl
    · rw [h12]
      rfl

end Sys2Proof
end

section
/-! PROOFS. The TAP instructions (R561, R562). -/
set_option Elab.async false
namespace Sys2Proof.Machine

theorem State.tapOn_of_firmware {s : State} (h : s.mode.firmware = true) : s.tapOn = true := by
  rw [State.tapOn, h]
  rfl

theorem State.tapOn_of_scanHold {s : State} (h : s.dbg.scanHold = true) : s.tapOn = true := by
  rw [State.tapOn, h, Bool.or_true]

theorem State.notTapOn {s : State} (h : s.tapOn = true) : ¬ (!s.tapOn) = true := by
  rw [h]
  exact Bool.false_ne_true

/-- The six scan instructions are one row each with their code (R562). -/
theorem exec_scanInstr {s : State} {i : Instr} {code : Nat} (h : (i = Instr.extest ∧ code = 0x04) ∨ (i = .intest ∧ code = 0x05) ∨
    (i = .clamp ∧ code = 0x06) ∨ (i = .highz ∧ code = 0x07) ∨ (i = .extestPulse ∧ code = 0x08) ∨ (i = .extestTrain ∧ code = 0x09)) :
    exec i s = .next (s.scanInstr code) := by
  rcases h with ⟨rfl, rfl⟩ | ⟨rfl, rfl⟩ | ⟨rfl, rfl⟩ | ⟨rfl, rfl⟩ | ⟨rfl, rfl⟩ | ⟨rfl, rfl⟩ <;> rfl

theorem State.scanInstr_refused {s : State} (ht : s.tapOn = true) (hd : s.otp.debugLevel ≠ 0) (code : Nat) :
    s.scanInstr code = (s.setInstr 0xFF).raise 286 1 [] :=
  (if_neg (State.notTapOn ht)).trans (if_neg hd)

theorem State.scanInstr_held {s : State} (hs : s.dbg.scanHold = true) (hd : s.otp.debugLevel = 0) (code : Nat) :
    s.scanInstr code = s.setInstr code :=
  (if_neg (State.notTapOn (State.tapOn_of_scanHold hs))).trans ((if_pos hd).trans (congrArg (State.setInstr · code) (if_pos hs)))

/-- The chip as a scan instruction takes it (R562). -/
theorem State.scanInstr_enters {s t : State} (hf : s.mode.firmware = true) (hs : s.dbg.scanHold = false) (hd : s.otp.debugLevel = 0)
    {code : Nat} (ht : t = s.scanInstr code) :
    t.dbg.instr = code ∧ t.dbg.scanHold = true ∧ t.mode = .keep ∧ t.power.domains = 2 ^ 1 + 2 ^ 20 ∧
    t.power.pwren = 0 ∧ t.power.alive = false ∧ t.sluice.own = false ∧ t.power.wake.pending = some .chipReset ∧
    t.power.wake.pendingFrom = s.modeCode ∧ t.retained = s.retained ∧ t.log.store = s.log.cutBurst ∧
    t.otp.sensed = s.otp.sensed ∧ (∀ c, (t.chanAt c).drive = .off ∧ (t.chanAt c).pen = false) := by
  have hlow := s.lowAll_foot .off
  obtain ⟨a, ha⟩ : ∃ a, a = s.lowAll .off := ⟨_, rfl⟩
  rw [← ha] at hlow
  obtain ⟨m, hm⟩ : ∃ m, m = s.modeCode := ⟨_, rfl⟩
  obtain ⟨hmode, -, -, hpwren, -, halive, -, -, hpend, hfrom, -, hretd, hlog, -, -, hchan, -⟩ := a.resetToKeep_spec m
  have hown : (a.resetToKeep m).sluice.own = false := rfl
  obtain ⟨r, hr⟩ : ∃ r, r = a.resetToKeep m := ⟨_, rfl⟩
  rw [← hr] at hmode hpwren halive hpend hfrom hretd hlog hchan hown
  have heq : t = ({ r with
      dbg := { r.dbg with scanHold := true }, otp := s.otp.interrupted
      power := { r.power with domains := domainMap [1, 20] } } : State).setInstr code := by
    rw [ht, hr, ha, hm]
    refine (if_neg (State.notTapOn (State.tapOn_of_firmware hf))).trans ((if_pos hd).trans (congrArg (State.setInstr · code) (if_neg ?_)))
    rw [hs]
    exact Bool.false_ne_true
  rw [heq]
  refine ⟨rfl, rfl, hmode, rfl, hpwren, halive, hown, hpend, hfrom.trans hm, hretd.trans (hlow.keeps .retained), hlog.trans ?_, ?_, hchan⟩
  · exact congrArg Logbook.cutBurst (hlow.keeps .log)
  · show s.otp.interrupted.sensed = s.otp.sensed
    unfold Otp.interrupted
    split <;> rfl

/-- The end of a scan hold with no series pending (R562). -/
theorem tapReset_ends {s : State} (hs : s.dbg.scanHold = true) (hp : s.power.wake.pending = none) : ∃ t, exec .tapReset s = .next t ∧
    t.dbg.instr = 0x02 ∧ t.dbg.scanHold = false ∧ t.power.domains = 2 ∧ t.otp.sensed = false ∧ Only [.dbg, .power, .otp] s t := by
  obtain ⟨t, ht⟩ : ∃ t : State, t = { s with
    dbg := { s.dbg with instr := 0x02, scanHold := false }, power := { s.power with domains := domainMap [1] }
    otp := s.otp.unpowered } := ⟨_, rfl⟩
  refine ⟨t, next_congr ((if_pos hs).trans ?_), ?_, ?_, ?_, ?_, ?_⟩
  · have hnone : t.startPending = t := State.startPending_none (by rw [ht]; exact hp)
    rw [ht] at hnone ⊢
    exact hnone
  all_goals rw [ht]
  · rfl
  · rfl
  · intro q hq
    cases q <;> first | rfl | exact absurd hq (by decide)

/-- The cells preloaded, and as many shifted out (R561). -/
theorem samplePreload_spec {s : State} (ht : s.tapOn = true) (cells : Bytes) : ∃ t d, exec (.samplePreload cells) s = .next t ∧
    t.dbg.instr = 0x03 ∧ t.dbg.boundary = cells ∧ d.length = cells.length ∧ t.sent = (s.send (.jtag d)).sent ∧
    Only [.dbg, .sent, .freeCount] s t := by
  obtain ⟨d, hd⟩ : ∃ d, d = (upto cells.length).map fun i => byte (s.fresh .unstated i) := ⟨_, rfl⟩
  obtain ⟨x, hx⟩ : ∃ x : State, x = { (s.setInstr 0x03).shiftOut d with
      dbg := { ((s.setInstr 0x03).shiftOut d).dbg with boundary := cells } } := ⟨_, rfl⟩
  refine ⟨x.used, d, next_congr ((if_pos ht).trans (by rw [hx, hd])), ?_, ?_, ?_, ?_, ?_⟩
  · show x.dbg.instr = 3
    rw [hx]
    rfl
  · show x.dbg.boundary = cells
    rw [hx]
  · rw [hd, List.length_map, length_upto]
  · show x.sent = _
    rw [hx]
    rfl
  · refine Only.trans (t := x) ?_ fun q hq => by cases q <;> first | rfl | exact absurd hq (by decide)
    rw [hx]
    intro q hq
    cases q <;> first | rfl | exact absurd hq (by decide)

/-! ### The debug access port -/

theorem State.debugPermits_dbgen {s : State} (h : s.power.dbgen = false ∨ 2 ≤ s.otp.debugLevel) : s.debugPermits = false := by
  unfold State.debugPermits
  rcases h with h | h
  · rw [h, Bool.false_and]
  · rw [decide_eq_false (by omega), decide_eq_false (by omega), Bool.false_and, Bool.or_false, Bool.and_false]

theorem State.debugPermits_service {s : State} (h : s.otp.debugLevel = 1) (hm : s.mode ≠ .service) : s.debugPermits = false := by
  unfold State.debugPermits State.inService
  rw [h, decide_eq_false hm, Bool.false_and, Bool.and_false, Bool.or_false]
  exact Bool.and_false _

/-- The access port is selected and powered. -/
theorem State.dapSelected {s : State} (ht : s.tapOn = true) (hi : s.dbg.instr = 0x10) : ¬ (!s.tapOn || decide (s.dbg.instr ≠ 0x10)) = true := by
  rw [ht, decide_eq_false (not_not_intro hi)]
  exact Bool.false_ne_true

theorem State.dapUnselected {s : State} (hi : s.dbg.instr ≠ 0x10) : (!s.tapOn || decide (s.dbg.instr ≠ 0x10)) = true := by
  rw [decide_eq_true hi, Bool.or_true]

/-- A refused access (R90): every command of the access port at a level that does not permit it. -/
theorem dapAccess_refused {s : State} (ht : s.tapOn = true) (hi : s.dbg.instr = 0x10) (hp : s.debugPermits = false) (space a : Nat) :
    exec (.dapRead space a) s = .next (s.dapRefused space a 0) ∧ ∀ v, exec (.dapWrite space a v) s = .next (s.dapRefused space a 2) := by
  refine ⟨next_congr ((if_neg (State.dapSelected ht hi)).trans (if_neg ?_)),
    fun v => next_congr ((if_neg (State.dapSelected ht hi)).trans (if_pos ?_))⟩
  · rw [hp]
    exact Bool.false_ne_true
  · rw [hp]
    rfl

/-- The two words that an access shifts out (R563). -/
def dapWord (space addr op : Nat) (err : Bool) (value : Nat) : Nat :=
  addr % 2 ^ 24 + space % 2 * 2 ^ 24 + op * 2 ^ 25 + b2n err * 2 ^ 31 + value % 2 ^ 32 * 2 ^ 32

theorem State.dapResult_eq (s : State) (space addr op : Nat) (err : Bool) (value : Nat) : s.dapResult space addr op err value =
    { (s.shiftOut (leBytes 8 (dapWord space addr op err value))) with dbg := { s.dbg with result := dapWord space addr op err value } } := rfl

/-- Only the low bytes of a number are written. -/
theorem leBytes_mod (n v : Nat) : leBytes n (v % 256 ^ n) = leBytes n v := by
  induction n generalizing v with
  | zero => rfl
  | succ n ih =>
    have hbyte : byte (v % 256 ^ (n + 1)) = byte v := by
      refine BitVec.eq_of_toNat_eq ?_
      rw [byte, byte, BitVec.toNat_ofNat, BitVec.toNat_ofNat]
      exact Nat.mod_mod_of_dvd v (show 256 ∣ 256 ^ (n + 1) from ⟨256 ^ n, by rw [Nat.pow_succ, Nat.mul_comm]⟩)
    rw [leBytes, leBytes, hbyte, Nat.pow_succ', Nat.mod_mul_right_div_self, ih]

/-- The lower word holds the address, the operation and the error, the upper one the data. -/
theorem dapWord_split (space addr : Nat) {op : Nat} (hop : op < 4) (err : Bool) (value : Nat) : ∃ low, low < 2 ^ 31 ∧
    dapWord space addr op err value = value % 2 ^ 32 * 2 ^ 32 + (b2n err * 2 ^ 31 + low) := by
  refine ⟨addr % 2 ^ 24 + space % 2 * 2 ^ 24 + op * 2 ^ 25, by omega, ?_⟩
  unfold dapWord
  omega

theorem testBit_dapWord (space addr : Nat) {op : Nat} (hop : op < 4) (err : Bool) (value : Nat) :
    (dapWord space addr op err value).testBit 31 = err := by
  obtain ⟨low, hlow, heq⟩ := dapWord_split space addr hop err value
  rw [heq, Nat.testBit_eq_decide_div_mod_eq]
  cases err <;> simp [b2n] <;> omega

theorem drop_leBytes_dapWord (space addr : Nat) {op : Nat} (hop : op < 4) (err : Bool) (value : Nat) :
    (leBytes 8 (dapWord space addr op err value)).drop 4 = leBytes 4 value := by
  obtain ⟨low, hlow, heq⟩ := dapWord_split space addr hop err value
  have hb : b2n err < 2 := by cases err <;> decide
  have hhigh : dapWord space addr op err value / 256 / 256 / 256 / 256 = value % 2 ^ 32 := by
    rw [heq]
    omega
  show leBytes 4 (dapWord space addr op err value / 256 / 256 / 256 / 256) = _
  rw [hhigh]
  exact leBytes_mod 4 value

theorem State.dapResult_only (s : State) (space addr op : Nat) (err : Bool) (value : Nat) :
    Only [.dbg, .sent] s (s.dapResult space addr op err value) := by
  rw [State.dapResult_eq]
  generalize dapWord space addr op err value = w
  intro q hq
  cases q <;> first | rfl | exact absurd hq (by decide)

/-- An access leaves the words of the warden's debug space. -/
theorem State.dapResult_wardenSpace (s : State) (space addr op : Nat) (err : Bool) (value : Nat) :
    (s.dapResult space addr op err value).dbg.wardenSpace = s.dbg.wardenSpace := by
  obtain ⟨w, hw⟩ : ∃ w, s.dapResult space addr op err value =
    { (s.shiftOut (leBytes 8 w)) with dbg := { s.dbg with result := w } } := ⟨_, s.dapResult_eq space addr op err value⟩
  rw [hw]

/-- Bit 31 of the lower word is the error. -/
theorem State.dapResult_error (s : State) (space addr : Nat) {op : Nat} (hop : op < 4) (err : Bool) (value : Nat) :
    (s.dapResult space addr op err value).dbg.result.testBit 31 = err := by
  have h := testBit_dapWord space addr hop err value
  rw [State.dapResult_eq]
  generalize dapWord space addr op err value = w at h ⊢
  exact h

/-- A quiet read of a word shifts out two words, whatever it meets (R563). -/
theorem State.dapReadWord_quiet (s : State) (space a : Nat) : ∃ err value, ∃ t : State,
    (t = s.dapResult space a 1 err value ∨ t = (s.dapResult space a 1 err value).used) ∧ s.dapReadWord space a 1 = t ∧
    (s.dapMapped space a = true → space % 2 = 0 → err = decide ((s.readAll (a % 2 ^ 24) 4).2.1 ≠ 0) ∧
      value = leVal (s.readAll (a % 2 ^ 24) 4).2.2) ∧ (s.dapMapped space a = false → err = true) := by
  unfold State.dapReadWord
  cases hm : s.dapMapped space a with
  | false => exact ⟨true, 0, _, .inl rfl, if_pos rfl, (by intro h; cases h), fun _ => rfl⟩
  | true =>
    by_cases hs : space % 2 = 1
    · exact ⟨false, s.fresh .unstated 0, _, .inr rfl, (if_neg (by decide)).trans (if_pos hs), fun _ h => by omega, (by intro h; cases h)⟩
    · exact ⟨decide ((s.readAll (a % 2 ^ 24) 4).2.1 ≠ 0), leVal (s.readAll (a % 2 ^ 24) 4).2.2, _, .inl rfl,
        (if_neg (by decide)).trans (if_neg hs), fun _ _ => ⟨rfl, rfl⟩, (by intro h; cases h)⟩

/-- A quiet read that the level permits (R12, R563). -/
theorem dapQuietRead_spec {s : State} (space a : Nat) (ht : s.tapOn = true) (hi : s.dbg.instr = 0x10) (hg : s.power.dbgen = true)
    (hl : s.otp.debugLevel < 2) :
    ∃ t d, exec (.dapQuietRead space a) s = .next t ∧ d.length = 8 ∧ t.sent = (s.send (.jtag d)).sent ∧
      t.dbg.instr = 0x10 ∧ t.dbg.halted = s.dbg.halted ∧ t.dbg.wardenSpace = s.dbg.wardenSpace ∧
      (a % 4 = 0 → space % 2 = 0 → a < 2 ^ 24 → s.portAlive = true → s.mode.firmware = true → (s.readAll a 4).2.1 = 0 →
        d.drop 4 = leBytes 4 (leVal (s.readAll a 4).2.2) ∧ t.dbg.result.testBit 31 = false) ∧
      (a % 4 ≠ 0 → t.dbg.result.testBit 31 = true) ∧ Only [.dbg, .sent, .freeCount] s t := by
  obtain ⟨err, value, t, ht', hrun, hword, herr⟩ := s.dapReadWord_quiet space a
  obtain ⟨w, hw⟩ : ∃ w, w = dapWord space a 1 err value := ⟨_, rfl⟩
  have hbit : w.testBit 31 = err := by
    rw [hw]
    exact testBit_dapWord space a (by decide) err value
  have hdrop : (leBytes 8 w).drop 4 = leBytes 4 value := by
    rw [hw]
    exact drop_leBytes_dapWord space a (by decide) err value
  have hres := s.dapResult_eq space a 1 err value
  rw [← hw] at hres
  have hdbg : t.dbg = { s.dbg with result := w } := by
    rcases ht' with rfl | rfl
    · rw [hres]
    · show (s.dapResult space a 1 err value).dbg = _
      rw [hres]
  have hsent : t.sent = (s.send (.jtag (leBytes 8 w))).sent := by
    rcases ht' with rfl | rfl
    · rw [hres]
      rfl
    · show (s.dapResult space a 1 err value).sent = _
      rw [hres]
      rfl
  refine ⟨t, leBytes 8 w, next_congr ((if_neg (State.dapSelected ht hi)).trans ((if_pos ?_).trans hrun)), length_leBytes 8 w, hsent, ?_, ?_, ?_,
    fun h4 h2 hlt hport hf hok => ?_, fun h4 => ?_, ?_⟩
  · rw [hg, decide_eq_true hl]
    rfl
  · rw [hdbg]
    exact hi
  · rw [hdbg]
  · rw [hdbg]
  · have hmapped : s.dapMapped space a = true := by
      unfold State.dapMapped
      rw [decide_eq_true h4, hf, hport, Bool.or_true]
      rfl
    obtain ⟨he, hv⟩ := hword hmapped h2
    rw [Nat.mod_eq_of_lt hlt] at he hv
    refine ⟨by rw [hdrop, hv], ?_⟩
    rw [hdbg]
    refine hbit.trans (he.trans (decide_eq_false (not_not_intro hok)))
  · rw [hdbg]
    refine hbit.trans (herr ?_)
    unfold State.dapMapped
    rw [decide_eq_false h4]
    rfl
  · rcases ht' with rfl | rfl
    · exact (s.dapResult_only _ _ _ _ _).mono (by decide)
    · exact ((s.dapResult_only space a 1 err value).mono (by decide)).trans fun q hq => by
        cases q <;> first | rfl | exact absurd hq (by decide)

/-- A served read and a served write of the mapped space (R563). -/
theorem dapAccess_mapped {s : State} {a : Nat} (ht : s.tapOn = true) (hi : s.dbg.instr = 0x10) (hp : s.debugPermits = true)
    (hf : s.mode.firmware = true) (hport : s.portAlive = true) (h4 : a % 4 = 0) (hlt : a < 2 ^ 24) :
    exec (.dapRead 0 a) s = .next ((s.readAll a 4).1.dapResult 0 a 0 (decide ((s.readAll a 4).2.1 ≠ 0))
      (leVal (s.readAll a 4).2.2)) ∧
    ∀ v, v < 2 ^ 32 → exec (.dapWrite 0 a v) s = .next ((s.writeCut (a, 0, leBytes 4 v)).1.alertSettle.dapResult 0 a 2
      (decide ((s.writeCut (a, 0, leBytes 4 v)).2 ≠ 0)) v) := by
  have hmapped : ¬ (!s.dapMapped 0 a) = true := by
    unfold State.dapMapped
    rw [decide_eq_true h4, hf, hport]
    decide
  have hmod : a % 2 ^ 24 = a := Nat.mod_eq_of_lt hlt
  constructor
  · refine next_congr ((if_neg (State.dapSelected ht hi)).trans ((if_pos hp).trans ?_))
    unfold State.dapReadWord
    refine (if_neg hmapped).trans ((if_neg (by decide)).trans ?_)
    dsimp only
    rw [hmod, if_neg (by decide)]
  · intro v hv
    refine next_congr ((if_neg (State.dapSelected ht hi)).trans ((if_neg ?_).trans ((if_neg hmapped).trans ((if_neg (by decide)).trans ?_))))
    · rw [hp]
      exact Bool.false_ne_true
    · dsimp only
      rw [hmod]

/-- A served write of the warden's debug space (R563). -/
theorem dapWrite_warden {s : State} {a : Nat} (v : Nat) (ht : s.tapOn = true) (hi : s.dbg.instr = 0x10) (hp : s.debugPermits = true)
    (hf : s.mode.firmware = true) (h4 : a % 4 = 0) (hlt : a < 2 ^ 24) : ∃ t, exec (.dapWrite 1 a v) s = .next t ∧
    Tab.get 0 t.dbg.wardenSpace a = v % 2 ^ 32 ∧ t.dbg.result.testBit 31 = false ∧ Only [.dbg, .sent, .freeCount] s t := by
  obtain ⟨m, hm⟩ : ∃ m, m = v % 2 ^ 32 := ⟨_, rfl⟩
  obtain ⟨f, hf'⟩ : ∃ f, f = s.fresh .unstated 0 := ⟨_, rfl⟩
  obtain ⟨x, hx⟩ : ∃ x : State, x = { s with dbg := { s.dbg with
    wardenSpace := Tab.set 0 s.dbg.wardenSpace a m, breakpoints := f } } := ⟨_, rfl⟩
  have hmapped : ¬ (!s.dapMapped 1 a) = true := by
    unfold State.dapMapped
    rw [decide_eq_true h4, hf, show decide (1 % 2 = 1) = true from rfl, Bool.true_or]
    decide
  have hmod : a % 2 ^ 24 = a := Nat.mod_eq_of_lt hlt
  have hspace := x.dapResult_wardenSpace 1 a 2 false v
  have herr := x.dapResult_error 1 a (show 2 < 4 by decide) false v
  have honly := x.dapResult_only 1 a 2 false v
  have hrun : execDapWrite 1 a v s = .next (x.dapResult 1 a 2 false v).used := by
    refine next_congr ((if_neg (State.dapSelected ht hi)).trans ((if_neg ?_).trans ((if_neg hmapped).trans ((if_pos rfl).trans ?_))))
    · rw [hp]
      exact Bool.false_ne_true
    · dsimp only
      rw [hmod, hx, hm, hf']
  generalize x.dapResult 1 a 2 false v = y at hspace herr honly hrun
  refine ⟨y.used, hrun, ?_, herr, ?_⟩
  · rw [← hm]
    show Tab.get 0 y.dbg.wardenSpace a = m
    rw [hspace, hx]
    exact (Tab.get_set 0 s.dbg.wardenSpace a a m).trans (if_pos rfl)
  · refine Only.trans (t := x) ?_ ((honly.mono (by decide)).trans fun q hq => by
      cases q <;> first | rfl | exact absurd hq (by decide))
    rw [hx]
    intro q hq
    cases q <;> first | rfl | exact absurd hq (by decide)

/-! ### Halting -/

/-- The fall of DBGEN ends every halt (R567). -/
theorem dbgenFall_spec (s : State) : ∃ x : State, exec .dbgenFall s = .next (x.flushReplies.followed) ∧
    x.power = { s.power with dbgen := false } ∧ x.dbg.halted = 0 ∧ x.boot.watchdogPaused = false ∧
    Only [.power, .dbg, .boot, .faults] s x := by
  obtain ⟨y, hy⟩ : ∃ y : State, y = ({ s with power := { s.power with dbgen := false } } : State).setSrc 305 fun x =>
      { x with present := false } := ⟨_, rfl⟩
  refine ⟨{ y with dbg := { y.dbg with halted := 0, breakpoints := 0 }, boot := { y.boot with watchdogPaused := false } }, ?_, ?_, rfl, rfl, ?_⟩
  · rw [hy]
    rfl
  · rw [hy]
    rfl
  · rw [hy]
    intro q hq
    cases q <;> first | rfl | exact absurd hq (by decide)

/-- A halt requested of a pair (R566). -/
theorem haltRequest_spec {s : State} {pair : Nat} (hpair : pair < 2) (hf : s.mode.firmware = true) :
    (s.debugPermits = false → exec (.haltRequest pair) s = .next (s.raise 304 1 [byte pair])) ∧
    (s.debugPermits = true → ∃ x : State, x.dbg.halted.testBit pair = true ∧
      x.dbg.halted.testBit (1 - pair) = s.dbg.halted.testBit (1 - pair) ∧
      x.boot = { s.boot with watchdogPaused := true } ∧
      (s.mode = .service → exec (.haltRequest pair) s = .next x ∧ Only [.dbg, .boot] s x) ∧
      (s.mode ≠ .service → x.power = { s.power with alive := false } ∧
        exec (.haltRequest pair) s = .next (x.begin_ 305 1 [byte pair]) ∧ Only [.dbg, .boot, .power] s x)) := by
  have hguard : ¬ (decide (1 < pair) || !s.mode.firmware) = true := by
    rw [hf, decide_eq_false (by omega)]
    exact Bool.false_ne_true
  have hself : (setBit s.dbg.halted pair true).testBit pair = true := (testBit_setBit ..).trans (if_pos rfl)
  have hother : (setBit s.dbg.halted pair true).testBit (1 - pair) = s.dbg.halted.testBit (1 - pair) :=
    (testBit_setBit ..).trans (if_neg (by omega))
  refine ⟨fun hp => next_congr ((if_neg hguard).trans (if_pos (by rw [hp]; rfl))), fun hp => ?_⟩
  obtain ⟨x, hx⟩ : ∃ x : State, x = { s with
    dbg := { s.dbg with halted := setBit s.dbg.halted pair true }, boot := { s.boot with watchdogPaused := true } } := ⟨_, rfl⟩
  have hrun : ∀ y, (if s.mode = .service then x else ({ x with power := { x.power with alive := false } } : State).begin_ 305 1 [byte pair]) = y →
      exec (.haltRequest pair) s = .next y := fun y h => by
    rw [hx] at h
    exact next_congr ((if_neg hguard).trans ((if_neg (by rw [hp]; exact Bool.false_ne_true)).trans h))
  by_cases hm : s.mode = .service
  · refine ⟨x, ?_, ?_, ?_, fun _ => ⟨hrun x (if_pos hm), ?_⟩, fun h => absurd hm h⟩
    all_goals rw [hx]
    · exact hself
    · exact hother
    · intro q hq
      cases q <;> first | rfl | exact absurd hq (by decide)
  · refine ⟨{ x with power := { x.power with alive := false } }, ?_, ?_, ?_, fun h => absurd h hm, fun _ => ⟨?_, hrun _ (if_neg hm), ?_⟩⟩
    all_goals rw [hx]
    · exact hself
    · exact hother
    · intro q hq
      cases q <;> first | rfl | exact absurd hq (by decide)

/-- The release of one of two halted pairs (R566). -/
theorem haltRelease_one {s : State} {pair : Nat} (hpair : pair < 2) (hself : s.dbg.halted.testBit pair = true)
    (hother : s.dbg.halted.testBit (1 - pair) = true) : ∃ t, exec (.haltRelease pair) s = .next t ∧
    t.dbg.halted.testBit pair = false ∧ t.dbg.halted.testBit (1 - pair) = true ∧ Only [.dbg] s t := by
  obtain ⟨h, hh⟩ : ∃ h, h = setBit s.dbg.halted pair false := ⟨_, rfl⟩
  have hoff : h.testBit pair = false := by
    rw [hh]
    exact (testBit_setBit ..).trans (if_pos rfl)
  have hkeep : h.testBit (1 - pair) = true := by
    rw [hh]
    exact ((testBit_setBit ..).trans (if_neg (by omega))).trans hother
  have hne : ¬ h = 0 := fun h0 => by
    rw [h0, Nat.zero_testBit] at hkeep
    exact Bool.false_ne_true hkeep
  refine ⟨{ s with dbg := { s.dbg with halted := h } }, next_congr ((if_pos ⟨hpair, hself⟩).trans ?_), hoff, hkeep, fun q hq => ?_⟩
  · dsimp only
    rw [← hh]
    exact if_neg hne
  · cases q <;> first | rfl | exact absurd hq (by decide)

/-- The release of the last halted pair (R566). -/
theorem haltRelease_last {s : State} {pair : Nat} (hpair : pair < 2) (hh : s.dbg.halted = 2 ^ pair) : ∃ x : State,
    exec (.haltRelease pair) s = .next (x.flushReplies.followed) ∧ x.dbg.halted = 0 ∧ x.boot.watchdogPaused = false ∧
    (x.srcAt 305).present = false ∧ Only [.dbg, .boot, .faults] s x := by
  have hself : s.dbg.halted.testBit pair = true := by
    rw [hh]
    exact Nat.testBit_two_pow_self
  have hzero : setBit s.dbg.halted pair false = 0 := by
    rw [hh]
    exact setBit_two_pow pair
  obtain ⟨y, hy⟩ : ∃ y : State, y = { s with dbg := { s.dbg with halted := 0 }, boot := { s.boot with watchdogPaused := false } } := ⟨_, rfl⟩
  refine ⟨y.setSrc 305 fun x => { x with present := false }, next_congr ((if_pos ⟨hpair, hself⟩).trans ?_), ?_, ?_, ?_, ?_⟩
  · dsimp only
    rw [hzero, hy]
    exact if_pos rfl
  · show y.dbg.halted = 0
    rw [hy]
  · show y.boot.watchdogPaused = false
    rw [hy]
  · rw [State.srcAt_setSrc, if_pos rfl]
  · refine Only.trans (t := y) ?_ fun q hq => by cases q <;> first | rfl | exact absurd hq (by decide)
    rw [hy]
    intro q hq
    cases q <;> first | rfl | exact absurd hq (by decide)

/-- A semaphore held too long (R565). -/
theorem semaphoreTimeout_spec {s : State} {n pair : Nat} (hn : n < 32) (hpair : pair < 2) (hf : s.mode.firmware = true) : ∃ x : State,
    exec (.semaphoreTimeout n pair) s = .next (x.raise 300 1 [byte n, byte pair]) ∧
    Tab.get ({} : Semaphore) x.dbg.semaphores n = { Tab.get {} s.dbg.semaphores n with
      holder := none, region := (Tab.get {} s.dbg.semaphores n).copy, busError := true } ∧
    (∀ m, m ≠ n → Tab.get ({} : Semaphore) x.dbg.semaphores m = Tab.get {} s.dbg.semaphores m) ∧
    Only [.dbg] s x := by
  obtain ⟨w, hw⟩ : ∃ w : Semaphore, w = { Tab.get {} s.dbg.semaphores n with
    holder := none, region := (Tab.get {} s.dbg.semaphores n).copy, busError := true } := ⟨_, rfl⟩
  refine ⟨{ s with dbg := { s.dbg with semaphores := Tab.set {} s.dbg.semaphores n w } },
    next_congr ((if_pos ⟨hn, hpair, hf⟩).trans (by rw [hw])), ?_, fun m hm => ?_, fun q hq => ?_⟩
  · exact ((Tab.get_set {} s.dbg.semaphores n n w).trans (if_pos rfl)).trans hw
  · exact (Tab.get_set {} s.dbg.semaphores n m w).trans (if_neg hm)
  · cases q <;> first | rfl | exact absurd hq (by decide)

end Sys2Proof.Machine

namespace Sys2Proof
open Machine

/-- Settles O44: the TAP instructions by level, the accesses of the debug port, halts and semaphores. -/
theorem tapAndDebugPort : Obligations.TapAndDebugPort := by
  unfold Obligations.TapAndDebugPort
  refine ⟨fun s => ⟨fun hs => ?_, tapReset_ends, fun ht => ⟨?_, fun c hc hcode => ?_, fun c hcode => ?_, ?_, samplePreload_spec ht⟩,
    fun i code hi => ⟨fun ht hd => ?_, fun hs hd => ?_, fun hf hs hd => ?_⟩, fun ht => ⟨fun c => ?_, ?_, ?_, fun cells => ?_⟩⟩,
    fun s => ⟨fun b => ?_, fun space a ht hi hp => ?_, fun space a v ht hi hl hm => ?_, fun space a => dapQuietRead_spec space a,
      fun a ht hi hp hf hport h4 hlt => dapAccess_mapped ht hi hp hf hport h4 hlt,
      fun a v ht hi hp hf h4 hlt => dapWrite_warden v ht hi hp hf h4 hlt, fun a v space hi => ?_, dbgenFall_spec s,
      fun pair => haltRequest_spec, fun pair => haltRelease_one, fun pair => haltRelease_last, fun pair hp => ?_,
      fun n pair => semaphoreTimeout_spec, fun n pair h => ?_⟩⟩
  · exact next_congr (if_neg (by rw [hs]; exact Bool.false_ne_true))
  · refine next_congr ((if_neg ?_).trans (if_pos rfl))
    rw [ht]
    decide
  · refine next_congr ((if_neg ?_).trans (if_neg hc))
    rw [ht, hcode]
    decide
  · refine next_congr (if_pos ?_)
    rw [hcode, Bool.or_true]
  · exact next_congr (if_pos ht)
  · exact (exec_scanInstr hi).trans (congrArg _ (State.scanInstr_refused ht hd code))
  · exact (exec_scanInstr hi).trans (congrArg _ (State.scanInstr_held hs hd code))
  · exact ⟨_, exec_scanInstr hi, State.scanInstr_enters hf hs hd rfl⟩
  · refine next_congr (if_pos ?_)
    rw [ht]
    rfl
  · exact next_congr (if_neg (by rw [ht]; exact Bool.false_ne_true))
  · exact next_congr (if_pos (by rw [ht]; rfl))
  · exact next_congr (if_neg (by rw [ht]; exact Bool.false_ne_true))
  · obtain ⟨x, hx⟩ : ∃ x : State, x = { s with power := { s.power with dbgen := b } } := ⟨_, rfl⟩
    have hon : x.tapOn = s.tapOn := by
      rw [hx]
      rfl
    refine ⟨x, by rw [hx], by rw [hx]; exact Only.power _ _, fun ht => ?_, fun ht hb hl => ?_, fun ht hb => ?_⟩
    · rw [hon] at ht
      rw [hx]
      exact next_congr (if_pos (by rw [ht]; rfl))
    · rw [hon] at ht
      rw [hx]
      refine next_congr ((if_neg (by rw [ht]; exact Bool.false_ne_true)).trans (if_pos ?_))
      rw [hb, decide_eq_true hl]
      rfl
    · rw [hon] at ht
      rw [hx]
      refine next_congr ((if_neg (by rw [ht]; exact Bool.false_ne_true)).trans (if_neg ?_))
      rcases hb with hb | hb
      · rw [hb]
        exact Bool.false_ne_true
      · rw [decide_eq_false (by omega), Bool.and_false]
        exact Bool.false_ne_true
  · obtain ⟨hread, hwrite⟩ := dapAccess_refused ht hi (State.debugPermits_dbgen hp) space a
    refine ⟨next_congr ((if_neg (State.dapSelected ht hi)).trans (if_neg ?_)), hread, hwrite⟩
    rcases hp with h | h
    · rw [h]
      exact Bool.false_ne_true
    · rw [decide_eq_false (by omega), Bool.and_false]
      exact Bool.false_ne_true
  · obtain ⟨hread, hwrite⟩ := dapAccess_refused ht hi (State.debugPermits_service hl hm) space a
    exact ⟨hread, hwrite v⟩
  · exact ⟨next_congr (if_pos (State.dapUnselected hi)), next_congr (if_pos (State.dapUnselected hi)),
      next_congr (if_pos (State.dapUnselected hi))⟩
  · refine next_congr (if_neg fun h => ?_)
    obtain ⟨-, hbit⟩ := h
    rw [bit, hp] at hbit
    exact Bool.false_ne_true hbit
  · refine next_congr (if_neg fun hall => ?_)
    obtain ⟨h1, h2, h3⟩ := hall
    rcases h with h | h | h
    · omega
    · omega
    · rw [h] at h3
      exact Bool.false_ne_true h3

end Sys2Proof
end

section
/-! PROOFS. What every event of the collector leaves alone, whatever its reactions do (R480): the logbook load in progress, the
committed description, the temperature flags and the mean current of each channel, and an engine with no sample waiting. -/
set_option Elab.async false
namespace Sys2Proof.Machine

/-- What no reaction changes of a channel. -/
def Chan.kept (c : Chan) : Bool × Bool × Int := (c.tempWarn, c.tempFault, c.curMean)

/-- `t` is a state that the reactions to events may make of `s`. -/
structure State.Steady (s t : State) : Prop where
  loading : t.log.loading = s.log.loading
  committed : t.desc.committed = s.desc.committed
  words : ∀ c, (t.chanAt c).kept = (s.chanAt c).kept
  ready : ∀ c, (s.engineAt c).ready = [] → (t.engineAt c).ready = []

namespace State.Steady

theorem refl (s : State) : s.Steady s := ⟨rfl, rfl, fun _ => rfl, fun _ h => h⟩

theorem trans {s t u : State} (h : s.Steady t) (h' : t.Steady u) : s.Steady u :=
  ⟨h'.loading.trans h.loading, h'.committed.trans h.committed, fun c => (h'.words c).trans (h.words c),
    fun c hc => h'.ready c (h.ready c hc)⟩

/-- A step that leaves the logbook, the description, the channels and the clusters alone. -/
theorem of_eq {s t u : State} (h : s.Steady t) (hlog : u.log = t.log) (hdesc : u.desc = t.desc) (hchan : u.chan = t.chan)
    (hcluster : u.cluster = t.cluster) : s.Steady u :=
  h.trans ⟨congrArg _ hlog, congrArg _ hdesc, fun c => by rw [State.chanAt, hchan, ← State.chanAt],
    fun c hc => by rw [State.engineAt, State.clusterAt, hcluster, ← State.clusterAt]; exact hc⟩

theorem foot {s t u : State} {m : Nat} (h : s.Steady t) (hf : Foot m t u) (hlog : Part.log.holds m = false := by rfl)
    (hdesc : Part.desc.holds m = false := by rfl) (hchan : Part.chan.holds m = false := by rfl)
    (hcluster : Part.cluster.holds m = false := by rfl) : s.Steady u :=
  h.of_eq (hf.keeps .log hlog) (hf.keeps .desc hdesc) (hf.keeps .chan hchan) (hf.keeps .cluster hcluster)

theorem each {s t : State} (h : s.Steady t) (l : List Nat) {f : State → Nat → State}
    (hf : ∀ (x : State) (k : Nat), x.Steady (f x k)) : s.Steady (t.each l f) := by
  induction l generalizing t with
  | nil => exact h
  | cons k l ih => exact ih (h.trans (hf t k))

theorem ite {s x y : State} {p : Prop} [Decidable p] (hx : s.Steady x) (hy : s.Steady y) : s.Steady (if p then x else y) := by
  split
  · exact hx
  · exact hy

theorem record {s t : State} (h : s.Steady t) (cls event : Nat) (items : Bytes) : s.Steady (t.record cls event items) :=
  h.trans ⟨rfl, rfl, fun _ => rfl, fun _ hc => hc⟩

theorem setSluice {s t : State} (h : s.Steady t) (x : Sluice) : s.Steady { t with sluice := x } := h.of_eq rfl rfl rfl rfl

theorem setScan {s t : State} (h : s.Steady t) (x : Scanner) : s.Steady { t with scan := x } := h.of_eq rfl rfl rfl rfl

theorem setTide {s t : State} (h : s.Steady t) (x : Tideline) : s.Steady { t with tide := x } := h.of_eq rfl rfl rfl rfl

theorem setFaults {s t : State} (h : s.Steady t) (x : Faults) : s.Steady { t with faults := x } := h.of_eq rfl rfl rfl rfl

theorem setPower {s t : State} (h : s.Steady t) (x : Power) : s.Steady { t with power := x } := h.of_eq rfl rfl rfl rfl

theorem setOut {s t : State} (h : s.Steady t) (k : Nat) (f : Out → Out) : s.Steady (t.setOut k f) := h.of_eq rfl rfl rfl rfl

theorem setChan {s t : State} (h : s.Steady t) (c : Nat) {f : Chan → Chan} (hf : ∀ x, (f x).kept = x.kept) :
    s.Steady (t.setChan c f) := by
  refine h.trans ⟨rfl, rfl, fun j => ?_, fun _ hc => hc⟩
  rw [State.chanAt_setChan]
  split
  · next heq => rw [heq]; exact hf _
  · rfl

theorem setCluster {s t : State} (h : s.Steady t) (q : Nat) {f : Cluster → Cluster}
    (hf : ∀ x, (f x).engines = x.engines ∨ (f x).engines = []) : s.Steady (t.setCluster q f) := by
  refine h.trans ⟨rfl, rfl, fun _ => rfl, fun c hc => ?_⟩
  unfold State.engineAt at hc ⊢
  rw [State.clusterAt_setCluster]
  split
  · next heq =>
    rw [← heq]
    rcases hf (t.clusterAt (quadrant c)) with he | he
    · rw [he]
      exact hc
    · rw [he]
      rfl
  · exact hc

/-! ### Channels driven low -/

theorem lowUnlessLocked_kept (st : ChState) (x : Chan) : (x.lowUnlessLocked st).kept = x.kept := by
  unfold Chan.lowUnlessLocked
  split <;> rfl

theorem setTrip {s t : State} (h : s.Steady t) (k c : Nat) : s.Steady (t.setTrip k c) := by
  have hcode : ∀ code, s.Steady (t.setChan c fun x => { x with thr := { x.thr with trip := code } }) :=
    fun code => h.setChan c fun _ => rfl
  exact hcode (t.tripCode k c)

theorem lowPhase {s t : State} (h : s.Steady t) (k : Nat) (st : ChState) (c : Nat) : s.Steady (t.lowPhase k st c) :=
  (h.setChan c (lowUnlessLocked_kept _)).setTrip k c

theorem lowOutput {s t : State} (h : s.Steady t) (k : Nat) (st : ChState) : s.Steady (t.lowOutput k st) :=
  h.each _ fun x c => (refl x).lowPhase k st c

theorem lowAll {s t : State} (h : s.Steady t) (st : ChState) : s.Steady (t.lowAll st) := by
  unfold State.lowAll
  exact h.each _ fun x c => (refl x).setChan c (lowUnlessLocked_kept st)

theorem forceOut {s t : State} (h : s.Steady t) (k state cause : Nat) (record : Bool) :
    s.Steady (t.forceOut k state cause record) := by
  unfold State.forceOut
  exact .ite (((h.lowOutput k _).setOut k _).record _ _ _) ((h.lowOutput k _).setOut k _)

theorem endRamp {s t : State} (h : s.Steady t) (k : Nat) : s.Steady (t.endRamp k) := (h.lowOutput k _).setOut k _

theorem forceDependant {s t : State} (h : s.Steady t) (j : Nat) : s.Steady (t.forceDependant j) := by
  unfold State.forceDependant
  exact .ite (h.forceOut _ _ _ _) (.ite (h.setOut _ _) (.ite (h.endRamp _) (.ite (h.setOut _ _) h)))

theorem failOut {s t : State} (h : s.Steady t) (k cause : Nat) (record : Bool) : s.Steady (t.failOut k cause record) :=
  (h.forceOut k 4 cause record).each _ fun x j => (refl x).forceDependant j

theorem quadrantOff {s t : State} (h : s.Steady t) (q : Nat) : s.Steady (t.quadrantOff q) := by
  unfold State.quadrantOff
  exact .ite ((h.each _ fun x _ => .ite ((refl x).failOut _ _ _) (refl x)).each _ fun x c =>
    (refl x).setChan c (lowUnlessLocked_kept _)) h

theorem orderStop {s t : State} (h : s.Steady t) (k cause : Nat) : s.Steady (t.orderStop k cause) := by
  unfold State.orderStop
  exact .ite (h.setOut _ _) (.ite ((h.lowOutput _ _).setOut _ _) (.ite ((h.setOut _ _).record _ _ _) h))

theorem settle {s t : State} (h : s.Steady t) : s.Steady t.settle := h.foot (State.settle_foot _)

theorem safeHoldOut {s t : State} (h : s.Steady t) (k : Nat) : s.Steady (t.safeHoldOut k) := by
  unfold State.safeHoldOut
  exact .ite ((h.lowOutput _ _).setOut _ _)
    (.ite (h.setOut _ _) (.ite h (.ite (h.orderStop k 7) (.ite (h.failOut _ _ _) h))))

theorem safeHoldOutputs {s t : State} (h : s.Steady t) : s.Steady t.safeHoldOutputs :=
  (h.each _ fun x k => (refl x).safeHoldOut k).settle

theorem outputsOff {s t : State} (h : s.Steady t) (cause : Nat) : s.Steady (t.outputsOff cause) := by
  unfold State.outputsOff
  exact h.each _ fun x k => .ite (((refl x).lowOutput k _).setOut k _) (.ite ((refl x).setOut k _) (.ite ((refl x).endRamp k) (refl x)))

/-! ### Modes, yields and resets -/

theorem onEntry {s t : State} (h : s.Steady t) (old m : Mode) : s.Steady (t.onEntry old m) := by
  obtain ⟨u, hu⟩ : ∃ u : State, u = { t with budget := { t.budget with frozen := m = .safeHold || (m = .service && t.budget.frozen) } } :=
    ⟨_, rfl⟩
  have hsu : s.Steady u := by
    rw [hu]
    exact h.of_eq rfl rfl rfl rfl
  unfold State.onEntry
  dsimp only
  rw [← hu]
  cases m with
  | run => exact .ite (hsu.foot (State.wantEnabled_foot _)).settle hsu.settle
  | configure =>
    have hclear : s.Steady u.clearWanted := hsu.foot u.clearWanted_foot
    show s.Steady (u.clearWanted.outputsOff 1)
    generalize u.clearWanted = y at hclear ⊢
    exact hclear.outputsOff 1
  | shadow => exact .ite hsu ((hsu.lowAll .notOwned).setSluice _)
  | safeHold => exact hsu.safeHoldOutputs
  | _ => exact hsu

theorem abandonCommit {s t : State} (h : s.Steady t) (st : Status) : s.Steady (t.abandonCommit st) := by
  unfold State.abandonCommit
  refine .ite ?_ h
  exact (h.foot (t.finishAll_foot (fun w => w.what.isCommit) st)).trans ⟨rfl, rfl, fun _ => rfl, fun _ hc => hc⟩

theorem closeEdit {s t : State} (h : s.Steady t) : s.Steady t.closeEdit := by
  unfold State.closeEdit
  exact .ite h (h.trans ⟨rfl, rfl, fun _ => rfl, fun _ hc => hc⟩)

theorem enterMode {s t : State} (h : s.Steady t) (m : Mode) : s.Steady (t.enterMode m) := by
  have ha : s.Steady (((t.abortIdents 0x08).endProbe 0x03).wakeGauge t.retained.rtcNs 0) :=
    ((h.foot (t.abortIdents_foot _)).foot (State.endProbe_foot _ _)).foot (State.wakeGauge_foot _ _ _)
  unfold State.enterMode
  generalize (((t.abortIdents 0x08).endProbe 0x03).wakeGauge t.retained.rtcNs 0) = a at ha ⊢
  have hb : s.Steady (if minorChange t.mode m = true then a
      else (a.abandonCommit (if modesEdit.contains m = true then .busy else .wrongMode)).closeEdit) :=
    .ite ha (ha.abandonCommit _).closeEdit
  dsimp only
  generalize (if minorChange t.mode m = true then a
      else (a.abandonCommit (if modesEdit.contains m = true then .busy else .wrongMode)).closeEdit) = b at hb ⊢
  have hc : s.Steady (if t.mode = .service ∨ m = .lastGasp then b.releaseHalts else b) :=
    .ite (hb.foot b.releaseHalts_foot) hb
  generalize (if t.mode = .service ∨ m = .lastGasp then b.releaseHalts else b) = c at hc ⊢
  have hd : s.Steady { c with power := { c.power with mode := m, fromMode := t.mode, modeEpoch := c.clocks.epoch } } :=
    hc.of_eq rfl rfl rfl rfl
  exact hd.foot (State.irqMode_foot _)

theorem setMode {s t : State} (h : s.Steady t) (m : Mode) (trigger source : Nat) : s.Steady (t.setMode m trigger source) := by
  unfold State.setMode
  have hover : s.Steady (if trigger = 0 then t else t.overtakeModeSet) := .ite h (h.foot (State.overtakeModeSet_foot _))
  exact ((hover.enterMode m).record _ _ _).onEntry _ _

theorem dropToken {s t : State} (h : s.Steady t) : s.Steady t.dropToken := by
  unfold State.dropToken
  exact .ite ((State.Steady.each (h.setSluice _) _ fun x k => ((refl x).lowOutput k _).setOut k _).lowAll _) h

theorem passToken {s t : State} (h : s.Steady t) (cause noApply : Nat) : s.Steady (t.passToken cause noApply) := by
  unfold State.passToken
  exact ((((h.foot (t.sendHandover_foot _ _)).dropToken).record _ _ _).foot (State.irqGen_foot _)).setSluice _

theorem triggerIgnored {s t : State} (h : s.Steady t) (level : Nat) : s.Steady (t.triggerIgnored level) := .ite (h.record _ _ _) h

theorem yield {s t : State} (h : s.Steady t) (cause noApply : Nat) : s.Steady (t.yield cause noApply) := by
  unfold State.yield
  have hpass := (h.abandonCommit .busy).passToken cause noApply
  exact .ite (hpass.setMode _ _ _)
    (((hpass.foot (State.abortIdents_foot _ _)).foot (State.endProbe_foot _ _)).triggerIgnored _)

theorem chipResetOrderly {s t : State} (h : s.Steady t) (cause src : Nat) : s.Steady (t.chipResetOrderly cause src) := by
  have hlow : s.Steady ((t.dropShutdown.abandonCommit .busy).lowAll t.idleState) :=
    ((h.foot (State.dropShutdown_foot _)).abandonCommit _).lowAll _
  unfold State.chipResetOrderly
  dsimp only
  generalize (t.dropShutdown.abandonCommit .busy).lowAll t.idleState = y at hlow ⊢
  refine .ite ?_ (.ite (h.triggerIgnored _) h)
  have hdrop : s.Steady (if (y.token && y.partner) = true then y.passToken 0x0A 0 else y.dropToken) :=
    .ite (hlow.passToken _ _) hlow.dropToken
  generalize (if (y.token && y.partner) = true then y.passToken 0x0A 0 else y.dropToken) = z at hdrop ⊢
  exact ((hdrop.foot (z.noteReset_foot cause src true t.modeCode)).record _ _ _).setPower _

theorem quadrantReset {s t : State} (h : s.Steady t) (q : Nat) {f : Cluster → Cluster}
    (hf : ∀ x, (f x).engines = x.engines ∨ (f x).engines = []) : s.Steady (((t.quadrantOff q).identsOfQuadrant q).setCluster q f) :=
  ((h.quadrantOff q).foot (State.identsOfQuadrant_foot _ _)).setCluster q hf

/-- The scanner in block reset. -/
theorem scannerReset {s t : State} (h : s.Steady t) : s.Steady (t.each (upto 128) fun s k => s.setOut k fun o =>
    { o with supvCount := 0, tmpCount := 0, tmpWarnCount := 0, tmpCoolCount := 0, tmpBadCount := 0 }) :=
  h.each _ fun x k => (refl x).setOut k _

theorem blockReset {s t : State} (h : s.Steady t) (b : Nat) : s.Steady (t.blockReset b) := by
  have hx : s.Steady (if (decide (b < 8) && t.canYield) = true then t.yield 0x08 0 else t) := .ite (h.yield _ _) h
  unfold State.blockReset
  dsimp only
  generalize (if (decide (b < 8) && t.canYield) = true then t.yield 0x08 0 else t) = x at hx ⊢
  obtain ⟨y, hy⟩ : ∃ y : State, y = { x with hold := { x.hold with held := setBit x.hold.held b true } } := ⟨_, rfl⟩
  have hsy : s.Steady y := by
    rw [hy]
    exact hx.of_eq rfl rfl rfl rfl
  rw [← hy]
  refine .ite (hsy.quadrantReset b fun _ => .inr rfl) (.ite (hsy.quadrantReset (b - 4) fun _ => .inl rfl) ?_)
  refine .ite (hsy.scannerReset.setScan _) (.ite (hsy.foot (y.endProbe_foot 4)) ?_)
  refine .ite ((hsy.foot (y.endProbe_foot 4)).setTide _) (.ite (hsy.foot (y.serdesDown_foot b)) ?_)
  refine .ite ?_ (hsy.each _ fun x k => (refl x).foot (x.dropTransaction_foot k))
  rw [hy] at hsy
  exact ⟨hsy.loading, hsy.committed, hsy.words, hsy.ready⟩

/-! ### The collector -/

theorem actOn {s t : State} (h : s.Steady t) (src bits : Nat) : s.Steady (t.actOn src bits) := by
  unfold State.actOn
  dsimp only
  have ha : s.Steady (if bit bits 7 = true then { t with power := { t.power with alive := false } } else t) :=
    .ite (h.setPower _) h
  generalize (if bit bits 7 = true then { t with power := { t.power with alive := false } } else t) = a at ha ⊢
  have hb : s.Steady (if bit bits 2 = true then { a with faults := { a.faults with trap := true } } else a) :=
    .ite (ha.setFaults _) ha
  generalize (if bit bits 2 = true then { a with faults := { a.faults with trap := true } } else a) = b at hb ⊢
  have hc : s.Steady (if (bit bits 3 && b.canYield) = true then b.yield (yieldCause src) 0 else b) := .ite (hb.yield _ _) hb
  generalize (if (bit bits 3 && b.canYield) = true then b.yield (yieldCause src) 0 else b) = c at hc ⊢
  have hd : s.Steady (if (bit bits 5 && decide (sourceBlock src ≠ 0xFF)) = true then c.blockReset (sourceBlock src) else c) :=
    .ite (hc.blockReset _) hc
  generalize (if (bit bits 5 && decide (sourceBlock src ≠ 0xFF)) = true then c.blockReset (sourceBlock src) else c) = d at hd ⊢
  exact .ite (hd.safeHoldOutputs.setFaults _) (.ite (hd.triggerIgnored _) hd)

theorem actReset {s t : State} (h : s.Steady t) (src bits : Nat) : s.Steady (t.actReset src bits) := .ite (h.chipResetOrderly _ _) h

theorem overflowEvent {s t : State} (h : s.Steady t) : s.Steady t.overflowEvent := by
  unfold State.overflowEvent
  dsimp only
  generalize t.actingBits 319 1 = bits
  have ha : s.Steady ((t.noteEvent 319 1 1 (bit bits 7)).actOn 319 bits) := (h.foot (t.noteEvent_foot _ _ _ _)).actOn _ _
  generalize (t.noteEvent 319 1 1 (bit bits 7)).actOn 319 bits = a at ha ⊢
  have hb : s.Steady ((if bit bits 0 = true then a.holdOverflow else a).actReset 319 bits) :=
    (State.Steady.ite (ha.foot a.holdOverflow_foot) ha).actReset _ _
  generalize (if bit bits 0 = true then a.holdOverflow else a).actReset 319 bits = b at hb ⊢
  have hw : s.Steady (b.windowEvent 319 1).1 := hb.foot (b.windowEvent_foot 319 1)
  generalize b.windowEvent 319 1 = w at hw ⊢
  refine .ite ?_ hw
  generalize w.1 = c at hw ⊢
  generalize c.actingBits 319 (c.minClass 319) = bits'
  have hd : s.Steady ((c.noteEvent 319 0xFF (c.minClass 319) (bit bits' 7)).actOn 319 bits') :=
    (hw.foot (c.noteEvent_foot _ _ _ _)).actOn _ _
  generalize (c.noteEvent 319 0xFF (c.minClass 319) (bit bits' 7)).actOn 319 bits' = d at hd ⊢
  exact (State.Steady.ite (hd.setFaults _) hd).actReset _ _

theorem logEvent {s t : State} (h : s.Steady t) (src event cls bits : Nat) (data : Bytes) :
    s.Steady (t.logEvent src event cls bits data) := by
  unfold State.logEvent
  exact .ite (h.setFaults _).overflowEvent (h.setFaults _)

theorem takeEvent {s t : State} (h : s.Steady t) (src event cls : Nat) (data : Bytes) : s.Steady (t.takeEvent src event cls data) := by
  unfold State.takeEvent State.react
  have ha := (h.foot (t.noteEvent_foot src event cls (bit (t.actingBits src cls) 7))).actOn src (t.actingBits src cls)
  exact (State.Steady.ite (ha.logEvent _ _ _ _ _) ha).actReset _ _

/-- What an event of the collector leaves alone. -/
theorem raise (s : State) (src event : Nat) (data : Bytes) : s.Steady (s.raise src event data) := by
  unfold State.raise State.raiseC
  generalize eventClass src event = cls
  refine .ite ?_ (refl s)
  have ha := (refl s).takeEvent src event cls data
  generalize s.takeEvent src event cls data = a at ha ⊢
  unfold State.escalateEvent
  have hw : s.Steady (a.windowEvent src cls).1 := ha.foot (a.windowEvent_foot src cls)
  generalize a.windowEvent src cls = w at hw ⊢
  exact .ite (hw.takeEvent _ _ _ _) hw

end State.Steady

end Sys2Proof.Machine
end

section
/-! PROOFS. Commands that complete with their own effect (chapters 2, 3, 5, 17, 21). -/
set_option Elab.async false
namespace Sys2Proof.Machine

theorem State.logDamaged_loading (s : State) (n : Nat) : (s.logDamaged n).log.loading = s.log.loading := by
  unfold State.logDamaged
  split
  · rfl
  · exact (State.Steady.raise _ _ _ _).loading

/-- A failed attempt of a series with attempts left, whatever was powered (R47). -/
theorem State.failAttempt_spacing {s : State} (h : s.power.ret.attempts < 4) (code : Nat) : (s.failAttempt code).power.wake.phase = .spacing ∧
    (s.failAttempt code).power.pwren = 0 ∧ (s.failAttempt code).power.ret.code = code := by
  obtain ⟨d, a, b, hpow⟩ := (s.noteFailure code true).dropEnables_power
  obtain ⟨x, hx⟩ : ∃ x, x = (s.noteFailure code true).dropEnables := ⟨_, rfl⟩
  rw [← hx] at hpow
  have hret : x.power.ret = s.power.ret.failed code s.retained.rtcNs s.power.pwren s.power.pg true := by
    rw [hpow]
    rfl
  obtain ⟨hcode, -, hatt, -⟩ := Retention.failed_spec s.power.ret code s.retained.rtcNs s.power.pwren s.power.pg true
  have heq : s.failAttempt code = x.setWake fun w => { w with phase := .spacing } := by
    unfold State.failAttempt
    dsimp only
    rw [← hx]
    refine if_neg ?_
    rw [hret, hatt]
    omega
  rw [heq]
  refine ⟨rfl, ?_, ?_⟩
  · show x.power.pwren = 0
    rw [hpow]
    rfl
  · show x.power.ret.code = code
    rw [hret, hcode]

/-- The alarm as a wake event (R45). -/
theorem rtcAlarm_wakes {s : State} (halarm : s.retained.alarmNs ≠ 0) (hasleep : s.mode.asleep = true) (hstr : s.mode ≠ .stranded)
    (hb : s.retained.wakeEnable.testBit 3 = true) (hidle : s.power.wake.phase = .idle) (hpend : s.power.wake.pending = none)
    (hreset : s.power.resetN = true) : ∃ t, exec .rtcAlarm s = .next t ∧
    t.retained.alarmNs = 0 ∧ t.power.wake.phase = .waitPg 0 ∧ t.power.pwren = 1 ∧ t.power.ret.source = 8 := by
  obtain ⟨-, hwake, -⟩ := wakeEventStartsSeries
  obtain ⟨t, hexec, hphase, -, hpwren, -, -, -, -, hsource, -, -, -, -, -, hretained, -⟩ := hwake s .rtcAlarm 3
    (.inr (.inl ⟨rfl, rfl, halarm, hstr⟩)) hasleep hb hidle hpend hreset
  refine ⟨t, hexec, ?_, hphase, hpwren, hsource⟩
  rw [hretained rfl]

/-- Each scan instruction leaves the chip held with its code (R562). -/
theorem scanInstr_taken {s : State} (hf : s.mode.firmware = true) (hs : s.dbg.scanHold = false) (hd : s.otp.debugLevel = 0) {i : Instr}
    {code : Nat} (h : (i = Instr.extest ∧ code = 0x04) ∨ (i = .intest ∧ code = 0x05) ∨
    (i = .clamp ∧ code = 0x06) ∨ (i = .highz ∧ code = 0x07) ∨ (i = .extestPulse ∧ code = 0x08) ∨ (i = .extestTrain ∧ code = 0x09)) :
    ∃ t, exec i s = .next t ∧ t.dbg.instr = code ∧ t.dbg.scanHold = true := by
  obtain ⟨hinstr, hhold, -⟩ := State.scanInstr_enters (code := code) hf hs hd rfl
  exact ⟨_, exec_scanInstr h, hinstr, hhold⟩

end Sys2Proof.Machine

namespace Sys2Proof
open Machine

/-- Settles O59: the rows of the logbook, the sessions, the wake attempts, the resets and the TAP, each with the effect named. -/
theorem namedCommandsComplete : Obligations.NamedCommandsComplete := by
  unfold Obligations.NamedCommandsComplete
  intro s mb q hq
  obtain ⟨hload, hlog, -⟩ := logbookReads
  obtain ⟨hstatus, hread, hcapsules⟩ := hlog s mb q hq
  obtain ⟨hses, htimers⟩ := sessionOrdersAndTimers
  obtain ⟨hopen, -, hprove, hclose, hinstall, hoffer⟩ := hses s mb q hq
  refine ⟨fun hl => ⟨_, (hload s).1 hl, State.logDamaged_loading _ _⟩, fun hstart hlay => ⟨_, ?_, hstatus hstart hlay⟩,
    fun hstart hlay h1 h7 => ⟨_, _, hread hstart hlay h1 h7 _ rfl⟩, fun hstart hlay h7 => ⟨_, hcapsules hstart hlay h7⟩,
    fun hstart hlay h1 h2 h3 h4 h5 h6 => ?_, fun hstart hlay ht k hk htag => ?_, hclose,
    fun hstart hlay ht hl hu hp => (hinstall hstart hlay ht hl).1 hu hp, fun hstart hlay hbit => ?_, fun n => (htimers s n).2.1,
    fun n hn hbusy hhalt => (htimers s n).1 hn (fun m hm hb => ?_) (fun h => ?_), fun n => ?_, rtcAlarm_wakes,
    fun hlt => ⟨fun n ns hn hphase => ?_, fun ns hon hready => ?_⟩, fun hf hg hc => ⟨fun n => ?_, fun hidle => ?_, fun m ha hp hm => ?_⟩,
    fun hs hd => ?_, fun hf hs hd => ?_⟩
  · simp only [List.length_append, length_leBytes, List.length_cons, List.length_nil]
  · obtain ⟨x, hexec, hx, -⟩ := hopen hstart hlay h1 h2 h3 h4 h5 h6
    exact ⟨x, _, hexec, by rw [hx]⟩
  · exact ⟨_, _, (hprove hstart hlay ht k _ _ rfl hk rfl).1 htag, by rw [State.sesAt_setSes, if_pos rfl]⟩
  · obtain ⟨x, acc, -, hexec, hx, -⟩ := hoffer hstart hlay hbit
    exact ⟨x, _, hexec, by rw [hx]⟩
  · rw [hbusy m hm] at hb
    exact absurd hb Bool.false_ne_true
  · rw [hhalt] at h
    exact Bool.false_ne_true h.1
  · obtain ⟨-, -, -, -, -, t, hexec, hlock, -⟩ := htimers s n
    exact ⟨t, hexec, hlock⟩
  · exact ⟨_, failAttempt_of_timeout (.inl ⟨n, hn, rfl, hphase, rfl⟩), State.failAttempt_spacing (s := s.rtcRuns ns) hlt (n + 1)⟩
  · exact ⟨_, failAttempt_of_timeout (.inr ⟨rfl, hon, hready, rfl⟩), State.failAttempt_spacing (s := s.rtcRuns ns) hlt 5⟩
  · obtain ⟨t, hexec, hmode, -, -, hpwren, -, -, -, hcause, hpend, -⟩ := chipReset_triggered hf hg hc (.inr (.inl ⟨n, rfl, rfl⟩))
    exact ⟨t, hexec, hmode, hpwren, by rw [hcause], hpend⟩
  · obtain ⟨t, hexec, hmode, -, -, hpwren, -, -, -, hcause, hpend, -⟩ := chipReset_triggered hf hg hc (.inl ⟨rfl, hidle, rfl⟩)
    exact ⟨t, hexec, hmode, hpwren, by rw [hcause], hpend⟩
  · obtain ⟨t, hexec, hmode, -, -, hpwren, -, -, -, hcause, hpend, -⟩ :=
      chipReset_triggered hf hg hc (.inr (.inr ⟨m, rfl, ha, hp, hm, rfl⟩))
    exact ⟨t, hexec, hmode, hpwren, by rw [hcause], hpend⟩
  · exact ⟨congrArg _ (State.scanInstr_held hs hd 4), congrArg _ (State.scanInstr_held hs hd 5), congrArg _ (State.scanInstr_held hs hd 6),
      congrArg _ (State.scanInstr_held hs hd 7), congrArg _ (State.scanInstr_held hs hd 8), congrArg _ (State.scanInstr_held hs hd 9)⟩
  · refine ⟨scanInstr_taken hf hs hd (.inl ⟨rfl, rfl⟩), scanInstr_taken hf hs hd (.inr (.inl ⟨rfl, rfl⟩)),
      scanInstr_taken hf hs hd (.inr (.inr (.inl ⟨rfl, rfl⟩))), scanInstr_taken hf hs hd (.inr (.inr (.inr (.inl ⟨rfl, rfl⟩)))),
      scanInstr_taken hf hs hd (.inr (.inr (.inr (.inr (.inl ⟨rfl, rfl⟩))))),
      scanInstr_taken hf hs hd (.inr (.inr (.inr (.inr (.inr ⟨rfl, rfl⟩)))))⟩

end Sys2Proof
end

section
/-! PROOFS. Boot: sensing, the image slots and the entry into Configure (chapter 4). -/
set_option Elab.async false
namespace Sys2Proof.Machine

theorem OtpWord.blank_stateBit {w : OtpWord} (h : w.blank = true) : w.stateBit 0 = false := by
  simp only [OtpWord.blank, Bool.and_eq_true, List.all_eq_true] at h
  simpa using h.1.1 0 (by decide)

theorem OtpWord.good_stateBit {w : OtpWord} (h : w.good = true) : w.stateBit 0 = true := by
  simp only [OtpWord.good, Bool.and_eq_true, List.all_eq_true] at h
  exact h.1 0 (by decide)

/-- No word is both BLANK and GOOD. -/
theorem OtpWord.blank_of_good {w : OtpWord} (h : w.good = true) : w.blank = false := by
  rw [← Bool.not_eq_true]
  intro hblank
  exact absurd (OtpWord.good_stateBit h) (by rw [OtpWord.blank_stateBit hblank]; exact Bool.false_ne_true)

/-- The lifecycle is that of the latest marker. -/
theorem State.lifecycleMarked_eq (s : State) : s.lifecycleMarked = (if (s.otpAt 2).blank = false then 3
    else if (s.otpAt 1).blank = false then 2 else if (s.otpAt 0).blank = false then 1 else 0) := by
  simp only [State.lifecycleMarked, Bool.not_eq_true']

/-- The debug level by the lifecycle and the debug-lock word (Table 4-7). -/
theorem State.debugLevelOf_spec (s : State) (life : Nat) :
    (life = 0 ∨ life = 3 → s.debugLevelOf life = 0) ∧
    (life = 1 ∨ life = 2 → (s.otpAt 4).blank = true → s.debugLevelOf life + 1 = life) ∧
    (life = 1 ∨ life = 2 → (s.otpAt 4).good = true → (s.otpAt 4).primary = 0xA5 → s.debugLevelOf life = 1) ∧
    (life = 1 ∨ life = 2 → (s.otpAt 4).blank = false → ¬((s.otpAt 4).good = true ∧ (s.otpAt 4).primary = 0xA5) →
      s.debugLevelOf life = 2) := by
  unfold State.debugLevelOf
  refine ⟨fun h => if_pos h, ?_, ?_, ?_⟩
  · rintro (rfl | rfl) hblank <;> simp [hblank]
  · rintro (rfl | rfl) hgood hlock <;> simp [OtpWord.blank_of_good hgood, hgood, hlock]
  · rintro (rfl | rfl) hblank hlock <;> simp [hblank, hlock]

theorem State.trimsSensed_get (s : State) {i : Nat} (h : i < 32) : s.trimsSensed[i]? =
    some (if (s.otpAt (48 + i)).good = true then some (s.otpAt (48 + i)).primary else none) := by
  simp [State.trimsSensed, countFrom_eq_range', h]

/-- The trims that are not delivered are those of the words that are not GOOD. -/
theorem State.trimsSensed_missing (s : State) : (s.trimsSensed.filter Option.isNone).length =
    ((countFrom 32 48).filter fun w => !(s.otpAt w).good).length := by
  rw [State.trimsSensed, List.filter_map, List.length_map]
  congr 2
  funext w
  cases h : (s.otpAt w).good <;> simp [h]

/-- A complete sensing latches and goes to step 1 (R84 to R89). -/
theorem otpSenseComplete_senses {s : State} (hmode : s.mode = .boot) (hstep : s.boot.step = 0) (hbrace : s.power.brace = none) :
    exec .otpSenseComplete s = .next (((((s.senseOtp s.spares.1).noteSpares s.spares.1).raiseTimes
      ((upto 200).filter fun w => decide ((s.otpAt w).status = 3)).length 280).raiseTimes
      ((countFrom 32 48).filter fun w => !(s.otpAt w).good).length 281).raiseTimes s.spares.2 282) := by
  refine next_congr ((if_pos ⟨hmode, hstep, by rw [hbrace]; rfl⟩).trans ?_)
  obtain ⟨x, hx⟩ : ∃ x, x = (s.senseOtp s.spares.1).noteSpares s.spares.1 := ⟨_, rfl⟩
  have hotp : x.otp = (s.senseOtp s.spares.1).otp := hx ▸ (State.noteSpares_foot _ _).keeps .otp
  have hat : ∀ w, x.otpAt w = s.otpAt w := fun w =>
    (congrArg (fun o : Otp => Tab.get ({} : OtpWord) o.words w) hotp).trans rfl
  have htrims : x.trimsSensed = s.trimsSensed := by simp only [State.trimsSensed, hat]
  dsimp only
  rw [← hx, htrims, State.trimsSensed_missing]
  simp only [hat]

/-! ### The image slots -/

theorem State.noImage_of_empty {s : State} (h : s.boot.order = []) : s.noImage =
    (if s.boot.writes = [] then s.strandBoot 0x06 else s.noteFailure 0x06 false) := by
  have horder : ¬ (!s.boot.order.isEmpty) = true := by simp [h]
  refine (if_neg horder).trans ?_
  show (if s.boot.writes.isEmpty = true then _ else _) = _
  simp only [List.isEmpty_iff]
  rfl

/-- Boot goes on with the order of slots, or ends for want of one (R103). -/
theorem State.noImage_eq (s : State) : s.noImage = (if s.boot.order ≠ [] then s
    else if s.boot.writes = [] then s.strandBoot 0x06 else s.noteFailure 0x06 false) := by
  by_cases h : s.boot.order = []
  · rw [if_neg (not_not_intro h), State.noImage_of_empty h]
  · rw [if_pos h]
    exact if_pos (by simp [h])

/-- What dropping a TRIAL slot leaves: its mark and its code (R103). -/
theorem Boot.dropTrial_spec (b : Boot) (i : Nat) : (b.dropTrial i) = { b with
    writes := b.writes ++ (if b.stateCode i = 0x3F then [.mark 1 i 0x0F, .mark 0 i 0x0F] else [])
    codeA := if b.stateCode i = 0x3F ∧ i = 0 then 8 else b.codeA
    codeB := if b.stateCode i = 0x3F ∧ i ≠ 0 then 8 else b.codeB } := by
  unfold Boot.dropTrial Boot.mark Boot.setCode
  by_cases hi : i = 0
  · subst hi
    by_cases h : b.stateCode 0 = 0x3F <;> simp [h]
  · by_cases h : b.stateCode i = 0x3F <;> simp [h, hi]

theorem Boot.mem_tryOrder (b : Boot) (i : Nat) : i ∈ b.tryOrder ↔ i < 2 ∧ (b.stateCode i = 0x7F ∨ b.stateCode i = 0x1F) := by
  have hmem : i ∈ (if b.sequence 0 < b.sequence 1 then [1, 0] else [0, 1]) ↔ i < 2 := by
    split <;> simp only [List.mem_cons, List.not_mem_nil, or_false] <;> omega
  simp only [Boot.tryOrder, List.mem_filter, hmem, Bool.or_eq_true, decide_eq_true_eq]

theorem Boot.length_tryOrder (b : Boot) : b.tryOrder.length ≤ 2 :=
  Nat.le_trans (List.length_filter_le _ _) (by split <;> exact Nat.le_refl 2)

/-- Both slots are tried by descending SEQUENCE (R103). -/
theorem Boot.tryOrder_both (b : Boot) : (b.tryOrder = [1, 0] → b.sequence 0 < b.sequence 1) ∧
    (b.tryOrder = [0, 1] → b.sequence 1 ≤ b.sequence 0) := by
  have hsub : b.tryOrder.Sublist (if b.sequence 0 < b.sequence 1 then [1, 0] else [0, 1]) := List.filter_sublist
  constructor
  · intro h
    refine Classical.byContradiction fun hlt => ?_
    rw [h, if_neg hlt] at hsub
    exact absurd hsub (by decide)
  · intro h
    refine Classical.byContradiction fun hlt => ?_
    rw [h, if_pos (Nat.lt_of_not_le hlt)] at hsub
    exact absurd hsub (by decide)

/-- Boot once its flash is reset and the TRIAL slots are dropped. -/
def Boot.flashReset (b : Boot) (taps khz cut : Nat) : Boot :=
  let b := { b with cut := cut, step := 4, cs0 := storePort taps khz, tableCopy := if b.table0.valid then 0 else 1 }
  { (b.dropTrial 0).dropTrial 1 with order := b.tryOrder }

theorem Boot.flashReset_spec (b : Boot) (taps khz cut : Nat) : ∀ x, x = b.flashReset taps khz cut →
    x.step = 4 ∧ x.cs0 = storePort taps khz ∧ x.tableCopy = (if b.table0.valid = true then 0 else 1) ∧
    (∀ i, i ∈ x.order ↔ i < 2 ∧ (b.stateCode i = 0x7F ∨ b.stateCode i = 0x1F)) ∧
    (x.order = [1, 0] → x.sequence 0 < x.sequence 1) ∧ (x.order = [0, 1] → x.sequence 1 ≤ x.sequence 0) ∧ x.order.length ≤ 2 ∧
    x.writes = b.writes ++ ((if b.stateCode 0 = 0x3F then [.mark 1 0 0x0F, .mark 0 0 0x0F] else []) ++
      (if b.stateCode 1 = 0x3F then [.mark 1 1 0x0F, .mark 0 1 0x0F] else [])) ∧
    x.codeA = (if b.stateCode 0 = 0x3F then 8 else b.codeA) ∧ x.codeB = (if b.stateCode 1 = 0x3F then 8 else b.codeB) := by
  obtain ⟨b', hb'⟩ : ∃ b', b' = { b with
      cut := cut, step := 4, cs0 := storePort taps khz, tableCopy := if b.table0.valid then 0 else 1 } := ⟨_, rfl⟩
  have hstate : ∀ i, b'.stateCode i = b.stateCode i := fun i => by rw [hb']; rfl
  have hstate0 : (b'.dropTrial 0).stateCode 1 = b.stateCode 1 := by
    rw [Boot.dropTrial_spec]
    exact hstate 1
  rintro x rfl
  have hx : b.flashReset taps khz cut = { (b'.dropTrial 0).dropTrial 1 with order := b'.tryOrder } := by
    rw [hb']
    rfl
  rw [hx, Boot.dropTrial_spec (b'.dropTrial 0), hstate0, Boot.dropTrial_spec b', hstate]
  have hseq : ∀ i, b'.sequence i = b'.sequence i := fun _ => rfl
  refine ⟨by rw [hb'], by rw [hb'], by rw [hb'], fun i => (b'.mem_tryOrder i).trans (by rw [hstate]), b'.tryOrder_both.1,
    b'.tryOrder_both.2, b'.length_tryOrder, ?_, ?_, ?_⟩
  · rw [hb', List.append_assoc]
  · simp [hb']
  · simp [hb']

theorem flashResetDone_tries {s : State} (hmode : s.mode = .boot) (hstep : s.boot.step = 2) (taps khz ns : Nat) : ∃ cut,
    exec (.flashResetDone taps khz ns) s = .next (State.noImage { s with
      retained := { s.retained with rtcNs := max s.retained.rtcNs (ns % 2 ^ 64) }, freeCount := s.freeCount + 1
      boot := s.boot.flashReset taps khz cut }) :=
  ⟨_, next_congr ((if_pos ⟨hmode, hstep⟩).trans rfl)⟩

/-- The slot that passes the check is run, marked TRIAL first where it was WRITTEN (R103). -/
def Boot.ran (b : Boot) (i cut : Nat) : Boot :=
  { (if b.stateCode i = 0x7F then ({ b with cut := cut } : Boot).mark i 0x3F else { b with cut := cut }) with
    step := 5, running := i, order := [] }

/-- The slot that fails the check is rejected with its code, but for code 9 only noted (R102, R103). -/
def Boot.rejected (b : Boot) (i code cut : Nat) : Boot :=
  let b := (if code = 9 then { b with cut := cut } else ({ b with cut := cut } : Boot).mark i 0x0F).setCode i code
  { b with order := b.order.drop 1 }

/-- The check of the slot at the head of the order decides (R101 to R103). -/
theorem imageChecked_judges {s : State} {i : Nat} {rest : List Nat} (hmode : s.mode = .boot) (hstep : s.boot.step = 4)
    (horder : s.boot.order = i :: rest) (hwrites : s.boot.writes = []) (fails : Bool) (ns : Nat) : ∃ cut, ∀ code,
    code = (if fails = true ∨ s.boot.cs0.khz = 0 then 9 else s.checkSlot i s.otp.bootDigest) →
    exec (.imageChecked i fails ns) s = .next (
      if code = 0 then { s with
        retained := { s.retained with rtcNs := max s.retained.rtcNs (ns % 2 ^ 64) }, freeCount := s.freeCount + 1
        boot := s.boot.ran i cut }
      else State.noImage { s with
        retained := { s.retained with rtcNs := max s.retained.rtcNs (ns % 2 ^ 64) }, freeCount := s.freeCount + 1
        boot := s.boot.rejected i code cut }) := by
  refine ⟨Config.free .unstated s.freeCount 0, fun code hcode => next_congr ((if_pos ⟨hmode, hstep, by rw [horder]; rfl, by rw [hwrites]; rfl⟩).trans ?_)⟩
  subst hcode
  rfl

end Sys2Proof.Machine
end

section
/-! PROOFS. The entry into Configure (R102 to R106). -/
set_option Elab.async false
namespace Sys2Proof.Machine

theorem State.deliver_hostKey (s : State) (n : Nat) (st : Status) (payload : Bytes) (epoch : Nat) :
    (s.deliver n st payload epoch).host.hostKey = s.host.hostKey := by
  unfold State.deliver
  dsimp only
  generalize (s.mbAt n).owner = o
  cases o with
  | ethernet =>
    refine Eq.trans (b := (State.sendEth _ _ _).host.hostKey) rfl ?_
    exact (congrArg HostPort.hostKey ((State.sendEth_foot _ _ _).keeps .host)).trans rfl
  | _ => rfl

theorem State.respond_hostKey (s : State) (n : Nat) (st : Status) (payload : Bytes) (epoch : Nat) :
    (s.respond n st payload epoch).host.hostKey = s.host.hostKey := by
  unfold State.respond
  split
  · rfl
  · exact State.deliver_hostKey _ _ _ _ _

theorem State.abandonCommit_hostKey (s : State) (st : Status) : (s.abandonCommit st).host.hostKey = s.host.hostKey := by
  have hfold : ∀ (l : List Waiting) (t : State),
      (l.foldl (fun s w => s.finish w.mailbox st []) t).host.hostKey = t.host.hostKey := by
    intro l
    induction l with
    | nil => exact fun _ => rfl
    | cons w l ih => exact fun t => (ih _).trans (State.respond_hostKey _ _ _ _ _)
  unfold State.abandonCommit
  split
  · exact hfold _ s
  · rfl

theorem State.endProbe_kRoot (s : State) (reason : Nat) : (s.endProbe reason).tide.kRoot = s.tide.kRoot := by
  unfold State.endProbe
  split
  · rfl
  · dsimp only
    exact congrArg Tideline.kRoot ((Foot.each .same fun _ _ h => (State.setString_foot _ _ _).after h :
      Foot 0x80000 s _).keeps .tide)

/-- The mode is Configure, entered from Boot: the keys, the boot state and the RTC are as they were. -/
theorem State.enterMode_configure {s : State} (h : s.mode = .boot) : ∀ t, t = s.enterMode .configure →
    t.host.hostKey = s.host.hostKey ∧ t.tide.kRoot = s.tide.kRoot ∧ t.boot = s.boot ∧ t.retained = s.retained ∧
    t.host.irqModeChange = true := by
  obtain ⟨x, hx⟩ : ∃ x, x = (((s.abortIdents 0x08).endProbe 0x03).wakeGauge s.retained.rtcNs 0) := ⟨_, rfl⟩
  obtain ⟨y, hy⟩ : ∃ y, y = (x.abandonCommit (if modesEdit.contains .configure then .busy else .wrongMode)).closeEdit := ⟨_, rfl⟩
  have hfoot : Foot 0xC0800 s x := by
    rw [hx]
    exact (State.wakeGauge_foot _ _ _).after ((State.endProbe_foot _ _).after ((State.abortIdents_foot _ _).after .same))
  have hfoot' : Foot 0x309000C0 x y := by
    rw [hy]
    exact (State.closeEdit_foot _).after ((State.abandonCommit_foot _ _).after .same)
  have henter : s.enterMode .configure = ({ y with power :=
      { y.power with mode := .configure, fromMode := .boot, modeEpoch := y.clocks.epoch } } : State).irqMode := by
    unfold State.enterMode
    dsimp only
    rw [h, ← hx, if_neg (by decide), ← hy, if_neg (by decide)]
  have hhost : x.host = s.host := hfoot.keeps .host
  have hkey : y.host.hostKey = s.host.hostKey := by
    rw [hy, show (State.closeEdit _).host = _ from (State.closeEdit_foot _).keeps .host, State.abandonCommit_hostKey, hhost]
  have hroot : x.tide.kRoot = s.tide.kRoot := by
    rw [hx, show (State.wakeGauge _ _ _).tide = _ from (State.wakeGauge_foot _ _ _).keeps .tide, State.endProbe_kRoot,
      show (State.abortIdents _ _).tide = _ from (State.abortIdents_foot _ _).keeps .tide]
  have htide : y.tide = x.tide := hfoot'.keeps .tide
  have hboot : y.boot = s.boot := (hfoot'.keeps .boot).trans (hfoot.keeps .boot)
  have hretained : y.retained = s.retained := (hfoot'.keeps .retained).trans (hfoot.keeps .retained)
  rintro t rfl
  rw [henter]
  exact ⟨hkey, (congrArg Tideline.kRoot htide).trans hroot, hboot, hretained, rfl⟩

/-- Without an installed key nothing is judged (R127). -/
theorem State.judgeKeys_none {s : State} (hk : s.host.hostKey = none) (hr : s.tide.kRoot = none) : s.judgeKeys = { s with
    host := { s.host with hostKeyInstalled := false }, tide := { s.tide with rootInstalled := false } } := by
  unfold State.judgeKeys
  rw [hk, hr]
  simp

theorem State.copyAlwaysOn_rtcNs (s : State) (f : Nat → Bool) : (s.copyAlwaysOn f).retained.rtcNs = s.retained.rtcNs := rfl

theorem State.domainsOff_kRoot (s : State) (d : Nat) : (s.domainsOff d).tide.kRoot = s.tide.kRoot := by
  unfold State.domainsOff
  dsimp only
  split
  · rfl
  · split <;> rfl

theorem State.domainsOff_own (s : State) (d : Nat) : (s.domainsOff d).sluice.own = s.sluice.own := by
  unfold State.domainsOff
  dsimp only
  split
  · rfl
  · split <;> rfl

/-- The Tideline and the partner link are as the domains that are switched off leave them. -/
theorem State.powerDomains_links (s : State) (d : Nat) : (s.powerDomains d).tide = (s.domainsOff d).tide ∧
    (s.powerDomains d).sluice = (s.domainsOff d).sluice := by
  have h : Foot 0x1001 (s.domainsOff d) (s.powerDomains d) := by
    rw [State.powerDomains_eq]
    exact (State.disarm_foot _).after (.power (.each .same fun _ _ h => (State.setCluster_foot _ _ _).after h))
  exact ⟨h.keeps .tide, h.keeps .sluice⟩

theorem State.powerDomains_kRoot (s : State) (d : Nat) : (s.powerDomains d).tide.kRoot = s.tide.kRoot := by
  rw [(s.powerDomains_links d).1, State.domainsOff_kRoot]

theorem State.powerDomains_own (s : State) (d : Nat) : (s.powerDomains d).sluice.own = s.sluice.own := by
  rw [(s.powerDomains_links d).2, State.domainsOff_own]

/-- What a description as it is loaded sets (R152, R159). -/
def State.describedAnew (s : State) : State :=
  let s := (s.copyAlwaysOn fun _ => true).assignConvs
  let s := s.each s.describedOuts fun s k =>
    let tries := s.outRestartTries k
    let s := s.setOut k fun o => { o with triesLeft := tries }
    s.each (s.phases k) fun s ch => (s.loadBanks k ch).setTrip k ch
  { s with clocks := { s.clocks with clkout := decide (s.shelfClkoutEnable = 1) } }

theorem State.describedAnew_rtcNs (s : State) : s.describedAnew.retained.rtcNs = s.retained.rtcNs := by
  have h : Foot 0x80C04 (s.copyAlwaysOn fun _ => true) s.describedAnew := by
    unfold State.describedAnew
    exact .clocks (.each (State.assignConvs_foot _).mono fun _ _ h => .each ((State.setOut_foot _ _ _).after h)
      fun _ _ h' => (State.setTrip_foot _ _ _).after ((State.loadBanks_foot _ _ _).after h'))
  exact (congrArg Retained.rtcNs (h.keeps .retained)).trans rfl

/-- The stored description as the committed one, and its record (R152). -/
def State.takeStored (s : State) : State :=
  let d := s.desc
  let load (t : Tab (Option Int)) (seq status : Nat) : State :=
    { s with desc := { d with
        committed := t, sequence := seq, digest := if seq = 0 then 0 else digest64 t seq, loadStatus := status
        appliedPending := [] } }
  let s := match d.laterCopy with
    | none => load [] 0 d.noCopyStatus
    | some k =>
      let v := s.withDescription (d.valuesOf k)
      if v.validate v.desc.committed = [] then load (d.valuesOf k) (d.seqOf k) 0 else load [] 0 2
  let seq := match d.laterCopy with | some k => d.seqOf k | none => 0
  s.record 0x0F 2 ([byte s.desc.loadStatus, 0, 0, 0] ++ leBytes 4 seq)

theorem State.takeStored_retained (s : State) : s.takeStored.retained = s.retained := by
  unfold State.takeStored
  refine ((State.record_foot _ _ _ _).keeps .retained).trans ?_
  split
  · rfl
  · dsimp only
    split <;> rfl

theorem State.loadDescription_eq (s : State) : s.loadDescription = s.takeStored.describedAnew := rfl

theorem State.loadDescription_rtcNs (s : State) : s.loadDescription.retained.rtcNs = s.retained.rtcNs := by
  rw [State.loadDescription_eq, State.describedAnew_rtcNs, State.takeStored_retained]

/-- What the work of an entry into Configure leaves, where no key is installed. -/
theorem State.configureWork_spec {s : State} (hk : s.host.hostKey = none) (hr : s.tide.kRoot = none) :
    s.configureWork.mode = s.mode ∧ s.configureWork.power.fromMode = s.power.fromMode ∧
    s.configureWork.power.modeEpoch = s.power.modeEpoch ∧ s.configureWork.power.configureNs = s.retained.rtcNs ∧
    s.configureWork.boot = s.boot ∧ s.configureWork.host = { s.host with hostKeyInstalled := false } ∧
    s.configureWork.sluice.own = s.sluice.own := by
  obtain ⟨x, hx⟩ : ∃ x, x = s.loadDescription := ⟨_, rfl⟩
  obtain ⟨y, hy⟩ : ∃ y, y = x.powerDomains x.activeDomains := ⟨_, rfl⟩
  obtain ⟨z, hz⟩ : ∃ z, z = y.judgeKeys.restoreGauge.restoreStagings := ⟨_, rfl⟩
  have hload : Foot 0x80D86 s x := hx ▸ State.loadDescription_foot s
  have hdom : Foot 0x1DC1011 x y := hy ▸ State.powerDomains_foot x _
  have hpower : x.power = s.power := hload.keeps .power
  have hhost : y.host = s.host := (hdom.keeps .host).trans (hload.keeps .host)
  have hroot : y.tide.kRoot = s.tide.kRoot := by
    rw [hy, State.powerDomains_kRoot]
    exact congrArg Tideline.kRoot (hload.keeps .tide)
  have hown : y.sluice.own = s.sluice.own := by
    rw [hy, State.powerDomains_own]
    exact congrArg Sluice.own (hload.keeps .sluice)
  have hrtc : y.retained.rtcNs = s.retained.rtcNs := by
    rw [show y.retained = x.retained from hdom.keeps .retained, hx, State.loadDescription_rtcNs]
  have hboot : y.boot = s.boot := (hdom.keeps .boot).trans (hload.keeps .boot)
  have hjudge := State.judgeKeys_none ((congrArg HostPort.hostKey hhost).trans hk) (hroot.trans hr)
  have hfoot : Foot 0x90100 y.judgeKeys z := by
    rw [hz]
    exact (State.restoreStagings_foot _).after (State.restoreGauge_foot _).mono
  rw [hjudge] at hfoot
  obtain ⟨a, b, hdomains⟩ := x.powerDomains_power x.activeDomains
  rw [← hy, hpower] at hdomains
  have hz_power : z.power = y.power := hfoot.keeps .power
  have hz_host : z.host = { y.host with hostKeyInstalled := false } := hfoot.keeps .host
  have hz_retained : z.retained = y.retained := hfoot.keeps .retained
  have hz_boot : z.boot = y.boot := hfoot.keeps .boot
  have hz_sluice : z.sluice = y.sluice := hfoot.keeps .sluice
  have hwork : s.configureWork = { z with power := { z.power with configureNs := z.retained.rtcNs } } := by
    rw [hz, hy, hx]
    rfl
  rw [hwork]
  refine ⟨?_, ?_, ?_, ?_, hz_boot.trans hboot, ?_, ?_⟩
  · show z.power.mode = s.power.mode
    rw [hz_power, hdomains]
  · show z.power.fromMode = _
    rw [hz_power, hdomains]
  · show z.power.modeEpoch = _
    rw [hz_power, hdomains]
  · show (z.retained.rtcNs : Int) = _
    rw [hz_retained, hrtc]
  · show z.host = _
    rw [hz_host, hhost]
  · show z.sluice.own = _
    rw [hz_sluice, hown]

/-- Every cluster's memories are initialised (R498). -/
theorem State.defaultCapture_initialised (s : State) (c k : Nat) :
    ((s.defaultCapture c).clusterAt k).initialised = (s.clusterAt k).initialised := by
  unfold State.defaultCapture
  rw [clusterAt_setCluster]
  split
  · next h => rw [h]
  · rfl

/-- The start of a cluster: its memories are initialised and its default capture begins (R240, R498). -/
def State.startCluster (s : State) (c : Nat) : State := (s.setCluster c fun x => { x with initialised := true }).defaultCapture c

theorem State.startCluster_initialised (s : State) (c k : Nat) :
    ((s.startCluster c).clusterAt k).initialised = (decide (k = c) || (s.clusterAt k).initialised) := by
  rw [State.startCluster, State.defaultCapture_initialised, clusterAt_setCluster]
  by_cases h : k = c <;> simp [h]

theorem State.each_startCluster_initialised (l : List Nat) (s : State) (k : Nat) :
    ((s.each l State.startCluster).clusterAt k).initialised = (decide (k ∈ l) || (s.clusterAt k).initialised) := by
  induction l generalizing s with
  | nil => rfl
  | cons c l ih =>
    refine (ih _).trans ?_
    rw [State.startCluster_initialised]
    by_cases h : k = c <;> simp [h]

theorem State.startClusters_initialised (s : State) {c : Nat} (h : c < 4) : (s.startClusters.clusterAt c).initialised = true :=
  (State.each_startCluster_initialised (upto 4) s c).trans (by simp [h])

/-- Without the token AUTO_RUN does no more than claim (R154). -/
theorem State.autoRun_claims {s : State} (h : s.sluice.own = false) : ∃ x, s.autoRun = { s with sluice := x } := by
  unfold State.autoRun
  split
  · rw [if_neg (by rw [State.token, h]; exact Bool.false_ne_true)]
    exact ⟨_, rfl⟩
  · exact ⟨s.sluice, rfl⟩

theorem State.confirmSlot_spec (s : State) : (s.boot.stateCode s.boot.running = 0x3F → s.confirmSlot.boot.writes =
      s.boot.writes ++ [.mark 1 s.boot.running 0x1F, .mark 0 s.boot.running 0x1F]) ∧
    (s.boot.stateCode s.boot.running ≠ 0x3F → s.confirmSlot.boot = s.boot) := by
  unfold State.confirmSlot
  constructor <;> intro h
  · rw [if_pos h]
    rfl
  · rw [if_neg h]

/-- The image as it runs on from its entry into Configure (R104, R106). -/
def State.configured (s : State) : State :=
  let s := { s with host := { s.host with hrdy := true } }
  let s := s.configureWork
  let s := s.startClusters
  let s := ({ s with tide := { s.tide with kg := s.fresh .random 0 % 2 ^ 128 } }).used
  (s.bootRecords.confirmSlot).autoRun

theorem configureEntry_eq {s : State} {ns : Nat} (hmode : s.mode = .boot) (hstep : s.boot.step = 7) :
    exec (.configureEntry ns) s = .next ((s.rtcRuns ns).enterMode .configure).configured :=
  next_congr (if_pos ⟨hmode, hstep⟩)

/-- The state with a group key drawn (R337). -/
def State.withKg (s : State) (k : Nat) : State := ({ s with tide := { s.tide with kg := k } }).used

theorem State.withKg_foot (s : State) (k : Nat) : Foot 0x40040000 s (s.withKg k) := .freeCount (.tide .same)

theorem State.configured_eq {x w g : State}
    (hw : w = ({ x with host := { x.host with hrdy := true } } : State).configureWork)
    (hg : g = w.startClusters.withKg (w.startClusters.fresh .random 0 % 2 ^ 128)) :
    x.configured = g.bootRecords.confirmSlot.autoRun := by
  unfold State.configured
  dsimp only
  rw [← hw]
  unfold State.withKg at hg
  rw [← hg]

theorem configureEntry_enters {s : State} (ns : Nat) (hmode : s.mode = .boot) (hstep : s.boot.step = 7) (hk : s.host.hostKey = none)
    (hr : s.tide.kRoot = none) (hown : s.sluice.own = false) :
    ∃ t, exec (.configureEntry ns) s = .next t ∧ t.mode = .configure ∧ t.power.fromMode = .boot ∧ t.host.hrdy = true ∧
      t.power.modeEpoch = s.clocks.epoch ∧ t.power.configureNs = max s.retained.rtcNs (ns % 2 ^ 64) ∧
      (∀ c, c < 4 → (t.clusterAt c).initialised = true) ∧
      (s.boot.stateCode s.boot.running = 0x3F → t.boot.writes = s.boot.writes ++
        [.mark 1 s.boot.running 0x1F, .mark 0 s.boot.running 0x1F]) ∧
      (s.boot.stateCode s.boot.running ≠ 0x3F → t.boot = s.boot) ∧
      t.host.irqModeChange = true := by
  obtain ⟨x, hx⟩ : ∃ x, x = (s.rtcRuns ns).enterMode .configure := ⟨_, rfl⟩
  obtain ⟨w, hw⟩ : ∃ w, w = ({ x with host := { x.host with hrdy := true } } : State).configureWork := ⟨_, rfl⟩
  obtain ⟨g, hg⟩ : ∃ g, g = w.startClusters.withKg (w.startClusters.fresh .random 0 % 2 ^ 128) := ⟨_, rfl⟩
  obtain ⟨u, hu⟩ : ∃ u, u = g.bootRecords.confirmSlot := ⟨_, rfl⟩
  obtain ⟨hkey, hroot, hboot, hretained, hirq⟩ := State.enterMode_configure (s := s.rtcRuns ns) hmode x hx
  have hpower : x.power = { s.power with mode := .configure, fromMode := s.mode, modeEpoch := s.clocks.epoch } :=
    hx ▸ (s.rtcRuns ns).enterMode_power .configure
  have hxown : x.sluice.own = false := hx ▸ ((s.rtcRuns ns).enterMode_own .configure).trans hown
  obtain ⟨hwmode, hwfrom, hwepoch, hwns, hwboot, hwhost, hwown⟩ :=
    State.configureWork_spec (s := { x with host := { x.host with hrdy := true } }) (hkey.trans hk) (hroot.trans hr)
  rw [← hw] at hwmode hwfrom hwepoch hwns hwboot hwhost hwown
  have hstart : Foot 0x1000 w w.startClusters := State.startClusters_foot w
  have hkg : Foot 0x40040000 w.startClusters g := hg ▸ State.withKg_foot _ _
  have hgfoot : Foot 0x40041000 w g := hkg.after hstart.mono
  have hrec : Foot 0x100 g g.bootRecords := State.bootRecords_foot g
  have hconf : Foot 0x40000020 g.bootRecords u := hu ▸ State.confirmSlot_foot _
  have hgboot : g.bootRecords.boot = s.boot := (hrec.keeps .boot).trans ((hgfoot.keeps .boot).trans (hwboot.trans hboot))
  have hupower : u.power = w.power := (hconf.keeps .power).trans ((hrec.keeps .power).trans (hgfoot.keeps .power))
  have huhost : u.host = w.host := (hconf.keeps .host).trans ((hrec.keeps .host).trans (hgfoot.keeps .host))
  have husluice : u.sluice = w.sluice := (hconf.keeps .sluice).trans ((hrec.keeps .sluice).trans (hgfoot.keeps .sluice))
  have hucluster : u.cluster = w.startClusters.cluster :=
    (hconf.keeps .cluster).trans ((hrec.keeps .cluster).trans (hkg.keeps .cluster))
  obtain ⟨hmark, hkept⟩ := g.bootRecords.confirmSlot_spec
  rw [hgboot, ← hu] at hmark hkept
  obtain ⟨claim, hclaim⟩ := State.autoRun_claims (s := u) ((congrArg Sluice.own husluice).trans (hwown.trans hxown))
  refine ⟨u.autoRun, (configureEntry_eq hmode hstep).trans (next_congr ?_), ?_⟩
  · rw [← hx, State.configured_eq hw hg, ← hu]
  rw [hclaim]
  refine ⟨?_, ?_, ?_, ?_, ?_, ?_, hmark, hkept, ?_⟩
  · show u.power.mode = _
    rw [hupower]
    exact hwmode.trans (congrArg Power.mode hpower)
  · show u.power.fromMode = _
    rw [hupower]
    exact hwfrom.trans ((congrArg Power.fromMode hpower).trans hmode)
  · show u.host.hrdy = true
    rw [huhost, hwhost]
  · show u.power.modeEpoch = _
    rw [hupower]
    exact hwepoch.trans (congrArg Power.modeEpoch hpower)
  · show u.power.configureNs = _
    rw [hupower]
    exact hwns.trans (congrArg (fun r : Retained => (r.rtcNs : Int)) hretained)
  · intro c hc
    show (Tab.get {} u.cluster c).initialised = true
    rw [hucluster]
    exact w.startClusters_initialised hc
  · show u.host.irqModeChange = true
    rw [huhost, hwhost]
    exact hirq

end Sys2Proof.Machine

namespace Sys2Proof
open Machine

/-- Settles O12: the sensing latches what the array holds, the slots are tried in order, and the image enters Configure. -/
theorem bootSensesTriesAndEntersConfigure : Obligations.BootSensesTriesAndEntersConfigure := by
  refine ⟨fun s hmode hstep => ⟨fun hbrace => ?_, fun hbrace => next_congr (if_neg ?_)⟩, fun s hmode => ⟨fun hstep => ?_, ?_, ?_, ?_, ?_⟩,
    fun s => ⟨?_, fun ns h => next_congr (if_neg ?_)⟩⟩
  · refine ⟨_, otpSenseComplete_senses hmode hstep hbrace, ?_⟩
    have hfoot : Foot 0x200 (s.senseOtp s.spares.1) ((s.senseOtp s.spares.1).noteSpares s.spares.1) := State.noteSpares_foot _ _
    have hotp : ((s.senseOtp s.spares.1).noteSpares s.spares.1).otp = (s.senseOtp s.spares.1).otp := hfoot.keeps .otp
    have honly : Only [.otp, .log, .retained, .boot, .faults] s ((s.senseOtp s.spares.1).noteSpares s.spares.1) :=
      (((State.noteSpares_foot _ _).after (State.senseOtp_foot _ _).mono) : Foot 0x332 s _).onlyIn _
    obtain ⟨hopen, hblank, hlock, hclosed⟩ := s.debugLevelOf_spec s.lifecycleMarked
    rw [hotp]
    exact ⟨rfl, rfl, s.lifecycleMarked_eq, hopen, hblank, hlock, hclosed, rfl, rfl, rfl, fun i hi => s.trimsSensed_get hi,
      hfoot.keeps .retained, hfoot.keeps .boot, honly⟩
  · rintro ⟨-, -, hnone⟩
    rw [Option.isNone_iff_eq_none.1 hnone] at hbrace
    cases hbrace
  · exact next_congr (if_pos ⟨hmode, hstep⟩)
  · intro taps khz ns hstep hwrites
    obtain ⟨cut, hexec⟩ := flashResetDone_tries hmode hstep taps khz ns
    obtain ⟨h4, hcs, hcopy, hmem, h10, h01, hlen, hw, ha, hb⟩ := s.boot.flashReset_spec taps khz cut _ rfl
    rw [hwrites, List.nil_append] at hw
    refine ⟨_, ?_, ?_, h4, hcs, hcopy, hmem, h10, h01, hlen, hw, ha, hb, hexec.trans (next_congr (State.noImage_eq _))⟩
    · intro p hp
      cases p <;> first | rfl | exact absurd hp (by decide)
    · rfl
  · intro i rest fails ns hstep horder hwrites code hcode
    obtain ⟨cut, hexec⟩ := imageChecked_judges hmode hstep horder hwrites fails ns
    have hexec := hexec code hcode
    constructor
    · intro h
      rw [if_pos h] at hexec
      refine ⟨_, hexec, rfl, rfl, rfl, ?_, ?_⟩
      · show (s.boot.ran i cut).writes = _
        unfold Boot.ran Boot.mark
        split <;> simp [hwrites]
      · intro p hp
        cases p <;> first | rfl | exact absurd hp (by decide)
    · intro h
      rw [if_neg h, State.noImage_eq] at hexec
      have horder' : (s.boot.rejected i code cut).order = rest := by
        unfold Boot.rejected Boot.setCode Boot.mark
        split <;> split <;> simp [horder]
      have hwrites' : (s.boot.rejected i code cut).writes = (if code = 9 then [] else [.mark 1 i 0x0F, .mark 0 i 0x0F]) := by
        unfold Boot.rejected Boot.setCode Boot.mark
        split <;> split <;> simp [hwrites]
      refine ⟨{ s with
        retained := { s.retained with rtcNs := max s.retained.rtcNs (ns % 2 ^ 64) }
        freeCount := s.freeCount + 1
        boot := s.boot.rejected i code cut }, ?_, horder', ?_, ?_, hwrites', ?_⟩
      · intro p hp
        cases p <;> first | rfl | exact absurd hp (by decide)
      · show (s.boot.rejected i code cut).codeA = _
        unfold Boot.rejected Boot.setCode Boot.mark
        split <;> split <;> rfl
      · show (s.boot.rejected i code cut).codeB = _
        unfold Boot.rejected Boot.setCode Boot.mark
        split <;> split <;> rfl
      · rw [hexec, ← horder']
  · intro i fails ns h
    exact ⟨next_congr (if_neg fun ⟨_, _, _, he⟩ => h (List.isEmpty_iff.1 he)),
      next_congr (if_neg fun ⟨_, _, he⟩ => h (List.isEmpty_iff.1 he))⟩
  · intro hstep hwrites
    exact next_congr (if_pos ⟨hmode, hstep, by rw [hwrites]; rfl⟩)
  · exact fun ns hmode hstep hk hr hown => configureEntry_enters ns hmode hstep hk hr hown
  · rintro ⟨hmode, hstep⟩
    exact h.elim (absurd hmode) (absurd hstep)

end Sys2Proof
end

section
/-! PROOFS. The local ledger (R28, R29, R434 to R441). -/
set_option Elab.async false
namespace Sys2Proof.Machine

/-! ### The seal -/

theorem State.sendPeer_role (s : State) (t : Nat) (b : Bytes) : (s.sendPeer t b).role = s.role := by
  unfold State.sendPeer
  split <;> rfl

theorem State.foldl_sendPeer_role {α : Type} (t : Nat) (f : α → Bytes) (l : List α) (s : State) :
    (l.foldl (fun s c => s.sendPeer t (f c)) s).role = s.role := by
  induction l generalizing s with
  | nil => rfl
  | cons c l ih => exact (ih _).trans (s.sendPeer_role t (f c))

/-- What a copy of the active's snapshot leaves of the ledger: each snapshot keeps its epoch (R436). -/
theorem State.adoptSnapshot_spec (s : State) : ∃ (g : Snap → Snap) (rx : Tab Bytes), (∀ x, (g x).epoch = x.epoch) ∧
    s.adoptSnapshot.ledger = { s.ledger with rx := rx, snaps := s.ledger.snaps.map g } ∧
    (s.ledger.rx.length ≠ 16 → s.adoptSnapshot = s) := by
  unfold State.adoptSnapshot
  dsimp only
  split
  · next h =>
    have hlen : s.ledger.rx.length = 16 := by
      rw [Bool.and_eq_true, decide_eq_true_eq] at h
      exact h.1
    split
    · refine ⟨_, _, ?_, rfl, fun h => absurd hlen h⟩
      intro x
      split <;> rfl
    · exact ⟨id, _, fun _ => rfl, by rw [List.map_id], fun h => absurd hlen h⟩
  · exact ⟨id, _, fun _ => rfl, by rw [List.map_id], fun _ => rfl⟩

/-- A sealed snapshot begins with its MAGIC and VERSION (Table 16-3). -/
theorem crcSnap_magic (n : Nat) (l body : Bytes) : (crcSnap (recPad (n + 3) (leBytes 2 0x4C47 ++ [1] ++ l) ++ body)).take 3 =
    [0x47, 0x4C, 1] := by
  have hmagic : leBytes 2 0x4C47 ++ [1] = ([0x47, 0x4C, 1] : Bytes) := by decide
  rw [hmagic]
  simp [crcSnap, recPad, padTo, List.take_append, List.take_take]

/-- The ledger with a snapshot sealed. -/
def Ledger.sealed (l : Ledger) (x : Snap) (body : List Bytes) (d : Bool) : Ledger :=
  { (l.hold x) with open_ := false, late := 0, lastBody := body, deadlineSeals := (l.deadlineSeals + b2n d) % 2 ^ 32 }

/-- A seal as a standby, a subscription and the fault collector hear of it. -/
def State.sealTold (s : State) (e fab : Nat) (bytes : Bytes) (d : Bool) : State :=
  let s := if s.role = 1 then
      (snapChunks bytes).foldl (fun s c => s.sendPeer 0x0C (leBytes 4 e ++ [byte c.1, 0, 0, 0] ++ c.2)) s
    else s
  let s := if s.role = 2 && s.shadowing then s.adoptSnapshot else s
  let s := s.pushKind 1 e fab fun _ => (snapChunks bytes).map fun c => byte c.1 :: c.2
  if d then s.raise 187 1 [] else s

theorem State.sealLocal_does (s : State) (us : Nat) (d : Bool) : ∃ (x : Snap) (body : List Bytes) (win : Faults) (fab : Nat),
    x.epoch = s.ledger.epoch ∧ x.generation = s.sluice.generation ∧ x.bytes.take 3 = [0x47, 0x4C, 1] ∧
    s.sealLocal us d = State.sealTold { s with
      ledger := s.ledger.sealed x body d, sealedView := s.latchView, faults := win
      host := { s.host with sealedEpoch := s.ledger.epoch % 2 ^ 32, irqSealed := true } } s.ledger.epoch fab x.bytes d := by
  refine ⟨_, _, _, _, ?_, ?_, ?_, rfl⟩
  · rfl
  · rfl
  · exact crcSnap_magic 61 _ _

/-- The newest snapshot of a ledger that has sealed one, and how many it holds (R435). -/
theorem Ledger.sealed_snaps (l : Ledger) (x : Snap) (body : List Bytes) (d : Bool) :
    (l.sealed x body d).snaps.getLast? = some x ∧ (l.sealed x body d).snaps.length ≤ 16 := by
  show ((l.snaps ++ [x]).drop _).getLast? = _ ∧ ((l.snaps ++ [x]).drop _).length ≤ 16
  constructor
  · rw [List.getLast?_drop, if_neg (by simp only [List.length_append, List.length_singleton]; omega), List.getLast?_append]
    rfl
  · rw [List.length_drop]
    omega

/-- What a told seal leaves (R436, R441). -/
theorem State.sealTold_spec (s : State) (e fab : Nat) (bytes : Bytes) (d : Bool) : ∃ (g : Snap → Snap) (rx : Tab Bytes),
    (∀ x, (g x).epoch = x.epoch) ∧
    (s.sealTold e fab bytes d).ledger = { s.ledger with rx := rx, snaps := s.ledger.snaps.map g } ∧
    (s.role ≠ 2 ∨ s.ledger.rx.length ≠ 16 → (s.sealTold e fab bytes d).ledger = s.ledger) ∧
    (s.sealTold e fab bytes d).sealedView = s.sealedView ∧ (d = false → (s.sealTold e fab bytes d).host = s.host) := by
  obtain ⟨x, hx⟩ : ∃ x, x = (if s.role = 1 then
      (snapChunks bytes).foldl (fun s c => s.sendPeer 0x0C (leBytes 4 e ++ [byte c.1, 0, 0, 0] ++ c.2)) s else s) := ⟨_, rfl⟩
  obtain ⟨y, hy⟩ : ∃ y, y = (if (x.role = 2 && x.shadowing) = true then x.adoptSnapshot else x) := ⟨_, rfl⟩
  obtain ⟨z, hz⟩ : ∃ z, z = y.pushKind 1 e fab fun _ => (snapChunks bytes).map fun c => byte c.1 :: c.2 := ⟨_, rfl⟩
  have hxfoot : Foot 0x20100000 s x := by
    rw [hx]
    exact .ite (.fold .same fun _ _ h => (State.sendPeer_foot _ _ _).after h) .same
  have hxrole : x.role = s.role := by
    rw [hx]
    split
    · exact State.foldl_sendPeer_role 0x0C (fun c : Nat × Bytes => leBytes 4 e ++ [byte c.1, 0, 0, 0] ++ c.2) _ s
    · rfl
  have hyfoot : Foot 0x200000 x y := by
    rw [hy]
    exact .ite ((State.adoptSnapshot_foot _).after .same) .same
  have hzfoot : Foot 0x21000100 y z := hz ▸ State.pushKind_foot _ _ _ _ _
  have htold : s.sealTold e fab bytes d = if d then z.raise 187 1 [] else z := by
    rw [hz, hy, hx]
    rfl
  have hraise : Foot 0x73DDBFE9 z (s.sealTold e fab bytes d) := by
    rw [htold]
    exact .ite ((State.raise_foot _ _ _ _).after .same) .same
  have hledger : (s.sealTold e fab bytes d).ledger = y.ledger := (hraise.keeps .ledger).trans (hzfoot.keeps .ledger)
  have hxledger : x.ledger = s.ledger := hxfoot.keeps .ledger
  have hview : (s.sealTold e fab bytes d).sealedView = s.sealedView := (hraise.keeps .sealedView).trans
    ((hzfoot.keeps .sealedView).trans ((hyfoot.keeps .sealedView).trans (hxfoot.keeps .sealedView)))
  have hhost : d = false → (s.sealTold e fab bytes d).host = s.host := by
    intro h
    rw [htold, h]
    exact (hzfoot.keeps .host).trans ((hyfoot.keeps .host).trans (hxfoot.keeps .host))
  obtain ⟨g, rx, hg, hadopt, hnone⟩ := x.adoptSnapshot_spec
  rw [hxledger] at hadopt hnone
  have hkept : s.role ≠ 2 ∨ s.ledger.rx.length ≠ 16 → y.ledger = s.ledger := by
    rintro (h | h)
    · have hrole : ¬(x.role = 2 && x.shadowing) = true := by
        rw [hxrole, decide_eq_false h]
        exact Bool.false_ne_true
      rw [hy, if_neg hrole, hxledger]
    · rw [hy, hnone h]
      split <;> exact hxledger
  by_cases h : (x.role = 2 && x.shadowing) = true
  · exact ⟨g, rx, hg, hledger.trans (by rw [hy, if_pos h, hadopt]), fun h => hledger.trans (hkept h), hview, hhost⟩
  · refine ⟨id, s.ledger.rx, fun _ => rfl, hledger.trans ?_, fun h => hledger.trans (hkept h), hview, hhost⟩
    rw [hy, if_neg h, hxledger, List.map_id]

/-- What a seal leaves (R29, R434, R435). -/
theorem State.sealLocal_spec (s : State) (us : Nat) (d : Bool) : ∀ t, t = s.sealLocal us d →
    t.ledger.open_ = false ∧ t.ledger.late = 0 ∧ t.sealedView = s.latchView ∧
    (∃ x, t.ledger.snaps.getLast? = some x ∧ x.epoch = s.ledger.epoch ∧ (s.role ≠ 2 ∨ s.ledger.rx.length ≠ 16 →
      x.generation = s.sluice.generation ∧ x.bytes.take 3 = [0x47, 0x4C, 1])) ∧ t.ledger.snaps.length ≤ 16 ∧
    t.ledger.deadlineSeals = (s.ledger.deadlineSeals + if d then 1 else 0) % 2 ^ 32 ∧
    (d = false → t.host.sealedEpoch = s.ledger.epoch % 2 ^ 32 ∧ t.host.irqSealed = true) := by
  rintro t rfl
  obtain ⟨x, body, win, fab, hepoch, hgen, hmagic, hseal⟩ := s.sealLocal_does us d
  obtain ⟨y, hy⟩ : ∃ y : State, y = { s with
      ledger := s.ledger.sealed x body d, sealedView := s.latchView, faults := win
      host := { s.host with sealedEpoch := s.ledger.epoch % 2 ^ 32, irqSealed := true } } := ⟨_, rfl⟩
  rw [← hy] at hseal
  have hyledger : y.ledger = s.ledger.sealed x body d := by rw [hy]
  have hyrole : y.role = s.role := by rw [hy]; rfl
  have hyview : y.sealedView = s.latchView := by rw [hy]
  have hyhost : y.host.sealedEpoch = s.ledger.epoch % 2 ^ 32 ∧ y.host.irqSealed = true := by
    rw [hy]
    exact ⟨rfl, rfl⟩
  obtain ⟨g, rx, hg, hledger, hkept, hview, hhost⟩ := y.sealTold_spec s.ledger.epoch fab x.bytes d
  rw [hyledger] at hledger hkept
  rw [hyrole] at hkept
  obtain ⟨hlast, hlen⟩ := s.ledger.sealed_snaps x body d
  rw [hseal]
  refine ⟨by rw [hledger]; rfl, by rw [hledger]; rfl, hview.trans hyview, ?_, ?_, ?_, ?_⟩
  · refine ⟨g x, ?_, (hg x).trans hepoch, fun h => ?_⟩
    · rw [hledger]
      show ((s.ledger.sealed x body d).snaps.map g).getLast? = _
      rw [List.getLast?_map, hlast]
      rfl
    · have hsame := hledger.symm.trans (hkept h)
      have hlast' : ((s.ledger.sealed x body d).snaps.map g).getLast? = (s.ledger.sealed x body d).snaps.getLast? :=
        congrArg (fun l : Ledger => l.snaps.getLast?) hsame
      rw [List.getLast?_map, hlast, Option.map_some, Option.some.injEq] at hlast'
      rw [hlast']
      exact ⟨hgen, hmagic⟩
  · rw [hledger]
    show ((s.ledger.sealed x body d).snaps.map g).length ≤ 16
    rw [List.length_map]
    exact hlen
  · rw [hledger]
    show (s.ledger.deadlineSeals + b2n d) % 2 ^ 32 = _
    cases d <;> rfl
  · intro h
    rw [hhost h]
    exact hyhost

/-- The ledger once a chunk of the active's snapshot is in (R436). -/
def Ledger.takeChunk (l : Ledger) (b : Bytes) : Ledger :=
  let l := if l.rxEpoch = fld b 0 4 then l else { l with rxEpoch := fld b 0 4, rx := [] }
  { l with rx := Tab.set [] l.rx (fld b 4 1) (slice b 8 1024) }

theorem Ledger.takeChunk_spec (l : Ledger) (b : Bytes) : (l.takeChunk b).rxEpoch = fld b 0 4 ∧
    Tab.get [] (l.takeChunk b).rx (fld b 4 1) = slice b 8 1024 ∧ (l.takeChunk b).snaps = l.snaps := by
  unfold Ledger.takeChunk
  dsimp only
  refine ⟨?_, (Tab.get_set _ _ _ _ _).trans (if_pos rfl), ?_⟩
  · split
    · next h => exact h
    · rfl
  · split <;> rfl

/-- A set that is not complete is not adopted. -/
theorem State.adoptSnapshot_eq (s : State) : s.adoptSnapshot = if s.ledger.rx.length = 16 then s.adoptSnapshot else s := by
  split
  · rfl
  · next h =>
    obtain ⟨-, -, -, -, hnone⟩ := s.adoptSnapshot_spec
    exact hnone h

theorem snapshotFrame_taken {s : State} {f b : Bytes} (hhear : s.hears 0x0C f b) (hlen : b.length = 1032) (hrole : s.role = 2)
    (hshadow : s.shadowing = true) (hi : fld b 4 1 < 16) : ∃ x : State,
    exec (.snapshotFrame f) s = .next (if x.ledger.rx.length = 16 then x.adoptSnapshot else x) ∧
    x.ledger = s.ledger.takeChunk b ∧ Only [.sluice, .ledger] s x := by
  obtain ⟨r, p, g, hn⟩ := s.noteFrame_eq 0x0C f
  obtain ⟨n, hn'⟩ : ∃ n, n = s.noteFrame 0x0C f := ⟨_, rfl⟩
  rw [← hn'] at hn
  have hrole' : n.role = 2 := hn ▸ hrole
  have hshadow' : n.shadowing = true := hn ▸ hshadow
  have hledger : n.ledger = s.ledger := by rw [hn]
  refine ⟨{ n with ledger := n.ledger.takeChunk b }, next_congr (State.onFrame_hears hhear (decide_eq_true hlen) ?_), ?_, ?_⟩
  · rw [← hn']
    exact (if_pos ⟨hrole', hshadow', hi⟩).trans (State.adoptSnapshot_eq _)
  · exact congrArg (Ledger.takeChunk · b) hledger
  · refine Only.trans (t := n) ((hn' ▸ State.noteFrame_only s 0x0C f : Only [.sluice] s n).mono (by decide)) fun p hp => ?_
    cases p <;> first | rfl | exact absurd hp (by decide)

/-! ### The orders of group 0x0B -/

/-- Bytes of the ledger RAM that read correctly are what it holds (Table 18-9). -/
theorem State.ledgerRead_good {s : State} {area e o : Nat} {d : Bytes} (h : s.ledgerBad area e o d.length = []) :
    s.ledgerRead area e o d = d := by
  have hgood : ∀ i, i < d.length → s.wordBad instLedger (ledgerPlace area e (o + i)) = false := by
    intro i hi
    have hplace : ledgerPlace area e (4 * ((o + i) / 4)) = ledgerPlace area e (o + i) := by
      rw [ledgerPlace, ledgerPlace, Nat.mul_div_cancel_left _ (by decide)]
    rw [State.ledgerBad, List.filter_eq_nil_iff] at h
    rw [← hplace, ← Bool.not_eq_true]
    refine h _ (List.mem_map.mpr ⟨(o + i) / 4, mem_countFrom.mpr ?_, rfl⟩)
    unfold cdiv
    omega
  refine List.ext_getElem (by simp [State.ledgerRead]) fun i h1 h2 => ?_
  have hi : i < d.length := h2
  simp [State.ledgerRead, hgood i hi, hi]

theorem ledgerRead_area {s : State} {mb e : Nat} {q : Req} {b : Bytes} (hq : q = s.request mb) (hstart : s.starts 0x0B02 mb)
    (hlay : q.lay 12 [(5, 1)] = true) (harea : q.u 4 1 ≤ 3) (h1 : 1 ≤ q.u 6 2) (h480 : q.u 6 2 ≤ 480)
    (hfit : q.u 8 4 + q.u 6 2 ≤ areaSize (q.u 4 1)) (hread : s.ledgerArea (q.u 0 4) (q.u 4 1) = .inl (e, b))
    (hbad : s.ledgerBad (q.u 4 1) e (q.u 8 4) (q.u 6 2) = []) :
    exec (.ledgerRead mb) s = .next ((s.taken.replyAt q .ok
        (leBytes 4 (q.u 0 4) ++ zeros 4 ++ slice b (q.u 8 4) (q.u 6 2)) (q.u 0 4)).followed) := by
  subst hq
  refine State.runOrder_does hstart ((if_neg ?_).trans ?_)
  · simp only [hlay, Bool.not_true, Bool.false_or, Bool.or_eq_true, decide_eq_true_eq]
    omega
  · have hread' : s.taken.ledgerArea ((s.request mb).u 0 4) ((s.request mb).u 4 1) = .inl (e, b) := hread
    have hbad' : s.taken.ledgerBad ((s.request mb).u 4 1) e ((s.request mb).u 8 4) ((s.request mb).u 6 2) = [] := hbad
    rw [hread']
    dsimp only
    rw [hbad', State.ledgerRead_good (by rw [length_slice]; exact hbad')]
    rfl

end Sys2Proof.Machine

namespace Sys2Proof
open Machine

/-- Settles O38: the local ledger gathers, seals, copies and answers as R28, R29 and R434 to R449 say. -/
theorem ledgerRows : Obligations.LedgerRows := by
  rintro s mb q rfl
  refine ⟨fun i us x hi hf hopen hexp hw hx => ?_, fun i e us hi hf he hs hg => ?_, fun i e us hi => next_congr (if_pos ?_),
    fun h => next_congr (if_pos h), fun h => next_congr (if_neg (by rw [h]; exact Bool.false_ne_true)),
    fun us d t ht => s.sealLocal_spec us d t ht, fun f b i hhear hlen hrole hshadow hi h16 => ?_, ?_, ?_, ?_, ?_, ?_, ?_, ?_⟩
  · have hin : ¬(18 < i || !s.mode.firmware) = true := by simp [hf]; omega
    have hthis : (s.ledger.open_ && decide (s.ledger.epoch % 2 ^ 32 = s.ledger.epoch % 2 ^ 32)) = true := by simp [hopen]
    have hbit : (bit s.ledger.expected i && (decide (i ≠ 0) || s.wardenRuns)) = true := by
      rw [Bool.and_eq_true, Bool.or_eq_true, decide_eq_true_eq]
      exact ⟨hexp, hw⟩
    refine next_congr ((if_neg hin).trans ((if_pos hthis).trans ((if_pos hbit).trans ?_)))
    have hopen' : x.ledger.open_ = true := by rw [hx]; exact hopen
    rw [← hx, State.sealIfComplete]
    simp only [hopen', Bool.true_and, decide_eq_true_eq]
  · have hin : ¬(18 < i || !s.mode.firmware) = true := by simp [hf]; omega
    refine next_congr ((if_neg hin).trans ((if_neg ?_).trans (if_pos ?_)))
    · rw [decide_eq_false he, Bool.and_false]
      exact Bool.false_ne_true
    · simp [hs, hg]
  · simp [hi]
  · subst hi
    obtain ⟨x, hexec, hledger, honly⟩ := snapshotFrame_taken hhear hlen hrole hshadow h16
    obtain ⟨hepoch, hchunk, hsnaps⟩ := s.ledger.takeChunk_spec b
    exact ⟨x, hexec, by rw [hledger, hepoch], by rw [hledger, hchunk], by rw [hledger, hsnaps], honly⟩
  · intro hstart hlay
    exact ⟨_, State.runOrder_does hstart (if_neg (by simp [hlay])), by simp, by simp [List.take_append, List.take_of_length_le]⟩
  · intro x hstart hlay harea h1 h480 hfit hsnap hbad
    exact ledgerRead_area (e := x.epoch) rfl hstart hlay (by omega) h1 h480 (by rw [harea]; exact hfit)
      (by simp only [State.ledgerArea, hsnap, harea, if_true]) (by rw [harea]; exact hbad)
  · intro x g f hstart hlay ha1 ha3 h1 h480 hfit hsnap hfab hof hbad
    refine ledgerRead_area rfl hstart hlay ha3 h1 h480 hfit ?_ hbad
    have hne : ¬(s.request mb).u 4 1 = 0 := by omega
    simp only [State.ledgerArea, hsnap, hne, if_false, hfab, hof]
  · intro hstart hlay hmember
    have hm : ¬(!s.taken.member) = true := by
      rw [show s.taken.member = true from hmember]
      exact Bool.false_ne_true
    exact ⟨_, State.runOrder_does hstart ((if_neg hm).trans (if_neg (by simp [hlay]))), by simp, rfl, by simp [slice, List.drop_append, List.take_append, List.take_of_length_le, zeros]⟩
  · intro hstart hmember
    exact State.runOrder_does hstart (if_pos (by rw [show s.taken.member = false from hmember]; rfl))
  · intro hstart hether hlay hkind hlo hhi hrow h8 h4
    obtain ⟨id, hsub, h1, h16, hfree⟩ := State.subscribe_within (s := s.taken)
      { id := 0, session := (s.request mb).session, log := false, kind := (s.request mb).u 0 1, row := (s.request mb).u 1 1
        decim := (s.request mb).u 2 2, next := 0, classes := 0, gone := 0 } h8 h4
    have hdecim : decimOk ((s.request mb).u 0 1) ((s.request mb).u 2 2) = true := by
      rw [decimOk, decide_eq_true hlo, decide_eq_true hhi, Bool.and_self]
    have hrow' : (decide ((s.request mb).u 0 1 = 2) && decide (31 < (s.request mb).u 1 1)) = false := by
      rw [Bool.and_eq_false_imp, decide_eq_true_eq, decide_eq_false_iff_not, Nat.not_lt]
      exact hrow
    refine ⟨{ id := id, session := (s.request mb).session, log := false, kind := (s.request mb).u 0 1
              row := (s.request mb).u 1 1, decim := (s.request mb).u 2 2, next := 0, classes := 0, gone := 0 },
      State.runOrderWith_does hstart (decide_eq_true hether) rfl ?_, rfl, h1, h16, hfree⟩
    simp only [hsub, hlay, hdecim, hrow', Nat.not_lt.mpr hkind, decide_false, Bool.not_true, Bool.or_self, Bool.false_eq_true,
      if_false]
    rfl
  · intro hstart hlay hmine
    refine State.runOrder_does hstart ?_
    have hunsub : s.taken.unsubscribe (s.request mb).session ((s.request mb).u 0 1) false =
        some { s.taken with log := { s.log with subs := s.log.subs.filter fun y =>
          !(decide (y.id = (s.request mb).u 0 1) && decide (y.session = (s.request mb).session) && !y.log) } } := by
      have hlog : ∀ b : Bool, decide (b = false) = !b := by decide
      simp only [State.unsubscribe, State.taken_left, hlog, hmine, if_true]
    simp only [hlay, hunsub, Bool.not_true, Bool.false_eq_true, if_false]

end Sys2Proof
end

section
/-! PROOFS. Lanes and time alignment of the Levee fabric (R420 to R431). -/
set_option Elab.async false
namespace Sys2Proof.Machine

/-! ### Lanes -/

theorem lt_four_cases {l : Nat} (h : l < 4) : l = 0 ∨ l = 1 ∨ l = 2 ∨ l = 3 := by omega

theorem State.fabLane_setFabLane (s : State) {l k : Nat} (f : FabLane → FabLane) (hl : l < 4) (hk : k < 4) :
    (s.setFabLane l f).fabLane k = if k = l then f (s.fabLane l) else s.fabLane k := by
  rcases lt_four_cases hl with rfl | rfl | rfl | rfl <;> rcases lt_four_cases hk with rfl | rfl | rfl | rfl <;> rfl

theorem State.setFabLane_only (s : State) (l : Nat) (f : FabLane → FabLane) : Only [.fabric] s (s.setFabLane l f) :=
  (s.setFabLane_foot l f).onlyIn _

theorem State.fabLane_congr {s t : State} (h : t.fabric = s.fabric) (k : Nat) : t.fabLane k = s.fabLane k := by
  unfold State.fabLane
  rw [h]

theorem State.laneUsed_congr {s t : State} (h : t.desc = s.desc) (k : Nat) : t.laneUsed k = s.laneUsed k := by
  unfold State.laneUsed State.shelfFabRows State.shelfFabCols State.field
  rw [h]

theorem State.fabAddr_congr {s t : State} (h : t.desc = s.desc) : t.fabAddr = s.fabAddr := by
  unfold State.fabAddr State.shelfFabRow State.shelfFabCol State.field
  rw [h]

theorem State.fabLane_chooseParent (s : State) (k : Nat) : s.chooseParent.fabLane k = s.fabLane k := by
  unfold State.chooseParent
  split <;> rfl

/-- A parent is chosen among the lanes that are up (R426). -/
theorem State.bestParent_up {s : State} {l : Nat} (h : s.bestParent = some l) : (s.fabLane l).up = true := by
  have hfold : ∀ (step : Option Nat → Nat → Option Nat) (p : Nat → Prop), (∀ a k, step a k = some k ∨ step a k = a) →
      ∀ (ls : List Nat) (a : Option Nat), (∀ k ∈ ls, p k) → (∀ k, a = some k → p k) → ∀ k, ls.foldl step a = some k → p k := by
    intro step p hstep ls
    induction ls with
    | nil => exact fun a _ ha k hk => ha k hk
    | cons j ls ih =>
      intro a hls ha
      refine ih _ (fun k hk => hls k (List.mem_cons_of_mem _ hk)) fun k hk => ?_
      rcases hstep a j with hj | hj
      · rw [hj, Option.some.injEq] at hk
        exact hk ▸ hls j List.mem_cons_self
      · exact ha k (hj ▸ hk)
  refine hfold _ (fun k => (s.fabLane k).up = true) ?_ _ none (fun k hk => ?_) (fun k hk => by cases hk) l h
  · intro a k
    cases a with
    | none => exact .inl rfl
    | some b =>
      dsimp only
      split
      · exact .inl rfl
      · exact .inr rfl
  · simp only [List.mem_filter, Bool.and_eq_true] at hk
    exact hk.2.1.1

theorem State.chooseParent_parent (s : State) : s.chooseParent.fabric.parent = s.bestParent := by
  unfold State.chooseParent
  split
  · next h => exact h.symm
  · next h => exact h.symm

/-- Where one lane alone is up, and its neighbour names a lower root, it is the parent (R426). -/
theorem State.chooseParent_only {s : State} {l root : Nat} (hl : l < 4) (hup : (s.fabLane l).up = true) (hused : s.laneUsed l = true)
    (hroot : (s.fabLane l).nRoot = some root) (hlow : root < s.fabAddr) (hothers : ∀ k, k < 4 → k ≠ l → (s.fabLane k).up = false) :
    s.chooseParent = { s with fabric := { s.fabric with
      parent := some l, root := root, depth := (s.fabLane l).nDepth + 1, isRoot := false } } := by
  have hcand : ((upto 4).filter fun k => (s.fabLane k).up && s.laneUsed k &&
      decide ((s.fabLane k).nRoot.getD 0xFFFF < s.fabAddr)) = [l] := by
    have hval : ∀ k, k < 4 → ((s.fabLane k).up && s.laneUsed k && decide ((s.fabLane k).nRoot.getD 0xFFFF < s.fabAddr)) =
        decide (k = l) := by
      intro k hk
      by_cases h : k = l
      · subst h
        simp [hup, hused, hroot, hlow]
      · simp [hothers k hk h, h]
    rw [List.filter_congr fun k hk => hval k (mem_upto.mp hk)]
    rcases lt_four_cases hl with rfl | rfl | rfl | rfl <;> rfl
  have hbest : s.bestParent = some l := by
    unfold State.bestParent
    dsimp only
    rw [hcand]
    rfl
  unfold State.chooseParent
  rw [hbest]
  dsimp only
  rw [hroot]
  rfl

/-- What a lane's HELLO timer does (R421). -/
def State.helloLane (locked : Nat) (s : State) (l : Nat) : State :=
  let s := s.setFabLane l fun x => { x with block := bit locked l }
  if bit locked l && s.laneUsed l then
    let n := s.neighbour l
    let b := [byte s.shelfFabRow, byte s.shelfFabCol, byte s.shelfFabRows, byte s.shelfFabCols, byte l, byte s.role, 0, 0]
      ++ leBytes 4 s.dieId
    s.send (.fabric l 0x01 (s.fabFrame 0x01 (32 * n.1 + n.2) s.fabEpoch 0 b))
  else s

theorem State.helloLane_spec (m : Nat) (s : State) {l : Nat} (hl : l < 4) :
    (∀ k, k < 4 → (s.helloLane m l).fabLane k = if k = l then { s.fabLane l with block := m.testBit l } else s.fabLane k) ∧
    (s.helloLane m l).sent.length = s.sent.length + (if m.testBit l && s.laneUsed l then 1 else 0) ∧
    Only [.fabric, .sent] s (s.helloLane m l) := by
  obtain ⟨x, hx⟩ : ∃ x, x = s.setFabLane l fun x => { x with block := bit m l } := ⟨_, rfl⟩
  have hfoot : Foot 0x400000 s x := hx ▸ State.setFabLane_foot _ _ _
  have hused : x.laneUsed l = s.laneUsed l := State.laneUsed_congr (hfoot.keeps .desc) l
  have hlane : ∀ k, k < 4 → x.fabLane k = if k = l then { s.fabLane l with block := m.testBit l } else s.fabLane k := fun k hk =>
    hx ▸ s.fabLane_setFabLane _ hl hk
  have hsent : x.sent = s.sent := hfoot.keeps .sent
  have honly : Only [.fabric, .sent] s x := hfoot.onlyIn _
  unfold State.helloLane
  dsimp only
  rw [← hx, hused]
  by_cases h : (bit m l && s.laneUsed l) = true
  · rw [if_pos h]
    refine ⟨fun k hk => (State.fabLane_congr rfl k).trans (hlane k hk), ?_, Only.trans honly fun p hp => ?_⟩
    · show (x.sent ++ [_]).length = _
      rw [hsent, List.length_append, if_pos (show (m.testBit l && s.laneUsed l) = true from h)]
      rfl
    · cases p <;> first | rfl | exact absurd hp (by decide)
  · rw [if_neg h]
    exact ⟨hlane, by rw [hsent, if_neg (show ¬(m.testBit l && s.laneUsed l) = true from h), Nat.add_zero], honly⟩

theorem State.each_helloLane (m : Nat) (ls : List Nat) (hls : ∀ l ∈ ls, l < 4) (hnd : ls.Nodup) (s : State) :
    (∀ k, k < 4 → (s.each ls (State.helloLane m)).fabLane k =
      if k ∈ ls then { s.fabLane k with block := m.testBit k } else s.fabLane k) ∧
    (s.each ls (State.helloLane m)).sent.length = s.sent.length + (ls.filter fun k => m.testBit k && s.laneUsed k).length ∧
    Only [.fabric, .sent] s (s.each ls (State.helloLane m)) := by
  induction ls generalizing s with
  | nil => exact ⟨fun k _ => by simp [State.each], rfl, Only.refl _ s⟩
  | cons l ls ih =>
    obtain ⟨hnot, hnd⟩ := List.nodup_cons.mp hnd
    obtain ⟨hlane, hsent, honly⟩ := s.helloLane_spec m (hls l List.mem_cons_self)
    obtain ⟨hlane', hsent', honly'⟩ := ih (fun k hk => hls k (List.mem_cons_of_mem _ hk)) hnd (s.helloLane m l)
    have hused : ∀ k, (s.helloLane m l).laneUsed k = s.laneUsed k := State.laneUsed_congr (honly .desc rfl)
    refine ⟨fun k hk => ?_, ?_, honly.trans honly'⟩
    · refine (hlane' k hk).trans ?_
      rw [hlane k hk]
      by_cases h : k = l
      · subst h
        simp [hnot]
      · simp [h]
    · refine hsent'.trans ?_
      simp only [hsent, hused, List.filter_cons]
      split
      · rw [List.length_cons]
        omega
      · rfl

/-- A frame goes out on a lane that is up and used. -/
theorem State.sendFab_sent (s : State) (l : Nat) (f : Bytes) :
    (s.sendFab l f).sent.length = s.sent.length + (if (s.fabLane l).up && s.laneUsed l then 1 else 0) := by
  unfold State.sendFab
  split
  · exact List.length_append
  · rfl

theorem State.each_sendFab (g : State → Nat → Bytes) (ls : List Nat) (s : State) :
    (s.each ls fun t l => t.sendFab l (g t l)).sent.length =
      s.sent.length + (ls.filter fun k => (s.fabLane k).up && s.laneUsed k).length ∧
    Only [.sent] s (s.each ls fun t l => t.sendFab l (g t l)) := by
  induction ls generalizing s with
  | nil => exact ⟨rfl, Only.refl _ s⟩
  | cons l ls ih =>
    have hfoot : Foot 0x20000000 s (s.sendFab l (g s l)) := State.sendFab_foot _ _ _
    obtain ⟨hsent, honly⟩ := ih (s.sendFab l (g s l))
    refine ⟨hsent.trans ?_, Only.trans (hfoot.onlyIn _) honly⟩
    have hlane : ∀ k, (s.sendFab l (g s l)).fabLane k = s.fabLane k := State.fabLane_congr (hfoot.keeps .fabric)
    have hused : ∀ k, (s.sendFab l (g s l)).laneUsed k = s.laneUsed k := State.laneUsed_congr (hfoot.keeps .desc)
    simp only [hlane, hused, State.sendFab_sent, List.filter_cons]
    split
    · rw [List.length_cons]
      omega
    · rfl

/-! ### Time alignment -/

/-- A one-hop frame that is heard acts. -/
theorem State.onHop_hears {s x : State} {t n l : Nat} {f b : Bytes} {take : State → Bytes → State}
    (h : s.fabHears t n l f b) (htake : take s b = x) : s.onHop t n l f take = x := by
  obtain ⟨hon, hl, hup, hbody, hlen⟩ := h
  unfold State.onHop
  rw [if_pos ⟨hon, hl, hup⟩, hbody]
  exact (if_pos hlen).trans htake

theorem State.fabFrame_type (s : State) (t dst f ctrl : Nat) (b : Bytes) : (s.fabFrame t dst f ctrl b).take 1 = [byte t] := rfl

theorem State.fabFrame_body (s : State) (t dst f ctrl : Nat) (b : Bytes) : slice (s.fabFrame t dst f ctrl b) 16 b.length = b := by
  unfold State.fabFrame
  dsimp only
  rw [List.append_assoc]
  exact slice_mid _ _ _ (by simp) rfl

theorem State.takeOffset_spec (s : State) (fe : Nat) :
    (s.takeOffset fe).fabric = { s.fabric with offset := (s.ext : Int) - fe } ∧ Only [.fabric, .log] s (s.takeOffset fe) := by
  refine ⟨?_, (s.takeOffset_foot fe).onlyIn _⟩
  unfold State.takeOffset
  dsimp only
  split
  · next h => rw [h]
  · exact (State.record_foot _ _ _ _).keeps .fabric

/-- θ as the offset of a DELAY_RESP gives it (R427). -/
def Fabric.thetaOf (f : Fabric) (b : Bytes) : Int := tdiv ((f.t2 - f.t1) - (ofU 32 (fld b 0 4) - f.t3)) 2 + f.syncOffset

theorem delayResp_steers {s : State} {l : Nat} {f b : Bytes} (hh : s.fabHears 0x04 4 l f b) (hparent : s.fabric.parent = some l)
    (hsync : s.fabric.synced = true) : exec (.delayResp l f) s = .next (
      if s.role = 2 ∨ s.fabric.steered = true then
        { s with fabric := { s.fabric with theta := s.fabric.thetaOf b, steered := true } }
      else ({ s with fabric := { s.fabric with theta := s.fabric.thetaOf b, steered := true } } : State).steer
        (s.fabric.thetaOf b)) :=
  next_congr (State.onHop_hears hh (if_pos ⟨hparent, hsync⟩))

/-- What steering sets (R428). -/
theorem State.steer_spec (s : State) (theta : Int) : (s.steer theta).fabric.theta = s.fabric.theta ∧
    (s.steer theta).fabric.steered = s.fabric.steered ∧
    49750 ≤ (s.steer theta).fabric.nextCycles ∧ (s.steer theta).fabric.nextCycles ≤ 50250 ∧
    (theta.natAbs ≤ 10000000 → 49995 ≤ (s.steer theta).fabric.nextCycles ∧ (s.steer theta).fabric.nextCycles ≤ 50005 ∧
      (s.steer theta).fabric.slew = false) ∧
    (10000000 < theta.natAbs → (s.steer theta).fabric.slew = true) ∧ Only [.fabric, .freeCount] s (s.steer theta) := by
  have honly : Only [.fabric, .freeCount] s (s.steer theta) := (s.steer_foot theta).onlyIn _
  unfold State.steer at honly ⊢
  dsimp only at honly ⊢
  by_cases h : theta.natAbs ≤ 10000000
  · rw [if_pos h] at honly ⊢
    have hmod : s.fresh .unstated 0 % 11 < 11 := Nat.mod_lt _ (by decide)
    generalize s.fresh .unstated 0 % 11 = n at hmod honly ⊢
    have h1 : 49995 ≤ 49995 + n ∧ 49995 + n ≤ 50005 := by omega
    exact ⟨rfl, rfl, Nat.le_trans (by decide) h1.1, Nat.le_trans h1.2 (by decide), fun _ => ⟨h1.1, h1.2, rfl⟩,
      fun hlt => absurd h (Nat.not_le.mpr hlt), honly⟩
  · rw [if_neg h] at honly ⊢
    have hslew : ∀ (c : Prop) [Decidable c] (x : Nat), 49750 ≤ (if c then 50000 - min x 250 else 50000 + min x 250) ∧
        (if c then 50000 - min x 250 else 50000 + min x 250) ≤ 50250 := by
      intro c _ x
      split <;> omega
    exact ⟨rfl, rfl, (hslew _ _).1, (hslew _ _).2, fun hle => absurd hle h, fun _ => rfl, honly⟩

/-- The SYNC of the only neighbour that is up, and names a lower root, is followed and answered (R426, R427, R431). -/
theorem sync_follows {s : State} {l : Nat} {f b : Bytes} (t2 t3 : Int) (hh : s.fabHears 0x02 20 l f b)
    (hlow : fld b 0 2 < s.fabAddr) (hused : s.laneUsed l = true) (hothers : ∀ k, k < 4 → k ≠ l → (s.fabLane k).up = false) :
    ∃ (x : State) (fr : Bytes),
      exec (.sync l f t2 t3) s = .next ((x.condition 182 false).sendFab l fr) ∧ fr.take 1 = [0x03] ∧
      x.fabric.parent = some l ∧ x.fabric.root = fld b 0 2 ∧ x.fabric.depth = fld b 2 1 + 1 ∧ x.fabric.synced = true ∧
      x.fabric.offset = (s.ext : Int) - fld b 4 8 ∧ x.fabric.t2 = t2 ∧ x.fabric.t3 = t3 ∧ Only [.fabric, .log] s x := by
  obtain ⟨-, hl, hup, -, -⟩ := id hh
  obtain ⟨w, hw⟩ : ∃ w, w = s.setFabLane l fun x => { x with nRoot := some (fld b 0 2), nDepth := fld b 2 1 } := ⟨_, rfl⟩
  obtain ⟨x, hx⟩ : ∃ x : State, x = { w with fabric := { w.fabric with
    lowerHeard := w.fabric.lowerHeard || decide (fld b 0 2 < w.fabAddr) } } := ⟨_, rfl⟩
  obtain ⟨y, hy⟩ : ∃ y, y = x.chooseParent.takeOffset (fld b 4 8) := ⟨_, rfl⟩
  have hw_only : Only [.fabric] s w := hw ▸ s.setFabLane_only l _
  have hx_only : Only [.fabric] s x := hw_only.trans fun p hp => by
    rw [hx]
    cases p <;> first | rfl | exact absurd hp (by decide)
  have hlane : ∀ k, k < 4 → x.fabLane k = if k = l then
      { s.fabLane l with nRoot := some (fld b 0 2), nDepth := fld b 2 1 } else s.fabLane k := by
    intro k hk
    have h := s.fabLane_setFabLane (fun x => { x with nRoot := some (fld b 0 2), nDepth := fld b 2 1 }) hl hk
    rw [← hw] at h
    refine Eq.trans ?_ h
    rw [hx]
    rfl
  have hxl : x.fabLane l = { s.fabLane l with nRoot := some (fld b 0 2), nDepth := fld b 2 1 } := (hlane l hl).trans (if_pos rfl)
  have hparent := State.chooseParent_only (s := x) hl (by rw [hxl]; exact hup)
    ((State.laneUsed_congr (hx_only .desc rfl) l).trans hused) (by rw [hxl]) (State.fabAddr_congr (hx_only .desc rfl) ▸ hlow)
    fun k hk hkl => by rw [hlane k hk, if_neg hkl]; exact hothers k hk hkl
  obtain ⟨hoffset, honly⟩ := x.chooseParent.takeOffset_spec (fld b 4 8)
  rw [← hy] at hoffset honly
  have hext : x.chooseParent.ext = s.ext := by
    unfold State.ext
    rw [show x.chooseParent.clocks = x.clocks from (State.chooseParent_foot x).keeps .clocks,
      show x.clocks = s.clocks from hx_only .clocks rfl]
  have hxy : Only [.fabric, .log] x y := Only.trans ((State.chooseParent_foot x).onlyIn _) honly
  obtain ⟨z, hz⟩ : ∃ z : State, z = { y with fabric := { y.fabric with
    synced := true, noSync := 0, t1 := ofU 32 (fld b 12 4), t2 := t2, t3 := t3, syncOffset := ofU 32 (fld b 16 4) } } := ⟨_, rfl⟩
  have hfabric : z.fabric = { y.fabric with
      synced := true, noSync := 0, t1 := ofU 32 (fld b 12 4), t2 := t2, t3 := t3, syncOffset := ofU 32 (fld b 16 4) } := by rw [hz]
  refine ⟨z, z.fabFrame 0x03 (32 * (z.neighbour l).1 + (z.neighbour l).2) z.fabEpoch 0 (zeros 4),
    next_congr (State.onHop_hears hh ?_), State.fabFrame_type _ _ _ _ _ _, ?_, ?_, ?_, by rw [hfabric], ?_, by rw [hfabric],
    by rw [hfabric], ?_⟩
  · dsimp only
    rw [← hw, ← hx]
    refine (if_pos ?_).trans ?_
    · rw [hparent]
    · rw [← hy, ← hz]
  · rw [hfabric]
    show y.fabric.parent = _
    rw [hoffset, hparent]
  · rw [hfabric]
    show y.fabric.root = _
    rw [hoffset, hparent]
  · rw [hfabric]
    show y.fabric.depth = _
    rw [hoffset, hparent, hxl]
  · rw [hfabric]
    show y.fabric.offset = _
    rw [hoffset, hext]
  · refine Only.trans (hx_only.mono (by decide)) (Only.trans hxy fun p hp => ?_)
    rw [hz]
    cases p <;> first | rfl | exact absurd hp (by decide)

end Sys2Proof.Machine

namespace Sys2Proof
open Machine

/-- Settles O39: lanes, routing and time alignment of the fabric. -/
theorem fabricAlignment : Obligations.FabricAlignment := by
  intro s f b l
  refine ⟨fun hon hl hused hbody hlen h0 h1 h2 h3 h4 => ?_, fun c hon hl hused hbody h0 => ?_, fun m hon => ?_, fun m hon => ?_,
    fun hl => ?_, fun t1 hon hrun hroot => ?_, fun t1 hroot hparent => ?_,
    fun t2 t3 hh hlow hused hothers => sync_follows t2 t3 hh hlow hused hothers, fun t4 hh => ?_, fun hh hp hs hst => ?_,
    fun hh hp hs hrole hst => ?_, fun hon hroot hten => next_congr (if_pos ⟨hon, hroot, hten⟩), fun hlow => ?_⟩
  · refine ⟨s.setFabLane l fun x => { x with block := true, up := true }, next_congr ((if_pos ⟨hon, hl, hused⟩).trans ?_),
      (s.fabLane_setFabLane _ hl hl).trans (if_pos rfl), fun k hk hkl => (s.fabLane_setFabLane _ hl hk).trans (if_neg hkl),
      s.setFabLane_only l _⟩
    rw [hbody]
    exact if_pos (by simp [hlen, h0, h1, h2, h3, h4])
  · obtain ⟨w, hw⟩ : ∃ w, w = s.setFabLane l fun x => { x with up := false, nRoot := none } := ⟨_, rfl⟩
    have hlane : ∀ k, k < 4 → w.chooseParent.fabLane k = if k = l then { s.fabLane l with up := false, nRoot := none }
        else s.fabLane k := fun k hk => (w.fabLane_chooseParent k).trans (hw ▸ s.fabLane_setFabLane _ hl hk)
    have honly : Only [.fabric] s w := hw ▸ s.setFabLane_only l _
    refine ⟨w.chooseParent, next_congr ((if_pos ⟨hon, hl, hused⟩).trans ?_), ?_, fun k hk hkl => (hlane k hk).trans (if_neg hkl),
      honly.trans ((State.chooseParent_foot w).onlyIn _)⟩
    · rw [hbody, hw]
      exact if_neg (by simp [h0])
    · rw [hlane l hl, if_pos rfl]
  · obtain ⟨hlane, hsent, honly⟩ := s.each_helloLane m (upto 4) (fun k hk => mem_upto.mp hk) (nodup_upto 4)
    exact ⟨_, next_congr (if_pos hon), fun k hk => (hlane k hk).trans (if_pos (mem_upto.mpr hk)), hsent, honly⟩
  · exact next_congr (if_neg (by rw [hon]; exact Bool.false_ne_true))
  · obtain ⟨w, hw⟩ : ∃ w, w = s.setFabLane l fun _ => {} := ⟨_, rfl⟩
    have hlane : ∀ k, k < 4 → w.fabLane k = if k = l then {} else s.fabLane k := fun k hk => hw ▸ s.fabLane_setFabLane _ hl hk
    have honly : Only [.fabric] s w := hw ▸ s.setFabLane_only l _
    refine ⟨w.chooseParent, next_congr ((if_pos hl).trans (by rw [hw])), (w.fabLane_chooseParent l).trans ((hlane l hl).trans (if_pos rfl)),
      fun k hk hkl => (w.fabLane_chooseParent k).trans ((hlane k hk).trans (if_neg hkl)), ?_,
      honly.trans ((State.chooseParent_foot w).onlyIn _)⟩
    rw [State.chooseParent_parent]
    intro h
    have hup := State.bestParent_up h
    rw [hlane l hl, if_pos rfl] at hup
    cases hup
  · obtain ⟨hsent, honly⟩ := State.each_sendFab _ (upto 4) s
    exact ⟨_, next_congr (if_pos ⟨hon, hrun, .inl hroot⟩), hsent, honly⟩
  · refine next_congr (if_neg ?_)
    rintro ⟨-, -, h | h⟩
    · rw [hroot] at h
      cases h
    · rw [hparent] at h
      cases h
  · refine ⟨_, next_congr (State.onHop_hears hh rfl), State.fabFrame_type _ _ _ _ _ _, ?_⟩
    have hbody := State.fabFrame_body s 0x04 (32 * (s.neighbour l).1 + (s.neighbour l).2) s.fabEpoch 0 (leS 4 t4)
    rw [length_leS] at hbody
    exact hbody
  · refine ⟨_, (delayResp_steers hh hp hs).trans (next_congr (if_pos hst)), rfl, fun p hp => ?_⟩
    cases p <;> first | rfl | exact absurd hp (by decide)
  · have hst' : ¬(s.role = 2 ∨ s.fabric.steered = true) := by
      rw [hst]
      exact fun h => h.elim hrole Bool.false_ne_true
    obtain ⟨htheta, hsteered, hlo, hhi, hfree, hslew, honly⟩ := State.steer_spec
      { s with fabric := { s.fabric with theta := s.fabric.thetaOf b, steered := true } } (s.fabric.thetaOf b)
    refine ⟨_, (delayResp_steers hh hp hs).trans (next_congr (if_neg hst')), hsteered, htheta, hlo, hhi, ?_, ?_,
      Only.trans (fun p hp => ?_) honly⟩
    · rw [htheta]
      exact hfree
    · rw [htheta]
      exact hslew
    · cases p <;> first | rfl | exact absurd hp (by decide)
  · refine next_congr (if_neg ?_)
    rintro ⟨-, -, h⟩
    omega

end Sys2Proof
end

section
/-! PROOFS. The records, the reduction and the seal of the Levee fabric (R437 to R445). -/
set_option Elab.async false
namespace Sys2Proof.Machine

/-! ### Frames -/

/-- A broadcast that is new is delivered and goes on (R425). -/
theorem State.onBroadcast_new {s : State} {t n l g : Nat} {f b : Bytes} {deliver : State → Nat → Nat → Bytes → State}
    (h : s.fabHears t n l f b) (hg : s.extendF (fld f 6 2) = some g) (ht : bits (fld f 14 2) 13 8 = 0)
    (hnew : (fld f 2 2, t, g) ∉ s.fabric.seen) (hsrc : fld f 2 2 ≠ s.fabAddr) : s.onBroadcast t n l f deliver =
    (deliver { s with fabric := { s.fabric with seen := (fld f 2 2, t, g) :: s.fabric.seen } } (fld f 2 2) g b).goOn l f := by
  obtain ⟨hon, hl, hup, hbody, hlen⟩ := h
  have hnew' : (!s.fabric.seen.contains (fld f 2 2, t, g) && decide (fld f 2 2 ≠ s.fabAddr)) = true := by
    simp [hnew, hsrc]
  unfold State.onBroadcast
  refine (if_pos ⟨hon, hl, hup⟩).trans ?_
  generalize s.extendF (fld f 6 2) = e at hg
  rw [hbody, hg]
  exact (if_neg (not_not_intro hlen)).trans ((if_neg (not_not_intro ht)).trans (congrArg (State.goOn · l f) (if_pos hnew')))

/-- One that is not new only goes on (R425). -/
theorem State.onBroadcast_seen {s : State} {t n l g : Nat} {f b : Bytes} {deliver : State → Nat → Nat → Bytes → State}
    (h : s.fabHears t n l f b) (hg : s.extendF (fld f 6 2) = some g) (ht : bits (fld f 14 2) 13 8 = 0)
    (hseen : (fld f 2 2, t, g) ∈ s.fabric.seen) : s.onBroadcast t n l f deliver = s.goOn l f := by
  obtain ⟨hon, hl, hup, hbody, hlen⟩ := h
  have hnew' : ¬(!s.fabric.seen.contains (fld f 2 2, t, g) && decide (fld f 2 2 ≠ s.fabAddr)) = true := by simp [hseen]
  unfold State.onBroadcast
  refine (if_pos ⟨hon, hl, hup⟩).trans ?_
  generalize s.extendF (fld f 6 2) = e at hg
  rw [hbody, hg]
  exact (if_neg (not_not_intro hlen)).trans ((if_neg (not_not_intro ht)).trans (congrArg (State.goOn · l f) (if_neg hnew')))

/-- A unicast is taken at its destination (R424). -/
theorem State.onUnicast_taken {s : State} {t n l g : Nat} {f b : Bytes} {take : State → Nat → Bytes → State}
    (h : s.fabHears t n l f b) (hg : s.extendF (fld f 6 2) = some g) (hdst : fld f 4 2 = s.fabAddr) :
    s.onUnicast t n l f take = take s g b := by
  obtain ⟨hon, hl, hup, hbody, hlen⟩ := h
  unfold State.onUnicast
  refine (if_pos ⟨hon, hl, hup⟩).trans ?_
  generalize s.extendF (fld f 6 2) = e at hg
  rw [hbody, hg]
  exact (if_pos hdst).trans (if_pos hlen)

/-- A unicast for another member is passed on (R424). -/
theorem State.onUnicast_passed {s : State} {t n l g p : Nat} {f b : Bytes} {take : State → Nat → Bytes → State}
    (h : s.fabHears t n l f b) (hg : s.extendF (fld f 6 2) = some g) (hdst : fld f 4 2 ≠ s.fabAddr)
    (hroute : s.route (fld f 4 2) = some p) : s.onUnicast t n l f take = s.passOn p f (fld f 14 2) := by
  obtain ⟨hon, hl, hup, hbody, hlen⟩ := h
  unfold State.onUnicast
  refine (if_pos ⟨hon, hl, hup⟩).trans ?_
  generalize s.extendF (fld f 6 2) = e at hg
  rw [hbody, hg]
  refine (if_neg hdst).trans ?_
  rw [hroute]

/-- A copy at the end of its way stops (R425). -/
theorem State.goOn_end {s : State} {l : Nat} {f : Bytes} (h : bits (fld f 14 2) 7 3 = 1) : s.goOn l f = s := by
  unfold State.goOn
  exact if_pos (by rw [h])

/-! ### Records -/

/-- Without a subscription nothing is pushed (R441). -/
theorem State.pushKind_none {s : State} (h : s.log.subs = []) (kind epoch fab : Nat) (data : Subscription → List Bytes) :
    s.pushKind kind epoch fab data = s := by
  unfold State.pushKind
  rw [h]
  rfl

theorem State.noteSummary_first {s : State} {src : Nat} (h : Tab.get [] s.fabric.latest src = []) (g : Nat) (r : Bytes) :
    Tab.get [] (s.noteSummary src g r).fabric.latest src = r := by
  unfold State.noteSummary
  rw [h]
  exact (Tab.get_set _ _ _ _ _).trans (if_pos rfl)

theorem State.noteFull_first {s : State} {col : Nat} (h : Tab.get [] s.fabric.fulls col = []) (g : Nat) (r : Bytes) :
    Tab.get [] (s.noteFull col g r).fabric.fulls col = r ∧ Tab.get 0 (s.noteFull col g r).fabric.fullEpoch col = g := by
  unfold State.noteFull
  rw [h]
  exact ⟨(Tab.get_set _ _ _ _ _).trans (if_pos rfl), (Tab.get_set _ _ _ _ _).trans (if_pos rfl)⟩

/-- What a record noted leaves of the rest of the fabric's record keeping. -/
theorem State.noteFull_kept (s : State) (col g : Nat) (r : Bytes) :
    (s.noteFull col g r).fabric.latest = s.fabric.latest ∧ (s.noteFull col g r).fabric.lastSummary = s.fabric.lastSummary ∧
    (s.noteFull col g r).fabric.lastFull = s.fabric.lastFull := by
  unfold State.noteFull
  split <;> exact ⟨rfl, rfl, rfl⟩

theorem State.noteSummary_kept (s : State) (src g : Nat) (r : Bytes) :
    (s.noteSummary src g r).fabric.lastSummary = s.fabric.lastSummary ∧
    (s.noteSummary src g r).fabric.lastFull = s.fabric.lastFull := by
  unfold State.noteSummary
  split <;> exact ⟨rfl, rfl⟩

theorem recordOriginate_keeps {s : State} {m full : Bytes} (hon : s.fabOn = true) (hwarden : s.wardenRuns = true)
    (hrun : s.clocks.running = true) (hown : s.ownRecords s.fabEnded = some (m, full)) (hsubs : s.log.subs = []) :
    ∃ t, exec .recordOriginate s = .next t ∧ t.fabric.lastSummary = m ∧ t.fabric.lastFull = full ∧
      (fld m 4 4 = s.fabEnded % 2 ^ 32 → Tab.get [] s.fabric.latest s.fabAddr = [] → m ≠ [] →
        Tab.get [] t.fabric.latest s.fabAddr = m) ∧ Only [.fabric, .sent] s t := by
  obtain ⟨w, hw⟩ : ∃ w : State, w = { s with fabric := { s.fabric with lastSummary := m, lastFull := full } } := ⟨_, rfl⟩
  obtain ⟨x, hx⟩ : ∃ x, x = (if fld m 4 4 = s.fabEnded % 2 ^ 32 then
    (w.noteSummary w.fabAddr s.fabEnded m).noteFull w.shelfFabCol s.fabEnded full else w) := ⟨_, rfl⟩
  obtain ⟨t, ht⟩ : ∃ t, t = ((x.broadcast 0x05 1 s.fabEnded m).broadcast 0x05 2 s.fabEnded m).broadcast 0x06 1 s.fabEnded full :=
    ⟨_, rfl⟩
  have hw_only : Only [.fabric, .sent] s w := fun p hp => by
    rw [hw]
    cases p <;> first | rfl | exact absurd hp (by decide)
  have haddr : w.fabAddr = s.fabAddr := by rw [hw]; rfl
  have hwx : Foot 0x400000 w x := by
    rw [hx]
    exact .ite ((State.noteFull_foot _ _ _ _).after ((State.noteSummary_foot _ _ _ _).after .same)) .same
  have hxt : Foot 0x20000000 x t := by
    rw [ht]
    exact (State.broadcast_foot _ _ _ _ _).after ((State.broadcast_foot _ _ _ _ _).after (State.broadcast_foot _ _ _ _ _))
  have hfabric : t.fabric = x.fabric := hxt.keeps .fabric
  have hsubs' : t.log.subs = [] := by
    rw [show t.log = x.log from hxt.keeps .log, show x.log = w.log from hwx.keeps .log, hw]
    exact hsubs
  have hlast : x.fabric.lastSummary = m ∧ x.fabric.lastFull = full := by
    have hnote := w.noteSummary_kept w.fabAddr s.fabEnded m
    have hnote' := (w.noteSummary w.fabAddr s.fabEnded m).noteFull_kept w.shelfFabCol s.fabEnded full
    rw [hx]
    split
    · rw [hnote'.2.1, hnote'.2.2, hnote.1, hnote.2, hw]
      exact ⟨rfl, rfl⟩
    · rw [hw]
      exact ⟨rfl, rfl⟩
  refine ⟨t, next_congr ((if_pos ⟨hon, hwarden, hrun⟩).trans ?_), ?_, ?_, fun hfresh hlatest _ => ?_,
    hw_only.trans (Only.trans (hwx.onlyIn _) (hxt.onlyIn _))⟩
  · dsimp only
    rw [hown]
    dsimp only
    rw [← hw, ← hx, ← ht]
    exact State.pushKind_none hsubs' _ _ _ _
  · rw [hfabric, hlast.1]
  · rw [hfabric, hlast.2]
  · have hlatest' : Tab.get [] w.fabric.latest w.fabAddr = [] := by
      rw [haddr, hw]
      exact hlatest
    rw [hfabric, hx, if_pos hfresh, ((w.noteSummary _ _ _).noteFull_kept _ _ _).1, ← haddr]
    exact State.noteSummary_first hlatest' _ _

/-! ### The reduction -/

/-- A row's sums as its root keeps them (R443, R445). -/
theorem rowSumStage_sums {s : State} (hruns : s.stageRuns = true) (hrow : s.rowRoot = true) (hroot : s.fabric.isRoot = true) :
    ∃ t, exec .rowSumStage s = .next t ∧ Tab.get 0 t.fabric.rowSumEpoch s.shelfFabRow = s.fabEnded ∧
      (∀ c, c < s.shelfFabCols → Tab.get {} t.fabric.memberD c = RowSum.ofRecord
        (Tab.get [] s.fabric.latest (32 * s.shelfFabRow + c))
        (decide (Tab.get 0 s.fabric.latestEpoch (32 * s.shelfFabRow + c) = s.fabEnded))) ∧
      Tab.get {} t.fabric.rowSums s.shelfFabRow =
        RowSum.total ((upto s.shelfFabCols).map fun c => Tab.get {} t.fabric.memberD c) ∧ Only [.fabric] s t := by
  obtain ⟨one, hone⟩ : ∃ one : Nat → RowSum, one = fun c => RowSum.ofRecord (Tab.get [] s.fabric.latest (32 * s.shelfFabRow + c))
    (decide (Tab.get 0 s.fabric.latestEpoch (32 * s.shelfFabRow + c) = s.fabEnded)) := ⟨_, rfl⟩
  have hmember : ∀ c, c < s.shelfFabCols →
      Tab.get {} ((upto s.shelfFabCols).foldl (fun t c => Tab.set {} t c (one c)) []) c = one c := fun c hc =>
    (Tab.get_foldl_set _ _ _ _ _).trans (if_pos (mem_upto.mpr hc))
  have hexec : exec .rowSumStage s = .next (State.noteRowSum { s with fabric := { s.fabric with
      memberD := (upto s.shelfFabCols).foldl (fun t c => Tab.set {} t c (one c)) [] } } s.shelfFabRow s.fabEnded
      (RowSum.total ((upto s.shelfFabCols).map one))) := by
    rw [hone]
    exact next_congr ((if_pos ⟨hruns, hrow⟩).trans (if_pos hroot))
  refine ⟨_, hexec, (Tab.get_set _ _ _ _ _).trans (if_pos rfl), fun c hc => (hmember c hc).trans (by rw [hone]),
    ((Tab.get_set _ _ _ _ _).trans (if_pos rfl)).trans ?_, fun p hp => ?_⟩
  · exact congrArg RowSum.total (List.map_congr_left fun c hc => (hmember c (mem_upto.mp hc)).symm)
  · cases p <;> first | rfl | exact absurd hp (by decide)

theorem leastNonZero_zeros {l : List Nat} (h : ∀ x ∈ l, x = 0) : leastNonZero l = 0 := by
  have hfold : ∀ m, l.foldl (fun m x => if x = 0 then m else if m = 0 then x else min m x) m = m := by
    induction l with
    | nil => exact fun _ => rfl
    | cons x l ih =>
      intro m
      rw [List.foldl_cons, if_pos (h x List.mem_cons_self)]
      exact ih (fun y hy => h y (List.mem_cons_of_mem _ hy)) m
  exact hfold 0

/-- The allowances go out, and the own row's is taken (R443, R445). -/
def State.giveRow (allow : Nat → Nat) (f : Nat) (s : State) (r : Nat) : State :=
  if r = s.shelfFabRow then s.takeRowAllow f (allow r)
  else s.sendUnicast 0x08 (32 * r + s.shelfFabCol) f ([byte r, 0, 0, 0] ++ leBytes 8 (allow r))

theorem State.each_giveRow (allow : Nat → Nat) (f : Nat) (l : List Nat) (s : State) :
    Only [.fabric, .sent] s (s.each l (State.giveRow allow f)) ∧
    (s.each l (State.giveRow allow f)).fabric = (if s.shelfFabRow ∈ l then (s.takeRowAllow f (allow s.shelfFabRow)).fabric
      else s.fabric) := by
  induction l generalizing s with
  | nil => exact ⟨Only.refl _ s, rfl⟩
  | cons r l ih =>
    obtain ⟨honly, hfabric⟩ := ih (s.giveRow allow f r)
    have hstep : Only [.fabric, .sent] s (s.giveRow allow f r) ∧
        (s.giveRow allow f r).fabric = if s.shelfFabRow = r then (s.takeRowAllow f (allow s.shelfFabRow)).fabric else s.fabric := by
      unfold State.giveRow
      by_cases h : r = s.shelfFabRow
      · subst h
        rw [if_pos rfl, if_pos rfl]
        refine ⟨fun p hp => ?_, rfl⟩
        cases p <;> first | rfl | exact absurd hp (by decide)
      · rw [if_neg h, if_neg (Ne.symm h)]
        exact ⟨(State.sendUnicast_foot _ _ _ _ _).onlyIn _, (State.sendUnicast_foot _ _ _ _ _).keeps .fabric⟩
    have hrow : (s.giveRow allow f r).shelfFabRow = s.shelfFabRow := by
      unfold State.shelfFabRow State.field
      rw [show (s.giveRow allow f r).desc = s.desc from hstep.1 .desc rfl]
    refine ⟨hstep.1.trans honly, hfabric.trans ?_⟩
    rw [hrow]
    by_cases hl : s.shelfFabRow ∈ l
    · rw [if_pos hl, if_pos (List.mem_cons_of_mem _ hl)]
      show ({ (s.giveRow allow f r).fabric with rowAllow := _, rowAllowEpoch := _ } : Fabric) = _
      rw [hstep.2]
      split <;> rfl
    · rw [if_neg hl, hstep.2]
      by_cases h : s.shelfFabRow = r <;> simp [h, hl]

/-- Without a limit every row's allowance is lifted (R443, R445). -/
theorem rootAllocate_lifts {s : State} (hruns : s.stageRuns = true) (hroot : s.fabric.isRoot = true)
    (hin : s.shelfFabRow < s.shelfFabRows) (hall : ∀ r, r < s.shelfFabRows → Tab.get 0 s.fabric.rowSumEpoch r = s.fabEnded)
    (hlimit : ∀ r, r < s.shelfFabRows → (Tab.get ({} : RowSum) s.fabric.rowSums r).limitKw = 0) : ∃ t,
    exec .rootAllocate s = .next t ∧ t.fabric = { s.fabric with rowAllow := none, rowAllowEpoch := some s.fabEnded } ∧
    Only [.fabric, .sent, .freeCount] s t := by
  have hmissing : ((upto s.shelfFabRows).filter fun r => decide (Tab.get 0 s.fabric.rowSumEpoch r ≠ s.fabEnded)) = [] := by
    rw [List.filter_eq_nil_iff]
    intro r hr
    rw [decide_eq_true_eq]
    exact not_not_intro (hall r (mem_upto.mp hr))
  have hzero : leastNonZero (((upto s.shelfFabRows).map fun r => Tab.get ({} : RowSum) s.fabric.rowSums r).map (·.limitKw)) = 0 := by
    refine leastNonZero_zeros fun x hx => ?_
    rw [List.map_map, List.mem_map] at hx
    obtain ⟨r, hr, rfl⟩ := hx
    exact hlimit r (mem_upto.mp hr)
  obtain ⟨honly, hfabric⟩ := State.each_giveRow (fun _ => 2 ^ 64 - 1) s.fabEnded (upto s.shelfFabRows) s
  refine ⟨(s.each (upto s.shelfFabRows) (State.giveRow (fun _ => 2 ^ 64 - 1) s.fabEnded)).used,
    next_congr ((if_pos ⟨hruns, hroot⟩).trans ?_), ?_, ?_⟩
  · dsimp only
    rw [hmissing, hzero, Nat.zero_mul]
    rfl
  · refine hfabric.trans ((if_pos (mem_upto.mpr hin)).trans ?_)
    show ({ s.fabric with rowAllow := if _ = _ then none else _, rowAllowEpoch := _ } : Fabric) = _
    rw [if_pos rfl]
  · refine Only.trans (honly.mono (by decide)) fun p hp => ?_
    cases p <;> first | rfl | exact absurd hp (by decide)

theorem State.takeAllowance_pending {s : State} (h : s.wardenRuns = true) (f v : Nat) :
    (s.takeAllowance f v).fabric.pendAllow = some (v, f) := by
  unfold State.takeAllowance
  rw [if_pos h]
  dsimp only
  split
  · exact congrArg Fabric.pendAllow ((State.sendPeer_foot _ _ _).keeps .fabric)
  · rfl

theorem State.shelfFabCol_congr {s t : State} (h : t.desc = s.desc) : t.shelfFabCol = s.shelfFabCol := by
  unfold State.shelfFabCol State.field
  rw [h]

/-- Without a limit of its row every member's allowance is lifted (R443, R445). -/
theorem rowAllocate_lifts {s : State} (hruns : s.stageRuns = true) (hrow : s.rowRoot = true)
    (hepoch : s.fabric.rowAllowEpoch = some s.fabEnded) (hnone : s.fabric.rowAllow = none) (hcol : s.shelfFabCol < s.shelfFabCols) :
    ∃ t, exec .rowAllocate s = .next t ∧ t.fabric.pendAllow = some (0xFFFFFFFF, s.fabEnded) ∧
      Only [.fabric, .sluice, .sent, .freeCount] s t := by
  have hdesc : ∀ body, (s.used.broadcast 0x09 1 s.fabEnded body).desc = s.desc := fun body =>
    (State.broadcast_foot _ _ _ _ _).keeps .desc
  have hexec : ∃ body, exec .rowAllocate s =
      .next ((s.used.broadcast 0x09 1 s.fabEnded body).takeAllowance s.fabEnded 0xFFFFFFFF) := by
    refine ⟨_, next_congr ((if_pos ⟨hruns, hrow⟩).trans ((if_neg (not_not_intro hepoch)).trans (congrArg (State.takeAllowance _ _) ?_)))⟩
    dsimp only
    rw [State.shelfFabCol_congr (hdesc _), if_neg (Nat.not_le.mpr hcol), hnone]
  obtain ⟨body, hexec⟩ := hexec
  have hfoot : Foot 0x20000000 s.used (s.used.broadcast 0x09 1 s.fabEnded body) := State.broadcast_foot _ _ _ _ _
  have hwarden : (s.used.broadcast 0x09 1 s.fabEnded body).wardenRuns = true := by
    simp only [State.stageRuns, Bool.and_eq_true] at hruns
    rw [State.wardenRuns, State.mode, State.anyHalted, show State.power _ = s.power from hfoot.keeps .power,
      show State.dbg _ = s.dbg from hfoot.keeps .dbg]
    exact hruns.1.2
  refine ⟨_, hexec, State.takeAllowance_pending hwarden _ _, ?_⟩
  refine Only.trans (t := s.used) (fun p hp => ?_) (Only.trans (hfoot.onlyIn _) ((State.takeAllowance_foot _ _ _).onlyIn _))
  cases p <;> first | rfl | exact absurd hp (by decide)

/-- A fabric snapshot sealed, as subscriptions and the fault collector hear of it (R438, R441). -/
def State.fabricTold (s : State) (f : Nat) (rows : Subscription → List Bytes) (all : List Bytes) (missing : Prop) [Decidable missing] :
    State :=
  let s := s.pushKind 2 (s.ext - 1) f rows
  let s := s.pushKind 3 (s.ext - 1) f fun _ => all
  if missing then s.raise 188 1 [] else s

theorem State.fabricTold_ledger (s : State) (f : Nat) (rows : Subscription → List Bytes) (all : List Bytes) (missing : Prop)
    [Decidable missing] : (s.fabricTold f rows all missing).ledger = s.ledger := by
  have h : Foot 0x73DDBFE9 s (s.fabricTold f rows all missing) := by
    unfold State.fabricTold
    have hpush : Foot 0x21000100 s ((s.pushKind 2 (s.ext - 1) f rows).pushKind 3 ((s.pushKind 2 (s.ext - 1) f rows).ext - 1) f
        fun _ => all) := (State.pushKind_foot _ _ _ _ _).after (State.pushKind_foot _ _ _ _ _)
    exact .ite ((State.raise_foot _ _ _ _).after hpush.mono) hpush.mono
  exact h.keeps .ledger

/-- The seal of a fabric snapshot holds it as one of the last four (R438). -/
theorem State.sealFabric_newest (s : State) (f us : Nat) : ∃ x, (s.sealFabric f us).ledger.fabs.getLast? = some x ∧ x.epoch = f ∧
    (s.sealFabric f us).ledger.fabs.length ≤ 4 := by
  have hseal : ∃ (x : FabSnap) (rows : Subscription → List Bytes) (all : List Bytes) (a b : Nat) (faults : Faults), x.epoch = f ∧
      s.sealFabric f us = State.fabricTold { s with
        faults := faults
        ledger := { s.ledger with fabs := (s.ledger.fabs ++ [x]).drop ((s.ledger.fabs ++ [x]).length - 4) }
        fabric := { s.fabric with sealedF := some f } } f rows all (a < b) := ⟨_, _, _, _, _, _, rfl, rfl⟩
  obtain ⟨x, rows, all, a, b, faults, hepoch, hseal⟩ := hseal
  have hledger := (congrArg State.ledger hseal).trans (State.fabricTold_ledger _ _ _ _ _)
  refine ⟨x, ?_, hepoch, ?_⟩
  · rw [hledger]
    show ((s.ledger.fabs ++ [x]).drop _).getLast? = _
    rw [List.getLast?_drop, if_neg (by simp only [List.length_append, List.length_singleton]; omega), List.getLast?_append]
    rfl
  · rw [hledger]
    show ((s.ledger.fabs ++ [x]).drop _).length ≤ 4
    rw [List.length_drop]
    omega

end Sys2Proof.Machine

namespace Sys2Proof
open Machine

/-- Settles O40: the records, the reduction and the seal of the fabric. -/
theorem fabricReduction : Obligations.FabricReduction := by
  intro s f b l
  refine ⟨fun m full hon hw hrun hown hsubs => recordOriginate_keeps hon hw hrun hown hsubs, fun hon => ?_,
    fun g hh hg ht hnew hsrc => ?_, fun g hh hg ht hnew hsrc hrow hfull => ?_, fun g hh hg ht hseen => ?_,
    fun h => State.goOn_end h, fun hruns hrow hroot => rowSumStage_sums hruns hrow hroot, fun hrow => ?_,
    fun g hh hg hdst => next_congr (State.onUnicast_taken hh hg hdst),
    fun g p hh hg hdst hroute => next_congr (State.onUnicast_passed hh hg hdst hroute),
    fun hruns hroot hin hall hlimit => rootAllocate_lifts hruns hroot hin hall hlimit, fun hroot => ?_,
    fun g hh hg hdst => next_congr (State.onUnicast_taken hh hg hdst), fun hruns hrow hne => ?_,
    fun hruns hrow hepoch hnone hcol => ?_, fun g hh hg ht hnew hsrc hrow hw => ?_, fun hh hlen hrole => ?_,
    fun x hdue hx => ?_, fun hdue => ?_, fun us hon hrun hne hus => ⟨?_, s.sealFabric_newest _ us⟩, fun us hsealed => ?_⟩
  · exact next_congr (if_neg fun ⟨h, _⟩ => absurd (hon.symm.trans h) Bool.false_ne_true)
  · refine ⟨{ s with fabric := { s.fabric with seen := (fld f 2 2, 0x05, g) :: s.fabric.seen } },
      next_congr (State.onBroadcast_new hh hg ht hnew hsrc), rfl, fun p hp => ?_⟩
    cases p <;> first | rfl | exact absurd hp (by decide)
  · obtain ⟨w, hw⟩ : ∃ w : State, w = { s with fabric := { s.fabric with seen := (fld f 2 2, 0x06, g) :: s.fabric.seen } } := ⟨_, rfl⟩
    have hw_only : Only [.fabric] s w := fun p hp => by
      rw [hw]
      cases p <;> first | rfl | exact absurd hp (by decide)
    have hfull' : Tab.get [] w.fabric.fulls (fld f 2 2 % 32) = [] := by
      rw [hw]
      exact hfull
    obtain ⟨hrec, hepoch⟩ := State.noteFull_first hfull' g b
    refine ⟨w.noteFull (fld f 2 2 % 32) g b, next_congr ((State.onBroadcast_new hh hg ht hnew hsrc).trans ?_), hrec, hepoch,
      hw_only.trans ((State.noteFull_foot _ _ _ _).onlyIn _)⟩
    have hrow' : fld f 2 2 / 32 = w.shelfFabRow := by
      rw [hw]
      exact hrow
    rw [← hw]
    exact congrArg (State.goOn · l f) (if_pos hrow')
  · exact next_congr (State.onBroadcast_seen hh hg ht hseen)
  · exact next_congr (if_neg fun ⟨_, h⟩ => absurd (hrow.symm.trans h) Bool.false_ne_true)
  · exact next_congr (if_neg fun ⟨_, h⟩ => absurd (hroot.symm.trans h) Bool.false_ne_true)
  · exact next_congr ((if_pos ⟨hruns, hrow⟩).trans (if_pos hne))
  · exact rowAllocate_lifts hruns hrow hepoch hnone hcol
  · obtain ⟨w, hw'⟩ : ∃ w : State, w = { s with fabric := { s.fabric with seen := (fld f 2 2, 0x09, g) :: s.fabric.seen } } := ⟨_, rfl⟩
    have hw_only : Only [.fabric, .sluice, .sent] s w := fun p hp => by
      rw [hw']
      cases p <;> first | rfl | exact absurd hp (by decide)
    have hrow' : fld b 0 1 = w.shelfFabRow := by
      rw [hw']
      exact hrow
    have hcol : w.shelfFabCol = s.shelfFabCol := State.shelfFabCol_congr (hw_only .desc rfl)
    have hwarden : w.wardenRuns = true := by
      rw [hw']
      exact hw
    refine ⟨w.takeAllowance g (fld b (4 + 4 * s.shelfFabCol) 4),
      next_congr ((State.onBroadcast_new hh hg ht hnew hsrc).trans ?_), State.takeAllowance_pending hwarden _ _,
      hw_only.trans ((State.takeAllowance_foot _ _ _).onlyIn _)⟩
    rw [← hw', ← hcol]
    exact congrArg (State.goOn · l f) (if_pos hrow')
  · obtain ⟨r, p, g, hn⟩ := s.noteFrame_eq 0x0D f
    obtain ⟨n, hn'⟩ : ∃ n, n = s.noteFrame 0x0D f := ⟨_, rfl⟩
    rw [← hn'] at hn
    have hrole' : n.role = 1 := hn ▸ hrole
    have hfabric : n.fabric = s.fabric := by rw [hn]
    have hn_only : Only [.fabric, .sluice] s n := hn' ▸ (State.noteFrame_only s 0x0D f).mono (by decide)
    refine ⟨{ n with fabric := { n.fabric with pendRelay := some (fld b 4 4, fld b 0 4), relayed := fld b 4 4 } },
      next_congr (State.onFrame_hears hh (decide_eq_true hlen) ?_), by rw [hfabric], hn_only.trans fun p hp => ?_⟩
    · rw [← hn']
      exact if_pos hrole'
    · cases p <;> first | rfl | exact absurd hp (by decide)
  · have hten : s.fabric.held + 1 = 10 ↔ s.fabric.held = 9 := by omega
    refine next_congr ((if_pos hdue).trans ?_)
    rw [hx]
    simp only [hten]
  · exact next_congr (if_neg (by rw [hdue]; exact Bool.false_ne_true))
  · exact next_congr ((if_pos ⟨hon, hrun⟩).trans (if_pos ⟨hne, .inr hus⟩))
  · refine next_congr ?_
    show (if _ then (if _ then _ else s) else s) = s
    split
    · exact if_neg fun ⟨h, _⟩ => h hsealed
    · rfl

end Sys2Proof
end

section
/-! PROOFS. TW0 and the target ports (R536 to R540, R547, R548). -/
set_option Elab.async false
namespace Sys2Proof.Machine

/-! ### Answers -/

/-- A port that is not a busy target has nothing to repeat (R546). -/
theorem State.targetDone_idle {s : State} {p : Nat} (h : (s.twAt p).targetBusy = false) : s.targetDone p = s :=
  if_neg (by rw [h]; exact Bool.false_ne_true)

/-- The bytes of a read command and its PEC (R536, R537). -/
theorem State.targetReply_idle {s : State} {p : Nat} (h : (s.twAt p).targetBusy = false) (c : Nat) (bl : Bool) (d : Bytes) (len : Nat) :
    s.targetReply p c bl d len = s.send (.twoWire p
      ((if bl then [byte d.length] else []) ++ d.take len ++ if d.length < len then [pecOf ([byte (2 * s.targetAddr p),
        byte c, byte (2 * s.targetAddr p + 1)] ++ ((if bl then [byte d.length] else []) ++ d))] else [])) :=
  State.targetDone_idle h

/-- A block that is read whole goes out after its count. -/
theorem State.targetReply_whole {s : State} {p len : Nat} {d : Bytes} (h : (s.twAt p).targetBusy = false) (c : Nat)
    (hle : d.length ≤ len) : ∃ b, s.targetReply p c true d len = s.send (.twoWire p ([byte d.length] ++ d ++ b)) := by
  have hreply := State.targetReply_idle h c true d len
  rw [List.take_of_length_le hle, if_pos rfl] at hreply
  exact ⟨_, hreply⟩

theorem Mode.code_lt (m : Mode) : m.code < 16 := by cases m <;> decide

/-- The bits of the STATUS word (Table 20-5). -/
theorem State.twStatusWord_bits (s : State) : s.twStatusWord % 16 = s.modeCode ∧
    s.twStatusWord.testBit 4 = decide (s.mode = .stranded) ∧ s.twStatusWord.testBit 5 = s.host.hrdy ∧
    s.twStatusWord.testBit 6 = s.power.wake.active ∧ s.twStatusWord.testBit 7 = s.power.wake.wakeIgnored := by
  have hcode : s.modeCode < 16 := Mode.code_lt _
  have hone : ∀ x : Bool, b2n x ≤ 1 := by decide
  have hbit : ∀ (n k : Nat) (x : Bool), n / 2 ^ k % 2 = b2n x → n.testBit k = x := by
    intro n k x h
    rw [Nat.testBit_eq_decide_div_mod_eq, h]
    cases x <;> rfl
  have h4 := hone (decide (s.mode = .stranded))
  have h5 := hone s.host.hrdy
  have h6 := hone s.power.wake.active
  have h7 := hone s.power.wake.wakeIgnored
  unfold State.twStatusWord
  refine ⟨by omega, hbit _ _ _ ?_, hbit _ _ _ ?_, hbit _ _ _ ?_, hbit _ _ _ ?_⟩ <;> omega

theorem Mode.not_lastGasp_of_active {m : Mode} (h : m.active = true) : m ≠ .lastGasp := by
  rintro rfl
  cases h

/-! ### Writes -/

theorem State.targetWrite_taken {s : State} {c : Nat} {d : Bytes} {p : Option Nat} {f : State → State} (h : s.pecRefused c d p = false) :
    s.targetWrite c d p f = f s := if_neg (by rw [h]; exact Bool.false_ne_true)

theorem getElem?_memReadN (m : List Host.Cell) (a n i : Nat) (h : i < n) : (memReadN m a n)[i]? = some (memRead m (a + i)) := by
  simp [memReadN, countFrom_eq_range', h]

theorem length_memReadN (m : List Host.Cell) (a n : Nat) : (memReadN m a n).length = n := by
  simp [memReadN]

/-- MB_GO outside a bad PEC (R539, R540). -/
theorem mbGo_judges {s : State} {p : Option Nat} (hmode : s.mode.active = true ∨ s.mode = .lastGasp) (hst : s.tw.tState = 0)
    (hpec : s.pecRefused 0x12 [1] p = false) : exec (.mbGo 1 p) s = .next (
      if 496 < s.tw.request.len then s.synthesise .badArg
      else if s.mode = .lastGasp then s.synthesise .wrongMode
      else match s.freePool with
        | none => s.synthesise .busy
        | some n => s.tw0Ring n) := by
  refine next_congr ((if_neg ?_).trans ((if_neg (not_not_intro hst)).trans ((if_neg (not_not_intro rfl)).trans
    (State.targetWrite_taken hpec))))
  rw [Bool.not_eq_true', Bool.not_eq_false, Bool.or_eq_true, decide_eq_true_eq]
  exact hmode

theorem State.synthesise_spec (s : State) (st : Status) : (s.synthesise st).tw.tState = 2 ∧ (s.synthesise st).tw.tMailbox = none ∧
    (s.synthesise st).tw.tOffset = 0 ∧ memRead (s.synthesise st).tw.tBuf 0 = byte st.code ∧ Only [.tw] s (s.synthesise st) := by
  refine ⟨rfl, rfl, rfl, ?_, fun p hp => ?_⟩
  · obtain ⟨l, hl⟩ : ∃ l, s.responseBytes s.tw.request st [] s.clocks.epoch = byte st.code :: l := ⟨_, rfl⟩
    unfold State.synthesise
    dsimp only
    rw [hl, padTo, List.cons_append, memRead_writeN, if_pos (by simp)]
    rfl
  · cases p <;> first | rfl | exact absurd hp (by decide)

/-- The buffered request is rung in a pool mailbox (R118, R539). -/
theorem State.tw0Ring_spec {s : State} (n : Nat) (hlen : s.tw.request.len ≤ 496) : ∃ x : State,
    s.tw0Ring n = (x.ring n .tw0 0 0 0).followed ∧ x.tw = { s.tw with tState := 1, tOffset := 0, tMailbox := some n } ∧
    (∀ i, i < 16 + s.tw.request.len → memRead x.host.ram (mbBase n + i) = memRead s.tw.tBuf i) ∧ Only [.host, .tw] s x := by
  obtain ⟨b, hb⟩ : ∃ b, b = (memReadN s.tw.tBuf 0 512).take (16 + s.tw.request.len) := ⟨_, rfl⟩
  have hlen' : b.length = 16 + s.tw.request.len := by
    rw [hb, List.length_take, length_memReadN]
    omega
  have hbyte : ∀ i, i < 16 + s.tw.request.len → b[i]? = some (memRead s.tw.tBuf i) := by
    intro i hi
    rw [hb, List.getElem?_take, if_pos hi, getElem?_memReadN _ _ _ _ (by omega), Nat.zero_add]
  refine ⟨{ s with
    host := { s.host with ram := memWriteN s.host.ram (mbBase n) b }
    tw := { s.tw with tState := 1, tOffset := 0, tMailbox := some n } }, ?_, rfl, fun i hi => ?_, fun p hp => ?_⟩
  · rw [hb]
    rfl
  · show memRead (memWriteN s.host.ram (mbBase n) b) (mbBase n + i) = _
    rw [memRead_writeN, if_pos (by omega), Nat.add_sub_cancel_left, List.getD_eq_getElem?_getD, hbyte i hi]
    rfl
  · cases p <;> first | rfl | exact absurd hp (by decide)

/-- A full read of a response advances the offset (R536, R539). -/
theorem mbRead_full {s : State} {m len n : Nat} (hmode : s.mode.active = true ∨ s.mode = .lastGasp) (hst : s.tw.tState = 2)
    (hm : s.tw.tMailbox = some m) (hbusy : (s.twAt 0).targetBusy = false) (hn : n = min 255 (512 - s.tw.tOffset)) (hle : n ≤ len) :
    ∃ t b, exec (.mbRead len) s = .next t ∧
      t.sent = s.sent ++ [.twoWire 0 ([byte n] ++ memReadN s.host.ram (mbBase m + 0x200 + s.tw.tOffset) n ++ b)] ∧
      t.tw.tOffset = s.tw.tOffset + n ∧ Only [.tw, .sent, .freeCount] s t := by
  have hresp : s.tw0Response n = memReadN s.host.ram (mbBase m + 0x200 + s.tw.tOffset) n := by
    unfold State.tw0Response
    rw [if_neg (not_not_intro hst), hm]
  obtain ⟨d, hd⟩ : ∃ d, d = memReadN s.host.ram (mbBase m + 0x200 + s.tw.tOffset) n := ⟨_, rfl⟩
  have hlen : d.length = n := hd ▸ length_memReadN _ _ _
  obtain ⟨b, hreply⟩ := State.targetReply_whole hbusy 0x14 (d := d) (len := len) (hlen ▸ hle)
  rw [hlen] at hreply
  rw [← hd] at hresp ⊢
  obtain ⟨u, hu⟩ : ∃ u, u = (s.send (.twoWire 0 ([byte n] ++ d ++ b))).used := ⟨_, rfl⟩
  refine ⟨{ u with tw := { u.tw with tOffset := u.tw.tOffset + n } }, b, next_congr ((if_pos hmode).trans ?_), by rw [hu]; rfl,
    by rw [hu]; rfl, fun p hp => ?_⟩
  · dsimp only
    rw [← hn, hresp, hreply, ← hu]
    exact if_pos hle
  · rw [hu]
    cases p <;> first | rfl | exact absurd hp (by decide)

end Sys2Proof.Machine

namespace Sys2Proof
open Machine

/-- Settles O41: the target ports answer, take writes and carry mailbox requests as chapter 20 says. -/
theorem targetCommands : Obligations.TargetCommands := by
  intro s
  have hdown : ∀ {m : Mode}, m.active = true ∨ m = .lastGasp → ¬(!(m.active || decide (m = .lastGasp))) = true := by
    intro m h
    rw [Bool.not_eq_true', Bool.not_eq_false, Bool.or_eq_true, decide_eq_true_eq]
    exact h
  refine ⟨fun p c bl d len h => State.targetReply_idle h c bl d len,
    fun p len hp hs => ⟨next_congr (if_pos ⟨hp, hs⟩), next_congr (if_pos ⟨hp, hs⟩)⟩, fun _ => s.twStatusWord_bits,
    fun p len hs => ?_, fun len hs => ⟨next_congr (if_pos hs), next_congr (if_pos hs), next_congr (if_pos hs)⟩,
    fun p len hp hs hm => next_congr (if_pos ⟨hp, hs, hm⟩), fun hs hm hbit p hpec => ?_, fun hs hm hor p hpec => ?_,
    fun d p hor => next_congr (if_neg ?_), fun c d p f => ⟨State.targetWrite_taken, fun h => if_pos h⟩, fun c d => ⟨rfl, fun b => ?_⟩,
    fun v p hm hst hv hpec => ?_, fun v p d hm hst hd hlen => ⟨?_, ?_, fun x => ?_⟩, fun d p hm hst hd hlen hfit hpec => ?_,
    fun n p hm hst hfree hlen hpec => ?_, fun p hm hst hfree hlen hpec => ?_, fun p hm hst hlen hpec => ?_,
    fun p hm hst hlen hpec => (mbGo_judges hm hst hpec).trans (next_congr (if_pos hlen)), fun st => s.synthesise_spec st,
    fun len hm => next_congr (if_pos hm), fun m len n hm hst hmb hbusy hn hle => mbRead_full hm hst hmb hbusy hn hle,
    fun m p hm hst hmb hpec => ?_, fun p hm hst hmb hpec => ?_, fun d p hm hst => ?_, fun h => next_congr (if_pos ⟨rfl, h⟩),
    fun p hp => next_congr (if_neg fun h => hp h.1), fun hm hr => next_congr (if_pos ⟨hm, hr⟩), fun hr => next_congr (if_pos hr),
    fun hm hr => next_congr (if_pos ⟨hm, hr⟩), fun hr => ⟨next_congr (if_neg ?_), next_congr (if_neg ?_)⟩⟩
  · have hs' : ¬s.targetServes p = true := by rw [hs]; exact Bool.false_ne_true
    exact ⟨next_congr (if_neg fun h => hs' h.2), next_congr (if_neg fun h => hs' h.2), next_congr (if_neg fun h => hs' h.2.1)⟩
  · have haon : s.mode.aon = true := by rcases hm with h | h <;> rw [h] <;> rfl
    refine ⟨_, next_congr ((if_pos ⟨hs, haon, rfl⟩).trans ((State.targetWrite_taken hpec).trans (if_pos ⟨hm, hbit⟩))), rfl, fun q hq => ?_⟩
    cases q <;> first | rfl | exact absurd hq (by decide)
  · refine next_congr ((if_pos ⟨hs, hm, rfl⟩).trans ((State.targetWrite_taken hpec).trans (if_neg ?_)))
    rintro ⟨hk, hbit⟩
    rcases hor with h | h | h
    · rw [h] at hk
      rcases hk with hk | hk <;> cases hk
    · rw [h] at hk
      rcases hk with hk | hk <;> cases hk
    · exact absurd (h.symm.trans hbit) (by decide)
  · rintro ⟨-, hm, hd⟩
    rcases hor with h | h
    · exact h hd
    · rw [h] at hm
      cases hm
  · rw [State.pecRefused, decide_eq_false_iff_not, Classical.not_not]
  · refine next_congr ((if_neg ?_).trans ((if_neg (not_not_intro hst)).trans ((State.targetWrite_taken hpec).trans (if_pos hv))))
    rw [hm]
    exact Bool.false_ne_true
  · exact next_congr ((if_neg (by rw [hm]; exact Bool.false_ne_true)).trans (if_pos hst))
  · exact next_congr ((if_neg (by simp [hm, hd]; omega)).trans (if_pos hst))
  · exact next_congr ((if_neg (hdown (.inl hm))).trans (if_pos hst))
  · have htake : d.take (512 - s.tw.tOffset) = d := List.take_of_length_le (by omega)
    refine ⟨{ s with tw := { s.tw with tBuf := memWriteN s.tw.tBuf s.tw.tOffset d, tOffset := s.tw.tOffset + d.length } },
      next_congr ((if_neg (by simp [hm, hd]; omega)).trans ((if_neg (not_not_intro hst)).trans
        ((State.targetWrite_taken hpec).trans ?_))), rfl, fun a => memRead_writeN _ _ _ _, fun q hq => ?_⟩
    · dsimp only
      rw [htake]
    · cases q <;> first | rfl | exact absurd hq (by decide)
  · obtain ⟨x, hring, htw, hram, honly⟩ := State.tw0Ring_spec n hlen
    refine ⟨x, (mbGo_judges (.inl hm) hst hpec).trans (next_congr ((if_neg (Nat.not_lt.mpr hlen)).trans
      ((if_neg (Mode.not_lastGasp_of_active hm)).trans ?_))), htw, hram, honly⟩
    rw [hfree]
    exact hring
  · refine (mbGo_judges (.inl hm) hst hpec).trans (next_congr ((if_neg (Nat.not_lt.mpr hlen)).trans
      ((if_neg (Mode.not_lastGasp_of_active hm)).trans ?_)))
    rw [hfree]
  · exact (mbGo_judges (.inr hm) hst hpec).trans (next_congr ((if_neg (Nat.not_lt.mpr hlen)).trans (if_pos hm)))
  · refine next_congr ((if_neg (hdown hm)).trans ((if_neg (not_not_intro hst)).trans ((if_neg (not_not_intro rfl)).trans
      ((State.targetWrite_taken hpec).trans ?_))))
    dsimp only
    rw [hmb]
    rfl
  · refine next_congr ((if_neg (hdown hm)).trans ((if_neg (not_not_intro hst)).trans ((if_neg (not_not_intro rfl)).trans
      ((State.targetWrite_taken hpec).trans ?_))))
    dsimp only
    rw [hmb]
  · exact next_congr ((if_neg (hdown hm)).trans (if_pos hst))
  · rintro ⟨-, h⟩
    rw [hr] at h
    cases h
  · rw [hr]
    intro h
    cases h

end Sys2Proof
end

section
/-! PROOFS. The controller side of the two-wire ports (R516, R517, R530, R541, R542, R546). -/
set_option Elab.async false
namespace Sys2Proof.Machine

/-! ### Ports -/

theorem State.setTw_only (s : State) (p : Nat) (f : TwPort → TwPort) : Only [.tw] s (s.setTw p f) := fun q hq => by
  cases q <;> first | rfl | exact absurd hq (by decide)

theorem State.twAt_setTw_same (s : State) (p : Nat) (f : TwPort → TwPort) : (s.setTw p f).twAt p = f (s.twAt p) := by
  rw [State.twAt_setTw, if_pos rfl]

/-- The first transaction of a queue goes out on a port that is free (R541). -/
theorem State.twStart_transfer {s : State} {p m : Nat} (hon : s.twControls p = true) (hq : (s.twAt p).queue.head? = some (.transfer m))
    (hbusy : (s.twAt p).targetBusy = false) (hrun : (s.twAt p).running = false) (hhalt : s.anyHalted = false) :
    s.twStart p = (s.setTw p fun x => { x with running := true }).send (.twoWire p (s.twFrame (.transfer m))) := by
  have hfree : ¬((s.twAt p).targetBusy || (s.twAt p).running || (s.anyHalted && TwUse.waits (.transfer m))) = true := by
    rw [hbusy, hrun, hhalt]
    exact Bool.false_ne_true
  unfold State.twStart
  refine (if_pos hon).trans ?_
  rw [hq]
  exact if_neg hfree

/-! ### TW.STATUS and TW.TRANSFER -/

theorem State.length_twPortBytes (s : State) (n : Nat) : (s.twPortBytes n).length = 8 := by
  simp [State.twPortBytes]

/-- Pieces of one size, put together, hold each piece at its place. -/
theorem slice_flatten {α : Type} (f : α → Bytes) (k : Nat) (hf : ∀ x, (f x).length = k) (l : List α) (n o m : Nat) (x : α)
    (hx : l[n]? = some x) (hfit : o + m ≤ k) : slice (l.map f).flatten (k * n + o) m = slice (f x) o m := by
  induction l generalizing n with
  | nil => cases hx
  | cons y l ih =>
    rw [List.map_cons, List.flatten_cons]
    cases n with
    | zero =>
      rw [List.getElem?_cons_zero, Option.some.injEq] at hx
      subst hx
      simp [slice, List.drop_append, List.take_append, hf, Nat.sub_eq_zero_of_le (show o ≤ k by omega),
        Nat.sub_eq_zero_of_le (show m ≤ k - o by omega)]
    | succ n =>
      have hdrop : k * (n + 1) + o = (f y).length + (k * n + o) := by
        rw [hf]
        rw [Nat.mul_succ, Nat.add_comm (k * n) k, Nat.add_assoc]
      rw [List.getElem?_cons_succ] at hx
      rw [← ih n hx]
      simp only [slice, hdrop, List.drop_append, List.drop_of_length_le (Nat.le_add_right _ _), List.nil_append,
        Nat.add_sub_cancel_left]

theorem State.twStatus_ports (s : State) : ((upto 8).map s.twPortBytes).flatten.length = 64 ∧ ∀ n, n < 8 →
    slice ((upto 8).map s.twPortBytes).flatten (8 * n + 2) 4 = leBytes 2 (s.twAt n).arbLost ++ leBytes 2 (s.twAt n).errors := by
  constructor
  · rw [length_flatten_map _ s.twPortBytes 8 fun n _ => s.length_twPortBytes n, length_upto]
  · intro n hn
    have hget : (upto 8)[n]? = some n := by
      rw [upto_eq_range, List.getElem?_range hn]
    rw [slice_flatten s.twPortBytes 8 s.length_twPortBytes (upto 8) n 2 4 n hget (by decide)]
    unfold State.twPortBytes
    dsimp only
    rw [List.append_assoc, List.append_assoc, ← List.append_assoc (leBytes 2 _)]
    exact slice_mid _ _ _ rfl (by simp)

theorem State.queueTransfer_waits {s : State} {p : Nat} (h : s.twControls p = false) (m : Nat) :
    s.queueTransfer p m = s.setTw p fun x => { x with transfers := x.transfers ++ [m] } :=
  if_neg (by rw [h]; exact Bool.false_ne_true)

/-- A TW.TRANSFER on a free port goes out at once. -/
theorem State.queueTransfer_starts {s : State} {p : Nat} (m : Nat) (hon : s.twControls p = true) (hq : (s.twAt p).queue = [])
    (hbusy : (s.twAt p).targetBusy = false) (hrun : (s.twAt p).running = false) (hhalt : s.anyHalted = false) : ∃ x : State,
    s.queueTransfer p m = x.send (.twoWire p (s.twFrame (.transfer m))) ∧ (x.twAt p).queue = [.transfer m] ∧
    (x.twAt p).running = true ∧ Only [.tw] s x := by
  obtain ⟨y, hy⟩ : ∃ y, y = s.setTw p fun x => { x with queue := x.queue ++ [.transfer m] } := ⟨_, rfl⟩
  have hyp : y.twAt p = { s.twAt p with queue := [.transfer m] } := by
    rw [hy, State.twAt_setTw_same, hq]
    rfl
  have hstart := State.twStart_transfer (s := y) (p := p) (m := m) (hy ▸ hon) (by rw [hyp]; rfl) (by rw [hyp]; exact hbusy)
    (by rw [hyp]; exact hrun) (hy ▸ hhalt)
  have hframe : y.twFrame (.transfer m) = s.twFrame (.transfer m) := hy ▸ rfl
  rw [hframe] at hstart
  refine ⟨y.setTw p fun x => { x with running := true }, ?_, ?_, ?_, (hy ▸ s.setTw_only p _ : Only [.tw] s y).trans (y.setTw_only p _)⟩
  · refine (if_pos hon).trans ?_
    dsimp only
    rw [← hy, hq]
    exact (if_pos rfl).trans hstart
  · rw [State.twAt_setTw_same, hyp]
  · rw [State.twAt_setTw_same]

/-! ### Windows -/

theorem State.windowOpens_transfer {s : State} {p m : Nat} (hon : s.twControls p = true) (hsensors : s.sensorsOn p = [])
    (hlegacy : s.legacyOn p = []) (hq : (s.twAt p).queue = []) (ht : (s.twAt p).transfers = [m])
    (hbusy : (s.twAt p).targetBusy = false) (hrun : (s.twAt p).running = false) (hhalt : s.anyHalted = false) : ∃ x : State,
    s.windowOpens p false = x.send (.twoWire p (s.twFrame (.transfer m))) ∧ (x.twAt p).queue = [.transfer m] ∧
    (x.twAt p).transfers = [] ∧ Only [.tw] s x := by
  obtain ⟨y, hy⟩ : ∃ y, y = s.setTw p fun x => { x with queue := [.transfer m], transfers := [] } := ⟨_, rfl⟩
  have hyp : y.twAt p = { s.twAt p with queue := [.transfer m], transfers := [] } := by
    rw [hy, State.twAt_setTw_same]
  have hstart := State.twStart_transfer (s := y) (p := p) (m := m) (hy ▸ hon) (by rw [hyp]; rfl) (by rw [hyp]; exact hbusy)
    (by rw [hyp]; exact hrun) (hy ▸ hhalt)
  have hframe : y.twFrame (.transfer m) = s.twFrame (.transfer m) := hy ▸ rfl
  rw [hframe] at hstart
  have hfail : s.windowFailures p = s := by
    unfold State.windowFailures
    dsimp only
    rw [hsensors]
    show s.each ((s.legacyOn p).filter _) _ = s
    rw [hlegacy]
    rfl
  have hwindow : s.windowSensors p = (s, []) := by
    unfold State.windowSensors
    rw [hsensors]
    rfl
  refine ⟨y.setTw p fun x => { x with running := true }, ?_, ?_, ?_, (hy ▸ s.setTw_only p _ : Only [.tw] s y).trans (y.setTw_only p _)⟩
  · rw [← hstart, hy]
    unfold State.windowOpens
    dsimp only
    rw [hfail, if_neg (by rw [hhalt]; exact Bool.false_ne_true), hwindow]
    dsimp only
    rw [hlegacy, hq, ht, hrun, hhalt]
    rfl
  · rw [State.twAt_setTw_same, hyp]
  · rw [State.twAt_setTw_same, hyp]

/-! ### Ends of transactions -/

theorem readResult_cases (f d : Bytes) (p : Nat) : readResult f d p = 0 ∨ readResult f d p = 3 := by
  unfold readResult
  split
  · split
    · exact .inl rfl
    · exact .inr rfl
  · exact .inl rfl

/-- A transaction on the bus ends (R517). -/
theorem twTransactionEnd_ends {s : State} {port r : Nat} {u : TwUse} {d : Bytes} {p : Nat} (hq : (s.twAt port).queue.head? = some u)
    (hrun : (s.twAt port).running = true) (hlen : d.length ≤ 255) (hr : r ≤ 3) : exec (.twTransactionEnd port r d p) s = .next (
      if (if r = 0 then readResult (s.twFrame u) d p else r) = 0 then s.twDone port u d
      else s.twFailed port (if r = 0 then readResult (s.twFrame u) d p else r) u d) := by
  refine next_congr ?_
  show (match (s.twAt port).queue.head? with | some u => _ | none => s) = _
  rw [hq]
  refine if_neg ?_
  rw [hrun]
  simp only [Bool.not_true, Bool.false_or, Bool.or_eq_true, decide_eq_true_eq]
  omega

/-- The TWDEV of a transaction as its end leaves it. -/
theorem State.setTwDevice_spec (s : State) (d : Option Nat) (f : TwDev → TwDev) : ∀ x : State,
    x = (match d with | some d => s.setTwDev d f | none => s) →
    (∀ p, x.twAt p = s.twAt p) ∧ (∀ k, x.sensorAt k = s.sensorAt k) ∧ Only [.tw] s x := by
  rintro x rfl
  cases d with
  | none => exact ⟨fun _ => rfl, fun _ => rfl, Only.refl _ s⟩
  | some d => exact ⟨fun _ => rfl, fun _ => rfl, fun q hq => by cases q <;> first | rfl | exact absurd hq (by decide)⟩

theorem State.twDone_transfer (s : State) (port m : Nat) (d : Bytes) : ∃ x : State, s.twDone port (.transfer m) d =
      ((x.finish m .ok ([0, byte d.length, 0, 0] ++ d)).twNext port fun _ => false) ∧
    (∀ p, x.twAt p = s.twAt p) ∧ Only [.tw] s x := by
  obtain ⟨hport, -, honly⟩ := s.setTwDevice_spec (s.twDevice port (.transfer m)) (fun x => { x with state := 1 }) _ rfl
  exact ⟨_, rfl, hport, honly⟩

/-- A reading of a sensor within its limits stands (R542). -/
theorem State.sensorRead_good {s : State} {k w : Nat} {v : Int} (port : Nat) (u : TwUse) (hv : v = s.sensorReading k w)
    (hlo : -(2 ^ 31) ≤ v) (hhi : v < 2 ^ 31) (hwl : s.sensorWarnLow k ≤ v) (hwh : v ≤ s.sensorWarnHigh k) :
    s.sensorRead port u k w = (s.setSensor k fun x =>
      { x with value := v, valueEpoch := s.clocks.epoch, state := 1, failRun := 0, read := true }).used := by
  have hfit : s.fit32 (s.sensorReading k w) = v := by
    rw [← hv]
    exact if_pos ⟨hlo, hhi⟩
  have hwarn : (decide (s.sensorWarnHigh k < v) || decide (v < s.sensorWarnLow k)) = false := by
    simp [hwl, hwh]
  unfold State.sensorRead
  dsimp only
  rw [hfit, hwarn]
  rfl

theorem State.twDone_sensor {s : State} {k : Nat} {d : Bytes} {v : Int} (port : Nat) (hv : v = s.sensorReading k (fld d 0 2))
    (hlo : -(2 ^ 31) ≤ v) (hhi : v < 2 ^ 31) (hwl : s.sensorWarnLow k ≤ v) (hwh : v ≤ s.sensorWarnHigh k) : ∃ x : State,
    s.twDone port (.sensor k) d = (x.twNext port fun _ => false) ∧ (x.sensorAt k).value = v ∧ (x.sensorAt k).state = 1 ∧
    (x.sensorAt k).failRun = 0 ∧ (x.sensorAt k).valueEpoch = s.clocks.epoch ∧ (∀ j, j ≠ k → x.sensorAt j = s.sensorAt j) ∧
    Only [.tw, .freeCount] s x := by
  obtain ⟨y, hy⟩ : ∃ y, y = s.setTwDev (s.sensorTwdev k) fun x => { x with state := 1 } := ⟨_, rfl⟩
  have hread : y.sensorRead port (.sensor k) k (fld d 0 2) = (y.setSensor k fun x =>
      { x with value := v, valueEpoch := y.clocks.epoch, state := 1, failRun := 0, read := true }).used := by
    rw [hy]
    exact State.sensorRead_good port (.sensor k) hv hlo hhi hwl hwh
  have hat : ∀ j, ((y.setSensor k fun x => { x with
      value := v, valueEpoch := y.clocks.epoch, state := 1, failRun := 0, read := true }).used).sensorAt j =
      if j = k then { s.sensorAt k with value := v, valueEpoch := s.clocks.epoch, state := 1, failRun := 0, read := true }
      else s.sensorAt j := by
    intro j
    refine (State.sensorAt_setSensor y k _ j).trans ?_
    rw [hy]
    rfl
  refine ⟨_, ?_, ?_, ?_, ?_, ?_, fun j hj => (hat j).trans (if_neg hj), fun q hq => ?_⟩
  · unfold State.twDone
    dsimp only
    rw [show s.twDevice port (.sensor k) = some (s.sensorTwdev k) from rfl]
    dsimp only
    rw [← hy, hread]
  · rw [hat, if_pos rfl]
  · rw [hat, if_pos rfl]
  · rw [hat, if_pos rfl]
  · rw [hat, if_pos rfl]
  · rw [hy]
    cases q <;> first | rfl | exact absurd hq (by decide)

theorem State.twFailed_transfer (s : State) (port m : Nat) (d : Bytes) : ∃ x : State, s.twFailed port 1 (.transfer m) d =
      ((x.finish m .ok ([1, byte d.length, 0, 0] ++ d)).twNext port fun _ => false) ∧
    (x.twAt port).errors = ((s.twAt port).errors + 1) % 2 ^ 16 ∧ (x.twAt port).queue = (s.twAt port).queue ∧ Only [.tw] s x := by
  obtain ⟨y, hy⟩ : ∃ y, y = s.setTw port fun p => { p with errors := (p.errors + 1) % 2 ^ 16 } := ⟨_, rfl⟩
  obtain ⟨hport, -, honly⟩ := y.setTwDevice_spec (y.twDevice port (.transfer m)) (fun x => { x with
    nacks := if 1 = 1 ∨ 1 = 2 then (x.nacks + 1) % 2 ^ 32 else x.nacks
    pecErrors := if 1 = 3 then (x.pecErrors + 1) % 2 ^ 32 else x.pecErrors }) _ rfl
  have hyp : y.twAt port = { s.twAt port with errors := ((s.twAt port).errors + 1) % 2 ^ 16 } := hy ▸ s.twAt_setTw_same port _
  refine ⟨_, ?_, ?_, ?_, (hy ▸ s.setTw_only port _ : Only [.tw] s y).trans honly⟩
  · unfold State.twFailed
    dsimp only
    rw [if_neg (by decide), if_neg (by decide), ← hy]
    rfl
  · rw [hport, hyp]
  · rw [hport, hyp]

theorem arbitrationLost_repeats {s : State} {port w : Nat} {i : Bool} {u : TwUse} (hq : (s.twAt port).queue.head? = some u)
    (hrun : (s.twAt port).running = true) : ∃ x : State,
    exec (.arbitrationLost port w i) s = .next (if 3 ≤ (s.twAt port).retries then (x.twUseEvent port 7 u).twFailed port 4 u []
      else x.twStart port) ∧
    (x.twAt port).arbLost = ((s.twAt port).arbLost + 1) % 2 ^ 16 ∧ (x.twAt port).retries = (s.twAt port).retries + 1 ∧
    (x.twAt port).running = false ∧ (x.twAt port).targetBusy = (i && decide (w = s.targetAddr port) && decide (w ≠ 0)) ∧
    (x.twAt port).queue = (s.twAt port).queue ∧ Only [.tw] s x := by
  refine ⟨s.setTw port fun p => { p with
    arbLost := (p.arbLost + 1) % 2 ^ 16, retries := (s.twAt port).retries + 1
    targetBusy := i && decide (w = s.targetAddr port) && decide (w ≠ 0), running := false }, next_congr ?_, ?_, ?_, ?_, ?_, ?_,
    s.setTw_only port _⟩
  · show (match (s.twAt port).queue.head? with | none => s | some u => _) = _
    rw [hq]
    exact if_neg (by rw [hrun]; exact Bool.false_ne_true)
  all_goals rw [State.twAt_setTw_same]

end Sys2Proof.Machine

namespace Sys2Proof
open Machine

/-- Settles O42: the controller side of the two-wire ports. -/
theorem twoWireController : Obligations.TwoWireController := by
  rintro s mb port q rfl
  refine ⟨fun hstart hlay => ⟨_, State.runOrder_does hstart (if_neg (by simp [hlay])), s.twStatus_ports⟩,
    fun hstart hlay hport h1 h7 haddr hproto hpec hon hfit => ?_,
    fun hon => ⟨_, State.queueTransfer_waits hon mb, by rw [State.twAt_setTw_same], s.setTw_only port _⟩,
    fun hon hq hbusy hrun hhalt => State.queueTransfer_starts mb hon hq hbusy hrun hhalt, fun a x h1 h7 hx => ?_,
    fun m hon hs hl hq ht hbusy hrun hhalt => State.windowOpens_transfer hon hs hl hq ht hbusy hrun hhalt,
    fun d h => next_congr (if_pos h), fun u d p hq hrun hlen => ⟨fun h0 => ?_, fun h3 => ?_, readResult_cases _ _ _, fun hnone => ?_,
      fun r h1 h3 => ?_, ?_⟩, fun r d p hq => ?_, fun m d => s.twDone_transfer port m d,
    fun k d v hv hlo hhi hwl hwh => State.twDone_sensor port hv hlo hhi hwl hwh, fun m d => s.twFailed_transfer port m d,
    fun hq h7 hs => ?_, fun u w i hq hrun => arbitrationLost_repeats hq hrun, fun w i hq => ?_⟩
  · have hbad : (!(s.request mb).lay (8 + (s.request mb).u 5 1) [(6, 2)] || decide ((s.request mb).u 0 1 = 0) ||
        decide (7 < (s.request mb).u 0 1) || decide (127 < (s.request mb).u 1 1) || decide (8 < (s.request mb).u 2 1) ||
        decide (1 < (s.request mb).u 4 1) || !bit s.taken.shelfTwEnable ((s.request mb).u 0 1) ||
        !wlenFits ((s.request mb).u 2 1) ((s.request mb).u 5 1)) = false := by
      have hon' : bit s.taken.shelfTwEnable ((s.request mb).u 0 1) = true := hport ▸ hon
      simp only [hlay, hon', hfit, Bool.not_true, Bool.false_or, Bool.or_false, Bool.or_eq_false_iff, decide_eq_false_iff_not]
      omega
    subst hport
    refine ⟨fun hleg => State.runOrder_does hstart ((if_neg ?_).trans (if_pos hleg)),
      fun hleg => State.runOrder_does hstart ((if_neg ?_).trans (if_neg ?_))⟩
    · rw [hbad]
      exact Bool.false_ne_true
    · rw [hbad]
      exact Bool.false_ne_true
    · have hleg' : s.taken.legacyAddress ((s.request mb).u 0 1) ((s.request mb).u 1 1) = false := hleg
      rw [hleg']
      exact Bool.false_ne_true
  · refine next_congr ((if_neg (by omega)).trans ?_)
    have hcontrols : (s.setTw port fun p => { p with alertLow := a }).twControls port = s.twControls port := rfl
    rw [hx, ← hcontrols]
  · exact (twTransactionEnd_ends hq hrun hlen (by decide)).trans (next_congr (if_pos h0))
  · refine (twTransactionEnd_ends hq hrun hlen (by decide)).trans (next_congr ?_)
    rw [if_pos rfl, h3]
    rfl
  · rw [readResult, hnone]
  · refine (twTransactionEnd_ends hq hrun hlen h3).trans (next_congr ?_)
    rw [if_neg (show ¬r = 0 by omega), if_neg (show ¬r = 0 by omega)]
  · refine next_congr ?_
    show (match (s.twAt port).queue.head?, (s.twAt port).running with | some u, true => _ | _, _ => _) = _
    rw [hq, hrun]
  · refine next_congr ?_
    show (match (s.twAt port).queue.head? with | some u => _ | none => s) = _
    rw [hq]
    rfl
  · refine next_congr ?_
    have hin : ¬(decide (7 < port) || !s.targetServes port) = true := by simp [hs]; omega
    show (match (s.twAt port).queue.head?, (s.twAt port).running with | some u, true => _ | _, _ => _) = _
    rw [hq]
    exact if_neg hin
  · refine next_congr ?_
    show (match (s.twAt port).queue.head? with | none => s | some u => _) = _
    rw [hq]
    rfl

end Sys2Proof
end

section
/-! PROOFS. Management Ethernet (R128 to R130, R551 to R560). -/
set_option Elab.async false
namespace Sys2Proof.Machine

/-! ### Links -/

theorem State.ethPowered_port {s : State} {p : Nat} (h : s.ethPowered p = true) : p = 4 ∨ p = 5 := by
  simp only [State.ethPowered, Bool.and_eq_true, Bool.or_eq_true, decide_eq_true_eq] at h
  exact h.1.1

theorem State.setEthPort_spec (s : State) (p : Nat) (f : EthPort → EthPort) :
    (s.setEthPort p f).eth.portAt p = f (s.eth.portAt p) ∧ Only [.eth] s (s.setEthPort p f) := by
  refine ⟨?_, fun q hq => by cases q <;> first | rfl | exact absurd hq (by decide)⟩
  unfold State.setEthPort Ethernet.portAt
  dsimp only
  by_cases h : p = 4 <;> simp [h]

/-! ### Big-endian bytes -/

theorem leBytes_leVal (l : Bytes) : leBytes l.length (leVal l) = l := by
  induction l with
  | nil => rfl
  | cons b l ih =>
    have hb : b.toNat < 256 := b.isLt
    show byte (b.toNat + 256 * leVal l) :: leBytes l.length ((b.toNat + 256 * leVal l) / 256) = b :: l
    have hdiv : (b.toNat + 256 * leVal l) / 256 = leVal l := by omega
    have hbyte : byte (b.toNat + 256 * leVal l) = b := by
      apply BitVec.eq_of_toNat_eq
      rw [byte, BitVec.toNat_ofNat]
      omega
    rw [hdiv, ih, hbyte]

theorem beBytes_beVal {n : Nat} {l : Bytes} (h : l.length = n) : beBytes n (beVal l) = l := by
  have hrev : l.reverse.length = n := by rw [List.length_reverse, h]
  rw [beBytes, beVal, ← hrev, leBytes_leVal, List.reverse_reverse]

theorem State.length_linkLocal (s : State) : s.linkLocal.length = 16 := by
  simp [State.linkLocal]

/-! ### Datagrams -/

/-- A datagram that is formed and authentic is judged by its COUNTER (R129). -/
theorem mailboxDatagram_judged {s : State} {p : Nat} {f : Bytes} (hs : s.ethServes p = true) (hform : datagramFormed f = true)
    (hmac : datagramKeyless f = true ∨ s.macGood f = true) : exec (.mailboxDatagram p f) s = .next (s.judgeDatagram p f) := by
  refine next_congr ((if_neg (by simp [hs])).trans ((if_neg (by simp [hform])).trans (if_neg ?_)))
  rcases hmac with h | h <;> simp [h]

/-- One that is new to its session runs in a free pool mailbox, or is rejected (R118, R130). -/
theorem State.judgeDatagram_new {s : State} {p : Nat} {f : Bytes}
    (h : (s.sesAt (fld f 4 4)).request = [] ∨ (s.sesAt (fld f 4 4)).counter < fld f 8 8) : s.judgeDatagram p f =
      (match s.freePool with
        | none => s.poolReject p f
        | some n => s.acceptDatagram p n f) := by
  unfold State.judgeDatagram
  refine (if_neg ?_).trans (if_neg ?_)
  · rintro ⟨hseen, hlt⟩
    rw [decide_eq_true_eq] at hseen
    rcases h with h | h
    · exact hseen h
    · omega
  · rintro ⟨hseen, heq⟩
    rw [decide_eq_true_eq] at hseen
    rcases h with h | h
    · exact hseen h
    · omega

theorem length_mailboxPart (f : Bytes) : (mailboxPart f).length = f.length - 24 := by
  rw [mailboxPart, List.length_take, List.length_drop]
  omega

/-- A session and a port as an accepted datagram leaves them (R129). -/
def State.noteDatagram (s : State) (port : Nat) (f : Bytes) : State :=
  let ses := fld f 4 4
  let e := s.sesAt ses
  let known := decide (e.state ≠ SessState.closed) && decide (e.transport = 1)
  let s := if known then s.setSes ses fun e => { e with counter := fld f 8 8, request := f, response := [] } else s
  if known then { s with eth := { s.eth with peerPort := Tab.set 0 s.eth.peerPort ses port } } else s

theorem State.noteDatagram_spec (s : State) (p : Nat) (f : Bytes) :
    ((s.sesAt (fld f 4 4)).state ≠ .closed → (s.sesAt (fld f 4 4)).transport = 1 →
      ((s.noteDatagram p f).sesAt (fld f 4 4)).counter = fld f 8 8 ∧ ((s.noteDatagram p f).sesAt (fld f 4 4)).request = f ∧
      Tab.get 0 (s.noteDatagram p f).eth.peerPort (fld f 4 4) = p) ∧ Only [.host, .eth] s (s.noteDatagram p f) := by
  unfold State.noteDatagram
  by_cases h : (decide ((s.sesAt (fld f 4 4)).state ≠ SessState.closed) && decide ((s.sesAt (fld f 4 4)).transport = 1)) = true
  · dsimp only
    rw [h, if_pos rfl, if_pos rfl]
    have hses : (s.setSes (fld f 4 4) fun e => { e with counter := fld f 8 8, request := f, response := [] }).sesAt (fld f 4 4) =
        { s.sesAt (fld f 4 4) with counter := fld f 8 8, request := f, response := [] } :=
      (State.sesAt_setSes _ _ _ _).trans (if_pos rfl)
    refine ⟨fun _ _ => ⟨?_, ?_, (Tab.get_set _ _ _ _ _).trans (if_pos rfl)⟩, fun q hq => ?_⟩
    · exact congrArg Session.counter hses
    · exact congrArg Session.request hses
    · cases q <;> first | rfl | exact absurd hq (by decide)
  · dsimp only
    rw [Bool.not_eq_true] at h
    rw [h, if_neg Bool.false_ne_true]
    refine ⟨fun hst htr => ?_, Only.refl _ s⟩
    rw [decide_eq_true hst, decide_eq_true htr] at h
    cases h

theorem State.acceptDatagram_rings (s : State) (p n : Nat) (f : Bytes) : ∃ x : State,
    s.acceptDatagram p n f = (x.ring n .ethernet p (fld f 8 8)
      (if datagramKeyless f then 0 else (s.sesAt (fld f 4 4)).key)).followed ∧
    ((s.sesAt (fld f 4 4)).state ≠ .closed → (s.sesAt (fld f 4 4)).transport = 1 →
      (x.sesAt (fld f 4 4)).counter = fld f 8 8 ∧ (x.sesAt (fld f 4 4)).request = f ∧
      Tab.get 0 x.eth.peerPort (fld f 4 4) = p) ∧
    memReadN x.host.ram (mbBase n) (f.length - 24) = (f.drop 16).take (f.length - 24) ∧ Only [.host, .eth] s x := by
  obtain ⟨w, hw⟩ : ∃ w, w = s.noteDatagram p f := ⟨_, rfl⟩
  obtain ⟨hses, honly⟩ := s.noteDatagram_spec p f
  rw [← hw] at hses honly
  refine ⟨{ w with host := { w.host with ram := memWriteN w.host.ram (mbBase n) (mailboxPart f) } }, by rw [hw]; rfl, hses, ?_,
    honly.trans fun q hq => by cases q <;> first | rfl | exact absurd hq (by decide)⟩
  have h := memReadN_writeN w.host.ram (mbBase n) (mailboxPart f)
  rw [length_mailboxPart] at h
  exact h

/-! ### PTP -/

/-- The grandmaster that an Announce message names. -/
def announced (a : AnnounceMsg) : Announce :=
  { port := a.port, priority1 := a.priority1, quality := a.quality, priority2 := a.priority2, identity := a.identity
    steps := a.steps, timescale := a.timescale }

/-- The measurement of an offset (R559, R560). -/
theorem State.ptpMeasure_spec (s : State) (t1 t2 : Int) : (s.ptpMeasure t1 t2).eth.offset = t2 - t1 - s.eth.delay ∧
      (s.ptpMeasure t1 t2).eth.syncT1 = t1 ∧ (s.ptpMeasure t1 t2).eth.syncT2 = t2 ∧
      (1000000 < (t2 - t1 - s.eth.delay).natAbs →
        (s.ptpMeasure t1 t2).eth.stepDue = some (-(t2 - t1 - s.eth.delay)) ∧ (s.ptpMeasure t1 t2).eth.rate = s.eth.rate) ∧
      ((t2 - t1 - s.eth.delay).natAbs ≤ 1000000 → (s.ptpMeasure t1 t2).eth.stepDue = s.eth.stepDue ∧
        -500000 ≤ (s.ptpMeasure t1 t2).eth.rate ∧ (s.ptpMeasure t1 t2).eth.rate ≤ 500000) ∧
      ((t2 - t1 - s.eth.delay).natAbs ≤ 1000 → 15 ≤ s.eth.good → (s.eth.rtcState = 0 ∨ s.eth.rtcState = 2) →
        (s.ptpMeasure t1 t2).eth.rtcState = 1) ∧ Only [.eth, .freeCount] s (s.ptpMeasure t1 t2) := by
  unfold State.ptpMeasure
  dsimp only
  generalize t2 - t1 - s.eth.delay = off
  have hlock : off.natAbs ≤ 1000 → 15 ≤ s.eth.good → (s.eth.rtcState = 0 ∨ s.eth.rtcState = 2) →
      (if (s.eth.rtcState = 0 ∨ s.eth.rtcState = 2) ∧ (if off.natAbs ≤ 1000 then min 16 (s.eth.good + 1) else 0) = 16 then 1
        else s.eth.rtcState) = 1 := fun hoff hgood hstate => if_pos ⟨hstate, by rw [if_pos hoff]; omega⟩
  have hrate : ∀ x : Nat, -500000 ≤ ((x % 1000001 : Nat) : Int) - 500000 ∧ ((x % 1000001 : Nat) : Int) - 500000 ≤ 500000 := by
    intro x
    omega
  by_cases h : 1000000 < off.natAbs
  · rw [if_pos h]
    exact ⟨rfl, rfl, rfl, fun _ => ⟨rfl, rfl⟩, fun hle => absurd h (Nat.not_lt.mpr hle), hlock,
      fun q hq => by cases q <;> first | rfl | exact absurd hq (by decide)⟩
  · rw [if_neg h]
    exact ⟨rfl, rfl, rfl, fun hlt => absurd hlt h, fun _ => ⟨rfl, hrate _⟩, hlock,
      fun q hq => by cases q <;> first | rfl | exact absurd hq (by decide)⟩

end Sys2Proof.Machine

namespace Sys2Proof
open Machine

/-- Settles O43: links, datagrams and the PTP client of management Ethernet. -/
theorem ethernetRows : Obligations.EthernetRows := by
  intro s p
  refine ⟨fun hp hup => ?_, fun hp hup => ?_, fun hp => ⟨next_congr (if_neg fun h => ?_), next_congr (if_neg fun h => ?_)⟩,
    fun d hp hup hdad => ?_, fun hs => ⟨?_, fun b => ⟨fun hle => next_congr (if_pos ⟨hs, hle⟩), fun hlt => ?_⟩⟩,
    fun hs f => ⟨next_congr (if_pos (by rw [hs]; rfl)), next_congr (if_neg fun h => ?_)⟩, fun f hs hbad => ?_,
    fun f e c hs hform hmac he hc => ?_, fun a hon hts hnone => ?_, fun a hts => ?_, fun a m hon hts hm hlt hother => ?_,
    fun t1 t2 hfrom => ⟨?_, ?_, fun hpend => next_congr (if_pos ⟨hfrom, hpend⟩)⟩, fun t1 t2 => s.ptpMeasure_spec t1 t2,
    fun t1 t2 b hfrom => ⟨?_, ?_⟩, fun m t3 hm hon => ?_, fun t3 hm => ?_, fun t4 hfrom hpend => next_congr (if_pos ⟨hfrom, hpend⟩),
    fun t4 hpend => next_congr (if_neg fun h => ?_), fun h => next_congr (if_pos h), fun h => next_congr (if_pos h),
    fun h => ⟨next_congr (if_neg ?_), next_congr (if_neg ?_)⟩⟩
  · obtain ⟨hport, honly⟩ := s.setEthPort_spec p fun e => { up := true, phy := e.phy }
    refine ⟨_, next_congr (if_pos ⟨hp, hup⟩), hport, ?_, Only.trans (honly.mono (by decide)) ((State.condition_foot _ _ _).onlyIn _)⟩
    exact congrArg FaultSrc.present ((State.srcAt_setSrc _ _ _ _).trans (if_pos rfl))
  · obtain ⟨hport, honly⟩ := s.setEthPort_spec p fun e => { phy := e.phy }
    exact ⟨_, next_congr (if_pos ⟨hp, hup⟩), hport, honly⟩
  · rw [hp] at h
    cases h.1
  · rw [hp] at h
    cases h.1
  · obtain ⟨hport, honly⟩ := s.setEthPort_spec p fun e => { e with dadDone := !d, duplicate := d }
    exact ⟨_, next_congr (if_pos ⟨hp, hup, hdad⟩), by rw [hport], by rw [hport], honly⟩
  · exact next_congr (if_pos ⟨hs, beBytes_beVal s.length_linkLocal⟩)
  · exact next_congr (if_neg fun h => Nat.not_le.mpr hlt h.2)
  · rw [hs] at h
    cases h.1
  · refine next_congr ((if_neg (by simp [hs])).trans ?_)
    rcases hbad with h | ⟨h, h'⟩
    · exact if_pos (by simp [h])
    · show (if _ then s.dropDatagram else _) = _
      split
      · rfl
      · exact if_pos (by simp [h, h'])
  · have hjudge := mailboxDatagram_judged (p := p) hs hform hmac
    subst he hc
    refine ⟨fun hseen hlt => hjudge.trans (next_congr (if_pos ⟨decide_eq_true hseen, hlt⟩)), fun hsame hseen heq hresp => ?_,
      fun hnew hfree => ?_, fun n hnew hfree => ?_⟩
    · exact hjudge.trans (next_congr ((if_neg fun h => absurd h.2 (by omega)).trans
        ((if_pos ⟨decide_eq_true hseen, heq⟩).trans (if_pos ⟨hsame, hresp⟩))))
    · rw [hjudge, State.judgeDatagram_new hnew, hfree]
    · obtain ⟨x, hring, hses, hram, honly⟩ := s.acceptDatagram_rings p n f
      refine ⟨x, ?_, hses, hram, honly⟩
      rw [hjudge, State.judgeDatagram_new hnew, hfree, ← hring]
  · refine ⟨{ s with eth := { s.eth with master := some (announced a), good := 0 } }, announced a,
      next_congr ((if_neg (by simp [hon, hts])).trans ?_), rfl, rfl, rfl, fun q hq => ?_⟩
    · rw [hnone]
      rfl
    · cases q <;> first | rfl | exact absurd hq (by decide)
  · exact next_congr (if_pos (by simp [hts]))
  · have hsame : ¬(decide (m.identity = a.identity) && decide (m.port = a.port)) = true := by
      rw [Bool.and_eq_true, decide_eq_true_eq, decide_eq_true_eq]
      rintro ⟨hid, hport⟩
      exact hother.elim (fun h => h hid.symm) fun h => h hport.symm
    refine ⟨{ s with eth := { s.eth with
        master := some (announced a), good := 0, syncPending := false, delayPending := false } }, announced a,
      next_congr ((if_neg (by simp [hon, hts])).trans ?_), rfl, rfl, rfl, fun q hq => ?_⟩
    · rw [hm]
      refine (if_neg hsame).trans (if_pos ?_)
      simp [Announce.key, lessKey, hlt]
    · cases q <;> first | rfl | exact absurd hq (by decide)
  · exact next_congr ((if_neg (by simp [hfrom])).trans (if_pos rfl))
  · exact next_congr ((if_neg (by simp [hfrom])).trans (if_neg Bool.false_ne_true))
  · exact next_congr (if_pos (by simp [hfrom]))
  · exact next_congr (if_neg fun h => absurd (hfrom.symm.trans h.1) Bool.false_ne_true)
  · refine next_congr ?_
    rw [hm]
    exact if_pos hon
  · refine next_congr ?_
    rw [hm]
  · rw [hpend] at h
    cases h.2
  · omega
  · omega

end Sys2Proof
end

section
/-! PROOFS. A trip of an output that a commit disabled while it was driven, where the reaction to the trip is SAFE_HOLD: the
reaction itself forces the output off, and its channel belongs to no output any more when the trip would do so. -/
set_option Elab.async false
namespace Sys2Proof.Machine

/-- What SAFE_HOLD and LOG leave alone, while the queue has room. -/
theorem State.react_safeHold_foot {s : State} (src event cls : Nat) (data : Bytes) (hqueue : s.faults.queue = []) :
    Foot 0xF00 s (s.react src event cls 0x11 data) := by
  obtain ⟨b, hb⟩ : ∃ b, b = s.actOn src 0x11 := ⟨_, rfl⟩
  have hact : b = if holdable s.mode then
      { s.safeHoldOutputs with faults := { s.safeHoldOutputs.faults with safeHoldDue := some src } }
      else s.triggerIgnored 5 := hb
  have hfoot : Foot 0xF00 s b := by
    rw [hact]
    exact .ite (.faults (s.safeHoldOutputs_foot.mono)) ((s.triggerIgnored_foot 5).mono)
  have hqueue' : b.faults.queue = [] := by
    rw [hact]
    split
    · exact (congrArg Faults.queue (show s.safeHoldOutputs.faults = s.faults from s.safeHoldOutputs_foot.keeps .faults)).trans hqueue
    · exact (congrArg Faults.queue (show (s.triggerIgnored 5).faults = s.faults from (s.triggerIgnored_foot 5).keeps .faults)).trans hqueue
  have hlog : Foot 0xF00 s (b.logEvent src event cls 0x11 data) := by
    unfold State.logEvent Faults.queueEntry
    dsimp only
    rw [hqueue']
    exact .faults hfoot
  have heq : s.react src event cls 0x11 data = b.logEvent src event cls 0x11 data := by rw [hb]; rfl
  rw [heq]
  exact hlog

/-- An event of an empty queue whose reactions are SAFE_HOLD and LOG alone. -/
theorem State.raise_safeHold_foot {s : State} {src event cls : Nat} (data : Bytes) (hc : eventClass src event = cls)
    (hraises : (s.mode.firmware && decide (src < 320) && !reservedSource src) = true)
    (hbits : s.actingBits src cls = 0x11) (hqueue : s.faults.queue = []) (hcls : s.minClass src ≤ cls) :
    Foot 0xF00 s (s.raise src event data) := by
  unfold State.raise State.raiseC
  rw [hc, if_pos hraises]
  have htake : Foot 0xF00 s (s.takeEvent src event cls data) := by
    unfold State.takeEvent
    rw [hbits]
    exact (State.react_safeHold_foot src event cls data (s := s.noteEvent src event cls (bit 0x11 7)) hqueue).after
      ((s.noteEvent_foot _ _ _ _).mono)
  obtain ⟨t, ht⟩ : ∃ t, t = s.takeEvent src event cls data := ⟨_, rfl⟩
  rw [← ht] at htake ⊢
  have hmin : t.minClass src = s.minClass src := by
    unfold State.minClass State.field
    rw [show t.desc = s.desc from htake.keeps .desc]
  have hwindow : t.windowEvent src cls = (t, false) := if_neg fun h => absurd h.1 (by omega)
  unfold State.escalateEvent
  rw [hwindow]
  exact htake

/-- Output 0 ramps off after a commit disabled it; source 0 reacts to its trips with SAFE_HOLD, whose policy for the output is to
force it off, and the capture of cluster 0 listens to forced-off channels. -/
def endingOut : State := { ({} : State) with
  power := { ({} : State).power with mode := .run }
  sluice := { ({} : State).sluice with own := true }
  desc := { ({} : State).desc with committed := [(fieldKey 2 0 0x13, some 2), (fieldKey 11 0 0x01, some 0x10)] }
  chan := [(0, { state := .switching })]
  cluster := [(0, { trigMask := 64, channels := 1, capEnable := false })]
  out := [(0, { state := 7, phase := .stopPending, leaving := true })] }

/-- How many trigger conditions wait in cluster 0 after a command. -/
def pendingTriggers : Host.Outcome State Fault Refusal → Nat
  | .next t => (t.clusterAt 0).trigPending.length
  | _ => 0

/-- The trip signals no trigger, as no output is left to force off. -/
theorem endingOut_trip : pendingTriggers (exec (.ovTrip 0) endingOut) = 0 := by decide +kernel

/-- A trigger of the channel reads the clusters only. -/
theorem chanTrigger_cluster {u : State} (hu : u.cluster = endingOut.cluster) :
    (u.chanTrigger 0 6).cluster = (endingOut.chanTrigger 0 6).cluster := by
  unfold State.chanTrigger State.signalTrigger State.setCluster
  dsimp only
  rw [hu]

/-- The event of the trip, whatever the channel's table is. -/
theorem endingOut_fault {x : State} (hx : Only [.chan] endingOut x) (code : Nat) : Foot 0xF00 x (x.chanFault 0 2 code (some 0)) := by
  have hdesc : x.desc = endingOut.desc := hx .desc rfl
  have hraise : Foot 0xF00 x (x.raiseChan 0 2 code) := by
    refine State.raise_safeHold_foot (cls := 3) _ rfl ?_ ?_ ?_ ?_
    · rw [State.mode, show x.power = endingOut.power from hx .power rfl]
      rfl
    · unfold State.actingBits State.minClass State.reactionsOf State.field
      rw [hdesc]
      decide +kernel
    · rw [show x.faults = endingOut.faults from hx .faults rfl]
      rfl
    · unfold State.minClass State.field
      rw [hdesc]
      decide +kernel
  have hcap : ((x.raiseChan 0 2 code).clusterAt (quadrant 0)).capEnable = false := by
    rw [State.clusterAt, show (x.raiseChan 0 2 code).cluster = x.cluster from hraise.keeps .cluster,
      show x.cluster = endingOut.cluster from hx .cluster rfl]
    decide +kernel
  have heq : x.chanFault 0 2 code (some 0) = x.raiseChan 0 2 code := by
    show (x.raiseChan 0 2 code).capsuleEvent 0 0 = _
    unfold State.capsuleEvent
    dsimp only
    rw [hcap]
    split <;> rfl
  rw [heq]
  exact hraise

end Sys2Proof.Machine

namespace Sys2Proof
open Machine

/-- Refutes O45: a trip of an output that is leaving, where the reaction to its event is SAFE_HOLD with the policy to force
off: the reaction ends the output, so the trip signals no trigger for its phases, where the statement has one signalled. -/
theorem not_channelPinsAndForcedOff : ¬ Obligations.ChannelPinsAndForcedOff := by
  intro h
  obtain ⟨htrip, -⟩ := h.2 endingOut 0 _ (by decide) rfl
  obtain ⟨x, y, hexec, hy, -, -, honly⟩ := htrip rfl (by decide +kernel) (by decide) (by decide) (by decide) 0 (by decide +kernel)
  have hfoot : Foot 0xF00 x y := by
    rw [hy]
    exact endingOut_fault honly _
  have htoken : y.token = true := by
    rw [State.token, show y.sluice = x.sluice from hfoot.keeps .sluice, show x.sluice = endingOut.sluice from honly .sluice rfl]
    rfl
  have hphases : y.phases 0 = [0] := by
    unfold State.phases State.outPhases State.outFirstChannel State.field
    rw [show y.desc = x.desc from hfoot.keeps .desc, show x.desc = endingOut.desc from honly .desc rfl]
    decide +kernel
  have hcluster : y.cluster = endingOut.cluster :=
    (show y.cluster = x.cluster from hfoot.keeps .cluster).trans (honly .cluster rfl)
  have hsignalled : pendingTriggers (exec (.ovTrip 0) endingOut) = 1 := by
    rw [hexec, if_pos htoken, hphases, pendingTriggers, State.clusterAt,
      show (State.settle _).cluster = _ from (State.settle_foot _).keeps .cluster,
      show (State.phaseForced _ 0).cluster = _ from (State.phaseForced_foot _ 0).keeps .cluster]
    show (Tab.get {} (y.chanTrigger 0 6).cluster 0).trigPending.length = 1
    rw [chanTrigger_cluster hcluster]
    decide +kernel
  rw [endingOut_trip] at hsignalled
  exact absurd hsignalled (by decide)

end Sys2Proof
end

section
/-! PROOFS. Forcing outputs off: their phases have both gates and PEN low, and stay so; an output's STATE and LAST_STOP after its
failure (R248, R254). -/
set_option Elab.async false
namespace Sys2Proof.Machine

/-- What every item of a list keeps holds after the list. -/
theorem State.each_holds {P : State → Prop} {f : State → Nat → State} (hkeep : ∀ t m, P t → P (f t m)) (l : List Nat) {s : State}
    (h : P s) : P (s.each l f) := by
  induction l generalizing s with
  | nil => exact h
  | cons m l ih => exact ih (hkeep s m h)

/-- What one item of a list makes true holds after the list, where every item keeps it. -/
theorem State.each_makes {P : State → Prop} {f : State → Nat → State} {l : List Nat} {n : Nat} (hn : n ∈ l)
    (hmake : ∀ t, P (f t n)) (hkeep : ∀ t m, P t → P (f t m)) (s : State) : P (s.each l f) := by
  induction l generalizing s with
  | nil => cases hn
  | cons m l ih =>
    rcases List.mem_cons.mp hn with rfl | hn
    · exact State.each_holds hkeep l (hmake s)
    · exact ih hn (f s m)

/-- Both gates and PEN of a channel are low. -/
def Chan.isLow (c : Chan) : Prop := c.drive = .off ∧ c.pen = false

theorem Chan.isLow_lowUnlessLocked (st : ChState) (c : Chan) : (c.lowUnlessLocked st).isLow := by
  unfold Chan.lowUnlessLocked
  split <;> exact ⟨rfl, rfl⟩

/-- Every channel that is low in `s` is low in `t`. -/
def State.KeepsLow (s t : State) : Prop := ∀ c, (s.chanAt c).isLow → (t.chanAt c).isLow

namespace State.KeepsLow

theorem refl (s : State) : s.KeepsLow s := fun _ h => h

theorem trans {s t u : State} (h : s.KeepsLow t) (h' : t.KeepsLow u) : s.KeepsLow u := fun c hc => h' c (h c hc)

theorem of_eq {s t u : State} (h : s.KeepsLow t) (hchan : u.chan = t.chan) : s.KeepsLow u := fun c hc => by
  rw [State.chanAt, hchan]
  exact h c hc

theorem foot {s t u : State} {m : Nat} (h : s.KeepsLow t) (hf : Foot m t u) (hchan : Part.chan.holds m = false := by rfl) :
    s.KeepsLow u := h.of_eq (hf.keeps .chan hchan)

theorem each {s t : State} (h : s.KeepsLow t) (l : List Nat) {f : State → Nat → State}
    (hf : ∀ (x : State) (k : Nat), x.KeepsLow (f x k)) : s.KeepsLow (t.each l f) := by
  induction l generalizing t with
  | nil => exact h
  | cons k l ih => exact ih (h.trans (hf t k))

theorem ite {s x y : State} {p : Prop} [Decidable p] (hx : s.KeepsLow x) (hy : s.KeepsLow y) : s.KeepsLow (if p then x else y) := by
  split
  · exact hx
  · exact hy

theorem setChan {s t : State} (h : s.KeepsLow t) (c : Nat) {f : Chan → Chan} (hf : ∀ x, x.isLow → (f x).isLow) :
    s.KeepsLow (t.setChan c f) := by
  intro j hj
  rw [State.chanAt_setChan]
  split
  · next heq => exact hf _ (heq ▸ h j hj)
  · exact h j hj

theorem setTrip {s t : State} (h : s.KeepsLow t) (k c : Nat) : s.KeepsLow (t.setTrip k c) := by
  have hcode : ∀ code, s.KeepsLow (t.setChan c fun x => { x with thr := { x.thr with trip := code } }) :=
    fun code => h.setChan c fun _ hx => hx
  exact hcode (t.tripCode k c)

theorem lowPhase {s t : State} (h : s.KeepsLow t) (k : Nat) (st : ChState) (c : Nat) : s.KeepsLow (t.lowPhase k st c) :=
  (h.setChan c fun _ _ => Chan.isLow_lowUnlessLocked _ _).setTrip k c

theorem lowOutput {s t : State} (h : s.KeepsLow t) (k : Nat) (st : ChState) : s.KeepsLow (t.lowOutput k st) :=
  h.each _ fun x c => (refl x).lowPhase k st c

theorem forceOut {s t : State} (h : s.KeepsLow t) (k state cause : Nat) (record : Bool) :
    s.KeepsLow (t.forceOut k state cause record) := by
  unfold State.forceOut
  exact .ite (((h.lowOutput k _).of_eq rfl).of_eq rfl) ((h.lowOutput k _).of_eq rfl)

theorem endRamp {s t : State} (h : s.KeepsLow t) (k : Nat) : s.KeepsLow (t.endRamp k) := (h.lowOutput k _).of_eq rfl

theorem forceDependant {s t : State} (h : s.KeepsLow t) (j : Nat) : s.KeepsLow (t.forceDependant j) := by
  unfold State.forceDependant
  exact .ite (h.forceOut _ _ _ _) (.ite (h.of_eq rfl) (.ite (h.endRamp _) (.ite (h.of_eq rfl) h)))

theorem forceDependants {s t : State} (h : s.KeepsLow t) (k : Nat) : s.KeepsLow (t.forceDependants k) :=
  h.each _ fun x j => (refl x).forceDependant j

end State.KeepsLow

/-- A phase of an output goes low with it. -/
theorem State.lowOutput_isLow {s : State} {k c : Nat} (hc : c ∈ s.phases k) (st : ChState) : ((s.lowOutput k st).chanAt c).isLow := by
  refine State.each_makes (P := fun t => (t.chanAt c).isLow) hc (fun t => ?_) (fun t m ht => (KeepsLow.refl t).lowPhase k st m c ht) s
  refine ((KeepsLow.refl _).setTrip k c) c ?_
  rw [State.chanAt_setChan, if_pos rfl]
  exact Chan.isLow_lowUnlessLocked _ _

theorem State.forceOut_isLow {s : State} {k c : Nat} (hc : c ∈ s.phases k) (state cause : Nat) (record : Bool) :
    ((s.forceOut k state cause record).chanAt c).isLow := by
  have hlow := State.lowOutput_isLow hc .forcedOff
  unfold State.forceOut
  dsimp only
  split <;> exact hlow

theorem State.failOut_isLow {s : State} {k c : Nat} (hc : c ∈ s.phases k) (cause : Nat) (record : Bool) :
    ((s.failOut k cause record).chanAt c).isLow :=
  ((KeepsLow.refl _).forceDependants k) c (State.forceOut_isLow hc 4 cause record)

/-! ### The output -/

/-- An output forced off, after the change of its identification run (R226). -/
theorem State.outAt_forceOut (s : State) (k state cause : Nat) (record : Bool) (j : Nat) :
    (s.forceOut k state cause record).outAt j = if j = k then ((s.outAt k).abortIdent 0x02 true).halt state cause s.budget.tides
      else s.outAt j := by
  have hout : (s.lowOutput k .forcedOff).out = s.out := (s.lowOutput_foot k _).keeps .out
  have htides : (s.lowOutput k .forcedOff).budget = s.budget := (s.lowOutput_foot k _).keeps .budget
  have hset : ((s.lowOutput k .forcedOff).setOut k fun o => (o.abortIdent 0x02 true).halt state cause
      (s.lowOutput k .forcedOff).budget.tides).outAt j = if j = k then ((s.outAt k).abortIdent 0x02 true).halt state cause s.budget.tides
      else s.outAt j := by
    rw [State.outAt_setOut, State.outAt, State.outAt, hout, htides, ← State.outAt, ← State.outAt]
  unfold State.forceOut
  dsimp only
  split <;> exact hset

theorem State.endRamp_outAt_ne {s : State} {j k : Nat} (h : k ≠ j) : (s.endRamp j).outAt k = s.outAt k := by
  unfold State.endRamp
  rw [State.outAt_setOut, if_neg h, State.outAt, show (s.lowOutput j .forcedOff).out = s.out from (s.lowOutput_foot j _).keeps .out]
  rfl

theorem State.forceDependant_outAt_ne {s : State} {j k : Nat} (h : k ≠ j) : (s.forceDependant j).outAt k = s.outAt k := by
  unfold State.forceDependant
  dsimp only
  split
  · rw [State.outAt_forceOut, if_neg h]
  · split
    · rw [State.outAt_setOut, if_neg h]
    · split
      · exact State.endRamp_outAt_ne h
      · split
        · rw [State.outAt_setOut, if_neg h]
        · rfl

theorem State.not_mem_dependants {s : State} {l : List Nat} {k : Nat} (h : k ∈ l) : k ∉ s.dependants l := by
  unfold State.dependants
  rw [List.mem_filter]
  rintro ⟨-, hnot⟩
  rw [List.contains_iff_mem.mpr h] at hnot
  cases hnot

/-- The dependants' forcing off leaves every other output alone. -/
theorem State.each_forceDependant_outAt {k : Nat} {l : List Nat} (h : k ∉ l) (s : State) :
    (s.each l State.forceDependant).outAt k = s.outAt k := by
  induction l generalizing s with
  | nil => rfl
  | cons j l ih =>
    rw [List.mem_cons, not_or] at h
    exact (ih h.2 _).trans (State.forceDependant_outAt_ne h.1)

theorem State.failOut_outAt (s : State) (k cause : Nat) (record : Bool) :
    (s.failOut k cause record).outAt k = ((s.outAt k).abortIdent 0x02 true).halt 4 cause s.budget.tides :=
  (State.each_forceDependant_outAt (State.not_mem_dependants List.mem_cons_self) _).trans
    ((s.outAt_forceOut k 4 cause record k).trans (if_pos rfl))

/-- The sequencer's own transitions leave an output in STATE 4 alone. -/
theorem State.settle_failed {s : State} {k : Nat} (h : (s.outAt k).state = 4) : (s.settle.outAt k).state = 4 :=
  (s.settle_settles k).state.elim (fun he => he.trans h) fun ⟨h0, _⟩ => absurd (h0.symm.trans h) (by decide)

end Sys2Proof.Machine
end

section
/-! PROOFS. The scanner (R246, R252, R255, R260 to R264). -/
set_option Elab.async false
namespace Sys2Proof.Machine

/-! ### Codes -/

theorem scannerCode_le (v : Int) : scannerCode v ≤ 4095 := by
  unfold scannerCode clampI
  split
  · decide
  · split
    · decide
    · omega

theorem scannerCode_of_neg {v : Int} (h : v < 0) : scannerCode v = 0 := by
  unfold scannerCode clampI rdiv
  split
  · rfl
  · split <;> omega

theorem scannerCode_of_high {v : Int} (h : 4095 * 93750000 < v * 256) : scannerCode v = 4095 := by
  unfold scannerCode clampI rdiv
  split
  · omega
  · split
    · rfl
    · omega

/-- The nearest code of a voltage within the range. -/
theorem scannerCode_nearest {v : Int} (hlo : 0 ≤ v) (hhi : v * 256 ≤ 4095 * 93750000) :
    2 * ((scannerCode v : Int) * 93750000 - v * 256).natAbs ≤ 93750000 := by
  unfold scannerCode clampI rdiv
  split
  · omega
  · split <;> omega

/-! ### Slots -/

theorem State.noteSlot_outAt (s : State) (slot v flags k : Nat) : (s.noteSlot slot v flags).outAt k = s.outAt k := rfl

theorem State.shutdownRecord_outAt (s : State) (k slot j : Nat) : (s.shutdownRecord k slot).outAt j = s.outAt j := rfl

/-- The scanner has noted a code in a slot, and no other code. -/
structure State.Notes (s t : State) (slot v : Nat) : Prop where
  code : Tab.get 0 t.scan.codes slot = v
  others : ∀ n, n ≠ slot → Tab.get 0 t.scan.codes n = Tab.get 0 s.scan.codes n
  rest : ∃ c f, t.scan = { s.scan with codes := c, flags := f }

theorem State.noteSlot_notes (s : State) (slot v flags : Nat) : s.Notes (s.noteSlot slot v flags) slot v :=
  ⟨(Tab.get_set _ _ _ _ _).trans (if_pos rfl), fun _ hn => (Tab.get_set _ _ _ _ _).trans (if_neg hn), _, _, rfl⟩

/-- A code noted again, or after steps that leave the scanner alone. -/
theorem State.Notes.again {s t u : State} {slot v : Nat} (h : s.Notes t slot v) (hscan : u.scan = t.scan) (flags : Nat) :
    s.Notes (u.noteSlot slot v flags) slot v := by
  obtain ⟨c, f, hrest⟩ := h.rest
  refine ⟨(Tab.get_set _ _ _ _ _).trans (if_pos rfl), fun n hn => ?_, Tab.set 0 u.scan.codes slot v, Tab.set 0 u.scan.flags slot flags, ?_⟩
  · refine ((Tab.get_set _ _ _ _ _).trans (if_neg hn)).trans ?_
    rw [hscan]
    exact h.others n hn
  · show ({ u.scan with codes := _, flags := _ } : Scanner) = _
    rw [hscan, hrest]

theorem State.Notes.of_eq {s t u : State} {slot v : Nat} (h : s.Notes t slot v) (hscan : u.scan = t.scan) : s.Notes u slot v := by
  obtain ⟨c, f, hrest⟩ := h.rest
  refine ⟨?_, fun n hn => ?_, c, f, hscan.trans hrest⟩
  · rw [hscan]
    exact h.code
  · rw [hscan]
    exact h.others n hn

theorem State.Notes.from_eq {s t u : State} {slot v : Nat} (h : t.Notes u slot v) (hscan : t.scan = s.scan) : s.Notes u slot v := by
  obtain ⟨c, f, hrest⟩ := h.rest
  exact ⟨h.code, fun n hn => by rw [← hscan]; exact h.others n hn, c, f, by rw [← hscan]; exact hrest⟩

theorem State.supvSlot_notes (s : State) (slot code : Nat) : s.Notes (s.supvSlot slot code) slot code := by
  unfold State.supvSlot
  split
  · exact s.noteSlot_notes slot code _
  · next k _ =>
    split
    · refine State.Notes.of_eq ?_ ((State.outputGood_foot _ k).keeps .scan)
      exact (State.noteSlot_notes _ slot code _).from_eq rfl
    · exact s.noteSlot_notes slot code _

theorem State.tmpSlot_notes (s : State) (ch code : Nat) : s.Notes (s.tmpSlot ch code) (128 + ch) code := by
  unfold State.tmpSlot
  split
  · exact s.noteSlot_notes _ code _
  · next k _ =>
    split
    · have h := s.noteSlot_notes (128 + ch) code (b2n (tmpWarn code || tmpBad code))
      dsimp only
      generalize s.noteSlot (128 + ch) code (b2n (tmpWarn code || tmpBad code)) = t at h ⊢
      split
      · exact h.again (((t.judgeTmp k).tmpClear_foot k).keeps .scan |>.trans ((t.judgeTmp_foot k).keeps .scan)) _
      · exact h
    · exact s.noteSlot_notes _ code _

theorem State.stringSlot_notes (s : State) (slot code : Nat) : s.Notes (s.stringSlot slot code) slot code := by
  unfold State.stringSlot
  have h := s.noteSlot_notes slot code 0
  dsimp only
  split
  · exact h.of_eq (((State.probeScan_foot _ _ _).keeps .scan).trans ((State.strvSlot_foot _ _ _).keeps .scan))
  · exact h.of_eq rfl

theorem State.shuntSlot_notes (s : State) (slot code : Nat) : s.Notes (s.shuntSlot slot code) slot
    (if slot - 340 < ((upto 32).filter fun k => decide (s.shuntEnable k = 1)).length then code else 0) := by
  unfold State.shuntSlot
  split
  · next k hk =>
    rw [if_pos (List.getElem?_eq_some_iff.mp hk).1]
    exact (s.noteSlot_notes slot code 0).of_eq rfl
  · next hk =>
    rw [if_neg (Nat.not_lt.mpr (List.getElem?_eq_none_iff.mp hk))]
    exact s.noteSlot_notes slot 0 0

/-- The slots below 340 hold their code. -/
theorem State.convertSlot_low (s : State) {slot : Nat} (h : slot < 340) (code : Nat) : s.Notes (s.convertSlot slot code) slot code := by
  unfold State.convertSlot
  split
  · exact s.supvSlot_notes slot code
  · split
    · next h128 _ =>
      have h' := s.tmpSlot_notes (slot - 128) code
      rwa [show 128 + (slot - 128) = slot by omega] at h'
    · split
      · exact s.stringSlot_notes slot code
      · exact s.noteSlot_notes slot code 0

theorem State.convertSlot_shunt (s : State) {slot : Nat} (hlo : 340 ≤ slot) (hhi : slot < 356) (code : Nat) :
    s.convertSlot slot code = s.shuntSlot slot code := by
  unfold State.convertSlot
  rw [if_neg (by omega), if_neg (by omega), if_neg (by omega), if_neg (by omega), if_pos hhi]

theorem State.convertSlot_ground (s : State) (code : Nat) : s.convertSlot 356 code =
    { s.noteSlot 356 code 0 with scan := { (s.noteSlot 356 code 0).scan with gndBad := decide (5 < code) } } := rfl

theorem State.convertSlot_reference (s : State) (code : Nat) : s.convertSlot 357 code =
    { s.noteSlot 357 code 0 with scan := (s.noteSlot 357 code 0).scan.check code } := rfl

theorem State.convertSlot_idle (s : State) {slot : Nat} (h : 357 < slot) (code : Nat) : s.convertSlot slot code = s := by
  unfold State.convertSlot
  rw [if_neg (by omega), if_neg (by omega), if_neg (by omega), if_neg (by omega), if_neg (by omega), if_neg (by omega), if_neg (by omega)]

theorem Scanner.check_good {x : Scanner} {code : Nat} (hgnd : x.gndBad = false) (hlo : 3265 ≤ code) (hhi : code ≤ 3289) :
    (x.check code).badRun = 0 ∧ (x.check code).goodRun = x.goodRun + 1 := by
  have h : ¬(x.gndBad || decide (code < 3265) || decide (3289 < code)) = true := by
    rw [hgnd]
    simp
    omega
  rw [Scanner.check, if_neg h]
  exact ⟨rfl, rfl⟩

theorem Scanner.check_bad {x : Scanner} {code : Nat} (hbad : x.gndBad = true ∨ code < 3265 ∨ 3289 < code) :
    (x.check code).badRun = x.badRun + 1 ∧ (x.check code).goodRun = 0 := by
  have h : (x.gndBad || decide (code < 3265) || decide (3289 < code)) = true := by
    simp only [Bool.or_eq_true, decide_eq_true_eq, or_assoc]
    exact hbad
  rw [Scanner.check, if_pos h]
  exact ⟨rfl, rfl⟩

/-- What a conversion leaves of the place in the sequence and of the codes of the other slots. -/
theorem State.convertSlot_frame (s : State) (slot code : Nat) :
    (s.convertSlot slot code).scan.total = s.scan.total ∧
    ∀ n, n ≠ slot → Tab.get 0 (s.convertSlot slot code).scan.codes n = Tab.get 0 s.scan.codes n := by
  have hnotes : ∀ {t : State} {v : Nat}, s.Notes t slot v →
      t.scan.total = s.scan.total ∧ ∀ n, n ≠ slot → Tab.get 0 t.scan.codes n = Tab.get 0 s.scan.codes n := by
    rintro t v ⟨-, hothers, c, f, hrest⟩
    exact ⟨by rw [hrest], hothers⟩
  by_cases h340 : slot < 340
  · exact hnotes (s.convertSlot_low h340 code)
  · by_cases h356 : slot < 356
    · rw [s.convertSlot_shunt (by omega) h356]
      exact hnotes (s.shuntSlot_notes slot code)
    · by_cases hg : slot = 356
      · subst hg
        obtain ⟨-, hothers, -⟩ := s.noteSlot_notes 356 code 0
        exact ⟨rfl, hothers⟩
      · by_cases hr : slot = 357
        · subst hr
          rw [State.convertSlot_reference]
          obtain ⟨-, hothers, -⟩ := s.noteSlot_notes 357 code 0
          unfold Scanner.check
          dsimp only
          split <;> exact ⟨rfl, hothers⟩
        · rw [s.convertSlot_idle (by omega)]
          exact ⟨rfl, fun _ _ => rfl⟩

/-- The filter counter of an output after OUTPUT_GOOD is looked for. -/
theorem State.outputGood_supvCount (s : State) (k j : Nat) : ((s.outputGood k).outAt j).supvCount = (s.outAt j).supvCount := by
  unfold State.outputGood
  dsimp only
  split
  · obtain ⟨st, ph, hset, -, -⟩ := State.settle_settles (s.setOut k fun o =>
      { o with
        state := 3
        phase := .none
        inHold := false
        holdUs := 0
        goodTides := 0
        ident := { o.ident with nextRun := 10000, retryAt := none, retries := 0 } }) j
    rw [hset]
    show ((State.setOut s k _).outAt j).supvCount = _
    rw [State.outAt_setOut]
    split
    · next hj => rw [hj]
    · rfl
  · rfl

theorem Out.holdScan_supvCount (o : Out) : o.holdScan.supvCount = o.supvCount := by
  unfold Out.holdScan
  split
  · split <;> rfl
  · rfl

/-- The filter counter of the output whose lead a slot is (R261). -/
theorem State.supvSlot_count {s : State} {slot k : Nat} (hlead : firstN (fun j => decide (s.lead j = slot)) s.enabledOuts = some k)
    (hjudged : (s.outAt k).judged = true) (hverdicts : s.verdicts = true) (code : Nat) :
    ((s.supvSlot slot code).outAt k).supvCount =
      if (s.outAt k).highCode < code ∨ ((s.outAt k).state = 3 ∧ code < (s.outAt k).lowCode) then (s.outAt k).supvCount + 1 else 0 := by
  unfold State.supvSlot
  rw [hlead]
  dsimp only
  rw [hjudged, hverdicts, if_pos (show (true && true) = true from rfl), State.outputGood_supvCount]
  rw [State.noteSlot_outAt, State.outAt_setOut, if_pos rfl, Out.holdScan_supvCount]
  show (if Out.supvOutside _ _ then _ else _) = _
  simp only [Out.supvOutside, Bool.or_eq_true, Bool.and_eq_true, decide_eq_true_eq]

/-! ### Shutdowns -/

/-- A shutdown by the controller with the token (R261): STATE 4 with LAST_STOP 2, the phases low. -/
theorem State.scannerStop_stops {s : State} {k : Nat} (ch event slot : Nat) (htoken : s.token = true) :
    ((s.scannerStop k ch event slot).outAt k).state = 4 ∧ ((s.scannerStop k ch event slot).outAt k).lastStop = 2 ∧
    ∀ c, c ∈ (s.scannerStop k ch event slot).phases k → ((s.scannerStop k ch event slot).chanAt c).drive = .off ∧
      ((s.scannerStop k ch event slot).chanAt c).pen = false := by
  unfold State.scannerStop
  dsimp only
  rw [if_pos htoken]
  generalize (State.each (s.chanFault ch event (Tab.get 0 s.scan.codes slot) (if event = 6 then some 3 else none)) _ _) = y
  have hout := y.failOut_outAt k 2 false
  obtain ⟨z, hz⟩ : ∃ z, z = y.failOut k 2 false := ⟨_, rfl⟩
  rw [← hz] at hout ⊢
  obtain ⟨w, hw⟩ : ∃ w, w = ((z.setOut k fun o => { o with shutAt := y.scan.total }).setOut k fun x =>
      { x with lowCode := (s.outAt k).lowCode, highCode := (s.outAt k).highCode }).shutdownRecord k slot := ⟨_, rfl⟩
  rw [← hw]
  have hwout : (w.outAt k).state = 4 ∧ (w.outAt k).lastStop = 2 := by
    have hat : w.outAt k = { z.outAt k with
        shutAt := y.scan.total
        lowCode := (s.outAt k).lowCode
        highCode := (s.outAt k).highCode } := by
      rw [hw]
      rw [State.shutdownRecord_outAt, State.outAt_setOut, if_pos rfl, State.outAt_setOut, if_pos rfl]
    rw [hat, hout]
    exact ⟨rfl, rfl⟩
  have hchan : w.settle.chan = z.chan := by
    rw [State.settle_chan, hw]
    rfl
  have hphases : w.settle.phases k = y.phases k := by
    have hdesc : w.settle.desc = y.desc :=
      (show w.settle.desc = w.desc from w.settle_foot.keeps .desc).trans
        ((show w.desc = z.desc by rw [hw]; rfl).trans (show z.desc = y.desc by rw [hz]; exact (y.failOut_foot k 2 false).keeps .desc))
    unfold State.phases State.outPhases State.outFirstChannel State.field
    rw [hdesc]
  refine ⟨State.settle_failed hwout.1, (w.settle_settles k).lastStop.trans hwout.2, fun c hc => ?_⟩
  rw [hphases] at hc
  rw [State.chanAt, hchan, ← State.chanAt, hz]
  exact State.failOut_isLow hc 2 false

/-! ### Temperatures -/

theorem State.condition_chanAt (s : State) (n : Nat) (b : Bool) (c : Nat) : (s.condition n b).chanAt c = s.chanAt c := rfl

/-- A phase's flags as they are set. -/
theorem State.setTemps_chanAt (s : State) (ch : Nat) (warn bad : Bool) (c : Nat) :
    (((s.setTemps ch warn bad).chanAt c).tempWarn = if c = ch then warn else (s.chanAt c).tempWarn) ∧
    (((s.setTemps ch warn bad).chanAt c).tempFault = if c = ch then bad else (s.chanAt c).tempFault) := by
  unfold State.setTemps
  dsimp only
  split
  · next h =>
    obtain ⟨hw, hb⟩ := h
    split
    · next hc => rw [hc]; exact ⟨hw.symm, hb.symm⟩
    · exact ⟨rfl, rfl⟩
  · rw [State.condition_chanAt, State.chanAt_setChan]
    split <;> exact ⟨rfl, rfl⟩

/-- A temperature event on one phase: its flags, and the event of its source. -/
def State.tmpStep (event : Nat) (s : State) (c : Nat) : State :=
  (s.setTemps c ((s.chanAt c).tempWarn || event = 8) ((s.chanAt c).tempFault || event = 9)).raiseChan c event (s.tmpCode c)

theorem State.tmpEvent_eq (s : State) (k event : Nat) (flag : Chan → Bool) (p : Nat → Bool) :
    s.tmpEvent k event flag p = s.each ((s.phases k).filter fun c => !flag (s.chanAt c) && p (s.tmpCode c)) (State.tmpStep event) := rfl

/-- A temperature event sets the flags of its phase, and clears none. -/
theorem State.tmpStep_flags (event : Nat) (s : State) (c m : Nat) :
    (((s.tmpStep event c).chanAt m).tempWarn = if m = c then (s.chanAt c).tempWarn || event = 8 else (s.chanAt m).tempWarn) ∧
    (((s.tmpStep event c).chanAt m).tempFault = if m = c then (s.chanAt c).tempFault || event = 9 else (s.chanAt m).tempFault) := by
  unfold State.tmpStep
  obtain ⟨hw, hb⟩ := s.setTemps_chanAt c ((s.chanAt c).tempWarn || event = 8) ((s.chanAt c).tempFault || event = 9) m
  generalize s.setTemps c ((s.chanAt c).tempWarn || decide (event = 8)) ((s.chanAt c).tempFault || decide (event = 9)) = u at hw hb ⊢
  have hkept := (State.Steady.raise u c event (u.channelData c (s.tmpCode c))).words m
  simp only [Chan.kept, Prod.mk.injEq] at hkept
  obtain ⟨hkw, hkb, -⟩ := hkept
  exact ⟨hkw.trans hw, hkb.trans hb⟩

/-- Every phase whose code meets the level has its flag after the event. -/
theorem State.tmpEvent_flags {s : State} {k event : Nat} {flag : Chan → Bool} {p : Nat → Bool} {c : Nat} (hc : c ∈ s.phases k)
    (hp : p (s.tmpCode c) = true)
    (hflag : ∀ (t : State) (m n : Nat), flag ((t.tmpStep event n).chanAt m) = if m = n then true else flag (t.chanAt m)) :
    flag ((s.tmpEvent k event flag p).chanAt c) = true := by
  have hkeep : ∀ (t : State) (m : Nat), flag (t.chanAt c) = true → flag ((t.tmpStep event m).chanAt c) = true := by
    intro t m ht
    rw [hflag]
    split
    · rfl
    · exact ht
  rw [State.tmpEvent_eq]
  by_cases hset : flag (s.chanAt c) = true
  · exact State.each_holds (P := fun t => flag (t.chanAt c) = true) hkeep _ hset
  · refine State.each_makes (P := fun t => flag (t.chanAt c) = true) (n := c) ?_ (fun t => ?_) hkeep s
    · rw [List.mem_filter, Bool.and_eq_true, hp]
      exact ⟨hc, by rw [Bool.not_eq_true] at hset; rw [hset]; rfl, rfl⟩
    · exact (hflag t c c).trans (if_pos rfl)

end Sys2Proof.Machine

namespace Sys2Proof
open Machine

/-- Settles O46: slots, shutdowns, temperature levels and the self-check of the scanner. -/
theorem scannerRows : Obligations.ScannerRows := by
  intro s
  refine ⟨fun v => ⟨scannerCode_le v, scannerCode_of_neg, scannerCode_of_high, scannerCode_nearest⟩, fun hscan hslot v code hcode => ?_,
    fun hscan v => next_congr (if_neg (by rw [hscan]; exact Bool.false_ne_true)),
    fun k hen hjudged hcount hverdicts hscan => ⟨fun htoken => ?_, fun htoken => ?_⟩, fun k hno => next_congr (if_neg ?_),
    fun k hen hjudged hverdicts hscan => ⟨fun hcount => ?_, fun hcount c hc htoken => ?_, fun hcount => ?_⟩,
    fun k l hno => next_congr (if_neg ?_), fun hw hbad => ?_, fun hw hgood => ?_, fun b hfalse htrue => ?_⟩
  · obtain ⟨x, hx⟩ : ∃ x, x = s.convertSlot s.scan.slot code := ⟨_, rfl⟩
    obtain ⟨htotal, hothers⟩ := s.convertSlot_frame s.scan.slot code
    have hfoot := s.convertSlot_foot s.scan.slot code
    rw [← hx] at htotal hothers hfoot
    refine ⟨{ x with scan := { x.scan with slot := (s.scan.slot + 1) % 512, total := x.scan.total + 1 } }, next_congr ((if_pos hscan).trans ?_),
      rfl, congrArg (· + 1) htotal, ?_, fun hlo hhi => ?_, hothers, fun k hlead hlow hjudged hverdicts => ?_, fun hat => ?_,
      fun hat hgnd hlo hhi => ?_, fun hat hbad => ?_, ?_⟩
    · rw [hx, hcode]
    · rintro (hlow | hat | hat)
      · rw [hx]
        exact (s.convertSlot_low hlow code).code
      · show Tab.get 0 x.scan.codes _ = _
        rw [hx, hat]
        exact (s.noteSlot_notes 356 code 0).code
      · show Tab.get 0 x.scan.codes _ = _
        rw [hx, hat, State.convertSlot_reference]
        unfold Scanner.check
        dsimp only
        split <;> exact (s.noteSlot_notes 357 code 0).code
    · show Tab.get 0 x.scan.codes _ = _
      rw [hx, s.convertSlot_shunt hlo hhi]
      exact (s.shuntSlot_notes _ code).code
    · show (x.outAt k).supvCount = _
      rw [hx, show s.convertSlot s.scan.slot code = s.supvSlot s.scan.slot code from if_pos hlow]
      exact State.supvSlot_count hlead hjudged hverdicts code
    · show x.scan.gndBad = _
      rw [hx, hat]
      rfl
    · show x.scan.badRun = 0 ∧ x.scan.goodRun = _
      rw [hx, hat, State.convertSlot_reference]
      exact Scanner.check_good (x := (s.noteSlot 357 code 0).scan) hgnd hlo hhi
    · show x.scan.badRun = _ ∧ x.scan.goodRun = 0
      rw [hx, hat, State.convertSlot_reference]
      exact Scanner.check_bad (x := (s.noteSlot 357 code 0).scan) hbad
    · exact Only.trans (hfoot.onlyIn _) fun p hp => by cases p <;> first | rfl | exact absurd hp (by decide)
  · obtain ⟨hstate, hlast, hlow⟩ := State.scannerStop_stops (k := k) (s.lead k) 6 (s.lead k) htoken
    exact ⟨_, next_congr (if_pos ⟨hen, hjudged, hcount, hverdicts, hscan⟩), hstate, hlast, hlow⟩
  · refine ⟨s.setOut k fun x => { x with supvCount := 0, tmpCount := 0 }, next_congr ((if_pos ⟨hen, hjudged, hcount, hverdicts, hscan⟩).trans
      (if_neg ?_)), (State.outAt_setOut _ _ _ _).trans (if_pos rfl), (State.setOut_foot _ _ _).onlyIn _⟩
    rw [htoken]
    exact Bool.false_ne_true
  · rintro ⟨-, hjudged, hcount, hverdicts, -⟩
    rcases hno with h | h | h
    · omega
    · rw [h] at hjudged
      cases hjudged
    · rw [h] at hverdicts
      cases hverdicts
  · refine ⟨s.setOut k fun o => { o with tmpWarnCount := 0 }, _, next_congr ((if_pos ⟨hen, hjudged, hverdicts, hscan⟩).trans
      (if_pos ⟨rfl, hcount⟩)), rfl, (State.outAt_setOut _ _ _ _).trans (if_pos rfl), (State.setOut_foot _ _ _).onlyIn _,
      fun c hc hwarn => State.tmpEvent_flags hc hwarn fun t m n => ?_⟩
    refine (State.tmpStep_flags 8 t n m).1.trans ?_
    split
    · exact Bool.or_true _
    · rfl
  · obtain ⟨hstate, hlast, hlow⟩ := State.scannerStop_stops (k := k) c 7 (128 + c) htoken
    refine ⟨_, next_congr ((if_pos ⟨hen, hjudged, hverdicts, hscan⟩).trans ((if_neg (by simp)).trans ((if_pos ⟨rfl, hcount⟩).trans ?_))),
      hstate, hlast, hlow⟩
    have hc' : firstN (fun c => tmpTrip (s.tmpCode c)) (s.phases k) = some c := hc
    rw [hc']
  · refine ⟨s.setOut k fun o => { o with tmpBadCount := 0 }, _, next_congr ((if_pos ⟨hen, hjudged, hverdicts, hscan⟩).trans
      ((if_neg (by simp)).trans ((if_neg (by simp)).trans (if_pos ⟨rfl, hcount⟩)))), rfl, (State.outAt_setOut _ _ _ _).trans (if_pos rfl),
      (State.setOut_foot _ _ _).onlyIn _, fun c hc hbad => State.tmpEvent_flags hc hbad fun t m n => ?_⟩
    refine (State.tmpStep_flags 9 t n m).2.trans ?_
    split
    · exact Bool.or_true _
    · rfl
  · rintro ⟨-, hjudged, -⟩
    rw [hno] at hjudged
    cases hjudged
  · exact ⟨{ s with scan := { s.scan with withheld := true } }, next_congr (if_pos (by simp [hw, hbad])), rfl,
      fun p hp => by cases p <;> first | rfl | exact absurd hp (by decide)⟩
  · refine ⟨State.condition { s with scan := { s.scan with withheld := false } } 308 false,
      next_congr ((if_neg (by simp)).trans (if_pos (by simp [hw, hgood]))), rfl, ?_,
      Only.trans (t := { s with scan := { s.scan with withheld := false } })
        (fun p hp => by cases p <;> first | rfl | exact absurd hp (by decide)) ((State.condition_foot _ _ _).onlyIn _)⟩
    exact congrArg FaultSrc.present ((State.srcAt_setSrc _ _ _ _).trans (if_pos rfl))
  · cases b with
    | false =>
      refine next_congr ((if_neg ?_).trans (if_neg (by simp)))
      rcases hfalse rfl with h | h
      · simp [h]
      · simp [h]
    | true =>
      refine next_congr ((if_neg (by simp)).trans (if_neg ?_))
      rcases htrue rfl with h | h
      · simp [h]
      · simp [h]

end Sys2Proof
end

section
/-! PROOFS. Starts of outputs, the shorted high-side test, restarts and identification runs (R191 to R193, R225, R228 to R231,
R249 to R251, R265). -/
set_option Elab.async false
namespace Sys2Proof.Machine

/-- Every phase of an output by its place, each updated by a step on its channel alone. -/
theorem State.each_phaseAt {s : State} {k n : Nat} (f : State → Nat → State) (g : Nat → Chan → Chan)
    (hstep : ∀ t i, s.ChansOnly t → f t i = t.setChan (s.lead k + i) (g i)) :
    s.ChansOnly (s.each (upto n) f) ∧
    ∀ i, i < n → (s.each (upto n) f).chanAt (s.lead k + i) = g i (s.chanAt (s.lead k + i)) := by
  have h := State.each_items (fun t i => t.chanAt (s.lead k + i)) f (fun t => s.ChansOnly t) g (fun t i ht => by
    rw [hstep t i ht]
    refine ⟨ht.setChan _ _, fun j => ?_⟩
    simp only [State.chanAt_setChan, Nat.add_left_cancel_iff]) (upto n) (by rw [upto_eq_range]; exact List.nodup_range) (.refl s)
  exact ⟨h.1, fun i hi => (h.2 i).trans (if_pos (mem_upto.mpr hi))⟩

theorem State.exists_phaseAt {s : State} {k c : Nat} (hc : c ∈ s.phases k) : ∃ i, i < (s.phases k).length ∧ c = s.lead k + i := by
  rw [State.mem_phases] at hc
  exact ⟨c - s.lead k, by omega, by omega⟩

theorem State.record_outAt (s : State) (cls event : Nat) (items : Bytes) (k : Nat) : (s.record cls event items).outAt k = s.outAt k := rfl

/-! ### The shorted high-side test -/

/-- A phase in the test (Table 7-9, steps 1 and 2). -/
def State.testedChan (s : State) (k ch : Nat) (v : Int) (c : Chan) : Chan :=
  { (c.low .test) with
    pen := true, refCode := (s.measureV0 ch v).1, v0 := (s.measureV0 ch v).2
    probe := probeLevel ((s.measureV0 ch v).2.getD 0) (s.target k) (s.chProbeLevel ch) / 10000, suspect := false, tripped := false
    cause := c.cause &&& causeKept
    thr := { c.thr with trip := voltageCode (probeLevel ((s.measureV0 ch v).2.getD 0) (s.target k) (s.chProbeLevel ch)) (s.chVsRatio ch) } }

/-- The phases of an output as the test begins. -/
theorem State.each_testPhase (s : State) (k n : Nat) (volts : List Int) :
    let t := s.each (upto n) fun t i => t.testPhase k (t.lead k + i) (volts.getD i 0)
    s.ChansOnly t ∧ ∀ i, i < n → t.chanAt (s.lead k + i) = s.testedChan k (s.lead k + i) (volts.getD i 0) (s.chanAt (s.lead k + i)) :=
  State.each_phaseAt _ (fun i => s.testedChan k (s.lead k + i) (volts.getD i 0)) fun t i ht => by
    rw [ht]
    rfl

/-- The measured sums of the phases, with SUSPECT (Table 7-9, step 4). -/
def State.measuredChan (s : State) (ch : Nat) (samples : List Int) (c : Chan) : Chan :=
  { c with
    testSum := sumI (samples.map currentAdc)
    suspect := decide (s.chOcpLimit ch * 5 < (currentMa (testMean (sumI (samples.map currentAdc))) 0 (s.chIsTransr ch)).natAbs * 100) }

theorem State.each_testMeasure (s : State) (k n : Nat) (samples : List (List Int)) :
    let t := s.each (upto n) fun t i => t.testMeasure (t.lead k + i) (samples.getD i [])
    s.ChansOnly t ∧ ∀ i, i < n → t.chanAt (s.lead k + i) = s.measuredChan (s.lead k + i) (samples.getD i []) (s.chanAt (s.lead k + i)) :=
  State.each_phaseAt _ (fun i => s.measuredChan (s.lead k + i) (samples.getD i [])) fun t i ht => by
    rw [ht]
    rfl

/-- A lockout (R193): the output first, then its phases' causes and events, then the phases low, the record and the sequencer. -/
theorem State.lockout_eq (s : State) (k : Nat) (bad : Nat → Bool) : ∃ (x y : State) (items : Bytes), Only [.out] s x ∧
    (x.outAt k).state = 6 ∧ (x.outAt k).lastStop = 6 ∧ (∀ j, j ≠ k → x.outAt j = s.outAt j) ∧
    y = (s.phases k).foldl (fun y c => y.failPhase c (bad c)) x ∧ items.length = 12 ∧
    s.lockout k bad = (((y.phases k).foldl (fun z c => (z.setChan c (Chan.low .lockedOut)).setTrip k c) y).record 0x09 1 items).settle := by
  refine ⟨s.setOut k fun o => o.halt 6 6 s.budget.tides, _, [byte k, 0] ++ leBytes 2 (s.suspectMap k) ++
    leSat 4 ((s.chanAt (s.lead k)).v0.getD 0xFFFFFFFF) ++ leSat 4 (s.chanAt (s.lead k)).probe, (State.setOut_foot _ _ _).onlyIn _,
    ?_, ?_, fun j hj => (State.outAt_setOut _ _ _ _).trans (if_neg hj), rfl, ?_, rfl⟩
  · rw [State.outAt_setOut, if_pos rfl]
    rfl
  · rw [State.outAt_setOut, if_pos rfl]
    rfl
  · simp [leSat]

/-- The cause of a phase that failed the test (R193). -/
theorem State.failPhase_eq {s : State} {c : Nat} (bad : Bool) (hshorted : (s.chanAt c).shorted = true) : ∃ x : State,
    s.failPhase c bad = (if bad then (x.raiseChan c 3 (s.chanAt c).thr.trip).raiseChan c 4 0 else x.raiseChan c 3 (s.chanAt c).thr.trip) ∧
    (x.chanAt c).cause.testBit 1 = true ∧ (bad = true → (x.chanAt c).cause.testBit 4 = true) ∧ Only [.chan] s x := by
  refine ⟨s.setChan c fun x => { x with cause := x.cause ||| (2 * b2n x.shorted) ||| (64 * b2n x.suspect) |||
    (4 * b2n x.v0.isNone) ||| (16 * b2n bad) }, ?_, ?_, fun hbad => ?_, ?_⟩
  · unfold State.failPhase
    dsimp only
    rw [hshorted, if_pos rfl]
  · rw [State.chanAt_setChan, if_pos rfl]
    simp only [Nat.testBit_or, hshorted, Bool.or_eq_true]
    exact .inl (.inl (.inl (.inr (by decide))))
  · rw [State.chanAt_setChan, if_pos rfl, hbad]
    simp only [Nat.testBit_or, Bool.or_eq_true]
    exact .inr (by decide)
  · exact (State.ChansOnly.refl s).setChan c _ |>.only

/-- What the hand-over of a phase takes and leaves (R208). -/
def Chan.handed (c : Chan) : ChState × Int × Nat × Int := (c.state, c.isOffset, c.thr.trip, c.testSum)

/-- The phases of an output as step 5 hands them over. -/
theorem State.startPhases_spec (s : State) (k : Nat) (u : Int) : s.ChansOnly (s.startPhases k u) ∧ ∀ c ∈ s.phases k,
    ((s.startPhases k u).chanAt c).handed = (.switching, testMean (s.chanAt c).testSum, s.tripCode k c, (s.chanAt c).testSum) := by
  have h := State.each_items (fun t c => (t.chanAt c).handed) (fun t c => t.startPhase k c u) (fun t => s.ChansOnly t)
    (fun c x => (.switching, testMean x.2.2.2, s.tripCode k c, x.2.2.2)) (fun t c ht => ⟨ht.setChan _ _, fun j => by
      have htrip : t.tripCode k c = s.tripCode k c := by
        rw [ht]
        rfl
      unfold State.startPhase
      dsimp only
      rw [State.chanAt_setChan, htrip]
      split <;> rfl⟩) (s.phases k) (s.phases_nodup k) (.refl s)
  exact ⟨h.1, fun c hc => (h.2 c).trans (if_pos hc)⟩

/-- A due swap of banks leaves the measured sums. -/
theorem State.swapBanks_spec (s : State) (k : Nat) : s.ChansOnly (s.swapBanks k) ∧
    ∀ c, ((s.swapBanks k).chanAt c).testSum = (s.chanAt c).testSum := by
  obtain ⟨honly, hchan⟩ := State.each_chans (s := s) (fun t c => t.setChan c Chan.swap) (fun _ => Chan.swap) (fun _ _ _ => rfl)
    (s.phases k) (s.phases_nodup k)
  refine ⟨honly, fun c => (congrArg Chan.testSum (hchan c)).trans ?_⟩
  split
  · unfold Chan.swap
    split <;> rfl
  · rfl

/-! ### Identification runs -/

/-- A run under way that ends with a reason (R226). -/
theorem Out.abortIdent_running {o : Out} (h : o.ident.state = 1) (reason : Nat) (retry : Bool) :
    (o.abortIdent reason retry).ident.state = 3 ∧ (o.abortIdent reason retry).ident.reason = reason ∧
    (o.abortIdent reason retry).ident.epoch = o.ident.epoch := by
  rw [Out.abortIdent, if_pos h]
  exact ⟨rfl, rfl, rfl⟩

/-- What the results of a run state whatever it measured. -/
theorem State.identResult_spec (s : State) (k : Nat) : (s.identResult k).1.state = 2 ∧ (s.identResult k).1.epoch = s.clocks.epoch ∧
    (s.identResult k).1.proposal = true := ⟨rfl, rfl, rfl⟩

/-- The run ends without a proposal. -/
theorem State.identEnds {s : State} {k : Nat} {r : Ident} (reason : Nat) (hrun : (s.outAt k).ident.state = 1) (hepoch : r.epoch = s.clocks.epoch) :
    let t := s.used.setOut k fun o =>
      { o with ident := { o.ident with quality := r.quality, epoch := r.epoch, bins := r.bins } }.abortIdent reason true
    (t.outAt k).ident.state = 3 ∧ (t.outAt k).ident.reason = reason ∧ (t.outAt k).ident.epoch = s.clocks.epoch ∧
    (∀ j, j ≠ k → t.outAt j = s.outAt j) ∧ Only [.out, .log, .freeCount] s t := by
  dsimp only
  rw [State.outAt_setOut, if_pos rfl]
  obtain ⟨hstate, hreason, hep⟩ := Out.abortIdent_running (o := { s.outAt k with ident := { (s.outAt k).ident with
    quality := r.quality, epoch := r.epoch, bins := r.bins } }) hrun reason true
  exact ⟨hstate, hreason, hep.trans hepoch, fun j hj => (State.outAt_setOut _ _ _ _).trans (if_neg hj),
    fun p hp => by cases p <;> first | rfl | exact absurd hp (by decide)⟩

end Sys2Proof.Machine

namespace Sys2Proof
open Machine

/-- Settles O27: starts, the test, restarts and runs. -/
theorem startsRestartsAndIdentRuns : Obligations.StartsRestartsAndIdentRuns := by
  refine ⟨fun s k => ⟨fun volts hen hstate hphase hok hv0 => ?_, fun volts hno => next_congr (if_neg ?_),
    fun ch hout htest hphase => ?_, fun bad => s.lockout_eq k bad, fun c bad hshorted => State.failPhase_eq bad hshorted,
    fun samples htoken hstate hphase hgood => ?_, fun samples i htoken hstate hphase hi hoff => ?_, fun hstate hphase => ?_⟩,
    fun s k => ⟨fun us hen hstate hrestart hlast htries hdelay hmost hsince hmode hwarden => ?_,
      fun us hstate hno => next_congr (if_neg ?_), fun hstate hgood hwarden => ?_, fun hmode hwarden hunits hfirst hfree => ?_,
      fun hrun hevals hwarden => ?_⟩⟩
  · obtain ⟨x, hx⟩ : ∃ x, x = s.setOut k fun o => { o with state := 2, phase := .testing } := ⟨_, rfl⟩
    obtain ⟨hchans, hphaseAt⟩ := x.each_testPhase k (s.phases k).length volts
    obtain ⟨t, ht⟩ : ∃ t, t = x.each (upto (s.phases k).length) fun t i => t.testPhase k (t.lead k + i) (volts.getD i 0) := ⟨_, rfl⟩
    rw [← ht] at hchans hphaseAt
    have hlead : x.lead k = s.lead k := by rw [hx]; rfl
    have hphases : t.phases k = s.phases k := by rw [hchans, hx]; rfl
    have hv0' : ∀ i, i < (s.phases k).length → (t.chanAt (s.lead k + i)).v0 = (s.measureV0 (s.lead k + i) (volts.getD i 0)).2 := by
      intro i hi
      rw [← hlead, hphaseAt i hi, hlead, hx]
      rfl
    have hall : ¬((t.phases k).any fun c => (t.chanAt c).v0.isNone) = true := by
      rw [Bool.not_eq_true, List.any_eq_false, hphases]
      intro c hc
      obtain ⟨i, hi, rfl⟩ := State.exists_phaseAt hc
      rw [hv0' i hi, Option.isNone_eq_false_iff.mpr (hv0 i hi)]
      exact Bool.false_ne_true
    have hxout : x.outAt k = { s.outAt k with state := 2, phase := .testing } := by rw [hx, State.outAt_setOut, if_pos rfl]
    have htout : ∀ j, t.outAt j = x.outAt j := by
      intro j
      rw [hchans]
      rfl
    refine ⟨t, next_congr ((if_pos ⟨hen, hstate, hphase, hok⟩).trans ?_), by rw [htout, hxout], by rw [htout, hxout], fun i hi => ?_,
      fun j hj => ?_, ?_⟩
    · show (if ((State.each (State.setOut s k _) _ _).phases k).any _ = true then _ else _) = _
      rw [hx] at ht
      have hn : ((s.setOut k fun o => { o with state := 2, phase := .testing }).phases k).length = (s.phases k).length := rfl
      rw [hn, ← ht, if_neg hall]
    · rw [← hlead, hphaseAt i hi, hlead, hx]
      exact ⟨rfl, rfl, rfl, rfl, rfl⟩
    · rw [htout, hx, State.outAt_setOut, if_neg hj]
    · refine Only.trans (t := x) ?_ (hchans.only.mono (by decide))
      rw [hx]
      exact (State.setOut_foot _ _ _).onlyIn _
  · rintro ⟨hen, hstate, hphase, hok⟩
    rcases hno with h | h | h | h
    · exact h hen
    · exact h hstate
    · exact h hphase
    · rw [hok] at h
      cases h
  · refine next_congr ?_
    rw [hout]
    exact if_pos ⟨htest, hphase⟩
  · obtain ⟨hchans, hphaseAt⟩ := s.each_testMeasure k (s.phases k).length samples
    obtain ⟨t, ht⟩ : ∃ t, t = s.each (upto (s.phases k).length) fun t i => t.testMeasure (t.lead k + i) (samples.getD i []) := ⟨_, rfl⟩
    rw [← ht] at hchans hphaseAt
    have hphases : t.phases k = s.phases k := by rw [hchans]; rfl
    have hall : ¬((t.phases k).any fun c => (t.chanAt c).suspect || t.offsetBad c) = true := by
      rw [Bool.not_eq_true, List.any_eq_false, hphases]
      intro c hc
      obtain ⟨i, hi, rfl⟩ := State.exists_phaseAt hc
      obtain ⟨hoff, hcur⟩ := hgood i _ hi rfl
      rw [State.offsetBad, hphaseAt i hi]
      unfold State.measuredChan
      dsimp only
      rw [decide_eq_false (Nat.not_lt.mpr hcur), decide_eq_false (Nat.not_lt.mpr hoff)]
      exact Bool.false_ne_true
    obtain ⟨u, hu⟩ : ∃ u, u = t.swapBanks k := ⟨_, rfl⟩
    obtain ⟨hswap, hsum⟩ := t.swapBanks_spec k
    rw [← hu] at hswap hsum
    have hsu : s.ChansOnly u := hchans.trans hswap
    obtain ⟨w, hw⟩ : ∃ w, w = u.startPhases k (u.presetOf k) := ⟨_, rfl⟩
    obtain ⟨hstart, hhanded⟩ := u.startPhases_spec k (u.presetOf k)
    rw [← hw] at hstart hhanded
    have hsw : s.ChansOnly w := hsu.trans hstart
    obtain ⟨x, hx⟩ : ∃ x, x = w.setOut k fun o => o.begin_ (((u.chanAt (u.lead k)).v0).getD 0) (u.presetOf k) := ⟨_, rfl⟩
    have hxphases : x.phases k = s.phases k := by rw [hx, hsw]; rfl
    have hxout : ∀ j, x.outAt j = if j = k then (s.outAt k).begin_ (((u.chanAt (u.lead k)).v0).getD 0) (u.presetOf k) else s.outAt j := by
      intro j
      rw [hx, State.outAt_setOut, hsw]
      rfl
    refine ⟨x, next_congr ((if_pos ⟨htoken, hstate, hphase⟩).trans ?_), ?_, ?_, fun i hi => ?_, fun j hj => (hxout j).trans (if_neg hj), ?_⟩
    · show (if (State.phases (State.each s _ _) k).any _ = true then _ else _) = _
      rw [← ht, if_neg hall, ← hxphases]
      dsimp only
      rw [← hu, ← hw, ← hx]
      rfl
    · rw [hxout, if_pos rfl]
      exact hstate
    · rw [hxout, if_pos rfl]
      rfl
    · have hmem : s.lead k + i ∈ u.phases k := by
        rw [show u.phases k = s.phases k by rw [hsu]; rfl]
        exact State.phase_mem hi
      have h := hhanded _ hmem
      rw [hsum, hphaseAt i hi] at h
      simp only [Chan.handed, Prod.mk.injEq] at h
      obtain ⟨hst, hoff, htrip, -⟩ := h
      have hchan : x.chanAt (s.lead k + i) = w.chanAt (s.lead k + i) := by
        rw [hx]
        rfl
      rw [hchan]
      refine ⟨hst, hoff, htrip.trans ?_⟩
      rw [hsu]
      rfl
    · refine Only.trans (t := w) (hsw.only.mono (by decide)) ?_
      rw [hx]
      exact (State.setOut_foot _ _ _).onlyIn _
  · obtain ⟨hchans, hphaseAt⟩ := s.each_testMeasure k (s.phases k).length samples
    obtain ⟨t, ht⟩ : ∃ t, t = s.each (upto (s.phases k).length) fun t i => t.testMeasure (t.lead k + i) (samples.getD i []) := ⟨_, rfl⟩
    rw [← ht] at hchans hphaseAt
    have hbad : t.offsetBad (s.lead k + i) = true := by
      rw [State.offsetBad, hphaseAt i hi]
      exact decide_eq_true hoff
    refine ⟨t, fun c => t.offsetBad c, next_congr ((if_pos ⟨htoken, hstate, hphase⟩).trans ?_), hbad, hchans.only, ?_⟩
    · show (if (State.phases (State.each s _ _) k).any _ = true then _ else _) = _
      rw [← ht, if_pos]
      rw [List.any_eq_true, show t.phases k = s.phases k by rw [hchans]; rfl]
      exact ⟨_, State.phase_mem hi, by show (_ || t.offsetBad _) = true; rw [hbad, Bool.or_true]⟩
    · rw [hphaseAt i hi]
      rfl
  · obtain ⟨t, ht⟩ : ∃ t, t = s.failOut k 3 true := ⟨_, rfl⟩
    have hout := s.failOut_outAt k 3 true
    rw [← ht] at hout
    refine ⟨t.settle, next_congr ((if_pos ⟨hstate, hphase⟩).trans (by rw [ht])), State.settle_failed (by rw [hout]; rfl), ?_, fun c hc => ?_, ?_⟩
    · rw [(t.settle_settles k).lastStop, hout]
      rfl
    · rw [State.chanAt, State.settle_chan, ← State.chanAt, ht]
      exact (State.failOut_isLow hc 3 true).symm
    · refine Only.trans (t := t) ?_ (t.settle_foot.onlyIn _)
      rw [ht]
      exact (State.failOut_foot _ _ _ _).onlyIn _
  · have hlast' : (s.outAt k).lastStop = 2 ∨ (s.outAt k).lastStop = 3 ∨ (s.outAt k).lastStop = 7 := by simpa using hlast
    obtain ⟨t, ht⟩ : ∃ t, t = (s.setOut k fun o => { o with triesLeft := o.triesLeft - 1 }).clearOut k 0 := ⟨_, rfl⟩
    have hout : t.outAt k = { s.outAt k with triesLeft := (s.outAt k).triesLeft - 1, state := 0, phase := .none, held := false } := by
      rw [ht, State.clearOut]
      dsimp only
      rw [State.record_outAt, State.outAt_setOut, if_pos rfl, State.outAt_setOut, if_pos rfl]
    obtain ⟨st, ph, hset, hst, -⟩ := t.settle_settles k
    refine ⟨t.settle, next_congr ((if_pos ⟨hen, hstate, hrestart, hlast', htries, hdelay, hmost, hsince, hmode, hwarden⟩).trans (by rw [ht])),
      ?_, ?_, ?_, ?_, ?_⟩
    · rw [hset]
      rw [hout] at hst
      rcases hst with h | ⟨-, h⟩
      · exact Nat.le_trans (Nat.le_of_eq h) (Nat.zero_le 1)
      · exact Nat.le_of_eq h
    · rw [hset, hout]
    · rw [hset, hout]
    · rw [show t.settle.log = t.log from t.settle_foot.keeps .log, ht, State.clearOut, State.record_eq, State.offerAs_offers, List.length_append]
      rfl
    · refine Only.trans (t := t) ?_ (t.settle_foot.onlyIn _)
      rw [ht]
      exact (State.setOut_foot _ _ _).onlyIn [.chan, .out, .log] |>.trans ((State.clearOut_foot _ _ _).onlyIn _)
  · rintro ⟨-, -, hrestart, -, -, hdelay, -⟩
    rcases hno with h | h
    · rw [h] at hrestart
      cases hrestart
    · exact Nat.not_le.mpr h hdelay
  · exact ⟨s.setOut k fun o => { o with triesLeft := s.outRestartTries k }, next_congr (if_pos ⟨hstate, hgood, hwarden⟩),
      (State.outAt_setOut _ _ _ _).trans (if_pos rfl), fun j hj => (State.outAt_setOut _ _ _ _).trans (if_neg hj),
      (State.setOut_foot _ _ _).onlyIn _⟩
  · obtain ⟨x, hx⟩ : ∃ x, x = s.setOut k fun o => { o with ident := { o.ident with
        nextRun := if decide ((s.outAt k).ident.nextRun ≤ (s.outAt k).goodTides) then o.ident.nextRun + 3600000 else o.ident.nextRun
        retries := if decide ((s.outAt k).ident.nextRun ≤ (s.outAt k).goodTides) then 0 else o.ident.retries } } := ⟨_, rfl⟩
    have hfree' : ∀ c ∈ x.phases k, (x.chanAt c).clamp = none := by
      rw [hx]
      exact hfree
    obtain ⟨hident, hothers, honly⟩ := State.startIdent_spec 512 550 800 400 true hfree'
    refine ⟨x.startIdent k 512 550 800 400 true, next_congr ((if_pos ?_).trans (by rw [hx])), ?_, ?_, ?_, ?_, fun j hj => ?_, ?_⟩
    · simp [hmode, hwarden, hfirst, hunits]
    · rw [hident]
    · rw [hident]
    · rw [hident]
    · rw [hident]
    · rw [hothers j hj, hx, State.outAt_setOut, if_neg hj]
    · refine Only.trans (t := x) ?_ honly
      rw [hx]
      exact (State.setOut_foot _ _ _).onlyIn _
  · obtain ⟨hrstate, hrepoch, hrprop⟩ := s.identResult_spec k
    obtain ⟨r, hr⟩ : ∃ r, r = s.identResult k := ⟨_, rfl⟩
    rw [← hr] at hrstate hrepoch hrprop
    by_cases hq : r.1.quality < 5000
    · obtain ⟨hstate, hreason, hepoch, hothers, honly⟩ := State.identEnds 0x0B hrun hrepoch
      refine ⟨_, next_congr ((if_pos ⟨hrun, hevals, hwarden⟩).trans ((if_pos (by rw [← hr]; exact hq)).trans (by rw [← hr]))), .inr hstate,
        fun h => ?_, fun _ => .inl hreason, hepoch, hothers, honly⟩
      rw [hstate] at h
      cases h
    · by_cases hnone : r.2.isNone = true
      · obtain ⟨hstate, hreason, hepoch, hothers, honly⟩ := State.identEnds 0x0C hrun hrepoch
        refine ⟨_, next_congr ((if_pos ⟨hrun, hevals, hwarden⟩).trans ((if_neg (by rw [← hr]; exact hq)).trans
          ((if_pos (by rw [← hr]; exact hnone)).trans (by rw [← hr])))), .inr hstate, fun h => ?_, fun _ => .inr hreason, hepoch, hothers, honly⟩
        rw [hstate] at h
        cases h
      · obtain ⟨w, hw⟩ : ∃ w, w = (s.used.setOut k fun o => { o with ident := r.1 }).record 0x0F 5 ([byte k, 2] ++ leBytes 2 r.1.quality
            ++ leBytes 2 r.1.g ++ leBytes 2 r.1.mGm ++ leS 2 r.1.pmNew ++ leS 2 r.1.gmNew) := ⟨_, rfl⟩
        have hwout : ∀ j, w.outAt j = if j = k then { s.outAt k with ident := r.1 } else s.outAt j := by
          intro j
          rw [hw, State.record_outAt, State.outAt_setOut]
          rfl
        have hwlog : w.log.offers.length = s.log.offers.length + 1 := by
          rw [hw, State.record_eq, State.offerAs_offers, List.length_append]
          rfl
        have honly : Only [.out, .log, .freeCount] s w := by
          rw [hw]
          exact Only.trans (t := s.used.setOut k fun o => { o with ident := r.1 })
            (fun p hp => by cases p <;> first | rfl | exact absurd hp (by decide)) ((State.record_foot _ _ _ _).onlyIn _)
        have hexec : exec (.identRunEnd k) s = .next (if w.autoApplies k then w.setOut k fun o =>
            { o with ident := { o.ident with applyDue := 2 } } else w) := by
          refine next_congr ((if_pos ⟨hrun, hevals, hwarden⟩).trans ((if_neg (by rw [← hr]; exact hq)).trans
            ((if_neg (by rw [← hr]; exact hnone)).trans ?_)))
          rw [hw, hr]
        have hends : ∃ t d, exec (.identRunEnd k) s = .next t ∧ (t.outAt k).ident = { r.1 with applyDue := d } ∧ t.log = w.log ∧
            (∀ j, j ≠ k → t.outAt j = s.outAt j) ∧ Only [.out, .log, .freeCount] s t := by
          rw [hexec]
          split
          · refine ⟨_, 2, rfl, ?_, rfl, fun j hj => ?_, honly.trans ((State.setOut_foot _ _ _).onlyIn _)⟩
            · rw [State.outAt_setOut, if_pos rfl, hwout, if_pos rfl]
            · rw [State.outAt_setOut, if_neg hj, hwout, if_neg hj]
          · exact ⟨_, r.1.applyDue, rfl, by rw [hwout, if_pos rfl], rfl, fun j hj => by rw [hwout, if_neg hj], honly⟩
        obtain ⟨t, d, ht, hident, hlog, hothers, honly⟩ := hends
        exact ⟨t, ht, by rw [hident]; exact .inl hrstate, fun _ => ⟨by rw [hident]; exact Nat.not_lt.mp hq, by rw [hident]; exact hrprop,
          by rw [hlog]; exact hwlog⟩, fun h => absurd (by rw [hident] at h; exact hrstate.symm.trans h) (by decide),
          by rw [hident]; exact hrepoch, hothers, honly⟩

end Sys2Proof
end

section
/-! PROOFS. The engines of the loops (R177, R199): an evaluation leaves no sample waiting that did not wait before it, and a due
sample is served or waits for those before it in slot order. -/
set_option Elab.async false
namespace Sys2Proof.Machine

/-! ### An engine without a waiting sample -/

/-- No engine of `t` has a sample waiting that had none in `s`. -/
def State.KeepsReady (s t : State) : Prop := ∀ c, (s.engineAt c).ready = [] → (t.engineAt c).ready = []

namespace State.KeepsReady

theorem refl (s : State) : s.KeepsReady s := fun _ h => h

theorem trans {s t u : State} (h : s.KeepsReady t) (h' : t.KeepsReady u) : s.KeepsReady u := fun c hc => h' c (h c hc)

theorem of_eq {s t u : State} (h : s.KeepsReady t) (hcluster : u.cluster = t.cluster) : s.KeepsReady u := fun c hc => by
  rw [State.engineAt, State.clusterAt, hcluster]
  exact h c hc

theorem foot {s t u : State} {m : Nat} (h : s.KeepsReady t) (hf : Foot m t u) (hcluster : Part.cluster.holds m = false := by rfl) :
    s.KeepsReady u := h.of_eq (hf.keeps .cluster hcluster)

theorem ite {s x y : State} {p : Prop} [Decidable p] (hx : s.KeepsReady x) (hy : s.KeepsReady y) : s.KeepsReady (if p then x else y) := by
  split
  · exact hx
  · exact hy

theorem each {s t : State} (h : s.KeepsReady t) (l : List Nat) {f : State → Nat → State}
    (hf : ∀ (x : State) (k : Nat), x.KeepsReady (f x k)) : s.KeepsReady (t.each l f) := by
  induction l generalizing t with
  | nil => exact h
  | cons k l ih => exact ih (h.trans (hf t k))

theorem setCluster {s t : State} (h : s.KeepsReady t) (q : Nat) {f : Cluster → Cluster}
    (hf : (f (t.clusterAt q)).engines = (t.clusterAt q).engines) : s.KeepsReady (t.setCluster q f) := by
  refine h.trans fun c hc => ?_
  unfold State.engineAt at hc ⊢
  rw [State.clusterAt_setCluster]
  split
  · next heq => rw [hf, ← heq]; exact hc
  · exact hc

theorem setOut {s t : State} (h : s.KeepsReady t) (k : Nat) (f : Out → Out) : s.KeepsReady (t.setOut k f) := h.of_eq rfl

theorem setChan {s t : State} (h : s.KeepsReady t) (c : Nat) (f : Chan → Chan) : s.KeepsReady (t.setChan c f) := h.of_eq rfl

theorem setPower {s t : State} (h : s.KeepsReady t) (x : Power) : s.KeepsReady { t with power := x } := h.of_eq rfl

theorem setRetained {s t : State} (h : s.KeepsReady t) (x : Retained) : s.KeepsReady { t with retained := x } := h.of_eq rfl

theorem raise {s t : State} (h : s.KeepsReady t) (src event : Nat) (data : Bytes) : s.KeepsReady (t.raise src event data) :=
  h.trans (State.Steady.raise t src event data).ready

/-! #### What an evaluation does to the clusters -/

theorem signalTrigger {s t : State} (h : s.KeepsReady t) (q cond : Nat) (ch : Option Nat) : s.KeepsReady (t.signalTrigger q cond ch) := by
  unfold State.signalTrigger
  exact h.setCluster q ((apply_ite Cluster.engines _ _ _).trans (ite_self _))

theorem chanTrigger {s t : State} (h : s.KeepsReady t) (ch cond : Nat) : s.KeepsReady (t.chanTrigger ch cond) := h.signalTrigger _ _ _

theorem mapCapsules_engines (x : Cluster) (f : Capsule → Capsule) : (x.mapCapsules f).engines = x.engines := rfl

theorem capsuleEvent {s t : State} (h : s.KeepsReady t) (ch ev : Nat) : s.KeepsReady (t.capsuleEvent ch ev) := by
  unfold State.capsuleEvent
  dsimp only
  split
  · exact h
  · next k _ =>
    have hqueued : ∀ p : Capsule, s.KeepsReady (((t.used.setCluster (quadrant ch) fun x =>
        { x with capsuleQueue := x.capsuleQueue ++ [p], capsules := x.capsules + 1 }).signalTrigger (quadrant ch) 9 (some ch))) :=
      fun p => ((h.foot t.used_foot).setCluster _ rfl).signalTrigger _ _ _
    exact .ite h (.ite (h.setCluster _ rfl) (.ite (((hqueued _).setRetained _).setCluster _ (mapCapsules_engines _ _))
      ((hqueued _).setRetained _)))

theorem selects_engines (x : Cluster) (ch : Nat) : (x.selects ch).1.engines = x.engines := by
  unfold Cluster.selects
  dsimp only
  split
  · rfl
  · split
    · rfl
    · split <;> rfl

theorem write_engines (x : Cluster) (e : TraceEntry) (epoch : Nat) : (x.write e epoch).engines = x.engines := by
  have hnote : ∀ y : Cluster, (if e.channel % 32 = y.trigChannel then { y with lastNode := some (e.node y.trigNode) } else y).engines =
      y.engines := by
    intro y
    split <;> rfl
  unfold Cluster.write
  dsimp only
  split
  · refine (hnote _).trans ?_
    split <;> rfl
  · split
    · exact hnote _
    · rfl

theorem traceWrite {s t : State} (h : s.KeepsReady t) (ch : Nat) (e : TraceEntry) : s.KeepsReady (t.traceWrite ch e) := by
  unfold State.traceWrite
  have ha := h.setCluster (quadrant ch) (f := fun _ => ((t.clusterAt (quadrant ch)).selects ch).1) (selects_engines _ _)
  refine .ite ?_ ha
  have hb := ha.setCluster (quadrant ch) (f := fun x => x.write e t.clocks.epoch) (write_engines _ _ _)
  exact .ite ((hb.foot (State.entryStored_foot _ _ _)).setCluster _ (mapCapsules_engines _ _)) hb

theorem refreshPhase {s t : State} (h : s.KeepsReady t) (k ch : Nat) : s.KeepsReady (t.refreshPhase k ch) := by
  unfold State.refreshPhase
  exact .ite ((h.setChan ch _).raise _ _ _) (h.setChan ch _)

theorem rejection {s t : State} (h : s.KeepsReady t) (k ch : Nat) (flag : Bool) : s.KeepsReady (t.rejection k ch flag).1 := by
  unfold State.rejection
  dsimp only
  rw [apply_ite Prod.fst, apply_ite Prod.fst]
  exact .ite ((h.setOut k _).setChan ch _) (.ite ((((h.setOut k _).setChan ch _).chanTrigger ch 4).capsuleEvent ch 5) (h.setOut k _))

theorem leadAccepted {s t : State} (h : s.KeepsReady t) (k ch : Nat) (e : Int) (flag : Bool) (tstamp gaspNs : Nat) :
    s.KeepsReady (t.leadAccepted k ch e flag tstamp gaspNs).1 := by
  unfold State.leadAccepted
  dsimp only
  refine (State.KeepsReady.foot (State.KeepsReady.each ?_ _ fun x c => (refl x).refreshPhase k c)
    (State.writeDuty_foot _ k ch)).setOut k _
  refine ((State.KeepsReady.foot ?_ (State.identCheck_foot _ _ _)).foot (State.identChip_foot _ _ _)).foot (State.profileStep_foot _ _ _)
  exact .ite ((h.setOut k _).setChan ch _) (h.setOut k _)

theorem leadEval {s t : State} (h : s.KeepsReady t) (k ch : Nat) (e : Int) (flag : Bool) (tstamp gaspNs : Nat) :
    s.KeepsReady (t.leadEval k ch e flag tstamp gaspNs).1 := by
  unfold State.leadEval
  dsimp only
  split
  · exact (h.rejection k ch flag).foot (State.identCheck_foot _ _ _)
  · exact (h.rejection k ch flag).leadAccepted _ _ _ _ _ _

theorem advanceShutdown {s t : State} (h : s.KeepsReady t) : s.KeepsReady t.advanceShutdown := by
  unfold State.advanceShutdown
  split
  · exact h
  · next d _ =>
    refine .ite h (.ite (.ite h ?_) (.ite ?_ h))
    · have hoff := ((h.foot (t.checkpoint_foot 2)).foot (State.record_foot _ 0x06 5 [byte d.target.code, 0]))
      dsimp only
      split
      · exact (hoff.setPower _).foot (State.finish_foot _ _ _ _)
      · exact hoff.setPower _
    · exact fun c _ => rfl

theorem profileArrival {s t : State} (h : s.KeepsReady t) (k : Nat) : s.KeepsReady (t.profileArrival k) := by
  unfold State.profileArrival
  have hlow : s.KeepsReady (t.lowOutput k t.idleState) := h.foot (t.lowOutput_foot k _)
  exact .ite (((State.KeepsReady.ite (hlow.setOut k _) (hlow.setOut k _)).foot (State.settle_foot _)).advanceShutdown) h

/-- An evaluation leaves no sample waiting that did not wait before it. -/
theorem evaluate {s t : State} (h : s.KeepsReady t) (k ch : Nat) (code current : Int) (tstamp shift gaspNs : Nat) :
    s.KeepsReady (t.evaluate k ch code current tstamp shift gaspNs) := by
  unfold State.evaluate
  dsimp only
  have ha : s.KeepsReady (if ch = t.lead k then t.swapBanks k else t) := .ite (h.foot (t.swapBanks_foot k)) h
  generalize (if ch = t.lead k then t.swapBanks k else t) = a at ha ⊢
  have hb := ha.foot (a.applyFix_foot k ch)
  generalize a.applyFix k ch = b at hb ⊢
  obtain ⟨c, hc⟩ : ∃ c, c = b.setChan ch fun x => { x with cyc := { x.cyc with cut := x.cyc.cut || b.cutOf k } } := ⟨_, rfl⟩
  have hsc : s.KeepsReady c := hb.of_eq (by rw [hc]; rfl)
  rw [← hc]
  obtain ⟨r, hr⟩ : ∃ r, r = if ch = c.lead k then c.leadEval k ch (clampI (-512) 511 code) (decide (code ≠ clampI (-512) 511 code)) tstamp gaspNs
      else (c.writeDuty k ch, { rejected := false, sat := false, inj := (c.outAt k).ident.inj, p := (c.outAt k).comp.p }) := ⟨_, rfl⟩
  have hsr : s.KeepsReady r.1 := by
    rw [hr]
    split
    · exact hsc.leadEval _ _ _ _ _ _
    · exact hsc.foot (c.writeDuty_foot k ch)
  rw [← hr]
  have hd : s.KeepsReady (if ch = c.lead k ∧ r.2.sat = true then r.1.chanTrigger ch 5 else r.1) := .ite (hsr.chanTrigger ch 5) hsr
  generalize (if ch = c.lead k ∧ r.2.sat = true then r.1.chanTrigger ch 5 else r.1) = d at hd ⊢
  have he := (hd.foot (d.countEval_foot ch (clampI (-512) 511 code) current shift)).traceWrite ch
    ((d.countEval ch (clampI (-512) 511 code) current shift).evalEntry k ch (clampI (-512) 511 code) current
      (decide (code ≠ clampI (-512) 511 code)) (b.cutOf k) r.2 tstamp)
  exact .ite (he.profileArrival k) he

end State.KeepsReady

end Sys2Proof.Machine
end

section
/-! PROOFS. LOOP_EVALUATION (R177, R198, R199): the due sample served at once, or waiting for those before it. -/
set_option Elab.async false
namespace Sys2Proof.Machine

theorem quadrant_of_engine {c ch : Nat} (h : c / 4 = ch / 4) : quadrant c = quadrant ch ∧ c % 32 / 4 = ch % 32 / 4 := by
  unfold quadrant
  omega

/-- An engine after a change of one. -/
theorem State.engineAt_setEngine (s : State) (ch : Nat) (f : Engine → Engine) {c : Nat} (hc : c / 4 = ch / 4) :
    (s.setEngine ch f).engineAt c = f (s.engineAt ch) := by
  obtain ⟨hq, he⟩ := quadrant_of_engine hc
  unfold State.engineAt State.setEngine
  rw [State.clusterAt_setCluster, if_pos hq, he]
  exact (Tab.get_upd _ _ _ _ _).trans (if_pos rfl)

theorem State.engineAt_same (s : State) {c ch : Nat} (hc : c / 4 = ch / 4) : s.engineAt c = s.engineAt ch := by
  obtain ⟨hq, he⟩ := quadrant_of_engine hc
  unfold State.engineAt
  rw [hq, he]

/-- The state in which the due sample of a channel waits with its engine. -/
def State.withSample (s : State) (ch : Nat) (x : Sample) : State := (s.dropReady ch).setEngine ch fun e => { e with ready := e.ready ++ [x] }

theorem State.withSample_engine {s : State} {ch : Nat} (x : Sample) (hready : (s.engineAt ch).ready = []) {c : Nat} (hc : c / 4 = ch / 4) :
    (s.withSample ch x).engineAt c = { s.engineAt ch with ready := [x] } := by
  unfold State.withSample State.dropReady
  rw [State.engineAt_setEngine _ _ _ hc, State.engineAt_setEngine _ _ _ rfl, hready]
  rfl

theorem State.withSample_only (s : State) (ch : Nat) (x : Sample) : Only [.cluster] s (s.withSample ch x) :=
  Only.trans ((s.dropReady_foot ch).onlyIn _) ((State.setEngine_foot _ ch _).onlyIn _)

theorem State.withSample_evaluates (s : State) (ch : Nat) (x : Sample) (c : Nat) : (s.withSample ch x).evaluates c = s.evaluates c := rfl

theorem State.withSample_rankOf {s : State} {ch : Nat} (x : Sample) (hready : (s.engineAt ch).ready = []) {c : Nat} (hc : c / 4 = ch / 4) :
    (s.withSample ch x).rankOf c = s.rankOf c := by
  unfold State.rankOf
  rw [State.withSample_engine x hready hc, s.engineAt_same hc]
  rfl

/-- The four channels of an engine. -/
theorem mem_engine {c ch : Nat} : c ∈ countFrom 4 (ch / 4 * 4) ↔ c / 4 = ch / 4 := by
  rw [mem_countFrom]
  omega

/-- Is a waiting sample next in slot order (R199)? -/
theorem State.servedNext_iff (s : State) (x : Sample) : s.servedNext x = true ↔ ∀ c, c / 4 = x.ch / 4 → c ≠ x.ch →
    s.evaluates c = true → (s.chanAt c).sampleAt = some x.at_ → s.rankOf x.ch < s.rankOf c := by
  unfold State.servedNext
  rw [List.all_eq_true]
  refine forall_congr' fun c => ?_
  rw [mem_engine]
  refine forall_congr' fun _ => ?_
  simp only [Bool.or_eq_true, decide_eq_true_eq, Bool.not_eq_true', ne_eq]
  cases hev : s.evaluates c
  · exact ⟨fun _ _ h => absurd h Bool.false_ne_true, fun _ => .inl (.inl (.inr rfl))⟩
  · refine ⟨fun h hne _ hdue => ?_, fun h => ?_⟩
    · rcases h with ((h | h) | h) | h
      · exact absurd h hne
      · cases h
      · exact absurd hdue h
      · exact h
    · by_cases hne : c = x.ch
      · exact .inl (.inl (.inl hne))
      · by_cases hdue : (s.chanAt c).sampleAt = some x.at_
        · exact .inr (h hne rfl hdue)
        · exact .inl (.inr hdue)

/-- Without a waiting sample the engine rests. -/
theorem State.serveReady_none {s : State} {ch : Nat} (h : (s.engineAt ch).ready.find? s.servedNext = none) (n : Nat) :
    State.serveReady ch n s = s := by
  cases n with
  | zero => rfl
  | succ n =>
    unfold State.serveReady
    rw [h]

/-- The state in which a due sample is evaluated: taken by its engine, and not due any more. -/
def State.sampled (s : State) (x : Sample) (taken : Nat) : State :=
  (s.setEngine x.ch fun e => { e with
    last := some (x.ch, x.at_, taken), slot := s.slotOf x.ch, ready := e.ready.filter fun y => decide (y.ch ≠ x.ch) }).setChan x.ch
      fun c => { c with sampleAt := none }

/-- The instant at which the engine takes a sample (R177). -/
def State.takenAt (s : State) (x : Sample) : Nat :=
  deferred x.at_ (match (s.engineAt x.ch).last with
    | some (c, n0, t0) => if c = x.ch then none else some (n0, t0)
    | none => none)

theorem State.serveSample_eq (s : State) (k : Nat) (x : Sample) : s.serveSample k x =
    (s.sampled x (s.takenAt x)).evaluate k x.ch (errorRaw ((s.sampled x (s.takenAt x)).chanAt x.ch).refCode x.v) (currentAdc x.i)
      ((s.takenAt x + 16) / 32) (s.takenAt x - x.at_) x.gaspNs := rfl

theorem State.sampled_spec (s : State) (x : Sample) (t : Nat) : (s.sampled x t).chanAt x.ch = { s.chanAt x.ch with sampleAt := none } ∧
    (∀ j, j ≠ x.ch → (s.sampled x t).chanAt j = s.chanAt j) ∧ (s.sampled x t).engineAt x.ch = { s.engineAt x.ch with
      last := some (x.ch, x.at_, t), slot := s.slotOf x.ch, ready := (s.engineAt x.ch).ready.filter fun y => decide (y.ch ≠ x.ch) } ∧
    Only [.chan, .cluster] s (s.sampled x t) :=
  ⟨(State.chanAt_setChan _ _ _ _).trans (if_pos rfl), fun _ hj => (State.chanAt_setChan _ _ _ _).trans (if_neg hj),
    s.engineAt_setEngine x.ch _ rfl, fun p hp => by cases p <;> first | rfl | exact absurd hp (by decide)⟩

/-- A due sample that waits alone with its engine and comes first is taken and evaluated, and the engine rests. -/
theorem State.serveReady_alone {s : State} {k : Nat} {x : Sample} (hready : (s.engineAt x.ch).ready = [x]) (hnext : s.servedNext x = true)
    (hout : s.outputOf x.ch = some k) (n : Nat) : State.serveReady x.ch (n + 1) s = s.serveSample k x := by
  have hfind : (s.engineAt x.ch).ready.find? s.servedNext = some x := by
    rw [hready, List.find?_cons, hnext]
  have hrests : ((s.serveSample k x).engineAt x.ch).ready = [] := by
    rw [State.serveSample_eq]
    refine ((State.KeepsReady.refl _).evaluate k x.ch _ _ _ _ _) x.ch ?_
    obtain ⟨-, -, hengine, -⟩ := s.sampled_spec x (s.takenAt x)
    rw [hengine, hready]
    simp
  rw [State.serveReady, hfind]
  dsimp only
  rw [hout]
  exact State.serveReady_none (by rw [hrests]; rfl) n

end Sys2Proof.Machine
end

section
/-! PROOFS. One evaluation of a phase and of a lead (R198 to R220). -/
set_option Elab.async false
namespace Sys2Proof.Machine

/-! ### The sample of a LOOP_EVALUATION -/

theorem execLoopEvaluation_idle {s : State} {ch : Nat} (h : s.evaluates ch = false) (vsp vsn isp isn : Int) (ns : Nat) :
    exec (.loopEvaluation ch vsp vsn isp isn ns) s = .next s := by
  show execLoopEvaluation ch vsp vsn isp isn ns s = _
  unfold execLoopEvaluation
  refine Machine.next_congr ?_
  split
  · rw [h]
    exact if_neg Bool.false_ne_true
  · rfl

theorem execLoopEvaluation_due {s : State} {ch t : Nat} (h : s.evaluates ch = true) (hdue : (s.chanAt ch).sampleAt = some t)
    (vsp vsn isp isn : Int) (ns : Nat) : exec (.loopEvaluation ch vsp vsn isp isn ns) s = .next (State.serveReady ch 4
      (s.withSample ch { at_ := t, ch := ch, v := vsp - vsn, i := isp - isn, gaspNs := ns })) := by
  show execLoopEvaluation ch vsp vsn isp isn ns s = _
  unfold execLoopEvaluation
  refine Machine.next_congr ?_
  rw [hdue]
  exact if_pos h

/-- Is the new sample of an engine without another next in slot order? -/
theorem State.withSample_servedNext {s : State} {x : Sample} (hready : (s.engineAt x.ch).ready = []) :
    (s.withSample x.ch x).servedNext x = true ↔ ∀ c, c / 4 = x.ch / 4 → c ≠ x.ch → s.evaluates c = true →
      (s.chanAt c).sampleAt = some x.at_ → s.rankOf x.ch < s.rankOf c := by
  rw [State.servedNext_iff]
  refine forall_congr' fun c => forall_congr' fun hc => ?_
  rw [State.withSample_rankOf x hready rfl, State.withSample_rankOf x hready hc]
  rfl

/-- A due sample that waits for another of its instant stays with its engine. -/
theorem State.serveReady_waits {s : State} {x : Sample} (hready : (s.engineAt x.ch).ready = [x]) (hnext : s.servedNext x = false) (n : Nat) :
    State.serveReady x.ch n s = s :=
  State.serveReady_none (by rw [hready, List.find?_cons, hnext]; rfl) n

theorem State.withSample_chanAt (s : State) (ch : Nat) (x : Sample) (c : Nat) : (s.withSample ch x).chanAt c = s.chanAt c := rfl

theorem State.withSample_slotOf (s : State) (ch : Nat) (x : Sample) (c : Nat) : (s.withSample ch x).slotOf c = s.slotOf c := rfl

/-- A due sample is taken at its instant, and evaluated with the reference in force (R177). -/
theorem State.serveReady_first {s : State} {k : Nat} {x : Sample} (hready : (s.engineAt x.ch).ready = []) (hout : s.outputOf x.ch = some k)
    (hnext : ∀ c, c / 4 = x.ch / 4 → c ≠ x.ch → s.evaluates c = true → (s.chanAt c).sampleAt = some x.at_ → s.rankOf x.ch < s.rankOf c) :
    ∃ t : State, State.serveReady x.ch 4 (s.withSample x.ch x) = t.evaluate k x.ch (errorRaw (s.chanAt x.ch).refCode x.v) (currentAdc x.i)
        ((s.takenAt x + 16) / 32) (s.takenAt x - x.at_) x.gaspNs ∧
      t.chanAt x.ch = { s.chanAt x.ch with sampleAt := none } ∧ (∀ j, j ≠ x.ch → t.chanAt j = s.chanAt j) ∧
      (t.engineAt x.ch).last = some (x.ch, x.at_, s.takenAt x) ∧ (t.engineAt x.ch).slot = s.slotOf x.ch ∧ Only [.chan, .cluster] s t := by
  have hengine := State.withSample_engine x hready rfl
  have hserved := State.serveReady_alone (k := k) (congrArg Engine.ready hengine) ((State.withSample_servedNext hready).mpr hnext) hout 3
  have htaken : (s.withSample x.ch x).takenAt x = s.takenAt x := by
    unfold State.takenAt
    rw [hengine]
  obtain ⟨hchan, hothers, hlast, honly⟩ := (s.withSample x.ch x).sampled_spec x (s.takenAt x)
  have href : (((s.withSample x.ch x).sampled x (s.takenAt x)).chanAt x.ch).refCode = (s.chanAt x.ch).refCode := by
    rw [hchan, State.withSample_chanAt]
  rw [State.serveSample_eq, htaken, href] at hserved
  rw [State.withSample_chanAt] at hchan
  rw [State.withSample_slotOf] at hlast
  exact ⟨_, hserved, hchan, fun j hj => (hothers j hj).trans (s.withSample_chanAt x.ch x j), by rw [hlast], by rw [hlast],
    ((s.withSample_only x.ch x).mono (by decide)).trans honly⟩

/-! ### The parts of an evaluation -/

/-- The cut of the present period as the cycle's summary takes it (R205). -/
def State.markCut (s : State) (k ch : Nat) : State := s.setChan ch fun x => { x with cyc := { x.cyc with cut := x.cyc.cut || s.cutOf k } }

theorem State.applyFix_none {s : State} {k ch : Nat} (hfix : Tab.get none s.sluice.fix ch = none)
    (hout : ch = s.lead k → Tab.get none s.sluice.fixOut k = none) : s.applyFix k ch = s := by
  have hchan : s.applyChanFix k ch = s := by
    unfold State.applyChanFix
    rw [hfix]
  unfold State.applyFix
  dsimp only
  rw [hchan]
  split
  · next hlead =>
    unfold State.applyOutFix
    rw [hout hlead]
  · rfl

theorem State.lead_congr {s t : State} (h : t.desc = s.desc) (k : Nat) : t.lead k = s.lead k :=
  congrArg (fun d : Desc => ({ s with desc := d } : State).lead k) h

theorem State.traceWrite_desc (s : State) (ch : Nat) (e : TraceEntry) : (s.traceWrite ch e).desc = s.desc :=
  (s.traceWrite_foot ch e).keeps .desc

theorem State.countEval_desc (s : State) (ch : Nat) (e cur : Int) (sh : Nat) : (s.countEval ch e cur sh).desc = s.desc :=
  (s.countEval_foot ch e cur sh).keeps .desc

theorem State.writeDuty_desc (s : State) (k ch : Nat) : (s.writeDuty k ch).desc = s.desc := (s.writeDuty_foot k ch).keeps .desc

/-- The evaluation of a phase that is not its output's lead. -/
theorem State.evaluate_phase {s : State} {k ch : Nat} (hlead : ch ≠ s.lead k) (hfix : Tab.get none s.sluice.fix ch = none) (code cur : Int)
    (ts sh ns : Nat) : ∃ e, s.evaluate k ch code cur ts sh ns =
      (((s.markCut k ch).writeDuty k ch).countEval ch (clampI (-512) 511 code) cur sh).traceWrite ch e := by
  have hlead' : ch ≠ (s.markCut k ch).lead k := hlead
  unfold State.evaluate
  dsimp only
  rw [if_neg hlead, State.applyFix_none hfix fun h => absurd h hlead]
  unfold State.markCut at hlead' ⊢
  have hfinal : ∀ u : State, u.desc = s.desc → (if ch = u.lead k then u.profileArrival k else u) = u :=
    fun u hu => if_neg fun h => hlead (h.trans (State.lead_congr hu k))
  simp only [hlead', false_and, if_false, and_true]
  refine ⟨_, hfinal _ ?_⟩
  rw [State.traceWrite_desc, State.countEval_desc, State.writeDuty_desc]
  rfl

/-- The evaluation of a lead, by what its control law gives. -/
theorem State.evaluate_lead {s : State} {k ch : Nat} (hlead : ch = s.lead k) (hfix : Tab.get none s.sluice.fix ch = none)
    (hout : Tab.get none s.sluice.fixOut k = none) (code cur : Int) (ts sh ns : Nat) {r : State × EvalNote}
    (hr : ((s.swapBanks k).markCut k ch).leadEval k ch (clampI (-512) 511 code) (decide (code ≠ clampI (-512) 511 code)) ts ns = r)
    (hdesc : r.1.desc = s.desc) :
    ∃ e, s.evaluate k ch code cur ts sh ns =
      let t := ((if r.2.sat = true then r.1.chanTrigger ch 5 else r.1).countEval ch (clampI (-512) 511 code) cur sh).traceWrite ch e
      if r.2.rejected = false then t.profileArrival k else t := by
  have hsluice : (s.swapBanks k).sluice = s.sluice := (s.swapBanks_foot k).keeps .sluice
  have hbanks : (s.swapBanks k).desc = s.desc := (s.swapBanks_foot k).keeps .desc
  have hlead' : ch = ((s.swapBanks k).markCut k ch).lead k := hlead.trans (State.lead_congr hbanks k).symm
  unfold State.evaluate
  dsimp only
  rw [if_pos hlead, State.applyFix_none (by rw [hsluice]; exact hfix) fun _ => by rw [hsluice]; exact hout]
  unfold State.markCut at hr hlead'
  rw [if_pos hlead', hr]
  have htrig : (if ch = State.lead ((s.swapBanks k).setChan ch fun x => { x with cyc := { x.cyc with cut := x.cyc.cut || (s.swapBanks k).cutOf k } }) k ∧
      r.2.sat = true then r.1.chanTrigger ch 5 else r.1) = if r.2.sat = true then r.1.chanTrigger ch 5 else r.1 := by
    rw [← hlead']
    simp
  rw [htrig]
  have hfinal : ∀ u : State, u.desc = s.desc → (if ch = u.lead k ∧ r.2.rejected = false then u.profileArrival k else u) =
      if r.2.rejected = false then u.profileArrival k else u := fun u hu => by
    rw [State.lead_congr hu, ← hlead]
    simp
  refine ⟨_, hfinal _ ((State.traceWrite_desc _ _ _).trans ?_)⟩
  split <;> exact hdesc

/-! ### Channels and outputs through the parts -/

theorem State.traceWrite_chanAt (s : State) (ch : Nat) (e : TraceEntry) (c : Nat) : (s.traceWrite ch e).chanAt c = s.chanAt c := by
  rw [State.chanAt, (s.traceWrite_foot ch e).keeps .chan]
  rfl

theorem State.traceWrite_outAt (s : State) (ch : Nat) (e : TraceEntry) (k : Nat) : (s.traceWrite ch e).outAt k = s.outAt k := by
  rw [State.outAt, (s.traceWrite_foot ch e).keeps .out]
  rfl

theorem State.ChansOnly.outAt {s t : State} (h : s.ChansOnly t) (k : Nat) : t.outAt k = s.outAt k := by
  rw [h]
  rfl

/-- What counting an evaluation does to its channel's words, and to nothing else (R177, R212). -/
theorem State.countEval_spec (s : State) (ch : Nat) (e cur : Int) (sh : Nat) :
    ((s.countEval ch e cur sh).chanAt ch).duty = (s.chanAt ch).duty ∧
    ((s.countEval ch e cur sh).chanAt ch).shadow = (s.chanAt ch).shadow ∧
    ((s.countEval ch e cur sh).chanAt ch).shadowOld = (s.chanAt ch).shadowOld ∧
    ((s.countEval ch e cur sh).chanAt ch).rejectTotal = (s.chanAt ch).rejectTotal ∧
    ((s.countEval ch e cur sh).chanAt ch).evalCount = ((s.chanAt ch).evalCount + 1) % 2 ^ 32 ∧
    s.ChansOnly (s.countEval ch e cur sh) ∧ ∀ j, j ≠ ch → (s.countEval ch e cur sh).chanAt j = s.chanAt j := by
  unfold State.countEval
  dsimp only
  refine ⟨?_, ?_, ?_, ?_, ?_, (State.ChansOnly.refl s).setChan ch _, fun j hj => (State.chanAt_setChan _ _ _ _).trans (if_neg hj)⟩
  all_goals rw [State.chanAt_setChan, if_pos rfl]

/-- What writing a duty word does to its channel's words, and to nothing else (R207). -/
theorem State.writeDuty_spec (s : State) (k ch : Nat) :
    ((s.writeDuty k ch).chanAt ch).duty = (clampI (s.coef ch).dMin (s.coef ch).dMax
      (sar ((s.outAt k).comp.u + (s.chanAt ch).share + 1024) 11 + (s.outAt k).ident.chip)).toNat ∧
    ((s.writeDuty k ch).chanAt ch).shadow = ((s.writeDuty k ch).chanAt ch).duty ∧
    ((s.writeDuty k ch).chanAt ch).shadowOld = (s.chanAt ch).shadow ∧
    ((s.writeDuty k ch).chanAt ch).evalCount = (s.chanAt ch).evalCount ∧
    s.ChansOnly (s.writeDuty k ch) ∧ ∀ j, j ≠ ch → (s.writeDuty k ch).chanAt j = s.chanAt j := by
  unfold State.writeDuty
  dsimp only
  refine ⟨?_, ?_, ?_, ?_, (State.ChansOnly.refl s).setChan ch _, fun j hj => (State.chanAt_setChan _ _ _ _).trans (if_neg hj)⟩
  all_goals rw [State.chanAt_setChan, if_pos rfl]
  rfl

/-- The words of a channel that an evaluation reads and that its first steps keep. -/
def Chan.loopWords (c : Chan) : Coeffs × Int × Nat × Nat × Nat × Nat := (c.coef, c.share, c.evalCount, c.duty, c.shadow, c.rejectTotal)

theorem State.markCut_outAt (s : State) (k ch j : Nat) : (s.markCut k ch).outAt j = s.outAt j := rfl

theorem State.markCut_loopWords (s : State) (k ch c : Nat) : ((s.markCut k ch).chanAt c).loopWords = (s.chanAt c).loopWords := by
  unfold State.markCut
  rw [State.chanAt_setChan]
  split
  · next h => rw [h]; rfl
  · rfl

/-- The evaluation of a phase that is not the lead writes its duty word and counts (R207, R210). -/
theorem State.evaluate_phase_spec {s : State} {k ch : Nat} (hlead : ch ≠ s.lead k) (hfix : Tab.get none s.sluice.fix ch = none) (code cur : Int)
    (ts sh ns : Nat) : ∃ t : State, t = s.evaluate k ch code cur ts sh ns ∧
      (t.chanAt ch).duty = (clampI (s.coef ch).dMin (s.coef ch).dMax
        (sar ((s.outAt k).comp.u + (s.chanAt ch).share + 1024) 11 + (s.outAt k).ident.chip)).toNat ∧
      (t.chanAt ch).shadow = (t.chanAt ch).duty ∧ (t.chanAt ch).shadowOld = (s.chanAt ch).shadow ∧
      (t.chanAt ch).evalCount = ((s.chanAt ch).evalCount + 1) % 2 ^ 32 ∧ t.outAt k = s.outAt k ∧
      (∀ j, j ≠ ch → t.chanAt j = s.chanAt j) ∧ Only [.chan, .cluster, .faults] s t := by
  obtain ⟨e, he⟩ := State.evaluate_phase hlead hfix code cur ts sh ns
  have hmark : s.ChansOnly (s.markCut k ch) := (State.ChansOnly.refl s).setChan ch _
  have hmarkNe : ∀ j, j ≠ ch → (s.markCut k ch).chanAt j = s.chanAt j := fun j hj => (State.chanAt_setChan _ _ _ _).trans (if_neg hj)
  have hwords := s.markCut_loopWords k ch ch
  have hcoef : (s.markCut k ch).coef ch = s.coef ch := congrArg (·.1) hwords
  have hshare : ((s.markCut k ch).chanAt ch).share = (s.chanAt ch).share := congrArg (·.2.1) hwords
  have hcount : ((s.markCut k ch).chanAt ch).evalCount = (s.chanAt ch).evalCount := congrArg (·.2.2.1) hwords
  have hshadow : ((s.markCut k ch).chanAt ch).shadow = (s.chanAt ch).shadow := congrArg (·.2.2.2.2.1) hwords
  obtain ⟨hd, hds, hdo, hdc, hdonly, hdne⟩ := (s.markCut k ch).writeDuty_spec k ch
  obtain ⟨hc, hcs, hco, -, hcc, hconly, hcne⟩ := ((s.markCut k ch).writeDuty k ch).countEval_spec ch (clampI (-512) 511 code) cur sh
  have hchans := (hmark.trans hdonly).trans hconly
  refine ⟨_, rfl, ?_⟩
  rw [he]
  simp only [State.traceWrite_chanAt, State.traceWrite_outAt]
  refine ⟨?_, ?_, ?_, ?_, ?_, fun j hj => (hcne j hj).trans ((hdne j hj).trans (hmarkNe j hj)),
    (hchans.only.mono (by decide)).trans ((State.traceWrite_foot _ _ _).onlyIn _)⟩
  · rw [hc, hd, hcoef, hshare, State.markCut_outAt]
  · rw [hcs, hds, hc]
  · rw [hco, hdo, hshadow]
  · rw [hcc, hdc, hcount]
  · exact hchans.outAt k

end Sys2Proof.Machine
end

section
/-! PROOFS. The evaluation of a lead: the control law, the profile, the levels and the duty word (R202 to R220). -/
set_option Elab.async false
namespace Sys2Proof.Machine

/-! ### States that differ in their channels and outputs alone -/

/-- `t` is `s` but for its channels and outputs. -/
def State.LoopOnly (s t : State) : Prop := t = { s with chan := t.chan, out := t.out }

namespace State.LoopOnly

theorem refl (s : State) : s.LoopOnly s := rfl

theorem setChan {s t : State} (h : s.LoopOnly t) (c : Nat) (f : Chan → Chan) : s.LoopOnly (t.setChan c f) := by
  unfold State.LoopOnly at h ⊢
  rw [h]
  rfl

theorem setOut {s t : State} (h : s.LoopOnly t) (k : Nat) (f : Out → Out) : s.LoopOnly (t.setOut k f) := by
  unfold State.LoopOnly at h ⊢
  rw [h]
  rfl

theorem trans {s t u : State} (h : s.LoopOnly t) (h' : t.LoopOnly u) : s.LoopOnly u := by
  unfold State.LoopOnly at h h' ⊢
  rw [h', h]

theorem chans {s t u : State} (h : s.LoopOnly t) (h' : t.ChansOnly u) : s.LoopOnly u := by
  unfold State.LoopOnly at h ⊢
  unfold State.ChansOnly at h'
  rw [h', h]

theorem only {s t : State} (h : s.LoopOnly t) : Only [.chan, .out] s t := fun p hp => by
  rw [h]
  cases p <;> first | rfl | exact absurd hp (by decide)

end State.LoopOnly

/-! ### A swap of banks -/

/-- A swap of banks changes which bank is in force, and nothing else of a channel. -/
theorem State.swapBanks_chanAt (s : State) (k c : Nat) : ∃ b d, (s.swapBanks k).chanAt c = { s.chanAt c with bank := b, swapDue := d } := by
  have hchan := (State.each_chans (s := s) (fun t c => t.setChan c Chan.swap) (fun _ => Chan.swap) (fun _ _ _ => rfl)
    (s.phases k) (s.phases_nodup k)).2 c
  unfold State.swapBanks
  rw [hchan]
  split
  · unfold Chan.swap
    split
    · exact ⟨_, _, rfl⟩
    · exact ⟨_, _, rfl⟩
  · exact ⟨_, _, rfl⟩

theorem State.swapBanks_chansOnly (s : State) (k : Nat) : s.ChansOnly (s.swapBanks k) :=
  (State.each_chans (s := s) (fun t c => t.setChan c Chan.swap) (fun _ => Chan.swap) (fun _ _ _ => rfl) (s.phases k) (s.phases_nodup k)).1

theorem State.phases_congr {s t : State} (h : t.desc = s.desc) (k : Nat) : t.phases k = s.phases k :=
  congrArg (fun d : Desc => ({ s with desc := d } : State).phases k) h

/-- The flag cut reads what a period left with its channel (R205). -/
theorem State.cutOf_congr {s t : State} (hdesc : t.desc = s.desc) {k : Nat}
    (h : ∀ c, (t.chanAt c).cutNow = (s.chanAt c).cutNow ∧ (t.chanAt c).cutPrev = (s.chanAt c).cutPrev) : t.cutOf k = s.cutOf k := by
  unfold State.cutOf
  rw [State.phases_congr hdesc]
  congr 1
  funext c
  rw [(h c).1, (h c).2]

/-! ### The control law -/

/-- What the control law gives from the words of an output (R206, R207). -/
def State.controlWords (s : State) (k ch : Nat) (e : Int) : CompWords × Bool :=
  compEval (s.coef ch) ((s.coef ch).gain e) e (s.cutOf k)
    { ist := (s.outAt k).comp.ist, dst := (s.outAt k).comp.dst, u := (s.outAt k).comp.u
      ePrev := if (s.outAt k).comp.first then e else (s.outAt k).comp.ePrev }

/-- The state after the control law of a lead. -/
def State.controlled (s : State) (k ch : Nat) (e : Int) : State :=
  let r := s.controlWords k ch e
  let s' := s.setOut k fun o => { o with comp := { o.comp with
    ist := r.1.ist, dst := r.1.dst, u := r.1.u, ePrev := r.1.ePrev, p := sat32 (sar (e * (s.coef ch).kp * (s.coef ch).gain e) 14), first := false } }
  if r.2 then s'.setChan ch fun c => { c with satCount := (c.satCount + 1) % 2 ^ 32 } else s'

/-- The state after the run and the profile of a lead. -/
def State.profiled (s : State) (k ch : Nat) (e : Int) (flag : Bool) (ts ns : Nat) : State :=
  let t := s.controlled k ch e
  ((t.identCheck k (t.identStop k e flag (s.controlWords k ch e).2 (s.cutOf k))).identChip k ts).profileStep k ns

theorem State.leadAccepted_eq (s : State) (k ch : Nat) (e : Int) (flag : Bool) (ts ns : Nat) : ∃ note : EvalNote, note.rejected = false ∧
    s.leadAccepted k ch e flag ts ns =
      let t := ((s.profiled k ch e flag ts ns).each ((s.profiled k ch e flag ts ns).phases k) fun s c => s.refreshPhase k c).writeDuty k ch
      (t.setOut k fun o => { o with ident := o.ident.count e (t.chanAt ch).duty }, note) := ⟨_, rfl, rfl⟩

theorem State.setChan_outAt (s : State) (c k : Nat) (f : Chan → Chan) : (s.setChan c f).outAt k = s.outAt k := rfl

/-- The words that the control law leaves with its output. -/
theorem State.controlled_spec (s : State) (k ch : Nat) (e : Int) : s.LoopOnly (s.controlled k ch e) ∧
    (∃ p, (s.controlled k ch e).outAt k = { s.outAt k with comp := { (s.outAt k).comp with
      ist := (s.controlWords k ch e).1.ist, dst := (s.controlWords k ch e).1.dst, u := (s.controlWords k ch e).1.u
      ePrev := (s.controlWords k ch e).1.ePrev, p := p, first := false } }) ∧
    ∀ c, ((s.controlled k ch e).chanAt c).loopWords = (s.chanAt c).loopWords ∧ ((s.controlled k ch e).chanAt c).cause = (s.chanAt c).cause := by
  unfold State.controlled
  dsimp only
  split
  · refine ⟨((State.LoopOnly.refl s).setOut k _).setChan ch _,
      ⟨sat32 (sar (e * (s.coef ch).kp * (s.coef ch).gain e) 14), ?_⟩, fun c => ?_⟩
    · rw [State.setChan_outAt, State.outAt_setOut, if_pos rfl]
    rw [State.chanAt_setChan]
    split
    · next h => rw [h]; exact ⟨rfl, rfl⟩
    · exact ⟨rfl, rfl⟩
  · refine ⟨(State.LoopOnly.refl s).setOut k _, ⟨sat32 (sar (e * (s.coef ch).kp * (s.coef ch).gain e) 14), ?_⟩, fun c => ⟨rfl, rfl⟩⟩
    rw [State.outAt_setOut, if_pos rfl]

/-- The end of a run changes its output's run alone; a run that injects nothing does not begin to. -/
theorem State.identCheck_spec (s : State) (k : Nat) (reason : Option Nat) : s.LoopOnly (s.identCheck k reason) ∧
    (s.identCheck k reason).chan = s.chan ∧ ∃ i : Ident, (s.identCheck k reason).outAt k = { s.outAt k with ident := i } ∧
      ((s.outAt k).ident.inj = false → (s.outAt k).ident.startAt = none → i.inj = false ∧ i.startAt = none) := by
  unfold State.identCheck
  split
  · next r =>
    split
    · refine ⟨(State.LoopOnly.refl s).setOut k _, rfl, ((s.outAt k).abortIdent r true).ident, ?_, fun _ _ => ?_⟩
      · rw [State.outAt_setOut, if_pos rfl]
        unfold Out.abortIdent
        split <;> rfl
      · unfold Out.abortIdent
        split <;> exact ⟨rfl, rfl⟩
    · exact ⟨.refl s, rfl, _, rfl, fun hi hs => ⟨hi, hs⟩⟩
  · exact ⟨.refl s, rfl, _, rfl, fun hi hs => ⟨hi, hs⟩⟩

/-- The chip of an evaluation is 0 where nothing is injected and no run is to start. -/
theorem State.identChip_spec (s : State) (k ts : Nat) : s.LoopOnly (s.identChip k ts) ∧ (s.identChip k ts).chan = s.chan ∧
    ∃ i : Ident, (s.identChip k ts).outAt k = { s.outAt k with ident := i } ∧
      ((s.outAt k).ident.inj = false → (s.outAt k).ident.startAt = none → i.chip = 0) := by
  unfold State.identChip
  refine ⟨(State.LoopOnly.refl s).setOut k _, rfl, _, (State.outAt_setOut _ _ _ _).trans (if_pos rfl), fun hi hs => ?_⟩
  dsimp only
  rw [hi, hs]
  exact if_neg Bool.false_ne_true

/-- A step of the profile changes the profile of its output alone. -/
theorem State.profileStep_spec (s : State) (k ns : Nat) : s.LoopOnly (s.profileStep k ns) ∧ (s.profileStep k ns).chan = s.chan ∧
    ∃ p : Profile, (s.profileStep k ns).outAt k = { s.outAt k with prof := p } := by
  unfold State.profileStep
  dsimp only
  split
  · exact ⟨(State.LoopOnly.refl s).setOut k _, rfl, _, (State.outAt_setOut _ _ _ _).trans (if_pos rfl)⟩
  · exact ⟨(State.LoopOnly.refl s).setOut k _, rfl, _, (State.outAt_setOut _ _ _ _).trans (if_pos rfl)⟩

/-- What a step of the profile gives depends on the output's profile, its target and its lead's coefficients (R213). -/
theorem State.profileStep_congr {s t : State} {k : Nat} (h : s.LoopOnly t) (hprof : (t.outAt k).prof = (s.outAt k).prof)
    (hphase : (t.outAt k).phase = (s.outAt k).phase) (hstate : (t.outAt k).state = (s.outAt k).state)
    (hcoef : t.coef (s.lead k) = s.coef (s.lead k)) (ns : Nat) :
    ((t.profileStep k ns).outAt k).prof = ((s.profileStep k ns).outAt k).prof := by
  have htoken : t.token = s.token := by rw [h]; rfl
  have htarget : t.target k = s.target k := by rw [h]; rfl
  have hlead : t.lead k = s.lead k := by rw [h]; rfl
  have hinterval : t.interval (s.lead k) = s.interval (s.lead k) := by rw [h]; rfl
  have hprofTarget : t.profTarget k = s.profTarget k := by
    unfold State.profTarget
    dsimp only
    rw [htoken, htarget, hprof, hphase, hstate]
  unfold State.profileStep
  dsimp only
  rw [hprof, hprofTarget, hlead, hcoef, hinterval]
  split
  · rw [State.outAt_setOut, State.outAt_setOut, if_pos rfl, if_pos rfl, hprof]
  · rw [State.outAt_setOut, State.outAt_setOut, if_pos rfl, if_pos rfl, hprof]

/-! ### The levels -/

/-- A phase whose reference code is not clipped anew (R165). -/
def State.Unclipped (s : State) (k c : Nat) : Prop := bit (s.chanAt c).cause 5 = true ∨ refCodeRaw (s.vsp k) (s.chVsRatio c) ≤ 65535

/-- The levels of a phase as its output's set-point gives them. -/
def Chan.refreshed (ref os rel : Nat) (clipped : Bool) (c : Chan) : Chan :=
  { c with refCode := ref, thr := { c.thr with overshoot := os, release := rel }, cause := if clipped then setBit c.cause 5 true else c.cause }

theorem State.refreshPhase_eq {s : State} {k c : Nat} (h : s.Unclipped k c) : ∃ ref os rel clipped,
    s.refreshPhase k c = s.setChan c (Chan.refreshed ref os rel clipped) := by
  have hraise : (decide (65535 < refCodeRaw (s.vsp k) (s.chVsRatio c)) && !bit (s.chanAt c).cause 5) = false := by
    rw [Bool.and_eq_false_iff]
    rcases h with h | h
    · exact .inr (by rw [h]; rfl)
    · exact .inl (decide_eq_false (Nat.not_lt.mpr h))
  unfold State.refreshPhase
  dsimp only
  rw [if_neg (by rw [hraise]; exact Bool.false_ne_true)]
  exact ⟨_, _, _, _, rfl⟩

theorem Chan.refreshed_cause {c : Chan} (h : bit c.cause 5 = true) (ref os rel : Nat) (clipped : Bool) :
    bit (c.refreshed ref os rel clipped).cause 5 = true := by
  unfold Chan.refreshed bit
  dsimp only
  split
  · rw [testBit_setBit, if_pos rfl]
  · exact h

theorem State.refreshPhase_spec {s : State} {k c : Nat} (h : s.Unclipped k c) : s.ChansOnly (s.refreshPhase k c) ∧
    ∀ n, ((s.refreshPhase k c).chanAt n).loopWords = (s.chanAt n).loopWords ∧ (s.Unclipped k n → (s.refreshPhase k c).Unclipped k n) := by
  obtain ⟨ref, os, rel, clipped, heq⟩ := State.refreshPhase_eq h
  rw [heq]
  refine ⟨(State.ChansOnly.refl s).setChan c _, fun n => ?_⟩
  unfold State.Unclipped
  rw [State.chanAt_setChan]
  split
  · next hn =>
    rw [hn]
    exact ⟨rfl, fun hn => hn.imp (fun hbit => Chan.refreshed_cause hbit _ _ _ _) id⟩
  · exact ⟨rfl, id⟩

theorem State.each_refreshPhase {k : Nat} (l : List Nat) {s : State} (h : ∀ n ∈ l, s.Unclipped k n) :
    s.ChansOnly (s.each l fun s c => s.refreshPhase k c) ∧
    ∀ n, ((s.each l fun s c => s.refreshPhase k c).chanAt n).loopWords = (s.chanAt n).loopWords := by
  induction l generalizing s with
  | nil => exact ⟨.refl s, fun _ => rfl⟩
  | cons c l ih =>
    obtain ⟨honly, hwords⟩ := State.refreshPhase_spec (h c (List.mem_cons_self ..))
    obtain ⟨honly', hwords'⟩ := ih (s := s.refreshPhase k c) fun n hn => (hwords n).2 (h n (List.mem_cons_of_mem _ hn))
    exact ⟨honly.trans honly', fun n => (hwords' n).trans (hwords n).1⟩

/-! ### An accepted evaluation -/

/-- The words and the profile after the run and the profile of a lead. -/
theorem State.profiled_spec (s : State) (k ch : Nat) (e : Int) (flag : Bool) (ts ns : Nat) :
    s.LoopOnly (s.profiled k ch e flag ts ns) ∧
    (∃ p i, (s.profiled k ch e flag ts ns).outAt k = { s.outAt k with
      comp := { (s.outAt k).comp with
        ist := (s.controlWords k ch e).1.ist, dst := (s.controlWords k ch e).1.dst, u := (s.controlWords k ch e).1.u
        ePrev := (s.controlWords k ch e).1.ePrev, p := p, first := false }
      prof := ((s.profileStep k ns).outAt k).prof, ident := i } ∧
      ((s.outAt k).ident.inj = false → (s.outAt k).ident.startAt = none → i.chip = 0)) ∧
    ∀ c, ((s.profiled k ch e flag ts ns).chanAt c).loopWords = (s.chanAt c).loopWords ∧
      ((s.profiled k ch e flag ts ns).chanAt c).cause = (s.chanAt c).cause := by
  unfold State.profiled
  dsimp only
  obtain ⟨honly, ⟨p, hout⟩, hwords⟩ := s.controlled_spec k ch e
  obtain ⟨a, ha⟩ : ∃ a, a = s.controlled k ch e := ⟨_, rfl⟩
  rw [← ha] at honly hout hwords ⊢
  obtain ⟨hcheck, hcheckChan, i, hcheckOut, hi⟩ := a.identCheck_spec k (a.identStop k e flag (s.controlWords k ch e).2 (s.cutOf k))
  generalize a.identCheck k (a.identStop k e flag (s.controlWords k ch e).2 (s.cutOf k)) = b at hcheck hcheckChan hcheckOut ⊢
  obtain ⟨hchip, hchipChan, j, hchipOut, hj⟩ := b.identChip_spec k ts
  generalize b.identChip k ts = d at hchip hchipChan hchipOut ⊢
  have hsd : s.LoopOnly d := (honly.trans hcheck).trans hchip
  have hchan : d.chan = a.chan := hchipChan.trans hcheckChan
  have houtD : d.outAt k = { s.outAt k with
      comp := { (s.outAt k).comp with
        ist := (s.controlWords k ch e).1.ist, dst := (s.controlWords k ch e).1.dst, u := (s.controlWords k ch e).1.u
        ePrev := (s.controlWords k ch e).1.ePrev, p := p, first := false }
      ident := j } := by rw [hchipOut, hcheckOut, hout]
  have hchanD : ∀ c, d.chanAt c = a.chanAt c := fun c => by rw [State.chanAt, hchan]; rfl
  have hprof := State.profileStep_congr (k := k) hsd (by rw [houtD]) (by rw [houtD]) (by rw [houtD])
    (by rw [State.coef, hchanD]; exact congrArg (·.1) (hwords _).1) ns
  obtain ⟨hstep, hstepChan, q, hstepOut⟩ := d.profileStep_spec k ns
  refine ⟨hsd.trans hstep, ⟨p, j, ?_, fun hinj hstart => ?_⟩, fun c => ?_⟩
  · rw [← hprof, hstepOut, houtD]
  · rw [hout] at hi
    obtain ⟨hiInj, hiStart⟩ := hi hinj hstart
    rw [hcheckOut] at hj
    exact hj hiInj hiStart
  · have hc : (d.profileStep k ns).chanAt c = a.chanAt c := by
      rw [State.chanAt, hstepChan]
      exact hchanD c
    rw [hc]
    exact hwords c

/-- An accepted evaluation of a lead: the control law, the profile, the levels and the duty word (R204 to R210). -/
theorem State.leadAccepted_spec {s : State} {k : Nat} (ch : Nat) (e : Int) (flag : Bool) (ts ns : Nat)
    (hclear : ∀ n ∈ s.phases k, bit (s.chanAt n).cause 5 = true ∨ refCodeRaw ((s.profileStep k ns).vsp k) (s.chVsRatio n) ≤ 65535) :
    ∃ (x : State) (note : EvalNote), s.leadAccepted k ch e flag ts ns = (x, note) ∧ note.rejected = false ∧ s.LoopOnly x ∧
      (∃ p, (x.outAt k).comp = { (s.outAt k).comp with
        ist := (s.controlWords k ch e).1.ist, dst := (s.controlWords k ch e).1.dst, u := (s.controlWords k ch e).1.u
        ePrev := (s.controlWords k ch e).1.ePrev, p := p, first := false }) ∧
      (x.outAt k).prof = ((s.profileStep k ns).outAt k).prof ∧
      ((s.outAt k).ident.inj = false → (s.outAt k).ident.startAt = none → (x.chanAt ch).duty =
        (clampI (s.coef ch).dMin (s.coef ch).dMax (sar ((s.controlWords k ch e).1.u + (s.chanAt ch).share + 1024) 11)).toNat) ∧
      (x.chanAt ch).shadow = (x.chanAt ch).duty ∧ (x.chanAt ch).evalCount = (s.chanAt ch).evalCount := by
  obtain ⟨note, hnote, heq⟩ := s.leadAccepted_eq k ch e flag ts ns
  obtain ⟨honly, ⟨p, i, hout, hchip⟩, hwords⟩ := s.profiled_spec k ch e flag ts ns
  generalize s.profiled k ch e flag ts ns = a at honly hout hwords heq
  have hvsp : a.vsp k = (s.profileStep k ns).vsp k := by
    unfold State.vsp
    rw [hout]
  have hphases : a.phases k = s.phases k := by rw [honly]; rfl
  obtain ⟨hlevels, hlevelWords⟩ := State.each_refreshPhase (a.phases k) (s := a) fun n hn => by
    rw [hphases] at hn
    unfold State.Unclipped
    rw [hvsp, (hwords n).2, show a.chVsRatio n = s.chVsRatio n from by rw [honly]; rfl]
    exact hclear n hn
  generalize (a.each (a.phases k) fun s c => s.refreshPhase k c) = b at hlevels hlevelWords heq
  have houtB : b.outAt k = a.outAt k := by rw [hlevels]; rfl
  have hwordsB : ((b.chanAt ch)).loopWords = (s.chanAt ch).loopWords := (hlevelWords ch).trans (hwords ch).1
  have hcoef : b.coef ch = s.coef ch := congrArg (·.1) hwordsB
  have hshare : (b.chanAt ch).share = (s.chanAt ch).share := congrArg (·.2.1) hwordsB
  have hcount : (b.chanAt ch).evalCount = (s.chanAt ch).evalCount := congrArg (·.2.2.1) hwordsB
  obtain ⟨hd, hds, -, hdc, hdonly, -⟩ := b.writeDuty_spec k ch
  have houtD : (b.writeDuty k ch).outAt k = a.outAt k := by rw [hdonly]; exact houtB
  refine ⟨_, note, heq, hnote, ((honly.chans hlevels).chans hdonly).setOut k _, ⟨p, ?_⟩, ?_, fun hinj hstart => ?_, hds, hdc.trans hcount⟩
  · rw [State.outAt_setOut, if_pos rfl, houtD, hout]
  · rw [State.outAt_setOut, if_pos rfl, houtD, hout]
  · refine hd.trans ?_
    rw [hcoef, hshare, houtB, hout]
    dsimp only
    rw [hchip hinj hstart, Int.add_zero]

/-! ### An evaluation of a lead -/

/-- The state in which a lead's sample is judged: its output's banks swapped, the period's cut noted (R205, R220). -/
theorem State.judged_spec (s : State) (k ch : Nat) : s.ChansOnly ((s.swapBanks k).markCut k ch) ∧
    (∀ c, (((s.swapBanks k).markCut k ch).chanAt c).loopWords = ((s.swapBanks k).chanAt c).loopWords ∧
      (((s.swapBanks k).markCut k ch).chanAt c).loopWords.2 = (s.chanAt c).loopWords.2 ∧
      (((s.swapBanks k).markCut k ch).chanAt c).cause = (s.chanAt c).cause) ∧
    ((s.swapBanks k).markCut k ch).cutOf k = s.cutOf k := by
  have honly : s.ChansOnly ((s.swapBanks k).markCut k ch) := (s.swapBanks_chansOnly k).setChan ch _
  have hmark : ∀ c, ∃ y, ((s.swapBanks k).markCut k ch).chanAt c = { (s.swapBanks k).chanAt c with cyc := y } := fun c => by
    unfold State.markCut
    rw [State.chanAt_setChan]
    split
    · next h => rw [h]; exact ⟨_, rfl⟩
    · exact ⟨_, rfl⟩
  refine ⟨honly, fun c => ?_, State.cutOf_congr (by rw [honly]) fun c => ?_⟩
  · obtain ⟨y, hy⟩ := hmark c
    obtain ⟨b, d, hbank⟩ := s.swapBanks_chanAt k c
    rw [hy, hbank]
    exact ⟨rfl, rfl, rfl⟩
  · obtain ⟨y, hy⟩ := hmark c
    obtain ⟨b, d, hbank⟩ := s.swapBanks_chanAt k c
    rw [hy, hbank]
    exact ⟨rfl, rfl⟩

theorem clampI_window {code : Int} (hlow : -512 ≤ code) (hhigh : code ≤ 511) : clampI (-512) 511 code = code := by
  unfold clampI
  omega

theorem clampI_outside {code : Int} (h : code < -512 ∨ 511 < code) : code ≠ clampI (-512) 511 code := by
  unfold clampI
  omega

/-- What follows the control law of a lead: the trigger of a saturated step, the counts and the trace. -/
theorem State.traced_spec (s : State) (k ch : Nat) (sat : Bool) (code cur : Int) (sh : Nat) (e : TraceEntry) :
    let t := ((if sat = true then s.chanTrigger ch 5 else s).countEval ch code cur sh).traceWrite ch e
    t.outAt k = s.outAt k ∧ (t.chanAt ch).duty = (s.chanAt ch).duty ∧ (t.chanAt ch).shadow = (s.chanAt ch).shadow ∧
    (t.chanAt ch).rejectTotal = (s.chanAt ch).rejectTotal ∧ (t.chanAt ch).evalCount = ((s.chanAt ch).evalCount + 1) % 2 ^ 32 ∧
    Only [.chan, .cluster, .faults] s t := by
  dsimp only
  have hfoot : Foot 0x1000 s (if sat = true then s.chanTrigger ch 5 else s) := .ite (s.chanTrigger_foot ch 5) .same
  generalize (if sat = true then s.chanTrigger ch 5 else s) = a at hfoot
  have hout : a.outAt k = s.outAt k := by rw [State.outAt, hfoot.keeps .out]; rfl
  have hchan : a.chanAt ch = s.chanAt ch := by rw [State.chanAt, hfoot.keeps .chan]; rfl
  obtain ⟨hd, hs, -, hr, hc, honly, -⟩ := a.countEval_spec ch code cur sh
  rw [hchan] at hd hs hr hc
  simp only [State.traceWrite_chanAt, State.traceWrite_outAt]
  refine ⟨?_, hd, hs, hr, hc, ((hfoot.onlyIn _).trans (honly.only.mono (by decide))).trans ((State.traceWrite_foot _ _ _).onlyIn _)⟩
  rw [honly]
  exact hout

/-- An accepted sample of a lead (R204 to R220). -/
theorem State.evaluate_accepted {s y : State} {k ch ns : Nat} {code : Int} (hlead : ch = s.lead k) (hy : y = s.swapBanks k)
    (hfix : Tab.get none s.sluice.fix ch = none) (hfixOut : Tab.get none s.sluice.fixOut k = none) (hlow : -512 ≤ code) (hhigh : code ≤ 511)
    (hclear : ∀ n, n ∈ s.phases k → bit (s.chanAt n).cause 5 = true ∨ refCodeRaw ((y.profileStep k ns).vsp k) (s.chVsRatio n) ≤ 65535)
    {r : CompWords × Bool} (hr : r = compEval (y.coef ch) ((y.coef ch).gain code) code (s.cutOf k)
        { ist := (s.outAt k).comp.ist, dst := (s.outAt k).comp.dst, u := (s.outAt k).comp.u
          ePrev := if (s.outAt k).comp.first then code else (s.outAt k).comp.ePrev }) (cur : Int) (ts sh : Nat) :
    ∃ x : State, s.evaluate k ch code cur ts sh ns = x.profileArrival k ∧
      (x.outAt k).comp.ist = r.1.ist ∧ (x.outAt k).comp.dst = r.1.dst ∧ (x.outAt k).comp.u = r.1.u ∧
      (x.outAt k).comp.ePrev = code ∧ (x.outAt k).comp.rejRun = 0 ∧
      (x.outAt k).prof = ((y.profileStep k ns).outAt k).prof ∧
      ((s.outAt k).ident.inj = false → (s.outAt k).ident.startAt = none → (x.chanAt ch).duty =
        (clampI (y.coef ch).dMin (y.coef ch).dMax (sar (r.1.u + (s.chanAt ch).share + 1024) 11)).toNat) ∧
      (x.chanAt ch).shadow = (x.chanAt ch).duty ∧
      (x.chanAt ch).evalCount = ((s.chanAt ch).evalCount + 1) % 2 ^ 32 ∧ Only [.chan, .out, .cluster, .faults] s x := by
  subst hy
  obtain ⟨hjudged, hwords, hcut⟩ := s.judged_spec k ch
  obtain ⟨b, hb⟩ : ∃ b, b = (s.swapBanks k).markCut k ch := ⟨_, rfl⟩
  rw [← hb] at hjudged hwords hcut
  -- the run of rejected samples ends (R204)
  obtain ⟨a, ha⟩ : ∃ a, a = b.setOut k fun o => { o with comp := { o.comp with rejRun := 0 } } := ⟨_, rfl⟩
  have hrej : b.rejection k ch false = (a, false) := by
    rw [ha]
    rfl
  have houtA : a.outAt k = { s.outAt k with comp := { (s.outAt k).comp with rejRun := 0 } } := by
    rw [ha, State.outAt_setOut, if_pos rfl, hjudged]
    rfl
  have hloopB : s.LoopOnly b := (State.LoopOnly.refl s).chans hjudged
  have hloopA : s.LoopOnly a := by
    rw [ha]
    exact hloopB.setOut k _
  have hchanA : ∀ c, a.chanAt c = b.chanAt c := fun c => by rw [ha]; rfl
  have hcoef : ∀ c, a.coef c = (s.swapBanks k).coef c := fun c => by
    rw [State.coef, hchanA]
    exact congrArg (·.1) (hwords c).1
  have hcontrol : a.controlWords k ch code = r := by
    unfold State.controlWords
    rw [hcoef, houtA, hr, show a.cutOf k = s.cutOf k from by rw [ha]; exact hcut]
  have hswap := s.swapBanks_chansOnly k
  have hprof : ((a.profileStep k ns).outAt k).prof = (((s.swapBanks k).profileStep k ns).outAt k).prof := by
    have houtY : (s.swapBanks k).outAt k = s.outAt k := by rw [hswap]; rfl
    refine State.profileStep_congr ?_ (by rw [houtA, houtY]) (by rw [houtA, houtY]) (by rw [houtA, houtY]) (hcoef _) ns
    rw [ha, hb]
    exact ((State.LoopOnly.refl _).setChan ch _).setOut k _
  obtain ⟨x, note, haccepted, hnote, honly, ⟨p, hcomp⟩, hprofX, hduty, hshadow, hcount⟩ := State.leadAccepted_spec (s := a) (k := k) ch code false ts ns
    fun n hn => by
      rw [hchanA, (hwords n).2.2, show a.chVsRatio n = s.chVsRatio n from by rw [hloopA]; rfl]
      unfold State.vsp
      rw [hprof]
      rw [State.phases_congr (show a.desc = s.desc from by rw [hloopA])] at hn
      exact hclear n hn
  have heval : b.leadEval k ch (clampI (-512) 511 code) (decide (code ≠ clampI (-512) 511 code)) ts ns = (x, note) := by
    rw [clampI_window hlow hhigh, decide_eq_false (fun h => h rfl), ← haccepted]
    unfold State.leadEval
    rw [hrej]
    exact if_neg Bool.false_ne_true
  have hsx : s.LoopOnly x := hloopA.trans honly
  obtain ⟨e, heq⟩ := State.evaluate_lead hlead hfix hfixOut code cur ts sh ns (hb ▸ heval) (by rw [hsx])
  obtain ⟨hout, hd, hs, -, hc, htraced⟩ := x.traced_spec k ch note.sat (clampI (-512) 511 code) cur sh e
  rw [hcontrol] at hcomp hduty
  have hshare : (a.chanAt ch).share = (s.chanAt ch).share := by
    rw [hchanA]
    exact congrArg (·.1) (hwords ch).2.1
  have hcountA : (a.chanAt ch).evalCount = (s.chanAt ch).evalCount := by
    rw [hchanA]
    exact congrArg (·.2.1) (hwords ch).2.1
  refine ⟨_, heq.trans (if_pos hnote), ?_⟩
  dsimp only
  rw [hout, hd, hs, hc, hcomp, houtA, hprofX, hprof, hshadow, hcount, hcountA]
  refine ⟨rfl, rfl, rfl, ?_, rfl, rfl, fun hinj hstart => ?_, rfl, rfl, (hsx.only.mono (by decide)).trans (htraced.mono (by decide))⟩
  · rw [hr]
    rfl
  · rw [houtA, hcoef, hshare] at hduty
    exact hduty hinj hstart

/-- A rejected sample of a lead (R204, R206). -/
theorem State.evaluate_rejected {s y : State} {k ch : Nat} {code : Int} (hlead : ch = s.lead k) (hy : y = s.swapBanks k)
    (hfix : Tab.get none s.sluice.fix ch = none) (hfixOut : Tab.get none s.sluice.fixOut k = none) (hcode : code < -512 ∨ 511 < code)
    (hrun : (s.outAt k).comp.rejRun < (y.coef ch).rejectCount) (hcount : (y.coef ch).rejectCount ≤ 255) (cur : Int) (ts sh ns : Nat) :
    ∃ x : State, s.evaluate k ch code cur ts sh ns = x ∧
      (x.outAt k).comp = { (s.outAt k).comp with rejRun := (s.outAt k).comp.rejRun + 1 } ∧
      (x.outAt k).prof = (s.outAt k).prof ∧
      (x.chanAt ch).duty = (s.chanAt ch).duty ∧ (x.chanAt ch).shadow = (s.chanAt ch).shadow ∧
      (x.chanAt ch).rejectTotal = ((s.chanAt ch).rejectTotal + 1) % 2 ^ 32 ∧
      (x.chanAt ch).evalCount = ((s.chanAt ch).evalCount + 1) % 2 ^ 32 ∧ Only [.chan, .out, .cluster, .faults] s x := by
  subst hy
  obtain ⟨hjudged, hwords, -⟩ := s.judged_spec k ch
  obtain ⟨b, hb⟩ : ∃ b, b = (s.swapBanks k).markCut k ch := ⟨_, rfl⟩
  rw [← hb] at hjudged hwords
  have houtB : b.outAt k = s.outAt k := by rw [hjudged]; rfl
  have hlim : (b.coef (b.lead k)).rejectCount = ((s.swapBanks k).coef ch).rejectCount := by
    rw [State.lead_congr (show b.desc = s.desc from by rw [hjudged]), ← hlead]
    exact congrArg (fun w => w.1.rejectCount) (hwords ch).1
  obtain ⟨a, ha⟩ : ∃ a, a = (b.setOut k fun o => { o with comp := { o.comp with rejRun := (s.outAt k).comp.rejRun + 1 } }).setChan ch fun c =>
    { c with rejectTotal := (c.rejectTotal + 1) % 2 ^ 32, cyc := { c.cyc with rejected := true } } := ⟨_, rfl⟩
  have hrej : b.rejection k ch true = (a, true) := by
    have hn : min 255 ((b.outAt k).comp.rejRun + 1) = (s.outAt k).comp.rejRun + 1 := by
      rw [houtB]
      omega
    unfold State.rejection
    dsimp only
    rw [if_pos rfl, hn]
    have hle : (s.outAt k).comp.rejRun + 1 ≤ (State.coef (b.setOut k fun o =>
        { o with comp := { o.comp with rejRun := (s.outAt k).comp.rejRun + 1 } }) (b.lead k)).rejectCount := Nat.le_trans hrun (Nat.le_of_eq hlim.symm)
    rw [if_pos ⟨rfl, hle⟩, ha]
  have hloopA : s.LoopOnly a := by
    rw [ha]
    exact (((State.LoopOnly.refl s).chans hjudged).setOut k _).setChan ch _
  have houtA : a.outAt k = { s.outAt k with comp := { (s.outAt k).comp with rejRun := (s.outAt k).comp.rejRun + 1 } } := by
    rw [ha, State.setChan_outAt, State.outAt_setOut, if_pos rfl, houtB]
  have hchanA : a.chanAt ch = { b.chanAt ch with rejectTotal := ((b.chanAt ch).rejectTotal + 1) % 2 ^ 32, cyc := { (b.chanAt ch).cyc with rejected := true } } := by
    rw [ha, State.chanAt_setChan, if_pos rfl]
    rfl
  obtain ⟨hcheck, hcheckChan, i, hcheckOut, -⟩ := a.identCheck_spec k (some 5)
  have heval : ∃ note : EvalNote, note.rejected = true ∧ b.leadEval k ch (clampI (-512) 511 code) (decide (code ≠ clampI (-512) 511 code)) ts ns =
      (a.identCheck k (some 5), note) := by
    rw [decide_eq_true (clampI_outside hcode)]
    unfold State.leadEval
    rw [hrej]
    exact ⟨_, rfl, rfl⟩
  obtain ⟨note, hnote, heval⟩ := heval
  have hchanX : (a.identCheck k (some 5)).chanAt ch = a.chanAt ch := by rw [State.chanAt, hcheckChan]; rfl
  have hsx := hloopA.trans hcheck
  generalize a.identCheck k (some 5) = x at hcheck hcheckChan hcheckOut heval hchanX hsx
  obtain ⟨e, heq⟩ := State.evaluate_lead hlead hfix hfixOut code cur ts sh ns (hb ▸ heval) (by rw [hsx])
  obtain ⟨hout, hd, hs, hr, hc, htraced⟩ := x.traced_spec k ch note.sat (clampI (-512) 511 code) cur sh e
  refine ⟨_, heq.trans (if_neg (by rw [hnote]; exact fun h => Bool.false_ne_true h.symm)), ?_⟩
  dsimp only
  obtain ⟨-, hw, -⟩ := hwords ch
  rw [hout, hd, hs, hr, hc, hcheckOut, houtA, hchanX, hchanA]
  dsimp only
  refine ⟨rfl, rfl, congrArg (·.2.2.1) hw, congrArg (·.2.2.2.1) hw, ?_, ?_, (hsx.only.mono (by decide)).trans (htraced.mono (by decide))⟩
  · rw [show (b.chanAt ch).rejectTotal = (s.chanAt ch).rejectTotal from congrArg (·.2.2.2.2) hw]
  · rw [show (b.chanAt ch).evalCount = (s.chanAt ch).evalCount from congrArg (·.2.1) hw]

end Sys2Proof.Machine
end

section
/-! PROOFS. The 10 µs accumulation of a cluster and its clamp (R24, R212, R276, R280). -/
set_option Elab.async false
namespace Sys2Proof.Machine

/-! ### Lists of items under an invariant -/

/-- An invariant that every item of a list keeps holds after the list. -/
theorem State.each_invariant {I : State → Prop} {f : State → Nat → State} (l : List Nat) (hkeep : ∀ t, ∀ m ∈ l, I t → I (f t m)) {s : State}
    (h : I s) : I (s.each l f) := by
  induction l generalizing s with
  | nil => exact h
  | cons m l ih => exact ih (fun t n hn => hkeep t n (List.mem_cons_of_mem _ hn)) (hkeep s m (List.mem_cons_self ..) h)

/-- What one item of a list makes true under an invariant holds after the list, where every item keeps it. -/
theorem State.each_reaches {I P : State → Prop} {f : State → Nat → State} {l : List Nat} {n : Nat} (hn : n ∈ l) (hI : ∀ t m, I t → I (f t m))
    (hmake : ∀ t, I t → P (f t n)) (hkeep : ∀ t m, I t → P t → P (f t m)) {s : State} (h : I s) : P (s.each l f) := by
  induction l generalizing s with
  | nil => cases hn
  | cons m l ih =>
    rcases List.mem_cons.mp hn with rfl | hn
    · exact (State.each_holds (P := fun t => I t ∧ P t) (fun t m ht => ⟨hI t m ht.1, hkeep t m ht.1 ht.2⟩) l ⟨hI s n h, hmake s h⟩).2
    · exact ih hn (hI s m h)

/-! ### One output -/

/-- The update of an output on the boundary touches its own words and its phases'. -/
theorem State.shareTerms_spec (s : State) (k : Nat) : s.ChansOnly (s.shareTerms k) ∧
    (∀ c, c ∉ s.phases k → (s.shareTerms k).chanAt c = s.chanAt c) ∧
    ∀ c, ((s.shareTerms k).chanAt c).curMean = (s.chanAt c).curMean ∧ ((s.shareTerms k).chanAt c).curCount = (s.chanAt c).curCount := by
  unfold State.shareTerms
  dsimp only
  split
  · refine ⟨State.each_holds (P := fun t => s.ChansOnly t) (fun t i ht => ht.setChan _ _) _ (.refl s), fun c hc => ?_, fun c => ?_⟩
    · refine State.each_invariant (I := fun t => t.chanAt c = s.chanAt c) _ (fun t i hi ht => ?_) rfl
      refine (State.chanAt_setChan _ _ _ _).trans ((if_neg fun h => hc ?_).trans ht)
      rw [mem_upto] at hi
      rw [h, ← List.getElem_eq_getD (h := hi)]
      exact List.getElem_mem hi
    · refine State.each_holds (P := fun t => (t.chanAt c).curMean = (s.chanAt c).curMean ∧ (t.chanAt c).curCount = (s.chanAt c).curCount)
        (fun t i ht => ?_) _ ⟨rfl, rfl⟩
      rw [State.chanAt_setChan]
      split
      · next h => rw [← h]; exact ht
      · exact ht
  · exact ⟨.refl s, fun _ _ => rfl, fun _ => ⟨rfl, rfl⟩⟩

/-- The estimate of an output changes its output alone (R276). -/
theorem State.estimate_spec (s : State) (k : Nat) : s.LoopOnly (s.estimate k) ∧ (s.estimate k).chan = s.chan ∧
    ∀ j, j ≠ k → (s.estimate k).outAt j = s.outAt j :=
  ⟨(State.LoopOnly.refl s).setOut k _, rfl, fun _ hj => (State.outAt_setOut _ _ _ _).trans (if_neg hj)⟩

/-- The update of an output on the boundary takes the means of its phases, and touches no other channel and no other output. -/
theorem State.accumulateOut_spec (s : State) (k : Nat) : s.LoopOnly (s.accumulateOut k) ∧
    (∀ c, c ∉ s.phases k → (s.accumulateOut k).chanAt c = s.chanAt c) ∧ (∀ j, j ≠ k → (s.accumulateOut k).outAt j = s.outAt j) ∧
    ∀ c, c ∈ s.phases k → ((s.accumulateOut k).chanAt c).curMean = (s.chanAt c).takeMean.curMean ∧
      ((s.accumulateOut k).chanAt c).curCount = 0 := by
  unfold State.accumulateOut
  dsimp only
  obtain ⟨htake, htaken⟩ := State.each_chans (s := s) (fun t c => t.setChan c Chan.takeMean) (fun _ => Chan.takeMean) (fun _ _ _ => rfl)
    (s.phases k) (s.phases_nodup k)
  generalize (s.each (s.phases k) fun t c => t.setChan c Chan.takeMean) = a at htake htaken
  have hphasesA : a.phases k = s.phases k := by rw [htake]; rfl
  obtain ⟨hshare, hshareNe, hshareMean⟩ := a.shareTerms_spec k
  generalize a.shareTerms k = b at hshare hshareNe hshareMean
  obtain ⟨hestimate, hestimateChan, hestimateOut⟩ := b.estimate_spec k
  generalize b.estimate k = d at hestimate hestimateChan hestimateOut
  have hsb : s.LoopOnly b := ((State.LoopOnly.refl s).chans htake).chans hshare
  have hsd : s.LoopOnly d := hsb.trans hestimate
  have hphasesD : d.phases k = s.phases k := by rw [hsd]; rfl
  have hchanD : ∀ c, d.chanAt c = b.chanAt c := fun c => by rw [State.chanAt, hestimateChan]; rfl
  obtain ⟨hend, hended⟩ := State.each_chans (s := d) (fun t c => t.setChan c fun x => { x with cutInterval := false })
    (fun _ x => { x with cutInterval := false }) (fun _ _ _ => rfl) (d.phases k) (d.phases_nodup k)
  generalize (d.each (d.phases k) fun t c => t.setChan c fun x => { x with cutInterval := false }) = e at hend hended
  refine ⟨hsd.chans hend, fun c hc => ?_, fun j hj => ?_, fun c hc => ?_⟩
  · rw [hended, if_neg (by rw [hphasesD]; exact hc), hchanD, hshareNe c (by rw [hphasesA]; exact hc), htaken, if_neg hc]
  · have hde : e.outAt j = d.outAt j := by rw [hend]; rfl
    have hsb : b.outAt j = s.outAt j := by rw [hshare, htake]; rfl
    rw [hde, hestimateOut j hj, hsb]
  · rw [hended, if_pos (by rw [hphasesD]; exact hc)]
    dsimp only
    rw [hchanD, (hshareMean c).1, (hshareMean c).2, htaken, if_pos hc]
    exact ⟨rfl, rfl⟩

/-! ### The outputs of a cluster -/

/-- The comparators' codes written for the phases with a clamp (R281). -/
theorem State.writeClamp_spec (s : State) (ch : Nat) : s.ChansOnly (s.writeClamp ch) ∧
    ∀ c, ∃ y, (s.writeClamp ch).chanAt c = { s.chanAt c with thr := y } ∧ (c ≠ ch → y = (s.chanAt c).thr) := by
  unfold State.writeClamp
  dsimp only
  split
  · refine ⟨(State.ChansOnly.refl s).setChan ch _, fun c => ?_⟩
    rw [State.chanAt_setChan]
    split
    · next h => rw [← h]; exact ⟨_, rfl, fun hne => absurd rfl hne⟩
    · exact ⟨_, rfl, fun _ => rfl⟩
  · exact ⟨.refl s, fun c => ⟨_, rfl, fun _ => rfl⟩⟩

/-- The state in which the polders' sums of a cluster are taken. -/
def State.accumulated (s : State) (l : List Nat) : State :=
  (s.each l fun s k => s.each (s.phases k) State.writeClamp).each l State.accumulateOut

/-- `t` is `s` but for the comparators' codes of the phases of some outputs. -/
def State.ComparatorsOnly (s : State) (l : List Nat) (t : State) : Prop :=
  s.ChansOnly t ∧ ∀ c, ∃ y, t.chanAt c = { s.chanAt c with thr := y } ∧ ((∀ k ∈ l, c ∉ s.phases k) → y = (s.chanAt c).thr)

theorem State.each_writeClamp (s : State) (l : List Nat) :
    s.ComparatorsOnly l (s.each l fun s k => s.each (s.phases k) State.writeClamp) := by
  refine State.each_invariant l (fun t k hk ht => ?_) ⟨.refl s, fun c => ⟨_, rfl, fun _ => rfl⟩⟩
  refine State.each_invariant (I := s.ComparatorsOnly l) _ (fun u ch hch hu => ?_) ht
  obtain ⟨htonly, -⟩ := ht
  obtain ⟨huonly, huchan⟩ := hu
  have hphases : t.phases k = s.phases k := by rw [htonly]; rfl
  rw [hphases] at hch
  obtain ⟨honly, hchan⟩ := u.writeClamp_spec ch
  refine ⟨huonly.trans honly, fun c => ?_⟩
  obtain ⟨y, hy, hyne⟩ := huchan c
  obtain ⟨z, hz, hzne⟩ := hchan c
  refine ⟨z, by rw [hz, hy], fun hout => ?_⟩
  rw [hzne fun h => hout k hk (h ▸ hch), hy]
  exact hyne hout

theorem State.each_accumulateOut (s : State) (l : List Nat) :
    let t := s.each l State.accumulateOut
    s.LoopOnly t ∧ (∀ c, (∀ k ∈ l, c ∉ s.phases k) → t.chanAt c = s.chanAt c) ∧ (∀ j, j ∉ l → t.outAt j = s.outAt j) ∧
    ∀ c, (s.chanAt c).curCount ≠ 0 → (∃ k, k ∈ l ∧ c ∈ s.phases k) →
      (t.chanAt c).curMean = tdiv (s.chanAt c).curSum (s.chanAt c).curCount ∧ (t.chanAt c).curCount = 0 := by
  have hphases : ∀ t : State, s.LoopOnly t → ∀ k, t.phases k = s.phases k := fun t ht k => by rw [ht]; rfl
  have honly : ∀ (t : State) (k : Nat), s.LoopOnly t → s.LoopOnly (t.accumulateOut k) := fun t k ht => ht.trans (t.accumulateOut_spec k).1
  refine ⟨State.each_holds (P := fun t => s.LoopOnly t) honly l (.refl s), fun c hc => ?_, fun j hj => ?_, fun c hcount hin => ?_⟩
  · refine (State.each_invariant (I := fun t => s.LoopOnly t ∧ t.chanAt c = s.chanAt c) l (fun t k hk ht => ⟨honly t k ht.1, ?_⟩) ⟨.refl s, rfl⟩).2
    exact ((t.accumulateOut_spec k).2.1 c (by rw [hphases t ht.1]; exact hc k hk)).trans ht.2
  · refine State.each_invariant (I := fun t => t.outAt j = s.outAt j) l (fun t k hk ht => ?_) rfl
    exact ((t.accumulateOut_spec k).2.2.1 j fun h => hj (h ▸ hk)).trans ht
  · obtain ⟨k, hk, hck⟩ := hin
    have hstep : ∀ (t : State) (m : Nat), s.LoopOnly t →
        ((t.chanAt c).curCount = (s.chanAt c).curCount ∧ (t.chanAt c).curSum = (s.chanAt c).curSum) ∨
          ((t.chanAt c).curMean = tdiv (s.chanAt c).curSum (s.chanAt c).curCount ∧ (t.chanAt c).curCount = 0) →
        c ∈ s.phases m → ((t.accumulateOut m).chanAt c).curMean = tdiv (s.chanAt c).curSum (s.chanAt c).curCount ∧
          ((t.accumulateOut m).chanAt c).curCount = 0 := fun t m ht hmeans hm => by
      obtain ⟨hmean, hzero⟩ := (t.accumulateOut_spec m).2.2.2 c (by rw [hphases t ht]; exact hm)
      refine ⟨hmean.trans ?_, hzero⟩
      unfold Chan.takeMean
      rcases hmeans with ⟨hn, hsum⟩ | ⟨hm, hn⟩
      · dsimp only
        rw [hn, if_neg hcount, hsum]
      · dsimp only
        rw [hn, if_pos rfl, hm]
    have hother : ∀ (t : State) (m : Nat), s.LoopOnly t → c ∉ s.phases m → (t.accumulateOut m).chanAt c = t.chanAt c := fun t m ht hm =>
      (t.accumulateOut_spec m).2.1 c (by rw [hphases t ht]; exact hm)
    refine State.each_reaches (I := fun t => s.LoopOnly t ∧
        (((t.chanAt c).curCount = (s.chanAt c).curCount ∧ (t.chanAt c).curSum = (s.chanAt c).curSum) ∨
          ((t.chanAt c).curMean = tdiv (s.chanAt c).curSum (s.chanAt c).curCount ∧ (t.chanAt c).curCount = 0)))
      (P := fun t => (t.chanAt c).curMean = tdiv (s.chanAt c).curSum (s.chanAt c).curCount ∧ (t.chanAt c).curCount = 0) hk
      (fun t m ht => ⟨honly t m ht.1, ?_⟩) (fun t ht => hstep t k ht.1 ht.2 hck) (fun t m ht hdone => ?_) ⟨.refl s, .inl ⟨rfl, rfl⟩⟩
    · by_cases hm : c ∈ s.phases m
      · exact .inr (hstep t m ht.1 ht.2 hm)
      · rw [hother t m ht.1 hm]
        exact ht.2
    · by_cases hm : c ∈ s.phases m
      · exact hstep t m ht.1 ht.2 hm
      · rw [hother t m ht.1 hm]
        exact hdone

/-- The means, the estimates and the untouched rest once the outputs of a cluster are accumulated. -/
theorem State.accumulated_spec (s : State) (l : List Nat) : s.LoopOnly (s.accumulated l) ∧
    (∀ c, (∀ k ∈ l, c ∉ s.phases k) → (s.accumulated l).chanAt c = s.chanAt c) ∧ (∀ j, j ∉ l → (s.accumulated l).outAt j = s.outAt j) ∧
    ∀ c, (s.chanAt c).curCount ≠ 0 → (∃ k, k ∈ l ∧ c ∈ s.phases k) →
      ((s.accumulated l).chanAt c).curMean = tdiv (s.chanAt c).curSum (s.chanAt c).curCount ∧ ((s.accumulated l).chanAt c).curCount = 0 := by
  unfold State.accumulated
  obtain ⟨hclamp, hclamped⟩ := s.each_writeClamp l
  generalize (s.each l fun s k => s.each (s.phases k) State.writeClamp) = a at hclamp hclamped
  obtain ⟨honly, hchan, hout, hmean⟩ := a.each_accumulateOut l
  generalize a.each l State.accumulateOut = b at honly hchan hout hmean
  have hphases : ∀ k, a.phases k = s.phases k := fun k => by rw [hclamp]; rfl
  refine ⟨((State.LoopOnly.refl s).chans hclamp).trans honly, fun c hc => ?_, fun j hj => ?_, fun c hcount hin => ?_⟩
  · obtain ⟨y, hy, hyne⟩ := hclamped c
    rw [hchan c fun k hk => by rw [hphases]; exact hc k hk, hy, hyne hc]
  · rw [hout j hj, hclamp]
    rfl
  · obtain ⟨y, hy, -⟩ := hclamped c
    have h := hmean c (by rw [hy]; exact hcount) (hin.imp fun k hk => ⟨hk.1, by rw [hphases]; exact hk.2⟩)
    rw [hy] at h
    exact h

/-! ### The polders of a cluster -/

theorem execFreeboardAccumulation_idle {s : State} {cl : Nat} (h : 4 ≤ cl ∨ s.mode.firmware = false ∨ s.held cl = true) :
    exec (.freeboardAccumulation cl) s = .next s := by
  refine Machine.next_congr (if_neg ?_)
  simp only [Bool.and_eq_true, decide_eq_true_eq, Bool.not_eq_true', not_and]
  intro hactive
  obtain ⟨⟨hfirmware, hcl⟩, hheld⟩ := hactive
  rcases h with h | h | h
  · omega
  · rw [h] at hfirmware; cases hfirmware
  · rw [h] at hheld; cases hheld

theorem execFreeboardAccumulation_eq {s : State} {cl : Nat} (hfirmware : s.mode.firmware = true) (hcl : cl < 4) (hheld : s.held cl = false)
    (hserves : s.token = true ∨ s.shadowing = true) : exec (.freeboardAccumulation cl) s =
      .next ((s.accumulated (s.outsOfCluster cl)).each s.enabledPolders fun s q => s.accumulatePolder cl q) := by
  have henabled : (s.accumulated (s.outsOfCluster cl)).enabledPolders = s.enabledPolders := by
    rw [(s.accumulated_spec (s.outsOfCluster cl)).1]
    rfl
  rw [← henabled]
  refine Machine.next_congr (if_pos ?_)
  simp only [Bool.and_eq_true, decide_eq_true_eq, Bool.not_eq_true', Bool.or_eq_true]
  exact ⟨⟨⟨hfirmware, hcl⟩, hheld⟩, hserves⟩

/-- The sum of a polder in a cluster (R276). -/
def State.polderSum (s : State) (cl q : Nat) : Int :=
  sumI (((s.outsOfCluster cl).filter fun k => decide (s.outPolder k = q)).map fun k => (s.outAt k).eLast)

/-- The state in which a cluster keeps a polder's sum. -/
def State.summed (s : State) (cl q : Nat) : State :=
  s.setCluster cl fun x =>
    { x with lastSum := Tab.set 0 x.lastSum q (s.polderSum cl q)
             maxSum := Tab.upd none x.maxSum q fun m => some (match m with | some n => max n (s.polderSum cl q) | none => s.polderSum cl q) }

theorem State.accumulatePolder_eq (s : State) (cl q : Nat) : s.accumulatePolder cl q =
    if s.polCeiling q ≠ 0 ∧ ((Tab.get 0 (s.clusterAt cl).share q : Nat) : Int) < s.polderSum cl q
    then (s.summed cl q).clampPolder cl q (Tab.get 0 (s.clusterAt cl).share q) (s.polderSum cl q) else s.summed cl q := by
  have hshare : ((s.summed cl q).clusterAt cl).share = (s.clusterAt cl).share := by
    unfold State.summed
    rw [State.clusterAt_setCluster, if_pos rfl]
  rw [← hshare]
  rfl

theorem State.summed_spec (s : State) (cl q : Nat) : Only [.cluster] s (s.summed cl q) ∧ (s.summed cl q).desc = s.desc ∧
    (∀ j, j ≠ cl → (s.summed cl q).clusterAt j = s.clusterAt j) ∧ Tab.get 0 ((s.summed cl q).clusterAt cl).lastSum q = s.polderSum cl q ∧
    (s.summed cl q).polderSum cl q = s.polderSum cl q ∧ (s.summed cl q).chan = s.chan ∧ (s.summed cl q).out = s.out := by
  refine ⟨(State.setCluster_foot _ _ _).onlyIn _, rfl, fun j hj => (State.clusterAt_setCluster _ _ _ _).trans (if_neg hj), ?_, rfl, rfl, rfl⟩
  unfold State.summed
  rw [State.clusterAt_setCluster, if_pos rfl]
  exact (Tab.get_set _ _ _ _ _).trans (if_pos rfl)

/-- Where no polder has a ceiling the sums alone are kept. -/
theorem State.each_accumulatePolder {s : State} {cl : Nat} (hceiling : ∀ q, s.polCeiling q = 0) (l : List Nat) :
    let t := s.each l fun s q => s.accumulatePolder cl q
    Only [.cluster] s t ∧ t.desc = s.desc ∧ (∀ j, j ≠ cl → t.clusterAt j = s.clusterAt j) ∧ t.chan = s.chan ∧ t.out = s.out := by
  refine State.each_holds (P := fun t => Only [.cluster] s t ∧ t.desc = s.desc ∧ (∀ j, j ≠ cl → t.clusterAt j = s.clusterAt j) ∧
    t.chan = s.chan ∧ t.out = s.out) (fun t q ht => ?_) l ⟨Only.refl _ s, rfl, fun _ _ => rfl, rfl, rfl⟩
  obtain ⟨honly, hdesc, hclusters, hchan, hout⟩ := ht
  have hzero : t.polCeiling q = 0 := (congrArg (fun d : Desc => ({ s with desc := d } : State).polCeiling q) hdesc).trans (hceiling q)
  obtain ⟨honly', hdesc', hclusters', -, -, hchan', hout'⟩ := t.summed_spec cl q
  rw [State.accumulatePolder_eq, if_neg fun h => h.1 hzero]
  exact ⟨honly.trans honly', hdesc'.trans hdesc, fun j hj => (hclusters' j hj).trans (hclusters j hj), hchan'.trans hchan, hout'.trans hout⟩

/-! ### The clamp of a polder -/

theorem State.phases_of_committed {s t : State} (h : t.desc.committed = s.desc.committed) (k : Nat) : t.phases k = s.phases k :=
  congrArg (fun d => ({ s with desc := { s.desc with committed := d } } : State).phases k) h

theorem State.chOcpLimit_of_committed {s t : State} (h : t.desc.committed = s.desc.committed) (c : Nat) : t.chOcpLimit c = s.chOcpLimit c :=
  congrArg (fun d => ({ s with desc := { s.desc with committed := d } } : State).chOcpLimit c) h

/-- What the clamp of a channel is reckoned from. -/
def State.SameLimits (s t : State) (ch : Nat) : Prop :=
  t.desc.committed = s.desc.committed ∧ (t.chanAt ch).curMean = (s.chanAt ch).curMean

/-- Is a channel clamped to at most a level? -/
def Chan.clampedTo (c : Chan) (n : Nat) : Prop := ∃ m, c.clamp = some m ∧ m ≤ n

/-- The clamp of one phase (R280). -/
def State.clampPhase (s : State) (share : Nat) (sum : Int) (c : Nat) : State :=
  s.setChan c fun x =>
    { x with
      tide := { x.tide with clamp := true }
      clamp := some (match x.clamp with
        | some o => min o (clampOf (s.chOcpLimit c) (s.chanAt c).curMean share sum.toNat)
        | none => clampOf (s.chOcpLimit c) (s.chanAt c).curMean share sum.toNat) }

/-- The clamp of one output (R226, R280). -/
def State.clampOut (s : State) (share : Nat) (sum : Int) (k : Nat) : State :=
  let t := (s.identCheck k (some 7)).setOut k fun o => { o with limited := true }
  t.each (t.phases k) fun s c => s.clampPhase share sum c

theorem State.clampPolder_eq (s : State) (cl q share : Nat) (sum : Int) : ∃ f : Cluster → Cluster, s.clampPolder cl q share sum =
    ((if bit (s.clusterAt cl).clamped q then s else s.raise 316 1 []).each
      ((s.outsOfCluster cl).filter fun k => decide (s.outPolder k = q)) fun s k => s.clampOut share sum k).setCluster cl f := ⟨_, rfl⟩

theorem State.clampPhase_keeps {s t : State} {ch n share : Nat} {sum : Int} (h : s.SameLimits t ch)
    (hn : n = clampOf (s.chOcpLimit ch) (s.chanAt ch).curMean share sum.toNat) (c : Nat) :
    s.SameLimits (t.clampPhase share sum c) ch ∧ (c = ch ∨ (t.chanAt ch).clampedTo n → ((t.clampPhase share sum c).chanAt ch).clampedTo n) := by
  obtain ⟨hcommitted, hmean⟩ := h
  unfold State.clampPhase State.SameLimits
  rw [State.chanAt_setChan]
  split
  · next hc =>
    rw [← hc]
    refine ⟨⟨hcommitted, hmean⟩, fun _ => ⟨_, rfl, ?_⟩⟩
    rw [State.chOcpLimit_of_committed hcommitted, hmean, ← hn]
    split
    · exact Nat.min_le_right _ _
    · exact Nat.le_refl _
  · next hc => exact ⟨⟨hcommitted, hmean⟩, fun h => h.resolve_left fun h => hc h.symm⟩

theorem State.clampOut_keeps {s t : State} {ch n share : Nat} {sum : Int} (h : s.SameLimits t ch)
    (hn : n = clampOf (s.chOcpLimit ch) (s.chanAt ch).curMean share sum.toNat) (k : Nat) :
    s.SameLimits (t.clampOut share sum k) ch ∧ (ch ∈ s.phases k ∨ (t.chanAt ch).clampedTo n → ((t.clampOut share sum k).chanAt ch).clampedTo n) := by
  unfold State.clampOut
  obtain ⟨hcheck, hcheckChan, -⟩ := t.identCheck_spec k (some 7)
  obtain ⟨u, hu⟩ : ∃ u, u = (t.identCheck k (some 7)).setOut k fun o => { o with limited := true } := ⟨_, rfl⟩
  dsimp only
  rw [← hu]
  have hchan : u.chanAt ch = t.chanAt ch := by
    rw [hu, State.chanAt, show (State.setOut (t.identCheck k (some 7)) k fun o => { o with limited := true }).chan = t.chan from hcheckChan]
    rfl
  have hsame : s.SameLimits u ch := by
    refine ⟨?_, by rw [hchan]; exact h.2⟩
    rw [hu]
    exact (show (t.identCheck k (some 7)).desc.committed = t.desc.committed from by rw [hcheck]).trans h.1
  have hsameEach := State.each_holds (P := fun t => s.SameLimits t ch) (fun v c hv => (State.clampPhase_keeps hv hn c).1) (u.phases k) hsame
  refine ⟨hsameEach, fun hor => ?_⟩
  rcases hor with hin | hdone
  · exact State.each_reaches (I := fun t => s.SameLimits t ch) (P := fun t => (t.chanAt ch).clampedTo n)
      (by rw [State.phases_of_committed hsame.1]; exact hin) (fun v c hv => (State.clampPhase_keeps hv hn c).1)
      (fun v hv => (State.clampPhase_keeps hv hn ch).2 (.inl rfl)) (fun v c hv hdone => (State.clampPhase_keeps hv hn c).2 (.inr hdone)) hsame
  · exact (State.each_holds (P := fun t => s.SameLimits t ch ∧ (t.chanAt ch).clampedTo n)
      (fun v c hv => ⟨(State.clampPhase_keeps hv.1 hn c).1, (State.clampPhase_keeps hv.1 hn c).2 (.inr hv.2)⟩) (u.phases k)
      ⟨hsame, by rw [hchan]; exact hdone⟩).2

/-- Every phase of the polder in the cluster is clamped (R280). -/
theorem State.clampPolder_clamps {s : State} {cl q share ch j : Nat} {sum : Int} (hj : j ∈ s.outsOfCluster cl) (hq : s.outPolder j = q)
    (hch : ch ∈ s.phases j) :
    ((s.clampPolder cl q share sum).chanAt ch).clampedTo (clampOf (s.chOcpLimit ch) (s.chanAt ch).curMean share sum.toNat) := by
  obtain ⟨f, hf⟩ := s.clampPolder_eq cl q share sum
  rw [hf]
  show (State.chanAt (State.each _ _ _) ch).clampedTo _
  have hstart : s.SameLimits (if bit (s.clusterAt cl).clamped q then s else s.raise 316 1 []) ch := by
    split
    · exact ⟨rfl, rfl⟩
    · have hsteady := State.Steady.raise s 316 1 []
      exact ⟨hsteady.committed, congrArg (·.2.2) (hsteady.words ch)⟩
  exact State.each_reaches (I := fun t => s.SameLimits t ch)
    (P := fun t => (t.chanAt ch).clampedTo (clampOf (s.chOcpLimit ch) (s.chanAt ch).curMean share sum.toNat))
    (List.mem_filter.mpr ⟨hj, decide_eq_true hq⟩) (fun t k ht => (State.clampOut_keeps ht rfl k).1)
    (fun t ht => (State.clampOut_keeps ht rfl j).2 (.inl hch)) (fun t k ht hdone => (State.clampOut_keeps ht rfl k).2 (.inr hdone)) hstart

end Sys2Proof.Machine

namespace Sys2Proof
open Machine

/-- Settles O47: a due sample is taken by its engine and evaluated, or waits; the parts of an evaluation and of an accumulation, each by
what it writes. -/
theorem loopRows : Obligations.LoopRows := by
  intro s ch k
  refine ⟨fun vsp vsn isp isn ns h => execLoopEvaluation_idle h .., fun vsp vsn isp isn ns t0 at_ hout hev hdue hready hat hnext => ?_,
    fun vsp vsn isp isn ns t0 c hev hdue hready hc hne hevc hduec hrank => ?_,
    fun code cur ts sh ns hlead hfix => State.evaluate_phase_spec hlead hfix code cur ts sh ns,
    fun code cur ts sh ns y r hlead hy hfix hfixOut hlow hhigh hclear hr =>
      State.evaluate_accepted hlead hy hfix hfixOut hlow hhigh hclear hr cur ts sh,
    fun code cur ts sh ns y hlead hy hfix hfixOut hcode hrun hcount => State.evaluate_rejected hlead hy hfix hfixOut hcode hrun hcount cur ts sh ns,
    fun c => ?_, fun cl hfirmware hcl hheld hserves hceiling => ?_, fun cl h => execFreeboardAccumulation_idle h,
    fun cl q share hfirmware hcl hheld hserves hone hceiling hshare => ?_, fun cl q share sum j hj hq hch => State.clampPolder_clamps hj hq hch⟩
  · have htaken : s.takenAt { at_ := t0, ch := ch, v := vsp - vsn, i := isp - isn, gaspNs := ns } = at_ := hat.symm
    obtain ⟨t, heq, hchan, hothers, hlast, hslot, honly⟩ := State.serveReady_first
      (x := { at_ := t0, ch := ch, v := vsp - vsn, i := isp - isn, gaspNs := ns }) hready hout hnext
    rw [htaken] at heq hlast
    exact ⟨t, (execLoopEvaluation_due hev hdue ..).trans (Machine.next_congr heq), hchan, hothers, hlast, hslot, honly⟩
  · obtain ⟨x, hx⟩ : ∃ x : Sample, x = { at_ := t0, ch := ch, v := vsp - vsn, i := isp - isn, gaspNs := ns } := ⟨_, rfl⟩
    have hxch : x.ch = ch := by rw [hx]
    have hwaits : (s.withSample ch x).servedNext x = false := Bool.eq_false_iff.mpr fun hserved => by
      subst hx
      exact absurd ((State.withSample_servedNext hready).mp hserved c hc hne hevc hduec) (Nat.not_lt.mpr hrank)
    have hengine := State.withSample_engine (c := ch) x hready rfl
    refine ⟨s.withSample ch x, ?_, ?_, s.withSample_only ch x⟩
    · refine (execLoopEvaluation_due hev hdue ..).trans (Machine.next_congr ?_)
      rw [← hx]
      have h := State.serveReady_waits (s := s.withSample ch x) (x := x) (by rw [hxch, hengine]) hwaits 4
      rw [hxch] at h
      exact h
    · rw [hengine, hx]
  · refine ⟨fun h => ?_, fun h => ?_, rfl⟩
    · rw [Chan.swap, if_pos h]
      exact ⟨rfl, rfl⟩
    · rw [Chan.swap, h]
      rfl
  · obtain ⟨hloop, hchan, hout, hmean⟩ := s.accumulated_spec (s.outsOfCluster cl)
    have hzero : ∀ q, (s.accumulated (s.outsOfCluster cl)).polCeiling q = 0 := fun q =>
      (show (s.accumulated (s.outsOfCluster cl)).polCeiling q = s.polCeiling q from by rw [hloop]; rfl).trans (hceiling q)
    obtain ⟨honly, -, hclusters, hchans, houts⟩ := State.each_accumulatePolder (cl := cl) hzero s.enabledPolders
    refine ⟨_, execFreeboardAccumulation_eq hfirmware hcl hheld hserves, fun c hcount hin => ?_, fun c hc => ?_, fun j hj => ?_, fun j hj => ?_,
      (hloop.only.mono (by decide)).trans (honly.mono (by decide))⟩
    · rw [State.chanAt, hchans]
      exact hmean c hcount hin
    · rw [State.chanAt, hchans]
      exact hchan c hc
    · rw [State.outAt, houts]
      exact hout j hj
    · rw [hclusters j hj, hloop]
      rfl
  · obtain ⟨hloop, -, -, -⟩ := s.accumulated_spec (s.outsOfCluster cl)
    have heq := execFreeboardAccumulation_eq hfirmware hcl hheld hserves
    rw [hone] at heq
    have hstep := (s.accumulated (s.outsOfCluster cl)).accumulatePolder_eq cl q
    have hshareA : Tab.get 0 ((s.accumulated (s.outsOfCluster cl)).clusterAt cl).share q = share := by
      rw [hshare, hloop]
      rfl
    have hceilingA : (s.accumulated (s.outsOfCluster cl)).polCeiling q ≠ 0 := by
      rw [hloop]
      exact hceiling
    rw [hshareA] at hstep
    obtain ⟨honly, -, -, hlast, hsum, -, -⟩ := (s.accumulated (s.outsOfCluster cl)).summed_spec cl q
    refine ⟨_, _, (hloop.only.mono (by decide)).trans (honly.mono (by decide)), hlast, hsum.symm, fun hle => ?_, fun hlt => ?_⟩
    · exact heq.trans (Machine.next_congr (hstep.trans (if_neg fun h => absurd h.2 (Int.not_lt.mpr hle))))
    · exact heq.trans (Machine.next_congr (hstep.trans (if_pos ⟨hceilingA, hlt⟩)))

end Sys2Proof
end

section
/-! PROOFS. The tide boundary (R28, R70, R71, R429, R559): the tide that ends is latched and the epoch turned. -/
set_option Elab.async false
namespace Sys2Proof.Machine

/-- The state from which the epoch turns: what counts afresh in the tide that begins. -/
def State.freshTide (s : State) : State := s.overRange.clearTide

theorem State.freshTide_keeps (s : State) : s.freshTide.clocks = { s.clocks with holdoverTide := s.clocks.refLost } ∧
    s.freshTide.retained = s.retained ∧ s.freshTide.log = s.log ∧ s.freshTide.eth = s.eth ∧
    Only [.clocks, .power, .gauge, .chan, .cluster, .out, .faults, .sluice] s s.freshTide := by
  have hfoot := s.overRange_foot
  refine ⟨?_, hfoot.keeps .retained, hfoot.keeps .log, hfoot.keeps .eth, Only.trans (hfoot.onlyIn _) ((State.clearTide_foot _).onlyIn _)⟩
  rw [← show s.overRange.clocks = s.clocks from hfoot.keeps .clocks]
  rfl

theorem State.freshTide_clears (s : State) : s.freshTide.faults = { s.faults with raised := [] } ∧ s.freshTide.sluice.strobe = 49 ∧
    ∀ c, (s.freshTide.chanAt c).tide = {} := by
  refine ⟨?_, rfl, fun c => ?_⟩
  · rw [← show s.overRange.faults = s.faults from s.overRange_foot.keeps .faults]
    rfl
  · exact congrArg Chan.tide (Tab.get_mapVals ({} : Chan) (fun _ x => { x with tide := {} }) s.overRange.chan c rfl)

/-! ### The epoch and the RTC -/

theorem mod_mul_self (e n : Nat) : e / n % n * n + e % n = e % (n * n) := by
  rw [Nat.mod_mul, Nat.add_comm, Nat.mul_comm]

theorem State.setExt_words (s : State) (e : Nat) : (s.setExt e).ext = e / 2 ^ 32 % 2 ^ 32 * 2 ^ 32 + e % 2 ^ 32 := rfl

theorem State.setExt_ext (s : State) (e : Nat) : (s.setExt e).ext = e % 2 ^ 64 := by
  have h : (2 : Nat) ^ 64 = 2 ^ 32 * 2 ^ 32 := by decide
  rw [State.setExt_words, h, mod_mul_self]

theorem State.setExt_epoch (s : State) (e : Nat) : (s.setExt e).clocks.epoch < 2 ^ 32 := by
  unfold State.setExt
  exact Nat.mod_lt _ (Nat.two_pow_pos 32)

theorem State.ext_congr {s t : State} (h : t.clocks.epoch = s.clocks.epoch) (hhi : t.clocks.epochHi = s.clocks.epochHi) : t.ext = s.ext := by
  unfold State.ext
  rw [h, hhi]

theorem State.nextEpoch_running {s : State} (h : s.clocks.running = true) : s.nextEpoch = s.setExt ((s.ext + 1) % 2 ^ 64) := if_pos h

theorem State.nextEpoch_first {s : State} (h : s.clocks.running = false) : s.nextEpoch =
    { s.setExt s.firstEpoch with clocks := { (s.setExt s.firstEpoch).clocks with running := true } } :=
  if_neg (by rw [h]; exact Bool.false_ne_true)

theorem State.setExt_running (s : State) (e : Nat) : (s.setExt e).clocks.running = s.clocks.running := rfl

theorem State.nextEpoch_runs (s : State) : s.nextEpoch.clocks.running = true := by
  cases h : s.clocks.running
  · rw [State.nextEpoch_first h]
  · rw [State.nextEpoch_running h, State.setExt_running, h]

theorem State.nextEpoch_epoch (s : State) : s.nextEpoch.clocks.epoch < 2 ^ 32 := by
  cases h : s.clocks.running
  · rw [State.nextEpoch_first h]
    exact s.setExt_epoch _
  · rw [State.nextEpoch_running h]
    exact s.setExt_epoch _

/-- The epoch after the first boundary (R429). -/
theorem State.nextEpoch_ext_first {s : State} (h : s.clocks.running = false) : s.nextEpoch.ext = s.firstEpoch % 2 ^ 64 := by
  rw [State.nextEpoch_first h, ← State.setExt_ext s]
  exact State.ext_congr rfl rfl

/-- The epoch after a later boundary (R70). -/
theorem State.nextEpoch_ext_running {s : State} (h : s.clocks.running = true) : s.nextEpoch.ext = (s.ext + 1) % 2 ^ 64 := by
  rw [State.nextEpoch_running h, State.setExt_ext, Nat.mod_mod]

/-- The tide that begins at the state whose contributions are latched. -/
def State.turned (s : State) (cycles gap : Nat) : State := (s.freshTide.advanceRtc cycles gap).nextEpoch

theorem State.turned_only (s : State) (cycles gap : Nat) :
    Only [.clocks, .power, .gauge, .chan, .cluster, .out, .faults, .sluice, .retained] s (s.turned cycles gap) :=
  Only.trans (s.freshTide_keeps.2.2.2.2.mono (by decide))
    (Only.trans ((State.advanceRtc_foot _ _ _).onlyIn _) ((State.nextEpoch_foot _).onlyIn _))

theorem State.turned_mode (s : State) (cycles gap : Nat) : (s.turned cycles gap).mode = s.mode := by
  have hfoot : Foot 0x6 s.freshTide (s.turned cycles gap) := (State.nextEpoch_foot _).after ((State.advanceRtc_foot _ _ _).after .same)
  have hfresh : s.freshTide.power.mode = s.overRange.power.mode := rfl
  rw [State.mode, show (s.turned cycles gap).power = _ from hfoot.keeps .power, hfresh, show s.overRange.power = _ from s.overRange_foot.keeps .power]
  rfl

/-- The RTC at a boundary: it runs on by the time since the last one, rate corrected, and never back (R559, R560). -/
theorem State.turned_rtc (s : State) (cycles gap : Nat) : (s.turned cycles gap).retained.rtcNs = max s.retained.rtcNs
    ((((if s.clocks.running then s.clocks.tideNs else s.retained.rtcNs : Nat) : Int) + ((cycles : Int) * 20 + gap) +
      tdiv (((cycles : Int) * 20 + gap) * s.eth.rate) 1000000000).toNat % 2 ^ 64) := by
  obtain ⟨hclocks, hretained, -, heth, -⟩ := s.freshTide_keeps
  have hkept : (s.turned cycles gap).retained = (s.freshTide.advanceRtc cycles gap).retained := (State.nextEpoch_foot _).keeps .retained
  rw [hkept]
  unfold State.advanceRtc State.rtcRuns
  dsimp only
  rw [hclocks, hretained, heth]

theorem State.turned_epoch (s : State) (cycles gap : Nat) : (s.turned cycles gap).clocks.running = true ∧
    (s.turned cycles gap).clocks.epoch < 2 ^ 32 ∧ (s.clocks.running = true → (s.turned cycles gap).ext = (s.ext + 1) % 2 ^ 64) ∧
    (s.clocks.running = false → (s.log.epochMark = 0 ∨ s.log.unbacked = true →
        (s.turned cycles gap).ext = (s.turned cycles gap).retained.rtcNs / 1000000 % 2 ^ 64) ∧
      (s.log.epochMark ≠ 0 → s.log.unbacked = false →
        (s.turned cycles gap).ext = max ((s.turned cycles gap).retained.rtcNs / 1000000) (s.log.epochMark + 1) % 2 ^ 64)) := by
  obtain ⟨hclocks, -, hlog, -, -⟩ := s.freshTide_keeps
  have hnext := State.nextEpoch_ext_running (s := s.freshTide.advanceRtc cycles gap)
  have hfirst := State.nextEpoch_ext_first (s := s.freshTide.advanceRtc cycles gap)
  have hkept : (s.turned cycles gap).retained = (s.freshTide.advanceRtc cycles gap).retained := (State.nextEpoch_foot _).keeps .retained
  have hclocksA : (s.freshTide.advanceRtc cycles gap).clocks = { s.clocks with holdoverTide := s.clocks.refLost } := hclocks
  have hlogA : (s.freshTide.advanceRtc cycles gap).log = s.log := hlog
  have hext : (s.freshTide.advanceRtc cycles gap).ext = s.ext := by
    unfold State.ext
    rw [hclocksA]
  rw [hext, hclocksA] at hnext
  rw [hclocksA] at hfirst
  unfold State.firstEpoch at hfirst
  rw [hlogA] at hfirst
  refine ⟨State.nextEpoch_runs _, State.nextEpoch_epoch _, hnext, fun hnot => ⟨fun hmark => ?_, fun hmark hbacked => ?_⟩⟩
  · rw [hkept]
    exact (hfirst hnot).trans (congrArg (· % 2 ^ 64) (if_pos hmark.symm))
  · rw [hkept]
    refine (hfirst hnot).trans (congrArg (· % 2 ^ 64) (if_neg ?_))
    rintro (h | h)
    · rw [hbacked] at h
      cases h
    · exact hmark h

theorem State.turned_clears (s : State) (cycles gap : Nat) : (s.turned cycles gap).faults = { s.faults with raised := [] } ∧
    (s.turned cycles gap).sluice.strobe = 49 ∧ ∀ c, ((s.turned cycles gap).chanAt c).tide = {} := by
  have hfoot : Foot 0x6 s.freshTide (s.turned cycles gap) := (State.nextEpoch_foot _).after ((State.advanceRtc_foot _ _ _).after .same)
  obtain ⟨hfaults, hstrobe, htide⟩ := s.freshTide_clears
  refine ⟨?_, ?_, fun c => ?_⟩
  · rw [show (s.turned cycles gap).faults = _ from hfoot.keeps .faults, hfaults]
  · rw [show (s.turned cycles gap).sluice = _ from hfoot.keeps .sluice, hstrobe]
  · rw [State.chanAt, show (s.turned cycles gap).chan = _ from hfoot.keeps .chan]
    exact htide c

/-! ### The latched contributions -/

/-- What a boundary latches of the tide that ends (R28, R486). -/
theorem State.latchContribs_spec (s : State) (e : Nat) (slewed : Bool) : (s.latchContribs e slewed).ledger.epoch = e ∧
    (s.latchContribs e slewed).ledger.open_ = true ∧ (s.latchContribs e slewed).ledger.arrived = 0 ∧
    (s.latchContribs e slewed).latchView = s.viewOf e ∧ (s.latchContribs e slewed).faults.latchWin.epoch = e % 2 ^ 32 ∧
    (s.latchContribs e slewed).clocks = s.clocks ∧ (s.latchContribs e slewed).retained = s.retained ∧
    (s.latchContribs e slewed).log = s.log ∧ (s.latchContribs e slewed).eth = s.eth ∧
    Only [.faults, .ledger, .latchView, .freeCount] s (s.latchContribs e slewed) :=
  ⟨rfl, rfl, rfl, rfl, rfl, rfl, rfl, rfl, rfl, (s.latchContribs_foot e slewed).onlyIn _⟩

theorem State.latchContribs_mode (s : State) (e : Nat) (slewed : Bool) : (s.latchContribs e slewed).mode = s.mode :=
  congrArg Power.mode ((s.latchContribs_foot e slewed).keeps .power : (s.latchContribs e slewed).power = s.power)

/-- The turn of the tide at the first boundary after a release, and at every later one. -/
theorem State.turnTide_eq (s : State) (raws : List Int) (ovr clk gap : Nat) (first : Bool) : s.turnTide raws ovr clk gap first =
    if first then (s.endTide raws ovr clk).turned (s.endTide raws ovr clk).clocks.tideCycles gap
    else ((s.endTide raws ovr clk).latchContribs s.ext s.fabric.slewNow).turned (s.endTide raws ovr clk).clocks.tideCycles 0 := by
  unfold State.turnTide State.turned State.freshTide
  dsimp only
  cases first
  · simp only [Bool.false_eq_true, if_false]
    rw [(State.latchContribs_spec _ _ _).2.2.2.2.2.1]
  · simp only [if_true]

/-! ### The command -/

theorem execTideBoundary_idle {s : State} (h : s.clocks.tideReleased = false ∨ s.mode.firmware = false) (raws : List Int)
    (ovr clk gap hot : Nat) (mdio : List (Option Nat)) : exec (.tideBoundary raws ovr clk gap hot mdio) s = .next s := by
  refine Machine.next_congr (if_neg fun hboth => ?_)
  rcases h with h | h
  · rw [h] at hboth
    cases hboth.1
  · rw [h] at hboth
    cases hboth.2

theorem State.readMdio_ext (s : State) (mdio : List (Option Nat)) : (s.readMdio mdio).ext = s.ext := by
  have hclocks : (s.readMdio mdio).clocks = s.clocks := (s.readMdio_foot mdio).keeps .clocks
  exact State.ext_congr (by rw [hclocks]) (by rw [hclocks])

theorem execTideBoundary_runs {s : State} (hreleased : s.clocks.tideReleased = true) (hfirmware : s.mode.firmware = true) (raws : List Int)
    (ovr clk gap hot : Nat) (mdio : List (Option Nat)) : exec (.tideBoundary raws ovr clk gap hot mdio) s =
      .next (((s.readMdio mdio).turnTide raws ovr clk gap (!s.clocks.running)).beginTide (s.readMdio mdio).staleOuts hot s.ext (!s.clocks.running)) := by
  rw [← s.readMdio_ext mdio]
  exact Machine.next_congr (if_pos ⟨hreleased, hfirmware⟩)

/-- What the tide that ends keeps of the state before it. -/
theorem State.endTide_keeps (s : State) (mdio : List (Option Nat)) (raws : List Int) (ovr clk : Nat) :
    let y := (s.readMdio mdio).endTide raws ovr clk
    y.clocks = s.clocks ∧ y.retained = s.retained ∧ y.ledger = s.ledger ∧ y.latchView = s.latchView ∧ y.pending = s.pending := by
  have hfoot : Foot 0x73DDBFE9 s ((s.readMdio mdio).endTide raws ovr clk) := (State.endTide_foot _ raws ovr clk).after ((s.readMdio_foot mdio).mono rfl)
  exact ⟨hfoot.keeps .clocks, hfoot.keeps .retained, hfoot.keeps .ledger, hfoot.keeps .latchView, hfoot.keeps .pending⟩

/-- Of the first part of the obligation: a later boundary. -/
theorem State.turnTide_running {s : State} (hrunning : s.clocks.running = true) (raws : List Int) (ovr clk gap : Nat) (mdio : List (Option Nat)) :
    let y := (s.readMdio mdio).endTide raws ovr clk
    let x := (s.readMdio mdio).turnTide raws ovr clk gap false
    x.ext = (s.ext + 1) % 2 ^ 64 ∧ x.ledger.epoch = s.ext ∧ x.ledger.open_ = true ∧ x.ledger.arrived = 0 ∧
    x.latchView = y.viewOf s.ext ∧ x.faults.latchWin.epoch = s.ext % 2 ^ 32 ∧
    x.retained.rtcNs = max s.retained.rtcNs (((s.clocks.tideNs : Int) + s.clocks.tideCycles * 20 +
      tdiv (s.clocks.tideCycles * 20 * y.eth.rate) 1000000000).toNat % 2 ^ 64) := by
  obtain ⟨hclocks, hretained, -, -, -⟩ := s.endTide_keeps mdio raws ovr clk
  dsimp only at hclocks hretained ⊢
  rw [State.turnTide_eq, if_neg Bool.false_ne_true, State.readMdio_ext]
  generalize (s.readMdio mdio).endTide raws ovr clk = y at hclocks hretained
  obtain ⟨hepoch, hopen, harrived, hview, hwin, hclocksA, hretainedA, -, hethA, -⟩ := y.latchContribs_spec s.ext (s.readMdio mdio).fabric.slewNow
  generalize y.latchContribs s.ext (s.readMdio mdio).fabric.slewNow = a at hepoch hopen harrived hview hwin hclocksA hretainedA hethA
  have hrun : a.clocks.running = true := by
    rw [hclocksA, hclocks]
    exact hrunning
  have hkeep := a.turned_only y.clocks.tideCycles 0
  have hledger : (a.turned y.clocks.tideCycles 0).ledger = a.ledger := hkeep .ledger rfl
  have hviewX : (a.turned y.clocks.tideCycles 0).latchView = a.latchView := hkeep .latchView rfl
  refine ⟨?_, by rw [hledger]; exact hepoch, by rw [hledger]; exact hopen, by rw [hledger]; exact harrived, hviewX.trans hview, ?_, ?_⟩
  · rw [(a.turned_epoch _ _).2.2.1 hrun, State.ext_congr (s := s) (t := a) (by rw [hclocksA, hclocks]) (by rw [hclocksA, hclocks])]
  · rw [(a.turned_clears _ _).1]
    exact hwin
  · rw [State.turned_rtc, if_pos hrun, hretainedA, hretained, hclocksA, hclocks, hethA]
    simp only [Int.natCast_zero, Int.add_zero]

/-- Of the first part of the obligation: the first boundary after a release. -/
theorem State.turnTide_first {s : State} (hstopped : s.clocks.running = false) (raws : List Int) (ovr clk gap : Nat) (mdio : List (Option Nat)) :
    let y := (s.readMdio mdio).endTide raws ovr clk
    let x := (s.readMdio mdio).turnTide raws ovr clk gap true
    x.ledger = s.ledger ∧ x.latchView = s.latchView ∧
    x.retained.rtcNs = max s.retained.rtcNs (((s.retained.rtcNs : Int) + (s.clocks.tideCycles * 20 + gap) +
      tdiv ((s.clocks.tideCycles * 20 + gap) * y.eth.rate) 1000000000).toNat % 2 ^ 64) ∧
    (y.log.epochMark = 0 ∨ y.log.unbacked = true → x.ext = x.retained.rtcNs / 1000000 % 2 ^ 64) ∧
    (y.log.epochMark ≠ 0 → y.log.unbacked = false → x.ext = max (x.retained.rtcNs / 1000000) (y.log.epochMark + 1) % 2 ^ 64) := by
  obtain ⟨hclocks, hretained, hledger, hview, -⟩ := s.endTide_keeps mdio raws ovr clk
  dsimp only at hclocks hretained hledger hview ⊢
  rw [State.turnTide_eq, if_pos rfl]
  generalize (s.readMdio mdio).endTide raws ovr clk = y at hclocks hretained hledger hview
  have hstop : y.clocks.running = false := by
    rw [hclocks]
    exact hstopped
  have hkeep := y.turned_only y.clocks.tideCycles gap
  have hledgerX : (y.turned y.clocks.tideCycles gap).ledger = y.ledger := hkeep .ledger rfl
  have hviewX : (y.turned y.clocks.tideCycles gap).latchView = y.latchView := hkeep .latchView rfl
  obtain ⟨hmarkless, hmarked⟩ := (y.turned_epoch y.clocks.tideCycles gap).2.2.2 hstop
  refine ⟨hledgerX.trans hledger, hviewX.trans hview, ?_, hmarkless, hmarked⟩
  rw [State.turned_rtc, if_neg (by rw [hstop]; exact Bool.false_ne_true), hretained, hclocks]

/-- Of the first part of the obligation: every boundary. -/
theorem State.turnTide_every (s : State) (raws : List Int) (ovr clk gap : Nat) (first : Bool) (mdio : List (Option Nat)) :
    let y := (s.readMdio mdio).endTide raws ovr clk
    let x := (s.readMdio mdio).turnTide raws ovr clk gap first
    x.clocks.running = true ∧ x.clocks.epoch < 2 ^ 32 ∧ x.mode = y.mode ∧ x.faults.raised = [] ∧ x.sluice.strobe = 49 ∧
    (∀ c, (x.chanAt c).tide = {}) ∧ x.pending = s.pending ∧
    Only [.clocks, .power, .gauge, .chan, .cluster, .out, .faults, .sluice, .desc, .ledger, .latchView, .retained, .freeCount] y x := by
  obtain ⟨-, -, -, -, hpending⟩ := s.endTide_keeps mdio raws ovr clk
  dsimp only at hpending ⊢
  obtain ⟨a, n, g, hx, honly, hmode⟩ : ∃ (a : State) (n g : Nat), (s.readMdio mdio).turnTide raws ovr clk gap first = a.turned n g ∧
      Only [.faults, .ledger, .latchView, .freeCount] ((s.readMdio mdio).endTide raws ovr clk) a ∧
      a.mode = ((s.readMdio mdio).endTide raws ovr clk).mode := by
    rw [State.turnTide_eq]
    generalize (s.readMdio mdio).endTide raws ovr clk = y
    cases first
    · rw [if_neg Bool.false_ne_true]
      exact ⟨_, _, _, rfl, (State.latchContribs_foot _ _ _).onlyIn _, State.latchContribs_mode _ _ _⟩
    · rw [if_pos rfl]
      exact ⟨_, _, _, rfl, Only.refl _ _, rfl⟩
  rw [hx]
  have hturned := a.turned_only n g
  obtain ⟨hraised, hstrobe, htide⟩ := a.turned_clears n g
  have hall := (honly.mono (m := [.clocks, .power, .gauge, .chan, .cluster, .out, .faults, .sluice, .desc, .ledger, .latchView, .retained,
    .freeCount]) (by decide)).trans (hturned.mono (by decide))
  obtain ⟨hruns, hepoch, -⟩ := a.turned_epoch n g
  have hpendingX : (a.turned n g).pending = ((s.readMdio mdio).endTide raws ovr clk).pending := hall .pending rfl
  exact ⟨hruns, hepoch, (a.turned_mode n g).trans hmode, by rw [hraised], hstrobe, htide, hpendingX.trans hpending, hall⟩

end Sys2Proof.Machine
end

section
/-! PROOFS. Orders that take effect at a tide boundary (R143, R147, R232, R267, R274, R302, R319, R504, R525). -/
set_option Elab.async false
namespace Sys2Proof.Machine

/-! ### Starts -/

theorem State.setOut_wanted (s : State) (k j : Nat) {f : Out → Out} (hf : ∀ o, (f o).wanted = o.wanted) :
    ((s.setOut k f).outAt j).wanted = (s.outAt j).wanted := by
  rw [State.outAt_setOut]
  split
  · next h => rw [hf, h]
  · rfl

theorem State.want_spec {s : State} (hpress : s.power.longPress = false) (k : Nat) : (s.want k).power = s.power ∧
    ∀ j, ((s.want k).outAt j).wanted = if j = k then true else (s.outAt j).wanted := by
  have hset : ∀ j, ((s.setOut k fun o => { o with wanted := true }).outAt j).wanted = if j = k then true else (s.outAt j).wanted :=
    fun j => by
      rw [State.outAt_setOut]
      split <;> rfl
  unfold State.want
  rw [if_neg (by rw [hpress]; exact Bool.false_ne_true)]
  dsimp only
  split
  · refine ⟨rfl, fun j => ?_⟩
    rw [State.setOut_wanted]
    · exact hset j
    · exact fun _ => rfl
  · exact ⟨rfl, hset⟩

theorem State.each_want {s : State} (hpress : s.power.longPress = false) {l : List Nat} (hl : l.Nodup) (j : Nat) :
    ((s.each l State.want).outAt j).wanted = if j ∈ l then true else (s.outAt j).wanted :=
  (State.each_items (fun t j => (t.outAt j).wanted) State.want (fun t => t.power.longPress = false) (fun _ _ => true)
    (fun t n ht => ⟨by rw [(State.want_spec ht n).1]; exact ht, (State.want_spec ht n).2⟩) l hl hpress).2 j

/-! ### Stops -/

/-- An output that is not wanted stays in STATE 0. -/
theorem State.settle_unwanted {s : State} {j : Nat} (h : (s.outAt j).state = 0) (hwanted : (s.outAt j).wanted = false) :
    (s.settle.outAt j).state = 0 := by
  have hstep : ∀ (t : State) (k : Nat), (t.outAt j).state = 0 ∧ (t.outAt j).wanted = false →
      ((t.settleOut k).outAt j).state = 0 ∧ ((t.settleOut k).outAt j).wanted = false := fun t k ht => by
    by_cases hk : j = k
    · subst hk
      have hidle : t.settleOut j = t := by
        unfold State.settleOut
        simp only [ht.1, ht.2, and_false, false_and, or_self, if_false, Nat.zero_ne_one, Bool.false_eq_true,
          show ¬(0 = 7) from by decide, show ¬(0 = 5) from by decide]
      rw [hidle]
      exact ht
    · have hset : ∀ (u : State) (f : Out → Out), (u.setOut k f).outAt j = u.outAt j := fun u f =>
        (State.outAt_setOut _ _ _ _).trans (if_neg hk)
      have hother : (t.settleOut k).outAt j = t.outAt j := by
        unfold State.settleOut
        dsimp only
        repeat' split
        all_goals simp only [hset]
      rw [hother]
      exact ht
  unfold State.settle
  split
  · exact (State.each_holds (P := fun t => (t.outAt j).state = 0 ∧ (t.outAt j).wanted = false) hstep _ ⟨h, hwanted⟩).1
  · exact h

theorem State.forceOut_wanted (s : State) (k state cause j : Nat) (record : Bool) :
    ((s.forceOut k state cause record).outAt j).wanted = (s.outAt j).wanted := by
  rw [State.outAt_forceOut]
  split
  · next h => rw [h]; exact Out.abortIdent_wanted _ _ _
  · rfl

theorem State.endRamp_wanted (s : State) (k j : Nat) : ((s.endRamp k).outAt j).wanted = (s.outAt j).wanted := by
  unfold State.endRamp
  rw [State.setOut_wanted]
  · rw [State.outAt, show (s.lowOutput k .forcedOff).out = s.out from (s.lowOutput_foot k _).keeps .out]
    rfl
  · exact fun _ => rfl

/-- The stop of a named output leaves WANTED as it is. -/
theorem State.stopNamed_wanted (s : State) (how k j : Nat) : ((s.stopNamed how k).outAt j).wanted = (s.outAt j).wanted := by
  unfold State.stopNamed
  split
  · exact s.orderStop_wanted k 1 j
  · split
    · exact s.forceOut_wanted k 0 1 j true
    · split
      · exact s.setOut_wanted k j fun _ => rfl
      · split
        · exact s.endRamp_wanted k j
        · rfl

theorem State.stopDependant_wanted (s : State) (how k j : Nat) : ((s.stopDependant how k).outAt j).wanted = (s.outAt j).wanted := by
  unfold State.stopDependant
  split
  · exact s.orderStop_wanted k 4 j
  · unfold State.forceDependant
    dsimp only
    generalize (if (s.outAt k).wanted = true then 1 else 0) = next
    split
    · exact s.forceOut_wanted k _ 4 j true
    · split
      · exact s.setOut_wanted k j fun _ => rfl
      · split
        · exact s.endRamp_wanted k j
        · split
          · exact s.setOut_wanted k j fun _ => rfl
          · rfl

/-- An output that CHAN.STOP leaves off: in STATE 0, every phase of a list low. -/
def State.StoppedAt (s : State) (k : Nat) (l : List Nat) : Prop := (s.outAt k).state = 0 ∧ ∀ c ∈ l, (s.chanAt c).isLow

theorem State.StoppedAt.keep {s t : State} {k : Nat} {l : List Nat} (h : s.StoppedAt k l) (hout : (t.outAt k).state = 0) (hlow : s.KeepsLow t) :
    t.StoppedAt k l := ⟨hout, fun c hc => hlow c (h.2 c hc)⟩

/-- The stop at once of one output of a list leaves the others' words, and every channel low that is low. -/
theorem State.stopNamed_other {s : State} {how k m : Nat} (hhow : how ≠ 0) (hm : k ≠ m) : (s.stopNamed how m).outAt k = s.outAt k ∧
    s.KeepsLow (s.stopNamed how m) := by
  unfold State.stopNamed
  rw [if_neg hhow]
  split
  · exact ⟨(s.outAt_forceOut m 0 1 true k).trans (if_neg hm), (KeepsLow.refl s).forceOut m 0 1 true⟩
  · split
    · exact ⟨(State.outAt_setOut _ _ _ _).trans (if_neg hm), (KeepsLow.refl s).of_eq rfl⟩
    · split
      · exact ⟨State.endRamp_outAt_ne hm, (KeepsLow.refl s).endRamp m⟩
      · exact ⟨rfl, KeepsLow.refl s⟩

/-- The stop at once of a live output (R274). -/
theorem State.stopNamed_live {s : State} {how k : Nat} (hhow : how ≠ 0) (hlive : (s.outAt k).live = true) :
    (s.stopNamed how k).StoppedAt k (s.phases k) := by
  unfold State.stopNamed
  rw [if_neg hhow, if_pos hlive]
  refine ⟨?_, fun c hc => State.forceOut_isLow hc 0 1 true⟩
  rw [State.outAt_forceOut, if_pos rfl]
  rfl

/-- An output that is off already stays so. -/
theorem State.stopNamed_stopped {s : State} {how k : Nat} {l : List Nat} (hhow : how ≠ 0) (h : s.StoppedAt k l) : (s.stopNamed how k).StoppedAt k l := by
  have hkeep : s.stopNamed how k = s := by
    unfold State.stopNamed
    rw [if_neg hhow, if_neg (by rw [Out.live, h.1]; decide), if_neg (by rw [h.1]; decide),
      if_neg (by simp [Out.driven, Out.live, h.1])]
  rw [hkeep]
  exact h

/-- A live output that CHAN.STOP names is off once every named one is stopped. -/
theorem State.each_stopNamed {s : State} {how k : Nat} {named : List Nat} (hhow : how ≠ 0) (hk : k ∈ named) (hlive : (s.outAt k).live = true) :
    (s.each named fun s k => s.stopNamed how k).StoppedAt k (s.phases k) := by
  have hphases : ∀ t : State, t.desc = s.desc → t.phases k = s.phases k := fun t ht =>
    congrArg (fun d : Desc => ({ s with desc := d } : State).phases k) ht
  have hdesc : ∀ (t : State) (m : Nat), t.desc = s.desc → (t.stopNamed how m).desc = s.desc := fun t m ht =>
    ((t.stopNamed_foot how m).keeps .desc : (t.stopNamed how m).desc = t.desc).trans ht
  refine State.each_reaches (I := fun t => t.desc = s.desc ∧ ((t.outAt k).live = true ∨ t.StoppedAt k (s.phases k)))
    (P := fun t => t.StoppedAt k (s.phases k)) hk (fun t m ht => ⟨hdesc t m ht.1, ?_⟩) (fun t ht => ?_) (fun t m _ ht => ?_) ⟨rfl, .inl hlive⟩
  · by_cases hm : k = m
    · subst hm
      rcases ht.2 with h | h
      · exact .inr (hphases t ht.1 ▸ State.stopNamed_live hhow h)
      · exact .inr (State.stopNamed_stopped hhow h)
    · obtain ⟨hout, hlow⟩ := State.stopNamed_other (s := t) hhow hm
      rw [hout]
      exact ht.2.imp id fun h => h.keep (by rw [hout]; exact h.1) hlow
  · rcases ht.2 with h | h
    · exact hphases t ht.1 ▸ State.stopNamed_live hhow h
    · exact State.stopNamed_stopped hhow h
  · by_cases hm : k = m
    · subst hm
      exact State.stopNamed_stopped hhow ht
    · obtain ⟨hout, hlow⟩ := State.stopNamed_other (s := t) hhow hm
      exact ht.keep (by rw [hout]; exact ht.1) hlow

/-- CHAN.STOP at its boundary (R274). -/
theorem State.chanStopped_spec (s : State) (mb m how : Nat) : ∃ (x : State) (d : Bytes), s.chanStopped mb m how = x.finish mb .ok d ∧
    (∀ k, k < 128 → m.testBit k = true → s.outEnable k = 1 → (x.outAt k).wanted = false) ∧
    (∀ k, k < 128 → m.testBit k = true → s.outEnable k = 1 → how ≠ 0 → (s.outAt k).live = true →
      (x.outAt k).state = 0 ∧ ∀ c, c ∈ s.phases k → (x.chanAt c).drive = .off ∧ (x.chanAt c).pen = false) ∧ Only [.out, .chan, .log] s x := by
  obtain ⟨named, hnamed⟩ : ∃ l, l = (mapList 128 m).filter fun k => decide (s.outEnable k = 1) := ⟨_, rfl⟩
  obtain ⟨deps, hdeps⟩ : ∃ l, l = s.dependants named := ⟨_, rfl⟩
  obtain ⟨a, ha⟩ : ∃ a, a = s.each (named ++ deps) fun s k => s.setOut k fun o => { o with wanted := false } := ⟨_, rfl⟩
  obtain ⟨b, hb⟩ : ∃ b, b = a.each named fun s k => s.stopNamed how k := ⟨_, rfl⟩
  obtain ⟨d, hd⟩ : ∃ d, d = b.each deps fun s k => s.stopDependant how k := ⟨_, rfl⟩
  have hmem : ∀ k, k < 128 → m.testBit k = true → s.outEnable k = 1 → k ∈ named := fun k hk hbit hen => by
    rw [hnamed, List.mem_filter, mem_mapList]
    exact ⟨⟨hk, hbit⟩, decide_eq_true hen⟩
  have hfootA : Foot 0x800 s a := by
    rw [ha]
    exact .each .same fun _ _ h => (State.setOut_foot _ _ _).after h
  have hfootB : Foot 0xD00 a b := by
    rw [hb]
    exact .each .same fun _ _ h => (State.stopNamed_foot _ _ _).after h
  have hfootD : Foot 0xD00 b d := by
    rw [hd]
    exact .each .same fun _ _ h => (State.stopDependant_foot _ _ _).after h
  have hunwanted : ∀ k ∈ named, (d.outAt k).wanted = false := fun k hk => by
    have hwantedA : (a.outAt k).wanted = false := by
      rw [ha]
      refine State.each_makes (P := fun t => (t.outAt k).wanted = false) (List.mem_append_left _ hk) (fun t => ?_) (fun t j ht => ?_) s
      · rw [State.outAt_setOut, if_pos rfl]
      · rw [State.outAt_setOut]
        split
        · rfl
        · exact ht
    rw [hd, State.each_keeps (fun t => (t.outAt k).wanted) (fun t j => t.stopDependant_wanted how j k), hb,
      State.each_keeps (fun t => (t.outAt k).wanted) (fun t j => t.stopNamed_wanted how j k)]
    exact hwantedA
  refine ⟨d.settle, leBytes 16 (listMap (named ++ deps)), ?_, fun k hk hbit hen => ?_, fun k hk hbit hen hhow hlive => ?_, ?_⟩
  · rw [hd, hb, ha, hdeps, hnamed]
    rfl
  · exact (d.settle_settles k).wanted.trans (hunwanted k (hmem k hk hbit hen))
  · have hin := hmem k hk hbit hen
    have hliveA : (a.outAt k).live = true := by
      rw [ha, State.each_keeps (fun t => (t.outAt k).live) fun t j => ?_]
      · exact hlive
      · rw [State.outAt_setOut]
        split
        · next h => rw [h]; rfl
        · rfl
    have hstopped := State.each_stopNamed hhow hin hliveA
    rw [← hb, show a.phases k = s.phases k from congrArg (fun d : Desc => ({ s with desc := d } : State).phases k) (hfootA.keeps .desc)] at hstopped
    have hnotin : k ∉ deps := by
      rw [hdeps]
      exact State.not_mem_dependants hin
    have hdepForce : d = b.each deps State.forceDependant := by
      rw [hd]
      congr 1
      funext t j
      exact if_neg hhow
    have houtD : d.outAt k = b.outAt k := by
      rw [hdepForce]
      exact State.each_forceDependant_outAt hnotin b
    have hlowD : b.KeepsLow d := by
      rw [hdepForce]
      exact (KeepsLow.refl b).each deps fun t j => (KeepsLow.refl t).forceDependant j
    refine ⟨State.settle_unwanted (by rw [houtD]; exact hstopped.1) (hunwanted k hin), fun c hc => ?_⟩
    rw [State.chanAt, State.settle_chan]
    exact hlowD c (hstopped.2 c hc)
  · exact Only.trans (hfootA.onlyIn _) (Only.trans (hfootB.onlyIn _) (Only.trans (hfootD.onlyIn _) ((State.settle_foot _).onlyIn _)))

end Sys2Proof.Machine
end

section
/-! PROOFS. The rest of the orders that take effect at a tide boundary, and the boundary itself. -/
set_option Elab.async false
namespace Sys2Proof.Machine

/-! ### Clears -/

/-- CHAN.CLEAR of one output (R266). -/
theorem State.clearOne_outAt (s : State) (k n j : Nat) : (((s.setOut k fun o => { o with triesLeft := n }).clearOut k 1).outAt j).state =
    if j = k then 0 else (s.outAt j).state := by
  unfold State.clearOut
  dsimp only
  rw [State.record_outAt, State.outAt_setOut]
  split
  · rfl
  · next h => rw [State.outAt_setOut, if_neg h]

theorem State.chanCleared_spec (s : State) (mb m : Nat) : ∃ (x : State) (d : Bytes), s.chanCleared mb m = x.finish mb .ok d ∧
    (∀ k, k < 128 → m.testBit k = true → (s.outAt k).state = 4 → (x.outAt k).state = 0 ∨ (x.outAt k).state = 1) ∧
    Only [.out, .chan, .log] s x := by
  obtain ⟨l, hl⟩ : ∃ l, l = (mapList 128 m).filter fun k => decide ((s.outAt k).state = 4) := ⟨_, rfl⟩
  obtain ⟨a, ha⟩ : ∃ a, a = s.each l fun s k => (s.setOut k fun o => { o with triesLeft := s.outRestartTries k }).clearOut k 1 := ⟨_, rfl⟩
  have hfoot : Foot 0x900 s a := by
    rw [ha]
    exact .each .same fun _ _ h => (State.clearOut_foot _ _ _).after ((State.setOut_foot _ _ _).after h)
  refine ⟨a.settle, [], ?_, fun k hk hbit hfailed => ?_, Only.trans (hfoot.onlyIn _) ((State.settle_foot _).onlyIn _)⟩
  · rw [ha, hl]
    rfl
  · have hin : k ∈ l := by
      rw [hl, List.mem_filter, mem_mapList]
      exact ⟨⟨hk, hbit⟩, decide_eq_true hfailed⟩
    have hzero : (a.outAt k).state = 0 := by
      rw [ha]
      refine State.each_makes (P := fun t => (t.outAt k).state = 0) hin (fun t => ?_) (fun t j ht => ?_) s
      · exact (t.clearOne_outAt k _ k).trans (if_pos rfl)
      · refine (t.clearOne_outAt j _ k).trans ?_
        split
        · rfl
        · exact ht
    rcases (a.settle_settles k).state with h | ⟨-, h⟩
    · exact .inl (h.trans hzero)
    · exact .inr h

/-! ### The spillway's host cause -/

theorem State.polder_congr {s t : State} (h : t.polder = s.polder) (q : Nat) : t.polderAt q = s.polderAt q := by
  rw [State.polderAt, h]
  rfl

/-- BUDGET.SHED at its boundary (R302). -/
theorem State.budgetShedDone_spec (s : State) (mb m : Nat) : ∃ (x : State) (d : Bytes), s.budgetShedDone mb m = x.finish mb .ok d ∧
    (∀ q, q < 32 → m.testBit q = true → (x.polderAt q).causes.testBit 2 = true) ∧ Only [.out, .chan, .log, .polder, .budget] s x := by
  refine ⟨s.each (mapList 32 m) fun s q => s.addCause q 2, _, rfl, fun q hq hbit => ?_, ?_⟩
  · refine State.each_makes (P := fun t => (t.polderAt q).causes.testBit 2 = true) (mem_mapList.mpr ⟨hq, hbit⟩) (fun t => ?_)
      (fun t r ht => ?_) s
    · rw [(t.addCause_spec q 2).1, testBit_setBit, if_pos rfl]
    · by_cases hr : q = r
      · subst hr
        rw [(t.addCause_spec q 2).1, testBit_setBit, if_pos rfl]
      · rw [(t.addCause_spec r 2).2.2 q hr]
        exact ht
  · have hfoot : Foot 0xCD00 s (s.each (mapList 32 m) fun s q => s.addCause q 2) := .each .same fun _ _ h => (State.addCause_foot _ _ _).after h
    exact hfoot.onlyIn _

theorem State.record_polderAt (s : State) (cls event : Nat) (items : Bytes) (q : Nat) : (s.record cls event items).polderAt q = s.polderAt q := rfl

/-- A shed cause cleared, and the other polders as they are. -/
theorem State.clearCause_spec (s : State) (q b : Nat) : ((s.clearCause q b).polderAt q).causes = setBit (s.polderAt q).causes b false ∧
    ∀ r, r ≠ q → (s.clearCause q b).polderAt r = s.polderAt r := by
  obtain ⟨a, ha⟩ : ∃ a, a = (s.setPolder q fun x => { x with causes := setBit x.causes b false, okTides := 0 }).record 0x12 2
      [byte q, byte (2 ^ b), byte ((s.setPolder q fun x => { x with causes := setBit x.causes b false, okTides := 0 }).polderAt q).causes] := ⟨_, rfl⟩
  have hat : ∀ r, a.polderAt r = if r = q then { s.polderAt q with causes := setBit (s.polderAt q).causes b false, okTides := 0 } else s.polderAt r :=
    fun r => by
      rw [ha, State.record_polderAt, State.polderAt_setPolder]
  have heq : s.clearCause q b = if ((s.setPolder q fun x => { x with causes := setBit x.causes b false, okTides := 0 }).polderAt q).causes = 0
      then a.restorePolder q else a := by
    rw [ha]
    rfl
  have hrestore : ∀ r, (a.restorePolder q).polderAt r = if r = q then { a.polderAt q with shedTaken := false } else a.polderAt r := fun r => by
    unfold State.restorePolder
    rw [State.polder_congr ((State.unshedOuts_foot _).keeps .polder), State.polder_congr ((State.driveShedPins_foot _).keeps .polder)]
    exact State.polderAt_setPolder a q _ r
  rw [heq]
  split
  · refine ⟨?_, fun r hr => ?_⟩
    · rw [hrestore, if_pos rfl, hat, if_pos rfl]
    · rw [hrestore, if_neg hr, hat, if_neg hr]
  · refine ⟨?_, fun r hr => ?_⟩
    · rw [hat, if_pos rfl]
    · rw [hat, if_neg hr]

/-- BUDGET.RESTORE at its boundary (R302). -/
theorem State.budgetRestoreDone_spec (s : State) (mb m : Nat) : ∃ (x : State) (d : Bytes), s.budgetRestoreDone mb m = x.finish mb .ok d ∧
    (∀ q, q < 32 → m.testBit q = true → (x.polderAt q).causes.testBit 2 = false) ∧ Only [.out, .log, .polder, .budget] s x := by
  obtain ⟨l, hl⟩ : ∃ l, l = (mapList 32 m).filter fun q => bit (s.polderAt q).causes 2 := ⟨_, rfl⟩
  have hclear : ∀ (t : State) (q : Nat), ((t.clearCause q 2).polderAt q).causes.testBit 2 = false := fun t q => by
    rw [(t.clearCause_spec q 2).1, testBit_setBit, if_pos rfl]
  have hkeep : ∀ (q : Nat) (t : State) (r : Nat), (t.polderAt q).causes.testBit 2 = false → ((t.clearCause r 2).polderAt q).causes.testBit 2 = false :=
    fun q t r ht => by
      by_cases hr : q = r
      · rw [hr]
        exact hclear t r
      · rw [(t.clearCause_spec r 2).2 q hr]
        exact ht
  refine ⟨s.each l fun s q => s.clearCause q 2, _, by rw [hl]; rfl, fun q hq hbit => ?_, ?_⟩
  · cases hcause : (s.polderAt q).causes.testBit 2
    · exact State.each_holds (P := fun t => (t.polderAt q).causes.testBit 2 = false) (f := fun s q => s.clearCause q 2) (hkeep q) l hcause
    · refine State.each_makes (P := fun t => (t.polderAt q).causes.testBit 2 = false) (f := fun s q => s.clearCause q 2) ?_ (fun t => hclear t q)
        (hkeep q) s
      rw [hl, List.mem_filter, mem_mapList]
      exact ⟨⟨hq, hbit⟩, hcause⟩
  · have hfoot : Foot 0xC900 s (s.each l fun s q => s.clearCause q 2) := .each .same fun _ _ h => (State.clearCause_foot _ _ _).after h
    exact hfoot.onlyIn _

/-! ### Rectifiers -/

/-- One change of every rectifier of a map. -/
theorem State.each_rects (s : State) (m : Nat) (f : Rect → Rect) : (∀ k, k < 40 →
      (s.each (mapList 40 m) fun s k => s.setRect k f).rectAt k = if m.testBit k then f (s.rectAt k) else s.rectAt k) ∧
    Only [.rect] s (s.each (mapList 40 m) fun s k => s.setRect k f) := by
  refine ⟨fun k hk => ?_, ?_⟩
  · rw [(State.each_items State.rectAt (fun s k => s.setRect k f) (fun _ => True) (fun _ => f)
      (fun t n _ => ⟨trivial, fun j => State.rectAt_setRect t n f j⟩) (mapList 40 m) (nodup_mapList 40 m) (s := s) trivial).2 k]
    simp only [mem_mapList, hk, true_and]
  · have hfoot : Foot 0x10000 s (s.each (mapList 40 m) fun s k => s.setRect k f) := .each .same fun _ _ h => (State.setRect_foot _ _ _).after h
    exact hfoot.onlyIn _

/-! ### Time, proposals and the gauge -/

/-- TIME.SET at its boundary (R525). -/
theorem State.timeSetDone_spec (s : State) (mb ns : Nat) : ∃ x : State, s.timeSetDone mb ns = x.finish mb .ok [] ∧
    x.retained = { s.retained with rtcNs := ns } ∧ (s.retained.rtcNs ≤ ns → x.log = s.log) ∧
    (ns < s.retained.rtcNs → x.log.offers.length = s.log.offers.length + 1) ∧ Only [.retained, .log, .power, .gauge] s x := by
  unfold State.timeSetDone
  dsimp only
  refine ⟨_, rfl, ?_, fun hle => ?_, fun hlt => ?_, Only.trans (t := if ns < s.retained.rtcNs then _ else s) ?_ ((State.setRtc_foot _ _).onlyIn _)⟩
  · split <;> rfl
  · rw [if_neg (Nat.not_lt.mpr hle)]
    rfl
  · rw [if_pos hlt]
    exact List.length_append
  · split
    · exact (State.record_foot _ _ _ _).onlyIn _
    · exact Only.refl _ s

/-- Is the epoch the same in two states? -/
def State.SameEpoch (s t : State) : Prop := t.clocks.epoch = s.clocks.epoch

namespace State.SameEpoch

theorem refl (s : State) : s.SameEpoch s := rfl

theorem foot {s t u : State} {m : Nat} (h : s.SameEpoch t) (hf : Foot m t u) (hclocks : Part.clocks.holds m = false := by rfl) : s.SameEpoch u :=
  (congrArg Clocks.epoch (hf.keeps .clocks hclocks : u.clocks = t.clocks)).trans h

theorem each {s t : State} (h : s.SameEpoch t) (l : List Nat) {m : Nat} {f : State → Nat → State} (hf : ∀ x k, Foot m x (f x k))
    (hclocks : Part.clocks.holds m = false := by rfl) : s.SameEpoch (t.each l f) :=
  State.each_holds (P := s.SameEpoch) (fun x k hx => hx.foot (hf x k) hclocks) l h

/-- A change of the description leaves the epoch. -/
theorem changeDescription (s : State) (new : Tab (Option Int)) (staged : Nat → Bool) : s.SameEpoch (s.changeDescription new staged) := by
  unfold State.changeDescription
  dsimp only
  refine State.SameEpoch.foot ?_ (State.settle_foot _)
  have hstart : s.SameEpoch ((s.withDescription new).copyAlwaysOn staged) :=
    ((refl s).foot (State.withDescription_foot _ _)).foot (State.copyAlwaysOn_foot _ _)
  have hdomains : s.SameEpoch (if ((changedKeys s.desc.committed new).any fun k => effectOf k = .g) = true then
      ((s.withDescription new).copyAlwaysOn staged).powerDomains ((s.withDescription new).copyAlwaysOn staged).activeDomains
      else (s.withDescription new).copyAlwaysOn staged) := by
    split
    · exact hstart.foot (State.powerDomains_foot _ _)
    · exact hstart
  generalize (if ((changedKeys s.desc.committed new).any fun k => effectOf k = .g) = true then
      ((s.withDescription new).copyAlwaysOn staged).powerDomains ((s.withDescription new).copyAlwaysOn staged).activeDomains
      else (s.withDescription new).copyAlwaysOn staged) = a at hdomains ⊢
  obtain ⟨b, hb⟩ : ∃ b : State, b = { a with clocks := { a.clocks with clkout := decide (a.shelfClkoutEnable = 1) } } := ⟨_, rfl⟩
  have hclkout : s.SameEpoch b := by
    rw [hb]
    exact hdomains
  rw [← hb]
  have hall := ((((((hclkout.foot (State.objectsLeave_foot b s.desc.committed new)).foot (State.assignConvs_foot _)).each
    ((upto 128).filter fun ch => (changedKeys s.desc.committed new).contains (fieldKey 1 ch 0x03) ||
      (changedKeys s.desc.committed new).contains (fieldKey 1 ch 0x04)) State.reseed_foot).each
    ((s.withDescription new).describedOuts.filter fun k => !s.describedOuts.contains k) State.enableOut_foot).each
    (s.describedOuts.filter fun k => !(s.withDescription new).describedOuts.contains k) State.disableOut_foot).each
    ((s.withDescription new).describedOuts ++ s.describedOuts.filter fun k => !(s.withDescription new).describedOuts.contains k)
    (f := fun x k => x.outChanged (changedKeys s.desc.committed new) k) fun x k => x.outChanged_foot _ k)
  split
  · exact hall
  · exact hall.foot (State.recapture_foot _ _)

end State.SameEpoch

/-- A proposal applied by the host (R232). -/
theorem State.applyProposal_spec (s : State) (k how : Nat) : ((s.applyProposal k how).outAt k).ident.applied = how ∧
    ((s.applyProposal k how).outAt k).ident.applyDue = 0 ∧ s.SameEpoch (s.applyProposal k how) := by
  unfold State.applyProposal
  dsimp only
  have hepoch := State.SameEpoch.changeDescription s (applyEntries s.desc.committed (s.proposalFields k)) fun _ => false
  generalize (s.changeDescription (applyEntries s.desc.committed (s.proposalFields k)) fun _ => false) = a at hepoch ⊢
  rw [State.record_outAt, State.outAt_setOut, if_pos rfl]
  exact ⟨rfl, rfl, (hepoch.foot (State.setOut_foot _ _ _)).foot (State.record_foot _ _ _ _)⟩

theorem State.wakeGauge_hib (s : State) (rtc late : Nat) : (s.wakeGauge rtc late).gauge.hib = false := by
  cases h : s.gauge.hib
  · rw [State.wakeGauge_awake h]
    exact h
  · exact (State.wakeGauge_spec rtc late h).1

/-! ### The orders of a boundary -/

/-- An order whose mode no longer serves it (R504). -/
theorem State.boundaryOrder_unserved {s : State} {w : Waiting} {r : OrderRow} (hrow : orderRow (s.request w.mailbox).order = some r)
    (hserved : r.served s = false) (hwhat : w.what ≠ .commitBoundary) : s.boundaryOrder w = s.finish w.mailbox .wrongMode [] := by
  unfold State.boundaryOrder
  rw [hrow]
  refine if_neg ?_
  rw [hserved, decide_eq_false hwhat]
  exact Bool.false_ne_true

theorem State.chanStarted_locked {s : State} {m k : Nat} (hk : k < 128) (hbit : m.testBit k = true) (hlocked : (s.outAt k).state = 6) (mb : Nat) :
    s.chanStarted mb m = s.finish mb .locked [] :=
  if_pos (List.any_eq_true.mpr ⟨k, mem_mapList.mpr ⟨hk, hbit⟩, decide_eq_true hlocked⟩)

/-- CHAN.START at its boundary (R267). -/
theorem State.chanStarted_spec {s : State} {m : Nat} (hpress : s.power.longPress = false)
    (hlocked : ∀ k, k < 128 → m.testBit k = true → (s.outAt k).state ≠ 6) (mb : Nat) : ∃ (x : State) (held : Nat),
    s.chanStarted mb m = x.finish mb .ok (leBytes 16 held) ∧
    (∀ k, held.testBit k = (decide (k < 128) && m.testBit k && decide ((s.outAt k).state = 4))) ∧
    (∀ k, k < 128 → (x.outAt k).wanted = (m.testBit k || (s.outAt k).wanted)) ∧ Only [.out] s x := by
  have hnone : ¬((mapList 128 m).any fun k => decide ((s.outAt k).state = 6)) = true := by
    rw [List.any_eq_true]
    rintro ⟨k, hk, h⟩
    obtain ⟨hlt, hbit⟩ := mem_mapList.mp hk
    exact hlocked k hlt hbit (of_decide_eq_true h)
  have hfoot : Foot 0x800 s (s.each (mapList 128 m) State.want) := .each .same fun _ _ h => (State.want_foot _ _).after h
  refine ⟨(s.each (mapList 128 m) State.want).settle, _, if_neg hnone, testBit_listMap_filter 128 m _, fun k hk => ?_,
    Only.trans (hfoot.onlyIn _) ((State.settle_foot _).onlyIn _)⟩
  rw [(State.settle_settles _ k).wanted, State.each_want hpress (nodup_mapList 128 m)]
  simp only [mem_mapList, hk, true_and]
  cases m.testBit k <;> rfl

/-- RECT.WITHDRAW at its boundary (R319). -/
theorem State.rectWithdrawDone_spec {s : State} {m : Nat} (hmay : s.withdrawable m = true) (mb : Nat) : ∃ (x : State) (d : Bytes),
    s.rectWithdrawDone mb m 0 = x.finish mb .ok d ∧
    (∀ k, k < 40 → x.rectAt k = if m.testBit k then { s.rectAt k with withdrawn := true, state := 6, opDue := some 0x00 } else s.rectAt k) ∧
    Only [.rect] s x := by
  obtain ⟨hrects, honly⟩ := s.each_rects m fun r => { r with withdrawn := true, state := 6, opDue := some 0x00 }
  unfold State.rectWithdrawDone
  rw [if_neg fun h => by rw [hmay] at h; cases h.2]
  exact ⟨_, _, rfl, hrects, honly⟩

/-- CHAN.APPLY at its boundary: the proposal still stands and needs no announcement (R232). -/
theorem State.chanApplyDone_applies {s : State} {k : Nat} (happlied : (s.outAt k).ident.applied ≠ 3) (hdue : (s.outAt k).ident.applyDue = 1)
    (hannounced : s.announcesFirst k = false) (mb : Nat) : s.chanApplyDone mb k = (s.applyProposal k 1).finish mb .ok (leBytes 4 s.clocks.epoch) := by
  have hepoch : (s.applyProposal k 1).clocks.epoch = s.clocks.epoch := (s.applyProposal_spec k 1).2.2
  unfold State.chanApplyDone
  rw [if_neg happlied, if_pos hdue, if_neg (by rw [hannounced]; exact Bool.false_ne_true), ← hepoch]

/-- CHAN.APPLY at the boundary that announces the proposal (R232). -/
theorem State.chanApplyDone_announces {s : State} {k : Nat} (happlied : (s.outAt k).ident.applied ≠ 3) (hdue : (s.outAt k).ident.applyDue = 1)
    (hannounced : s.announcesFirst k = true) (mb : Nat) : ((s.chanApplyDone mb k).outAt k).ident.announced = true ∧
    (s.chanApplyDone mb k).desc = s.desc ∧ (s.chanApplyDone mb k).host = s.host ∧ Only [.out, .waiting] s (s.chanApplyDone mb k) := by
  obtain ⟨f, hf⟩ : ∃ f : Waiting → Waiting, s.chanApplyDone mb k = { s.announce k with waiting := (s.announce k).waiting.map f } := by
    unfold State.chanApplyDone
    rw [if_neg happlied, if_pos hdue, if_pos hannounced]
    exact ⟨_, rfl⟩
  have hout : ((s.announce k).outAt k).ident.announced = true := by
    unfold State.announce
    rw [State.outAt_setOut, if_pos rfl]
  rw [hf]
  exact ⟨hout, rfl, rfl, fun p hp => by cases p <;> first | rfl | exact absurd hp (by decide)⟩

end Sys2Proof.Machine

namespace Sys2Proof
open Machine

/-- Settles O48: the turn of the tide by whether the tide generator ran before, and each waiting order by what it does at its boundary. -/
theorem tideBoundaryTurnsAndOrdersAct : Obligations.TideBoundaryTurnsAndOrdersAct := by
  refine ⟨fun s raws ovr clk gap hot mdio => ⟨fun h => execTideBoundary_idle h .., fun hreleased hfirmware => ?_⟩, fun s mb ses =>
    ⟨fun w r hw hrow hserved what hwhat => ?_, fun ns => s.timeSetDone_spec mb ns, fun l hmode => ⟨_, if_pos hmode, rfl⟩,
      fun m hlocked => ?_, fun m hpress hlocked => State.chanStarted_spec hpress hlocked mb, fun m how => s.chanStopped_spec mb m how,
      fun m => s.chanCleared_spec mb m, fun m => s.budgetShedDone_spec mb m, fun m => s.budgetRestoreDone_spec mb m,
      fun m hmay => if_pos ⟨rfl, hmay⟩, fun m hmay => State.rectWithdrawDone_spec hmay mb, fun m => ?_,
      ⟨s.wakeGauge s.retained.rtcNs 0, rfl, s.wakeGauge_hib _ _, (s.wakeGauge_foot _ _).onlyIn _⟩, fun k happlied => if_pos happlied,
      fun k happlied hdue hannounced => ?_, fun k happlied hdue hannounced => ⟨_, rfl, State.chanApplyDone_announces happlied hdue hannounced mb⟩⟩⟩
  · obtain ⟨hruns, hepoch, hmode, hraised, hstrobe, htide, hpending, honly⟩ :=
      s.turnTide_every raws ovr clk gap (!s.clocks.running) mdio
    refine ⟨_, _, rfl, execTideBoundary_runs hreleased hfirmware raws ovr clk gap hot mdio, hruns, hepoch, fun hrunning => ?_, fun hstopped => ?_,
      hmode, hraised, hstrobe, htide, hpending, honly⟩
    · rw [hrunning]
      exact State.turnTide_running hrunning raws ovr clk gap mdio
    · rw [hstopped]
      exact State.turnTide_first hstopped raws ovr clk gap mdio
  · exact State.boundaryOrder_unserved (by rw [← hw]; exact hrow) hserved hwhat
  · obtain ⟨k, hk, hbit, hstate⟩ := hlocked
    exact State.chanStarted_locked hk hbit hstate mb
  · obtain ⟨hrects, honly⟩ := s.each_rects m fun r => { r with eff := [], samples := [], onlineS := 0, onlineTides := 0 }
    exact ⟨_, rfl, hrects, honly⟩
  · obtain ⟨happliedX, hdueX, -⟩ := s.applyProposal_spec k 1
    exact ⟨_, State.chanApplyDone_applies happlied hdue hannounced mb, happliedX, hdueX, (s.applyProposal_foot k 1).keeps .pending⟩

end Sys2Proof
end
